-- ==== Sys2Proof/Word.lean ====
section
/-!
DEFINITION. The words of the machine: bytes, the 32-bit words of cells and registers, 64-bit registers (R7, R9).
-/

namespace Sys2Proof

/-- One byte. -/
abbrev Byte := BitVec 8
/-- A 32-bit word: a cell register, a 32-bit register, an FP32 value's bits. -/
abbrev Word := BitVec 32
/-- A 64-bit register. -/
abbrev DWord := BitVec 64

end Sys2Proof
end

