-- ==== Sys2Proof/Syntax.lean ====
section
/-!
DEFINITION. The commands of the XK4160: one constructor per row of the table of operations and events, with the row's
operands.  A row that is a moment of the device's own clock carries no time; an edge or an arrival from outside carries
the time `t` (ns of the internal timebase, R39) at which it is detected.
-/

namespace Sys2Proof

/-- A cell by its physical place (R21). -/
structure CellId where
  die : Fin 4
  block : Fin 64
  cluster : Fin 64
  cell : Fin 64
  deriving DecidableEq, Repr

/-- R21: the 20-bit global ID. -/
def CellId.gid (c : CellId) : Nat := c.die.val * 2 ^ 18 + c.block.val * 2 ^ 12 + c.cluster.val * 2 ^ 6 + c.cell.val

/-- A cell register w0 to w31 (R169). -/
abbrev Reg := Fin 32
/-- A register pair w(2k), w(2k+1) (R169). -/
abbrev Pair := Fin 16

/-- A stream by its die and local stream ID (R128). -/
structure StreamId where
  die : Fin 4
  sid : Fin 16808
  deriving DecidableEq, Repr

/-- The message a mailbox command answers: its H-seq and COOKIE (R515). -/
structure MsgRef where
  hseq : Nat
  cookie : Nat
  deriving DecidableEq, Repr

/-- A producer that waits for a pool buffer (R150): a stream or a cell in BALLOC. -/
inductive Producer where
  | stream (s : StreamId)
  | cell (c : CellId)
  deriving DecidableEq, Repr

/-- Where a fault lies, by containment domain (R543): a cell, a cluster, a station, a block, a die, the package, or memory. -/
inductive FaultPlace where
  | cell (c : CellId)
  | cluster (d : Fin 4) (p : Fin 4096)
  | station (d : Fin 4) (kind : Fin 8) (k : Fin 64)
  | block (d : Fin 4) (b : Fin 64)
  | die (d : Fin 4)
  | package
  | memory (addr : Nat)
  /-- The shared logic of an X-die: false X0, true X1. -/
  | xdie (x1 : Bool)
  | port (p : Fin 8)
  deriving DecidableEq, Repr

/-- A fault as a detector enters it (R547): code, severity (R542), place, the task that met it, details. -/
structure FaultDesc where
  code : Nat
  severity : Nat
  place : FaultPlace
  tag : Nat
  byGroomer : Bool
  arg0 : Nat
  deriving DecidableEq, Repr

/-- A link message (R442): MTYPE, SRC, DST, HOPS, PSEQ, the 20 bytes of FIELDS, the payload. -/
structure LinkMsg where
  mtype : Nat
  src : Nat
  dst : Nat
  hops : Nat
  pseq : Nat
  fields : List Byte
  payload : List Byte
  deriving DecidableEq, Repr

/-- A switch vote (R453): member, group step of SWITCH_STEP, PLAN_ID, SHARD digest. -/
structure SwitchVoteData where
  member : Nat
  step : Nat
  plan : Nat
  digest : List Byte
  deriving DecidableEq, Repr

/-- A RoCEv2 request packet as received (R467): destination QPN, kind (0 First, 1 Middle, 2 Last, 3 Only, above: a request of an
unsupported kind), PSN, RETH fields of a First or Only WRITE, payload, whether its ICRC checks, whether it is marked ECN-CE. -/
structure RocePkt where
  port : Fin 8
  qpn : Nat
  kind : Nat
  psn : Nat
  va : Nat
  rkey : Nat
  len : Nat
  data : List Byte
  icrc : Bool
  ce : Bool
  deriving DecidableEq, Repr

/-- A UDP datagram as received (R468): port, IPv6, addresses (IPv4 in the low 4 bytes), UDP ports, payload, whether it is whole and its
checksums hold, the time of its first byte, the bytes of its Ethernet frame. -/
structure Datagram where
  port : Fin 8
  ipv6 : Bool
  dstIp : Nat
  dstPort : Nat
  srcIp : Nat
  srcPort : Nat
  payload : List Byte
  ok : Bool
  time : Nat
  frame : Nat
  deriving DecidableEq, Repr

/-- A PTP message as received (R469): sequence number, its time stamp by the master, correction in ns, reception time on the
timebase, whether a Sync is two-step. -/
structure PtpMsg where
  seq : Nat
  stamp : Nat
  corr : Int
  time : Nat
  twoStep : Bool
  deriving DecidableEq, Repr

/-- What the Groomer reads (R489): a granule at a device physical address, an SRAM word outside every window by its index in the die's patrol
order (die 4: X0), a Match entry. -/
inductive PatrolTarget where
  | memory (addr : Nat)
  | sram (die : Fin 5) (index : Nat)
  | matchEntry (d : Fin 4) (bank : Fin 64) (entry : Fin 4096)
  /-- A granule of the reserved area of a DDR5 channel, the plan library included: no address maps it (R480, R489). -/
  | reserved (ch : Fin 16) (index : Nat)
  /-- The SRAM of X0 that holds a slot of the event recorder (R554). -/
  | recorder (slot : Fin 4096)
  deriving DecidableEq, Repr

/-- Where a patrolled granule stands: the last of its tier, the last of the burst of a Night (R51, R490); or it is not the patrol that meets
it but an access of a stream, a cell, a station, a commit or BAR4 (R487). -/
structure PatrolEnd where
  pass : Bool
  burst : Bool
  access : Bool := false
  deriving DecidableEq, Repr

/-- A host action on Match (R331): the die, and which of the entries it copies or reads are found uncorrectable, a bit for each record (R334). -/
structure MatchAction where
  die : Fin 4
  ecc : BitVec 2
  deriving DecidableEq, Repr

/-- A read of BAR0 (R9): its offset and its width in bits. -/
structure BarRead where
  off : Nat
  width : Nat
  deriving DecidableEq, Repr

/-- An access of BAR2 (R509): a read, or a write of a value. -/
inductive Bar2Access where
  | read
  | write (value : DWord)
  deriving DecidableEq, Repr

/-- A dword of configuration space that the host reads: of the header (R505), or Device Control (R504). -/
inductive ConfigDword where
  | header (i : Fin 16)
  | deviceControl
  deriving DecidableEq, Repr

/-- What the host sets in configuration space of the requests that the device sends (R504, R527): Bus Master Enable, the payload and the read
request sizes as 128 times a power of two, Relaxed Ordering, No Snoop; and a dword that it reads back after the write. -/
structure ConfigControl where
  busMaster : Bool
  maxPayload : Fin 8
  maxRead : Fin 8
  relaxed : Bool
  noSnoop : Bool
  look : Option ConfigDword
  deriving DecidableEq, Repr

/-- A failure of a VDD_Cd regulator (R614): it has acknowledged none of three attempts, or its rail is not at its set point. -/
structure VrFailure where
  die : Fin 4
  noAck : Bool
  deriving DecidableEq, Repr

/-- What a private TAP instruction of the OWNER level does (R595): halts or steps a cell, a cluster or a station, or reads it. -/
inductive TapAction where
  | halt (place : FaultPlace)
  | step (place : FaultPlace)
  | read (place : FaultPlace)
  deriving DecidableEq, Repr

/-- The commands. -/
inductive Instr where
  /-- REGISTER_WRITE A host write to a register that has no row of its own updates its fields according to their access codes. (R10) -/
  | registerWrite (off : Nat) (width : Nat) (value : DWord)
  /-- REG64_LOW_HALF_READ A read of the low half of a 64-bit register captures the high half for the next read of the high half. (R13) -/
  | reg64LowHalfRead (r : BarRead)
  /-- REG64_LOW_HALF_WRITE A write of the low half of a 64-bit register is held until the high half is written. (R13) -/
  | reg64LowHalfWrite (off : Nat) (v : Word)
  /-- REG64_HIGH_HALF_WRITE A write of the high half commits both halves together, or acts alone when no low half is held. (R13) -/
  | reg64HighHalfWrite (off : Nat) (v : Word)
  /-- LAST_ERROR_CLEAR Writing CLEAR = 1 to a LAST_ERROR register sets CODE and COUNT to 0. (R18) -/
  | lastErrorClear (off : Nat)
  /-- FABRIC_LINK_DOWN A package-fabric link that stays down for 1 ms is detected and contains the package. (R24) -/
  | fabricLinkDown (link : Nat)
  /-- CAD_PIN_EDGE A rising edge of CAD_P minus CAD_N is time-stamped as a cadence mark from PIN. (R37) -/
  | cadPinEdge (t : Nat)
  /-- CAD_FREE_MARK The internal generator issues a mark every CAD_FREE_PERIOD.PERIOD_NS while FREE is in use. (R37) -/
  | cadFreeMark
  /-- CAD_HOST_MARK A host write of 1 to CAD_HOST_MARK.MARK gives a HOST mark, or is refused with ERR_STATE when HOST would not be in use. (R42) -/
  | cadHostMark (t : Nat)
  /-- CAD_CTRL_WRITE A write to CAD_CTRL selects the cadence source at once, refused with ERR_NOT_ENABLED for LINK on an Ethernet port. (R42) -/
  | cadCtrlWrite (v : Word)
  /-- ACCEPTED_MARK 64 fabric cycles after detection, STEP_NUM increments and PHASE returns to 0 on all six dies. (R40) -/
  | acceptedMark
  /-- SOURCE_LOST A source with no accepted mark within 4 × PRED_NS is declared lost and a generator mark is issued at once. (R41) -/
  | sourceLost
  /-- LOSS_GENERATOR_MARK While a source is lost the generator issues a mark every PRED_NS. (R41) -/
  | lossGeneratorMark
  /-- PHASE_SATURATE When elapsed_ns reaches PRED_NS, PHASE holds at 65,535 and SATURATED is set. (R49) -/
  | phaseSaturate
  /-- SEGMENT_BOUNDARY PHASE reaches B1, B2 or B3 and a new segment of the step begins. (R48) -/
  | segmentBoundary
  /-- CAL_CTRL_WRITE A write to CAL_CTRL selects the calendar source and clears VALID until it is valid, refused for PTP on an unsuitable port. (R53) -/
  | calCtrlWrite (v : Word)
  /-- CAL_EPOCH_SEC_WRITE A write of CAL_EPOCH_SEC arms the next PPS_IN edge with a TAI second. (R54) -/
  | calEpochSecWrite (v : DWord)
  /-- PPS_EDGE A PPS_IN edge sets CAL_TIME to a whole second when armed and disciplines the rate. (R54) -/
  | ppsEdge (t : Nat)
  /-- PPS_HOLDOVER No PPS_IN edge for 1.5 s sets CAL_STATUS.HOLDOVER. (R55) -/
  | ppsHoldover
  /-- PLAN_STORE Copies an image into a library entry and performs validation checks 1 to 8. (R72) -/
  | planStore (m : MsgRef) (lib src len : Nat)
  /-- PLAN_STORE_DONE The store completes within its time bound and the response is written. (R75) -/
  | planStoreDone
  /-- PLAN_LOAD Checks a stored image again under checks 5 and 9 to 13 and copies each die's part into its shadow slot. (R72) -/
  | planLoad (m : MsgRef) (lib : Nat)
  /-- PLAN_LOAD_DONE The copy into the shadow slots completes, the slot becomes LOADED and the response carries PLAN_REPLACED. (R75) -/
  | planLoadDone
  /-- PLAN_ARM Arms the switch of the shadow plan at a switch step and phase, rerunning check 12 if the fault map changed. (R84) -/
  | planArm (m : MsgRef) (step pu : Nat)
  /-- PLAN_DISARM Returns an armed shadow slot to LOADED. (R72) -/
  | planDisarm (m : MsgRef)
  /-- PLAN_EVICT Empties a library entry not held in a slot. (R72) -/
  | planEvict (m : MsgRef) (lib : Nat)
  /-- SWITCH_POINT PHASE reaches the switch point in SWITCH_STEP and the switch procedure begins. (R85) -/
  | switchPoint
  /-- SWITCH_START Once every task and Night action of the outgoing plan has finished, the shadow becomes SWITCHING and the switch schedule runs. (R85) -/
  | switchStart
  /-- SWITCH_COMPLETE The switch completes, PLAN_SWITCH_COUNT and the plan ID registers update, and an event record is written. (R88) -/
  | switchComplete
  /-- STREAM_ARM A host write to STREAM_ARM binds a task tag and parameters to a stream, allocating a tag if 0. (R130) -/
  | streamArm (d : Fin 4) (v : DWord)
  /-- TASK_ALLOC_RESUME An allocation waiting for a free table entry or a retiring SEQ proceeds. (R153) -/
  | taskAllocResume
  /-- NOP Piste instruction that does nothing. (R132) -/
  | nop (s : StreamId)
  /-- SETA Piste instruction setting an address register to a region base plus offset. (R132) -/
  | seta (s : StreamId) (a : Fin 4) (region : BitVec 16) (off : BitVec 40)
  /-- ADDA Piste instruction adding an immediate to an address register. (R132) -/
  | adda (s : StreamId) (a : Fin 4) (imm : BitVec 48)
  /-- ADDP Piste instruction adding a scaled parameter to an address register. (R132) -/
  | addp (s : StreamId) (a : Fin 4) (k : Fin 8) (scale : BitVec 16)
  /-- LOOP Piste instruction loading a loop counter. (R132) -/
  | loop (s : StreamId) (k : Fin 8) (count : Word)
  /-- ENDL Piste instruction decrementing a loop counter and branching while nonzero. (R132) -/
  | endl (s : StreamId) (k : Fin 8) (target : Fin 32)
  /-- XFER Piste instruction moving bytes between memory and the buffer cursor. (R132) -/
  | xfer (s : StreamId) (a : Fin 4) (postinc : Bool) (bytes : Word)
  /-- XSTR Piste instruction moving a strided series of pieces. (R132) -/
  | xstr (s : StreamId) (a : Fin 4) (postinc : Bool) (piece : BitVec 12) (count : BitVec 16) (stride : BitVec 24)
  /-- EMIT Piste instruction closing the open buffer and pushing its handle, or releasing a drained buffer. (R132) -/
  | emit (s : StreamId) (last : Bool)
  /-- DUE Piste instruction setting the deadline of the next buffers. (R132) -/
  | due (s : StreamId) (due pace : BitVec 16)
  /-- END Piste instruction closing any open buffer and ending the stream. (R132) -/
  | endStream (s : StreamId)
  /-- TRANSFER_RETIRE A transfer's data are delivered or accepted and it stops being outstanding; the stream becomes DONE when the last retires. (R140) -/
  | transferRetire (s : StreamId)
  /-- TASK_COMMIT An ended task commits its staged writes once every earlier task of its stage has committed or aborted. (R157) -/
  | taskCommit (tag : Nat) (bad : List Nat)
  /-- HANDLE_ARRIVE A pushed handle reaches its Lift and is enqueued, or discarded if its task is aborted. (R152) -/
  | handleArrive (d : Fin 4) (lift : Fin 4096) (i : Nat)
  /-- LIFT_FULL_RESUME A producer waiting on a full Lift pushes once room appears. (R150) -/
  | liftFullResume (d : Fin 4) (lift : Fin 4096)
  /-- POOL_WAIT_RESUME A producer waiting on an empty pool takes a buffer once one returns. (R150) -/
  | poolWaitResume (w : Producer)
  /-- BUFFER_RELEASE_ARRIVE A released buffer reaches its pool and becomes available. (R152) -/
  | bufferReleaseArrive (d : Fin 4) (pool : Fin 1024) (i : Nat)
  /-- STAGE_START PHASE reaches a stage's START_PU and its prologue begins. (R155) -/
  | stageStart (d : Fin 4) (st : Fin 64)
  /-- STAGE_HANDOVER PHASE reaches HANDOVER_PU and the NEXT stage's prologue begins. (R155) -/
  | stageHandover (d : Fin 4) (st : Fin 64)
  /-- STAGE_COMMIT_PU PHASE reaches a stage's COMMIT_PU in the deadline step. (R156) -/
  | stageCommitPu (d : Fin 4) (st : Fin 64)
  /-- ABORT_REQUEST_RECEIVE The home die receives an abort request, marks the task ABORTED and sends the abort order to all dies. (R161) -/
  | abortRequestReceive (tag : Nat)
  /-- ABORT_ORDER_RECEIVE A die removes the task's handles, ends its streams and discards its staging. (R161) -/
  | abortOrderReceive (d : Fin 4) (tag : Nat)
  /-- ABORT_REPORT TASK_STATUS shows ABORTED, and the asynchronous message and event record are written. (R161) -/
  | abortReport (tag : Nat)
  /-- TASK_SUBMIT Mailbox command that allocates a tag and arms a TASK_HEAD stream. (R162) -/
  | taskSubmit (m : MsgRef) (die stage stream : Nat) (params : List Word)
  /-- TASK_ABORT Mailbox command that aborts a task with ERR_TASK_ABORTED. (R162) -/
  | taskAbort (m : MsgRef) (tag : Nat)
  /-- TASK_QUERY Mailbox command returning a task's state, code, references and staging. (R162) -/
  | taskQuery (m : MsgRef) (tag : Nat)
  /-- STALL_CLEAR Writing STALL_CTRL.CLEAR = 1 zeroes every stall counter of the die. (R167) -/
  | stallClear (d : Fin 4)
  /-- ADD Kalxel integer add. (R179) -/
  | add (c : CellId) (rd rs1 rs2 : Reg)
  /-- SUB Kalxel integer subtract. (R179) -/
  | sub (c : CellId) (rd rs1 rs2 : Reg)
  /-- AND Kalxel bitwise and. (R179) -/
  | and (c : CellId) (rd rs1 rs2 : Reg)
  /-- OR Kalxel bitwise or. (R179) -/
  | or (c : CellId) (rd rs1 rs2 : Reg)
  /-- XOR Kalxel bitwise exclusive or. (R179) -/
  | xor (c : CellId) (rd rs1 rs2 : Reg)
  /-- SLL Kalxel shift left logical. (R179) -/
  | sll (c : CellId) (rd rs1 rs2 : Reg)
  /-- SRL Kalxel shift right logical. (R179) -/
  | srl (c : CellId) (rd rs1 rs2 : Reg)
  /-- SRA Kalxel shift right arithmetic. (R179) -/
  | sra (c : CellId) (rd rs1 rs2 : Reg)
  /-- SLT Kalxel signed set-less-than. (R179) -/
  | slt (c : CellId) (rd rs1 rs2 : Reg)
  /-- SLTU Kalxel unsigned set-less-than. (R179) -/
  | sltu (c : CellId) (rd rs1 rs2 : Reg)
  /-- MIN Kalxel signed minimum. (R179) -/
  | min (c : CellId) (rd rs1 rs2 : Reg)
  /-- MAX Kalxel signed maximum. (R179) -/
  | max (c : CellId) (rd rs1 rs2 : Reg)
  /-- MINU Kalxel unsigned minimum. (R179) -/
  | minu (c : CellId) (rd rs1 rs2 : Reg)
  /-- MAXU Kalxel unsigned maximum. (R179) -/
  | maxu (c : CellId) (rd rs1 rs2 : Reg)
  /-- MUL Kalxel multiply, low 32 bits. (R180) -/
  | mul (c : CellId) (rd rs1 rs2 : Reg)
  /-- MULH Kalxel signed multiply, high 32 bits. (R180) -/
  | mulh (c : CellId) (rd rs1 rs2 : Reg)
  /-- MULHU Kalxel unsigned multiply, high 32 bits. (R180) -/
  | mulhu (c : CellId) (rd rs1 rs2 : Reg)
  /-- DIV Kalxel signed divide, truncating. (R180) -/
  | div (c : CellId) (rd rs1 rs2 : Reg)
  /-- DIVU Kalxel unsigned divide. (R180) -/
  | divu (c : CellId) (rd rs1 rs2 : Reg)
  /-- REM Kalxel signed remainder. (R180) -/
  | rem (c : CellId) (rd rs1 rs2 : Reg)
  /-- REMU Kalxel unsigned remainder. (R180) -/
  | remu (c : CellId) (rd rs1 rs2 : Reg)
  /-- CLZ Kalxel count leading zeros. (R179) -/
  | clz (c : CellId) (rd rs1 : Reg)
  /-- POPC Kalxel population count. (R179) -/
  | popc (c : CellId) (rd rs1 : Reg)
  /-- ADDI Kalxel add immediate. (R179) -/
  | addi (c : CellId) (rd rs1 : Reg) (imm : BitVec 16)
  /-- ANDI Kalxel and with zero-extended immediate. (R179) -/
  | andi (c : CellId) (rd rs1 : Reg) (imm : BitVec 16)
  /-- ORI Kalxel or with zero-extended immediate. (R179) -/
  | ori (c : CellId) (rd rs1 : Reg) (imm : BitVec 16)
  /-- XORI Kalxel xor with zero-extended immediate. (R179) -/
  | xori (c : CellId) (rd rs1 : Reg) (imm : BitVec 16)
  /-- SLLI Kalxel shift left by immediate. (R179) -/
  | slli (c : CellId) (rd rs1 : Reg) (sh : BitVec 5)
  /-- SRLI Kalxel logical shift right by immediate. (R179) -/
  | srli (c : CellId) (rd rs1 : Reg) (sh : BitVec 5)
  /-- SRAI Kalxel arithmetic shift right by immediate. (R179) -/
  | srai (c : CellId) (rd rs1 : Reg) (sh : BitVec 5)
  /-- SLTI Kalxel signed compare with immediate. (R179) -/
  | slti (c : CellId) (rd rs1 : Reg) (imm : BitVec 16)
  /-- SLTIU Kalxel unsigned compare with immediate. (R179) -/
  | sltiu (c : CellId) (rd rs1 : Reg) (imm : BitVec 16)
  /-- LUI Kalxel load upper immediate. (R179) -/
  | lui (c : CellId) (rd : Reg) (imm : BitVec 21)
  /-- LW Kalxel load word from the private or cluster store. (R179) -/
  | lw (c : CellId) (rd rs1 : Reg) (imm : BitVec 16)
  /-- LH Kalxel load signed halfword. (R179) -/
  | lh (c : CellId) (rd rs1 : Reg) (imm : BitVec 16)
  /-- LHU Kalxel load unsigned halfword. (R179) -/
  | lhu (c : CellId) (rd rs1 : Reg) (imm : BitVec 16)
  /-- LB Kalxel load signed byte. (R179) -/
  | lb (c : CellId) (rd rs1 : Reg) (imm : BitVec 16)
  /-- LBU Kalxel load unsigned byte. (R179) -/
  | lbu (c : CellId) (rd rs1 : Reg) (imm : BitVec 16)
  /-- SW Kalxel store word after the residue checks pass. (R179) -/
  | sw (c : CellId) (rs2 rs1 : Reg) (imm : BitVec 16)
  /-- SH Kalxel store halfword. (R179) -/
  | sh (c : CellId) (rs2 rs1 : Reg) (imm : BitVec 16)
  /-- SB Kalxel store byte. (R179) -/
  | sb (c : CellId) (rs2 rs1 : Reg) (imm : BitVec 16)
  /-- AMOADD Kalxel atomic add on a cluster-store word. (R179) -/
  | amoadd (c : CellId) (rd rs1 rs2 : Reg)
  /-- AMOSWAP Kalxel atomic swap. (R179) -/
  | amoswap (c : CellId) (rd rs1 rs2 : Reg)
  /-- AMOCAS Kalxel atomic compare-and-swap. (R179) -/
  | amocas (c : CellId) (rd rs1 rs2 : Reg)
  /-- AMOMIN Kalxel atomic signed minimum. (R179) -/
  | amomin (c : CellId) (rd rs1 rs2 : Reg)
  /-- AMOMAX Kalxel atomic signed maximum. (R179) -/
  | amomax (c : CellId) (rd rs1 rs2 : Reg)
  /-- AMOMINU Kalxel atomic unsigned minimum. (R179) -/
  | amominu (c : CellId) (rd rs1 rs2 : Reg)
  /-- AMOMAXU Kalxel atomic unsigned maximum. (R179) -/
  | amomaxu (c : CellId) (rd rs1 rs2 : Reg)
  /-- BEQ Kalxel branch if equal. (R179) -/
  | beq (c : CellId) (rs1 rs2 : Reg) (off : BitVec 16)
  /-- BNE Kalxel branch if not equal. (R179) -/
  | bne (c : CellId) (rs1 rs2 : Reg) (off : BitVec 16)
  /-- BLT Kalxel branch if signed less. (R179) -/
  | blt (c : CellId) (rs1 rs2 : Reg) (off : BitVec 16)
  /-- BGE Kalxel branch if signed greater or equal. (R179) -/
  | bge (c : CellId) (rs1 rs2 : Reg) (off : BitVec 16)
  /-- BLTU Kalxel branch if unsigned less. (R179) -/
  | bltu (c : CellId) (rs1 rs2 : Reg) (off : BitVec 16)
  /-- BGEU Kalxel branch if unsigned greater or equal. (R179) -/
  | bgeu (c : CellId) (rs1 rs2 : Reg) (off : BitVec 16)
  /-- JAL Kalxel jump and link. (R179) -/
  | jal (c : CellId) (rd : Reg) (imm : BitVec 21)
  /-- JALR Kalxel jump to register and link. (R179) -/
  | jalr (c : CellId) (rd rs1 : Reg) (imm : BitVec 16)
  /-- FADD Kalxel FP32 add. (R181) -/
  | fadd (c : CellId) (rd rs1 rs2 : Reg)
  /-- FSUB Kalxel FP32 subtract. (R181) -/
  | fsub (c : CellId) (rd rs1 rs2 : Reg)
  /-- FMUL Kalxel FP32 multiply. (R181) -/
  | fmul (c : CellId) (rd rs1 rs2 : Reg)
  /-- FMIN Kalxel FP32 minimum. (R181) -/
  | fmin (c : CellId) (rd rs1 rs2 : Reg)
  /-- FMAX Kalxel FP32 maximum. (R181) -/
  | fmax (c : CellId) (rd rs1 rs2 : Reg)
  /-- FEQ Kalxel FP32 equality compare. (R181) -/
  | feq (c : CellId) (rd rs1 rs2 : Reg)
  /-- FLT Kalxel FP32 less-than compare. (R181) -/
  | flt (c : CellId) (rd rs1 rs2 : Reg)
  /-- FLE Kalxel FP32 less-or-equal compare. (R181) -/
  | fle (c : CellId) (rd rs1 rs2 : Reg)
  /-- FSGNJ Kalxel sign injection. (R181) -/
  | fsgnj (c : CellId) (rd rs1 rs2 : Reg)
  /-- FSGNJN Kalxel negated sign injection. (R181) -/
  | fsgnjn (c : CellId) (rd rs1 rs2 : Reg)
  /-- FSGNJX Kalxel xor sign injection. (R181) -/
  | fsgnjx (c : CellId) (rd rs1 rs2 : Reg)
  /-- FCVT_S_W Kalxel convert signed integer to FP32. (R181) -/
  | fcvtSW (c : CellId) (rd rs1 : Reg)
  /-- FCVT_S_WU Kalxel convert unsigned integer to FP32. (R181) -/
  | fcvtSWu (c : CellId) (rd rs1 : Reg)
  /-- FCVT_W_S Kalxel convert FP32 to signed integer. (R181) -/
  | fcvtWS (c : CellId) (rd rs1 : Reg)
  /-- FCVT_WU_S Kalxel convert FP32 to unsigned integer. (R181) -/
  | fcvtWuS (c : CellId) (rd rs1 : Reg)
  /-- FCLASS Kalxel classify an FP32 value. (R181) -/
  | fclass (c : CellId) (rd rs1 : Reg)
  /-- FMADD Kalxel fused multiply-add. (R179) -/
  | fmadd (c : CellId) (rd rs1 rs2 rs3 : Reg)
  /-- FMSUB Kalxel fused multiply-subtract. (R179) -/
  | fmsub (c : CellId) (rd rs1 rs2 rs3 : Reg)
  /-- FNMADD Kalxel negated fused multiply-add. (R179) -/
  | fnmadd (c : CellId) (rd rs1 rs2 rs3 : Reg)
  /-- FNMSUB Kalxel negated fused multiply-subtract. (R179) -/
  | fnmsub (c : CellId) (rd rs1 rs2 rs3 : Reg)
  /-- BADD2 Kalxel paired BF16 add. (R182) -/
  | badd2 (c : CellId) (rd rs1 rs2 : Reg)
  /-- BMUL2 Kalxel paired BF16 multiply. (R182) -/
  | bmul2 (c : CellId) (rd rs1 rs2 : Reg)
  /-- BMAX2 Kalxel paired BF16 maximum. (R182) -/
  | bmax2 (c : CellId) (rd rs1 rs2 : Reg)
  /-- BMIN2 Kalxel paired BF16 minimum. (R182) -/
  | bmin2 (c : CellId) (rd rs1 rs2 : Reg)
  /-- BDOT2 Kalxel BF16 two-term dot product accumulated in FP32. (R182) -/
  | bdot2 (c : CellId) (rd rs1 rs2 : Reg)
  /-- BPACK Kalxel pack two FP32 values into BF16 halves. (R182) -/
  | bpack (c : CellId) (rd rs1 rs2 : Reg)
  /-- BLO Kalxel widen the low BF16 half to FP32. (R182) -/
  | blo (c : CellId) (rd rs1 : Reg)
  /-- BHI Kalxel widen the high BF16 half to FP32. (R182) -/
  | bhi (c : CellId) (rd rs1 : Reg)
  /-- EXP2 Kalxel base-2 exponential, rounded once. (R183) -/
  | exp2 (c : CellId) (rd rs1 : Reg)
  /-- LOG2 Kalxel base-2 logarithm. (R183) -/
  | log2 (c : CellId) (rd rs1 : Reg)
  /-- RCP Kalxel reciprocal. (R183) -/
  | rcp (c : CellId) (rd rs1 : Reg)
  /-- RSQRT Kalxel reciprocal square root. (R183) -/
  | rsqrt (c : CellId) (rd rs1 : Reg)
  /-- SQRT Kalxel square root. (R183) -/
  | sqrt (c : CellId) (rd rs1 : Reg)
  /-- TANH Kalxel hyperbolic tangent. (R183) -/
  | tanh (c : CellId) (rd rs1 : Reg)
  /-- SIGMOID Kalxel logistic sigmoid. (R183) -/
  | sigmoid (c : CellId) (rd rs1 : Reg)
  /-- HMIX Kalxel 64-bit mix hash of a pair under a seed. (R184) -/
  | hmix (c : CellId) (rd rs1 rs2 : Pair)
  /-- CRCW Kalxel CRC-32C update over four bytes. (R184) -/
  | crcw (c : CellId) (rd rs1 rs2 : Reg)
  /-- CRCB Kalxel CRC-32C update over one byte. (R184) -/
  | crcb (c : CellId) (rd rs1 rs2 : Reg)
  /-- GEN Kalxel augmentation generator word for seed, sample, stream and counter. (R286) -/
  | gen (c : CellId) (rd rs1 rs2 : Reg) (stream : BitVec 8)
  /-- RDSR Kalxel read of a special register, capturing CYCLE_HI on a CYCLE_LO read. (R191) -/
  | rdsr (c : CellId) (rd : Reg) (sr : Fin 12)
  /-- WRSR Kalxel write of a writable special register. (R191) -/
  | wrsr (c : CellId) (rs1 : Reg) (hi : Bool)
  /-- SARM Kalxel arming of a cluster stream context with tag and parameters. (R185) -/
  | sarm (c : CellId) (rd rs1 rs2 : Reg) (ctx : Fin 4)
  /-- SWAIT Kalxel wait until a stream context is DONE, returning its status. (R185) -/
  | swait (c : CellId) (rd : Reg) (ctx : Fin 4)
  /-- BALLOC Kalxel buffer allocation from a pool into a handle record. (R186) -/
  | balloc (c : CellId) (rs1 rs2 : Reg)
  /-- BREL Kalxel release of a handle's buffer to its pool. (R186) -/
  | brel (c : CellId) (rs1 : Reg)
  /-- LPUSH Kalxel push of a handle record onto a Lift with the tag in TAG. (R186) -/
  | lpush (c : CellId) (rs1 rs2 : Reg)
  /-- HLOC Kalxel returning the cell address of a local buffer. (R186) -/
  | hloc (c : CellId) (rd rs1 : Reg)
  /-- SSIG Kalxel signal of a sync object. (R187) -/
  | ssig (c : CellId) (rd rs1 rs2 : Reg)
  /-- SWGE Kalxel wait until a sync object reaches a threshold. (R187) -/
  | swge (c : CellId) (rd rs1 rs2 : Reg)
  /-- SRST Kalxel reset of a sync object. (R187) -/
  | srst (c : CellId) (rd rs1 : Reg)
  /-- ASK Kalxel completion of the item in service and request for a new item from the Gate. (R188) -/
  | ask (c : CellId) (rd rs1 : Reg)
  /-- TNEW Kalxel allocation of a new task tag for a stage. (R188) -/
  | tnew (c : CellId) (rd rs1 : Reg)
  /-- TRAP Kalxel abort of the task in TAG with ERR_CELL_TRAP. (R188) -/
  | trap (c : CellId) (rs1 : Reg)
  /-- HALT Kalxel completion of the item in service and stop until the next switch. (R188) -/
  | halt (c : CellId)
  /-- CELL_RESIDUE_FAIL A cell residue-check failure stops and fences the cell and aborts its task. (R196) -/
  | cellResidueFail (c : CellId)
  /-- CELL_STORE_ECC An uncorrectable private-store word fences the cell and aborts its task. (R196) -/
  | cellStoreEcc (c : CellId)
  /-- CLUSTER_FAULT An uncorrectable cluster or instruction store word or Gate self-check failure stops and fences the cluster. (R197) -/
  | clusterFault (d : Fin 4) (p : Fin 4096)
  /-- GATE_POP A Gate pops one handle in round-robin order from an input Lift under quota. (R204) -/
  | gatePop (d : Fin 4) (p : Fin 4096)
  /-- FLOW_ENTRY_GRANT An item waiting for a flow-table entry takes one when it frees. (R208) -/
  | flowEntryGrant (d : Fin 4)
  /-- DELAY_RELEASE A delayed item leaves the delay list when its ticks or phase have passed. (R210) -/
  | delayRelease (d : Fin 4) (p : Fin 4096)
  /-- GATE_DISPATCH The Gate dispatches the highest-priority ready item to the lowest asking cell and writes its record. (R212) -/
  | gateDispatch (d : Fin 4) (p : Fin 4096)
  /-- SYNC_APPLY Operations reaching a sync object are applied in fixed order and satisfied waits end. (R222) -/
  | syncApply (d : Fin 4) (i : Fin 65536)
  /-- SYNC_CMD_SIGNAL Host SYNC_CMD with OP signal adds AMOUNT to an object. (R229) -/
  | syncCmdSignal (d : Fin 4) (i : Fin 65536) (amount : Word)
  /-- SYNC_CMD_RESET Host SYNC_CMD with OP reset sets an object to 0. (R229) -/
  | syncCmdReset (d : Fin 4) (i : Fin 65536) (amount : Word)
  /-- INGEST_JOB_START An Ingest instance pops an input handle and applies the size checks before taking output. (R249) -/
  | ingestJobStart (d : Fin 4) (k : Fin 8)
  /-- INGEST_JOB_END An Ingest job succeeds and pushes its outputs in one burst, or fails and aborts its task. (R234) -/
  | ingestJobEnd (d : Fin 4) (k : Fin 8)
  /-- PACK_HANDLE_READ A Pack instance reads a handle from IN_LIFT when store space allows and parses its records. (R270) -/
  | packHandleRead (d : Fin 4) (k : Fin 4)
  /-- BATCH_CLOSE_BUDGET PHASE reaches a batch's close point and the batch closes with CAUSE BUDGET. (R274) -/
  | batchCloseBudget (d : Fin 4) (k : Fin 4) (batch : Nat)
  /-- PACK_EMIT A closed batch is written to a free slot and channel 1 is armed as a new task. (R283) -/
  | packEmit (d : Fin 4) (k : Fin 4)
  /-- PACK_FLUSH PACK_CMD.FLUSH closes every open batch of an instance with CAUSE FLUSH. (R288) -/
  | packFlush (d : Fin 4) (k : Fin 4)
  /-- HASH_JOB_START A Hash instance takes ARITY operand handles and checks them before taking output. (R301) -/
  | hashJobStart (d : Fin 4) (k : Fin 64)
  /-- HASH_JOB_END A Hash job pushes its output in one burst, or fails and aborts its task. (R300) -/
  | hashJobEnd (d : Fin 4) (k : Fin 64)
  /-- MATCH_SEARCH_JOB A Match leader takes ARITY operand handles and searches each row in its slots. (R321) -/
  | matchSearchJob (d : Fin 4) (k : Fin 64) (ecc : List Nat)
  /-- MATCH_UPDATE_JOB A Match update buffer is checked and its entry changes staged. (R327) -/
  | matchUpdateJob (d : Fin 4) (k : Fin 64)
  /-- MATCH_JOB_END A Match job pushes its two output buffers, or fails. (R324) -/
  | matchJobEnd (d : Fin 4) (k : Fin 64)
  /-- MATCH_COMMIT_APPLY Staged entry changes of a committed task are applied to the gang in slot order. (R328) -/
  | matchCommitApply (d : Fin 4) (k : Fin 64) (ecc : BitVec 2)
  /-- MATCH_HOST_APPLY MATCH_HOST_CMD ACTION APPLY applies REC0 in one slot. (R331) -/
  | matchHostApply (m : MatchAction)
  /-- MATCH_HOST_PAIR MATCH_HOST_CMD ACTION PAIR applies REC0 and REC1 in two consecutive slots. (R331) -/
  | matchHostPair (m : MatchAction)
  /-- MATCH_HOST_READ MATCH_HOST_CMD ACTION READ copies an entry into REC0 and sets ENTRY_STATE. (R331) -/
  | matchHostRead (m : MatchAction)
  /-- SELECT_PIECE A Select instance takes a score buffer as a piece or whole row and forms its partial list. (R346) -/
  | selectPiece (d : Fin 4) (k : Fin 16)
  /-- SELECT_JOB_END A completed row is merged, summed and its results pushed, or the job fails. (R354) -/
  | selectJobEnd (d : Fin 4) (k : Fin 16)
  /-- GATHER_LOOKUP_JOB A Gather instance looks up and pools the rows of a LOOKUP buffer. (R376) -/
  | gatherLookupJob (d : Fin 4) (k : Fin 16)
  /-- GATHER_GRADIENT_JOB A Gather instance turns a GRADIENT buffer into contributions and reserves log entries. (R383) -/
  | gatherGradientJob (d : Fin 4) (k : Fin 16)
  /-- GATHER_JOB_END A Gather job pushes its result in one burst, or fails and aborts its task. (R375) -/
  | gatherJobEnd (d : Fin 4) (k : Fin 16)
  /-- APPLY_START A table's apply begins once PHASE ≥ APPLY_PU and no apply or replay runs. (R385) -/
  | applyStart (d : Fin 4) (t : Fin 64)
  /-- APPLY_END The apply finishes applying the optimizer to every touched row in fixed order. (R386) -/
  | applyEnd (d : Fin 4) (t : Fin 64)
  /-- MIGRATION_COPY_END The Traverse copy of a round's records ends. (R390) -/
  | migrationCopyEnd (d : Fin 4) (t : Fin 64)
  /-- ROUND_REPLAY A due round replays its forwarding log. (R392) -/
  | roundReplay (d : Fin 4) (t : Fin 64)
  /-- CUT_OVER After replay, every tag of the round changes to the new places in one fabric cycle. (R392) -/
  | cutOver (d : Fin 4) (t : Fin 64)
  /-- FRAME_RETURN A vacated frame returns to its store once prior reads complete. (R392) -/
  | frameReturn (d : Fin 4) (t : Fin 64) (area : Bool) (frame : Nat)
  /-- EMB_FLUSH EMB_CMD ACTION FLUSH marks a table to move every row home at the next Night. (R393) -/
  | embFlush (d : Fin 4) (t : Fin 64) (action : Fin 4)
  /-- ARRAY_DENSE Array command OP DENSE multiplies A rows by a weight tile and runs the epilogue. (R412) -/
  | arrayDense (d : Fin 4) (k : Fin 8) (ecc : Fin 3)
  /-- ARRAY_ROUTED Array command OP ROUTED computes routed expert products from a Select ROUTE result. (R422) -/
  | arrayRouted (d : Fin 4) (k : Fin 8) (ecc : Fin 3)
  /-- ARRAY_INTERACT Array command OP INTERACT forms pairwise partial dot products of V planes. (R423) -/
  | arrayInteract (d : Fin 4) (k : Fin 8) (ecc : Fin 3)
  /-- ARRAY_ATTEND Array command OP ATTEND forms attention over the keys Select chose. (R426) -/
  | arrayAttend (d : Fin 4) (k : Fin 8) (ecc : Fin 3)
  /-- ARRAY_JOB_END An Array job pushes its outputs in one burst, or fails. (R410) -/
  | arrayJobEnd (d : Fin 4) (k : Fin 8)
  /-- ARRAY_RESIDUE_FAIL An Array residue failure aborts its tasks and starts a 2 ms self-test. (R428) -/
  | arrayResidueFail (d : Fin 4) (k : Fin 8)
  /-- ARRAY_SELFTEST_END The self-test ends; the Array resumes, or is fenced on failure. (R429) -/
  | arraySelftestEnd (d : Fin 4) (k : Fin 8) (pass : Bool)
  /-- ARRAY_SELFTEST ARRAY_CMD.SELFTEST runs the self-test of an inactive Array. (R433) -/
  | arraySelftest (d : Fin 4) (mask : BitVec 8)
  /-- PORT_CTRL_WRITE A write to PORT_CTRL enables a port or changes its mode and functions. (R435) -/
  | portCtrlWrite (p : Fin 8) (v : Word)
  /-- PORT_TRAINED A port finishes training, sets LINK_UP and measures PORT_DELAY_NS. (R435) -/
  | portTrained (p : Fin 8) (delay : Nat)
  /-- FLIT_RECEIVE A received flit is checked, accepted in sequence, or discarded with a NAK. (R438) -/
  | flitReceive (p : Fin 8) (t : Nat) (flit : List Byte)
  /-- FLIT_ACK_TIMEOUT No acknowledgement within 2 µs makes the sender replay its flits. (R439) -/
  | flitAckTimeout (p : Fin 8)
  /-- PORT_LINK_DOWN No valid flit for 1 µs clears LINK_UP, sets RETRAIN and retrains. (R441) -/
  | portLinkDown (p : Fin 8)
  /-- MESSAGE_FORWARD A message for another member is forwarded on its route and HOPS incremented. (R444) -/
  | messageForward (p : Fin 8) (residence : Nat)
  /-- KEEPALIVE A KEEPALIVE message marks its sender present and propagates lost bits. (R446) -/
  | keepalive (p : Fin 8)
  /-- KEEPALIVE_SEND Every 2 µs a member sends KEEPALIVE to every member it has a route to. (R446) -/
  | keepaliveSend
  /-- MEMBER_LOST A present member silent for 6 µs is marked lost, with records and message. (R446) -/
  | memberLost (m : Fin 32)
  /-- CADENCE A CADENCE message on the LINK port is taken as a mark and GROUP_STEP_DELTA updated. (R450) -/
  | cadence (p : Fin 8)
  /-- SYNC_SIGNAL A SYNC_SIGNAL message applies a remote signal to a local object. (R452) -/
  | syncSignal (p : Fin 8)
  /-- GROUP_CTRL_WRITE A write to GROUP_CTRL joins or configures the column group. (R445) -/
  | groupCtrlWrite (v : Word)
  /-- GROUP_ROUTE_WRITE A write to GROUP_ROUTE sets a member's route, refused for an unusable port. (R445) -/
  | groupRouteWrite (m : Fin 32) (v : Word)
  /-- SWITCH_VOTE The coordinator records a vote and decides COMMIT or CANCEL. (R453) -/
  | switchVote (p : Fin 8)
  /-- SWITCH_VOTE_TIMEOUT After 1,920 ticks without a decision the coordinator decides CANCEL. (R453) -/
  | switchVoteTimeout
  /-- SWITCH_DECISION A member receiving COMMIT proceeds to the drain; on CANCEL it cancels the switch. (R453) -/
  | switchDecision (p : Fin 8)
  /-- SWITCH_DECISION_TIMEOUT No decision within 2,048 ticks cancels with ERR_PLAN_GROUP_MISMATCH. (R453) -/
  | switchDecisionTimeout
  /-- TRAV_ALLTOALL Traverse command OP ALLTOALL moves mapped parts between members. (R458) -/
  | travAlltoall (d : Fin 4) (k : Fin 4)
  /-- TRAV_REDUCE Traverse command OP REDUCE sums partials in ascending member order. (R459) -/
  | travReduce (d : Fin 4) (k : Fin 4)
  /-- TRAV_RDMA_WRITE Traverse command OP RDMA_WRITE stages a part to be sent as RDMA WRITEs at commit. (R467) -/
  | travRdmaWrite (d : Fin 4) (k : Fin 4)
  /-- EXCH_DATA Exchange data arrive and are held in RX_REGION or added to the job. (R461) -/
  | exchData (p : Fin 8)
  /-- EXCH_READY An EXCH_READY is recorded; holding all of them brings the prepared task to its commit point. (R462) -/
  | exchReady (p : Fin 8)
  /-- EXCH_ABORT An EXCH_ABORT aborts the member's task of the exchange with ERR_LINK_PEER_ABORT. (R463) -/
  | exchAbort (p : Fin 8)
  /-- PEER_WRITE A PEER_WRITE is written at the target address, or rejected and counted. (R476) -/
  | peerWrite (p : Fin 8)
  /-- PEER_READ A PEER_READ is served with PEER_DATA, or answered with a fault status. (R476) -/
  | peerRead (p : Fin 8)
  /-- PEER_DATA Returned PEER_DATA completes a task's read, or aborts it on a fault status. (R476) -/
  | peerData (p : Fin 8)
  /-- PORT_ADDR Mailbox command setting a port's MAC and IP addresses. (R466) -/
  | portAddr (m : MsgRef) (payload : List Byte)
  /-- QP_SETUP Mailbox command creating a RoCEv2 queue pair. (R466) -/
  | qpSetup (m : MsgRef) (payload : List Byte)
  /-- QP_DESTROY Mailbox command destroying a queue pair. (R466) -/
  | qpDestroy (m : MsgRef) (payload : List Byte)
  /-- MR_SET Mailbox command defining a memory region for incoming WRITEs. (R466) -/
  | mrSet (m : MsgRef) (payload : List Byte)
  /-- MR_CLEAR Mailbox command clearing a memory region. (R466) -/
  | mrClear (m : MsgRef) (payload : List Byte)
  /-- FEED_BIND Mailbox command binding a UDP live feed. (R466) -/
  | feedBind (m : MsgRef) (payload : List Byte)
  /-- FEED_UNBIND Mailbox command unbinding a feed. (R466) -/
  | feedUnbind (m : MsgRef) (payload : List Byte)
  /-- ROCE_WRITE_IN An incoming RDMA WRITE packet is checked against its MR and written outside any task. (R467) -/
  | roceWriteIn (pkt : RocePkt)
  /-- ROCE_SEND_IN An incoming SEND message is written into a buffer and pushed as a new task, or RNR-NAKed. (R467) -/
  | roceSendIn (pkt : RocePkt)
  /-- ROCE_ACK_IN An ACK or NAK for an outgoing WRITE advances or rewinds the requester. (R467) -/
  | roceAckIn (port : Fin 8) (qpn psn syndrome : Nat) (icrc : Bool)
  /-- ROCE_CNP_IN A CNP halves the queue pair's sending rate. (R467) -/
  | roceCnpIn (port : Fin 8) (qpn : Nat) (icrc : Bool)
  /-- ROCE_RATE_RESTORE Every 50 µs the rate is restored by one sixteenth. (R467) -/
  | roceRateRestore (q : Fin 4096)
  /-- ROCE_RETRY_TIMEOUT 64 µs without ACK triggers go-back-N retransmission, up to 7 retries. (R467) -/
  | roceRetryTimeout (q : Fin 4096)
  /-- FEED_FRAME A datagram of a bound feed is captured into a buffer and pushed, or dropped. (R468) -/
  | feedFrame (g : Datagram)
  /-- PTP_SYNC_IN A PTP Sync message is time-stamped and updates the servo and lock state. (R469) -/
  | ptpSyncIn (p : Fin 8) (m : PtpMsg)
  /-- PTP_FOLLOW_UP_IN A PTP Follow_Up completes a two-step Sync. (R469) -/
  | ptpFollowUpIn (p : Fin 8) (m : PtpMsg)
  /-- PTP_DELAY_RESP_IN A PTP Delay_Resp completes the delay request-response measurement. (R469) -/
  | ptpDelayRespIn (p : Fin 8) (m : PtpMsg)
  /-- PTP_SYNC_TIMEOUT Four Sync intervals without a Sync lose lock and put calendar time in holdover. (R469) -/
  | ptpSyncTimeout (p : Fin 8)
  /-- GROOMER_PATROL The Groomer reads a granule, corrects it in place, or poisons and reports it. (R490) -/
  | groomerPatrol (t : PatrolTarget) (found : Fin 3) (last : PatrolEnd)
  /-- GROOM_CTRL_WRITE A write to GROOM_CTRL stops or resumes the Groomer with an event record. (R492) -/
  | groomCtrlWrite (v : Word)
  /-- VM_CTRL_WRITE A write to VM_CTRL enables translation, ATS or PRI, refused when the host has not enabled them. (R503) -/
  | vmCtrlWrite (v : Word)
  /-- VM_ROOT_WRITE A write to VM_ROOT sets the root table, refused while enabled or outside memory. (R503) -/
  | vmRootWrite (v : DWord)
  /-- VM_INVAL VM_INVAL.GO starts invalidation of cached translations of a scope. (R497) -/
  | vmInval (v : DWord)
  /-- VM_INVAL_DONE GO clears when no covering translation or access remains. (R497) -/
  | vmInvalDone
  /-- ATS_COMPLETION A Translation Completion is cached, or a denial aborts the task and may send a Page Request. (R498) -/
  | atsCompletion (page target : Nat) (read write : Bool)
  /-- ATS_INVALIDATE An ATS Invalidation Request completes once no access uses the translation. (R498) -/
  | atsInvalidate (itag addr size : Nat)
  /-- HOST_READ_COMPLETION A host-window read completion returns data, or an error or timeout aborts its task. (R477) -/
  | hostReadCompletion (id : Nat) (ok : Bool) (data : List Byte)
  /-- MEMORY_TRAINING_END Training ends, MEM_STATUS and DDR_MAPPED are set, and failures reported. (R499) -/
  | memoryTrainingEnd (stk : BitVec 16) (bonded : List Nat) (dimms ddr : Option (Fin 16))
  /-- BAR4_READ A BAR4 read returns device memory, all ones when unmapped, or a poisoned completion. (R510) -/
  | bar4Read (off len : Nat)
  /-- BAR4_WRITE A BAR4 write changes mapped memory outside any task, or is discarded and counted. (R510) -/
  | bar4Write (off : Nat) (data : List Byte)
  /-- BAR4_BASE_WRITE A write of BAR4_BASE moves the window, refused when misaligned. (R511) -/
  | bar4BaseWrite (v : DWord)
  /-- BAR4_RESIZE A Resizable BAR change of BAR4 sets BAR4_BASE to 0. (R511) -/
  | bar4Resize (exponent : Nat)
  /-- BAR2_INVALID_ACCESS A write into the D2H ring or an unlisted BAR2 offset is refused with ERR_MB_BAR2. (R509) -/
  | bar2InvalidAccess (off width : Nat) (access : Bar2Access)
  /-- H2D_DOORBELL A doorbell write posts messages up to an H-seq and restarts the watchdog. (R517) -/
  | h2dDoorbell (posted : Word) (slots : List (Nat × List Byte))
  /-- MESSAGE_CONSUME A posted H2D message is checked and consumed into its class queue or refused. (R518) -/
  | messageConsume
  /-- ATTACH Mailbox command making the driver ATTACHED and returning the ring state. (R523) -/
  | attach (m : MsgRef) (driver minorMax : Nat)
  /-- DETACH Mailbox command that sets DETACHING and parks the device at the end of the step. (R529) -/
  | detach (m : MsgRef)
  /-- PING Mailbox command returning its data unchanged. (R523) -/
  | ping (m : MsgRef) (data : DWord)
  /-- D2H_ACK A write of D2H_ACK frees ring positions so that held responses and messages are written. (R521) -/
  | d2hAck (v : Word)
  /-- HEARTBEAT A write to HEARTBEAT restarts the watchdog. (R527) -/
  | heartbeat (v : Word)
  /-- WDOG_CTRL_WRITE A write to WDOG_CTRL sets the watchdog and restarts it. (R527) -/
  | wdogCtrlWrite (v : Word)
  /-- WDOG_EXPIRE The watchdog expires, stops host-bound requests and sets DETACHING. (R528) -/
  | wdogExpire
  /-- MB_DISCARD MB_CTRL.DISCARD consumes every posted message without executing it. (R526) -/
  | mbDiscard
  /-- IRQ_MAP_WRITE A write of IRQ_MAP arms a vector on a sync object threshold, firing at once if met. (R514) -/
  | irqMapWrite (v : Fin 2048) (value : DWord)
  /-- MSIX_COALESCE_TIMER The coalescing interval ends and vector 0 is signalled for messages written meanwhile. (R513) -/
  | msixCoalesceTimer
  /-- MSIX_UNMASK Unmasking a vector or clearing DMA_OFF sends its pending message. (R512) -/
  | msixUnmask (v : Fin 2048)
  /-- COLD_RESET PERST# asserted resets everything, retrains memory and restarts the management cores. (R534) -/
  | coldReset
  /-- DEVICE_RESET RESET_CTRL with the key starts a device reset that aborts tasks and empties plans. (R533) -/
  | deviceReset (v : Word)
  /-- DEVICE_RESET_DONE The device reset completes and RESET_BUSY clears. (R532) -/
  | deviceResetDone (pass : List Nat)
  /-- HOT_RESET A hot reset or DL_Down stops host DMA and parks the device at the end of the step. (R532) -/
  | hotReset
  /-- FLR A Function Level Reset stops host DMA and parks the device. (R532) -/
  | flr
  /-- D3HOT_ENTRY Entry to D3hot stops host-bound DMA as the watchdog does. (R504) -/
  | d3hotEntry
  /-- ERRQ_ENTRY A detector enters a fault in its die's error queue. (R547) -/
  | errqEntry (q : Fin 5) (f : FaultDesc)
  /-- ERRQ_HANDLE_DONE The handler completes an entry, passes its record on, and takes the next. (R547) -/
  | errqHandleDone (q : Fin 5)
  /-- STATION_DATAPATH_FAULT A station datapath check fails, fencing the station and aborting its tasks. (R539) -/
  | stationDatapathFault (d : Fin 4) (kind : Fin 8) (k : Fin 64)
  /-- CONTROL_FAULT A control-logic self-check or hardware watchdog fails. (R539) -/
  | controlFault (q : Fin 5) (place : FaultPlace)
  /-- FMAP_ADD FMAP_CMD ACTION ADD fences a unit by host command. (R553) -/
  | fmapAdd
  /-- FMAP_REMOVE FMAP_CMD ACTION REMOVE removes a fault-map entry. (R553) -/
  | fmapRemove
  /-- RECORDER_ACCEPT The recorder takes a record, assigns SEQ and writes it to a free slot. (R556) -/
  | recorderAccept
  /-- EVR_RELEASE EVR_RELEASE.GO frees records below UPTO_SEQ and MAX_SEV. (R558) -/
  | evrRelease (v : DWord)
  /-- FATAL_FLASH_WRITE A FATAL record is written to the SPI NOR log and FLASHED is set. (R560) -/
  | fatalFlashWrite
  /-- MGMT_WATCHDOG_EXPIRE The management-core watchdog expires and a crash dump starts. (R561) -/
  | mgmtWatchdogExpire (core : Fin 4)
  /-- LOCKSTEP_MISMATCH A management-core lockstep mismatch is a crash. (R561) -/
  | lockstepMismatch (core : Fin 4)
  /-- FIRMWARE_PANIC A panic declared by the firmware is a crash. (R561) -/
  | firmwarePanic (core : Fin 4)
  /-- CRASH_DUMP_DONE The dump engine finishes writing the dump and the management cores restart. (R561) -/
  | crashDumpDone
  /-- CRASH_INFO Mailbox command listing the crash slots. (R563) -/
  | crashInfo (m : MsgRef)
  /-- CRASH_READ Mailbox command copying a dump to device memory. (R563) -/
  | crashRead (m : MsgRef) (slot dst : Nat)
  /-- CRASH_RELEASE Mailbox command freeing a crash slot. (R563) -/
  | crashRelease (m : MsgRef) (slot : Nat)
  /-- FATAL_LOG_READ Mailbox command copying the FATAL log to device memory. (R563) -/
  | fatalLogRead (m : MsgRef) (dst : Nat)
  /-- RAIL_SAMPLE Every 1 µs the rail monitors sample voltage and current. (R567) -/
  | railSample (mv da : List Nat)
  /-- TEMP_SAMPLE Every 50 µs the temperature points are read. (R567) -/
  | tempSample (temps : List (Nat × Nat))
  /-- HBM_TEMP_REPORT Each HBM4 stack reports its temperature every 1 ms. (R567) -/
  | hbmTempReport (stack : Fin 16) (temp : Nat)
  /-- GOVERNOR_PERIOD At each 10 µs period start the governor computes the allowance and initial gating. (R569) -/
  | governorPeriod
  /-- CLOCK_ADJUST Every 100 µs the governor adjusts POWER_MHZ and THERMAL_MHZ and each die's clock. (R571) -/
  | clockAdjust
  /-- VOLTAGE_SETTLED Once the raised rail has settled the clock is raised. (R572) -/
  | voltageSettled (d : Fin 4)
  /-- VR_SETPOINT_TIMEOUT A rail not at its new set point within 50 µs marks the regulator failed. (R614) -/
  | vrSetpointTimeout (f : VrFailure)
  /-- VR_ALERT VR_ALERT_N asserted makes the device read STATUS_WORD and write a WARNING record. (R614) -/
  | vrAlert (asserted : Bool) (status : List Nat)
  /-- PWR_CAP_WRITE A write of PWR_CAP sets the host power cap from the next period. (R568) -/
  | pwrCapWrite (v : Word)
  /-- FREQ_CAP_WRITE A write of FREQ_CAP sets the highest arithmetic clock. (R571) -/
  | freqCapWrite (v : Word)
  /-- TELEMETRY_REFRESH Every 100 ms the PLDM sensor readings are refreshed. (R577) -/
  | telemetryRefresh
  /-- SET_ENDPOINT_ID MCTP control command assigning the endpoint ID. (R576) -/
  | setEndpointId (eid : Byte) (pec : Bool)
  /-- GET_ENDPOINT_ID MCTP control command returning the endpoint ID. (R576) -/
  | getEndpointId (pec : Bool)
  /-- GET_MCTP_VERSION_SUPPORT MCTP control command returning supported versions. (R576) -/
  | getMctpVersionSupport (mtype : Byte) (pec : Bool)
  /-- GET_MESSAGE_TYPE_SUPPORT MCTP control command returning supported message types. (R576) -/
  | getMessageTypeSupport (pec : Bool)
  /-- GET_PDR PLDM command reading the PDR repository. (R576) -/
  | getPdr (id : Nat) (pec : Bool)
  /-- GET_SENSOR_READING PLDM command returning a numeric sensor reading. (R577) -/
  | getSensorReading (id : Nat) (pec : Bool)
  /-- GET_STATE_SENSOR_READINGS PLDM command returning the state sensor. (R577) -/
  | getStateSensorReadings (id : Nat) (pec : Bool)
  /-- SET_NUMERIC_EFFECTER_VALUE PLDM command setting the BMC power cap. (R577) -/
  | setNumericEffecterValue (id value : Nat) (pec : Bool)
  /-- GET_NUMERIC_EFFECTER_VALUE PLDM command returning the BMC power cap. (R577) -/
  | getNumericEffecterValue (id : Nat) (pec : Bool)
  /-- FW_STAGE Mailbox command writing a valid image into the other flash slot. (R585) -/
  | fwStage (m : MsgRef) (payload : List Byte)
  /-- FW_ACTIVATE Mailbox command making the staged image PENDING. (R585) -/
  | fwActivate (m : MsgRef) (payload : List Byte)
  /-- FW_CANCEL Mailbox command returning a PENDING activation to STAGED. (R585) -/
  | fwCancel (m : MsgRef) (payload : List Byte)
  /-- FW_COMMIT Mailbox command ending the trial and optionally burning ROLLBACK. (R585) -/
  | fwCommit (m : MsgRef) (payload : List Byte)
  /-- FW_INFO Mailbox command returning firmware slot information. (R585) -/
  | fwInfo (m : MsgRef) (payload : List Byte)
  /-- FW_ACTIVATION_APPLY At the first Night start with emergencies clear for 1 s, the activation is applied. (R586) -/
  | fwActivationApply
  /-- FW_ACTIVATION_TIMEOUT An activation not applied within 60 s is cancelled with ERR_FW_EMERGENCY. (R586) -/
  | fwActivationTimeout
  /-- FW_RESTART_DONE The management cores run the new image and FW_ACTIVATION reports the outcome. (R587) -/
  | fwRestartDone
  /-- SPDM_MESSAGE Mailbox command carrying an SPDM request and returning its response. (R596) -/
  | spdmMessage (m : MsgRef) (payload : List Byte)
  /-- SEC_NONCE Mailbox command issuing a fresh 32-byte nonce. (R596) -/
  | secNonce (m : MsgRef) (payload : List Byte)
  /-- NONCE_EXPIRE A nonce expires 60 s after issue. (R590) -/
  | nonceExpire
  /-- OWNER_PROVISION Mailbox command burning an owner key into a slot. (R591) -/
  | ownerProvision (m : MsgRef) (payload : List Byte)
  /-- OWNER_REVOKE Mailbox command revoking an owner key. (R591) -/
  | ownerRevoke (m : MsgRef) (payload : List Byte)
  /-- DEBUG_UNLOCK Mailbox command opening debug level OWNER or VENDOR. (R595) -/
  | debugUnlock (m : MsgRef) (payload : List Byte)
  /-- GET_VERSION SPDM request returning the supported version. (R592) -/
  | getVersion (req : List Byte)
  /-- GET_CAPABILITIES SPDM request returning the capabilities. (R592) -/
  | getCapabilities (req : List Byte)
  /-- NEGOTIATE_ALGORITHMS SPDM request selecting Ed448 and SHA3-512. (R592) -/
  | negotiateAlgorithms (req : List Byte)
  /-- GET_DIGESTS SPDM request returning certificate chain digests. (R592) -/
  | getDigests (req : List Byte)
  /-- GET_CERTIFICATE SPDM request returning the slot 0 chain when its leaf matches the identity key. (R589) -/
  | getCertificate (req : List Byte)
  /-- CHALLENGE SPDM request signed by the identity key. (R592) -/
  | challenge (req : List Byte)
  /-- GET_MEASUREMENTS SPDM request returning the measurement blocks, signed or unsigned. (R593) -/
  | getMeasurements (req : List Byte)
  /-- POWER_UP Rails and reference clocks come within range and the cold-reset schedule can start. (R618) -/
  | powerUp (boot : Fin 4) (smb : Fin 8) (x16 : Bool)
  /-- POWER_LOSS Input power is lost and all rails fall. (R616) -/
  | powerLoss
  /-- EXTEST TAP instruction driving pins from the boundary register, obeyed only in reset. (R625) -/
  | extest (pins shift : List Bool)
  /-- SAMPLE_PRELOAD TAP instruction sampling and preloading the boundary register. (R624) -/
  | samplePreload (pins shift : List Bool)
  /-- IDCODE TAP instruction selecting the identification register. (R624) -/
  | idcode (shift : List Bool)
  /-- HIGHZ TAP instruction putting outputs in high impedance, obeyed only in reset. (R625) -/
  | highz (shift : List Bool)
  /-- CLAMP TAP instruction holding pins from the boundary register, obeyed only in reset. (R625) -/
  | clamp (shift : List Bool)
  /-- EXTEST_PULSE IEEE 1149.6 TAP instruction for AC-coupled lanes. (R625) -/
  | extestPulse (pins shift : List Bool)
  /-- EXTEST_TRAIN IEEE 1149.6 TAP training instruction for AC-coupled lanes. (R625) -/
  | extestTrain (pins shift : List Bool)
  /-- BYPASS TAP instruction selecting the bypass register. (R624) -/
  | bypass (shift : List Bool)
  /-- PERST_DEASSERTION Deassertion of PERST# starts the cold-reset schedule of R583 once the rails and reference clocks are ready. (R618) -/
  | perstDeassertion (boot : Fin 4) (smb : Fin 8) (x16 : Bool)
  /-- FIRMWARE_START The verified image runs on all four management cores, the governor takes the cap, and VOUT_MODE of each VDD_Cd regulator is read. (R583) -/
  | firmwareStart (vmode : List (Option Nat))
  /-- DEVICE_READY After zeroing and the power-up self-test fill the fault map, DEV_STATUS.READY and HOST_STATE.READY are set. (R583) -/
  | deviceReady (fails : List FaultPlace)
  /-- FW_STAGE_DONE The flash write and read-back of a staged image end, making it STAGED and writing the response, or failing with ERR_FW_FLASH. (R585) -/
  | fwStageDone (ok : Bool)
  /-- CONFIGURATION_SPACE_WRITE A host write to PCIe configuration space changes Bus Master Enable, MSI-X enable or the ATS and PRI enables. (R527) -/
  | configurationSpaceWrite (ctl : ConfigControl) (msix ats pri : Bool)
  /-- PAGE_REQUEST_RESPONSE The host's response to a page request group arrives and frees one of the 64 outstanding page requests. (R498) -/
  | pageRequestResponse (group : Nat)
  /-- DOE_DISCOVERY A DOE discovery protocol request arrives and the endpoint answers with its supported data objects. (R504) -/
  | doeDiscovery (index : Nat)
  /-- TEST_LOGIC_RESET TRST_N asserted, or TMS held high, puts the TAP in Test-Logic-Reset and resets its instruction register. (R624) -/
  | testLogicReset
  /-- PRIVATE_TAP_INSTRUCTION A private TAP instruction of the OWNER or VENDOR level halts, steps or reads cells, clusters and stations while its level is open. (R595) -/
  | privateTapInstruction (code : Byte) (act : TapAction) (shift : List Bool)
  deriving DecidableEq, Repr

end Sys2Proof
end

