-- ==== Sys2Proof/Decode.lean ====
section
/-!
DEFINITION. The commands of the device are not spelled by words: the table of operations and events gives no row any bits.
-/

namespace Sys2Proof

/-- The command a word spells by the bits of the table: none, for no row has bits. -/
def decodeTableWord (_nbits _w : Nat) : Option Instr := none

end Sys2Proof
end

