-- ==== Sys2Proof/Config.lean ====
section
/-!
DEFINITION. What the spec leaves open or leaves to another standard: constants with no body, so that no proof can see a
value of them (assumption log entries 1 to 9).
-/

namespace Sys2Proof

/-- A fresh value the spec does not give: `State.dev.fresh` counts the ones used (log 1). -/
opaque Config.freeValue : Nat → BitVec 64

/-- What a read of BAR0 returns at an offset, at a time in ns, where the spec gives no value: the tile-cache counters (R493; log 109), a lost
word of the recorder (R554; log 108). -/
opaque Config.readValue : Nat → Nat → BitVec 64

/-- Encodings of DMTF standards the manual names and does not restate (R576, R577, R592, R593; log 4): which message,
its fields, the bytes. -/
opaque Config.dmtf : Nat → List Nat → List Byte → List Byte

/-- Contents of a crash dump that the firmware defines (R562; log 5): dump sequence, bytes. -/
opaque Config.crashOpaque : Nat → List Byte

/-- The correction the PTP servo applies, whose law the manual does not give (R469; log 6): measured offset in ns, the
present rate; the step to CAL_TIME and the new rate. -/
opaque Config.ptpServo : Int → Nat × Nat → Int × (Nat × Nat)

/-- The version of the boot ROM, 4 bytes (R593; log 7). -/
opaque Config.bootRomVersion : BitVec 32

end Sys2Proof
end

