-- ==== Sys2Proof/Machine/Bits.lean ====
section
/-!
DEFINITION. Bit fields, byte order and bounded counting, on natural numbers (R7, R8), and sparse maps.
-/

namespace Sys2Proof.Machine

/-- Bits `[lo + w - 1 : lo]` of a number. -/
def bitsOf (x lo w : Nat) : Nat := x / 2 ^ lo % 2 ^ w

/-- `x` with bits `[lo + w - 1 : lo]` replaced by the low `w` bits of `v`. -/
def withBits (x lo w v : Nat) : Nat := x - bitsOf x lo w * 2 ^ lo + v % 2 ^ w * 2 ^ lo

/-- Bit `i` of a number. -/
def bitAt (x i : Nat) : Bool := x / 2 ^ i % 2 = 1

/-- The number with bit `i` set. -/
def setBit (x i : Nat) : Nat := if bitAt x i then x else x + 2 ^ i

/-- The number with bit `i` cleared. -/
def clearBit (x i : Nat) : Nat := if bitAt x i then x - 2 ^ i else x

/-- A count of `w` bits that saturates at all ones. -/
def satAdd (w x n : Nat) : Nat := min (x + n) (2 ^ w - 1)

/-- R7: the `n` little-endian bytes of a number. -/
def leBytes : (n : Nat) → Nat → List Byte
  | 0, _ => []
  | n + 1, v => BitVec.ofNat 8 v :: leBytes n (v / 256)

/-- R7: the number that little-endian bytes spell. -/
def ofLe : List Byte → Nat
  | [] => 0
  | b :: bs => b.toNat + 256 * ofLe bs

def u8 (v : Nat) : List Byte := leBytes 1 v
def u16 (v : Nat) : List Byte := leBytes 2 v
def u32 (v : Nat) : List Byte := leBytes 4 v
def u64 (v : Nat) : List Byte := leBytes 8 v

/-- The ASCII bytes of a text. -/
def ascii (s : String) : List Byte := s.toList.map (fun c => BitVec.ofNat 8 c.toNat)

/-- `n` zero bytes. -/
def zeros (n : Nat) : List Byte := List.replicate n 0

/-- The little-endian number of `n` bytes at offset `o` of a list (bytes past the end read as 0). -/
def leAt (bs : List Byte) (o n : Nat) : Nat := ofLe ((bs.drop o).take n)

/-- Ceiling division. -/
def ceilDiv (a b : Nat) : Nat := (a + b - 1) / b

/-- The least multiple of `b` that is at least `a`. -/
def alignUp (a b : Nat) : Nat := ceilDiv a b * b

/-- The signed value of a two's-complement field of `w` bits. -/
def toSigned (w x : Nat) : Int := if x < 2 ^ (w - 1) then (x : Int) else (x : Int) - 2 ^ w

/-- The two's-complement bits of an integer in `w` bits, wrapping. -/
def ofSigned (w : Nat) (z : Int) : Nat := (z % (2 ^ w : Int)).toNat

/-- The number of ones in the low `n` bits. -/
def popCount : (n : Nat) → Nat → Nat
  | 0, _ => 0
  | n + 1, x => x % 2 + popCount n (x / 2)

/-- The positions below `n` at which a number has a 1, in rising order. -/
def onesBelow (n x : Nat) : List Nat := (List.range n).filter (bitAt x)

/-- 1 for true, 0 for false. -/
def bit (b : Bool) : Nat := if b then 1 else 0

/-- 1 when a proposition holds. -/
def bitP (p : Prop) [Decidable p] : Nat := if p then 1 else 0

/-- Modulo-2^32 order (R517): `a` lies at or after `b` within half the range. -/
def seqGe (a b : Nat) : Bool := (a + 2 ^ 32 - b % 2 ^ 32) % 2 ^ 32 < 2 ^ 31

/-- The distance from `b` up to `a`, modulo 2^32. -/
def seqDist (a b : Nat) : Nat := (a + 2 ^ 32 - b % 2 ^ 32) % 2 ^ 32

/-- A sparse map: keys strictly rising. -/
abbrev Map (β : Type) := List (Nat × β)

/-- The value stored at a key. -/
def Map.get? {β : Type} (m : Map β) (k : Nat) : Option β :=
  match m with
  | [] => none
  | (j, v) :: r => if j = k then some v else Map.get? r k

/-- The value stored at a key, or a default. -/
def Map.getD {β : Type} (m : Map β) (k : Nat) (dflt : β) : β := (Map.get? m k).getD dflt

/-- Stores a value at a key, keeping the keys rising. -/
def Map.put {β : Type} (m : Map β) (k : Nat) (v : β) : Map β :=
  match m with
  | [] => [(k, v)]
  | (j, w) :: r => if k < j then (k, v) :: (j, w) :: r else if k = j then (k, v) :: r else (j, w) :: Map.put r k v

/-- Removes a key. -/
def Map.del {β : Type} (m : Map β) (k : Nat) : Map β :=
  match m with
  | [] => []
  | (j, w) :: r => if j = k then r else (j, w) :: Map.del r k

/-- The keys rise strictly. -/
def Map.rising {β : Type} (m : Map β) : Bool :=
  match m with
  | [] => true
  | (j, _) :: r => r.all (fun e => j < e.1) && Map.rising r

/-- Changes every value. -/
def Map.mapVals {β : Type} (m : Map β) (f : Nat → β → β) : Map β := m.map (fun e => (e.1, f e.1 e.2))

/-- Keeps the entries that satisfy a test. -/
def Map.keep {β : Type} (m : Map β) (p : Nat → β → Bool) : Map β := m.filter (fun e => p e.1 e.2)

/-- Stores a value, or removes the key when the value is the default: the canonical form of memory and registers. -/
def Map.setC {β : Type} [DecidableEq β] (m : Map β) (dflt : β) (k : Nat) (v : β) : Map β :=
  match m with
  | [] => if v = dflt then [] else [(k, v)]
  | e :: r => if v = dflt then Map.del (e :: r) k else Map.put (e :: r) k v

/-- Replaces the element at an index of a list. -/
def setNth {β : Type} (l : List β) (i : Nat) (v : β) : List β :=
  match l, i with
  | [], _ => []
  | _ :: r, 0 => v :: r
  | a :: r, n + 1 => a :: setNth r n v

/-- Inserts into a list kept in rising order of `key`, after equals. -/
def insertBy {β : Type} (key : β → Nat) (x : β) (l : List β) : List β :=
  match l with
  | [] => [x]
  | y :: r => if key x < key y then x :: y :: r else y :: insertBy key x r

/-- Stable insertion sort by a natural key. -/
def sortBy {β : Type} (key : β → Nat) (l : List β) : List β := l.foldl (fun acc x => insertBy key x acc) []

/-- Insertion under an order given as a test, after equals: `lt a b` says a goes before b. -/
def insertLt {β : Type} (lt : β → β → Bool) (x : β) (l : List β) : List β :=
  match l with
  | [] => [x]
  | y :: r => if lt x y then x :: y :: r else y :: insertLt lt x r

/-- Stable insertion sort under an order given as a test. -/
def sortLt {β : Type} (lt : β → β → Bool) (l : List β) : List β := l.foldl (fun acc x => insertLt lt x acc) []

/-- Appends without repetition. -/
def addNew {β : Type} [DecidableEq β] (l : List β) (x : β) : List β := if x ∈ l then l else l ++ [x]

/-- Splits a list into chunks of `n`, the last possibly shorter; `fuel` bounds the number of chunks. -/
def chunksAux {β : Type} (n : Nat) : (fuel : Nat) → List β → List (List β)
  | 0, _ => []
  | _ + 1, [] => []
  | f + 1, l => l.take n :: chunksAux n f (l.drop n)

def chunks {β : Type} (n : Nat) (l : List β) : List (List β) := chunksAux n l.length l

/-- Folds a state over the numbers below `n`. -/
def forBelow {σ : Type} (n : Nat) (f : Nat → σ → σ) (s : σ) : σ := (List.range n).foldl (fun a i => f i a) s

/-- Folds a state over a list. -/
def forEach {σ β : Type} (l : List β) (f : β → σ → σ) (s : σ) : σ := l.foldl (fun a x => f x a) s

/-! ### Checks -/

/-- The code, when the condition breaks a rule. -/
def bad (b : Bool) (code : Nat) : Option Nat := if b then some code else none
/-- The first failure of a list. -/
def first (l : List (Option Nat)) : Option Nat := l.findSome? id

/-- Bits set of a list of tests. -/
def bitsWhere (n : Nat) (p : Nat → Bool) : Nat := (List.range n).foldl (fun x k => x + bit (p k) * 2 ^ k) 0

/-- R9: the width and the offset of an access are not supported. -/
def unsupported (off width : Nat) : Bool := (width != 32 && width != 64) || off % (width / 8) != 0

end Sys2Proof.Machine
end

