-- ==== Sys2Proof/Machine/Regs.lean ====
section
/-!
DEFINITION. The registers of BAR0 and the doorbells of BAR2, as the register tables of the chapters give them: offset, width,
owning block, fields with their access codes, reset value (R9, R10, R14; tables R58/R59, R89/R90, R124/R125, R166/R167,
R198/R199, R231/R232, R263/R264, R292/R293, R311/R312, R337/R338, R360/R361, R399/R400, R432/R433, R471/R472, R502/R503,
R537/R538, R565/R566, R599/R600, R627).  Doorbells of BAR2 are keyed `0x1000_0000 + offset`.
-/

namespace Sys2Proof.Machine

/-- A bit field `[lo + w - 1 : lo]` of a register. -/
structure Fld where
  lo : Nat
  w : Nat
  deriving DecidableEq, Repr

/-- R10: the access codes. -/
inductive Access where
  | ro | rw | wo | w1c | w1s | rsv
  deriving DecidableEq, Repr

/-- One row of a register table: `count` registers `stride` bytes apart from `base`; `perDie` places it in each compute
die's space (R507). -/
structure RegDef where
  base : Nat
  count : Nat
  stride : Nat
  perDie : Bool
  width : Nat
  block : Nat
  fields : List (Fld × Access)
  reset : Nat
  deriving DecidableEq, Repr

/-- R507: the space of compute die `d`. -/
def dieBase (d : Nat) : Nat := 0x0100_0000 + d * 0x0100_0000
/-- R471: PB(p). -/
def portBase (p : Nat) : Nat := if p < 4 then 0x0600_2000 + 0x100 * p else 0x0700_2000 + 0x100 * (p - 4)

def Reg.CAD_CTRL : Nat := 0x2000
def Reg.CAD_FREE_PERIOD : Nat := 0x2004
def Reg.CAD_MIN_GAP : Nat := 0x2008
def Reg.CAD_HOST_MARK : Nat := 0x200C
def Reg.CAD_STATUS : Nat := 0x2010
def Reg.PHASE : Nat := 0x2014
def Reg.STEP_NUM : Nat := 0x2018
def Reg.CAD_PRED_PERIOD : Nat := 0x201C
def Reg.CAD_LAST_INTERVAL : Nat := 0x2020
def Reg.CAD_LAST_MARK_CAL : Nat := 0x2028
def Reg.SEG_BOUNDS : Nat := 0x2030
def Reg.CAD_OVERRUN_COUNT : Nat := 0x2040
def Reg.CAD_EARLY_COUNT : Nat := 0x2044
def Reg.CAD_NIGHT_OVERRUN_COUNT : Nat := 0x2048
def Reg.CAD_GLITCH_COUNT : Nat := 0x204C
def Reg.CAD_LOSS_COUNT : Nat := 0x2050
def Reg.CAL_CTRL : Nat := 0x2100
def Reg.CAL_EPOCH_SEC : Nat := 0x2108
def Reg.CAL_TIME : Nat := 0x2110
def Reg.CAL_STATUS : Nat := 0x2118
def Reg.PLAN_LAST_ERROR : Nat := 0x3000
def Reg.PLAN_SLOT_STATE : Nat := 0x3004
def Reg.PLAN_ACTIVE_ID : Nat := 0x3008
def Reg.PLAN_ACTIVE_VER : Nat := 0x300C
def Reg.PLAN_SHADOW_ID : Nat := 0x3010
def Reg.PLAN_SHADOW_VER : Nat := 0x3014
def Reg.PLAN_SWITCH_STEP : Nat := 0x3018
def Reg.PLAN_SWITCH_PU : Nat := 0x301C
def Reg.PLAN_REPLACED : Nat := 0x3020
def Reg.PLAN_SWITCH_COUNT : Nat := 0x3024
def Reg.PLAN_SWITCH_LATE_COUNT : Nat := 0x3028
def Reg.PLAN_LAST_SWITCH_NS : Nat := 0x302C
def Reg.PLAN_LIB_VALID : Nat := 0x3030
def Reg.PLAN_OWNER_KEYS : Nat := 0x3038
def Reg.TENSOR_LAST_ERROR : Nat := 0x4000
def Reg.TENSOR_CTRL : Nat := 0x4004
def Reg.TENSOR_ALIAS_WAIVED_COUNT : Nat := 0x4008
def Reg.TENSOR_INDEX_ZERO_COUNT (k : Nat) : Nat := 0x4010 + 8 * k
def Reg.STREAM_LAST_ERROR (d : Nat) : Nat := dieBase d + 0x0010_0000
def Reg.STREAM_CTRL (d : Nat) : Nat := dieBase d + 0x0010_0004
def Reg.STREAM_ARM (d : Nat) : Nat := dieBase d + 0x0010_0008
def Reg.TASK_LIVE (d : Nat) : Nat := dieBase d + 0x0010_0010
def Reg.TASK_COMMIT_COUNT (d : Nat) : Nat := dieBase d + 0x0010_0018
def Reg.TASK_ABORT_COUNT (d : Nat) : Nat := dieBase d + 0x0010_0020
def Reg.STALL_CTRL (d : Nat) : Nat := dieBase d + 0x0010_0030
def Reg.STREAM_PARAM (d : Nat) (k : Nat) : Nat := dieBase d + 0x0010_0040 + 4 * k
def Reg.STREAM_STATUS (d : Nat) (k : Nat) : Nat := dieBase d + 0x0010_1000 + 8 * k
def Reg.LIFT_STATUS (d : Nat) (k : Nat) : Nat := dieBase d + 0x0014_0000 + 8 * k
def Reg.TASK_STATUS_W0 (d : Nat) (k : Nat) : Nat := dieBase d + 0x0015_0000 + 16 * k
def Reg.TASK_STATUS_W1 (d : Nat) (k : Nat) : Nat := dieBase d + 0x0015_0008 + 16 * k
def Reg.STALL (d : Nat) (n : Nat) (c : Nat) : Nat := dieBase d + 0x007C_0000 + 48 * n + 8 * c
def Reg.CELL_LAST_ERROR (d : Nat) : Nat := dieBase d + 0x4000
def Reg.CELL_CTRL (d : Nat) : Nat := dieBase d + 0x4004
def Reg.CELL_EXC_COUNT (d : Nat) : Nat := dieBase d + 0x4008
def Reg.CELL_LAST_EXC (d : Nat) : Nat := dieBase d + 0x4010
def Reg.CELL_LAST_EXC_TAG (d : Nat) : Nat := dieBase d + 0x4018
def Reg.CELL_RESIDUE_COUNT (d : Nat) : Nat := dieBase d + 0x4020
def Reg.CELL_RUN (d : Nat) (k : Nat) : Nat := dieBase d + 0x8000 + 8 * k
def Reg.CELL_HALTED (d : Nat) (k : Nat) : Nat := dieBase d + 0x0001_0000 + 8 * k
def Reg.SCHED_LAST_ERROR (d : Nat) : Nat := dieBase d + 0x0020_0000
def Reg.SYNC_CMD (d : Nat) : Nat := dieBase d + 0x0020_0008
def Reg.GATE_DISPATCH_COUNT (d : Nat) : Nat := dieBase d + 0x0020_0010
def Reg.FLOW_LIVE (d : Nat) : Nat := dieBase d + 0x0020_0018
def Reg.FLOW_WAIT_COUNT (d : Nat) : Nat := dieBase d + 0x0020_0020
def Reg.SYNC_SAT_COUNT (d : Nat) : Nat := dieBase d + 0x0020_0028
def Reg.SYNC_REMOTE_DROP_COUNT (d : Nat) : Nat := dieBase d + 0x0020_002C
def Reg.GATE_STATUS (d : Nat) (k : Nat) : Nat := dieBase d + 0x0021_0000 + 8 * k
def Reg.GATE_ASK (d : Nat) (k : Nat) : Nat := dieBase d + 0x0021_8000 + 8 * k
def Reg.SYNC_VALUE (d : Nat) (k : Nat) : Nat := dieBase d + 0x0028_0000 + 4 * k
def Reg.INGEST_LAST_ERROR (d : Nat) : Nat := dieBase d + 0x0030_0000
def Reg.INGEST_CTRL (d : Nat) : Nat := dieBase d + 0x0030_0004
def Reg.ING_JOBS_DONE (d : Nat) (k : Nat) : Nat := dieBase d + 0x0030_0100 + 64 * k
def Reg.ING_JOBS_FAILED (d : Nat) (k : Nat) : Nat := dieBase d + 0x0030_0108 + 64 * k
def Reg.ING_BYTES_IN (d : Nat) (k : Nat) : Nat := dieBase d + 0x0030_0110 + 64 * k
def Reg.ING_BYTES_OUT (d : Nat) (k : Nat) : Nat := dieBase d + 0x0030_0118 + 64 * k
def Reg.ING_ROWS_IN (d : Nat) (k : Nat) : Nat := dieBase d + 0x0030_0120 + 64 * k
def Reg.ING_ROWS_KEPT (d : Nat) (k : Nat) : Nat := dieBase d + 0x0030_0128 + 64 * k
def Reg.ING_LAST_FAIL (d : Nat) (k : Nat) : Nat := dieBase d + 0x0030_0130 + 64 * k
def Reg.ING_STATUS (d : Nat) (k : Nat) : Nat := dieBase d + 0x0030_0138 + 64 * k
def Reg.PACK_LAST_ERROR (d : Nat) : Nat := dieBase d + 0x0070_0000
def Reg.PACK_CMD (d : Nat) : Nat := dieBase d + 0x0070_0004
def Reg.PACK_STATUS (d : Nat) (k : Nat) : Nat := dieBase d + 0x0070_0100 + 128 * k
def Reg.PACK_BATCHES (d : Nat) (k : Nat) : Nat := dieBase d + 0x0070_0108 + 128 * k
def Reg.PACK_ADMITTED (d : Nat) (k : Nat) : Nat := dieBase d + 0x0070_0110 + 128 * k
def Reg.PACK_LATE (d : Nat) (k : Nat) : Nat := dieBase d + 0x0070_0118 + 128 * k
def Reg.PACK_DROPPED (d : Nat) (k : Nat) : Nat := dieBase d + 0x0070_0120 + 128 * k
def Reg.PACK_STALE (d : Nat) (k : Nat) : Nat := dieBase d + 0x0070_0128 + 128 * k
def Reg.PACK_DISCARDED (d : Nat) (k : Nat) : Nat := dieBase d + 0x0070_0130 + 128 * k
def Reg.PACK_OVERFLOW (d : Nat) (k : Nat) : Nat := dieBase d + 0x0070_0138 + 128 * k
def Reg.PACK_PAD_POSITIONS (d : Nat) (k : Nat) : Nat := dieBase d + 0x0070_0140 + 128 * k
def Reg.HASH_LAST_ERROR (d : Nat) : Nat := dieBase d + 0x0038_0000
def Reg.HASH_JOBS_DONE (d : Nat) (k : Nat) : Nat := dieBase d + 0x0038_1000 + 64 * k
def Reg.HASH_JOBS_FAILED (d : Nat) (k : Nat) : Nat := dieBase d + 0x0038_1008 + 64 * k
def Reg.HASH_ROWS (d : Nat) (k : Nat) : Nat := dieBase d + 0x0038_1010 + 64 * k
def Reg.HASH_NAN_COUNT (d : Nat) (k : Nat) : Nat := dieBase d + 0x0038_1018 + 64 * k
def Reg.HASH_LAST_FAIL (d : Nat) (k : Nat) : Nat := dieBase d + 0x0038_1020 + 64 * k
def Reg.HASH_STATUS (d : Nat) (k : Nat) : Nat := dieBase d + 0x0038_1028 + 64 * k
def Reg.MATCH_LAST_ERROR (d : Nat) : Nat := dieBase d + 0x0040_0000
def Reg.MATCH_HOST_CMD (d : Nat) : Nat := dieBase d + 0x0040_0008
def Reg.MATCH_HOST_REC0 (d : Nat) (k : Nat) : Nat := dieBase d + 0x0040_0100 + 4 * k
def Reg.MATCH_HOST_REC1 (d : Nat) (k : Nat) : Nat := dieBase d + 0x0040_0180 + 4 * k
def Reg.MATCH_SEARCHES (d : Nat) (k : Nat) : Nat := dieBase d + 0x0040_1000 + 64 * k
def Reg.MATCH_HITS (d : Nat) (k : Nat) : Nat := dieBase d + 0x0040_1008 + 64 * k
def Reg.MATCH_MULTI (d : Nat) (k : Nat) : Nat := dieBase d + 0x0040_1010 + 64 * k
def Reg.MATCH_UPDATES (d : Nat) (k : Nat) : Nat := dieBase d + 0x0040_1018 + 64 * k
def Reg.MATCH_JOBS_FAILED (d : Nat) (k : Nat) : Nat := dieBase d + 0x0040_1020 + 64 * k
def Reg.MATCH_LAST_FAIL (d : Nat) (k : Nat) : Nat := dieBase d + 0x0040_1028 + 64 * k
def Reg.MATCH_STATUS (d : Nat) (k : Nat) : Nat := dieBase d + 0x0040_1030 + 64 * k
def Reg.SELECT_LAST_ERROR (d : Nat) : Nat := dieBase d + 0x0050_0000
def Reg.SEL_ROWS_DONE (d : Nat) (k : Nat) : Nat := dieBase d + 0x0050_1000 + 64 * k
def Reg.SEL_JOBS_FAILED (d : Nat) (k : Nat) : Nat := dieBase d + 0x0050_1008 + 64 * k
def Reg.SEL_NAN_COUNT (d : Nat) (k : Nat) : Nat := dieBase d + 0x0050_1010 + 64 * k
def Reg.SEL_MERGE_CONFLICT (d : Nat) (k : Nat) : Nat := dieBase d + 0x0050_1018 + 64 * k
def Reg.SEL_DUPLICATES (d : Nat) (k : Nat) : Nat := dieBase d + 0x0050_1020 + 64 * k
def Reg.SEL_PASSES (d : Nat) (k : Nat) : Nat := dieBase d + 0x0050_1028 + 64 * k
def Reg.SEL_LAST_FAIL (d : Nat) (k : Nat) : Nat := dieBase d + 0x0050_1030 + 64 * k
def Reg.SEL_STATUS (d : Nat) (k : Nat) : Nat := dieBase d + 0x0050_1038 + 64 * k
def Reg.EMB_LAST_ERROR (d : Nat) : Nat := dieBase d + 0x0058_0000
def Reg.EMB_CMD (d : Nat) : Nat := dieBase d + 0x0058_0008
def Reg.EMB_STATUS (d : Nat) (k : Nat) : Nat := dieBase d + 0x0058_1000 + 128 * k
def Reg.EMB_LR (d : Nat) (k : Nat) : Nat := dieBase d + 0x0058_1008 + 128 * k
def Reg.EMB_LOOKUPS (d : Nat) (k : Nat) : Nat := dieBase d + 0x0058_1010 + 128 * k
def Reg.EMB_CACHE_HITS (d : Nat) (k : Nat) : Nat := dieBase d + 0x0058_1018 + 128 * k
def Reg.EMB_AREA_HITS (d : Nat) (k : Nat) : Nat := dieBase d + 0x0058_1020 + 128 * k
def Reg.EMB_CONTRIBS (d : Nat) (k : Nat) : Nat := dieBase d + 0x0058_1028 + 128 * k
def Reg.EMB_ROWS_UPDATED (d : Nat) (k : Nat) : Nat := dieBase d + 0x0058_1030 + 128 * k
def Reg.EMB_MIGRATED (d : Nat) (k : Nat) : Nat := dieBase d + 0x0058_1038 + 128 * k
def Reg.EMB_FORWARDED (d : Nat) (k : Nat) : Nat := dieBase d + 0x0058_1040 + 128 * k
def Reg.EMB_ZEROED (d : Nat) (k : Nat) : Nat := dieBase d + 0x0058_1048 + 128 * k
def Reg.EMB_STEP (d : Nat) (k : Nat) : Nat := dieBase d + 0x0058_1050 + 128 * k
def Reg.EMB_LOG_USED (d : Nat) (k : Nat) : Nat := dieBase d + 0x0058_1058 + 128 * k
def Reg.EMB_APPLY_LATE (d : Nat) (k : Nat) : Nat := dieBase d + 0x0058_105C + 128 * k
def Reg.GATHER_JOBS_DONE (d : Nat) (k : Nat) : Nat := dieBase d + 0x0058_4000 + 64 * k
def Reg.GATHER_JOBS_FAILED (d : Nat) (k : Nat) : Nat := dieBase d + 0x0058_4008 + 64 * k
def Reg.GATHER_LAST_FAIL (d : Nat) (k : Nat) : Nat := dieBase d + 0x0058_4010 + 64 * k
def Reg.GATHER_STATUS (d : Nat) (k : Nat) : Nat := dieBase d + 0x0058_4018 + 64 * k
def Reg.ARRAY_LAST_ERROR (d : Nat) : Nat := dieBase d + 0x0060_0000
def Reg.ARRAY_CMD (d : Nat) : Nat := dieBase d + 0x0060_0004
def Reg.ARR_JOBS_DONE (d : Nat) (k : Nat) : Nat := dieBase d + 0x0060_1000 + 64 * k
def Reg.ARR_JOBS_FAILED (d : Nat) (k : Nat) : Nat := dieBase d + 0x0060_1008 + 64 * k
def Reg.ARR_BUSY_CYCLES (d : Nat) (k : Nat) : Nat := dieBase d + 0x0060_1010 + 64 * k
def Reg.ARR_SKIPPED (d : Nat) (k : Nat) : Nat := dieBase d + 0x0060_1018 + 64 * k
def Reg.ARR_LAST_FAIL (d : Nat) (k : Nat) : Nat := dieBase d + 0x0060_1020 + 64 * k
def Reg.ARR_RESIDUE (d : Nat) (k : Nat) : Nat := dieBase d + 0x0060_1028 + 64 * k
def Reg.ARR_STATUS (d : Nat) (k : Nat) : Nat := dieBase d + 0x0060_1030 + 64 * k
def Reg.LINK_LAST_ERROR : Nat := 0x0600_1000
def Reg.GROUP_CTRL : Nat := 0x0600_1004
def Reg.GROUP_STATUS : Nat := 0x0600_1008
def Reg.GROUP_STEP_DELTA : Nat := 0x0600_100C
def Reg.GROUP_PRESENT : Nat := 0x0600_1010
def Reg.GROUP_LOST : Nat := 0x0600_1014
def Reg.GROUP_HOLD_COUNT : Nat := 0x0600_1018
def Reg.LINK_BAD_MSG_COUNT : Nat := 0x0600_101C
def Reg.GROUP_ROUTE (k : Nat) : Nat := 0x0600_1100 + 4 * k
def Reg.PORT_CTRL (p : Nat) : Nat := portBase p + 0x0000
def Reg.PORT_STATUS (p : Nat) : Nat := portBase p + 0x0004
def Reg.PORT_DELAY_NS (p : Nat) : Nat := portBase p + 0x0008
def Reg.PORT_CRC_ERRORS (p : Nat) : Nat := portBase p + 0x0010
def Reg.PORT_REPLAYS (p : Nat) : Nat := portBase p + 0x0018
def Reg.PORT_FEED_DROPS (p : Nat) : Nat := portBase p + 0x0020
def Reg.TRAV_LAST_ERROR (d : Nat) : Nat := dieBase d + 0x0074_0000
def Reg.TRAV_JOBS_DONE (d : Nat) (k : Nat) : Nat := dieBase d + 0x0074_0100 + 64 * k
def Reg.TRAV_JOBS_FAILED (d : Nat) (k : Nat) : Nat := dieBase d + 0x0074_0108 + 64 * k
def Reg.TRAV_BYTES_SENT (d : Nat) (k : Nat) : Nat := dieBase d + 0x0074_0110 + 64 * k
def Reg.TRAV_LAST_FAIL (d : Nat) (k : Nat) : Nat := dieBase d + 0x0074_0118 + 64 * k
def Reg.TRAV_STATUS (d : Nat) (k : Nat) : Nat := dieBase d + 0x0074_0120 + 64 * k
def Reg.MEM_LAST_ERROR : Nat := 0x0600_4000
def Reg.MEM_CONFIG : Nat := 0x0600_4004
def Reg.MEM_STATUS : Nat := 0x0600_4008
def Reg.DDR_MAPPED : Nat := 0x0600_4010
def Reg.VM_CTRL : Nat := 0x0600_4018
def Reg.VM_ROOT : Nat := 0x0600_4020
def Reg.VM_INVAL : Nat := 0x0600_4028
def Reg.GROOM_CTRL : Nat := 0x0600_4030
def Reg.MEM_PEER_REJECT : Nat := 0x0600_4038
def Reg.GROOM_PASSES (k : Nat) : Nat := 0x0600_4040 + 8 * k
def Reg.MEM_CE_COUNT (k : Nat) : Nat := 0x0600_4060 + 8 * k
def Reg.MEM_UE_COUNT (k : Nat) : Nat := 0x0600_4080 + 8 * k
def Reg.MEM_LAST_UE : Nat := 0x0600_40A0
def Reg.VM_FAULT_COUNT : Nat := 0x0600_40A8
def Reg.VM_LAST_FAULT : Nat := 0x0600_40B0
def Reg.VM_LAST_FAULT_INFO : Nat := 0x0600_40B8
def Reg.MEM_TILE_HITS (d : Nat) : Nat := dieBase d + 0x0078_0000
def Reg.MEM_TILE_MISSES (d : Nat) : Nat := dieBase d + 0x0078_0008
def Reg.MEM_TLB_MISSES (d : Nat) : Nat := dieBase d + 0x0078_0010
def Reg.MEMD_STATUS (d : Nat) : Nat := dieBase d + 0x0078_0018
def Reg.DEV_ID : Nat := 0x0000
def Reg.DEV_REV : Nat := 0x0004
def Reg.DEV_SERIAL : Nat := 0x0008
def Reg.CAP_HEAD : Nat := 0x0010
def Reg.DEV_STATUS : Nat := 0x0014
def Reg.ERR_SUMMARY : Nat := 0x0018
def Reg.RESET_CTRL : Nat := 0x001C
def Reg.HOST_LAST_ERROR : Nat := 0x0010_0000
def Reg.HOST_STATE : Nat := 0x0010_0004
def Reg.WDOG_CTRL : Nat := 0x0010_0008
def Reg.WDOG_REMAIN : Nat := 0x0010_000C
def Reg.MB_HSEQ_NEXT : Nat := 0x0010_0010
def Reg.MB_HSEQ_POSTED : Nat := 0x0010_0014
def Reg.MB_DSEQ_NEXT : Nat := 0x0010_0018
def Reg.MB_D2H_POS : Nat := 0x0010_001C
def Reg.MB_D2H_ACKED : Nat := 0x0010_0020
def Reg.MB_CTRL : Nat := 0x0010_0024
def Reg.MB_DROPPED : Nat := 0x0010_0028
def Reg.MB_CLASS_BUSY : Nat := 0x0010_002C
def Reg.BAR4_BASE : Nat := 0x0010_0030
def Reg.BAR4_UNMAPPED_COUNT : Nat := 0x0010_0038
def Reg.MB_DISCARDED : Nat := 0x0010_003C
def Reg.IRQ_MAP (k : Nat) : Nat := 0x0010_1000 + 8 * k
def Reg.H2D_DOORBELL : Nat := 0x10F0_0000
def Reg.D2H_ACK : Nat := 0x10F0_0004
def Reg.HEARTBEAT : Nat := 0x10F0_0008
def Reg.EVR_SEQ_NEXT : Nat := 0x0044_0000
def Reg.EVR_VALID_COUNT : Nat := 0x0044_0004
def Reg.EVR_DROPPED : Nat := 0x0044_0008
def Reg.EVR_OVERWRITTEN : Nat := 0x0044_000C
def Reg.EVR_RELEASE : Nat := 0x0044_0010
def Reg.EVR_FLASH_STATUS : Nat := 0x0044_0018
def Reg.FMAP_CMD : Nat := 0x0044_0100
def Reg.FMAP_CMD_ENTRY : Nat := 0x0044_0108
def Reg.FMAP_STATUS : Nat := 0x0044_0110
def Reg.FMAP_CHANGES : Nat := 0x0044_0114
def Reg.FMAP_ENTRY (k : Nat) : Nat := 0x0044_8000 + 8 * k
def Reg.ERRQ_STATUS (q : Nat) : Nat := (if q < 4 then dieBase q + 0x1000 else 0x0600_5000 + 0x0000)
def Reg.ERRQ_HANDLED (q : Nat) : Nat := (if q < 4 then dieBase q + 0x1008 else 0x0600_5000 + 0x0008)
def Reg.ERRQ_PREEMPTED (q : Nat) : Nat := (if q < 4 then dieBase q + 0x1010 else 0x0600_5000 + 0x0010)
def Reg.ERRQ_DISCARDED (q : Nat) : Nat := (if q < 4 then dieBase q + 0x1018 else 0x0600_5000 + 0x0018)
def Reg.MGMT_LAST_ERROR : Nat := 0x0020_0000
def Reg.PWR_CAP : Nat := 0x0020_0004
def Reg.FREQ_CAP : Nat := 0x0020_0008
def Reg.GOV_STATUS : Nat := 0x0020_000C
def Reg.PKG_POWER : Nat := 0x0020_0010
def Reg.GOV_GATED_PERIODS : Nat := 0x0020_0018
def Reg.DIE_CLOCK (k : Nat) : Nat := 0x0020_0020 + 8 * k
def Reg.RAIL_MON (k : Nat) : Nat := 0x0020_0040 + 8 * k
def Reg.FW_STATUS : Nat := 0x0020_0100
def Reg.FW_RUNNING : Nat := 0x0020_0108
def Reg.SEC_LAST_ERROR : Nat := 0x0030_0000
def Reg.SEC_STATUS : Nat := 0x0030_0004
def Reg.SEC_PLAN_MEAS (k : Nat) : Nat := 0x0030_0100 + 4 * k
def Reg.STRAP_STATUS : Nat := 0x0020
def Reg.VR_STATUS : Nat := 0x0020_0110

def Fd.CAD_CTRL_SRC_SEL : Fld := ⟨0, 3⟩
def Fd.CAD_CTRL_LINK_PORT : Fld := ⟨3, 3⟩
def Fd.CAD_FREE_PERIOD_PERIOD_NS : Fld := ⟨0, 32⟩
def Fd.CAD_MIN_GAP_MIN_GAP_NS : Fld := ⟨0, 32⟩
def Fd.CAD_HOST_MARK_MARK : Fld := ⟨0, 1⟩
def Fd.CAD_STATUS_SRC_ACTIVE : Fld := ⟨0, 3⟩
def Fd.CAD_STATUS_LOCKED : Fld := ⟨3, 1⟩
def Fd.CAD_STATUS_SRC_LOST : Fld := ⟨4, 1⟩
def Fd.CAD_STATUS_HIST_FILL : Fld := ⟨5, 4⟩
def Fd.PHASE_PHASE : Fld := ⟨0, 16⟩
def Fd.PHASE_SATURATED : Fld := ⟨16, 1⟩
def Fd.PHASE_SEGMENT : Fld := ⟨17, 2⟩
def Fd.STEP_NUM_STEP : Fld := ⟨0, 32⟩
def Fd.CAD_PRED_PERIOD_PRED_NS : Fld := ⟨0, 32⟩
def Fd.CAD_LAST_INTERVAL_INTERVAL_NS : Fld := ⟨0, 32⟩
def Fd.CAD_LAST_MARK_CAL_CAL_NS : Fld := ⟨0, 64⟩
def Fd.SEG_BOUNDS_B1 : Fld := ⟨0, 16⟩
def Fd.SEG_BOUNDS_B2 : Fld := ⟨16, 16⟩
def Fd.SEG_BOUNDS_B3 : Fld := ⟨32, 16⟩
def Fd.CAD_OVERRUN_COUNT_COUNT : Fld := ⟨0, 32⟩
def Fd.CAD_EARLY_COUNT_COUNT : Fld := ⟨0, 32⟩
def Fd.CAD_NIGHT_OVERRUN_COUNT_COUNT : Fld := ⟨0, 32⟩
def Fd.CAD_GLITCH_COUNT_COUNT : Fld := ⟨0, 32⟩
def Fd.CAD_LOSS_COUNT_COUNT : Fld := ⟨0, 32⟩
def Fd.CAL_CTRL_SRC : Fld := ⟨0, 2⟩
def Fd.CAL_CTRL_PTP_PORT : Fld := ⟨2, 3⟩
def Fd.CAL_EPOCH_SEC_SECONDS : Fld := ⟨0, 64⟩
def Fd.CAL_TIME_NS : Fld := ⟨0, 64⟩
def Fd.CAL_STATUS_VALID : Fld := ⟨0, 1⟩
def Fd.CAL_STATUS_HOLDOVER : Fld := ⟨1, 1⟩
def Fd.CAL_STATUS_ARMED : Fld := ⟨2, 1⟩
def Fd.PLAN_SLOT_STATE_SHADOW_STATE : Fld := ⟨0, 3⟩
def Fd.PLAN_SLOT_STATE_ACTIVE_VALID : Fld := ⟨3, 1⟩
def Fd.PLAN_SLOT_STATE_ACTIVE_INDEX : Fld := ⟨4, 6⟩
def Fd.PLAN_SLOT_STATE_SHADOW_INDEX : Fld := ⟨10, 6⟩
def Fd.PLAN_SLOT_STATE_FENCE_STALE : Fld := ⟨16, 1⟩
def Fd.PLAN_ACTIVE_ID_PLAN_ID : Fld := ⟨0, 32⟩
def Fd.PLAN_ACTIVE_VER_PLAN_VERSION : Fld := ⟨0, 32⟩
def Fd.PLAN_SHADOW_ID_PLAN_ID : Fld := ⟨0, 32⟩
def Fd.PLAN_SHADOW_VER_PLAN_VERSION : Fld := ⟨0, 32⟩
def Fd.PLAN_SWITCH_STEP_STEP : Fld := ⟨0, 32⟩
def Fd.PLAN_SWITCH_PU_PU : Fld := ⟨0, 16⟩
def Fd.PLAN_REPLACED_MOVED : Fld := ⟨0, 32⟩
def Fd.PLAN_SWITCH_COUNT_COUNT : Fld := ⟨0, 32⟩
def Fd.PLAN_SWITCH_LATE_COUNT_COUNT : Fld := ⟨0, 32⟩
def Fd.PLAN_LAST_SWITCH_NS_NS : Fld := ⟨0, 32⟩
def Fd.PLAN_LIB_VALID_VALID : Fld := ⟨0, 64⟩
def Fd.PLAN_OWNER_KEYS_PROVISIONED : Fld := ⟨0, 4⟩
def Fd.PLAN_OWNER_KEYS_ENFORCED : Fld := ⟨4, 1⟩
def Fd.TENSOR_CTRL_ALIAS_CHECK : Fld := ⟨0, 1⟩
def Fd.TENSOR_ALIAS_WAIVED_COUNT_COUNT : Fld := ⟨0, 32⟩
def Fd.TENSOR_INDEX_ZERO_COUNT_COUNT : Fld := ⟨0, 64⟩
def Fd.STREAM_CTRL_RUNAHEAD_EN : Fld := ⟨0, 1⟩
def Fd.STREAM_CTRL_FORCE_PER_ARRAY : Fld := ⟨1, 1⟩
def Fd.STREAM_ARM_STREAM_ID : Fld := ⟨0, 15⟩
def Fd.STREAM_ARM_TAG : Fld := ⟨15, 32⟩
def Fd.TASK_LIVE_LIVE : Fld := ⟨0, 11⟩
def Fd.TASK_COMMIT_COUNT_COUNT : Fld := ⟨0, 64⟩
def Fd.TASK_ABORT_COUNT_COUNT : Fld := ⟨0, 64⟩
def Fd.STALL_CTRL_CLEAR : Fld := ⟨0, 1⟩
def Fd.STREAM_PARAM_P : Fld := ⟨0, 32⟩
def Fd.STREAM_STATUS_STATE : Fld := ⟨0, 2⟩
def Fd.STREAM_STATUS_ABORTED : Fld := ⟨2, 1⟩
def Fd.STREAM_STATUS_OUTSTANDING : Fld := ⟨3, 4⟩
def Fd.STREAM_STATUS_CODE : Fld := ⟨16, 16⟩
def Fd.STREAM_STATUS_TAG : Fld := ⟨32, 32⟩
def Fd.LIFT_STATUS_DEPTH : Fld := ⟨0, 9⟩
def Fd.LIFT_STATUS_DEFINED : Fld := ⟨9, 1⟩
def Fd.LIFT_STATUS_HEAD_TAG : Fld := ⟨32, 32⟩
def Fd.TASK_STATUS_W0_TAG : Fld := ⟨0, 32⟩
def Fd.TASK_STATUS_W0_STATE : Fld := ⟨32, 3⟩
def Fd.TASK_STATUS_W0_CODE : Fld := ⟨48, 16⟩
def Fd.TASK_STATUS_W1_REFS : Fld := ⟨0, 32⟩
def Fd.TASK_STATUS_W1_STAGED_KIB : Fld := ⟨32, 32⟩
def Fd.STALL_COUNT : Fld := ⟨0, 48⟩
def Fd.CELL_CTRL_EXC_HALT : Fld := ⟨0, 1⟩
def Fd.CELL_EXC_COUNT_COUNT : Fld := ⟨0, 64⟩
def Fd.CELL_LAST_EXC_CODE : Fld := ⟨0, 16⟩
def Fd.CELL_LAST_EXC_CELL : Fld := ⟨16, 20⟩
def Fd.CELL_LAST_EXC_PC_WORD : Fld := ⟨36, 12⟩
def Fd.CELL_LAST_EXC_TAG_TAG : Fld := ⟨0, 32⟩
def Fd.CELL_RESIDUE_COUNT_COUNT : Fld := ⟨0, 64⟩
def Fd.CELL_RUN_RUN : Fld := ⟨0, 64⟩
def Fd.CELL_HALTED_HALTED : Fld := ⟨0, 64⟩
def Fd.SYNC_CMD_INDEX : Fld := ⟨0, 16⟩
def Fd.SYNC_CMD_OP : Fld := ⟨16, 2⟩
def Fd.SYNC_CMD_AMOUNT : Fld := ⟨32, 32⟩
def Fd.GATE_DISPATCH_COUNT_COUNT : Fld := ⟨0, 64⟩
def Fd.FLOW_LIVE_LIVE : Fld := ⟨0, 17⟩
def Fd.FLOW_WAIT_COUNT_COUNT : Fld := ⟨0, 64⟩
def Fd.SYNC_SAT_COUNT_COUNT : Fld := ⟨0, 32⟩
def Fd.SYNC_REMOTE_DROP_COUNT_COUNT : Fld := ⟨0, 32⟩
def Fd.GATE_STATUS_ENTRIES_USED : Fld := ⟨0, 10⟩
def Fd.GATE_STATUS_READY : Fld := ⟨10, 10⟩
def Fd.GATE_STATUS_DELAYED : Fld := ⟨20, 10⟩
def Fd.GATE_STATUS_IN_SERVICE : Fld := ⟨32, 7⟩
def Fd.GATE_STATUS_FLOWS_HELD : Fld := ⟨39, 10⟩
def Fd.GATE_ASK_ASKING : Fld := ⟨0, 64⟩
def Fd.SYNC_VALUE_VALUE : Fld := ⟨0, 32⟩
def Fd.INGEST_CTRL_EXP_LIMIT : Fld := ⟨0, 13⟩
def Fd.ING_JOBS_DONE_COUNT : Fld := ⟨0, 64⟩
def Fd.ING_JOBS_FAILED_COUNT : Fld := ⟨0, 64⟩
def Fd.ING_BYTES_IN_COUNT : Fld := ⟨0, 64⟩
def Fd.ING_BYTES_OUT_COUNT : Fld := ⟨0, 64⟩
def Fd.ING_ROWS_IN_COUNT : Fld := ⟨0, 64⟩
def Fd.ING_ROWS_KEPT_COUNT : Fld := ⟨0, 64⟩
def Fd.ING_LAST_FAIL_CODE : Fld := ⟨0, 16⟩
def Fd.ING_LAST_FAIL_TAG : Fld := ⟨16, 32⟩
def Fd.ING_STATUS_BUSY : Fld := ⟨0, 1⟩
def Fd.ING_STATUS_BUFS_HELD : Fld := ⟨1, 9⟩
def Fd.PACK_CMD_FLUSH : Fld := ⟨0, 4⟩
def Fd.PACK_STATUS_OPEN : Fld := ⟨0, 3⟩
def Fd.PACK_STATUS_SLOTS_BUSY : Fld := ⟨3, 4⟩
def Fd.PACK_STATUS_HELD : Fld := ⟨8, 17⟩
def Fd.PACK_STATUS_STRAGGLERS : Fld := ⟨32, 13⟩
def Fd.PACK_BATCHES_COUNT : Fld := ⟨0, 64⟩
def Fd.PACK_ADMITTED_COUNT : Fld := ⟨0, 64⟩
def Fd.PACK_LATE_COUNT : Fld := ⟨0, 64⟩
def Fd.PACK_DROPPED_COUNT : Fld := ⟨0, 64⟩
def Fd.PACK_STALE_COUNT : Fld := ⟨0, 64⟩
def Fd.PACK_DISCARDED_COUNT : Fld := ⟨0, 64⟩
def Fd.PACK_OVERFLOW_COUNT : Fld := ⟨0, 64⟩
def Fd.PACK_PAD_POSITIONS_COUNT : Fld := ⟨0, 64⟩
def Fd.HASH_JOBS_DONE_COUNT : Fld := ⟨0, 64⟩
def Fd.HASH_JOBS_FAILED_COUNT : Fld := ⟨0, 64⟩
def Fd.HASH_ROWS_COUNT : Fld := ⟨0, 64⟩
def Fd.HASH_NAN_COUNT_COUNT : Fld := ⟨0, 64⟩
def Fd.HASH_LAST_FAIL_CODE : Fld := ⟨0, 16⟩
def Fd.HASH_LAST_FAIL_TAG : Fld := ⟨16, 32⟩
def Fd.HASH_STATUS_BUSY : Fld := ⟨0, 1⟩
def Fd.HASH_STATUS_BUFS_HELD : Fld := ⟨1, 2⟩
def Fd.MATCH_HOST_CMD_BANK : Fld := ⟨0, 6⟩
def Fd.MATCH_HOST_CMD_WIDE : Fld := ⟨6, 1⟩
def Fd.MATCH_HOST_CMD_ACTION : Fld := ⟨7, 2⟩
def Fd.MATCH_HOST_CMD_GO : Fld := ⟨9, 1⟩
def Fd.MATCH_HOST_CMD_ENTRY_STATE : Fld := ⟨10, 2⟩
def Fd.MATCH_HOST_CMD_CODE : Fld := ⟨32, 16⟩
def Fd.MATCH_HOST_REC0_DATA : Fld := ⟨0, 32⟩
def Fd.MATCH_HOST_REC1_DATA : Fld := ⟨0, 32⟩
def Fd.MATCH_SEARCHES_COUNT : Fld := ⟨0, 64⟩
def Fd.MATCH_HITS_COUNT : Fld := ⟨0, 64⟩
def Fd.MATCH_MULTI_COUNT : Fld := ⟨0, 64⟩
def Fd.MATCH_UPDATES_COUNT : Fld := ⟨0, 64⟩
def Fd.MATCH_JOBS_FAILED_COUNT : Fld := ⟨0, 64⟩
def Fd.MATCH_LAST_FAIL_CODE : Fld := ⟨0, 16⟩
def Fd.MATCH_LAST_FAIL_TAG : Fld := ⟨16, 32⟩
def Fd.MATCH_STATUS_BUSY : Fld := ⟨0, 1⟩
def Fd.MATCH_STATUS_LEADER : Fld := ⟨1, 1⟩
def Fd.MATCH_STATUS_MEMBER : Fld := ⟨2, 1⟩
def Fd.MATCH_STATUS_BAD_ENTRIES : Fld := ⟨3, 13⟩
def Fd.SEL_ROWS_DONE_COUNT : Fld := ⟨0, 64⟩
def Fd.SEL_JOBS_FAILED_COUNT : Fld := ⟨0, 64⟩
def Fd.SEL_NAN_COUNT_COUNT : Fld := ⟨0, 64⟩
def Fd.SEL_MERGE_CONFLICT_COUNT : Fld := ⟨0, 64⟩
def Fd.SEL_DUPLICATES_COUNT : Fld := ⟨0, 64⟩
def Fd.SEL_PASSES_COUNT : Fld := ⟨0, 64⟩
def Fd.SEL_LAST_FAIL_CODE : Fld := ⟨0, 16⟩
def Fd.SEL_LAST_FAIL_TAG : Fld := ⟨16, 32⟩
def Fd.SEL_STATUS_BUSY : Fld := ⟨0, 1⟩
def Fd.SEL_STATUS_ROWS_OPEN : Fld := ⟨1, 4⟩
def Fd.EMB_CMD_TABLE : Fld := ⟨0, 6⟩
def Fd.EMB_CMD_ACTION : Fld := ⟨6, 2⟩
def Fd.EMB_CMD_GO : Fld := ⟨8, 1⟩
def Fd.EMB_CMD_CODE : Fld := ⟨32, 16⟩
def Fd.EMB_STATUS_DEFINED : Fld := ⟨0, 1⟩
def Fd.EMB_STATUS_KEPT : Fld := ⟨1, 1⟩
def Fd.EMB_STATUS_ROUND : Fld := ⟨2, 2⟩
def Fd.EMB_STATUS_APPLY_BUSY : Fld := ⟨4, 1⟩
def Fd.EMB_STATUS_FLUSH_PENDING : Fld := ⟨5, 1⟩
def Fd.EMB_STATUS_MOVING : Fld := ⟨32, 19⟩
def Fd.EMB_LR_LR : Fld := ⟨0, 32⟩
def Fd.EMB_LOOKUPS_COUNT : Fld := ⟨0, 64⟩
def Fd.EMB_CACHE_HITS_COUNT : Fld := ⟨0, 64⟩
def Fd.EMB_AREA_HITS_COUNT : Fld := ⟨0, 64⟩
def Fd.EMB_CONTRIBS_COUNT : Fld := ⟨0, 64⟩
def Fd.EMB_ROWS_UPDATED_COUNT : Fld := ⟨0, 64⟩
def Fd.EMB_MIGRATED_COUNT : Fld := ⟨0, 64⟩
def Fd.EMB_FORWARDED_COUNT : Fld := ⟨0, 64⟩
def Fd.EMB_ZEROED_COUNT : Fld := ⟨0, 64⟩
def Fd.EMB_STEP_T : Fld := ⟨0, 64⟩
def Fd.EMB_LOG_USED_ENTRIES : Fld := ⟨0, 27⟩
def Fd.EMB_APPLY_LATE_COUNT : Fld := ⟨0, 32⟩
def Fd.GATHER_JOBS_DONE_COUNT : Fld := ⟨0, 64⟩
def Fd.GATHER_JOBS_FAILED_COUNT : Fld := ⟨0, 64⟩
def Fd.GATHER_LAST_FAIL_CODE : Fld := ⟨0, 16⟩
def Fd.GATHER_LAST_FAIL_TAG : Fld := ⟨16, 32⟩
def Fd.GATHER_STATUS_BUSY : Fld := ⟨0, 1⟩
def Fd.GATHER_STATUS_APPLYING : Fld := ⟨1, 1⟩
def Fd.ARRAY_CMD_SELFTEST : Fld := ⟨0, 8⟩
def Fd.ARR_JOBS_DONE_COUNT : Fld := ⟨0, 64⟩
def Fd.ARR_JOBS_FAILED_COUNT : Fld := ⟨0, 64⟩
def Fd.ARR_BUSY_CYCLES_COUNT : Fld := ⟨0, 64⟩
def Fd.ARR_SKIPPED_COUNT : Fld := ⟨0, 64⟩
def Fd.ARR_LAST_FAIL_CODE : Fld := ⟨0, 16⟩
def Fd.ARR_LAST_FAIL_TAG : Fld := ⟨16, 32⟩
def Fd.ARR_RESIDUE_COUNT : Fld := ⟨0, 64⟩
def Fd.ARR_STATUS_BUSY : Fld := ⟨0, 1⟩
def Fd.ARR_STATUS_OP : Fld := ⟨1, 2⟩
def Fd.ARR_STATUS_SELFTEST : Fld := ⟨3, 1⟩
def Fd.ARR_STATUS_FENCED : Fld := ⟨4, 1⟩
def Fd.ARR_STATUS_LAST_SELFTEST_FAIL : Fld := ⟨5, 1⟩
def Fd.GROUP_CTRL_ENABLE : Fld := ⟨0, 1⟩
def Fd.GROUP_CTRL_MEMBER_ID : Fld := ⟨1, 5⟩
def Fd.GROUP_CTRL_CAD_LEADER : Fld := ⟨6, 5⟩
def Fd.GROUP_CTRL_CAD_SEND : Fld := ⟨11, 1⟩
def Fd.GROUP_STATUS_FORMED : Fld := ⟨0, 1⟩
def Fd.GROUP_STATUS_HELD : Fld := ⟨1, 1⟩
def Fd.GROUP_STATUS_STEP_SKEW : Fld := ⟨2, 1⟩
def Fd.GROUP_STEP_DELTA_DELTA : Fld := ⟨0, 32⟩
def Fd.GROUP_PRESENT_PRESENT : Fld := ⟨0, 32⟩
def Fd.GROUP_LOST_LOST : Fld := ⟨0, 32⟩
def Fd.GROUP_HOLD_COUNT_COUNT : Fld := ⟨0, 32⟩
def Fd.LINK_BAD_MSG_COUNT_COUNT : Fld := ⟨0, 32⟩
def Fd.GROUP_ROUTE_PORT : Fld := ⟨0, 3⟩
def Fd.GROUP_ROUTE_VALID : Fld := ⟨3, 1⟩
def Fd.GROUP_ROUTE_ALT_PORT : Fld := ⟨4, 3⟩
def Fd.GROUP_ROUTE_ALT_VALID : Fld := ⟨7, 1⟩
def Fd.PORT_CTRL_ENABLE : Fld := ⟨0, 1⟩
def Fd.PORT_CTRL_MODE : Fld := ⟨1, 1⟩
def Fd.PORT_CTRL_ROCE_EN : Fld := ⟨2, 1⟩
def Fd.PORT_CTRL_PTP_EN : Fld := ⟨3, 1⟩
def Fd.PORT_CTRL_FEED_EN : Fld := ⟨4, 1⟩
def Fd.PORT_STATUS_LINK_UP : Fld := ⟨0, 1⟩
def Fd.PORT_STATUS_PTP_LOCK : Fld := ⟨1, 1⟩
def Fd.PORT_STATUS_RETRAIN : Fld := ⟨2, 1⟩
def Fd.PORT_STATUS_PEER_MEMBER : Fld := ⟨3, 5⟩
def Fd.PORT_STATUS_PEER_VALID : Fld := ⟨8, 1⟩
def Fd.PORT_DELAY_NS_DELAY : Fld := ⟨0, 32⟩
def Fd.PORT_CRC_ERRORS_COUNT : Fld := ⟨0, 64⟩
def Fd.PORT_REPLAYS_COUNT : Fld := ⟨0, 64⟩
def Fd.PORT_FEED_DROPS_COUNT : Fld := ⟨0, 64⟩
def Fd.TRAV_JOBS_DONE_COUNT : Fld := ⟨0, 64⟩
def Fd.TRAV_JOBS_FAILED_COUNT : Fld := ⟨0, 64⟩
def Fd.TRAV_BYTES_SENT_COUNT : Fld := ⟨0, 64⟩
def Fd.TRAV_LAST_FAIL_CODE : Fld := ⟨0, 16⟩
def Fd.TRAV_LAST_FAIL_TAG : Fld := ⟨16, 32⟩
def Fd.TRAV_STATUS_BUSY : Fld := ⟨0, 1⟩
def Fd.TRAV_STATUS_WAIT_READY : Fld := ⟨1, 1⟩
def Fd.TRAV_STATUS_MIGRATING : Fld := ⟨2, 1⟩
def Fd.MEM_CONFIG_DDR_CHANNELS : Fld := ⟨0, 5⟩
def Fd.MEM_CONFIG_DDR_TYPE : Fld := ⟨5, 2⟩
def Fd.MEM_CONFIG_DPC2 : Fld := ⟨7, 1⟩
def Fd.MEM_CONFIG_DIMM_GIB : Fld := ⟨8, 12⟩
def Fd.MEM_CONFIG_HBM_STACK_GIB : Fld := ⟨20, 8⟩
def Fd.MEM_STATUS_TRAINED : Fld := ⟨0, 1⟩
def Fd.MEM_STATUS_HBM_READY : Fld := ⟨1, 4⟩
def Fd.MEM_STATUS_BONDED_READY : Fld := ⟨5, 4⟩
def Fd.MEM_STATUS_DDR_READY : Fld := ⟨9, 1⟩
def Fd.MEM_STATUS_DDR_MISMATCH : Fld := ⟨10, 1⟩
def Fd.MEM_STATUS_TRAIN_CODE : Fld := ⟨16, 16⟩
def Fd.DDR_MAPPED_BYTES : Fld := ⟨0, 64⟩
def Fd.VM_CTRL_ENABLE : Fld := ⟨0, 1⟩
def Fd.VM_CTRL_ATS_EN : Fld := ⟨1, 1⟩
def Fd.VM_CTRL_PRI_EN : Fld := ⟨2, 1⟩
def Fd.VM_ROOT_ROOT : Fld := ⟨21, 35⟩
def Fd.VM_INVAL_SCOPE : Fld := ⟨0, 2⟩
def Fd.VM_INVAL_GO : Fld := ⟨2, 1⟩
def Fd.VM_INVAL_VA : Fld := ⟨12, 45⟩
def Fd.GROOM_CTRL_ENABLE : Fld := ⟨0, 1⟩
def Fd.GROOM_CTRL_NIGHT_BURST : Fld := ⟨1, 1⟩
def Fd.MEM_PEER_REJECT_COUNT : Fld := ⟨0, 64⟩
def Fd.GROOM_PASSES_COUNT : Fld := ⟨0, 64⟩
def Fd.MEM_CE_COUNT_COUNT : Fld := ⟨0, 64⟩
def Fd.MEM_UE_COUNT_COUNT : Fld := ⟨0, 64⟩
def Fd.MEM_LAST_UE_ADDR : Fld := ⟨0, 56⟩
def Fd.MEM_LAST_UE_TIER : Fld := ⟨56, 2⟩
def Fd.MEM_LAST_UE_BY_GROOMER : Fld := ⟨58, 1⟩
def Fd.VM_FAULT_COUNT_COUNT : Fld := ⟨0, 64⟩
def Fd.VM_LAST_FAULT_VA : Fld := ⟨0, 57⟩
def Fd.VM_LAST_FAULT_INFO_CODE : Fld := ⟨0, 16⟩
def Fd.VM_LAST_FAULT_INFO_LEVEL : Fld := ⟨16, 2⟩
def Fd.VM_LAST_FAULT_INFO_WRITE : Fld := ⟨18, 1⟩
def Fd.MEM_TILE_HITS_COUNT : Fld := ⟨0, 64⟩
def Fd.MEM_TILE_MISSES_COUNT : Fld := ⟨0, 64⟩
def Fd.MEM_TLB_MISSES_COUNT : Fld := ⟨0, 64⟩
def Fd.MEMD_STATUS_SPARES_USED : Fld := ⟨0, 5⟩
def Fd.MEMD_STATUS_STACK_OK : Fld := ⟨5, 4⟩
def Fd.DEV_ID_VENDOR : Fld := ⟨0, 16⟩
def Fd.DEV_ID_DEVICE : Fld := ⟨16, 16⟩
def Fd.DEV_REV_REVISION : Fld := ⟨0, 8⟩
def Fd.DEV_REV_HBM_GIB : Fld := ⟨16, 11⟩
def Fd.DEV_SERIAL_SERIAL : Fld := ⟨0, 64⟩
def Fd.CAP_HEAD_OFFSET : Fld := ⟨0, 32⟩
def Fd.DEV_STATUS_READY : Fld := ⟨0, 1⟩
def Fd.DEV_STATUS_RESET_BUSY : Fld := ⟨1, 1⟩
def Fd.ERR_SUMMARY_BLOCKS : Fld := ⟨1, 17⟩
def Fd.ERR_SUMMARY_FATAL : Fld := ⟨31, 1⟩
def Fd.RESET_CTRL_DEVICE_RESET : Fld := ⟨0, 1⟩
def Fd.RESET_CTRL_KEY : Fld := ⟨16, 16⟩
def Fd.HOST_STATE_STATE : Fld := ⟨0, 2⟩
def Fd.HOST_STATE_WDOG_EXPIRED : Fld := ⟨2, 1⟩
def Fd.HOST_STATE_DMA_OFF : Fld := ⟨3, 1⟩
def Fd.HOST_STATE_READY : Fld := ⟨4, 1⟩
def Fd.WDOG_CTRL_ENABLE : Fld := ⟨0, 1⟩
def Fd.WDOG_CTRL_PERIOD_MS : Fld := ⟨1, 16⟩
def Fd.WDOG_REMAIN_MS : Fld := ⟨0, 32⟩
def Fd.MB_HSEQ_NEXT_HSEQ : Fld := ⟨0, 32⟩
def Fd.MB_HSEQ_POSTED_HSEQ : Fld := ⟨0, 32⟩
def Fd.MB_DSEQ_NEXT_DSEQ : Fld := ⟨0, 32⟩
def Fd.MB_D2H_POS_POS : Fld := ⟨0, 32⟩
def Fd.MB_D2H_ACKED_POS : Fld := ⟨0, 32⟩
def Fd.MB_CTRL_DISCARD : Fld := ⟨0, 1⟩
def Fd.MB_CTRL_COALESCE_US : Fld := ⟨8, 8⟩
def Fd.MB_DROPPED_COUNT : Fld := ⟨0, 32⟩
def Fd.MB_CLASS_BUSY_BUSY : Fld := ⟨0, 16⟩
def Fd.BAR4_BASE_BASE : Fld := ⟨0, 64⟩
def Fd.BAR4_UNMAPPED_COUNT_COUNT : Fld := ⟨0, 32⟩
def Fd.MB_DISCARDED_COUNT : Fld := ⟨0, 32⟩
def Fd.IRQ_MAP_INDEX : Fld := ⟨0, 16⟩
def Fd.IRQ_MAP_DIE : Fld := ⟨16, 2⟩
def Fd.IRQ_MAP_ARMED : Fld := ⟨18, 1⟩
def Fd.IRQ_MAP_THRESHOLD : Fld := ⟨32, 32⟩
def Fd.H2D_DOORBELL_POSTED : Fld := ⟨0, 32⟩
def Fd.D2H_ACK_POS : Fld := ⟨0, 32⟩
def Fd.HEARTBEAT_VALUE : Fld := ⟨0, 32⟩
def Fd.EVR_SEQ_NEXT_SEQ : Fld := ⟨0, 32⟩
def Fd.EVR_VALID_COUNT_COUNT : Fld := ⟨0, 13⟩
def Fd.EVR_DROPPED_COUNT : Fld := ⟨0, 32⟩
def Fd.EVR_OVERWRITTEN_COUNT : Fld := ⟨0, 32⟩
def Fd.EVR_RELEASE_UPTO_SEQ : Fld := ⟨0, 32⟩
def Fd.EVR_RELEASE_MAX_SEV : Fld := ⟨32, 3⟩
def Fd.EVR_RELEASE_GO : Fld := ⟨35, 1⟩
def Fd.EVR_FLASH_STATUS_PENDING : Fld := ⟨0, 9⟩
def Fd.EVR_FLASH_STATUS_LOGGED : Fld := ⟨9, 9⟩
def Fd.FMAP_CMD_ACTION : Fld := ⟨0, 2⟩
def Fd.FMAP_CMD_GO : Fld := ⟨2, 1⟩
def Fd.FMAP_CMD_CODE : Fld := ⟨16, 16⟩
def Fd.FMAP_CMD_ENTRY_KIND : Fld := ⟨1, 3⟩
def Fd.FMAP_CMD_ENTRY_DIE : Fld := ⟨4, 2⟩
def Fd.FMAP_CMD_ENTRY_BLOCK : Fld := ⟨6, 6⟩
def Fd.FMAP_CMD_ENTRY_CLUSTER : Fld := ⟨12, 6⟩
def Fd.FMAP_CMD_ENTRY_CELL : Fld := ⟨18, 6⟩
def Fd.FMAP_CMD_ENTRY_STATION : Fld := ⟨24, 4⟩
def Fd.FMAP_CMD_ENTRY_INDEX : Fld := ⟨28, 6⟩
def Fd.FMAP_CMD_ENTRY_HOST : Fld := ⟨34, 1⟩
def Fd.FMAP_CMD_ENTRY_CODE : Fld := ⟨48, 16⟩
def Fd.FMAP_STATUS_ENTRIES : Fld := ⟨0, 12⟩
def Fd.FMAP_STATUS_DIES_CONTAINED : Fld := ⟨12, 4⟩
def Fd.FMAP_STATUS_PACKAGE_CONTAINED : Fld := ⟨16, 1⟩
def Fd.FMAP_CHANGES_COUNT : Fld := ⟨0, 32⟩
def Fd.FMAP_ENTRY_VALID : Fld := ⟨0, 1⟩
def Fd.FMAP_ENTRY_KIND : Fld := ⟨1, 3⟩
def Fd.FMAP_ENTRY_DIE : Fld := ⟨4, 2⟩
def Fd.FMAP_ENTRY_BLOCK : Fld := ⟨6, 6⟩
def Fd.FMAP_ENTRY_CLUSTER : Fld := ⟨12, 6⟩
def Fd.FMAP_ENTRY_CELL : Fld := ⟨18, 6⟩
def Fd.FMAP_ENTRY_STATION : Fld := ⟨24, 4⟩
def Fd.FMAP_ENTRY_INDEX : Fld := ⟨28, 6⟩
def Fd.FMAP_ENTRY_HOST : Fld := ⟨34, 1⟩
def Fd.FMAP_ENTRY_CODE : Fld := ⟨48, 16⟩
def Fd.ERRQ_STATUS_DEPTH : Fld := ⟨0, 7⟩
def Fd.ERRQ_STATUS_HANDLING : Fld := ⟨7, 3⟩
def Fd.ERRQ_STATUS_BUSY : Fld := ⟨10, 1⟩
def Fd.ERRQ_STATUS_SUSPENDED : Fld := ⟨11, 3⟩
def Fd.ERRQ_HANDLED_COUNT : Fld := ⟨0, 64⟩
def Fd.ERRQ_PREEMPTED_COUNT : Fld := ⟨0, 64⟩
def Fd.ERRQ_DISCARDED_COUNT : Fld := ⟨0, 64⟩
def Fd.PWR_CAP_HOST_CAP_W : Fld := ⟨0, 11⟩
def Fd.FREQ_CAP_MHZ : Fld := ⟨0, 10⟩
def Fd.GOV_STATUS_CAP_W : Fld := ⟨0, 11⟩
def Fd.GOV_STATUS_GATING : Fld := ⟨11, 1⟩
def Fd.GOV_STATUS_POWER_EMERG : Fld := ⟨12, 1⟩
def Fd.GOV_STATUS_THERMAL_EMERG : Fld := ⟨13, 1⟩
def Fd.GOV_STATUS_TRIPPED : Fld := ⟨14, 1⟩
def Fd.GOV_STATUS_EMERG_SEEN : Fld := ⟨15, 1⟩
def Fd.PKG_POWER_WINDOW_W : Fld := ⟨0, 16⟩
def Fd.PKG_POWER_PERIOD_W : Fld := ⟨16, 16⟩
def Fd.GOV_GATED_PERIODS_COUNT : Fld := ⟨0, 64⟩
def Fd.DIE_CLOCK_MHZ : Fld := ⟨0, 10⟩
def Fd.DIE_CLOCK_POWER_MHZ : Fld := ⟨10, 10⟩
def Fd.DIE_CLOCK_THERMAL_MHZ : Fld := ⟨20, 10⟩
def Fd.DIE_CLOCK_CLAMPED : Fld := ⟨30, 1⟩
def Fd.DIE_CLOCK_VDD_MV : Fld := ⟨32, 10⟩
def Fd.DIE_CLOCK_TMAX_C : Fld := ⟨42, 8⟩
def Fd.RAIL_MON_MV : Fld := ⟨0, 16⟩
def Fd.RAIL_MON_DECIAMPS : Fld := ⟨16, 16⟩
def Fd.RAIL_MON_WATTS : Fld := ⟨32, 16⟩
def Fd.FW_STATUS_RUNNING : Fld := ⟨0, 1⟩
def Fd.FW_STATUS_TRIAL : Fld := ⟨1, 1⟩
def Fd.FW_STATUS_ACT_STATE : Fld := ⟨2, 2⟩
def Fd.FW_STATUS_ROLLBACK : Fld := ⟨4, 6⟩
def Fd.FW_STATUS_LAST_CODE : Fld := ⟨16, 16⟩
def Fd.FW_RUNNING_VERSION : Fld := ⟨0, 32⟩
def Fd.FW_RUNNING_SVN : Fld := ⟨32, 6⟩
def Fd.SEC_STATUS_DEBUG : Fld := ⟨0, 2⟩
def Fd.SEC_STATUS_IDENTITY_AVAILABLE : Fld := ⟨2, 1⟩
def Fd.SEC_STATUS_REVOKED : Fld := ⟨3, 4⟩
def Fd.SEC_STATUS_NONCE_VALID : Fld := ⟨7, 1⟩
def Fd.SEC_PLAN_MEAS_PM : Fld := ⟨0, 32⟩
def Fd.STRAP_STATUS_BOOT : Fld := ⟨0, 2⟩
def Fd.STRAP_STATUS_SMB_ADDR : Fld := ⟨2, 3⟩
def Fd.STRAP_STATUS_PCIE_WIDTH : Fld := ⟨5, 1⟩
def Fd.VR_STATUS_NO_RESPONSE : Fld := ⟨0, 4⟩
def Fd.VR_STATUS_ALERT : Fld := ⟨4, 1⟩

def regDefs0 : List RegDef := [
  ⟨0x2000, 1, 0, false, 32, 16, [(⟨0, 3⟩, .rw), (⟨3, 3⟩, .rw), (⟨6, 26⟩, .rsv)], 0x0004⟩,
  ⟨0x2004, 1, 0, false, 32, 16, [(⟨0, 32⟩, .rw)], 0x0098_9680⟩,
  ⟨0x2008, 1, 0, false, 32, 16, [(⟨0, 32⟩, .rw)], 0xC350⟩,
  ⟨0x200C, 1, 0, false, 32, 16, [(⟨0, 1⟩, .w1s), (⟨1, 31⟩, .rsv)], 0x0000⟩,
  ⟨0x2010, 1, 0, false, 32, 16, [(⟨0, 3⟩, .ro), (⟨3, 1⟩, .ro), (⟨4, 1⟩, .w1c), (⟨5, 4⟩, .ro), (⟨9, 23⟩, .rsv)], 0x010C⟩,
  ⟨0x2014, 1, 0, false, 32, 16, [(⟨0, 16⟩, .ro), (⟨16, 1⟩, .ro), (⟨17, 2⟩, .ro), (⟨19, 13⟩, .rsv)], 0x0000⟩,
  ⟨0x2018, 1, 0, false, 32, 16, [(⟨0, 32⟩, .ro)], 0x0000⟩,
  ⟨0x201C, 1, 0, false, 32, 16, [(⟨0, 32⟩, .ro)], 0x0098_9680⟩,
  ⟨0x2020, 1, 0, false, 32, 16, [(⟨0, 32⟩, .ro)], 0x0000⟩,
  ⟨0x2028, 1, 0, false, 64, 16, [(⟨0, 64⟩, .ro)], 0x0000⟩,
  ⟨0x2030, 1, 0, false, 64, 16, [(⟨0, 16⟩, .ro), (⟨16, 16⟩, .ro), (⟨32, 16⟩, .ro), (⟨48, 16⟩, .rsv)], 0xC000_8000_4000⟩,
  ⟨0x2040, 1, 0, false, 32, 16, [(⟨0, 32⟩, .ro)], 0x0000⟩,
  ⟨0x2044, 1, 0, false, 32, 16, [(⟨0, 32⟩, .ro)], 0x0000⟩,
  ⟨0x2048, 1, 0, false, 32, 16, [(⟨0, 32⟩, .ro)], 0x0000⟩,
  ⟨0x204C, 1, 0, false, 32, 16, [(⟨0, 32⟩, .ro)], 0x0000⟩,
  ⟨0x2050, 1, 0, false, 32, 16, [(⟨0, 32⟩, .ro)], 0x0000⟩,
  ⟨0x2100, 1, 0, false, 32, 16, [(⟨0, 2⟩, .rw), (⟨2, 3⟩, .rw), (⟨5, 27⟩, .rsv)], 0x0000⟩,
  ⟨0x2108, 1, 0, false, 64, 16, [(⟨0, 64⟩, .rw)], 0x0000⟩,
  ⟨0x2110, 1, 0, false, 64, 16, [(⟨0, 64⟩, .ro)], 0x0000⟩,
  ⟨0x2118, 1, 0, false, 32, 16, [(⟨0, 1⟩, .ro), (⟨1, 1⟩, .ro), (⟨2, 1⟩, .ro), (⟨3, 29⟩, .rsv)], 0x0000⟩,
  ⟨0x3000, 1, 0, false, 32, 2, [(⟨0, 16⟩, .ro), (⟨16, 15⟩, .ro), (⟨31, 1⟩, .wo)], 0x0000⟩,
  ⟨0x3004, 1, 0, false, 32, 2, [(⟨0, 3⟩, .ro), (⟨3, 1⟩, .ro), (⟨4, 6⟩, .ro), (⟨10, 6⟩, .ro), (⟨16, 1⟩, .ro), (⟨17, 15⟩, .rsv)], 0x0000⟩,
  ⟨0x3008, 1, 0, false, 32, 2, [(⟨0, 32⟩, .ro)], 0x0000⟩,
  ⟨0x300C, 1, 0, false, 32, 2, [(⟨0, 32⟩, .ro)], 0x0000⟩]
def regDefs1 : List RegDef := [
  ⟨0x3010, 1, 0, false, 32, 2, [(⟨0, 32⟩, .ro)], 0x0000⟩,
  ⟨0x3014, 1, 0, false, 32, 2, [(⟨0, 32⟩, .ro)], 0x0000⟩,
  ⟨0x3018, 1, 0, false, 32, 2, [(⟨0, 32⟩, .ro)], 0x0000⟩,
  ⟨0x301C, 1, 0, false, 32, 2, [(⟨0, 16⟩, .ro), (⟨16, 16⟩, .rsv)], 0x0000⟩,
  ⟨0x3020, 1, 0, false, 32, 2, [(⟨0, 32⟩, .ro)], 0x0000⟩,
  ⟨0x3024, 1, 0, false, 32, 2, [(⟨0, 32⟩, .ro)], 0x0000⟩,
  ⟨0x3028, 1, 0, false, 32, 2, [(⟨0, 32⟩, .ro)], 0x0000⟩,
  ⟨0x302C, 1, 0, false, 32, 2, [(⟨0, 32⟩, .ro)], 0x0000⟩,
  ⟨0x3030, 1, 0, false, 64, 2, [(⟨0, 64⟩, .ro)], 0x0000⟩,
  ⟨0x3038, 1, 0, false, 32, 2, [(⟨0, 4⟩, .ro), (⟨4, 1⟩, .ro), (⟨5, 27⟩, .rsv)], 0x0000⟩,
  ⟨0x4000, 1, 0, false, 32, 3, [(⟨0, 16⟩, .ro), (⟨16, 15⟩, .ro), (⟨31, 1⟩, .wo)], 0x0000⟩,
  ⟨0x4004, 1, 0, false, 32, 3, [(⟨0, 1⟩, .rw), (⟨1, 31⟩, .rsv)], 0x0001⟩,
  ⟨0x4008, 1, 0, false, 32, 3, [(⟨0, 32⟩, .ro)], 0x0000⟩,
  ⟨0x4010, 4, 8, false, 64, 3, [(⟨0, 64⟩, .ro)], 0x0000⟩,
  ⟨0x0010_0000, 1, 0, true, 32, 4, [(⟨0, 16⟩, .ro), (⟨16, 15⟩, .ro), (⟨31, 1⟩, .wo)], 0x0000⟩,
  ⟨0x0010_0004, 1, 0, true, 32, 4, [(⟨0, 1⟩, .rw), (⟨1, 1⟩, .rw), (⟨2, 30⟩, .rsv)], 0x0000⟩,
  ⟨0x0010_0008, 1, 0, true, 64, 4, [(⟨0, 15⟩, .wo), (⟨15, 32⟩, .wo), (⟨47, 17⟩, .rsv)], 0x0000⟩,
  ⟨0x0010_0010, 1, 0, true, 32, 4, [(⟨0, 11⟩, .ro), (⟨11, 21⟩, .rsv)], 0x0000⟩,
  ⟨0x0010_0018, 1, 0, true, 64, 4, [(⟨0, 64⟩, .ro)], 0x0000⟩,
  ⟨0x0010_0020, 1, 0, true, 64, 4, [(⟨0, 64⟩, .ro)], 0x0000⟩,
  ⟨0x0010_0030, 1, 0, true, 32, 4, [(⟨0, 1⟩, .wo), (⟨1, 31⟩, .rsv)], 0x0000⟩,
  ⟨0x0010_0040, 8, 4, true, 32, 4, [(⟨0, 32⟩, .rw)], 0x0000⟩,
  ⟨0x0010_1000, 16808, 8, true, 64, 4, [(⟨0, 2⟩, .ro), (⟨2, 1⟩, .ro), (⟨3, 4⟩, .ro), (⟨7, 9⟩, .rsv), (⟨16, 16⟩, .ro), (⟨32, 32⟩, .ro)], 0x0000⟩,
  ⟨0x0014_0000, 4096, 8, true, 64, 4, [(⟨0, 9⟩, .ro), (⟨9, 1⟩, .ro), (⟨10, 22⟩, .rsv), (⟨32, 32⟩, .ro)], 0x0000⟩]
def regDefs2 : List RegDef := [
  ⟨0x0015_0000, 1024, 16, true, 64, 4, [(⟨0, 32⟩, .ro), (⟨32, 3⟩, .ro), (⟨35, 13⟩, .rsv), (⟨48, 16⟩, .ro)], 0x0000⟩,
  ⟨0x0015_0008, 1024, 16, true, 64, 4, [(⟨0, 32⟩, .ro), (⟨32, 32⟩, .ro)], 0x0000⟩,
  ⟨0x007C_0000, 25680, 8, true, 64, 4, [(⟨0, 48⟩, .ro), (⟨48, 16⟩, .rsv)], 0x0000⟩,
  ⟨0x4000, 1, 0, true, 32, 5, [(⟨0, 16⟩, .ro), (⟨16, 15⟩, .ro), (⟨31, 1⟩, .wo)], 0x0000⟩,
  ⟨0x4004, 1, 0, true, 32, 5, [(⟨0, 1⟩, .rw), (⟨1, 31⟩, .rsv)], 0x0000⟩,
  ⟨0x4008, 1, 0, true, 64, 5, [(⟨0, 64⟩, .ro)], 0x0000⟩,
  ⟨0x4010, 1, 0, true, 64, 5, [(⟨0, 16⟩, .ro), (⟨16, 20⟩, .ro), (⟨36, 12⟩, .ro), (⟨48, 16⟩, .rsv)], 0x0000⟩,
  ⟨0x4018, 1, 0, true, 32, 5, [(⟨0, 32⟩, .ro)], 0x0000⟩,
  ⟨0x4020, 1, 0, true, 64, 5, [(⟨0, 64⟩, .ro)], 0x0000⟩,
  ⟨0x8000, 4096, 8, true, 64, 5, [(⟨0, 64⟩, .ro)], 0x0000⟩,
  ⟨0x0001_0000, 4096, 8, true, 64, 5, [(⟨0, 64⟩, .ro)], 0x0000⟩,
  ⟨0x0020_0000, 1, 0, true, 32, 6, [(⟨0, 16⟩, .ro), (⟨16, 15⟩, .ro), (⟨31, 1⟩, .wo)], 0x0000⟩,
  ⟨0x0020_0008, 1, 0, true, 64, 6, [(⟨0, 16⟩, .wo), (⟨16, 2⟩, .wo), (⟨18, 14⟩, .rsv), (⟨32, 32⟩, .wo)], 0x0000⟩,
  ⟨0x0020_0010, 1, 0, true, 64, 6, [(⟨0, 64⟩, .ro)], 0x0000⟩,
  ⟨0x0020_0018, 1, 0, true, 32, 6, [(⟨0, 17⟩, .ro), (⟨17, 15⟩, .rsv)], 0x0000⟩,
  ⟨0x0020_0020, 1, 0, true, 64, 6, [(⟨0, 64⟩, .ro)], 0x0000⟩,
  ⟨0x0020_0028, 1, 0, true, 32, 6, [(⟨0, 32⟩, .ro)], 0x0000⟩,
  ⟨0x0020_002C, 1, 0, true, 32, 6, [(⟨0, 32⟩, .ro)], 0x0000⟩,
  ⟨0x0021_0000, 4096, 8, true, 64, 6, [(⟨0, 10⟩, .ro), (⟨10, 10⟩, .ro), (⟨20, 10⟩, .ro), (⟨30, 2⟩, .rsv), (⟨32, 7⟩, .ro), (⟨39, 10⟩, .ro), (⟨49, 15⟩, .rsv)], 0x0000⟩,
  ⟨0x0021_8000, 4096, 8, true, 64, 6, [(⟨0, 64⟩, .ro)], 0x0000⟩,
  ⟨0x0028_0000, 65536, 4, true, 32, 6, [(⟨0, 32⟩, .ro)], 0x0000⟩,
  ⟨0x0030_0000, 1, 0, true, 32, 7, [(⟨0, 16⟩, .ro), (⟨16, 15⟩, .ro), (⟨31, 1⟩, .wo)], 0x0000⟩,
  ⟨0x0030_0004, 1, 0, true, 32, 7, [(⟨0, 13⟩, .rw), (⟨13, 19⟩, .rsv)], 0x0040⟩,
  ⟨0x0030_0100, 8, 64, true, 64, 7, [(⟨0, 64⟩, .ro)], 0x0000⟩]
def regDefs3 : List RegDef := [
  ⟨0x0030_0108, 8, 64, true, 64, 7, [(⟨0, 64⟩, .ro)], 0x0000⟩,
  ⟨0x0030_0110, 8, 64, true, 64, 7, [(⟨0, 64⟩, .ro)], 0x0000⟩,
  ⟨0x0030_0118, 8, 64, true, 64, 7, [(⟨0, 64⟩, .ro)], 0x0000⟩,
  ⟨0x0030_0120, 8, 64, true, 64, 7, [(⟨0, 64⟩, .ro)], 0x0000⟩,
  ⟨0x0030_0128, 8, 64, true, 64, 7, [(⟨0, 64⟩, .ro)], 0x0000⟩,
  ⟨0x0030_0130, 8, 64, true, 64, 7, [(⟨0, 16⟩, .ro), (⟨16, 32⟩, .ro), (⟨48, 16⟩, .rsv)], 0x0000⟩,
  ⟨0x0030_0138, 8, 64, true, 32, 7, [(⟨0, 1⟩, .ro), (⟨1, 9⟩, .ro), (⟨10, 22⟩, .rsv)], 0x0000⟩,
  ⟨0x0070_0000, 1, 0, true, 32, 8, [(⟨0, 16⟩, .ro), (⟨16, 15⟩, .ro), (⟨31, 1⟩, .wo)], 0x0000⟩,
  ⟨0x0070_0004, 1, 0, true, 32, 8, [(⟨0, 4⟩, .w1s), (⟨4, 28⟩, .rsv)], 0x0000⟩,
  ⟨0x0070_0100, 4, 128, true, 64, 8, [(⟨0, 3⟩, .ro), (⟨3, 4⟩, .ro), (⟨7, 1⟩, .rsv), (⟨8, 17⟩, .ro), (⟨25, 7⟩, .rsv), (⟨32, 13⟩, .ro), (⟨45, 19⟩, .rsv)], 0x0000⟩,
  ⟨0x0070_0108, 4, 128, true, 64, 8, [(⟨0, 64⟩, .ro)], 0x0000⟩,
  ⟨0x0070_0110, 4, 128, true, 64, 8, [(⟨0, 64⟩, .ro)], 0x0000⟩,
  ⟨0x0070_0118, 4, 128, true, 64, 8, [(⟨0, 64⟩, .ro)], 0x0000⟩,
  ⟨0x0070_0120, 4, 128, true, 64, 8, [(⟨0, 64⟩, .ro)], 0x0000⟩,
  ⟨0x0070_0128, 4, 128, true, 64, 8, [(⟨0, 64⟩, .ro)], 0x0000⟩,
  ⟨0x0070_0130, 4, 128, true, 64, 8, [(⟨0, 64⟩, .ro)], 0x0000⟩,
  ⟨0x0070_0138, 4, 128, true, 64, 8, [(⟨0, 64⟩, .ro)], 0x0000⟩,
  ⟨0x0070_0140, 4, 128, true, 64, 8, [(⟨0, 64⟩, .ro)], 0x0000⟩,
  ⟨0x0038_0000, 1, 0, true, 32, 9, [(⟨0, 16⟩, .ro), (⟨16, 15⟩, .ro), (⟨31, 1⟩, .wo)], 0x0000⟩,
  ⟨0x0038_1000, 64, 64, true, 64, 9, [(⟨0, 64⟩, .ro)], 0x0000⟩,
  ⟨0x0038_1008, 64, 64, true, 64, 9, [(⟨0, 64⟩, .ro)], 0x0000⟩,
  ⟨0x0038_1010, 64, 64, true, 64, 9, [(⟨0, 64⟩, .ro)], 0x0000⟩,
  ⟨0x0038_1018, 64, 64, true, 64, 9, [(⟨0, 64⟩, .ro)], 0x0000⟩,
  ⟨0x0038_1020, 64, 64, true, 64, 9, [(⟨0, 16⟩, .ro), (⟨16, 32⟩, .ro), (⟨48, 16⟩, .rsv)], 0x0000⟩]
def regDefs4 : List RegDef := [
  ⟨0x0038_1028, 64, 64, true, 32, 9, [(⟨0, 1⟩, .ro), (⟨1, 2⟩, .ro), (⟨3, 29⟩, .rsv)], 0x0000⟩,
  ⟨0x0040_0000, 1, 0, true, 32, 10, [(⟨0, 16⟩, .ro), (⟨16, 15⟩, .ro), (⟨31, 1⟩, .wo)], 0x0000⟩,
  ⟨0x0040_0008, 1, 0, true, 64, 10, [(⟨0, 6⟩, .rw), (⟨6, 1⟩, .rw), (⟨7, 2⟩, .rw), (⟨9, 1⟩, .w1s), (⟨10, 2⟩, .ro), (⟨12, 20⟩, .rsv), (⟨32, 16⟩, .ro), (⟨48, 16⟩, .rsv)], 0x0000⟩,
  ⟨0x0040_0100, 32, 4, true, 32, 10, [(⟨0, 32⟩, .rw)], 0x0000⟩,
  ⟨0x0040_0180, 32, 4, true, 32, 10, [(⟨0, 32⟩, .rw)], 0x0000⟩,
  ⟨0x0040_1000, 64, 64, true, 64, 10, [(⟨0, 64⟩, .ro)], 0x0000⟩,
  ⟨0x0040_1008, 64, 64, true, 64, 10, [(⟨0, 64⟩, .ro)], 0x0000⟩,
  ⟨0x0040_1010, 64, 64, true, 64, 10, [(⟨0, 64⟩, .ro)], 0x0000⟩,
  ⟨0x0040_1018, 64, 64, true, 64, 10, [(⟨0, 64⟩, .ro)], 0x0000⟩,
  ⟨0x0040_1020, 64, 64, true, 64, 10, [(⟨0, 64⟩, .ro)], 0x0000⟩,
  ⟨0x0040_1028, 64, 64, true, 64, 10, [(⟨0, 16⟩, .ro), (⟨16, 32⟩, .ro), (⟨48, 16⟩, .rsv)], 0x0000⟩,
  ⟨0x0040_1030, 64, 64, true, 32, 10, [(⟨0, 1⟩, .ro), (⟨1, 1⟩, .ro), (⟨2, 1⟩, .ro), (⟨3, 13⟩, .ro), (⟨16, 16⟩, .rsv)], 0x0000⟩,
  ⟨0x0050_0000, 1, 0, true, 32, 11, [(⟨0, 16⟩, .ro), (⟨16, 15⟩, .ro), (⟨31, 1⟩, .wo)], 0x0000⟩,
  ⟨0x0050_1000, 16, 64, true, 64, 11, [(⟨0, 64⟩, .ro)], 0x0000⟩,
  ⟨0x0050_1008, 16, 64, true, 64, 11, [(⟨0, 64⟩, .ro)], 0x0000⟩,
  ⟨0x0050_1010, 16, 64, true, 64, 11, [(⟨0, 64⟩, .ro)], 0x0000⟩,
  ⟨0x0050_1018, 16, 64, true, 64, 11, [(⟨0, 64⟩, .ro)], 0x0000⟩,
  ⟨0x0050_1020, 16, 64, true, 64, 11, [(⟨0, 64⟩, .ro)], 0x0000⟩,
  ⟨0x0050_1028, 16, 64, true, 64, 11, [(⟨0, 64⟩, .ro)], 0x0000⟩,
  ⟨0x0050_1030, 16, 64, true, 64, 11, [(⟨0, 16⟩, .ro), (⟨16, 32⟩, .ro), (⟨48, 16⟩, .rsv)], 0x0000⟩,
  ⟨0x0050_1038, 16, 64, true, 32, 11, [(⟨0, 1⟩, .ro), (⟨1, 4⟩, .ro), (⟨5, 27⟩, .rsv)], 0x0000⟩,
  ⟨0x0058_0000, 1, 0, true, 32, 12, [(⟨0, 16⟩, .ro), (⟨16, 15⟩, .ro), (⟨31, 1⟩, .wo)], 0x0000⟩,
  ⟨0x0058_0008, 1, 0, true, 64, 12, [(⟨0, 6⟩, .rw), (⟨6, 2⟩, .rw), (⟨8, 1⟩, .w1s), (⟨9, 23⟩, .rsv), (⟨32, 16⟩, .ro), (⟨48, 16⟩, .rsv)], 0x0000⟩,
  ⟨0x0058_1000, 64, 128, true, 64, 12, [(⟨0, 1⟩, .ro), (⟨1, 1⟩, .ro), (⟨2, 2⟩, .ro), (⟨4, 1⟩, .ro), (⟨5, 1⟩, .ro), (⟨6, 26⟩, .rsv), (⟨32, 19⟩, .ro), (⟨51, 13⟩, .rsv)], 0x0000⟩]
def regDefs5 : List RegDef := [
  ⟨0x0058_1008, 64, 128, true, 32, 12, [(⟨0, 32⟩, .rw)], 0x0000⟩,
  ⟨0x0058_1010, 64, 128, true, 64, 12, [(⟨0, 64⟩, .ro)], 0x0000⟩,
  ⟨0x0058_1018, 64, 128, true, 64, 12, [(⟨0, 64⟩, .ro)], 0x0000⟩,
  ⟨0x0058_1020, 64, 128, true, 64, 12, [(⟨0, 64⟩, .ro)], 0x0000⟩,
  ⟨0x0058_1028, 64, 128, true, 64, 12, [(⟨0, 64⟩, .ro)], 0x0000⟩,
  ⟨0x0058_1030, 64, 128, true, 64, 12, [(⟨0, 64⟩, .ro)], 0x0000⟩,
  ⟨0x0058_1038, 64, 128, true, 64, 12, [(⟨0, 64⟩, .ro)], 0x0000⟩,
  ⟨0x0058_1040, 64, 128, true, 64, 12, [(⟨0, 64⟩, .ro)], 0x0000⟩,
  ⟨0x0058_1048, 64, 128, true, 64, 12, [(⟨0, 64⟩, .ro)], 0x0000⟩,
  ⟨0x0058_1050, 64, 128, true, 64, 12, [(⟨0, 64⟩, .ro)], 0x0000⟩,
  ⟨0x0058_1058, 64, 128, true, 32, 12, [(⟨0, 27⟩, .ro), (⟨27, 5⟩, .rsv)], 0x0000⟩,
  ⟨0x0058_105C, 64, 128, true, 32, 12, [(⟨0, 32⟩, .ro)], 0x0000⟩,
  ⟨0x0058_4000, 16, 64, true, 64, 12, [(⟨0, 64⟩, .ro)], 0x0000⟩,
  ⟨0x0058_4008, 16, 64, true, 64, 12, [(⟨0, 64⟩, .ro)], 0x0000⟩,
  ⟨0x0058_4010, 16, 64, true, 64, 12, [(⟨0, 16⟩, .ro), (⟨16, 32⟩, .ro), (⟨48, 16⟩, .rsv)], 0x0000⟩,
  ⟨0x0058_4018, 16, 64, true, 32, 12, [(⟨0, 1⟩, .ro), (⟨1, 1⟩, .ro), (⟨2, 30⟩, .rsv)], 0x0000⟩,
  ⟨0x0060_0000, 1, 0, true, 32, 13, [(⟨0, 16⟩, .ro), (⟨16, 15⟩, .ro), (⟨31, 1⟩, .wo)], 0x0000⟩,
  ⟨0x0060_0004, 1, 0, true, 32, 13, [(⟨0, 8⟩, .w1s), (⟨8, 24⟩, .rsv)], 0x0000⟩,
  ⟨0x0060_1000, 8, 64, true, 64, 13, [(⟨0, 64⟩, .ro)], 0x0000⟩,
  ⟨0x0060_1008, 8, 64, true, 64, 13, [(⟨0, 64⟩, .ro)], 0x0000⟩,
  ⟨0x0060_1010, 8, 64, true, 64, 13, [(⟨0, 64⟩, .ro)], 0x0000⟩,
  ⟨0x0060_1018, 8, 64, true, 64, 13, [(⟨0, 64⟩, .ro)], 0x0000⟩,
  ⟨0x0060_1020, 8, 64, true, 64, 13, [(⟨0, 16⟩, .ro), (⟨16, 32⟩, .ro), (⟨48, 16⟩, .rsv)], 0x0000⟩,
  ⟨0x0060_1028, 8, 64, true, 64, 13, [(⟨0, 64⟩, .ro)], 0x0000⟩]
def regDefs6 : List RegDef := [
  ⟨0x0060_1030, 8, 64, true, 32, 13, [(⟨0, 1⟩, .ro), (⟨1, 2⟩, .ro), (⟨3, 1⟩, .ro), (⟨4, 1⟩, .ro), (⟨5, 1⟩, .ro), (⟨6, 26⟩, .rsv)], 0x0000⟩,
  ⟨0x0600_1000, 1, 0, false, 32, 14, [(⟨0, 16⟩, .ro), (⟨16, 15⟩, .ro), (⟨31, 1⟩, .wo)], 0x0000⟩,
  ⟨0x0600_1004, 1, 0, false, 32, 14, [(⟨0, 1⟩, .rw), (⟨1, 5⟩, .rw), (⟨6, 5⟩, .rw), (⟨11, 1⟩, .rw), (⟨12, 20⟩, .rsv)], 0x0000⟩,
  ⟨0x0600_1008, 1, 0, false, 32, 14, [(⟨0, 1⟩, .ro), (⟨1, 1⟩, .ro), (⟨2, 1⟩, .w1c), (⟨3, 29⟩, .rsv)], 0x0000⟩,
  ⟨0x0600_100C, 1, 0, false, 32, 14, [(⟨0, 32⟩, .ro)], 0x0000⟩,
  ⟨0x0600_1010, 1, 0, false, 32, 14, [(⟨0, 32⟩, .ro)], 0x0000⟩,
  ⟨0x0600_1014, 1, 0, false, 32, 14, [(⟨0, 32⟩, .w1c)], 0x0000⟩,
  ⟨0x0600_1018, 1, 0, false, 32, 14, [(⟨0, 32⟩, .ro)], 0x0000⟩,
  ⟨0x0600_101C, 1, 0, false, 32, 14, [(⟨0, 32⟩, .ro)], 0x0000⟩,
  ⟨0x0600_1100, 32, 4, false, 32, 14, [(⟨0, 3⟩, .rw), (⟨3, 1⟩, .rw), (⟨4, 3⟩, .rw), (⟨7, 1⟩, .rw), (⟨8, 24⟩, .rsv)], 0x0000⟩,
  ⟨0x0600_2000, 4, 256, false, 32, 14, [(⟨0, 1⟩, .rw), (⟨1, 1⟩, .rw), (⟨2, 1⟩, .rw), (⟨3, 1⟩, .rw), (⟨4, 1⟩, .rw), (⟨5, 27⟩, .rsv)], 0x0000⟩,
  ⟨0x0700_2000, 4, 256, false, 32, 14, [(⟨0, 1⟩, .rw), (⟨1, 1⟩, .rw), (⟨2, 1⟩, .rw), (⟨3, 1⟩, .rw), (⟨4, 1⟩, .rw), (⟨5, 27⟩, .rsv)], 0x0000⟩,
  ⟨0x0600_2004, 4, 256, false, 32, 14, [(⟨0, 1⟩, .ro), (⟨1, 1⟩, .ro), (⟨2, 1⟩, .w1c), (⟨3, 5⟩, .ro), (⟨8, 1⟩, .ro), (⟨9, 23⟩, .rsv)], 0x0000⟩,
  ⟨0x0700_2004, 4, 256, false, 32, 14, [(⟨0, 1⟩, .ro), (⟨1, 1⟩, .ro), (⟨2, 1⟩, .w1c), (⟨3, 5⟩, .ro), (⟨8, 1⟩, .ro), (⟨9, 23⟩, .rsv)], 0x0000⟩,
  ⟨0x0600_2008, 4, 256, false, 32, 14, [(⟨0, 32⟩, .ro)], 0x0000⟩,
  ⟨0x0700_2008, 4, 256, false, 32, 14, [(⟨0, 32⟩, .ro)], 0x0000⟩,
  ⟨0x0600_2010, 4, 256, false, 64, 14, [(⟨0, 64⟩, .ro)], 0x0000⟩,
  ⟨0x0700_2010, 4, 256, false, 64, 14, [(⟨0, 64⟩, .ro)], 0x0000⟩,
  ⟨0x0600_2018, 4, 256, false, 64, 14, [(⟨0, 64⟩, .ro)], 0x0000⟩,
  ⟨0x0700_2018, 4, 256, false, 64, 14, [(⟨0, 64⟩, .ro)], 0x0000⟩,
  ⟨0x0600_2020, 4, 256, false, 64, 14, [(⟨0, 64⟩, .ro)], 0x0000⟩,
  ⟨0x0700_2020, 4, 256, false, 64, 14, [(⟨0, 64⟩, .ro)], 0x0000⟩,
  ⟨0x0074_0000, 1, 0, true, 32, 14, [(⟨0, 16⟩, .ro), (⟨16, 15⟩, .ro), (⟨31, 1⟩, .wo)], 0x0000⟩,
  ⟨0x0074_0100, 4, 64, true, 64, 14, [(⟨0, 64⟩, .ro)], 0x0000⟩]
def regDefs7 : List RegDef := [
  ⟨0x0074_0108, 4, 64, true, 64, 14, [(⟨0, 64⟩, .ro)], 0x0000⟩,
  ⟨0x0074_0110, 4, 64, true, 64, 14, [(⟨0, 64⟩, .ro)], 0x0000⟩,
  ⟨0x0074_0118, 4, 64, true, 64, 14, [(⟨0, 16⟩, .ro), (⟨16, 32⟩, .ro), (⟨48, 16⟩, .rsv)], 0x0000⟩,
  ⟨0x0074_0120, 4, 64, true, 32, 14, [(⟨0, 1⟩, .ro), (⟨1, 1⟩, .ro), (⟨2, 1⟩, .ro), (⟨3, 29⟩, .rsv)], 0x0000⟩,
  ⟨0x0600_4000, 1, 0, false, 32, 15, [(⟨0, 16⟩, .ro), (⟨16, 15⟩, .ro), (⟨31, 1⟩, .wo)], 0x0000⟩,
  ⟨0x0600_4004, 1, 0, false, 32, 15, [(⟨0, 5⟩, .ro), (⟨5, 2⟩, .ro), (⟨7, 1⟩, .ro), (⟨8, 12⟩, .ro), (⟨20, 8⟩, .ro), (⟨28, 4⟩, .rsv)], 0x0000⟩,
  ⟨0x0600_4008, 1, 0, false, 32, 15, [(⟨0, 1⟩, .ro), (⟨1, 4⟩, .ro), (⟨5, 4⟩, .ro), (⟨9, 1⟩, .ro), (⟨10, 1⟩, .ro), (⟨11, 5⟩, .rsv), (⟨16, 16⟩, .ro)], 0x0000⟩,
  ⟨0x0600_4010, 1, 0, false, 64, 15, [(⟨0, 64⟩, .ro)], 0x0000⟩,
  ⟨0x0600_4018, 1, 0, false, 32, 15, [(⟨0, 1⟩, .rw), (⟨1, 1⟩, .rw), (⟨2, 1⟩, .rw), (⟨3, 29⟩, .rsv)], 0x0000⟩,
  ⟨0x0600_4020, 1, 0, false, 64, 15, [(⟨0, 21⟩, .rsv), (⟨21, 35⟩, .rw), (⟨56, 8⟩, .rsv)], 0x0000⟩,
  ⟨0x0600_4028, 1, 0, false, 64, 15, [(⟨0, 2⟩, .rw), (⟨2, 1⟩, .w1s), (⟨3, 9⟩, .rsv), (⟨12, 45⟩, .rw), (⟨57, 7⟩, .rsv)], 0x0000⟩,
  ⟨0x0600_4030, 1, 0, false, 32, 15, [(⟨0, 1⟩, .rw), (⟨1, 1⟩, .rw), (⟨2, 30⟩, .rsv)], 0x0003⟩,
  ⟨0x0600_4038, 1, 0, false, 64, 15, [(⟨0, 64⟩, .ro)], 0x0000⟩,
  ⟨0x0600_4040, 4, 8, false, 64, 15, [(⟨0, 64⟩, .ro)], 0x0000⟩,
  ⟨0x0600_4060, 4, 8, false, 64, 15, [(⟨0, 64⟩, .ro)], 0x0000⟩,
  ⟨0x0600_4080, 4, 8, false, 64, 15, [(⟨0, 64⟩, .ro)], 0x0000⟩,
  ⟨0x0600_40A0, 1, 0, false, 64, 15, [(⟨0, 56⟩, .ro), (⟨56, 2⟩, .ro), (⟨58, 1⟩, .ro), (⟨59, 5⟩, .rsv)], 0x0000⟩,
  ⟨0x0600_40A8, 1, 0, false, 64, 15, [(⟨0, 64⟩, .ro)], 0x0000⟩,
  ⟨0x0600_40B0, 1, 0, false, 64, 15, [(⟨0, 57⟩, .ro), (⟨57, 7⟩, .rsv)], 0x0000⟩,
  ⟨0x0600_40B8, 1, 0, false, 32, 15, [(⟨0, 16⟩, .ro), (⟨16, 2⟩, .ro), (⟨18, 1⟩, .ro), (⟨19, 13⟩, .rsv)], 0x0000⟩,
  ⟨0x0078_0000, 1, 0, true, 64, 15, [(⟨0, 64⟩, .ro)], 0x0000⟩,
  ⟨0x0078_0008, 1, 0, true, 64, 15, [(⟨0, 64⟩, .ro)], 0x0000⟩,
  ⟨0x0078_0010, 1, 0, true, 64, 15, [(⟨0, 64⟩, .ro)], 0x0000⟩,
  ⟨0x0078_0018, 1, 0, true, 32, 15, [(⟨0, 5⟩, .ro), (⟨5, 4⟩, .ro), (⟨9, 23⟩, .rsv)], 0x0000⟩]
def regDefs8 : List RegDef := [
  ⟨0x0000, 1, 0, false, 32, 1, [(⟨0, 16⟩, .ro), (⟨16, 16⟩, .ro)], 0x4160_1F3D⟩,
  ⟨0x0004, 1, 0, false, 32, 1, [(⟨0, 8⟩, .ro), (⟨8, 8⟩, .rsv), (⟨16, 11⟩, .ro), (⟨27, 5⟩, .rsv)], 0x0031⟩,
  ⟨0x0008, 1, 0, false, 64, 1, [(⟨0, 64⟩, .ro)], 0x0000⟩,
  ⟨0x0010, 1, 0, false, 32, 1, [(⟨0, 32⟩, .ro)], 0x1000⟩,
  ⟨0x0014, 1, 0, false, 32, 1, [(⟨0, 1⟩, .ro), (⟨1, 1⟩, .ro), (⟨2, 30⟩, .rsv)], 0x0000⟩,
  ⟨0x0018, 1, 0, false, 32, 1, [(⟨0, 1⟩, .rsv), (⟨1, 17⟩, .ro), (⟨18, 13⟩, .rsv), (⟨31, 1⟩, .w1c)], 0x0000⟩,
  ⟨0x001C, 1, 0, false, 32, 1, [(⟨0, 1⟩, .wo), (⟨1, 15⟩, .rsv), (⟨16, 16⟩, .wo)], 0x0000⟩,
  ⟨0x0010_0000, 1, 0, false, 32, 1, [(⟨0, 16⟩, .ro), (⟨16, 15⟩, .ro), (⟨31, 1⟩, .wo)], 0x0000⟩,
  ⟨0x0010_0004, 1, 0, false, 32, 1, [(⟨0, 2⟩, .ro), (⟨2, 1⟩, .w1c), (⟨3, 1⟩, .ro), (⟨4, 1⟩, .ro), (⟨5, 27⟩, .rsv)], 0x0000⟩,
  ⟨0x0010_0008, 1, 0, false, 32, 1, [(⟨0, 1⟩, .rw), (⟨1, 16⟩, .rw), (⟨17, 15⟩, .rsv)], 0x03E9⟩,
  ⟨0x0010_000C, 1, 0, false, 32, 1, [(⟨0, 32⟩, .ro)], 0x01F4⟩,
  ⟨0x0010_0010, 1, 0, false, 32, 1, [(⟨0, 32⟩, .ro)], 0x0000⟩,
  ⟨0x0010_0014, 1, 0, false, 32, 1, [(⟨0, 32⟩, .ro)], 0x0000⟩,
  ⟨0x0010_0018, 1, 0, false, 32, 1, [(⟨0, 32⟩, .ro)], 0x0000⟩,
  ⟨0x0010_001C, 1, 0, false, 32, 1, [(⟨0, 32⟩, .ro)], 0x0000⟩,
  ⟨0x0010_0020, 1, 0, false, 32, 1, [(⟨0, 32⟩, .ro)], 0x0000⟩,
  ⟨0x0010_0024, 1, 0, false, 32, 1, [(⟨0, 1⟩, .w1s), (⟨1, 7⟩, .rsv), (⟨8, 8⟩, .rw), (⟨16, 16⟩, .rsv)], 0x0000⟩,
  ⟨0x0010_0028, 1, 0, false, 32, 1, [(⟨0, 32⟩, .ro)], 0x0000⟩,
  ⟨0x0010_002C, 1, 0, false, 32, 1, [(⟨0, 16⟩, .ro), (⟨16, 16⟩, .rsv)], 0x0000⟩,
  ⟨0x0010_0030, 1, 0, false, 64, 1, [(⟨0, 64⟩, .rw)], 0x0000⟩,
  ⟨0x0010_0038, 1, 0, false, 32, 1, [(⟨0, 32⟩, .ro)], 0x0000⟩,
  ⟨0x0010_003C, 1, 0, false, 32, 1, [(⟨0, 32⟩, .ro)], 0x0000⟩,
  ⟨0x0010_1080, 2032, 8, false, 64, 1, [(⟨0, 16⟩, .rw), (⟨16, 2⟩, .rw), (⟨18, 1⟩, .w1s), (⟨19, 13⟩, .rsv), (⟨32, 32⟩, .rw)], 0x0000⟩,
  ⟨0x10F0_0000, 1, 0, false, 32, 1, [(⟨0, 32⟩, .wo)], 0x0000⟩]
def regDefs9 : List RegDef := [
  ⟨0x10F0_0004, 1, 0, false, 32, 1, [(⟨0, 32⟩, .wo)], 0x0000⟩,
  ⟨0x10F0_0008, 1, 0, false, 32, 1, [(⟨0, 32⟩, .wo)], 0x0000⟩,
  ⟨0x0044_0000, 1, 0, false, 32, 16, [(⟨0, 32⟩, .ro)], 0x0000⟩,
  ⟨0x0044_0004, 1, 0, false, 32, 16, [(⟨0, 13⟩, .ro), (⟨13, 19⟩, .rsv)], 0x0000⟩,
  ⟨0x0044_0008, 1, 0, false, 32, 16, [(⟨0, 32⟩, .ro)], 0x0000⟩,
  ⟨0x0044_000C, 1, 0, false, 32, 16, [(⟨0, 32⟩, .ro)], 0x0000⟩,
  ⟨0x0044_0010, 1, 0, false, 64, 16, [(⟨0, 32⟩, .rw), (⟨32, 3⟩, .rw), (⟨35, 1⟩, .w1s), (⟨36, 28⟩, .rsv)], 0x0000⟩,
  ⟨0x0044_0018, 1, 0, false, 32, 16, [(⟨0, 9⟩, .ro), (⟨9, 9⟩, .ro), (⟨18, 14⟩, .rsv)], 0x0000⟩,
  ⟨0x0044_0100, 1, 0, false, 32, 16, [(⟨0, 2⟩, .rw), (⟨2, 1⟩, .w1s), (⟨3, 13⟩, .rsv), (⟨16, 16⟩, .ro)], 0x0000⟩,
  ⟨0x0044_0108, 1, 0, false, 64, 16, [(⟨0, 1⟩, .rsv), (⟨1, 3⟩, .rw), (⟨4, 2⟩, .rw), (⟨6, 6⟩, .rw), (⟨12, 6⟩, .rw), (⟨18, 6⟩, .rw), (⟨24, 4⟩, .rw), (⟨28, 6⟩, .rw), (⟨34, 1⟩, .ro), (⟨35, 13⟩, .rsv), (⟨48, 16⟩, .ro)], 0x0000⟩,
  ⟨0x0044_0110, 1, 0, false, 32, 16, [(⟨0, 12⟩, .ro), (⟨12, 4⟩, .ro), (⟨16, 1⟩, .ro), (⟨17, 15⟩, .rsv)], 0x0000⟩,
  ⟨0x0044_0114, 1, 0, false, 32, 16, [(⟨0, 32⟩, .ro)], 0x0000⟩,
  ⟨0x0044_8000, 2048, 8, false, 64, 16, [(⟨0, 1⟩, .ro), (⟨1, 3⟩, .ro), (⟨4, 2⟩, .ro), (⟨6, 6⟩, .ro), (⟨12, 6⟩, .ro), (⟨18, 6⟩, .ro), (⟨24, 4⟩, .ro), (⟨28, 6⟩, .ro), (⟨34, 1⟩, .ro), (⟨35, 13⟩, .rsv), (⟨48, 16⟩, .ro)], 0x0000⟩,
  ⟨0x1000, 1, 0, true, 32, 16, [(⟨0, 7⟩, .ro), (⟨7, 3⟩, .ro), (⟨10, 1⟩, .ro), (⟨11, 3⟩, .ro), (⟨14, 18⟩, .rsv)], 0x0000⟩,
  ⟨0x0600_5000, 1, 0, false, 32, 16, [(⟨0, 7⟩, .ro), (⟨7, 3⟩, .ro), (⟨10, 1⟩, .ro), (⟨11, 3⟩, .ro), (⟨14, 18⟩, .rsv)], 0x0000⟩,
  ⟨0x1008, 1, 0, true, 64, 16, [(⟨0, 64⟩, .ro)], 0x0000⟩,
  ⟨0x0600_5008, 1, 0, false, 64, 16, [(⟨0, 64⟩, .ro)], 0x0000⟩,
  ⟨0x1010, 1, 0, true, 64, 16, [(⟨0, 64⟩, .ro)], 0x0000⟩,
  ⟨0x0600_5010, 1, 0, false, 64, 16, [(⟨0, 64⟩, .ro)], 0x0000⟩,
  ⟨0x1018, 1, 0, true, 64, 16, [(⟨0, 64⟩, .ro)], 0x0000⟩,
  ⟨0x0600_5018, 1, 0, false, 64, 16, [(⟨0, 64⟩, .ro)], 0x0000⟩,
  ⟨0x0020_0000, 1, 0, false, 32, 16, [(⟨0, 16⟩, .ro), (⟨16, 15⟩, .ro), (⟨31, 1⟩, .wo)], 0x0000⟩,
  ⟨0x0020_0004, 1, 0, false, 32, 16, [(⟨0, 11⟩, .rw), (⟨11, 21⟩, .rsv)], 0x0578⟩,
  ⟨0x0020_0008, 1, 0, false, 32, 16, [(⟨0, 10⟩, .rw), (⟨10, 22⟩, .rsv)], 0x0258⟩]
def regDefs10 : List RegDef := [
  ⟨0x0020_000C, 1, 0, false, 32, 16, [(⟨0, 11⟩, .ro), (⟨11, 1⟩, .ro), (⟨12, 1⟩, .ro), (⟨13, 1⟩, .ro), (⟨14, 1⟩, .ro), (⟨15, 1⟩, .w1c), (⟨16, 16⟩, .rsv)], 0x0578⟩,
  ⟨0x0020_0010, 1, 0, false, 32, 16, [(⟨0, 16⟩, .ro), (⟨16, 16⟩, .ro)], 0x0000⟩,
  ⟨0x0020_0018, 1, 0, false, 64, 16, [(⟨0, 64⟩, .ro)], 0x0000⟩,
  ⟨0x0020_0020, 4, 8, false, 64, 16, [(⟨0, 10⟩, .ro), (⟨10, 10⟩, .ro), (⟨20, 10⟩, .ro), (⟨30, 1⟩, .ro), (⟨31, 1⟩, .rsv), (⟨32, 10⟩, .ro), (⟨42, 8⟩, .ro), (⟨50, 14⟩, .rsv)], 0x0226_12C4_B12C⟩,
  ⟨0x0020_0040, 15, 8, false, 64, 16, [(⟨0, 16⟩, .ro), (⟨16, 16⟩, .ro), (⟨32, 16⟩, .ro), (⟨48, 16⟩, .rsv)], 0x0000⟩,
  ⟨0x0020_0100, 1, 0, false, 32, 16, [(⟨0, 1⟩, .ro), (⟨1, 1⟩, .ro), (⟨2, 2⟩, .ro), (⟨4, 6⟩, .ro), (⟨10, 6⟩, .rsv), (⟨16, 16⟩, .ro)], 0x0000⟩,
  ⟨0x0020_0108, 1, 0, false, 64, 16, [(⟨0, 32⟩, .ro), (⟨32, 6⟩, .ro), (⟨38, 26⟩, .rsv)], 0x0000⟩,
  ⟨0x0030_0000, 1, 0, false, 32, 17, [(⟨0, 16⟩, .ro), (⟨16, 15⟩, .ro), (⟨31, 1⟩, .wo)], 0x0000⟩,
  ⟨0x0030_0004, 1, 0, false, 32, 17, [(⟨0, 2⟩, .ro), (⟨2, 1⟩, .ro), (⟨3, 4⟩, .ro), (⟨7, 1⟩, .ro), (⟨8, 24⟩, .rsv)], 0x0004⟩,
  ⟨0x0030_0100, 16, 4, false, 32, 17, [(⟨0, 32⟩, .ro)], 0x0000⟩,
  ⟨0x0020, 1, 0, false, 32, 16, [(⟨0, 2⟩, .ro), (⟨2, 3⟩, .ro), (⟨5, 1⟩, .ro), (⟨6, 26⟩, .rsv)], 0x0000⟩,
  ⟨0x0020_0110, 1, 0, false, 32, 16, [(⟨0, 4⟩, .w1c), (⟨4, 1⟩, .ro), (⟨5, 27⟩, .rsv)], 0x0000⟩]

/-- All the registers. -/
def regDefs : List RegDef :=
  regDefs0 ++ regDefs1 ++ regDefs2 ++ regDefs3 ++ regDefs4 ++ regDefs5 ++ regDefs6 ++ regDefs7 ++ regDefs8 ++ regDefs9 ++ regDefs10

/-- The table row that holds offset `off`, with the register's index in the row. -/
def RegDef.index? (r : RegDef) (off : Nat) : Option Nat :=
  let o := if r.perDie then
      (if 0x0100_0000 ≤ off ∧ off < 0x0500_0000 then off % 0x0100_0000 else 0xFFFF_FFFF_FFFF)
    else off
  if o < r.base then none
  else if r.stride = 0 then (if o = r.base then some 0 else none)
  else if (o - r.base) % r.stride = 0 ∧ (o - r.base) / r.stride < r.count then some ((o - r.base) / r.stride)
  else none

/-- R506: the register at an offset, or none. -/
def findReg (off : Nat) : Option RegDef := regDefs.find? (fun r => (r.index? off).isSome)

/-- R14: the value a register holds after a cold reset (0 where no register lies). -/
def regReset (off : Nat) : BitVec 64 :=
  match findReg off with
  | some r => BitVec.ofNat 64 r.reset
  | none => 0

end Sys2Proof.Machine
end

