-- ==== Sys2Proof/Machine/State.lean ====
section
/-!
DEFINITION. The state of the XK4160 as plain data: every register, queue, buffer, counter, mode and pin of the spec, the
commands waiting, the fault and refusal reasons, and the machine right after a cold reset.
-/

namespace Sys2Proof.Machine

/-- Why a run can stop with a fault.  No command of this model raises one: the device answers every access, also those
it does not support (all ones, zero, discarded), and turns what it cannot do into a refusal code of its own (R15 to R17). -/
inductive Fault where
  /-- Raised by nothing: the type the interface asks for has to have a member.  Safe. -/
  | inconsistent
  deriving DecidableEq, Repr

/-- Why a command can have no meaning. -/
inductive Refusal where
  /-- The command's arm has no meaning yet; raised by `exec` alone; safe. -/
  | notModelled (mnemonic : String)
  deriving DecidableEq, Repr

/-! ### Error and event records (R15, R542, R555) -/

/-- Where an event is located (R555: LOC_KIND, LOC_DIE, LOC_INDEX, LOC_SUB). -/
structure Loc where
  kind : Nat := 0
  die : Nat := 0
  index : Nat := 0
  sub : Nat := 0
  deriving DecidableEq, Repr

/-- An event record (R555); SEQ and MARK are `seq` and `valid`. -/
structure EventRec where
  seq : Nat := 0
  code : Nat := 0
  severity : Nat := 0
  domain : Nat := 0
  calNs : Nat := 0
  step : Nat := 0
  phase : Nat := 0
  calValid : Bool := false
  subsumed : Bool := false
  fenced : Bool := false
  byGroomer : Bool := false
  flashed : Bool := false
  loc : Loc := {}
  tag : Nat := 0
  arg0 : Nat := 0
  arg1 : Nat := 0
  arg2 : Nat := 0
  arg3 : Nat := 0
  deriving DecidableEq, Repr

/-! ### Flits (R437) -/

/-- A flit: TYPE (0 IDLE, 1 DATA, 2 ACK, 3 NAK), VC, SEQ, ACK_SEQ, CREDIT_VC, CREDIT, PAYLOAD. -/
structure Flit where
  type : Nat
  vc : Nat
  seq : Nat
  ackSeq : Nat
  creditVc : Nat
  credit : Nat
  payload : List Byte
  deriving DecidableEq, Repr

/-! ### Outputs -/

/-- What leaves the device: interrupts, messages, packets, requests and pin actions, in the order they leave. -/
inductive Output where
  /-- An MSI-X message of a vector (R512). -/
  | msix (vector : Nat)
  /-- A flit sent on a port (R437). -/
  | flit (port : Nat) (f : Flit)
  /-- A host-window read or write request, with its poison bit (R477, R546). -/
  | hostRead (tag addr bytes : Nat)
  | hostWrite (addr : Nat) (data : List Byte) (poisoned : Bool)
  /-- A read completion of a BAR4 access; `none` is a completion with the Poisoned bit (R510). -/
  | bar4Data (data : Option (List Byte))
  /-- The data of a read of BAR2 (R509). -/
  | bar2Data (value : Nat)
  /-- The data of a read of configuration space (R505). -/
  | configData (value : Nat)
  /-- The data of a 32-bit read of BAR0 (R506). -/
  | bar0Data (value : Nat)
  /-- ATS and PRI requests (R498). -/
  | atsRequest (addr : Nat) (write : Bool)
  | pageRequest (group addr : Nat) (write : Bool)
  | atsInvalidateDone (itag : Nat)
  /-- A RoCEv2 packet (R467): port, destination QPN, kind (0 to 3 WRITE First, Middle, Last, Only; 16 ACK; 17 NAK of a PSN sequence
  error, 18 of a remote access error, 19 of an invalid request; 20 RNR NAK; 21 CNP), PSN, address, key, data. -/
  | roce (port qpn kind psn va rkey : Nat) (data : List Byte)
  /-- A PTP Delay_Req (R469). -/
  | ptpDelayReq (port : Nat)
  /-- A DOE or SPDM response (R592, R504). -/
  | doe (bytes : List Byte)
  /-- A response on the MCTP sideband (R576, R577). -/
  | mctp (bytes : List Byte)
  /-- A PMBus transfer to the regulator at a 7-bit address (R613): the bytes that the device sends, of a write with the PEC last. -/
  | pmbus (addr : Nat) (bytes : List Byte)
  /-- A pin driven: TRIP_N (R575), TDO data (R624). -/
  | pin (name : String) (level : Bool)
  /-- The output and bidirectional pins while the TAP controls them, in the order of their boundary cells: the level each drives, or none
  (R625, R626). -/
  | pins (levels : List (Option Bool))
  | tdo (bits : List Bool)
  deriving DecidableEq, Repr

/-! ### Cadence, phase and calendar time (chapter 2) -/

/-- A cadence mark detected and accepted, waiting its 64 fabric cycles (R40). -/
structure PendingMark where
  time : Nat
  src : Nat
  cal : Nat
  /-- STEP of the CADENCE message a LINK mark came from (R451). -/
  step : Option Nat := none
  deriving DecidableEq, Repr

/-- The cadence unit and the calendar clock beside their registers. -/
structure TimeUnit where
  /-- Timestamp of the mark that began the step (R45). -/
  stepStart : Nat
  /-- Time of the last accepted mark (R39), and the source of the mark that began the step, 0 before the first (R43). -/
  lastAccepted : Option Nat
  lastSource : Nat
  /-- Time of the last mark of PIN (1), LINK (2) and HOST (3) (R38). -/
  lastPin : Option Nat
  lastLink : Option Nat
  lastHost : Option Nat
  /-- The last eight intervals, oldest first (R43). -/
  history : List Nat
  pending : List PendingMark
  /-- A source has been declared lost and not taken up again (R41). -/
  lost : Bool
  /-- Time of the generator's last mark (R37, R41). -/
  lastGen : Nat
  /-- Segment boundaries of this step already passed (0 to 3). -/
  segSeen : Nat
  /-- Delay-list ticks counted up to PHASE 0 of this step (R47). -/
  tickBase : Nat
  /-- PHASE has been held at 65,535 in this step (R49). -/
  saturated : Bool
  /-- Boundaries that take effect at the next accepted mark (R48). -/
  nextBounds : Option (Nat × Nat × Nat)
  /-- Stages of this step begun, handed over, past COMMIT_PU, by 64 × die + STAGE_ID (R155, R156). -/
  stagesBegun : List Nat
  stagesHanded : List Nat
  stagesCommitted : List Nat
  /-- A step held by the column group or by parking: no TASK stage starts (R448, R530). -/
  held : Bool
  /-- Calendar count at `calAt`, and its rate `calNum / calDen` (R53, R54). -/
  calBase : Nat
  calAt : Nat
  calNum : Nat
  calDen : Nat
  /-- PPS: time of the last edge, value set at it, and whether an epoch was armed since PPS was selected (R54). -/
  ppsLast : Option Nat
  ppsValue : Option Nat
  /-- The NONE-source count's offset: it runs from cold reset on the timebase (R53, R57). -/
  noneBase : Nat
  deriving DecidableEq, Repr

def TimeUnit.reset : TimeUnit :=
  { stepStart := 0, lastAccepted := none, lastSource := 0, lastPin := none, lastLink := none, lastHost := none
    history := List.replicate 8 10000000, pending := [], lost := false, lastGen := 0, segSeen := 0, tickBase := 0, saturated := false
    nextBounds := none, stagesBegun := [], stagesHanded := [], stagesCommitted := []
    held := false, calBase := 0, calAt := 0, calNum := 1, calDen := 1, ppsLast := none, ppsValue := none, noneBase := 0 }

/-! ### Plan images, library and slots (chapter 3) -/

/-- A program moved at check 12 (R81, R82): die, cluster written in the record, cluster used. -/
structure Move where
  die : Nat
  src : Nat
  dst : Nat
  deriving DecidableEq, Repr

/-- A plan held in a slot: its image as stored, the library entry it came from, its moved programs, the companion descriptors read when it
was validated, by address (R97), and whether its placement is stale.  Every record of
the plan is read from the image by the accessors of Machine/PlanImage.lean. -/
structure Plan where
  lib : Nat
  image : List Byte
  moves : List Move
  companions : Map (List Byte)
  /-- The fault map has changed since the image was placed (R90). -/
  stale : Bool
  deriving DecidableEq, Repr

/-- Where a plan switch stands (R85): none due; at its point, waiting for the group's decision; draining (step 3);
running (step 4, started at a time). -/
inductive SwitchPhase where
  | none
  | agreement (since : Nat)
  | draining
  | running (start : Nat)
  deriving DecidableEq, Repr

/-- The plan library and slots beside their registers (R71 to R91): images by library entry, the active plan and the one in the shadow slot. -/
structure PlanUnit where
  library : Map (List Byte)
  active : Option Plan
  shadow : Option Plan
  /-- A store or a load in progress, with the message to answer (R75). -/
  storing : Option (MsgRef × Nat × List Byte)
  loading : Option (MsgRef × Plan)
  switch : SwitchPhase
  /-- The switch has been carried past its closing mark (R52, R86). -/
  carried : Bool
  /-- The fault map has changed since the arm (R85). -/
  staleSinceArm : Bool
  /-- TENSOR_CTRL.ALIAS_CHECK under which a library entry was first validated, by entry (R126). -/
  libAlias : Map Nat
  /-- Switch agreement: votes received by the coordinator, the decision received (R453). -/
  votes : List SwitchVoteData
  decision : Option Bool
  deriving DecidableEq, Repr

def PlanUnit.reset : PlanUnit :=
  { library := [], active := none, shadow := none, storing := none, loading := none, switch := .none, carried := false
    staleSinceArm := false, libAlias := [], votes := [], decision := none }

/-- A read of the host window or of a peer outstanding (R476, R477): number, stream, source, where the bytes go (an address of device
memory, or from 2^58 on a key of the tile of the stream), length. -/
structure ExtRead where
  id : Nat
  stream : Nat
  tag : Nat
  src : Nat
  dst : Nat
  len : Nat
  peer : Bool
  deriving DecidableEq, Repr

/-! ### Streams, Lifts, pools and tasks (chapter 5) -/

/-- A handle (R149). -/
structure Handle where
  addr : Nat
  len : Nat
  last : Bool
  late : Bool
  pool : Nat
  deriving DecidableEq, Repr

/-- What pushes a handle: a stream, by its global ID; a cell; a station instance or channel, by its key; an Ethernet port (R25, R148). -/
inductive Sender where
  | stream (g : Nat)
  | cell (g : Nat)
  | station (key : Nat)
  | port (p : Nat)
  deriving DecidableEq, Repr

/-- A handle with its tag sideband, and who pushed it. -/
structure LiftEntry where
  h : Handle
  tag : Nat
  src : Sender
  /-- The arming of its stream under which a stream filled it, counted from the plan switch (R145). -/
  arm : Nat := 0
  deriving DecidableEq, Repr

/-- R129. -/
inductive StreamState where
  | idle | armed | running | done
  deriving DecidableEq, Repr

/-- A buffer being filled or drained: its address, size, the cursor, and its deadline in pu (R142). -/
structure Buffer where
  addr : Nat
  size : Nat
  pool : Nat
  cursor : Nat
  deadline : Nat
  deriving DecidableEq, Repr

/-- A write held in staging (R156): the die whose staging holds it, destination, bytes, and the COMBINE merge asked for
(operator and element format), if any (R115 to R117). -/
structure StagedWrite where
  die : Nat
  addr : Nat
  data : List Byte
  combine : Option (Nat × Nat)
  /-- Order of the first element of a merge, and how much later each next one comes (R116). -/
  order : Nat
  step : Nat := 0
  deriving DecidableEq, Repr

/-- A transfer of a stream (R140): bytes read, with the address or the tile key they go to; a write staged. -/
inductive Xfer where
  | fetch (addr len dst : Nat)
  | stage (w : StagedWrite)
  deriving DecidableEq, Repr

/-- A stream (R129 to R135, R142, R145). -/
structure Stream where
  state : StreamState
  aborted : Bool
  code : Nat
  tag : Nat
  /-- p0 to p7 (R130). -/
  params : List Word
  /-- Index of the next instruction, and c0 to c7, a0 to a3 with the region each was last set into (R131). -/
  pc : Nat
  ctr : List Nat
  areg : List Nat
  areg_region : List Nat
  /-- Read stream: the open buffer.  Write stream: the handle last popped and the cursor in it. -/
  openBuf : Option Buffer
  popped : Option LiftEntry
  cursor : Nat
  /-- Deadline of the handle last popped, in pu (R142). -/
  poppedDue : Nat := 65535
  /-- DUE0, PACE in force and the buffers opened since they were set (R132, R142). -/
  due : Nat
  pace : Nat
  dueIndex : Nat
  /-- Buffers closed since arming, and buffers confirmed (R145). -/
  bufIndex : Nat
  confirmed : Nat
  /-- Handles of provisional fills, of this arming and of earlier ones, pushed when confirmed (R145, R146). -/
  provisional : List LiftEntry
  /-- Armings so far. -/
  arms : Nat
  /-- Transfers still to issue, and those issued and not yet retired (R140). -/
  issueQ : List Xfer
  outstanding : Nat
  /-- Provisional reads that failed, issued anew once their buffer is confirmed (R146). -/
  dropped : List Xfer
  /-- What an affine stream has read and not yet placed, by tile key, or the view rows it has drained and not yet written (R109, R121). -/
  tile : Map (List Byte)
  /-- END executed, or the last row issued. -/
  ended : Bool
  /-- Rows issued by an affine stream. -/
  rows : Nat
  /-- Waiting for a pool buffer or for room on its Lift (R150). -/
  poolWait : Bool
  liftWait : Bool
  deriving DecidableEq, Repr

def Stream.idle : Stream :=
  { state := .idle, aborted := false, code := 0, tag := 0, params := List.replicate 8 0, pc := 0
    ctr := List.replicate 8 0, areg := List.replicate 4 0, areg_region := List.replicate 4 0, openBuf := none
    popped := none, cursor := 0, due := 0, pace := 0, dueIndex := 0, bufIndex := 0, confirmed := 0, provisional := []
    arms := 0, issueQ := [], outstanding := 0, dropped := [], tile := [], ended := false, rows := 0, poolWait := false, liftWait := false }

/-- States of a task table entry (R167). -/
inductive TaskState where
  | open | ended | committed | aborted
  deriving DecidableEq, Repr

/-- A task table entry (R153 to R157, R167). -/
structure Task where
  tag : Nat
  state : TaskState
  code : Nat
  /-- Abort cause recorded and order not yet carried out (R161). -/
  aborting : Bool
  /-- Order of allocation and of retirement on the home die. -/
  alloc : Nat
  retired : Nat
  allocStep : Nat
  deadlineStep : Nat
  carried : Bool
  writes : List StagedWrite
  /-- Staging granules taken by station state, by die (R156). -/
  stationStaging : Map Nat
  /-- Lifts the task has pushed on, and those that have had its LAST (R154). -/
  lifts : List Nat
  lastLifts : List Nat
  /-- An exchange task that has ended and waits for EXCH_READY (R462). -/
  prepared : Bool
  /-- Exchanges of the task: member, exchange number, READY received (R462). -/
  exch : List (Nat × Nat × Bool)
  /-- Members whose EXCH_ABORT for an exchange has come, with the exchange (R463). -/
  aborters : List (Nat × Nat) := []
  /-- The containment of a die or of the package on another member touched its exchange (R464). -/
  touched : Bool := false
  /-- Bytes that its merges start from and that lie outside the device: asked for, and read so far, by address (R117, R157). -/
  asked : Bool := false
  olds : Map Byte := []
  /-- RDMA WRITEs to send at commit (R467). -/
  rdma : List (Nat × Nat × Nat × List Byte)
  deriving DecidableEq, Repr

/-- A push or a release on its way (R152). -/
inductive Flight where
  | push (lift : Nat) (e : LiftEntry)
  /-- A release, with the router it set out from. -/
  | release (pool : Nat) (addr : Nat) (src : Nat)
  deriving DecidableEq, Repr

/-- Who waits for a task tag (R153): a stream with its parameters, or a cell. -/
inductive AllocWaiter where
  | stream (die stream : Nat) (params : List Word)
  | cell (cell : Nat) (rd stage : Nat)
  | submit (m : MsgRef) (die stream : Nat) (params : List Word)
  deriving DecidableEq, Repr

/-- The stream engines, Lifts, pools and tasks of the device (R127 to R168). -/
structure StreamUnit where
  /-- Streams by global stream ID, Lift contents by 4096 d + Lift, free buffers by 1024 d + pool. -/
  streams : Map Stream
  lifts : Map (List LiftEntry)
  pools : Map (List Nat)
  /-- Task tables: entry by 1024 d + index; next SEQ by 64 d + stage; order counters. -/
  tasks : Map Task
  seqs : Map Nat
  allocCount : Nat
  retireCount : Nat
  allocWait : List AllocWaiter
  /-- Tag of the task that holds each buffer taken from a pool and not yet returned, by buffer address (R154). -/
  owner : Map Nat
  flight : List Flight
  /-- Pushes waiting for room on their Lift, oldest first (R150). -/
  pushWait : List (Nat × LiftEntry)
  /-- Reads of the host window and of peers outstanding: request, stream, destination (R476, R477). -/
  extReads : List ExtRead
  nextRead : Nat
  /-- Aborts detected and not yet at the home die: tag and code (R161). -/
  abortReqs : List (Nat × Nat)
  /-- Dies that have still to carry out the abort order of a tag (R161). -/
  abortOrders : List (Nat × Nat)
  /-- Aborts carried out and not yet reported: tag and code (R161). -/
  abortReports : List (Nat × Nat)
  deriving DecidableEq, Repr

def StreamUnit.reset : StreamUnit :=
  { streams := [], lifts := [], pools := [], tasks := [], seqs := [], allocCount := 0, retireCount := 0, allocWait := []
    owner := [], flight := [], pushWait := [], extReads := [], nextRead := 0, abortReqs := [], abortOrders := [], abortReports := [] }

/-! ### Gates, flows and items (chapter 7) -/

/-- An operand in a matching store, not yet part of an item (R203, R205): position `4 * class + position`. -/
structure Operand where
  pos : Nat
  ordinal : Nat
  e : LiftEntry
  deriving DecidableEq, Repr

/-- An item (R205, R214). -/
structure Item where
  cls : Nat
  prio : Nat
  tag : Nat
  ordinal : Nat
  operands : List Handle
  /-- Buffers of its operands that its cell has released or passed on (R186, R218). -/
  spent : List Nat := []
  flow : Option Nat
  /-- Order of formation on the device; step, tick and phase of formation. -/
  formed : Nat
  formStep : Nat
  formTick : Nat
  readyPu : Nat
  /-- Delay: ABSOLUTE or not, and the tick of its release (R210). -/
  abs : Bool
  release : Nat
  /-- The item's flow holds a flow-table entry, or the item has no flow (R208). -/
  granted : Bool
  deriving DecidableEq, Repr

/-- A cluster's Gate (R203 to R212). -/
structure Gate where
  unmatched : List Operand
  /-- Handles popped so far: position, tag, count (R205). -/
  popped : List (Nat × Nat × Nat)
  lastPos : Nat
  /-- Items on the delay list, waiting for a flow-table entry or their turn in their flow, and ready, each in order. -/
  delayed : List Item
  flowWait : List Item
  ready : List Item
  /-- Live flows holding an entry of the die's flow table (R208). -/
  flows : List Nat
  /-- The Gate is fenced or contained: it pops and dispatches nothing (R543, R550). -/
  stopped : Bool
  deriving DecidableEq, Repr

def Gate.empty : Gate :=
  { unmatched := [], popped := [], lastPos := 0, delayed := [], flowWait := [], ready := [], flows := []
    stopped := false }

/-- An operation on its way to a sync object (R222): class of source 0 reset, 1 host signal, 2 signal of this device,
3 remote signal; its source's order; its amount. -/
structure SyncOp where
  obj : Nat
  kind : Nat
  source : Nat
  amount : Nat
  deriving DecidableEq, Repr

/-- The Gates, flows and sync objects of the device (R200 to R232). -/
structure SchedUnit where
  /-- Gates by 4096 d + physical cluster. -/
  gates : Map Gate
  formCount : Nat
  /-- Sync objects by 65536 d + index, 0 where not listed; operations on their way; operations held by a switch (R228). -/
  sync : Map Nat
  ops : List SyncOp
  /-- Cycles of each die's arithmetic clock since the plan switch, counted up to a time (R191). -/
  cycBase : Map Nat
  cycAt : Map Nat
  deriving DecidableEq, Repr

def SchedUnit.reset : SchedUnit := { gates := [], formCount := 0, sync := [], ops := [], cycBase := [], cycAt := [] }

/-! ### Cells (chapter 6) -/

/-- What a blocked cell waits for (R185 to R188). -/
inductive Blocked where
  | ask (rd addr : Nat)
  | swait (rd stream : Nat)
  | swge (rd obj threshold : Nat)
  | balloc (addr pool : Nat)
  | lpush (lift : Nat)
  | tnew
  deriving DecidableEq, Repr

/-- Whether a cell runs (R171, R188, R195, R196); `tapHalted` is stopped by the debug TAP, which is neither HALT nor EXC_HALT (R199, R595). -/
inductive CellState where
  | gated | running | halted | fenced | tapHalted
  deriving DecidableEq, Repr

/-- A cell (R169, R191). -/
structure Cell where
  state : CellState
  /-- w0 to w31; w0 is never written. -/
  regs : List Word
  /-- PC: byte offset of the next instruction (R171). -/
  pc : Word
  /-- Private store, 0 where not listed (R170, R171). -/
  store : Map Byte
  tag : Nat
  gkey : DWord
  exc : Nat
  cycleHi : Option Word
  blocked : Option Blocked
  item : Option Item
  deriving DecidableEq, Repr

def Cell.gatedCell : Cell :=
  { state := .gated, regs := List.replicate 32 0, pc := 0, store := [], tag := 0, gkey := 0, exc := 0, cycleHi := none
    blocked := none, item := none }
/-! ### Station jobs (chapters 8 to 14) -/

/-- A job in progress on a station instance: the row that began it, its task, the input handles popped and not yet released,
its ordinal within its task, and what it has formed so far. -/
structure Job where
  mode : Nat
  tag : Nat
  inputs : List LiftEntry
  seq : Nat
  words : List Nat
  bytes : List Byte
  /-- Output buffers that it holds: pool and address (R234). -/
  held : List (Nat × Nat) := []
  /-- Its output handles have been pushed, and some still wait for room on their Lift (R150, R233, R300). -/
  pushed : Bool := false
  deriving DecidableEq, Repr

/-- Jobs in progress and ordinals of jobs by station key and task (R233, R242). -/
structure StationUnit where
  /-- Jobs by 1024 × die + 64 × KIND + instance. -/
  jobs : Map Job
  /-- Jobs begun so far of a task on an instance: station, tag, count (JOB_SEQ). -/
  seqs : List (Nat × Nat × Nat)
  deriving DecidableEq, Repr

def StationUnit.reset : StationUnit := { jobs := [], seqs := [] }


/-! ### Pack instances (chapter 9) -/

/-- A parsed sample record, its reservation in the sample store, and its order of admission (R269 to R273). `origin` is the
BATCH_ID it belongs to; `marks` counts the accepted marks since that batch closed (R277). -/
structure PackSample where
  id : Nat
  live : Bool
  len : Nat
  capture : Nat
  data : List Byte
  space : Nat
  adm : Nat
  origin : Nat
  marks : Nat
  deriving DecidableEq, Repr

/-- A parsed record: a sample, or a manifest with its BATCH_ID, its sample IDs and its reservation. -/
inductive PackRecord where
  | sample (x : PackSample)
  | manifest (batch : Nat) (ids : List Nat) (space : Nat)
  deriving DecidableEq, Repr

/-- An open batch or window (R272 to R274): the listed IDs in the order of the manifest, the samples admitted. -/
structure PackBatch where
  id : Nat
  listed : List Nat
  samples : List PackSample
  openStep : Nat
  openPu : Nat
  space : Nat
  /-- It has all it waits for: the time of the cycle at whose end it closes, and the CAUSE (R274). -/
  full : Option (Nat × Nat) := none
  deriving DecidableEq, Repr

/-- An entry of the straggler table (R275): sample, batch, step of the close, marks since; whether its sample was carried and is held as
LATE (R279). -/
structure Straggler where
  id : Nat
  batch : Nat
  step : Nat
  marks : Nat
  held : Bool
  deriving DecidableEq, Repr

/-- A closed batch: the bytes of its slot, p1 and p2 of its stream, whether it carries a LATE sample, its store space (R281,
R283). -/
structure ClosedBatch where
  bytes : List Byte
  samples : Nat
  rows : Nat
  late : Bool
  space : Nat
  deriving DecidableEq, Repr

/-- A written slot waiting to be emitted, or the one being emitted. -/
structure PackSlot where
  slot : Nat
  samples : Nat
  rows : Nat
  late : Bool
  deriving DecidableEq, Repr

/-- A Pack instance: records of tasks not yet committed, open batches, stragglers, samples held as LATE, samples carried to the
next window, closed batches waiting for a slot, slots written, the slot of the armed stream, the next window's ID, the next
order of admission. -/
structure PackInst where
  staged : List (Nat × PackRecord)
  openB : List PackBatch
  stragglers : List Straggler
  late : List PackSample
  carried : List PackSample
  closed : List ClosedBatch
  slots : List PackSlot
  emitting : Option PackSlot
  nextId : Nat
  nextAdm : Nat
  deriving DecidableEq, Repr

def PackInst.empty : PackInst :=
  { staged := [], openB := [], stragglers := [], late := [], carried := [], closed := [], slots := [], emitting := none, nextId := 0
    nextAdm := 0 }

/-! ### Match entries (chapter 11) -/

/-- An entry of a bank (R313): state 0 INVALID, 1 VALID, 2 BAD; 160-bit key and care mask. -/
structure MatchEntry where
  state : Nat
  key : Nat
  care : Nat
  result : Nat
  prio : Nat
  deriving DecidableEq, Repr

def MatchEntry.empty : MatchEntry := { state := 0, key := 0, care := 0, result := 0, prio := 0 }

/-- An entry change (R326): op 1 WRITE, 2 INVALIDATE, 3 MOVE, on gang indices; 320-bit key and care; first of a pair. -/
structure MatchChange where
  op : Nat
  index : Nat
  src : Nat
  key : Nat
  care : Nat
  result : Nat
  prio : Nat
  pair : Bool
  deriving DecidableEq, Repr

/-- A gang: changes staged by tasks, in order, and changes of committed tasks waiting for their slots (R328, R329). -/
structure MatchInst where
  staged : List (Nat × MatchChange)
  apply : List MatchChange
  deriving DecidableEq, Repr

def MatchInst.empty : MatchInst := { staged := [], apply := [] }

/-! ### Select rows in pieces (chapter 12) -/

/-- A piece held of a row: its number, COUNT, INDEX_BASE, the bytes of its row. -/
structure SelPiece where
  no : Nat
  count : Nat
  indexBase : Nat
  data : List Byte
  deriving DecidableEq, Repr

/-- A row in pieces: its task, ROW_ID, TYPE, the number of its LAST_PIECE when it is held, whether a handle carried LAST. -/
structure SelRow where
  tag : Nat
  row : Nat
  type : Nat
  lastPiece : Option Nat
  last : Bool
  pieces : List SelPiece
  deriving DecidableEq, Repr

/-! ### Embedding tables (chapter 13) -/

/-- A place of a row (R364): store 0 home, 1 row cache, 2 HBM area; 8 × set + way; frame. -/
structure EmbPlace where
  store : Nat
  way : Nat
  frame : Nat
  deriving DecidableEq, Repr

/-- A move of a round: the row, its old and its new place (R389). -/
structure EmbMove where
  row : Nat
  src : EmbPlace
  dst : EmbPlace
  deriving DecidableEq, Repr

/-- A set-associative store (R364, R381): row and frame of each way by 8 × set + way; challenger and estimate of each set; frames
vacated and not yet returned (R392). -/
structure EmbStore where
  ways : Map (Nat × Nat)
  chal : Map (Nat × Nat)
  vacated : List Nat
  deriving DecidableEq, Repr

def EmbStore.empty : EmbStore := { ways := [], chal := [], vacated := [] }

/-- A contribution (R383): row, sample index, position in its bag, FP32 bits of its vector. -/
structure Contribution where
  row : Nat
  sample : Nat
  pos : Nat
  vec : List Nat
  deriving DecidableEq, Repr

/-- A round of moves (R389 to R393): whether it is a flush, its copy has ended, it has been carried past a mark, its log has been
replayed; the forwarding log. -/
structure EmbRound where
  moves : List EmbMove
  flush : Bool
  copied : Bool
  carried : Bool
  replayed : Bool
  fwd : List Nat
  deriving DecidableEq, Repr

/-- An apply in progress (R385): its contributions in order of appending, LR, and P1 and P2 after their update. -/
structure EmbApply where
  entries : List Contribution
  /-- The last apply of a table that a plan switch retires (R394). -/
  last : Bool
  lr : Nat
  p1 : Nat
  p2 : Nat
  deriving DecidableEq, Repr

/-- A table's control state (R366): sketch counters that are not 0 by 65536 × j + i; the stores; the update log in order of
appending; rows looked up and contributions formed by tasks not yet committed; the powers of ADAM; the round and the apply in
progress; the step of the last apply; a flush marked by the host; what a plan switch still asks of it (0 nothing, 1 its last
apply, 2 its flush). -/
structure EmbTable where
  sketch : Map Nat
  cache : EmbStore
  area : EmbStore
  log : List Contribution
  lookups : List (Nat × Nat)
  staged : List (Nat × Contribution)
  p1 : Nat
  p2 : Nat
  round : Option EmbRound
  apply : Option EmbApply
  appliedStep : Option Nat
  flush : Bool
  retiring : Nat
  deriving DecidableEq, Repr

/-- R395: every row at home, nothing counted, P1 = P2 = 1.0. -/
def EmbTable.empty : EmbTable :=
  { sketch := [], cache := EmbStore.empty, area := EmbStore.empty, log := [], lookups := [], staged := [], p1 := 0x3F80_0000
    p2 := 0x3F80_0000, round := none, apply := none, appliedStep := none, flush := false, retiring := 0 }

/-! ### Array jobs (chapter 14) -/

/-- What an Array job holds beside its `Job` (R409 to R426): the command with its vectors; side handles, W handles of the expert in
hand, A handles held; A handles consumed; expert in hand; output rows formed; ROUTED's running token rows; sample arrays; ATTEND's
value rows that came from outside the device, and whether they were asked for; the stats records; cycles; LAST seen; whether all
output is formed. -/
structure ArrJob where
  cmd : List Byte
  sides : List LiftEntry
  ws : List LiftEntry
  as : List LiftEntry
  aDone : Nat
  expert : Nat
  out : List (List Byte)
  acc : List (List Nat)
  samples : List (List Nat)
  /-- The value descriptor as read when the job validated it (R97); its value rows are in the tile of channel 2, or asked for (R426). -/
  vdesc : List Byte
  asked : Bool
  stats : List (List Byte)
  cols : Nat
  zeroed : Nat
  busy : Nat
  skipped : Nat
  last : Bool
  done : Bool
  deriving DecidableEq, Repr

/-! ### Links (chapter 15) -/

/-- Part of a message as the payload of a DATA flit to send: channel, message, the die it comes from (4: X0), payload. -/
structure TxFlit where
  vc : Nat
  msg : LinkMsg
  die : Nat
  payload : List Byte
  deriving DecidableEq, Repr

/-- A port's link layer (R437 to R441): next SEQ, flits sent and not acknowledged with the time of sending, flits waiting for
credits, credits by channel, last SEQ accepted, bytes received by channel and not yet part of a whole message with the flits they came in,
time of the last valid flit. -/
structure PortUnit where
  txSeq : Nat
  retry : List (Nat × Nat × TxFlit)
  queue : List TxFlit
  credits : List Nat
  rxSeq : Nat
  rxBytes : List (List Byte)
  rxFlits : List Nat
  lastFlit : Nat
  /-- When the last flit left (R440). -/
  lastTx : Nat
  deriving DecidableEq, Repr

/-- A link just trained: the first SEQ each way is 0 (log 24), every receive buffer is empty (R440). -/
def PortUnit.trained : PortUnit :=
  { txSeq := 0, retry := [], queue := [], credits := [32, 128, 128, 256], rxSeq := 4095, rxBytes := [[], [], [], []], rxFlits := [0, 0, 0, 0]
    lastFlit := 0, lastTx := 0 }

/-- A message received whole and not yet acted on: port, time, channel it came on, flits of that channel's receive buffer it holds. -/
structure RxMsg where
  port : Nat
  time : Nat
  vc : Nat
  flits : Nat
  msg : LinkMsg
  deriving DecidableEq, Repr

/-- What is held for an exchange whose job has not begun (R461, R463): stage, exchange, the step in which the first arrived, data
messages, members whose READY came. -/
structure HeldExch where
  stage : Nat
  exch : Nat
  step : Nat
  data : List LinkMsg
  ready : List Nat
  deriving DecidableEq, Repr

/-- A Traverse job beside its `Job`: its command; whether its part has been asked for and sent; elements received, by 2^64 × member + linear
index.  What it reads and writes goes over the streams of its channels 0 and 1 (R456). -/
structure TravJob where
  cmd : List Byte
  /-- Companion descriptors read when its descriptors were validated, by address (R97). -/
  comps : Map (List Byte)
  /-- The source part is in the tile of channel 0, or asked for; it has been sent; the destination part has been handed to channel 1. -/
  asked : Bool
  sent : Bool
  staged : Bool
  recv : Map Nat
  deriving DecidableEq, Repr

/-- A packet sent by a requester and not acknowledged. -/
structure RoceSent where
  kind : Nat
  psn : Nat
  va : Nat
  rkey : Nat
  data : List Byte
  deriving DecidableEq, Repr

/-- A queue pair (R466, R467). `rate` counts 65,536ths of the line rate; `writeVa` and `writeEnd` follow the WRITE in progress; `recv` is the
SEND message received so far. -/
structure Qp where
  port : Nat
  responder : Bool
  requester : Bool
  destQpn : Nat
  destIp : Nat
  destMac : Nat
  txPsn : Nat
  rxPsn : Nat
  mtu : Nat
  die : Nat
  lift : Nat
  pool : Nat
  stage : Nat
  error : Bool
  rate : Nat
  rateAt : Nat
  retries : Nat
  sentAt : Nat
  unacked : List RoceSent
  writeVa : Nat
  writeEnd : Nat
  writePa : Nat
  recv : List Byte
  deriving DecidableEq, Repr

/-- A memory region for incoming WRITEs. -/
structure MemRegion where
  rkey : Nat
  va : Nat
  len : Nat
  pa : Nat
  deriving DecidableEq, Repr

/-- A feed (R466, R468): its binding; frames taken; its task, the frames of it and the time of the first. -/
structure Feed where
  port : Nat
  ipv6 : Bool
  udpPort : Nat
  dstIp : Nat
  die : Nat
  stage : Nat
  lift : Nat
  pool : Nat
  frames : Nat
  closeUs : Nat
  seq : Nat
  tag : Nat
  count : Nat
  first : Nat
  deriving DecidableEq, Repr

/-- A PTP port (R469): the last Sync (number, time stamp and correction of the master once known, local count of its reception), the local
count at which the Delay_Req of a number left, the mean path delay, the present interval, intervals within 100 ns, time of the last Sync. -/
structure PtpUnit where
  syncSeq : Nat
  t1 : Nat
  corr : Int
  t2 : Nat
  awaiting : Bool
  reqSeq : Nat
  t3 : Nat
  delay : Option Int
  interval : Nat
  good : Nat
  lastSync : Option Nat
  deriving DecidableEq, Repr

def PtpUnit.reset : PtpUnit :=
  { syncSeq := 0, t1 := 0, corr := 0, t2 := 0, awaiting := false, reqSeq := 0, t3 := 0, delay := none, interval := 0, good := 0, lastSync := none }

/-- The ports and messages, Traverse exchanges and Ethernet mode beside their registers (R434 to R472). -/
structure LinkUnit where
  /-- Next PSEQ to send, and next to deliver, by 4 × member + channel (R442, R443). -/
  txPseq : Map Nat
  rxPseq : Map Nat
  ports : Map PortUnit
  rx : List RxMsg
  /-- Time of the last KEEPALIVE of each member, and of the last sent (R446). -/
  lastKeep : Map Nat
  keepSent : Nat
  /-- Exchanges: data and READYs held, aborts received before the job (stage, exchange, code, and whether a
  containment on another member caused it), Traverse jobs by station key, jobs ended
  whose tasks have not (tag, station key). -/
  held : List HeldExch
  exchAborts : List (Nat × Nat × Nat × Bool)
  trav : Map TravJob
  travEnded : List (Nat × Nat)
  /-- Ethernet: addresses by port (MAC, IPv4, IPv6), queue pairs, memory regions, feeds, PTP ports. -/
  portAddr : Map (Nat × Nat × Nat)
  qps : Map Qp
  mrs : Map MemRegion
  feeds : Map Feed
  ptp : Map PtpUnit
  deriving DecidableEq, Repr

def LinkUnit.reset : LinkUnit :=
  { txPseq := [], rxPseq := [], ports := [], rx := [], lastKeep := [], keepSent := 0, held := [], exchAborts := [], trav := [], travEnded := []
    portAddr := [], qps := [], mrs := [], feeds := [], ptp := [] }
/-! ### Memory system (chapter 16) -/

/-- A cached translation of a die (R497): the page's first virtual address, its size, the leaf entry. -/
structure TlbEntry where
  die : Nat
  va : Nat
  size : Nat
  leaf : Nat
  deriving DecidableEq, Repr

/-- An entry of the address translation cache on X0 (R498): 4,096-byte host page, its translation, the accesses allowed. -/
structure AtcEntry where
  page : Nat
  target : Nat
  read : Bool
  write : Bool
  deriving DecidableEq, Repr

/-- A Translation Request outstanding (R498): the host page, the access wanted, the task that waits, the virtual address. -/
structure AtsRequest where
  page : Nat
  write : Bool
  tag : Nat
  va : Nat
  level : Nat
  deriving DecidableEq, Repr

/-- Cached translations of the dies, the translation cache of X0, and ATS requests outstanding (R497, R498). -/
structure MemUnit where
  tlb : List TlbEntry
  atc : List AtcEntry
  atsPending : List AtsRequest
  /-- Page request groups outstanding, at most 64, and the next group number (R498, R504). -/
  pageReqs : List Nat
  nextGroup : Nat
  /-- ATS Invalidation Requests that wait for accesses: tag, translations (R498). -/
  invals : List (Nat × List Nat)
  /-- Where the translations that VM_INVAL drops lead: address and size, while accesses may use them (R497). -/
  vmTargets : List (Nat × Nat)
  /-- The patrol burst of a Night has begun and not finished (R51, R490). -/
  burst : Bool
  deriving DecidableEq, Repr

def MemUnit.reset : MemUnit := { tlb := [], atc := [], atsPending := [], pageReqs := [], nextGroup := 0, invals := [], vmTargets := [], burst := false }


/-! ### Host interface and mailboxes (chapter 17) -/

/-- A message consumed into its class queue and not yet answered (R519). -/
structure QMsg where
  opcode : Nat
  hseq : Nat
  cookie : Nat
  payload : List Byte
  deriving DecidableEq, Repr

/-- A D2H message in its slot (R515). -/
structure D2hMsg where
  opcode : Nat
  async : Bool
  hseq : Nat
  dseq : Nat
  pos : Nat
  status : Nat
  cookie : Nat
  step : Nat
  payload : List Byte
  deriving DecidableEq, Repr

/-- An MSI-X table entry. -/
structure MsixEntry where
  addr : Nat
  data : Nat
  masked : Bool
  deriving DecidableEq, Repr

/-- What Device Control says of the requests that the device sends (R504): payload and read request sizes, as 128 bytes times a power of two,
Relaxed Ordering, No Snoop. -/
structure RequestCtl where
  maxPayload : Nat
  maxRead : Nat
  relaxed : Bool
  noSnoop : Bool
  deriving DecidableEq, Repr

/-- The values that PCI Express gives at reset: 128 B, 512 B, both attributes allowed (PRESUMED, log 110). -/
def RequestCtl.reset : RequestCtl := { maxPayload := 0, maxRead := 2, relaxed := true, noSnoop := true }

/-- The host interface beside its registers (R504 to R538). -/
structure HostUnit where
  /-- H2D ring slots (R517) and D2H ring slots (R521), by slot number. -/
  h2d : Map (List Byte)
  d2h : Map D2hMsg
  /-- Class queues, by class (R519). -/
  classQ : Map (List QMsg)
  /-- Responses held and unsolicited messages held while no position is free (R521, R522). -/
  heldResp : List D2hMsg
  holdQ : List D2hMsg
  /-- MSI-X table and pending bits (R509, R512). -/
  msix : Map MsixEntry
  pba : List Nat
  /-- Vector 0: time last signalled, and a message written since (R513). -/
  vec0Last : Option Nat
  vec0Waiting : Bool
  /-- Configuration space: Bus Master Enable, MSI-X enable, ATS and PRI enables, BAR4 size (R504, R505, R527). -/
  busMaster : Bool
  msixEnable : Bool
  atsEnable : Bool
  priEnable : Bool
  requests : RequestCtl
  bar4Size : Nat
  /-- D3hot (R504). -/
  d3hot : Bool
  /-- Watchdog: ns counted since its last restart up to a time (R527). -/
  wdogUsed : Nat
  wdogSince : Nat
  /-- Detach: cause of the parking under way and the DETACH commands waiting (R529, R535). -/
  parkCause : Option Nat
  /-- STEP_NUM at the last parking (R523). -/
  parkStep : Nat
  detaches : List (Nat × Nat)
  /-- 64-bit registers accessed by halves, by offset: low half held, high half captured (R13). -/
  heldLow : Map Nat
  capturedHigh : Map Nat
  deriving DecidableEq, Repr

def HostUnit.reset : HostUnit :=
  { h2d := [], d2h := [], classQ := [], heldResp := [], holdQ := [], msix := [], pba := [], vec0Last := none
    vec0Waiting := false, busMaster := false, msixEnable := false, atsEnable := false, priEnable := false, requests := .reset
    bar4Size := 2 ^ 30, d3hot := false, wdogUsed := 0, wdogSince := 0, parkCause := none, parkStep := 0, detaches := [], heldLow := []
    capturedHigh := [] }

/-! ### Fault containment and the event recorder (chapter 18) -/

/-- An entry of an error queue (R547). -/
structure ErrEntry where
  event : EventRec
  arrival : Nat
  subsumed : Bool
  deriving DecidableEq, Repr

/-- An error queue and its handler (R547, R548). -/
structure ErrQueue where
  waiting : List ErrEntry
  handling : Option ErrEntry
  suspended : List ErrEntry
  arrivals : Nat
  deriving DecidableEq, Repr

def ErrQueue.empty : ErrQueue := { waiting := [], handling := none, suspended := [], arrivals := 0 }

/-- A fault-map entry (R566). -/
structure FaultEntry where
  kind : Nat
  die : Nat := 0
  block : Nat := 0
  cluster : Nat := 0
  cell : Nat := 0
  station : Nat := 0
  index : Nat := 0
  host : Bool := false
  code : Nat := 0
  deriving DecidableEq, Repr

/-- The header and record section of a crash dump (R562); core sections and trace are non-architectural. -/
structure CrashDump where
  cause : Nat
  core : Nat
  fwImage : Nat
  calNs : Nat
  step : Nat
  fwVersion : Nat
  dumpSeq : Nat
  records : List EventRec
  deriving DecidableEq, Repr

/-- Error queues, fault map, event recorder and crash slots beside their registers (R539 to R566). -/
structure FaultUnit where
  /-- Error queues of C0 to C3 (0 to 3) and of X0 (4). -/
  errq : Map ErrQueue
  /-- The fault map, by entry number (R550). -/
  fmap : Map FaultEntry
  /-- Units removed from the map that do no work until the next plan switch (R553). -/
  idleUnits : List FaultEntry
  /-- Arrays whose self-test runs: 8 × die + Array (R429, R433). -/
  selftests : List Nat
  /-- Recorder slots, input queue, FATAL records on the flash path, flash log oldest first (R554 to R560). -/
  slots : Map EventRec
  inputQ : List EventRec
  flashQ : List EventRec
  log : List EventRec
  /-- Slots that were freed and not written since: a record of each, whose bytes stay but for MARK (R558). -/
  freed : Map EventRec
  /-- Slots whose last record the DDR5 mirror holds, and slots whose SRAM word cannot be corrected (R554). -/
  mirror : List Nat
  badSlots : List Nat
  /-- Poisoned places that no address shows: tier, die or DDR5 channel, index (R488, R489, R546). -/
  dark : List (Nat × Nat × Nat)
  /-- Crash slots 0 to 3, the dumps being written, oldest first, dumps since manufacture (R561, R562). -/
  crash : Map CrashDump
  dumping : List CrashDump
  dumpSeq : Nat
  deriving DecidableEq, Repr

def FaultUnit.reset : FaultUnit :=
  { errq := [], fmap := [], idleUnits := [], selftests := [], slots := [], inputQ := [], flashQ := [], log := [], freed := [], mirror := [], badSlots := [], dark := [], crash := []
    dumping := [], dumpSeq := 0 }

/-! ### Power, firmware, security, package (chapters 19 and 20) -/

/-- A boot descriptor (R581). -/
structure BootDesc where
  seq : Nat
  active : Nat
  trial : Bool
  prev : Nat
  deriving DecidableEq, Repr

/-- The SPI NOR flash (R578): firmware images A and B up to IMAGE_SIZE ([] where nothing valid was written), the two descriptor copies (none
where MAGIC or CRC is wrong), the board configuration record, the certificate chain.  The crash area and the FATAL log stand in `FaultUnit`. -/
structure Flash where
  images : List (List Byte)
  descs : List (Option BootDesc)
  record : List Byte
  certs : List Byte
  deriving DecidableEq, Repr

/-- The fuses (R588): digests and secret of manufacture, ROLLBACK, owner keys 1 to 4, revoked slots as bits k − 1. -/
structure Fuses where
  vendorDigest : List Byte
  debugDigest : List Byte
  uds : List Byte
  rollback : Nat
  owner : List (Option (List Byte))
  revoked : Nat
  deriving DecidableEq, Repr

/-- The state of an SPDM connection (R592): requests answered so far (1 version, 2 capabilities, 3 algorithms), their transcript, and what
CHALLENGE and the measurements add to it. -/
structure SpdmConn where
  stage : Nat
  vca : List Byte
  m1 : List Byte
  l1 : List Byte
  deriving DecidableEq, Repr

def SpdmConn.reset : SpdmConn := { stage := 0, vca := [], m1 := [], l1 := [] }

/-- The Test Access Port (R624 to R626): the instruction in force, whether the last one was not obeyed, the boundary register's update
latches, nearest TDO first, and the halted cells that may run one instruction each; the stations halted, and those of them that step (R595). -/
structure TapUnit where
  ir : Nat
  refused : Bool
  boundary : List Bool
  steps : List Nat
  stations : List FaultEntry
  stationSteps : List FaultEntry
  deriving DecidableEq, Repr

def TapUnit.reset : TapUnit := { ir := 0x02, refused := false, boundary := [], steps := [], stations := [], stationSteps := [] }

/-- The management plane beside its registers. -/
structure MgmtUnit where
  /-- Rails and clocks in range; PERST# low; the cold-reset schedule runs, since a time; the boot ROM has ended; the firmware runs on
  the management cores (R582, R583, R618). -/
  powered : Bool
  perst : Bool
  started : Bool
  t0 : Nat
  booted : Bool
  fw : Bool
  /-- Governor (R567 to R569): energies are in units of 10⁻⁷ mJ, one W for one µs being 10⁴ of them.  Time of the last sample, samples of
  the period so far, its energy, its allowance, whether it is gated, the energies of earlier periods with their gating, newest first. -/
  sampleAt : Nat
  samples : Nat
  energy : Nat
  allowance : Int
  gated : Bool
  history : List (Nat × Bool)
  /-- BMC power cap (R568, R577). -/
  bmcCap : Nat
  /-- Limit Guard: successive samples out of range of each rail's voltage, and of each VDD_Cd's current (R574). -/
  outV : List Nat
  outI : List Nat
  /-- Hottest point of each die, C0 to C3, X0, X1, and temperature of each stack, in °C. -/
  hot : List Nat
  stackTemp : List Nat
  /-- Clock raises waiting for the rail to settle: die, target in MHz (R572); die, time of the set-point command (R614); die,
  set point before it. -/
  raising : Map Nat
  raisedAt : Map Nat
  vddBefore : Map Nat
  /-- VOUT_MODE exponents of the regulators that answered at the start of firmware (R613). -/
  vmode : Map Nat
  adjustAt : Nat
  /-- Time at which the last emergency ended (R586). -/
  emergEnd : Nat
  /-- MCTP endpoint ID, sensor readings 1 to 59 of the last refresh (R576, R577). -/
  eid : Nat
  readings : List Nat
  readAt : Nat
  /-- Firmware update: image being written with its message and slot, slot staged, time the activation became PENDING, and that the
  emergencies have been clear for a continuous 1 s since (R586). -/
  staging : Option (MsgRef × Nat × List Byte)
  staged : Nat
  pendingSince : Nat
  clearSeen : Bool
  /-- Restart of the cores after a crash is under way (R561). -/
  crashed : Bool
  /-- Nonce and the time it was issued (R590); SPDM connections over DOE and over the mailbox (R592). -/
  nonce : Option (List Byte × Nat)
  spdm : List SpdmConn
  tap : TapUnit
  deriving DecidableEq, Repr

def MgmtUnit.reset : MgmtUnit :=
  { powered := true, perst := false, started := true, t0 := 0, booted := false, fw := false, sampleAt := 0, samples := 0, energy := 0, allowance := 13963000000, gated := false
    history := [], bmcCap := 1400, outV := List.replicate 15 0, outI := List.replicate 4 0, hot := List.replicate 6 0
    stackTemp := List.replicate 16 0, raising := [], raisedAt := [], vddBefore := [], vmode := [], adjustAt := 0, emergEnd := 0, eid := 0, readings := List.replicate 59 0
    readAt := 0, staging := none, staged := 0, pendingSince := 0, clearSeen := false, crashed := false, nonce := none, spdm := [.reset, .reset], tap := .reset }

/-- An erased flash and a part with no owner key: what the board and the manufacture fix (log 8). -/
def Flash.reset : Flash := { images := [[], []], descs := [none, none], record := [], certs := [] }
def Fuses.reset : Fuses :=
  { vendorDigest := List.replicate 64 0, debugDigest := List.replicate 64 0, uds := List.replicate 64 0, rollback := 0, owner := [none, none, none, none], revoked := 0 }

/-! ### The board and the part (chapters 0, 16, 19, 20) -/

/-- What the board and the part fix: capacity grade, serial number, straps (R2, R484, R617, R538). -/
structure Board where
  /-- Capacity of each HBM4 stack in GiB: 36, 48 or 64 (R2). -/
  stackGib : Nat
  serial : Nat
  strapBoot : Nat
  strapSmb : Nat
  strapPcie : Nat
  deriving DecidableEq, Repr

def Board.reset : Board := { stackGib := 48, serial := 0, strapBoot := 0, strapSmb := 0, strapPcie := 1 }

/-! ### The device and the machine -/

/-- The device: every piece of its state but the queue of commands. -/
structure Device where
  /-- The internal timebase in ns (R39). -/
  now : Nat
  /-- Registers that do not read their reset value, by BAR0 offset (or `0x1000_0000` + BAR2 offset), offsets rising. -/
  regs : Map DWord
  /-- Device memory: bytes that are not 0, addresses rising (R473, R499), and the poisoned 64-byte granules (R488). -/
  mem : List Host.Cell
  poison : List Nat
  board : Board
  time : TimeUnit
  host : HostUnit
  fault : FaultUnit
  plan : PlanUnit
  link : LinkUnit
  memu : MemUnit
  mgmt : MgmtUnit
  flash : Flash
  fuses : Fuses
  stn : StationUnit
  /-- Pack instances by station key. -/
  pack : Map PackInst
  /-- Match entries by 4096 × (64 × die + bank) + entry, and gangs by the leader's station key. -/
  matchE : Map MatchEntry
  matchI : Map MatchInst
  /-- Rows in pieces of Select instances, by station key, oldest first. -/
  sel : Map (List SelRow)
  /-- Embedding tables by 64 × die + TABLE_ID. -/
  emb : Map EmbTable
  /-- Array jobs by station key, beside their entries in `stn`. -/
  arr : Map ArrJob
  /-- Streams, Lifts, pools and tasks; Gates and sync objects. -/
  str : StreamUnit
  sched : SchedUnit
  /-- Cells by physical global ID. -/
  cells : Map Cell
  /-- Everything that has left the device, oldest first. -/
  out : List Output
  /-- The model's own counter for free values: the next unused index of `Config.freeValue`. -/
  fresh : Nat
  deriving DecidableEq, Repr

def Device.reset : Device :=
  { now := 0, regs := [], mem := [], poison := [], board := .reset, time := .reset, host := .reset, fault := .reset, plan := .reset
    link := .reset, memu := .reset, mgmt := .reset, flash := .reset, fuses := .reset, stn := .reset, pack := [], matchE := [], matchI := [], sel := [], emb := [], arr := [], str := .reset, sched := .reset, cells := [], out := [], fresh := 0 }

/-- The machine: the device and the queue of commands waiting, first in, first out. -/
structure State where
  dev : Device
  pending : List Instr
  deriving DecidableEq, Repr

/-- Right after a cold reset: every register at its reset value, memory with nothing listed, no command waiting. -/
def State.reset : State := { dev := .reset, pending := [] }

end Sys2Proof.Machine
end

