-- ==== Sys2Proof/Machine/Ops.lean ====
section
/-!
DEFINITION. The named operations every family shares: registers, memory, time, errors, event records, interrupts and
mailbox messages.
-/

namespace Sys2Proof.Machine

/-- The device is in reset (R534, R582, R618): without power, with PERST# low, or held by STRAP_BOOT = 3; its units run otherwise. -/
def Device.inReset (d : Device) : Bool := !d.mgmt.powered || d.mgmt.perst || !d.mgmt.started

/-- A meaning that completes in and out of reset: power, PERST# and the Test Access Port. -/
def State.updAny (s : State) (f : Device → Device) : Host.Outcome State Fault Refusal := .next { s with dev := f s.dev }

/-- A meaning that always completes: it changes the device and leaves the queue alone.  A device in reset takes nothing (log 10). -/
def State.upd (s : State) (f : Device → Device) : Host.Outcome State Fault Refusal :=
  s.updAny (fun d => if d.inReset then d else f d)

/-! ### Registers -/

/-- The stored value of a register (R10: the value it reads, for a register that is not computed from other state). -/
def Device.reg (d : Device) (off : Nat) : DWord := (d.regs.get? off).getD (regReset off)

/-- Stores a register, keeping the file canonical. -/
def Device.setReg (d : Device) (off : Nat) (v : DWord) : Device := { d with regs := Map.setC d.regs (regReset off) off v }

/-- A field of a register. -/
def Device.fld (d : Device) (off : Nat) (f : Fld) : Nat := bitsOf (d.reg off).toNat f.lo f.w

/-- Sets a field of a register (the value taken modulo the field's width). -/
def Device.setFld (d : Device) (off : Nat) (f : Fld) (v : Nat) : Device :=
  d.setReg off (BitVec.ofNat 64 (withBits (d.reg off).toNat f.lo f.w v))

/-- A counter field moves up by `n`, saturating at all ones. -/
def Device.bumpBy (d : Device) (off : Nat) (f : Fld) (n : Nat) : Device := d.setFld off f (satAdd f.w (d.fld off f) n)

/-- A whole counter register of `w` bits moves up by `n`, saturating. -/
def Device.count (d : Device) (off w n : Nat) : Device := d.bumpBy off ⟨0, w⟩ n

/-- R13: a held low half and a captured high half of the 64-bit register at an offset are discarded. -/
def Device.dropHalves (d : Device) (off : Nat) : Device :=
  { d with host := { d.host with heldLow := d.host.heldLow.del off, capturedHigh := d.host.capturedHigh.del off } }

/-- A command that is a 64-bit host write of the 64-bit register at an offset: any half held or captured is discarded (R13). -/
def State.write64 (s : State) (off : Nat) (f : Device → Device) : Host.Outcome State Fault Refusal := s.upd (fun d => f (d.dropHalves off))

/-! ### Memory -/

/-- What an address not listed reads as: memory is zeroed when training ends (R499). -/
def memDefault : Byte := 0

/-- Reads one byte of device memory. -/
def memRead (m : List Host.Cell) (a : Nat) : Byte := Map.getD m a memDefault

/-- Writes one byte, keeping the list canonical. -/
def memWrite (m : List Host.Cell) (a : Nat) (b : Byte) : List Host.Cell := Map.setC m memDefault a b

/-- The canonical form: addresses strictly rising, no entry equal to what an unlisted address reads as. -/
def Memory.wf (m : List Host.Cell) : Bool := Map.rising m && m.all (fun e => e.2 != memDefault)

def memReadN (m : List Host.Cell) (a : Nat) : (n : Nat) → List Byte
  | 0 => []
  | n + 1 => memRead m a :: memReadN m (a + 1) n

def memWriteN (m : List Host.Cell) (a : Nat) (bs : List Byte) : List Host.Cell :=
  match bs with
  | [] => m
  | b :: r => memWriteN (memWrite m a b) (a + 1) r

/-- Bytes of device memory. -/
def Device.read (d : Device) (a n : Nat) : List Byte := memReadN d.mem a n
/-- The little-endian number of `n` bytes at an address. -/
def Device.readLe (d : Device) (a n : Nat) : Nat := ofLe (d.read a n)
/-- Writes bytes of device memory; a 64-byte granule written whole is poisoned no more (R488). -/
def Device.write (d : Device) (a : Nat) (bs : List Byte) : Device :=
  { d with mem := memWriteN d.mem a bs
           poison := d.poison.filter (fun g => !(decide (a ≤ 64 * g) && decide (64 * g + 64 ≤ a + bs.length))) }

/-- The 64-byte granules a range touches (R488). -/
def granules (a n : Nat) : List Nat := if n = 0 then [] else (List.range ((a + n - 1) / 64 - a / 64 + 1)).map (fun i => a / 64 + i)

/-- Every granule of a range becomes poisoned (R546). -/
def Device.poisonRange (d : Device) (a n : Nat) : Device := { d with poison := (granules a n).foldl addNew d.poison }

/-- Some granule of a range is poisoned (R488). -/
def Device.poisoned (d : Device) (a n : Nat) : Bool := (granules a n).any (fun g => g ∈ d.poison)

/-! ### Time -/

/-- R39: the clock moves forward to a time, never back. -/
def Device.at (d : Device) (t : Nat) : Device := { d with now := max d.now t }

/-- PRED_NS (R43). -/
def Device.pred (d : Device) : Nat := d.fld Reg.CAD_PRED_PERIOD Fd.CAD_PRED_PERIOD_PRED_NS

/-- R45: PHASE at a time of the present step. -/
def Device.phaseAt (d : Device) (t : Nat) : Nat := min 65535 ((t - d.time.stepStart) * 65536 / max 1 d.pred)

/-- R45: PHASE now. -/
def Device.phase (d : Device) : Nat := d.phaseAt d.now

/-- The first ns of the step at which PHASE is at least `p` (R45). -/
def Device.timeOfPhase (d : Device) (p : Nat) : Nat := d.time.stepStart + ceilDiv (p * max 1 d.pred) 65536

/-- The clock moves forward to the moment PHASE reaches `p`, if it has not passed. -/
def Device.reachPhase (d : Device) (p : Nat) : Device := d.at (d.timeOfPhase p)

/-- STEP_NUM (R40). -/
def Device.stepNum (d : Device) : Nat := d.fld Reg.STEP_NUM Fd.STEP_NUM_STEP

def Device.b1 (d : Device) : Nat := d.fld Reg.SEG_BOUNDS Fd.SEG_BOUNDS_B1
def Device.b2 (d : Device) : Nat := d.fld Reg.SEG_BOUNDS Fd.SEG_BOUNDS_B2
def Device.b3 (d : Device) : Nat := d.fld Reg.SEG_BOUNDS Fd.SEG_BOUNDS_B3

/-- R48: the segment of a phase: 0 Dawn, 1 Noon, 2 Dusk, 3 Night. -/
def Device.segment (d : Device) (p : Nat) : Nat := if p < d.b1 then 0 else if p < d.b2 then 1 else if p < d.b3 then 2 else 3

/-- R53, R54: the calendar count at a time. -/
def Device.calAtTime (d : Device) (t : Nat) : Nat :=
  (d.time.calBase + (t - d.time.calAt) * d.time.calNum / max 1 d.time.calDen) % 2 ^ 64

def Device.calNow (d : Device) : Nat := d.calAtTime d.now

def Device.calValid (d : Device) : Bool := d.fld Reg.CAL_STATUS Fd.CAL_STATUS_VALID = 1

/-- R57: the count an event record carries: CAL_TIME while valid, else the NONE-source count. -/
def Device.calForRecord (d : Device) : Nat := if d.calValid then d.calNow else (d.now - d.time.noneBase) % 2 ^ 64

/-! ### Interrupts -/

def Device.emit (d : Device) (o : Output) : Device := { d with out := d.out ++ [o] }

def Device.dmaOff (d : Device) : Bool := d.fld Reg.HOST_STATE Fd.HOST_STATE_DMA_OFF = 1

/-- The MSI-X table entry of a vector; masked at reset. -/
def Device.msixEntry (d : Device) (v : Nat) : MsixEntry := (d.host.msix.get? v).getD { addr := 0, data := 0, masked := true }

/-- R512: signals a vector. -/
def Device.signal (d : Device) (v : Nat) : Device :=
  if !d.host.msixEnable then d
  else if (d.msixEntry v).masked || d.dmaOff then { d with host := { d.host with pba := addNew d.host.pba v } }
  else d.emit (.msix v)

/-! ### Refusals (R15 to R19) -/

/-- The LAST_ERROR register of block `bb` for die `k` (blocks of the whole package ignore `k`). -/
def lastErrorReg (bb k : Nat) : Nat :=
  match bb with
  | 1 => Reg.HOST_LAST_ERROR | 2 => Reg.PLAN_LAST_ERROR | 3 => Reg.TENSOR_LAST_ERROR | 4 => Reg.STREAM_LAST_ERROR k
  | 5 => Reg.CELL_LAST_ERROR k | 6 => Reg.SCHED_LAST_ERROR k | 7 => Reg.INGEST_LAST_ERROR k | 8 => Reg.PACK_LAST_ERROR k
  | 9 => Reg.HASH_LAST_ERROR k | 10 => Reg.MATCH_LAST_ERROR k | 11 => Reg.SELECT_LAST_ERROR k
  | 12 => Reg.EMB_LAST_ERROR k | 13 => Reg.ARRAY_LAST_ERROR k | 14 => if k < 4 then Reg.TRAV_LAST_ERROR k else Reg.LINK_LAST_ERROR
  | 15 => Reg.MEM_LAST_ERROR | 16 => Reg.MGMT_LAST_ERROR | _ => Reg.SEC_LAST_ERROR

/-- COUNT of a LAST_ERROR register (R18). -/
def Device.errCount (d : Device) (off : Nat) : Nat := d.fld off ⟨16, 15⟩

/-- R538: bit BB of ERR_SUMMARY.BLOCKS. -/
def Device.blockHasError (d : Device) (bb : Nat) : Bool :=
  (List.range 5).any (fun k => decide (0 < d.errCount (lastErrorReg bb k)))

/-- R17, R18: the block records a refusal; vector 1 is signalled when its summary bit rises (R512). -/
def Device.refuseAt (d : Device) (off bb code : Nat) : Device :=
  let d' := (d.setFld off ⟨0, 16⟩ code).setFld off ⟨16, 15⟩ (min (d.errCount off + 1) 0x7FFF)
  if d.blockHasError bb then d' else d'.signal 1

/-- R15, R17: a refusal with a code 0xBBnn by the block BB (its die `k`, where the block has one register per die). -/
def Device.refuse (d : Device) (code : Nat) (k : Nat := 4) : Device :=
  d.refuseAt (lastErrorReg (code / 256) k) (code / 256) code

/-! ### Event records (R554 to R560) -/

/-- R556: a record arrives at the recorder: it takes its SEQ; a FATAL one goes to the flash path; it joins the input queue
(256 records, 32 of them for CRITICAL and FATAL) or is dropped. -/
def Device.recorderArrive (d : Device) (e : EventRec) : Device :=
  let seq := d.fld Reg.EVR_SEQ_NEXT Fd.EVR_SEQ_NEXT_SEQ
  let e := { e with seq := seq }
  let d := d.setFld Reg.EVR_SEQ_NEXT Fd.EVR_SEQ_NEXT_SEQ (seq + 1)
  let d := if e.severity = 5 then { d with fault := { d.fault with flashQ := d.fault.flashQ ++ [e] } } else d
  let room := if e.severity ≥ 4 then 256 else 224
  if d.fault.inputQ.length < room then { d with fault := { d.fault with inputQ := d.fault.inputQ ++ [e] } }
  else d.count Reg.EVR_DROPPED 32 1

/-- A record with CAL_NS, STEP and PHASE of the moment (R555). -/
def Device.stamp (d : Device) (e : EventRec) : EventRec :=
  { e with calNs := d.calForRecord, step := d.stepNum, phase := d.phase, calValid := d.calValid }

/-- Writes an event record of the moment. -/
def Device.record (d : Device) (e : EventRec) : Device := d.recorderArrive (d.stamp e)

/-! ### Mailbox messages (R515 to R524) -/

/-- A position of the D2H ring is free (R521). -/
def Device.d2hFree (d : Device) : Bool :=
  seqDist (d.fld Reg.MB_D2H_POS ⟨0, 32⟩) (d.fld Reg.MB_D2H_ACKED ⟨0, 32⟩) < 16384

/-- R513: a message has been written: vector 0, subject to coalescing. -/
def Device.vector0 (d : Device) : Device :=
  let c := d.fld Reg.MB_CTRL Fd.MB_CTRL_COALESCE_US * 1000
  let due := match d.host.vec0Last with | none => true | some t => t + c ≤ d.now
  if c = 0 || due then ({ d with host := { d.host with vec0Last := some d.now, vec0Waiting := false } }).signal 0
  else { d with host := { d.host with vec0Waiting := true } }

/-- R521: writes a message at the next ring position; DSEQ, POS and STEP are those of the moment. -/
def Device.writeD2h (d : Device) (m : D2hMsg) : Device :=
  let pos := d.fld Reg.MB_D2H_POS ⟨0, 32⟩
  let dseq := d.fld Reg.MB_DSEQ_NEXT ⟨0, 32⟩
  let m := { m with dseq := dseq, pos := pos, step := d.stepNum }
  let d := { d with host := { d.host with d2h := d.host.d2h.put (pos % 16384) m } }
  ((d.setFld Reg.MB_D2H_POS ⟨0, 32⟩ (pos + 1)).setFld Reg.MB_DSEQ_NEXT ⟨0, 32⟩ (dseq + 1)).vector0

/-- What stands for the H-seq of a command in progress whose rings have been reset since (R532): no response is written (log 46). -/
def orphan : Nat := 2 ^ 32

/-- R520, R521: the response to a consumed message: written, or held while no position is free; the message leaves its
class queue. -/
def Device.respond (d : Device) (m : MsgRef) (opcode status : Nat) (payload : List Byte) : Device :=
  let q := (d.host.classQ.getD (opcode / 4096) []).filter (fun x => x.hseq != m.hseq)
  let d := { d with host := { d.host with classQ := d.host.classQ.put (opcode / 4096) q } }
  let r : D2hMsg := { opcode := opcode, async := false, hseq := m.hseq, dseq := 0, pos := 0, status := status
                      cookie := m.cookie, step := 0, payload := payload }
  if m.hseq = orphan then d
  else if d.d2hFree then d.writeD2h r else { d with host := { d.host with heldResp := d.host.heldResp ++ [r] } }

/-- R525: a command of class `c` in progress: a DETACH before the device is parked, an image being written, a plan being stored or loaded, a
TASK_SUBMIT that waits for its tag. -/
def Device.inProgress (d : Device) (c : Nat) : Bool :=
  match c with
  | 0 => !d.host.detaches.isEmpty
  | 1 => d.mgmt.staging.isSome
  | 2 => d.plan.storing.isSome || d.plan.loading.isSome
  | 4 => d.str.allocWait.any (fun w => match w with | .submit .. => true | _ => false)
  | _ => false

/-- R519: the commands of a class execute one at a time, in H-seq order: the front message of its class queue is this command, with the payload
that `is` describes, and no command of the class is in progress. -/
def Device.turn (d : Device) (m : MsgRef) (opcode : Nat) (is : List Byte → Bool) : Bool :=
  !d.inProgress (opcode / 4096) && (d.host.classQ.getD (opcode / 4096) []).head?.any
    (fun x => x.hseq = m.hseq && x.cookie = m.cookie && x.opcode = opcode && is x.payload)

/-- The fields of a payload hold these values: offset, bytes, value. -/
def fieldsAre (fs : List (Nat × Nat × Nat)) (b : List Byte) : Bool := fs.all (fun f => leAt b f.1 f.2.1 = f.2.2)

/-- The meaning of a mailbox command: nothing happens until its turn (log 45). -/
def State.cmd (s : State) (m : MsgRef) (opcode : Nat) (is : List Byte → Bool) (f : Device → Device) : Host.Outcome State Fault Refusal :=
  s.upd (fun d => if d.turn m opcode is then f d else d)

/-- R17, R520: a refused command: the block records the code and the response carries it with LEN 0. -/
def Device.refuseMsg (d : Device) (m : MsgRef) (opcode code : Nat) (k : Nat := 4) : Device :=
  (d.refuse code k).respond m opcode code []

/-- R522: an unsolicited message: written, held in the queue of 256, or dropped with its D-seq taken. -/
def Device.sendAsync (d : Device) (opcode : Nat) (payload : List Byte) : Device :=
  let r : D2hMsg := { opcode := opcode, async := true, hseq := 0, dseq := 0, pos := 0, status := 0, cookie := 0
                      step := 0, payload := payload }
  if d.d2hFree && d.host.holdQ.isEmpty then d.writeD2h r
  else if d.host.holdQ.length < 256 then { d with host := { d.host with holdQ := d.host.holdQ ++ [r] } }
  else (d.count Reg.MB_DROPPED 32 1).setFld Reg.MB_DSEQ_NEXT ⟨0, 32⟩ (d.fld Reg.MB_DSEQ_NEXT ⟨0, 32⟩ + 1)

/-- R512: STATE of HOST_STATE changes: vector 2. -/
def Device.setHostState (d : Device) (st : Nat) : Device :=
  if d.fld Reg.HOST_STATE Fd.HOST_STATE_STATE = st then d
  else (d.setFld Reg.HOST_STATE Fd.HOST_STATE_STATE st).signal 2

/-! ### Units that do no work (R543, R550, R553) -/

/-- An entry covers cluster `k` = 4096 × die + cluster. -/
def FaultEntry.coversCluster (e : FaultEntry) (k : Nat) : Bool :=
  e.die = k / 4096 && (e.kind = 5 || (e.kind = 3 && e.block = k % 4096 / 64) || (e.kind = 2 && 64 * e.block + e.cluster = k % 4096))

/-- The cluster is fenced, or was removed from the map and not named by a plan switched in since. -/
def Device.clusterFenced (d : Device) (k : Nat) : Bool :=
  d.fault.fmap.any (fun e => e.2.coversCluster k) || d.fault.idleUnits.any (fun e => e.coversCluster k)

/-- The die is contained: the map holds its DIE entry. -/
def Device.dieContained (d : Device) (die : Nat) : Bool := d.fault.fmap.any (fun e => e.2.kind = 5 && e.2.die = die)

/-- The package is contained. -/
def Device.packageContained (d : Device) : Bool := d.fld Reg.FMAP_STATUS Fd.FMAP_STATUS_PACKAGE_CONTAINED = 1

/-- A value the spec leaves open, taken fresh (log 1). -/
def Device.free (d : Device) : BitVec 64 × Device := (Config.freeValue d.fresh, { d with fresh := d.fresh + 1 })

end Sys2Proof.Machine
end

