-- ==== Sys2Proof/Machine/PlanImage.lean ====
section
/-!
DEFINITION. The records of a plan image, read from its bytes: header (R60), section table (R63), record areas (R628) and the
records of this chapter and of streams, Lifts, Gates and sync objects (R66 to R69, R131, R137, R148, R201, R227).
-/

namespace Sys2Proof.Machine

/-! ### Header and sections -/

def imgSize (b : List Byte) : Nat := leAt b 0x00C 4
def imgPlanId (b : List Byte) : Nat := leAt b 0x010 4
def imgVersion (b : List Byte) : Nat := leAt b 0x014 4
def imgSigned (b : List Byte) : Bool := bitAt (leAt b 0x018 4) 0
def imgPerArray (b : List Byte) : Bool := bitAt (leAt b 0x018 4) 1
def imgDieMask (b : List Byte) : Nat := bitsOf (leAt b 0x01C 1) 0 4
def imgGroupSize (b : List Byte) : Nat := leAt b 0x01D 1
def imgSectionCount (b : List Byte) : Nat := leAt b 0x01E 2
def imgB1 (b : List Byte) : Nat := leAt b 0x020 2
def imgB2 (b : List Byte) : Nat := leAt b 0x022 2
def imgB3 (b : List Byte) : Nat := leAt b 0x024 2
def imgKeySlot (b : List Byte) : Nat := leAt b 0x026 1
def imgDigest (b : List Byte) : List Byte := (b.drop 0x080).take 64
def imgSignature (b : List Byte) : List Byte := (b.drop 0x0C0).take 114

/-- A section-table entry (R63). -/
structure SecEntry where
  type : Nat
  dieMask : Nat
  off : Nat
  len : Nat
  crc : Nat
  deriving DecidableEq, Repr

def secEntry (b : List Byte) (i : Nat) : SecEntry :=
  let e := (b.drop (0x200 + 16 * i)).take 16
  { type := leAt e 0 2, dieMask := bitsOf (leAt e 2 1) 0 4, off := leAt e 4 4, len := leAt e 8 4, crc := leAt e 12 4 }

def secEntries (b : List Byte) : List SecEntry := (List.range (imgSectionCount b)).map (secEntry b)

/-- The bytes of the section of a type that applies to a die; none when there is none. -/
def sectionOf (b : List Byte) (die type : Nat) : Option (List Byte) :=
  match (secEntries b).find? (fun e => e.type = type && bitAt e.dieMask die) with
  | some e => some ((b.drop e.off).take e.len)
  | none => none

/-- R628: the record area of STATIONS (`size` 8) and PLACEMENT (`size` 32): offsets of its records, or none where the test
refuses.  `fuel` bounds the walk by the section's length. -/
def recordWalk (sec : List Byte) (size : Nat) (refs : List Byte → List (Nat × Nat)) :
    (fuel p stop : Nat) → Option (List Nat)
  | 0, _, _ => none
  | f + 1, p, stop =>
    if p ≥ stop then (if p = stop then some [] else none)
    else if p + size > stop then none
    else
      let r := (sec.drop p).take size
      let stop' := (refs r).foldl (fun e x => if x.2 = 0 then e else min e x.1) stop
      match recordWalk sec size refs f (p + size) stop' with
      | some l => some (p :: l)
      | none => none

/-- The configuration a STATIONS record names (R67), the code and data images a PLACEMENT record names (R68). -/
def stationRefs (r : List Byte) : List (Nat × Nat) := [(leAt r 4 4, leAt r 2 2)]
def placementRefs (r : List Byte) : List (Nat × Nat) := [(leAt r 16 4, leAt r 20 2), (leAt r 24 4, leAt r 28 4)]

/-- The records of a section, each with its offset. -/
def recordsOf (sec : List Byte) (type : Nat) : Option (List (Nat × List Byte)) :=
  let size := match type with | 1 => 24 | 2 => 8 | 3 => 32 | 11 => 16 | 4 => 32 | 7 => 32 | 8 => 8 | 9 => 128 | _ => 1
  let refs := match type with | 2 => stationRefs | 3 => placementRefs | _ => fun _ => []
  match recordWalk sec size refs (sec.length + 1) 0 sec.length with
  | some l => some (l.map (fun p => (p, (sec.drop p).take size)))
  | none => none

/-- The records of a die's section of a type; empty where there is no section. -/
def dieRecords (b : List Byte) (die type : Nat) : List (List Byte) :=
  match sectionOf b die type with
  | some sec => ((recordsOf sec type).getD []).map (·.2)
  | none => []

/-! ### Records of this chapter -/

/-- A MEMORY region (R66). -/
structure Region where
  die : Nat
  id : Nat
  tier : Nat
  shared : Bool
  staging : Bool
  base : Nat
  size : Nat
  deriving DecidableEq, Repr

def regionsOf (b : List Byte) (die : Nat) : List Region :=
  (dieRecords b die 1).map (fun r =>
    { die := die, id := leAt r 0 2, tier := leAt r 2 1, shared := bitAt (leAt r 3 1) 0, staging := bitAt (leAt r 3 1) 1
      base := leAt r 8 8, size := leAt r 16 8 })

/-- A station instance with its configuration (R67). -/
structure StationRec where
  die : Nat
  kind : Nat
  index : Nat
  config : List Byte
  deriving DecidableEq, Repr

def stationsOf (b : List Byte) (die : Nat) : List StationRec :=
  match sectionOf b die 2 with
  | none => []
  | some sec => ((recordsOf sec 2).getD []).map (fun pr =>
      let r := leAt pr.2 0 8
      { die := die, kind := bitsOf r 0 4, index := bitsOf r 4 6, config := (sec.drop (bitsOf r 32 32)).take (bitsOf r 16 16) })

/-- A placement record (R68); `cluster` is 64 × block + cluster as the plan wrote it. -/
structure Placement where
  die : Nat
  prog : Nat
  cluster : Nat
  pinned : Bool
  mask : Nat
  code : List Byte
  entry : Nat
  data : List Byte
  deriving DecidableEq, Repr

def placementsOf (b : List Byte) (die : Nat) : List Placement :=
  match sectionOf b die 3 with
  | none => []
  | some sec => ((recordsOf sec 3).getD []).map (fun pr =>
      let r := pr.2
      { die := die, prog := leAt r 0 2, cluster := 64 * bitsOf (leAt r 2 1) 0 6 + bitsOf (leAt r 3 1) 0 6
        pinned := bitAt (leAt r 4 1) 0, mask := leAt r 8 8, code := (sec.drop (leAt r 16 4)).take (leAt r 20 2)
        entry := leAt r 22 2, data := (sec.drop (leAt r 24 4)).take (leAt r 28 4) })

/-- A stage record (R69). -/
structure StageRec where
  id : Nat
  next : Nat
  kind : Nat
  start : Nat
  handover : Nat
  commit : Nat
  deriving DecidableEq, Repr

def stagesOf (b : List Byte) (die : Nat) : List StageRec :=
  (dieRecords b die 11).map (fun r =>
    { id := leAt r 0 1, next := leAt r 1 1, kind := leAt r 2 1, start := leAt r 4 2, handover := leAt r 6 2, commit := leAt r 8 2 })

/-! ### Streams, Lifts, pools -/

/-- An endpoint (R148). -/
structure Endpoint where
  cluster : Bool
  die : Nat
  num : Nat
  deriving DecidableEq, Repr

def endpointOf (v : Nat) : Endpoint := { cluster := bitsOf v 18 2 = 1, die := bitsOf v 16 2, num := bitsOf v 0 16 }

structure LiftRec where
  id : Nat
  consumer : Endpoint
  producers : List Endpoint
  deriving DecidableEq, Repr

structure PoolRec where
  id : Nat
  region : Nat
  off : Nat
  size : Nat
  count : Nat
  deriving DecidableEq, Repr

def liftsOf (b : List Byte) (die : Nat) : List LiftRec :=
  ((dieRecords b die 4).filter (fun r => leAt r 0 1 = 1)).map (fun r =>
    { id := leAt r 2 2, consumer := endpointOf (leAt r 4 4)
      producers := (List.range (leAt r 1 1)).map (fun i => endpointOf (leAt r (8 + 4 * i) 4)) })

def poolsOf (b : List Byte) (die : Nat) : List PoolRec :=
  ((dieRecords b die 4).filter (fun r => leAt r 0 1 = 2)).map (fun r =>
    { id := leAt r 2 2, region := leAt r 4 2, off := leAt r 8 8, size := leAt r 16 4, count := leAt r 20 4 })

/-- A stream record: a Piste record (R131) or an affine record (R137). -/
structure StreamRec where
  sid : Nat
  affine : Bool
  write : Bool
  prologue : Bool
  taskHead : Bool
  conditional : Bool
  accessWidth : Nat
  lift : Nat
  pool : Nat
  runahead : Nat
  stage : Nat
  due : Nat
  pace : Nat
  /-- Piste instruction words; the affine descriptor's 96 bytes. -/
  instrs : List Nat
  desc : List Byte
  rowsPerBuffer : Nat
  group : Nat
  groupSource : Bool
  deriving DecidableEq, Repr

def pisteRec (r : List Byte) : StreamRec :=
  let n := leAt r 8 1
  { sid := leAt r 0 2, affine := false, write := bitAt (leAt r 2 1) 0, prologue := bitAt (leAt r 2 1) 1
    taskHead := bitAt (leAt r 2 1) 2, conditional := bitAt (leAt r 2 1) 3, accessWidth := 8 * 2 ^ bitsOf (leAt r 3 1) 0 2
    lift := leAt r 4 2, pool := leAt r 6 2, runahead := leAt r 9 1, stage := leAt r 10 1, due := leAt r 12 2
    pace := leAt r 14 2, instrs := (List.range n).map (fun i => leAt r (32 + 8 * i) 8), desc := [], rowsPerBuffer := 0
    group := 0xFF, groupSource := false }

/-- The Piste records of a section, one after another. -/
def pisteWalk (sec : List Byte) : (fuel p : Nat) → List StreamRec
  | 0, _ => []
  | f + 1, p =>
    if p + 32 > sec.length then []
    else pisteRec (sec.drop p) :: pisteWalk sec f (p + 32 + 8 * leAt sec (p + 8) 1)

def pistesOf (b : List Byte) (die : Nat) : List StreamRec :=
  match sectionOf b die 5 with
  | some sec => pisteWalk sec sec.length 0
  | none => []

def affineRec (r : List Byte) : StreamRec :=
  { sid := leAt r 96 2, affine := true, write := false, prologue := bitAt (leAt r 98 1) 0, taskHead := false
    conditional := false, accessWidth := 8, lift := leAt r 100 2, pool := leAt r 102 2, runahead := 0
    stage := leAt r 108 1, due := leAt r 110 2, pace := leAt r 112 2, instrs := [], desc := r.take 96
    rowsPerBuffer := leAt r 104 4, group := leAt r 99 1, groupSource := bitAt (leAt r 98 1) 1 }

/-- A multicast group (R137). -/
structure McastGroup where
  id : Nat
  channel : Nat
  members : Nat
  deriving DecidableEq, Repr

/-- The records of an AFFINE section: group records (KIND 0x01, 16 bytes) and stream records (128 bytes at multiples of 32). -/
def affineWalk (sec : List Byte) : (fuel p : Nat) → List (McastGroup ⊕ StreamRec)
  | 0, _ => []
  | f + 1, p =>
    if p + 16 > sec.length then []
    else if leAt sec p 1 = 1 then
      .inl { id := leAt sec (p + 1) 1, channel := leAt sec (p + 2) 2, members := leAt sec (p + 4) 4 } :: affineWalk sec f (p + 16)
    else if alignUp p 32 + 128 > sec.length then []
    else .inr (affineRec ((sec.drop (alignUp p 32)).take 128)) :: affineWalk sec f (alignUp p 32 + 128)

def affinesOf (b : List Byte) (die : Nat) : List StreamRec :=
  match sectionOf b die 6 with
  | some sec => (affineWalk sec sec.length 0).filterMap (fun x => match x with | .inr r => some r | .inl _ => none)
  | none => []

def groupsOf (b : List Byte) (die : Nat) : List McastGroup :=
  match sectionOf b die 6 with
  | some sec => (affineWalk sec sec.length 0).filterMap (fun x => match x with | .inl g => some g | .inr _ => none)
  | none => []

/-! ### Gates and sync objects -/

/-- A Gate class (R201); `cluster` as the plan writes it. -/
structure GateClass where
  cls : Nat
  cluster : Nat
  prio : Nat
  arity : Nat
  flowMode : Nat
  delayMode : Nat
  flowBase : Nat
  delay : Nat
  inputs : List Nat
  quotas : List Nat
  deriving DecidableEq, Repr

def gateClass (r : List Byte) : GateClass :=
  let ar := bitsOf (leAt r 5 1) 0 3
  { cls := bitsOf (leAt r 1 1) 0 4, cluster := bitsOf (leAt r 2 2) 0 12, prio := bitsOf (leAt r 4 1) 0 3, arity := ar
    flowMode := bitsOf (leAt r 6 1) 0 2, delayMode := bitsOf (leAt r 6 1) 2 2, flowBase := bitsOf (leAt r 8 4) 0 20
    delay := leAt r 12 2, inputs := (List.range ar).map (fun i => leAt r (16 + 2 * i) 2)
    quotas := (List.range ar).map (fun i => leAt r (24 + 2 * i) 2) }

def gateClassesOf (b : List Byte) (die : Nat) : List GateClass := (dieRecords b die 7).map gateClass

/-- A SYNC record (R227): INDEX, KEEP, INITIAL. -/
structure SyncRec where
  index : Nat
  keep : Bool
  init : Nat
  deriving DecidableEq, Repr

def syncsOf (b : List Byte) (die : Nat) : List SyncRec :=
  (dieRecords b die 8).map (fun r => { index := leAt r 0 2, keep := bitAt (leAt r 2 1) 0, init := leAt r 4 4 })

/-! ### Moved programs (R82) -/

/-- PLAN_REPLACED (R82, R90). -/
def movesReg (ms : List Move) : Nat :=
  (List.range 4).foldl (fun n k => n + min 255 ((ms.filter (fun m => m.die = k)).length) * 2 ^ (8 * k)) 0

/-- The cluster a program written for cluster `p` of a die runs on. -/
def Plan.physical (pl : Plan) (die p : Nat) : Nat :=
  match pl.moves.find? (fun m => m.die = die && m.src = p) with
  | some m => m.dst
  | none => p

/-- The cluster the plan wrote for the program that runs on cluster `p`. -/
def Plan.logical (pl : Plan) (die p : Nat) : Nat :=
  match pl.moves.find? (fun m => m.die = die && m.dst = p) with
  | some m => m.src
  | none => p

/-- The placement record of the program on physical cluster `p`. -/
def Plan.placementAt (pl : Plan) (die p : Nat) : Option Placement :=
  (placementsOf pl.image die).find? (fun r => pl.physical die r.cluster = p)

/-- The Gate classes of physical cluster `p`, in ascending class number. -/
def Plan.classesAt (pl : Plan) (die p : Nat) : List GateClass :=
  sortBy (·.cls) ((gateClassesOf pl.image die).filter (fun c => pl.physical die c.cluster = p))

/-- R82: the local stream ID to which a reference that the plan or the host makes is bound: that of the port of the cluster used. -/
def Plan.boundStream (pl : Plan) (die sid : Nat) : Nat := if sid < 16384 then 4 * pl.physical die (sid / 4) + sid % 4 else sid

/-- A cluster's stream port moves with its program (R82): the stream record of a local stream ID in force, which the port of the cluster
that the program left has no more. -/
def Plan.streamRec (pl : Plan) (die sid : Nat) : Option StreamRec :=
  let l := if sid < 16384 then 4 * pl.logical die (sid / 4) + sid % 4 else sid
  if pl.boundStream die sid != sid then none else (pistesOf pl.image die ++ affinesOf pl.image die).find? (fun r => r.sid = l)

def Plan.liftRec (pl : Plan) (die lift : Nat) : Option LiftRec := (liftsOf pl.image die).find? (fun r => r.id = lift)
def Plan.poolRec (pl : Plan) (die pool : Nat) : Option PoolRec := (poolsOf pl.image die).find? (fun r => r.id = pool)
def Plan.region (pl : Plan) (die id : Nat) : Option Region := (regionsOf pl.image die).find? (fun r => r.id = id)
def Plan.stage (pl : Plan) (die id : Nat) : Option StageRec := (stagesOf pl.image die).find? (fun r => r.id = id)
def Plan.station (pl : Plan) (die kind k : Nat) : Option StationRec :=
  (stationsOf pl.image die).find? (fun r => r.kind = kind && r.index = k)

/-- Device address of buffer 0 of a pool (R148). -/
def Plan.poolBase (pl : Plan) (die : Nat) (r : PoolRec) : Nat := ((pl.region die r.region).map (·.base)).getD 0 + r.off

/-- The pool of the plan that holds a buffer: POOL_ID and address name it (R149). -/
def Plan.poolOfBuffer (pl : Plan) (pool addr : Nat) : Option (Nat × PoolRec) :=
  ([0, 1, 2, 3].filterMap (fun die => (pl.poolRec die pool).map (fun r => (die, r)))).find? (fun x =>
    let b := pl.poolBase x.1 x.2
    b ≤ addr && decide (addr < b + x.2.size * x.2.count) && (addr - b) % max 1 x.2.size = 0)

/-- The local stream IDs of a station's channels (R128). -/
def stationStream (kind k c : Nat) : Nat :=
  match kind with
  | 0 => 16384 + 4 * k + c | 1 => 16416 + 2 * k + c | 2 => 16544 + 2 * k + c | 3 => 16576 + 2 * k + c
  | 4 => 16592 + 4 * k + c | 5 => 16656 + 2 * k + c | 6 => 16784 + 2 * k + c | _ => 16792 + 4 * k + c

/-- The Lifts whose consumer is a stream or a cluster of a die, with the die the Lift lives on (the consumer's). -/
def Plan.liftsConsumedBy (pl : Plan) (e : Endpoint) : List LiftRec :=
  (liftsOf pl.image e.die).filter (fun r => r.consumer = e)

/-- The Lift (`4096 × die + LIFT_ID`) that a producer names by its LIFT_ID: producers may lie on any die (R148); the
producer's own die first. -/
def Plan.producerLift (pl : Plan) (e : Endpoint) (lift : Nat) : Option Nat :=
  (e.die :: [0, 1, 2, 3].filter (· != e.die)).findSome? (fun k => match pl.liftRec k lift with
    | some r => if e ∈ r.producers then some (4096 * k + lift) else none
    | none => none)

end Sys2Proof.Machine
end

