-- ==== Sys2Proof/Machine/AddressMap.lean ====
section
/-!
DEFINITION. The device physical address map (R473, R475, R480, R500).
-/

namespace Sys2Proof.Machine

/-- Where a device physical address lies. -/
inductive Place where
  | hbm (die : Nat)
  | ddr
  | bonded (die : Nat)
  | sram (die : Nat)
  | registers
  | host (addr : Nat)
  | peer (member addr : Nat)
  | unmapped
  deriving DecidableEq, Repr

def hbmBase (die : Nat) : Nat := die * 0x0040_0000_0000
def ddrBase : Nat := 0x0100_0000_0000
def bondedBase (die : Nat) : Nat := 0x0A00_0000_0000 + die * 0x0004_0000_0000
def sramBase (die : Nat) : Nat := 0x0B00_0000_0000 + die * 0x0001_0000_0000
def hostBase : Nat := 0x1000_0000_0000
def peerBase (m : Nat) : Nat := 0x2000_0000_0000 + m * 0x4000_0000_0000

/-- How the model writes the host bus address of a page that virtual memory maps to the host (R495): outside the 56-bit device
address space, since a host bus address may lie above the host window. -/
def hostBus (h : Nat) : Nat := 2 ^ 60 + h

/-- R475: device address of byte `o` of the data store of cluster `p`. -/
def clusterAddr (die p o : Nat) : Nat := sramBase die + p * 0x0002_0000 + o
/-- R475: device address of byte `o` of the operand staging of Array `k`. -/
def arrayStagingAddr (die k o : Nat) : Nat := sramBase die + 0x4000_0000 + k * 0x0080_0000 + o

def Device.hbmReady (d : Device) (die : Nat) : Bool := bitAt (d.fld Reg.MEM_STATUS Fd.MEM_STATUS_HBM_READY) die
def Device.bondedReady (d : Device) (die : Nat) : Bool := bitAt (d.fld Reg.MEM_STATUS Fd.MEM_STATUS_BONDED_READY) die
def Device.ddrMapped (d : Device) : Nat := (d.reg Reg.DDR_MAPPED).toNat

/-- R473: what maps an address; a tier or die window that is not ready maps nothing (R500). -/
def Device.place (d : Device) (a : Nat) : Place :=
  if a < 0x0100_0000_0000 then
    let die := a / 0x0040_0000_0000
    if a % 0x0040_0000_0000 < 4 * d.board.stackGib * 2 ^ 30 ∧ d.hbmReady die then .hbm die else .unmapped
  else if a < 0x0900_0000_0000 then
    if a - ddrBase < d.ddrMapped then .ddr else .unmapped
  else if 0x0A00_0000_0000 ≤ a ∧ a < 0x0A10_0000_0000 then
    let die := (a - 0x0A00_0000_0000) / 0x0004_0000_0000
    if (a - 0x0A00_0000_0000) % 0x0004_0000_0000 < 12 * 2 ^ 30 ∧ d.bondedReady die then .bonded die else .unmapped
  else if 0x0B00_0000_0000 ≤ a ∧ a < 0x0B04_0000_0000 then
    let die := (a - 0x0B00_0000_0000) / 0x0001_0000_0000
    let o := (a - 0x0B00_0000_0000) % 0x0001_0000_0000
    if o < 4096 * 0x0002_0000 ∨ (0x4000_0000 ≤ o ∧ o < 0x4000_0000 + 8 * 0x0080_0000) then .sram die else .unmapped
  else if 0x0C00_0000_0000 ≤ a ∧ a < 0x0C00_1000_0000 then .registers
  else if hostBase ≤ a ∧ a < 0x2000_0000_0000 then .host (a - hostBase)
  else if hostBus 0 ≤ a ∧ a < hostBus (2 ^ 56) then .host (a - hostBus 0)
  else if 0x2000_0000_0000 ≤ a ∧ a < 0x0008_2000_0000_0000 then
    .peer ((a - 0x2000_0000_0000) / 0x4000_0000_0000) ((a - 0x2000_0000_0000) % 0x4000_0000_0000)
  else .unmapped

/-- An address in the device's own HBM4, DDR5, bonded tiers or SRAM windows. -/
def Device.isLocal (d : Device) (a : Nat) : Bool :=
  match d.place a with
  | .hbm _ => true | .ddr => true | .bonded _ => true | .sram _ => true | _ => false

/-- Every byte of a range lies in the device's own memory.  Populated parts are whole 4,096-byte pages, so the range's
first, last and page-boundary bytes decide. -/
def Device.localRange (d : Device) (a n : Nat) : Bool :=
  n = 0 || ((List.range ((a + n - 1) / 4096 - a / 4096 + 1)).all (fun i => d.isLocal (max a ((a / 4096 + i) * 4096))))

/-- Tier number of a local address: 0 HBM4, 1 DDR5, 2 bonded, 3 SRAM (R66). -/
def Device.tierOf (d : Device) (a : Nat) : Nat :=
  match d.place a with
  | .hbm _ => 0 | .ddr => 1 | .bonded _ => 2 | _ => 3

/-! ### Interleaving (R478, R479, R481) -/

/-- Where a byte lies in its tier: the unit (a stack, an X-die or a bonded block), the channel of it, the address in the channel. -/
structure MemSpot where
  unit : Nat
  channel : Nat
  addr : Nat
  deriving DecidableEq, Repr

/-- The three digits that the interleaving of DDR5 and of a bonded block folds into a channel number. -/
def foldChannel (g n : Nat) : Nat := (g ^^^ g / 16 ^^^ g / 256) % n

/-- R478: offset `o` of the HBM4 window of a die: its stack, its pseudo-channel there, the address in it. -/
def hbmSpot (die o : Nat) : MemSpot :=
  let g := o / 256
  let u := (g ^^^ g / 256 ^^^ g / 65536) % 256
  { unit := 4 * die + u / 64, channel := u % 64, addr := g / 256 * 256 + o % 256 }

/-- R479: offset `o` of the populated DDR5 range over `n` channels; channels 0 to 7 lie on X0 (die 4), 8 to 15 on X1 (5). -/
def ddrSpot (n o : Nat) : MemSpot :=
  let g := o / 4096
  let c := foldChannel g n
  { unit := 4 + c / 8, channel := c, addr := g / n * 4096 + o % 4096 }

/-- The size of a block's part of a bonded window, 192 MiB. -/
def bondedBlock : Nat := 0x0C00_0000

/-- R481: offset `o` of a bonded window: its block, the channel beneath the block, the address in it. -/
def bondedSpot (o : Nat) : MemSpot :=
  let g := o % bondedBlock / 64
  { unit := o / bondedBlock, channel := foldChannel g 16, addr := g / 16 * 64 + o % 64 }

/-- Where a byte of HBM4, DDR5 or a bonded tier lies. -/
def Device.spot (d : Device) (a : Nat) : Option MemSpot :=
  match d.place a with
  | .hbm die => some (hbmSpot die (a - hbmBase die))
  | .ddr => some (ddrSpot (d.fld Reg.MEM_CONFIG Fd.MEM_CONFIG_DDR_CHANNELS) (a - ddrBase))
  | .bonded die => some (bondedSpot (a - bondedBase die))
  | _ => none

/-- The die whose memory holds an address (R479, R482): a compute die, or the X-die that holds the DDR5 channel. -/
def Device.memoryDie (d : Device) (a : Nat) : Nat :=
  match d.place a with
  | .hbm k => k | .bonded k => k | .sram k => k
  | .ddr => ((d.spot a).map (·.unit)).getD 4
  | _ => 4

/-- R555: the location of a memory fault (log 97). -/
def Device.memoryLoc (d : Device) (a : Nat) : Loc := { kind := 7, die := d.memoryDie a }

/-- The queue of the die that meets a storage fault at an address: a compute die for its own memory, X0 (4) for DDR5 (R547). -/
def Device.ownerQueue (d : Device) (a : Nat) : Nat :=
  match d.place a with
  | .hbm k => k | .bonded k => k | .sram k => k | _ => 4

end Sys2Proof.Machine
end

