-- ==== Sys2Proof/Machine/LinkOps.lean ====
section
/-!
DEFINITION. Routes, flits and the sending of link messages (R437 to R444).
-/

namespace Sys2Proof.Machine

def Device.updLink (d : Device) (f : LinkUnit → LinkUnit) : Device := { d with link := f d.link }

/-- The virtual channel of a message type (R443). -/
def vcOf (mtype : Nat) : Nat :=
  if mtype = 0x08 then 3 else if mtype = 0x09 ∨ mtype = 0x0A then 1 else if mtype = 0x0B then 2 else 0

def Device.portUp (d : Device) (p : Nat) : Bool := d.fld (Reg.PORT_STATUS p) Fd.PORT_STATUS_LINK_UP = 1
/-- The port is enabled in Alanauri mode. -/
def Device.portAlanauri (d : Device) (p : Nat) : Bool :=
  d.fld (Reg.PORT_CTRL p) Fd.PORT_CTRL_ENABLE = 1 && d.fld (Reg.PORT_CTRL p) Fd.PORT_CTRL_MODE = 0

/-- R444: the port a message to member `m` leaves on: PORT, or ALT_PORT while PORT's link is down; none without a route. -/
def Device.routePort (d : Device) (m : Nat) : Option Nat :=
  let r := Reg.GROUP_ROUTE m
  if d.fld r Fd.GROUP_ROUTE_VALID = 0 then none
  else if d.portUp (d.fld r Fd.GROUP_ROUTE_PORT) then some (d.fld r Fd.GROUP_ROUTE_PORT)
  else if d.fld r Fd.GROUP_ROUTE_ALT_VALID = 1 then some (d.fld r Fd.GROUP_ROUTE_ALT_PORT)
  else some (d.fld r Fd.GROUP_ROUTE_PORT)

/-- The device holds a route to a member. -/
def Device.hasRoute (d : Device) (m : Nat) : Bool := d.fld (Reg.GROUP_ROUTE m) Fd.GROUP_ROUTE_VALID = 1

/-! ### Messages and flits -/

/-- The bytes of a message: its 32-byte header and its payload (R442). -/
def linkBytes (m : LinkMsg) : List Byte :=
  u8 m.mtype ++ u8 0 ++ u8 m.src ++ u8 m.dst ++ u8 m.hops ++ u8 0 ++ u16 m.payload.length ++ u32 m.pseq ++ m.fields ++ m.payload

/-- The payloads of the DATA flits that carry a message, which starts a flit of its own: 240 bytes each, padded with zeros. -/
def linkFlits (m : LinkMsg) (die : Nat) : List TxFlit :=
  (chunks 240 (linkBytes m)).map (fun c => { vc := vcOf m.mtype, msg := m, die := die, payload := c ++ zeros (240 - c.length) })

def Device.portUnit (d : Device) (p : Nat) : PortUnit := d.link.ports.getD p PortUnit.trained
def Device.setPort (d : Device) (p : Nat) (u : PortUnit) : Device := d.updLink (fun l => { l with ports := l.ports.put p u })

/-- A flit leaves a port; while the package is contained the ports send nothing (R543). -/
def Device.sendFlit (d : Device) (p : Nat) (f : Flit) : Device :=
  if d.packageContained then d else (d.setPort p { d.portUnit p with lastTx := d.now }).emit (.flit p f)

/-- R440: a port that is up and has sent nothing for 64 ns sends an IDLE flit. -/
def Device.idleFlits (d : Device) : Device :=
  (List.range 8).foldl (fun d p =>
    let u := d.portUnit p
    if d.portAlanauri p && d.portUp p && decide (u.lastTx + 64 ≤ d.now) then
      d.sendFlit p { type := 0, vc := 0, seq := 0, ackSeq := u.rxSeq, creditVc := 0, credit := 0, payload := zeros 240 }
    else d) d

/-- The next flit that may leave: of channels 0, 2, 1, 3 the first that has a flit and a credit (R440). -/
def PortUnit.nextFlit (u : PortUnit) : Option TxFlit :=
  [0, 2, 1, 3].findSome? (fun v => if 0 < u.credits.getD v 0 then u.queue.find? (fun f => f.vc = v) else none)

/-- R439, R440: flits leave while there are credits and fewer than 512 are unacknowledged. -/
def Device.pump (d : Device) (p : Nat) : Nat → Device
  | 0 => d
  | n + 1 =>
    let u := d.portUnit p
    if !d.portUp p || d.packageContained || 512 ≤ u.retry.length then d
    else match u.nextFlit with
      | none => d
      | some f =>
        let u' := { u with txSeq := (u.txSeq + 1) % 4096, retry := u.retry ++ [(u.txSeq, d.now, f)], queue := u.queue.erase f
                           credits := setNth u.credits f.vc (u.credits.getD f.vc 0 - 1) }
        Device.pump ((d.setPort p u').sendFlit p { type := 1, vc := f.vc, seq := u.txSeq, ackSeq := u.rxSeq, creditVc := 0, credit := 0, payload := f.payload }) p n

/-- Flits join the queue of a port. -/
def Device.portSend (d : Device) (p : Nat) (fs : List TxFlit) : Device :=
  let u := d.portUnit p
  (d.setPort p { u with queue := u.queue ++ fs }).pump p (u.queue.length + fs.length)

/-- Sends a message to a member, with the next PSEQ of its destination and channel; without a route, and while the
package is contained, nothing leaves (R543). -/
def Device.sendLink (d : Device) (dst mtype : Nat) (fields payload : List Byte) (die : Nat := 4) : Device :=
  if d.packageContained then d
  else match d.routePort dst with
  | none => d
  | some p =>
    let k := 4 * dst + vcOf mtype
    let q := d.link.txPseq.getD k 0
    let m : LinkMsg := { mtype := mtype, src := d.fld Reg.GROUP_CTRL Fd.GROUP_CTRL_MEMBER_ID, dst := dst, hops := 0, pseq := q
                         fields := (fields ++ zeros 20).take 20, payload := payload }
    (d.updLink (fun l => { l with txPseq := l.txPseq.put k ((q + 1) % 2 ^ 32) })).portSend p (linkFlits m die)

end Sys2Proof.Machine
end

