-- ==== Sys2Proof/Machine/Tasks.lean ====
section
/-!
DEFINITION. Buffers, Lifts, tasks and aborts as every family uses them: taking and returning buffers (R148, R150), pushing and
popping handles (R150, R152), references and the end of a task (R154), staging (R156), the request of an abort (R160).
-/

namespace Sys2Proof.Machine

def Device.updStr (d : Device) (f : StreamUnit → StreamUnit) : Device := { d with str := f d.str }

/-! ### Streams -/

/-- The global stream ID (R128). -/
def gsid (die sid : Nat) : Nat := 32768 * die + sid

def Device.stream (d : Device) (g : Nat) : Stream := d.str.streams.getD g Stream.idle
def Device.setStream (d : Device) (g : Nat) (s : Stream) : Device := d.updStr (fun u => { u with streams := u.streams.put g s })

/-- R82: the stream to which a host's reference by local stream ID is bound. -/
def Device.boundStream (d : Device) (die sid : Nat) : Nat :=
  gsid die (match d.plan.active with | some pl => pl.boundStream die sid | none => sid)

/-- The record by which the active plan defines a stream. -/
def Device.streamRec (d : Device) (g : Nat) : Option StreamRec :=
  match d.plan.active with
  | some pl => pl.streamRec (g / 32768) (g % 32768)
  | none => none

/-! ### Task table -/

/-- R153: the tag of a stage, home die and SEQ. -/
def mkTag (stage home seq : Nat) : Nat := stage * 2 ^ 26 + home * 2 ^ 24 + seq
def tagStage (t : Nat) : Nat := bitsOf t 26 6
def tagHome (t : Nat) : Nat := bitsOf t 24 2
def tagSeq (t : Nat) : Nat := bitsOf t 0 24

/-- The table entry that holds a tag. -/
def Device.findTask (d : Device) (tag : Nat) : Option (Nat × Task) :=
  if tag = 0 then none else d.str.tasks.find? (fun e => e.2.tag = tag && e.1 / 1024 = tagHome tag)

def Device.setTask (d : Device) (k : Nat) (t : Task) : Device := d.updStr (fun u => { u with tasks := u.tasks.put k t })

def Task.live (t : Task) : Bool := t.state = .open || t.state = .ended

/-- Changes the entry of a tag, if the table holds it. -/
def Device.updTask (d : Device) (tag : Nat) (f : Task → Task) : Device :=
  match d.findTask tag with
  | some (k, t) => d.setTask k (f t)
  | none => d

/-- Live tasks homed on a die (R153). -/
def Device.liveTasks (d : Device) (die : Nat) : List (Nat × Task) :=
  d.str.tasks.filter (fun e => e.1 / 1024 = die && e.2.live)

/-- R168: the entry an allocation takes: the lowest never used, else the one that retired earliest. -/
def Device.freeEntry (d : Device) (die : Nat) : Option Nat :=
  match (List.range 1024).find? (fun i => (d.str.tasks.get? (1024 * die + i)).isNone) with
  | some i => some (1024 * die + i)
  | none =>
    let retired := d.str.tasks.filter (fun e => e.1 / 1024 = die && !e.2.live)
    (retired.foldl (fun best e =>
      match best with
      | none => some e
      | some b => if e.2.retired < b.2.retired then some e else best) none).map (·.1)

/-- R156: the deadline step of a task allocated now. -/
def Device.deadlineStep (d : Device) (die stage : Nat) : Nat :=
  match d.plan.active.bind (fun pl => pl.stage die stage) with
  | some r => if d.phase < r.commit then d.stepNum else (d.stepNum + 1) % 2 ^ 32
  | none => d.stepNum

/-- R153: allocation of a tag for a stage on its home die; none while the table is full or the SEQ is that of a live task.  The ordinals of
jobs of an earlier task of the same tag are forgotten (R242). -/
def Device.allocTag (d : Device) (die stage : Nat) : Option (Nat × Device) :=
  let seq := d.str.seqs.getD (64 * die + stage) 1
  let tag := mkTag stage die seq
  if 1024 ≤ (d.liveTasks die).length then none
  else if (d.liveTasks die).any (fun e => e.2.tag = tag) then none
  else match d.freeEntry die with
    | none => none
    | some k =>
      let t : Task := { tag := tag, state := .open, code := 0, aborting := false, alloc := d.str.allocCount, retired := 0
                        allocStep := d.stepNum, deadlineStep := d.deadlineStep die stage, carried := false, writes := []
                        stationStaging := [], lifts := [], lastLifts := [], prepared := false, exch := [], rdma := [] }
      let next := if seq ≥ 0xFF_FFFF then 1 else seq + 1
      some (tag, { d.updStr (fun u => { u with tasks := u.tasks.put k t, seqs := u.seqs.put (64 * die + stage) next
                                               allocCount := u.allocCount + 1 }) with
        stn := { d.stn with seqs := d.stn.seqs.filter (fun e => e.2.1 != tag) } })

/-- R160: an error that aborts a task, detected before its commit point: the first cause is recorded and the abort request
leaves for the home die. -/
def Device.requestAbort (d : Device) (tag code : Nat) : Device :=
  match d.findTask tag with
  | some (k, t) =>
    if t.state = .open && !t.aborting then
      (d.setTask k { t with aborting := true, code := code }).updStr (fun u => { u with abortReqs := u.abortReqs ++ [(tag, code)] })
    else d
  | none => d

/-- The task has been marked ABORTED, or its abort is under way (R160). -/
def Device.taskGone (d : Device) (tag : Nat) : Bool :=
  match d.findTask tag with
  | some (_, t) => t.state = .aborted || t.aborting
  | none => false

/-! ### Pools and buffers -/

/-- A buffer leaves the free list of pool `1024 die + pool` for a task. -/
def Device.takeBuffer (d : Device) (pk tag : Nat) : Option (Nat × Device) :=
  match d.str.pools.getD pk [] with
  | [] => none
  | a :: r => some (a, d.updStr (fun u => { u with pools := u.pools.put pk r, owner := u.owner.put a tag }))

/-- Several buffers at once. -/
def Device.takeBuffers (d : Device) (pk tag : Nat) : Nat → Option (List Nat × Device)
  | 0 => some ([], d)
  | n + 1 => match d.takeBuffer pk tag with
    | none => none
    | some (a, d) => match d.takeBuffers pk tag n with
      | none => none
      | some (l, d) => some (a :: l, d)

/-- R152: a buffer sets out from a router for its pool's. -/
def Device.releaseBuffer (d : Device) (src pool addr : Nat) : Device :=
  match d.plan.active.bind (fun pl => pl.poolOfBuffer pool addr) with
  | some (die, _) => d.updStr (fun u => { u with flight := u.flight ++ [.release (1024 * die + pool) addr src] })
  | none => d

def Device.releaseHandle (d : Device) (src : Nat) (h : Handle) : Device := d.releaseBuffer src h.pool h.addr

/-- Buffer size of a pool. -/
def Device.poolSize (d : Device) (pk : Nat) : Nat :=
  ((d.plan.active.bind (fun pl => pl.poolRec (pk / 1024) (pk % 1024))).map (·.size)).getD 0

/-! ### Lifts -/

def Device.liftQ (d : Device) (lk : Nat) : List LiftEntry := d.str.lifts.getD lk []
def Device.setLift (d : Device) (lk : Nat) (q : List LiftEntry) : Device := d.updStr (fun u => { u with lifts := u.lifts.put lk q })

/-! ### The path of a packet (R25) -/

/-- The station instance a local stream ID belongs to: KIND and INDEX. -/
def streamStation (sid : Nat) : Option (Nat × Nat) :=
  if sid < 16384 then none
  else if sid < 16416 then some (0, (sid - 16384) / 4)
  else if sid < 16544 then some (1, (sid - 16416) / 2)
  else if sid < 16576 then some (2, (sid - 16544) / 2)
  else if sid < 16592 then some (3, (sid - 16576) / 2)
  else if sid < 16656 then some (4, (sid - 16592) / 4)
  else if sid < 16784 then some (5, (sid - 16656) / 2)
  else if sid < 16792 then some (6, (sid - 16784) / 2)
  else if sid < 16808 then some (7, (sid - 16792) / 4)
  else none

/-- The key of a station instance. -/
def stKey (die kind k : Nat) : Nat := 1024 * die + 64 * kind + k

/-- R28: the block of an Array. -/
def arrayBlock (k : Nat) : Nat := [18, 21, 26, 29, 34, 37, 42, 45].getD k 0

/-- R28: the block at whose router a station instance attaches, by KIND and INDEX. -/
def stationBlock (kind k : Nat) : Nat :=
  match kind with
  | 0 => arrayBlock k
  | 2 => if k < 8 then 8 * k + 3 else 8 * (k - 8) + 4
  | 4 => if k < 8 then 8 * k else 8 * (k - 8) + 7
  | 6 => 57 + 2 * k
  | 7 => 56 + 2 * k
  | _ => k

/-- The router of a station instance: 64 × die + block. -/
def stationRouter (key : Nat) : Nat := 64 * (key / 1024) + stationBlock (key / 64 % 16) (key % 64)

/-- The router of a stream: that of its cluster's block, or of its station. -/
def streamRouter (g : Nat) : Nat :=
  match streamStation (g % 32768) with
  | none => 64 * (g / 32768) + g % 32768 / 256
  | some (kind, k) => stationRouter (stKey (g / 32768) kind k)

/-- The router at which a sender's packets enter the Rink. -/
def Sender.router : Sender → Nat
  | .stream g => streamRouter g
  | .cell g => g / 4096
  | .station key => stationRouter key
  | .port p => 2 ^ 16 + p

/-- The router at which a Lift lives: that of its consumer's block (R148). -/
def Device.liftRouter (d : Device) (lk : Nat) : Nat :=
  match d.plan.active.bind (fun pl => (pl.liftRec (lk / 4096) (lk % 4096)).map (fun r => (pl, r))) with
  | none => 2 ^ 17 + lk
  | some (pl, r) =>
    if r.consumer.cluster then 64 * (lk / 4096) + pl.physical (lk / 4096) r.consumer.num / 64 else streamRouter (gsid (lk / 4096) (pl.boundStream (lk / 4096) r.consumer.num))

/-- R148: the router at which a pool lives. -/
def poolRouter (pk : Nat) : Nat := 64 * (pk / 1024) + pk % 64

/-- The path of a packet: the routers it leaves and goes to (R25). -/
def Device.path (d : Device) (f : Flight) : Nat × Nat :=
  match f with
  | .push l e => (e.src.router, d.liftRouter l)
  | .release p _ r => (r, poolRouter p)

/-- The packets that no packet sent before them on their path precedes: each may be the next to arrive (R25). -/
def Device.inOrder (d : Device) : List Flight :=
  (d.str.flight.zipIdx.filter (fun x => !((d.str.flight.take x.2).any (fun f => d.path f = d.path x.1)))).map (·.1)

def Flight.toLift (f : Flight) (lk : Nat) : Bool := match f with | .push l _ => l = lk | _ => false
/-- The pushes to a Lift that may be the next to arrive. -/
def Device.arriving (d : Device) (lk : Nat) : List LiftEntry :=
  d.inOrder.filterMap (fun f => match f with | .push l e => if l = lk then some e else none | .release _ _ _ => none)

def Flight.toPool (f : Flight) (pk : Nat) : Bool := match f with | .release p _ _ => p = pk | _ => false

/-- Handles on a Lift and on their way to it. -/
def Device.liftLoad (d : Device) (lk : Nat) : Nat :=
  (d.liftQ lk).length + (d.str.flight.filter (fun f => f.toLift lk)).length

/-- R150: a push sets out for its Lift, or waits while the Lift has no room (256 handles). -/
def Device.push (d : Device) (lk : Nat) (e : LiftEntry) : Device :=
  let d := d.updTask e.tag (fun t => { t with lifts := addNew t.lifts lk
                                              lastLifts := if e.h.last then addNew t.lastLifts lk else t.lastLifts })
  if d.liftLoad lk < 256 && !(d.str.pushWait.any (fun w => w.1 = lk)) then
    d.updStr (fun u => { u with flight := u.flight ++ [.push lk e] })
  else d.updStr (fun u => { u with pushWait := u.pushWait ++ [(lk, e)] })

/-- The Lift onto which a stream or a station channel of a die pushes (R148). -/
def Device.outLift (d : Device) (die sid lift : Nat) : Nat :=
  (d.plan.active.bind (fun pl => pl.producerLift { cluster := false, die := die, num := sid } lift)).getD (4096 * die + lift)

/-- R145: the consumer has popped a handle of a conditional stream: the next buffer of the arming that filled it is confirmed; a handle
provisionally filled for it is pushed, and its reads that failed are issued anew (R146). -/
def Device.confirm (d : Device) (e : LiftEntry) : Device :=
  match e.src with
  | .stream g =>
    (match d.streamRec g with
    | none => d
    | some r =>
      if !r.conditional then d
      else
        let s := d.stream g
        let s := if s.arms = e.arm then { s with confirmed := s.confirmed + 1, issueQ := s.dropped ++ s.issueQ, dropped := [] } else s
        match s.provisional.find? (fun h => h.arm = e.arm) with
        | none => d.setStream g s
        | some h => (d.setStream g { s with provisional := s.provisional.erase h }).push (d.outLift (g / 32768) r.sid r.lift) h)
  | _ => d

/-- Pops the head of a Lift. -/
def Device.popLift (d : Device) (lk : Nat) : Option (LiftEntry × Device) :=
  match d.liftQ lk with
  | [] => none
  | e :: r => some (e, (d.setLift lk r).confirm e)

/-- R151: the heads of several Lifts that all hold a handle. -/
def Device.heads (d : Device) (lks : List Nat) : List LiftEntry := lks.filterMap (fun l => (d.liftQ l).head?)

/-- R151: heads that bear different tags: both tasks abort. -/
def Device.mismatch (d : Device) (lks : List Nat) : Device :=
  match d.heads lks with
  | [] => d
  | e :: r => match r.find? (fun x => x.tag != e.tag) with
    | some x => (d.requestAbort e.tag 0x0418).requestAbort x.tag 0x0418
    | none => d

/-! ### References and the end of a task (R154) -/

/-- Handles of a task in a Gate or in a cell's item. -/
def Gate.handlesOf (g : Gate) (tag : Nat) : Nat :=
  (g.unmatched.filter (fun o => o.e.tag = tag)).length
    + ((g.delayed ++ g.flowWait ++ g.ready).filter (fun i => i.tag = tag)).foldl (fun n i => n + i.operands.length) 0

def Cell.handlesOf (c : Cell) (tag : Nat) : Nat :=
  match c.item with
  | some i => if i.tag = tag then i.operands.length else 0
  | none => 0

/-- R154: the live references of a task: handles on Lifts or in service, buffers not yet released, streams not DONE.  The pieces of a row of
a Select instance are in service until the row's result is pushed (R345). -/
def Device.refs (d : Device) (tag : Nat) : Nat :=
  d.str.lifts.foldl (fun n e => n + (e.2.filter (fun x => x.tag = tag)).length) 0
    + (d.str.flight.filter (fun f => match f with | .push _ e => e.tag = tag | .release _ _ _ => false)).length
    + (d.str.pushWait.filter (fun w => w.2.tag = tag)).length
    + d.stn.jobs.foldl (fun n e => n + (e.2.inputs.filter (fun x => x.tag = tag)).length) 0
    + d.sel.foldl (fun n e => n + (e.2.filter (fun r => r.tag = tag)).foldl (fun n r => n + r.pieces.length) 0) 0
    + d.sched.gates.foldl (fun n e => n + e.2.handlesOf tag) 0
    + d.cells.foldl (fun n e => n + e.2.handlesOf tag) 0
    + (d.str.streams.filter (fun e => e.2.tag = tag && (e.2.state = .armed || e.2.state = .running))).length
    + (d.str.streams.filter (fun e => match e.2.popped with | some x => x.tag = tag | none => false)).length
    + (d.str.owner.filter (fun e => e.2 = tag)).length

/-! ### Staging (R156) -/

/-- Granules of staging a task's writes take on a die, each destination granule once. -/
def Task.granulesOn (t : Task) (die : Nat) : Nat :=
  ((t.writes.filter (fun w => w.die = die)).foldl (fun acc w => (granules w.addr w.data.length).foldl addNew acc) ([] : List Nat)).length
    + t.stationStaging.getD die 0

/-- Granules a task holds on all dies. -/
def Task.granules (t : Task) : Nat := [0, 1, 2, 3].foldl (fun n k => n + t.granulesOn k) 0

/-- Granules of the STAGING regions of a die in the active plan. -/
def Device.stagingCapacity (d : Device) (die : Nat) : Nat :=
  match d.plan.active with
  | some pl => ((regionsOf pl.image die).filter (·.staging)).foldl (fun n r => n + r.size / 64) 0
  | none => 0

/-- Granules in use on a die. -/
def Device.stagingUsed (d : Device) (die : Nat) : Nat :=
  (d.str.tasks.filter (fun e => e.2.live)).foldl (fun n e => n + e.2.granulesOn die) 0

/-- R156: a task stages a write on a die, or aborts with ERR_STAGING_FULL when there is no space. -/
def Device.stage (d : Device) (tag : Nat) (w : StagedWrite) : Device :=
  match d.findTask tag with
  | none => d
  | some (k, t) =>
    let t' := { t with writes := t.writes ++ [w] }
    let extra := t'.granulesOn w.die - t.granulesOn w.die
    if d.stagingUsed w.die + extra > d.stagingCapacity w.die then d.requestAbort tag 0x0419
    else d.setTask k t'

/-- Staged station state takes `n` granules of a die's staging (R156), or the task aborts. -/
def Device.stageStation (d : Device) (tag die n : Nat) : Device :=
  match d.findTask tag with
  | none => d
  | some (k, t) =>
    if d.stagingUsed die + n > d.stagingCapacity die then d.requestAbort tag 0x0419
    else d.setTask k { t with stationStaging := t.stationStaging.put die (t.stationStaging.getD die 0 + n) }

end Sys2Proof.Machine
end

