-- ==== Sys2Proof/Machine/Streams.lean ====
section
/-!
DEFINITION. Arming, the Piste instructions and the end of streams; pools and Lifts that let producers go on (R129 to R136, R145,
R150, R153).
-/

namespace Sys2Proof.Machine

/-! ### Cells that wait on streams, and ends -/

def Device.cell (d : Device) (g : Nat) : Cell := d.cells.getD g Cell.gatedCell
def Device.setCell (d : Device) (g : Nat) (c : Cell) : Device := { d with cells := d.cells.put g c }

/-- R169: a write to a general register; w0 discards it. -/
def Cell.setW (c : Cell) (r : Nat) (v : Word) : Cell := if r = 0 then c else { c with regs := setNth c.regs r v }
/-- R169: a general register; w0 reads as 0. -/
def Cell.w (c : Cell) (r : Nat) : Word := if r = 0 then 0 else c.regs.getD r 0

/-- The next instruction. -/
def Cell.advance (c : Cell) : Cell := { c with pc := c.pc + 4 }

/-- Bits [31:0] of STREAM_STATUS (R167). -/
def Stream.statusLow (s : Stream) : Nat :=
  (match s.state with | .idle => 0 | .armed => 1 | .running => 2 | .done => 3) + 4 * bit s.aborted
    + 8 * min 8 s.outstanding + 2 ^ 16 * s.code

/-- R185: the cells blocked in SWAIT on a stream that is DONE go on with its status. -/
def Device.wakeSwait (d : Device) (g : Nat) : Device :=
  { d with cells := d.cells.mapVals (fun _ c =>
      match c.blocked with
      | some (.swait rd g') => if g' = g then ({ c with blocked := none }.setW rd (BitVec.ofNat 32 (d.stream g).statusLow)).advance else c
      | _ => c) }

/-- The number of transfers of one access: at most 4,096 bytes, not crossing a 4,096-byte boundary (R140). -/
def transfersOf (a n : Nat) : Nat := if n = 0 then 0 else (a + n - 1) / 4096 - a / 4096 + 1

/-- The parts of a range that cross no 4,096-byte boundary: address, bytes, offset. -/
def pageParts (a n : Nat) : List (Nat × Nat × Nat) :=
  (List.range (transfersOf a n)).map (fun i =>
    let lo := max a ((a / 4096 + i) * 4096)
    (lo, min (a + n) ((a / 4096 + i + 1) * 4096) - lo, lo - a))

/-- A staged write goes to the host window. -/
def Device.toHost (d : Device) (w : StagedWrite) : Bool :=
  (pageParts w.addr w.data.length).any (fun p => match d.place p.1 with | .host _ => true | _ => false)

/-- R154: the task ends, when its references are gone and every Lift it used has had its LAST: it passes its commit point,
or, with exchanges, it is prepared and tells each peer (R462).  Where host-bound DMA is stopped a task whose staged writes go to the host
window aborts instead (R477, R528). -/
def Device.tryEnd (d : Device) (tag : Nat) : Device :=
  match d.findTask tag with
  | none => d
  | some (k, t) =>
    if t.state = .open && !t.aborting && !t.prepared && d.refs tag = 0 && t.lifts.all (fun l => l ∈ t.lastLifts) then
      if d.dmaOff && t.writes.any d.toHost then d.requestAbort tag 0x0F14 else
      let d := t.exch.foldl (fun d x => d.sendLink x.1 0x04 (u8 (tagStage tag) ++ zeros 3 ++ u32 x.2.1) []) d
      if t.exch.all (fun x => x.2.2) then d.setTask k { t with state := .ended }
      else d.setTask k { t with prepared := true }
    else d

/-- The stream becomes DONE (R129). -/
def Device.finishStream (d : Device) (g : Nat) : Device :=
  let s := d.stream g
  ((d.setStream g { s with state := .done }).wakeSwait g).tryEnd s.tag

/-- Reads of the host window or of peers outstanding for a stream. -/
def Device.extPending (d : Device) (g : Nat) : Bool := d.str.extReads.any (fun r => r.stream = g)

/-! ### Arming (R130) -/

/-- Binds a stream to a task tag and parameters; a stream armed for a task that is aborted is DONE at once (R189), and a cell that waits for
it goes on (R185).  Handles provisionally filled for an earlier task stay until they are confirmed (R145).  What a0 to a3, their regions and c0 to c7 hold at
an arming is not given: they are 0 (DESIGN CHOICE, log 104). -/
def Device.bindStream (d : Device) (g tag : Nat) (params : List Word) : Device :=
  match d.streamRec g with
  | none => d
  | some r =>
    let gone := d.taskGone tag
    let code := ((d.findTask tag).map (fun e => e.2.code)).getD 0
    let s : Stream := { Stream.idle with
      state := if gone then .done else .armed, aborted := gone, code := if gone then code else 0, tag := tag
      params := params, due := r.due, pace := r.pace, provisional := (d.stream g).provisional, arms := (d.stream g).arms + 1 }
    if gone then (d.setStream g s).wakeSwait g else d.setStream g s

/-- R130: what an arm is refused with, if it is. -/
def Device.armCheck (d : Device) (g tag : Nat) : Option Nat :=
  match d.streamRec g with
  | none => some 0x041E
  | some r =>
    if tag = 0 && !r.taskHead then some 0x041E
    else if (d.stream g).state = .armed || (d.stream g).state = .running then some 0x0410
    else none

/-- R130, R153: arms a stream that passes the checks; tag 0 allocates, and waits while allocation waits. -/
def Device.arm (d : Device) (g tag : Nat) (params : List Word) : Device :=
  if tag = 0 then
    match d.allocTag (g / 32768) (((d.streamRec g).map (·.stage)).getD 0) with
    | some (tag', d) => d.bindStream g tag' params
    | none => d.updStr (fun u => { u with allocWait := u.allocWait ++ [.stream (g / 32768) (g % 32768) params] })
  else d.bindStream g tag params

/-! ### Piste execution (R132 to R136) -/

/-- The engine may execute an instruction: armed or running, not waiting, not ended, the last transfer instruction issued in full (R135). -/
def Stream.active (s : Stream) : Bool :=
  (s.state = .armed || s.state = .running) && !s.poolWait && !s.liftWait && !s.ended && s.issueQ.isEmpty && s.dropped.isEmpty

/-- Runs one instruction of a Piste stream of the active plan. -/
def Device.piste (d : Device) (s : StreamId) (f : Nat → StreamRec → Stream → Device → Device) : Device :=
  let g := gsid s.die.val s.sid.val
  match d.streamRec g with
  | none => d
  | some r => if !r.affine && (d.stream g).active && !d.dieContained s.die.val then f g r (d.stream g) d else d

/-- An instruction that changes the stream alone, and goes on to the next. -/
def pisteStep (f : StreamRec → Stream → Stream) : Nat → StreamRec → Stream → Device → Device :=
  fun g r s d => d.setStream g { f r s with pc := s.pc + 1 }

/-- R134: the run-time check of one piece against its region and the access width: the code of the abort, if any. -/
def Device.pieceCheck (d : Device) (die region aw a n : Nat) : Option Nat :=
  match d.plan.active.bind (fun pl => pl.region die region) with
  | none => some 0x0414
  | some r =>
    if a < r.base || r.base + r.size < a + n then some 0x0414
    else if a % aw != 0 then some 0x0413
    else none

/-- What reading a range meets: the code of the abort, if any (R474, R476, R477, R488, R449). -/
def Device.accessCheck (d : Device) (a n : Nat) (write : Bool) : Option Nat :=
  match d.place a with
  | .host _ => if d.dmaOff then some 0x0F14 else none
  | .peer m _ => if bitAt (d.reg Reg.GROUP_LOST).toNat m || (!write && !d.hasRoute m) then some 0x0E14 else none
  | .registers => some 0x0F11
  | .unmapped => some 0x0F11
  | _ => if !d.localRange a n then some 0x0F11 else if !write && d.poisoned a n then some 0x0F12 else none

/-- The stream number under which PLAN_STORE reads an image from the host window or a peer; its reads bear the H-seq of the message. -/
def planStoreStream : Nat := 2 ^ 20
/-- The stream number of a read that a task's commit makes of a destination outside the device (R117, R157). -/
def commitStream : Nat := 2 ^ 20 + 1

/-- A range is in use by accesses under way: reads asked for, transfers queued, staged writes of live tasks (R497, R498). -/
def Device.inUse (d : Device) (a n : Nat) : Bool :=
  let meets (x m : Nat) : Bool := decide (x < a + n) && decide (a < x + m)
  d.str.extReads.any (fun r => meets r.src r.len)
    || d.str.streams.any (fun e => (e.2.issueQ ++ e.2.dropped).any (fun x => match x with
        | .fetch x m _ => meets x m
        | .stage w => meets w.addr w.data.length))
    || d.str.tasks.any (fun e => e.2.live && e.2.writes.any (fun w => meets w.addr w.data.length))

/-- Invalidation requests whose translations no access uses any more complete (R498). -/
def Device.settleInvals (d : Device) : Device :=
  let busy (ts : List Nat) : Bool := ts.any (fun t => d.inUse (hostBus t) 4096)
  let done := d.memu.invals.filter (fun i => !busy i.2)
  done.foldl (fun d i => d.emit (.atsInvalidateDone i.1)) { d with memu := { d.memu with invals := d.memu.invals.filter (fun i => busy i.2) } }

/-- Asks the host window or a peer for bytes, in requests of at most 4,096 bytes; `dst` names where the bytes go. -/
def Device.askPiece (d : Device) (g tag a n dst : Nat) : Device :=
  (pageParts a n).foldl (fun d p =>
    let id := d.str.nextRead
    let d' (peer : Bool) := d.updStr (fun u => { u with extReads := u.extReads ++ [⟨id, g, tag, p.1, dst + p.2.2, p.2.1, peer⟩], nextRead := (id + 1) % 2 ^ 32 })
    match d.place p.1 with
    | .host h => (d' false).emit (.hostRead id h p.2.1)
    | .peer m x => (d' true).sendLink m 0x0A (u64 x ++ u32 p.2.1 ++ u32 id) []
    | _ => d) d

/-! ### Transfers and deadlines (R140, R142, R143) -/

/-- The first key of a tile; below it a destination is an address of device memory. -/
def tileBase : Nat := 2 ^ 58

/-- R142: the deadline of the buffer a stream fills or drains next. -/
def Stream.nextDeadline (s : Stream) : Nat := min 65535 (s.due + s.dueIndex * s.pace)

/-- R142: the deadline of the buffer in hand. -/
def Stream.deadline (s : Stream) : Nat :=
  match s.openBuf with
  | some b => b.deadline
  | none => if s.popped.isSome then s.poppedDue else s.nextDeadline

/-- R143: the key (C, D, S) of a stream's requests, as one number. -/
def Device.requestKey (d : Device) (g : Nat) : Nat :=
  let s := d.stream g
  let carried := ((d.findTask s.tag).map (fun e => e.2.carried)).getD false
  (if carried then 0 else 2 ^ 40) + s.deadline * 2 ^ 20 + g

/-- R140: the streams that share a port: the four contexts of a cluster's, the one of a station channel. -/
def portOf (g : Nat) : List Nat := if g % 32768 < 16384 then (List.range 4).map (fun c => g / 4 * 4 + c) else [g]

/-- Transfers outstanding on a stream's port. -/
def Device.portLoad (d : Device) (g : Nat) : Nat := (portOf g).foldl (fun n h => n + (d.stream h).outstanding) 0

/-- What a transfer meets: the code of the abort, if any. -/
def Device.xferCheck (d : Device) (x : Xfer) : Option Nat :=
  match x with
  | .fetch a n _ => d.accessCheck a n false
  | .stage w => d.accessCheck w.addr w.data.length true

/-- The open buffer of a stream is not confirmed (R145). -/
def Device.provisional (d : Device) (g : Nat) : Bool :=
  match d.streamRec g with | some r => r.conditional && decide ((d.stream g).confirmed < (d.stream g).bufIndex) | none => false

/-- A stream has a transfer to issue; a provisional one that would fault is not issued (R146). -/
def Device.canIssue (d : Device) (g : Nat) : Bool :=
  match (d.stream g).issueQ with
  | [] => false
  | x :: _ => !(d.provisional g) || (d.xferCheck x).isNone

/-- The stream of a port whose transfer is issued next: the one with the least key (R143). -/
def Device.nextIssue (d : Device) (g : Nat) : Option Nat :=
  (portOf g).foldl (fun best h =>
    if !d.canIssue h then best
    else match best with
      | none => some h
      | some b => if d.requestKey h < d.requestKey b then some h else some b) none

/-- A read reaches its destination: bytes of device memory at once, others once their completion arrives (R476, R477). -/
def Device.fetch (d : Device) (g tag a n dst : Nat) : Device :=
  match d.place a with
  | .host _ => d.askPiece g tag a n dst
  | .peer _ _ => d.askPiece g tag a n dst
  | _ =>
    if dst < tileBase then d.write dst (d.read a n)
    else let s := d.stream g
         d.setStream g { s with tile := s.tile.put dst (d.read a n) }

/-- The first transfer of a stream's queue is issued, or its task aborts. -/
def Device.issueOne (d : Device) (g : Nat) : Device :=
  let s := d.stream g
  match s.issueQ with
  | [] => d
  | x :: rest =>
    match d.xferCheck x with
    | some c => (d.setStream g { s with issueQ := [] }).requestAbort s.tag c
    | none =>
      let d := d.setStream g { s with state := if s.state = .armed then .running else s.state, issueQ := rest, outstanding := s.outstanding + 1 }
      match x with
      | .fetch a n dst => d.fetch g s.tag a n dst
      | .stage w => d.stage s.tag w

/-- R140: transfers of a port are issued while fewer than 8 are outstanding; `n` bounds how many. -/
def Device.issuePort (d : Device) (g : Nat) : (n : Nat) → Device
  | 0 => d
  | n + 1 =>
    if 8 ≤ d.portLoad g then d
    else match d.nextIssue g with
      | none => d
      | some h => (d.issueOne h).issuePort g n

/-- The transfers of a stream's port that may be issued now. -/
def Device.issue (d : Device) (g : Nat) : Device := d.issuePort g 12

/-- A fill may begin: buffers up to the last confirmed one, and RUNAHEAD beyond it while run-ahead is enabled (R145). -/
def Device.mayFill (d : Device) (g : Nat) (r : StreamRec) (s : Stream) : Bool :=
  !r.conditional ||
    s.bufIndex ≤ s.confirmed + (if d.fld (Reg.STREAM_CTRL (g / 32768)) Fd.STREAM_CTRL_RUNAHEAD_EN = 1 then r.runahead else 0)

/-- The prologue gate of R130: an ARMED stream with PROLOGUE issues no transfer before its stage's prologue has begun; the stage of a
carried task began in an ended step (R51). -/
def Device.prologueOpen (d : Device) (die : Nat) (r : StreamRec) (s : Stream) : Bool :=
  !r.prologue || s.state = .running || 64 * die + r.stage ∈ d.time.stagesBegun || ((d.findTask s.tag).map (fun e => e.2.carried)).getD false

/-- XFER and XSTR on a read stream: the pieces go to consecutive cursor positions (R132). -/
def Device.pisteRead (d : Device) (g : Nat) (r : StreamRec) (s : Stream) (a : Nat) (pieces : List (Nat × Nat)) (next : Nat) : Device :=
  let die := g / 32768
  let total := pieces.foldl (fun n p => n + p.2) 0
  if !d.mayFill g r s then d
  else
    let opened : Option (Buffer × Device) := match s.openBuf with
      | some b => some (b, d)
      | none => match d.takeBuffer (1024 * die + r.pool) s.tag with
        | some (x, d) =>
          some ({ addr := x, size := d.poolSize (1024 * die + r.pool), pool := r.pool, cursor := 0, deadline := s.nextDeadline }, d)
        | none => none
    match opened with
    | none => d.setStream g { s with poolWait := true }
    | some (b, d1) =>
      let provisional := r.conditional && decide (s.confirmed < s.bufIndex)
      let bad := (pieces.findSome? (fun p =>
          match d.pieceCheck die (s.areg_region.getD a 0) r.accessWidth p.1 p.2 with
          | some c => some c
          | none => d.accessCheck p.1 p.2 false))
      match bad with
      | some c => if provisional then d else d.requestAbort s.tag c
      | none =>
        if b.size < b.cursor + total then (if provisional then d else d.requestAbort s.tag 0x041F)
        else
          let q := pieces.foldl (fun (acc : List Xfer × Nat) p =>
            (acc.1 ++ (pageParts p.1 p.2).map (fun x => Xfer.fetch x.1 x.2.1 (b.addr + acc.2 + x.2.2)), acc.2 + p.2)) ([], b.cursor)
          (d1.setStream g { s with
            openBuf := some { b with cursor := q.2 }, dueIndex := s.dueIndex + bit s.openBuf.isNone, areg := setNth s.areg a next, issueQ := s.issueQ ++ q.1, pc := s.pc + 1 }).issue g

/-- XFER and XSTR on a write stream: the first transfer pops a handle of the stream's task; the bytes are staged (R135, R156). -/
def Device.pisteWrite (d : Device) (g : Nat) (r : StreamRec) (s : Stream) (a : Nat) (pieces : List (Nat × Nat)) (next : Nat) : Device :=
  let die := g / 32768
  let lk := 4096 * die + r.lift
  let total := pieces.foldl (fun n p => n + p.2) 0
  let held : Option (LiftEntry × Nat × Device) := match s.popped with
    | some e => some (e, s.cursor, d)
    | none => match d.liftQ lk with
      | [] => none
      | e :: _ => if e.tag != s.tag then some (e, 0, d) else (d.popLift lk).map (fun x => (x.1, 0, x.2))
  match held with
  | none => d
  | some (e, cur, d1) =>
    if e.tag != s.tag then (d.requestAbort e.tag 0x0418).requestAbort s.tag 0x0418
    else
      let bad := (pieces.findSome? (fun p =>
          match d.pieceCheck die (s.areg_region.getD a 0) r.accessWidth p.1 p.2 with
          | some c => some c
          | none => d.accessCheck p.1 p.2 true))
      match bad with
      | some c => d.requestAbort s.tag c
      | none =>
        if e.h.len < cur + total then d.requestAbort s.tag 0x041F
        else if d.poisoned (e.h.addr + cur) total then d.requestAbort s.tag 0x0F12
        else
          let q := pieces.foldl (fun (acc : List Xfer × Nat) p =>
            (acc.1 ++ (pageParts p.1 p.2).map (fun x => Xfer.stage { die := die, addr := x.1, data := d1.read (e.h.addr + acc.2 + x.2.2) x.2.1, combine := none, order := 0 }),
              acc.2 + p.2)) ([], cur)
          let s := d1.stream g
          (d1.setStream g { s with
            popped := some e, poppedDue := if s.popped.isNone then s.nextDeadline else s.poppedDue
            dueIndex := s.dueIndex + bit s.popped.isNone, cursor := q.2, areg := setNth s.areg a next, issueQ := s.issueQ ++ q.1, pc := s.pc + 1 }).issue g

def pisteMove (a : Nat) (pieces : Nat → List (Nat × Nat)) (next : Nat → Nat) : Nat → StreamRec → Stream → Device → Device :=
  fun g r s d =>
    let x := s.areg.getD a 0
    if !d.prologueOpen (g / 32768) r s then d
    else if r.write then d.pisteWrite g r s a (pieces x) (next x % 2 ^ 57) else d.pisteRead g r s a (pieces x) (next x % 2 ^ 57)

/-- R283: the handles of a Pack instance's channel 1 carry LATE when the batch it emits holds a LATE sample. -/
def Device.streamLate (d : Device) (g : Nat) : Bool :=
  let sid := g % 32768
  16784 ≤ sid && sid < 16792 && sid % 2 = 1
    && (d.pack.get? (1024 * (g / 32768) + 384 + (sid - 16784) / 2)).any (fun p => p.emitting.any (·.late))

/-- EMIT and the closing part of END (R132): a read stream closes its open buffer and pushes its handle; a write stream
releases the buffer it drained.  While bytes of the buffer are still on their way the push waits (R150). -/
def Device.closeBuffer (d : Device) (g : Nat) (r : StreamRec) (s : Stream) (last : Bool) : Device :=
  if r.write then
    match s.popped with
    | none => d.setStream g { s with pc := s.pc + 1 }
    | some e => (d.setStream g { s with popped := none, cursor := 0, pc := s.pc + 1, bufIndex := s.bufIndex + 1 }).releaseHandle (streamRouter g) e.h
  else match s.openBuf with
    | none => if last then d.requestAbort s.tag 0x0420 else d.setStream g { s with pc := s.pc + 1 }
    | some b =>
      let e : LiftEntry := { h := { addr := b.addr, len := b.cursor, last := last, late := d.streamLate g, pool := b.pool }, tag := s.tag, src := .stream g, arm := s.arms }
      let s' := { s with openBuf := none, pc := s.pc + 1, bufIndex := s.bufIndex + 1 }
      if r.conditional && decide (s.confirmed < s.bufIndex) then d.setStream g { s' with provisional := s'.provisional ++ [e] }
      else
        let d := (d.setStream g s').push (d.outLift (g / 32768) r.sid r.lift) e
        if d.str.pushWait.any (fun w => w.2.src = .stream g) then d.setStream g { s' with liftWait := true } else d

/-! ### Meanings of the Piste instructions -/

/-- R132 NOP. -/
def execNop (s : StreamId) (st : State) : Host.Outcome State Fault Refusal := st.upd (fun d => d.piste s (pisteStep (fun _ x => x)))

/-- R132 SETA: base of the region plus OFFSET, signed, in 57 bits. -/
def execSeta (s : StreamId) (a : Fin 4) (region : BitVec 16) (off : BitVec 40) (st : State) : Host.Outcome State Fault Refusal :=
  st.upd (fun d => d.piste s (pisteStep (fun _ x =>
    let base := ((d.plan.active.bind (fun pl => pl.region s.die.val region.toNat)).map (·.base)).getD 0
    { x with areg := setNth x.areg a.val (ofSigned 57 ((base : Int) + off.toInt))
             areg_region := setNth x.areg_region a.val region.toNat })))

/-- R132 ADDA. -/
def execAdda (s : StreamId) (a : Fin 4) (imm : BitVec 48) (st : State) : Host.Outcome State Fault Refusal :=
  st.upd (fun d => d.piste s (pisteStep (fun _ x =>
    { x with areg := setNth x.areg a.val (ofSigned 57 ((x.areg.getD a.val 0 : Nat) + imm.toInt)) })))

/-- R132 ADDP: a parameter is signed, SCALE unsigned. -/
def execAddp (s : StreamId) (a : Fin 4) (k : Fin 8) (scale : BitVec 16) (st : State) : Host.Outcome State Fault Refusal :=
  st.upd (fun d => d.piste s (pisteStep (fun _ x =>
    { x with areg := setNth x.areg a.val (ofSigned 57 ((x.areg.getD a.val 0 : Nat) + (x.params.getD k.val 0).toInt * (scale.toNat : Int))) })))

/-- R132 LOOP. -/
def execLoop (s : StreamId) (k : Fin 8) (count : Word) (st : State) : Host.Outcome State Fault Refusal :=
  st.upd (fun d => d.piste s (pisteStep (fun _ x => { x with ctr := setNth x.ctr k.val count.toNat })))

/-- R132 ENDL: the counter moves down; while it is not 0 the program goes on at TARGET. -/
def execEndl (s : StreamId) (k : Fin 8) (target : Fin 32) (st : State) : Host.Outcome State Fault Refusal :=
  st.upd (fun d => d.piste s (fun g _ x d =>
    let c := (x.ctr.getD k.val 0 + 2 ^ 32 - 1) % 2 ^ 32
    d.setStream g { x with ctr := setNth x.ctr k.val c, pc := if c = 0 then x.pc + 1 else target.val }))

/-- R132 XFER. -/
def execXfer (s : StreamId) (a : Fin 4) (postinc : Bool) (bytes : Word) (st : State) : Host.Outcome State Fault Refusal :=
  st.upd (fun d => d.piste s (pisteMove a.val (fun x => [(x, bytes.toNat)]) (fun x => if postinc then x + bytes.toNat else x)))

/-- R132 XSTR. -/
def execXstr (s : StreamId) (a : Fin 4) (postinc : Bool) (piece : BitVec 12) (count : BitVec 16) (stride : BitVec 24) (st : State) :
    Host.Outcome State Fault Refusal :=
  st.upd (fun d => d.piste s (pisteMove a.val
    (fun x => (List.range count.toNat).map (fun (i : Nat) => (ofSigned 57 ((x : Int) + (i : Int) * stride.toInt), piece.toNat)))
    (fun x => if postinc then ofSigned 57 ((x : Int) + (count.toNat : Int) * stride.toInt) else x)))

/-- R132 EMIT. -/
def execEmit (s : StreamId) (last : Bool) (st : State) : Host.Outcome State Fault Refusal :=
  st.upd (fun d => d.piste s (fun g r x d => if d.extPending g then d else d.closeBuffer g r x last))

/-- R132 DUE: the buffer opened next has the deadline DUE0, each later one PACE more; the n of R142 counts anew from there (DEDUCED, log
105). -/
def execDue (s : StreamId) (due pace : BitVec 16) (st : State) : Host.Outcome State Fault Refusal :=
  st.upd (fun d => d.piste s (pisteStep (fun _ x => { x with due := due.toNat, pace := pace.toNat, dueIndex := 0 })))

/-- R132 END: closes an open buffer as EMIT does without LAST; the stream is DONE once its transfers retire. -/
def execEndStream (s : StreamId) (st : State) : Host.Outcome State Fault Refusal :=
  st.upd (fun d => d.piste s (fun g r x d =>
    if d.extPending g then d
    else
      let d := d.closeBuffer g r x false
      let y := d.stream g
      let d := d.setStream g { y with ended := true }
      if y.outstanding = 0 then d.finishStream g else d))

/-! ### Arming and resuming -/

/-- R130: a host write to STREAM_ARM. -/
def Device.streamArmWrite (d : Device) (die v : Nat) : Device :=
  let g := d.boundStream die (bitsOf v 0 15)
  let tag := bitsOf v 15 32
  if bitsOf v 47 17 != 0 then d.refuse 0x0401 die
  else match d.armCheck g tag with
    | some c => d.refuse c die
    | none => d.arm g tag ((List.range 8).map (fun k => BitVec.ofNat 32 (d.reg (Reg.STREAM_PARAM die k)).toNat))

def execStreamArm (die : Fin 4) (v : DWord) (s : State) : Host.Outcome State Fault Refusal := 
  s.write64 (Reg.STREAM_ARM die.val) (fun d => d.streamArmWrite die.val v.toNat)

/-- Home die and stage of a waiting allocation. -/
def Device.waiterStage (d : Device) (w : AllocWaiter) : Nat × Nat :=
  let stageOf (die sid : Nat) : Nat := ((d.streamRec (gsid die sid)).map (·.stage)).getD 0
  match w with
  | .stream die sid _ => (die, stageOf die sid)
  | .cell g _ stage => (g / 2 ^ 18, stage)
  | .submit _ die sid _ => (die, stageOf die sid)

/-- R153: an allocation proceeds: the stream is armed with the tag and its parameters, or the cell goes on with it. -/
def Device.allocated (d : Device) (w : AllocWaiter) (tag : Nat) : Device :=
  match w with
  | .stream die sid ps => d.bindStream (gsid die sid) tag ps
  | .cell g rd _ => d.setCell g ({ d.cell g with tag := tag, blocked := none }.setW rd (BitVec.ofNat 32 tag)).advance
  | .submit m die sid ps => (d.bindStream (gsid die sid) tag ps).respond m 0x4001 0 (u32 tag)

/-- R130: an arm that waited is refused when its stream has been armed meanwhile. -/
def Device.refusedArm (d : Device) (w : AllocWaiter) : Option Device :=
  match w with
  | .stream die sid _ => (d.armCheck (gsid die sid) 0).map (fun c => d.refuse c die)
  | .cell _ _ _ => none
  | .submit m die sid _ => (d.armCheck (gsid die sid) 0).map (fun c => d.refuseMsg m 0x4001 c die)

/-- R153: the waiting allocation that may proceed and has waited longest: the table of its die and the SEQ of its stage allow it. -/
def Device.nextAlloc (d : Device) : Option AllocWaiter :=
  d.str.allocWait.find? (fun w => (d.allocTag (d.waiterStage w).1 (d.waiterStage w).2).isSome)

/-- R130, R153: that allocation proceeds; each die and stage serves its own in the order in which they came. -/
def execTaskAllocResume (s : State) : Host.Outcome State Fault Refusal :=
  s.upd (fun d =>
    match d.nextAlloc with
    | none => d
    | some w =>
      let d := d.updStr (fun u => { u with allocWait := u.allocWait.erase w })
      match d.refusedArm w, d.allocTag (d.waiterStage w).1 (d.waiterStage w).2 with
      | some d', _ => d'
      | none, some (tag, d') => d'.allocated w tag
      | none, none => d)

/-- R150: the push that has waited longest for a Lift sets out once the Lift has room; its producer goes on. -/
def execLiftFullResume (die : Fin 4) (lift : Fin 4096) (s : State) : Host.Outcome State Fault Refusal :=
  s.upd (fun d =>
    let lk := 4096 * die.val + lift.val
    match d.str.pushWait.find? (fun w => w.1 = lk) with
    | none => d
    | some w =>
      if 256 ≤ d.liftLoad lk then d
      else
        let d := d.updStr (fun u => { u with pushWait := u.pushWait.erase w, flight := u.flight ++ [.push lk w.2] })
        match w.2.src with
        | .stream g => d.setStream g { d.stream g with liftWait := d.str.pushWait.any (fun x => x.2.src = .stream g) }
        | .cell g => if (d.cell g).blocked = some (.lpush lk) then d.setCell g { d.cell g with blocked := none }.advance else d
        | _ => d)

/-- The bytes of a handle record (R149). -/
def handleBytes (h : Handle) : List Byte :=
  u64 h.addr ++ u32 (h.len + 2 ^ 24 * bit h.last + 2 ^ 25 * bit h.late) ++ u16 h.pool ++ u16 0

/-- The handle a 16-byte record spells (R149). -/
def handleOf (bs : List Byte) : Handle :=
  { addr := bitsOf (leAt bs 0 8) 0 57, len := bitsOf (leAt bs 8 4) 0 24, last := bitAt (leAt bs 8 4) 24
    late := bitAt (leAt bs 8 4) 25, pool := bitsOf (leAt bs 12 2) 0 10 }

/-- Reads of a private store (R170). -/
def Cell.load (c : Cell) (a n : Nat) : List Byte := (List.range n).map (fun i => c.store.getD (a + i) 0)
def Cell.storeN (c : Cell) (a : Nat) (bs : List Byte) : Cell :=
  { c with store := (bs.zipIdx).foldl (fun m x => Map.setC m 0 (a + x.2) x.1) c.store }

/-- BALLOC of a cell from a pool of its die (R186): the buffer and its handle record, or the cell stays blocked. -/
def Device.balloc (d : Device) (g addr pk : Nat) : Device :=
  let c := d.cell g
  match d.takeBuffer pk c.tag with
  | none => d.setCell g { c with blocked := some (.balloc addr pk) }
  | some (a, d) =>
    d.setCell g ({ c with blocked := none }.storeN addr (handleBytes { addr := a, len := 0, last := false, late := false, pool := pk % 1024 })).advance

/-- R150: a producer waiting on an empty pool goes on once a buffer has returned. -/
def execPoolWaitResume (w : Producer) (s : State) : Host.Outcome State Fault Refusal :=
  s.upd (fun d =>
    match w with
    | .stream x =>
      let g := gsid x.die.val x.sid.val
      match d.streamRec g with
      | none => d
      | some r =>
        if (d.stream g).poolWait && !(d.str.pools.getD (1024 * x.die.val + r.pool) []).isEmpty
        then d.setStream g { d.stream g with poolWait := false } else d
    | .cell c =>
      match (d.cell c.gid).blocked with
      | some (.balloc addr pk) => d.balloc c.gid addr pk
      | _ => d)

/-- R25, R152: the `i`-th of the releases that may be the next to reach a pool arrives: the buffer is available, and its task may end
(R154). -/
def execBufferReleaseArrive (die : Fin 4) (pool : Fin 1024) (i : Nat) (s : State) : Host.Outcome State Fault Refusal :=
  s.upd (fun d =>
    let pk := 1024 * die.val + pool.val
    match (d.inOrder.filter (fun f => f.toPool pk))[i]? with
    | some (.release p a r) =>
      let tag := d.str.owner.getD a 0
      (d.updStr (fun u => { u with flight := u.flight.erase (.release p a r), owner := u.owner.del a
                                   pools := u.pools.put pk (u.pools.getD pk [] ++ [a]) })).tryEnd tag
    | _ => d)

/-! ### Mailbox commands of tasks (R162) -/

/-- The payload of a TASK_SUBMIT (R162). -/
def submitIs (die stage stream : Nat) (params : List Word) (b : List Byte) : Bool :=
  fieldsAre [(0, 1, die), (1, 1, stage), (2, 2, stream)] b && params = (List.range 8).map (fun i => BitVec.ofNat 32 (leAt b (4 + 4 * i) 4))

/-- TASK_SUBMIT: the four checks in order, then the tag and the arm.  A DIE above 3 names no STREAM_LAST_ERROR: that of C0 records the
refusal (DESIGN CHOICE, log 104). -/
def execTaskSubmit (m : MsgRef) (die stage stream : Nat) (params : List Word) (s : State) : Host.Outcome State Fault Refusal :=
  s.cmd m 0x4001 (submitIs die stage stream params) (fun d =>
    if die > 3 then d.refuseMsg m 0x4001 0x0404 0
    else
      let g := d.boundStream die stream
      match d.streamRec g with
      | none => d.refuseMsg m 0x4001 0x041E die
      | some r =>
        if !r.taskHead || r.stage != stage || 16808 ≤ stream then d.refuseMsg m 0x4001 0x041E die
        else if (d.stream g).state = .armed || (d.stream g).state = .running then d.refuseMsg m 0x4001 0x0410 die
        else if 1024 ≤ (d.liveTasks die).length then d.refuseMsg m 0x4001 0x041B die
        else match d.allocTag die stage with
          | some (tag, d) => (d.bindStream g tag params).respond m 0x4001 0 (u32 tag)
          | none => d.updStr (fun u => { u with allocWait := u.allocWait ++ [.submit m die (g % 32768) params] }))

/-- TASK_ABORT. -/
def execTaskAbort (m : MsgRef) (tag : Nat) (s : State) : Host.Outcome State Fault Refusal :=
  s.cmd m 0x4002 (fieldsAre [(0, 4, tag)]) (fun d =>
    match d.findTask tag with
    | none => d.refuseMsg m 0x4002 0x041D (tagHome tag)
    | some (_, t) =>
      if t.state = .aborted || t.aborting then d.respond m 0x4002 0 []
      else if t.state = .open && !t.prepared then (d.requestAbort tag 0x041C).respond m 0x4002 0 []
      else d.refuseMsg m 0x4002 0x0406 (tagHome tag))

/-- STATE as TASK_STATUS codes it (R167). -/
def TaskState.code (st : TaskState) : Nat := match st with | .open => 1 | .ended => 2 | .committed => 3 | .aborted => 4

/-- The STATE of an entry; a prepared exchange task has ended (R156, R462). -/
def Task.shownState (t : Task) : Nat := if t.prepared then TaskState.ended.code else t.state.code

/-- The abort code TASK_STATUS shows: that of a task marked ABORTED, else 0 (R167). -/
def Task.shownCode (t : Task) : Nat := if t.state = .aborted then t.code else 0

/-- TASK_QUERY. -/
def execTaskQuery (m : MsgRef) (tag : Nat) (s : State) : Host.Outcome State Fault Refusal :=
  s.cmd m 0x4003 (fieldsAre [(0, 4, tag)]) (fun d =>
    match d.findTask tag with
    | none => d.refuseMsg m 0x4003 0x041D (tagHome tag)
    | some (_, t) => d.respond m 0x4003 0
        (u8 t.shownState ++ u8 0 ++ u16 t.shownCode ++ u32 (d.refs tag) ++ u32 (ceilDiv (t.granules * 64) 1024)))

/-- R167: STALL_CTRL.CLEAR zeroes every stall counter of the die. -/
def Device.stallClear (d : Device) (die : Nat) : Device :=
  let lo := Reg.STALL die 0 0
  { d with regs := d.regs.filter (fun e => decide (e.1 < lo) || decide (lo + 8 * 25680 ≤ e.1)) }

def execStallClear (die : Fin 4) (s : State) : Host.Outcome State Fault Refusal := s.upd (fun d => d.stallClear die.val)

end Sys2Proof.Machine
end

