-- ==== Sys2Proof/Machine/Float.lean ====
section
/-!
DEFINITION. Binary floating point with exact intermediate values and one rounding, ties to even (R181, R182, R183, R94).
-/

namespace Sys2Proof.Machine

/-- A value: NaN, an infinity, or ± m · 2^e exactly (m = 0 is a signed zero). -/
inductive FP where
  | nan
  | inf (neg : Bool)
  | fin (neg : Bool) (m : Nat) (e : Int)
  deriving DecidableEq, Repr

/-- The value of an IEEE-style code of `eb` exponent and `mb` mantissa bits. -/
def decodeFP (eb mb x : Nat) : FP :=
  let bias : Int := 2 ^ (eb - 1) - 1
  let neg := bitAt x (eb + mb)
  let ex := bitsOf x mb eb
  let man := bitsOf x 0 mb
  if ex = 2 ^ eb - 1 then (if man = 0 then .inf neg else .nan)
  else if ex = 0 then .fin neg man (1 - bias - mb)
  else .fin neg (2 ^ mb + man) (ex - bias - mb)

/-- ⌊m / 2^s⌉ with ties to even. -/
def rneShift (m s : Nat) : Nat :=
  let q := m / 2 ^ s
  let r := m % 2 ^ s
  if 2 * r < 2 ^ s then q else if 2 * r > 2 ^ s then q + 1 else q + q % 2

/-- The magnitude code of m · 2^e (m ≠ 0) rounded to nearest even, not yet bounded by the format's largest value. -/
def roundMag (eb mb m : Nat) (e : Int) : Nat :=
  let bias : Int := 2 ^ (eb - 1) - 1
  let top : Int := (Nat.log2 m : Int) + e
  let q : Int := max (top - mb) (1 - bias - mb)
  let s := q - e
  let n := if s ≤ 0 then m * 2 ^ (-s).toNat else rneShift m s.toNat
  ((q + mb + bias) * 2 ^ mb + n - 2 ^ mb).toNat

/-- The code of a value in an IEEE-style format, rounded once. -/
def encodeFP (eb mb nanCode : Nat) (v : FP) : Nat :=
  let sign (n : Bool) := if n then 2 ^ (eb + mb) else 0
  match v with
  | .nan => nanCode
  | .inf n => sign n + (2 ^ eb - 1) * 2 ^ mb
  | .fin n m e => sign n + (if m = 0 then 0 else min (roundMag eb mb m e) ((2 ^ eb - 1) * 2 ^ mb))

/-- FP32 values and codes; a NaN result is 0x7FC0_0000 (R181). -/
def f32 (x : Nat) : FP := decodeFP 8 23 x
def toF32 (v : FP) : Nat := encodeFP 8 23 0x7FC0_0000 v
/-- BF16 widened to FP32 bits exactly (R182), and FP32 bits converted to BF16 (R94). -/
def bf16Wide (x : Nat) : Nat := x * 2 ^ 16
def bf16 (x : Nat) : FP := decodeFP 8 7 x
def toBf16 (v : FP) : Nat := encodeFP 8 7 0x7FC0 v

def FP.neg (v : FP) : FP := match v with | .nan => .nan | .inf n => .inf (!n) | .fin n m e => .fin (!n) m e

/-- The signed mantissa at a common exponent. -/
def FP.scaled (n : Bool) (m : Nat) (e lo : Int) : Int :=
  let x : Int := (m * 2 ^ (e - lo).toNat : Nat)
  if n then -x else x

/-- Exact sum; an exact zero sum is +0 unless both are −0. -/
def FP.add (a b : FP) : FP :=
  match a, b with
  | .nan, _ => .nan
  | _, .nan => .nan
  | .inf x, .inf y => if x = y then .inf x else .nan
  | .inf x, _ => .inf x
  | _, .inf y => .inf y
  | .fin n m e, .fin n' m' e' =>
    let lo := min e e'
    let z := FP.scaled n m e lo + FP.scaled n' m' e' lo
    if z = 0 then .fin (n && n') 0 lo else .fin (decide (z < 0)) z.natAbs lo

def FP.sub (a b : FP) : FP := a.add b.neg

/-- Exact product. -/
def FP.mul (a b : FP) : FP :=
  match a, b with
  | .nan, _ => .nan
  | _, .nan => .nan
  | .inf x, .inf y => .inf (x != y)
  | .inf x, .fin n m _ => if m = 0 then .nan else .inf (x != n)
  | .fin n m _, .inf y => if m = 0 then .nan else .inf (n != y)
  | .fin n m e, .fin n' m' e' => .fin (n != n') (m * m') (e + e')

/-- Comparison of two numbers as (less, equal); none when either is NaN.  −0 and +0 are equal. -/
def FP.cmp (a b : FP) : Option Ordering :=
  match a, b with
  | .nan, _ => none
  | _, .nan => none
  | .inf x, .inf y => some (if x = y then .eq else if x then .lt else .gt)
  | .inf x, _ => some (if x then .lt else .gt)
  | _, .inf y => some (if y then .gt else .lt)
  | .fin n m e, .fin n' m' e' =>
    let lo := min e e'
    some (compare (FP.scaled n m e lo) (FP.scaled n' m' e' lo))

def FP.lt (a b : FP) : Bool := a.cmp b = some .lt
def FP.le (a b : FP) : Bool := a.cmp b = some .lt || a.cmp b = some .eq
def FP.eq (a b : FP) : Bool := a.cmp b = some .eq
def FP.isNan (a : FP) : Bool := a = .nan

/-- The number of `w`-bit code nearest to an exact quotient num/den · 2^e, by a mantissa of 64 further bits and a sticky bit. -/
def FP.ofRatio (neg : Bool) (num den : Nat) (e : Int) : FP :=
  let k := 64 + Nat.log2 den
  let q := num * 2 ^ k / den
  let r := num * 2 ^ k % den
  .fin neg (2 * q + (if r = 0 then 0 else 1)) (e - k - 1)

/-- R94: conversion to an integer of a range: to nearest, ties to even, saturating; NaN gives 0. -/
def FP.toInt (v : FP) (lo hi : Int) : Int :=
  match v with
  | .nan => 0
  | .inf n => if n then lo else hi
  | .fin n m e =>
    let x : Int := if 0 ≤ e then (m * 2 ^ e.toNat : Nat) else (rneShift m (-e).toNat : Nat)
    let z := if n then -x else x
    max lo (min hi z)

def FP.ofInt (z : Int) : FP := .fin (decide (z < 0)) z.natAbs 0

/-! ### Square roots -/

/-- Integer square root, bit by bit from the top: `r` accepted so far. -/
def isqrtAux (n : Nat) : (i r : Nat) → Nat
  | 0, r => if (r + 1) * (r + 1) ≤ n then r + 1 else r
  | i + 1, r => let t := r + 2 ^ (i + 1); isqrtAux n i (if t * t ≤ n then t else r)

def isqrt (n : Nat) : Nat := isqrtAux n (Nat.log2 n / 2 + 1) 0

/-- The square root of m · 2^e with a sticky bit (200 further bits). -/
def FP.sqrtFin (m : Nat) (e : Int) : FP :=
  let odd := e % 2 != 0
  let m := if odd then 2 * m else m
  let e := if odd then e - 1 else e
  let x := m * 2 ^ 400
  let r := isqrt x
  .fin false (2 * r + (if r * r = x then 0 else 1)) (e / 2 - 200 - 1)

/-! ### Transcendental functions in fixed point of 400 fraction bits (R183) -/

/-- 2^400, the unit of the fixed point. -/
def fxOne : Nat := 2 ^ 400

/-- Σ 1/(k 2^k) = ln 2. -/
def ln2Aux : Nat → Nat
  | 0 => 0
  | k + 1 => ln2Aux k + fxOne / ((k + 1) * 2 ^ (k + 1))
def fxLn2 : Nat := ln2Aux 410

/-- e^y for 0 ≤ y < 1 by Horner's rule from term `k` down. -/
def expAux (y : Nat) : Nat → Nat → Nat
  | 0, acc => acc
  | k + 1, acc => expAux y k (fxOne + y * acc / fxOne / (k + 1))
def fxExp (y : Nat) : Nat := expAux y 90 fxOne

/-- 2^f for 0 ≤ f < 1. -/
def fxExp2 (f : Nat) : Nat := fxExp (f * fxLn2 / fxOne)

/-- e^(−y) for y ≥ 0, by 2^(−y / ln 2). -/
def fxExpNeg (y : Nat) : Nat :=
  let t := y * fxOne / fxLn2
  let n := t / fxOne
  let f := t % fxOne
  if f = 0 then fxOne / 2 ^ n else fxExp2 (fxOne - f) / 2 ^ (n + 1)

/-- Σ u^(2k+1)/(2k+1), the inverse hyperbolic tangent, by Horner's rule. -/
def atanhAux (u2 : Nat) : Nat → Nat → Nat
  | 0, acc => acc
  | k + 1, acc => atanhAux u2 k (fxOne / (2 * k + 1) + u2 * acc / fxOne)
def fxAtanh (u : Nat) : Nat := u * atanhAux (u * u / fxOne) 140 0 / fxOne

/-- log2 z for 1 ≤ z < 2. -/
def fxLog2 (z : Nat) : Nat := 2 * fxAtanh ((z - fxOne) * fxOne / (z + fxOne)) * fxOne / fxLn2

/-- A magnitude m · 2^e in the fixed point, truncated. -/
def toFx (m : Nat) (e : Int) : Nat := if 0 ≤ e + 400 then m * 2 ^ (e + 400).toNat else m / 2 ^ (-(e + 400)).toNat

/-- An inexact positive fixed-point result. -/
def fxInexact (neg : Bool) (x : Nat) (e : Int) : FP := .fin neg (2 * x + 1) (e - 401)

/-- EXP2: 2^x rounded once. -/
def FP.exp2 (v : FP) : FP :=
  match v with
  | .nan => .nan
  | .inf n => if n then .fin false 0 0 else .inf false
  | .fin n m e =>
    if m = 0 then .fin false 1 0
    else if 0 ≤ e ∧ 256 ≤ m * 2 ^ e.toNat then (if n then .fin false 0 0 else .inf false)
    else
      let x := toFx m e
      if x % fxOne = 0 then .fin false 1 (if n then -(x / fxOne : Nat) else (x / fxOne : Nat))
      else if n then fxInexact false (fxExp2 (fxOne - x % fxOne)) (-((x / fxOne : Nat) : Int) - 1)
      else fxInexact false (fxExp2 (x % fxOne)) ((x / fxOne : Nat) : Int)

/-- LOG2. -/
def FP.log2 (v : FP) : FP :=
  match v with
  | .nan => .nan
  | .inf n => if n then .nan else .inf false
  | .fin n m e =>
    if m = 0 then .inf true
    else if n then .nan
    else
      let l := Nat.log2 m
      let ex : Int := l + e
      let z := m * fxOne / 2 ^ l
      if z = fxOne then FP.ofInt ex
      else
        let s : Int := ex * (fxOne : Int) + (fxLog2 z : Nat)
        fxInexact (decide (s < 0)) s.natAbs 0

def FP.rcp (v : FP) : FP :=
  match v with
  | .nan => .nan
  | .inf n => .fin n 0 0
  | .fin n m e => if m = 0 then .inf n else FP.ofRatio n 1 m (-e)

def FP.sqrt (v : FP) : FP :=
  match v with
  | .nan => .nan
  | .inf n => if n then .nan else .inf false
  | .fin n m e => if m = 0 then .fin n 0 e else if n then .nan else FP.sqrtFin m e

/-- RSQRT: the root of the reciprocal, with 400 bits of the quotient before the root. -/
def FP.rsqrt (v : FP) : FP :=
  match v with
  | .nan => .nan
  | .inf n => if n then .nan else .fin false 0 0
  | .fin n m e =>
    if m = 0 then .inf n
    else if n then .nan
    else
      let odd := e % 2 != 0
      let m := if odd then 2 * m else m
      let e := if odd then e - 1 else e
      let q := 2 ^ 800 / m
      let r := isqrt q
      .fin false (2 * r + (if m * (r * r) = 2 ^ 800 then 0 else 1)) (-(e / 2) - 400 - 1)

/-- TANH: (1 − e^(−2|x|)) / (1 + e^(−2|x|)), with x's sign. -/
def FP.tanh (v : FP) : FP :=
  match v with
  | .nan => .nan
  | .inf n => .fin n 1 0
  | .fin n m e =>
    if m = 0 then .fin n 0 e
    else if 0 ≤ e ∧ 32 ≤ m * 2 ^ e.toNat then fxInexact n (fxOne - 1) 0
    else
      let q := fxExpNeg (2 * toFx m e)
      fxInexact n ((fxOne - q) * fxOne / (fxOne + q)) 0

/-- SIGMOID: 1 / (1 + e^(−x)). -/
def FP.sigmoid (v : FP) : FP :=
  match v with
  | .nan => .nan
  | .inf n => if n then .fin false 0 0 else .fin false 1 0
  | .fin n m e =>
    if m = 0 then .fin false 1 (-1)
    else if 0 ≤ e ∧ 256 ≤ m * 2 ^ e.toNat then (if n then .fin false 0 0 else fxInexact false (fxOne - 1) 0)
    else
      let q := fxExpNeg (toFx m e)
      if n then fxInexact false (q * fxOne / (fxOne + q)) 0 else fxInexact false (fxOne * fxOne / (fxOne + q)) 0

/-! ### FP32 operations on bits (R181) -/

def fadd (a b : Nat) : Nat := toF32 ((f32 a).add (f32 b))
def fsub (a b : Nat) : Nat := toF32 ((f32 a).sub (f32 b))
def fmul (a b : Nat) : Nat := toF32 ((f32 a).mul (f32 b))
/-- a × b + c with one rounding. -/
def ffma (a b c : Nat) : Nat := toF32 (((f32 a).mul (f32 b)).add (f32 c))
def fnegBits (a : Nat) : Nat := if bitAt a 31 then a - 2 ^ 31 else a + 2 ^ 31
/-- A quotient rounded once. -/
def fdiv (a b : Nat) : Nat :=
  toF32 (match f32 a, f32 b with
    | .nan, _ => .nan
    | _, .nan => .nan
    | .inf _, .inf _ => .nan
    | .inf x, .fin n _ _ => .inf (x != n)
    | .fin n _ _, .inf y => .fin (n != y) 0 0
    | .fin n m e, .fin n' m' e' =>
      if m' = 0 then (if m = 0 then .nan else .inf (n != n'))
      else if m = 0 then .fin (n != n') 0 0
      else FP.ofRatio (n != n') m m' (e - e'))
def fsqrt (a : Nat) : Nat := toF32 (f32 a).sqrt

/-- R181 FMIN, FMAX: the number when one operand is NaN; rs1 on equality. -/
def fminmax (less : Bool) (a b : Nat) : Nat :=
  match f32 a, f32 b with
  | .nan, .nan => 0x7FC0_0000
  | .nan, _ => b
  | _, .nan => a
  | x, y => if x.eq y then a else if x.lt y = less then a else b

/-- R181 FCLASS. -/
def fclass (a : Nat) : Nat :=
  let neg := bitAt a 31
  let ex := bitsOf a 23 8
  let man := bitsOf a 0 23
  if ex = 255 then (if man != 0 then 2 ^ 8 else if neg then 2 ^ 0 else 2 ^ 7)
  else if ex = 0 then (if man = 0 then (if neg then 2 ^ 3 else 2 ^ 4) else if neg then 2 ^ 2 else 2 ^ 5)
  else if neg then 2 ^ 1 else 2 ^ 6

/-- FP32 bits to BF16 bits: a NaN keeps its sign (R94). -/
def f32ToBf16 (a : Nat) : Nat := if (f32 a).isNan then (if bitAt a 31 then 0xFFC0 else 0x7FC0) else toBf16 (f32 a)

end Sys2Proof.Machine
end

