-- ==== Sys2Proof/Machine/Elem.lean ====
section
/-!
DEFINITION. Element formats: codes, widths, values and conversions (R92 to R95), and the merges of COMBINE (R117).
-/

namespace Sys2Proof.Machine

/-- R92: bits of an element; 0 for a reserved code. -/
def elemBits (e : Nat) : Nat :=
  match e with
  | 0x00 => 32 | 0x01 => 16 | 0x02 => 16 | 0x03 => 8 | 0x04 => 8 | 0x05 => 4 | 0x06 => 32 | 0x07 => 16 | 0x08 => 8
  | 0x09 => 8 | 0x0A => 4 | 0x0B => 4 | 0x0C => 64 | 0x0D => 8 | 0x0E => 32 | 0x10 => 8 | 0x11 => 8 | 0x12 => 8
  | 0x13 => 4 | _ => 0

/-- R92: the block-scaled formats. -/
def elemBlock (e : Nat) : Bool := 0x10 ≤ e && e ≤ 0x13
/-- The integer formats. -/
def elemInt (e : Nat) : Bool := (0x06 ≤ e && e ≤ 0x0C) || e = 0x0E
/-- The plain floating-point formats. -/
def elemFloat (e : Nat) : Bool := e ≤ 0x05
/-- Signed integer formats. -/
def elemSigned (e : Nat) : Bool := e = 0x06 || e = 0x07 || e = 0x08 || e = 0x0A || e = 0x0C

/-- The format of the elements of a block-scaled format, before the scale (R92); MXINT8 elements are INT8 with 2^−6. -/
def elemInner (e : Nat) : Nat := match e with | 0x10 => 0x03 | 0x11 => 0x04 | 0x12 => 0x08 | 0x13 => 0x05 | _ => e

def e4m3 (x : Nat) : FP :=
  if bitsOf x 0 7 = 0x7F then .nan
  else
    let n := bitAt x 7
    let ex := bitsOf x 3 4
    let m := bitsOf x 0 3
    if ex = 0 then .fin n m (-9) else .fin n (8 + m) ((ex : Int) - 10)
def e2m1 (x : Nat) : FP :=
  let n := bitAt x 3
  let ex := bitsOf x 1 2
  let m := bitsOf x 0 1
  if ex = 0 then .fin n m (-1) else .fin n (2 + m) ((ex : Int) - 2)

/-- The integer an integer code stands for. -/
def elemIntVal (e x : Nat) : Int := if elemSigned e then toSigned (elemBits e) x else (x : Int)

/-- R92: the value of an element code (without the scale of a block-scaled format). -/
def elemFP (e x : Nat) : FP :=
  match e with
  | 0x00 => f32 x
  | 0x01 => bf16 x
  | 0x02 => decodeFP 5 10 x
  | 0x03 => e4m3 x
  | 0x04 => decodeFP 5 2 x
  | 0x05 => e2m1 x
  | 0x0D => if x = 0xFF then .nan else .fin false 1 ((x : Int) - 127)
  | 0x10 => e4m3 x
  | 0x11 => decodeFP 5 2 x
  | 0x12 => match FP.ofInt (toSigned 8 x) with | .fin n m ex => .fin n m (ex - 6) | v => v
  | 0x13 => e2m1 x
  | _ => FP.ofInt (elemIntVal e x)

/-- R93: times the value of an E8M0 scale. -/
def FP.scaleE8 (v : FP) (s : Nat) : FP :=
  if s = 0xFF then .nan
  else match v with
  | .fin n m e => .fin n m (e + s - 127)
  | v => v

/-- The sign bit of a floating-point code. -/
def elemNeg (e x : Nat) : Bool := bitAt x (elemBits e - 1)

/-- R94: the code of a value in a plain format, rounded once; `neg` is the sign a NaN keeps. -/
def elemOfFP (e : Nat) (v : FP) (neg : Bool) : Nat :=
  let sgn (b : Bool) (w : Nat) := if b then 2 ^ (w - 1) else 0
  match e with
  | 0x00 => if v.isNan then 0x7FC0_0000 + sgn neg 32 else toF32 v
  | 0x01 => if v.isNan then 0x7FC0 + sgn neg 16 else toBf16 v
  | 0x02 => if v.isNan then 0x7E00 + sgn neg 16 else encodeFP 5 10 0 v
  | 0x03 =>
    match v with
    | .nan => 0x7F + sgn neg 8
    | .inf n => 0x7E + sgn n 8
    | .fin n m ex => sgn n 8 + (if m = 0 then 0 else min (roundMag 4 3 m ex) 0x7E)
  | 0x04 => if v.isNan then 0x7E + sgn neg 8 else encodeFP 5 2 0 v
  | 0x05 =>
    match v with
    | .nan => 0
    | .inf n => 7 + sgn n 4
    | .fin n m ex => sgn n 4 + (if m = 0 then 0 else min (roundMag 2 1 m ex) 7)
  | _ =>
    let w := elemBits e
    if elemSigned e then ofSigned w (v.toInt (-(2 ^ (w - 1) : Nat)) ((2 ^ (w - 1) : Nat) - 1))
    else (v.toInt 0 ((2 ^ w : Nat) - 1)).toNat

/-- R94: FP32 bits converted to a plain format. -/
def f32To (e x : Nat) : Nat := elemOfFP e (f32 x) (bitAt x 31)
/-- A plain code as FP32 bits (exact for the float formats; rounded for wide integers). -/
def elemToF32 (e x : Nat) : Nat := elemOfFP 0 (elemFP e x) (elemNeg e x)

/-! ### Packing of rows (R99) -/

/-- Element `i` of a PLAIN row of bytes. -/
def rowElem (e : Nat) (row : List Byte) (i : Nat) : Nat :=
  let w := elemBits e
  if w = 4 then
    let b := leAt row (i / 2) 1
    if i % 2 = 0 then b % 16 else b / 16
  else leAt row (i * (w / 8)) (w / 8)

/-- Two 4-bit elements to a byte, low half first. -/
def packNibbles : List Nat → List Byte
  | [] => []
  | [a] => [BitVec.ofNat 8 a]
  | a :: b :: r => BitVec.ofNat 8 (a + 16 * b) :: packNibbles r

/-- The bytes of a PLAIN row. -/
def packRow (e : Nat) (xs : List Nat) : List Byte :=
  if elemBits e = 4 then packNibbles xs else xs.flatMap (fun x => leBytes (elemBits e / 8) x)

/-! ### Block-scaled rows (R95, R104, R105) -/

/-- Elements in a scaled line (R104). -/
def ilvLine (e : Nat) : Nat := if e = 0x13 then 512 else 256

/-- R98: bytes of a row of `n` elements; `ilv` for the scaled-line form. -/
def rowSpan (e n : Nat) (ilv : Bool) : Nat :=
  if ilv then 272 * ceilDiv n (ilvLine e) else ceilDiv (n * elemBits e) 8

/-- R104: element code and scale of element `i` of an ILV row. -/
def ilvElem (e : Nat) (row : List Byte) (i : Nat) : Nat × Nat :=
  let l := ilvLine e
  let line := i / l * 272
  let k := i % l
  let code := if e = 0x13 then (let b := leAt row (line + 16 + k / 2) 1; if i % 2 = 0 then b % 16 else b / 16)
    else leAt row (line + 16 + k) 1
  (code, leAt row (line + k / 32) 1)

/-- The value of element `i` of an operand row: scaled for a block-scaled format, which is held in scaled lines. -/
def operandVal (e : Nat) (row : List Byte) (i : Nat) : FP :=
  if elemBlock e then (let p := ilvElem e row i; (elemFP e p.1).scaleE8 p.2) else elemFP e (rowElem e row i)

/-- R94 for a target of E8M0: the code of a finite value above 0, rounded to the nearest power of two, a tie to the even code; the manual
states no code for a value beyond those the format holds, or for 0, a negative value or an infinity (log 92). -/
def e8m0Of (v : FP) : Option Nat :=
  match v with
  | .nan => some 0xFF
  | .inf _ => none
  | .fin n m e =>
    if n || m = 0 then none
    else
      let k := Nat.log2 m
      let code : Int := (k : Int) + e + 127
      let up := decide (3 * 2 ^ k < 2 * m) || (2 * m = 3 * 2 ^ k && code % 2 = 1)
      let code := if up then code + 1 else code
      if 0 ≤ code ∧ code ≤ 254 then some code.toNat else none

/-- The magnitude exponent ⌊log2 m⌋ of a finite nonzero value. -/
def FP.log2Floor (v : FP) : Int := match v with | .fin _ m e => (Nat.log2 m : Int) + e | _ => 127

/-- R95: the scale of a block of FP32 values. -/
def blockScale (e : Nat) (xs : List Nat) : Nat :=
  let vals := xs.map f32
  if vals.any FP.isNan then 0xFF
  else
    let mags := vals.map (fun v => match v with | .inf _ => f32 0x7F7F_FFFF | .fin _ m ex => .fin false m ex | .nan => .nan)
    let top := mags.foldl (fun a b => if a.lt b then b else a) (.fin false 0 0)
    match top with
    | .fin _ 0 _ => 0
    | t =>
      let emax : Int := match e with | 0x10 => 8 | 0x11 => 15 | 0x13 => 2 | _ => 0
      (min 254 (max 0 (t.log2Floor - emax + 127))).toNat

/-- R95: the element codes of a block under its scale. -/
def blockCodes (e : Nat) (xs : List Nat) (scale : Nat) : List Nat :=
  if scale = 0xFF then xs.map (fun _ => 0)
  else if xs.all (fun x => bitsOf x 0 31 = 0) then xs.map (fun _ => 0)
  else xs.map (fun x =>
    let v := match f32 x with
      | .fin n m ex => FP.fin n m (ex - scale + 127 + (if e = 0x12 then 6 else 0))
      | v => v
    elemOfFP (elemInner e) v (bitAt x 31))

/-- R104, R105: one scaled line of up to L values. -/
def ilvLineBytes (e : Nat) (xs : List Nat) : List Byte :=
  let blocks := chunks 32 xs
  let coded := blocks.map (fun b => let s := blockScale e b; (s, blockCodes e b s))
  let scales := coded.flatMap (fun c => u8 c.1)
  let data := coded.flatMap (fun c => packRow (elemInner e) c.2)
  ((scales ++ zeros 16).take 16) ++ ((data ++ zeros 256).take 256)

/-- A row of FP32 values written in an output format: PLAIN, or ILV for a block-scaled format (R94, R95). -/
def encodeRow (e : Nat) (xs : List Nat) : List Byte :=
  if elemBlock e then (chunks (ilvLine e) xs).flatMap (ilvLineBytes e) else packRow e (xs.map (f32To e))

/-! ### COMBINE (R117) -/

/-- One contribution merged into the held code: op 1 SUM, 2 MAX, 3 MIN, 4 LAST.  The held value of a SUM on a float format is
FP32 bits; `combineStart` and `combineEnd` convert it. -/
def combineStep (op e held x : Nat) : Nat :=
  match op with
  | 1 => if elemInt e then (held + x) % 2 ^ elemBits e else fadd held (elemToF32 e x)
  | 2 =>
    if elemInt e then (if elemIntVal e held < elemIntVal e x then x else held)
    else
      let a := elemFP e held
      let b := elemFP e x
      if b.isNan then held else if a.isNan then x else if a.lt b then x else held
  | 3 =>
    if elemInt e then (if elemIntVal e x < elemIntVal e held then x else held)
    else
      let a := elemFP e held
      let b := elemFP e x
      if b.isNan then held else if a.isNan then x else if b.lt a then x else held
  | _ => x

def combineStart (op e old : Nat) : Nat := if op = 1 && (elemFloat e || e = 0x0D) then elemToF32 e old else old
def combineEnd (op e held : Nat) : Option Nat :=
  if op != 1 then some held
  else if e = 0x0D then e8m0Of (f32 held)
  else some (if elemFloat e then f32To e held else held)

end Sys2Proof.Machine
end

