-- ==== Sys2Proof/Machine/Tensor.lean ====
section
/-!
DEFINITION. Tensor descriptors: fields, validation, view order, addresses of rows (chapter 4: R96 to R126).
-/

namespace Sys2Proof.Machine

/-- A tensor descriptor (R96). -/
structure Desc where
  base : Nat
  region : Nat
  elem : Nat
  rank : Nat
  mode : Nat
  comb : Nat
  index : Nat
  rsv : Nat
  counts : List Nat
  strides : List Nat
  scaleDesc : Nat
  indexDesc : Nat
  deriving DecidableEq, Repr

def descOf (b : List Byte) : Desc :=
  { base := leAt b 0 8, region := leAt b 8 2, elem := leAt b 0x0A 1, rank := leAt b 0x0B 1, mode := leAt b 0x0C 1
    comb := leAt b 0x0D 1, index := leAt b 0x0E 1, rsv := leAt b 0x0F 1
    counts := (List.range 6).map (fun i => leAt b (0x10 + 4 * i) 4), strides := (List.range 5).map (fun i => leAt b (0x28 + 8 * i) 8)
    scaleDesc := leAt b 0x50 8, indexDesc := leAt b 0x58 8 }

def Desc.width (t : Desc) : Nat := 8 * 2 ^ bitsOf t.mode 0 2
def Desc.layout (t : Desc) : Nat := bitsOf t.mode 2 2
def Desc.transpose (t : Desc) : Bool := bitAt t.mode 4
def Desc.write (t : Desc) : Bool := bitAt t.mode 5
def Desc.indexDim (t : Desc) : Nat := bitsOf t.index 0 3
def Desc.indexed (t : Desc) : Bool := bitAt t.index 3
/-- 0 FAULT, 1 ZERO. -/
def Desc.policy (t : Desc) : Nat := bitsOf t.index 4 2
def Desc.count (t : Desc) (i : Nat) : Nat := t.counts.getD i 0
/-- The signed stride of dimension `i`; 0 for dimension 0. -/
def Desc.stride (t : Desc) (i : Nat) : Int := if i = 0 then 0 else toSigned 64 (t.strides.getD (i - 1) 0)
/-- R98. -/
def Desc.rowBytes (t : Desc) : Nat := rowSpan t.elem (t.count 0) (t.layout = 2)

/-! ### Validation (R122) -/

/-- Checks 1 to 5: the first code that fails. -/
def Desc.check1to5 (t : Desc) : Option Nat :=
  let w := elemBits t.elem
  if bitsOf t.mode 6 2 != 0 || bitsOf t.comb 3 5 != 0 || bitsOf t.index 6 2 != 0 || t.rsv != 0 then some 0x0301
  else if w = 0 || t.layout = 3 || 4 < t.comb || 1 < t.policy then some 0x0302
  else if 2 ^ 57 ≤ t.base || t.rank = 0 || 6 < t.rank
      || (List.range t.rank).any (fun i => t.count i = 0)
      || (List.range 6).any (fun i => decide (t.rank ≤ i) && (t.count i != 0 || t.stride i != 0)) then some 0x0304
  else if (elemBlock t.elem && (t.layout = 0 || t.count 0 % 32 != 0)) || (!elemBlock t.elem && t.layout != 0)
      || (t.layout = 2 && (bitsOf t.mode 0 2 != 1 || t.transpose))
      || (t.transpose && (t.rank < 2 || elemBlock t.elem || (w = 4 && t.count 1 % 2 = 1)))
      || (w = 4 && t.write && t.count 0 % 2 = 1) then some 0x0312
  else if t.base % t.width != 0 || (List.range t.rank).any (fun i => t.stride i % (t.width : Int) != 0)
      || t.scaleDesc % 32 != 0 || t.indexDesc % 32 != 0 then some 0x0310
  else none

/-- R103: the scale descriptor `s` of a SEP tensor. -/
def Desc.scaleOk (t s : Desc) : Bool :=
  s.elem = 0x0D && s.layout = 0 && s.rank = t.rank && s.count 0 * 32 = t.count 0
    && (List.range t.rank).all (fun i => i = 0 || s.count i = t.count i)
    && s.write = t.write && s.transpose = t.transpose && s.comb = 0 && !s.indexed

/-- R119: the conditions on the index dimension and the index descriptor `x`. -/
def Desc.indexOk (t x : Desc) : Bool :=
  decide (1 ≤ t.indexDim) && decide (t.indexDim < t.rank) && x.rank = 1 && (x.elem = 0x06 || x.elem = 0x0C || x.elem = 0x0E)
    && x.layout = 0 && !x.write && !x.transpose && !x.indexed && x.indexDesc = 0

/-- R111: the lowest and highest byte. -/
def Desc.extent (t : Desc) : Int × Int :=
  (List.range t.rank).foldl (fun (e : Int × Int) i =>
    if i = 0 then e
    else
      let span := ((t.count i : Int) - 1) * t.stride i
      if span < 0 then (e.1 + span, e.2) else (e.1, e.2 + span)) ((t.base : Int), (t.base : Int) + t.rowBytes - 1)

/-- R111: the extent lies in the region, or below 2^57 for a virtual-address tensor. -/
def Desc.boundsOk (t : Desc) (regions : List Region) : Bool :=
  let e := t.extent
  if t.region = 0xFFFF then decide (0 ≤ e.1) && decide (e.2 < 2 ^ 57)
  else match regions.find? (fun r => r.id = t.region) with
    | some r => decide ((r.base : Int) ≤ e.1) && decide (e.2 < (r.base : Int) + r.size)
    | none => false

/-- R112: the disjointness test. -/
def Desc.disjoint (t : Desc) : Bool :=
  let dims := sortBy (fun i => (t.stride i).natAbs) ((List.range t.rank).filter (fun i => decide (1 ≤ i) && decide (1 < t.count i)))
  (dims.foldl (fun (acc : Option Nat) i =>
    match acc with
    | none => none
    | some reach => if (t.stride i).natAbs < reach then none else some (reach + (t.count i - 1) * (t.stride i).natAbs))
    (some t.rowBytes)).isSome

/-- The merge of a write: an indexed write whose COMBINE is NONE is a SUM (R118), one that overlaps is LAST (R113). -/
def Desc.combine (t : Desc) : Nat := if t.comb != 0 then t.comb else if t.indexed then 1 else if t.disjoint then 0 else 4

/-- A validated descriptor with the companions read when it was validated (R97). -/
structure Tensor where
  desc : Desc
  scale : Option Desc
  idx : Option Desc
  deriving DecidableEq, Repr

/-- R122 with companions `scale` and `idx`: the code of the first failing check, or the number of waived overlaps (R113).  Two points are the
model's (DESIGN CHOICE, log 106): a SCALE_DESC other than 0 without SEP and an INDEX_DESC other than 0 without INDEXED are not looked at, for
R96 gives no code for them; and a SEP tensor of REGION_ID 0xFFFF, whose tier is not known when it is bound, is refused on an Array operand
channel (R107). -/
def Tensor.validate (x : Tensor) (regions : List Region) (aliasCheck toArray : Bool) : Nat ⊕ Nat :=
  let t := x.desc
  let companion : Option Nat :=
    match (match x.scale with
      | some s => (match s.check1to5 with | some c => some c | none => if t.scaleOk s then none else some 0x0312)
      | none => none) with
    | some c => some c
    | none => match x.idx with
      | some i => (match i.check1to5 with | some c => some c | none => if t.indexOk i then none else some 0x0316)
      | none => none
  match t.check1to5 with
  | some c => .inl c
  | none => match companion with
    | some c => .inl c
    | none =>
      if t.indexed && (x.idx.isNone || !(x.idx.any (t.indexOk ·))) then .inl 0x0316
      else if (t.comb != 0 && (!t.write || elemBlock t.elem)) || (t.indexed && t.write && elemBlock t.elem) then .inl 0x0317
      else if !t.boundsOk regions || x.scale.any (fun s => !s.boundsOk regions) || x.idx.any (fun i => !i.boundsOk regions) then .inl 0x0314
      else
        let tested := t.write && t.comb = 0 && !t.indexed
        let overlaps := if tested then bit (!t.disjoint) + (match x.scale with | some s => bit (!s.disjoint) | none => 0) else 0
        if 0 < overlaps && aliasCheck then .inl 0x0311
        else if toArray && t.layout = 1 &&
            (match regions.find? (fun r => r.id = t.region) with | some r => r.tier ≤ 1 | none => true) then .inl 0x0313
        else .inr overlaps

/-- Reads a companion: LAYOUT SEP names a scale descriptor, INDEXED an index descriptor (R96, R97). -/
def tensorWith (b : List Byte) (companion : Nat → List Byte) : Tensor :=
  let t := descOf b
  { desc := t
    scale := if t.layout = 1 then some (descOf (companion t.scaleDesc)) else none
    idx := if t.indexed then some (descOf (companion t.indexDesc)) else none }

/-- The companions of a descriptor as memory holds them now: the 96 bytes at each address it names (R97). -/
def Device.companionsOf (d : Device) (b : List Byte) : Map (List Byte) :=
  let t := descOf b
  let m : Map (List Byte) := if t.layout = 1 then Map.put [] t.scaleDesc (d.read t.scaleDesc 96) else []
  if t.indexed then m.put t.indexDesc (d.read t.indexDesc 96) else m

/-- A descriptor with companions read before. -/
def tensorFrom (b : List Byte) (comps : Map (List Byte)) : Tensor := tensorWith b (fun a => comps.getD a (zeros 96))

/-- Validates a descriptor held by a command, its companions read from memory now; counts waived overlaps (R113). -/
def Device.bindTensor (d : Device) (b : List Byte) (regions : List Region) (toArray : Bool) : Nat ⊕ (Tensor × Device) :=
  let x := tensorFrom b (d.companionsOf b)
  match x.validate regions (d.fld Reg.TENSOR_CTRL Fd.TENSOR_CTRL_ALIAS_CHECK = 1) toArray with
  | .inl c => .inl c
  | .inr n => .inr (x, if n = 0 then d else d.count Reg.TENSOR_ALIAS_WAIVED_COUNT 32 1)

/-! ### The view (R108, R116, R119) -/

/-- Length of the index tensor, 0 without one. -/
def Tensor.indexLen (x : Tensor) : Nat := match x.idx with | some i => i.count 0 | none => 0

/-- The extent of memory dimension `i`: the length of the index tensor for an indexed dimension. -/
def Tensor.memExtent (x : Tensor) (i : Nat) : Nat :=
  if x.desc.indexed && i = x.desc.indexDim then x.indexLen else x.desc.count i

/-- The memory dimension a view dimension stands for (R108). -/
def Desc.dim (t : Desc) (j : Nat) : Nat := if t.transpose then (match j with | 0 => 1 | 1 => 0 | n => n) else j

/-- The extent of view dimension `j`. -/
def Tensor.viewExtent (x : Tensor) (j : Nat) : Nat := if j < x.desc.rank then x.memExtent (x.desc.dim j) else 1

/-- Rows along view dimension 0. -/
def Tensor.viewRows (x : Tensor) : Nat := (List.range 5).foldl (fun n j => n * x.viewExtent (j + 1)) 1

/-- The outer view positions (j1 to j5) of view row `r`, j1 fastest. -/
def Tensor.outer (x : Tensor) (r : Nat) : List Nat :=
  ((List.range 5).foldl (fun (acc : List Nat × Nat) j =>
    (acc.1 ++ [acc.2 % max 1 (x.viewExtent (j + 1))], acc.2 / max 1 (x.viewExtent (j + 1)))) ([], r)).1

/-- Bytes of a view row: W0 of R98 over the view's extent (R109); a block-scaled row is presented in scaled lines, those of a SEP tensor
too (log 66). -/
def Tensor.viewRowBytes (x : Tensor) : Nat := rowSpan x.desc.elem (x.viewExtent 0) (x.desc.layout != 0)

/-- Signed byte address of the element at memory position `i0 to i5` of a PLAIN or SEP tensor (R99), with 4-bit parity. -/
def Desc.elemAddr (t : Desc) (pos : List Nat) : Int × Bool :=
  let row := (List.range 6).foldl (fun (a : Int) i => if i = 0 then a else a + (pos.getD i 0 : Int) * t.stride i) (t.base : Int)
  (row + ((pos.getD 0 0) * elemBits t.elem / 8 : Nat), elemBits t.elem = 4 && (pos.getD 0 0) % 2 = 1)

/-- The memory position of a view position. -/
def Desc.memPos (t : Desc) (view : List Nat) : List Nat :=
  if t.transpose then view.getD 1 0 :: view.getD 0 0 :: view.drop 2 else view

/-- The position in the index tensor that a view row uses when the indexed dimension is an outer view dimension. -/
def Tensor.indexPos (x : Tensor) (r : Nat) : Nat :=
  (Desc.memPos x.desc (0 :: x.outer r)).getD x.desc.indexDim 0

/-- The index entry varies along the view row. -/
def Tensor.indexAlong (x : Tensor) : Bool := x.desc.indexed && x.desc.transpose && x.desc.indexDim = 1

/-- The index positions a view row uses. -/
def Tensor.rowIndexes (x : Tensor) (r : Nat) : List Nat :=
  if !x.desc.indexed then [] else if x.indexAlong then List.range (x.viewExtent 0) else [x.indexPos r]

/-- The row is the first that an index entry names: its other outer positions are 0 (R120 counts an entry once). -/
def Tensor.firstOfEntry (x : Tensor) (r : Nat) : Bool :=
  if x.indexAlong then x.outer r = [0, 0, 0, 0, 0] else setNth (x.outer r) (x.desc.indexDim - 1) 0 = [0, 0, 0, 0, 0]

/-! ### Rows read: the tile (R103, R104, R109, R120, R121) -/

/-- A read of memory that view rows need: region and address as the tensor names them, bytes, the key under which a tile keeps it. -/
structure TileRead where
  region : Nat
  addr : Nat
  len : Nat
  key : Nat
  deriving DecidableEq, Repr

/-- The key of address `a` read for window `w`, memory row group `j`, of the data or the scales. -/
def tileKey (w j scale a : Nat) : Nat := ((w * 2 ^ 33 + j) * 2 + scale + 2) * 2 ^ 58 + a
/-- The window of a tile key. -/
def tileWindow (k : Nat) : Nat := (k / 2 ^ 58 - 2) / 2 ^ 34
/-- The key of an entry of the index tensor. -/
def indexKey (p : Nat) : Nat := 2 ^ 300 + p

/-- The bytes a tile holds from a key on. -/
def tileByte (tile : Map (List Byte)) (k : Nat) : Byte :=
  match tile.find? (fun e => decide (e.1 ≤ k) && decide (k < e.1 + e.2.length)) with
  | some e => e.2.getD (k - e.1) 0
  | none => 0
def tileBytes (tile : Map (List Byte)) (k n : Nat) : List Byte := (List.range n).map (fun i => tileByte tile (k + i))

/-- What is fetched once serves every use in one window: 64 positions of the index tensor (R121), 64 rows of a transposed view (R109);
of another tensor the row alone (R110). -/
def Tensor.window (x : Tensor) (r : Nat) : Nat :=
  if !x.desc.indexed && !x.desc.transpose then r
  else
    let o := x.outer r
    let o := if x.desc.transpose then setNth o 0 (o.getD 0 0 / 64) else o
    let i := x.desc.indexDim - 1
    let o := if x.desc.indexed && !x.indexAlong then setNth o i (o.getD i 0 / 64) else o
    o.foldl (fun n p => n * 2 ^ 32 + p) 0

/-- The value of an entry of the index tensor, where the tile holds it and it is valid (R120). -/
def Tensor.entry (x : Tensor) (tile : Map (List Byte)) (p : Nat) : Option Nat :=
  match x.idx with
  | none => none
  | some i =>
    let v := elemIntVal i.elem (leAt (tile.getD (indexKey p) []) 0 8)
    if 0 ≤ v ∧ v < (x.desc.count x.desc.indexDim : Int) then some v.toNat else none

/-- A memory position with the indexed dimension replaced by its entry's value; none where the entry is invalid. -/
def Tensor.placed (x : Tensor) (tile : Map (List Byte)) (pos : List Nat) : Option (List Nat) :=
  if !x.desc.indexed then some pos
  else (x.entry tile (pos.getD x.desc.indexDim 0)).map (fun v => setNth pos x.desc.indexDim v)

/-- The memory rows that a row of a transposed view crosses: view position 0, and the position of the element. -/
def Tensor.crossed (x : Tensor) (tile : Map (List Byte)) (r : Nat) : List (Nat × Option (List Nat)) :=
  let o := x.outer r
  (List.range (x.viewExtent 0)).map (fun j => (j, x.placed tile (x.desc.memPos (j :: o))))

/-- The byte of a memory row that holds an element, from the row's start. -/
def Desc.colByte (t : Desc) (i : Nat) : Nat := i * elemBits t.elem / 8

/-- Start of the memory row of a position. -/
def Desc.rowStart (t : Desc) (pos : List Nat) : Nat := (t.elemAddr (setNth pos 0 0)).1.toNat

/-- The memory row group of view position `j` along a row of a transposed view. -/
def Tensor.group (x : Tensor) (j : Nat) : Nat := if x.indexAlong then j / 64 else j

/-- The reads of view row `r` in window `w`: its memory row, and under SEP its row of scales; of a transposed view the pieces of an access
width, cut at the end of the memory row, that hold its elements (R109). -/
def Tensor.rowReads (x : Tensor) (tile : Map (List Byte)) (w r : Nat) : List TileRead :=
  let t := x.desc
  if !t.transpose then
    match x.placed tile (0 :: x.outer r) with
    | none => []
    | some pos =>
      let a := t.rowStart pos
      { region := t.region, addr := a, len := t.rowBytes, key := tileKey w 0 0 a }
        :: x.scale.toList.map (fun s => { region := s.region, addr := s.rowStart pos, len := s.rowBytes, key := tileKey w 0 1 (s.rowStart pos) })
  else (x.crossed tile r).filterMap (fun c => c.2.map (fun pos =>
    let o := t.colByte (pos.getD 0 0) / t.width * t.width
    let a := t.rowStart pos + o
    { region := t.region, addr := a, len := min t.width (t.rowBytes - o), key := tileKey w (x.group c.1) 0 a }))

/-- Reads of the same piece for the same window are one. -/
def joinReads (rs : List TileRead) : List TileRead := rs.foldl (fun acc x => if acc.any (fun y => y.key = x.key) then acc else acc ++ [x]) []

/-- Elements `0` to `n - 1` of a block-scaled row in scaled lines, from its data bytes and its scales; what lies beyond them is zero
(R104, R105). -/
def scaledLines (e n : Nat) (data scales : List Byte) : List Byte :=
  let per := ilvLine e / 32
  (List.range (ceilDiv n (ilvLine e))).flatMap (fun l =>
    let k := min per (n / 32 - l * per)
    (((scales.drop (per * l)).take k ++ zeros 16).take 16) ++ (((data.drop (256 * l)).take (256 / per * k) ++ zeros 256).take 256))

/-- The data bytes and the scales of a row of `n` elements in scaled lines. -/
def unscaledLines (e n : Nat) (row : List Byte) : List Byte × List Byte :=
  let per := ilvLine e / 32
  let ls := (List.range (ceilDiv n (ilvLine e))).map (fun l => (min per (n / 32 - l * per), row.drop (272 * l)))
  (ls.flatMap (fun x => (x.2.drop 16).take (256 / per * x.1)), ls.flatMap (fun x => x.2.take x.1))

/-- R120: a row of zeros: the all-zero encoding, with scale 0x7F in a block-scaled row. -/
def Tensor.zeroRow (x : Tensor) : List Byte :=
  let n := x.viewExtent 0
  if x.desc.layout != 0 then scaledLines x.desc.elem n (zeros (rowSpan x.desc.elem n false)) (List.replicate (n / 32) 0x7F) else zeros x.viewRowBytes

/-- The bytes of view row `r`, from a tile that holds its reads.  The high half of the last byte of an untransposed row of an odd number of
4-bit elements is the half that memory holds (DESIGN CHOICE, log 106: R99 does not say what a buffer holds there). -/
def Tensor.assemble (x : Tensor) (tile : Map (List Byte)) (w r : Nat) : List Byte :=
  let t := x.desc
  if !t.transpose then
    match x.placed tile (0 :: x.outer r) with
    | none => x.zeroRow
    | some pos =>
      let row := tileBytes tile (tileKey w 0 0 (t.rowStart pos)) t.rowBytes
      match x.scale with
      | none => row
      | some s => scaledLines t.elem (t.count 0) row (tileBytes tile (tileKey w 0 1 (s.rowStart pos)) s.rowBytes)
  else packRow t.elem ((x.crossed tile r).map (fun c =>
    match c.2 with
    | none => 0
    | some pos =>
      let i := pos.getD 0 0
      let k := tileKey w (x.group c.1) 0 (t.rowStart pos + t.colByte i)
      if elemBits t.elem = 4 then bitsOf (tileByte tile k).toNat (4 * (i % 2)) 4 else ofLe (tileBytes tile k (elemBits t.elem / 8))))

/-! ### Rows written (R105, R109, R115 to R118) -/

/-- A write of memory that view rows give: region and address as the tensor names them, bytes, format of its elements, order of the first
and how much later each next one comes (R116). -/
structure TileWrite where
  region : Nat
  addr : Nat
  data : List Byte
  elem : Nat
  order : Nat
  step : Nat
  deriving DecidableEq, Repr

/-- The writes of view row `r` of a tensor that is not transposed; an invalid entry discards it (R120).  The parts of a row follow the row
before it in order (R116): its elements, or the bytes of its scaled lines. -/
def Tensor.rowWrites (x : Tensor) (tile : Map (List Byte)) (r : Nat) (bs : List Byte) : List TileWrite :=
  let t := x.desc
  match x.placed tile (0 :: x.outer r) with
  | none => []
  | some pos =>
    let n := t.count 0
    let order := if t.indexed then x.indexPos r else r * (if t.layout != 0 && x.scale.isNone then x.viewRowBytes else n)
    let step := if t.indexed then 0 else 1
    let w (u : Desc) (data : List Byte) (elem : Nat) : TileWrite :=
      { region := u.region, addr := u.rowStart pos, data := data, elem := elem, order := order, step := step }
    if t.layout = 0 then [w t (bs.take t.rowBytes) t.elem]
    else
      let p := unscaledLines t.elem n bs
      match x.scale with
      | none => [w t (scaledLines t.elem n p.1 p.2) 0x09]
      | some s => [w t p.1 t.elem, w s p.2 s.elem]

/-- View row `r` ends a tile of 64 rows of a transposed view (R109). -/
def Tensor.endsTile (x : Tensor) (r : Nat) : Bool := (x.outer r).getD 0 0 % 64 = 63 || (x.outer r).getD 0 0 + 1 = x.viewExtent 1

/-- The writes of the tile of a transposed view that row `r` ends: `rows` are its rows, the last of them row `r`. -/
def Tensor.tileWrites (x : Tensor) (tile : Map (List Byte)) (r : Nat) (rows : List (List Byte)) : List TileWrite :=
  let t := x.desc
  let r0 := r + 1 - rows.length
  (x.crossed tile r0).filterMap (fun c => c.2.map (fun pos =>
    { region := t.region, addr := t.rowStart pos + t.colByte (pos.getD 0 0), data := packRow t.elem (rows.map (fun b => rowElem t.elem b c.1))
      elem := t.elem
      order := if t.indexed then (if x.indexAlong then c.1 else x.indexPos r0) else r0 * x.viewExtent 0 + c.1
      step := if t.indexed then 0 else x.viewExtent 0 }))

end Sys2Proof.Machine
end

