-- ==== Sys2Proof/Machine/Vm.lean ====
section
/-!
DEFINITION. Device virtual memory: the walk, cached translations, ATS (R494 to R498).
-/

namespace Sys2Proof.Machine

/-- What an address translates to. -/
inductive Xlate where
  /-- A device address (or `hostBus` of a host bus address). -/
  | addr (a : Nat)
  /-- The access waits for a Translation Completion. -/
  | waits
  /-- The access faults: ERR_MEM_PAGE_FAULT or ERR_MEM_ATS, at a level (R496). -/
  | fault (code level : Nat)
  deriving DecidableEq, Repr

/-- An address in mapped HBM4 or DDR5. -/
def Device.inHbmDdr (d : Device) (a : Nat) : Bool := match d.place a with | .hbm _ => true | .ddr => true | _ => false

def Device.updMem (d : Device) (f : MemUnit → MemUnit) : Device := { d with memu := f d.memu }

/-- Size of the page a leaf of a level (0 to 3 for levels 1 to 4) maps. -/
def pageSize (level : Nat) : Nat := 2 ^ (12 + 9 * level)

/-- What a leaf allows and maps, at a level (R495, R496); the page of a device leaf is
mapped: its first and last byte decide, since every populated part is one range. -/
def Device.leafFault (d : Device) (leaf level : Nat) (write : Bool) : Bool :=
  (write && !bitAt leaf 2) || bitsOf leaf 5 7 != 0 || bitsOf leaf 56 8 != 0
    || (bitsOf leaf 12 44 * 4096) % pageSize level != 0
    || (!bitAt leaf 3 && !(d.isLocal (bitsOf leaf 12 44 * 4096) && d.isLocal (bitsOf leaf 12 44 * 4096 + pageSize level - 1)))
    || (bitAt leaf 3 && bitAt leaf 4 && d.fld Reg.VM_CTRL Fd.VM_CTRL_ATS_EN = 0)

/-- R494 to R496: the walk from a table at a level: the leaf and its level, or the level (0 to 3) that fails; 4 more where the entry read is
poisoned (R488). -/
def Device.walk (d : Device) (va : Nat) : (level table : Nat) → Nat ⊕ (Nat × Nat)
  | 0, table =>
    let a := table + 8 * bitsOf va 12 9
    let e := d.readLe a 8
    if d.poisoned a 8 then .inl 4 else if bitAt e 0 && bitAt e 1 then .inr (e, 0) else .inl 0
  | l + 1, table =>
    let a := table + 8 * bitsOf va (12 + 9 * (l + 1)) (if l + 1 = 3 then 18 else 9)
    let e := d.readLe a 8
    if d.poisoned a 8 then .inl (5 + l)
    else if !bitAt e 0 then .inl (l + 1)
    else if bitAt e 1 then (if l + 1 = 3 then .inl 3 else .inr (e, l + 1))
    else if bitsOf e 5 7 != 0 || bitsOf e 56 8 != 0 || !d.inHbmDdr (bitsOf e 12 44 * 4096) then .inl (l + 1)
    else Device.walk d va l (bitsOf e 12 44 * 4096)

/-- The root table's address. -/
def Device.vmRoot (d : Device) : Nat := bitsOf (d.reg Reg.VM_ROOT).toNat 21 35 * 2 ^ 21

/-- R498: an ATS leaf: the cached translation, or a Translation Request. -/
def Device.atsTranslate (d : Device) (h va level tag : Nat) (write : Bool) : Xlate × Device :=
  let page := h / 4096
  match d.memu.atc.find? (fun e => e.page = page && (if write then e.write else e.read)) with
  | some e => (.addr (hostBus (e.target + h % 4096)), d)
  | none =>
    if d.dmaOff then (.addr (hostBus h), d)
    else if d.memu.atsPending.any (fun r => r.page = page && r.write = write && r.tag = tag) then (.waits, d)
    else (.waits, (d.updMem (fun m => { m with atsPending := m.atsPending ++ [{ page := page, write := write, tag := tag, va := va, level := level }] })).emit
      (.atsRequest (page * 4096) write))

/-- The translation of a leaf that allows the access. -/
def Device.useLeaf (d : Device) (leaf va size level tag : Nat) (write : Bool) : Xlate × Device :=
  let a := bitsOf leaf 12 44 * 4096 + va % size
  if !bitAt leaf 3 then (.addr a, d)
  else if bitAt leaf 4 then d.atsTranslate a va level tag write
  else (.addr (hostBus a), d)

/-- R496: a fault is noted in VM_LAST_FAULT and its count. -/
def Device.noteVmFault (d : Device) (va code level : Nat) (write : Bool) : Device :=
  ((d.setReg Reg.VM_LAST_FAULT (BitVec.ofNat 64 (va % 2 ^ 57))).setReg Reg.VM_LAST_FAULT_INFO
    (BitVec.ofNat 64 (code + 2 ^ 16 * level + 2 ^ 18 * bit write))).count Reg.VM_FAULT_COUNT 64 1

/-- R494 to R498: translation of a virtual address for an access of a die: a cached translation that allows it is used (R497,
log 21), else a walk; while ENABLE is 0 no entry fails, so the level is a free value (log 86). -/
def Device.translate (d : Device) (die va tag : Nat) (write : Bool) : Xlate × Device :=
  if d.fld Reg.VM_CTRL Fd.VM_CTRL_ENABLE = 0 then
    let (level, d) := d.free
    (.fault 0x0F10 (level.toNat % 4), d.noteVmFault va 0x0F10 (level.toNat % 4) write)
  else
    match d.memu.tlb.find? (fun e => e.die = die && decide (e.va ≤ va) && decide (va < e.va + e.size) && (!write || bitAt e.leaf 2)) with
    | some e =>
      let l := (Nat.log2 e.size - 12) / 9
      if bitAt e.leaf 3 && bitAt e.leaf 4 && d.fld Reg.VM_CTRL Fd.VM_CTRL_ATS_EN = 0 then (.fault 0x0F10 l, d.noteVmFault va 0x0F10 l write)
      else d.useLeaf e.leaf va e.size l tag write
    | none =>
      let d := d.count (Reg.MEM_TLB_MISSES die) 64 1
      match d.walk va 3 d.vmRoot with
      | .inl l => if 4 ≤ l then (.fault 0x0F12 (l - 4), d) else (.fault 0x0F10 l, d.noteVmFault va 0x0F10 l write)
      | .inr (leaf, l) =>
        if d.leafFault leaf l write then (.fault 0x0F10 l, d.noteVmFault va 0x0F10 l write)
        else
          let size := pageSize l
          let e : TlbEntry := { die := die, va := va / size * size, size := size, leaf := leaf }
          (d.updMem (fun m => { m with tlb := e :: m.tlb.filter (fun x => !(x.die = die && x.va = e.va)) })).useLeaf leaf va size l tag write

/-- R473, R494: the address an access of a tensor of a region goes to: the address itself, or its translation for a
virtual-address tensor. -/
def Device.tensorAddr (d : Device) (die region a tag : Nat) (write : Bool) : Xlate × Device :=
  if region = 0xFFFF then d.translate die a tag write else (.addr a, d)

end Sys2Proof.Machine
end

