-- ==== Sys2Proof/Machine/Affine.lean ====
section
/-!
DEFINITION. Affine streams: rows of a tensor read into buffers or staged from them, and weight multicast (R137 to R139, R406).
-/

namespace Sys2Proof.Machine

/-- A descriptor that a job's command names is validated, its companions read from memory as the job's own accesses (R97, R474, R488); or the
code of the first failure. -/
def Device.bindRead (d : Device) (b : List Byte) (regions : List Region) : Nat ⊕ (Tensor × Device) :=
  match (d.companionsOf b).findSome? (fun e => d.accessCheck e.1 96 false) with
  | some c => .inl c
  | none => d.bindTensor b regions false

/-! ### Reaching memory (R111, R119, R120, R140) -/

/-- What reaching a range of a tensor gives: its parts (address, bytes, offset); a wait for a translation; or the code of an abort. -/
inductive Reach where
  | ok (parts : List (Nat × Nat × Nat))
  | waits
  | fail (code : Nat)
  deriving DecidableEq, Repr

/-- A range as a tensor names it, cut at 4,096-byte boundaries: each part is translated where the tensor bears virtual addresses (R111), and
checked. -/
def Device.reach (d : Device) (die tag region a n : Nat) (write : Bool) : Reach × Device :=
  (pageParts a n).foldl (fun (acc : Reach × Device) p =>
    match acc with
    | (.ok l, d) =>
      (match d.tensorAddr die region p.1 tag write with
      | (.fault c _, d) => (.fail c, d)
      | (.waits, d) => (.waits, d)
      | (.addr x, d) =>
        match d.accessCheck x p.2.1 write with
        | some c => (.fail c, d)
        | none => (.ok (l ++ [(x, p.2.1, p.2.2)]), d))
    | a => a) (.ok [], d)

/-- What a list of ranges gives: their transfers; a wait (`none`) or the code of an abort. -/
abbrev Reached := List Xfer ⊕ Option Nat

def Device.reachAll (d : Device) {α : Type} (die tag : Nat) (write : Bool) (range : α → Nat × Nat × Nat) (part : α → Nat × Nat × Nat → Xfer)
    (xs : List α) : Reached × Device :=
  xs.foldl (fun (acc : Reached × Device) x =>
    match acc with
    | (.inl l, d) =>
      (match d.reach die tag (range x).1 (range x).2.1 (range x).2.2 write with
      | (.ok ps, d) => (.inl (l ++ ps.map (part x)), d)
      | (.waits, d) => (.inr none, d)
      | (.fail c, d) => (.inr (some c), d))
    | a => a) (.inl [], d)

/-- The transfers of reads: each part goes to its place in the tile. -/
def Device.reachReads (d : Device) (die tag : Nat) (rs : List TileRead) : Reached × Device :=
  d.reachAll die tag false (fun r => (r.region, r.addr, r.len)) (fun r p => .fetch p.1 p.2.1 (r.key + p.2.2)) rs

/-- The transfers of writes, merged as `comb` says (0 no merge). -/
def Device.reachWrites (d : Device) (die tag comb : Nat) (ws : List TileWrite) : Reached × Device :=
  d.reachAll die tag true (fun w => (w.region, w.addr, w.data.length)) (fun w p =>
    .stage { die := die, addr := p.1, data := (w.data.drop p.2.2).take p.2.1, combine := if comb = 0 then none else some (comb, w.elem)
             order := w.order + p.2.2 * 8 / max 1 (elemBits w.elem) * w.step, step := w.step }) ws

/-- The reads that a tile lacks. -/
def lacking (tile : Map (List Byte)) (rs : List TileRead) : List TileRead := (joinReads rs).filter (fun r => (tile.get? r.key).isNone)

/-- Bytes of device memory join a tile at once; the other reads are left. -/
def Device.takeLocal (d : Device) (tile : Map (List Byte)) (xs : List Xfer) : Map (List Byte) × List Xfer :=
  xs.foldl (fun acc x =>
    match x with
    | .fetch a n k => if d.isLocal a then (acc.1.put k (d.read a n), acc.2) else (acc.1, acc.2 ++ [x])
    | .stage _ => acc) (tile, [])

/-- The reads of the index entries that view rows use (R119). -/
def Tensor.indexReads (x : Tensor) (rs : List Nat) : List TileRead :=
  match x.idx with
  | none => []
  | some i => (rs.flatMap x.rowIndexes).map (fun p =>
      { region := i.region, addr := i.base + p * (elemBits i.elem / 8), len := elemBits i.elem / 8, key := indexKey p })

/-- Invalid entries that view rows are the first to use (R120). -/
def Tensor.invalidEntries (x : Tensor) (tile : Map (List Byte)) (rs : List Nat) : Nat :=
  (rs.filter x.firstOfEntry).foldl (fun n r => n + ((x.rowIndexes r).filter (fun p => (x.entry tile p).isNone)).length) 0

/-- The index entries of view rows join the tile; those that lie outside the device are left as transfers.  An invalid entry under FAULT is
the code 0x0315 (R120). -/
def Device.tensorIndexes (d : Device) (die tag : Nat) (x : Tensor) (tile : Map (List Byte)) (rs : List Nat) :
    ((Map (List Byte) × List Xfer) ⊕ Option Nat) × Device :=
  match d.reachReads die tag (lacking tile (x.indexReads rs)) with
  | (.inr e, d) => (.inr e, d)
  | (.inl xs, d) =>
    let (tile, q) := d.takeLocal tile xs
    if q.isEmpty && x.desc.policy = 0 && (rs.flatMap x.rowIndexes).any (fun p => (x.entry tile p).isNone) then (.inr (some 0x0315), d)
    else (.inl (tile, q), d)

/-- R120: the entries found invalid under ZERO are counted. -/
def Device.countInvalid (d : Device) (die : Nat) (x : Tensor) (tile : Map (List Byte)) (rs : List Nat) : Device :=
  let n := x.invalidEntries tile rs
  if n = 0 then d else d.count (Reg.TENSOR_INDEX_ZERO_COUNT die) 64 n

/-- The reads of view rows, each in its window. -/
def Tensor.readsOf (x : Tensor) (tile : Map (List Byte)) (rs : List Nat) : List TileRead := rs.flatMap (fun r => x.rowReads tile (x.window r) r)

/-- What a tile still needs for view rows: the reads of their windows, and their index entries. -/
def Tensor.keep (x : Tensor) (tile : Map (List Byte)) (rs : List Nat) : Map (List Byte) :=
  let ws := rs.map (fun r => x.window r)
  tile.filter (fun e => if indexKey 0 ≤ e.1 then (rs.any (fun r => decide (e.1 - indexKey 0 ∈ x.rowIndexes r))) else decide (tileWindow e.1 ∈ ws))

/-! ### Rows a write stream drains (R109) -/

/-- The key under which a tile keeps a view row drained and not yet written. -/
def rowKey (r : Nat) : Nat := 2 ^ 301 + r

/-- The writes of view rows from `r0` on, and the tile after them: a transposed view is written tile by tile (R109). -/
def Tensor.drainWrites (x : Tensor) (tile : Map (List Byte)) (r0 : Nat) (rows : List (List Byte)) : List TileWrite × Map (List Byte) :=
  rows.zipIdx.foldl (fun acc row =>
    let r := r0 + row.2
    if !x.desc.transpose then (acc.1 ++ x.rowWrites acc.2 r row.1, acc.2)
    else
      let tile := acc.2.put (rowKey r) row.1
      if x.endsTile r then
        let n := (x.outer r).getD 0 0 % 64 + 1
        (acc.1 ++ x.tileWrites tile r ((List.range n).map (fun i => tile.getD (rowKey (r + 1 - n + i)) [])), tile.filter (fun e => decide (e.1 < rowKey 0)))
      else (acc.1, tile)) ([], tile)

/-! ### The stream records in force -/

/-- The multicast group an Array channel's record names, when multicast is used (R137, R139). -/
def Device.mcast (d : Device) (r : StreamRec) : Option McastGroup :=
  match d.plan.active with
  | none => none
  | some pl =>
    match ([0, 1, 2, 3].flatMap (groupsOf pl.image)).find? (fun m => m.id = r.group) with
    | none => none
    | some m =>
      let forced := [0, 1, 2, 3].any (fun k => bitsOf m.members (8 * k) 8 != 0 && d.fld (Reg.STREAM_CTRL k) Fd.STREAM_CTRL_FORCE_PER_ARRAY = 1)
      if imgPerArray pl.image || forced then none else some m

/-- The global stream IDs of a group's member channels. -/
def McastGroup.streams (m : McastGroup) : List Nat :=
  (List.range 32).filterMap (fun i => if bitAt m.members i then some (gsid (i / 8) (16384 + 4 * (i % 8) + m.channel)) else none)

/-- R139: the descriptor a channel's stream runs: its group's source descriptor where it names a group, else its own. -/
def Device.affineDesc (d : Device) (r : StreamRec) : List Byte :=
  if r.group = 0xFF then r.desc
  else match d.plan.active with
    | none => r.desc
    | some pl =>
      match ([0, 1, 2, 3].flatMap (affinesOf pl.image)).find? (fun x => x.group = r.group && x.groupSource) with
      | some x => x.desc
      | none => r.desc

/-- The tensor a stream runs, with the companions read when the plan was validated. -/
def Device.affineTensor (d : Device) (r : StreamRec) : Tensor :=
  tensorWith (d.affineDesc r) (fun a => (d.plan.active.bind (fun pl => pl.companions.get? a)).getD (zeros 96))

/-! ### Issue and retirement -/

/-- R406: the pitch of a read stream's rows in its buffers. -/
def Tensor.pitch (x : Tensor) : Nat := alignUp x.viewRowBytes 64

/-- The pitch at which a write stream takes rows from its buffers: the tensor's stride (R419; DEDUCED, log 22). -/
def Tensor.drainPitch (x : Tensor) : Nat :=
  if 1 < x.desc.rank && !x.desc.transpose && decide (0 < x.desc.stride 1) then max (x.desc.stride 1).toNat x.viewRowBytes else x.viewRowBytes

/-- Each stream of `targets` takes a buffer of its pool: the streams with their buffers, or none while some pool is empty. -/
def Device.takeTargets (d : Device) (targets : List (Nat × StreamRec)) : Option (List (Nat × Buffer) × Device) :=
  targets.foldl (fun acc t =>
    match acc with
    | none => none
    | some (l, d) =>
      let pk := 1024 * (t.1 / 32768) + t.2.pool
      match d.takeBuffer pk (d.stream t.1).tag with
      | none => none
      | some (a, d) => some (l ++ [(t.1, { addr := a, size := d.poolSize pk, pool := t.2.pool, cursor := 0, deadline := (d.stream t.1).nextDeadline })], d.setStream t.1 { d.stream t.1 with dueIndex := (d.stream t.1).dueIndex + 1 }))
    (some ([], d))

/-- One buffer of a stream that fetches on its own account or, as a group's source, for every stream of `targets`: the index entries its
rows need, then a buffer for each, then the reads of the rows, each issued once (R121, R138). -/
def Device.affineFill (d : Device) (g : Nat) (x : Tensor) (targets : List (Nat × StreamRec)) (rpb : Nat) : Device :=
  let die := g / 32768
  let s := d.stream g
  let n := min rpb (x.viewRows - s.rows)
  let rs := (List.range n).map (fun j => s.rows + j)
  match d.tensorIndexes die s.tag x s.tile rs with
  | (.inr none, d) => d
  | (.inr (some c), d) => d.requestAbort s.tag c
  | (.inl (tile, q), d) =>
    if !q.isEmpty then (d.setStream g { s with tile := tile, issueQ := q }).issue g
    else
      let tile := x.keep tile rs
      match d.reachReads die s.tag (lacking tile (x.readsOf tile rs)) with
      | (.inr none, d) => d
      | (.inr (some c), d) => d.requestAbort s.tag c
      | (.inl xs, d) =>
        match d.takeTargets targets with
        | none => targets.foldl (fun d t =>
            if (d.str.pools.getD (1024 * (t.1 / 32768) + t.2.pool) []).isEmpty then d.setStream t.1 { d.stream t.1 with poolWait := true } else d) d
        | some (bufs, d) =>
          if bufs.any (fun b => decide (b.2.size < n * x.pitch)) then d.requestAbort s.tag 0x041F
          else
            let due := bufs.foldl (fun m b => min m b.2.deadline) 65535
            let d := bufs.foldl (fun d b =>
              let t := d.stream b.1
              d.setStream b.1 { t with state := .running, rows := t.rows + n, poolWait := false
                                       openBuf := some { b.2 with cursor := n * x.pitch, deadline := if b.1 = g then due else b.2.deadline } }) d
            ((d.countInvalid die x tile rs).setStream g { d.stream g with tile := tile, issueQ := xs }).issue g

/-- The buffer of a stream whose transfers have all retired: its handle is pushed, with LAST on the descriptor's final buffer,
after which the stream is DONE. -/
def Device.affineClose (d : Device) (g : Nat) (r : StreamRec) (x : Tensor) : Device :=
  let s := d.stream g
  match s.openBuf with
  | none => d
  | some b =>
    let last := decide (x.viewRows ≤ s.rows)
    let e : LiftEntry := { h := { addr := b.addr, len := b.cursor, last := last, late := false, pool := b.pool }, tag := s.tag, src := .stream g, arm := s.arms }
    let d := d.setStream g { s with openBuf := none, bufIndex := s.bufIndex + 1, ended := last }
    let d := d.push (d.outLift (g / 32768) r.sid r.lift) e
    let d := if d.str.pushWait.any (fun w => w.2.src = .stream g) then d.setStream g { d.stream g with liftWait := true } else d
    if last then d.finishStream g else d

/-- A write stream takes the next handle of its Lift: the transfers of its rows' writes are issued (R405, R419). -/
def Device.affineDrain (d : Device) (g : Nat) (r : StreamRec) (x : Tensor) : Device :=
  let die := g / 32768
  let s := d.stream g
  let lk := 4096 * die + r.lift
  match d.liftQ lk with
  | [] => d
  | e :: _ =>
    if e.tag != s.tag then (d.requestAbort e.tag 0x0418).requestAbort s.tag 0x0418
    else
      let n := if e.h.len < x.viewRowBytes then 0 else min (min r.rowsPerBuffer (x.viewRows - s.rows)) ((e.h.len - x.viewRowBytes) / max 1 x.drainPitch + 1)
      let rs := (List.range n).map (fun j => s.rows + j)
      if n = 0 then d.requestAbort s.tag 0x041F
      else if d.poisoned e.h.addr e.h.len then d.requestAbort s.tag 0x0F12
      else match d.tensorIndexes die s.tag x s.tile rs with
        | (.inr none, d) => d
        | (.inr (some c), d) => d.requestAbort s.tag c
        | (.inl (tile, q), d) =>
          if !q.isEmpty then (d.setStream g { s with tile := tile, issueQ := q }).issue g
          else
            let (ws, tile') := x.drainWrites tile s.rows ((List.range n).map (fun j => d.read (e.h.addr + j * x.drainPitch) x.viewRowBytes))
            match d.reachWrites die s.tag x.desc.combine ws with
            | (.inr none, d) => d
            | (.inr (some c), d) => d.requestAbort s.tag c
            | (.inl xs, d) =>
              match d.popLift lk with
              | none => d
              | some (e, d) =>
                ((d.countInvalid die x tile rs).setStream g { d.stream g with
                  state := .running, rows := s.rows + n, popped := some e, poppedDue := s.nextDeadline, dueIndex := s.dueIndex + 1, tile := tile', issueQ := xs, ended := decide (x.viewRows ≤ s.rows + n) }).issue g

/-- The buffer a write stream has drained goes back; after the last one the stream is DONE. -/
def Device.affineDrained (d : Device) (g : Nat) (e : LiftEntry) : Device :=
  let s := d.stream g
  let d := (d.setStream g { s with popped := none, bufIndex := s.bufIndex + 1 }).releaseHandle (streamRouter g) e.h
  if s.ended then d.finishStream g else d

/-- The records of the streams a source fetches for, its own among them; none where some member is not ready for its next
buffer (R138). -/
def Device.mcastTargets (d : Device) (m : McastGroup) : Option (List (Nat × StreamRec)) :=
  m.streams.foldl (fun (acc : Option (List (Nat × StreamRec))) g =>
    match acc, d.streamRec g with
    | some l, some r =>
      let s := d.stream g
      if (s.state = .armed || s.state = .running) && s.openBuf.isNone && !s.ended && !s.liftWait then some (l ++ [(g, r)]) else none
    | _, _ => none) (some [])

/-- The group that a stream's record names, where multicast is in use. -/
def Device.groupOf (d : Device) (r : StreamRec) : Option McastGroup := if r.group = 0xFF then none else d.mcast r

/-- The step of an affine stream with no transfer outstanding: its next buffer. -/
def Device.affineIssue (d : Device) (g : Nat) (r : StreamRec) : Device :=
  let x := d.affineTensor r
  if !d.prologueOpen (g / 32768) r (d.stream g) then d
  else if x.desc.write then d.affineDrain g r x
  else match d.groupOf r with
    | none => d.affineFill g x [(g, r)] r.rowsPerBuffer
    | some m =>
      if !r.groupSource then d
      else match d.mcastTargets m with
        | none => d
        | some ts => d.affineFill g x ts r.rowsPerBuffer

/-- The rows that a stream has read for a buffer are placed in the open buffer of a stream (R406, R138). -/
def Device.placeRows (d : Device) (src g : Nat) (x : Tensor) : Device :=
  let s := d.stream src
  match (d.stream g).openBuf with
  | none => d
  | some b =>
    let n := b.cursor / max 1 x.pitch
    (List.range n).foldl (fun d j =>
      let r := s.rows - n + j
      d.write (b.addr + j * x.pitch) (x.assemble s.tile (x.window r) r)) d

/-- A read stream's buffer is complete: it, and the buffers of the group it fetched for, are filled and pushed. -/
def Device.affineComplete (d : Device) (g : Nat) (r : StreamRec) : Device :=
  let x := d.affineTensor r
  match d.groupOf r with
  | none => (d.placeRows g g x).affineClose g r x
  | some m =>
    if !r.groupSource then d
    else
      let d := m.streams.foldl (fun d g' => d.placeRows g g' x) d
      m.streams.foldl (fun d g' => match d.streamRec g' with | some r' => d.affineClose g' r' x | none => d) d

/-- What a stream does whose transfers have all retired: a Piste stream that has executed END is DONE; an affine stream closes the buffer
it has filled, or releases the one it has drained. -/
def Device.retired (d : Device) (g : Nat) (r : StreamRec) : Device :=
  let s := d.stream g
  if !r.affine then (if s.ended then d.finishStream g else d)
  else match s.popped with
    | some e => d.affineDrained g e
    | none => if s.openBuf.isSome then d.affineComplete g r else d

/-- R140: the oldest transfer of a stream that has its bytes retires, and its port issues what may follow. -/
def Device.retireOne (d : Device) (g : Nat) : Device :=
  let x := d.stream g
  let d := if x.outstanding ≤ (d.str.extReads.filter (fun q => q.stream = g)).length then d
    else d.setStream g { x with outstanding := x.outstanding - 1 }
  d.issue g

/-- A channel that runs no record (a Traverse channel, channel 2 of an Array) has no transfer to issue or outstanding. -/
def Device.quiet (d : Device) (g : Nat) : Bool := (d.stream g).outstanding = 0 && (d.stream g).issueQ.isEmpty

/-- R140: the oldest transfer of a stream retires, and its port issues what may follow; once all have retired the stream goes on.  With
nothing outstanding and nothing in hand, an affine stream begins its next buffer. -/
def execTransferRetire (s : StreamId) (st : State) : Host.Outcome State Fault Refusal :=
  st.upd (fun d =>
    let g := gsid s.die.val s.sid.val
    match d.streamRec g with
    | none => if d.dieContained s.die.val then d else d.retireOne g
    | some r =>
      let x := d.stream g
      if !(x.state = .armed || x.state = .running) || x.liftWait || d.dieContained s.die.val then d
      else if x.outstanding = 0 && x.issueQ.isEmpty then
        if r.affine && x.openBuf.isNone && x.popped.isNone && !x.ended then d.affineIssue g r
        else d.retired g r
      else
        let d := d.retireOne g
        if d.quiet g then d.retired g r else d)

end Sys2Proof.Machine
end

