-- ==== Sys2Proof/Machine/HashMath.lean ====
section
/-!
DEFINITION. The mix hash, CRC-32C and the augmentation generator (R286, R294, R295, R296).
-/

namespace Sys2Proof.Machine

/-- R294: mix64(x, s). -/
def mix64 (x s : BitVec 64) : BitVec 64 :=
  let v := (x ^^^ s) + 0x3D9147C2E85B06AF#64
  let v := v ^^^ (v >>> 32)
  let v := v * 0xB3C417E95D2A806F#64
  let v := v ^^^ (v >>> 29)
  let v := v * 0x7E15C9A346F2D0B1#64
  v ^^^ (v >>> 32)

def mixN (x s : Nat) : Nat := (mix64 (BitVec.ofNat 64 x) (BitVec.ofNat 64 s)).toNat

/-- R296: one bit of the CRC-32C update. -/
def crcBit (c : BitVec 32) : BitVec 32 := if c.getLsbD 0 then (c >>> 1) ^^^ 0x82F63B78#32 else c >>> 1

/-- R296: update over one byte, without the initial or final inversion. -/
def crcByte (c : BitVec 32) (b : Byte) : BitVec 32 :=
  crcBit (crcBit (crcBit (crcBit (crcBit (crcBit (crcBit (crcBit (c ^^^ b.setWidth 32))))))))

/-- R296: CRC-32C of a message. -/
def crc32c (m : List Byte) : BitVec 32 := m.foldl crcByte 0xFFFFFFFF#32 ^^^ 0xFFFFFFFF#32

/-- R286: one round of the generator on (v, k). -/
def genRound (p : BitVec 64 × BitVec 64) : BitVec 64 × BitVec 64 :=
  let v := p.1 ^^^ p.2
  let v := v * 0x8F3A6C1D5E27B4C9#64
  let v := v ^^^ (v >>> 29)
  let v := v * 0xE6D12B957A4C03F5#64
  let v := v ^^^ (v >>> 32)
  (v, p.2 + 0x2F4B8E71C6D39A05#64)

/-- R286: gen(K, s, t, c). -/
def genWord (key : BitVec 64) (s : BitVec 32) (t : BitVec 8) (c : BitVec 32) : BitVec 32 :=
  let k := key ^^^ (t.setWidth 64 * 0x5A17C3E902B86D4F#64)
  let v := (s ++ c : BitVec 64)
  let v := (genRound (genRound (genRound (v, k)))).1
  (v >>> 32).setWidth 32 ^^^ v.setWidth 32

end Sys2Proof.Machine
end

