-- ==== Sys2Proof/Machine/Stations.lean ====
section
/-!
DEFINITION. What every station's jobs share: configuration, input heads, job ordinals, output buffers, the single burst of
output, failure (R151, R160, R161, R233 to R236, R300).
-/

namespace Sys2Proof.Machine

def Device.updStn (d : Device) (f : StationUnit → StationUnit) : Device := { d with stn := f d.stn }

/-- A fault-map entry of a station instance, its block or its die (R543, R550). -/
def FaultEntry.coversStation (e : FaultEntry) (die kind k : Nat) : Bool :=
  e.die = die && (e.kind = 5 || (e.kind = 4 && e.station = kind && e.index = k) || (e.kind = 3 && (kind = 1 || kind = 5) && e.block = k))

/-- A fault that fences the instance waits in its die's error queue: no result leaves it meanwhile (R541). -/
def Device.stationSuspect (d : Device) (die kind k : Nat) : Bool :=
  match d.fault.errq.get? die with
  | none => false
  | some q => (q.waiting ++ q.suspended ++ q.handling.toList).any (fun e =>
      decide (4 ≤ e.event.severity) && e.event.loc = { kind := 3, die := die, index := k, sub := kind })

/-- The TAP has halted an instance, and lets it make no step (R595). -/
def Device.tapStopped (d : Device) (die kind k : Nat) : Bool :=
  d.mgmt.tap.stations.any (fun e => e.coversStation die kind k) && !d.mgmt.tap.stationSteps.any (fun e => e.coversStation die kind k)

/-- The instance does no work: fenced, or removed from the map and not yet named by a plan switched in since (R550, R553), or with a fault that
waits to be handled (R541), or the governor gates the package (R570), or the TAP has halted
it (R595). -/
def Device.stationStopped (d : Device) (die kind k : Nat) : Bool :=
  d.fault.fmap.any (fun e => e.2.coversStation die kind k) || d.fault.idleUnits.any (fun e => e.coversStation die kind k)
    || d.stationSuspect die kind k || d.mgmt.gated || d.tapStopped die kind k

/-- The configuration of an instance that the active plan makes active (R32, R67). -/
def Device.stationCfg (d : Device) (die kind k : Nat) : Option (List Byte) :=
  (d.plan.active.bind (fun pl => pl.station die kind k)).map (·.config)

def Device.job (d : Device) (key : Nat) : Option Job := d.stn.jobs.get? key
def Device.setJob (d : Device) (key : Nat) (j : Job) : Device := d.updStn (fun u => { u with jobs := u.jobs.put key j })
def Device.dropJob (d : Device) (key : Nat) : Device := 
  { d.updStn (fun u => { u with jobs := u.jobs.del key }) with arr := d.arr.del key, link := { d.link with trav := d.link.trav.del key } }

/-- JOB_SEQ of the next job of a task on an instance, counted (R242). -/
def Device.takeSeq (d : Device) (key tag : Nat) : Nat × Device :=
  let n := match d.stn.seqs.find? (fun e => e.1 = key && e.2.1 = tag) with | some e => e.2.2 | none => 0
  (n, d.updStn (fun u => { u with seqs := (key, tag, (n + 1) % 2 ^ 32) :: u.seqs.filter (fun e => !(e.1 = key && e.2.1 = tag)) }))

/-- R161: the heads of a Lift that bear a task already aborted are discarded, and their buffers released; `n` bounds how many. -/
def Device.discardGone (d : Device) (lk : Nat) : (n : Nat) → Device
  | 0 => d
  | n + 1 =>
    match d.liftQ lk with
    | e :: _ => if d.taskGone e.tag then (match d.popLift lk with | some (e, d) => (d.releaseHandle (d.liftRouter lk) e.h).discardGone lk n | none => d) else d
    | [] => d

/-- R161: the same of every input Lift of a station. -/
def Device.discardHeads (d : Device) (lks : List Nat) : Device := lks.foldl (fun d lk => d.discardGone lk (d.liftQ lk).length) d

/-- R151: the heads of the input Lifts, all present and of one tag, popped; or none, with both tasks of a mismatch aborted. -/
def Device.popHeads (d : Device) (lks : List Nat) : Option (List LiftEntry) × Device :=
  let hs := d.heads lks
  if hs.length != lks.length then (none, d.mismatch lks)
  else match hs with
    | [] => (none, d)
    | e :: _ =>
      if hs.all (fun x => x.tag = e.tag) then
        (some hs, lks.foldl (fun d lk => match d.popLift lk with | some (_, d) => d | none => d) d)
      else (none, d.mismatch lks)

/-- The pool of an instance's die, by POOL_ID. -/
def poolKey (die pool : Nat) : Nat := 1024 * die + pool
/-- COUNT of a pool. -/
def Device.poolCount (d : Device) (pk : Nat) : Nat :=
  ((d.plan.active.bind (fun pl => pl.poolRec (pk / 1024) (pk % 1024))).map (·.count)).getD 0

/-- A job takes buffers of a pool until it holds `n` or the pool is dry (R150, R234); the second argument bounds how many it takes. -/
def Device.holdBuffers (d : Device) (pk n : Nat) (j : Job) : (most : Nat) → Job × Device
  | 0 => (j, d)
  | m + 1 =>
    if n ≤ j.held.length then (j, d)
    else match d.takeBuffer pk j.tag with
      | none => (j, d)
      | some (a, d) => d.holdBuffers pk n { j with held := j.held ++ [(pk % 1024, a)] } m

/-- R234, R300: the outputs of a job go into the buffers it holds and are pushed in one burst: each carries the job's tag; LAST, as `last`,
on the final one. -/
def Device.pushOutputs (d : Device) (key lk : Nat) (j : Job) (last late : Bool) (outs : List (List Byte)) : Device :=
  let d := (j.held.zip outs).foldl (fun d x => d.write x.1.2 x.2) d
  (j.held.zip outs).zipIdx.foldl (fun d x =>
    d.push lk { h := { addr := x.1.1.2, len := x.1.2.length, last := last && decide (x.2 + 1 = outs.length), late := late, pool := x.1.1.1 }
                tag := j.tag, src := .station key }) d

/-- An output of the instance waits for room on its Lift (R150). -/
def Device.outputWaits (d : Device) (key : Nat) : Bool := d.str.pushWait.any (fun w => w.2.src = .station key)

/-- Output buffers an instance holds: those of its job, and those whose handles wait for room on their Lift. -/
def Device.buffersHeld (d : Device) (key : Nat) : Nat :=
  ((d.job key).map (fun j => j.held.length)).getD 0 + (d.str.pushWait.filter (fun w => w.2.src = .station key)).length

/-- A job that has pushed its outputs ends as `fin` says once every handle has set out for its Lift (R150, R233, R300; log 91). -/
def Device.afterPush (d : Device) (key : Nat) (fin : Device → Device) : Device := if d.outputWaits key then d else fin d

/-- The output of a job: it takes the buffers it lacks, and once it holds them all pushes in one burst, does `counts`, and ends as `fin`
says (R234).  Its first `scratch` buffers hold no output and go back (R254). -/
def Device.jobOutputs (d : Device) (key pk lk : Nat) (j : Job) (last late : Bool) (outs : List (List Byte)) (counts fin : Device → Device)
    (scratch : Nat := 0) : Device :=
  let n := scratch + outs.length
  let (j, d) := d.holdBuffers pk n j n
  if j.held.length < n then d.setJob key j
  else
    let d := (j.held.take scratch).foldl (fun d b => d.releaseBuffer (stationRouter key) b.1 b.2) d
    let d := d.pushOutputs key lk { j with held := j.held.drop scratch } last late outs
    (counts (d.setJob key { j with held := [], pushed := true })).afterPush key fin

/-- The input buffers of a job go back to their pools (R233). -/
def Device.releaseInputs (d : Device) (key : Nat) (j : Job) : Device := j.inputs.foldl (fun d e => d.releaseHandle (stationRouter key) e.h) d

/-- The buffers a job holds go back to their pools (R234). -/
def Device.releaseHeld (d : Device) (key : Nat) (j : Job) : Device := j.held.foldl (fun d b => d.releaseBuffer (stationRouter key) b.1 b.2) d

/-- R234: a job fails: it pushes nothing, its buffers go back, and its task aborts with the job's code.  `doneReg` counts
failures, `lastReg` holds the code and the tag. -/
def Device.failJob (d : Device) (key failReg lastReg code : Nat) (j : Job) : Device :=
  let d := (((d.dropJob key).releaseInputs key j).releaseHeld key j).count failReg 64 1
  (d.setReg lastReg (BitVec.ofNat 64 (code + 2 ^ 16 * j.tag))).requestAbort j.tag code

/-- Some input buffer of a job is poisoned: the job reads it and its task aborts (R488). -/
def Device.inputsPoisoned (d : Device) (hs : List LiftEntry) : Bool := hs.any (fun e => d.poisoned e.h.addr e.h.len)

/-- The bytes of a handle's buffer up to LENGTH. -/
def Device.handleData (d : Device) (e : LiftEntry) : List Byte := d.read e.h.addr e.h.len

/-- R236, R161: the abort order of a task stops its job on an instance and returns its buffers. -/
def Device.stopJobs (d : Device) (die tag : Nat) : Device :=
  (d.stn.jobs.filter (fun e => e.1 / 1024 = die && e.2.tag = tag)).foldl (fun d e => ((d.dropJob e.1).releaseInputs e.1 e.2).releaseHeld e.1 e.2) d

/-- A free instance of the active plan that is not stopped pops the heads of its input Lifts and goes on with its configuration and
the handles (R151, R233). -/
def Device.beginJob (d : Device) (die kind k : Nat) (lifts : List Byte → List Nat) (f : List Byte → List LiftEntry → Device → Device) :
    Device :=
  match d.stationCfg die kind k with
  | none => d
  | some cfg =>
    if d.stationStopped die kind k || (d.job (stKey die kind k)).isSome then d
    else
      let lks := (lifts cfg).map (fun l => 4096 * die + l)
      match (d.discardHeads lks).popHeads lks with
      | (none, d) => d
      | (some hs, d) => f cfg hs d

/-- The job of an instance goes on with its configuration; a stopped instance does nothing. -/
def Device.withJob (d : Device) (die kind k : Nat) (f : List Byte → Job → Device → Device) : Device :=
  match d.stationCfg die kind k, d.job (stKey die kind k) with
  | some cfg, some j => if d.stationStopped die kind k then d else f cfg j d
  | _, _ => d

/-- The Lift a station's output channel names. -/
def Device.stationOut (d : Device) (die kind k c lift : Nat) : Nat := d.outLift die (stationStream kind k c) lift

/-! ### Output headers shared by stations (R242, R243) -/

/-- R242: the 32-byte output header. -/
def outHeader (col type flags count first seq part dataOff dataBytes : Nat) : List Byte :=
  u16 col ++ u8 type ++ u8 flags ++ u32 count ++ u64 first ++ u32 seq ++ u16 part ++ u16 0 ++ u32 dataOff ++ u32 dataBytes

/-- A header as a station reads it. -/
structure OutHeader where
  col : Nat
  type : Nat
  flags : Nat
  count : Nat
  first : Nat
  seq : Nat
  part : Nat
  rsv : Nat
  dataOff : Nat
  dataBytes : Nat
  deriving DecidableEq, Repr

def outHeaderOf (b : List Byte) : OutHeader :=
  { col := leAt b 0 2, type := leAt b 2 1, flags := leAt b 3 1, count := leAt b 4 4, first := leAt b 8 8, seq := leAt b 16 4
    part := leAt b 20 2, rsv := leAt b 22 2, dataOff := leAt b 24 4, dataBytes := leAt b 28 4 }

/-- A null bitmap: bit i of the list's i-th flag. -/
def packBits (bs : List Bool) : List Byte :=
  (chunks 8 bs).map (fun c => BitVec.ofNat 8 (c.zipIdx.foldl (fun n x => n + bit x.1 * 2 ^ x.2) 0))

/-- R243: a null bitmap padded to a multiple of 32 bytes, and where the values start. -/
def nullArea (present : List Bool) : List Byte := let m := packBits present; m ++ zeros (alignUp m.length 32 - m.length)

/-- A buffer of values with its header: `present` is the null bitmap when there is one. -/
def columnBuffer (col type count first seq part : Nat) (lastPart : Bool) (present : Option (List Bool)) (values : List Byte) : List Byte :=
  let area := match present with | some p => nullArea p | none => []
  let off := 32 + area.length
  outHeader col type (bit present.isSome + 2 * bit lastPart) count first seq part off values.length ++ area ++ values

end Sys2Proof.Machine
end

