-- ==== Sys2Proof/Machine/Columns.lean ====
section
/-!
DEFINITION. Column buffers as stations read them, and key and row hashes (R242, R243, R295, R301).
-/

namespace Sys2Proof.Machine

/-- A column buffer: TYPE, COLUMN_ID, FIRST, which rows are present, each value's bytes (a 4-bit value in one byte). -/
structure Column where
  type : Nat
  col : Nat
  first : Nat
  present : List Bool
  vals : List (List Byte)
  deriving DecidableEq, Repr

def Column.count (c : Column) : Nat := c.vals.length

/-- Value `r` as a code. -/
def Column.code (c : Column) (r : Nat) : Nat := ofLe (c.vals.getD r [])
def Column.has (c : Column) (r : Nat) : Bool := c.present.getD r false

/-- R243: DATA_OFFSET of a buffer of `count` values. -/
def dataOffset (nulls : Bool) (count : Nat) : Nat := if nulls then 32 + alignUp (ceilDiv count 8) 32 else 32

/-- Bytes of `count` values of a fixed-width type. -/
def fixedBytes (type count : Nat) : Nat := ceilDiv (count * elemBits type) 8

/-- The offsets of a BYTES area are well formed: from 0, non-decreasing, ending at the byte count. -/
def bytesOffsetsOk (area : List Byte) (count : Nat) : Bool :=
  let offs := (List.range (count + 1)).map (fun i => leAt area (4 * i) 4)
  decide (4 * (count + 1) ≤ area.length) && offs.headD 0 = 0 && (offs.zip (offs.drop 1)).all (fun x => decide (x.1 ≤ x.2))
    && offs.getLastD 0 + 4 * (count + 1) = area.length

/-- R301 check 1: the column of a buffer's bytes, or none when it is malformed. -/
def columnOf (b : List Byte) : Option Column :=
  let h := outHeaderOf b
  let nulls := bitAt h.flags 0
  let area := b.drop h.dataOff
  if b.length < 32 || (elemBits h.type = 0 && h.type != 0x20) || h.rsv != 0 || h.dataOff != dataOffset nulls h.count
      || h.dataOff + h.dataBytes != b.length then none
  else
    let present := (List.range h.count).map (fun r => !nulls || bitAt (leAt b (32 + r / 8) 1) (r % 8))
    if h.type = 0x20 then
      if !bytesOffsetsOk area h.count then none
      else some { type := h.type, col := h.col, first := h.first, present := present
                  vals := (List.range h.count).map (fun i =>
                    let o := leAt area (4 * i) 4
                    ((area.drop (4 * (h.count + 1) + o)).take (leAt area (4 * i + 4) 4 - o))) }
    else if h.dataBytes != fixedBytes h.type h.count then none
    else some { type := h.type, col := h.col, first := h.first, present := present
                vals := (List.range h.count).map (fun i => leBytes (max 1 (elemBits h.type / 8)) (rowElem h.type area i)) }

/-- The integer types of columns (R303). -/
def columnInt (t : Nat) : Bool := t = 0x0C || t = 0x06 || t = 0x0E || t = 0x07 || t = 0x08 || t = 0x09
/-- FP32, FP16 and BF16. -/
def columnFloat (t : Nat) : Bool := t = 0x00 || t = 0x01 || t = 0x02

/-- An integer value extended to 64 bits. -/
def Column.int64 (c : Column) (r : Nat) : Nat := ofSigned 64 (elemIntVal c.type (c.code r))

/-- R295: the key hash of a row of an operand, from a running value. -/
def Column.keyHash (c : Column) (r h : Nat) : Nat :=
  if c.type = 0x20 then
    let b := c.vals.getD r []
    mixN b.length ((List.range (ceilDiv b.length 8)).foldl (fun h j => mixN (leAt b (8 * j) 8) h) h)
  else mixN (c.int64 r) h

/-- R295: the row hash over the operands. -/
def rowHash (cs : List Column) (r seed : Nat) : Nat := cs.foldl (fun h c => c.keyHash r h) seed

/-- A row is null when it is null in any operand (R302). -/
def rowPresent (cs : List Column) (r : Nat) : Bool := cs.all (fun c => c.has r)

/-- An output column before its header: type, which rows are present (when it carries a bitmap), the value codes. -/
structure OutCol where
  type : Nat
  nulls : Option (List Bool)
  codes : List Nat
  deriving DecidableEq, Repr

/-- R302: a per-row output: HAS_NULLS with the combined bitmap when some row is null, NULL_VALUE in each null row. -/
def perRow (type : Nat) (present : List Bool) (nullValue : Nat) (f : Nat → Nat) : OutCol :=
  { type := type, nulls := if present.all id then none else some present
    codes := present.zipIdx.map (fun x => if x.1 then f x.2 else nullValue % 2 ^ elemBits type) }

/-- The buffers of a job's output columns: COLUMN_ID, FIRST, JOB_SEQ. -/
def outBuffers (col first seq : Nat) (cols : List OutCol) : List (List Byte) :=
  cols.zipIdx.map (fun x => columnBuffer col x.1.type x.1.codes.length first seq x.2 (decide (x.2 + 1 = cols.length)) x.1.nulls
    (packRow x.1.type x.1.codes))

/-- Pops `n` handles of a Lift whose tasks live; those of aborted tasks among them are discarded (R161).  `fuel` bounds the pops. -/
def Device.popLive (d : Device) (lk n : Nat) : (fuel : Nat) → List LiftEntry × Device
  | 0 => ([], d)
  | f + 1 =>
    if n = 0 then ([], d)
    else match d.popLift lk with
      | none => ([], d)
      | some (e, d) =>
        if d.taskGone e.tag then (d.releaseHandle (d.liftRouter lk) e.h).popLive lk n f
        else let (l, d) := d.popLive lk (n - 1) f; (e :: l, d)

/-- R300: an instance pops `n` consecutive handles of its Lift for a job; handles of different tags abort both tasks. -/
def Device.popRun (d : Device) (lk n : Nat) : Option (List LiftEntry) × Device :=
  let q := ((d.liftQ lk).filter (fun e => !(d.taskGone e.tag))).take n
  match q with
  | [] => (none, d)
  | e :: r => match r.find? (fun x => x.tag != e.tag) with
    | some x => (none, (d.requestAbort e.tag 0x0418).requestAbort x.tag 0x0418)
    | none =>
      if q.length < n then (none, d)
      else let (l, d) := d.popLive lk n (d.liftQ lk).length; (some l, d)

/-- R161: handles at the front of a Lift whose task has aborted are discarded. -/
def Device.discardFront (d : Device) (lk : Nat) : Device :=
  d.discardGone lk (d.liftQ lk).length

/-- A free instance of the active plan pops `ARITY` consecutive handles of one Lift and goes on with its configuration and them. -/
def Device.beginRun (d : Device) (die kind k : Nat) (lift arity : List Byte → Nat) (f : List Byte → List LiftEntry → Device → Device) :
    Device :=
  match d.stationCfg die kind k with
  | none => d
  | some cfg =>
    if d.stationStopped die kind k || (d.job (stKey die kind k)).isSome then d
    else
      let lk := 4096 * die + lift cfg
      match (d.discardFront lk).popRun lk (arity cfg) with
      | (none, d) => d
      | (some hs, d) => f cfg hs d

end Sys2Proof.Machine
end

