-- ==== Sys2Proof/Machine/Gates.lean ====
section
/-!
DEFINITION. Gates, flows, delay lists, dispatch and sync objects (chapter 7: R200 to R229).
-/

namespace Sys2Proof.Machine

/-! ### Gates -/

def Device.gate (d : Device) (k : Nat) : Gate := d.sched.gates.getD k Gate.empty
def Device.setGate (d : Device) (k : Nat) (g : Gate) : Device := { d with sched := { d.sched with gates := d.sched.gates.put k g } }

/-- The cells of cluster `4096 d + p`, in ascending number, with their global IDs. -/
def Device.clusterCells (d : Device) (k : Nat) : List (Nat × Cell) := d.cells.filter (fun e => e.1 / 64 = k)

/-- The items in service in a cluster (R215). -/
def Device.inService (d : Device) (k : Nat) : List Item := (d.clusterCells k).filterMap (fun e => e.2.item)

/-- R47: ticks counted up to now. -/
def Device.ticks (d : Device) : Nat := d.time.tickBase + d.phase

/-- Every item of a Gate that is not in service. -/
def Gate.items (g : Gate) : List Item := g.delayed ++ g.flowWait ++ g.ready

/-- R211: an item waiting its turn may become ready: it has no flow, or its flow holds an entry and no older item of the flow
is in the Gate or in service. -/
def Device.mayReady (d : Device) (k : Nat) (g : Gate) (i : Item) : Bool :=
  i.granted && (match i.flow with
    | none => true
    | some f => !((g.items ++ d.inService k).any (fun j => j.flow = some f && decide (j.formed < i.formed))))

/-- R211: of items waiting their turn, taken in an order, those that may become ready join the ready list. -/
def Device.settleIn (d : Device) (k : Nat) (order : List Item) : Device :=
  let g := d.gate k
  let g' := order.foldl (fun (g : Gate) i =>
    if d.mayReady k g i then { g with flowWait := g.flowWait.erase i, ready := g.ready ++ [{ i with readyPu := d.phase }] } else g) g
  d.setGate k g'

/-- R211: the items that may become ready join the ready list, in the order in which they formed. -/
def Device.settle (d : Device) (k : Nat) : Device := d.settleIn k (sortBy (·.formed) (d.gate k).flowWait)

/-- R208: a flow of which no item remains frees its entry. -/
def Device.dropFlow (d : Device) (k : Nat) (flow : Option Nat) : Device :=
  match flow with
  | none => d
  | some f =>
    let g := d.gate k
    if (g.items ++ d.inService k).any (fun j => j.flow = some f) then d
    else d.setGate k { g with flows := g.flows.filter (· != f) }

/-- R215: the item a cell holds is completed; the next item of its flow may become ready, and its task may end (R154). -/
def Device.completeItem (d : Device) (g : Nat) : Device :=
  let c := d.cell g
  match c.item with
  | none => d
  | some i => (((d.setCell g { c with item := none }).dropFlow (g / 64) i.flow).settle (g / 64)).tryEnd i.tag

/-- The Gate classes of a cluster under the active plan. -/
def Device.gateClasses (d : Device) (k : Nat) : List GateClass :=
  match d.plan.active with
  | some pl => pl.classesAt (k / 4096) (k % 4096)
  | none => []

/-- Entries charged to a position of a class (R203). -/
def Device.charged (d : Device) (k : Nat) (cls pos : Nat) : Nat :=
  let g := d.gate k
  (g.unmatched.filter (fun o => o.pos = 4 * cls + pos)).length + ((g.items ++ d.inService k).filter (fun i => i.cls = cls)).length

/-- Entries of the die's flow table in use (R208). -/
def Device.flowsLive (d : Device) (die : Nat) : Nat :=
  (d.sched.gates.filter (fun e => e.1 / 4096 = die)).foldl (fun n e => n + e.2.flows.length) 0

/-- Items of a die that wait for a flow-table entry (R208). -/
def Device.flowWaiting (d : Device) (die : Nat) : List (Nat × Item) :=
  (d.sched.gates.filter (fun e => e.1 / 4096 = die)).flatMap (fun e => (e.2.items.filter (fun i => !i.granted)).map (fun i => (e.1, i)))

/-- R205, R207, R208, R210: an item of a class forms; while others wait for a flow-table entry it takes none before them. -/
def Device.formItem (d : Device) (k : Nat) (c : GateClass) (tag ordinal : Nat) (ops : List Handle) : Device :=
  let die := k / 4096
  let flow := if c.flowMode = 1 then some c.flowBase
    else if c.flowMode = 2 then some ((c.flowBase + tag % 2 ^ 20) % 2 ^ 20) else none
  let g := d.gate k
  let live := match flow with | none => true | some f => f ∈ g.flows
  let room := decide (d.flowsLive die < 65536) && (d.flowWaiting die).isEmpty
  let granted := live || room
  let abs := c.delayMode = 2
  let release := if c.delayMode = 1 then d.ticks + c.delay else if abs then d.time.tickBase + c.delay else d.ticks
  let delayed := decide (d.ticks < release)
  let i : Item := { cls := c.cls, prio := c.prio, tag := tag, ordinal := ordinal, operands := ops, flow := flow
                    formed := d.sched.formCount, formStep := d.stepNum, formTick := d.ticks, readyPu := 0
                    abs := abs, release := release, granted := granted }
  let g := match flow with
    | some f => if granted then { g with flows := addNew g.flows f } else g
    | none => g
  let g := if delayed then { g with delayed := insertBy (·.release) i g.delayed } else { g with flowWait := g.flowWait ++ [i] }
  let d := if granted then d else d.count (Reg.FLOW_WAIT_COUNT die) 64 1
  ({ d with sched := { d.sched with formCount := d.sched.formCount + 1 } }.setGate k g).settle k

/-- R204: the positions a Gate may pop, in round-robin order after the one popped last: class, position, Lift key. -/
def Device.popOrder (d : Device) (k : Nat) : List (GateClass × Nat × Nat) :=
  let all := (d.gateClasses k).flatMap (fun c => (List.range c.arity).map (fun p => (c, p, 4096 * (k / 4096) + c.inputs.getD p 0)))
  let last := (d.gate k).lastPos
  all.filter (fun x => decide (last ≤ 4 * x.1.cls + x.2.1)) ++ all.filter (fun x => decide (4 * x.1.cls + x.2.1 < last))

/-- R204, R205: the Gate pops one handle, and an item forms when the pop completes its set. -/
def Device.gatePop (d : Device) (k : Nat) : Device :=
  if (d.gate k).stopped || d.clusterFenced k then d
  else match (d.popOrder k).find? (fun x => !(d.liftQ x.2.2).isEmpty && decide (d.charged k x.1.cls x.2.1 < x.1.quotas.getD x.2.1 0)) with
    | none => d
    | some (c, pos, lk) =>
      match d.popLift lk with
      | none => d
      | some (e, d) =>
        let g := d.gate k
        let key := 4 * c.cls + pos
        let ord := match g.popped.find? (fun x => x.1 = key && x.2.1 = e.tag) with | some x => x.2.2 | none => 0
        let popped := (key, e.tag, (ord + 1) % 2 ^ 32) :: g.popped.filter (fun x => !(x.1 = key && x.2.1 = e.tag))
        let g := { g with popped := popped, lastPos := key + 1 }
        if c.arity = 1 then (d.setGate k g).formItem k c e.tag ord [e.h]
        else
          let g := { g with unmatched := g.unmatched ++ [{ pos := key, ordinal := ord, e := e }] }
          let set := (List.range c.arity).filterMap (fun p => g.unmatched.find? (fun o => o.pos = 4 * c.cls + p && o.e.tag = e.tag && o.ordinal = ord))
          if set.length = c.arity then
            (d.setGate k { g with unmatched := g.unmatched.filter (fun o => !(o ∈ set)) }).formItem k c e.tag ord (set.map (fun o => o.e.h))
          else d.setGate k g

/-- R204: a Gate pops one handle. -/
def execGatePop (die : Fin 4) (p : Fin 4096) (s : State) : Host.Outcome State Fault Refusal :=
  s.upd (fun d => d.gatePop (4096 * die.val + p.val))

/-- R208: the item that has waited longest on the die takes a freed flow-table entry. -/
def execFlowEntryGrant (die : Fin 4) (s : State) : Host.Outcome State Fault Refusal :=
  s.upd (fun d =>
    match sortBy (fun x => x.2.formed) (d.flowWaiting die.val) with
    | [] => d
    | (k, i) :: _ =>
      if 65536 ≤ d.flowsLive die.val then d
      else match i.flow with
        | none => d
        | some f =>
          let g := d.gate k
          let grant := fun (j : Item) => if j.flow = some f then { j with granted := true } else j
          (d.setGate k { g with flows := addNew g.flows f, delayed := g.delayed.map grant, flowWait := g.flowWait.map grant }).settle k)

/-- An item of the delay list whose release has come: its time, or the mark that ended the step it formed in (R210). -/
def Device.released (d : Device) (j : Item) : Bool := decide (j.release ≤ d.ticks) || (j.abs && j.formStep != d.stepNum)

/-- R210, R211: the items of the delay list whose release has come leave it, in list order; those released together, as by the mark that
ended their step, in the order in which they formed.  Where there is none, the clock moves on to the release of the head if it lies in the
present step. -/
def execDelayRelease (die : Fin 4) (p : Fin 4096) (s : State) : Host.Outcome State Fault Refusal :=
  s.upd (fun d =>
    let k := 4096 * die.val + p.val
    match (d.gate k).delayed with
    | [] => d
    | i :: rest =>
      let d := if !((i :: rest).any d.released) && decide (i.release ≤ d.time.tickBase + 65535) then d.reachPhase (i.release - d.time.tickBase) else d
      let g := d.gate k
      let key (j : Item) : Nat := if j.abs && j.formStep != d.stepNum then min j.release d.time.tickBase else j.release
      let order := sortBy key (sortBy (·.formed) (g.delayed.filter d.released))
      (d.setGate k { g with delayed := g.delayed.filter (fun j => !d.released j), flowWait := g.flowWait ++ order }).settleIn k order)

/-- The FLOW special register's word for an item (R191, R214). -/
def flowWord (flow : Option Nat) : Nat := match flow with | some f => f + 2 ^ 20 | none => 0

/-- R214: the item record and its operand tail. -/
def itemRecord (i : Item) : List Byte :=
  u32 i.tag
    ++ u32 (flowWord i.flow + i.prio * 2 ^ 21 + i.cls * 2 ^ 24 + (i.operands.length - 1) * 2 ^ 28)
    ++ u32 i.ordinal ++ u16 i.readyPu ++ u16 0 ++ i.operands.flatMap handleBytes

/-- R212, R213: the Gate dispatches the head of its lowest level to the lowest cell blocked in ASK. -/
def execGateDispatch (die : Fin 4) (p : Fin 4096) (s : State) : Host.Outcome State Fault Refusal :=
  s.upd (fun d =>
    let k := 4096 * die.val + p.val
    let g := d.gate k
    let best := (List.range 8).findSome? (fun l => g.ready.find? (fun i => i.prio = l))
    let asking := (d.clusterCells k).findSome? (fun e =>
      match e.2.blocked with
      | some (.ask rd a) => if e.2.state = .running then some (e.1, e.2, rd, a) else none
      | _ => none)
    match best, asking with
    | some i, some (gid, c, rd, a) =>
      if g.stopped || d.clusterFenced k then d
      else
        let c := ({ (c.storeN a (itemRecord i)) with blocked := none, tag := i.tag, item := some i }.setW rd (BitVec.ofNat 32 (flowWord i.flow))).advance
        ((d.setGate k { g with ready := g.ready.erase i }).setCell gid c).count (Reg.GATE_DISPATCH_COUNT die.val) 64 1
    | _, _ => d)

/-- R217: the abort order of a task at the Gates of a die: every unmatched operand and item of it that is not in service goes,
and the buffers return to their pools. -/
def Device.gateAbort (d : Device) (die tag : Nat) : Device :=
  (d.sched.gates.filter (fun e => e.1 / 4096 = die)).foldl (fun d e =>
    let g := d.gate e.1
    let hs := (g.unmatched.filter (fun o => o.e.tag = tag)).map (fun o => o.e.h)
      ++ (g.items.filter (fun i => i.tag = tag)).flatMap (·.operands)
    let flows := (g.items.filter (fun i => i.tag = tag)).map (·.flow)
    let keep := fun (l : List Item) => l.filter (fun i => i.tag != tag)
    let d := d.setGate e.1 { g with unmatched := g.unmatched.filter (fun o => o.e.tag != tag), delayed := keep g.delayed
                                    flowWait := keep g.flowWait, ready := keep g.ready }
    let d := hs.foldl (fun d h => d.releaseHandle (e.1 / 64) h) d
    (flows.foldl (fun d f => d.dropFlow e.1 f) d).settle e.1) d

/-! ### Sync objects -/

/-- R228: sync objects of the dies in DIE_MASK keep their value, take INITIAL, or take 0. -/
def syncInit (pl : Plan) (old : Map Nat) : Map Nat :=
  let dies := (List.range 4).filter (fun k => bitAt (imgDieMask pl.image) k)
  let recs := dies.flatMap (fun die => (syncsOf pl.image die).map (fun r => (65536 * die + r.index, r)))
  let kept := old.filter (fun e => e.1 / 65536 ∉ dies || recs.any (fun r => r.1 = e.1 && r.2.keep))
  (recs.filter (fun r => !r.2.keep)).foldl (fun (m : Map Nat) r => Map.setC m 0 r.1 r.2.init) kept

def Device.syncVal (d : Device) (obj : Nat) : Nat := d.sched.sync.getD obj 0
def Device.setSync (d : Device) (obj v : Nat) : Device := { d with sched := { d.sched with sync := Map.setC d.sched.sync 0 obj v } }
def Device.addSyncOp (d : Device) (o : SyncOp) : Device := { d with sched := { d.sched with ops := d.sched.ops ++ [o] } }

/-- R220: the object of this device a sync ID names: 65536 × die + index. -/
def syncObj (id : Nat) : Nat := bitsOf id 0 18

/-- The member number of this device (R445). -/
def Device.memberId (d : Device) : Nat := d.fld Reg.GROUP_CTRL Fd.GROUP_CTRL_MEMBER_ID

/-- GROUP_SIZE of the active plan. -/
def Device.groupSize (d : Device) : Nat := match d.plan.active with | some pl => imgGroupSize pl.image | none => 1

/-- R224: what an operation on a sync ID is refused with. -/
def Device.syncCheck (d : Device) (id : Nat) (signal : Bool) : Option Nat :=
  if bitsOf id 24 8 != 0 then some 0x0601
  else if !bitAt id 18 then (if bitsOf id 19 5 != 0 then some 0x0610 else none)
  else if !signal || decide (d.groupSize ≤ bitsOf id 19 5) then some 0x0610
  else if bitAt (d.reg Reg.GROUP_LOST).toNat (bitsOf id 19 5) then some 0x0613
  else none

/-- R221: one operation changes an object; a clipped signal is counted. -/
def Device.applySync (d : Device) (o : SyncOp) : Device :=
  if o.kind = 0 then d.setSync o.obj 0
  else
    let v := d.syncVal o.obj + o.amount
    let d := d.setSync o.obj (min 0xFFFF_FFFF v)
    if 0xFFFF_FFFF < v then d.count (Reg.SYNC_SAT_COUNT (o.obj / 65536)) 32 1 else d

/-- R514: the armed IRQ_MAP entries on an object whose value reaches THRESHOLD fire once. -/
def Device.fireIrq (d : Device) (obj : Nat) : Device :=
  (d.regs.filter (fun e => decide (Reg.IRQ_MAP 16 ≤ e.1) && decide (e.1 ≤ Reg.IRQ_MAP 2047))).foldl (fun d e =>
    let v := (e.1 - Reg.IRQ_MAP 0) / 8
    if d.fld e.1 Fd.IRQ_MAP_ARMED = 1 && 65536 * d.fld e.1 Fd.IRQ_MAP_DIE + d.fld e.1 Fd.IRQ_MAP_INDEX = obj
        && decide (d.fld e.1 Fd.IRQ_MAP_THRESHOLD ≤ d.syncVal obj)
    then (d.setFld e.1 Fd.IRQ_MAP_ARMED 0).signal v else d) d

/-- R222: the waits of cells that an object's value satisfies end. -/
def Device.endWaits (d : Device) (obj : Nat) : Device :=
  { d with cells := d.cells.mapVals (fun _ c =>
      match c.blocked with
      | some (.swge rd o t) => if o = obj && decide (t ≤ d.syncVal obj) then ({ c with blocked := none }.setW rd 0).advance else c
      | _ => c) }

/-- R222: the operations that have reached an object are applied in the fixed order; then waits and interrupts are judged. -/
def Device.syncApply (d : Device) (obj : Nat) : Device :=
  match d.plan.switch with
  | .running _ => d
  | _ =>
    let mine := sortBy (fun o => o.kind * 2 ^ 32 + o.source) (d.sched.ops.filter (fun o => o.obj = obj))
    let d := { d with sched := { d.sched with ops := d.sched.ops.filter (fun o => o.obj != obj) } }
    ((mine.foldl (fun d o => d.applySync o) d).endWaits obj).fireIrq obj

def execSyncApply (die : Fin 4) (i : Fin 65536) (s : State) : Host.Outcome State Fault Refusal :=
  s.upd (fun d => d.syncApply (65536 * die.val + i.val))

/-- R229, R232: SYNC_CMD with OP signal. -/
def execSyncCmdSignal (die : Fin 4) (i : Fin 65536) (amount : Word) (s : State) : Host.Outcome State Fault Refusal :=
  s.write64 (Reg.SYNC_CMD die.val) (fun d => d.addSyncOp { obj := 65536 * die.val + i.val, kind := 1, source := 0, amount := amount.toNat })

/-- R229, R232: SYNC_CMD with OP reset; AMOUNT must be 0. -/
def execSyncCmdReset (die : Fin 4) (i : Fin 65536) (amount : Word) (s : State) : Host.Outcome State Fault Refusal :=
  s.write64 (Reg.SYNC_CMD die.val) (fun d =>
    if amount != 0 then d.refuse 0x0604 die.val
    else d.addSyncOp { obj := 65536 * die.val + i.val, kind := 0, source := 0, amount := 0 })

end Sys2Proof.Machine
end

