-- ==== Sys2Proof/Machine/Cells.lean ====
section
/-!
DEFINITION. Cells and the Kalxel instruction set (chapter 6: R169 to R197).
-/

namespace Sys2Proof.Machine

/-! ### Running, completion, exceptions -/

/-- The placement of the program a cell runs. -/
def Device.placement (d : Device) (g : Nat) : Option Placement :=
  match d.plan.active with
  | some pl => pl.placementAt (g / 2 ^ 18) (g / 64 % 4096)
  | none => none

/-- A debug step of a cell is used up (R595). -/
def Device.useStep (d : Device) (g : Nat) : Device :=
  { d with mgmt := { d.mgmt with tap := { d.mgmt.tap with steps := d.mgmt.tap.steps.filter (fun x => x != g) } } }

/-- An instruction of a cell: it has an effect while the cell runs and is not blocked, or once for a debug step of a halted cell; while the
governor gates the package it issues none (R570). -/
def Device.onCell (d : Device) (c : CellId) (f : Nat → Cell → Device → Device) : Device :=
  let x := d.cell c.gid
  if x.blocked.isSome || d.mgmt.gated then d
  else if x.state = .running then f c.gid x d
  else if (x.state = .halted || x.state = .tapHalted) && c.gid ∈ d.mgmt.tap.steps then f c.gid x (d.useStep c.gid)
  else d

/-- An instruction that writes one register from the cell's own registers and goes on (R169). -/
def Device.alu (d : Device) (c : CellId) (rd : Reg) (f : Cell → Word) : Device :=
  d.onCell c (fun g x d => d.setCell g (x.setW rd.val (f x)).advance)

/-- R195: a restarted cell: its item completed, registers, TAG and GKEY cleared, PC at ENTRY; or, under EXC_HALT, halted. -/
def Device.restart (d : Device) (g : Nat) : Device :=
  let d := d.completeItem g
  let x := d.cell g
  if d.fld (Reg.CELL_CTRL (g / 2 ^ 18)) Fd.CELL_CTRL_EXC_HALT = 1 then d.setCell g { x with state := .halted, blocked := none }
  else d.setCell g { x with regs := List.replicate 32 0, tag := 0, gkey := 0, blocked := none
                            pc := BitVec.ofNat 32 (4 * ((d.placement g).map (·.entry)).getD 0) }

/-- R194: what every cell exception records: EXC, CELL_LAST_EXC, the count, an event record, the abort of the task in TAG. -/
def Device.noteException (d : Device) (g code sev arg : Nat) : Device :=
  let x := d.cell g
  let die := g / 2 ^ 18
  let word := x.pc.toNat / 4 % 4096
  let d := d.setCell g { x with exc := code + 2 ^ 16 * word }
  let d := d.setReg (Reg.CELL_LAST_EXC die) (BitVec.ofNat 64 (code + 2 ^ 16 * g + 2 ^ 36 * word))
  let d := d.setReg (Reg.CELL_LAST_EXC_TAG die) (BitVec.ofNat 64 x.tag)
  let d := d.count (Reg.CELL_EXC_COUNT die) 64 1
  let d := d.record { code := code, severity := sev, domain := if sev = 4 then 1 else 0, tag := x.tag, arg0 := arg
                      loc := { kind := 1, die := die, index := g / 2 ^ 12 % 64, sub := g } }
  d.requestAbort x.tag code

/-- R194, R195: a cell exception with restart. -/
def Device.cellException (d : Device) (g code arg : Nat) : Device := (d.noteException g code 3 arg).restart g

/-! ### Data addresses (R170, R180) -/

/-- Where a data access lands. -/
inductive CellAddr where
  | priv (a : Nat)
  | cluster (a : Nat)
  | bad (code : Nat)
  deriving DecidableEq, Repr

/-- R170, R180: the address map first, for every byte of the access, then alignment. -/
def cellAddr (a n : Nat) : CellAddr :=
  if a + n ≤ 0x400 then (if a % n = 0 then .priv a else .bad 0x0511)
  else if 0x1_0000 ≤ a ∧ a + n ≤ 0x3_0000 then (if a % n = 0 then .cluster (a - 0x1_0000) else .bad 0x0511)
  else .bad 0x0510

/-- The device address of a byte of the cell's cluster store. -/
def clusterByte (g o : Nat) : Nat := clusterAddr (g / 2 ^ 18) (g / 64 % 4096) o

/-- rs1 + IMM16, sign-extended, modulo 2^32. -/
def effAddr (x : Cell) (rs1 : Reg) (imm : BitVec 16) : Nat := (x.w rs1.val + imm.signExtend 32).toNat

/-- A load of `n` bytes; `ext` extends it to the register. -/
def Device.load (d : Device) (c : CellId) (rd rs1 : Reg) (imm : BitVec 16) (n : Nat) (ext : Nat → Word) : Device :=
  d.onCell c (fun g x d =>
    match cellAddr (effAddr x rs1 imm) n with
    | .bad e => d.cellException g e 0
    | .priv a => d.setCell g (x.setW rd.val (ext (ofLe (x.load a n)))).advance
    | .cluster o => d.setCell g (x.setW rd.val (ext (d.readLe (clusterByte g o) n))).advance)

/-- A store of the low `n` bytes of rs2. -/
def Device.store (d : Device) (c : CellId) (rs2 rs1 : Reg) (imm : BitVec 16) (n : Nat) : Device :=
  d.onCell c (fun g x d =>
    let bs := leBytes n (x.w rs2.val).toNat
    match cellAddr (effAddr x rs1 imm) n with
    | .bad e => d.cellException g e 0
    | .priv a => d.setCell g (x.storeN a bs).advance
    | .cluster o => (d.setCell g x.advance).write (clusterByte g o) bs)

/-- An atomic on the cluster-store word at rs1: rd := old; the word becomes `f old rs2 rd`. -/
def Device.amo (d : Device) (c : CellId) (rd rs1 rs2 : Reg) (f : Word → Word → Word → Word) : Device :=
  d.onCell c (fun g x d =>
    match cellAddr (x.w rs1.val).toNat 4 with
    | .bad e => d.cellException g e 0
    | .priv _ => d.cellException g 0x0510 0
    | .cluster o =>
      let old := BitVec.ofNat 32 (d.readLe (clusterByte g o) 4)
      (d.setCell g (x.setW rd.val old).advance).write (clusterByte g o) (leBytes 4 (f old (x.w rs2.val) (x.w rd.val)).toNat))

/-- R180: the PC moves to a target; a bad target takes ERR_CELL_PC when it is fetched. -/
def Device.jump (d : Device) (g : Nat) (x : Cell) (t : Word) : Device :=
  let d := d.setCell g { x with pc := t }
  let codeLen := ((d.placement g).map (·.code.length)).getD 0
  if t.toNat % 4 != 0 || decide (codeLen ≤ t.toNat) then d.cellException g 0x0512 0 else d

def Device.branch (d : Device) (c : CellId) (rs1 rs2 : Reg) (off : BitVec 16) (p : Word → Word → Bool) : Device :=
  d.onCell c (fun g x d =>
    if p (x.w rs1.val) (x.w rs2.val) then d.jump g x (x.pc + 4 * off.signExtend 32) else d.setCell g x.advance)

/-- A register pair as 64 bits, w(2k) low (R169). -/
def Cell.pair (x : Cell) (k : Nat) : DWord := (x.w (2 * k + 1) ++ x.w (2 * k) : BitVec 64)

/-! ### Integer operations (R180) -/

def kDiv (a b : Word) : Word := if b = 0 then 0xFFFF_FFFF else BitVec.sdiv a b
def kRem (a b : Word) : Word := if b = 0 then a else BitVec.srem a b
def kDivu (a b : Word) : Word := if b = 0 then 0xFFFF_FFFF else a / b
def kRemu (a b : Word) : Word := if b = 0 then a else a % b
def kMulh (a b : Word) : Word := ((a.signExtend 64 * b.signExtend 64) >>> 32).setWidth 32
def kMulhu (a b : Word) : Word := ((a.setWidth 64 * b.setWidth 64) >>> 32).setWidth 32
def kBool (b : Bool) : Word := if b then 1 else 0
def kClz (a : Word) : Word := if a = 0 then 32 else BitVec.ofNat 32 (31 - Nat.log2 a.toNat)
def kPopc (a : Word) : Word := BitVec.ofNat 32 (popCount 32 a.toNat)
/-- Shift amounts are rs2[4:0]. -/
def shamt (b : Word) : Nat := b.toNat % 32

/-! ### BF16 pairs (R182) -/

def loHalf (a : Word) : Nat := a.toNat % 2 ^ 16
def hiHalf (a : Word) : Nat := a.toNat / 2 ^ 16
/-- An FP32 operation on each half, converted to BF16. -/
def bf2 (f : Nat → Nat → Nat) (a b : Word) : Word :=
  BitVec.ofNat 32 (f32ToBf16 (f (bf16Wide (loHalf a)) (bf16Wide (loHalf b)))
    + 2 ^ 16 * f32ToBf16 (f (bf16Wide (hiHalf a)) (bf16Wide (hiHalf b))))
/-- BDOT2: t := acc + p0; t + p1, each addition rounding in FP32. -/
def bdot2 (acc a b : Word) : Word :=
  let p0 := (bf16 (loHalf a)).mul (bf16 (loHalf b))
  let p1 := (bf16 (hiHalf a)).mul (bf16 (hiHalf b))
  let t := toF32 ((f32 acc.toNat).add p0)
  BitVec.ofNat 32 (toF32 ((f32 t).add p1))

def fp1 (f : Nat → Nat) (a : Word) : Word := BitVec.ofNat 32 (f a.toNat)
def fp2 (f : Nat → Nat → Nat) (a b : Word) : Word := BitVec.ofNat 32 (f a.toNat b.toNat)
def fsgn (f : Bool → Bool → Bool) (a b : Word) : Word :=
  BitVec.ofNat 32 (a.toNat % 2 ^ 31 + 2 ^ 31 * bit (f (bitAt a.toNat 31) (bitAt b.toNat 31)))

/-! ### Register instructions -/

/-- R179, R180 ADD. -/
def execAdd (c : CellId) (rd rs1 rs2 : Reg) (s : State) : Host.Outcome State Fault Refusal :=
  s.upd (fun d => d.alu c rd (fun x => (x.w rs1.val) + (x.w rs2.val)))

/-- R179, R180 SUB. -/
def execSub (c : CellId) (rd rs1 rs2 : Reg) (s : State) : Host.Outcome State Fault Refusal :=
  s.upd (fun d => d.alu c rd (fun x => (x.w rs1.val) - (x.w rs2.val)))

/-- R179, R180 AND. -/
def execAnd (c : CellId) (rd rs1 rs2 : Reg) (s : State) : Host.Outcome State Fault Refusal :=
  s.upd (fun d => d.alu c rd (fun x => (x.w rs1.val) &&& (x.w rs2.val)))

/-- R179, R180 OR. -/
def execOr (c : CellId) (rd rs1 rs2 : Reg) (s : State) : Host.Outcome State Fault Refusal :=
  s.upd (fun d => d.alu c rd (fun x => (x.w rs1.val) ||| (x.w rs2.val)))

/-- R179, R180 XOR. -/
def execXor (c : CellId) (rd rs1 rs2 : Reg) (s : State) : Host.Outcome State Fault Refusal :=
  s.upd (fun d => d.alu c rd (fun x => (x.w rs1.val) ^^^ (x.w rs2.val)))

/-- R179, R180 SLL. -/
def execSll (c : CellId) (rd rs1 rs2 : Reg) (s : State) : Host.Outcome State Fault Refusal :=
  s.upd (fun d => d.alu c rd (fun x => (x.w rs1.val) <<< shamt (x.w rs2.val)))

/-- R179, R180 SRL. -/
def execSrl (c : CellId) (rd rs1 rs2 : Reg) (s : State) : Host.Outcome State Fault Refusal :=
  s.upd (fun d => d.alu c rd (fun x => (x.w rs1.val) >>> shamt (x.w rs2.val)))

/-- R179, R180 SRA. -/
def execSra (c : CellId) (rd rs1 rs2 : Reg) (s : State) : Host.Outcome State Fault Refusal :=
  s.upd (fun d => d.alu c rd (fun x => BitVec.sshiftRight (x.w rs1.val) (shamt (x.w rs2.val))))

/-- R179, R180 SLT. -/
def execSlt (c : CellId) (rd rs1 rs2 : Reg) (s : State) : Host.Outcome State Fault Refusal :=
  s.upd (fun d => d.alu c rd (fun x => kBool (BitVec.slt (x.w rs1.val) (x.w rs2.val))))

/-- R179, R180 SLTU. -/
def execSltu (c : CellId) (rd rs1 rs2 : Reg) (s : State) : Host.Outcome State Fault Refusal :=
  s.upd (fun d => d.alu c rd (fun x => kBool (BitVec.ult (x.w rs1.val) (x.w rs2.val))))

/-- R179, R180 MIN. -/
def execMin (c : CellId) (rd rs1 rs2 : Reg) (s : State) : Host.Outcome State Fault Refusal :=
  s.upd (fun d => d.alu c rd (fun x => if BitVec.slt (x.w rs2.val) (x.w rs1.val) then (x.w rs2.val) else (x.w rs1.val)))

/-- R179, R180 MAX. -/
def execMax (c : CellId) (rd rs1 rs2 : Reg) (s : State) : Host.Outcome State Fault Refusal :=
  s.upd (fun d => d.alu c rd (fun x => if BitVec.slt (x.w rs1.val) (x.w rs2.val) then (x.w rs2.val) else (x.w rs1.val)))

/-- R179, R180 MINU. -/
def execMinu (c : CellId) (rd rs1 rs2 : Reg) (s : State) : Host.Outcome State Fault Refusal :=
  s.upd (fun d => d.alu c rd (fun x => if BitVec.ult (x.w rs2.val) (x.w rs1.val) then (x.w rs2.val) else (x.w rs1.val)))

/-- R179, R180 MAXU. -/
def execMaxu (c : CellId) (rd rs1 rs2 : Reg) (s : State) : Host.Outcome State Fault Refusal :=
  s.upd (fun d => d.alu c rd (fun x => if BitVec.ult (x.w rs1.val) (x.w rs2.val) then (x.w rs2.val) else (x.w rs1.val)))

/-- R179, R180 MUL. -/
def execMul (c : CellId) (rd rs1 rs2 : Reg) (s : State) : Host.Outcome State Fault Refusal :=
  s.upd (fun d => d.alu c rd (fun x => (x.w rs1.val) * (x.w rs2.val)))

/-- R179, R180 MULH. -/
def execMulh (c : CellId) (rd rs1 rs2 : Reg) (s : State) : Host.Outcome State Fault Refusal :=
  s.upd (fun d => d.alu c rd (fun x => kMulh (x.w rs1.val) (x.w rs2.val)))

/-- R179, R180 MULHU. -/
def execMulhu (c : CellId) (rd rs1 rs2 : Reg) (s : State) : Host.Outcome State Fault Refusal :=
  s.upd (fun d => d.alu c rd (fun x => kMulhu (x.w rs1.val) (x.w rs2.val)))

/-- R179, R180 DIV. -/
def execDiv (c : CellId) (rd rs1 rs2 : Reg) (s : State) : Host.Outcome State Fault Refusal :=
  s.upd (fun d => d.alu c rd (fun x => kDiv (x.w rs1.val) (x.w rs2.val)))

/-- R179, R180 DIVU. -/
def execDivu (c : CellId) (rd rs1 rs2 : Reg) (s : State) : Host.Outcome State Fault Refusal :=
  s.upd (fun d => d.alu c rd (fun x => kDivu (x.w rs1.val) (x.w rs2.val)))

/-- R179, R180 REM. -/
def execRem (c : CellId) (rd rs1 rs2 : Reg) (s : State) : Host.Outcome State Fault Refusal :=
  s.upd (fun d => d.alu c rd (fun x => kRem (x.w rs1.val) (x.w rs2.val)))

/-- R179, R180 REMU. -/
def execRemu (c : CellId) (rd rs1 rs2 : Reg) (s : State) : Host.Outcome State Fault Refusal :=
  s.upd (fun d => d.alu c rd (fun x => kRemu (x.w rs1.val) (x.w rs2.val)))

/-- R179 CLZ. -/
def execClz (c : CellId) (rd rs1 : Reg) (s : State) : Host.Outcome State Fault Refusal :=
  s.upd (fun d => d.alu c rd (fun x => kClz (x.w rs1.val)))

/-- R179 POPC. -/
def execPopc (c : CellId) (rd rs1 : Reg) (s : State) : Host.Outcome State Fault Refusal :=
  s.upd (fun d => d.alu c rd (fun x => kPopc (x.w rs1.val)))

/-- R177, R179 ADDI. -/
def execAddi (c : CellId) (rd rs1 : Reg) (imm : BitVec 16) (s : State) : Host.Outcome State Fault Refusal :=
  s.upd (fun d => d.alu c rd (fun x => (x.w rs1.val) + imm.signExtend 32))

/-- R177, R179 ANDI. -/
def execAndi (c : CellId) (rd rs1 : Reg) (imm : BitVec 16) (s : State) : Host.Outcome State Fault Refusal :=
  s.upd (fun d => d.alu c rd (fun x => (x.w rs1.val) &&& imm.setWidth 32))

/-- R177, R179 ORI. -/
def execOri (c : CellId) (rd rs1 : Reg) (imm : BitVec 16) (s : State) : Host.Outcome State Fault Refusal :=
  s.upd (fun d => d.alu c rd (fun x => (x.w rs1.val) ||| imm.setWidth 32))

/-- R177, R179 XORI. -/
def execXori (c : CellId) (rd rs1 : Reg) (imm : BitVec 16) (s : State) : Host.Outcome State Fault Refusal :=
  s.upd (fun d => d.alu c rd (fun x => (x.w rs1.val) ^^^ imm.setWidth 32))

/-- R177, R179 SLTI. -/
def execSlti (c : CellId) (rd rs1 : Reg) (imm : BitVec 16) (s : State) : Host.Outcome State Fault Refusal :=
  s.upd (fun d => d.alu c rd (fun x => kBool (BitVec.slt (x.w rs1.val) (imm.signExtend 32))))

/-- R177, R179 SLTIU. -/
def execSltiu (c : CellId) (rd rs1 : Reg) (imm : BitVec 16) (s : State) : Host.Outcome State Fault Refusal :=
  s.upd (fun d => d.alu c rd (fun x => kBool (BitVec.ult (x.w rs1.val) (imm.signExtend 32))))

/-- R179 SLLI. -/
def execSlli (c : CellId) (rd rs1 : Reg) (sh : BitVec 5) (s : State) : Host.Outcome State Fault Refusal :=
  s.upd (fun d => d.alu c rd (fun x => (x.w rs1.val) <<< sh.toNat))

/-- R179 SRLI. -/
def execSrli (c : CellId) (rd rs1 : Reg) (sh : BitVec 5) (s : State) : Host.Outcome State Fault Refusal :=
  s.upd (fun d => d.alu c rd (fun x => (x.w rs1.val) >>> sh.toNat))

/-- R179 SRAI. -/
def execSrai (c : CellId) (rd rs1 : Reg) (sh : BitVec 5) (s : State) : Host.Outcome State Fault Refusal :=
  s.upd (fun d => d.alu c rd (fun x => BitVec.sshiftRight (x.w rs1.val) sh.toNat))

/-- R179 LUI: IMM21 × 2^11. -/
def execLui (c : CellId) (rd : Reg) (imm : BitVec 21) (s : State) : Host.Outcome State Fault Refusal :=
  s.upd (fun d => d.alu c rd (fun _ => imm.setWidth 32 <<< 11))

/-- R179 LW. -/
def execLw (c : CellId) (rd rs1 : Reg) (imm : BitVec 16) (s : State) : Host.Outcome State Fault Refusal :=
  s.upd (fun d => d.load c rd rs1 imm 4 (fun v => BitVec.ofNat 32 v))

/-- R179 LH. -/
def execLh (c : CellId) (rd rs1 : Reg) (imm : BitVec 16) (s : State) : Host.Outcome State Fault Refusal :=
  s.upd (fun d => d.load c rd rs1 imm 2 (fun v => (BitVec.ofNat 16 v).signExtend 32))

/-- R179 LHU. -/
def execLhu (c : CellId) (rd rs1 : Reg) (imm : BitVec 16) (s : State) : Host.Outcome State Fault Refusal :=
  s.upd (fun d => d.load c rd rs1 imm 2 (fun v => BitVec.ofNat 32 v))

/-- R179 LB. -/
def execLb (c : CellId) (rd rs1 : Reg) (imm : BitVec 16) (s : State) : Host.Outcome State Fault Refusal :=
  s.upd (fun d => d.load c rd rs1 imm 1 (fun v => (BitVec.ofNat 8 v).signExtend 32))

/-- R179 LBU. -/
def execLbu (c : CellId) (rd rs1 : Reg) (imm : BitVec 16) (s : State) : Host.Outcome State Fault Refusal :=
  s.upd (fun d => d.load c rd rs1 imm 1 (fun v => BitVec.ofNat 32 v))

/-- R179, R193 SW. -/
def execSw (c : CellId) (rs2 rs1 : Reg) (imm : BitVec 16) (s : State) : Host.Outcome State Fault Refusal :=
  s.upd (fun d => d.store c rs2 rs1 imm 4)

/-- R179, R193 SH. -/
def execSh (c : CellId) (rs2 rs1 : Reg) (imm : BitVec 16) (s : State) : Host.Outcome State Fault Refusal :=
  s.upd (fun d => d.store c rs2 rs1 imm 2)

/-- R179, R193 SB. -/
def execSb (c : CellId) (rs2 rs1 : Reg) (imm : BitVec 16) (s : State) : Host.Outcome State Fault Refusal :=
  s.upd (fun d => d.store c rs2 rs1 imm 1)

/-- R179 AMOADD. -/
def execAmoadd (c : CellId) (rd rs1 rs2 : Reg) (s : State) : Host.Outcome State Fault Refusal :=
  s.upd (fun d => d.amo c rd rs1 rs2 (fun old v _ => old + v))

/-- R179 AMOSWAP. -/
def execAmoswap (c : CellId) (rd rs1 rs2 : Reg) (s : State) : Host.Outcome State Fault Refusal :=
  s.upd (fun d => d.amo c rd rs1 rs2 (fun _ v _ => v))

/-- R179 AMOCAS. -/
def execAmocas (c : CellId) (rd rs1 rs2 : Reg) (s : State) : Host.Outcome State Fault Refusal :=
  s.upd (fun d => d.amo c rd rs1 rs2 (fun old v x => if old = x then v else old))

/-- R179 AMOMIN. -/
def execAmomin (c : CellId) (rd rs1 rs2 : Reg) (s : State) : Host.Outcome State Fault Refusal :=
  s.upd (fun d => d.amo c rd rs1 rs2 (fun old v _ => if BitVec.slt v old then v else old))

/-- R179 AMOMAX. -/
def execAmomax (c : CellId) (rd rs1 rs2 : Reg) (s : State) : Host.Outcome State Fault Refusal :=
  s.upd (fun d => d.amo c rd rs1 rs2 (fun old v _ => if BitVec.slt old v then v else old))

/-- R179 AMOMINU. -/
def execAmominu (c : CellId) (rd rs1 rs2 : Reg) (s : State) : Host.Outcome State Fault Refusal :=
  s.upd (fun d => d.amo c rd rs1 rs2 (fun old v _ => if BitVec.ult v old then v else old))

/-- R179 AMOMAXU. -/
def execAmomaxu (c : CellId) (rd rs1 rs2 : Reg) (s : State) : Host.Outcome State Fault Refusal :=
  s.upd (fun d => d.amo c rd rs1 rs2 (fun old v _ => if BitVec.ult old v then v else old))

/-- R179, R180 BEQ. -/
def execBeq (c : CellId) (rs1 rs2 : Reg) (off : BitVec 16) (s : State) : Host.Outcome State Fault Refusal :=
  s.upd (fun d => d.branch c rs1 rs2 off (fun a b => a == b))

/-- R179, R180 BNE. -/
def execBne (c : CellId) (rs1 rs2 : Reg) (off : BitVec 16) (s : State) : Host.Outcome State Fault Refusal :=
  s.upd (fun d => d.branch c rs1 rs2 off (fun a b => a != b))

/-- R179, R180 BLT. -/
def execBlt (c : CellId) (rs1 rs2 : Reg) (off : BitVec 16) (s : State) : Host.Outcome State Fault Refusal :=
  s.upd (fun d => d.branch c rs1 rs2 off (fun a b => BitVec.slt a b))

/-- R179, R180 BGE. -/
def execBge (c : CellId) (rs1 rs2 : Reg) (off : BitVec 16) (s : State) : Host.Outcome State Fault Refusal :=
  s.upd (fun d => d.branch c rs1 rs2 off (fun a b => !BitVec.slt a b))

/-- R179, R180 BLTU. -/
def execBltu (c : CellId) (rs1 rs2 : Reg) (off : BitVec 16) (s : State) : Host.Outcome State Fault Refusal :=
  s.upd (fun d => d.branch c rs1 rs2 off (fun a b => BitVec.ult a b))

/-- R179, R180 BGEU. -/
def execBgeu (c : CellId) (rs1 rs2 : Reg) (off : BitVec 16) (s : State) : Host.Outcome State Fault Refusal :=
  s.upd (fun d => d.branch c rs1 rs2 off (fun a b => !BitVec.ult a b))

/-- R179 JAL. -/
def execJal (c : CellId) (rd : Reg) (imm : BitVec 21) (s : State) : Host.Outcome State Fault Refusal :=
  s.upd (fun d => d.onCell c (fun g x d => d.jump g (x.setW rd.val (x.pc + 4)) (x.pc + 4 * imm.signExtend 32)))

/-- R179 JALR: the target is formed before rd is written. -/
def execJalr (c : CellId) (rd rs1 : Reg) (imm : BitVec 16) (s : State) : Host.Outcome State Fault Refusal :=
  s.upd (fun d => d.onCell c (fun g x d => d.jump g (x.setW rd.val (x.pc + 4)) (x.w rs1.val + imm.signExtend 32)))

/-- R181 FADD. -/
def execFadd (c : CellId) (rd rs1 rs2 : Reg) (s : State) : Host.Outcome State Fault Refusal :=
  s.upd (fun d => d.alu c rd (fun x => fp2 fadd (x.w rs1.val) (x.w rs2.val)))

/-- R181 FSUB. -/
def execFsub (c : CellId) (rd rs1 rs2 : Reg) (s : State) : Host.Outcome State Fault Refusal :=
  s.upd (fun d => d.alu c rd (fun x => fp2 fsub (x.w rs1.val) (x.w rs2.val)))

/-- R181 FMUL. -/
def execFmul (c : CellId) (rd rs1 rs2 : Reg) (s : State) : Host.Outcome State Fault Refusal :=
  s.upd (fun d => d.alu c rd (fun x => fp2 fmul (x.w rs1.val) (x.w rs2.val)))

/-- R181 FMIN. -/
def execFmin (c : CellId) (rd rs1 rs2 : Reg) (s : State) : Host.Outcome State Fault Refusal :=
  s.upd (fun d => d.alu c rd (fun x => fp2 (fminmax true) (x.w rs1.val) (x.w rs2.val)))

/-- R181 FMAX. -/
def execFmax (c : CellId) (rd rs1 rs2 : Reg) (s : State) : Host.Outcome State Fault Refusal :=
  s.upd (fun d => d.alu c rd (fun x => fp2 (fminmax false) (x.w rs1.val) (x.w rs2.val)))

/-- R181 FEQ. -/
def execFeq (c : CellId) (rd rs1 rs2 : Reg) (s : State) : Host.Outcome State Fault Refusal :=
  s.upd (fun d => d.alu c rd (fun x => kBool ((f32 (x.w rs1.val).toNat).eq (f32 (x.w rs2.val).toNat))))

/-- R181 FLT. -/
def execFlt (c : CellId) (rd rs1 rs2 : Reg) (s : State) : Host.Outcome State Fault Refusal :=
  s.upd (fun d => d.alu c rd (fun x => kBool ((f32 (x.w rs1.val).toNat).lt (f32 (x.w rs2.val).toNat))))

/-- R181 FLE. -/
def execFle (c : CellId) (rd rs1 rs2 : Reg) (s : State) : Host.Outcome State Fault Refusal :=
  s.upd (fun d => d.alu c rd (fun x => kBool ((f32 (x.w rs1.val).toNat).le (f32 (x.w rs2.val).toNat))))

/-- R181 FSGNJ. -/
def execFsgnj (c : CellId) (rd rs1 rs2 : Reg) (s : State) : Host.Outcome State Fault Refusal :=
  s.upd (fun d => d.alu c rd (fun x => fsgn (fun _ t => t) (x.w rs1.val) (x.w rs2.val)))

/-- R181 FSGNJN. -/
def execFsgnjn (c : CellId) (rd rs1 rs2 : Reg) (s : State) : Host.Outcome State Fault Refusal :=
  s.upd (fun d => d.alu c rd (fun x => fsgn (fun _ t => !t) (x.w rs1.val) (x.w rs2.val)))

/-- R181 FSGNJX. -/
def execFsgnjx (c : CellId) (rd rs1 rs2 : Reg) (s : State) : Host.Outcome State Fault Refusal :=
  s.upd (fun d => d.alu c rd (fun x => fsgn (fun a t => a != t) (x.w rs1.val) (x.w rs2.val)))

/-- R181, R94 FcvtSW. -/
def execFcvtSW (c : CellId) (rd rs1 : Reg) (s : State) : Host.Outcome State Fault Refusal :=
  s.upd (fun d => d.alu c rd (fun x => BitVec.ofNat 32 (toF32 (FP.ofInt (x.w rs1.val).toInt))))

/-- R181, R94 FcvtSWu. -/
def execFcvtSWu (c : CellId) (rd rs1 : Reg) (s : State) : Host.Outcome State Fault Refusal :=
  s.upd (fun d => d.alu c rd (fun x => BitVec.ofNat 32 (toF32 (FP.ofInt (x.w rs1.val).toNat))))

/-- R181, R94 FcvtWS. -/
def execFcvtWS (c : CellId) (rd rs1 : Reg) (s : State) : Host.Outcome State Fault Refusal :=
  s.upd (fun d => d.alu c rd (fun x => BitVec.ofInt 32 ((f32 (x.w rs1.val).toNat).toInt (-2147483648) 2147483647)))

/-- R181, R94 FcvtWuS. -/
def execFcvtWuS (c : CellId) (rd rs1 : Reg) (s : State) : Host.Outcome State Fault Refusal :=
  s.upd (fun d => d.alu c rd (fun x => BitVec.ofInt 32 ((f32 (x.w rs1.val).toNat).toInt 0 4294967295)))

/-- R181, R94 Fclass. -/
def execFclass (c : CellId) (rd rs1 : Reg) (s : State) : Host.Outcome State Fault Refusal :=
  s.upd (fun d => d.alu c rd (fun x => fp1 fclass (x.w rs1.val)))

/-- R179, R181 FMADD: one rounding. -/
def execFmadd (c : CellId) (rd rs1 rs2 rs3 : Reg) (s : State) : Host.Outcome State Fault Refusal :=
  s.upd (fun d => d.alu c rd (fun x => BitVec.ofNat 32 (ffma (x.w rs1.val).toNat (x.w rs2.val).toNat (x.w rs3.val).toNat)))

/-- R179, R181 FMSUB: one rounding. -/
def execFmsub (c : CellId) (rd rs1 rs2 rs3 : Reg) (s : State) : Host.Outcome State Fault Refusal :=
  s.upd (fun d => d.alu c rd (fun x => BitVec.ofNat 32 (ffma (x.w rs1.val).toNat (x.w rs2.val).toNat (fnegBits (x.w rs3.val).toNat))))

/-- R179, R181 FNMADD: one rounding. -/
def execFnmadd (c : CellId) (rd rs1 rs2 rs3 : Reg) (s : State) : Host.Outcome State Fault Refusal :=
  s.upd (fun d => d.alu c rd (fun x => BitVec.ofNat 32 (ffma (fnegBits (x.w rs1.val).toNat) (x.w rs2.val).toNat (fnegBits (x.w rs3.val).toNat))))

/-- R179, R181 FNMSUB: one rounding. -/
def execFnmsub (c : CellId) (rd rs1 rs2 rs3 : Reg) (s : State) : Host.Outcome State Fault Refusal :=
  s.upd (fun d => d.alu c rd (fun x => BitVec.ofNat 32 (ffma (fnegBits (x.w rs1.val).toNat) (x.w rs2.val).toNat (x.w rs3.val).toNat)))

/-- R182 BADD2. -/
def execBadd2 (c : CellId) (rd rs1 rs2 : Reg) (s : State) : Host.Outcome State Fault Refusal :=
  s.upd (fun d => d.alu c rd (fun x => bf2 fadd (x.w rs1.val) (x.w rs2.val)))

/-- R182 BMUL2. -/
def execBmul2 (c : CellId) (rd rs1 rs2 : Reg) (s : State) : Host.Outcome State Fault Refusal :=
  s.upd (fun d => d.alu c rd (fun x => bf2 fmul (x.w rs1.val) (x.w rs2.val)))

/-- R182 BMAX2. -/
def execBmax2 (c : CellId) (rd rs1 rs2 : Reg) (s : State) : Host.Outcome State Fault Refusal :=
  s.upd (fun d => d.alu c rd (fun x => bf2 (fminmax false) (x.w rs1.val) (x.w rs2.val)))

/-- R182 BMIN2. -/
def execBmin2 (c : CellId) (rd rs1 rs2 : Reg) (s : State) : Host.Outcome State Fault Refusal :=
  s.upd (fun d => d.alu c rd (fun x => bf2 (fminmax true) (x.w rs1.val) (x.w rs2.val)))

/-- R182 BDOT2. -/
def execBdot2 (c : CellId) (rd rs1 rs2 : Reg) (s : State) : Host.Outcome State Fault Refusal :=
  s.upd (fun d => d.alu c rd (fun x => bdot2 (x.w rd.val) (x.w rs1.val) (x.w rs2.val)))

/-- R182 BPACK. -/
def execBpack (c : CellId) (rd rs1 rs2 : Reg) (s : State) : Host.Outcome State Fault Refusal :=
  s.upd (fun d => d.alu c rd (fun x => BitVec.ofNat 32 (f32ToBf16 (x.w rs1.val).toNat + 2 ^ 16 * f32ToBf16 (x.w rs2.val).toNat)))

/-- R182 BLO. -/
def execBlo (c : CellId) (rd rs1 : Reg) (s : State) : Host.Outcome State Fault Refusal :=
  s.upd (fun d => d.alu c rd (fun x => (x.w rs1.val) <<< 16))

/-- R182 BHI. -/
def execBhi (c : CellId) (rd rs1 : Reg) (s : State) : Host.Outcome State Fault Refusal :=
  s.upd (fun d => d.alu c rd (fun x => (x.w rs1.val) &&& 0xFFFF_0000))

/-- R183 EXP2, rounded once. -/
def execExp2 (c : CellId) (rd rs1 : Reg) (s : State) : Host.Outcome State Fault Refusal :=
  s.upd (fun d => d.alu c rd (fun x => fp1 (fun v => toF32 (f32 v).exp2) (x.w rs1.val)))

/-- R183 LOG2, rounded once. -/
def execLog2 (c : CellId) (rd rs1 : Reg) (s : State) : Host.Outcome State Fault Refusal :=
  s.upd (fun d => d.alu c rd (fun x => fp1 (fun v => toF32 (f32 v).log2) (x.w rs1.val)))

/-- R183 RCP, rounded once. -/
def execRcp (c : CellId) (rd rs1 : Reg) (s : State) : Host.Outcome State Fault Refusal :=
  s.upd (fun d => d.alu c rd (fun x => fp1 (fun v => toF32 (f32 v).rcp) (x.w rs1.val)))

/-- R183 RSQRT, rounded once. -/
def execRsqrt (c : CellId) (rd rs1 : Reg) (s : State) : Host.Outcome State Fault Refusal :=
  s.upd (fun d => d.alu c rd (fun x => fp1 (fun v => toF32 (f32 v).rsqrt) (x.w rs1.val)))

/-- R183 SQRT, rounded once. -/
def execSqrt (c : CellId) (rd rs1 : Reg) (s : State) : Host.Outcome State Fault Refusal :=
  s.upd (fun d => d.alu c rd (fun x => fp1 (fun v => toF32 (f32 v).sqrt) (x.w rs1.val)))

/-- R183 TANH, rounded once. -/
def execTanh (c : CellId) (rd rs1 : Reg) (s : State) : Host.Outcome State Fault Refusal :=
  s.upd (fun d => d.alu c rd (fun x => fp1 (fun v => toF32 (f32 v).tanh) (x.w rs1.val)))

/-- R183 SIGMOID, rounded once. -/
def execSigmoid (c : CellId) (rd rs1 : Reg) (s : State) : Host.Outcome State Fault Refusal :=
  s.upd (fun d => d.alu c rd (fun x => fp1 (fun v => toF32 (f32 v).sigmoid) (x.w rs1.val)))

/-- R184, R294 HMIX. -/
def execHmix (c : CellId) (rd rs1 rs2 : Pair) (s : State) : Host.Outcome State Fault Refusal :=
  s.upd (fun d => d.onCell c (fun g x d =>
    let v := mix64 (x.pair rs1.val) (x.pair rs2.val)
    d.setCell g ((x.setW (2 * rd.val) (v.setWidth 32)).setW (2 * rd.val + 1) ((v >>> 32).setWidth 32)).advance))

/-- R184, R296 CRCW: rd over the four bytes of rs1, byte 0 first. -/
def execCrcw (c : CellId) (rd rs1 _rs2 : Reg) (s : State) : Host.Outcome State Fault Refusal :=
  s.upd (fun d => d.alu c rd (fun x => crcByte (crcByte (crcByte (crcByte (x.w rd.val) ((x.w rs1.val).setWidth 8)) (((x.w rs1.val) >>> 8).setWidth 8)) (((x.w rs1.val) >>> 16).setWidth 8)) (((x.w rs1.val) >>> 24).setWidth 8)))

/-- R184, R296 CRCB. -/
def execCrcb (c : CellId) (rd rs1 _rs2 : Reg) (s : State) : Host.Outcome State Fault Refusal :=
  s.upd (fun d => d.alu c rd (fun x => crcByte (x.w rd.val) ((x.w rs1.val).setWidth 8)))

/-- R184, R286 GEN. -/
def execGen (c : CellId) (rd rs1 rs2 : Reg) (stream : BitVec 8) (s : State) : Host.Outcome State Fault Refusal :=
  s.upd (fun d => d.alu c rd (fun x => genWord x.gkey (x.w rs1.val) stream (x.w rs2.val)))

/-! ### Special registers (R191) -/

/-- The PHASE register's word (R59). -/
def Device.phaseWord (d : Device) : Nat := d.phase + 2 ^ 16 * bitP (d.pred ≤ d.now - d.time.stepStart) + 2 ^ 17 * d.segment d.phase

/-- Cycles of a die's arithmetic clock since the plan switch (R191). -/
def Device.cycles (d : Device) (die : Nat) : Nat :=
  d.sched.cycBase.getD die 0 + (d.now - d.sched.cycAt.getD die 0) * d.fld (Reg.DIE_CLOCK die) Fd.DIE_CLOCK_MHZ / 1000

/-- R191: the logical position a cell reads in LID. -/
def Device.logicalId (d : Device) (g : Nat) : Nat :=
  match d.plan.active with
  | some pl => g / 2 ^ 18 * 2 ^ 18 + pl.logical (g / 2 ^ 18) (g / 64 % 4096) * 64 + g % 64
  | none => g

/-- R191: RDSR. -/
def execRdsr (c : CellId) (rd : Reg) (sr : Fin 12) (s : State) : Host.Outcome State Fault Refusal :=
  s.upd (fun d => d.onCell c (fun g x d =>
    let cy := d.cycles (g / 2 ^ 18)
    let v : Word := match sr.val with
      | 0 => BitVec.ofNat 32 (d.logicalId g)
      | 1 => BitVec.ofNat 32 g
      | 2 => BitVec.ofNat 32 x.tag
      | 3 => BitVec.ofNat 32 (match x.item with | some i => flowWord i.flow | none => 0)
      | 4 => BitVec.ofNat 32 d.phaseWord
      | 5 => BitVec.ofNat 32 d.stepNum
      | 6 => BitVec.ofNat 32 cy
      | 7 => x.cycleHi.getD (BitVec.ofNat 32 (cy / 2 ^ 32))
      | 8 => x.gkey.setWidth 32
      | 9 => (x.gkey >>> 32).setWidth 32
      | 10 => BitVec.ofNat 32 x.exc
      | _ => BitVec.ofNat 32 (((d.findTask x.tag).map (fun e => e.2.shownState)).getD 0)
    let hi := if sr.val = 6 then some (BitVec.ofNat 32 (cy / 2 ^ 32)) else if sr.val = 7 then none else x.cycleHi
    d.setCell g ({ x with cycleHi := hi }.setW rd.val v).advance))

/-- R191: WRSR of GKEY_LO or GKEY_HI, the registers a program may write. -/
def execWrsr (c : CellId) (rs1 : Reg) (hi : Bool) (s : State) : Host.Outcome State Fault Refusal :=
  s.upd (fun d => d.onCell c (fun g x d =>
    let v := x.w rs1.val
    d.setCell g { x with gkey := if hi then (v ++ x.gkey.setWidth 32 : BitVec 64) else ((x.gkey >>> 32).setWidth 32 ++ v : BitVec 64) }.advance))

/-! ### Streams, buffers, Lifts (R185, R186, R189) -/

/-- R185: SARM arms a context of the cluster's port with the tag in rs1 and the parameters at rs2. -/
def execSarm (c : CellId) (rd rs1 rs2 : Reg) (ctx : Fin 4) (s : State) : Host.Outcome State Fault Refusal :=
  s.upd (fun d => d.onCell c (fun g x d =>
    let a := (x.w rs2.val).toNat
    if 0x400 < a + 32 then d.cellException g 0x0510 0
    else if a % 32 != 0 then d.cellException g 0x0511 0
    else
      let st := gsid (g / 2 ^ 18) (4 * (g / 64 % 4096) + ctx.val)
      let tag := (x.w rs1.val).toNat
      match d.armCheck st tag with
      | some e => (d.refuse e (g / 2 ^ 18)).setCell g (x.setW rd.val (BitVec.ofNat 32 e)).advance
      | none =>
        (d.arm st tag ((List.range 8).map (fun i => BitVec.ofNat 32 (ofLe (x.load (a + 4 * i) 4))))).setCell g (x.setW rd.val 0).advance))

/-- R185, R189: SWAIT. -/
def execSwait (c : CellId) (rd : Reg) (ctx : Fin 4) (s : State) : Host.Outcome State Fault Refusal :=
  s.upd (fun d => d.onCell c (fun g x d =>
    let st := gsid (g / 2 ^ 18) (4 * (g / 64 % 4096) + ctx.val)
    match d.streamRec st with
    | none => d.cellException g 0x0515 0
    | some _ =>
      if (d.stream st).state = .done || d.taskGone x.tag then d.setCell g (x.setW rd.val (BitVec.ofNat 32 (d.stream st).statusLow)).advance
      else d.setCell g { x with blocked := some (.swait rd.val st) }))

/-- R186: the check of a handle-record address: within the private store, a multiple of 16. -/
def recordAddr (a : Nat) : Option Nat := if 0x400 < a + 16 then some 0x0510 else if a % 16 != 0 then some 0x0511 else none

/-- R186: the handle record at rs1, if it is a valid handle of a pool of the active plan. -/
def Device.recordHandle (d : Device) (x : Cell) (a : Nat) : Option (Handle × PoolRec) :=
  let bs := x.load a 16
  let rsv := bitsOf (leAt bs 0 8) 57 7 + bitsOf (leAt bs 8 4) 26 6 + bitsOf (leAt bs 12 2) 10 6 + leAt bs 14 2
  let h := handleOf bs
  if rsv != 0 then none
  else match d.plan.active.bind (fun pl => pl.poolOfBuffer h.pool h.addr) with
    | some (_, r) => some (h, r)
    | none => none

/-- R186: BALLOC. -/
def execBalloc (c : CellId) (rs1 rs2 : Reg) (s : State) : Host.Outcome State Fault Refusal :=
  s.upd (fun d => d.onCell c (fun g x d =>
    let a := (x.w rs1.val).toNat
    let pool := (x.w rs2.val).toNat
    match recordAddr a with
    | some e => d.cellException g e 0
    | none =>
      match d.plan.active.bind (fun pl => pl.poolRec (g / 2 ^ 18) pool) with
      | none => d.cellException g 0x0515 0
      | some _ => d.balloc g a (1024 * (g / 2 ^ 18) + pool)))

/-- A buffer of the item in service that its cell releases or passes on is no longer the item's to return (R218). -/
def Cell.spend (x : Cell) (h : Handle) : Cell :=
  { x with item := x.item.map (fun i => if i.operands.any (fun o => o.addr = h.addr) then { i with spent := addNew i.spent h.addr } else i) }

/-- R186: BREL. -/
def execBrel (c : CellId) (rs1 : Reg) (s : State) : Host.Outcome State Fault Refusal :=
  s.upd (fun d => d.onCell c (fun g x d =>
    let a := (x.w rs1.val).toNat
    match recordAddr a with
    | some e => d.cellException g e 0
    | none => match d.recordHandle x a with
      | none => d.cellException g 0x0514 0
      | some (h, _) => (d.setCell g (x.spend h).advance).releaseHandle (g / 4096) h))

/-- The Lift a cell may push on: defined by the plan on some die, with the cell's cluster among its producers. -/
def Device.cellLift (d : Device) (g lift : Nat) : Option Nat :=
  match d.plan.active with
  | none => none
  | some pl =>
    pl.producerLift { cluster := true, die := g / 2 ^ 18, num := pl.logical (g / 2 ^ 18) (g / 64 % 4096) } lift

/-- R186, R189, R216: LPUSH pushes the handle record at rs1 with the tag in TAG; it blocks while the Lift is full. -/
def execLpush (c : CellId) (rs1 rs2 : Reg) (s : State) : Host.Outcome State Fault Refusal :=
  s.upd (fun d => d.onCell c (fun g x d =>
    let a := (x.w rs1.val).toNat
    match recordAddr a with
    | some e => d.cellException g e 0
    | none => match d.cellLift g (x.w rs2.val).toNat with
      | none => d.cellException g 0x0515 0
      | some lk => match d.recordHandle x a with
        | none => d.cellException g 0x0514 0
        | some (h, r) =>
          if h.len = 0 || decide (r.size < h.len) then d.cellException g 0x0514 0
          else if x.tag = 0 then d.cellException g 0x0516 0
          else if d.taskGone x.tag then (d.setCell g (x.spend h).advance).releaseHandle (g / 4096) h
          else
            let full := decide (256 ≤ d.liftLoad lk) || d.str.pushWait.any (fun w => w.1 = lk)
            let d := d.updStr (fun u => { u with owner := if (u.owner.get? h.addr).isSome then u.owner.put h.addr x.tag else u.owner })
            (d.setCell g (if full then { x.spend h with blocked := some (.lpush lk) } else (x.spend h).advance)).push lk { h := h, tag := x.tag, src := .cell g }))

/-- R186: HLOC. -/
def execHloc (c : CellId) (rd rs1 : Reg) (s : State) : Host.Outcome State Fault Refusal :=
  s.upd (fun d => d.onCell c (fun g x d =>
    let a := (x.w rs1.val).toNat
    match recordAddr a with
    | some e => d.cellException g e 0
    | none => match d.recordHandle x a with
      | none => d.cellException g 0x0514 0
      | some (h, r) =>
        let base := clusterByte g 0
        if h.addr < base || decide (base + 0x2_0000 < h.addr + r.size) then d.cellException g 0x0513 0
        else d.setCell g (x.setW rd.val (BitVec.ofNat 32 (h.addr - base + 0x1_0000))).advance))

/-! ### Sync (R187, R224) -/

/-- The end of a sync instruction with its status; a refusal is recorded in SCHED_LAST_ERROR. -/
def Device.syncStatus (d : Device) (g : Nat) (x : Cell) (rd : Reg) (code : Nat) : Device :=
  let d := if code = 0 then d else d.refuse code (g / 2 ^ 18)
  d.setCell g (x.setW rd.val (BitVec.ofNat 32 code)).advance

/-- R187, R224, R225, R452: SSIG. -/
def execSsig (c : CellId) (rd rs1 rs2 : Reg) (s : State) : Host.Outcome State Fault Refusal :=
  s.upd (fun d => d.onCell c (fun g x d =>
    let id := (x.w rs1.val).toNat
    let amount := (x.w rs2.val).toNat
    match d.syncCheck id true with
    | some e => d.syncStatus g x rd e
    | none =>
      let m := bitsOf id 19 5
      if !bitAt id 18 || m = d.memberId then
        (d.addSyncOp { obj := syncObj id, kind := 2, source := g, amount := amount }).syncStatus g x rd 0
      else if !d.hasRoute m then d.syncStatus g x rd 0x0613
      else (d.sendLink m 0x03 (u32 (syncObj id) ++ u32 amount) [] (g / 2 ^ 18)).syncStatus g x rd 0))

/-- R187, R221, R224: SWGE; a threshold already met ends at once. -/
def execSwge (c : CellId) (rd rs1 rs2 : Reg) (s : State) : Host.Outcome State Fault Refusal :=
  s.upd (fun d => d.onCell c (fun g x d =>
    let id := (x.w rs1.val).toNat
    let t := (x.w rs2.val).toNat
    match d.syncCheck id false with
    | some e => d.syncStatus g x rd e
    | none =>
      if t ≤ d.syncVal (syncObj id) then d.syncStatus g x rd 0
      else d.setCell g { x with blocked := some (.swge rd.val (syncObj id) t) }))

/-- R187, R224: SRST. -/
def execSrst (c : CellId) (rd rs1 : Reg) (s : State) : Host.Outcome State Fault Refusal :=
  s.upd (fun d => d.onCell c (fun g x d =>
    let id := (x.w rs1.val).toNat
    match d.syncCheck id false with
    | some e => d.syncStatus g x rd e
    | none => (d.addSyncOp { obj := syncObj id, kind := 0, source := g, amount := 0 }).syncStatus g x rd 0))

/-! ### Work and tasks (R188) -/

/-- The largest ARITY among the classes of the cell's Gate; 1 where it has none (R213). -/
def Device.maxArity (d : Device) (k : Nat) : Nat := max 1 ((d.gateClasses k).foldl (fun n c => max n c.arity) 0)

/-- R188, R213: ASK checks its address, completes the item in service and blocks until the Gate gives an item. -/
def execAsk (c : CellId) (rd rs1 : Reg) (s : State) : Host.Outcome State Fault Refusal :=
  s.upd (fun d => d.onCell c (fun g x d =>
    let a := (x.w rs1.val).toNat
    if a % 32 != 0 then d.cellException g 0x0511 0
    else if 0x400 < a + 16 * (d.maxArity (g / 64) + 1) then d.cellException g 0x0510 0
    else
      let d := d.completeItem g
      d.setCell g { d.cell g with blocked := some (.ask rd.val a) }))

/-- R188: TNEW. -/
def execTnew (c : CellId) (rd rs1 : Reg) (s : State) : Host.Outcome State Fault Refusal :=
  s.upd (fun d => d.onCell c (fun g x d =>
    let stage := (x.w rs1.val).toNat
    let die := g / 2 ^ 18
    if 63 < stage || (d.plan.active.bind (fun pl => pl.stage die stage)).isNone then d.cellException g 0x051B 0
    else match d.allocTag die stage with
      | some (tag, d) => d.setCell g ({ x with tag := tag }.setW rd.val (BitVec.ofNat 32 tag)).advance
      | none => (d.setCell g { x with blocked := some .tnew }).updStr (fun u => { u with allocWait := u.allocWait ++ [.cell g rd.val stage] })))

/-- R188, R194: TRAP aborts the task in TAG and takes the exception; the record carries the low 16 bits of rs1. -/
def execTrap (c : CellId) (rs1 : Reg) (s : State) : Host.Outcome State Fault Refusal :=
  s.upd (fun d => d.onCell c (fun g x d => d.cellException g 0x0517 ((x.w rs1.val).toNat % 2 ^ 16)))

/-- R188: HALT completes the item in service and stops the cell until the next plan switch. -/
def execHalt (c : CellId) (s : State) : Host.Outcome State Fault Refusal :=
  s.upd (fun d => d.onCell c (fun g _ d =>
    let d := d.completeItem g
    d.setCell g { d.cell g with state := .halted }))

end Sys2Proof.Machine
end

