-- ==== Sys2Proof/Machine/Pack.lean ====
section
/-!
DEFINITION. The Pack station: records, admission, batches, stragglers, packing, emission, flushes (chapter 9: R265 to R293).
-/

namespace Sys2Proof.Machine

/-! ### Configuration (R265, R266) -/

structure PackCfg where
  inLift : Nat
  storeRegion : Nat
  slotRegion : Nat
  mode : Nat
  elem : Nat
  rowLen : Nat
  rowsMax : Nat
  slots : Nat
  steps : Nat
  budget : Nat
  maxSamples : Nat
  maxAge : Nat
  deriving DecidableEq, Repr

def packCfg (b : List Byte) : PackCfg :=
  { inLift := leAt b 0 2, storeRegion := leAt b 2 2, slotRegion := leAt b 4 2, mode := leAt b 6 1, elem := leAt b 7 1
    rowLen := leAt b 8 4, rowsMax := leAt b 12 2, slots := leAt b 14 1, steps := (if leAt b 15 1 = 0 then 4 else leAt b 15 1)
    budget := leAt b 16 2, maxSamples := leAt b 18 2 + 1, maxAge := leAt b 20 4 }

def ceil64 (x : Nat) : Nat := alignUp x 64

/-- Bytes of a token plane, without its padding. -/
def PackCfg.tokenBytes (c : PackCfg) : Nat := c.rowLen * elemBits c.elem / 8
/-- R266: RB, ROWS_BASE and SLOT_BYTES. -/
def PackCfg.rb (c : PackCfg) : Nat := ceil64 c.tokenBytes + ceil64 (2 * c.rowLen) + ceil64 (4 * c.rowLen)
def PackCfg.rowsBase (c : PackCfg) : Nat := ceil64 (64 + 32 * c.maxSamples)
def PackCfg.slotBytes (c : PackCfg) : Nat := 4096 * ceilDiv (c.rowsBase + c.rowsMax * c.rb) 4096

/-! ### Instances -/

def packKey (die k : Nat) : Nat := stKey die 6 k
def Device.packInst (d : Device) (die k : Nat) : PackInst := d.pack.getD (packKey die k) PackInst.empty
def Device.setPack (d : Device) (die k : Nat) (p : PackInst) : Device := { d with pack := d.pack.put (packKey die k) p }

/-- Global stream ID of channel 1. -/
def packStream (die k : Nat) : Nat := gsid die (stationStream 6 k 1)

def PackRecord.space (r : PackRecord) : Nat := match r with | .sample x => x.space | .manifest _ _ n => n

/-- Bytes of the sample store reserved (R270). -/
def PackInst.used (p : PackInst) : Nat :=
  p.staged.foldl (fun n r => n + r.2.space) 0 + p.openB.foldl (fun n b => n + b.space + b.samples.foldl (fun m x => m + x.space) 0) 0
    + (p.late ++ p.carried).foldl (fun n x => n + x.space) 0 + p.closed.foldl (fun n b => n + b.space) 0

/-- The size of a region of the active plan. -/
def Device.regionSize (d : Device) (die id : Nat) : Nat := ((d.plan.active.bind (fun pl => pl.region die id)).map (·.size)).getD 0
def Device.regionBase (d : Device) (die id : Nat) : Nat := ((d.plan.active.bind (fun pl => pl.region die id)).map (·.base)).getD 0

def packLoc (die k : Nat) : Loc := { kind := 3, die := die, index := k, sub := 6 }

/-- A NOTICE record of a sample: ARG1 its BATCH_ID, ARG0 its ID (R273, R277; log 23). -/
def Device.packNotice (d : Device) (die k id batch : Nat) : Device :=
  d.record { severity := 1, loc := packLoc die k, arg0 := id, arg1 := batch }

/-- R277: a dropped sample. -/
def Device.packDrop (d : Device) (die k id batch : Nat) : Device := (d.count (Reg.PACK_DROPPED die k) 64 1).packNotice die k id batch
/-- R272, R273: a discarded record. -/
def Device.packDiscard (d : Device) (die k id batch : Nat) : Device := (d.count (Reg.PACK_DISCARDED die k) 64 1).packNotice die k id batch

/-! ### Ages (R285) -/

/-- The age of a live sample fails at a moment of calendar time. -/
def Device.ageFails (d : Device) (c : PackCfg) (x : PackSample) : Bool :=
  x.live && (c.maxAge = 0 || !d.calValid || decide (c.maxAge * 1000 < d.calNow - x.capture))

/-! ### Closing a batch (R274 to R282) -/

/-- A placed sample: row, first position, segment, LATE. -/
structure Placed where
  x : PackSample
  row : Nat
  start : Nat
  seg : Nat
  late : Bool
  deriving DecidableEq, Repr

/-- Rows filled so far: positions and segments of each. -/
abbrev Rows := List (Nat × Nat)

/-- R278: the lowest row with room for a sample. -/
def roomRow (rowLen len : Nat) (rows : Rows) : Option Nat :=
  (rows.zipIdx.find? (fun r => decide (r.1.1 + len ≤ rowLen) && decide (r.1.2 < 65535))).map (·.2)

/-- R278, R282: samples in arrival order, each with its LATE flag, placed or carried; at most `lateMax` LATE entries, and in WINDOW mode at
most M entries, for the index has no more (DEDUCED, log 99). -/
def placeAll (c : PackCfg) (lateMax : Nat) (xs : List (PackSample × Bool)) : List Placed × List (PackSample × Bool) × Rows :=
  xs.foldl (fun (acc : List Placed × List (PackSample × Bool) × Rows) x =>
    let nLate := (acc.1.filter (·.late)).length
    match (if x.2 && decide (lateMax ≤ nLate) || c.mode != 0 && decide (c.maxSamples ≤ acc.1.length) then none else roomRow c.rowLen x.1.len acc.2.2) with
    | none => (acc.1, acc.2.1 ++ [x], acc.2.2)
    | some r =>
      let f := acc.2.2.getD r (0, 0)
      (acc.1 ++ [{ x := x.1, row := r, start := f.1, seg := f.2, late := x.2 }], acc.2.1, setNth acc.2.2 r (f.1 + x.1.len, f.2 + 1)))
    ([], [], List.replicate c.rowsMax (0, 0))

/-- R280: the planes of row `r`. -/
def rowBytes (c : PackCfg) (placed : List Placed) (r : Nat) : List Byte :=
  let mine := placed.filter (fun p => p.row = r)
  let at_ (p : Nat) := mine.find? (fun x => decide (x.start ≤ p) && decide (p < x.start + x.x.len))
  let cells := (List.range c.rowLen).map (fun p => match at_ p with
    | some x => (rowElem c.elem x.x.data (p - x.start), x.seg, p - x.start)
    | none => (0, 0xFFFF, 0))
  let tok := packRow c.elem (cells.map (·.1))
  let seg := cells.flatMap (fun x => u16 x.2.1)
  let pos := cells.flatMap (fun x => u32 x.2.2)
  tok ++ zeros (ceil64 c.tokenBytes - tok.length) ++ seg ++ zeros (ceil64 seg.length - seg.length) ++ pos ++ zeros (ceil64 pos.length - pos.length)

/-- R282: an index entry. -/
def indexEntry (id origin row seg start len flags capture : Nat) : List Byte :=
  u32 id ++ u32 origin ++ u16 row ++ u16 seg ++ u32 start ++ u32 len ++ u32 flags ++ u64 capture

def placedEntry (batch : Nat) (p : Placed) : List Byte :=
  indexEntry p.x.id (if p.late then p.x.origin else batch) p.row p.seg p.start p.x.len (bit p.late + 2 * bit p.x.live) p.x.capture

/-- R275: a sample enters the straggler table with its batch, or is dropped when the table is full. -/
def Device.addStraggler (d : Device) (die k id batch : Nat) : Device :=
  let p := d.packInst die k
  if 4096 ≤ p.stragglers.length then d.packDrop die k id batch
  else d.setPack die k { p with stragglers := p.stragglers ++ [{ id := id, batch := batch, step := d.stepNum, marks := 0, held := false }] }

/-- The table entry of a carried sample. -/
def Straggler.holds (s : Straggler) (x : PackSample) : Bool := s.held && s.id = x.id && s.batch = x.origin

/-- R275, R279: a carried sample takes a place in the table, if it has none yet, and is held as LATE; it counts for the batch that listed
it (log 99). -/
def Device.holdCarried (d : Device) (die k : Nat) (x : PackSample) : Device :=
  let p := d.packInst die k
  if p.stragglers.any (·.holds x) then d.setPack die k { p with late := p.late ++ [x] }
  else if 4096 ≤ p.stragglers.length then d.packDrop die k x.id x.origin
  else d.setPack die k { p with
    late := p.late ++ [x], stragglers := p.stragglers ++ [{ id := x.id, batch := x.origin, step := d.stepNum, marks := x.marks, held := true }] }

/-- A batch closes with a CAUSE: stale samples removed, the rest placed, the slot's bytes formed, stragglers and carried samples
kept (R274 to R282). -/
def Device.closeBatch (d : Device) (die k : Nat) (c : PackCfg) (b : PackBatch) (cause : Nat) : Device :=
  let p := d.packInst die k
  let all := sortBy (fun x => x.1.adm) (b.samples.map (fun x => (x, false)) ++ p.late.map (fun x => (x, true)))
  let stale := all.filter (fun x => d.ageFails c x.1)
  let fresh := all.filter (fun x => !d.ageFails c x.1)
  let got := b.samples.map (·.id)
  let missingIds := b.listed.filter (fun i => i ∉ got)
  let own := (fresh.filter (fun x => !x.2)).length
  let lateMax := if c.mode = 0 then c.maxSamples - (own + missingIds.length) else c.maxSamples
  let (placed, carried, rows) := placeAll c lateMax fresh
  let carriedOwn := (carried.filter (fun x => !x.2)).map (·.1)
  let missing := if c.mode = 0 then
      b.listed.filterMap (fun i =>
        match carriedOwn.find? (fun x => x.id = i) with
        | some x => some (indexEntry i b.id 0xFFFF 0xFFFF 0 0 (12 + 2 * bit x.live) x.capture)
        | none => if i ∈ missingIds then some (indexEntry i b.id 0xFFFF 0xFFFF 0 0 4 0) else none)
    else []
  let nLate := (placed.filter (·.late)).length
  let used := (rows.filter (fun r => decide (0 < r.2))).length
  let n := placed.length + missing.length
  let header := u32 b.id ++ u32 n ++ u32 placed.length ++ u32 nLate ++ u32 missing.length ++ u32 used ++ u32 c.rowLen ++ u8 cause ++ u8 c.elem ++ u16 0
    ++ u32 d.stepNum ++ u16 b.openPu ++ u16 d.phase ++ u32 stale.length ++ u32 carried.length ++ u64 d.calNow ++ zeros 8
  let index := placed.flatMap (placedEntry b.id) ++ missing.flatten
  let front := header ++ index
  let bytes := front ++ zeros (c.rowsBase - front.length) ++ (List.range c.rowsMax).flatMap (rowBytes c placed)
  let pad := (rows.filter (fun r => decide (0 < r.2))).foldl (fun m r => m + (c.rowLen - r.1)) 0
  let cb : ClosedBatch := { bytes := bytes, samples := n, rows := used, late := decide (0 < nLate)
                            space := b.space + placed.foldl (fun m x => m + x.x.space) 0 }
  let carriedLate := (carried.filter (·.2)).map (·.1)
  let p := { p with openB := p.openB.filter (fun y => y.id != b.id), closed := p.closed ++ [cb], late := []
                    stragglers := p.stragglers.filter (fun s => !s.held || carriedLate.any s.holds)
                    carried := if c.mode = 0 then p.carried else p.carried ++ carriedOwn }
  let d := d.setPack die k p
  let d := ((((d.count (Reg.PACK_BATCHES die k) 64 1).count (Reg.PACK_LATE die k) 64 nLate).count (Reg.PACK_STALE die k) 64 stale.length).count
    (Reg.PACK_OVERFLOW die k) 64 carried.length).count (Reg.PACK_PAD_POSITIONS die k) 64 pad
  if c.mode = 0 then
    let d := (carriedLate ++ carriedOwn.map (fun (x : PackSample) => { x with origin := b.id, marks := 0 })).foldl (fun d x => d.holdCarried die k x) d
    missingIds.foldl (fun d i => d.addStraggler die k i b.id) d
  else d

/-- R274: the close point of a batch in the step it opened. -/
def PackBatch.closePoint (b : PackBatch) (c : PackCfg) : Nat := min 65535 (b.openPu + c.budget)

/-- The CAUSE of a close that an event of a CAUSE brings now: that of the batch's own close point or of what filled it, where one falls in the
same cycle and has the lower number, and what filled it in an earlier cycle (R274). -/
def Device.closeCause (d : Device) (c : PackCfg) (b : PackBatch) (cause : Nat) : Nat :=
  let cause := if b.openStep = d.stepNum && decide (b.closePoint c ≤ d.phase) then min 1 cause else cause
  match b.full with
  | some (t, x) => if t < d.now then x else min x cause
  | none => cause

/-- A batch that has all it waits for: COMPLETE in MANIFEST mode, FULL in WINDOW mode, MARK where one falls now (R274). -/
def Device.readyCause (d : Device) (c : PackCfg) (b : PackBatch) : Option Nat :=
  if c.mode = 0 then (if b.listed.all (fun i => i ∈ b.samples.map (·.id)) then some 0 else none)
  else if c.rowsMax * c.rowLen ≤ b.samples.foldl (fun n x => n + x.len) 0 || c.maxSamples ≤ b.samples.length then
    some (d.closeCause c { b with full := none } (if d.time.pending.any (fun m => decide (m.time + 54 ≤ d.now)) then 2 else 3))
  else none

/-- R274: the batches of an instance that have all they wait for close, in the order in which they opened: those of earlier cycles, or at the
end of a cycle all of them. -/
def Device.packSettle (d : Device) (die k : Nat) (c : PackCfg) (ended : Bool) : Device :=
  (d.packInst die k).openB.foldl (fun d b => match b.full with
    | some (t, x) => if ended || decide (t < d.now) then d.closeBatch die k c b x else d
    | none => d) d

/-- The batches of an instance that have all they wait for are noted: what else this cycle admits joins them before they close (R274). -/
def Device.packNote (d : Device) (die k : Nat) (c : PackCfg) : Device :=
  let p := d.packInst die k
  d.setPack die k { p with openB := p.openB.map (fun b => if b.full.isSome then b else { b with full := (d.readyCause c b).map (fun x => (d.now, x)) }) }

/-! ### Admission (R271 to R273) -/

/-- R272: why a manifest is refused. -/
def PackInst.manifestBad (p : PackInst) (batch : Nat) (ids : List Nat) : Bool :=
  4 ≤ p.openB.length || p.openB.any (fun b => b.id = batch) || decide (ids.eraseDups.length < ids.length)
    || ids.any (fun i => p.openB.any (fun b => i ∈ b.listed) || p.stragglers.any (fun x => x.id = i))

/-- The open window, opened for a sample where there is none, with the carried samples at its head (R273, R279). -/
def Device.window (d : Device) (die k : Nat) : PackBatch × Device :=
  let p := d.packInst die k
  match p.openB with
  | b :: _ => (b, d)
  | [] =>
    let b : PackBatch := { id := p.nextId, listed := [], samples := p.carried, openStep := d.stepNum, openPu := d.phase, space := 0 }
    (b, d.setPack die k { p with openB := [b], carried := [], nextId := (p.nextId + 1) % (2 ^ 32 - 1) })

/-- R273: the window, or the samples carried to the head of the next, has admitted an ID already. -/
def PackInst.inWindow (p : PackInst) (id : Nat) : Bool := (p.openB.flatMap (·.samples) ++ p.carried).any (fun x => x.id = id)

/-- Changes an open batch. -/
def Device.updBatch (d : Device) (die k id : Nat) (f : PackBatch → PackBatch) : Device :=
  let p := d.packInst die k
  d.setPack die k { p with openB := p.openB.map (fun b => if b.id = id then f b else b) }

/-- R285, R273: a sample is admitted: stale, matched against a batch, the straggler table or the window, or discarded. -/
def Device.admitSample (d : Device) (die k : Nat) (c : PackCfg) (x : PackSample) : Device :=
  let p := d.packInst die k
  let x := { x with adm := p.nextAdm }
  let d := (d.setPack die k { p with nextAdm := p.nextAdm + 1 }).count (Reg.PACK_ADMITTED die k) 64 1
  let p := d.packInst die k
  let batch := if c.mode = 0 then p.openB.find? (fun b => x.id ∈ b.listed && x.id ∉ b.samples.map (·.id)) else none
  let strag := p.stragglers.find? (fun s => s.id = x.id && !s.held)
  let unlist (d : Device) := d.setPack die k { p with stragglers := p.stragglers.filter (fun s => s.id != x.id || s.held) }
  if d.ageFails c x then
    let d := d.count (Reg.PACK_STALE die k) 64 1
    match batch with
    | some b => (d.updBatch die k b.id (fun b => { b with listed := b.listed.filter (· != x.id) }))
    | none => if strag.isSome then unlist d else d
  else match batch with
    | some b => (d.updBatch die k b.id (fun b => { b with samples := b.samples ++ [{ x with origin := b.id }] }))
    | none => match strag with
      | some s =>
        let d := unlist d
        let p := d.packInst die k
        d.setPack die k { p with late := p.late ++ [{ x with origin := s.batch, marks := s.marks }] }
      | none =>
        if c.mode = 0 || p.inWindow x.id then d.packDiscard die k x.id 0
        else
          let (b, d) := d.window die k
          (d.updBatch die k b.id (fun b => { b with samples := b.samples ++ [{ x with origin := b.id }] }))

/-- R272: a manifest is admitted: it opens a batch, or is discarded. -/
def Device.admitManifest (d : Device) (die k : Nat) (batch : Nat) (ids : List Nat) (space : Nat) : Device :=
  let p := d.packInst die k
  if p.manifestBad batch ids then d.packDiscard die k 0 batch
  else d.setPack die k { p with openB := p.openB ++ [{ id := batch, listed := ids, samples := [], openStep := d.stepNum, openPu := d.phase, space := space }] }

/-- The active configuration of an instance. -/
def Device.packConfig (d : Device) (die k : Nat) : Option PackCfg := (d.stationCfg die 6 k).map packCfg

/-- The instance is in the fault map, or removed from it and not named by a plan since (R550, R553), or halted by the TAP (R595). -/
def Device.packOff (d : Device) (die k : Nat) : Bool :=
  d.tapStopped die 6 k ||
  d.fault.fmap.any (fun e => e.2.coversStation die 6 k) || d.fault.idleUnits.any (fun e => e.coversStation die 6 k)

/-- R271, R274: the records of a committed task enter the stores of every instance, in the order in which they were parsed; a batch that has
all it waits for closes at the end of the cycle, so that another commit of the same moment is taken before it (log 99). -/
def Device.packCommit (d : Device) (tag : Nat) : Device :=
  (List.range 16).foldl (fun d i =>
    let die := i / 4
    let k := i % 4
    let p := d.packInst die k
    let mine := p.staged.filter (fun r => r.1 = tag)
    if mine.isEmpty then d
    else match d.packConfig die k with
      | none => d
      | some c =>
        let d := d.setPack die k { p with staged := p.staged.filter (fun r => r.1 != tag) }
        if d.packOff die k then d
        else (mine.foldl (fun d r => match r.2 with
          | .sample x => d.admitSample die k c x
          | .manifest b ids n => d.admitManifest die k b ids n) (d.packSettle die k c false)).packNote die k c) d

/-- The end of a cycle: the batches that have all they wait for close (R274). -/
def Device.packTick (d : Device) : Device :=
  d.pack.foldl (fun d e =>
    let die := e.1 / 1024
    let k := e.1 % 64
    if e.2.openB.all (fun b => b.full.isNone) then d
    else match d.packConfig die k with | some c => d.packSettle die k c true | none => d) d

/-- R270: an abort releases the task's reservations on a die. -/
def Device.packAbort (d : Device) (die tag : Nat) : Device :=
  (List.range 4).foldl (fun d k =>
    let p := d.packInst die k
    if p.staged.any (fun r => r.1 = tag) then d.setPack die k { p with staged := p.staged.filter (fun r => r.1 != tag) } else d) d

/-! ### Marks, flushes, plan switches (R274, R277, R288, R289) -/

/-- A mark counts for every straggler and LATE sample (R277). -/
def PackInst.countMark (p : PackInst) : PackInst :=
  { p with stragglers := p.stragglers.map (fun s => { s with marks := s.marks + 1 }), late := p.late.map (fun x => { x with marks := x.marks + 1 }) }

/-- The samples due at a mark leave the straggler table and the LATE samples (R277). -/
def Device.packAge (d : Device) (die k : Nat) (c : PackCfg) : Device :=
  let p := d.packInst die k
  let gone := (p.stragglers.filter (fun s => !s.held && decide (c.steps ≤ s.marks))).map (fun s => (s.id, s.batch))
    ++ (p.late.filter (fun x => decide (c.steps ≤ x.marks))).map (fun x => (x.id, x.origin))
  gone.foldl (fun d x => d.packDrop die k x.1 x.2)
    (d.setPack die k { p with stragglers := p.stragglers.filter (fun s => decide (s.marks < c.steps))
                              late := p.late.filter (fun x => decide (x.marks < c.steps)) })

/-- An accepted mark: the open batches close with CAUSE MARK, then stragglers and LATE samples that have waited their steps are dropped; a
closing batch's own stragglers begin their count with the next mark. -/
def Device.packMark (d : Device) : Device :=
  (List.range 16).foldl (fun d i =>
    let die := i / 4
    let k := i % 4
    match d.packConfig die k with
    | none => d
    | some c =>
      if d.packOff die k then d
      else
        let p := d.packInst die k
        (p.openB.foldl (fun d b => d.closeBatch die k c b (d.closeCause c b 2)) (d.setPack die k p.countMark)).packAge die k c) d

/-- R288: an instance closes every open batch, or the LATE samples it holds. -/
def Device.packFlushInst (d : Device) (die k : Nat) (c : PackCfg) : Device :=
  let p := d.packInst die k
  if d.packOff die k then d
  else if p.openB.isEmpty && !p.late.isEmpty then
    d.closeBatch die k c { id := 0xFFFF_FFFF, listed := [], samples := [], openStep := d.stepNum, openPu := d.phase, space := 0 } 4
  else p.openB.foldl (fun d b => d.closeBatch die k c b (d.closeCause c b 4)) d

/-- R289: at a plan switch the instances of the outgoing plan flush, drop their stragglers and discard their stores. -/
def Device.packSwitch (d : Device) : Device :=
  (List.range 16).foldl (fun d i =>
    let die := i / 4
    let k := i % 4
    match d.packConfig die k with
    | none => d
    | some c =>
      let d := d.packFlushInst die k c
      let p := d.packInst die k
      let d := ((p.stragglers.filter (fun s => !s.held)).map (fun s => (s.id, s.batch)) ++ p.late.map (fun x => (x.id, x.origin))).foldl (fun d x => d.packDrop die k x.1 x.2) d
      let p := d.packInst die k
      let d := d.count (Reg.PACK_DISCARDED die k) 64 p.carried.length
      d.setPack die k { p with stragglers := [], late := [], carried := [] }) d

/-! ### Parsing (R269, R270) -/

/-- The parse of one record at the front of `b`: the record and the bytes it takes, or the code of the abort. -/
def parseRecord (c : PackCfg) (p : PackInst) (b : List Byte) : (PackRecord × Nat) ⊕ Nat :=
  let kind := leAt b 0 1
  let flags := leAt b 2 1
  let len := leAt b 8 4
  let data := if kind = 1 then ceilDiv (len * elemBits c.elem) 8 else 4 * len
  let size := 64 + ceil64 data
  if b.length < 64 || (kind != 1 && kind != 2) || leAt b 3 1 != 0 || leAt b 0x0C 4 != 0 || leAt b 0x18 40 != 0
      || (kind = 1 && (leAt b 1 1 != c.elem || bitsOf flags 1 7 != 0)) then .inr 0x0811
  else if b.length < size then .inr 0x0811
  else if kind = 1 then
    if len = 0 || c.rowLen < len then .inr 0x0812
    else .inl (.sample { id := leAt b 4 4, live := bitAt flags 0, len := len, capture := leAt b 0x10 8, data := (b.drop 64).take data, space := size
                         adm := 0, origin := 0, marks := 0 }, size)
  else if leAt b 4 4 = 0xFFFF_FFFF then .inr 0x0811
  else if len = 0 || c.maxSamples < len then .inr 0x0812
  else
    let ids := (List.range len).map (fun i => leAt b (64 + 4 * i) 4)
    if c.mode = 1 || p.manifestBad (leAt b 4 4) ids then .inr 0x0813
    else .inl (.manifest (leAt b 4 4) ids size, size)

/-- The records of a handle, up to its LENGTH, or the code of the first bad one. -/
def parseRecords (c : PackCfg) (p : PackInst) : (fuel : Nat) → List Byte → List PackRecord ⊕ Nat
  | 0, _ => .inl []
  | _ + 1, [] => .inl []
  | f + 1, b => match parseRecord c p b with
    | .inr e => .inr e
    | .inl (r, n) => match parseRecords c p f (b.drop n) with
      | .inr e => .inr e
      | .inl l => .inl (r :: l)

/-! ### Emission (R283) -/

/-- The armed stream still waits for a task tag. -/
def Device.packWaits (d : Device) (die k : Nat) : Bool :=
  d.str.allocWait.any (fun w => match w with | .stream dd s _ => dd = die && s = stationStream 6 k 1 | _ => false)

/-- The slot being emitted becomes free when its stream is DONE. -/
def Device.packFree (d : Device) (die k : Nat) : Device :=
  let p := d.packInst die k
  if p.emitting.isSome && !d.packWaits die k && (d.stream (packStream die k)).state = .done then d.setPack die k { p with emitting := none }
  else d

/-- Slots written and not yet freed. -/
def PackInst.busySlots (p : PackInst) : List Nat := p.slots.map (·.slot) ++ (p.emitting.toList.map (·.slot))

/-- The oldest closed batch is written to the lowest free slot. -/
def Device.packWrite (d : Device) (die k : Nat) (c : PackCfg) : Device :=
  let p := d.packInst die k
  match p.closed, (List.range c.slots).find? (fun s => s ∉ p.busySlots) with
  | b :: r, some s =>
    let d := d.write (d.regionBase die c.slotRegion + s * c.slotBytes) b.bytes
    let d := d.setPack die k { p with closed := r, slots := p.slots ++ [{ slot := s, samples := b.samples, rows := b.rows, late := b.late }] }
    if r.isEmpty then d.setFld (Reg.PACK_CMD die) Fd.PACK_CMD_FLUSH (clearBit (d.fld (Reg.PACK_CMD die) Fd.PACK_CMD_FLUSH) k) else d
  | _, _ => d

/-- The oldest written slot is emitted when channel 1 is IDLE or DONE. -/
def Device.packArm (d : Device) (die k : Nat) (c : PackCfg) : Device :=
  let p := d.packInst die k
  let st := (d.stream (packStream die k)).state
  match p.slots with
  | s :: r =>
    if p.emitting.isNone && (st = .idle || st = .done) then
      (d.setPack die k { p with slots := r, emitting := some s }).arm (packStream die k) 0
        (([s.slot * c.slotBytes / 4096, s.samples, s.rows] ++ List.replicate 5 0).map (BitVec.ofNat 32))
    else d
  | [] => d

/-! ### Meanings -/

/-- PACK_HANDLE_READ (R270): the next handle is read and parsed while the store has space and no batch waits. -/
def execPackHandleRead (dd : Fin 4) (k : Fin 4) (st : State) : Host.Outcome State Fault Refusal :=
  st.upd (fun d =>
    match d.packConfig dd.val k.val with
    | none => d
    | some c =>
      let lk := 4096 * dd.val + c.inLift
      let d := ((d.discardHeads [lk]).packFree dd.val k.val).packSettle dd.val k.val c true
      let p := d.packInst dd.val k.val
      match d.liftQ lk with
      | [] => d
      | e :: _ =>
        let cap := d.regionSize dd.val c.storeRegion
        if d.stationStopped dd.val 6 k.val || !p.closed.isEmpty then d
        else if e.h.len ≤ cap && cap < p.used + e.h.len then d
        else match d.popLift lk with
          | none => d
          | some (e, d) =>
            if cap < e.h.len then (d.releaseHandle (stationRouter (stKey dd.val 6 k.val)) e.h).requestAbort e.tag 0x0811
            else if d.poisoned e.h.addr e.h.len then (d.releaseHandle (stationRouter (stKey dd.val 6 k.val)) e.h).requestAbort e.tag 0x0F12
            else match parseRecords c p (e.h.len / 64 + 1) (d.handleData e) with
              | .inr code => (d.releaseHandle (stationRouter (stKey dd.val 6 k.val)) e.h).requestAbort e.tag code
              | .inl rs =>
                let p := d.packInst dd.val k.val
                (d.setPack dd.val k.val { p with staged := p.staged ++ rs.map (fun r => (e.tag, r)) }).releaseHandle (stationRouter (stKey dd.val 6 k.val)) e.h)

/-- BATCH_CLOSE_BUDGET (R274): PHASE reaches the close point of an open batch in the step in which it opened. -/
def execBatchCloseBudget (dd : Fin 4) (k : Fin 4) (batch : Nat) (st : State) : Host.Outcome State Fault Refusal :=
  st.upd (fun d =>
    match d.packConfig dd.val k.val, (d.packInst dd.val k.val).openB.find? (fun b => b.id = batch) with
    | some c, some b => 
      if b.openStep = d.stepNum && !d.packOff dd.val k.val then
        let d := d.reachPhase (b.closePoint c)
        d.closeBatch dd.val k.val c b (d.closeCause c b 1)
      else d
    | _, _ => d)

/-- PACK_EMIT (R283): a closed batch is written to a free slot, and the oldest written slot's stream is armed for a new task. -/
def execPackEmit (dd : Fin 4) (k : Fin 4) (st : State) : Host.Outcome State Fault Refusal :=
  st.upd (fun d =>
    match d.packConfig dd.val k.val with
    | none => d
    | some c =>
      if d.stationStopped dd.val 6 k.val then d
      else (((d.packFree dd.val k.val).packSettle dd.val k.val c true).packWrite dd.val k.val c).packArm dd.val k.val c)

/-- PACK_CMD.FLUSH of one instance (R288): the bit stays 1 until what it closed is written (R293; log 59). -/
def Device.packFlush (d : Device) (die k : Nat) : Device :=
  match d.packConfig die k with
  | none => d.refuse 0x0805 die
  | some c =>
    let d := d.packFlushInst die k c
    let f := d.fld (Reg.PACK_CMD die) Fd.PACK_CMD_FLUSH
    d.setFld (Reg.PACK_CMD die) Fd.PACK_CMD_FLUSH (if (d.packInst die k).closed.isEmpty then clearBit f k else setBit f k)

/-- PACK_FLUSH (R288). -/
def execPackFlush (dd : Fin 4) (k : Fin 4) (st : State) : Host.Outcome State Fault Refusal := st.upd (fun d => d.packFlush dd.val k.val)

end Sys2Proof.Machine
end

