-- ==== Sys2Proof/Machine/Containment.lean ====
section
/-!
DEFINITION. Error queues, containment and the fault map (chapter 18: R539 to R553), and the faults of cells and clusters (R196,
R197).
-/

namespace Sys2Proof.Machine

/-! ### Places -/

/-- The physical global ID of cell 0 of cluster `k` = 4096 × die + cluster. -/
def clusterGid (k : Nat) : Nat := 64 * k

/-- R555: the location fields of a place. -/
def placeLoc (q : Nat) (p : FaultPlace) : Loc :=
  match p with
  | .cell c => { kind := 1, die := c.die.val, index := c.block.val, sub := c.gid }
  | .cluster d p => { kind := 2, die := d.val, index := p.val / 64, sub := clusterGid (4096 * d.val + p.val) }
  | .station d kind k => { kind := 3, die := d.val, index := k.val, sub := kind.val }
  | .block d b => { kind := 4, die := d.val, index := b.val }
  | .die d => { kind := 5, die := d.val }
  | .package => { kind := 6, die := 4 }
  | .xdie x1 => { kind := 6, die := 4 + bit x1 }
  | .port p => { kind := 8, die := 4, index := p.val }
  | .memory _ => { kind := 7, die := q }

/-- R543: the containment domain of a location: 1 cluster, 2 block, 3 die, 4 package, 0 none. -/
def Loc.domain (l : Loc) : Nat := match l.kind with | 1 => 1 | 2 => 1 | 3 => 2 | 4 => 2 | 5 => 3 | 6 => 4 | _ => 0

/-- The fault-map entry of a location (R566). -/
def Loc.entry (l : Loc) (code : Nat) (host : Bool) : FaultEntry :=
  match l.kind with
  | 1 => { kind := 1, die := l.die, block := l.index, cluster := l.sub / 64 % 64, cell := l.sub % 64, host := host, code := code }
  | 2 => { kind := 2, die := l.die, block := l.index, cluster := l.sub / 64 % 64, host := host, code := code }
  | 3 => { kind := 4, die := l.die, station := l.sub, index := l.index, host := host, code := code }
  | 4 => { kind := 3, die := l.die, block := l.index, host := host, code := code }
  | _ => { kind := 5, die := l.die, host := host, code := code }

/-- The location of a fault-map entry's unit. -/
def FaultEntry.loc (e : FaultEntry) : Loc :=
  match e.kind with
  | 1 => { kind := 1, die := e.die, index := e.block, sub := clusterGid (4096 * e.die + 64 * e.block + e.cluster) + e.cell }
  | 2 => { kind := 2, die := e.die, index := e.block, sub := clusterGid (4096 * e.die + 64 * e.block + e.cluster) }
  | 3 => { kind := 4, die := e.die, index := e.block }
  | 4 => { kind := 3, die := e.die, index := e.index, sub := e.station }
  | _ => { kind := 5, die := e.die }

/-- Two entries describe the same unit: KIND and location fields agree. -/
def FaultEntry.sameUnit (a b : FaultEntry) : Bool :=
  a.kind = b.kind && a.die = b.die && a.block = b.block && a.cluster = b.cluster && a.cell = b.cell && a.station = b.station && a.index = b.index

/-- Cluster `k` lies in the unit at a location. -/
def Loc.hasCluster (l : Loc) (k : Nat) : Bool :=
  match l.kind with
  | 2 => l.sub / 64 = k
  | 4 => l.die = k / 4096 && l.index = k % 4096 / 64
  | 5 => l.die = k / 4096
  | 6 => true
  | _ => false

/-- Cell `g` lies in the unit at a location. -/
def Loc.hasCell (l : Loc) (g : Nat) : Bool := if l.kind = 1 then l.sub = g else l.hasCluster (g / 64)

/-- A station instance lies in the unit at a location (R543: the Match bank and the Hash station of a block). -/
def Loc.hasStation (l : Loc) (die kind k : Nat) : Bool :=
  match l.kind with
  | 3 => l.die = die && l.sub = kind && l.index = k
  | 4 => l.die = die && (kind = 1 || kind = 5) && l.index = k
  | 5 => l.die = die
  | 6 => true
  | _ => false

/-- R548: the containment of an entry at `a` covers the entry at `b` (of a queue of die `q`). -/
def Loc.covers (a b : Loc) (q : Nat) : Bool :=
  match a.kind with
  | 6 => true
  | 5 => if b.kind = 7 then a.die = q else b.die = a.die && b.kind != 6 && b.kind != 8 && b.kind != 9
  | 4 => b.die = a.die && ((b.kind = 1 || b.kind = 2 || b.kind = 4) && b.index = a.index || b.kind = 3 && (b.sub = 1 || b.sub = 5) && b.index = a.index)
  | 2 => (b.kind = 1 || b.kind = 2) && b.sub / 64 = a.sub / 64
  | 1 => b.kind = 1 && b.sub = a.sub
  | 3 => b.kind = 3 && b.die = a.die && b.sub = a.sub && b.index = a.index
  | _ => false

/-! ### Tasks with work in a unit (R197, R543) -/

/-- A stream of a die belongs to the unit at a location. -/
def Loc.hasStream (l : Loc) (die sid : Nat) : Bool :=
  match streamStation sid with
  | some (kind, k) => l.hasStation die kind k
  | none => decide (sid < 16384) && l.hasCluster (4096 * die + sid / 4)

/-- The consumer of Lift `lk` belongs to the unit at a location. -/
def Device.liftIn (d : Device) (l : Loc) (lk : Nat) : Bool :=
  match d.plan.active.bind (fun pl => (pl.liftRec (lk / 4096) (lk % 4096)).map (fun r => (pl, r))) with
  | none => false
  | some (pl, r) =>
    if r.consumer.cluster then l.hasCluster (4096 * (lk / 4096) + pl.physical (lk / 4096) r.consumer.num)
    else l.hasStream (lk / 4096) r.consumer.num

/-- Tags of staged station state: records of Pack instances, changes of Match gangs, increments and contributions of a die's tables. -/
def Device.stagedIn (d : Device) (l : Loc) : List Nat :=
  (d.pack.filter (fun e => l.hasStation (e.1 / 1024) (e.1 / 64 % 16) (e.1 % 64))).flatMap (fun e => e.2.staged.map (·.1))
    ++ (d.matchI.filter (fun e => l.hasStation (e.1 / 1024) (e.1 / 64 % 16) (e.1 % 64))).flatMap (fun e => e.2.staged.map (·.1))
    ++ (d.emb.filter (fun e => l.kind = 6 || (l.kind = 5 && l.die = e.1 / 64))).flatMap (fun e => e.2.staged.map (·.1) ++ e.2.lookups.map (·.1))

/-- Tags with work in the unit at a location: items in service and tags of its cells, operands and items of its Gates, handles on Lifts
it consumes, its jobs, its streams, its staged state; with a die, the tasks homed there and those with writes staged there. -/
def Device.tagsIn (d : Device) (l : Loc) : List Nat :=
  let cells := (d.cells.filter (fun e => l.hasCell e.1)).flatMap (fun e => e.2.tag :: (e.2.item.toList.map (·.tag)))
  let gates := (d.sched.gates.filter (fun e => l.hasCluster e.1)).flatMap (fun e => e.2.unmatched.map (·.e.tag) ++ e.2.items.map (·.tag))
  let lifts := (d.str.lifts.filter (fun e => !e.2.isEmpty && d.liftIn l e.1)).flatMap (fun e => e.2.map (·.tag))
  let jobs := (d.stn.jobs.filter (fun e => l.hasStation (e.1 / 1024) (e.1 / 64 % 16) (e.1 % 64))).map (fun e => e.2.tag)
  let streams := (d.str.streams.filter (fun e => (e.2.state = .armed || e.2.state = .running) && l.hasStream (e.1 / 32768) (e.1 % 32768))).map (fun e => e.2.tag)
  let homed := (d.str.tasks.filter (fun e => (l.kind = 6 || (l.kind = 5 && (l.die = e.1 / 1024 || e.2.writes.any (fun w => w.die = l.die)))))).map (fun e => e.2.tag)
  (cells ++ gates ++ lifts ++ jobs ++ streams ++ d.stagedIn l ++ homed).foldl addNew []

def Device.abortAll (d : Device) (tags : List Nat) (code : Nat) : Device := tags.foldl (fun d t => d.requestAbort t code) d

/-! ### Fencing -/

/-- R550: every change to the map. -/
def Device.fmapChanged (d : Device) : Device :=
  let d := (d.count Reg.FMAP_CHANGES 32 1).setFld Reg.PLAN_SLOT_STATE Fd.PLAN_SLOT_STATE_FENCE_STALE 1
  let old (p : Option Plan) := p.map (fun x => { x with stale := true })
  { d with plan := { d.plan with staleSinceArm := true, active := old d.plan.active, shadow := old d.plan.shadow } }

/-- R550, R551: an entry joins the map, at the lowest free number; none where it has no room. -/
def Device.fmapAdd (d : Device) (e : FaultEntry) : Option Device :=
  if e.kind != 5 && 2044 ≤ (d.fault.fmap.filter (fun x => x.2.kind != 5)).length then none
  else match (List.range 2048).find? (fun i => (d.fault.fmap.get? i).isNone) with
    | none => none
    | some i => some ({ d with fault := { d.fault with fmap := d.fault.fmap.put i e } }).fmapChanged

/-- A push of a stopped cell that waits for room is withdrawn: its LPUSH has not completed. -/
def Device.withdrawPush (d : Device) (g : Nat) : Device :=
  let mine (w : Nat × LiftEntry) : Bool := w.2.src = .cell g
  let back := (d.str.pushWait.filter mine).map (fun w => w.2.h.addr)
  let d := d.updStr (fun u => { u with pushWait := u.pushWait.filter (fun w => !mine w) })
  match d.cells.get? g with
  | some c => d.setCell g { c with item := c.item.map (fun i => { i with spent := i.spent.filter (fun a => a ∉ back) }) }
  | none => d

/-- R218: the item a fenced cell holds is completed, and the buffers of its operands that the cell has neither released nor passed on go
back. -/
def Device.giveUpItem (d : Device) (g : Nat) : Device :=
  let d := d.withdrawPush g
  match (d.cell g).item with
  | some i => (i.operands.filter (fun h => h.addr ∉ i.spent)).foldl (fun d h => d.releaseHandle (g / 4096) h) (d.completeItem g)
  | none => d

/-- R197, R218: what a stopped Gate holds goes: its entries, the flow-table entries of its flows, and the buffers of its operands. -/
def Device.emptyGate (d : Device) (k : Nat) : Device :=
  let g := d.gate k
  (g.unmatched.map (fun o => o.e.h) ++ g.items.flatMap (·.operands)).foldl (fun d h => d.releaseHandle (k / 64) h)
    (d.setGate k { g with unmatched := [], delayed := [], flowWait := [], ready := [], flows := [], stopped := true })

/-- Cells and Gates of the unit stop, and give up what they hold (R196, R197, R218, R543). -/
def Device.stopUnit (d : Device) (l : Loc) : Device :=
  let d := { d with cells := d.cells.mapVals (fun g c => if l.hasCell g then { c with state := .fenced, blocked := none } else c) }
  let d := (d.cells.filter (fun e => l.hasCell e.1)).foldl (fun d e => d.giveUpItem e.1) d
  (d.sched.gates.filter (fun e => l.hasCluster e.1)).foldl (fun d e => d.emptyGate e.1) d

/-- R543, R544: a die is contained: its DIE entry, every unit of it stopped, its tasks aborted. -/
def Device.containDie (d : Device) (die code : Nat) (host : Bool) : Device :=
  let l : Loc := { kind := 5, die := die }
  if d.dieContained die then d
  else
    let tags := d.tagsIn l
    (((d.fmapAdd (l.entry code host)).getD d).stopUnit l).abortAll tags code

/-- R561: the dump engine starts a dump of the moment. -/
def Device.startDump (d : Device) (cause core : Nat) : Device :=
  let recs := sortBy (fun r => 2 ^ 32 - seqDist (d.fld Reg.EVR_SEQ_NEXT Fd.EVR_SEQ_NEXT_SEQ) r.seq) (d.fault.slots.map (·.2))
  let x : CrashDump := { cause := cause, core := core, fwImage := d.fld Reg.FW_STATUS Fd.FW_STATUS_RUNNING, calNs := d.calForRecord, step := d.stepNum
                         fwVersion := d.fld Reg.FW_RUNNING Fd.FW_RUNNING_VERSION, dumpSeq := d.fault.dumpSeq
                         records := recs.drop (recs.length - 1024) }
  { d with fault := { d.fault with dumping := d.fault.dumping ++ [x], dumpSeq := d.fault.dumpSeq + 1 } }

/-- ERR_STATE of the block of a class's commands (R545). -/
def classState (c : Nat) : Nat := match c with | 1 => 0x1006 | 2 => 0x0206 | 3 => 0x1106 | 4 => 0x0406 | _ => 0x0E06

/-- The compute die whose STREAM_LAST_ERROR records a refused command of class 0x4: DIE of a TASK_SUBMIT, the home die of a tag. -/
def msgDie (opcode : Nat) (payload : List Byte) : Nat := if opcode = 0x4001 then leAt payload 0 1 % 4 else leAt payload 3 1 % 4

/-- SHADOW_INDEX and PLAN_REPLACED show a plan (R90). -/
def Device.showShadow (d : Device) (p : Option Plan) : Device :=
  match p with
  | some p => (d.setFld Reg.PLAN_SLOT_STATE Fd.PLAN_SLOT_STATE_SHADOW_INDEX p.lib).setReg Reg.PLAN_REPLACED (BitVec.ofNat 64 (movesReg p.moves))
  | none => (d.setFld Reg.PLAN_SLOT_STATE Fd.PLAN_SLOT_STATE_SHADOW_INDEX 0).setReg Reg.PLAN_REPLACED 0

def Device.shadowState (d : Device) : Nat := d.fld Reg.PLAN_SLOT_STATE Fd.PLAN_SLOT_STATE_SHADOW_STATE
def Device.setShadowState (d : Device) (st : Nat) : Device := d.setFld Reg.PLAN_SLOT_STATE Fd.PLAN_SLOT_STATE_SHADOW_STATE st

/-- A plan command in progress is given up: the library and the slots are as they were before it (R17). -/
def Device.dropPlanWork (d : Device) : Device :=
  let d := { d with plan := { d.plan with storing := none, loading := none } }
  if d.shadowState = 1 then (d.setShadowState (if d.plan.shadow.isSome then 2 else 0)).showShadow d.plan.shadow else d

/-- R545: the commands of classes other than 0 that wait or are in progress are refused. -/
def Device.refuseQueued (d : Device) : Device :=
  let qs := (d.host.classQ.filter (fun e => e.1 != 0)).flatMap (fun e => e.2)
  let d := qs.foldl (fun d q => d.refuseMsg { hseq := q.hseq, cookie := q.cookie } q.opcode (classState (q.opcode / 4096)) (msgDie q.opcode q.payload)) d
  ({ d with mgmt := { d.mgmt with staging := none } }).dropPlanWork

/-- R543: the package is contained: every compute die, host-bound DMA, the ports; a crash dump is written (R561). -/
def Device.containPackage (d : Device) (code : Nat) : Device :=
  if d.packageContained then d
  else
    let d := ((List.range 4).foldl (fun d k => d.containDie k code false) d).abortAll (d.tagsIn { kind := 6, die := 4 }) code
    ((d.setFld Reg.FMAP_STATUS Fd.FMAP_STATUS_PACKAGE_CONTAINED 1).setFld Reg.HOST_STATE Fd.HOST_STATE_DMA_OFF 1).refuseQueued.startDump code 0xFF

/-- R550, R551: the unit at a location is fenced with a code; whether it entered the map.  With no room its die is contained
instead, with a FATAL record of its own. -/
def Device.fenceUnit (d : Device) (l : Loc) (code : Nat) (host : Bool) : Device × Bool :=
  let e := l.entry code host
  if d.fault.fmap.any (fun x => x.2.sameUnit e) then (d, false)
  else if l.kind = 5 then (d.containDie l.die code host, true)
  else
    let tags := d.tagsIn l
    match d.fmapAdd e with
    | some d => ((d.stopUnit l).abortAll tags code, true)
    | none => if d.dieContained l.die then (d, false) else ((d.containDie l.die 0x1011 false).record { code := 0x1011, severity := 5, domain := 3, fenced := true, loc := { kind := 5, die := l.die } }, false)

/-! ### Error queues (R547 to R549) -/

def Device.errq (d : Device) (q : Nat) : ErrQueue := d.fault.errq.getD q ErrQueue.empty
def Device.setErrq (d : Device) (q : Nat) (x : ErrQueue) : Device := { d with fault := { d.fault with errq := d.fault.errq.put q x } }

def ErrQueue.depth (q : ErrQueue) : Nat := q.waiting.length + q.suspended.length + bit q.handling.isSome

/-- The entry's severity brings containment (R542, R543): of an X-die only a FATAL one, for a crash of the cores contains nothing (R561). -/
def EventRec.contains (e : EventRec) : Bool := decide (4 ≤ e.severity) && (e.loc.kind != 6 || e.severity = 5)

/-- The containment action of an entry (R542, R543): the tasks concerned, the unit; a FATAL entry contains the die of its location, or the
package where that is an X-die. -/
def Device.containEntry (d : Device) (e : EventRec) : Device × Bool :=
  if e.severity < 3 then (d, false)
  else if e.severity = 3 then (d.requestAbort e.tag e.code, false)
  else if e.severity = 5 then
    if 4 ≤ e.loc.die then ((d.requestAbort e.tag e.code).containPackage e.code, !d.packageContained)
    else (((d.requestAbort e.tag e.code).containDie e.loc.die e.code false), !d.dieContained e.loc.die)
  else if e.loc.kind = 6 then (d, false)
  else if 1 ≤ e.loc.kind && e.loc.kind ≤ 5 then (d.requestAbort e.tag e.code).fenceUnit e.loc e.code false
  else (d.requestAbort e.tag e.code, false)

/-- What the containment action of an entry, from `d` to `t`, has contained: the package, the die, or the entry's own unit (R548, R551). -/
def EventRec.contained (e : EventRec) (d t : Device) : Loc :=
  if t.packageContained && !d.packageContained then { kind := 6, die := 4 }
  else if t.dieContained e.loc.die && !d.dieContained e.loc.die then { kind := 5, die := e.loc.die }
  else e.loc

/-- The handler begins an entry: its containment is taken; entries suspended in a domain it covers are marked (R548). -/
def Device.errqBegin (d : Device) (q : Nat) (e : ErrEntry) : Device :=
  let (t, fenced) := d.containEntry e.event
  let x := t.errq q
  let acts := e.event.contains
  let scope := e.event.contained d t
  t.setErrq q { x with handling := some { e with event := { e.event with fenced := e.event.fenced || fenced } }
                       suspended := x.suspended.map (fun s => if acts && scope.covers s.event.loc q then { s with subsumed := true } else s) }

/-- An entry joins a queue with room: it begins, preempts or waits (R547, R548). -/
def Device.errqJoin (d : Device) (q : Nat) (e : EventRec) : Device :=
  let x := d.errq q
  let n : ErrEntry := { event := e, arrival := x.arrivals, subsumed := false }
  let x := { x with arrivals := x.arrivals + 1 }
  match x.handling with
  | none => (d.setErrq q x).errqBegin q n
  | some h =>
    if h.event.severity < e.severity then
      ((d.setErrq q { x with handling := none, suspended := x.suspended ++ [h] }).count (Reg.ERRQ_PREEMPTED q) 64 1).errqBegin q n
    else d.setErrq q { x with waiting := x.waiting ++ [n] }

/-- The X0 queue: its overflow contains the package, and its record goes to the recorder at once (R549). -/
def Device.errqEnterX0 (d : Device) (e : EventRec) : Device :=
  let x := d.errq 4
  if 64 ≤ x.depth then
    let n := x.depth + 1
    (((d.setErrq 4 { x with waiting := [], suspended := [], handling := none }).count (Reg.ERRQ_DISCARDED 4) 64 n).containPackage 0x1010).record
      { code := 0x1010, severity := 5, domain := 4, fenced := true, loc := { kind := 6, die := 4 }, arg0 := e.code, arg2 := n }
  else d.errqJoin 4 e

/-- A detector enters a fault in a queue (R547, R549); the domain of its record is the one its severity contains (R542). -/
def Device.errqEnter (d : Device) (q : Nat) (e : EventRec) : Device :=
  let e := d.stamp { e with domain := if e.severity = 5 then (if 4 ≤ e.loc.die then 4 else 3) else if e.contains then e.loc.domain else 0 }
  if 4 ≤ q then d.errqEnterX0 e
  else
    let x := d.errq q
    if 64 ≤ x.depth then
      let n := x.depth + 1
      ((d.setErrq q { x with waiting := [], suspended := [], handling := none }).count (Reg.ERRQ_DISCARDED q) 64 n).errqEnterX0
        (d.stamp { code := 0x1010, severity := 5, domain := 3, loc := { kind := 5, die := q }, arg0 := e.code, arg2 := n })
    else d.errqJoin q e

/-- The entry a handler takes next: the highest severity among those suspended and waiting, the earliest of equals (R548). -/
def ErrQueue.next (x : ErrQueue) : Option ErrEntry :=
  (x.suspended ++ x.waiting).foldl (fun (best : Option ErrEntry) e =>
    match best with
    | none => some e
    | some b => if b.event.severity < e.event.severity || (b.event.severity = e.event.severity && e.arrival < b.arrival) then some e else best) none

/-- The handler completes its entry: the record goes to the recorder, and the next entry is resumed or begun. -/
def Device.errqDone (d : Device) (q : Nat) : Device :=
  let x := d.errq q
  match x.handling with
  | none => d
  | some h =>
    let d := (d.recorderArrive { h.event with subsumed := h.subsumed }).count (Reg.ERRQ_HANDLED q) 64 1
    let x := { x with handling := none }
    match x.next with
    | none => d.setErrq q x
    | some e =>
      if e ∈ x.suspended then d.setErrq q { x with handling := some e, suspended := x.suspended.erase e }
      else (d.setErrq q { x with waiting := x.waiting.erase e }).errqBegin q e

/-! ### Meanings -/

/-- The record of a described fault. -/
def faultEvent (f : FaultDesc) (q : Nat) : EventRec :=
  { code := f.code, severity := f.severity, byGroomer := f.byGroomer, loc := placeLoc q f.place, tag := f.tag
    arg0 := match f.place with | .memory a => a | _ => f.arg0 }

/-- The die of a place as its record names it: a DDR5 address of X0's queue lies on the X-die of its channel (R479; log 97). -/
def Device.faultDie (d : Device) (q : Nat) (p : FaultPlace) : Nat :=
  match p with
  | .memory a => if q = 4 && d.place a = .ddr then d.memoryDie a else q
  | _ => q

/-! ### Poison (R488) -/

/-- The number of a memory tier in the registers of R502: 0 SRAM, 1 bonded, 2 HBM4, 3 DDR5. -/
def Device.tierReg (d : Device) (a : Nat) : Nat := match d.place a with | .hbm _ => 2 | .ddr => 3 | .bonded _ => 1 | _ => 0

/-- R488: a granule whose error cannot be corrected is poisoned; its first detection is counted, noted and reported; the operand
staging of an Array has a code of its own (R430). -/
def Device.poisonGranule (d : Device) (a tag : Nat) (byGroomer : Bool) (code : Nat := 0x0F12) : Device :=
  let g := a / 64
  if g ∈ d.poison then d
  else
    let t := d.tierReg a
    let q := d.ownerQueue a
    let d := ({ d with poison := d.poison ++ [g] }.count (Reg.MEM_UE_COUNT t) 64 1).setReg Reg.MEM_LAST_UE
      (BitVec.ofNat 64 (64 * g + 2 ^ 56 * t + 2 ^ 58 * bit byGroomer))
    d.errqEnter q { code := code, severity := 3, tag := tag, byGroomer := byGroomer, loc := d.memoryLoc a, arg0 := 64 * g }

/-- An uncorrectable word of a die's SRAM outside the windows: counted, noted by its index in the die's patrol order, reported (R488). -/
def Device.sramBad (d : Device) (die index : Nat) (e : EventRec) : Device :=
  ((d.count (Reg.MEM_UE_COUNT 0) 64 1).setReg Reg.MEM_LAST_UE (BitVec.ofNat 64 (index % 2 ^ 56 + 2 ^ 58 * bit e.byGroomer))).errqEnter die e

/-- The same of a word whose index no rule gives: it is a free value (log 42). -/
def Device.sramBadAt (d : Device) (die : Nat) (e : EventRec) : Device :=
  let (v, d) := d.free
  d.sramBad die v.toNat e

/-- ERRQ_ENTRY (R547 to R549): an uncorrectable granule that an access meets is poisoned too (R488). -/
def execErrqEntry (q : Fin 5) (f : FaultDesc) (s : State) : Host.Outcome State Fault Refusal :=
  s.upd (fun d =>
    match f.place with
    | .memory a =>
      if f.code = 0x0F12 && f.severity = 3 && d.isLocal a then d.poisonGranule a f.tag f.byGroomer
      else d.errqEnter q.val (faultEvent f (d.faultDie q.val f.place))
    | _ => d.errqEnter q.val (faultEvent f (d.faultDie q.val f.place)))

/-- ERRQ_HANDLE_DONE (R547, R548). -/
def execErrqHandleDone (q : Fin 5) (s : State) : Host.Outcome State Fault Refusal := s.upd (fun d => d.errqDone q.val)

/-- STATION_DATAPATH_FAULT (R539, R541, R543): the tasks with work in the station abort with ERR_FAULT_DATAPATH at once, wherever the entry
stands in its queue, and the station is fenced. -/
def execStationDatapathFault (dd : Fin 4) (kind : Fin 8) (k : Fin 64) (s : State) : Host.Outcome State Fault Refusal :=
  s.upd (fun d =>
    let l := placeLoc dd.val (.station dd kind k)
    (d.abortAll (d.tagsIn l) 0x1017).errqEnter dd.val { code := 0x1017, severity := 4, loc := l })

/-- CONTROL_FAULT (R539, R543): contained in the domain of its place. -/
def execControlFault (q : Fin 5) (place : FaultPlace) (s : State) : Host.Outcome State Fault Refusal :=
  s.upd (fun d => d.errqEnter q.val { code := 0x1016, severity := (match place with | .die _ => 5 | .package => 5 | .xdie _ => 5 | _ => 4), loc := placeLoc (d.faultDie q.val place) place })

/-- FABRIC_LINK_DOWN (R24, R543): a package-fabric link has stayed down for 1 ms.  No rule numbers the fifteen links, and R555 leaves the
detail of the record open: the number the command bears stands in ARG0 (DESIGN CHOICE, log 90). -/
def execFabricLinkDown (link : Nat) (s : State) : Host.Outcome State Fault Refusal :=
  s.upd (fun d => d.errqEnter 4 { code := 0x1018, severity := 5, loc := placeLoc 4 .package, arg0 := link })

/-- The registers a cell exception that fences writes (R194, R196). -/
def Device.cellFault (d : Device) (g code : Nat) : Device :=
  let x := d.cell g
  let die := g / 2 ^ 18
  let word := x.pc.toNat / 4 % 4096
  let d := d.setCell g { x with exc := code + 2 ^ 16 * word, state := .fenced, blocked := none }
  let d := d.setReg (Reg.CELL_LAST_EXC die) (BitVec.ofNat 64 (code + 2 ^ 16 * g + 2 ^ 36 * word))
  let d := d.setReg (Reg.CELL_LAST_EXC_TAG die) (BitVec.ofNat 64 x.tag)
  let d := d.count (Reg.CELL_EXC_COUNT die) 64 1
  d.errqEnter die { code := code, severity := 4, tag := x.tag, loc := { kind := 1, die := die, index := g / 2 ^ 12 % 64, sub := g } }

/-- CELL_RESIDUE_FAIL (R193, R196). -/
def execCellResidueFail (c : CellId) (s : State) : Host.Outcome State Fault Refusal :=
  s.upd (fun d => (d.count (Reg.CELL_RESIDUE_COUNT c.die.val) 64 1).cellFault c.gid 0x0518)

/-- CELL_STORE_ECC (R196). -/
def execCellStoreEcc (c : CellId) (s : State) : Host.Outcome State Fault Refusal := s.upd (fun d => d.cellFault c.gid 0x0519)

/-- R194: a cluster fault is an exception of the cells of the cluster that run: each records it in EXC; the lowest of them, or cell 0 where
none runs, stands in CELL_LAST_EXC, and it counts once (log 93). -/
def Device.clusterException (d : Device) (k code : Nat) : Device :=
  let die := k / 4096
  let word (c : Cell) : Nat := c.pc.toNat / 4 % 4096
  let mine := (d.clusterCells k).filter (fun e => e.2.state = .running)
  let g := (mine.head?.map (·.1)).getD (clusterGid k)
  let d := (d.setReg (Reg.CELL_LAST_EXC die) (BitVec.ofNat 64 (code + 2 ^ 16 * g + 2 ^ 36 * word (d.cell g)))).setReg (Reg.CELL_LAST_EXC_TAG die)
    (BitVec.ofNat 64 (d.cell g).tag)
  mine.foldl (fun d e => d.setCell e.1 { e.2 with exc := code + 2 ^ 16 * word e.2 }) (d.count (Reg.CELL_EXC_COUNT die) 64 1)

/-- CLUSTER_FAULT (R194, R197). -/
def execClusterFault (dd : Fin 4) (p : Fin 4096) (s : State) : Host.Outcome State Fault Refusal :=
  s.upd (fun d => (d.clusterException (4096 * dd.val + p.val) 0x051A).errqEnter dd.val { code := 0x051A, severity := 4, loc := placeLoc dd.val (.cluster dd p) })

/-! ### FMAP_CMD (R553) -/

/-- The entry FMAP_CMD_ENTRY describes, its location fields alone. -/
def fmapEntryOf (v : Nat) (code : Nat) (host : Bool) : FaultEntry :=
  let kind := bitsOf v 1 3
  { kind := kind, die := bitsOf v 4 2, block := if kind ≤ 3 then bitsOf v 6 6 else 0, cluster := if kind ≤ 2 then bitsOf v 12 6 else 0
    cell := if kind = 1 then bitsOf v 18 6 else 0, station := if kind = 4 then bitsOf v 24 4 else 0, index := if kind = 4 then bitsOf v 28 6 else 0
    host := host, code := code }

/-- The command ends with a code; ACTION is that of an accepted command, and a refusal is recorded by the block. -/
def Device.fmapEnd (d : Device) (action code : Nat) : Device :=
  let d := (d.setFld Reg.FMAP_CMD Fd.FMAP_CMD_CODE code).setFld Reg.FMAP_CMD Fd.FMAP_CMD_GO 0
  if code = 0 then d.setFld Reg.FMAP_CMD Fd.FMAP_CMD_ACTION action else d.refuse code

/-- A reserved KIND, or a station KIND above 7. -/
def FaultEntry.reserved (e : FaultEntry) : Bool := e.kind = 0 || 5 < e.kind || 7 < e.station

def Device.fmapAddCmd (d : Device) : Device :=
  let e := fmapEntryOf (d.reg Reg.FMAP_CMD_ENTRY).toNat 0x1012 true
  if e.reserved then d.fmapEnd 0 0x1002
  else if d.fault.fmap.any (fun x => x.2.sameUnit e) then d.fmapEnd 0 0
  else if e.kind != 5 && 2044 ≤ (d.fault.fmap.filter (fun x => x.2.kind != 5)).length then d.fmapEnd 0 0x1011
  else
    let d := (d.fenceUnit e.loc 0x1012 true).1
    (d.record { code := 0x1012, severity := 4, domain := e.loc.domain, fenced := true, loc := e.loc }).fmapEnd 0 0

def Device.fmapRemoveCmd (d : Device) : Device :=
  let e := fmapEntryOf (d.reg Reg.FMAP_CMD_ENTRY).toNat 0 false
  if e.reserved then d.fmapEnd 1 0x1002
  else if e.kind = 5 then d.fmapEnd 1 0x1006
  else match d.fault.fmap.find? (fun x => x.2.sameUnit e) with
    | none => d.fmapEnd 1 0x1013
    | some (i, x) =>
      let d := ({ d with fault := { d.fault with fmap := d.fault.fmap.del i, idleUnits := d.fault.idleUnits ++ [x] } }).fmapChanged
      (d.record { code := x.code, severity := 0, loc := x.loc }).fmapEnd 1 0

/-- FMAP_ADD (R553): a write of FMAP_CMD with ACTION ADD and GO. -/
def execFmapAdd (s : State) : Host.Outcome State Fault Refusal :=
  s.upd (fun d => d.fmapAddCmd)

/-- FMAP_REMOVE (R553): a write of FMAP_CMD with ACTION REMOVE and GO. -/
def execFmapRemove (s : State) : Host.Outcome State Fault Refusal :=
  s.upd (fun d => d.fmapRemoveCmd)

end Sys2Proof.Machine
end

