-- ==== Sys2Proof/Machine/Gather.lean ====
section
/-!
DEFINITION. Embedding tables and the Gather station (chapter 13: R362 to R400).
-/

namespace Sys2Proof.Machine

/-! ### The table record (R363, R365) -/

structure TableRec where
  id : Nat
  elem : Nat
  opt : Nat
  policyZero : Bool
  keep : Bool
  hasCache : Bool
  hasArea : Bool
  outElem : Nat
  updateStage : Nat
  traverse : Nat
  rows : Nat
  cols : Nat
  colFirst : Nat
  colCount : Nat
  gatherMask : Nat
  homeRegion : Nat
  ctrlRegion : Nat
  cacheRegion : Nat
  areaRegion : Nat
  cacheSets : Nat
  areaSets : Nat
  migMax : Nat
  applyPu : Nat
  logEntries : Nat
  lr : Nat
  eps : Nat
  beta1 : Nat
  beta2 : Nat
  seed : Nat
  deriving DecidableEq, Repr

def tableRec (b : List Byte) : TableRec :=
  let fl := leAt b 4 1
  { id := leAt b 0 2, elem := leAt b 2 1, opt := leAt b 3 1, policyZero := bitAt fl 0, keep := bitAt fl 1, hasCache := bitAt fl 2
    hasArea := bitAt fl 3, outElem := leAt b 5 1, updateStage := leAt b 6 1, traverse := bitsOf (leAt b 7 1) 0 2, rows := leAt b 8 4
    cols := leAt b 12 2, colFirst := leAt b 14 2, colCount := leAt b 16 2, gatherMask := leAt b 18 2, homeRegion := leAt b 20 2
    ctrlRegion := leAt b 22 2, cacheRegion := leAt b 24 2, areaRegion := leAt b 26 2, cacheSets := leAt b 28 4, areaSets := leAt b 32 4
    migMax := leAt b 36 2 + 1, applyPu := leAt b 38 2, logEntries := leAt b 40 4, lr := leAt b 44 4, eps := leAt b 48 4
    beta1 := leAt b 52 4, beta2 := leAt b 56 4, seed := leAt b 64 8 }

def tablesOf (img : List Byte) (die : Nat) : List TableRec := (dieRecords img die 9).map tableRec

/-- R363: bytes of the weight part, of the optimizer state, the offset of the state, bytes of a row record. -/
def TableRec.wb (x : TableRec) : Nat := x.colCount * elemBits x.elem / 8
def TableRec.sb (x : TableRec) : Nat := match x.opt with | 2 => 4 * x.colCount | 3 => 8 * x.colCount | _ => 0
def TableRec.soff (x : TableRec) : Nat := 4 * ceilDiv x.wb 4
def TableRec.rrec (x : TableRec) : Nat := ceil64 (x.soff + x.sb)
/-- R366. -/
def TableRec.ctrlBytes (x : TableRec) : Nat :=
  4096 * ceilDiv (266240 + 80 * (x.cacheSets + x.areaSets) + 8 * x.migMax + x.logEntries * (16 + 4 * x.colCount)) 4096
/-- Bytes of a result row. -/
def TableRec.outRow (x : TableRec) : Nat := ceil64 (x.colCount * elemBits x.outElem / 8)
def TableRec.sets (x : TableRec) (store : Nat) : Nat := if store = 1 then x.cacheSets else x.areaSets
def TableRec.hasStore (x : TableRec) (store : Nat) : Bool := if store = 1 then x.hasCache else x.hasArea

/-- A table of a die in the active plan. -/
def Device.tableOf (d : Device) (die t : Nat) : Option TableRec :=
  d.plan.active.bind (fun pl => (tablesOf pl.image die).find? (fun x => x.id = t))

def embKey (die t : Nat) : Nat := 64 * die + t
def Device.embT (d : Device) (key : Nat) : EmbTable := d.emb.getD key EmbTable.empty
def Device.setEmb (d : Device) (key : Nat) (e : EmbTable) : Device := { d with emb := d.emb.put key e }

def EmbTable.store (e : EmbTable) (s : Nat) : EmbStore := if s = 1 then e.cache else e.area
def EmbTable.setStore (e : EmbTable) (s : Nat) (x : EmbStore) : EmbTable := if s = 1 then { e with cache := x } else { e with area := x }

/-! ### Sketch and sets (R380) -/

def sketchCol (seed j r : Nat) : Nat := mixN r ((BitVec.ofNat 64 seed ^^^ BitVec.ofNat 64 ((j + 1) * 0x6A1D3F58B29CE407)).toNat) / 2 ^ 48
def TableRec.set (x : TableRec) (store r : Nat) : Nat :=
  let k := if store = 1 then 0x5C0E91A733D2F864#64 else 0xA7F20C5B6E19D34B#64
  mixN r (BitVec.ofNat 64 x.seed ^^^ k).toNat * x.sets store / 2 ^ 64

def EmbTable.cnt (e : EmbTable) (j i : Nat) : Nat := e.sketch.getD (65536 * j + i) 0
def EmbTable.est (e : EmbTable) (seed r : Nat) : Nat :=
  let c (j : Nat) := e.cnt j (sketchCol seed j r)
  min (min (c 0) (c 1)) (min (c 2) (c 3))

/-- One entry increments its four counters. -/
def EmbTable.increment (e : EmbTable) (seed r : Nat) : EmbTable :=
  { e with sketch := (List.range 4).foldl (fun m j =>
      let k := 65536 * j + sketchCol seed j r
      m.put k (min 255 (m.getD k 0 + 1))) e.sketch }

/-! ### Places (R364) -/

/-- The way of a store that holds a row. -/
def EmbTable.wayOf (e : EmbTable) (x : TableRec) (store r : Nat) : Option EmbPlace :=
  if !x.hasStore store then none
  else (List.range 8).findSome? (fun w =>
    let k := 8 * x.set store r + w
    match (e.store store).ways.get? k with
    | some (row, frame) => if row = r then some { store := store, way := k, frame := frame } else none
    | none => none)

/-- The place of a row: the row cache, the HBM area, or its home slot. -/
def EmbTable.placeOf (e : EmbTable) (x : TableRec) (r : Nat) : EmbPlace :=
  match e.wayOf x 1 r with
  | some p => p
  | none => (e.wayOf x 2 r).getD { store := 0, way := 0, frame := 0 }

def EmbTable.moving (e : EmbTable) (r : Nat) : Bool := match e.round with | some rd => rd.moves.any (·.row = r) | none => false

def Device.regionOf (d : Device) (die id : Nat) : Nat :=
  ((d.plan.active.bind (fun pl => pl.region die id)).map (·.base)).getD 0

/-- The device address of a row's record in a place. -/
def Device.placeAddr (d : Device) (die : Nat) (x : TableRec) (r : Nat) (p : EmbPlace) : Nat :=
  match p.store with
  | 0 => d.regionOf die x.homeRegion + r * x.rrec
  | 1 => d.regionOf die x.cacheRegion + p.frame * x.rrec
  | _ => d.regionOf die x.areaRegion + p.frame * x.rrec

/-! ### Gather buffers (R370, R373, R374) -/

structure GatherCfg where
  inLift : Nat
  outLift : Nat
  outPool : Nat
  deriving DecidableEq, Repr

def gatherCfg (b : List Byte) : GatherCfg := { inLift := leAt b 0 2, outLift := leAt b 2 2, outPool := leAt b 4 2 }

/-- A LOOKUP or GRADIENT buffer. -/
structure GatherBuf where
  kind : Nat
  pool : Nat
  table : Nat
  bags : Nat
  entries : Nat
  elem : Nat
  cols : Nat
  sample : List Nat
  offs : List Nat
  idx : List Nat
  wgt : List Nat
  grad : List (List Nat)
  deriving DecidableEq, Repr

/-- Whether a buffer's header asks for a separate index handle. -/
def gatherSeparate (b : List Byte) : Bool := bitAt (leAt b 0x0D 1) 0

def u32s (b : List Byte) (o n : Nat) : List Nat := (List.range n).map (fun i => leAt b (o + 4 * i) 4)

/-- Rows of results or gradients: ENTRIES under NONE, else BAGS. -/
def rOut (pool bags entries : Nat) : Nat := if pool = 0 then entries else bags

/-- R374, R375 check 1: the buffer, with its separate index buffer, or none when malformed. -/
def gatherBuf (b : List Byte) (sep : Option (List Byte)) : Option GatherBuf :=
  let kind := leAt b 0 1
  let pool := leAt b 1 1
  let bags := leAt b 4 4
  let entries := leAt b 8 4
  let elem := leAt b 0x0C 1
  let cols := leAt b 0x0E 2
  let flags := leAt b 0x0D 1
  if b.length < 64 || !(kind = 1 || kind = 3) || 3 < pool || bags = 0 || 65536 < bags || 1048576 < entries || 1 < flags
      || leAt b 0x10 48 != 0 || (kind = 1 && (elem != 0 || cols != 0)) || 1 < elem then none
  else
    let a1 := 64 + ceil64 (4 * bags)
    let a2 := a1 + ceil64 (4 * (bags + 1))
    let a3 := if flags = 1 then a2 else a2 + ceil64 (4 * entries)
    let a4 := if pool = 3 then a3 + ceil64 (4 * entries) else a3
    let gr := ceil64 (cols * elemBits elem / 8)
    let stop := if kind = 3 then a4 + rOut pool bags entries * gr
      else if pool = 3 then a3 + 4 * entries else if flags = 1 then a1 + 4 * (bags + 1) else a2 + 4 * entries
    if b.length < stop then none
    else
      let offs := u32s b a1 (bags + 1)
      if offs.headD 1 != 0 || offs.getLastD 0 != entries || !(offs.zip (offs.drop 1)).all (fun p => decide (p.1 ≤ p.2)) then none
      else
        let idx : Option (List Nat) :=
          if flags = 1 then
            match sep.bind columnOf with
            | some c => if c.type = 0x0E && c.count = entries then some ((List.range entries).map c.code) else none
            | none => none
          else some (u32s b a2 entries)
        idx.map (fun idx =>
          { kind := kind, pool := pool, table := leAt b 2 2, bags := bags, entries := entries, elem := elem, cols := cols
            sample := u32s b 64 bags, offs := offs, idx := idx, wgt := if pool = 3 then u32s b a3 entries else []
            grad := if kind = 3 then (List.range (rOut pool bags entries)).map (fun r =>
                let row := (b.drop (a4 + r * gr)).take gr
                (List.range cols).map (fun i => elemToF32 elem (rowElem elem row i))) else [] })

/-- The entries of each bag: its bag number and the entry numbers. -/
def GatherBuf.bagEntries (g : GatherBuf) : List (Nat × List Nat) :=
  (List.range g.bags).map (fun b => (b, (List.range (g.offs.getD (b + 1) 0 - g.offs.getD b 0)).map (fun i => g.offs.getD b 0 + i)))

def TableRec.valid (x : TableRec) (r : Nat) : Bool := decide (r < x.rows)

/-! ### Lookup and pooling (R376 to R378) -/

/-- R377: one pooled row: weights and rows of its entries in ascending position, as FP32 bits. -/
def poolRow (pool cols : Nat) (es : List (Nat × List Nat)) : List Nat :=
  (List.range cols).map (fun i =>
    let acc := es.foldl (fun acc e => fadd acc (let x := e.2.getD i 0; if pool = 3 then fmul e.1 x else x)) 0
    if pool = 2 && !es.isEmpty then fdiv acc (toF32 (FP.ofInt es.length)) else acc)

/-- The header of a RESULT (R373). -/
def resultHeader (g : GatherBuf) (x : TableRec) (zeroed : Nat) : List Byte :=
  u8 2 ++ u8 g.pool ++ u16 g.table ++ u32 g.bags ++ u32 g.entries ++ u8 x.outElem ++ u8 0 ++ u16 x.colCount ++ u32 x.colFirst
    ++ u32 zeroed ++ zeros 40

/-- The elements of the row an entry reads, as FP32 bits; zeros for an invalid entry under ZERO. -/
def Device.entryRow (d : Device) (die : Nat) (x : TableRec) (e : EmbTable) (r : Nat) : List Nat :=
  if x.valid r then
    let row := d.read (d.placeAddr die x r (e.placeOf x r)) x.wb
    (List.range x.colCount).map (fun i => elemToF32 x.elem (rowElem x.elem row i))
  else List.replicate x.colCount 0

/-- R377, R378: the bytes of a RESULT. -/
def Device.lookupResult (d : Device) (die : Nat) (x : TableRec) (e : EmbTable) (g : GatherBuf) : List Byte :=
  let zeroed := (g.idx.filter (fun r => !x.valid r)).length
  let entry (p : Nat) := (g.wgt.getD p 0, d.entryRow die x e (g.idx.getD p 0))
  let rows := if g.pool = 0 then (List.range g.entries).map (fun p => (entry p).2)
    else g.bagEntries.map (fun b => poolRow g.pool x.colCount (b.2.map entry))
  let samples := if g.pool = 0 then g.bagEntries.flatMap (fun b => b.2.map (fun _ => g.sample.getD b.1 0)) else g.sample
  let s := samples.flatMap u32
  resultHeader g x zeroed ++ s ++ zeros (ceil64 s.length - s.length)
    ++ rows.flatMap (fun r => let b := packRow x.outElem (r.map (f32To x.outElem)); b ++ zeros (x.outRow - b.length))

/-- R375 check 2 for any buffer. -/
def Device.gatherTable (d : Device) (die k t : Nat) : Option TableRec := (d.tableOf die t).filter (fun x => bitAt x.gatherMask k)

/-- The instance is serving an apply (R397, R400). -/
def Device.gatherApplying (d : Device) (die k : Nat) : Bool :=
  match d.plan.active with
  | some pl => (tablesOf pl.image die).any (fun x => bitAt x.gatherMask k && (d.embT (embKey die x.id)).apply.isSome)
  | none => false

/-- The next buffer of IN_LIFT, and whether it needs a second handle. -/
def Device.gatherHead (d : Device) (die : Nat) (cfg : List Byte) : Option (Nat × Bool) :=
  (d.liftQ (4096 * die + (gatherCfg cfg).inLift)).head?.map (fun e =>
    let h := d.read e.h.addr (min 64 e.h.len)
    (leAt h 0 1, gatherSeparate h))

/-- A free instance that serves no apply takes the next buffer when `want` holds of its KIND, with its index handle. -/
def Device.gatherBegin (d : Device) (die k : Nat) (want : Nat → Bool) (f : List Byte → List LiftEntry → Device → Device) : Device :=
  if d.gatherApplying die k then d
  else match d.stationCfg die 4 k with
    | none => d
    | some cfg =>
      let d' := d.discardFront (4096 * die + (gatherCfg cfg).inLift)
      match d'.gatherHead die cfg with
      | some (kind, sep) => if want kind then d'.beginRun die 4 k (fun b => (gatherCfg b).inLift) (fun _ => if sep then 2 else 1) f else d'
      | none => d'

def Device.gatherFail (d : Device) (die k code : Nat) (j : Job) : Device :=
  d.failJob (stKey die 4 k) (Reg.GATHER_JOBS_FAILED die k) (Reg.GATHER_LAST_FAIL die k) code j

/-- The buffer of a job's handles, under check 1. -/
def Device.gatherRead (d : Device) (hs : List LiftEntry) : Option GatherBuf :=
  match hs with
  | [e] => gatherBuf (d.handleData e) none
  | [e, i] => gatherBuf (d.handleData e) (some (d.handleData i))
  | _ => none

/-- A row that a lookup reads is poisoned (R488). -/
def Device.rowPoisoned (d : Device) (die : Nat) (x : TableRec) (e : EmbTable) (r : Nat) : Bool :=
  d.poisoned (d.placeAddr die x r (e.placeOf x r)) x.wb

/-- The entries of a lookup buffer in the order in which the instance reaches them: the code of the first that aborts its task, an index that
is invalid under POLICY FAULT (R375) or one whose row is poisoned (R488). -/
def Device.reachEntries (d : Device) (die : Nat) (x : TableRec) (e : EmbTable) (idx : List Nat) : Option Nat :=
  idx.findSome? (fun r =>
    if x.valid r then (if d.rowPoisoned die x e r then some 0x0F12 else none)
    else if x.policyZero then none else some 0x0315)

/-- GATHER_LOOKUP_JOB (R375 to R378): every buffer that is no GRADIENT; its result is formed from the committed records. -/
def execGatherLookupJob (dd : Fin 4) (k : Fin 16) (st : State) : Host.Outcome State Fault Refusal :=
  st.upd (fun d => d.gatherBegin dd.val k.val (· != 3) (fun cfg hs d =>
    let die := dd.val
    let tag := (hs.head?.map (·.tag)).getD 0
    let job : Job := { mode := 1, tag := tag, inputs := hs, seq := 0, words := [], bytes := [] }
    let fail (code : Nat) := d.gatherFail die k.val code job
    if d.inputsPoisoned hs then fail 0x0F12
    else match d.gatherRead hs with
      | none => fail 0x0C13
      | some g => match d.gatherTable die k.val g.table with
        | none => fail 0x0C14
        | some x =>
          let e := d.embT (embKey die x.id)
          let n := rOut g.pool g.bags g.entries
          let valid := g.idx.filter x.valid
          if d.poolSize (poolKey die (gatherCfg cfg).outPool) < 64 + ceil64 (4 * n) + n * x.outRow then fail 0x0C15
          else match d.reachEntries die x e g.idx with
          | some code => fail code
          | none =>
            let hits (s : Nat) := (valid.filter (fun r => (e.placeOf x r).store = s)).length
            d.setJob (stKey die 4 k.val)
              { job with words := [x.id, hits 1, hits 2, g.idx.length - valid.length] ++ valid, bytes := d.lookupResult die x e g }))

/-! ### Gradients (R383, R384) -/

/-- R383: the contributions of a GRADIENT buffer in entry order. -/
def GatherBuf.contributions (g : GatherBuf) (x : TableRec) : List Contribution :=
  g.bagEntries.flatMap (fun b => b.2.filterMap (fun p =>
    let r := g.idx.getD p 0
    if !x.valid r then none
    else
      let v := match g.pool with
        | 0 => g.grad.getD p []
        | 1 => g.grad.getD b.1 []
        | 2 => (g.grad.getD b.1 []).map (fun y => fdiv y (toF32 (FP.ofInt b.2.length)))
        | _ => (g.grad.getD b.1 []).map (fun y => fmul y (g.wgt.getD p 0))
      some { row := r, sample := g.sample.getD b.1 0, pos := p - g.offs.getD b.1 0, vec := v }))

/-- Log entries in use: appended, being applied, and reserved by live tasks (R384). -/
def EmbTable.logHeld (e : EmbTable) : Nat :=
  e.log.length + (match e.apply with | some a => a.entries.length | none => 0) + e.staged.length

/-- GATHER_GRADIENT_JOB (R375, R383, R384). -/
def execGatherGradientJob (dd : Fin 4) (k : Fin 16) (st : State) : Host.Outcome State Fault Refusal :=
  st.upd (fun d => d.gatherBegin dd.val k.val (· = 3) (fun _ hs d =>
    let die := dd.val
    let tag := (hs.head?.map (·.tag)).getD 0
    let job : Job := { mode := 3, tag := tag, inputs := hs, seq := 0, words := [], bytes := [] }
    let fail (code : Nat) := d.gatherFail die k.val code job
    if d.inputsPoisoned hs then fail 0x0F12
    else match d.gatherRead hs with
      | none => fail 0x0C13
      | some g => match d.gatherTable die k.val g.table with
        | none => fail 0x0C14
        | some x =>
          let key := embKey die x.id
          let e := d.embT key
          let bad := (g.idx.filter (fun r => !x.valid r)).length
          if x.opt = 0 || g.cols != x.colCount || tagStage tag != x.updateStage then fail 0x0C14
          else if x.logEntries < e.logHeld + (g.entries - bad) then fail 0x0C16
          else if !x.policyZero && decide (0 < bad) then fail 0x0315
          else
            (d.setEmb key { e with staged := e.staged ++ (g.contributions x).map (fun c => (tag, c)) }).setJob (stKey die 4 k.val)
              { job with words := [x.id, 0, 0, bad] }))

/-- GATHER_JOB_END (R375, R378): a lookup pushes its result in one burst and stages its sketch increments; a gradient job has
staged its contributions. -/
def execGatherJobEnd (dd : Fin 4) (k : Fin 16) (st : State) : Host.Outcome State Fault Refusal :=
  st.upd (fun d => d.withJob dd.val 4 k.val (fun b j d =>
    let die := dd.val
    let key := stKey die 4 k.val
    let c := gatherCfg b
    let t := j.words.getD 0 0
    let bad := j.words.getD 3 0
    let valid := j.words.drop 4
    let fin (d : Device) : Device := ((d.dropJob key).releaseInputs key j).count (Reg.GATHER_JOBS_DONE die k.val) 64 1
    let counts (d : Device) : Device :=
      let e := d.embT (embKey die t)
      let d := if j.mode = 3 then d else d.setEmb (embKey die t) { e with lookups := e.lookups ++ valid.map (fun r => (j.tag, r)) }
      let d := (d.count (Reg.EMB_ZEROED die t) 64 bad).count (Reg.TENSOR_INDEX_ZERO_COUNT die) 64 bad
      ((d.count (Reg.EMB_LOOKUPS die t) 64 valid.length).count (Reg.EMB_CACHE_HITS die t) 64 (j.words.getD 1 0)).count
        (Reg.EMB_AREA_HITS die t) 64 (j.words.getD 2 0)
    if j.mode = 3 then fin (counts d)
    else if j.pushed then d.afterPush key fin
    else d.jobOutputs key (poolKey die c.outPool) (d.stationOut die 4 k.val 1 c.outLift) j ((j.inputs.getLast?.map (·.h.last)).getD false) false
      [j.bytes] counts fin))

/-! ### What the commit and the abort of a task do to a table (R159, R380, R381, R384) -/

/-- R381: a row challenges its set of a store. -/
def EmbTable.challenge (e : EmbTable) (x : TableRec) (store r : Nat) : EmbTable :=
  if !x.hasStore store then e
  else
    let s := e.store store
    let k := x.set store r
    let est := e.est x.seed r
    let takes := match s.chal.get? k with
      | none => true
      | some (row, old) => row = r || decide (old < est)
    if takes then e.setStore store { s with chal := s.chal.put k (r, est) } else e

/-- One valid lookup entry of a committing task. -/
def EmbTable.lookedUp (e : EmbTable) (x : TableRec) (r : Nat) : EmbTable :=
  let e := e.increment x.seed r
  if e.moving r || (e.placeOf x r).store != 0 then e else (e.challenge x 1 r).challenge x 2 r

/-- The commit of a task applies its increments and appends its contributions. -/
def Device.embCommit (d : Device) (tag : Nat) : Device :=
  d.emb.foldl (fun d p =>
    match d.tableOf (p.1 / 64) (p.1 % 64) with
    | none => d
    | some x =>
      let e := (p.2.lookups.filter (fun l => l.1 = tag)).foldl (fun e l => e.lookedUp x l.2) p.2
      d.setEmb p.1 { e with lookups := e.lookups.filter (fun l => l.1 != tag), staged := e.staged.filter (fun l => l.1 != tag)
                            log := e.log ++ (e.staged.filter (fun l => l.1 = tag)).map (·.2) }) d

/-- The abort order of a task on a die drops them. -/
def Device.embAbort (d : Device) (die tag : Nat) : Device :=
  { d with emb := d.emb.mapVals (fun k e =>
      if k / 64 = die then { e with lookups := e.lookups.filter (fun l => l.1 != tag), staged := e.staged.filter (fun l => l.1 != tag) } else e) }

/-! ### Rounds (R389 to R393) -/

/-- The frames of a store in use: those of its ways, those bound by moves, those not yet returned. -/
def EmbStore.used (s : EmbStore) (store : Nat) (moves : List EmbMove) : List Nat :=
  s.ways.map (fun w => w.2.2) ++ (moves.filter (fun m => m.dst.store = store)).map (fun m => m.dst.frame) ++ s.vacated

/-- The lowest spare frame. -/
def EmbStore.spare (s : EmbStore) (store limit : Nat) (moves : List EmbMove) : Option Nat :=
  let u := s.used store moves
  ((List.range (u.length + 1)).find? (fun f => f ∉ u)).filter (· < limit)

/-- The way of a set with the lowest estimate, an empty one first (R389): way key, what it holds, whether it is empty or its estimate. -/
def EmbTable.victim (e : EmbTable) (x : TableRec) (store set : Nat) : Nat × Option (Nat × Nat) × Nat :=
  (List.range 8).foldl (fun (best : Nat × Option (Nat × Nat) × Nat) w =>
    let k := 8 * set + w
    let h := (e.store store).ways.get? k
    let v := match h with | none => 0 | some (r, _) => 1 + e.est x.seed r
    if w = 0 || v < best.2.2 then (k, h, v) else best) (0, none, 0)

/-- The decision for one store: the challengers in order of their sets. -/
def EmbTable.decide (e : EmbTable) (x : TableRec) (store : Nat) (moves : List EmbMove) : List EmbMove :=
  if !x.hasStore store then moves
  else
    let s := e.store store
    (s.chal.foldl (fun (acc : List EmbMove × Nat) c =>
      let r := c.2.1
      if x.migMax ≤ acc.2 || acc.1.any (·.row = r) then acc
      else
        let v := e.victim x store c.1
        if 1 + e.est x.seed r ≤ v.2.2 then acc
        else match s.spare store (8 * x.sets store + x.migMax) acc.1 with
          | none => acc
          | some f =>
            let m : EmbMove := { row := r, src := e.placeOf x r, dst := { store := store, way := v.1, frame := f } }
            let home := match v.2.1 with
              | some (row, g) => if acc.1.any (·.row = row) then [] else
                  [({ row := row, src := { store := store, way := v.1, frame := g }, dst := { store := 0, way := 0, frame := 0 } } : EmbMove)]
              | none => []
            (acc.1 ++ [m] ++ home, acc.2 + 1)) (moves, 0)).1

/-- R393: every row of both stores goes home. -/
def EmbTable.flushMoves (e : EmbTable) : List EmbMove :=
  [1, 2].flatMap (fun s => (e.store s).ways.map (fun w =>
    { row := w.2.1, src := { store := s, way := w.1, frame := w.2.2 }, dst := { store := 0, way := 0, frame := 0 } }))

def EmbRound.new (moves : List EmbMove) (flush : Bool) : EmbRound :=
  { moves := moves, flush := flush, copied := false, carried := false, replayed := false, fwd := [] }

/-- R382: every counter halved, every challenger cleared. -/
def EmbTable.halve (e : EmbTable) : EmbTable :=
  { e with sketch := (e.sketch.map (fun c => (c.1, c.2 / 2))).filter (fun c => c.2 != 0)
           cache := { e.cache with chal := [] }, area := { e.area with chal := [] } }

/-- The host's flush is done: GO clears (R393). -/
def Device.flushDone (d : Device) (die key : Nat) : Device :=
  ((d.setEmb key { d.embT key with flush := false }).setFld (Reg.EMB_CMD die) Fd.EMB_CMD_GO 0).setFld (Reg.EMB_CMD die) Fd.EMB_CMD_CODE 0

/-- A flush round begins; with no row away from home it is over at once. -/
def Device.beginFlush (d : Device) (die key : Nat) : Device :=
  let e := d.embT key
  if e.flushMoves.isEmpty then (if e.flush then d.flushDone die key else d)
  else d.setEmb key { e with round := some (EmbRound.new e.flushMoves true) }

/-- R382, R389, R393: the Night of one table: a flush round, a decision or neither, then the halving. -/
def Device.embNightTable (d : Device) (die : Nat) (x : TableRec) : Device :=
  let key := embKey die x.id
  let e := d.embT key
  let d := if e.round.isSome || e.retiring != 0 then d
    else if e.flush then d.beginFlush die key
    else
      let ms := e.decide x 2 (e.decide x 1 [])
      if ms.isEmpty then d else d.setEmb key { e with round := some (EmbRound.new ms false) }
  d.setEmb key (d.embT key).halve

/-- Every table of the active plan. -/
def Device.allTables (d : Device) : List (Nat × TableRec) :=
  match d.plan.active with
  | some pl => (List.range 4).flatMap (fun die => (tablesOf pl.image die).map (fun x => (die, x)))
  | none => []

/-- The Night actions of all tables. -/
def Device.embNight (d : Device) : Device :=
  d.allTables.foldl (fun d x => if d.dieContained x.1 then d else d.embNightTable x.1 x.2) d

/-- R385: PHASE reaches B3 while an apply runs. -/
def Device.embLate (d : Device) : Device :=
  d.allTables.foldl (fun d x =>
    if (d.embT (embKey x.1 x.2.id)).apply.isSome then d.count (Reg.EMB_APPLY_LATE x.1 x.2.id) 32 1 else d) d

/-- R392: a round due in a Night that ends, or was not reached, is carried; whether there was one. -/
def Device.embCarry (d : Device) : Device × Bool :=
  let due (e : EmbTable) := match e.round with | some r => r.copied && e.apply.isNone | none => false
  ({ d with emb := d.emb.mapVals (fun _ e =>
      if due e then { e with round := e.round.map (fun r => { r with carried := true }) } else e) }, d.emb.any (fun e => due e.2))

/-- R546: bytes copied from place to place; a poisoned granule leaves its copy poisoned. -/
def Device.copyRecord (d : Device) (src dst n : Nat) : Device :=
  let d' := d.write dst (d.read src n)
  (List.range (ceilDiv n 64)).foldl (fun d' i => if d.poisoned (src + 64 * i) 64 then d'.poisonRange (dst + 64 * i) 64 else d') d'

/-- The records of some moves copied from their old to their new places. -/
def Device.copyMoves (d : Device) (die : Nat) (x : TableRec) (ms : List EmbMove) : Device :=
  ms.foldl (fun d m => d.copyRecord (d.placeAddr die x m.row m.src) (d.placeAddr die x m.row m.dst) x.rrec) d

/-- The plan switch has reached its drain (step 3 of R85). -/
def Device.draining (d : Device) : Bool := match d.plan.switch with | .draining => true | _ => false

/-- A table's event acts while the table is defined and its die is not contained. -/
def Device.onTable (d : Device) (die t : Nat) (f : TableRec → EmbTable → Device → Device) : Device :=
  match d.tableOf die t with
  | none => d
  | some x => if d.dieContained die then d else f x (d.embT (embKey die t)) d

/-- MIGRATION_COPY_END (R390). -/
def execMigrationCopyEnd (dd : Fin 4) (t : Fin 64) (st : State) : Host.Outcome State Fault Refusal :=
  st.upd (fun d => d.onTable dd.val t.val (fun x e d =>
    match e.round with
    | none => d
    | some r =>
      if r.copied || d.stationStopped dd.val 7 x.traverse then d
      else (d.copyMoves dd.val x r.moves).setEmb (embKey dd.val t.val) { e with round := some { r with copied := true } }))

/-- R392: the round is due: its copy has ended, no apply runs, and PHASE is in Night, or the round is carried, or a plan switch waits for it. -/
def Device.roundDue (d : Device) (e : EmbTable) (r : EmbRound) : Bool :=
  r.copied && e.apply.isNone && (decide (d.b3 ≤ d.phase) || r.carried || d.draining)

/-- ROUND_REPLAY (R392): each logged row is copied again. -/
def execRoundReplay (dd : Fin 4) (t : Fin 64) (st : State) : Host.Outcome State Fault Refusal :=
  st.upd (fun d => d.onTable dd.val t.val (fun x e d =>
    match e.round with
    | none => d
    | some r =>
      if r.replayed || !d.roundDue e r || d.stationStopped dd.val 7 x.traverse then d
      else (d.copyMoves dd.val x (r.fwd.flatMap (fun row => r.moves.filter (·.row = row)))).setEmb (embKey dd.val t.val)
        { e with round := some { r with replayed := true } }))

/-- The ways of a store after a cut-over, and its frames vacated. -/
def EmbStore.cutOver (s : EmbStore) (store : Nat) (ms : List EmbMove) : EmbStore :=
  let out := ms.filter (fun m => m.src.store = store)
  let w := out.foldl (fun w m => Map.del w m.src.way) s.ways
  { s with ways := (ms.filter (fun m => m.dst.store = store)).foldl (fun w m => Map.put w m.dst.way (m.row, m.dst.frame)) w
           vacated := s.vacated ++ out.map (fun m => m.src.frame) }

/-- CUT_OVER (R392, R393): the tags change, MOVING clears; a host flush clears GO. -/
def execCutOver (dd : Fin 4) (t : Fin 64) (st : State) : Host.Outcome State Fault Refusal :=
  st.upd (fun d => d.onTable dd.val t.val (fun _ e d =>
    match e.round with
    | none => d
    | some r =>
      if !r.replayed then d
      else
        let key := embKey dd.val t.val
        let d := d.setEmb key { e with round := none, cache := e.cache.cutOver 1 r.moves, area := e.area.cutOver 2 r.moves }
        let d := (d.count (Reg.EMB_MIGRATED dd.val t.val) 64 r.moves.length).count (Reg.EMB_FORWARDED dd.val t.val) 64 r.fwd.length
        let d := if r.flush && e.flush then d.flushDone dd.val key else d
        if e.retiring = 2 then d.beginFlush dd.val key else d))

/-- FRAME_RETURN (R392): the reads that began before the cut-over have completed: a vacated frame is spare again. -/
def execFrameReturn (dd : Fin 4) (t : Fin 64) (area : Bool) (frame : Nat) (st : State) : Host.Outcome State Fault Refusal :=
  st.upd (fun d => d.onTable dd.val t.val (fun _ e d =>
    let s := if area then 2 else 1
    d.setEmb (embKey dd.val t.val) (e.setStore s { e.store s with vacated := (e.store s).vacated.filter (· != frame) })))

/-! ### The apply (R385 to R388) -/

/-- APPLY_START (R385, R387): T moves up, and ADAM's powers; the contributions appended so far are taken. -/
def execApplyStart (dd : Fin 4) (t : Fin 64) (st : State) : Host.Outcome State Fault Refusal :=
  st.upd (fun d => d.onTable dd.val t.val (fun x e d =>
    let replaying := match e.round with | some r => r.replayed | none => false
    let last := e.retiring = 1 && d.str.tasks.all (fun k => !k.2.live)
    if d.mgmt.gated || x.opt = 0 || e.apply.isSome || replaying || (!last && (e.retiring != 0 || e.appliedStep = some d.stepNum)) then d
    else
      let d := if last then d else d.reachPhase x.applyPu
      let p1 := if x.opt = 3 then fmul e.p1 x.beta1 else e.p1
      let p2 := if x.opt = 3 then fmul e.p2 x.beta2 else e.p2
      (d.count (Reg.EMB_STEP dd.val t.val) 64 1).setEmb (embKey dd.val t.val)
        { e with p1 := p1, p2 := p2, log := [], appliedStep := some d.stepNum
                 apply := some { entries := e.log, last := last, lr := d.fld (Reg.EMB_LR dd.val t.val) Fd.EMB_LR_LR, p1 := p1, p2 := p2 } }))

/-- R386: row, then sample, then position, then sequence (the sort is stable). -/
def Contribution.before (a b : Contribution) : Bool :=
  a.row < b.row || (a.row = b.row && (a.sample < b.sample || (a.sample = b.sample && a.pos < b.pos)))

/-- The rows touched, ascending, each with its contributions in order. -/
def groupRows (cs : List Contribution) : List (Nat × List Contribution) :=
  (sortLt Contribution.before cs).foldr (fun c acc =>
    match acc with
    | (r, l) :: rest => if r = c.row then (r, c :: l) :: rest else (c.row, [c]) :: acc
    | [] => [(c.row, [c])]) []

/-- The constants of an apply (R387). -/
structure OptConsts where
  opt : Nat
  lr : Nat
  eps : Nat
  b1 : Nat
  b2 : Nat
  nb1 : Nat
  nb2 : Nat
  c1 : Nat
  c2 : Nat
  deriving DecidableEq, Repr

def f32One : Nat := 0x3F80_0000

def optConsts (x : TableRec) (a : EmbApply) : OptConsts :=
  { opt := x.opt, lr := a.lr, eps := x.eps, b1 := x.beta1, b2 := x.beta2, nb1 := fsub f32One x.beta1, nb2 := fsub f32One x.beta2
    c1 := fdiv f32One (fsub f32One a.p1), c2 := fdiv f32One (fsub f32One a.p2) }

/-- R387: one column: weight, first and second state word, gradient sum; their new values. -/
def optColumn (c : OptConsts) (w m v g : Nat) : Nat × Nat × Nat :=
  match c.opt with
  | 1 => (fsub w (fmul c.lr g), m, v)
  | 2 =>
    let a := fadd m (fmul g g)
    (fsub w (fdiv (fmul c.lr g) (fadd (fsqrt a) c.eps)), a, v)
  | _ =>
    let m := fadd (fmul c.b1 m) (fmul c.nb1 g)
    let v := fadd (fmul c.b2 v) (fmul c.nb2 (fmul g g))
    let den := fadd (fsqrt (fmul v c.c2)) c.eps
    (fsub w (fdiv (fmul c.lr (fmul m c.c1)) den), m, v)

/-- The new record of a row. -/
def optRow (x : TableRec) (c : OptConsts) (old : List Byte) (cs : List Contribution) : List Byte :=
  let cols := (List.range x.colCount).map (fun i =>
    let g := cs.foldl (fun s y => fadd s (y.vec.getD i 0)) 0
    let m := if x.opt = 2 || x.opt = 3 then leAt old (x.soff + 4 * i) 4 else 0
    let v := if x.opt = 3 then leAt old (x.soff + 4 * x.colCount + 4 * i) 4 else 0
    optColumn c (elemToF32 x.elem (rowElem x.elem old i)) m v g)
  let w := packRow x.elem (cols.map (fun y => f32To x.elem y.1))
  let state := (if x.opt = 2 || x.opt = 3 then cols.flatMap (fun y => u32 y.2.1) else [])
    ++ (if x.opt = 3 then cols.flatMap (fun y => u32 y.2.2) else [])
  let b := w ++ zeros (x.soff - w.length) ++ state
  b ++ zeros (x.rrec - b.length)

/-- R386, R388, R391: one row is updated at its present place; a MOVING row enters the forwarding log once; a poisoned row is left as
it is (R546). -/
def Device.applyRow (d : Device) (die : Nat) (x : TableRec) (c : OptConsts) (key : Nat) (r : Nat) (cs : List Contribution) : Device :=
  let e := d.embT key
  let a := d.placeAddr die x r (e.placeOf x r)
  if d.poisoned a x.rrec then
    d.errqEnter (d.ownerQueue a) { code := 0x0F12, severity := 3, loc := d.memoryLoc a, arg0 := a, arg1 := x.id, arg2 := r }
  else
    let d := (d.write a (optRow x c (d.read a x.rrec) cs)).count (Reg.EMB_ROWS_UPDATED die x.id) 64 1
    let d := d.count (Reg.EMB_CONTRIBS die x.id) 64 cs.length
    if e.moving r then
      d.setEmb key { e with round := e.round.map (fun rd => { rd with fwd := addNew rd.fwd r }) }
    else d

/-- R397: an instance that serves the apply still has the job in hand that it finishes first. -/
def Device.applyWaits (d : Device) (die : Nat) (x : TableRec) : Bool :=
  (List.range 16).any (fun k => bitAt x.gatherMask k && (d.job (stKey die 4 k)).isSome)

/-- APPLY_END (R386 to R388, R397); after the last apply of a table that a switch retires comes its flush (R394). -/
def execApplyEnd (dd : Fin 4) (t : Fin 64) (st : State) : Host.Outcome State Fault Refusal :=
  st.upd (fun d => d.onTable dd.val t.val (fun x e d =>
    match e.apply with
    | none => d
    | some a =>
      if d.mgmt.gated || d.applyWaits dd.val x then d
      else
        let key := embKey dd.val t.val
        let c := optConsts x a
        let d := (groupRows a.entries).foldl (fun d g => d.applyRow dd.val x c key g.1 g.2) d
        let e := d.embT key
        let d := d.setEmb key { e with apply := none, retiring := if a.last then 2 else e.retiring }
        if a.last && e.round.isNone then d.beginFlush dd.val key else d))

/-! ### EMB_CMD (R393, R398) -/

/-- A write of EMB_CMD with GO = 1. -/
def Device.embFlushCmd (d : Device) (die t action : Nat) : Device :=
  let d' := (d.setFld (Reg.EMB_CMD die) Fd.EMB_CMD_TABLE t).setFld (Reg.EMB_CMD die) Fd.EMB_CMD_ACTION action
  if d.emb.any (fun e => e.1 / 64 = die && e.2.flush) then d.refuse 0x0C06 die
  else if action != 0 then (d.setFld (Reg.EMB_CMD die) Fd.EMB_CMD_CODE 0x0C02).refuse 0x0C02 die
  else if (d.tableOf die t).isNone then (d.setFld (Reg.EMB_CMD die) Fd.EMB_CMD_CODE 0x0C05).refuse 0x0C05 die
  else (d'.setFld (Reg.EMB_CMD die) Fd.EMB_CMD_GO 1).setEmb (embKey die t) { d.embT (embKey die t) with flush := true }

/-- EMB_FLUSH (R393). -/
def execEmbFlush (dd : Fin 4) (t : Fin 64) (action : Fin 4) (st : State) : Host.Outcome State Fault Refusal :=
  st.write64 (Reg.EMB_CMD dd.val) (fun d => d.embFlushCmd dd.val t.val action.val)

/-! ### Plan switches (R394, R395) -/

/-- A record with LR, APPLY_PU, UPDATE_STAGE, GATHER_MASK, MIG_TRAVERSE, POLICY and OUT_ELEM set aside. -/
def TableRec.core (x : TableRec) : TableRec :=
  { x with lr := 0, applyPu := 0, updateStage := 0, gatherMask := 0, traverse := 0, policyZero := false, outElem := 0 }

/-- R394: table `x` of the incoming plan keeps the state of a table of the outgoing one. -/
def keptTable (old : List Byte) (die : Nat) (x : TableRec) : Bool :=
  x.keep && (tablesOf old die).any (fun y => y.core = x.core)

/-- R394: the switch has begun its drain: every table that will not be kept owes its last apply and a flush. -/
def Device.embRetire (d : Device) (new : List Byte) : Device :=
  d.allTables.foldl (fun d y =>
    if (tablesOf new y.1).any (fun x => x.keep && x.core = y.2.core) then d
    else
      let key := embKey y.1 y.2.id
      let e := d.embT key
      let r := if y.2.opt = 0 then 2 else 1
      let d := d.setEmb key { e with retiring := r }
      if r = 2 && e.round.isNone then d.beginFlush y.1 key else d) d

/-- R394: no table keeps the switch waiting. -/
def Device.embQuiet (d : Device) : Bool :=
  d.allTables.all (fun y =>
    let e := d.embT (embKey y.1 y.2.id)
    e.round.isNone && e.apply.isNone && e.retiring != 1)

/-- R395, R400: the incoming plan's tables: kept, or started afresh; a KEEP that finds no match is recorded. -/
def Device.embInstall (d : Device) (old : Option (List Byte)) (new : List Byte) : Device :=
  let kept (die : Nat) (x : TableRec) := match old with | some o => keptTable o die x | none => false
  let news := (List.range 4).flatMap (fun die => (tablesOf new die).map (fun x => (die, x)))
  let keepKeys := (news.filter (fun y => kept y.1 y.2)).map (fun y => embKey y.1 y.2.id)
  let d := { d with emb := d.emb.filter (fun e => e.1 ∈ keepKeys) }
  let d := (List.range 256).foldl (fun d key =>
    if key ∈ keepKeys then d
    else
      let lo := Reg.EMB_STATUS (key / 64) (key % 64)
      { d with regs := d.regs.filter (fun e => decide (e.1 < lo) || decide (lo + 0x80 ≤ e.1)) }) d
  news.foldl (fun d y =>
    let key := embKey y.1 y.2.id
    let d := (d.setFld (Reg.EMB_STATUS y.1 y.2.id) Fd.EMB_STATUS_KEPT (bit (kept y.1 y.2))).setFld (Reg.EMB_LR y.1 y.2.id) Fd.EMB_LR_LR y.2.lr
    if y.2.keep && !kept y.1 y.2 then d.record { severity := 2, loc := { kind := 5, die := y.1 }, arg0 := y.2.id }
    else d.setEmb key (d.embT key)) d

end Sys2Proof.Machine
end

