-- ==== Sys2Proof/Machine/Select.lean ====
section
/-!
DEFINITION. The Select station: score buffers, selection, merge, sums, results, routing (chapter 12: R339 to R361).
-/

namespace Sys2Proof.Machine

/-! ### Configuration (R340) and score buffers (R343) -/

structure SelectCfg where
  inLift : Nat
  outLift : Nat
  outPool : Nat
  op : Nat
  asc : Bool
  expsum : Bool
  indexed : Bool
  k : Nat
  scale : Nat
  openRows : Nat
  experts : Nat
  deriving DecidableEq, Repr

def selectCfg (b : List Byte) : SelectCfg :=
  { inLift := leAt b 0 2, outLift := leAt b 2 2, outPool := leAt b 4 2, op := leAt b 6 1, asc := bitAt (leAt b 7 1) 0
    expsum := bitAt (leAt b 7 1) 1, indexed := bitAt (leAt b 7 1) 2, k := leAt b 8 4, scale := leAt b 12 4, openRows := leAt b 18 1
    experts := leAt b 20 4 }

structure ScoreHead where
  row : Nat
  type : Nat
  lastPiece : Bool
  piece : Nat
  count : Nat
  indexBase : Nat
  rows : Nat
  stride : Nat
  deriving DecidableEq, Repr

def scoreHead (b : List Byte) : ScoreHead :=
  { row := leAt b 0 4, type := leAt b 4 1, lastPiece := bitAt (leAt b 5 1) 0, piece := leAt b 6 1, count := leAt b 8 4
    indexBase := leAt b 0x0C 4, rows := leAt b 0x10 4, stride := leAt b 0x14 4 }

def selType (t : Nat) : Bool := t = 0x00 || t = 0x01 || t = 0x02 || t = 0x06 || t = 0x0E
def selFloat (t : Nat) : Bool := t ≤ 0x02

/-- Offset of the indices in a row, and the bytes of a row. -/
def indexOff (type count : Nat) : Nat := alignUp (count * elemBits type / 8) 64
def scoreRowBytes (type count : Nat) (indexed : Bool) : Nat := if indexed then indexOff type count + 4 * count else count * elemBits type / 8

def ScoreHead.whole (h : ScoreHead) : Bool := h.piece = 0 && h.lastPiece
/-- The bytes of row `j`. -/
def scoreRow (b : List Byte) (h : ScoreHead) (indexed : Bool) (j : Nat) : List Byte :=
  (b.drop (64 + j * h.stride)).take (scoreRowBytes h.type h.count indexed)

/-- R344: the code of the first failure of a score buffer, if any. -/
def scoreCheck (c : SelectCfg) (b : List Byte) : Option Nat :=
  let h := scoreHead b
  let rb := scoreRowBytes h.type h.count c.indexed
  if b.length < 64 || bitsOf (leAt b 5 1) 1 7 != 0 || leAt b 7 1 != 0 || leAt b 0x18 40 != 0 || !selType h.type || 63 < h.piece
      || h.count = 0 || 65536 < h.count || h.rows = 0 || 65536 < h.rows || h.stride % 64 != 0 || h.stride < rb
      || (!h.whole && h.rows != 1) || b.length < 64 + (h.rows - 1) * h.stride + rb
      || (!c.indexed && 4194304 < h.indexBase + h.count)
      || (c.indexed && (List.range h.rows).any (fun j => (List.range h.count).any (fun i =>
            leAt (scoreRow b h true j) (indexOff h.type h.count + 4 * i) 4 = 0xFFFF_FFFF))) then some 0x0B11
  else if (c.op = 1 || c.op = 2) && !h.whole then some 0x0B12
  else if c.op = 2 && (h.count != c.experts || h.indexBase != 0) then some 0x0B15
  else none

/-! ### Candidates (R339) -/

structure Cand where
  piece : Nat
  pos : Nat
  index : Nat
  code : Nat
  key : Nat
  deriving DecidableEq, Repr

/-- R339: the rank key of a value code. -/
def rankKey (type : Nat) (asc : Bool) (code : Nat) : Nat :=
  let b := if selFloat type then (let f := elemToF32 type code; if f = 0x8000_0000 then 0 else f) else code
  let key := if selFloat type then (if bitAt b 31 then 0xFFFF_FFFF - b else b + 2 ^ 31)
    else if type = 0x06 then (if bitAt b 31 then b - 2 ^ 31 else b + 2 ^ 31) else b
  if asc then 0xFFFF_FFFF - key else key

/-- The candidates of a piece: every value that is not NaN. -/
def candidates (c : SelectCfg) (type : Nat) (p : SelPiece) : List Cand :=
  (List.range p.count).filterMap (fun i =>
    let code := rowElem type p.data i
    if selFloat type && (elemFP type code).isNan then none
    else some { piece := p.no, pos := i, index := if c.indexed then leAt p.data (indexOff type p.count + 4 * i) 4 else p.indexBase + i
                code := code, key := rankKey type c.asc code })

/-- R339: `a` ranks before `b`. -/
def Cand.before (a b : Cand) : Bool := b.key < a.key || (a.key = b.key && a.index < b.index)

def ranked (l : List Cand) : List Cand := sortLt Cand.before l

/-- R348: two values differ, with −0 equal to +0. -/
def Cand.differs (type : Nat) (a b : Cand) : Bool := if selFloat type then !(elemFP type a.code).eq (elemFP type b.code) else a.code != b.code

/-! ### Passes (R347, R358) -/

/-- Digit passes and the collection pass of one round that keeps `need` of ranked candidates. -/
def roundPasses (l : List Cand) (need : Nat) : Nat :=
  let same (j : Nat) := match l[need - 1]?, l[need]? with
    | some a, some b => decide (0 < need) && a.key / 2 ^ (32 - 8 * j) = b.key / 2 ^ (32 - 8 * j)
    | _, _ => false
  match [1, 2, 3].find? (fun j => !same j) with
  | some j => j + 1
  | none => 5

/-- Passes of all rounds over ranked candidates, each round keeping at most 1,024. -/
def rounds : (fuel : Nat) → List Cand → Nat → Nat
  | 0, _, _ => 0
  | f + 1, l, k => roundPasses l (min 1024 (min k l.length)) + (if 1024 < k then rounds f (l.drop 1024) (k - 1024) else 0)

def selPasses (l : List Cand) (k : Nat) : Nat := rounds (ceilDiv k 1024 + 1) l k

/-! ### Sums (R352, R353) -/

/-- t of EXPSUM. -/
def expT (c : SelectCfg) (type code : Nat) : Nat := fmul c.scale (elemToF32 type code)
/-- d of R352. -/
def expD (t m : Nat) : Nat := if (f32 t).eq (f32 m) then 0 else fsub t m
def exp2Bits (d : Nat) : Nat := toF32 (f32 d).exp2

/-- A sum: FP32, or INT64 for an integer TYPE under SUM. -/
def sumAdd (int : Bool) (a b : Nat) : Nat := if int then (a + b) % 2 ^ 64 else fadd a b
def selTerm (c : SelectCfg) (type m : Nat) (x : Cand) : Nat :=
  if c.expsum then exp2Bits (expD (expT c type x.code) m)
  else if selFloat type then elemToF32 type x.code else ofSigned 64 (elemIntVal type x.code)
/-- The largest t of candidates; none without candidates. -/
def maxT (c : SelectCfg) (type : Nat) (l : List Cand) : Option Nat :=
  l.foldl (fun (m : Option Nat) x =>
    let t := expT c type x.code
    match m with
    | none => some t
    | some a => if (f32 a).lt (f32 t) then some t else some a) none

/-! ### A row (R347 to R353) -/

/-- What a row's selection gives. -/
structure RowResult where
  f : List Cand
  kk : Nat
  pieces : Nat
  ties : Nat
  tiesKept : Nat
  sel : Nat
  rest : Nat
  rowMax : Option Nat
  nans : Nat
  conflicts : Nat
  dups : Nat
  cands : Nat
  passes : Nat
  unionPasses : Nat
  deriving DecidableEq, Repr

/-- K' of a row or piece of `n` values (R344). -/
def SelectCfg.keep (c : SelectCfg) (n : Nat) : Nat := if c.op = 1 then n else c.k

/-- The partial list of a piece: NaN values dropped, passes performed (R347). -/
def SelPiece.work (c : SelectCfg) (type : Nat) (p : SelPiece) : Nat × Nat :=
  let cs := candidates c type p
  (p.count - cs.length, selPasses (ranked cs) (c.keep p.count))

def selectRow (c : SelectCfg) (type : Nat) (ps : List SelPiece) : RowResult :=
  let ps := sortBy (fun p => p.no) ps
  let kk := if c.op = 1 then (ps.head?.map (·.count)).getD 0 else c.k
  let per := ps.map (fun p => let cs := candidates c type p; (cs, (ranked cs).take kk))
  let union := per.flatMap (·.2)
  let allC := per.flatMap (·.1)
  let stays (x : Cand) := !(union.any (fun y => y.index = x.index && (y.piece < x.piece || (y.piece = x.piece && y.pos < x.pos))))
  let kept := if c.op = 1 then union else union.filter stays
  let removed := if c.op = 1 then [] else union.filter (fun x => !stays x)
  let conflicts := (removed.filter (fun x => match kept.find? (fun y => y.index = x.index) with | some y => x.differs type y | none => false)).length
  let f := (ranked kept).take kk
  let eqV (x : Cand) := match f.getLast? with | some v => !x.differs type v | none => false
  let int := !c.expsum && !selFloat type
  let m := maxT c type allC
  let mm := m.getD 0
  let sel := f.foldl (fun s x => sumAdd int s (selTerm c type mm x)) 0
  let rest := per.foldl (fun s p =>
    match (if c.expsum then maxT c type p.1 else some 0) with
    | none => s
    | some mp =>
      let r := (p.1.filter (fun x => x ∉ p.2)).foldl (fun s x => sumAdd int s (selTerm c type mp x)) 0
      sumAdd int s (if c.expsum then fmul r (exp2Bits (expD mp mm)) else r)) 0
  let left := sortBy (fun x => x.piece * 65536 + x.pos) (union.filter (fun x => x ∉ f))
  let rest := left.foldl (fun s x => sumAdd int s (selTerm c type mm x)) rest
  { f := f, kk := kk, pieces := ps.length, ties := ((allC.filter eqV).filter (fun x => x ∉ removed)).length, tiesKept := (f.filter eqV).length
    sel := sel, rest := rest, rowMax := if c.expsum then m else some 0
    nans := ps.foldl (fun n p => n + p.count) 0 - allC.length, conflicts := conflicts, dups := removed.length, cands := allC.length
    passes := per.foldl (fun n p => n + selPasses (ranked p.1) kk) 0, unionPasses := if 1 < ps.length then selPasses (ranked union) kk + 1 else 0 }

/-! ### Results (R350, R354, R355, R357) -/

def padValue (type : Nat) : Nat := if selFloat type then 0xFF80_0000 else if type = 0x06 then 0x8000_0000 else 0

/-- The result of a row; `open_` stands for ROW_MAX of a row without candidates, which the manual leaves open. -/
def resultBytes (c : SelectCfg) (type row : Nat) (r : RowResult) (open_ : Nat) : List Byte :=
  let int := !c.expsum && !selFloat type
  let head := u32 row ++ u8 type ++ u8 (bit c.asc + 2 * bit c.expsum + 4 * bit int) ++ u16 r.pieces ++ u32 r.kk ++ u32 r.f.length ++ u32 r.ties
    ++ u32 r.tiesKept ++ u64 r.sel ++ u64 r.rest ++ u32 (r.rowMax.getD open_) ++ u32 r.nans ++ u32 r.conflicts ++ u32 r.dups ++ u32 r.cands ++ u32 0
  let val (x : Cand) := if selFloat type then elemToF32 type x.code else x.code
  let body := r.f.flatMap (fun x => u32 x.index ++ u32 (val x))
    ++ (List.range (r.kk - r.f.length)).flatMap (fun _ => u32 0xFFFF_FFFF ++ u32 (padValue type))
  head ++ body ++ zeros (alignUp body.length 64 - body.length)

/-- R357: the dispatch list over the rows of a job: ROW_ID and F of each. -/
def dispatchList (experts : Nat) (rows : List (Nat × List Cand)) : List Byte :=
  let has (e : Nat) (f : List Cand) := f.zipIdx.find? (fun x => x.1.index = e)
  let counts := (List.range experts).map (fun e => (rows.filter (fun r => (has e r.2).isSome)).length)
  let recs := (List.range experts).flatMap (fun e =>
    (sortBy (fun r => r.1) rows).filterMap (fun r => (has e r.2).map (fun x => u32 r.1 ++ u16 x.2 ++ u16 0)))
  let cb := counts.flatMap u32
  u32 experts ++ u32 (rows.foldl (fun n r => n + r.2.length) 0) ++ zeros 56 ++ cb ++ zeros (alignUp cb.length 64 - cb.length) ++ recs.flatten

/-! ### Meanings -/

def Device.selRows (d : Device) (key : Nat) : List SelRow := d.sel.getD key []
def Device.setSelRows (d : Device) (key : Nat) (l : List SelRow) : Device := { d with sel := d.sel.put key l }

/-- R345: the row holds pieces 0 to L, each once. -/
def SelRow.complete (r : SelRow) : Bool := match r.lastPiece with | some l => r.pieces.length = l + 1 | none => false

/-- R161: an abort discards the open rows of a task on a die. -/
def Device.selAbort (d : Device) (die tag : Nat) : Device :=
  { d with sel := d.sel.mapVals (fun k l => if k / 1024 = die then l.filter (fun r => r.tag != tag) else l) }

/-- R346: why a piece fails its job, given the rows held. -/
def pieceCheck (c : SelectCfg) (rows : List SelRow) (h : ScoreHead) (tag : Nat) (last : Bool) : Option Nat :=
  match rows.find? (fun r => r.tag = tag && r.row = h.row && !r.complete) with
  | some r =>
    if r.pieces.any (fun p => p.no = h.piece) || r.type != h.type
        || (h.lastPiece && (r.lastPiece.isSome || r.pieces.any (fun p => decide (h.piece < p.no))))
        || r.lastPiece.any (fun l => decide (l < h.piece)) then some 0x0B12
    else
      let done := match (if h.lastPiece then some h.piece else r.lastPiece) with | some l => r.pieces.length = l | none => false
      if last && (!done || rows.any (fun y => y.tag = tag && !y.complete && y.row != h.row)) then some 0x0B12 else none
  | none =>
    if c.openRows ≤ (rows.filter (fun r => !r.complete)).length then some 0x0B13
    else if last then some 0x0B12 else none

/-- SELECT_PIECE (R345 to R347): the instance takes the next score buffer, a whole one as a job, any other as a piece of its row, whose partial
list is formed and counted at once (R361); a row that it completes is the instance's job until its result has been pushed. -/
def execSelectPiece (dd : Fin 4) (k : Fin 16) (st : State) : Host.Outcome State Fault Refusal :=
  st.upd (fun d => d.beginJob dd.val 2 k.val (fun b => [(selectCfg b).inLift]) (fun b hs d =>
    match hs with
    | [] => d
    | e :: _ =>
      let key := stKey dd.val 2 k.val
      let c := selectCfg b
      let data := d.handleData e
      let h := scoreHead data
      let job : Job := { mode := 0, tag := e.tag, inputs := hs, seq := 0, words := [], bytes := [] }
      let fail (code : Nat) :=
        (d.setSelRows key ((d.selRows key).filter (fun r => r.tag != e.tag))).failJob key (Reg.SEL_JOBS_FAILED dd.val k.val) (Reg.SEL_LAST_FAIL dd.val k.val) code job
      let rows := d.selRows key
      if d.inputsPoisoned hs then fail 0x0F12
      else match scoreCheck c data with
        | some code => fail code
        | none =>
          if h.whole then
            (if e.h.last && rows.any (fun r => r.tag = e.tag && !r.complete) then fail 0x0B12 else d.setJob key job)
          else match pieceCheck c rows h e.tag e.h.last with
            | some code => fail code
            | none =>
              let p : SelPiece := { no := h.piece, count := h.count, indexBase := h.indexBase, data := scoreRow data h c.indexed 0 }
              let add (r : SelRow) : SelRow :=
                { r with pieces := r.pieces ++ [p], lastPiece := if h.lastPiece then some h.piece else r.lastPiece, last := r.last || e.h.last }
              let new : SelRow := { tag := e.tag, row := h.row, type := h.type, lastPiece := none, last := false, pieces := [] }
              let rows' := if rows.any (fun r => r.tag = e.tag && r.row = h.row && !r.complete) then
                  rows.map (fun r => if r.tag = e.tag && r.row = h.row && !r.complete then add r else r)
                else rows ++ [add new]
              let w := p.work c h.type
              let d := (d.count (Reg.SEL_NAN_COUNT dd.val k.val) 64 w.1).count (Reg.SEL_PASSES dd.val k.val) 64 w.2
              let d := (d.setSelRows key rows').releaseHandle (stationRouter key) e.h
              if rows'.any (·.complete) then d.setJob key { job with mode := 1, inputs := [] } else d))

/-- The rows of a job: ROW_ID, TYPE and pieces of each. -/
def jobRows (c : SelectCfg) (data : List Byte) : List (Nat × Nat × List SelPiece) :=
  let h := scoreHead data
  (List.range h.rows).map (fun j =>
    ((h.row + j) % 2 ^ 32, h.type, [{ no := 0, count := h.count, indexBase := h.indexBase, data := scoreRow data h c.indexed j }]))

/-- The rows of the job of an instance: those of its whole buffer, or its complete row in pieces; and whether a handle carried LAST. -/
def Device.selJobRows (d : Device) (key : Nat) (c : SelectCfg) (j : Job) : List (Nat × Nat × List SelPiece) × Bool :=
  match j.inputs with
  | e :: _ => (jobRows c (d.handleData e), e.h.last)
  | [] => match (d.selRows key).find? (·.complete) with
    | some r => ([(r.row, r.type, r.pieces)], r.last)
    | none => ([], false)

/-- What forming the results of a job counts (R361): copies removed, conflicts, the passes over the union; of a whole buffer its own passes and
NaN values too, for the pieces of a row have counted theirs. -/
def Device.selCount (d : Device) (die k : Nat) (whole : Bool) (rs : List RowResult) : Device :=
  let sum (g : RowResult → Nat) : Nat := rs.foldl (fun n r => n + g r) 0
  let own (n : Nat) : Nat := if whole then n else 0
  (((d.count (Reg.SEL_NAN_COUNT die k) 64 (own (sum (·.nans)))).count (Reg.SEL_MERGE_CONFLICT die k) 64 (sum (·.conflicts))).count
    (Reg.SEL_DUPLICATES die k) 64 (sum (·.dups))).count (Reg.SEL_PASSES die k) 64 (own (sum (·.passes)) + sum (·.unionPasses))

/-- SELECT_JOB_END (R348 to R357): the job, a whole buffer or a complete row, is merged and summed, which counts once, and its results are
pushed; it fails when they do not fit, and waits while the pool has too few buffers and while the Lift has no room. -/
def execSelectJobEnd (dd : Fin 4) (k : Fin 16) (st : State) : Host.Outcome State Fault Refusal :=
  st.upd (fun d => d.withJob dd.val 2 k.val (fun b j d =>
    let c := selectCfg b
    let key := stKey dd.val 2 k.val
    let pk := poolKey dd.val c.outPool
    let fin (d : Device) : Device := ((d.dropJob key).releaseInputs key j).setSelRows key ((d.selRows key).filter (fun r => !r.complete))
    if j.pushed then d.afterPush key fin
    else
      let (rows, last) := d.selJobRows key c j
      let (fv, d) := d.free
      let rs := rows.map (fun r => (r.1, r.2.1, selectRow c r.2.1 r.2.2))
      let outs := rs.flatMap (fun r => resultBytes c r.2.1 r.1 r.2.2 (fv.toNat % 2 ^ 32))
      let all := if c.op = 2 then [outs, dispatchList c.experts (rs.map (fun r => (r.1, r.2.2.f)))] else [outs]
      if d.poolSize pk < all.foldl (fun n o => n + o.length) 0 then
        (d.setSelRows key ((d.selRows key).filter (fun r => r.tag != j.tag))).failJob key (Reg.SEL_JOBS_FAILED dd.val k.val)
          (Reg.SEL_LAST_FAIL dd.val k.val) 0x0B14 j
      else
        let d := if j.words.isEmpty then d.selCount dd.val k.val (j.mode = 0) (rs.map (·.2.2)) else d
        d.jobOutputs key pk (d.stationOut dd.val 2 k.val 1 c.outLift) { j with words := [1] } last false all
          (fun d => d.count (Reg.SEL_ROWS_DONE dd.val k.val) 64 rs.length) fin))

end Sys2Proof.Machine
end

