-- ==== Sys2Proof/Machine/Arrays.lean ====
section
/-!
DEFINITION. The Array station: formats, commands, accumulation, epilogue, routed products, interactions, attention, self-tests
(chapter 14: R401 to R433).
-/

namespace Sys2Proof.Machine

/-! ### Formats (R402) -/

/-- K-positions of a dense cycle for a pair of formats, whether the pair takes 2:4 weights, whether it accumulates in INT32. -/
def arrClass (a w : Nat) : Option (Nat × Bool × Bool) :=
  if (a = 0x01 || a = 0x02) && w = a then some (64, true, false)
  else if (a = 0x03 || a = 0x04) && (w = 0x03 || w = 0x04 || w = 0x05) then some (128, true, false)
  else if a = 0x08 && (w = 0x08 || w = 0x0A) then some (128, true, true)
  else if a = 0x05 && w = 0x05 then some (256, true, false)
  else if a = 0x0A && w = 0x0A then some (256, true, true)
  else if (a = 0x10 || a = 0x11) && (w = 0x10 || w = 0x11 || w = 0x13) then some (128, false, false)
  else if a = 0x12 && w = 0x12 then some (128, false, false)
  else if a = 0x13 && w = 0x13 then some (256, false, false)
  else none

/-- R419. -/
def arrOutOk (op e : Nat) : Bool :=
  match op with
  | 0 => e ≤ 0x06 || e = 0x08 || e = 0x0A || (0x10 ≤ e && e ≤ 0x13)
  | 2 => e = 0x00
  | _ => e ≤ 0x02

/-! ### Configuration and command (R404, R408) -/

structure ArrCfg where
  cmdLift : Nat
  aLift : Nat
  wLift : Nat
  outLift : Nat
  outPool : Nat
  fixed : Bool
  deriving DecidableEq, Repr

def arrCfg (b : List Byte) : ArrCfg :=
  { cmdLift := leAt b 0 2, aLift := leAt b 2 2, wLift := leAt b 4 2, outLift := leAt b 6 2, outPool := leAt b 8 2, fixed := leAt b 10 1 = 1 }

structure ArrCmd where
  op : Nat
  aElem : Nat
  wElem : Nat
  outElem : Nat
  act : Nat
  epi : Nat
  flags : Nat
  flags2 : Nat
  m : Nat
  n : Nat
  k : Nat
  v : Nat
  e : Nat
  aRows : Nat
  aOff : Nat
  aPitch : Nat
  wRows : Nat
  wOff : Nat
  wPitch : Nat
  outRows : Nat
  outPitch : Nat
  alpha : Nat
  scale : Nat
  rowBase : Nat
  alphaOff : Nat
  biasOff : Nat
  maskOff : Nat
  maskPitch : Nat
  rsv : Nat
  valueDesc : Nat
  deriving DecidableEq, Repr

def arrCmd (b : List Byte) : ArrCmd :=
  { op := leAt b 0 1, aElem := leAt b 1 1, wElem := leAt b 2 1, outElem := leAt b 3 1, act := leAt b 4 1, epi := leAt b 5 1
    flags := leAt b 6 1, flags2 := leAt b 7 1, m := leAt b 8 4, n := leAt b 0x0C 4, k := leAt b 0x10 4, v := leAt b 0x14 2
    e := leAt b 0x16 2, aRows := leAt b 0x18 4, aOff := leAt b 0x1C 4, aPitch := leAt b 0x20 4, wRows := leAt b 0x24 4
    wOff := leAt b 0x28 4, wPitch := leAt b 0x2C 4, outRows := leAt b 0x30 4, outPitch := leAt b 0x34 4, alpha := leAt b 0x38 4
    scale := leAt b 0x3C 4, rowBase := leAt b 0x40 4, alphaOff := leAt b 0x44 4, biasOff := leAt b 0x48 4, maskOff := leAt b 0x4C 4
    maskPitch := leAt b 0x50 4, rsv := leAt b 0x54 4 + leAt b 0x60 160, valueDesc := leAt b 0x58 8 }

/-- W_SPARSE24, of the OPs that have W handles (R408). -/
def ArrCmd.sparse (c : ArrCmd) : Bool := bitAt c.flags 0 && c.op ≤ 1
def ArrCmd.mask (c : ArrCmd) : Bool := bitAt c.flags 1
def ArrCmd.header (c : ArrCmd) : Bool := bitAt c.flags 2
def ArrCmd.hasSamples (c : ArrCmd) : Bool := bitAt c.flags 3
def ArrCmd.self (c : ArrCmd) : Bool := bitAt c.flags 4
def ArrCmd.gate (c : ArrCmd) : Bool := bitAt c.flags 5
/-- NORM KEPT. -/
def ArrCmd.kept (c : ArrCmd) : Bool := bitAt c.flags 6
def ArrCmd.zeroPolicy (c : ArrCmd) : Bool := bitAt c.flags 7
def ArrCmd.outStats (c : ArrCmd) : Bool := bitAt c.flags2 0
/-- DENSE or ROUTED. -/
def ArrCmd.product (c : ArrCmd) : Bool := c.op = 0 || c.op = 1
def ArrCmd.copies (c : ArrCmd) : Nat := if c.op = 1 then c.e else 1
def ArrCmd.aHandles (c : ArrCmd) : Nat := if c.op = 2 then c.v else if c.op = 3 then 0 else ceilDiv c.m (max 1 c.aRows)
def ArrCmd.wHandles (c : ArrCmd) : Nat := if c.product then ceilDiv c.n (max 1 c.wRows) else 0
def ArrCmd.kc (c : ArrCmd) : Nat :=
  match arrClass c.aElem (if c.op = 2 then c.aElem else c.wElem) with | some (n, _, _) => if c.sparse then 2 * n else n | none => 64
def ArrCmd.int (c : ArrCmd) : Bool := match arrClass c.aElem c.wElem with | some (_, _, i) => c.product && i | none => false
/-- Columns of the output, of INTERACT the pairs (R423). -/
def ArrCmd.outCols (c : ArrCmd) : Nat := if c.op = 2 then (if c.self then c.v * (c.v + 1) / 2 else c.v * (c.v - 1) / 2) else c.n

/-- Row spans of the operands (R408, R414). -/
def ArrCmd.aSpan (c : ArrCmd) : Nat := rowSpan c.aElem c.k (elemBlock c.aElem)
def ArrCmd.metaOff (c : ArrCmd) : Nat := alignUp (ceilDiv (c.k / 2 * elemBits c.wElem) 8) 16
def ArrCmd.wSpan (c : ArrCmd) : Nat := if c.sparse then c.metaOff + c.k / 8 else rowSpan c.wElem c.k (elemBlock c.wElem)
def ArrCmd.outSpan (c : ArrCmd) (cols : Nat) : Nat := rowSpan c.outElem cols (elemBlock c.outElem)
/-- Bytes of a mask row. -/
def ArrCmd.maskBytes (c : ArrCmd) : Nat := ceilDiv (ceilDiv c.k 128) 8

def f32Finite (x : Nat) : Bool := bitsOf x 23 8 != 255
def f32Positive (x : Nat) : Bool := f32Finite x && bitsOf x 0 31 != 0 && !bitAt x 31

/-- A vector of `n` FP32 values at an offset: flag clear asks offset 0. -/
def vectorOk (b : List Byte) (flag : Bool) (off n : Nat) : Bool :=
  if flag then off % 64 = 0 && decide (off + 4 * n ≤ b.length) && (List.range n).all (fun i => f32Finite (leAt b (off + 4 * i) 4)) else off = 0

def within (x lo hi : Nat) : Bool := decide (lo ≤ x) && decide (x ≤ hi)
/-- The field is in its range when the OP uses it, and 0 otherwise. -/
def usedIn (used : Bool) (x lo hi : Nat) : Bool := if used then within x lo hi else x = 0

/-- R408: SCALE where its row names it, for GATE and for ATTEND; ROUTED without GATE has no use for it and takes 0 as well (DEDUCED,
log 100). -/
def ArrCmd.scaleOk (c : ArrCmd) : Bool :=
  if c.gate || c.op = 3 then f32Positive c.scale else c.scale = 0 || (c.op = 1 && f32Positive c.scale)

/-- R411 check 1, of the command and its vectors.  A flag whose row of R408 names no OP may be set for every OP: NORM, SAMPLES and W_SPARSE24. -/
def ArrCmd.check1 (c : ArrCmd) (b : List Byte) : Bool :=
  let p := c.product
  let a := c.op != 3
  let needA := a
  decide (256 ≤ b.length) && c.rsv = 0 && c.op ≤ 3 && c.act ≤ 5 && elemBits c.aElem != 0 && (!p || elemBits c.wElem != 0) && elemBits c.outElem != 0
    && (p || (c.wElem = 0 && c.act = 0 && c.epi = 0 && c.alpha = 0)) && (a || c.aElem = 0) && decide (c.epi < 8)
    && (c.op = 0 || !c.mask) && (c.op = 2 || !c.self) && (c.op = 1 || !c.gate)
    && (c.op = 3 || (!c.zeroPolicy && c.flags2 = 0)) && decide (c.flags2 < 2)
    && usedIn needA c.m 1 65536 && usedIn p c.n 1 512 && usedIn needA c.k 32 16384 && c.k % 32 = 0
    && usedIn (c.op = 2) c.v 2 64 && usedIn (c.op = 1) c.e 1 1024
    && usedIn needA c.aRows 1 65536 && (c.op != 2 || c.aRows = c.m) && (needA || (c.aOff = 0 && c.aPitch = 0))
    && (!needA || (c.aPitch % 16 = 0 && decide (c.aSpan ≤ c.aPitch)))
    && usedIn p c.wRows 1 512 && (p || (c.wOff = 0 && c.wPitch = 0)) && (!p || (c.wPitch % 16 = 0 && decide (c.wSpan ≤ c.wPitch)))
    && within c.outRows 1 65536 && c.outPitch % (if elemBits c.outElem = 4 || elemBlock c.outElem then 16 else 4) = 0
    && (c.op = 3 || decide (c.outSpan c.outCols ≤ c.outPitch))
    && f32Finite c.alpha && c.scaleOk
    && (c.op = 1 || c.rowBase = 0) && (if c.op = 3 then c.valueDesc % 32 = 0 else c.valueDesc = 0)
    && vectorOk b (bitAt c.epi 1) c.alphaOff (c.copies * c.n) && vectorOk b (bitAt c.epi 2) c.biasOff (c.copies * c.n)
    && (if c.mask then c.maskOff % 64 = 0 && decide (c.maskBytes ≤ c.maskPitch) && decide (c.maskOff + (c.m - 1) * c.maskPitch + c.maskBytes ≤ b.length)
        else c.maskOff = 0 && c.maskPitch = 0)
    && (!(c.op = 0 && c.hasSamples) || c.outRows = c.aRows)

/-- R404: bytes of a command and its vectors. -/
def ArrCmd.length (c : ArrCmd) : Nat :=
  let vec (flag : Bool) (off : Nat) := if flag then off + 4 * (c.copies * c.n) else 0
  max (max 256 (if c.mask then c.maskOff + (c.m - 1) * c.maskPitch + c.maskBytes else 0)) (max (vec (bitAt c.epi 1) c.alphaOff) (vec (bitAt c.epi 2) c.biasOff))

/-- R411 check 2. -/
def ArrCmd.check2 (c : ArrCmd) : Bool :=
  (match c.op with
    | 2 => 0x01 ≤ c.aElem && c.aElem ≤ 0x04
    | 3 => true
    | _ => match arrClass c.aElem c.wElem with | some (_, s, _) => !c.sparse || s | none => false)
    && arrOutOk c.op c.outElem && (!elemBlock c.outElem || c.n % 32 = 0)

/-! ### Accumulation (R412 to R417) -/

/-- The values of an operand row. -/
def arrRow (e k : Nat) (row : List Byte) : List (Option FP) := (List.range k).map (fun i => some (operandVal e row i))

/-- R414, R415: the values of a 2:4 row, or none when a half of its metadata is invalid. -/
def sparseRow (c : ArrCmd) (row : List Byte) : Option (List (Option FP)) :=
  let half (r : Nat) := let b := leAt row (c.metaOff + r / 2) 1; if r % 2 = 0 then b % 16 else b / 16
  let runs := (List.range (c.k / 4)).map half
  if runs.any (fun h => decide (h / 4 ≤ h % 4)) then none
  else some (runs.zipIdx.flatMap (fun x => (List.range 4).map (fun p =>
    if p = x.1 % 4 then some (operandVal c.wElem row (2 * x.2)) else if p = x.1 / 4 then some (operandVal c.wElem row (2 * x.2 + 1)) else none)))

/-- R412, R413: the accumulator of two rows over their present positions: FP32 bits, or INT32. -/
def rowDot (int : Bool) (a w : List (Option FP)) (present : Nat → Bool) : Nat :=
  let ps := (a.zip w).zipIdx.map (fun x => match x.1 with | (some p, some q) => if present x.2 then some (p.mul q) else none | _ => none)
  (chunks 32 ps).foldl (fun acc g =>
    match g.filterMap id with
    | [] => acc
    | p :: r =>
      let s := r.foldl FP.add p
      if int then ofSigned 32 ((acc : Int) + s.toInt (-(2 ^ 62 : Nat)) (2 ^ 62 : Nat)) else fadd acc (toF32 s)) 0

/-- R418: the epilogue of a column of expert `e`: FP32 bits. -/
def ArrCmd.epilogue (c : ArrCmd) (b : List Byte) (e n acc : Nat) : Nat :=
  let y := if c.int then toF32 (FP.ofInt (toSigned 32 acc)) else acc
  let y := if bitAt c.epi 0 then fmul y c.alpha else y
  let y := if bitAt c.epi 1 then fmul y (leAt b (c.alphaOff + 4 * (e * c.n + n)) 4) else y
  let y := if bitAt c.epi 2 then fadd y (leAt b (c.biasOff + 4 * (e * c.n + n)) 4) else y
  let sig (x : Nat) := toF32 (f32 x).sigmoid
  match c.act with
  | 1 => fminmax false y 0
  | 2 => sig y
  | 3 => toF32 (f32 y).tanh
  | 4 => fmul y (sig y)
  | 5 => fmul y (sig (fmul 0x3FD9_DB23 y))
  | _ => y

/-- The bytes of an output row of accumulators. -/
def ArrCmd.outRow (c : ArrCmd) (b : List Byte) (accs : List Nat) : List Byte :=
  if c.int && c.outElem = 0x06 && c.act = 0 && c.epi = 0 then accs.flatMap u32
  else encodeRow c.outElem (accs.zipIdx.map (fun x => c.epilogue b 0 x.2 x.1))

/-- R417: position `p` of row `m` is left present by the mask. -/
def ArrCmd.present (c : ArrCmd) (b : List Byte) (m p : Nat) : Bool :=
  !c.mask || bitAt (leAt b (c.maskOff + m * c.maskPitch + p / 128 / 8) 1) (p / 128 % 8)

/-- Row slices of row `m` taken and skipped. -/
def ArrCmd.slices (c : ArrCmd) (b : List Byte) (m : Nat) : Nat × Nat :=
  let s := List.range (ceilDiv c.k c.kc)
  let taken := s.filter (fun i => (List.range (ceilDiv c.kc 64)).any (fun j => decide (i * c.kc + 64 * j < c.k) && c.present b m (i * c.kc + 64 * j)))
  (taken.length, s.length - taken.length)

/-! ### Operand handles -/

/-- Rows of handle `i` of an operand of `total` rows, `per` to a handle. -/
def handleRows (total per i : Nat) : Nat := min per (total - i * per)

/-- R411 check 4. -/
def operandOk (len off pitch rows span : Nat) : Bool := decide (off + (rows - 1) * pitch + span ≤ len)

/-- Row `r` of a handle. -/
def Device.operandRow (d : Device) (e : LiftEntry) (off pitch span r : Nat) : List Byte := d.read (e.h.addr + off + r * pitch) span

/-- The rows of W handles, or none for bad 2:4 metadata. -/
def Device.wRowsOf (d : Device) (c : ArrCmd) (ws : List LiftEntry) : Option (List (List (Option FP))) :=
  (List.range c.n).mapM (fun n =>
    match ws[n / max 1 c.wRows]? with
    | none => none
    | some e =>
      let row := d.operandRow e c.wOff c.wPitch c.wSpan (n % max 1 c.wRows)
      if c.sparse then sparseRow c row else some (arrRow c.wElem c.k row))

/-- The sample array of an A handle (R424). -/
def Device.samplesOf (d : Device) (e : LiftEntry) (rows : Nat) : List Nat := u32s (d.read (e.h.addr + 64) (4 * rows)) 0 rows

/-! ### Jobs -/

def arrKey (die k : Nat) : Nat := stKey die 0 k
def Device.arrJob (d : Device) (key : Nat) : Option ArrJob := d.arr.get? key
def Device.setArr (d : Device) (key : Nat) (a : ArrJob) : Device := { d with arr := d.arr.put key a }

def ArrJob.new (b : List Byte) : ArrJob :=
  { cmd := b, sides := [], ws := [], as := [], aDone := 0, expert := 0, out := [], acc := [], samples := [], vdesc := [], asked := false
    stats := [], cols := 0, zeroed := 0, busy := 0, skipped := 0, last := false, done := false }

def Device.arrFail (d : Device) (die k code : Nat) : Device :=
  match d.job (arrKey die k) with
  | some j => d.failJob (arrKey die k) (Reg.ARR_JOBS_FAILED die k) (Reg.ARR_LAST_FAIL die k) code j
  | none => d

/-- The next handle of a Lift for a job: none while there is none; handles of other tags abort both tasks. -/
def Device.arrPop (d : Device) (die k lift : Nat) : Option (Option LiftEntry × Device) :=
  let lk := 4096 * die + lift
  let d := d.discardFront lk
  match d.job (arrKey die k), d.liftQ lk with
  | some j, e :: _ =>
    if e.tag != j.tag then some (none, (d.requestAbort j.tag 0x0418).requestAbort e.tag 0x0418)
    else (d.popLift lk).map (fun x => (some x.1, x.2))
  | _, _ => none

/-- The job holds one handle more. -/
def Device.arrHold (d : Device) (key : Nat) (e : LiftEntry) : Device :=
  match d.job key with | some j => d.setJob key { j with inputs := j.inputs ++ [e] } | none => d
/-- Handles go back before the job ends. -/
def Device.arrRelease (d : Device) (key : Nat) (es : List LiftEntry) : Device :=
  match d.job key with
  | some j => es.foldl (fun d e => d.releaseHandle (stationRouter key) e.h) (d.setJob key { j with inputs := j.inputs.filter (fun x => x ∉ es) })
  | none => d

def ArrCmd.rowOffset (c : ArrCmd) (rows : Nat) : Nat := if c.header then 64 + (if c.hasSamples then ceil64 (4 * rows) else 0) else 0

/-- R411 check 3 on the output: handles within COUNT of OUT_POOL, buffers within BUF_SIZE: the code, if any. -/
def Device.arrOutCheck (d : Device) (die : Nat) (cfg : ArrCfg) (c : ArrCmd) (rows cols : Nat) : Option Nat :=
  let pk := poolKey die cfg.outPool
  let n := min rows c.outRows
  let stats := c.outStats
  if d.poolCount pk < ceilDiv rows (max 1 c.outRows) + bit stats then some 0x0D15
  else if d.poolSize pk < c.rowOffset n + (n - 1) * c.outPitch + c.outSpan cols then some 0x0D16
  else if stats && decide (d.poolSize pk < c.rowOffset rows + 16 * rows) then some 0x0D16
  else none

/-- R411 check 3 on operands: what the pool of handle `e` must hold at once (R409): of each kind whose first handle named it all that are
held at once, of another kind the handles that came from it. -/
def Device.arrPoolOk (d : Device) (die : Nat) (a : ArrJob) (c : ArrCmd) (e : LiftEntry) : Bool :=
  let need (l : List LiftEntry) (n : Nat) :=
    if l.head?.any (fun x => x.h.pool = e.h.pool) then n else (l.filter (fun x => x.h.pool = e.h.pool)).length
  let aHeld := if c.op = 0 then 1 else c.aHandles
  decide (need a.ws c.wHandles + need a.as aHeld + (if c.op = 3 then need a.sides 1 else 0) ≤ d.poolCount (poolKey die e.h.pool))

/-- R411 checks 3 and 4 of the operand handle `e`, the last of `l`: the pool is counted first of a kind's first handle, after LENGTH of the
others (R411); the code of the failure, if any. -/
def Device.arrHandleCheck (d : Device) (die : Nat) (a : ArrJob) (c : ArrCmd) (l : List LiftEntry) (e : LiftEntry) (lenOk : Bool) : Option Nat :=
  let pool := bad (!d.arrPoolOk die a c e) 0x0D15
  let len := bad (!lenOk) 0x0D13
  if l.length ≤ 1 then first [pool, len] else first [len, pool]

/-- DENSE: the rows of one A handle pass the resident weights. -/
def Device.denseRows (d : Device) (c : ArrCmd) (a : ArrJob) (e : LiftEntry) (ws : List (List (Option FP))) : ArrJob :=
  let rows := handleRows c.m c.aRows a.aDone
  let out := (List.range rows).map (fun r =>
    let m := a.aDone * c.aRows + r
    let x := arrRow c.aElem c.k (d.operandRow e c.aOff c.aPitch c.aSpan r)
    c.outRow a.cmd (ws.map (fun w => rowDot c.int x w (c.present a.cmd m))))
  let sl := (List.range rows).map (fun r => c.slices a.cmd (a.aDone * c.aRows + r))
  { a with aDone := a.aDone + 1, out := a.out ++ out, busy := a.busy + sl.foldl (fun n x => n + x.1) 0
           skipped := a.skipped + sl.foldl (fun n x => n + x.2) 0, cols := c.n
           samples := if c.hasSamples then a.samples ++ [d.samplesOf e rows] else a.samples
           last := e.h.last, done := decide (c.aHandles ≤ a.aDone + 1) }

/-! ### Routed products (R420 to R422) -/

/-- A Select result as the Array reads it. -/
structure SelResult where
  row : Nat
  type : Nat
  expsum : Bool
  k : Nat
  valid : Nat
  sel : Nat
  rest : Nat
  rowMax : Nat
  entries : List (Nat × Nat)
  deriving DecidableEq, Repr

def selResult (b : List Byte) : SelResult :=
  { row := leAt b 0 4, type := leAt b 4 1, expsum := bitAt (leAt b 5 1) 1, k := leAt b 8 4, valid := leAt b 0x0C 4, sel := leAt b 0x18 4
    rest := leAt b 0x20 4, rowMax := leAt b 0x28 4
    entries := (List.range (leAt b 0x0C 4)).map (fun i => (leAt b (64 + 8 * i) 4, leAt b (68 + 8 * i) 4)) }

/-- RS of a result (R354). -/
def resultSize (b : List Byte) : Nat := 64 + ceil64 (8 * leAt b 8 4)
def selResults (b : List Byte) : List SelResult := (chunks (resultSize b) b).map selResult

/-- R421: the results of M tokens and the dispatch records (expert, row, rank), or the code of the failure. -/
def ArrCmd.routeCheck (c : ArrCmd) (res disp : List Byte) : (List SelResult × List (Nat × Nat × Nat)) ⊕ Nat :=
  let rs := selResults res
  let k := leAt res 8 4
  let total := rs.foldl (fun n r => n + r.valid) 0
  let e := leAt disp 0 4
  let n := leAt disp 4 4
  if res.length != c.m * resultSize res || rs.any (fun r => !selFloat r.type || r.k != k || (c.gate && !r.expsum))
      || rs.zipIdx.any (fun x => x.1.row != (c.rowBase + x.2) % 2 ^ 32) || e != c.e || n != total then .inr 0x0D17
  else
    let counts := u32s disp 64 e
    let experts := counts.zipIdx.flatMap (fun x => List.replicate (min x.1 n) x.2)
    let base := 64 + ceil64 (4 * e)
    let recs := (List.range n).map (fun i =>
      (experts.getD i e, (leAt disp (base + 8 * i) 4 + 2 ^ 32 - c.rowBase) % 2 ^ 32, leAt disp (base + 8 * i + 4) 2))
    if recs.any (fun x => decide (c.m ≤ x.2.1) || decide ((rs[x.2.1]?.map (·.valid)).getD 0 ≤ x.2.2)) then .inr 0x0D18
    else .inl (rs, recs)

/-- R422: the gate of entry `i` of a result. -/
def ArrCmd.gateOf (c : ArrCmd) (r : SelResult) (i : Nat) : Nat :=
  let t := fmul c.scale ((r.entries[i]?.map (·.2)).getD 0)
  let p := exp2Bits (expD t r.rowMax)
  let z := if c.kept then r.sel else fadd r.sel r.rest
  if bitsOf z 0 31 = 0 then 0 else fdiv p z

/-- One expert's rows join the token outputs. -/
def Device.routeExpert (d : Device) (c : ArrCmd) (a : ArrJob) (ws : List (List (Option FP))) (rs : List SelResult) (recs : List (Nat × Nat × Nat)) :
    ArrJob :=
  let mine := recs.filter (fun x => x.1 = a.expert)
  let acc := mine.foldl (fun acc x =>
    let r := x.2.1
    match a.as[r / max 1 c.aRows]?, acc[r]? with
    | some e, some row =>
      let av := arrRow c.aElem c.k (d.operandRow e c.aOff c.aPitch c.aSpan (r % max 1 c.aRows))
      let y := ws.zipIdx.map (fun w => c.epilogue a.cmd a.expert w.2 (rowDot c.int av w.1 (fun _ => true)))
      let g := match rs[r]? with | some s => c.gateOf s x.2.2 | none => 0
      setNth acc r ((row.zip y).map (fun p => if c.gate then fadd p.1 (fmul g p.2) else fadd p.1 p.2))
    | _, _ => acc) a.acc
  let busy := a.busy + mine.length * ceilDiv c.k c.kc
  if c.e ≤ a.expert + 1 then
    { a with acc := acc, expert := a.expert + 1, ws := [], out := acc.map (encodeRow c.outElem), cols := c.n, busy := busy, done := true
             samples := if c.hasSamples then a.as.zipIdx.map (fun x => d.samplesOf x.1 (handleRows c.m c.aRows x.2)) else [] }
  else { a with acc := acc, expert := a.expert + 1, ws := [], busy := busy }

/-! ### Interactions (R423, R424) -/

/-- The pairs of planes in order. -/
def planePairs (v : Nat) (self : Bool) : List (Nat × Nat) :=
  (List.range v).flatMap (fun i => ((List.range v).filter (fun j => decide (i < j) || (self && i = j))).map (fun j => (i, j)))

def Device.interactRows (d : Device) (c : ArrCmd) (a : ArrJob) : ArrJob :=
  let out := (List.range c.m).map (fun s =>
    let rows := a.as.map (fun e => arrRow c.aElem c.k (d.operandRow e c.aOff c.aPitch c.aSpan s))
    ((planePairs c.v c.self).map (fun p => rowDot false (rows.getD p.1 []) (rows.getD p.2 []) (fun _ => true))).flatMap u32)
  { a with out := out, cols := c.outCols, busy := ceilDiv c.m (512 / max 1 c.v) * c.v * ceilDiv c.k c.kc
           last := (a.as.getLast?.map (·.h.last)).getD false, done := true
           samples := if c.hasSamples then (a.as.take 1).map (fun e => d.samplesOf e c.m) else [] }

/-! ### Attention (R425, R426) -/

/-- R425: what makes a Select result unusable for ATTEND. -/
def attendBad (res : List Byte) : Bool :=
  let rs := selResults res
  res.length < 64 || res.length % resultSize res != 0 || rs.any (fun r => r.k != leAt res 8 4 || !selFloat r.type || !r.expsum)

/-- R425: the value tensor of a descriptor already validated is one an ATTEND job may use; its width D and its keys are those of its view
(R108; DEDUCED, log 100). -/
def Tensor.valueOk (x : Tensor) : Bool :=
  x.desc.rank = 2 && within (x.viewExtent 0) 1 1024 && elemFloat x.desc.elem && !x.desc.write && !x.desc.indexed

/-- The stream that carries the value reads of an Array (R405). -/
def arrValueStream (die k : Nat) : Nat := gsid die (16384 + 4 * k + 2)

/-- The entries that name a value row, with their places among all: the place is the window their reads go to. -/
def Tensor.valueEntries (x : Tensor) (idxs : List Nat) : List (Nat × Nat) := idxs.zipIdx.filter (fun p => decide (p.1 < x.viewExtent 1))

/-- The value rows of the entries of all queries as read (none: invalid under ZERO). -/
def Tensor.valueRows (x : Tensor) (tile : Map (List Byte)) (idxs : List Nat) : List (Option (List Byte)) :=
  idxs.zipIdx.map (fun p => if p.1 < x.viewExtent 1 then some (x.assemble tile p.2 p.1) else none)

/-- R426: one query: its entries' value rows; the output row, and kept. -/
def ArrCmd.attendQuery (c : ArrCmd) (elem dim : Nat) (r : SelResult) (rows : List (Option (List Byte))) : List Byte × Nat :=
  let vals := rows.map (fun b => match b with
    | some b => (List.range dim).map (fun i => elemToF32 elem (rowElem elem b i))
    | none => List.replicate dim 0)
  let (acc, kept) := (r.entries.zip vals).foldl (fun (s : List Nat × Nat) x =>
    let p := exp2Bits (expD (fmul c.scale x.1.2) r.rowMax)
    ((s.1.zip x.2).map (fun y => fadd y.1 (fmul p y.2)), fadd s.2 p)) (List.replicate dim 0, 0)
  let z := if c.kept then kept else fadd r.sel r.rest
  (encodeRow c.outElem (acc.map (fun y => if bitsOf z 0 31 = 0 then 0 else fdiv y z)), kept)

/-- R411, R425 of an ATTEND job, its side handle held: the value descriptor is read and kept (R97), then checks 1 and 3 on the output, then
check 6; or the code of the failure.  A descriptor's own code is recorded too (R123).  Channel 2 is bound to the job's tag (R167, R405). -/
def Device.attendOpen (d : Device) (die k : Nat) (cfg : ArrCfg) (c : ArrCmd) (a : ArrJob) (e : LiftEntry) : Device :=
  let res := d.handleData e
  match d.accessCheck c.valueDesc 96 false with
  | some code => d.arrFail die k code
  | none =>
    let b := d.read c.valueDesc 96
    let dim := (tensorFrom b (d.companionsOf b)).viewExtent 0
    if c.outPitch < c.outSpan dim then d.arrFail die k 0x0D11
    else match d.arrOutCheck die cfg c (e.h.len / resultSize res) dim with
      | some code => d.arrFail die k code
      | none =>
        if attendBad res then d.arrFail die k 0x0D17
        else match d.bindRead b (match d.plan.active with | some pl => regionsOf pl.image die | none => []) with
          | .inl code => (if code / 256 = 3 then d.refuse code die else d).arrFail die k code
          | .inr (x, d) =>
            if !x.valueOk then d.arrFail die k 0x0D17
            else
              let g := arrValueStream die k
              let s : Stream := { Stream.idle with state := .armed, tag := e.tag, due := leAt (cfgOf d) 12 2, pace := leAt (cfgOf d) 14 2, arms := (d.stream g).arms }
              (d.setStream g s).setArr (arrKey die k) { a with vdesc := b }
where
  /-- The configuration of the Array. -/
  cfgOf (d : Device) : List Byte := (d.stationCfg die 0 k).getD []

/-- R426: the value rows are read on the stream of channel 2. -/
def Device.attendAsk (d : Device) (die k : Nat) (c : ArrCmd) (a : ArrJob) (e : LiftEntry) (x : Tensor) (idxs : List Nat) : Device :=
  let g := arrValueStream die k
  if !c.zeroPolicy && idxs.any (fun i => decide (x.viewExtent 1 ≤ i)) then d.arrFail die k 0x0315
  else match d.reachReads die e.tag (joinReads ((x.valueEntries idxs).flatMap (fun p => x.rowReads [] p.2 p.1))) with
    | (.inr none, d) => d
    | (.inr (some code), d) => d.arrFail die k code
    | (.inl xs, d) => ((d.setStream g { d.stream g with issueQ := xs }).setArr (arrKey die k) { a with asked := true }).issue g

/-- ATTEND once its side handle is held: its value rows are asked for, and once all are there the output is formed and channel 2 is DONE. -/
def Device.attendStep (d : Device) (die k : Nat) (c : ArrCmd) (a : ArrJob) (e : LiftEntry) : Device :=
  let g := arrValueStream die k
  let rs := selResults (d.handleData e)
  let x := tensorFrom a.vdesc []
  let idxs := rs.flatMap (fun r => r.entries.map (·.1))
  if !a.asked then d.attendAsk die k c a e x idxs
  else if !d.quiet g then d
  else
    let dim := x.viewExtent 0
    let rows := x.valueRows (d.stream g).tile idxs
    let per := (rs.foldl (fun (acc : List (List (Option (List Byte))) × List (Option (List Byte))) r =>
      (acc.1 ++ [acc.2.take r.entries.length], acc.2.drop r.entries.length)) ([], rows)).1
    let qs := (rs.zip per).map (fun p => (p.1, c.attendQuery x.desc.elem dim p.1 p.2))
    let busy := rs.foldl (fun n r => n + r.valid * ceilDiv (dim * elemBits x.desc.elem) 1024) 0
    ((d.setStream g { d.stream g with tile := [] }).finishStream g).setArr (arrKey die k) { a with
      out := qs.map (fun q => q.2.1), cols := dim, busy := busy, done := true, last := e.h.last, zeroed := (rows.filter (·.isNone)).length
      stats := if c.outStats then qs.map (fun q => u32 q.1.row ++ u32 q.2.2 ++ u32 q.1.rest ++ u32 q.1.rowMax) else [] }

/-! ### Steps of a job -/

/-- The address lies in the operand staging of an Array. -/
def inArrayStaging (a : Nat) : Bool := (List.range 4).any (fun x => decide (arrayStagingAddr x 0 0 ≤ a) && decide (a < arrayStagingAddr x 8 0))

/-- R430: a word of the operand staging, or of the tile registers, that cannot be corrected: it is reported, and a word of the staging stays
so until the next write to it; the job that reads it fails. -/
def Device.arrStagingBad (d : Device) (die k : Nat) (e : LiftEntry) : Device :=
  (if inArrayStaging e.h.addr then d.poisonGranule e.h.addr e.tag false 0x0D1B
   else d.sramBadAt die { code := 0x0D1B, severity := 3, tag := e.tag, loc := { kind := 3, die := die, index := k } }).arrFail die k 0x0D1B

/-- The code with which a poisoned operand fails its job: the staging's own for a buffer that lies there (R430, R488). -/
def arrPoisonCode (e : LiftEntry) : Nat :=
  if inArrayStaging e.h.addr then 0x0D1B else 0x0F12

/-- One step: the next handle is taken, or what the handles held allow is computed; none when the job has to wait.  `ecc` is what the
first word read meets: 1 a corrected error, 2 one that cannot be corrected (R430). -/
def Device.arrAdvance (d : Device) (die k : Nat) (cfg : ArrCfg) (ecc : Nat) : Option Device :=
  let key := arrKey die k
  match d.job key, d.arrJob key with
  | some j, some a =>
    let c := arrCmd a.cmd
    if a.done || d.taskGone j.tag then none
    else
      let take (lift : Nat) (f : LiftEntry → Device → Device) : Option Device :=
        (d.arrPop die k lift).map (fun x => match x.1 with
          | none => x.2
          | some e =>
            let d := x.2.arrHold key e
            if ecc = 2 then d.arrStagingBad die k e
            else
              let d := if ecc = 1 then d.count (Reg.MEM_CE_COUNT 0) 64 1 else d
              if d.poisoned e.h.addr e.h.len then d.arrFail die k (arrPoisonCode e) else f e d)
      let sides := match c.op with | 1 => 2 | 3 => 1 | _ => 0
      if a.sides.length < sides then
        take cfg.cmdLift (fun e d =>
          let a := { a with sides := a.sides ++ [e] }
          let d := d.setArr key a
          if c.op = 3 then (if d.arrPoolOk die a c e then d.attendOpen die k cfg c a e else d.arrFail die k 0x0D15)
          else match a.sides with
            | [x, y] => (match c.routeCheck (d.handleData x) (d.handleData y) with
              | .inr code => d.arrFail die k code
              | .inl _ => d.setArr key { a with acc := List.replicate c.m (List.replicate c.n 0) })
            | _ => d)
      else if c.op = 3 then none
      else if a.ws.length < c.wHandles then
        take cfg.wLift (fun e d =>
          let a := { a with ws := a.ws ++ [e] }
          let rows := handleRows c.n c.wRows (a.ws.length - 1)
          match d.arrHandleCheck die a c a.ws e (operandOk e.h.len c.wOff c.wPitch rows c.wSpan) with
          | some code => d.arrFail die k code
          | none =>
            if a.ws.length = c.wHandles && (d.wRowsOf c a.ws).isNone then d.arrFail die k 0x0D14
            else d.setArr key a)
      else if c.op = 0 then
        take cfg.aLift (fun e d =>
          let rows := handleRows c.m c.aRows a.aDone
          match d.arrHandleCheck die { a with as := [e] } c (if a.aDone = 0 then [e] else [e, e]) e (operandOk e.h.len c.aOff c.aPitch rows c.aSpan) with
          | some code => d.arrFail die k code
          | none => match d.wRowsOf c a.ws with
            | none => d.arrFail die k 0x0D14
            | some ws => (d.setArr key (d.denseRows c a e ws)).arrRelease key [e])
      else if a.as.length < c.aHandles then
        take cfg.aLift (fun e d =>
          let a := { a with as := a.as ++ [e], last := e.h.last }
          let rows := if c.op = 2 then c.m else handleRows c.m c.aRows (a.as.length - 1)
          let lenOk := operandOk e.h.len c.aOff c.aPitch rows c.aSpan && !(c.op = 2 && c.hasSamples && decide (e.h.len < 64 + 4 * rows))
          match d.arrHandleCheck die a c a.as e lenOk with
          | some code => d.arrFail die k code
          | none =>
            if c.op = 2 && c.hasSamples && (match a.as.head? with | some f => d.samplesOf f c.m != d.samplesOf e c.m | none => false) then d.arrFail die k 0x0D19
            else d.setArr key a)
      else if c.op = 2 then some (d.setArr key (d.interactRows c a))
      else match a.sides with
        | [x, y] => (match d.wRowsOf c a.ws, c.routeCheck (d.handleData x) (d.handleData y) with
          | some ws, .inl (rs, recs) => some ((d.setArr key (d.routeExpert c a ws rs recs)).arrRelease key a.ws)
          | _, .inr code => some (d.arrFail die k code)
          | none, _ => some (d.arrFail die k 0x0D14))
        | _ => none
  | _, _ => none

/-- As many steps as the handles present allow. -/
def Device.arrRun (d : Device) (die k : Nat) (cfg : ArrCfg) (ecc : Nat) : Nat → Device
  | 0 => d
  | n + 1 => match d.arrAdvance die k cfg ecc with
    | some d => d.arrRun die k cfg 0 n
    | none => d

/-- An ATTEND job that holds its side handle goes on with its value rows. -/
def Device.arrAttend (d : Device) (die k : Nat) : Device :=
  match d.arrJob (arrKey die k), d.job (arrKey die k) with
  | some a, some _ => match a.sides with
    | e :: _ =>
      if (arrCmd a.cmd).op != 3 || a.done || a.vdesc.isEmpty || d.taskGone e.tag then d else d.attendStep die k (arrCmd a.cmd) a e
    | [] => d
  | _, _ => d

/-- As many steps of a job as the handles present allow. -/
def Device.arrGo (d : Device) (die k : Nat) (cfg : ArrCfg) (ecc : Nat) : Device := (d.arrRun die k cfg ecc 4096).arrAttend die k

/-- The command of the next job, with the handle that begins it: the command handle, or under FIXED the head of the side or A Lift. -/
def Device.arrNext (d : Device) (die : Nat) (cfg : List Byte) : Option (List Byte × LiftEntry) :=
  let c := arrCfg cfg
  if !c.fixed then (d.liftQ (4096 * die + c.cmdLift)).head?.map (fun e => (d.read e.h.addr e.h.len, e))
  else
    let b := cfg.drop 16
    let op := leAt b 0 1
    (d.liftQ (4096 * die + (if op = 1 || op = 3 then c.cmdLift else c.aLift))).head?.map (fun e => (b, e))

/-- A job begins with checks 1 to 3 (R411); a fenced Array fails it at once (R429). -/
def Device.arrBegin (d : Device) (die k : Nat) (cfg : List Byte) (b : List Byte) (e : LiftEntry) (fenced : Bool) : Device :=
  let key := arrKey die k
  let g := arrCfg cfg
  let c := arrCmd b
  let popped := if g.fixed && !fenced then some d else (d.popLift (4096 * die + (if g.fixed && !(c.op = 1 || c.op = 3) then g.aLift else g.cmdLift))).map (·.2)
  match popped with
  | none => d
  | some d =>
    let (seq, d) := d.takeSeq key e.tag
    let d := (d.setJob key { mode := c.op, tag := e.tag, inputs := if g.fixed && !fenced then [] else [e], seq := seq, words := [], bytes := [] }).setArr key (ArrJob.new b)
    if fenced then d.arrFail die k 0x0D1C
    else if !g.fixed && d.poisoned e.h.addr e.h.len then d.arrFail die k 0x0F12
    else if !c.check1 b then d.arrFail die k 0x0D11
    else if !c.check2 then d.arrFail die k 0x0D12
    else if c.op = 3 then d
    else match d.arrOutCheck die g c c.m c.outCols with
      | some code => d.arrFail die k code
      | none => d

/-- The instance's own fault-map entry fences it, and not its die's. -/
def Device.arrFenced (d : Device) (die k : Nat) : Bool := d.fault.fmap.any (fun e => e.2.kind = 4 && e.2.coversStation die 0 k)

/-- The self-test of an Array runs: it pops nothing (R429). -/
def Device.arrSelftest (d : Device) (die k : Nat) : Bool := decide (8 * die + k ∈ d.fault.selftests)

/-- The self-test of an Array begins (R429, R433). -/
def Device.beginSelftest (d : Device) (die k : Nat) : Device :=
  ({ d with fault := { d.fault with selftests := addNew d.fault.selftests (8 * die + k) } }).setFld (Reg.ARR_STATUS die k) Fd.ARR_STATUS_SELFTEST 1

/-- Work of an active Array on a job of the OP `op` (an unknown OP goes with DENSE): it begins a job, then goes on with it. -/
def Device.arrStep (d : Device) (die k op : Nat) (ecc : Nat) : Device :=
  let key := arrKey die k
  match d.stationCfg die 0 k with
  | none => d
  | some cfg =>
    let opOf (x : Nat) := if x ≤ 3 then x else 0
    if d.mgmt.gated || d.tapStopped die 0 k || d.dieContained die || d.arrSelftest die k || d.fault.idleUnits.any (fun e => e.coversStation die 0 k) then d
    else match d.job key with
      | some j => if opOf j.mode = op && !d.arrFenced die k then d.arrGo die k (arrCfg cfg) ecc else d
      | none =>
        let g := arrCfg cfg
        let d := (if g.cmdLift < 4096 then d.discardFront (4096 * die + g.cmdLift) else d).discardFront (4096 * die + g.aLift)
        match d.arrNext die cfg with
        | none => d
        | some (b, e) =>
          if opOf (arrCmd b).op != op then d
          else
            let d := d.arrBegin die k cfg b e (d.arrFenced die k)
            d.arrGo die k g ecc

/-- ARRAY_DENSE (R412, R418). -/
def execArrayDense (dd : Fin 4) (k : Fin 8) (ecc : Fin 3) (st : State) : Host.Outcome State Fault Refusal := st.upd (fun d => d.arrStep dd.val k.val 0 ecc.val)
/-- ARRAY_ROUTED (R420 to R422). -/
def execArrayRouted (dd : Fin 4) (k : Fin 8) (ecc : Fin 3) (st : State) : Host.Outcome State Fault Refusal := st.upd (fun d => d.arrStep dd.val k.val 1 ecc.val)
/-- ARRAY_INTERACT (R423, R424). -/
def execArrayInteract (dd : Fin 4) (k : Fin 8) (ecc : Fin 3) (st : State) : Host.Outcome State Fault Refusal := st.upd (fun d => d.arrStep dd.val k.val 2 ecc.val)
/-- ARRAY_ATTEND (R425, R426). -/
def execArrayAttend (dd : Fin 4) (k : Fin 8) (ecc : Fin 3) (st : State) : Host.Outcome State Fault Refusal := st.upd (fun d => d.arrStep dd.val k.val 3 ecc.val)

/-! ### The end of a job (R410, R419) -/

/-- The header of an output buffer. -/
def arrHeader (op elem flags rows cols first seq part rowOff pitch : Nat) : List Byte :=
  u8 4 ++ u8 op ++ u8 elem ++ u8 flags ++ u32 rows ++ u32 cols ++ u32 first ++ u32 seq ++ u16 part ++ u16 0 ++ u32 rowOff ++ u32 pitch ++ zeros 32

/-- Rows at a pitch, the last without padding. -/
def pitched (pitch : Nat) (rows : List (List Byte)) : List Byte :=
  rows.zipIdx.flatMap (fun r => if r.2 + 1 = rows.length then r.1 else r.1 ++ zeros (pitch - r.1.length))

/-- The output buffers of a job; under SAMPLES each carries the sample numbers of its rows (R424), 0 where the OP has no A buffers. -/
def ArrCmd.buffers (c : ArrCmd) (a : ArrJob) (seq : Nat) : List (List Byte) :=
  let parts := chunks (max 1 c.outRows) a.out
  let n := parts.length + bit (!a.stats.isEmpty)
  let head (elem rows cols first part : Nat) : List Byte :=
    let sm := (a.samples.flatten.drop first).take rows
    let s := (sm ++ List.replicate (rows - sm.length) 0).flatMap u32
    if c.header then
      arrHeader c.op elem (bit (part + 1 = n) + 2 * bit c.hasSamples) rows cols first seq part (c.rowOffset rows) c.outPitch
        ++ (if c.hasSamples then s ++ zeros (ceil64 s.length - s.length) else [])
    else []
  let main := parts.zipIdx.map (fun p => head c.outElem p.1.length a.cols (p.2 * c.outRows) p.2 ++ pitched c.outPitch p.1)
  if a.stats.isEmpty then main else main ++ [head 0x0E a.stats.length 4 0 parts.length ++ a.stats.flatten]

/-- ARRAY_JOB_END (R410): all output is formed: it is pushed in one burst; it waits while the pool has too few buffers, and ends once
every handle has set out for its Lift. -/
def execArrayJobEnd (dd : Fin 4) (k : Fin 8) (st : State) : Host.Outcome State Fault Refusal :=
  st.upd (fun d =>
    let key := arrKey dd.val k.val
    d.withJob dd.val 0 k.val (fun b j d =>
      match d.arrJob key with
      | none => d
      | some a =>
        if !a.done || d.arrSelftest dd.val k.val then d
        else
          let g := arrCfg b
          let counts (d : Device) : Device :=
            ((d.count (Reg.ARR_BUSY_CYCLES dd.val k.val) 64 a.busy).count (Reg.ARR_SKIPPED dd.val k.val) 64 a.skipped).count
              (Reg.TENSOR_INDEX_ZERO_COUNT dd.val) 64 a.zeroed
          let fin (d : Device) : Device := ((d.dropJob key).releaseInputs key j).count (Reg.ARR_JOBS_DONE dd.val k.val) 64 1
          if j.pushed then d.afterPush key fin
          else d.jobOutputs key (poolKey dd.val g.outPool) (d.stationOut dd.val 0 k.val 3 g.outLift) j a.last false ((arrCmd a.cmd).buffers a j.seq) counts fin))

/-! ### Residue failures and self-tests (R428, R429, R433) -/

/-- ARRAY_RESIDUE_FAIL (R428, R429): every task with work in the Array aborts; the self-test runs. -/
def execArrayResidueFail (dd : Fin 4) (k : Fin 8) (st : State) : Host.Outcome State Fault Refusal :=
  st.upd (fun d =>
    let l := placeLoc dd.val (.station dd 0 ⟨k.val, by omega⟩)
    let tags := d.tagsIn l
    let d := (d.abortAll tags 0x0D1A).count (Reg.ARR_RESIDUE dd.val k.val) 64 1
    (d.beginSelftest dd.val k.val).errqEnter dd.val
      { code := 0x0D1A, severity := 3, tag := tags.headD 0, loc := l })

/-- ARRAY_SELFTEST_END (R429): the Array resumes, or is entered in the fault map. -/
def execArraySelftestEnd (dd : Fin 4) (k : Fin 8) (pass : Bool) (st : State) : Host.Outcome State Fault Refusal :=
  st.upd (fun d =>
    let r := Reg.ARR_STATUS dd.val k.val
    if !d.arrSelftest dd.val k.val then d
    else
      let d := { d with fault := { d.fault with selftests := d.fault.selftests.erase (8 * dd.val + k.val) } }
      let d := (d.setFld r Fd.ARR_STATUS_SELFTEST 0).setFld r Fd.ARR_STATUS_LAST_SELFTEST_FAIL (bit (!pass))
      let d := d.setFld (Reg.ARRAY_CMD dd.val) Fd.ARRAY_CMD_SELFTEST (clearBit (d.fld (Reg.ARRAY_CMD dd.val) Fd.ARRAY_CMD_SELFTEST) k.val)
      if pass then d
      else d.errqEnter dd.val { code := 0x0D1A, severity := 4, loc := placeLoc dd.val (.station dd 0 ⟨k.val, by omega⟩) })

/-- A write of ARRAY_CMD (R433). -/
def Device.arraySelftest (d : Device) (die mask : Nat) : Device :=
  if (onesBelow 8 mask).any (fun k => (d.stationCfg die 0 k).isSome) then d.refuse 0x0D06 die
  else (onesBelow 8 mask).foldl (fun d k => d.beginSelftest die k)
    (d.setFld (Reg.ARRAY_CMD die) Fd.ARRAY_CMD_SELFTEST (((BitVec.ofNat 8 (d.fld (Reg.ARRAY_CMD die) Fd.ARRAY_CMD_SELFTEST)) ||| BitVec.ofNat 8 mask).toNat))

/-- ARRAY_SELFTEST (R433). -/
def execArraySelftest (dd : Fin 4) (mask : BitVec 8) (st : State) : Host.Outcome State Fault Refusal := st.upd (fun d => d.arraySelftest dd.val mask.toNat)

end Sys2Proof.Machine
end

