-- ==== Sys2Proof/Machine/Match.lean ====
section
/-!
DEFINITION. The Match station: entries, gangs, searches, staged updates, host actions (chapter 11: R313 to R338).
-/

namespace Sys2Proof.Machine

/-! ### Configuration and gangs (R316 to R318) -/

structure MatchCfg where
  inLift : Nat
  outLift : Nat
  outPool : Nat
  mode : Nat
  arity : Nat
  g : Nat
  wide : Bool
  paired : Bool
  updates : Bool
  keep : Bool
  outCol : Nat
  miss : Nat
  offsets : List Nat
  deriving DecidableEq, Repr

def matchCfg (b : List Byte) : MatchCfg :=
  { inLift := leAt b 0 2, outLift := leAt b 2 2, outPool := leAt b 4 2, mode := leAt b 6 1, arity := leAt b 7 1
    g := bitsOf (leAt b 8 1) 0 3, wide := bitAt (leAt b 8 1) 3, paired := bitAt (leAt b 9 1) 0, updates := bitAt (leAt b 9 1) 1
    keep := bitAt (leAt b 9 1) 2, outCol := leAt b 10 2, miss := leAt b 16 8
    offsets := (List.range (leAt b 7 1)).map (fun i => bitsOf (leAt b (24 + 2 * i) 2) 0 9) }

/-- R317: entries of a gang, and its key width. -/
def MatchCfg.entries (c : MatchCfg) : Nat := if c.wide then 4096 * 2 ^ (c.g - 1) else 4096 * 2 ^ c.g
def MatchCfg.keyWidth (c : MatchCfg) : Nat := if c.wide then 320 else 160

/-- The banks of a gang. -/
def MatchCfg.banks (c : MatchCfg) (leader : Nat) : List Nat := (List.range (2 ^ c.g)).map (fun i => leader + i)

def matchKey (die k : Nat) : Nat := stKey die 1 k
def Device.gang (d : Device) (die k : Nat) : MatchInst := d.matchI.getD (matchKey die k) MatchInst.empty
def Device.setGang (d : Device) (die k : Nat) (g : MatchInst) : Device := { d with matchI := d.matchI.put (matchKey die k) g }

/-- The leader and configuration of the gang of the active plan that holds a bank. -/
def Device.gangOf (d : Device) (die bank : Nat) : Option (Nat × MatchCfg) :=
  (List.range 64).findSome? (fun k => match d.stationCfg die 1 k with
    | some b => let c := matchCfg b; if k ≤ bank && bank < k + 2 ^ c.g then some (k, c) else none
    | none => none)

/-- A bank of the gang does no work. -/
def Device.gangStopped (d : Device) (die k : Nat) (c : MatchCfg) : Bool := (c.banks k).any (fun b => d.stationStopped die 1 b)

/-! ### Entries (R313, R317) -/

/-- The number of a bank's entry in the entry store. -/
def entryNo (die bank e : Nat) : Nat := 4096 * (64 * die + bank) + e
def Device.entry (d : Device) (n : Nat) : MatchEntry := d.matchE.getD n MatchEntry.empty
def Device.setEntry (d : Device) (n : Nat) (x : MatchEntry) : Device := { d with matchE := Map.setC d.matchE MatchEntry.empty n x }

/-- Where a record's entry lies: its first half's bank, its entry, and whether a second half lies in the next bank. -/
structure EntryPlace where
  die : Nat
  bank : Nat
  e : Nat
  wide : Bool
  deriving DecidableEq, Repr

/-- R317: the place of gang index `i`. -/
def gangPlace (die leader : Nat) (c : MatchCfg) (i : Nat) : EntryPlace :=
  { die := die, bank := leader + (if c.wide then 2 * (i / 4096) else i / 4096), e := i % 4096, wide := c.wide }

def EntryPlace.lo (p : EntryPlace) : Nat := entryNo p.die p.bank p.e
def EntryPlace.hi (p : EntryPlace) : Nat := entryNo p.die (p.bank + 1) p.e

/-- Writes state, key, care, result and prio of an entry, both halves of a WIDE one. -/
def Device.putEntry (d : Device) (p : EntryPlace) (x : MatchEntry) : Device :=
  let d := d.setEntry p.lo { x with key := x.key % 2 ^ 160, care := x.care % 2 ^ 160 }
  if p.wide then d.setEntry p.hi { (d.entry p.hi) with state := x.state, key := x.key / 2 ^ 160, care := x.care / 2 ^ 160 } else d

/-- Reads an entry whole: a WIDE one is VALID when both halves are, BAD when either is. -/
def Device.getEntry (d : Device) (p : EntryPlace) : MatchEntry :=
  let a := d.entry p.lo
  if p.wide then
    let b := d.entry p.hi
    { a with state := if a.state = 2 || b.state = 2 then 2 else if a.state = 1 && b.state = 1 then 1 else 0
             key := a.key + b.key * 2 ^ 160, care := a.care + b.care * 2 ^ 160 }
  else a

/-- The contents of an entry's bank that are lost: free values (R334). -/
def Device.lostEntry (d : Device) : MatchEntry × Device :=
  let (k0, d) := d.free
  let (k1, d) := d.free
  let (k2, d) := d.free
  let (c0, d) := d.free
  let (c1, d) := d.free
  let (c2, d) := d.free
  let (r, d) := d.free
  let (p, d) := d.free
  let wide (a b c : DWord) := (a.toNat + 2 ^ 64 * b.toNat + 2 ^ 128 * c.toNat) % 2 ^ 160
  ({ state := 2, key := wide k0 k1 k2, care := wide c0 c1 c2, result := r.toNat, prio := p.toNat % 16 }, d)

/-- R334, R317: an uncorrectable entry becomes BAD, in both halves of a WIDE gang, and is reported to the die's error queue. -/
def Device.entryBad (d : Device) (p : EntryPlace) (byGroomer : Bool) : Device :=
  let (x, d) := d.lostEntry
  let d := d.setEntry p.lo x
  let d := if p.wide then d.setEntry p.hi { d.entry p.hi with state := 2 } else d
  d.sramBadAt p.die { code := 0x0A16, severity := 3, byGroomer := byGroomer, loc := { kind := 3, die := p.die, index := p.bank, sub := 1 }, arg2 := p.e }

/-- The place of entry `e` of a bank, as the gang of the active plan that holds the bank lays it out. -/
def Device.bankPlace (d : Device) (die bank e : Nat) : EntryPlace :=
  match d.gangOf die bank with
  | some (k, c) => if c.wide then { die := die, bank := k + (bank - k) / 2 * 2, e := e, wide := true } else { die := die, bank := bank, e := e, wide := false }
  | none => { die := die, bank := bank, e := e, wide := false }

/-- Gang indices of the entries of a gang that the store lists. -/
def Device.gangIndexes (d : Device) (die k : Nat) (c : MatchCfg) : List Nat :=
  ((d.matchE.filterMap (fun e =>
    let bank := e.1 / 4096
    if 64 * die + k ≤ bank && bank < 64 * die + k + 2 ^ c.g then
      let b := bank - (64 * die + k)
      if c.wide then (if b % 2 = 0 then some (4096 * (b / 2) + e.1 % 4096) else none) else some (4096 * b + e.1 % 4096)
    else none)))

/-- A bank of the gang holds a BAD entry. -/
def Device.gangBad (d : Device) (die k : Nat) (c : MatchCfg) : Bool :=
  d.matchE.any (fun e => 64 * die + k ≤ e.1 / 4096 && decide (e.1 / 4096 < 64 * die + k + 2 ^ c.g) && e.2.state = 2)

/-! ### Search (R314, R315, R325) -/

def MatchEntry.hits (x : MatchEntry) (key : Nat) : Bool := x.state = 1 && Nat.land (Nat.xor key x.key) x.care = 0

/-- R315: the matches of a key: winner, MULTI, COUNT. -/
structure Found where
  index : Nat
  entry : MatchEntry
  multi : Bool
  count : Nat
  deriving DecidableEq, Repr

def Device.search (d : Device) (die k : Nat) (c : MatchCfg) (key : Nat) : Option Found :=
  let ms := ((d.gangIndexes die k c).map (fun i => (i, d.getEntry (gangPlace die k c i)))).filter (fun x => x.2.hits key)
  match sortBy (fun x => x.2.prio) ms with
  | [] => none
  | w :: r => some { index := w.1, entry := w.2, multi := r.any (fun x => x.2.prio = w.2.prio), count := min 255 (r.length + 1) }

/-- R325: the status word. -/
def statusWord (f : Option Found) : Nat :=
  match f with
  | none => 0
  | some f => f.index + 2 ^ 16 + 2 ^ 17 * bit f.multi + 2 ^ 18 * f.entry.prio + 2 ^ 22 * f.count

/-- R322: the search key of a row. -/
def searchKey (c : MatchCfg) (cs : List Column) (r : Nat) : Nat := ((cs.zip c.offsets).map (fun x => x.1.code r * 2 ^ x.2)).foldl (· + ·) 0

/-! ### Checks (R323, R326, R327) -/

/-- R323 check 2: fields within the key, none overlapping. -/
def fieldsOk (c : MatchCfg) (cs : List Column) : Bool :=
  let fs := (cs.zip c.offsets).map (fun x => (x.2, x.2 + elemBits x.1.type))
  cs.all (fun x => x.type != 0x20) && fs.all (fun f => decide (f.2 ≤ c.keyWidth))
    && (fs.zipIdx.all (fun a => fs.zipIdx.all (fun b => a.2 = b.2 || decide (a.1.2 ≤ b.1.1) || decide (b.1.2 ≤ a.1.1))))

/-- Bytes of the outputs of a search of these operands whose size the operands fix: those of LOOKUP (R323 check 4). -/
def searchOutBytes (c : MatchCfg) (cs : List Column) (rows : Nat) : Nat :=
  if c.mode = 0 then dataOffset (!(List.range rows).all (rowPresent cs)) rows + 8 * rows else 32

/-- R323: the columns of a search job, or the code of the first failure; what a filter keeps is known when its rows have been searched, and
its outputs are checked then (log 62). -/
def searchCheck (c : MatchCfg) (buf : Nat) (data : List (List Byte)) : List Column ⊕ Nat :=
  match data.mapM columnOf with
  | none => .inr 0x0A11
  | some cs => match cs with
    | [] => .inr 0x0A11
    | x :: _ =>
      if cs.any (fun y => y.col = 0xFFFD) then .inr 0x0A11
      else if !fieldsOk c cs then .inr 0x0A12
      else if !cs.all (fun y => decide (y.count = x.count) && decide (y.first = x.first)) then .inr 0x0A13
      else if buf < searchOutBytes c cs x.count then .inr 0x0A14 else .inl cs

/-- The entry change of a 128-byte record (R326). -/
def changeOf (b : List Byte) : MatchChange :=
  { op := leAt b 0 1, index := leAt b 2 2, src := leAt b 4 2, key := leAt b 8 40, care := leAt b 48 40, result := leAt b 88 8
    prio := bitsOf (leAt b 96 1) 0 4, pair := bitAt (leAt b 1 1) 0 }

/-- Check 3 of R327 on one record, PAIR_FIRST apart. -/
def recordOk (b : List Byte) (entries : Nat) (wide : Bool) : Bool :=
  let x := changeOf b
  decide (1 ≤ x.op) && decide (x.op ≤ 3) && bitsOf (leAt b 1 1) 1 7 = 0 && leAt b 6 2 = 0 && bitsOf (leAt b 96 1) 4 4 = 0 && leAt b 97 31 = 0
    && decide (x.index < entries) && decide (x.src < entries) && Nat.land x.key (2 ^ 320 - 1 - x.care) = 0
    && (wide || x.key / 2 ^ 160 = 0)
    && (x.op = 3 || x.src = 0) && (x.op = 1 || (x.key = 0 && x.care = 0 && x.result = 0 && x.prio = 0))

/-- PAIR_FIRST stands neither on the last record nor on the second of a pair. -/
def pairsOk : List MatchChange → Bool
  | [] => true
  | [x] => !x.pair
  | x :: y :: r => if x.pair then !y.pair && pairsOk r else pairsOk (y :: r)

/-- R327: the changes of an update buffer, or the code of the first failure. -/
def updateCheck (c : MatchCfg) (data : List Byte) : List MatchChange ⊕ Nat :=
  let h := outHeaderOf data
  let recs := (List.range h.count).map (fun i => (data.drop (32 + 128 * i)).take 128)
  if !c.updates then .inr 0x0A05
  else if data.length < 32 || h.type != 0x09 || bitAt h.flags 0 || 4 ≤ h.flags || h.rsv != 0 || h.dataOff != 32 || h.dataBytes != 128 * h.count
      || data.length != 32 + h.dataBytes then .inr 0x0A11
  else if !recs.all (fun b => recordOk b c.entries c.wide) || !pairsOk (recs.map changeOf) then .inr 0x0A15
  else .inl (recs.map changeOf)

/-! ### Applying changes (R326, R328 to R330) -/

/-- One change at the places of its INDEX and SRC. -/
def Device.applyChange (d : Device) (x : MatchChange) (place : Nat → EntryPlace) : Device :=
  let p := place x.index
  match x.op with
  | 1 => d.putEntry p { state := 1, key := x.key, care := x.care, result := x.result, prio := x.prio }
  | 2 => d.putEntry p { (d.getEntry p) with state := 0 }
  | _ => d.putEntry p (d.getEntry (place x.src))

/-- TASK_COMMIT: the changes a task staged wait for their slots, in the order of its update jobs. -/
def Device.matchCommit (d : Device) (tag : Nat) : Device :=
  d.matchI.foldl (fun d e =>
    let g := d.matchI.getD e.1 MatchInst.empty
    let mine := g.staged.filter (fun r => r.1 = tag)
    if mine.isEmpty then d
    else { d with matchI := d.matchI.put e.1 { staged := g.staged.filter (fun r => r.1 != tag), apply := g.apply ++ mine.map (·.2) } }) d

/-- R328, R161: an abort discards the changes a task staged on a die. -/
def Device.matchAbort (d : Device) (die tag : Nat) : Device :=
  { d with matchI := d.matchI.mapVals (fun k g => if k / 1024 = die then { g with staged := g.staged.filter (fun r => r.1 != tag) } else g) }

/-- R333: each bank of a plan switched in is cleared or kept. -/
def Device.matchSwitch (d : Device) : Device :=
  { d with
    matchI := []
    matchE := (d.matchE.mapVals (fun n x =>
      match d.gangOf (n / 4096 / 64) (n / 4096 % 64) with
      | some (_, c) => if c.keep then x else { x with state := 0 }
      | none => x)) }

/-! ### Meanings -/

/-- The head of a gang's Lift is an update buffer (R321, R326). -/
def Device.headIsUpdate (d : Device) (lk : Nat) : Bool :=
  match d.liftQ lk with
  | e :: _ => decide (2 ≤ e.h.len) && d.readLe e.h.addr 2 = 0xFFFD
  | [] => false

/-- A host action waits for a bank of the gang (R329). -/
def Device.hostWaits (d : Device) (die k : Nat) (c : MatchCfg) : Bool :=
  let r := (d.reg (Reg.MATCH_HOST_CMD die)).toNat
  bitAt r 9 && ((bitsOf r 0 6) ∈ c.banks k || (bitAt r 6 && (bitsOf r 0 6 + 1) ∈ c.banks k))

/-- MATCH_SEARCH_JOB (R321 to R323, R329): a free leader begins a search job; a job under way searches its next row in a slot that no
host action and no committed change takes.  `ecc` lists gang indices whose words are found uncorrectable. -/
def execMatchSearchJob (dd : Fin 4) (k : Fin 64) (ecc : List Nat) (st : State) : Host.Outcome State Fault Refusal :=
  st.upd (fun d =>
    match d.stationCfg dd.val 1 k.val with
    | none => d
    | some b =>
      let c := matchCfg b
      let key := matchKey dd.val k.val
      let lk := 4096 * dd.val + c.inLift
      let failAs (d : Device) (j : Job) (code : Nat) := d.failJob key (Reg.MATCH_JOBS_FAILED dd.val k.val) (Reg.MATCH_LAST_FAIL dd.val k.val) code j
      if d.gangStopped dd.val k.val c then d
      else match d.job key with
        | none =>
          let d := d.discardFront lk
          if d.headIsUpdate lk then d
          else match d.popRun lk c.arity with
            | (none, d) => d
            | (some hs, d) =>
              let tag := (hs.head?.map (·.tag)).getD 0
              let (seq, d) := d.takeSeq key tag
              let j : Job := { mode := 0, tag := tag, inputs := hs, seq := seq, words := [], bytes := [] }
              if d.inputsPoisoned hs then failAs d j 0x0F12
              else match searchCheck c (d.poolSize (poolKey dd.val c.outPool)) (hs.map d.handleData) with
                | .inr code => failAs d j code
                | .inl _ => d.setJob key j
        | some j =>
          if !(d.gang dd.val k.val).apply.isEmpty || d.hostWaits dd.val k.val c then d
          else
            let d := ecc.foldl (fun d i => if i < c.entries then (d.entryBad (gangPlace dd.val k.val c i) false) else d) d
            match searchCheck c (d.poolSize (poolKey dd.val c.outPool)) (j.inputs.map d.handleData) with
            | .inr code => failAs d j code
            | .inl cs =>
              match (List.range ((cs.head?.map (·.count)).getD 0)).find? (fun r => decide (j.words.length / 3 ≤ r) && rowPresent cs r) with
              | none => d
              | some r =>
                if d.gangBad dd.val k.val c then failAs d j 0x0A16
                else
                  let f := d.search dd.val k.val c (searchKey c cs r)
                  let skipped := (List.range (r - j.words.length / 3)).flatMap (fun _ => [0, 0, 0])
                  let d := d.count (Reg.MATCH_SEARCHES dd.val k.val) 64 1
                  let d := d.count (Reg.MATCH_HITS dd.val k.val) 64 (bit f.isSome)
                  let d := d.count (Reg.MATCH_MULTI dd.val k.val) 64 (bit (f.any (·.multi)))
                  d.setJob key { j with words := j.words ++ skipped ++ [1, statusWord f, match f with | some x => x.entry.result | none => c.miss] })

/-- MATCH_UPDATE_JOB (R327, R328): an update buffer is checked, its changes staged, its buffer released. -/
def execMatchUpdateJob (dd : Fin 4) (k : Fin 64) (st : State) : Host.Outcome State Fault Refusal :=
  st.upd (fun d =>
    match d.stationCfg dd.val 1 k.val with
    | none => d
    | some b =>
      let c := matchCfg b
      let key := matchKey dd.val k.val
      let lk := 4096 * dd.val + c.inLift
      if d.gangStopped dd.val k.val c || (d.job key).isSome then d
      else
        let d := d.discardFront lk
        if !d.headIsUpdate lk then d
        else match d.popLift lk with
          | none => d
          | some (e, d) =>
            let (seq, d) := d.takeSeq key e.tag
            let j : Job := { mode := 1, tag := e.tag, inputs := [e], seq := seq, words := [], bytes := [] }
            let fail (code : Nat) := d.failJob key (Reg.MATCH_JOBS_FAILED dd.val k.val) (Reg.MATCH_LAST_FAIL dd.val k.val) code j
            if d.inputsPoisoned [e] then fail 0x0F12
            else match updateCheck c (d.handleData e) with
              | .inr code => fail code
              | .inl xs =>
                let d := d.stageStation e.tag dd.val (2 * xs.length)
                let g := d.gang dd.val k.val
                (if d.taskGone e.tag then d else d.setGang dd.val k.val { g with staged := g.staged ++ xs.map (fun x => (e.tag, x)) }).releaseHandle (stationRouter (stKey dd.val 1 k.val)) e.h)

/-- R324: the two buffers of a search job whose rows have all been searched; `words` holds present, status and result of each row. -/
def searchOutputs (c : MatchCfg) (cs : List Column) (seq : Nat) (words : List Nat) : List (List Byte) :=
  match cs with
  | [] => []
  | x :: _ =>
    let n := x.count
    let present := (List.range n).map (rowPresent cs)
    let status (r : Nat) := words.getD (3 * r + 1) 0
    let result (r : Nat) := words.getD (3 * r + 2) 0
    let col := if c.outCol = 0xFFFF then x.col else c.outCol
    if c.mode = 0 then
      let p0 := perRow 0x0C present 0 result
      let p1 := perRow 0x0E present 0 status
      [columnBuffer col 0x0C n x.first seq 0 false p0.nulls (packRow 0x0C p0.codes), columnBuffer 0xFFFC 0x0E n x.first seq 1 true p1.nulls (packRow 0x0E p1.codes)]
    else
      let rows := (List.range n).filter (fun r => rowPresent cs r && bitAt (status r) 16 = decide (c.mode = 1))
      [columnBuffer 0xFFFF 0x0E rows.length x.first seq 0 false none (rows.flatMap u32)
        , columnBuffer col 0x0C rows.length x.first seq 1 true none (rows.flatMap (fun r => u64 (result r)))]

/-- MATCH_JOB_END (R324): a search job whose rows have all been searched pushes its two buffers, if they fit (R323 check 4). -/
def execMatchJobEnd (dd : Fin 4) (k : Fin 64) (st : State) : Host.Outcome State Fault Refusal :=
  st.upd (fun d => d.withJob dd.val 1 k.val (fun b j d =>
    let c := matchCfg b
    let key := matchKey dd.val k.val
    let pk := poolKey dd.val c.outPool
    let fail (code : Nat) := d.failJob key (Reg.MATCH_JOBS_FAILED dd.val k.val) (Reg.MATCH_LAST_FAIL dd.val k.val) code j
    let fin (d : Device) : Device := (d.dropJob key).releaseInputs key j
    if j.pushed then d.afterPush key fin
    else match searchCheck c (d.poolSize pk) (j.inputs.map d.handleData) with
      | .inr code => fail code
      | .inl cs =>
        let n := (cs.head?.map (·.count)).getD 0
        let outs := searchOutputs c cs j.seq j.words
        if (List.range n).any (fun r => decide (j.words.length / 3 ≤ r) && rowPresent cs r) then d
        else if outs.any (fun o => decide (d.poolSize pk < o.length)) then fail 0x0A14
        else d.jobOutputs key pk (d.stationOut dd.val 1 k.val 1 c.outLift) j ((j.inputs.getLast?.map (·.h.last)).getD false) false outs id fin))

/-- R334, R317: an entry found uncorrectable through a bank becomes BAD whole, as the gang that holds the bank lays it out. -/
def Device.bankEntryBad (d : Device) (p : EntryPlace) : Device := d.entryBad (d.bankPlace p.die p.bank p.e) false

/-- The entries that MOVE records of `xs` copy are found uncorrectable where `ecc` says so, bit by record (R334). -/
def Device.movedBad (d : Device) (xs : List MatchChange) (ecc : Nat) (place : Nat → EntryPlace) : Device :=
  xs.zipIdx.foldl (fun d x => if bitAt ecc x.2 && x.1.op = 3 then d.bankEntryBad (place x.1.src) else d) d

/-- The next committed changes of a gang are applied: one, or under PAIRED both records of a pair. -/
def Device.applyNext (d : Device) (die k ecc : Nat) (c : MatchCfg) : Device :=
  let g := d.gang die k
  let n := match g.apply with | x :: _ :: _ => if c.paired && x.pair then 2 else 1 | _ => 1
  let xs := g.apply.take n
  let place := gangPlace die k c
  (xs.foldl (fun d x => d.applyChange x place) ((d.setGang die k { g with apply := g.apply.drop n }).movedBad xs ecc place)).count
    (Reg.MATCH_UPDATES die k) 64 xs.length

/-- MATCH_COMMIT_APPLY (R328 to R330): the next change of a committed task is applied in a slot; under PAIRED both records of a pair in
two slots together.  A gated gang issues none (R570); a fenced one completes the commits it holds (R158).  `ecc` says which of the entries that MOVE records copy are found uncorrectable. -/
def execMatchCommitApply (dd : Fin 4) (k : Fin 64) (ecc : BitVec 2) (st : State) : Host.Outcome State Fault Refusal :=
  st.upd (fun d =>
    match d.stationCfg dd.val 1 k.val with
    | none => d
    | some b =>
      let c := matchCfg b
      if d.mgmt.gated || d.hostWaits dd.val k.val c || (d.gang dd.val k.val).apply.isEmpty then d else d.applyNext dd.val k.val ecc.toNat c)

/-- R158, R328, R532: the committed changes that still wait are all applied, before a device reset empties the plans. -/
def Device.applyCommitted (d : Device) : Device :=
  d.matchI.foldl (fun d e =>
    let die := e.1 / 1024
    let k := e.1 % 64
    match d.stationCfg die 1 k with
    | none => d
    | some b => e.2.apply.foldl (fun d _ => if (d.gang die k).apply.isEmpty then d else d.applyNext die k 0 (matchCfg b)) d) d

/-! ### Host actions (R331, R332) -/

/-- The 128 bytes of a host record window. -/
def Device.hostRecord (d : Device) (die i : Nat) : List Byte :=
  (List.range 32).flatMap (fun w => leBytes 4 (d.reg (if i = 0 then Reg.MATCH_HOST_REC0 die w else Reg.MATCH_HOST_REC1 die w)).toNat)

/-- What the records of an action are refused with, if they are (R332). -/
def Device.hostRecordsBad (d : Device) (die act : Nat) (wide : Bool) : Option Nat :=
  let recs := match act with | 0 => [d.hostRecord die 0] | 1 => [d.hostRecord die 0, d.hostRecord die 1] | _ => []
  if recs.any (fun b => (changeOf b).op = 0 || decide (3 < (changeOf b).op)) then some 0x0A02
  else if !recs.all (fun b => recordOk b 4096 wide) || !pairsOk (recs.map changeOf) || (act = 2 && 4096 ≤ (changeOf (d.hostRecord die 0)).index) then some 0x0A15
  else none

/-- R332: why an action is refused, for the BANK, WIDE and ACTION of a word and the records in their windows. -/
def Device.hostMatchBad (d : Device) (die word : Nat) : Option Nat :=
  let act := bitsOf word 7 2
  let wide := bitAt word 6
  let bad := d.hostRecordsBad die act wide
  if act = 3 || bad = some 0x0A02 then some 0x0A02
  else if wide && bitsOf word 0 6 % 2 = 1 then some 0x0A04
  else bad

/-- R332: why a GO is refused, for the word written. -/
def Device.hostMatchCheck (d : Device) (die word : Nat) : Option Nat :=
  if bitAt (d.reg (Reg.MATCH_HOST_CMD die)).toNat 9 then some 0x0A06 else d.hostMatchBad die word

/-- A write of MATCH_HOST_CMD: BANK, WIDE and ACTION are stored, but for a reserved ACTION (R5); GO starts the action, which then waits for
its slot, or is refused (R332). -/
def Device.writeMatchCmd (d : Device) (die word : Nat) : Device :=
  let r := Reg.MATCH_HOST_CMD die
  let set (d : Device) := d.setFld r ⟨0, 9⟩ (bitsOf word 0 9)
  match (if bitAt word 9 then d.hostMatchCheck die word else if bitsOf word 7 2 = 3 then some 0x0A02 else none) with
  | some code => (d.setFld r ⟨32, 16⟩ code).refuse code die
  | none => if bitAt word 9 then (set d).setFld r ⟨9, 1⟩ 1 else set d

/-- The banks of a host action do work: neither they nor, on a bank in use, the gang whose slot the action takes are fenced, idled or
gated (R550, R570). -/
def Device.hostBankStopped (d : Device) (die bank : Nat) (wide : Bool) : Bool :=
  d.stationStopped die 1 bank || (wide && d.stationStopped die 1 (bank + 1))
    || (match d.gangOf die bank with | some (k, c) => d.gangStopped die k c | none => false)

/-- The pending action of a die with the given ACTION takes its slot; it is held during a plan switch (R331) and while its banks do no
work.  What the host has written into the command and the record windows since GO is judged again: an action it breaks ends with the code
of its refusal and changes nothing (R332; log 62). -/
def Device.hostMatch (d : Device) (die act : Nat) (f : EntryPlace → Nat → Device → Device) : Device :=
  let w := (d.reg (Reg.MATCH_HOST_CMD die)).toNat
  let running := match d.plan.switch with | .running _ => true | _ => false
  let bank := bitsOf w 0 6
  if !bitAt w 9 || bitsOf w 7 2 != act || running || d.hostBankStopped die bank (bitAt w 6) then d
  else
    let leader := match d.gangOf die bank with | some (k, _) => k | none => bank
    let done (d : Device) (code : Nat) : Device := (d.setFld (Reg.MATCH_HOST_CMD die) ⟨32, 16⟩ code).setFld (Reg.MATCH_HOST_CMD die) ⟨9, 1⟩ 0
    match d.hostMatchBad die w with
    | some code => (done d code).refuse code die
    | none => done (f { die := die, bank := bank, e := 0, wide := bitAt w 6 } leader d) 0

/-- The records of a host action are applied; `ecc` says which of the entries that MOVE records copy are found uncorrectable. -/
def Device.hostApply (d : Device) (die leader ecc : Nat) (p : EntryPlace) (xs : List MatchChange) : Device :=
  let place (i : Nat) : EntryPlace := { p with e := i }
  (xs.foldl (fun d x => d.applyChange x place) (d.movedBad xs ecc place)).count (Reg.MATCH_UPDATES die leader) 64 xs.length

/-- MATCH_HOST_APPLY (R331): the pending APPLY applies REC0 in one slot. -/
def execMatchHostApply (m : MatchAction) (st : State) : Host.Outcome State Fault Refusal :=
  st.upd (fun d => d.hostMatch m.die.val 0 (fun p leader d => d.hostApply m.die.val leader m.ecc.toNat p [changeOf (d.hostRecord m.die.val 0)]))

/-- MATCH_HOST_PAIR (R331): the pending PAIR applies REC0 and REC1 in two consecutive slots. -/
def execMatchHostPair (m : MatchAction) (st : State) : Host.Outcome State Fault Refusal :=
  st.upd (fun d => d.hostMatch m.die.val 1 (fun p leader d =>
    d.hostApply m.die.val leader m.ecc.toNat p [changeOf (d.hostRecord m.die.val 0), changeOf (d.hostRecord m.die.val 1)]))

/-- A WRITE record of an entry. -/
def entryRecord (i : Nat) (x : MatchEntry) : List Byte :=
  u8 1 ++ u8 0 ++ u16 i ++ u16 0 ++ u16 0 ++ leBytes 40 x.key ++ leBytes 40 x.care ++ u64 x.result ++ u8 x.prio ++ zeros 31

/-- MATCH_HOST_READ (R331): the pending READ copies the entry into REC0 and sets ENTRY_STATE; bit 0 of `ecc` says that it is found uncorrectable
(R334). -/
def execMatchHostRead (m : MatchAction) (st : State) : Host.Outcome State Fault Refusal :=
  st.upd (fun d => d.hostMatch m.die.val 2 (fun p _ d =>
    let i := (changeOf (d.hostRecord m.die.val 0)).index
    let d := if bitAt m.ecc.toNat 0 then d.bankEntryBad { p with e := i } else d
    let x := d.getEntry { p with e := i }
    let b := entryRecord i x
    ((List.range 32).foldl (fun d w => d.setReg (Reg.MATCH_HOST_REC0 m.die.val w) (BitVec.ofNat 64 (leAt b (4 * w) 4))) d).setFld
      (Reg.MATCH_HOST_CMD m.die.val) ⟨10, 2⟩ x.state))

end Sys2Proof.Machine
end

