-- ==== Sys2Proof/Machine/Time.lean ====
section
/-!
DEFINITION. Cadence sources and marks, phase saturation and calendar time (chapter 2: R37 to R59).  What an accepted mark and a
segment boundary do to the rest of the device is in Mark.lean.
-/

namespace Sys2Proof.Machine

def Device.updTime (d : Device) (f : TimeUnit → TimeUnit) : Device := { d with time := f d.time }

/-- A record located at X0 (R555): the cadence inputs and the management plane lie there (R29). -/
def x0Loc : Loc := { kind := 6, die := 4 }

/-! ### Sources (R37, R38, R41) -/

/-- The time of the last mark of a source. -/
def TimeUnit.lastMark (t : TimeUnit) (src : Nat) : Option Nat :=
  match src with | 1 => t.lastPin | 2 => t.lastLink | 3 => t.lastHost | _ => none

/-- R38: a source has delivered a mark within the last 4 × PRED_NS. -/
def Device.present (d : Device) (src : Nat) : Bool :=
  match d.time.lastMark src with
  | some t => d.now - t < 4 * d.pred
  | none => false

def Device.srcSel (d : Device) : Nat := d.fld Reg.CAD_CTRL Fd.CAD_CTRL_SRC_SEL

/-- R37, R38, R41: the source in use: under AUTO the first present of PIN, LINK and HOST, else the generator; under a fixed
selection that source, and the generator while it is lost (DEDUCED, log 20). -/
def Device.sourceInUse (d : Device) : Nat :=
  match d.srcSel with
  | 0 => (([1, 2, 3].filter d.present).head?).getD 4
  | 4 => 4
  | s => if d.time.lost then 4 else s

/-- The source in use is written into CAD_STATUS; a change clears HIST_FILL and LOCKED (R44) and writes an INFO record
(R542). -/
def Device.refreshSource (d : Device) : Device :=
  let new := d.sourceInUse
  if d.fld Reg.CAD_STATUS Fd.CAD_STATUS_SRC_ACTIVE = new then d
  else
    let d := d.setFld Reg.CAD_STATUS Fd.CAD_STATUS_SRC_ACTIVE new
    let d := (d.setFld Reg.CAD_STATUS Fd.CAD_STATUS_HIST_FILL 0).setFld Reg.CAD_STATUS Fd.CAD_STATUS_LOCKED 0
    d.record { severity := 0, loc := x0Loc }

/-- The source in use; under AUTO, the one that the last mark, write or loss left in CAD_STATUS.SRC_ACTIVE. -/
def Device.activeSource (d : Device) : Nat :=
  if d.srcSel = 0 then d.fld Reg.CAD_STATUS Fd.CAD_STATUS_SRC_ACTIVE else d.sourceInUse

/-- What 4 × PRED_NS are counted from: the last accepted mark; where none has been accepted, the cold reset (DESIGN CHOICE, log 94). -/
def Device.lossBase (d : Device) : Nat := d.time.lastAccepted.getD d.time.noneBase

/-- R41: the source in use is one that a loss is declared for when 4 × PRED_NS pass with no accepted mark.  Under AUTO a source whose
presence ends before that moment gives way without a loss (R38). -/
def Device.lossDue (d : Device) : Bool :=
  !d.time.lost && d.activeSource != 4 &&
    (d.srcSel != 0 || decide (d.lossBase ≤ (d.time.lastMark d.activeSource).getD d.time.noneBase))

/-- R38, R59: under AUTO a source whose presence has ended, with no loss to declare, is no longer the source in use. -/
def Device.lapseSource (d : Device) : Device := if d.lossDue then d else d.refreshSource

/-- R39: a mark of the source in use is accepted, or ignored and counted when it comes too soon; vector 3 (R512). -/
def Device.judgeMark (d : Device) (src : Nat) : Device :=
  let soon := match d.time.lastAccepted with
    | some t => decide (d.now - t < d.fld Reg.CAD_MIN_GAP Fd.CAD_MIN_GAP_MIN_GAP_NS)
    | none => false
  if soon then d.count Reg.CAD_GLITCH_COUNT 32 1
  else (d.updTime (fun u => { u with lastAccepted := some d.now
                                     pending := u.pending ++ [{ time := d.now, src := src, cal := d.calNow }] })).signal 3

/-- R37 to R41: a mark of PIN (1), LINK (2) or HOST (3) is detected now. -/
def Device.deliverMark (d : Device) (src : Nat) : Device :=
  let d := d.lapseSource.updTime (fun u =>
    match src with
    | 1 => { u with lastPin := some d.now } | 2 => { u with lastLink := some d.now } | _ => { u with lastHost := some d.now })
  let takesUp := d.srcSel = src || (d.srcSel = 0 && decide (d.sourceInUse != 4))
  let d := (if takesUp then d.updTime (fun u => { u with lost := false }) else d).refreshSource
  if d.sourceInUse = src then d.judgeMark src else d

/-- A mark of the generator (R37, R41). -/
def Device.generatorMark (d : Device) : Device :=
  (d.updTime (fun u => { u with lastGen := d.now })).judgeMark 4

/-- The time the generator counts from: its last mark, or the last accepted mark if that is later.  The spec gives the period alone, not
from when it counts once the generator takes over or FREE is selected (DESIGN CHOICE, log 94). -/
def Device.generatorBase (d : Device) : Nat := max d.time.lastGen (d.time.lastAccepted.getD 0)

/-- R37: a rising edge of CAD_P − CAD_N detected at time `t`. -/
def execCadPinEdge (t : Nat) (s : State) : Host.Outcome State Fault Refusal :=
  s.upd (fun d => (d.at t).deliverMark 1)

/-- R37: the generator's period ends while FREE is in use and no source is lost. -/
def execCadFreeMark (s : State) : Host.Outcome State Fault Refusal :=
  s.upd (fun d =>
    let d := d.lapseSource
    if d.activeSource = 4 && !d.time.lost then
      (d.at (d.generatorBase + d.fld Reg.CAD_FREE_PERIOD Fd.CAD_FREE_PERIOD_PERIOD_NS)).generatorMark
    else d)

/-- R42: a write of 1 to CAD_HOST_MARK.MARK. -/
def Device.hostMark (d : Device) : Device :=
  if d.srcSel = 3 || (d.srcSel = 0 && !d.present 1 && !d.present 2) then d.deliverMark 3 else d.refuse 0x1006

/-- R42: a host write of 1 to CAD_HOST_MARK.MARK at time `t`. -/
def execCadHostMark (t : Nat) (s : State) : Host.Outcome State Fault Refusal := s.upd (fun d => (d.at t).hostMark)

/-- R42: a write to CAD_CTRL.  The spec does not say whether marks taken on the former LINK_PORT keep LINK present once another port is
named: the time of the last LINK mark stays (DESIGN CHOICE, log 94). -/
def Device.cadCtrlWrite (d : Device) (x : Nat) : Device :=
  if 64 ≤ x then d.refuse 0x1001
  else if 4 < x % 8 then d.refuse 0x1002
  else if x % 8 = 2 && d.fld (Reg.PORT_CTRL (x / 8)) Fd.PORT_CTRL_MODE = 1 then d.refuse 0x1005
  else
    let same := d.srcSel = x % 8
    let d := d.lapseSource.setReg Reg.CAD_CTRL (BitVec.ofNat 64 x)
    let d := if same then d else d.updTime (fun u => { u with lost := false })
    d.refreshSource

def execCadCtrlWrite (v : Word) (s : State) : Host.Outcome State Fault Refusal := s.upd (fun d => d.cadCtrlWrite v.toNat)

/-- R41: the source in use has delivered no accepted mark within 4 × PRED_NS of the previous accepted mark: it is declared lost.  Where no
mark has been accepted since the cold reset the time runs from that reset (`Device.lossBase`), for the spec names no moment (DESIGN CHOICE,
log 94). -/
def execSourceLost (s : State) : Host.Outcome State Fault Refusal :=
  s.upd (fun d =>
    if d.time.lost then d
    else
      let d := (d.at (d.lossBase + 4 * d.pred)).lapseSource
      if d.activeSource = 4 then d
      else
        let d := (d.setFld Reg.CAD_STATUS Fd.CAD_STATUS_SRC_LOST 1).count Reg.CAD_LOSS_COUNT 32 1
        let d := d.record { severity := 2, loc := x0Loc }
        let d := (d.updTime (fun u => { u with lost := true })).refreshSource.generatorMark
        if d.sourceInUse = 4 then d else d.updTime (fun u => { u with lost := false }))

/-- R41: while a source is lost the generator marks every PRED_NS. -/
def execLossGeneratorMark (s : State) : Host.Outcome State Fault Refusal :=
  s.upd (fun d =>
    if d.time.lost then
      let d := (d.at (d.generatorBase + d.pred)).refreshSource
      if d.sourceInUse = 4 then d.generatorMark else d.updTime (fun u => { u with lost := false })
    else d)

/-- R49: elapsed_ns reaches PRED_NS before the next accepted mark. -/
def execPhaseSaturate (s : State) : Host.Outcome State Fault Refusal :=
  s.upd (fun d => (d.at (d.time.stepStart + d.pred)).updTime (fun u => { u with saturated := true }))

/-! ### Calendar time (R53 to R57) -/

/-- CAL_TIME is set, with the rate it then advances at; a change other than its steady advance writes a record (R56). -/
def Device.setCalendar (d : Device) (v num den : Nat) : Device :=
  let old := d.calNow
  let d := d.updTime (fun u => { u with calBase := v % 2 ^ 64, calAt := d.now, calNum := num, calDen := den })
  if old = v % 2 ^ 64 then d else d.record { severity := 0, loc := x0Loc, arg0 := old, arg1 := v % 2 ^ 64 }

/-- R53: a write to CAL_CTRL.  DESIGN CHOICES (log 94), where the spec is silent: until the first edge or servo step of a newly selected
PPS or PTP CAL_TIME runs on from its value and at its rate; every write that names PPS selects it anew, so ARMED and the last edge are
forgotten; every write clears HOLDOVER. -/
def Device.calCtrlWrite (d : Device) (x : Nat) : Device :=
  let port := x / 4 % 8
  if 32 ≤ x then d.refuse 0x1001
  else if x % 4 = 3 then d.refuse 0x1002
  else if x % 4 = 1 && !(d.fld (Reg.PORT_CTRL port) Fd.PORT_CTRL_MODE = 1 && d.fld (Reg.PORT_CTRL port) Fd.PORT_CTRL_PTP_EN = 1) then
    d.refuse 0x1005
  else
    let locked := x % 4 = 1 && d.fld (Reg.PORT_STATUS port) Fd.PORT_STATUS_PTP_LOCK = 1
    let d := (d.setReg Reg.CAL_CTRL (BitVec.ofNat 64 x)).setReg Reg.CAL_STATUS (if locked then 1 else 0)
    let d := d.updTime (fun u => { u with ppsLast := none, ppsValue := none })
    if x % 4 = 0 then d.setCalendar (d.now - d.time.noneBase) 1 1 else d

def execCalCtrlWrite (v : Word) (s : State) : Host.Outcome State Fault Refusal := s.upd (fun d => d.calCtrlWrite v.toNat)

/-- R54: a write of CAL_EPOCH_SEC arms the next edge. -/
def Device.calEpochWrite (d : Device) (v : DWord) : Device := (d.setReg Reg.CAL_EPOCH_SEC v).setFld Reg.CAL_STATUS Fd.CAL_STATUS_ARMED 1

def execCalEpochSecWrite (v : DWord) (s : State) : Host.Outcome State Fault Refusal := s.write64 Reg.CAL_EPOCH_SEC (fun d => d.calEpochWrite v)

/-- R54: an edge of PPS_IN at time `t`, while PPS is the source: armed, it sets the count to the epoch; later ones add one
second to the value set before; the rate makes the last two edges one second apart.  An epoch whose nanoseconds do not fit in 64 bits is
taken modulo 2^64, as CAL_TIME is a 64-bit count (DESIGN CHOICE, log 94). -/
def execPpsEdge (t : Nat) (s : State) : Host.Outcome State Fault Refusal :=
  s.upd (fun d =>
    let d := d.at t
    if d.fld Reg.CAL_CTRL Fd.CAL_CTRL_SRC != 2 then d
    else
      let armed := d.fld Reg.CAL_STATUS Fd.CAL_STATUS_ARMED = 1
      let value := if armed then some ((d.reg Reg.CAL_EPOCH_SEC).toNat * 1000000000 % 2 ^ 64)
        else d.time.ppsValue.map (fun v => (v + 1000000000) % 2 ^ 64)
      match value with
      | none => d
      | some v =>
        let rate := match d.time.ppsLast with
          | some p => if p < d.now then (1000000000, d.now - p) else (d.time.calNum, d.time.calDen)
          | none => (d.time.calNum, d.time.calDen)
        let d := d.setCalendar v rate.1 rate.2
        let d := d.updTime (fun u => { u with ppsLast := some d.now, ppsValue := some v })
        let d := if armed then d else d.setReg Reg.CAL_EPOCH_SEC (BitVec.ofNat 64 (v / 1000000000))
        d.setReg Reg.CAL_STATUS 1)

/-- R55: no edge for 1.5 s.  Where PPS was selected and no edge has been taken, VALID is 0 and there is no rate to run on at: HOLDOVER stays
0 (DESIGN CHOICE, log 94). -/
def execPpsHoldover (s : State) : Host.Outcome State Fault Refusal :=
  s.upd (fun d =>
    match d.time.ppsLast with
    | some p =>
      if d.fld Reg.CAL_CTRL Fd.CAL_CTRL_SRC = 2 && d.calValid then
        (d.at (p + 1500000000)).setFld Reg.CAL_STATUS Fd.CAL_STATUS_HOLDOVER 1
      else d
    | none => d)

end Sys2Proof.Machine
end

