-- ==== Sys2Proof/Machine/Links.lean ====
section
/-!
DEFINITION. Alanauri ports, flits, transport messages, the column group, peer accesses (chapter 15: R434 to R452; R476).
-/

namespace Sys2Proof.Machine

/-! ### Ports (R434, R435, R441) -/

/-- R53, R55: the PTP servo of a port reports lock or loses it; calendar time follows where the port is its source. -/
def Device.ptpLock (d : Device) (p : Nat) (on : Bool) : Device :=
  let was := d.fld (Reg.PORT_STATUS p) Fd.PORT_STATUS_PTP_LOCK = 1
  let d := d.setFld (Reg.PORT_STATUS p) Fd.PORT_STATUS_PTP_LOCK (bit on)
  if d.fld Reg.CAL_CTRL Fd.CAL_CTRL_SRC != 1 || d.fld Reg.CAL_CTRL Fd.CAL_CTRL_PTP_PORT != p then d
  else if on then (d.setFld Reg.CAL_STATUS Fd.CAL_STATUS_VALID 1).setFld Reg.CAL_STATUS Fd.CAL_STATUS_HOLDOVER 0
  else if was then d.setFld Reg.CAL_STATUS Fd.CAL_STATUS_HOLDOVER 1
  else d

/-- The flit of a remote signal that was dropped: it carries padding alone (R225).  One flit holds a whole signal, whose header is not zero. -/
def TxFlit.dropped (f : TxFlit) : Bool := f.msg.mtype = 0x03 && f.payload.all (· = 0)

/-- The messages of flits in order, each once, with the die each came from. -/
def messagesOf (fs : List TxFlit) : List (LinkMsg × Nat) :=
  fs.foldl (fun acc f => if f.dropped || acc.any (fun x => x.1 = f.msg) then acc else acc ++ [(f.msg, f.die)]) []

/-- R441: a link goes down: the messages with unacknowledged flits go to the route that replaces it, in order, or wait for it to train again. -/
def Device.linkDown (d : Device) (p : Nat) : Device :=
  let u := d.portUnit p
  let d := (d.setFld (Reg.PORT_STATUS p) Fd.PORT_STATUS_LINK_UP 0).setPort p PortUnit.trained
  (messagesOf (u.retry.map (fun r => r.2.2) ++ u.queue)).foldl (fun d m =>
    match d.routePort m.1.dst with
    | some q => d.portSend q (linkFlits m.1 m.2)
    | none => d) d

/-- A write of PORT_CTRL (R435): a port that is disabled takes its link down (R441). -/
def Device.portCtrlWrite (d : Device) (p v : Nat) : Device :=
  let old := (d.reg (Reg.PORT_CTRL p)).toNat
  if 32 ≤ v then d.refuse 0x0E01
  else if (bitAt old 0 && bitAt old 1 != bitAt v 1) || (!bitAt v 1 && (bitAt v 2 || bitAt v 3 || bitAt v 4)) then d.refuse 0x0E1A
  else
    let d := d.setReg (Reg.PORT_CTRL p) (BitVec.ofNat 64 v)
    let d := if bitAt v 3 then d else (d.ptpLock p false).updLink (fun l => { l with ptp := l.ptp.del p })
    if bitAt v 0 || !d.portUp p then d
    else if bitAt old 1 then d.setFld (Reg.PORT_STATUS p) Fd.PORT_STATUS_LINK_UP 0
    else d.linkDown p

def execPortCtrlWrite (p : Fin 8) (v : Word) (s : State) : Host.Outcome State Fault Refusal := s.upd (fun d => d.portCtrlWrite p.val v.toNat)

/-- PORT_TRAINED (R435): the link is up, its delay is measured; what waited for it leaves.  A port of a contained package is stopped (R543). -/
def execPortTrained (p : Fin 8) (delay : Nat) (s : State) : Host.Outcome State Fault Refusal :=
  s.upd (fun d =>
    if d.fld (Reg.PORT_CTRL p.val) Fd.PORT_CTRL_ENABLE = 0 || d.portUp p.val || d.packageContained then d
    else
      let q := if d.portAlanauri p.val then (d.portUnit p.val).queue else []
      let d := (d.setFld (Reg.PORT_STATUS p.val) Fd.PORT_STATUS_LINK_UP 1).setReg (Reg.PORT_DELAY_NS p.val) (BitVec.ofNat 64 (delay % 2 ^ 32))
      (d.setPort p.val { PortUnit.trained with lastFlit := d.now, lastTx := d.now }).portSend p.val q)

/-- PORT_LINK_DOWN (R441): no valid flit for 1 µs: the link goes down, and trains again. -/
def execPortLinkDown (p : Fin 8) (s : State) : Host.Outcome State Fault Refusal :=
  s.upd (fun d =>
    if !d.portAlanauri p.val || !d.portUp p.val then d
    else
      let u := d.portUnit p.val
      let d := d.at (u.lastFlit + 1000)
      (d.setFld (Reg.PORT_STATUS p.val) Fd.PORT_STATUS_RETRAIN 1).linkDown p.val)

/-! ### Flits received (R437 to R439) -/

/-- The flit of 256 bytes whose CRC, TYPE and RSV fields are good. -/
def flitOf (b : List Byte) : Option Flit :=
  let f : Flit := { type := leAt b 0 1, vc := bitsOf (leAt b 1 1) 0 2, seq := bitsOf (leAt b 2 2) 0 12, ackSeq := bitsOf (leAt b 4 2) 0 12
                    creditVc := bitsOf (leAt b 6 1) 0 2, credit := leAt b 7 1, payload := (b.drop 12).take 240 }
  if b.length != 256 || leAt b 252 4 != (crc32c (b.take 252)).toNat || 3 < f.type || bitsOf (leAt b 1 1) 2 6 != 0 || bitsOf (leAt b 2 2) 12 4 != 0
      || bitsOf (leAt b 4 2) 12 4 != 0 || bitsOf (leAt b 6 1) 2 6 != 0 || leAt b 8 4 != 0 then none
  else some f

/-- The 256 bytes of a flit. -/
def flitBytes (f : Flit) : List Byte :=
  let b := u8 f.type ++ u8 f.vc ++ u16 f.seq ++ u16 f.ackSeq ++ u8 f.creditVc ++ u8 f.credit ++ zeros 4 ++ f.payload
  b ++ u32 (crc32c b).toNat

/-- R439: the flits acknowledged by ACK_SEQ leave the retry buffer. -/
def PortUnit.acknowledge (u : PortUnit) (ack : Nat) : PortUnit :=
  match u.retry.findIdx? (fun r => r.1 = ack) with
  | some i => { u with retry := u.retry.drop (i + 1) }
  | none => u

/-- R439: every unacknowledged flit is sent again, from the oldest. -/
def Device.replay (d : Device) (p : Nat) : Device :=
  let u := d.portUnit p
  if u.retry.isEmpty || d.packageContained then d
  else
    let d := (d.setPort p { u with retry := u.retry.map (fun r => (r.1, d.now, r.2.2)) }).count (Reg.PORT_REPLAYS p) 64 1
    u.retry.foldl (fun d r => d.sendFlit p { type := 1, vc := r.2.2.vc, seq := r.1, ackSeq := u.rxSeq, creditVc := 0, credit := 0, payload := r.2.2.payload }) d

/-- An ACK or a NAK, with credits returned. -/
def Device.answerFlit (d : Device) (p type vc credit : Nat) : Device :=
  d.sendFlit p { type := type, vc := 0, seq := 0, ackSeq := (d.portUnit p).rxSeq, creditVc := vc, credit := credit, payload := zeros 240 }

/-- Space of received flits is free again: their credits go back. -/
def Device.returnCredits (d : Device) (p vc n : Nat) : Device := if n = 0 || !d.portUp p then d else d.answerFlit p 2 vc n

/-- The whole messages at the front of a channel's bytes, and what is left; 16 zero bytes are padding. -/
def parseMessages : (fuel : Nat) → List Byte → List (LinkMsg × Bool) × List Byte
  | 0, b => ([], b)
  | f + 1, b =>
    if b.length < 16 then ([], b)
    else if (b.take 16).all (· = 0) then parseMessages f (b.drop 16)
    else
      let len := leAt b 6 2
      if b.length < 32 || (len ≤ 4096 && decide (b.length < 32 + len)) then ([], b)
      else
        let n := if len ≤ 4096 then len else 0
        let m : LinkMsg := { mtype := leAt b 0 1, src := bitsOf (leAt b 2 1) 0 5, dst := bitsOf (leAt b 3 1) 0 5, hops := leAt b 4 1, pseq := leAt b 8 4
                             fields := (b.drop 12).take 20, payload := (b.drop 32).take n }
        let good := decide (len ≤ 4096) && leAt b 1 1 = 0 && leAt b 5 1 = 0 && bitsOf (leAt b 2 1) 5 3 = 0 && bitsOf (leAt b 3 1) 5 3 = 0
          && 0x01 ≤ m.mtype && m.mtype ≤ 0x0B
        let (ms, r) := parseMessages f (b.drop (alignUp (32 + n) 16))
        ((m, good) :: ms, r)

/-- The next PSEQ to deliver of a message's source and channel. -/
def Device.rxNext (d : Device) (m : LinkMsg) : Nat := d.link.rxPseq.getD (4 * m.src + vcOf m.mtype) 0
def Device.rxTake (d : Device) (m : LinkMsg) : Device := d.updLink (fun l => { l with rxPseq := l.rxPseq.put (4 * m.src + vcOf m.mtype) ((m.pseq + 1) % 2 ^ 32) })

def Device.memberLost (d : Device) (m : Nat) : Bool := bitAt (d.reg Reg.GROUP_LOST).toNat m

/-- R225: one remote signal to a lost member dropped: counted on the die it comes from (DEDUCED, log 103), and recorded. -/
def Device.dropSignal (d : Device) (m die : Nat) : Device :=
  (d.count (Reg.SYNC_REMOTE_DROP_COUNT (min die 3)) 32 1).record { code := 0x0613, severity := 2, loc := { kind := 9, die := 4, index := m } }

/-- R443: a message received whole on channel `vc`: discarded and counted, dropped as a signal on its way to a lost member (R225), discarded
as already delivered, or kept for its turn. -/
def Device.messageIn (d : Device) (p t vc flits : Nat) (m : LinkMsg) (good : Bool) : Device :=
  let mine := m.dst = d.memberId
  if !good || 4 < m.hops || (!mine && !d.hasRoute m.dst) || (m.mtype != 0x01 && d.memberLost m.src) then
    let d := d.count Reg.LINK_BAD_MSG_COUNT 32 1
    (if good && mine && m.pseq = d.rxNext m then d.rxTake m else d).returnCredits p vc flits
  else if !mine && m.mtype = 0x03 && d.memberLost m.dst then (d.returnCredits p vc flits).dropSignal m.dst 4
  else if mine && (!seqGe m.pseq (d.rxNext m) || d.link.rx.any (fun r => r.msg.src = m.src && r.msg.dst = m.dst && vcOf r.msg.mtype = vcOf m.mtype && r.msg.pseq = m.pseq)) then
    d.returnCredits p vc flits
  else d.updLink (fun l => { l with rx := l.rx ++ [{ port := p, time := t, vc := vc, flits := flits, msg := m }] })

/-- A DATA flit in sequence: its bytes join the channel's, and the messages now whole are received. -/
def Device.dataFlit (d : Device) (p t : Nat) (f : Flit) : Device :=
  let u := d.portUnit p
  let bytes := u.rxBytes.getD f.vc [] ++ f.payload
  let (ms, rest) := parseMessages (bytes.length / 16 + 1) bytes
  let n := u.rxFlits.getD f.vc 0 + 1
  let d := d.setPort p { u with rxSeq := f.seq, rxBytes := setNth u.rxBytes f.vc rest, rxFlits := setNth u.rxFlits f.vc (if ms.isEmpty then n else 0) }
  let d := d.answerFlit p 2 0 0
  ms.zipIdx.foldl (fun d x => d.messageIn p t f.vc (if x.2 + 1 = ms.length then n else 0) x.1.1 x.1.2) d

/-- FLIT_RECEIVE (R438, R439) at time `t`: a DATA flit out of sequence is discarded, with the ACK_SEQ and credits it carries; a port of a contained
package is stopped (R543). -/
def execFlitReceive (p : Fin 8) (t : Nat) (flit : List Byte) (s : State) : Host.Outcome State Fault Refusal :=
  s.upd (fun d =>
    if !d.portAlanauri p.val || !d.portUp p.val || d.packageContained then d
    else
      let d := d.at t
      match flitOf flit with
      | none => d.count (Reg.PORT_CRC_ERRORS p.val) 64 1
      | some f =>
        let u := { d.portUnit p.val with lastFlit := d.now }
        let d := d.setPort p.val u
        if f.type = 1 && f.seq != (u.rxSeq + 1) % 4096 then d.answerFlit p.val 3 0 0
        else
          let u := u.acknowledge f.ackSeq
          let d := d.setPort p.val { u with credits := setNth u.credits f.creditVc (u.credits.getD f.creditVc 0 + f.credit) }
          let d := match f.type with
            | 1 => d.dataFlit p.val d.now f
            | 3 => d.replay p.val
            | _ => d
          d.pump p.val (d.portUnit p.val).queue.length)

/-- FLIT_ACK_TIMEOUT (R439): 2 µs after the oldest unacknowledged flit was sent. -/
def execFlitAckTimeout (p : Fin 8) (s : State) : Host.Outcome State Fault Refusal :=
  s.upd (fun d =>
    match (d.portUnit p.val).retry with
    | r :: _ => if d.portUp p.val && !d.packageContained then (d.at (r.2.1 + 2000)).replay p.val else d
    | [] => d)

/-- The next message of a type on a port whose turn has come (R443) is delivered: it leaves the list, and its credits go back. -/
def Device.takeRx (d : Device) (p mtype : Nat) (ok : RxMsg → Bool := fun _ => true) : Option (RxMsg × Device) :=
  match d.link.rx.find? (fun r => r.port = p && r.msg.mtype = mtype && r.msg.dst = d.memberId && r.msg.pseq = d.rxNext r.msg && ok r) with
  | some r => some (r, ((d.updLink (fun l => { l with rx := l.rx.erase r })).rxTake r.msg).returnCredits p r.vc r.flits)
  | none => none

/-- A message row acts on the message it delivers. -/
def Device.onMessage (d : Device) (p mtype : Nat) (f : RxMsg → Device → Device) (ok : RxMsg → Bool := fun _ => true) : Device :=
  match d.takeRx p mtype ok with
  | some (r, d) => f r d
  | none => d

/-- MESSAGE_FORWARD (R444, R450): a message for another member goes on; a CADENCE ages by its residence and the delay of the port it came on. -/
def execMessageForward (p : Fin 8) (residence : Nat) (s : State) : Host.Outcome State Fault Refusal :=
  s.upd (fun d =>
    match d.link.rx.find? (fun r => r.port = p.val && r.msg.dst != d.memberId) with
    | none => d
    | some r =>
      let d := (d.updLink (fun l => { l with rx := l.rx.erase r })).returnCredits p.val r.vc r.flits
      match d.routePort r.msg.dst with
      | none => d
      | some q =>
        if d.packageContained then d
        else
          let age := leAt r.msg.fields 12 8 + residence + (d.reg (Reg.PORT_DELAY_NS p.val)).toNat
          let fields := if r.msg.mtype = 0x02 then r.msg.fields.take 12 ++ u64 age else r.msg.fields
          d.portSend q (linkFlits { r.msg with hops := r.msg.hops + 1, fields := fields } 4))

/-! ### The column group (R444 to R449) -/

/-- A read outstanding asks a member. -/
def Device.readOf (d : Device) (m : Nat) (r : ExtRead) : Bool := r.peer && (match d.place r.src with | .peer k _ => k = m | _ => false)

/-- Tasks with an exchange with a member, or waiting for its PEER_DATA (R449). -/
def Device.tasksOfMember (d : Device) (m : Nat) : List Nat :=
  ((d.str.tasks.filter (fun e => e.2.live && e.2.exch.any (fun x => x.1 = m))).map (fun e => e.2.tag)
    ++ (d.str.extReads.filter (fun r => r.stream < planStoreStream && d.readOf m r)).map (·.tag)).foldl addNew []

/-- R225, R446: remote signals in flight to a lost member are dropped: those not yet sent, those sent and not acknowledged (what may be sent
again carries padding), those received and waiting to go on. -/
def Device.dropSignals (d : Device) (m : Nat) : Device :=
  let lost (f : TxFlit) : Bool := f.msg.mtype = 0x03 && f.msg.dst = m && !f.dropped
  let d := d.link.ports.foldl (fun d e =>
    let u := d.portUnit e.1
    let sent := (u.retry.map (fun r => r.2.2)).filter lost
    let d := d.setPort e.1 { u with queue := u.queue.filter (fun f => !lost f)
                                    retry := u.retry.map (fun r => if lost r.2.2 then (r.1, r.2.1, { r.2.2 with payload := zeros 240 }) else r) }
    (u.queue.filter lost ++ sent).foldl (fun d f => d.dropSignal m f.die) d) d
  (d.link.rx.filter (fun r => r.msg.mtype = 0x03 && r.msg.dst = m && m != d.memberId)).foldl (fun d r =>
    ((d.updLink (fun l => { l with rx := l.rx.erase r })).returnCredits r.port r.vc r.flits).dropSignal m 4) d

/-- R446, R449: a member is marked lost; signals to it are dropped (R225) and the tasks that depend on it abort. -/
def Device.loseMember (d : Device) (m : Nat) : Device :=
  let d := d.setReg Reg.GROUP_LOST (BitVec.ofNat 64 (setBit (d.reg Reg.GROUP_LOST).toNat m))
  let d := (d.dropSignals m).record { code := 0x0E14, severity := 3, loc := { kind := 9, die := 4, index := m } }
  let d := d.sendAsync 0x8003 (u32 (d.reg Reg.GROUP_LOST).toNat ++ u8 m)
  let d := d.updStr (fun u => { u with extReads := u.extReads.filter (fun r => !(r.stream = commitStream && d.readOf m r)) })
  d.abortAll (d.tasksOfMember m) 0x0E14

/-- R448: every member below GROUP_SIZE is present and none is lost. -/
def Device.groupFormed (d : Device) : Bool :=
  (List.range d.groupSize).all (fun m => bitAt (d.reg Reg.GROUP_PRESENT).toNat m && !d.memberLost m)

def Device.groupEnabled (d : Device) : Bool := d.fld Reg.GROUP_CTRL Fd.GROUP_CTRL_ENABLE = 1

/-- KEEPALIVE (R446). -/
def execKeepalive (p : Fin 8) (s : State) : Host.Outcome State Fault Refusal :=
  s.upd (fun d => d.onMessage p.val 0x01 (fun r d =>
    let m := r.msg.src
    let d := if r.msg.hops = 0 then
        (d.setFld (Reg.PORT_STATUS p.val) Fd.PORT_STATUS_PEER_MEMBER m).setFld (Reg.PORT_STATUS p.val) Fd.PORT_STATUS_PEER_VALID 1 else d
    if !d.groupEnabled then d
    else
      let d := d.updLink (fun l => { l with lastKeep := l.lastKeep.put m r.time })
      let d := d.setReg Reg.GROUP_PRESENT (BitVec.ofNat 64 (setBit (d.reg Reg.GROUP_PRESENT).toNat m))
      (onesBelow 32 (leAt r.msg.fields 4 4)).foldl (fun d k => if d.memberLost k then d else d.loseMember k) d))

/-- KEEPALIVE_SEND (R446): every 2 µs, to every member with a route. -/
def execKeepaliveSend (s : State) : Host.Outcome State Fault Refusal :=
  s.upd (fun d =>
    if !d.groupEnabled then d
    else
      let d := d.at (d.link.keepSent + 2000)
      let d := d.updLink (fun l => { l with keepSent := d.now })
      (List.range 32).foldl (fun d m =>
        if m = d.memberId || !d.hasRoute m then d else d.sendLink m 0x01 (u32 d.stepNum ++ u32 (d.reg Reg.GROUP_LOST).toNat) []) d)

/-- MEMBER_LOST (R446): a present member has sent no KEEPALIVE for 6 µs. -/
def execMemberLost (m : Fin 32) (s : State) : Host.Outcome State Fault Refusal :=
  s.upd (fun d =>
    if d.groupEnabled && bitAt (d.reg Reg.GROUP_PRESENT).toNat m.val && m.val != d.memberId then
      let d := d.at (d.link.lastKeep.getD m.val 0 + 6000)
      (d.setReg Reg.GROUP_PRESENT (BitVec.ofNat 64 (clearBit (d.reg Reg.GROUP_PRESENT).toNat m.val))).loseMember m.val
    else d)

/-- A write of GROUP_CTRL (R445, R446); the member that CAD_LEADER names has GROUP_STEP_DELTA 0 (R451; DEDUCED, log 103). -/
def Device.groupCtrlWrite (d : Device) (v : Nat) : Device :=
  if 2 ^ 12 ≤ v then d.refuse 0x0E01
  else if 1 < d.groupSize && (bitsOf v 1 5 != d.memberId || (d.groupEnabled && !bitAt v 0)) then d.refuse 0x0E06
  else
    let own := d.memberId
    let d := if bitsOf v 1 5 = bitsOf v 6 5 then d.setFld Reg.GROUP_STEP_DELTA Fd.GROUP_STEP_DELTA_DELTA 0 else d
    let d := (d.setReg Reg.GROUP_CTRL (BitVec.ofNat 64 v)).setReg Reg.GROUP_PRESENT (BitVec.ofNat 64 (clearBit (d.reg Reg.GROUP_PRESENT).toNat own))
    if bitAt v 0 then
      (d.setReg Reg.GROUP_PRESENT (BitVec.ofNat 64 (setBit (d.reg Reg.GROUP_PRESENT).toNat d.memberId))).updLink (fun l => { l with keepSent := d.now })
    else d.setReg Reg.GROUP_PRESENT 0

def execGroupCtrlWrite (v : Word) (s : State) : Host.Outcome State Fault Refusal := s.upd (fun d => d.groupCtrlWrite v.toNat)

/-- A write of GROUP_ROUTE (R445). -/
def Device.groupRouteWrite (d : Device) (m v : Nat) : Device :=
  if 256 ≤ v then d.refuse 0x0E01
  else if (bitAt v 3 && !d.portAlanauri (bitsOf v 0 3)) || (bitAt v 7 && !d.portAlanauri (bitsOf v 4 3)) then d.refuse 0x0E16
  else d.setReg (Reg.GROUP_ROUTE m) (BitVec.ofNat 64 v)

def execGroupRouteWrite (m : Fin 32) (v : Word) (s : State) : Host.Outcome State Fault Refusal := s.upd (fun d => d.groupRouteWrite m.val v.toNat)

/-! ### Cadence and remote signals (R450 to R452) -/

/-- CADENCE (R450, R451): on LINK_PORT a mark detected AGE_NS and the port's delay before its arrival. -/
def execCadence (p : Fin 8) (s : State) : Host.Outcome State Fault Refusal :=
  s.upd (fun d => d.onMessage p.val 0x02 (fun r d =>
    if d.fld Reg.CAD_CTRL Fd.CAD_CTRL_LINK_PORT != p.val then d
    else
      let t := r.time - leAt r.msg.fields 12 8 - (d.reg (Reg.PORT_DELAY_NS p.val)).toNat
      let n := d.time.pending.length
      let now := d.now
      let d := { ({ d with now := t }).deliverMark 2 with now := now }
      d.updTime (fun u => { u with pending := u.pending.zipIdx.map (fun x => if n ≤ x.2 then { x.1 with step := some (leAt r.msg.fields 0 4) } else x.1) })))

/-- SYNC_SIGNAL (R452): a signal from another member. -/
def execSyncSignal (p : Fin 8) (s : State) : Host.Outcome State Fault Refusal :=
  s.upd (fun d => d.onMessage p.val 0x03 (fun r d =>
    let id := leAt r.msg.fields 0 4
    if bitsOf id 18 14 != 0 then d.count Reg.LINK_BAD_MSG_COUNT 32 1
    else d.addSyncOp { obj := syncObj id, kind := 3, source := r.msg.src, amount := leAt r.msg.fields 4 4 }))

/-- R450: after an accepted mark, a CADENCE message to every present member. -/
def Device.sendCadence (d : Device) (cal age : Nat) : Device :=
  if d.groupEnabled && d.fld Reg.GROUP_CTRL Fd.GROUP_CTRL_CAD_SEND = 1 then
    (onesBelow 32 (d.reg Reg.GROUP_PRESENT).toNat).foldl (fun d m => if m = d.memberId then d else d.sendLink m 0x02 (u32 d.stepNum ++ u64 cal ++ u64 age) []) d
  else d

/-! ### Peer accesses (R476) and reads completed -/

/-- A PLAN_STORE whose source cannot be read is refused, and the entry is as it was (log 40). -/
def Device.failStore (d : Device) (hseq : Nat) : Device :=
  match d.plan.storing with
  | some (m, _, _) => if m.hseq = hseq then ({ d with plan := { d.plan with storing := none } }).refuseMsg m 0x2001 0x0204 else d
  | none => d

/-- The bytes of a read of the host window or of a peer arrive where it asked for them. -/
def Device.deliverRead (d : Device) (r : ExtRead) (bs : List Byte) : Device :=
  let d := d.updStr (fun u => { u with extReads := u.extReads.erase r })
  if r.stream = planStoreStream then
    match d.plan.storing with
    | some (m, lib, b) => if m.hseq = r.tag then { d with plan := { d.plan with storing := some (m, lib, b.take r.dst ++ bs ++ b.drop (r.dst + bs.length)) } } else d
    | none => d
  else if r.stream = commitStream then d.updTask r.tag (fun t => { t with olds := bs.zipIdx.foldl (fun m x => m.put (r.dst + x.2) x.1) t.olds })
  else if r.dst < tileBase then d.write r.dst bs
  else let s := d.stream r.stream
       d.setStream r.stream { s with tile := s.tile.put r.dst bs }

/-- A read that failed: its task aborts; one of a provisional fill is dropped without a fault, and issued anew once its buffer is confirmed
(R146).  A commit goes on without the bytes it asked for (R158). -/
def Device.failRead (d : Device) (r : ExtRead) (code : Nat) : Device :=
  let d := d.updStr (fun u => { u with extReads := u.extReads.erase r })
  if r.stream = planStoreStream then d.failStore r.tag
  else if r.stream = commitStream then d
  else if d.provisional r.stream then
    let s := d.stream r.stream
    d.setStream r.stream { s with outstanding := s.outstanding - 1, dropped := s.dropped ++ [.fetch r.src r.len r.dst] }
  else d.requestAbort r.tag code

/-- PEER_WRITE (R476): written when the address is served here; else discarded, counted and recorded. -/
def execPeerWrite (p : Fin 8) (s : State) : Host.Outcome State Fault Refusal :=
  s.upd (fun d => d.onMessage p.val 0x09 (fun r d =>
    let a := leAt r.msg.fields 0 8
    let n := r.msg.payload.length
    if n != 0 && d.localRange a n then
      let d := d.write a r.msg.payload
      if bitAt (leAt r.msg.fields 16 1) 0 then d.poisonRange a n else d
    else (d.count Reg.MEM_PEER_REJECT 64 1).record { severity := 2, loc := { kind := 9, die := 4, index := r.msg.src }, arg0 := a }))

/-- PEER_READ (R476): the data, or a fault status. -/
def execPeerRead (p : Fin 8) (s : State) : Host.Outcome State Fault Refusal :=
  s.upd (fun d => d.onMessage p.val 0x0A (fun r d =>
    let a := leAt r.msg.fields 0 8
    let n := leAt r.msg.fields 8 4
    let ok := within n 1 4096 && d.localRange a n && !d.poisoned a n
    d.sendLink r.msg.src 0x0B (zeros 12 ++ u32 (leAt r.msg.fields 12 4) ++ u8 (bit (!ok))) (if ok then d.read a n else [])))

/-- PEER_DATA (R476): the read it answers gets its bytes, or its task aborts. -/
def execPeerData (p : Fin 8) (s : State) : Host.Outcome State Fault Refusal :=
  s.upd (fun d => d.onMessage p.val 0x0B (fun r d =>
    match d.str.extReads.find? (fun x => x.peer && x.id = leAt r.msg.fields 12 4) with
    | none => d
    | some x => if leAt r.msg.fields 16 1 = 0 && r.msg.payload.length = x.len then d.deliverRead x r.msg.payload else d.failRead x 0x0F15))

end Sys2Proof.Machine
end

