-- ==== Sys2Proof/Machine/Traverse.lean ====
section
/-!
DEFINITION. The SHARD section, Traverse jobs, exchanges between the members of a group (chapter 15: R454 to R464).
-/

namespace Sys2Proof.Machine

/-! ### The SHARD section (R454) -/

/-- A map: KIND 0 ROWS, 1 COLS, 2 REPLICATED, 3 PARTIAL; FIRST and COUNT of each member's part for ROWS and COLS. -/
structure ShardMap where
  id : Nat
  kind : Nat
  rows : Nat
  cols : Nat
  parts : List (Nat × Nat)
  deriving DecidableEq, Repr

def shardMembers (b : List Byte) : Nat := leAt b 0 1
/-- Claims: table, member, first column, columns. -/
def shardClaims (b : List Byte) : List (Nat × Nat × Nat × Nat) :=
  (List.range (leAt b 1 2)).map (fun i => (leAt b (64 + 8 * i) 1 % 64, leAt b (65 + 8 * i) 1 % 32, leAt b (66 + 8 * i) 2, leAt b (68 + 8 * i) 2))

def shardMapsAux (b : List Byte) (members : Nat) : (n o : Nat) → List ShardMap
  | 0, _ => []
  | n + 1, o =>
    let kind := leAt b (o + 1) 1
    let parts := if kind ≤ 1 then (List.range members).map (fun m => (leAt b (o + 16 + 8 * m) 4, leAt b (o + 20 + 8 * m) 4)) else []
    { id := leAt b o 1, kind := kind, rows := leAt b (o + 4) 4, cols := leAt b (o + 8) 4, parts := parts }
      :: shardMapsAux b members n (o + 16 + 8 * parts.length)

def shardMaps (b : List Byte) : List ShardMap := shardMapsAux b (shardMembers b) (leAt b 3 1) (alignUp (64 + 8 * leAt b 1 2) 64)

/-- A part: first row, rows, first column, columns. -/
structure Part where
  r0 : Nat
  rn : Nat
  c0 : Nat
  cn : Nat
  deriving DecidableEq, Repr

/-- Member `m`'s part under a map. -/
def ShardMap.part (x : ShardMap) (m : Nat) : Part :=
  let p := x.parts.getD m (0, 0)
  match x.kind with
  | 0 => { r0 := p.1, rn := p.2, c0 := 0, cn := x.cols }
  | 1 => { r0 := 0, rn := x.rows, c0 := p.1, cn := p.2 }
  | _ => { r0 := 0, rn := x.rows, c0 := 0, cn := x.cols }

def Part.empty (p : Part) : Bool := p.rn = 0 || p.cn = 0

/-- The part holds the element of a linear index. -/
def Part.holds (p : Part) (cols i : Nat) : Bool :=
  within (i / max 1 cols) p.r0 (p.r0 + p.rn - 1) && within (i % max 1 cols) p.c0 (p.c0 + p.cn - 1) && !p.empty

def Part.inter (a b : Part) : Part :=
  let r0 := max a.r0 b.r0
  let c0 := max a.c0 b.c0
  { r0 := r0, rn := min (a.r0 + a.rn) (b.r0 + b.rn) - r0, c0 := c0, cn := min (a.c0 + a.cn) (b.c0 + b.cn) - c0 }

/-- The runs of consecutive linear indices of a part of a tensor of `cols` columns, ascending: first, length. -/
def Part.runs (p : Part) (cols : Nat) : List (Nat × Nat) :=
  if p.empty then []
  else if p.cn = cols then [(p.r0 * cols, p.rn * cols)]
  else (List.range p.rn).map (fun i => ((p.r0 + i) * cols + p.c0, p.cn))

/-- Runs cut to `n` elements. -/
def cutRuns (n : Nat) (runs : List (Nat × Nat)) : List (Nat × Nat) :=
  runs.flatMap (fun r => (List.range (ceilDiv r.2 (max 1 n))).map (fun i => (r.1 + i * n, min n (r.2 - i * n))))

/-! ### The command (R456, R457) -/

structure TravCmd where
  op : Nat
  srcMap : Nat
  dstMap : Nat
  exch : Nat
  due0 : Nat
  pace : Nat
  qp : Nat
  va : Nat
  rkey : Nat
  src : List Byte
  dst : List Byte
  /-- RSV bytes are 0, and so are the fields its OP does not use. -/
  fieldsOk : Bool
  deriving DecidableEq, Repr

def travCmd (b : List Byte) : TravCmd :=
  let op := leAt b 0 1
  let rdma := op = 2
  { op := op, srcMap := leAt b 2 1, dstMap := leAt b 3 1, exch := leAt b 4 4, due0 := leAt b 8 2, pace := leAt b 0x0A 2, qp := leAt b 0x0C 2
    va := leAt b 0x10 8, rkey := leAt b 0x18 4, src := (b.drop 0x20).take 96, dst := (b.drop 0x80).take 96
    fieldsOk := 256 ≤ b.length && op ≤ 2 && leAt b 1 1 = 0 && leAt b 0x0E 2 = 0 && leAt b 0x1C 4 = 0 && leAt b 0xE0 32 = 0
      && (if rdma then leAt b 3 1 = 0 && leAt b 0x80 96 = 0 else leAt b 0x0C 2 = 0 && leAt b 0x10 8 = 0 && leAt b 0x18 4 = 0)
      && !(descOf ((b.drop 0x20).take 96)).write && (rdma || (descOf ((b.drop 0x80).take 96)).write) }

def travCmdLift (cfg : List Byte) : Nat := leAt cfg 0 2
def travDoneLift (cfg : List Byte) : Nat := leAt cfg 2 2
def travRxRegion (cfg : List Byte) : Nat := leAt cfg 4 2

def travKey (die k : Nat) : Nat := stKey die 7 k
def travStream (die k c : Nat) : Nat := gsid die (stationStream 7 k c)

def Device.shard (d : Device) (die : Nat) : List Byte := (d.plan.active.bind (fun pl => sectionOf pl.image die 10)).getD []
def Device.shardMap (d : Device) (die id : Nat) : Option ShardMap := (shardMaps (d.shard die)).find? (fun x => x.id = id)

def Device.regionList (d : Device) (die : Nat) : List Region := match d.plan.active with | some pl => regionsOf pl.image die | none => []

/-- The descriptor's counts are those of a part, which its view covers (R458). -/
def Tensor.isPart (x : Tensor) (p : Part) : Bool :=
  p.empty || (x.desc.rank = 2 && x.desc.count 0 = p.cn && x.desc.count 1 = p.rn && x.memExtent 0 = p.cn && x.memExtent 1 = p.rn)

/-- The kinds and formats R458 allows; FP32 is 0x00, BF16 0x01, FP16 0x02 (R92). -/
def travPairOk (op src dst se de : Nat) : Bool :=
  match op with
  | 0 => src ≤ 2 && dst ≤ 2 && se = de && !elemBlock se
  | 1 => src = 3 && dst ≤ 2 && se ≤ 0x01 && de ≤ 0x02
  | _ => true

/-- The checks of R460 after the command's fields: the tensors, or the first failing code. -/
def Device.travCheck (d : Device) (die : Nat) (c : TravCmd) : Nat ⊕ (Tensor × Option Tensor × ShardMap × Option ShardMap × Device) :=
  let me := d.memberId
  let part (b : List Byte) (x : ShardMap) := (tensorWith b (fun a => d.read a 96)).isPart (x.part me)
  match d.shardMap die c.srcMap with
  | none => .inl 0x0E13
  | some sm =>
    if c.op = 2 then
      if !part c.src sm then .inl 0x0E13
      else match d.bindRead c.src (d.regionList die) with
        | .inl code => .inl code
        | .inr (x, d) => .inr (x, none, sm, none, d)
    else match d.shardMap die c.dstMap with
      | none => .inl 0x0E13
      | some dm =>
        if !travPairOk c.op sm.kind dm.kind (descOf c.src).elem (descOf c.dst).elem || sm.rows != dm.rows || sm.cols != dm.cols
            || !part c.src sm || !part c.dst dm then .inl 0x0E13
        else match d.bindRead c.src (d.regionList die) with
          | .inl code => .inl code
          | .inr (x, d) => (match d.bindRead c.dst (d.regionList die) with
            | .inl code => .inl code
            | .inr (y, d) => .inr (x, some y, sm, some dm, d))

/-! ### Held data and aborts (R461, R463) -/

def Device.heldExch (d : Device) (stage exch : Nat) : Option HeldExch := d.link.held.find? (fun h => h.stage = stage && h.exch = exch)
def Device.dropHeld (d : Device) (stage exch : Nat) : Device :=
  d.updLink (fun l => { l with held := l.held.filter (fun h => !(h.stage = stage && h.exch = exch)) })

/-- Holds data or a READY for an exchange whose job has not begun. -/
def Device.holdExch (d : Device) (stage exch : Nat) (f : HeldExch → HeldExch) : Device :=
  let h := (d.heldExch stage exch).getD { stage := stage, exch := exch, step := d.stepNum, data := [], ready := [] }
  (d.dropHeld stage exch).updLink (fun l => { l with held := l.held ++ [f h] })

/-- Bytes of the RX_REGIONs of the active plan's Traverse instances, each region once. -/
def Device.rxCapacity (d : Device) : Nat :=
  match d.plan.active with
  | none => 0
  | some pl => (([0, 1, 2, 3].flatMap (fun die => ((stationsOf pl.image die).filter (fun s => s.kind = 7)).map (fun s => (die, travRxRegion s.config)))).foldl addNew []).foldl
      (fun n x => n + ((pl.region x.1 x.2).map (·.size)).getD 0) 0

def Device.rxUsed (d : Device) : Nat := d.link.held.foldl (fun n h => h.data.foldl (fun n m => n + m.payload.length) n) 0

/-- An EXCH_ABORT to every other member (R463). -/
def Device.sendExchAbort (d : Device) (members : List Nat) (stage exch code : Nat) : Device :=
  members.foldl (fun d m => d.sendLink m 0x05 (u8 stage ++ zeros 3 ++ u32 exch ++ u16 code) []) d

/-- Every other member of the group. -/
def Device.otherMembers (d : Device) : List Nat := (List.range d.groupSize).filter (· != d.memberId)

/-- R463: at COMMIT_PU of a stage what is held for exchanges of this step whose job has not begun is given up. -/
def Device.exchHeldDeadline (d : Device) (stage : Nat) : Device :=
  (d.link.held.filter (fun h => h.stage = stage && h.step = d.stepNum)).foldl (fun d h =>
    ((d.sendExchAbort d.otherMembers stage h.exch 0x041A).dropHeld stage h.exch).updLink (fun l =>
      { l with exchAborts := l.exchAborts.filter (fun a => !(a.1 = stage && a.2.1 = h.exch)) ++ [(stage, h.exch, 0x041A, false)] })) d

/-- R464: the record of an exchange's outcome: STAGE_ID, EXCHANGE, 1 committed or 0 aborted. -/
def Device.exchRecord (d : Device) (t : Task) (committed : Bool) : Device :=
  ((t.exch.map (·.2.1)).foldl addNew []).foldl (fun d e =>
    d.record { severity := 1, loc := { kind := 9, die := 4, index := d.memberId }, tag := t.tag, arg0 := tagStage t.tag, arg1 := e, arg2 := bit committed }) d

/-- R463: an exchange task aborts before its commit point: its peers are told. -/
def Device.exchTaskAborted (d : Device) (t : Task) : Device :=
  ((t.exch.map (·.2.1)).foldl addNew []).foldl (fun d e =>
    d.sendExchAbort ((t.exch.filter (fun x => x.2.1 = e)).map (·.1)) (tagStage t.tag) e t.code) d

/-- The live task of a stage that has yet to hear from a member about an exchange it has joined, the earliest allocated. -/
def Device.unheard (d : Device) (stage exch m : Nat) : Option (Nat × Task) :=
  (sortBy (fun e => e.2.alloc) (d.str.tasks.filter (fun e => e.2.live && tagStage e.2.tag = stage && (m, exch, false) ∈ e.2.exch))).head?

def Task.heard (t : Task) (m exch : Nat) : Task :=
  { t with exch := t.exch.map (fun x => if x.1 = m && x.2.1 = exch then (m, exch, true) else x) }

/-- R462: a READY of a member reaches its task, or waits for it; a prepared task that now holds every READY, and is not aborting, has
ended. -/
def Device.exchReady (d : Device) (stage exch m : Nat) : Device :=
  match d.unheard stage exch m with
  | none => d.holdExch stage exch (fun h => { h with ready := addNew h.ready m })
  | some (k, t) =>
    let t := t.heard m exch
    d.setTask k (if t.state = .open && t.prepared && !t.aborting && t.exch.all (·.2.2) then { t with state := .ended, prepared := false } else t)

/-- A live task that has heard from a member about an exchange, and may still get its EXCH_ABORT. -/
def Device.heardTask (d : Device) (stage exch m : Nat) : Option (Nat × Task) :=
  (sortBy (fun e => e.2.alloc) (d.str.tasks.filter (fun e => e.2.live && tagStage e.2.tag = stage && (m, exch, true) ∈ e.2.exch && (m, exch) ∉ e.2.aborters))).head?

/-- The last task of this step that took part in an exchange and has committed or aborted, where a member's EXCH_ABORT for it has not come: an
EXCH_ABORT that meets no live task answers that one (DEDUCED, log 107). -/
def Device.deadTask (d : Device) (stage exch m : Nat) : Option (Nat × Task) :=
  (sortBy (fun e => 2 ^ 64 - e.2.alloc) (d.str.tasks.filter (fun e => !e.2.live && e.2.deadlineStep = d.stepNum && tagStage e.2.tag = stage
    && e.2.exch.any (fun x => x.1 = m && x.2.1 = exch) && (m, exch) ∉ e.2.aborters))).head?

/-- The code is one with which the containment of a die or of the package aborts tasks (R464, R543; DEDUCED, log 107). -/
def containmentCode (c : Nat) : Bool := c ∈ [0x1010, 0x1011, 0x1012, 0x1016, 0x1018, 0x1019]

/-- What is held from a member for an exchange is discarded. -/
def Device.dropHeldOf (d : Device) (stage exch m : Nat) : Device :=
  d.updLink (fun l => { l with held := l.held.map (fun h =>
    if h.stage = stage && h.exch = exch then { h with data := h.data.filter (fun x => x.src != m), ready := h.ready.filter (· != m) } else h) })

/-- R463: an EXCH_ABORT with a code: the live task of the exchange aborts; one that has committed or aborted stays as it is, and what is held
from the member goes; before the job has begun, what is held is discarded and the job is doomed.  Where a containment caused it, the outcome is
recorded (R464). -/
def Device.exchAbort (d : Device) (stage exch m code : Nat) : Device :=
  let touched := containmentCode code
  match (d.unheard stage exch m).or (d.heardTask stage exch m) with
  | some (k, t) => (d.setTask k { t.heard m exch with aborters := t.aborters ++ [(m, exch)], touched := t.touched || touched }).requestAbort t.tag 0x0E15
  | none => match d.deadTask stage exch m with
    | some (k, t) =>
      let d := (d.setTask k { t with aborters := t.aborters ++ [(m, exch)], touched := t.touched || touched }).dropHeldOf stage exch m
      if touched && !t.touched then d.exchRecord t (t.state = .committed) else d
    | none => (d.dropHeld stage exch).updLink (fun l =>
        { l with exchAborts := l.exchAborts.filter (fun a => !(a.1 = stage && a.2.1 = exch)) ++ [(stage, exch, 0x0E15, touched)] })

/-! ### Jobs -/

/-- The key of element `i` received from member `m`. -/
def recvKey (m i : Nat) : Nat := 2 ^ 64 * m + i

/-- Elements that arrive from a member, from linear index `first`; `mine` tells the elements it sends here (what follows them is padding). -/
def travTake (t : TravJob) (m e first : Nat) (mine : Nat → Bool) (bs : List Byte) : TravJob :=
  let n := bs.length * 8 / max 1 (elemBits e)
  { t with recv := (List.range n).foldl (fun r i => if mine (first + i) then r.put (recvKey m (first + i)) (rowElem e bs i) else r) t.recv }

/-- Element `i` is one that member `m` sends here (R458). -/
def Device.travMine (d : Device) (die : Nat) (c : TravCmd) (m i : Nat) : Bool :=
  match d.shardMap die c.srcMap, d.shardMap die c.dstMap with
  | some sm, some dm => ((sm.part m).inter (dm.part d.memberId)).holds sm.cols i
  | _, _ => false

def Device.setTrav (d : Device) (key : Nat) (t : TravJob) : Device := d.updLink (fun l => { l with trav := l.trav.put key t })

/-- A job fails (R234, R460). -/
def Device.travFail (d : Device) (die k code : Nat) : Device :=
  match d.job (travKey die k) with
  | some j => d.failJob (travKey die k) (Reg.TRAV_JOBS_FAILED die k) (Reg.TRAV_LAST_FAIL die k) code j
  | none => d

/-- A data message meets a job of its exchange: its elements are added, or its task aborts (R460). -/
def Device.travMessage (d : Device) (key : Nat) (t : TravJob) (m : LinkMsg) : Device :=
  let c := travCmd t.cmd
  let e := leAt m.fields 16 1
  if leAt m.fields 1 1 != c.op || leAt m.fields 2 1 != c.srcMap || leAt m.fields 3 1 != c.dstMap || e != (descOf c.src).elem then
    match d.job key with | some j => d.requestAbort j.tag 0x0E13 | none => d
  else d.setTrav key (travTake t m.src e (leAt m.fields 8 8) (d.travMine (key / 1024) c m.src) m.payload)

/-- The Lift that DONE_LIFT names, by whichever channel of the instance produces for it. -/
def Device.travDone (d : Device) (die k lift : Nat) : Nat :=
  ([0, 1, 2, 3].findSome? (fun c => d.plan.active.bind (fun pl => pl.producerLift { cluster := false, die := die, num := stationStream 7 k c } lift))).getD
    (4096 * die + lift)

/-- R462, R463: the task of a job takes part in its exchange, with what has come for it; the data held, and the code with which the job is
doomed. -/
def Device.joinExch (d : Device) (tag exch : Nat) : (List LinkMsg × Option Nat) × Device :=
  let stage := tagStage tag
  let held := d.heldExch stage exch
  let ready := (held.map (·.ready)).getD []
  let doom := d.link.exchAborts.find? (fun a => a.1 = stage && a.2.1 = exch)
  let d := d.updTask tag (fun t => { t with exch := t.exch ++ d.otherMembers.map (fun m => (m, exch, decide (m ∈ ready)))
                                            touched := t.touched || (doom.map (·.2.2.2)).getD false })
  let d := (d.dropHeld stage exch).updLink (fun l => { l with exchAborts := l.exchAborts.filter (fun a => !(a.1 = stage && a.2.1 = exch)) })
  (((held.map (·.data)).getD [], doom.map (·.2.2.1)), d)

/-- The checked job takes up the data held for it; its channels are armed with its tag (R456). -/
def Device.travArm (d : Device) (die k : Nat) (tag : Nat) (c : TravCmd) (t : TravJob) (held : List LinkMsg) : Device :=
  let key := travKey die k
  let arm (d : Device) (ch : Nat) : Device :=
    let g := travStream die k ch
    d.setStream g { Stream.idle with state := .armed, tag := tag, due := c.due0, pace := c.pace, arms := (d.stream g).arms + 1 }
  let d := (if c.op = 2 then [0] else [0, 1]).foldl arm (d.setTrav key t)
  held.foldl (fun d m => match d.link.trav.get? key with | some t => d.travMessage key t m | none => d) d

/-- The job begins: its task joins the exchange, its command is checked, its channels are armed.  A command that fails its checks aborts the
task, and with it the exchange (R460, R463); a descriptor refused is recorded as a tensor error too (R123, R125). -/
def Device.travBegin (d : Device) (die k op : Nat) : Device :=
  let cmdAt (d : Device) : Option LiftEntry := (d.stationCfg die 7 k).bind (fun cfg => (d.liftQ (4096 * die + travCmdLift cfg)).head?)
  match cmdAt d with
  | none => d
  | some h =>
    let o := leAt (d.handleData h) 0 1
    if (if o ≤ 2 then o else 0) != op && !d.taskGone h.tag then d
    else d.beginJob die 7 k (fun cfg => [travCmdLift cfg]) (fun _ hs d =>
      match hs with
      | [e] =>
        let key := travKey die k
        let (seq, d) := d.takeSeq key e.tag
        let d := d.setJob key { mode := op, tag := e.tag, inputs := [e], seq := seq, words := [], bytes := [] }
        let b := d.handleData e
        let c := travCmd b
        if d.inputsPoisoned [e] then d.travFail die k 0x0F12
        else
          let ((held, doom), d) := if op = 2 then (([], none), d) else d.joinExch e.tag c.exch
          if !c.fieldsOk then d.travFail die k 0x0E12
          else match d.travCheck die c with
            | .inl code => (if code / 256 = 3 then d.refuse code die else d).travFail die k code
            | .inr (_, _, _, _, d') =>
              match doom with
              | some code => d.travFail die k code
              | none =>
                if op != 2 && d.otherMembers.any d.memberLost then d.travFail die k 0x0E14
                else
                  let comps := d.companionsOf c.src ++ d.companionsOf c.dst
                  d'.travArm die k e.tag c { cmd := b, comps := comps, asked := false, sent := false, staged := false, recv := [] } held
      | _ => d)

/-- Channel 0 reads the source part: its index entries, then its rows (R456, R458). -/
def Device.travAsk (d : Device) (die k : Nat) (j : Job) (t : TravJob) (x : Tensor) : Device :=
  let g := travStream die k 0
  let rs := List.range x.viewRows
  match d.tensorIndexes die j.tag x (d.stream g).tile rs with
  | (.inr none, d) => d
  | (.inr (some code), d) => d.travFail die k code
  | (.inl (tile, q), d) =>
    if !q.isEmpty then (d.setStream g { d.stream g with tile := tile, issueQ := q }).issue g
    else match d.reachReads die j.tag (lacking tile (x.readsOf tile rs)) with
      | (.inr none, d) => d
      | (.inr (some code), d) => d.travFail die k code
      | (.inl xs, d) =>
        (((d.countInvalid die x tile rs).setTrav (travKey die k) { t with asked := true }).setStream g { d.stream g with tile := tile, issueQ := xs }).issue g

/-- The source is read: the part goes to every member whose destination part holds elements of it, this one among them; an
RDMA_WRITE's part is staged (R458). -/
def Device.travSend (d : Device) (die k : Nat) (j : Job) (t : TravJob) (c : TravCmd) (x : Tensor) (sm : ShardMap) (dm : Option ShardMap) : Device :=
  let key := travKey die k
  let tile := (d.stream (travStream die k 0)).tile
  let rows := (List.range x.viewRows).map (fun r => x.assemble tile (x.window r) r)
  match dm with
  | none =>
    let data := if (sm.part d.memberId).empty then [] else rows.flatten
    let d := d.stageStation j.tag die (ceilDiv data.length 64)
    let d := d.setTrav key { t with sent := true }
    if d.taskGone j.tag then d else d.updTask j.tag (fun u => { u with rdma := u.rdma ++ [(c.qp, c.va, c.rkey, data)] })
  | some dm =>
    let mine := sm.part d.memberId
    let e := x.desc.elem
    let elem (i : Nat) : Nat :=
      let r := i / max 1 sm.cols - mine.r0
      let q := i % max 1 sm.cols - mine.c0
      if x.desc.transpose then rowElem e (rows.getD q []) r else rowElem e (rows.getD r []) q
    let d := d.setTrav key { t with sent := true }
    (List.range d.groupSize).foldl (fun d m =>
      (cutRuns (4096 * 8 / max 1 (elemBits e)) ((mine.inter (dm.part m)).runs sm.cols)).foldl (fun d run =>
        let bs := packRow e ((List.range run.2).map (fun i => elem (run.1 + i)))
        let d := d.count (Reg.TRAV_BYTES_SENT die k) 64 bs.length
        if m = d.memberId then (match d.link.trav.get? key with | some t => d.setTrav key (travTake t m e run.1 (d.travMine die c m) bs) | none => d)
        else d.sendLink m 0x08 (u8 (tagStage j.tag) ++ u8 c.op ++ u8 c.srcMap ++ u8 c.dstMap ++ u32 c.exch ++ u64 run.1 ++ u8 e) bs die) d) d

/-- Every part of a destination that members send has been received. -/
def travComplete (t : TravJob) (sm : ShardMap) (want : Part) (members : Nat) : Bool :=
  (List.range members).all (fun m => ((sm.part m).inter want).runs sm.cols |>.all (fun run =>
    (List.range run.2).all (fun i => (t.recv.get? (recvKey m (run.1 + i))).isSome)))

/-- The destination element of a linear index (R458, R459). -/
def travElem (t : TravJob) (c : TravCmd) (members i : Nat) : Nat :=
  let se := (descOf c.src).elem
  if c.op = 1 then
    f32To (descOf c.dst).elem ((List.range members).foldl (fun acc m => fadd acc (elemToF32 se (t.recv.getD (recvKey m i) 0))) 0)
  else ((List.range members).findSome? (fun m => t.recv.get? (recvKey m i))).getD 0

/-- The job ends: its channels are DONE, its command handle is passed on or its buffer goes back. -/
def Device.travEnd (d : Device) (die k : Nat) (cfg : List Byte) (j : Job) : Device :=
  let key := travKey die k
  let d := (d.dropJob key).updLink (fun l => { l with travEnded := l.travEnded ++ [(j.tag, key)] })
  let d := j.inputs.foldl (fun d e => if travDoneLift cfg = 0xFFFF then d.releaseHandle (stationRouter key) e.h else d.push (d.travDone die k (travDoneLift cfg)) { e with src := .station key }) d
  (if j.mode = 2 then [0] else [0, 1]).foldl (fun d c => d.finishStream (travStream die k c)) d

/-- The bytes of destination view row `r`. -/
def Tensor.travRow (y : Tensor) (t : TravJob) (c : TravCmd) (want : Part) (cols members r : Nat) : List Byte :=
  packRow y.desc.elem ((List.range (y.viewExtent 0)).map (fun q =>
    travElem t c members (if y.desc.transpose then (want.r0 + q) * cols + want.c0 + r else (want.r0 + r) * cols + want.c0 + q)))

/-- Once the destination part is complete channel 1 writes its rows as staged task writes (R456); then the job ends. -/
def Device.travFinish (d : Device) (die k : Nat) (cfg : List Byte) (j : Job) (t : TravJob) (c : TravCmd) (y : Tensor) (sm dm : ShardMap) : Device :=
  let g := travStream die k 1
  let want := dm.part d.memberId
  let members := d.groupSize
  if !travComplete t sm want members || !d.quiet g then d
  else if want.empty || t.staged then d.travEnd die k cfg j
  else
    let rs := List.range y.viewRows
    match d.tensorIndexes die j.tag y (d.stream g).tile rs with
    | (.inr none, d) => d
    | (.inr (some code), d) => d.travFail die k code
    | (.inl (tile, q), d) =>
      if !q.isEmpty then (d.setStream g { d.stream g with tile := tile, issueQ := q }).issue g
      else match d.reachWrites die j.tag y.desc.combine (y.drainWrites tile 0 (rs.map (y.travRow t c want sm.cols members))).1 with
        | (.inr none, d) => d
        | (.inr (some code), d) => d.travFail die k code
        | (.inl xs, d) =>
          (((d.countInvalid die y tile rs).setTrav (travKey die k) { t with staged := true }).setStream g { d.stream g with issueQ := xs }).issue g

/-- A job of the operation does the next of what it holds allows: it reads its source, sends it, writes its destination, ends. -/
def Device.travRun (d : Device) (die k op : Nat) : Device :=
  let key := travKey die k
  match d.job key, d.link.trav.get? key, d.stationCfg die 7 k with
  | some j, some t, some cfg =>
    let c := travCmd t.cmd
    if j.mode != op || d.taskGone j.tag then d
    else match d.shardMap die c.srcMap with
      | none => d
      | some sm =>
        let x := tensorFrom c.src t.comps
        let dm := if op = 2 then none else d.shardMap die c.dstMap
        if !d.quiet (travStream die k 0) then d
        else if !t.asked then (if (sm.part d.memberId).empty then d.setTrav key { t with asked := true } else d.travAsk die k j t x)
        else if !t.sent then d.travSend die k j t c x sm dm
        else match dm with
          | some dm => d.travFinish die k cfg j t c (tensorFrom c.dst t.comps) sm dm
          | none => d.travEnd die k cfg j
  | _, _, _ => d

/-- A Traverse command of an operation: a free instance takes up the command at the head of its Lift, a job goes on with all that is ready. -/
def Device.travStep (d : Device) (die k op : Nat) : Device :=
  let d := if (d.job (travKey die k)).isSome then d else d.travBegin die k op
  if d.stationStopped die 7 k then d else (List.range 4).foldl (fun d _ => d.travRun die k op) d

/-- TRAV_ALLTOALL (R457, R458). -/
def execTravAlltoall (die k : Fin 4) (s : State) : Host.Outcome State Fault Refusal := s.upd (fun d => d.travStep die.val k.val 0)
/-- TRAV_REDUCE (R459). -/
def execTravReduce (die k : Fin 4) (s : State) : Host.Outcome State Fault Refusal := s.upd (fun d => d.travStep die.val k.val 1)
/-- TRAV_RDMA_WRITE (R458, R467). -/
def execTravRdmaWrite (die k : Fin 4) (s : State) : Host.Outcome State Fault Refusal := s.upd (fun d => d.travStep die.val k.val 2)

/-! ### Exchange messages -/

def msgStage (m : LinkMsg) : Nat := leAt m.fields 0 1
def msgExch (m : LinkMsg) : Nat := leAt m.fields 4 4

/-- The job of an exchange, if it has begun and not ended. -/
def Device.exchJob (d : Device) (stage exch : Nat) : Option (Nat × TravJob) :=
  d.link.trav.find? (fun e => (travCmd e.2.cmd).op != 2 && (travCmd e.2.cmd).exch = exch
    && (match d.job e.1 with | some j => tagStage j.tag = stage | none => false))

/-- A data message can be taken: its job has begun, or RX_REGION has room (R461). -/
def Device.exchRoom (d : Device) (m : LinkMsg) : Bool :=
  (d.exchJob (msgStage m) (msgExch m)).isSome || (d.unheard (msgStage m) (msgExch m) m.src).isSome
    || decide (d.rxUsed + m.payload.length ≤ d.rxCapacity)

/-- EXCH_DATA (R460, R461): added to the job, or held in RX_REGION; what a task whose job has failed still gets is discarded. -/
def execExchData (p : Fin 8) (s : State) : Host.Outcome State Fault Refusal :=
  s.upd (fun d => d.onMessage p.val 0x08 (fun r d =>
    match d.exchJob (msgStage r.msg) (msgExch r.msg) with
    | some (key, t) => d.travMessage key t r.msg
    | none =>
      if (d.unheard (msgStage r.msg) (msgExch r.msg) r.msg.src).isSome then d
      else d.holdExch (msgStage r.msg) (msgExch r.msg) (fun h => { h with data := h.data ++ [r.msg] })) (fun r => d.exchRoom r.msg))

/-- EXCH_READY (R462). -/
def execExchReady (p : Fin 8) (s : State) : Host.Outcome State Fault Refusal :=
  s.upd (fun d => d.onMessage p.val 0x04 (fun r d => d.exchReady (msgStage r.msg) (msgExch r.msg) r.msg.src))

/-- EXCH_ABORT (R463). -/
def execExchAbort (p : Fin 8) (s : State) : Host.Outcome State Fault Refusal :=
  s.upd (fun d => d.onMessage p.val 0x05 (fun r d => d.exchAbort (msgStage r.msg) (msgExch r.msg) r.msg.src (leAt r.msg.fields 8 2)))

end Sys2Proof.Machine
end

