-- ==== Sys2Proof/Machine/Ethernet.lean ====
section
/-!
DEFINITION. Ethernet mode: addresses, queue pairs, memory regions, RoCEv2, live feeds, PTP (chapter 15: R466 to R469).
-/

namespace Sys2Proof.Machine

/-- The port is enabled in Ethernet mode. -/
def Device.ethPort (d : Device) (p : Nat) : Bool :=
  p < 8 && d.fld (Reg.PORT_CTRL p) Fd.PORT_CTRL_ENABLE = 1 && d.fld (Reg.PORT_CTRL p) Fd.PORT_CTRL_MODE = 1

/-- A function of an Ethernet port is on, and the package may send (R543). -/
def Device.ethOn (d : Device) (p : Nat) (f : Fld) : Bool := d.ethPort p && d.fld (Reg.PORT_CTRL p) f = 1 && !d.packageContained

/-! ### Mailbox commands (R466) -/

/-- PORT_ADDR. -/
def execPortAddr (m : MsgRef) (payload : List Byte) (s : State) : Host.Outcome State Fault Refusal :=
  s.cmd m 0x5000 (fun b => b = payload) (fun d =>
    let p := leAt payload 0 1
    if !d.ethPort p then d.refuseMsg m 0x5000 0x0E05
    else (d.updLink (fun l => { l with portAddr := l.portAddr.put p (leAt payload 8 6, leAt payload 16 4, leAt payload 32 16) })).respond m 0x5000 0 [])

/-- QP_SETUP. -/
def execQpSetup (m : MsgRef) (payload : List Byte) (s : State) : Host.Outcome State Fault Refusal :=
  s.cmd m 0x5001 (fun b => b = payload) (fun d =>
    let g := fun o n => leAt payload o n
    let q := g 0 2
    let p := g 2 1
    if 4096 ≤ q || 8 ≤ p || 4 ≤ g 3 1 || 2 ^ 24 ≤ g 4 4 || 2 ^ 24 ≤ g 32 4 || 2 ^ 24 ≤ g 36 4 || 3 ≤ g 40 1 || 4 ≤ g 41 1 || 4096 ≤ g 42 2
        || 1024 ≤ g 44 2 || 64 ≤ g 46 1 || (d.link.qps.get? q).isSome then d.refuseMsg m 0x5001 0x0E17
    else if !d.ethPort p || d.fld (Reg.PORT_CTRL p) Fd.PORT_CTRL_ROCE_EN = 0 then d.refuseMsg m 0x5001 0x0E05
    else
      let qp : Qp := { port := p, responder := bitAt (g 3 1) 0, requester := bitAt (g 3 1) 1, destQpn := g 4 4, destIp := g 8 16, destMac := g 24 6
                       txPsn := g 32 4, rxPsn := g 36 4, mtu := g 40 1, die := g 41 1, lift := g 42 2, pool := g 44 2, stage := g 46 1, error := false
                       rate := 65536, rateAt := d.now, retries := 0, sentAt := d.now, unacked := [], writeVa := 0, writeEnd := 0, writePa := 0, recv := [] }
      (d.updLink (fun l => { l with qps := l.qps.put q qp })).respond m 0x5001 0 [])

/-- QP_DESTROY. -/
def execQpDestroy (m : MsgRef) (payload : List Byte) (s : State) : Host.Outcome State Fault Refusal :=
  s.cmd m 0x5002 (fun b => b = payload) (fun d =>
    let q := leAt payload 0 2
    if 4096 ≤ q then d.refuseMsg m 0x5002 0x0E17
    else (d.updLink (fun l => { l with qps := l.qps.del q })).respond m 0x5002 0 [])

/-- The end of the populated HBM4, DDR5 or bonded range that holds an address. -/
def Device.populatedEnd (d : Device) (a : Nat) : Option Nat :=
  match d.place a with
  | .hbm k => some (hbmBase k + 4 * d.board.stackGib * 2 ^ 30)
  | .ddr => some (ddrBase + d.ddrMapped)
  | .bonded k => some (bondedBase k + 12 * 2 ^ 30)
  | _ => none

/-- The `fuel` populated ranges from the one that holds `a`, each beginning where the one before ends, reach `stop`. -/
def Device.populatedFrom (d : Device) : (fuel a stop : Nat) → Bool
  | 0, _, _ => false
  | f + 1, a, stop => match d.populatedEnd a with | none => false | some e => stop ≤ e || d.populatedFrom f e stop

/-- A range of populated HBM4, DDR5 or bonded memory, which is at most nine ranges. -/
def Device.populated (d : Device) (a n : Nat) : Bool := n != 0 && d.populatedFrom 9 a (a + n)

/-- MR_SET. -/
def execMrSet (m : MsgRef) (payload : List Byte) (s : State) : Host.Outcome State Fault Refusal :=
  s.cmd m 0x5003 (fun b => b = payload) (fun d =>
    let i := leAt payload 0 2
    let r : MemRegion := { rkey := leAt payload 4 4, va := leAt payload 8 8, len := leAt payload 16 8, pa := leAt payload 24 8 }
    if 1024 ≤ i || (d.link.mrs.get? i).isSome || 2 ^ 64 < r.va + r.len || !d.populated r.pa r.len || d.link.mrs.any (fun e => e.2.rkey = r.rkey) then
      d.refuseMsg m 0x5003 0x0E18
    else (d.updLink (fun l => { l with mrs := l.mrs.put i r })).respond m 0x5003 0 [])

/-- MR_CLEAR. -/
def execMrClear (m : MsgRef) (payload : List Byte) (s : State) : Host.Outcome State Fault Refusal :=
  s.cmd m 0x5004 (fun b => b = payload) (fun d =>
    let i := leAt payload 0 2
    if 1024 ≤ i then d.refuseMsg m 0x5004 0x0E18
    else (d.updLink (fun l => { l with mrs := l.mrs.del i })).respond m 0x5004 0 [])

/-- FEED_BIND. -/
def execFeedBind (m : MsgRef) (payload : List Byte) (s : State) : Host.Outcome State Fault Refusal :=
  s.cmd m 0x5005 (fun b => b = payload) (fun d =>
    let g := fun o n => leAt payload o n
    let i := g 0 2
    let p := g 2 1
    if 64 ≤ i || 8 ≤ p || 2 ≤ g 3 1 || 4 ≤ g 24 1 || 64 ≤ g 25 1 || 4096 ≤ g 26 2 || 1024 ≤ g 28 2 || g 30 2 = 0 || g 32 4 = 0 || 1000000 < g 32 4
        || (d.link.feeds.get? i).isSome then d.refuseMsg m 0x5005 0x0E19
    else if !d.ethPort p || d.fld (Reg.PORT_CTRL p) Fd.PORT_CTRL_FEED_EN = 0 then d.refuseMsg m 0x5005 0x0E05
    else
      let f : Feed := { port := p, ipv6 := bitAt (g 3 1) 0, udpPort := g 4 2, dstIp := g 8 16, die := g 24 1, stage := g 25 1, lift := g 26 2, pool := g 28 2
                        frames := g 30 2, closeUs := g 32 4, seq := 0, tag := 0, count := 0, first := 0 }
      (d.updLink (fun l => { l with feeds := l.feeds.put i f })).respond m 0x5005 0 [])

/-- FEED_UNBIND. -/
def execFeedUnbind (m : MsgRef) (payload : List Byte) (s : State) : Host.Outcome State Fault Refusal :=
  s.cmd m 0x5006 (fun b => b = payload) (fun d =>
    let i := leAt payload 0 2
    if 64 ≤ i then d.refuseMsg m 0x5006 0x0E19
    else (d.updLink (fun l => { l with feeds := l.feeds.del i })).respond m 0x5006 0 [])

/-! ### RoCEv2 (R467) -/

def Device.setQp (d : Device) (q : Nat) (x : Qp) : Device := d.updLink (fun l => { l with qps := l.qps.put q x })

/-- Bytes of a packet's payload. -/
def Qp.mtuBytes (x : Qp) : Nat := 1024 * 2 ^ x.mtu

/-- The queue pair a packet for a local QPN reaches on a port. -/
def Device.qpAt (d : Device) (port qpn : Nat) : Option (Nat × Qp) :=
  if qpn < 0x100 || !d.ethOn port Fd.PORT_CTRL_ROCE_EN then none
  else match d.link.qps.get? (qpn - 0x100) with
    | some x => if x.port = port && !x.error then some (qpn - 0x100, x) else none
    | none => none

/-- An answer of a responder: 16 ACK, 17 to 19 NAKs, 20 RNR NAK (0.01 ms), 21 CNP. -/
def Device.roceAnswer (d : Device) (x : Qp) (kind psn : Nat) : Device := d.emit (.roce x.port x.destQpn kind psn 0 0 [])

/-- PSN `a` lies before `b` (24 bits). -/
def psnBefore (a b : Nat) : Bool := a != b && (b + 2 ^ 24 - a) % 2 ^ 24 < 2 ^ 23

/-- A request packet: discarded, answered for its PSN or its kind, or acted on when its turn has come. -/
def Device.roceRequest (d : Device) (pkt : RocePkt) (f : Nat → Qp → Device → Device) : Device :=
  match d.qpAt pkt.port.val pkt.qpn with
  | none => d
  | some (q, x) =>
    if !pkt.icrc || !x.responder then d
    else
      let d := if pkt.ce then d.roceAnswer x 21 0 else d
      if psnBefore pkt.psn x.rxPsn then d.roceAnswer x 16 pkt.psn
      else if pkt.psn != x.rxPsn then d.roceAnswer x 17 x.rxPsn
      else if 3 < pkt.kind then d.roceAnswer x 19 pkt.psn
      else f q x d

/-- The packet is accepted. -/
def Device.roceAccept (d : Device) (q : Nat) (x : Qp) (pkt : RocePkt) : Device :=
  (d.setQp q { x with rxPsn := (x.rxPsn + 1) % 2 ^ 24 }).roceAnswer x 16 pkt.psn

def pktFirst (kind : Nat) : Bool := kind = 0 || kind = 3
def pktLast (kind : Nat) : Bool := kind = 2 || kind = 3

/-- ROCE_WRITE_IN. -/
def execRoceWriteIn (pkt : RocePkt) (s : State) : Host.Outcome State Fault Refusal :=
  s.upd (fun d => d.roceRequest pkt (fun q x d =>
    let n := pkt.data.length
    let mr := d.link.mrs.find? (fun e => e.2.rkey = pkt.rkey && e.2.va ≤ pkt.va && pkt.va + pkt.len ≤ e.2.va + e.2.len)
    let sized := if pktLast pkt.kind then n ≤ x.mtuBytes else n = x.mtuBytes
    if !sized then d.roceAnswer x 19 pkt.psn
    else if pktFirst pkt.kind then
      match mr with
      | none => d.roceAnswer x 18 pkt.psn
      | some (_, r) =>
        if (if pkt.kind = 3 then n != pkt.len else pkt.len ≤ n) then d.roceAnswer x 19 pkt.psn
        else
          let pa := r.pa + (pkt.va - r.va)
          (d.write pa pkt.data).roceAccept q { x with writeVa := pkt.va + n, writeEnd := pkt.va + pkt.len, writePa := pa + n } pkt
    else if (if pktLast pkt.kind then x.writeVa + n != x.writeEnd else x.writeEnd ≤ x.writeVa + n) then d.roceAnswer x 19 pkt.psn
    else (d.write x.writePa pkt.data).roceAccept q { x with writeVa := x.writeVa + n, writePa := x.writePa + n } pkt))

/-- A task of a stage begins with one handle pushed onto a Lift, LAST set as `last`: none while the pool is empty, the Lift is full
or allocation waits. `tag` goes on with a task begun before; port `p` pushes it. -/
def Device.deliverFrame (d : Device) (p die stage lift pool : Nat) (tag : Option Nat) (last : Bool) (bytes : List Byte) : Option (Nat × Device) :=
  let pk := poolKey die pool
  let lk := 4096 * die + lift
  if (d.str.pools.getD pk []).isEmpty || 256 ≤ d.liftLoad lk then none
  else
    let got := match tag with
      | some t => some (t, d)
      | none => if d.str.allocWait.any (fun w => (d.waiterStage w).1 = die) then none else d.allocTag die stage
    match got with
    | none => none
    | some (t, d) => (d.takeBuffer pk t).map (fun x =>
        (t, (x.2.write x.1 bytes).push lk { h := { addr := x.1, len := bytes.length, last := last, late := false, pool := pool }, tag := t, src := .port p }))

/-- ROCE_SEND_IN. -/
def execRoceSendIn (pkt : RocePkt) (s : State) : Host.Outcome State Fault Refusal :=
  s.upd (fun d => d.roceRequest pkt (fun q x d =>
    let n := pkt.data.length
    let got := if pktFirst pkt.kind then pkt.data else x.recv ++ pkt.data
    let sized := if pktLast pkt.kind then n ≤ x.mtuBytes else n = x.mtuBytes
    if !sized || (!pktFirst pkt.kind && x.recv.isEmpty) || d.poolSize (poolKey x.die x.pool) < got.length + 64 then d.roceAnswer (x) 19 pkt.psn
    else if !pktLast pkt.kind then d.roceAccept q { x with recv := got } pkt
    else match d.deliverFrame x.port x.die x.stage x.lift x.pool none true (u32 got.length ++ zeros 60 ++ got) with
      | none => d.roceAnswer x 20 pkt.psn
      | some (_, d) => d.roceAccept q { x with recv := [] } pkt))

/-- A transport failure: the queue pair goes to the error state, with an event record (R467). -/
def Device.qpError (d : Device) (q : Nat) : Device :=
  match d.link.qps.get? q with
  | none => d
  | some x => (d.setQp q { x with error := true, unacked := [] }).record
      { severity := 2, loc := { kind := 8, die := if x.port < 4 then 4 else 5, index := x.port }, arg0 := q }

/-- Sends the packets a requester holds unacknowledged, from the oldest. -/
def Device.roceResend (d : Device) (q : Nat) (x : Qp) : Device :=
  x.unacked.foldl (fun d u => d.emit (.roce x.port x.destQpn u.kind u.psn u.va u.rkey u.data)) (d.setQp q { x with sentAt := d.now })

/-- The WRITEs of a committed part (R467): First, Middle and Last packets, or an Only one. -/
def Device.rdmaSend (d : Device) (q va rkey : Nat) (data : List Byte) : Device :=
  match d.link.qps.get? q with
  | none => d.record { severity := 2, loc := { kind := 9, die := 4, index := d.memberId }, arg0 := q }
  | some x =>
    if x.error || !x.requester || !d.ethOn x.port Fd.PORT_CTRL_ROCE_EN then d.qpError q
    else
      let parts := chunks x.mtuBytes data
      let pkts : List RoceSent := parts.zipIdx.map (fun p =>
        { kind := if parts.length = 1 then 3 else if p.2 = 0 then 0 else if p.2 + 1 = parts.length then 2 else 1
          psn := (x.txPsn + p.2) % 2 ^ 24, va := va + p.2 * x.mtuBytes, rkey := rkey, data := p.1 })
      let d := d.setQp q { x with txPsn := (x.txPsn + parts.length) % 2 ^ 24, unacked := x.unacked ++ pkts
                                  sentAt := if x.unacked.isEmpty then d.now else x.sentAt }
      pkts.foldl (fun d u => d.emit (.roce x.port x.destQpn u.kind u.psn u.va u.rkey u.data)) d

/-- ROCE_ACK_IN: an ACK, a NAK of a sequence error (17) or an RNR NAK (20) sends again from its PSN, another NAK is a failure. -/
def execRoceAckIn (port : Fin 8) (qpn psn syndrome : Nat) (icrc : Bool) (s : State) : Host.Outcome State Fault Refusal :=
  s.upd (fun d =>
    match d.qpAt port.val qpn with
    | none => d
    | some (q, x) =>
      if !icrc || !x.requester then d
      else
        let rest (upTo : Bool) := x.unacked.filter (fun u => psnBefore psn u.psn || (!upTo && u.psn = psn))
        match syndrome with
        | 16 => if (rest true).length = x.unacked.length then d
                else d.setQp q { x with unacked := rest true, retries := 0, sentAt := d.now }
        | 17 => d.roceResend q { x with unacked := rest false }
        | 20 => d.roceResend q { x with unacked := rest false }
        | _ => d.qpError q)

/-- ROCE_CNP_IN: the sending rate is halved. -/
def execRoceCnpIn (port : Fin 8) (qpn : Nat) (icrc : Bool) (s : State) : Host.Outcome State Fault Refusal :=
  s.upd (fun d =>
    match d.qpAt port.val qpn with
    | some (q, x) => if icrc && x.requester then d.setQp q { x with rate := x.rate / 2, rateAt := d.now } else d
    | none => d)

/-- ROCE_RATE_RESTORE: 50 µs after the last change, one sixteenth of the full rate. -/
def execRoceRateRestore (q : Fin 4096) (s : State) : Host.Outcome State Fault Refusal :=
  s.upd (fun d =>
    match d.link.qps.get? q.val with
    | some x =>
      if 65536 ≤ x.rate then d
      else
        let d := d.at (x.rateAt + 50000)
        d.setQp q.val { x with rate := min 65536 (x.rate + 4096), rateAt := d.now }
    | none => d)

/-- ROCE_RETRY_TIMEOUT: 64 µs without an ACK; the eighth is a failure. -/
def execRoceRetryTimeout (q : Fin 4096) (s : State) : Host.Outcome State Fault Refusal :=
  s.upd (fun d =>
    match d.link.qps.get? q.val with
    | some x =>
      if x.error || x.unacked.isEmpty || d.packageContained then d
      else
        let d := d.at (x.sentAt + 64000)
        if 7 ≤ x.retries then d.qpError q.val else d.roceResend q.val { x with retries := x.retries + 1 }
    | none => d)

/-! ### Live feeds (R468) -/

/-- FEED_FRAME: a datagram of a bound feed is captured, or dropped and counted; the port takes no frame above 9,216 bytes (R436). -/
def execFeedFrame (g : Datagram) (s : State) : Host.Outcome State Fault Refusal :=
  s.upd (fun d =>
    let p := g.port.val
    let d := d.at g.time
    if !d.ethOn p Fd.PORT_CTRL_FEED_EN || decide (9216 < g.frame) then d
    else match d.link.feeds.find? (fun e => e.2.port = p && e.2.ipv6 = g.ipv6 && e.2.dstIp = g.dstIp && e.2.udpPort = g.dstPort) with
      | none => d
      | some (i, f) =>
        let drop := d.count (Reg.PORT_FEED_DROPS p) 64 1
        let n := g.payload.length
        let open_ := f.count != 0 && !d.taskGone f.tag
        let count := if open_ then f.count + 1 else 1
        let last := count = f.frames || (open_ && f.first + f.closeUs * 1000 ≤ g.time)
        let head := u64 (d.calAtTime g.time) ++ u16 i ++ u8 (bit g.ipv6 + 2 * bit d.calValid) ++ u8 p ++ u32 n ++ leBytes 16 g.srcIp ++ u16 g.srcPort
          ++ zeros 2 ++ u32 f.seq ++ zeros 24
        if !g.ok || d.poolSize (poolKey f.die f.pool) < n + 64 then drop
        else match d.deliverFrame p f.die f.stage f.lift f.pool (if open_ then some f.tag else none) last (head ++ g.payload) with
          | none => drop
          | some (t, d) => d.updLink (fun l => { l with feeds := l.feeds.put i { f with
              seq := (f.seq + 1) % 2 ^ 32, tag := t, count := if last then 0 else count, first := if open_ then f.first else g.time } }))

/-! ### PTP (R469) -/

def Device.ptpUnit (d : Device) (p : Nat) : PtpUnit := d.link.ptp.getD p PtpUnit.reset
def Device.setPtp (d : Device) (p : Nat) (u : PtpUnit) : Device := d.updLink (fun l => { l with ptp := l.ptp.put p u })

/-- The port runs PTP. -/
def Device.ptpOn (d : Device) (p : Nat) : Bool := d.ethOn p Fd.PORT_CTRL_PTP_EN

/-- The offset of a Sync whose time stamp is known: lock after 16 intervals within 100 ns, loss above 1 µs; the servo corrects calendar
time where the port is its source, but not in HOLDOVER, where it runs on at the last rate until lock returns (R55). -/
def Device.ptpOffset (d : Device) (p : Nat) : Device :=
  let u := d.ptpUnit p
  match u.delay with
  | none => d
  | some delay =>
    let off : Int := (u.t2 : Int) - (u.t1 : Int) - u.corr - delay
    let good := if off.natAbs ≤ 100 then u.good + 1 else 0
    let d := d.setPtp p { u with good := good }
    let d := if 1000 < off.natAbs then d.ptpLock p false else if 16 ≤ good then d.ptpLock p true else d
    if d.fld Reg.CAL_CTRL Fd.CAL_CTRL_SRC = 1 && d.fld Reg.CAL_CTRL Fd.CAL_CTRL_PTP_PORT = p && d.fld Reg.CAL_STATUS Fd.CAL_STATUS_HOLDOVER = 0 then
      let c := Config.ptpServo off (d.time.calNum, d.time.calDen)
      d.setCalendar (ofSigned 64 ((d.calNow : Int) + c.1)) c.2.1 (max 1 c.2.2)
    else d

/-- PTP_SYNC_IN. -/
def execPtpSyncIn (p : Fin 8) (m : PtpMsg) (s : State) : Host.Outcome State Fault Refusal :=
  s.upd (fun d =>
    if !d.ptpOn p.val then d
    else
      let d := d.at m.time
      let u := d.ptpUnit p.val
      let u := { u with syncSeq := m.seq, t1 := m.stamp, corr := m.corr, t2 := d.calAtTime m.time, awaiting := m.twoStep, reqSeq := (u.reqSeq + 1) % 65536
                        t3 := d.calNow, interval := match u.lastSync with | some t => m.time - t | none => u.interval, lastSync := some m.time }
      let d := (d.setPtp p.val u).emit (.ptpDelayReq p.val)
      if m.twoStep then d else d.ptpOffset p.val)

/-- PTP_FOLLOW_UP_IN. -/
def execPtpFollowUpIn (p : Fin 8) (m : PtpMsg) (s : State) : Host.Outcome State Fault Refusal :=
  s.upd (fun d =>
    let u := d.ptpUnit p.val
    if !d.ptpOn p.val || !u.awaiting || m.seq != u.syncSeq then d
    else ((d.at m.time).setPtp p.val { u with t1 := m.stamp, corr := u.corr + m.corr, awaiting := false }).ptpOffset p.val)

/-- PTP_DELAY_RESP_IN: the mean path delay. -/
def execPtpDelayRespIn (p : Fin 8) (m : PtpMsg) (s : State) : Host.Outcome State Fault Refusal :=
  s.upd (fun d =>
    let u := d.ptpUnit p.val
    if !d.ptpOn p.val || u.awaiting || u.lastSync.isNone || m.seq != u.reqSeq then d
    else (d.at m.time).setPtp p.val { u with
      delay := some ((((u.t2 : Int) - (u.t1 : Int) - u.corr) + ((m.stamp : Int) - (u.t3 : Int) - m.corr)) / 2) })

/-- PTP_SYNC_TIMEOUT: four Sync intervals (of 1 s before the first is known) without a Sync, on a port
disabled since too (R55). -/
def execPtpSyncTimeout (p : Fin 8) (s : State) : Host.Outcome State Fault Refusal :=
  s.upd (fun d =>
    let u := d.ptpUnit p.val
    match u.lastSync with
    | none => d
    | some t => ((d.at (t + 4 * (if u.interval = 0 then 1000000000 else u.interval))).setPtp p.val { u with good := 0, awaiting := false }).ptpLock p.val false)

end Sys2Proof.Machine
end

