-- ==== Sys2Proof/Machine/Memory.lean ====
section
/-!
DEFINITION. The memory system's own commands: the Groomer, virtual memory control, ATS and PRI, host-window completions, training
(chapter 16: R477, R485 to R503; the board configuration record of R579).
-/

namespace Sys2Proof.Machine

/-! ### Poison and the Groomer (R487 to R492) -/

/-- A patrol burst is due at Night (R48, R490). -/
def Device.burstDue (d : Device) : Bool := d.fld Reg.GROOM_CTRL Fd.GROOM_CTRL_ENABLE = 1 && d.fld Reg.GROOM_CTRL Fd.GROOM_CTRL_NIGHT_BURST = 1
/-- The patrol burst of a Night begins (R490). -/
def Device.beginBurst (d : Device) : Device := if d.burstDue then { d with memu := { d.memu with burst := true } } else d

/-- The tier of a patrolled place. -/
def Device.patrolTier (d : Device) : PatrolTarget → Nat
  | .memory a => d.tierReg a
  | .reserved _ _ => 3
  | _ => 0

/-- A place that no address shows cannot be corrected: reported at its first detection (R546). -/
def Device.darkBad (d : Device) (x : Nat × Nat × Nat) (f : Device → Device) : Device :=
  if x ∈ d.fault.dark then d else f { d with fault := { d.fault with dark := d.fault.dark ++ [x] } }

/-- A patrolled or accessed place is found uncorrectable (R488, R334, R554). -/
def Device.patrolBad (d : Device) (t : PatrolTarget) (groomer : Bool) : Device :=
  match t with
  | .memory a => if d.isLocal a then d.poisonGranule a 0 groomer else d
  | .sram die index =>
    d.darkBad (0, die.val, index) (fun d => d.sramBad die.val index
      { code := 0x0F12, severity := 3, byGroomer := groomer, loc := { kind := 7, die := die.val }, arg0 := index })
  | .matchEntry die bank e => d.entryBad (d.bankPlace die.val bank.val e.val) groomer
  | .reserved ch index =>
    d.darkBad (3, ch.val, index) (fun d =>
      let (v, d) := d.free
      ((d.count (Reg.MEM_UE_COUNT 3) 64 1).setReg Reg.MEM_LAST_UE (BitVec.ofNat 64 (v.toNat % 2 ^ 56 + 3 * 2 ^ 56 + 2 ^ 58 * bit groomer))).errqEnter 4
        { code := 0x0F12, severity := 3, byGroomer := groomer, loc := { kind := 7, die := 4 + ch.val / 8 } })
  | .recorder slot =>
    if slot.val ∈ d.fault.badSlots then d
    else { d with fault := { d.fault with badSlots := d.fault.badSlots ++ [slot.val] } }.sramBadAt 4
      { code := 0x0F12, severity := 3, byGroomer := groomer, loc := { kind := 7, die := 4 } }

/-- GROOMER_PATROL: a granule is read: correct, corrected in place, or poisoned and reported; the last of a tier ends a pass; with
`last.burst` it is the last of the burst of a Night (R51, R490).  With `last.access` an access meets it, not the patrol: the same, but for the
passes, and whether or not the Groomer runs (R487, R488; log 108). -/
def execGroomerPatrol (t : PatrolTarget) (found : Fin 3) (last : PatrolEnd) (s : State) : Host.Outcome State Fault Refusal :=
  s.upd (fun d =>
    if d.fld Reg.GROOM_CTRL Fd.GROOM_CTRL_ENABLE = 0 && !last.access then d
    else
      let tier := d.patrolTier t
      let d := if found = 1 then d.count (Reg.MEM_CE_COUNT tier) 64 1 else d
      let d := if found != 2 then d else d.patrolBad t (!last.access)
      if last.access then d
      else
        let d := if last.burst then { d with memu := { d.memu with burst := false } } else d
        if last.pass then d.count (Reg.GROOM_PASSES tier) 64 1 else d)

/-- GROOM_CTRL_WRITE (R492). -/
def Device.groomCtrlWrite (d : Device) (v : Nat) : Device :=
  if 4 ≤ v then d.refuse 0x0F01
  else
    let stops := d.fld Reg.GROOM_CTRL Fd.GROOM_CTRL_ENABLE = 1 && !bitAt v 0
    let d := d.setReg Reg.GROOM_CTRL (BitVec.ofNat 64 v)
    let d := if v = 3 then d else { d with memu := { d.memu with burst := false } }
    if stops then d.record { severity := 2, loc := x0Loc } else d

def execGroomCtrlWrite (v : Word) (s : State) : Host.Outcome State Fault Refusal := s.upd (fun d => d.groomCtrlWrite v.toNat)

/-! ### Virtual memory (R494 to R498) -/

/-- VM_CTRL_WRITE. -/
def Device.vmCtrlWrite (d : Device) (v : Nat) : Device :=
  if 8 ≤ v then d.refuse 0x0F01
  else if (bitAt v 1 && !d.host.atsEnable) || (bitAt v 2 && !d.host.priEnable) then d.refuse 0x0F05
  else d.setReg Reg.VM_CTRL (BitVec.ofNat 64 v)

def execVmCtrlWrite (v : Word) (s : State) : Host.Outcome State Fault Refusal := s.upd (fun d => d.vmCtrlWrite v.toNat)

/-- VM_ROOT_WRITE: the whole root table lies in mapped HBM4 or DDR5. -/
def Device.vmRootWrite (d : Device) (v : Nat) : Device :=
  if v % 2 ^ 21 != 0 || 2 ^ 56 ≤ v then d.refuse 0x0F01
  else if d.fld Reg.VM_CTRL Fd.VM_CTRL_ENABLE = 1 then d.refuse 0x0F06
  else if !d.inHbmDdr v || !d.inHbmDdr (v + 2 ^ 21 - 1) then d.refuse 0x0F16
  else d.setReg Reg.VM_ROOT (BitVec.ofNat 64 v)

def execVmRootWrite (v : DWord) (s : State) : Host.Outcome State Fault Refusal := s.write64 Reg.VM_ROOT (fun d => d.vmRootWrite v.toNat)

/-- First address and size of the range a value of VM_INVAL names; all addresses for SCOPE 0. -/
def invalRange (v : Nat) : Nat × Nat :=
  let va := bitsOf v 12 45 * 4096
  match v % 4 with
  | 0 => (0, 2 ^ 57)
  | n => (va / pageSize (n - 1) * pageSize (n - 1), pageSize (n - 1))

/-- A cached translation covers part of a range. -/
def TlbEntry.meets (e : TlbEntry) (r : Nat × Nat) : Bool := decide (e.va < r.1 + r.2) && decide (r.1 < e.va + e.size)

/-- No cached translation of a range remains (R497). -/
def Device.dropTlb (d : Device) (r : Nat × Nat) : Device :=
  d.updMem (fun m => { m with tlb := m.tlb.filter (fun e => !e.meets r) })

/-- Where a cached translation leads: address and size; of an ATS leaf the pages its cached ATS translations name. -/
def Device.tlbTargets (d : Device) (e : TlbEntry) : List (Nat × Nat) :=
  let a := bitsOf e.leaf 12 44 * 4096
  if !bitAt e.leaf 3 then [(a, e.size)]
  else if !bitAt e.leaf 4 then [(hostBus a, e.size)]
  else (d.memu.atc.filter (fun x => decide (a ≤ x.page * 4096) && decide (x.page * 4096 < a + e.size))).map (fun x => (hostBus x.target, 4096))

/-- VM_INVAL: a write of VM_INVAL; GO starts the invalidation of its scope. -/
def Device.vmInvalWrite (d : Device) (v : Nat) : Device :=
  if bitsOf v 3 9 != 0 || 2 ^ 57 ≤ v then d.refuse 0x0F01
  else
    let go := bitAt v 2 || d.fld Reg.VM_INVAL Fd.VM_INVAL_GO = 1
    let d := d.setReg Reg.VM_INVAL (BitVec.ofNat 64 (withBits v 2 1 (bit go)))
    if bitAt v 2 then
      let r := invalRange v
      let gone := (d.memu.tlb.filter (·.meets r)).flatMap d.tlbTargets
      (d.updMem (fun m => { m with vmTargets := m.vmTargets ++ gone })).dropTlb r
    else d

def execVmInval (v : DWord) (s : State) : Host.Outcome State Fault Refusal := s.write64 Reg.VM_INVAL (fun d => d.vmInvalWrite v.toNat)

/-- VM_INVAL_DONE: GO clears once no access that used a translation of the range is outstanding: reads asked for or queued, and staged writes. -/
def execVmInvalDone (s : State) : Host.Outcome State Fault Refusal :=
  s.upd (fun d =>
    if d.fld Reg.VM_INVAL Fd.VM_INVAL_GO = 0 || d.memu.vmTargets.any (fun r => d.inUse r.1 r.2) then d
    else ((d.dropTlb (invalRange (d.reg Reg.VM_INVAL).toNat)).updMem (fun m => { m with vmTargets := [] })).setFld Reg.VM_INVAL Fd.VM_INVAL_GO 0)

/-- A Page Request of its own group, with the Last flag (R498), while fewer than 64 are outstanding. -/
def Device.sendPageRequest (d : Device) (a : Nat) (write : Bool) : Device :=
  if d.fld Reg.VM_CTRL Fd.VM_CTRL_PRI_EN = 0 || d.dmaOff || 64 ≤ d.memu.pageReqs.length then d
  else
    let g := d.memu.nextGroup
    (d.updMem (fun m => { m with pageReqs := m.pageReqs ++ [g], nextGroup := (g + 1) % 512 })).emit (.pageRequest g a write)

/-- ATS_COMPLETION (R498): the translation of a page and what it allows; requests it denies abort their tasks. -/
def execAtsCompletion (page target : Nat) (read write : Bool) (s : State) : Host.Outcome State Fault Refusal :=
  s.upd (fun d =>
    let rs := d.memu.atsPending.filter (fun r => r.page = page)
    if rs.isEmpty then d
    else
      let d := d.updMem (fun m => { m with atsPending := m.atsPending.filter (fun r => r.page != page) })
      let e : AtcEntry := { page := page, target := target / 4096 * 4096, read := read, write := write }
      let d := if read || write then
          d.updMem (fun m => { m with atc := ((m.atc.filter (fun x => x.page != page)) ++ [e]).drop (bit (4096 ≤ (m.atc.filter (fun x => x.page != page)).length)) })
        else d
      rs.foldl (fun d r =>
        if (if r.write then write else read) then d
        else (((d.noteVmFault r.va 0x0F13 r.level r.write).requestAbort r.tag 0x0F13).sendPageRequest (page * 4096) r.write)) d)

/-- The depth of the queue of ATS Invalidation Requests (R504). -/
def invalDepth : Nat := 32

/-- ATS_INVALIDATE: the translations of a range leave the cache, and the request completes once no access uses one.  One that finds the queue
full is not taken, for the host sends no more than its depth (R504; log 110). -/
def execAtsInvalidate (itag addr size : Nat) (s : State) : Host.Outcome State Fault Refusal :=
  s.upd (fun d => if invalDepth ≤ d.memu.invals.length then d else
    let gone := d.memu.atc.filter (fun e => decide (e.page * 4096 < addr + size) && decide (addr < e.page * 4096 + 4096))
    let used := gone.any (fun e => d.inUse (hostBus e.target) 4096)
    let d := d.updMem (fun m => { m with atc := m.atc.filter (fun e => e ∉ gone) })
    if used then d.updMem (fun m => { m with invals := m.invals ++ [(itag, gone.map (·.target))] }) else d.emit (.atsInvalidateDone itag))

/-- PAGE_REQUEST_RESPONSE: the group is outstanding no more; the response resumes nothing. -/
def execPageRequestResponse (group : Nat) (s : State) : Host.Outcome State Fault Refusal :=
  s.upd (fun d => d.updMem (fun m => { m with pageReqs := m.pageReqs.filter (· != group) }))

/-- HOST_READ_COMPLETION (R477): the data of a host-window read, or its failure or time-out. -/
def execHostReadCompletion (id : Nat) (ok : Bool) (data : List Byte) (s : State) : Host.Outcome State Fault Refusal :=
  s.upd (fun d =>
    match d.str.extReads.find? (fun r => !r.peer && r.id = id) with
    | none => d
    | some r => (if ok && data.length = r.len then d.deliverRead r data else d.failRead r 0x0F14).settleInvals)

/-! ### The board configuration record and training (R484, R485, R499, R500, R579) -/

/-- R579, R484: the record is well formed and states a population the device supports. -/
def boardRecordOk (b : List Byte) : Bool :=
  let type := leAt b 0x0D 1
  let dpc := leAt b 0x0E 1
  let gib := leAt b 0x10 2
  let speed := leAt b 0x12 2
  b.length = 256 && leAt b 0 4 = 0x43424B58 && leAt b 4 2 = 1 && leAt b 6 2 = 256 && leAt b 0x14 232 = 0
    && leAt b 0xFC 4 = (crc32c (b.take 0xFC)).toNat && (leAt b 0x0C 1 = 8 || leAt b 0x0C 1 = 16) && (leAt b 0x0F 1 = 4 || leAt b 0x0F 1 = 8)
    && ((type = 1 && (dpc = 1 || dpc = 2) && gib ∈ [32, 64, 96, 128, 256] && speed = 6400)
        || (type = 2 && dpc = 1 && gib ∈ [64, 128, 256, 512] && speed = 8800))

/-- A FATAL record that training gives (R500). -/
def Device.trainFail (d : Device) (die index tier : Nat) : Device :=
  d.record { code := 0x0F17, severity := 5, loc := { kind := 7, die := die, index := index }, arg2 := tier }

/-- MEMORY_TRAINING_END: stacks trained; failed bonded channels by die; a DDR5 channel whose DIMMs differ from the record, and one that fails
to train.  The FATAL record of DDR5 names that channel, and channel 0 where the board record is not valid (R500; log 108). -/
def execMemoryTrainingEnd (stk : BitVec 16) (bonded : List Nat) (dimms ddr : Option (Fin 16)) (s : State) : Host.Outcome State Fault Refusal :=
  s.upd (fun d =>
    if !d.mgmt.fw || d.fld Reg.MEM_STATUS Fd.MEM_STATUS_TRAINED = 1 then d
    else
      let d := d.at (d.mgmt.t0 + 3400000000)
      let rec_ := d.flash.record
      let valid := boardRecordOk rec_
      let stackOk (die : Nat) : Nat := bitsOf stk.toNat (4 * die) 4
      let hbm := [0, 1, 2, 3].foldl (fun n k => n + bit (stackOk k = 15) * 2 ^ k) 0
      let bond := [0, 1, 2, 3].foldl (fun n k => n + bit (bonded.getD k 0 ≤ 16) * 2 ^ k) 0
      let ddrReady := valid && dimms.isNone && ddr.isNone
      let channel := if valid then (((dimms.or ddr).map (·.val)).getD 0) else 0
      let n := leAt rec_ 0x0C 1
      let mapped := if ddrReady then n * (leAt rec_ 0x0E 1 * leAt rec_ 0x10 2 * 2 ^ 30 - 576 * 2 ^ 20) else 0
      let allReady := hbm = 15 && bond = 15 && ddrReady
      let d := { d with mem := [], poison := [] }
      let d := [0, 1, 2, 3].foldl (fun d k =>
        (d.setFld (Reg.MEMD_STATUS k) Fd.MEMD_STATUS_SPARES_USED (min 16 (bonded.getD k 0))).setFld (Reg.MEMD_STATUS k) Fd.MEMD_STATUS_STACK_OK (stackOk k)) d
      let d := d.setReg Reg.MEM_CONFIG (BitVec.ofNat 64 ((if valid then n + 2 ^ 5 * leAt rec_ 0x0D 1 + 2 ^ 7 * bit (leAt rec_ 0x0E 1 = 2) + 2 ^ 8 * leAt rec_ 0x10 2 else 0)
        + 2 ^ 20 * d.board.stackGib))
      let d := d.setReg Reg.MEM_STATUS (BitVec.ofNat 64 (1 + 2 * hbm + 2 ^ 5 * bond + 2 ^ 9 * bit ddrReady + 2 ^ 10 * bit (!valid || dimms.isSome)
        + 2 ^ 16 * (if allReady then 0 else 0x0F17)))
      let d := d.setReg Reg.DDR_MAPPED (BitVec.ofNat 64 mapped)
      let d := (List.range 16).foldl (fun d i => if bitAt stk.toNat i then d else d.trainFail (i / 4) i 2) d
      let d := [0, 1, 2, 3].foldl (fun d k => if bitAt bond k then d else d.trainFail k 0 1) d
      if ddrReady then d
      else (if valid then d else d.record { code := 0x1020, severity := 5, loc := x0Loc }).trainFail (4 + channel / 8) channel 3)

end Sys2Proof.Machine
end

