-- ==== Sys2Proof/Machine/Commit.lean ====
section
/-!
DEFINITION. Handles that reach their Lift, the commit of a task, and aborts on every die (R150, R152, R157 to R161, R116, R117, R546).
-/

namespace Sys2Proof.Machine

/-- HANDLE_ARRIVE (R25, R152, R161): the `i`-th of the pushes that may be the next to reach a Lift is enqueued, or discarded when its task is
aborted; the Lifts of a contained die are stopped (R543). -/
def execHandleArrive (dd : Fin 4) (lift : Fin 4096) (i : Nat) (s : State) : Host.Outcome State Fault Refusal :=
  s.upd (fun d =>
    let lk := 4096 * dd.val + lift.val
    if d.dieContained dd.val then d
    else match (d.arriving lk)[i]? with
    | some e =>
      let d := d.updStr (fun u => { u with flight := u.flight.erase (.push lk e) })
      if d.taskGone e.tag then d.releaseHandle (d.liftRouter lk) e.h else d.setLift lk (d.liftQ lk ++ [e])
    | none => d)

/-! ### Staged writes reach their destinations (R157) -/

/-- Bytes leave for their destination: device memory, the host window, or the peer window (R476, R477); poison travels with them (R546).
While host-bound DMA is stopped a host-window write is not sent (R528). -/
def Device.writeOut (d : Device) (a : Nat) (bs : List Byte) (poison : Bool) : Device :=
  (pageParts a bs.length).foldl (fun d p =>
    let part := (bs.drop p.2.2).take p.2.1
    match d.place p.1 with
    | .host h => if d.dmaOff then d else d.emit (.hostWrite h part poison)
    | .peer m x => d.sendLink m 0x09 (u64 x ++ zeros 8 ++ u8 (bit poison)) part
    | .registers => d
    | .unmapped => d
    | _ => let d := d.write p.1 part
           if poison then d.poisonRange p.1 part.length else d) d

/-- The byte at an address a write merges into: of device memory; outside it the byte the commit has read, `olds`, and a free value where that
read brought none (log 41). -/
def Device.oldByte (d : Device) (olds : Map Byte) (a : Nat) : Nat × Device :=
  if d.isLocal a then ((memRead d.mem a).toNat, d)
  else match olds.get? a with
    | some b => (b.toNat, d)
    | none => let (v, d) := d.free; (v.toNat % 256, d)

/-- A half of a byte written: 1 the low, 2 the high half (a merge of 4-bit elements); and the bytes known outside the device after it. -/
def Device.writeHalf (d : Device) (olds : Map Byte) (a half x : Nat) (poison : Bool) : Map Byte × Device :=
  let (old, d) := d.oldByte olds a
  let b := BitVec.ofNat 8 (if half = 2 then old % 16 + 16 * (x % 16) else old / 16 * 16 + x % 16)
  (olds.put a b, d.writeOut a [b] poison)

/-- Elements of a merge: each destination is named by twice its byte address, plus 1 for a high half. -/
def StagedWrite.elems (w : StagedWrite) (e : Nat) : List (Nat × Nat) :=
  let n := elemBits e / 8
  if elemBits e = 4 then (List.range (2 * w.data.length)).map (fun i => (2 * w.addr + i, bitsOf (leAt w.data (i / 2) 1) (4 * (i % 2)) 4))
  else (List.range (w.data.length / max 1 n)).map (fun i => (2 * (w.addr + i * n), leAt w.data (i * n) n))

/-- The code a destination of a merge holds. -/
def Device.oldCode (d : Device) (olds : Map Byte) (e key : Nat) : Nat × Device :=
  if elemBits e = 4 then
    let (b, d) := d.oldByte olds (key / 2)
    (bitsOf b (4 * (key % 2)) 4, d)
  else (List.range (elemBits e / 8)).foldl (fun (acc : Nat × Device) i =>
    let (b, d) := acc.2.oldByte olds (key / 2 + i)
    (acc.1 + b * 256 ^ i, d)) (0, d)

/-- A merge under way at a destination: operator, format, held value, whether a contribution was uncorrectable. -/
structure Merge where
  op : Nat
  elem : Nat
  held : Nat
  poison : Bool
  deriving DecidableEq, Repr

/-- One contribution to a destination element: its order, where it goes, its code, whether it was uncorrectable. -/
structure MergePart where
  order : Nat
  key : Nat
  code : Nat
  op : Nat
  elem : Nat
  poison : Bool
  deriving DecidableEq, Repr

/-- The contributions of a task's merges, in the order of R116. -/
def contributions (ws : List (StagedWrite × Bool)) : List MergePart :=
  sortBy (fun x => x.order) (ws.flatMap (fun w =>
    match w.1.combine with
    | none => []
    | some (op, e) => (w.1.elems e).zipIdx.map (fun x =>
        { order := w.1.order + x.2 * w.1.step, key := x.1.1, code := x.1.2, op := op, elem := e, poison := w.2 })))

/-- R116, R117: the contributions of a task merged in order, each destination starting from the value it holds. -/
def Device.mergeAll (d : Device) (olds : Map Byte) (ws : List (StagedWrite × Bool)) : Map Merge × Device :=
  (contributions ws).foldl (fun (acc : Map Merge × Device) x =>
    match acc.1.get? x.key with
    | some m => (acc.1.put x.key { m with held := combineStep m.op m.elem m.held x.code, poison := m.poison || x.poison }, acc.2)
    | none =>
      let (old, d) := acc.2.oldCode olds x.elem x.key
      (acc.1.put x.key { op := x.op, elem := x.elem, held := combineStep x.op x.elem (combineStart x.op x.elem old) x.code, poison := x.poison }, d)) ([], d)

/-- A merged value reaches its destination; a sum that the format does not hold is a free value (log 92). -/
def Device.mergeOut (acc : Map Byte × Device) (key : Nat) (m : Merge) : Map Byte × Device :=
  let (v, d) := match combineEnd m.op m.elem m.held with
    | some v => (v, acc.2)
    | none => let (v, d) := acc.2.free; (v.toNat % 2 ^ elemBits m.elem, d)
  if elemBits m.elem = 4 then d.writeHalf acc.1 (key / 2) (key % 2 + 1) v m.poison
  else (acc.1, d.writeOut (key / 2) (leBytes (elemBits m.elem / 8) v) m.poison)

/-- R546: staging found uncorrectable at commit: its tier counts it, and an ERROR record in the queue of the die whose memory it lies in (R547)
names each destination granule; the staging granule has no address in this model (log 42). -/
def Device.stagingBad (d : Device) (w : StagedWrite) : Device :=
  let base := ((((d.plan.active.map (fun pl => regionsOf pl.image w.die)).getD []).find? (·.staging)).map (·.base)).getD (0x0B00_0000_0000 + 0x0001_0000_0000 * w.die)
  let tier := d.tierReg base
  let (v, d) := d.free
  let d := (d.count (Reg.MEM_UE_COUNT tier) 64 1).setReg Reg.MEM_LAST_UE (BitVec.ofNat 64 (v.toNat % 2 ^ 50 * 64 + 2 ^ 56 * tier))
  (granules w.addr w.data.length).foldl (fun d g => d.errqEnter (d.ownerQueue base) { code := 0x0F12, severity := 3, loc := d.memoryLoc (64 * g), arg0 := 64 * g }) d

/-- R157: the staged writes of a task reach their destinations: whole bytes in order, then the merges. `bad` are the positions of the writes
whose staging proves uncorrectable, `olds` the bytes read of destinations outside the device. -/
def Device.applyWrites (d : Device) (olds : Map Byte) (ws : List StagedWrite) (bad : List Nat) : Device :=
  let marked := ws.zipIdx.map (fun x => (x.1, decide (x.2 ∈ bad)))
  let d := marked.foldl (fun d x =>
    if x.1.combine.isSome then d
    else d.writeOut x.1.addr x.1.data x.2) d
  let (ms, d) := d.mergeAll olds (marked.filter (fun x => x.1.combine.isSome))
  let d := (ms.foldl (fun acc m => Device.mergeOut acc m.1 m.2) (olds, d)).2
  (marked.filter (·.2)).foldl (fun d x => d.stagingBad x.1) d

/-! ### Commit -/

/-- R157: no earlier task of the stage on the home die is live. -/
def Device.commitTurn (d : Device) (t : Task) : Bool :=
  !((d.liveTasks (tagHome t.tag)).any (fun e => tagStage e.2.tag = tagStage t.tag && decide (e.2.alloc < t.alloc)))

/-- The Traverse jobs of a committed task are counted as done. -/
def Device.travCommitted (d : Device) (tag : Nat) : Device :=
  let mine := d.link.travEnded.filter (fun e => e.1 = tag)
  mine.foldl (fun d e => d.count (Reg.TRAV_JOBS_DONE (e.2 / 1024) (e.2 % 64)) 64 1)
    (d.updLink (fun l => { l with travEnded := l.travEnded.filter (fun e => e.1 != tag) }))

/-- R464: the outcome of an exchange falls under a hold or a containment. -/
def Device.outcomeNoted (d : Device) : Bool := d.time.held || d.packageContained || (List.range 4).any d.dieContained

/-- The entry of a task retires in a state (R168). -/
def Device.retire (d : Device) (k : Nat) (t : Task) (st : TaskState) : Device :=
  (d.setTask k { t with state := st, aborting := false, prepared := false, retired := d.str.retireCount, writes := [], stationStaging := [], rdma := [], asked := false, olds := [] }).updStr
    (fun u => { u with retireCount := u.retireCount + 1 })

/-- The whole of a task's commit. `bad` counts its writes first, then its RDMA WRITEs. -/
def Device.commitTask (d : Device) (k : Nat) (t : Task) (bad : List Nat) : Device :=
  let d := d.applyWrites t.olds t.writes bad
  let d := ((d.packCommit t.tag).matchCommit t.tag).embCommit t.tag
  let d := t.rdma.zipIdx.foldl (fun d x => if t.writes.length + x.2 ∈ bad then d.qpError x.1.1 else d.rdmaSend x.1.1 x.1.2.1 x.1.2.2.1 x.1.2.2.2) d
  let d := d.travCommitted t.tag
  let d := if !t.exch.isEmpty && (d.outcomeNoted || t.touched) then d.exchRecord t true else d
  (d.retire k t .committed).settleInvals.count (Reg.TASK_COMMIT_COUNT (tagHome t.tag)) 64 1

/-- The merges of a task that need what a destination outside the device holds: every one but LAST of whole bytes (R117). -/
def Device.outsideMerges (d : Device) (t : Task) : List (Nat × Nat) :=
  (t.writes.filter (fun w => match w.combine with | some (op, e) => op != 4 || elemBits e = 4 | none => false)).flatMap (fun w =>
    (pageParts w.addr w.data.length).filterMap (fun p => match d.place p.1 with
      | .host _ => if d.dmaOff then none else some (p.1, p.2.1)
      | .peer _ _ => some (p.1, p.2.1)
      | _ => none))

/-- The commit of a task asks for what its merges need from outside, once. -/
def Device.askOlds (d : Device) (t : Task) (l : List (Nat × Nat)) : Device :=
  l.foldl (fun d x => d.askPiece commitStream t.tag x.1 x.2 x.1) (d.updTask t.tag (fun t => { t with asked := true }))

/-- TASK_COMMIT (R157, R158): the merges start from the values their destinations hold at commit; where one lies outside the device the commit
reads it first, and ends when what it asked for has come. -/
def execTaskCommit (tag : Nat) (bad : List Nat) (s : State) : Host.Outcome State Fault Refusal :=
  s.upd (fun d =>
    match d.findTask tag with
    | none => d
    | some (k, t) =>
      let outside := d.outsideMerges t
      if !(t.state = .ended && d.commitTurn t) || d.str.extReads.any (fun r => r.stream = commitStream && r.tag = tag) then d
      else if !t.asked && !outside.isEmpty then d.askOlds t outside
      else d.commitTask k t bad)

/-! ### Aborts (R160, R161) -/

/-- The home die marks a task ABORTED; its peers are told (R463). -/
def Device.markAborted (d : Device) (k : Nat) (t : Task) (code : Nat) : Device :=
  let t := { t with code := code }
  let d := d.exchTaskAborted t
  let d := if !t.exch.isEmpty && (d.outcomeNoted || t.touched) then d.exchRecord t false else d
  let w := (t.writes, t.stationStaging)
  let d := d.retire k t .aborted
  (d.updTask t.tag (fun x => { x with writes := w.1, stationStaging := w.2 })).count (Reg.TASK_ABORT_COUNT (tagHome t.tag)) 64 1

/-- ABORT_REQUEST_RECEIVE (R161): the request reaches the home die; the abort order goes to all four compute dies. -/
def execAbortRequestReceive (tag : Nat) (s : State) : Host.Outcome State Fault Refusal :=
  s.upd (fun d =>
    match d.str.abortReqs.find? (fun r => r.1 = tag) with
    | none => d
    | some r =>
      let d := d.updStr (fun u => { u with abortReqs := u.abortReqs.erase r })
      match d.findTask tag with
      | none => d
      | some (k, t) =>
        if t.state = .open then
          (d.markAborted k t r.2).updStr (fun u => { u with abortOrders := u.abortOrders ++ [(tag, 0), (tag, 1), (tag, 2), (tag, 3)] })
        else d)

/-- The Lifts of a die lose every handle with the tag; pushes that wait for room are discarded. -/
def Device.abortLifts (d : Device) (die tag : Nat) : Device :=
  let mine := d.str.lifts.filter (fun e => e.1 / 4096 = die)
  let hs := mine.flatMap (fun e => (e.2.filter (fun x => x.tag = tag)).map (fun x => (e.1, x))) ++ d.str.pushWait.filter (fun w => w.1 / 4096 = die && w.2.tag = tag)
  let d := d.updStr (fun u => { u with
    lifts := u.lifts.mapVals (fun k q => if k / 4096 = die then q.filter (fun x => x.tag != tag) else q)
    pushWait := u.pushWait.filter (fun w => !(w.1 / 4096 = die && w.2.tag = tag)) })
  hs.foldl (fun d e => d.releaseHandle (d.liftRouter e.1) e.2.h) d

/-- Every stream of a die whose present or last task has the tag is DONE with ABORTED (R161, R167): it issues nothing more, and the buffers it
holds go back, those of fills not confirmed too, of whatever arming (R146).  A channel that runs no record issues nothing more. -/
def Device.abortStreams (d : Device) (die tag code : Nat) : Device :=
  (d.str.streams.filter (fun e => e.1 / 32768 = die && (e.2.tag = tag || e.2.provisional.any (fun h => h.tag = tag)))).foldl (fun d e =>
    let x := e.2
    let keep := x.provisional.filter (fun h => h.tag != tag)
    let d := if x.tag != tag then d.setStream e.1 { x with provisional := keep }
      else (d.setStream e.1 { x with
        state := if x.state = .idle then .idle else .done, aborted := x.state != .idle, code := if x.state = .idle then x.code else code
        openBuf := none, popped := none, provisional := keep, issueQ := [], dropped := [], tile := [], outstanding := 0
        poolWait := false, liftWait := false }).wakeSwait e.1
    let d := match x.openBuf with | some b => if x.tag = tag then d.releaseBuffer (streamRouter e.1) b.pool b.addr else d | none => d
    ((if x.tag = tag then x.popped.toList else []) ++ x.provisional.filter (fun h => h.tag = tag)).foldl (fun d h => d.releaseHandle (streamRouter e.1) h.h) d) d

/-- Outstanding reads of the tag for a die's streams and stations are discarded on return (R161). -/
def Device.abortReads (d : Device) (die tag : Nat) : Device :=
  (({ d.updStr (fun u => { u with extReads := u.extReads.filter (fun r => !(r.tag = tag && r.stream / 32768 = die && r.stream < planStoreStream)) }) with
      memu := { d.memu with atsPending := d.memu.atsPending.filter (fun r => r.tag != tag) } }))

/-- The Traverse jobs of the task on a die count as failed: the one in progress and those that have ended. -/
def Device.abortTraverse (d : Device) (die tag : Nat) : Device :=
  let running := (d.stn.jobs.filter (fun e => e.1 / 1024 = die && e.1 / 64 % 16 = 7 && e.2.tag = tag)).map (·.1)
  let ended := (d.link.travEnded.filter (fun e => e.1 = tag && e.2 / 1024 = die)).map (·.2)
  (running ++ ended).foldl (fun d key => d.count (Reg.TRAV_JOBS_FAILED (key / 1024) (key % 64)) 64 1)
    (d.updLink (fun l => { l with travEnded := l.travEnded.filter (fun e => !(e.1 = tag && e.2 / 1024 = die)) }))

/-- R226: cells of a die blocked in SWGE for the task are released; a cell blocked in LPUSH or SWAIT for it goes on (R189). -/
def Device.freeCells (d : Device) (die tag : Nat) : Device :=
  { d with cells := d.cells.mapVals (fun g c =>
      if g / 2 ^ 18 = die && c.tag = tag && tag != 0 then
        match c.blocked with
        | some (.swge rd _ _) => ({ c with blocked := none }.setW rd 0x0617).advance
        | some (.lpush _) => { c with blocked := none }.advance
        | some (.swait rd st) => ({ c with blocked := none }.setW rd (BitVec.ofNat 32 (d.stream st).statusLow)).advance
        | _ => c
      else c) }

/-- The pushes of a die's cells for the task that wait for room, on whatever die their Lift is, are discarded and their buffers go back
(R189). -/
def Device.abortCells (d : Device) (die tag : Nat) : Device :=
  let mine (w : Nat × LiftEntry) : Bool := w.2.tag = tag && (match w.2.src with | .cell g => g / 2 ^ 18 = die | _ => false)
  (d.str.pushWait.filter mine).foldl (fun d w => d.releaseHandle w.2.src.router w.2.h)
    ((d.freeCells die tag).updStr (fun u => { u with pushWait := u.pushWait.filter (fun w => !mine w) }))

/-- R197, R218: the items that fenced cells hold for the task are completed, and their operands' buffers go back. -/
def Device.abortFencedItems (d : Device) (die tag : Nat) : Device :=
  (d.cells.filter (fun e => e.1 / 2 ^ 18 = die && e.2.state = .fenced && e.2.item.any (fun i => i.tag = tag))).foldl (fun d e => d.giveUpItem e.1) d

/-- Everything the abort order of a task does on a die (R161, R217, R226, R236); invalidations that waited for its accesses complete
(R498). -/
def Device.abortOn (d : Device) (die tag : Nat) : Device :=
  let code := ((d.findTask tag).map (fun e => e.2.code)).getD 0
  let d := (d.abortLifts die tag).abortStreams die tag code
  let d := ((d.abortReads die tag).abortTraverse die tag).stopJobs die tag
  let d := (((d.packAbort die tag).matchAbort die tag).selAbort die tag).embAbort die tag
  let d := ((d.gateAbort die tag).abortCells die tag).abortFencedItems die tag
  (d.updTask tag (fun t => { t with writes := t.writes.filter (fun w => w.die != die), stationStaging := t.stationStaging.del die })).settleInvals

/-- ABORT_ORDER_RECEIVE (R161). -/
def execAbortOrderReceive (dd : Fin 4) (tag : Nat) (s : State) : Host.Outcome State Fault Refusal :=
  s.upd (fun d =>
    if (tag, dd.val) ∈ d.str.abortOrders then
      let d := (d.abortOn dd.val tag).updStr (fun u => { u with abortOrders := u.abortOrders.erase (tag, dd.val) })
      if d.str.abortOrders.any (fun o => o.1 = tag) then d else d.updStr (fun u => { u with abortReports := u.abortReports ++ [(tag, ((d.findTask tag).map (fun e => e.2.code)).getD 0)] })
    else d)

/-- ABORT_REPORT (R161): the asynchronous message with tag and code, and the event record. -/
def execAbortReport (tag : Nat) (s : State) : Host.Outcome State Fault Refusal :=
  s.upd (fun d =>
    match d.str.abortReports.find? (fun r => r.1 = tag) with
    | none => d
    | some r =>
      let code := r.2
      let d := d.updStr (fun u => { u with abortReports := u.abortReports.erase r })
      (d.sendAsync 0x8001 (u32 tag ++ u16 code ++ u8 (tagHome tag))).record { code := code, severity := 1, loc := { kind := 5, die := tagHome tag }, tag := tag })

end Sys2Proof.Machine
end

