-- ==== Sys2Proof/Machine/Shake.lean ====
section
/-!
DEFINITION. SHAKE256 for outputs of at most 136 bytes, the only lengths the spec uses (R61, R453, R580, R589, R594), and SHA3-512 (R592), by
FIPS 202 (log 2).
-/

namespace Sys2Proof.Machine

/-- A state of 25 lanes, lane (x, y) at x + 5y. -/
abbrev KState := List (BitVec 64)

def klane (s : KState) (x y : Nat) : BitVec 64 := s.getD (x % 5 + 5 * (y % 5)) 0

/-- The round constants ι. -/
def keccakRC : List (BitVec 64) :=
  [0x0000000000000001#64, 0x0000000000008082#64, 0x800000000000808A#64, 0x8000000080008000#64, 0x000000000000808B#64, 0x0000000080000001#64,
   0x8000000080008081#64, 0x8000000000008009#64, 0x000000000000008A#64, 0x0000000000000088#64, 0x0000000080008009#64, 0x000000008000000A#64]
  ++ [0x000000008000808B#64, 0x800000000000008B#64, 0x8000000000008089#64, 0x8000000000008003#64, 0x8000000000008002#64, 0x8000000000000080#64,
   0x000000000000800A#64, 0x800000008000000A#64, 0x8000000080008081#64, 0x8000000000008080#64, 0x0000000080000001#64, 0x8000000080008008#64]

/-- The rotation offsets ρ, lane (x, y) at x + 5y. -/
def keccakRho : List Nat :=
  [0, 1, 62, 28, 27, 36, 44, 6, 55, 20, 3, 10, 43, 25, 39, 41, 45, 15, 21, 8, 18, 2, 61, 56, 14]

/-- One round: θ, ρ, π, χ, ι. -/
def keccakRound (s : KState) (rc : BitVec 64) : KState :=
  let c := (List.range 5).map (fun x => klane s x 0 ^^^ klane s x 1 ^^^ klane s x 2 ^^^ klane s x 3 ^^^ klane s x 4)
  let d := (List.range 5).map (fun x => c.getD ((x + 4) % 5) 0 ^^^ (c.getD ((x + 1) % 5) 0).rotateLeft 1)
  let t := (List.range 25).map (fun i => s.getD i 0 ^^^ d.getD (i % 5) 0)
  let b := (List.range 25).map (fun i =>
    let x := i % 5
    let y := i / 5
    let j := (x + 3 * y) % 5 + 5 * x
    (t.getD j 0).rotateLeft (keccakRho.getD j 0))
  let e := (List.range 25).map (fun i =>
    klane b (i % 5) (i / 5) ^^^ (~~~ klane b (i % 5 + 1) (i / 5) &&& klane b (i % 5 + 2) (i / 5)))
  match e with
  | [] => []
  | a :: r => (a ^^^ rc) :: r

def keccakF (s : KState) : KState := keccakRC.foldl keccakRound s

/-- A block of `rate` bytes is absorbed. -/
def keccakAbsorb (rate : Nat) (s : KState) (block : List Byte) : KState :=
  keccakF ((List.range 25).map (fun i => s.getD i 0 ^^^ (if 8 * i < rate then BitVec.ofNat 64 (leAt block (8 * i) 8) else 0)))

/-- A message padded with a suffix, then 10*1, to a multiple of `rate` bytes; `sfx` holds the suffix and the first 1 of the padding. -/
def keccakPad (rate : Nat) (sfx : Byte) (m : List Byte) : List Byte :=
  let r := m.length % rate
  if r = rate - 1 then m ++ [sfx ||| 0x80] else m ++ [sfx] ++ zeros (rate - 2 - r) ++ [0x80]

/-- The sponge: the first `n` bytes of one block of output, n at most `rate`. -/
def keccak (rate : Nat) (sfx : Byte) (n : Nat) (m : List Byte) : List Byte :=
  (((chunks rate (keccakPad rate sfx m)).foldl (keccakAbsorb rate) (List.replicate 25 0)).flatMap (fun l => leBytes 8 l.toNat)).take n

/-- The first `n` bytes of SHAKE256 over a message, n at most 136: suffix 1111. -/
def shake256 (n : Nat) (m : List Byte) : List Byte := keccak 136 0x1F n m

/-- SHA3-512 over a message: suffix 01, rate 72. -/
def sha3_512 (m : List Byte) : List Byte := keccak 72 0x06 64 m

end Sys2Proof.Machine
end

