-- ==== Sys2Proof/Machine/Ed448.lean ====
section
/-!
DEFINITION. Pure Ed448 by RFC 8032: signatures of plans, firmware, owner commands and attestation (R62, R580, R589, R590, R592; PRESUMED,
log 2).
-/

namespace Sys2Proof.Machine

/-- The field of the curve. -/
def edP : Nat := 2 ^ 448 - 2 ^ 224 - 1
/-- The order of the base point. -/
def edL : Nat := 2 ^ 446 - 13818066809895115352007386748515426880336692474882178609894547503885
/-- The curve x² + y² = 1 + d x² y²; d = −39081. -/
def edD : Nat := edP - 39081

def edAdd (a b : Nat) : Nat := (a + b) % edP
def edSub (a b : Nat) : Nat := (a + edP - b % edP) % edP
def edMul (a b : Nat) : Nat := a * b % edP

/-- `a` to the power whose low `n` bits are those of `e`. -/
def edPow (a : Nat) : (n : Nat) → (e : Nat) → Nat
  | 0, _ => 1
  | n + 1, e =>
    let r := edPow (edMul a a) n (e / 2)
    if e % 2 = 1 then edMul a r else r

def edInv (a : Nat) : Nat := edPow a 448 (edP - 2)

/-- A point in projective coordinates. -/
structure EdPoint where
  x : Nat
  y : Nat
  z : Nat

def EdPoint.zero : EdPoint := { x := 0, y := 1, z := 1 }

def EdPoint.base : EdPoint :=
  { x := 224580040295924300187604334099896036246789641632564134246125461686950415467406032909029192869357953282578032075146446173674602635247710
    y := 298819210078481492676017930443930673437544040154080242095928241372331506189835876003536878655418784733982303233503462500531545062832660
    z := 1 }

def EdPoint.add (p q : EdPoint) : EdPoint :=
  let a := edMul p.z q.z
  let b := edMul a a
  let c := edMul p.x q.x
  let d := edMul p.y q.y
  let e := edMul edD (edMul c d)
  let f := edSub b e
  let g := edAdd b e
  let h := edMul (edAdd p.x p.y) (edAdd q.x q.y)
  { x := edMul a (edMul f (edSub h (edAdd c d))), y := edMul a (edMul g (edSub d c)), z := edMul f g }

/-- A point times the number whose low `n` bits are those of `k`. -/
def EdPoint.mul (p : EdPoint) : (n : Nat) → (k : Nat) → EdPoint
  | 0, _ => .zero
  | n + 1, k =>
    let r := EdPoint.mul (p.add p) n (k / 2)
    if k % 2 = 1 then p.add r else r

/-- Two points are the same. -/
def EdPoint.same (p q : EdPoint) : Bool := edMul p.x q.z = edMul q.x p.z && edMul p.y q.z = edMul q.y p.z

def EdPoint.encode (p : EdPoint) : List Byte :=
  let i := edInv p.z
  leBytes 57 (edMul p.y i + 2 ^ 455 * (edMul p.x i % 2))

def EdPoint.decode (b : List Byte) : Option EdPoint :=
  let n := ofLe b
  let y := n % 2 ^ 455
  let sign := n / 2 ^ 455 % 2
  let y2 := edMul y y
  let u := edSub y2 1
  let v := edSub (edMul edD y2) 1
  let u3 := edMul u (edMul u u)
  let u3v := edMul u3 v
  let x := edMul u3v (edPow (edMul (edMul u3v (edMul u u)) (edMul v v)) 448 ((edP - 3) / 4))
  if b.length != 57 || edP ≤ y || edMul v (edMul x x) != u || (x = 0 && sign = 1) then none
  else some { x := if x % 2 = sign then x else edSub 0 x, y := y, z := 1 }

/-- What precedes a message with a context (dom4 of the RFC). -/
def edDom (ctx : List Byte) : List Byte := ascii "SigEd448" ++ u8 0 ++ u8 ctx.length ++ ctx

/-- The scalar a secret key stands for, and its prefix. -/
def edSecret (sk : List Byte) : Nat × List Byte :=
  let h := shake256 114 sk
  let s := ofLe (h.take 57) % 2 ^ 447
  (s - s % 4 + 2 ^ 447, h.drop 57)

/-- The public key of a secret key. -/
def ed448Public (sk : List Byte) : List Byte := (EdPoint.base.mul 448 (edSecret sk).1).encode

/-- The signature of a message by a secret key, with a context. -/
def ed448Sign (sk ctx msg : List Byte) : List Byte :=
  let (s, pre) := edSecret sk
  let a := (EdPoint.base.mul 448 s).encode
  let r := ofLe (shake256 114 (edDom ctx ++ pre ++ msg)) % edL
  let rp := (EdPoint.base.mul 448 r).encode
  let k := ofLe (shake256 114 (edDom ctx ++ rp ++ a ++ msg)) % edL
  rp ++ leBytes 57 ((r + k * s) % edL)

/-- A signature is that of the message, under a public key and a context: 4 S B = 4 R + 4 k A. -/
def ed448Verify (key ctx msg sig : List Byte) : Bool :=
  let s := ofLe (sig.drop 57)
  match EdPoint.decode key, EdPoint.decode (sig.take 57) with
  | some a, some r =>
    let k := ofLe (shake256 114 (edDom ctx ++ sig.take 57 ++ key ++ msg)) % edL
    let four (p : EdPoint) := p.mul 3 4
    sig.length = 114 && decide (s < edL) && (four (EdPoint.base.mul 448 s)).same (four (r.add (a.mul 448 k)))
  | _, _ => false

end Sys2Proof.Machine
end

