-- ==== Sys2Proof/Machine/Hash.lean ====
section
/-!
DEFINITION. The Hash station: hashing, partitioning, bucketing, normalisation, statistics (chapter 10: R297 to R312).
-/

namespace Sys2Proof.Machine

/-- A Hash configuration (R297). -/
structure HashCfg where
  inLift : Nat
  outLift : Nat
  outPool : Nat
  op : Nat
  arity : Nat
  seed : Nat
  n : Nat
  base : Nat
  outElem : Nat
  submode : Nat
  outCol : Nat
  a : Nat
  b : Nat
  lo : Nat
  hi : Nat
  nanFill : Nat
  nullValue : Nat
  bounds : List Nat
  deriving DecidableEq, Repr

def hashCfg (b : List Byte) : HashCfg :=
  let op := leAt b 6 1
  { inLift := leAt b 0 2, outLift := leAt b 2 2, outPool := leAt b 4 2, op := op, arity := leAt b 7 1, seed := leAt b 8 8
    n := leAt b 16 4, base := leAt b 20 4, outElem := leAt b 24 1, submode := leAt b 25 1, outCol := leAt b 26 2
    a := leAt b 28 4, b := leAt b 32 4, lo := leAt b 36 4, hi := leAt b 40 4, nanFill := leAt b 44 4, nullValue := leAt b 48 8
    bounds := if op = 3 then (List.range (leAt b 16 4)).map (fun i => leAt b (64 + 8 * i) 8) else [] }

/-- R303: input types allowed. -/
def HashCfg.typeOk (c : HashCfg) (t : Nat) : Bool :=
  match c.op with
  | 3 => if c.submode = 0 then columnInt t else columnFloat t
  | 4 => columnInt t || columnFloat t
  | 6 => columnInt t || columnFloat t
  | 5 => true
  | _ => columnInt t || t = 0x20

/-- R304, R305: a row hash scaled to `n` places. -/
def scaleHash (h n : Nat) : Nat := h * n / 2 ^ 64

/-- R306: the bucket of a value, and whether it is a NaN. -/
def HashCfg.bucket (c : HashCfg) (x : Column) (r : Nat) : Nat × Bool :=
  if c.submode = 0 then
    let v := toSigned 64 (x.int64 r)
    ((c.bounds.filter (fun b => decide (toSigned 64 b ≤ v))).length, false)
  else
    let v := elemFP x.type (x.code r)
    if v.isNan then (c.bounds.length + 1, true) else ((c.bounds.filter (fun b => (f32 (b % 2 ^ 32)).le v)).length, false)

/-- R307: one value normalised, as FP32 bits, and how many NaNs were replaced. -/
def HashCfg.normalise (c : HashCfg) (f : Nat) : Nat × Nat :=
  if (f32 f).isNan then (c.nanFill, 1)
  else
    let t := if c.submode = 0 then fsub f c.a else toF32 ((f32 f).add (.fin false 1 0)).log2
    let u := fmul t c.b
    let (u, n) := if (f32 u).isNan then (c.nanFill, 1) else (u, 0)
    (fminmax true (fminmax false u c.lo) c.hi, n)

/-- R308: the five words of STATS over FP32 values that are not NaN. -/
def statsWords (fs : List Nat) : List Nat :=
  [fs.length, fs.foldl fadd 0, fs.foldl (fun s f => fadd s (fmul f f)) 0, fs.foldl (fminmax true) 0x7F80_0000, fs.foldl (fminmax false) 0xFF80_0000]

/-- R303 to R308: the output columns of a job and its NaN count. -/
def HashCfg.run (c : HashCfg) (cs : List Column) : List OutCol × Nat :=
  match cs with
  | [] => ([], 0)
  | x :: _ =>
    let present := (List.range x.count).map (rowPresent cs)
    let rows := (List.range x.count).filter (rowPresent cs)
    let hash (r : Nat) := rowHash cs r c.seed
    match c.op with
    | 0 => ([perRow 0x0C present c.nullValue hash], 0)
    | 1 => ([perRow 0x0E present c.nullValue (fun r => c.base + scaleHash (hash r) c.n)], 0)
    | 2 =>
      let part (r : Nat) := scaleHash (hash r) c.n
      let parts := rows.map (fun r => (r, part r))
      ([perRow 0x0E present c.nullValue part
        , { type := 0x0E, nulls := none, codes := (List.range c.n).map (fun p => (parts.filter (fun q => q.2 = p)).length) }
        , { type := 0x0E, nulls := none, codes := (List.range c.n).flatMap (fun p => (parts.filter (fun q => q.2 = p)).map (·.1)) }], 0)
    | 3 => ([perRow 0x0E present c.nullValue (fun r => (c.bucket x r).1)], (rows.filter (fun r => (c.bucket x r).2)).length)
    | 4 =>
      let y (r : Nat) := c.normalise (elemToF32 x.type (x.code r))
      ([perRow c.outElem present c.nullValue (fun r => f32To c.outElem (y r).1)], rows.foldl (fun n r => n + (y r).2) 0)
    | 5 => ([perRow 0x0E present c.nullValue (fun r => (crc32c (x.vals.getD r [])).toNat)], 0)
    | _ =>
      let fs := rows.map (fun r => elemToF32 x.type (x.code r))
      ([{ type := 0x0E, nulls := none, codes := statsWords (fs.filter (fun f => !(f32 f).isNan)) }], (fs.filter (fun f => (f32 f).isNan)).length)

/-- R301: the checks on the operands' data: the columns, or the code of the first failure. -/
def HashCfg.check (c : HashCfg) (seq buf : Nat) (data : List (List Byte)) : (List (List Byte) × Nat × Nat) ⊕ Nat :=
  match data.mapM columnOf with
  | none => .inr 0x0911
  | some cs => match cs with
    | [] => .inr 0x0911
    | x :: _ =>
      if !cs.all (fun y => c.typeOk y.type) then .inr 0x0915
      else if !cs.all (fun y => decide (y.count = x.count) && decide (y.first = x.first)) then .inr 0x0913
      else
        let (outs, nans) := c.run cs
        let bufs := outBuffers (if c.outCol = 0xFFFF then x.col else c.outCol) x.first seq outs
        if bufs.any (fun b => decide (buf < b.length)) then .inr 0x0912 else .inl (bufs, nans, x.count)

/-- HASH_JOB_START (R300, R301). -/
def execHashJobStart (dd : Fin 4) (k : Fin 64) (st : State) : Host.Outcome State Fault Refusal :=
  st.upd (fun d => d.beginRun dd.val 5 k.val (fun b => (hashCfg b).inLift) (fun b => (hashCfg b).arity) (fun b hs d =>
    let key := stKey dd.val 5 k.val
    let c := hashCfg b
    let tag := (hs.head?.map (·.tag)).getD 0
    let (seq, d) := d.takeSeq key tag
    let job : Job := { mode := 0, tag := tag, inputs := hs, seq := seq, words := [], bytes := [] }
    let fail (code : Nat) := d.failJob key (Reg.HASH_JOBS_FAILED dd.val k.val) (Reg.HASH_LAST_FAIL dd.val k.val) code job
    if d.inputsPoisoned hs then fail 0x0F12
    else match c.check seq (d.poolSize (poolKey dd.val c.outPool)) (hs.map d.handleData) with
      | .inr code => fail code
      | .inl _ => d.setJob key job))

/-- HASH_JOB_END (R300, R303): the outputs are pushed in one burst, and the job's rows count once it has succeeded (R312); it waits while the pool has too few buffers, and while the Lift has no
room for the handles. -/
def execHashJobEnd (dd : Fin 4) (k : Fin 64) (st : State) : Host.Outcome State Fault Refusal :=
  st.upd (fun d => d.withJob dd.val 5 k.val (fun b j d =>
    let key := stKey dd.val 5 k.val
    let c := hashCfg b
    let pk := poolKey dd.val c.outPool
    let rowsIn := ((j.inputs.head?.bind (fun e => columnOf (d.handleData e))).map (·.count)).getD 0
    let fin (d : Device) : Device :=
      (((d.dropJob key).releaseInputs key j).count (Reg.HASH_JOBS_DONE dd.val k.val) 64 1).count (Reg.HASH_ROWS dd.val k.val) 64 rowsIn
    if j.pushed then d.afterPush key fin
    else match c.check j.seq (d.poolSize pk) (j.inputs.map d.handleData) with
      | .inr code => d.failJob key (Reg.HASH_JOBS_FAILED dd.val k.val) (Reg.HASH_LAST_FAIL dd.val k.val) code j
      | .inl (bufs, nans, _) =>
        d.jobOutputs key pk (d.stationOut dd.val 5 k.val 1 c.outLift) j ((j.inputs.getLast?.map (·.h.last)).getD false) false bufs
          (fun d => d.count (Reg.HASH_NAN_COUNT dd.val k.val) 64 nans) fin))

end Sys2Proof.Machine
end

