-- ==== Sys2Proof/Machine/Zstd.lean ====
section
/-!
DEFINITION. Compressed blocks of Zstandard frames by RFC 8878 (R245; PRESUMED, log 3): literals, Huffman and FSE codes, sequences, repeated
offsets.  `none` stands for a block that breaks the standard.
-/

namespace Sys2Proof.Machine

/-- A decode, or the code that ends it. -/
abbrev Dec := Except Nat

def errTrunc : Nat := 0x0713
def errFormat : Nat := 0x0714
def errUnsupported : Nat := 0x0712
def errChecksum : Nat := 0x0717
def errTrailing : Nat := 0x0718
/-- The output passes the limit (R250). -/
def errOver : Nat := 0
/-- A frame's content size brings the output to `n` bytes, past the limit (R246). -/
def errOverAt (n : Nat) : Nat := 0x10000 + n

/-- An output of `n` bytes passes the limit, or what the standard lets this block give. -/
def passes (limit stop n : Nat) : Bool := min limit stop < n

/-- The bound of the two that falls at the earlier byte gives the code (R250). -/
def passCode (limit stop : Nat) : Nat := if limit ≤ stop then errOver else errFormat


/-! ### Bit streams -/

/-- The `n` bits of an input from bit `pos` on, least significant first; bits past the end are 0. -/
def zBits (b : Array Byte) : (n pos : Nat) → Nat
  | 0, _ => 0
  | n + 1, pos => (b.getD (pos / 8) 0).toNat / 2 ^ (pos % 8) % 2 + 2 * zBits b n (pos + 1)

/-- Where a stream read backwards starts: the position of the highest 1 of its last byte. -/
def zStart (b : Array Byte) : Option Nat :=
  let last := (b.getD (b.size - 1) 0).toNat
  if b.isEmpty || last = 0 then none else some (8 * (b.size - 1) + Nat.log2 last)

/-- The next `n` bits of a stream read backwards from bit `pos`; bits before its start are 0. -/
def zBack (b : Array Byte) (n pos : Nat) : Nat :=
  if n ≤ pos then zBits b n (pos - n) else zBits b pos 0 * 2 ^ (n - pos)

/-! ### FSE tables -/

/-- A state of an FSE table: its symbol, the bits its successor reads, the base these add to. -/
structure FseState where
  sym : Nat
  bits : Nat
  base : Nat

/-- A table of 2^log states. -/
structure FseTable where
  log : Nat
  states : Array FseState

/-- The table of a single symbol. -/
def fseRle (sym : Nat) : FseTable := { log := 0, states := #[{ sym := sym, bits := 0, base := 0 }] }

/-- Counts of the symbols from `pos`, most probable order of the description: `remaining` probability is left.  Answers the counts (−1 for
"less than 1") and the position after them. -/
def fseCounts (b : Array Byte) (maxSyms : Nat) : (fuel : Nat) → (pos remaining : Nat) → List Int → Option (List Int × Nat)
  | 0, _, _, _ => none
  | f + 1, pos, remaining, acc =>
    if remaining = 0 then some (acc.reverse, pos)
    else if maxSyms ≤ acc.length || 8 * b.size ≤ pos then none
    else
      let bits := Nat.log2 (remaining + 1) + 1
      let val := zBits b bits pos
      let mask := 2 ^ (bits - 1) - 1
      let threshold := 2 ^ bits - 1 - (remaining + 1)
      let low := val % (mask + 1)
      let short := low < threshold
      let v := if short then low else if mask < val then val - threshold else val
      let pos := pos + (if short then bits - 1 else bits)
      let used := if v = 0 then 1 else v - 1
      if remaining < used then none
      else if v = 1 then
        -- A count of 0 is followed by how many more zeros there are, 2 bits at a time.
        let rec zeroRun : (g : Nat) → (p n : Nat) → Nat × Nat
          | 0, p, n => (p, n)
          | g + 1, p, n => if zBits b 2 p = 3 then zeroRun g (p + 2) (n + 3) else (p + 2, n + zBits b 2 p)
        let (p, n) := zeroRun (maxSyms + 1) pos 1
        fseCounts b maxSyms f p remaining (List.replicate n 0 ++ acc)
      else fseCounts b maxSyms f pos (remaining - used) (((v : Int) - 1) :: acc)

/-- The symbols of a table's states in order: those below 1 from the end, the others spread. -/
def fseSpread (log : Nat) (counts : List Int) : Array Nat :=
  let size := 2 ^ log
  let low := (counts.zipIdx.filter (fun e => e.1 = -1)).map (·.2)
  let high := size - low.length
  let t := low.zipIdx.foldl (fun (t : Array Nat) e => t.setIfInBounds (size - 1 - e.2) e.1) (Array.replicate size 0)
  let step := size / 2 + size / 8 + 3
  let syms := counts.zipIdx.flatMap (fun e => List.replicate e.1.toNat e.2)
  -- The positions a spread visits, those of the symbols below 1 left out.
  let places := ((List.range size).map (fun i => i * step % size)).filter (· < high)
  (syms.zip places).foldl (fun t e => t.setIfInBounds e.2 e.1) t

/-- The table of normalized counts. -/
def fseTable (log : Nat) (counts : List Int) : FseTable :=
  let next := (counts.map (fun c => if c = -1 then 1 else c.toNat)).toArray
  let r := (fseSpread log counts).foldl (fun (acc : Array FseState × Array Nat) sym =>
    let n := acc.2.getD sym 1
    let bits := log - Nat.log2 n
    (acc.1.push { sym := sym, bits := bits, base := n * 2 ^ bits - 2 ^ log }, acc.2.setIfInBounds sym (n + 1))) (#[], next)
  { log := log, states := r.1 }

/-- A table described from byte `p`: the table and the byte after it. -/
def fseRead (b : Array Byte) (p maxLog maxSyms : Nat) : Option (FseTable × Nat) :=
  let log := zBits b 4 (8 * p) + 5
  if b.size ≤ p || maxLog < log then none
  else match fseCounts b maxSyms (maxSyms + 2) (8 * p + 4) (2 ^ log) [] with
    | none => none
    | some (counts, pos) =>
      if maxSyms < counts.length || 8 * b.size < pos then none else some (fseTable log counts, (pos + 7) / 8)

def FseTable.get (t : FseTable) (s : Nat) : FseState := t.states.getD s { sym := 0, bits := 0, base := 0 }

/-! ### Huffman codes -/

/-- A Huffman decoding table: symbol and length by the next `bits` bits. -/
structure ZHuff where
  bits : Nat
  table : Array (Nat × Nat)

/-- Weights decoded by two interleaved states, until the stream has no bits for a state. -/
def zWeights (b : Array Byte) (t : FseTable) : (fuel : Nat) → (pos s1 s2 : Nat) → List Nat → Option (List Nat)
  | 0, _, _, _, _ => none
  | f + 1, pos, s1, s2, acc =>
    let e := t.get s1
    let acc := e.sym :: acc
    if pos < e.bits then some (((t.get s2).sym :: acc).reverse)
    else zWeights b t f (pos - e.bits) s2 (e.base + zBack b e.bits pos) acc

/-- The code of the given weights; the last symbol's weight completes them. -/
def zHuffOf (weights : List Nat) : Option ZHuff :=
  let sum := weights.foldl (fun n w => n + (if w = 0 then 0 else 2 ^ (w - 1))) 0
  let bits := Nat.log2 sum + 1
  let left := 2 ^ bits - sum
  let last := Nat.log2 left + 1
  let ws := weights ++ [last]
  if sum = 0 || 11 < bits || 2 ^ (last - 1) != left || !ws.any (· = 1) then none
  else
    let entries := (List.range bits).flatMap (fun i =>
      (ws.zipIdx.filter (fun e => e.1 = i + 1)).flatMap (fun e => List.replicate (2 ^ i) (e.2, bits - i)))
    some { bits := bits, table := entries.toArray }

/-- A Huffman tree description at byte `p`: the code and the byte after it. -/
def zHuffRead (b : Array Byte) (p : Nat) : Option (ZHuff × Nat) :=
  let h := (b.getD p 0).toNat
  if b.size ≤ p then none
  else if 128 ≤ h then
    let n := h - 127
    let q := p + 1 + (n + 1) / 2
    if b.size < q then none
    else (zHuffOf ((List.range n).map (fun i =>
      let x := (b.getD (p + 1 + i / 2) 0).toNat
      if i % 2 = 0 then x / 16 else x % 16))).map (fun t => (t, q))
  else
    let q := p + 1 + h
    if b.size < q then none
    else
      let part := b.extract (p + 1) q
      match fseRead part 0 6 256 with
      | none => none
      | some (t, r) =>
        let s := part.extract r part.size
        match zStart s with
        | none => none
        | some pos =>
          if pos < 2 * t.log then none
          else
            let s1 := zBack s t.log pos
            let s2 := zBack s t.log (pos - t.log)
            match zWeights s t 256 (pos - 2 * t.log) s1 s2 [] with
            | none => none
            | some ws => if 255 < ws.length || ws.any (fun w => 11 < w) then none else (zHuffOf ws).map (fun t => (t, q))

/-- `n` symbols of a Huffman stream read backwards; all of it is used. -/
def zSymbols (b : Array Byte) (h : ZHuff) : (n : Nat) → (pos : Nat) → Array Byte → Option (Array Byte)
  | 0, pos, out => if pos = 0 then some out else none
  | n + 1, pos, out =>
    let e := h.table.getD (zBack b h.bits pos) (0, 0)
    if pos < e.2 then none else zSymbols b h n (pos - e.2) (out.push (BitVec.ofNat 8 e.1))

def zStream (b : Array Byte) (h : ZHuff) (n : Nat) (out : Array Byte) : Option (Array Byte) :=
  match zStart b with
  | none => none
  | some pos => zSymbols b h n pos out

/-! ### A block -/

/-- What a block takes over from the blocks of its frame before it: codes and the three repeated offsets. -/
structure ZState where
  huff : Option ZHuff
  ll : Option FseTable
  off : Option FseTable
  ml : Option FseTable
  rep : Nat × Nat × Nat

def ZState.start : ZState := { huff := none, ll := none, off := none, ml := none, rep := (1, 4, 8) }

/-- The literals section: the literals, the Huffman code in force after it, the byte after it. -/
def zLiterals (b : Array Byte) (st : ZState) : Option (Array Byte × Option ZHuff × Nat) :=
  let b0 := (b.getD 0 0).toNat
  let kind := b0 % 4
  let sf := b0 / 4 % 4
  if b.isEmpty then none
  else if kind < 2 then
    let head := if sf % 2 = 0 then 1 else if sf = 1 then 2 else 3
    let n := if sf % 2 = 0 then b0 / 8 else zBits b (8 * head) 0 / 16
    let body := if kind = 0 then n else 1
    if b.size < head + body || 131072 < n then none
    else some (if kind = 0 then b.extract head (head + n) else Array.replicate n (b.getD head 0), st.huff, head + body)
  else
    let head := if sf < 2 then 3 else sf + 2
    let w := if sf < 2 then 10 else if sf = 2 then 14 else 18
    let n := zBits b w 4
    let c := zBits b w (4 + w)
    if b.size < head + c || 131072 < n || (sf != 0 && n < 3 * ((n + 3) / 4)) then none
    else
      let tree : Option (ZHuff × Nat) :=
        if kind = 2 then zHuffRead (b.extract 0 (head + c)) head else st.huff.map (fun h => (h, head))
      match tree with
      | none => none
      | some (h, p) =>
        let s := b.extract p (head + c)
        let lits :=
          if sf = 0 then zStream s h n #[]
          else
            let l1 := zBits s 16 0
            let l2 := zBits s 16 16
            let l3 := zBits s 16 32
            let m := (n + 3) / 4
            if s.size < 6 + l1 + l2 + l3 then none
            else
              (zStream (s.extract 6 (6 + l1)) h m #[]).bind (fun o =>
              (zStream (s.extract (6 + l1) (6 + l1 + l2)) h m o).bind (fun o =>
              (zStream (s.extract (6 + l1 + l2) (6 + l1 + l2 + l3)) h m o).bind (fun o =>
              zStream (s.extract (6 + l1 + l2 + l3) s.size) h (n - 3 * m) o)))
        lits.map (fun o => (o, some h, head + c))

def llDefault : List Int :=
  [4, 3, 2, 2, 2, 2, 2, 2, 2, 2, 2, 2, 2, 1, 1, 1, 2, 2, 2, 2, 2, 2, 2, 2, 2, 3, 2, 1, 1, 1, 1, 1, -1, -1, -1, -1]
def mlDefault : List Int :=
  [1, 4, 3, 2, 2, 2, 2, 2, 2, 1, 1, 1, 1, 1, 1, 1, 1, 1, 1, 1, 1, 1, 1, 1, 1, 1, 1, 1, 1, 1, 1, 1, 1, 1, 1, 1, 1, 1, 1, 1, 1, 1, 1, 1, 1, 1,
   -1, -1, -1, -1, -1, -1, -1]
def offDefault : List Int :=
  [1, 1, 1, 1, 1, 1, 2, 2, 2, 1, 1, 1, 1, 1, 1, 1, 1, 1, 1, 1, 1, 1, 1, 1, -1, -1, -1, -1, -1]

/-- Base and extra bits of literal-length codes from 16, and of match-length codes from 32. -/
def llCodes : List (Nat × Nat) :=
  [(16, 1), (18, 1), (20, 1), (22, 1), (24, 2), (28, 2), (32, 3), (40, 3), (48, 4), (64, 6), (128, 7), (256, 8), (512, 9), (1024, 10),
   (2048, 11), (4096, 12), (8192, 13), (16384, 14), (32768, 15), (65536, 16)]
def mlCodes : List (Nat × Nat) :=
  [(35, 1), (37, 1), (39, 1), (41, 1), (43, 2), (47, 2), (51, 3), (59, 3), (67, 4), (83, 4), (99, 5), (131, 7), (259, 8), (515, 9),
   (1027, 10), (2051, 11), (4099, 12), (8195, 13), (16387, 14), (32771, 15), (65539, 16)]
def llCode (c : Nat) : Nat × Nat := if c < 16 then (c, 0) else llCodes.getD (c - 16) (0, 0)
def mlCode (c : Nat) : Nat × Nat := if c < 32 then (c + 3, 0) else mlCodes.getD (c - 32) (0, 0)

/-- One table of the sequences section by its mode: predefined, one symbol, described, repeated.  Answers the byte after it. -/
def zTable (b : Array Byte) (p mode maxLog maxSym : Nat) (dflt : FseTable) (prev : Option FseTable) : Option (FseTable × Nat) :=
  match mode with
  | 0 => some (dflt, p)
  | 1 => if b.size ≤ p || maxSym < (b.getD p 0).toNat then none else some (fseRle (b.getD p 0).toNat, p + 1)
  | 2 => fseRead b p maxLog (maxSym + 1)
  | _ => prev.map (fun t => (t, p))

/-- The offset a value stands for, and the repeated offsets after it. -/
def zOffset (rep : Nat × Nat × Nat) (v ll : Nat) : Nat × (Nat × Nat × Nat) :=
  let (r1, r2, r3) := rep
  if 3 < v then (v - 3, (v - 3, r1, r2))
  else match v + (if ll = 0 then 1 else 0) with
    | 1 => (r1, (r1, r2, r3))
    | 2 => (r2, (r2, r1, r3))
    | 3 => (r3, (r3, r1, r2))
    | _ => (r1 - 1, (r1 - 1, r1, r2))

def zCopy (dist : Nat) : (n : Nat) → Array Byte → Array Byte
  | 0, out => out
  | n + 1, out => zCopy dist n (out.push (out.getD (out.size - dist) 0))

/-- Sequences from bit `pos` of a stream read backwards: `base` is where the frame's output began, `stop` the bound on the block's output,
`limit` that on the job's, `p` the literals used. -/
def zSequences (b : Array Byte) (lits : Array Byte) (ll off ml : FseTable) (base window limit stop : Nat) :
    (n : Nat) → (pos sl so sm p : Nat) → (rep : Nat × Nat × Nat) → Array Byte → Dec (Array Byte × Nat × (Nat × Nat × Nat))
  | 0, pos, _, _, _, p, rep, out => if pos = 0 then .ok (out, p, rep) else .error errFormat
  | n + 1, pos, sl, so, sm, p, rep, out =>
    let el := ll.get sl
    let eo := off.get so
    let em := ml.get sm
    let (lb, lx) := llCode el.sym
    let (mb, mx) := mlCode em.sym
    if pos < eo.sym + mx + lx then .error errFormat
    else
      let ov := 2 ^ eo.sym + zBack b eo.sym pos
      let pos := pos - eo.sym
      let mlen := mb + zBack b mx pos
      let pos := pos - mx
      let llen := lb + zBack b lx pos
      let pos := pos - lx
      let (dist, rep) := zOffset rep ov llen
      if lits.size < p + llen then .error errFormat
      else if passes limit stop (out.size + llen) then .error (passCode limit stop)
      else
        let out := out ++ lits.extract p (p + llen)
        if dist = 0 || out.size - base < dist || window < dist then .error errFormat
        else if passes limit stop (out.size + mlen) then .error (passCode limit stop)
        else
          let out := zCopy dist mlen out
          if n = 0 then zSequences b lits ll off ml base window limit stop 0 pos sl so sm (p + llen) rep out
          else if pos < el.bits + em.bits + eo.bits then .error errFormat
          else
            let sl := el.base + zBack b el.bits pos
            let pos := pos - el.bits
            let sm := em.base + zBack b em.bits pos
            let pos := pos - em.bits
            let so := eo.base + zBack b eo.bits pos
            zSequences b lits ll off ml base window limit stop n (pos - eo.bits) sl so sm (p + llen) rep out

/-- A compressed block: the output after it and what the next block takes over. -/
def zBlock (b : Array Byte) (st : ZState) (base window maxB limit : Nat) (out : Array Byte) : Dec (Array Byte × ZState) :=
  match zLiterals b st with
  | none => .error errFormat
  | some (lits, huff, p) =>
    let b0 := (b.getD p 0).toNat
    let b1 := (b.getD (p + 1) 0).toNat
    let b2 := (b.getD (p + 2) 0).toNat
    let head := if b0 < 128 then 1 else if b0 < 255 then 2 else 3
    let n := if b0 < 128 then b0 else if b0 < 255 then (b0 - 128) * 256 + b1 else b1 + 256 * b2 + 0x7F00
    let stop := out.size + maxB
    let st := { st with huff := huff }
    if b.size < p + head then .error errFormat
    else if n = 0 then
      (if b.size != p + head then .error errFormat
       else if passes limit stop (out.size + lits.size) then .error (passCode limit stop) else .ok (out ++ lits, st))
    else
      let modes := (b.getD (p + head) 0).toNat
      let tables : Option (FseTable × FseTable × FseTable × Array Byte × Nat) :=
        if b.size ≤ p + head || modes % 4 != 0 then none
        else
          (zTable b (p + head + 1) (modes / 64) 9 35 (fseTable 6 llDefault) st.ll).bind (fun (ll, p) =>
          (zTable b p (modes / 16 % 4) 8 31 (fseTable 5 offDefault) st.off).bind (fun (off, p) =>
          (zTable b p (modes / 4 % 4) 9 52 (fseTable 6 mlDefault) st.ml).bind (fun (ml, p) =>
            (zStart (b.extract p b.size)).bind (fun pos =>
              if pos < ll.log + off.log + ml.log then none else some (ll, off, ml, b.extract p b.size, pos)))))
      match tables with
      | none => .error errFormat
      | some (ll, off, ml, s, pos) =>
        let sl := zBack s ll.log pos
        let so := zBack s off.log (pos - ll.log)
        let sm := zBack s ml.log (pos - ll.log - off.log)
        match zSequences s lits ll off ml base window limit stop n (pos - ll.log - off.log - ml.log) sl so sm 0 st.rep out with
        | .error e => .error e
        | .ok (out, p, rep) =>
          if passes limit stop (out.size + (lits.size - p)) then .error (passCode limit stop)
          else .ok (out ++ lits.extract p lits.size, { huff := huff, ll := some ll, off := some off, ml := some ml, rep := rep })

end Sys2Proof.Machine
end

