-- ==== Sys2Proof/Machine/Codec.lean ====
section
/-!
DEFINITION. The codecs of the Ingest station: DEFLATE, zlib, gzip, LZ4 frames and the frames of Zstandard, decoded; DEFLATE, zlib,
gzip and LZ4 encoded by the fixed match finder (R245, R246, R250, R259, R260).  A decoder stops with an error code of R262, or with
0 when the output would pass its limit.
-/

namespace Sys2Proof.Machine

/-! ### Checksums -/

/-- Adler-32 (RFC 1950). -/
def adler32 (bs : List Byte) : Nat :=
  let r := bs.foldl (fun (a : Nat × Nat) b => let x := (a.1 + b.toNat) % 65521; (x, (a.2 + x) % 65521)) (1, 0)
  r.2 * 65536 + r.1

def crc32Bit (c : BitVec 32) : BitVec 32 := if c.getLsbD 0 then (c >>> 1) ^^^ 0xEDB88320#32 else c >>> 1
def crc32Byte (c : BitVec 32) (b : Byte) : BitVec 32 :=
  crc32Bit (crc32Bit (crc32Bit (crc32Bit (crc32Bit (crc32Bit (crc32Bit (crc32Bit (c ^^^ b.setWidth 32))))))))
/-- CRC-32 of RFC 1952. -/
def crc32 (bs : List Byte) : Nat := (bs.foldl crc32Byte 0xFFFF_FFFF#32 ^^^ 0xFFFF_FFFF#32).toNat

def xp1 : BitVec 32 := 2654435761
def xp2 : BitVec 32 := 2246822519
def xp3 : BitVec 32 := 3266489917
def xp4 : BitVec 32 := 668265263
def xp5 : BitVec 32 := 374761393
def le32 (bs : List Byte) : BitVec 32 := BitVec.ofNat 32 (leAt bs 0 4)

def xxh32Round (a w : BitVec 32) : BitVec 32 := (a + w * xp2).rotateLeft 13 * xp1

/-- XXH32 with seed 0, used by the LZ4 frame format. -/
def xxh32 (bs : List Byte) : Nat :=
  let n := bs.length
  let stripes := (chunks 16 bs).filter (fun c => c.length = 16)
  let h := if n < 16 then xp5 else
    let a := stripes.foldl (fun (a : BitVec 32 × BitVec 32 × BitVec 32 × BitVec 32) c =>
      (xxh32Round a.1 (le32 c), xxh32Round a.2.1 (le32 (c.drop 4)), xxh32Round a.2.2.1 (le32 (c.drop 8)), xxh32Round a.2.2.2 (le32 (c.drop 12))))
      (xp1 + xp2, xp2, 0, 0 - xp1)
    a.1.rotateLeft 1 + a.2.1.rotateLeft 7 + a.2.2.1.rotateLeft 12 + a.2.2.2.rotateLeft 18
  let h := h + BitVec.ofNat 32 n
  let rest := bs.drop (n / 16 * 16)
  let words := (chunks 4 rest).filter (fun c => c.length = 4)
  let h := words.foldl (fun h c => (h + le32 c * xp3).rotateLeft 17 * xp4) h
  let h := (rest.drop (rest.length / 4 * 4)).foldl (fun (h : BitVec 32) b => (h + b.setWidth 32 * xp5).rotateLeft 11 * xp1) h
  let h := (h ^^^ (h >>> 15)) * xp2
  let h := (h ^^^ (h >>> 13)) * xp3
  (h ^^^ (h >>> 16)).toNat

def yp1 : BitVec 64 := 11400714785074694791
def yp2 : BitVec 64 := 14029467366897019727
def yp3 : BitVec 64 := 1609587929392839161
def yp4 : BitVec 64 := 9650029242287828579
def yp5 : BitVec 64 := 2870177450012600261
def le64 (bs : List Byte) : BitVec 64 := BitVec.ofNat 64 (leAt bs 0 8)
def xxh64Round (a w : BitVec 64) : BitVec 64 := (a + w * yp2).rotateLeft 31 * yp1
def xxh64Merge (h a : BitVec 64) : BitVec 64 := (h ^^^ xxh64Round 0 a) * yp1 + yp4

/-- XXH64 with seed 0, used by the Zstandard content checksum. -/
def xxh64 (bs : List Byte) : Nat :=
  let n := bs.length
  let h := if n < 32 then yp5 else
    let a := ((chunks 32 bs).filter (fun c => c.length = 32)).foldl (fun (a : BitVec 64 × BitVec 64 × BitVec 64 × BitVec 64) c =>
      (xxh64Round a.1 (le64 c), xxh64Round a.2.1 (le64 (c.drop 8)), xxh64Round a.2.2.1 (le64 (c.drop 16)), xxh64Round a.2.2.2 (le64 (c.drop 24))))
      (yp1 + yp2, yp2, 0, 0 - yp1)
    let h := a.1.rotateLeft 1 + a.2.1.rotateLeft 7 + a.2.2.1.rotateLeft 12 + a.2.2.2.rotateLeft 18
    xxh64Merge (xxh64Merge (xxh64Merge (xxh64Merge h a.1) a.2.1) a.2.2.1) a.2.2.2
  let h := h + BitVec.ofNat 64 n
  let rest := bs.drop (n / 32 * 32)
  let h := ((chunks 8 rest).filter (fun c => c.length = 8)).foldl (fun (h : BitVec 64) c => (h ^^^ xxh64Round 0 (le64 c)).rotateLeft 27 * yp1 + yp4) h
  let rest := rest.drop (rest.length / 8 * 8)
  let (h, rest) := if rest.length < 4 then (h, rest)
    else ((h ^^^ (BitVec.ofNat 64 (leAt rest 0 4) * yp1)).rotateLeft 23 * yp2 + yp3, rest.drop 4)
  let h := rest.foldl (fun (h : BitVec 64) b => (h ^^^ (b.setWidth 64 * yp5)).rotateLeft 11 * yp1) h
  let h := (h ^^^ (h >>> 33)) * yp2
  let h := (h ^^^ (h >>> 29)) * yp3
  (h ^^^ (h >>> 32)).toNat

/-! ### DEFLATE decoding (RFC 1951) -/

/-- Bits read so far of an input, and the output produced. -/
structure Inflate where
  pos : Nat
  out : Array Byte

def getBit (inp : Array Byte) (pos : Nat) : Dec Nat :=
  if h : pos / 8 < inp.size then .ok ((inp[pos / 8]).toNat / 2 ^ (pos % 8) % 2) else .error errTrunc

/-- `n` bits, least significant first. -/
def getBits (inp : Array Byte) : (n pos : Nat) → Dec Nat
  | 0, _ => .ok 0
  | n + 1, pos => match getBit inp pos with
    | .error e => .error e
    | .ok b => match getBits inp n (pos + 1) with
      | .error e => .error e
      | .ok r => .ok (b + 2 * r)

/-- A canonical Huffman code: number of codes of each length 1 to 15, symbols in code order. -/
structure Huff where
  counts : List Nat
  symbols : Array Nat

def huffOf (lens : List Nat) : Huff :=
  { counts := (List.range 15).map (fun l => (lens.filter (· = l + 1)).length)
    symbols := ((List.range 15).flatMap (fun l => (lens.zipIdx.filter (fun x => x.1 = l + 1)).map (·.2))).toArray }

/-- Codes left over (negative: over-subscribed). -/
def Huff.left (h : Huff) : Int := h.counts.foldl (fun (x : Int) (c : Nat) => 2 * x - c) 1

def huffDecode (inp : Array Byte) (h : Huff) : (counts : List Nat) → (pos code first index : Nat) → Dec (Nat × Nat)
  | [], _, _, _, _ => .error errFormat
  | c :: cs, pos, code, first, index =>
    match getBit inp pos with
    | .error e => .error e
    | .ok b =>
      let code := code + b
      if code < first + c then .ok (h.symbols.getD (index + (code - first)) 0, pos + 1)
      else if cs.all (· = 0) then .error errFormat
      else huffDecode inp h cs (pos + 1) (2 * code) (2 * (first + c)) (index + c)

def Huff.next (h : Huff) (inp : Array Byte) (pos : Nat) : Dec (Nat × Nat) := huffDecode inp h h.counts pos 0 0 0

def lenBase : List Nat := [3,4,5,6,7,8,9,10,11,13,15,17,19,23,27,31,35,43,51,59,67,83,99,115,131,163,195,227,258]
def lenExtra : List Nat := [0,0,0,0,0,0,0,0,1,1,1,1,2,2,2,2,3,3,3,3,4,4,4,4,5,5,5,5,0]
def distBase : List Nat :=
  [1,2,3,4,5,7,9,13,17,25,33,49,65,97,129,193,257,385,513,769,1025,1537,2049,3073,4097,6145,8193,12289,16385,24577]
def distExtra : List Nat := [0,0,0,0,1,1,2,2,3,3,4,4,5,5,6,6,7,7,8,8,9,9,10,10,11,11,12,12,13,13]

/-- Copies `n` bytes from `dist` back. -/
def copyBack (dist : Nat) : (n : Nat) → Array Byte → Array Byte
  | 0, o => o
  | n + 1, o => copyBack dist n (o.push (o.getD (o.size - dist) 0))

/-- Symbols of a compressed block, up to its end-of-block code; `base` is where this stream's output began. -/
def inflateCodes (inp : Array Byte) (lit dst : Huff) (limit base : Nat) : (fuel : Nat) → Inflate → Dec Inflate
  | 0, _ => .error errTrunc
  | f + 1, s =>
    match lit.next inp s.pos with
    | .error e => .error e
    | .ok (sym, pos) =>
      if sym < 256 then
        if limit ≤ s.out.size then .error errOver
        else inflateCodes inp lit dst limit base f { pos := pos, out := s.out.push (BitVec.ofNat 8 sym) }
      else if sym = 256 then .ok { s with pos := pos }
      else if 285 < sym then .error errFormat
      else
        match getBits inp (lenExtra.getD (sym - 257) 0) pos with
        | .error e => .error e
        | .ok x =>
          let len := lenBase.getD (sym - 257) 0 + x
          match dst.next inp (pos + lenExtra.getD (sym - 257) 0) with
          | .error e => .error e
          | .ok (ds, pos) =>
            if 29 < ds then .error errFormat
            else match getBits inp (distExtra.getD ds 0) pos with
              | .error e => .error e
              | .ok y =>
                let dist := distBase.getD ds 0 + y
                if s.out.size - base < dist then .error errFormat
                else if limit < s.out.size + len then .error errOver
                else inflateCodes inp lit dst limit base f { pos := pos + distExtra.getD ds 0, out := copyBack dist len s.out }

def fixedLit : Huff := huffOf (List.replicate 144 8 ++ List.replicate 112 9 ++ List.replicate 24 7 ++ List.replicate 8 8)
/-- The fixed distance code has 32 codes of 5 bits; 30 and 31 never occur in a valid stream. -/
def fixedDist : Huff := huffOf (List.replicate 32 5)

/-- Code lengths of a dynamic block. -/
def codeLengths (inp : Array Byte) (h : Huff) (total : Nat) : (fuel pos : Nat) → List Nat → Dec (List Nat × Nat)
  | 0, pos, l => if l.length = total then .ok (l, pos) else .error errFormat
  | f + 1, pos, l =>
    if total ≤ l.length then (if l.length = total then .ok (l, pos) else .error errFormat)
    else match h.next inp pos with
      | .error e => .error e
      | .ok (sym, pos) =>
        if sym < 16 then codeLengths inp h total f pos (l ++ [sym])
        else if sym = 16 then
          match l.getLast?, getBits inp 2 pos with
          | some p, .ok n => codeLengths inp h total f (pos + 2) (l ++ List.replicate (3 + n) p)
          | none, _ => .error errFormat
          | _, .error e => .error e
        else
          let w := if sym = 17 then 3 else 7
          match getBits inp w pos with
          | .ok n => codeLengths inp h total f (pos + w) (l ++ List.replicate ((if sym = 17 then 3 else 11) + n) 0)
          | .error e => .error e

def clenOrder : List Nat := [16, 17, 18, 0, 8, 7, 9, 6, 10, 5, 11, 4, 12, 3, 13, 2, 14, 1, 15]

/-- The codes of a dynamic block. -/
def dynamicCodes (inp : Array Byte) (pos : Nat) : Dec (Huff × Huff × Nat) :=
  match getBits inp 5 pos, getBits inp 5 (pos + 5), getBits inp 4 (pos + 10) with
  | .ok a, .ok b, .ok c =>
    let nlen := a + 257
    let ndist := b + 1
    let ncode := c + 4
    if 286 < nlen then .error errFormat
    else
      let read := (List.range ncode).foldl (fun (acc : Dec (List (Nat × Nat))) i =>
        match acc with
        | .error e => .error e
        | .ok l => match getBits inp 3 (pos + 14 + 3 * i) with | .ok v => .ok ((clenOrder.getD i 0, v) :: l) | .error e => .error e) (.ok [])
      match read with
      | .error e => .error e
      | .ok l =>
        let h := huffOf ((List.range 19).map (fun s => ((l.find? (fun x => x.1 = s)).map (·.2)).getD 0))
        if h.left != 0 then .error errFormat
        else match codeLengths inp h (nlen + ndist) (nlen + ndist) (pos + 14 + 3 * ncode) [] with
          | .error e => .error e
          | .ok (lens, pos) =>
            let ll := lens.take nlen
            let dl := lens.drop nlen
            let bad (h : Huff) := h.left < 0 || (0 < h.left && !(h.symbols.size = h.counts.headD 0 && h.symbols.size ≤ 1))
            if ll.getD 256 0 = 0 || bad (huffOf ll) || bad (huffOf dl) then .error errFormat
            else .ok (huffOf ll, huffOf dl, pos)
  | .error e, _, _ => .error e
  | _, .error e, _ => .error e
  | _, _, .error e => .error e

/-- Blocks of a DEFLATE stream up to its final one. -/
def inflateBlocks (inp : Array Byte) (limit base : Nat) : (fuel : Nat) → Inflate → Dec Inflate
  | 0, _ => .error errTrunc
  | f + 1, s =>
    match getBits inp 1 s.pos, getBits inp 2 (s.pos + 1) with
    | .ok fin, .ok ty =>
      let pos := s.pos + 3
      let body : Dec Inflate :=
        match ty with
        | 0 =>
          let p := ceilDiv pos 8
          match getBits inp 16 (8 * p), getBits inp 16 (8 * p + 16) with
          | .ok len, .ok nlen =>
            if len + nlen != 0xFFFF then .error errFormat
            else if inp.size < p + 4 + len then .error (if limit < s.out.size + (inp.size - p - 4) then errOver else errTrunc)
            else if limit < s.out.size + len then .error errOver
            else .ok { pos := 8 * (p + 4 + len), out := s.out ++ inp.extract (p + 4) (p + 4 + len) }
          | .error e, _ => .error e
          | _, .error e => .error e
        | 1 => inflateCodes inp fixedLit fixedDist limit base (8 * inp.size + 1) { s with pos := pos }
        | 2 => match dynamicCodes inp pos with
          | .error e => .error e
          | .ok (l, dd, pos) => inflateCodes inp l dd limit base (8 * inp.size + 1) { s with pos := pos }
        | _ => .error errFormat
      match body with
      | .error e => .error e
      | .ok s => if fin = 1 then .ok s else inflateBlocks inp limit base f s
    | .error e, _ => .error e
    | _, .error e => .error e

/-- A raw DEFLATE stream from byte `p` of the input: the byte after it, and the output. -/
def inflate (inp : Array Byte) (p limit : Nat) (out : Array Byte) : Dec (Nat × Array Byte) :=
  match inflateBlocks inp limit out.size (8 * inp.size + 1) { pos := 8 * p, out := out } with
  | .error e => .error e
  | .ok s => .ok (ceilDiv s.pos 8, s.out)

def needBytes (inp : Array Byte) (p n : Nat) : Dec Unit := if p + n ≤ inp.size then .ok () else .error errTrunc
def arrLe (inp : Array Byte) (p n : Nat) : Nat := ofLe (inp.extract p (p + n)).toList
def arrSlice (a : Array Byte) (i j : Nat) : List Byte := (a.extract i j).toList

/-! ### zlib and gzip -/

/-- The header of RFC 1950 at the front of the payload: its length. -/
def zlibHeader (inp : Array Byte) : Dec Nat := do
  needBytes inp 0 2
  let cmf := arrLe inp 0 1
  let flg := arrLe inp 1 1
  if cmf % 16 != 8 || 7 < cmf / 16 || (256 * cmf + flg) % 31 != 0 then .error errFormat
  if bitAt flg 5 then .error errUnsupported
  return 2

def zlibDecode (inp : Array Byte) (limit : Nat) : Dec (Array Byte) := do
  let p ← zlibHeader inp
  let (p, out) ← inflate inp p limit #[]
  needBytes inp p 4
  if ofLe (arrSlice inp p (p + 4)).reverse != adler32 out.toList then .error errChecksum
  if p + 4 < inp.size then .error errTrailing
  return out

/-- The end of a zero-terminated field. -/
def skipZero (inp : Array Byte) : (fuel p : Nat) → Dec Nat
  | 0, _ => .error errTrunc
  | f + 1, p => if inp.size ≤ p then .error errTrunc else if inp.getD p 0 = 0 then .ok (p + 1) else skipZero inp f (p + 1)

/-- A gzip member header at `p`: the byte after it. -/
def gzipHeader (inp : Array Byte) (p : Nat) : Dec Nat := do
  needBytes inp p 10
  let flg := arrLe inp (p + 3) 1
  if arrLe inp p 2 != 0x8B1F || arrLe inp (p + 2) 1 != 8 || flg / 32 != 0 then .error errFormat
  let q := p + 10
  let q ← if bitAt flg 2 then (do needBytes inp q 2; let n := arrLe inp q 2; needBytes inp (q + 2) n; return q + 2 + n) else pure q
  let q ← if bitAt flg 3 then skipZero inp (inp.size + 1) q else pure q
  let q ← if bitAt flg 4 then skipZero inp (inp.size + 1) q else pure q
  if bitAt flg 1 then
    needBytes inp q 2
    if arrLe inp q 2 != crc32 (arrSlice inp p q) % 65536 then .error errFormat
    return q + 2
  return q

/-- Concatenated members from `p`. -/
def gzipMembers (inp : Array Byte) (limit : Nat) : (fuel p : Nat) → Array Byte → Dec (Array Byte)
  | 0, _, _ => .error errTrunc
  | f + 1, p, out =>
    match gzipHeader inp p with
    | .error e => .error e
    | .ok q => match inflate inp q limit out with
      | .error e => .error e
      | .ok (q, out') =>
        if inp.size < q + 8 then .error errTrunc
        else
          let part := arrSlice out' out.size out'.size
          if arrLe inp q 4 != crc32 part || arrLe inp (q + 4) 4 != part.length % 2 ^ 32 then .error errChecksum
          else if inp.size = q + 8 then .ok out'
          else if arrLe inp (q + 8) 1 != 0x1F || (q + 9 < inp.size && arrLe inp (q + 8) 2 != 0x8B1F) then .error errTrailing
          else gzipMembers inp limit f (q + 8) out'

/-! ### LZ4 frames -/

def isSkippable (m : Nat) : Bool := 0x184D2A50 ≤ m && m ≤ 0x184D2A5F

/-- The frame descriptor at `p` (after the magic number). -/
structure Lz4Head where
  indep : Bool
  blockSum : Bool
  contentSum : Bool
  size : Option Nat
  maxBlock : Nat
  next : Nat

def lz4Header (inp : Array Byte) (p : Nat) : Dec Lz4Head := do
  needBytes inp p 4
  if arrLe inp p 4 = 0x184C2102 then .error errUnsupported
  if arrLe inp p 4 != 0x184D2204 then .error errFormat
  needBytes inp (p + 4) 2
  let flg := arrLe inp (p + 4) 1
  let bd := arrLe inp (p + 5) 1
  if flg / 64 != 1 || bitAt flg 1 || bd / 128 != 0 || bd % 16 != 0 || bd / 16 % 8 < 4 then .error errFormat
  if bitAt flg 0 then .error errUnsupported
  let n := if bitAt flg 3 then 8 else 0
  needBytes inp (p + 6) (n + 1)
  if arrLe inp (p + 6 + n) 1 != xxh32 (arrSlice inp (p + 4) (p + 6 + n)) / 256 % 256 then .error errFormat
  return { indep := bitAt flg 5, blockSum := bitAt flg 4, contentSum := bitAt flg 2
           size := if bitAt flg 3 then some (arrLe inp (p + 6) 8) else none, maxBlock := 2 ^ (8 + 2 * (bd / 16 % 8)), next := p + 7 + n }

/-- The bytes 255 that lengthen a length, and the first byte below; `short` is the code of a block that ends inside. -/
def lz4Len (short : Nat) (b : Array Byte) : (fuel p acc : Nat) → Dec (Nat × Nat)
  | 0, _, _ => .error short
  | f + 1, p, acc =>
    if b.size ≤ p then .error short
    else
      let x := (b.getD p 0).toNat
      if x = 255 then lz4Len short b f (p + 1) (acc + 255) else .ok (acc + x, p + 1)

/-- Sequences of a compressed block; matches reach back to `base` at most; the block's output may reach `stop`;
`short` is the code of data that end inside a sequence: the payload's end, or a block that breaks its format. -/
def lz4Seqs (short : Nat) (b : Array Byte) (limit base stop : Nat) : (fuel p : Nat) → Array Byte → Dec (Array Byte)
  | 0, _, _ => .error short
  | f + 1, p, out =>
    if b.size ≤ p then .error short
    else
      let tok := (b.getD p 0).toNat
      match (if tok / 16 = 15 then lz4Len short b b.size (p + 1) 15 else .ok (tok / 16, p + 1)) with
      | .error e => .error e
      | .ok (lit, p) =>
        if passes limit stop (out.size + min lit (b.size - p)) then .error (passCode limit stop)
        else if b.size < p + lit then .error short
        else
          let out := out ++ b.extract p (p + lit)
          let p := p + lit
          if p = b.size then .ok out
          else if b.size < p + 2 then .error short
          else
            let dist := arrLe b p 2
            if dist = 0 || out.size - base < dist then .error errFormat else
            match (if tok % 16 = 15 then lz4Len short b b.size (p + 2) 15 else .ok (tok % 16, p + 2)) with
            | .error e => .error e
            | .ok (ml, p) =>
              if passes limit stop (out.size + ml + 4) then .error (passCode limit stop)
              else lz4Seqs short b limit base stop f p (copyBack dist (ml + 4) out)

/-- Blocks of a frame up to the EndMark; `start` is where the frame's output began.  A block's data are decoded before its checksum is
read, and the data of a block the payload ends inside as far as they go (R250). -/
def lz4Blocks (inp : Array Byte) (h : Lz4Head) (limit start : Nat) : (fuel p : Nat) → Array Byte → Dec (Nat × Array Byte)
  | 0, _, _ => .error errTrunc
  | f + 1, p, out =>
    if inp.size < p + 4 then .error errTrunc
    else
      let w := arrLe inp p 4
      if w = 0 then .ok (p + 4, out)
      else
        let n := w % 2 ^ 31
        let body := inp.extract (p + 4) (p + 4 + n)
        let q := p + 4 + n
        let data : Dec (Array Byte) :=
          if 2 ^ 31 ≤ w then (if limit < out.size + body.size then .error errOver else .ok (out ++ body))
          else lz4Seqs (if inp.size < q then errTrunc else errFormat) body limit (if h.indep then out.size else start) (out.size + h.maxBlock) (n + 1) 0 out
        if h.maxBlock < n then .error errFormat
        else match data with
          | .error e => .error e
          | .ok out =>
            if inp.size < q + (if h.blockSum then 4 else 0) then .error errTrunc
            else if h.blockSum && arrLe inp q 4 != xxh32 body.toList then .error errChecksum
            else lz4Blocks inp h limit start f (if h.blockSum then q + 4 else q) out

/-- What R246 says of a frame's content size: it joins the output limit. -/
def sizeFits (limit have_ : Nat) (size : Option Nat) : Bool := match size with | some n => have_ + n ≤ limit | none => true

/-- Frames from `p`: LZ4 and skippable ones, in order; `first` until a frame has been decoded. -/
def lz4Frames (inp : Array Byte) (limit : Nat) : (fuel p : Nat) → (first : Bool) → Array Byte → Dec (Array Byte)
  | 0, _, _, _ => .error errTrunc
  | f + 1, p, first, out =>
    if inp.size ≤ p then (if first then .error errTrunc else .ok out)
    else if inp.size < p + 4 then .error (if first then errTrunc else errTrailing)
    else if isSkippable (arrLe inp p 4) then
      (if inp.size < p + 8 || inp.size < p + 8 + arrLe inp (p + 4) 4 then .error errTrunc
       else lz4Frames inp limit f (p + 8 + arrLe inp (p + 4) 4) first out)
    else if !first && arrLe inp p 4 != 0x184D2204 && arrLe inp p 4 != 0x184C2102 then .error errTrailing
    else match lz4Header inp p with
      | .error e => .error e
      | .ok h =>
        if !sizeFits limit out.size h.size then .error (errOverAt (out.size + h.size.getD 0))
        else match lz4Blocks inp h limit out.size (inp.size + 1) h.next out with
          | .error e => .error e
          | .ok (q, out') =>
            let part := arrSlice out' out.size out'.size
            if h.size.any (· != part.length) then .error errFormat
            else if h.contentSum && inp.size < q + 4 then .error errTrunc
            else if h.contentSum && arrLe inp q 4 != xxh32 part then .error errChecksum
            else lz4Frames inp limit f (if h.contentSum then q + 4 else q) false out'

/-! ### Zstandard frames (RFC 8878) -/

structure ZstdHead where
  window : Nat
  size : Option Nat
  checksum : Bool
  next : Nat

def zstdHeader (inp : Array Byte) (p : Nat) : Dec ZstdHead := do
  needBytes inp p 4
  if arrLe inp p 4 != 0xFD2FB528 then .error errFormat
  needBytes inp (p + 4) 1
  let fhd := arrLe inp (p + 4) 1
  if bitAt fhd 3 then .error errFormat
  let single := bitAt fhd 5
  let wlen := if single then 0 else 1
  let dlen := [0, 1, 2, 4].getD (fhd % 4) 0
  let flen := if fhd / 64 = 0 then (if single then 1 else 0) else 2 ^ (fhd / 64)
  needBytes inp (p + 5) (wlen + dlen + flen)
  let q := p + 5
  let size := if flen = 0 then none else some (arrLe inp (q + wlen + dlen) flen + (if flen = 2 then 256 else 0))
  let wd := arrLe inp q 1
  let window := if single then size.getD 0 else (2 ^ (10 + wd / 8)) + (2 ^ (10 + wd / 8)) / 8 * (wd % 8)
  if 0 < dlen && arrLe inp (q + wlen) dlen != 0 then .error errUnsupported
  if 8388608 < window then .error errUnsupported
  return { window := window, size := size, checksum := bitAt fhd 2, next := q + wlen + dlen + flen }

/-- Blocks of a frame: raw, RLE, and compressed ones, which take over what `st` holds of the blocks before them. -/
def zstdBlocks (inp : Array Byte) (h : ZstdHead) (limit start : Nat) : (fuel p : Nat) → ZState → Array Byte → Dec (Nat × Array Byte)
  | 0, _, _, _ => .error errTrunc
  | f + 1, p, st, out =>
    if inp.size < p + 3 then .error errTrunc
    else
      let w := arrLe inp p 3
      let ty := w / 2 % 4
      let n := w / 8
      let maxB := min h.window 131072
      let bytes := if ty = 1 then 1 else n
      let body := inp.extract (p + 3) (p + 3 + bytes)
      let whole := decide (p + 3 + bytes ≤ inp.size)
      if ty = 3 || maxB < n then .error errFormat
      else if ty = 0 && decide (limit < out.size + body.size) then .error errOver
      else if !whole then .error errTrunc
      else if ty = 1 && decide (limit < out.size + n) then .error errOver
      else
        let res : Dec (Array Byte × ZState) :=
          match ty with
          | 0 => .ok (out ++ body, st)
          | 1 => .ok (out ++ Array.replicate n (body.getD 0 0), st)
          | _ => zBlock body st start h.window maxB limit out
        match res with
        | .error e => .error e
        | .ok (out, st) => if w % 2 = 1 then .ok (p + 3 + bytes, out) else zstdBlocks inp h limit start f (p + 3 + bytes) st out

def zstdFrames (inp : Array Byte) (limit : Nat) : (fuel p : Nat) → (first : Bool) → Array Byte → Dec (Array Byte)
  | 0, _, _, _ => .error errTrunc
  | f + 1, p, first, out =>
    if inp.size ≤ p then (if first then .error errTrunc else .ok out)
    else if inp.size < p + 4 then .error (if first then errTrunc else errTrailing)
    else if isSkippable (arrLe inp p 4) then
      (if inp.size < p + 8 || inp.size < p + 8 + arrLe inp (p + 4) 4 then .error errTrunc
       else zstdFrames inp limit f (p + 8 + arrLe inp (p + 4) 4) first out)
    else if !first && arrLe inp p 4 != 0xFD2FB528 then .error errTrailing
    else match zstdHeader inp p with
      | .error e => .error e
      | .ok h =>
        if !sizeFits limit out.size h.size then .error (errOverAt (out.size + h.size.getD 0))
        else match zstdBlocks inp h limit out.size (inp.size + 1) h.next .start out with
          | .error e => .error e
          | .ok (q, out') =>
            let part := arrSlice out' out.size out'.size
            if h.size.any (· != part.length) then .error errFormat
            else if h.checksum && inp.size < q + 4 then .error errTrunc
            else if h.checksum && arrLe inp q 4 != xxh64 part % 2 ^ 32 then .error errChecksum
            else zstdFrames inp limit f (if h.checksum then q + 4 else q) false out'

/-- Past the skippable frames at the front of a payload. -/
def skipFrames (inp : Array Byte) : (fuel p : Nat) → Dec Nat
  | 0, _ => .error errTrunc
  | f + 1, p =>
    if inp.size < p + 4 then .error errTrunc
    else if isSkippable (arrLe inp p 4) then
      (if inp.size < p + 8 || inp.size < p + 8 + arrLe inp (p + 4) 4 then .error errTrunc else skipFrames inp f (p + 8 + arrLe inp (p + 4) 4))
    else .ok p

/-- R241 FORMAT: the first frame or member header of a payload (check 6 of R249), with its content size. -/
def codecHeader (format : Nat) (inp : Array Byte) : Dec (Option Nat) :=
  match format with
  | 2 => (zlibHeader inp).map (fun _ => none)
  | 3 => (gzipHeader inp 0).map (fun _ => none)
  | 4 => match skipFrames inp (inp.size + 1) 0 with | .ok p => (zstdHeader inp p).map (·.size) | .error e => .error e
  | 5 => match skipFrames inp (inp.size + 1) 0 with | .ok p => (lz4Header inp p).map (·.size) | .error e => .error e
  | _ => .ok none

/-- R245: decodes a payload whole; an output beyond `limit` bytes ends with `errOver`. -/
def codecDecode (format : Nat) (inp : Array Byte) (limit : Nat) : Dec (Array Byte) :=
  match format with
  | 0 => if limit < inp.size then .error errOver else .ok inp
  | 1 => match inflate inp 0 limit #[] with
    | .error e => .error e
    | .ok (p, out) => if p < inp.size then .error errTrailing else .ok out
  | 2 => zlibDecode inp limit
  | 3 => gzipMembers inp limit (inp.size + 1) 0 #[]
  | 4 => zstdFrames inp limit (inp.size + 1) 0 true #[]
  | _ => lz4Frames inp limit (inp.size + 1) 0 true #[]

/-! ### Encoding (R259, R260) -/

/-- What the match finder emits. -/
inductive LzTok where
  | lit (b : Byte)
  | copy (dist len : Nat)
  deriving DecidableEq, Repr

/-- Length of the match of `c` and `i`, from `len` on. -/
def matchLen (src : Array Byte) (c i stop maxLen : Nat) : (fuel len : Nat) → Nat
  | 0, len => len
  | f + 1, len =>
    if len < maxLen && i + len < stop && src.getD (c + len) 0 = src.getD (i + len) 0 then matchLen src c i stop maxLen f (len + 1) else len

/-- R259 on one parsing unit; the table holds position + 1, 0 for NONE. -/
def findMatches (src : Array Byte) (window maxLen startGuard endGuard : Nat) :
    (fuel i : Nat) → Array Nat → Array LzTok → Array LzTok
  | 0, i, _, toks => (arrSlice src i src.size).foldl (fun t b => t.push (.lit b)) toks
  | f + 1, i, h, toks =>
    if i + 4 ≤ src.size && i + startGuard ≤ src.size then
      let key := arrLe src i 4
      let slot := key * 0x9E3779B1 % 2 ^ 32 / 2 ^ 20
      let c := h.getD slot 0
      let h := h.setIfInBounds slot (i + 1)
      if c != 0 && i - (c - 1) ≤ window && arrLe src (c - 1) 4 = key then
        let len := matchLen src (c - 1) i (src.size - endGuard) maxLen src.size 4
        findMatches src window maxLen startGuard endGuard f (i + len) h (toks.push (.copy (i - (c - 1)) len))
      else findMatches src window maxLen startGuard endGuard f (i + 1) h (toks.push (.lit (src.getD i 0)))
    else (arrSlice src i src.size).foldl (fun t b => t.push (.lit b)) toks

def lzParse (src : Array Byte) (window maxLen startGuard endGuard : Nat) : List LzTok :=
  (findMatches src window maxLen startGuard endGuard (src.size + 1) 0 (Array.replicate 4096 0) #[]).toList

/-- `n` bits of a number, least significant first. -/
def bitsLsb : (n : Nat) → Nat → List Bool
  | 0, _ => []
  | n + 1, x => (x % 2 = 1) :: bitsLsb n (x / 2)
/-- A Huffman code of `n` bits, most significant first. -/
def bitsMsb (n x : Nat) : List Bool := (bitsLsb n x).reverse

/-- The fixed Huffman code of a literal or length symbol (RFC 1951). -/
def fixedCode (sym : Nat) : List Bool :=
  if sym < 144 then bitsMsb 8 (0x30 + sym) else if sym < 256 then bitsMsb 9 (0x190 + (sym - 144))
  else if sym < 280 then bitsMsb 7 (sym - 256) else bitsMsb 8 (0xC0 + (sym - 280))

/-- The last entry of a base table that is at most `v`. -/
def baseIndex (base : List Nat) (v : Nat) : Nat := (base.filter (· ≤ v)).length - 1

def copyBits (dist len : Nat) : List Bool :=
  let l := if len = 258 then 28 else min 27 (baseIndex lenBase len)
  let k := baseIndex distBase dist
  fixedCode (257 + l) ++ bitsLsb (lenExtra.getD l 0) (len - lenBase.getD l 0)
    ++ bitsMsb 5 k ++ bitsLsb (distExtra.getD k 0) (dist - distBase.getD k 0)

def tokLen (t : LzTok) : Nat := match t with | .lit _ => 1 | .copy _ n => n

/-- A part of a copy: a match of at least 3 bytes, else literals (R260); `at_` is its position in the payload. -/
def partToks (src : Array Byte) (at_ dist n : Nat) : List LzTok :=
  if 3 ≤ n then [.copy dist n] else (List.range n).map (fun i => .lit (src.getD (at_ + i) 0))

/-- The tokens of each block of 65,535 bytes, matches cut at block ends; `pos` is the payload position, `cur` the present block. -/
def cutBlocks (src : Array Byte) : (fuel : Nat) → (pos : Nat) → List LzTok → (cur : List LzTok) → List (List LzTok)
  | 0, _, _, cur => [cur.reverse]
  | _ + 1, _, [], cur => [cur.reverse]
  | f + 1, pos, t :: ts, cur =>
    let room := 65535 - pos % 65535
    if room = 65535 && 0 < pos && !cur.isEmpty then cur.reverse :: cutBlocks src f pos (t :: ts) []
    else if tokLen t ≤ room then cutBlocks src f (pos + tokLen t) ts (t :: cur)
    else match t with
      | .lit _ => cutBlocks src f (pos + 1) ts (t :: cur)
      | .copy dist n =>
        ((partToks src pos dist room).reverse ++ cur).reverse ::
          cutBlocks src f (pos + room) (partToks src (pos + room) dist (n - room) ++ ts) []

/-- Bits of one DEFLATE block that starts at bit `at_` of the output. -/
def deflateBlock (at_ : Nat) (final : Bool) (toks : List LzTok) (raw : List Byte) : List Bool :=
  let fixed := [final, true, false] ++ toks.flatMap (fun t => match t with | .lit b => fixedCode b.toNat | .copy d n => copyBits d n) ++ fixedCode 256
  let pad := (8 - (at_ + 3) % 8) % 8
  if 3 + pad + 32 + 8 * raw.length ≤ fixed.length then
    [final, false, false] ++ List.replicate pad false ++ bitsLsb 16 raw.length ++ bitsLsb 16 (0xFFFF - raw.length) ++ raw.flatMap (fun b => bitsLsb 8 b.toNat)
  else fixed

/-- Raw DEFLATE of a payload. -/
def deflate (src : Array Byte) : List Byte :=
  let toks := lzParse src 32768 258 0 0
  let blocks := cutBlocks src (src.size + toks.length + 2) 0 toks []
  let n := blocks.length
  let bits := blocks.zipIdx.foldl (fun (acc : Array Bool) b =>
    acc ++ (deflateBlock acc.size (b.2 + 1 = n) b.1 (arrSlice src (65535 * b.2) (65535 * (b.2 + 1)))).toArray) #[]
  (chunks 8 bits.toList).map (fun c => BitVec.ofNat 8 (c.zipIdx.foldl (fun x y => x + bit y.1 * 2 ^ y.2) 0))

/-- The bytes of a length beyond 15 in an LZ4 token. -/
def lz4LenBytes (n : Nat) : List Byte := if n < 15 then [] else List.replicate ((n - 15) / 255) (255 : Byte) ++ [BitVec.ofNat 8 ((n - 15) % 255)]

/-- The sequences of an LZ4 block; `lits` are the literals since the last match, reversed. -/
def lz4Block : List LzTok → (lits : List Byte) → List Byte
  | [], lits => u8 (16 * min 15 lits.length) ++ lz4LenBytes lits.length ++ lits.reverse
  | .lit b :: ts, lits => lz4Block ts (b :: lits)
  | .copy dist n :: ts, lits =>
    u8 (16 * min 15 lits.length + min 15 (n - 4)) ++ lz4LenBytes lits.length ++ lits.reverse ++ u16 dist ++ lz4LenBytes (n - 4)
      ++ lz4Block ts []

/-- One LZ4 frame (R260). -/
def lz4Encode (src : Array Byte) : List Byte :=
  let desc := u8 0x6C ++ u8 0x40 ++ u64 src.size
  let blocks := (chunks 65536 src.toList).flatMap (fun c =>
    let x := lz4Block (lzParse c.toArray 65535 65535 12 5) []
    if x.length < c.length then u32 x.length ++ x else u32 (c.length + 2 ^ 31) ++ c)
  u32 0x184D2204 ++ desc ++ u8 (xxh32 desc / 256) ++ blocks ++ u32 0 ++ u32 (xxh32 src.toList)

/-- R260: an encode job's output by FORMAT: 1 DEFLATE, 2 ZLIB, 3 GZIP, 5 LZ4. -/
def codecEncode (format : Nat) (payload : List Byte) : List Byte :=
  let src := payload.toArray
  match format with
  | 2 => [0x78, 0x01] ++ deflate src ++ (u32 (adler32 payload)).reverse
  | 3 => [0x1F, 0x8B, 8, 0, 0, 0, 0, 0, 0, 255] ++ deflate src ++ u32 (crc32 payload) ++ u32 payload.length
  | 5 => lz4Encode src
  | _ => deflate src

/-- R261: the bound on an encode job's output. -/
def encodeBound (format n : Nat) : Nat :=
  if format = 5 then n + 4 * ceilDiv n 65536 + 23
  else ceilDiv (9 * n + 10 * max 1 (ceilDiv n 65535)) 8 + (match format with | 2 => 6 | 3 => 18 | _ => 0)

end Sys2Proof.Machine
end

