-- ==== Sys2Proof/Machine/Ingest.lean ====
section
/-!
DEFINITION. The Ingest station: envelopes, size checks, XCP column pages, predicates and the two steps of a job (chapter 8:
R233 to R264).
-/

namespace Sys2Proof.Machine

/-! ### Configuration (R238) -/

structure IngestCfg where
  inLift : Nat
  outLift : Nat
  outPool : Nat
  kind : Nat
  maxBufs : Nat
  terms : List (List Byte)
  deriving DecidableEq, Repr

def ingestCfg (b : List Byte) : IngestCfg :=
  { inLift := leAt b 0 2, outLift := leAt b 2 2, outPool := leAt b 4 2, kind := leAt b 6 1, maxBufs := leAt b 7 1 + 1
    terms := (List.range 4).map (fun t => (b.drop (16 + 24 * t)).take 24) }

/-! ### Predicate terms (R256, R257) -/

structure Term where
  col : Nat
  op : Nat
  a : Nat
  b : Nat
  deriving DecidableEq, Repr

def termOf (b : List Byte) : Term := { col := leAt b 0 2, op := leAt b 2 1, a := leAt b 8 8, b := leAt b 16 8 }

/-- The terms in use. -/
def IngestCfg.used (c : IngestCfg) : List Term := (c.terms.map termOf).filter (fun t => t.op != 0)

/-! ### Envelope and page header (R241, R251) -/

/-- CRC-32C of 64 header bytes whose field at `o` is taken as zero. -/
def headerCrc (b : List Byte) (o : Nat) : Nat := (crc32c ((b ++ zeros 64).take o ++ zeros 4 ++ ((b ++ zeros 64).take 64).drop (o + 4))).toNat

structure Envelope where
  format : Nat
  direction : Nat
  len : Nat
  declared : Nat
  deriving DecidableEq, Repr

def envelopeOf (b : List Byte) : Envelope :=
  { format := leAt b 4 1, direction := leAt b 5 1, len := leAt b 8 4, declared := leAt b 0x10 8 }

/-- The envelope's part of check 1. -/
def envelopeOk (b : List Byte) : Bool :=
  let e := envelopeOf b
  leAt b 0 4 = 0x48454958 && leAt b 0x18 4 = headerCrc b 0x18 && leAt b 6 2 = 0 && leAt b 0x0C 4 = 0
    && leAt b 0x1C 36 = 0 && e.format ≤ 6 && e.direction ≤ 1 && 1 ≤ e.len
    && ((e.direction = 0 && e.format != 6) || e.declared = 0)

structure Page where
  size : Nat
  body : Nat
  rows : Nat
  cols : Nat
  codec : Nat
  first : Nat
  bodyCrc : Nat
  deriving DecidableEq, Repr

def pageOf (b : List Byte) : Page :=
  { size := leAt b 8 4, body := leAt b 0x0C 4, rows := leAt b 0x10 4, cols := leAt b 0x14 2, codec := leAt b 0x16 1
    first := leAt b 0x18 8, bodyCrc := leAt b 0x20 4 }

/-- R253: the page's part of check 1. -/
def pageOk (b : List Byte) : Bool :=
  let p := pageOf b
  leAt b 0 4 = 0x31504358 && leAt b 4 2 = 1 && leAt b 6 2 = 0 && leAt b 0x24 4 = headerCrc b 0x24 && leAt b 0x17 1 = 0
    && leAt b 0x28 24 = 0 && p.codec ≤ 3 && 65 ≤ p.size && 16 * p.cols ≤ p.body && 1 ≤ p.rows && p.rows ≤ 1048576
    && 1 ≤ p.cols && p.cols ≤ 64 && (p.codec != 0 || p.body + 64 = p.size)

/-- The codec of a page body as an envelope FORMAT. -/
def pageFormat (codec : Nat) : Nat := match codec with | 0 => 0 | 1 => 1 | 2 => 4 | _ => 5

/-- R245: formats and directions supported together. -/
def codecSupported (format direction : Nat) : Bool := direction = 0 || format = 1 || format = 2 || format = 3 || format = 5

/-! ### What a job is (R241, R249) -/

/-- A job as the size checks leave it: an encode, a raw decode or a page; the input bytes; D, when it has one. -/
inductive IngestJob where
  | encode (format : Nat) (payload : List Byte)
  | decode (format : Nat) (payload : List Byte) (declared : Option Nat)
  | page (p : Page) (body : List Byte)
  deriving DecidableEq, Repr

/-- The payload bytes a job reads. -/
def IngestJob.bytesIn (j : IngestJob) : Nat :=
  match j with | .encode _ p => p.length | .decode _ p _ => p.length | .page p _ => p.size

/-- Bounds of a decode (R250): EXP_LIMIT × IN, S, D. -/
structure OutBounds where
  exp : Nat
  space : Nat
  declared : Option Nat
  deriving DecidableEq, Repr

def OutBounds.limit (b : OutBounds) : Nat := min (min b.exp b.space) (b.declared.getD b.space)

/-- R250: the code of an output of `n` bytes past its bounds. -/
def OutBounds.code (b : OutBounds) (n : Nat) : Nat := if b.exp < n then 0x0716 else if b.space < n then 0x0715 else 0x0719

/-- The code a decoder's failure gives a job. -/
def OutBounds.failCode (b : OutBounds) (e : Nat) : Nat :=
  if e = errOver then b.code (b.limit + 1) else if 0x10000 ≤ e then b.code (e - 0x10000) else e

/-- The bounds of a job; `space` is S of R244, `buf` is BUF_SIZE. -/
def IngestJob.bounds (j : IngestJob) (limit space buf : Nat) : OutBounds :=
  match j with
  | .encode _ p => { exp := limit * p.length, space := space, declared := none }
  | .decode _ p decl => { exp := limit * p.length, space := space, declared := decl }
  | .page p b => { exp := limit * b.length, space := buf, declared := some p.body }

def IngestJob.format (j : IngestJob) : Nat := match j with | .encode f _ => f | .decode f _ _ => f | .page p _ => pageFormat p.codec
def IngestJob.input (j : IngestJob) : List Byte := match j with | .encode _ p => p | .decode _ p _ => p | .page _ b => b

/-- Checks 1 to 3 of R249 on the data of an input handle: the job, or the code of the first failure. -/
def ingestJob (kind : Nat) (data : List Byte) : IngestJob ⊕ Nat :=
  if kind = 1 then
    let p := pageOf data
    if !pageOk data then .inr 0x071A
    else if data.length < p.size then .inr 0x0713
    else .inl (.page p ((data.take p.size).drop 64))
  else
    let e := envelopeOf data
    let payload := (data.drop 64).take e.len
    if !envelopeOk data then .inr 0x0711
    else if e.format = 6 && e.direction = 0 && (!pageOk payload || e.len < (pageOf payload).size) then .inr 0x071A
    else if !codecSupported e.format e.direction then .inr 0x0712
    else if data.length < 64 + e.len then .inr 0x0713
    else if e.direction = 1 then .inl (.encode e.format payload)
    else if e.format = 6 then .inl (.page (pageOf payload) ((payload.take (pageOf payload).size).drop 64))
    else .inl (.decode e.format payload (if e.declared = 0 then none else some e.declared))

/-- Checks 4 to 6: the code of the first failure, if any. -/
def IngestJob.check4to6 (j : IngestJob) (c : IngestCfg) (limit buf : Nat) : Option Nat :=
  let space := c.maxBufs * (buf - 32)
  let b := j.bounds limit space buf
  let tooBig : Bool := match j with
    | .encode f p => decide (space < encodeBound f p.length)
    | .decode _ _ d => d.any (fun n => decide (space < n))
    | .page p _ => decide (buf < p.body) || decide (c.maxBufs < p.cols + 2)
  if tooBig then some 0x0715
  else match j with
    | .encode _ _ => none
    | _ =>
      if b.declared.any (fun n => decide (b.exp < n)) then some 0x0716
      else match codecHeader j.format j.input.toArray with
        | .error e => some (b.failCode e)
        | .ok (some n) => if b.limit < n then some (b.code n) else none
        | .ok none => none

/-! ### XCP columns (R252, R255) -/

structure XCol where
  id : Nat
  type : Nat
  enc : Nat
  nullable : Bool
  width : Nat
  off : Nat
  len : Nat
  deriving DecidableEq, Repr

def xcolOf (body : List Byte) (c : Nat) : XCol :=
  let e := (body.drop (16 * c)).take 16
  { id := leAt e 0 2, type := leAt e 2 1, enc := leAt e 3 1, nullable := bitAt (leAt e 4 1) 0, width := leAt e 5 1
    off := leAt e 8 4, len := leAt e 12 4 }

def xcols (body : List Byte) (n : Nat) : List XCol := (List.range n).map (xcolOf body)

/-- Bytes of a value of a column type; 0 for BYTES and for a type no column has. -/
def xtypeBytes (t : Nat) : Nat :=
  match t with | 0x0C => 8 | 0x06 => 4 | 0x0E => 4 | 0x07 => 2 | 0x08 => 1 | 0x09 => 1 | 0x00 => 4 | 0x02 => 2 | 0x01 => 2 | _ => 0

def xtypeInt (t : Nat) : Bool := t = 0x0C || t = 0x06 || t = 0x0E || t = 0x07 || t = 0x08 || t = 0x09

/-- R252: the directory is well formed. -/
def directoryOk (body : List Byte) (n : Nat) : Bool :=
  let cs := xcols body n
  (List.range n).all (fun i =>
    let e := (body.drop (16 * i)).take 16
    let c := xcolOf body i
    decide (c.id < 0xFFF0) && (xtypeBytes c.type != 0 || c.type = 0x20) && decide (c.enc ≤ 4) && bitsOf (leAt e 4 1) 1 7 = 0
      && leAt e 6 2 = 0
      && (match c.enc with | 1 => decide (1 ≤ c.width) && decide (c.width ≤ 32) | 3 => decide (c.width ≤ 64) | 4 => decide (c.width ≤ 64) | _ => c.width = 0)
      && c.off % 8 = 0 && decide (16 * n ≤ c.off) && decide (c.off + c.len ≤ body.length)
      && cs.zipIdx.all (fun x => x.2 = i || (x.1.id != c.id && (decide (x.1.off + x.1.len ≤ c.off) || decide (c.off + c.len ≤ x.1.off)))))

/-- Bit-packed value `r` of width `w`; none past the end. -/
def packedAt (area : List Byte) (w r : Nat) : Option Nat :=
  if w = 0 then some 0
  else if 8 * area.length < (r + 1) * w then none
  else some (leAt area (r * w / 8) 9 / 2 ^ (r * w % 8) % 2 ^ w)

def allSome {α : Type} (l : List (Option α)) : Option (List α) :=
  l.foldr (fun x acc => match x, acc with | some a, some r => some (a :: r) | _, _ => none) (some [])

/-- PLAIN values of a type: the values and the bytes they take. -/
def plainValues (type n : Nat) (b : List Byte) : Option (List (List Byte) × Nat) :=
  let w := xtypeBytes type
  if type = 0x20 then
    let offs := (List.range (n + 1)).map (fun i => leAt b (4 * i) 4)
    let total := offs.getLastD 0
    if b.length < 4 * (n + 1) || offs.headD 0 != 0 || (offs.zip (offs.drop 1)).any (fun x => decide (x.2 < x.1)) || b.length < 4 * (n + 1) + total then none
    else some ((offs.zip (offs.drop 1)).map (fun x => ((b.drop (4 * (n + 1) + x.1)).take (x.2 - x.1))), 4 * (n + 1) + total)
  else if b.length < n * w then none
  else some ((List.range n).map (fun i => (b.drop (i * w)).take w), n * w)

/-- RLE runs until `n` rows are covered. -/
def rleValues (w : Nat) : (fuel n : Nat) → List Byte → Option (List (List Byte))
  | 0, n, _ => if n = 0 then some [] else none
  | f + 1, n, b =>
    if n = 0 then some []
    else if b.length < 4 + w then none
    else
      let c := leAt b 0 4
      if c = 0 || n < c then none
      else match rleValues w f (n - c) (b.drop (4 + w)) with
        | some r => some (List.replicate c ((b.drop 4).take w) ++ r)
        | none => none

/-- R255: unzig. -/
def unzig (d : Nat) : Int := if d % 2 = 0 then (d / 2 : Nat) else -(((d + 1) / 2 : Nat) : Int)

/-- The running sums of a DELTA chunk. -/
def deltaValues (w : Nat) (v : Int) : List Nat → List (List Byte)
  | [] => [leBytes w (ofSigned (8 * w) v)]
  | d :: r => leBytes w (ofSigned (8 * w) v) :: deltaValues w (v + unzig d) r

/-- R255: a decoded column: which rows are present, and the value of every row as bytes. -/
def decodeColumn (c : XCol) (rows : Nat) (body : List Byte) : Option (List Bool × List (List Byte)) :=
  let chunk := (body.drop c.off).take c.len
  let maplen := if c.nullable then alignUp (ceilDiv rows 8) 8 else 0
  let map := chunk.take maplen
  let present := if c.nullable then (List.range rows).map (fun r => bitAt (leAt map (r / 8) 1) (r % 8)) else List.replicate rows true
  let rest := chunk.drop maplen
  let w := xtypeBytes c.type
  if chunk.length < maplen || (map.drop (ceilDiv rows 8)).any (· != 0) then none
  else
    let vals : Option (List (List Byte)) := match c.enc with
      | 0 => (plainValues c.type rows rest).map (·.1)
      | 1 =>
        let dn := leAt rest 0 4
        if rest.length < 4 || rest.length < dn then none
        else match plainValues c.type dn (rest.drop 4) with
          | none => none
          | some (dict, used) =>
            let area := rest.drop (alignUp (4 + used) 8)
            allSome ((List.range rows).map (fun r => (packedAt area c.width r).bind (fun i => dict[i]?)))
      | 2 => if c.type = 0x20 then none else rleValues w rows rows rest
      | 3 =>
        if !xtypeInt c.type || rest.length < 8 then none
        else (allSome ((List.range (rows - 1)).map (packedAt (rest.drop 8) c.width))).map (deltaValues w (toSigned 64 (leAt rest 0 8)))
      | _ =>
        if !xtypeInt c.type || rest.length < 8 then none
        else (allSome ((List.range rows).map (packedAt (rest.drop 8) c.width))).map (fun l =>
          l.map (fun (o : Nat) => leBytes w (ofSigned (8 * w) (toSigned 64 (leAt rest 0 8) + (o : Int)))))
    vals.map (fun v => (present, v))

/-! ### Predicates (R257) -/

/-- A term is usable on a page. -/
def Term.usable (t : Term) (cs : List XCol) : Bool :=
  match cs.find? (fun c => c.id = t.col) with
  | none => false
  | some c =>
    if c.type = 0x20 then t.op = 8 || t.op = 9
    else xtypeInt c.type || (decide (t.a < 2 ^ 32) && decide (t.b < 2 ^ 32))

/-- The comparison of a value, given as a less-or-equal test in each direction. -/
def compareOp (op : Nat) (le ge leB ne : Bool) : Bool :=
  match op with
  | 1 => le && ge
  | 2 => ne
  | 3 => le && !ge
  | 4 => le
  | 5 => ge && !le
  | 6 => ge
  | _ => ge && leB

/-- A term on one value. -/
def Term.holds (t : Term) (type : Nat) (present : Bool) (v : List Byte) : Bool :=
  if t.op = 8 then !present
  else if !present then false
  else if t.op = 9 then true
  else if xtypeInt type then
    let x := elemIntVal type (ofLe v)
    let a := toSigned 64 t.a
    let b := toSigned 64 t.b
    compareOp t.op (decide (x ≤ a)) (decide (a ≤ x)) (decide (x ≤ b)) (decide (x ≠ a))
  else
    let x := elemFP type (ofLe v)
    let a := f32 t.a
    let b := f32 t.b
    compareOp t.op (x.le a) (a.le x) (x.le b) (!x.isNan && !a.isNan && !x.eq a)

/-- The rows every term keeps: the columns tested are decoded in the order of the terms. -/
def survivors (p : Page) (cs : List XCol) (body : List Byte) (terms : List Term) : Option (List Nat) :=
  terms.foldl (fun (acc : Option (List Nat)) t =>
    match acc with
    | none => none
    | some rows => match cs.find? (fun c => c.id = t.col) with
      | none => none
      | some c => match decodeColumn c p.rows body with
        | none => none
        | some (pr, vs) => some (rows.filter (fun r => t.holds c.type (pr.getD r false) (vs.getD r []))))
    (some (List.range p.rows))

/-! ### Outputs (R242 to R244, R258) -/

/-- The buffers of raw output. -/
def rawBuffers (buf seq : Nat) (out : List Byte) : List (List Byte) :=
  let parts := if out.isEmpty then [[]] else chunks (buf - 32) out
  parts.zipIdx.map (fun x => columnBuffer 0xFFFE 0x09 x.1.length (x.2 * (buf - 32)) seq x.2 (decide (x.2 + 1 = parts.length)) none x.1)

/-- The values of surviving rows as a buffer holds them; a null row's value is zero. -/
def columnValues (c : XCol) (rows : List Nat) (present : List Bool) (vals : List (List Byte)) : List Byte :=
  let pick := rows.map (fun r => if present.getD r false then vals.getD r [] else zeros (xtypeBytes c.type))
  if c.type = 0x20 then
    (pick.foldl (fun (acc : List Byte × Nat) v => (acc.1 ++ u32 (acc.2 + v.length), acc.2 + v.length)) (u32 0, 0)).1 ++ pick.flatten
  else pick.flatten

/-- A page that fails: the code, the buffers written before, and how many of its decoded rows survived once that is known. -/
structure PageFail where
  code : Nat
  outs : List (List Byte) := []
  kept : Option Nat := none
  deriving DecidableEq, Repr

/-- R258: the buffers of a page, or how it fails. -/
def pageBuffers (p : Page) (buf seq : Nat) (terms : List Term) (body : List Byte) : (List (List Byte) × Nat) ⊕ PageFail :=
  let cs := xcols body p.cols
  if (crc32c body).toNat != p.bodyCrc then .inr { code := 0x071C }
  else if !directoryOk body p.cols then .inr { code := 0x071B }
  else if !terms.all (fun t => t.usable cs) then .inr { code := 0x071D }
  else match survivors p cs body terms with
    | none => .inr { code := 0x071B }
    | some rows =>
      let map := columnBuffer 0xFFFF 0x0E rows.length p.first seq 0 false none (rows.flatMap u32)
      if buf < map.length then .inr { code := 0x0715, kept := some rows.length }
      else
        match cs.zipIdx.foldl (fun (acc : List (List Byte) ⊕ PageFail) x =>
          match acc with
          | .inr e => .inr e
          | .inl l => match decodeColumn x.1 p.rows body with
            | none => .inr { code := 0x071B, outs := l, kept := some rows.length }
            | some (pr, vs) =>
              let b := columnBuffer x.1.id x.1.type rows.length p.first seq (x.2 + 1) (decide (x.2 + 1 = p.cols))
                (if x.1.nullable then some (rows.map (fun r => pr.getD r false)) else none) (columnValues x.1 rows pr vs)
              if buf < b.length then .inr { code := 0x0715, outs := l, kept := some rows.length } else .inl (l ++ [b])) (.inl [map]) with
        | .inr e => .inr e
        | .inl l => .inl (l, rows.length)

/-! ### Meanings -/

/-- INGEST_JOB_START (R233, R249): the instance pops the next handle and applies the checks. -/
def execIngestJobStart (dd : Fin 4) (k : Fin 8) (st : State) : Host.Outcome State Fault Refusal :=
  st.upd (fun d => d.beginJob dd.val 3 k.val (fun b => [(ingestCfg b).inLift]) (fun b hs d =>
    match hs with
    | [] => d
    | h :: _ =>
      let key := stKey dd.val 3 k.val
      let c := ingestCfg b
      let limit := d.fld (Reg.INGEST_CTRL dd.val) Fd.INGEST_CTRL_EXP_LIMIT
      let (seq, d) := d.takeSeq key h.tag
      let job : Job := { mode := 0, tag := h.tag, inputs := hs, seq := seq, words := [limit], bytes := [] }
      let fail (code : Nat) := d.failJob key (Reg.ING_JOBS_FAILED dd.val k.val) (Reg.ING_LAST_FAIL dd.val k.val) code job
      if d.inputsPoisoned hs then fail 0x0F12
      else match ingestJob c.kind (d.handleData h) with
        | .inr code => fail code
        | .inl j => match j.check4to6 c limit (d.poolSize (poolKey dd.val c.outPool)) with
          | some code => fail code
          | none => (d.setJob key job).count (Reg.ING_BYTES_IN dd.val k.val) 64 j.bytesIn))

/-- INGEST_JOB_END (R234, R254, R258, R260): the job's output is formed and pushed in one burst, or the job fails.  It waits while the
pool has too few buffers, and while the Lift has no room for its handles (R233).  How many bytes a decode wrote before it failed is open: a
free value within the job's bound (DESIGN CHOICE, log 98).  A page that fails at a column counts the buffers it wrote before, and its rows. -/
def execIngestJobEnd (dd : Fin 4) (k : Fin 8) (st : State) : Host.Outcome State Fault Refusal :=
  st.upd (fun d => d.withJob dd.val 3 k.val (fun b j d =>
    match j.inputs with
    | [] => d
    | h :: _ =>
      let key := stKey dd.val 3 k.val
      let c := ingestCfg b
      let pk := poolKey dd.val c.outPool
      let buf := d.poolSize pk
      let fail (code : Nat) (j : Job) (d : Device) := d.failJob key (Reg.ING_JOBS_FAILED dd.val k.val) (Reg.ING_LAST_FAIL dd.val k.val) code j
      let fin (d : Device) : Device := ((d.dropJob key).releaseInputs key j).count (Reg.ING_JOBS_DONE dd.val k.val) 64 1
      let bytes (outBytes : Nat) (outs : List (List Byte)) (d : Device) : Device :=
        d.count (Reg.ING_BYTES_OUT dd.val k.val) 64 (outs.foldl (fun n o => n + o.length) outBytes)
      let wrote (most : Nat) (d : Device) : Device := let (v, d) := d.free; bytes (v.toNat % (most + 1)) [] d
      let rows (p : Page) (kept : Nat) (d : Device) : Device :=
        (d.count (Reg.ING_ROWS_IN dd.val k.val) 64 p.rows).count (Reg.ING_ROWS_KEPT dd.val k.val) 64 kept
      let put (j : Job) (outs : List (List Byte)) (counts : Device → Device) (scratch : Nat) (d : Device) : Device :=
        d.jobOutputs key pk (d.stationOut dd.val 3 k.val 1 c.outLift) j h.h.last false outs counts fin scratch
      if j.pushed then d.afterPush key fin
      else match ingestJob c.kind (d.handleData h) with
        | .inr code => fail code j d
        | .inl w =>
          let bnd := w.bounds (j.words.headD 0) (c.maxBufs * (buf - 32)) buf
          match w with
          | .encode f p => let outs := rawBuffers buf j.seq (codecEncode f p); put j outs (bytes 0 outs) 0 d
          | .decode f p decl =>
            (match codecDecode f p.toArray bnd.limit with
            | .error e => fail (bnd.failCode e) j (wrote bnd.limit d)
            | .ok out =>
              if decl.any (· != out.size) then fail 0x0719 j (bytes out.size [] d)
              else let outs := rawBuffers buf j.seq out.toList; put j outs (bytes 0 outs) 0 d)
          | .page p body =>
            (match codecDecode (pageFormat p.codec) body.toArray bnd.limit with
            | .error e => fail (bnd.failCode e) j (wrote bnd.limit d)
            | .ok out =>
              if out.size != p.body then fail 0x0719 j (bytes out.size [] d)
              else
                let (j, d) := d.holdBuffers pk 1 j 1
                match j.held with
                | [] => d
                | s :: _ =>
                  let d := if j.held.length = 1 then (d.write s.2 out.toList).setJob key j else d
                  match pageBuffers p buf j.seq c.used out.toList with
                  | .inr e => fail e.code j (match e.kept with | some n => rows p n (bytes p.body e.outs d) | none => bytes p.body [] d)
                  | .inl (outs, kept) => put j outs (fun d => rows p kept (bytes p.body outs d)) 1 d)))

end Sys2Proof.Machine
end

