-- ==== Sys2Proof/Machine/PlanCheck.lean ====
section
/-!
DEFINITION. Checks 1 to 8 of a plan image, and the record checks of its MEMORY, STATIONS, PLACEMENT and STAGES sections (chapter 3: R60 to
R77, R178, R628).  A check answers the code of the first failure, or none.
-/

namespace Sys2Proof.Machine

/-- The first failure over a list of records. -/
def firstOf {α : Type} (l : List α) (f : α → Option Nat) : Option Nat := l.findSome? f
/-- Some byte of a range of a list is not 0. -/
def nonzero (b : List Byte) (o n : Nat) : Bool := ((b.drop o).take n).any (fun x => x != 0)
/-- No value occurs twice. -/
def distinct (l : List Nat) : Bool := match l with | [] => true | x :: r => !(x ∈ r) && distinct r

/-- The compute dies a plan uses. -/
def imgDies (b : List Byte) : List Nat := onesBelow 4 (imgDieMask b)

/-! ### Checks 1 to 6 -/

/-- Checks 1 to 3: MAGIC, format, sizes; `len` is the command's LENGTH. -/
def planCheck1to3 (b : List Byte) (len : Nat) : Option Nat :=
  let size := imgSize b
  first [bad (leAt b 0 4 != 0x4C504B58) 0x0210, bad (leAt b 4 2 != 1 || leAt b 6 2 != 0) 0x0211,
    bad (leAt b 8 4 != 512 || size % 64 != 0 || decide (size < 512 + 16 * imgSectionCount b) || decide (67108864 < size) || size != len) 0x0212]

/-- Check 4: header fields in ascending offset. -/
def planCheck4 (b : List Byte) : Option Nat :=
  first [bad (imgPlanId b = 0) 0x0204, bad (bitsOf (leAt b 0x18 4) 2 30 != 0) 0x0201, bad (bitsOf (leAt b 0x1C 1) 4 4 != 0) 0x0201,
    bad (imgDieMask b = 0) 0x0204, bad (imgGroupSize b = 0 || decide (32 < imgGroupSize b)) 0x0204,
    bad (decide (imgSectionCount b < 4) || decide (256 < imgSectionCount b)) 0x0204,
    bad (!(decide (0 < imgB1 b) && decide (imgB1 b < imgB2 b) && decide (imgB2 b < imgB3 b))) 0x0213, bad (decide (4 < imgKeySlot b)) 0x0204,
    bad (leAt b 0x27 1 != 0 || nonzero b 0x2C 84 || nonzero b 0x132 206) 0x0201]

/-- R61: the digest of an image. -/
def planDigest (b : List Byte) : List Byte := shake256 64 (b.take 0x80 ++ zeros 0x180 ++ b.drop 0x200)

/-- Check 5. -/
def planCheck5 (b : List Byte) : Option Nat := bad (planDigest b != imgDigest b) 0x0214

/-- Check 6: the signing policy of R77; `keys` holds the provisioned owner keys by slot number minus 1. -/
def planCheck6 (keys : List (Option (List Byte))) (b : List Byte) : Option Nat :=
  let signed := imgSigned b
  let slot := imgKeySlot b
  let key := if slot = 0 then none else keys.getD (slot - 1) none
  first [bad (keys.any (·.isSome) && !signed) 0x0215, bad (if signed then key.isNone else slot != 0) 0x0216,
    bad (signed && !(ed448Verify (key.getD []) (ascii "OSOUDRA-PLAN") (imgDigest b) (imgSignature b))) 0x0217]

/-! ### Checks 7 and 8 -/

def knownSection (t : Nat) : Bool := (1 ≤ t && t ≤ 0x0B) || t = 0x7FFF

/-- A section-table entry against every row of check 7 in the order of its fields; an overlap is one with any other entry. -/
def entryCheck (b : List Byte) (i : Nat) : Option Nat :=
  let o := 0x200 + 16 * i
  let e := secEntry b i
  first [bad (!knownSection e.type) 0x0202, bad (bitsOf (leAt b (o + 2) 1) 4 4 != 0) 0x0201,
    bad (e.dieMask = 0 || (onesBelow 4 e.dieMask).any (fun k => !bitAt (imgDieMask b) k)) 0x0204, bad (leAt b (o + 3) 1 != 0) 0x0201,
    bad (e.off % 64 != 0 || decide (e.off < alignUp (0x200 + 16 * imgSectionCount b) 64) || e.len = 0 || decide (imgSize b < e.off + e.len)
      || (List.range (imgSectionCount b)).any (fun j => j != i && decide (e.off < (secEntry b j).off + (secEntry b j).len) && decide ((secEntry b j).off < e.off + e.len))) 0x0218,
    bad ((crc32c ((b.drop e.off).take e.len)).toNat != e.crc) 0x0219]

/-- The bytes outside the header, the table and the sections, given as gaps of the sections in rising order, are 0. -/
def gapsZero (b : List Byte) : List SecEntry → (p : Nat) → Bool
  | [], p => !nonzero b p (b.length - p)
  | e :: r, p => !nonzero b p (e.off - p) && gapsZero b r (max p (e.off + e.len))

/-- Check 7. -/
def planCheck7 (b : List Byte) : Option Nat :=
  first [firstOf (List.range (imgSectionCount b)) (entryCheck b),
    bad (!gapsZero b (sortBy (·.off) (secEntries b)) (0x200 + 16 * imgSectionCount b)) 0x0218]

/-- The entries of a die. -/
def dieEntries (b : List Byte) (die : Nat) : List SecEntry := (secEntries b).filter (fun e => bitAt e.dieMask die)

/-- Bytes of a die's slot content (R91). -/
def slotBytes (b : List Byte) (die : Nat) : Nat :=
  let es := dieEntries b die
  alignUp (512 + 16 * es.length) 64 + es.foldl (fun n e => n + alignUp e.len 64) 0

/-- Check 8: its rows in order, each over the dies in order (DESIGN CHOICE, log 101: R76 does not say whether the rows or the dies come first). -/
def planCheck8 (b : List Byte) : Option Nat :=
  let need := [1, 2, 3, 0x0B] ++ (if 1 < imgGroupSize b then [0x0A] else [])
  first [bad ((imgDies b).any (fun k => need.any (fun t => !(dieEntries b k).any (fun e => e.type = t)))) 0x021A,
    bad ((imgDies b).any (fun k => !distinct ((dieEntries b k).map (·.type)))) 0x021B,
    bad ((imgDies b).any (fun k => decide (2 ^ 24 < slotBytes b k))) 0x021C]

/-- Checks 1 to 8 (PLAN_STORE). -/
def planCheck1to8 (keys : List (Option (List Byte))) (b : List Byte) (len : Nat) : Option Nat :=
  first [planCheck1to3 b len, planCheck4 b, planCheck5 b, planCheck6 keys b, planCheck7 b, planCheck8 b]

/-! ### Kalxel words (R177 to R191) -/

/-- The fields of a Reg-format row: which of rd, rs1, rs2 it uses. -/
structure RegUse where
  rd : Bool
  rs1 : Bool
  rs2 : Bool
  deriving DecidableEq, Repr

def useAll : RegUse := { rd := true, rs1 := true, rs2 := true }
def useDA : RegUse := { rd := true, rs1 := true, rs2 := false }

/-- The registers a Reg-format word's row uses, by OP and FN; none for an OP or FN that is not listed. -/
def regUse (op fn : Nat) : Option RegUse :=
  match op with
  | 0x00 => if fn ≤ 20 then some useAll else if fn ≤ 22 then some useDA else none
  | 0x13 => if fn ≤ 6 then some useAll else none
  | 0x1C => if fn ≤ 10 then some useAll else if fn ≤ 15 then some useDA else none
  | 0x1E => if fn ≤ 5 then some useAll else if fn ≤ 7 then some useDA else none
  | 0x1F => if fn ≤ 6 then some useDA else none
  | 0x20 => if fn = 0 then some useAll else if fn ≤ 2 then some useDA else none
  | 0x21 => some useAll
  | 0x24 => some useAll
  | 0x25 => some { rd := true, rs1 := false, rs2 := false }
  | 0x26 => (match fn with
    | 0 => some { rd := false, rs1 := true, rs2 := true } | 1 => some { rd := false, rs1 := true, rs2 := false }
    | 2 => some { rd := false, rs1 := true, rs2 := true } | 3 => some useDA | _ => none)
  | 0x27 => if fn ≤ 1 then some useAll else if fn = 2 then some useDA else none
  | 0x28 => (match fn with
    | 0 => some useDA | 1 => some useDA | 2 => some { rd := false, rs1 := true, rs2 := false }
    | 3 => some { rd := false, rs1 := false, rs2 := false } | _ => none)
  | _ => none

/-- R178: a word of a program: the first failure of its three judgements. -/
def kalxelCheck (w : Nat) : Option Nat :=
  let op := bitsOf w 0 6
  let rd := bitsOf w 6 5
  let rs1 := bitsOf w 11 5
  let rs2 := bitsOf w 16 5
  let fn := bitsOf w 21 11
  let imm := bitsOf w 16 16
  if 0x28 < op then some 0x0202
  else if op = 0x1D then bad (decide (3 < bitsOf w 26 6)) 0x0202
  else if op = 0x22 then first [bad (rs1 != 0) 0x0201, bad (decide (11 < imm)) 0x0202]
  else if op = 0x23 then first [bad (rd != 0) 0x0201, bad (imm != 8 && imm != 9) 0x0202]
  else if 0x05 ≤ op ∧ op ≤ 0x07 then bad (decide (31 < imm)) 0x0201
  else if op = 0x00 ∨ op = 0x13 ∨ op = 0x1C ∨ (0x1E ≤ op ∧ op ≤ 0x21) ∨ 0x24 ≤ op then
    match regUse op fn with
    | none => some 0x0202
    | some u => first [
        bad ((!u.rd && rd != 0) || (!u.rs1 && rs1 != 0) || (!u.rs2 && rs2 != 0) || (op = 0x21 && decide (255 < fn))
          || ((op = 0x24 || op = 0x25) && decide (3 < fn))) 0x0201,
        bad (op = 0x20 && fn = 0 && (rd % 2 != 0 || rs1 % 2 != 0 || rs2 % 2 != 0)) 0x0202]
  else none

/-! ### Check 9: MEMORY, STATIONS, PLACEMENT, STAGES (R66 to R70) -/

/-- R66: every byte of a range is a populated address of a tier.  All data stores of a die are taken as one mapped range of R475, and so are
the operand stagings (DESIGN CHOICE, log 101). -/
def Device.inTier (d : Device) (tier base size : Nat) : Bool :=
  let last := base + size - 1
  match tier with
  | 0 => decide (last < 0x0100_0000_0000) && decide (base % 0x0040_0000_0000 < 4 * d.board.stackGib * 2 ^ 30)
      && decide (last % 0x0040_0000_0000 < 4 * d.board.stackGib * 2 ^ 30)
      && (base / 0x0040_0000_0000 = last / 0x0040_0000_0000 || d.board.stackGib = 64)
  | 1 => decide (ddrBase ≤ base) && decide (last < ddrBase + d.ddrMapped)
  | 2 => (List.range 4).any (fun k => decide (bondedBase k ≤ base) && decide (last < bondedBase k + 12 * 2 ^ 30))
  | _ => (List.range 4).any (fun k => (decide (sramBase k ≤ base) && decide (last < sramBase k + 4096 * 0x2_0000))
      || (decide (sramBase k + 0x4000_0000 ≤ base) && decide (last < sramBase k + 0x4000_0000 + 8 * 0x80_0000)))

/-- A MEMORY record. -/
def Device.regionCheck (d : Device) (r : List Byte) : Option Nat :=
  let id := leAt r 0 2
  let tier := leAt r 2 1
  let base := leAt r 8 8
  let size := leAt r 16 8
  first [bad (bitsOf (leAt r 3 1) 2 6 != 0 || leAt r 4 4 != 0) 0x0201, bad (decide (3 < tier)) 0x0202,
    bad (id = 0 || id = 0xFFFF || base % 4096 != 0 || size = 0 || size % 4096 != 0 || !d.inTier tier base size) 0x0204]

/-- R20: instances of each KIND on a die. -/
def instancesOf (kind : Nat) : Nat := match kind with | 0 => 8 | 1 => 64 | 2 => 16 | 3 => 8 | 4 => 16 | 5 => 64 | 6 => 4 | _ => 4

/-- A STATIONS record of a section of `n` bytes.  R70 has CONFIG_OFFSET a multiple of 8 with no exception, and R628 gives the offset of an
item of length 0 no part: the model refuses such an offset that is no multiple of 8 too (DESIGN CHOICE, log 106). -/
def stationCheck (n : Nat) (r : List Byte) : Option Nat :=
  let v := leAt r 0 8
  let kind := bitsOf v 0 4
  let len := bitsOf v 16 16
  let off := bitsOf v 32 32
  first [bad (bitsOf v 10 6 != 0) 0x0201, bad (decide (7 < kind)) 0x0202,
    bad (decide (instancesOf kind ≤ bitsOf v 4 6) || off % 8 != 0 || (len != 0 && decide (n < off + len))) 0x0204]

/-- A PLACEMENT record of a section of `n` bytes. -/
def placementCheck (n : Nat) (r : List Byte) : Option Nat :=
  let co := leAt r 16 4
  let cl := leAt r 20 2
  let dO := leAt r 24 4
  let dl := leAt r 28 4
  first [bad (bitsOf (leAt r 2 1) 6 2 != 0 || bitsOf (leAt r 3 1) 6 2 != 0 || bitsOf (leAt r 4 1) 1 7 != 0 || leAt r 5 3 != 0) 0x0201,
    bad (leAt r 8 8 = 0 || co % 4 != 0 || cl = 0 || cl % 4 != 0 || decide (16384 < cl) || decide (n < co + cl) || decide (cl / 4 ≤ leAt r 22 2)
      || decide (131072 < dl) || (dl != 0 && decide (n < dO + dl))) 0x0204]

/-- A STAGES record; `b3` is the plan's B3. -/
def stageCheck (b3 : Nat) (r : List Byte) : Option Nat :=
  let kind := leAt r 2 1
  let nx := leAt r 1 1
  let s := leAt r 4 2
  let h := leAt r 6 2
  let c := leAt r 8 2
  first [bad (leAt r 3 1 != 0 || leAt r 10 6 != 0) 0x0201, bad (decide (1 < kind)) 0x0202,
    bad (decide (63 < leAt r 0 1) || (nx != 0xFF && decide (63 < nx))) 0x0204,
    bad (!(decide (s ≤ h) && decide (h ≤ c)) || (kind = 0 && decide (b3 ≤ c)) || (kind = 1 && decide (s < b3))) 0x0213]

/-- R628, R70: a section whose records are checked one by one; `code` answers a record area that is not whole. -/
def recordsCheck (sec : List Byte) (type code : Nat) (f : List Byte → Option Nat) : Option Nat :=
  match recordsOf sec type with
  | none => some code
  | some l => firstOf l (fun p => f p.2)

/-- The MEMORY, PLACEMENT and STAGES sections of a die; the words of each program after every record (DESIGN CHOICE, log 101). -/
def Device.basicCheck (d : Device) (b : List Byte) (die type : Nat) (sec : List Byte) : Option Nat :=
  match type with
  | 1 => recordsCheck sec 1 0x0204 d.regionCheck
  | 3 => first [recordsCheck sec 3 0x0204 (placementCheck sec.length),
      firstOf (placementsOf b die) (fun p => firstOf (List.range (p.code.length / 4)) (fun i => kalxelCheck (leAt p.code (4 * i) 4)))]
  | _ => recordsCheck sec 11 0x0204 (stageCheck (imgB3 b))

/-! ### After check 10: the relations between stages (R70) -/

/-- Following NEXT from a stage comes back to it within `fuel` links. -/
def nextLoops (ss : List StageRec) (start : Nat) : (fuel at_ : Nat) → Bool
  | 0, _ => false
  | f + 1, a =>
    match ss.find? (fun s => s.id = a) with
    | none => false
    | some s => s.next != 0xFF && (s.next = start || nextLoops ss start f s.next)

/-- A breach of the relations between a die's stages. -/
def stageRelations (ss : List StageRec) : Option Nat :=
  firstOf (sortBy (·.id) ss) (fun s =>
    bad ((ss.any (fun t => t.id = s.next && s.next != 0xFF && t.start != s.handover)) || nextLoops ss s.id 64 s.id) 0x0213)

end Sys2Proof.Machine
end

