-- ==== Sys2Proof/Machine/PlanRefs.lean ====
section
/-!
DEFINITION. Check 9 of the sections of the other blocks, and checks 10 to 13 of a plan image (R76): stations, Lifts, streams, Gates, sync
objects, tables, shards; references, totals, the fault map and placement, column claims.
-/

namespace Sys2Proof.Machine

/-! ### Check 9: LIFTS (R148) -/

def endpointRaw (r : List Byte) : List Nat := (List.range 5).map (fun i => leAt r (4 + 4 * i) 4)

/-- Record `i` of a LIFTS section of a die. -/
def liftRecordCheck (regions : List Region) (rs : List (List Byte)) (die i : Nat) : Option Nat :=
  let r := rs.getD i []
  let n := leAt r 1 1
  if leAt r 0 1 = 1 then
    let eps := endpointRaw r
    let con := endpointOf (leAt r 4 4)
    first [bad (leAt r 24 8 != 0 || eps.any (fun v => bitsOf v 20 12 != 0)) 0x0401, bad (eps.any (fun v => decide (1 < bitsOf v 18 2))) 0x0402,
      bad (decide (4095 < leAt r 2 2)) 0x0404,
      bad (n = 0 || decide (4 < n) || (eps.drop (1 + n)).any (fun v => v != 0) || con.die != die
        || (!con.cluster && (rs.take i).any (fun q => leAt q 0 1 = 1 && leAt q 4 4 = leAt r 4 4))) 0x0415]
  else if leAt r 0 1 = 2 then
    let size := leAt r 16 4
    let count := leAt r 20 4
    first [bad (n != 0 || leAt r 6 2 != 0 || leAt r 24 8 != 0) 0x0401,
      bad (decide (1023 < leAt r 2 2) || leAt r 8 8 % 64 != 0 || size % 64 != 0 || size = 0 || decide (16777152 < size) || count = 0) 0x0404,
      bad (regions.any (fun x => x.id = leAt r 4 2 && decide (x.size < leAt r 8 8 + size * count))) 0x0416]
  else some 0x0402

def liftsCheck (b : List Byte) (die : Nat) (sec : List Byte) : Option Nat :=
  match recordsOf sec 4 with
  | none => some 0x0404
  | some l => firstOf (List.range l.length) (liftRecordCheck (regionsOf b die) (l.map (·.2)) die)

/-! ### Check 9: PISTE (R131 to R133) -/

/-- R132: the bits that a word of an opcode names, as (low bit, width); none for a reserved opcode. -/
def pisteFields (op : Nat) : Option (List (Nat × Nat)) :=
  match op with
  | 0x00 => some [] | 0x01 => some [(6, 2), (8, 16), (24, 40)] | 0x02 => some [(6, 2), (16, 48)] | 0x03 => some [(6, 2), (8, 3), (16, 16)]
  | 0x04 => some [(8, 3), (32, 32)] | 0x05 => some [(8, 3), (16, 5)] | 0x06 => some [(6, 2), (8, 1), (32, 32)]
  | 0x07 => some [(6, 2), (8, 1), (12, 12), (24, 16), (40, 24)] | 0x08 => some [(8, 1)] | 0x09 => some [(16, 16), (32, 16)] | 0x0A => some []
  | _ => none

/-- A word of a known opcode has a bit set that its row does not name. -/
def pisteRsv (w : Nat) : Bool :=
  match pisteFields (bitsOf w 0 6) with
  | none => false
  | some fs => fs.foldl (fun v f => withBits v f.1 f.2 0) (withBits w 0 6 0) != 0

/-- Word `i` of a program breaks check 4. -/
def pisteOperandBad (w i : Nat) : Bool :=
  match bitsOf w 0 6 with
  | 0x04 => bitsOf w 32 32 = 0
  | 0x05 => decide (i ≤ bitsOf w 16 5)
  | 0x06 => bitsOf w 32 32 = 0
  | 0x07 => bitsOf w 12 12 = 0 || bitsOf w 24 16 = 0
  | _ => false

/-- A word breaks check 5 for an access width. -/
def pisteAlignBad (aw w : Nat) : Bool :=
  match bitsOf w 0 6 with
  | 0x01 => toSigned 40 (bitsOf w 24 40) % (aw : Int) != 0
  | 0x02 => toSigned 48 (bitsOf w 16 48) % (aw : Int) != 0
  | 0x06 => bitsOf w 32 32 % aw != 0
  | 0x07 => bitsOf w 12 12 % aw != 0 || toSigned 24 (bitsOf w 40 24) % (aw : Int) != 0
  | _ => false

/-- R133: the record at the start of what is left of a section. -/
def pisteCheck (sec : List Byte) : Option Nat :=
  let n := leAt sec 8 1
  let ws := (List.range (min n ((sec.length - 32) / 8))).map (fun i => leAt sec (32 + 8 * i) 8)
  if sec.length < 32 then some 0x0411
  else first [
    bad (bitsOf (leAt sec 2 1) 4 4 != 0 || bitsOf (leAt sec 3 1) 2 6 != 0 || leAt sec 11 1 != 0 || leAt sec 16 16 != 0 || ws.any pisteRsv) 0x0401,
    bad (ws.any (fun w => (pisteFields (bitsOf w 0 6)).isNone)) 0x0402,
    bad (n = 0 || decide (32 < n) || ws.length != n || (ws.getLast?.map (fun w => bitsOf w 0 6)) != some 0x0A) 0x0411,
    bad (ws.zipIdx.any (fun x => pisteOperandBad x.1 x.2) || decide (8 < leAt sec 9 1) || (bitAt (leAt sec 2 1) 0 && bitAt (leAt sec 2 1) 3)) 0x0412,
    bad (ws.any (pisteAlignBad (8 * 2 ^ bitsOf (leAt sec 3 1) 0 2))) 0x0413]

def pistesCheck : (fuel : Nat) → List Byte → Option Nat
  | 0, _ => none
  | f + 1, sec =>
    if sec.length = 0 then none
    else match pisteCheck sec with
      | some c => some c
      | none => pistesCheck f (sec.drop (32 + 8 * leAt sec 8 1))

/-! ### Check 9: AFFINE (R137) -/

/-- A group record. -/
def groupCheck (r : List Byte) : Option Nat :=
  first [bad (leAt r 8 8 != 0) 0x0401,
    bad (decide (63 < leAt r 1 1) || decide (3 < leAt r 2 2) || decide (popCount 32 (leAt r 4 4) < 2)) 0x0404]

/-- A stream record whose tensor goes to an Array operand channel (R107): it reads, and names channel 0 or 1 of an Array (R405). -/
def toArrayChannel (r : List Byte) : Bool :=
  let sid := leAt r 96 2
  !(descOf r).write && (match streamStation sid with | some (kind, _) => kind = 0 && decide ((sid - 16384) % 4 < 2) | none => false)

/-- A stream record: its descriptor (R122), then its stream fields. -/
def Device.affineCheck (d : Device) (regions : List Region) (r : List Byte) : Option Nat :=
  let g := leAt r 99 1
  first [(match d.bindTensor (r.take 96) regions (toArrayChannel r) with | .inl c => some c | .inr _ => none),
    bad (bitsOf (leAt r 98 1) 2 6 != 0 || leAt r 109 1 != 0 || leAt r 114 14 != 0) 0x0401,
    bad (leAt r 104 4 = 0 || (decide (63 < g) && g != 0xFF)) 0x0404]

/-- The records of an AFFINE section, in offset order; one that reaches beyond the section is refused. -/
def Device.affinesCheck (d : Device) (regions : List Region) (sec : List Byte) : (fuel p : Nat) → Option Nat
  | 0, _ => none
  | f + 1, p =>
    if sec.length ≤ p then none
    else if leAt sec p 1 = 1 then
      if sec.length < p + 16 then some 0x0404
      else match groupCheck ((sec.drop p).take 16) with
        | some c => some c
        | none => d.affinesCheck regions sec f (p + 16)
    else
      let q := alignUp p 32
      if sec.length < q + 128 then some 0x0404
      else match d.affineCheck regions ((sec.drop q).take 128) with
        | some c => some c
        | none => d.affinesCheck regions sec f (q + 128)

/-- The companion descriptors read at validation, and the descriptors accepted under R113. -/
def Device.planCompanions (d : Device) (b : List Byte) : Map (List Byte) × Nat :=
  let ts := (imgDies b).flatMap (fun k => (affinesOf b k).map (fun r => (k, r)))
  ts.foldl (fun (acc : Map (List Byte) × Nat) x =>
    let t := descOf x.2.desc
    let m := if t.layout = 1 then acc.1.put t.scaleDesc (d.read t.scaleDesc 96) else acc.1
    let m := if t.indexed then m.put t.indexDesc (d.read t.indexDesc 96) else m
    match (tensorWith x.2.desc (fun a => d.read a 96)).validate (regionsOf b x.1) (d.fld Reg.TENSOR_CTRL Fd.TENSOR_CTRL_ALIAS_CHECK = 1) (toArrayChannel x.2.desc) with
    | .inr n => (m, acc.2 + bitP (0 < n))
    | .inl _ => (m, acc.2)) ([], 0)

/-! ### Check 9: GATES and SYNC (R201, R202, R227) -/

/-- Record `i` of a GATES section, with the records before it and the Lifts of its die. -/
def gateRecordCheck (lifts : List LiftRec) (rs : List (List Byte)) (i : Nat) : Option Nat :=
  let r := rs.getD i []
  let c := gateClass r
  let ar := c.arity
  let before := (rs.take i).map gateClass
  let named (j : Nat) := lifts.find? (fun l => l.id = leAt r (16 + 2 * j) 2)
  first [
    bad (bitsOf (leAt r 1 1) 4 4 != 0 || bitsOf (leAt r 2 2) 12 4 != 0 || bitsOf (leAt r 4 1) 3 5 != 0 || bitsOf (leAt r 5 1) 3 5 != 0
      || bitsOf (leAt r 6 1) 4 4 != 0 || leAt r 7 1 != 0 || bitsOf (leAt r 8 4) 20 12 != 0 || leAt r 14 2 != 0) 0x0601,
    bad (leAt r 0 1 != 1 || c.flowMode = 3 || c.delayMode = 3) 0x0602,
    bad (ar = 0 || decide (4 < ar) || (c.flowMode = 0 && c.flowBase != 0) || (c.delayMode = 0 && c.delay != 0)
      || (List.range 4).any (fun j => if j < ar then leAt r (24 + 2 * j) 2 = 0 || decide (512 < leAt r (24 + 2 * j) 2)
          else leAt r (16 + 2 * j) 2 != 0 || leAt r (24 + 2 * j) 2 != 0)) 0x0604,
    bad (before.any (fun x => x.cluster = c.cluster && x.cls = c.cls)) 0x0615,
    bad ((List.range ar).any (fun j => match named j with | some l => !(l.consumer.cluster && l.consumer.num = c.cluster) | none => false)
      || !distinct c.inputs || before.any (fun x => x.inputs.any (fun l => l ∈ c.inputs))) 0x0611,
    bad (decide (1 < ar) && (List.range ar).any (fun j => match named j with | some l => l.producers.length != 1 | none => false)) 0x0614]

def gatesCheck (b : List Byte) (die : Nat) (sec : List Byte) : Option Nat :=
  match recordsOf sec 7 with
  | none => some 0x0604
  | some l =>
    let rs := l.map (·.2)
    let lifts := liftsOf b die
    let cs := rs.map gateClass
    first [firstOf (List.range rs.length) (gateRecordCheck lifts rs),
      bad (cs.any (fun c => decide (512 < (cs.filter (fun x => x.cluster = c.cluster)).foldl (fun n x => n + x.quotas.foldl (· + ·) 0) 0))) 0x0612,
      bad (lifts.any (fun l => l.consumer.cluster && !(cs.any (fun c => c.cluster = l.consumer.num && l.id ∈ c.inputs)))) 0x0611]

def syncRecordCheck (rs : List (List Byte)) (i : Nat) : Option Nat :=
  let r := rs.getD i []
  first [bad (bitsOf (leAt r 2 1) 1 7 != 0 || leAt r 3 1 != 0) 0x0601, bad (bitAt (leAt r 2 1) 0 && leAt r 4 4 != 0) 0x0604,
    bad ((rs.take i).any (fun q => leAt q 0 2 = leAt r 0 2)) 0x0616]

def syncSecCheck (sec : List Byte) : Option Nat :=
  match recordsOf sec 8 with
  | none => some 0x0604
  | some l => firstOf (List.range l.length) (syncRecordCheck (l.map (·.2)))

/-! ### Check 9: TABLES (R365, R367) -/

/-- FP32 below 0. -/
def f32Below0 (x : Nat) : Bool := (f32 x).lt (f32 0)

/-- A table record; `ids` are the TABLE_IDs of the plan, `oneDie` that the section names one die only. -/
def tableRecordCheck (b : List Byte) (ids : List Nat) (oneDie : Bool) (r : List Byte) : Option Nat :=
  let x := tableRec r
  first [
    bad (bitsOf (leAt r 4 1) 4 4 != 0 || bitsOf (leAt r 7 1) 2 6 != 0 || leAt r 60 4 != 0 || leAt r 72 56 != 0) 0x0C01,
    bad (decide (4 < x.elem) || decide (3 < x.opt) || decide (1 < x.outElem)) 0x0C02,
    bad (decide (63 < x.id) || x.rows = 0 || x.cols = 0 || decide (4096 < x.cols) || x.colCount = 0 || decide (1024 < x.colCount)
      || decide (2 ^ 24 < x.cacheSets) || decide (2 ^ 24 < x.areaSets)
      || (if x.opt = 0 then x.logEntries != 0 else x.logEntries = 0 || decide (2 ^ 26 < x.logEntries)) || decide (x.cols < x.colFirst + x.colCount)) 0x0C04,
    bad (decide (1 < (ids.filter (fun i => i = x.id)).length) || !oneDie || x.hasCache != decide (0 < x.cacheSets) || x.hasArea != decide (0 < x.areaSets)
      || x.gatherMask = 0 || (x.opt != 0 && !within x.applyPu (imgB2 b) (imgB3 b - 1))
      || !(f32Finite x.lr && f32Finite x.eps && f32Finite x.beta1 && f32Finite x.beta2) || f32Below0 x.eps
      || (x.opt = 3 && [x.beta1, x.beta2].any (fun v => f32Below0 v || !(f32 v).lt (f32 0x3F80_0000)))
      || (!x.hasCache && x.cacheRegion != 0) || (!x.hasArea && x.areaRegion != 0) || (decide (x.opt < 2) && x.eps != 0)
      || (x.opt != 3 && (x.beta1 != 0 || x.beta2 != 0)) || (imgGroupSize b = 1 && (x.colFirst != 0 || x.colCount != x.cols))) 0x0C10]

/-- The TABLE_IDs of the plan, section by section. -/
def planTableIds (b : List Byte) : List Nat :=
  ((secEntries b).filter (fun e => e.type = 9)).flatMap (fun e => ((recordsOf ((b.drop e.off).take e.len) 9).getD []).map (fun p => leAt p.2 0 2))

def tablesCheck (b : List Byte) (die : Nat) (sec : List Byte) : Option Nat :=
  let mask := match (dieEntries b die).find? (fun e => e.type = 9) with | some e => e.dieMask | none => 0
  recordsCheck sec 9 0x0C04 (tableRecordCheck b (planTableIds b) (popCount 4 mask = 1))

/-! ### Check 9: SHARD (R454, R455) -/

/-- Bytes of a map record, and the length the records of a section take. -/
def mapBytes (x : ShardMap) : Nat := 16 + 8 * x.parts.length
def shardLength (b : List Byte) : Nat := (shardMaps b).foldl (fun n x => n + mapBytes x) (alignUp (64 + 8 * leAt b 1 2) 64)

/-- Some RSV field of the header and the claims is not 0. -/
def shardRsv (b : List Byte) : Bool :=
  nonzero b 4 60 || (List.range (leAt b 1 2)).any (fun i => decide (63 < leAt b (64 + 8 * i) 1) || decide (31 < leAt b (65 + 8 * i) 1) || leAt b (70 + 8 * i) 2 != 0)

/-- The map records, in order: RSV fields, then KIND. -/
def shardMapsCheck (b : List Byte) : (n o : Nat) → Option Nat
  | 0, _ => none
  | n + 1, o =>
    let kind := leAt b (o + 1) 1
    first [bad (leAt b (o + 2) 2 != 0 || leAt b (o + 12) 4 != 0) 0x0E01, bad (decide (3 < kind)) 0x0E02,
      shardMapsCheck b n (o + (if kind ≤ 1 then 16 + 8 * shardMembers b else 16))]

/-- R455: the parts of a ROWS or COLS map cover its extent without overlap. -/
def ShardMap.covers (x : ShardMap) : Bool :=
  if 1 < x.kind then true
  else
    let extent := if x.kind = 0 then x.rows else x.cols
    let ps := sortBy (·.1) (x.parts.filter (fun p => p.2 != 0))
    x.parts.all (fun p => decide (p.1 + p.2 ≤ extent))
      && (ps.foldl (fun (e : Option Nat) p => match e with | some n => if p.1 = n then some (n + p.2) else none | none => none) (some 0)) = some extent

/-- The SHARD section of the lowest-numbered die of the plan. -/
def planShard (b : List Byte) : List Byte := ((imgDies b).findSome? (fun k => sectionOf b k 10)).getD []

def Device.shardCheck (d : Device) (b sec : List Byte) : Option Nat :=
  let cs := shardClaims sec
  let ms := shardMaps sec
  let n := shardMembers sec
  first [bad (shardRsv sec) 0x0E01, shardMapsCheck sec (leAt sec 3 1) (alignUp (64 + 8 * leAt sec 1 2) 64), bad (!d.groupEnabled) 0x0E05,
    bad (sec.length != shardLength sec) 0x0E10, bad (n = 0 || decide (32 < n) || decide (2048 < leAt sec 1 2) || decide (64 < leAt sec 3 1) || cs.any (fun c => c.2.2.2 = 0 || decide (1024 < c.2.2.2))
      || ms.any (fun x => decide (63 < x.id) || x.rows = 0 || x.cols = 0)) 0x0E04,
    bad (cs.any (fun c => decide (n ≤ c.2.1)) || !distinct (cs.map (fun c => 32 * c.1 + c.2.1))
      || !distinct (ms.map (·.id)) || ms.any (fun x => !x.covers) || decide (n ≤ d.fld Reg.GROUP_CTRL Fd.GROUP_CTRL_MEMBER_ID) || sec != planShard b) 0x0E10]

/-! ### What an image names -/

def imgStreams (b : List Byte) (die : Nat) : List StreamRec := pistesOf b die ++ affinesOf b die
def imgStream (b : List Byte) (die sid : Nat) : Option StreamRec := (imgStreams b die).find? (fun r => r.sid = sid)
def imgLift (b : List Byte) (die lift : Nat) : Option LiftRec := (liftsOf b die).find? (fun r => r.id = lift)
def imgPool (b : List Byte) (die pool : Nat) : Option PoolRec := (poolsOf b die).find? (fun r => r.id = pool)
def imgRegion (b : List Byte) (die id : Nat) : Option Region := (regionsOf b die).find? (fun r => r.id = id)
def imgHasStation (b : List Byte) (die kind k : Nat) : Bool := (stationsOf b die).any (fun s => s.kind = kind && s.index = k)
def imgPlaced (b : List Byte) (die p : Nat) : Bool := (placementsOf b die).any (fun r => r.cluster = p)
def imgHasStage (b : List Byte) (die id : Nat) : Bool := (stagesOf b die).any (fun s => s.id = id)
/-- Some die of the plan defines the Lift. -/
def imgLiftAny (b : List Byte) (lift : Nat) : Bool := (imgDies b).any (fun k => (imgLift b k lift).isSome)
/-- A Lift of the number, on some die of the plan, names the endpoint among its producers. -/
def imgProduces (b : List Byte) (e : Endpoint) (lift : Nat) : Bool :=
  (imgDies b).any (fun k => (liftsOf b k).any (fun r => r.id = lift && e ∈ r.producers))

/-- The consumer of a Lift of the die is a channel of a station. -/
def consumedBy (b : List Byte) (die lift kind k c : Nat) : Bool :=
  (imgLift b die lift).any (fun l => l.consumer = { cluster := false, die := die, num := stationStream kind k c })
def producedBy (b : List Byte) (die lift kind k c : Nat) : Bool := imgProduces b { cluster := false, die := die, num := stationStream kind k c } lift
/-- The record of a channel, where there is one, is of the direction and names the Lift. -/
def channelRec (b : List Byte) (die kind k c : Nat) (write : Bool) (lift : Nat) : Bool :=
  (imgStream b die (stationStream kind k c)).all (fun r => (if r.affine then (descOf r.desc).write else r.write) = write && r.lift = lift)
def channelFree (b : List Byte) (die kind k c : Nat) : Bool := (imgStream b die (stationStream kind k c)).isNone
def producersOf (b : List Byte) (die lift : Nat) : Nat := ((imgLift b die lift).map (·.producers.length)).getD 0
def poolHas (b : List Byte) (die pool n : Nat) : Bool := (imgPool b die pool).any (fun p => decide (n ≤ p.count))

/-- Channel 0 of a station as the consumer of its input Lift, with the record it may carry (R239, R298, R319, R341, R371). -/
def inBound (b : List Byte) (die kind k lift : Nat) : Bool := consumedBy b die lift kind k 0 && channelRec b die kind k 0 false lift
/-- Channel 1 of a station among the producers of its output Lift, with the record it may carry. -/
def outBound (b : List Byte) (die kind k lift : Nat) : Bool := producedBy b die lift kind k 1 && channelRec b die kind k 1 true lift

/-! ### Check 9: station configurations -/

/-- An OUT_COLUMN_ID kept for the device (R242). -/
def columnKept (c : Nat) : Bool := within c 0xFFF0 0xFFFE

/-- R240: the fields in ascending offset (R76). -/
def ingestCfgCheck (c : List Byte) : Option Nat :=
  first [bad (decide (1 < leAt c 6 1)) 0x0702, bad (leAt c 8 8 != 0) 0x0701,
    firstOf (ingestCfg c).terms (fun t => first [bad (decide (9 < leAt t 2 1)) 0x0702, bad (leAt t 3 5 != 0) 0x0701]),
    bad (leAt c 112 16 != 0) 0x0701, bad (c.length != 128) 0x0704]

/-- R268, with the plan's regions of the die. -/
def packCfgCheck (regions : List Region) (c : List Byte) : Option Nat :=
  let x := packCfg c
  first [bad (nonzero c 24 40) 0x0801, bad (decide (1 < x.mode) || elemBits x.elem = 0) 0x0802,
    bad (!within x.rowLen 1 4194304 || x.rowsMax = 0 || !within x.slots 1 8 || decide (15 < leAt c 15 1) || x.budget = 0 || c.length != 64) 0x0804,
    bad (elemBlock x.elem || (elemBits x.elem = 4 && x.rowLen % 2 = 1) || decide (2 ^ 31 ≤ x.slotBytes)
      || regions.any (fun r => r.id = x.slotRegion && decide (r.size < x.slots * x.slotBytes)) || decide (65536 < x.maxSamples)) 0x0810]

/-- Boundaries of BUCKET in strictly ascending order. -/
def boundsAscend (lt : Nat → Nat → Bool) (l : List Nat) : Bool := (l.zip (l.drop 1)).all (fun x => lt x.1 x.2)

/-- ARITY above 1 asks for an input Lift with one producer (R299, R320); a Lift that is not defined is left to check 10. -/
def arityOk (b : List Byte) (die lift arity : Nat) : Bool := arity ≤ 1 || (imgLift b die lift).all (fun l => l.producers.length = 1)
/-- A pool has at least `n` buffers; one that is not defined is left to check 10. -/
def poolEnough (b : List Byte) (die pool n : Nat) : Bool := (imgPool b die pool).all (fun p => decide (n ≤ p.count))
/-- R319, R341 at check 9: each Lift that is defined is bound as the station's channel, whatever the other is, and each record of a channel
is the one it may carry; a Lift that is not defined is left to check 10. -/
def bindingOk (b : List Byte) (die kind k inLift outLift : Nat) : Bool :=
  ((imgLift b die inLift).isNone || consumedBy b die inLift kind k 0) && channelRec b die kind k 0 false inLift
    && (!imgLiftAny b outLift || producedBy b die outLift kind k 1) && channelRec b die kind k 1 true outLift

/-- R299 of instance `k` of a die; the bindings of R298 are checked with the references. -/
def hashCfgCheck (b : List Byte) (die : Nat) (c : List Byte) : Option Nat :=
  let x := hashCfg c
  let nan (v : Nat) : Bool := (f32 v).isNan
  first [
    bad (leAt c 56 8 != 0 || (decide (x.op ≤ 6) && ((decide (2 < x.op) && x.seed != 0) || (!within x.op 1 3 && x.n != 0) || (x.op != 1 && x.base != 0)
      || (x.op != 4 && x.outElem != 0) || (!within x.op 3 4 && x.submode != 0) || (x.op = 3 && x.submode = 1 && x.bounds.any (fun v => v / 2 ^ 32 != 0))))) 0x0901,
    bad (decide (6 < x.op) || decide (1 < x.submode) || (x.op = 4 && !(x.outElem ≤ 9 && x.outElem != 5))) 0x0902,
    bad (!within x.arity 1 (if x.op ≤ 2 then 4 else 1) || (x.op = 1 && x.n = 0) || (x.op = 2 && !within x.n 1 4096) || (x.op = 3 && !within x.n 1 1024)
      || c.length != (if x.op = 3 then 64 + 8 * x.n else 64) || columnKept x.outCol) 0x0904,
    bad (decide (2 ^ 32 < x.base + x.n) || nan x.a || nan x.b || nan x.lo || nan x.hi || (f32 x.hi).lt (f32 x.lo) || !arityOk b die x.inLift x.arity
      || !poolEnough b die x.outPool (if x.op = 2 then 3 else 1)) 0x0910,
    bad (x.op = 3 && (if x.submode = 0 then !boundsAscend (fun p q => decide (toSigned 64 p < toSigned 64 q)) x.bounds
      else x.bounds.any nan || !boundsAscend (fun p q => (f32 p).lt (f32 q)) x.bounds)) 0x0914]

/-- R320 of leader `k` of a die, with the other leaders of the die. -/
def matchCfgCheck (b : List Byte) (die k : Nat) (others : List (Nat × MatchCfg)) (c : List Byte) : Option Nat :=
  let x := matchCfg c
  first [
    bad (bitsOf (leAt c 8 1) 4 4 != 0 || bitsOf (leAt c 9 1) 3 5 != 0 || leAt c 12 4 != 0 || nonzero c 32 32
      || (List.range 4).any (fun i => if i < x.arity then bitsOf (leAt c (24 + 2 * i) 2) 9 7 != 0 else leAt c (24 + 2 * i) 2 != 0)) 0x0A01,
    bad (decide (2 < x.mode)) 0x0A02, bad (!within x.arity 1 4 || decide (4 < x.g) || columnKept x.outCol || c.length != 64) 0x0A04,
    bad (k % 2 ^ x.g != 0 || (x.wide && x.g = 0)
      || (x.banks k).any (fun p => others.any (fun o => p ∈ o.2.banks o.1)) || x.offsets.any (fun o => o % 8 != 0 || decide (x.keyWidth ≤ o))
      || !arityOk b die x.inLift x.arity || !poolEnough b die x.outPool 2 || !bindingOk b die 1 k x.inLift x.outLift
      || ((x.banks k).drop 1).any (fun p => !channelFree b die 1 p 0 || !channelFree b die 1 p 1)) 0x0A10]

/-- R342 of instance `k` of a die, with the plan's regions of the die. -/
def selectCfgCheck (b : List Byte) (die k : Nat) (regions : List Region) (c : List Byte) : Option Nat :=
  let x := selectCfg c
  let size := if x.op = 1 then x.openRows * 524288 else x.openRows * 512 * x.k
  first [bad (bitsOf (leAt c 7 1) 3 5 != 0 || leAt c 19 1 != 0 || nonzero c 24 40) 0x0B01, bad (decide (2 < x.op)) 0x0B02,
    bad ((if x.op = 1 then x.k != 0 else !within x.k 1 65536) || !within x.openRows 1 8 || (if x.op = 2 then !within x.experts 1 65536 else x.experts != 0)
      || c.length != 64) 0x0B04,
    bad ((if x.expsum then !f32Positive x.scale else x.scale != 0) || (x.op = 2 && x.indexed)
      || regions.any (fun r => r.id = leAt c 16 2 && decide (r.size < size))
      || !poolEnough b die (leAt c 4 2) 2 || !bindingOk b die 2 k (leAt c 0 2) (leAt c 2 2)) 0x0B10]

/-- R372, R456. -/
def gatherCfgCheck (c : List Byte) : Option Nat := first [bad (nonzero c 11 53) 0x0C01, bad (c.length != 64) 0x0C04]
def travCfgCheck (c : List Byte) : Option Nat := first [bad (nonzero c 6 10) 0x0E01, bad (c.length != 16) 0x0E04]

/-- R407. -/
def arrCfgCheck (c : List Byte) : Option Nat :=
  let mode := leAt c 10 1
  let b := c.drop 16
  let x := arrCmd b
  first [bad (leAt c 11 1 != 0) 0x0D01, bad (decide (1 < mode)) 0x0D02, bad (c.length != (if mode = 0 then 16 else 16 + x.length)) 0x0D04,
    bad (mode = 1 && (decide (3 < x.op) || decide (5 < x.act) || [x.outElem, x.aElem, x.wElem].any (fun e => elemBits e = 0))) 0x0D02,
    bad (mode = 1 && !x.check1 b) 0x0D11, bad (mode = 1 && !x.check2) 0x0D12]

/-- The configuration of a station record, with the other records of its die. -/
def stationCfgCheck (b : List Byte) (s : StationRec) : Option Nat :=
  let regions := regionsOf b s.die
  match s.kind with
  | 0 => arrCfgCheck s.config
  | 1 => matchCfgCheck b s.die s.index (((stationsOf b s.die).filter (fun x => x.kind = 1 && x.index != s.index)).map (fun x => (x.index, matchCfg x.config))) s.config
  | 2 => selectCfgCheck b s.die s.index regions s.config
  | 3 => ingestCfgCheck s.config
  | 4 => gatherCfgCheck s.config
  | 5 => hashCfgCheck b s.die s.config
  | 6 => packCfgCheck regions s.config
  | _ => travCfgCheck s.config

/-- The STATIONS section of a die: the records in order, then the configurations they name (DESIGN CHOICE, log 101). -/
def stationsCheck (b : List Byte) (die : Nat) (sec : List Byte) : Option Nat :=
  first [recordsCheck sec 2 0x0204 (stationCheck sec.length), firstOf (stationsOf b die) (stationCfgCheck b)]

/-! ### Check 9 -/

/-- The section of a type of a die.  The Lifts of a die without a GATES section have no Gate for consumer (R202). -/
def Device.sectionCheck (d : Device) (b : List Byte) (die type : Nat) : Option Nat :=
  match sectionOf b die type with
  | none => if type = 7 then gatesCheck b die [] else none
  | some sec =>
    match type with
    | 2 => stationsCheck b die sec
    | 4 => liftsCheck b die sec
    | 5 => pistesCheck (sec.length + 1) sec
    | 6 => d.affinesCheck (regionsOf b die) sec (sec.length + 1) 0
    | 7 => gatesCheck b die sec
    | 8 => syncSecCheck sec
    | 9 => tablesCheck b die sec
    | 10 => d.shardCheck b sec
    | _ => d.basicCheck b die type sec

/-- Check 9: die C0 first, its sections in ascending TYPE. -/
def Device.planCheck9 (d : Device) (b : List Byte) : Option Nat :=
  firstOf (imgDies b) (fun k => firstOf [1, 2, 3, 4, 5, 6, 7, 8, 9, 10, 11] (d.sectionCheck b k))

/-! ### Check 10 -/

/-- The owner of a local stream ID is part of the plan: its cluster is placed, or its station instance is listed. -/
def imgOwner (b : List Byte) (die sid : Nat) : Bool :=
  if sid < 16384 then imgPlaced b die (sid / 4)
  else match streamStation sid with | some (kind, k) => imgHasStation b die kind k | none => false

/-- R148: an endpoint within the plan. -/
def endpointIn (b : List Byte) (e : Endpoint) : Bool :=
  bitAt (imgDieMask b) e.die && (if e.cluster then imgPlaced b e.die e.num else imgOwner b e.die e.num)

/-- LIFTS: the region of every pool, the endpoints of every Lift. -/
def liftRefs (b : List Byte) (die : Nat) : Option Nat :=
  firstOf (dieRecords b die 4) (fun r =>
    if leAt r 0 1 = 2 then bad (imgRegion b die (leAt r 4 2)).isNone 0x021D
    else bad (!(((endpointRaw r).take (1 + leAt r 1 1)).all (fun v => endpointIn b (endpointOf v)))) 0x0415)

/-- R133: a stream record bound to its Lift: a read record among its producers, a write record as its consumer. -/
def streamBound (b : List Byte) (die : Nat) (write : Bool) (r : StreamRec) : Bool :=
  let e : Endpoint := { cluster := false, die := die, num := r.sid }
  if write then (imgLift b die r.lift).any (fun l => l.consumer = e) else imgProduces b e r.lift

/-- The references every stream record makes. -/
def streamRefs (b : List Byte) (die : Nat) (write : Bool) (r : StreamRec) : Option Nat :=
  first [bad (!imgOwner b die r.sid || !imgHasStage b die r.stage || (if write then (imgLift b die r.lift).isNone else !imgLiftAny b r.lift)
      || (!write && (imgPool b die r.pool).isNone)) 0x021D]

/-- The regions a Piste program's SETA words name. -/
def setaRegions (r : StreamRec) : List Nat := (r.instrs.filter (fun w => bitsOf w 0 6 = 1)).map (fun w => bitsOf w 8 16)

/-- PISTE records.  A reserved local stream ID (16,808 and above) names no channel of R127 and resolves to none: the model takes the code
0x041E, not 0x021D of R76 (DESIGN CHOICE, log 106). -/
def pisteRefs (b : List Byte) (die : Nat) : Option Nat :=
  firstOf (pistesOf b die) (fun r => first [
    bad (decide (16808 ≤ r.sid) || (match streamStation r.sid with | some (k, _) => k = 0 || k = 7 | none => false)) 0x041E,
    streamRefs b die r.write r, bad ((setaRegions r).any (fun x => (imgRegion b die x).isNone)) 0x021D, bad (!streamBound b die r.write r) 0x041E])

/-- The group records of the plan, section by section. -/
def planGroups (b : List Byte) : List McastGroup :=
  ((secEntries b).filter (fun e => e.type = 6)).flatMap (fun e =>
    let sec := (b.drop e.off).take e.len
    (affineWalk sec sec.length 0).filterMap (fun x => match x with | .inl g => some g | .inr _ => none))

/-- AFFINE records.  R133 calls them read records and R405 allows a write record on Array channel 3: that one is bound as the consumer of
its LIFT (DEDUCED, log 106). -/
def affineRefs (b : List Byte) (die : Nat) : Option Nat :=
  firstOf (affinesOf b die) (fun r =>
    let w := (descOf r.desc).write
    first [bad (match streamStation r.sid with | some (k, _) => k != 0 | none => true) 0x041E, streamRefs b die w r,
      bad (r.group != 0xFF && !(planGroups b).any (fun g => g.id = r.group)) 0x021D, bad (!streamBound b die w r) 0x041E])

/-- R138, over the plan. -/
def groupRefs (b : List Byte) : Option Nat :=
  let gs := planGroups b
  let srcs := (imgDies b).flatMap (fun k => ((affinesOf b k).filter (fun r => r.groupSource)).map (fun r => (k, r)))
  bad (!distinct (gs.map (·.id)) || !distinct (gs.flatMap (fun g => (onesBelow 32 g.members).map (fun i => 4 * i + g.channel)))
    || gs.any (fun g => (srcs.filter (fun x => x.2.group = g.id)).length != 1)
    || srcs.any (fun x => match gs.find? (fun g => g.id = x.2.group) with
        | none => true
        | some g => !(gsid x.1 x.2.sid ∈ g.streams))) 0x0417

def gateRefs (b : List Byte) (die : Nat) : Option Nat :=
  firstOf (gateClassesOf b die) (fun c => bad (!imgPlaced b die c.cluster || c.inputs.any (fun l => (imgLift b die l).isNone)) 0x021D)

/-- R366: a region of a table, of one of the tiers and of at least a size. -/
def tableRegionOk (b : List Byte) (die id : Nat) (tiers : List Nat) (size : Nat) : Bool :=
  (imgRegion b die id).any (fun r => r.tier ∈ tiers && decide (size ≤ r.size) && !r.shared && !r.staging)

/-- R367 at check 10. -/
def tableRefs (b : List Byte) (die : Nat) : Option Nat :=
  firstOf (tablesOf b die) (fun x =>
    let regions := [x.homeRegion, x.ctrlRegion] ++ (if x.hasCache then [x.cacheRegion] else []) ++ (if x.hasArea then [x.areaRegion] else [])
    let homeTier := ((imgRegion b die x.homeRegion).map (·.tier)).getD 0
    first [
      bad (regions.any (fun r => (imgRegion b die r).isNone) || (if x.updateStage = 0xFF then x.opt != 0 else !imgHasStage b die x.updateStage)
        || (onesBelow 16 x.gatherMask).any (fun k => !imgHasStation b die 4 k) || ((x.hasCache || x.hasArea) && !imgHasStation b die 7 x.traverse)) 0x021D,
      bad (!tableRegionOk b die x.homeRegion [0, 1] (x.rows * x.rrec) || !tableRegionOk b die x.ctrlRegion [0, 2] x.ctrlBytes
        || (x.hasCache && !tableRegionOk b die x.cacheRegion [2] ((8 * x.cacheSets + x.migMax) * x.rrec))
        || (x.hasArea && (homeTier != 1 || !tableRegionOk b die x.areaRegion [0] ((8 * x.areaSets + x.migMax) * x.rrec)))) 0x0C11,
      bad (x.updateStage != 0xFF && (stagesOf b die).any (fun s => s.id = x.updateStage && decide (x.applyPu < s.commit))) 0x0C10])

/-- A field names nothing, or what it names breaks a binding rule of the block. -/
def refOr (resolves bound : Bool) (code : Nat) : Option Nat := if !resolves then some 0x021D else bad (!bound) code

/-- The references and bindings of a station's configuration: the fields in ascending offset, each against its reference and its binding
before the next (R76); the channels that no field names come last. -/
def stationRefs10 (b : List Byte) (s : StationRec) : Option Nat :=
  let die := s.die
  let k := s.index
  let inL := leAt s.config 0 2
  let outL := leAt s.config 2 2
  let pool := leAt s.config 4 2
  let ch (c : Nat) := stationStream s.kind k c
  let lift (l : Nat) : Bool := (imgLift b die l).isSome
  let hasPool (p : Nat) : Bool := (imgPool b die p).isSome
  let region (r : Nat) : Bool := (imgRegion b die r).isSome
  let inOut (code : Nat) (poolOk : Bool) : Option Nat :=
    first [refOr (lift inL) (inBound b die s.kind k inL) code, refOr (imgLiftAny b outL) (outBound b die s.kind k outL) code, refOr (hasPool pool) poolOk code]
  match s.kind with
  | 0 =>
    let x := arrCfg s.config
    let operand (l c : Nat) : Option Nat :=
      if l = 0xFFFF then bad (!channelFree b die 0 k c) 0x0D10
      else refOr (lift l) (consumedBy b die l 0 k c && channelRec b die 0 k c false l) 0x0D10
    first [refOr (lift x.cmdLift) (consumedBy b die x.cmdLift 0 k 2 && producersOf b die x.cmdLift = 1 && channelFree b die 0 k 2) 0x0D10,
      operand x.aLift 0, operand x.wLift 1,
      refOr (imgLiftAny b x.outLift) (producedBy b die x.outLift 0 k 3 && channelRec b die 0 k 3 true x.outLift) 0x0D10,
      refOr (hasPool x.outPool) true 0x0D10]
  | 1 => inOut 0x0A10 true
  | 2 => first [inOut 0x0B10 true, refOr (region (leAt s.config 16 2)) true 0x0B10]
  | 3 => inOut 0x0710 (poolHas b die pool (ingestCfg s.config).maxBufs)
  | 4 => first [inOut 0x0C12 true, bad (!channelFree b die 4 k 2 || !channelFree b die 4 k 3) 0x0C12]
  | 5 => inOut 0x0910 true
  | 6 => first [refOr (lift inL) (consumedBy b die inL 6 k 0 && channelFree b die 6 k 0) 0x0810, refOr (region outL) true 0x0810, refOr (region pool) true 0x0810,
      bad (!(imgStream b die (ch 1)).any (fun r => !r.write && r.taskHead)) 0x0810]
  | _ =>
    first [refOr (lift inL) ((List.range 4).any (fun c => consumedBy b die inL 7 k c) && producersOf b die inL = 1) 0x0E11,
      (if outL = 0xFFFF then none else refOr (imgLiftAny b outL) ((List.range 4).any (fun c => producedBy b die outL 7 k c)) 0x0E11),
      refOr (region pool) ((imgRegion b die pool).any (·.staging)) 0x0E11,
      bad ((affinesOf b die).any (fun r => (List.range 4).any (fun c => r.sid = ch c))) 0x0E11]

/-- Check 10: die C0 first, the sections of a die in ascending TYPE; then the groups; then the relations between stages. -/
def planCheck10 (b : List Byte) : Option Nat :=
  first [firstOf (imgDies b) (fun k => first [firstOf (stationsOf b k) (stationRefs10 b), liftRefs b k, pisteRefs b k, affineRefs b k, gateRefs b k,
      tableRefs b k, firstOf (stagesOf b k) (fun s => bad (s.next != 0xFF && !imgHasStage b k s.next) 0x021D)]),
    groupRefs b, firstOf (imgDies b) (fun k => stageRelations (stagesOf b k))]

/-! ### Check 11 -/

def Region.overlaps (x y : Region) : Bool := decide (x.base < y.base + y.size) && decide (y.base < x.base + x.size)

/-- R66: regions overlap only where both are SHARED. -/
def regionsOverlap (l : List Region) : Bool :=
  match l with
  | [] => false
  | x :: r => r.any (fun y => x.overlaps y && !(x.shared && y.shared)) || regionsOverlap r

/-- R500: a region of a tier or a die window that is not ready. -/
def Device.regionReady (d : Device) (r : Region) : Bool :=
  match r.tier with
  | 0 =>
    let w := r.base / 0x0040_0000_0000
    (List.range ((r.base + r.size - 1) / 0x0040_0000_0000 - w + 1)).all (fun i => d.hbmReady (w + i))
  | 1 => d.fld Reg.MEM_STATUS Fd.MEM_STATUS_DDR_READY = 1
  | 2 => (List.range 4).any (fun k => decide (bondedBase k ≤ r.base) && decide (r.base < bondedBase k + 12 * 2 ^ 30) && d.bondedReady k)
  | _ => true

def Device.planCheck11 (d : Device) (b : List Byte) : Option Nat :=
  bad ((imgDies b).any (fun k =>
    let rs := regionsOf b k
    let st := stationsOf b k
    decide (4096 < (liftsOf b k).length) || decide (65536 < (syncsOf b k).length) || decide (65536 < ((gateClassesOf b k).filter (fun c => c.flowMode != 0)).length)
      || decide (64 < (stagesOf b k).length) || !distinct ((placementsOf b k).map (·.cluster)) || !distinct (st.map (fun s => 64 * s.kind + s.index))
      || !distinct ((imgStreams b k).map (·.sid)) || !distinct (rs.map (·.id)) || !distinct ((stagesOf b k).map (·.id)) || !distinct ((liftsOf b k).map (·.id))
      || !distinct ((poolsOf b k).map (·.id)) || regionsOverlap rs || rs.any (fun r => !d.regionReady r))) 0x021E

/-! ### Check 12 (R80, R81, R320, R544) -/

/-- R81: the cluster is fenced, or a cell of the mask is. -/
def Device.unusable (d : Device) (die p mask : Nat) : Bool :=
  d.fault.fmap.any (fun e => e.2.coversCluster (4096 * die + p)
    || (e.2.kind = 1 && e.2.die = die && 64 * e.2.block + e.2.cluster = p && bitAt mask e.2.cell))

/-- A station record names a unit in the fault map; a Match leader, any bank of its gang. -/
def Device.stationFenced (d : Device) (s : StationRec) : Bool :=
  let ks := if s.kind = 1 then (matchCfg s.config).banks s.index else [s.index]
  ks.any (fun k => d.fault.fmap.any (fun e => e.2.coversStation s.die s.kind k))

/-- The placement records of a die, in order: the moves, or the code of a refusal.  `named` holds the clusters named so far. -/
def Device.placeDie (d : Device) (die : Nat) : (rs : List Placement) → (named : List Nat) → List Move → List Move ⊕ Nat
  | [], _, ms => .inl ms
  | r :: rest, named, ms =>
    if !d.unusable die r.cluster r.mask then d.placeDie die rest named ms
    else if r.pinned then .inr 0x0221
    else match ((List.range 64).map (fun c => 64 * (r.cluster / 64) + c)).find? (fun q => !(q ∈ named) && !d.unusable die q r.mask) with
      | none => .inr 0x0220
      | some q => d.placeDie die rest (q :: named) (ms ++ [{ die := die, src := r.cluster, dst := q }])

def Device.placeDies (d : Device) (b : List Byte) : List Nat → List Move → List Move ⊕ Nat
  | [], ms => .inl ms
  | k :: ks, ms =>
    match d.placeDie k (placementsOf b k) ((placementsOf b k).map (·.cluster)) [] with
    | .inr c => .inr c
    | .inl m => d.placeDies b ks (ms ++ m)

/-- Check 12: the moves, or the code of the refusal. -/
def Device.planCheck12 (d : Device) (b : List Byte) : List Move ⊕ Nat :=
  if (imgDies b).any (fun k => d.dieContained k || (stationsOf b k).any d.stationFenced) then .inr 0x021F else d.placeDies b (imgDies b) []

/-! ### Check 13 (R76, R368) -/

def claimsOverlap (l : List (Nat × Nat × Nat × Nat)) : Bool :=
  match l with
  | [] => false
  | x :: r => r.any (fun y => x.1 = y.1 && x.2.1 != y.2.1 && decide (x.2.2.1 < y.2.2.1 + y.2.2.2) && decide (y.2.2.1 < x.2.2.1 + x.2.2.2)) || claimsOverlap r

def Device.planCheck13 (d : Device) (b : List Byte) : Option Nat :=
  if !((imgDies b).any (fun k => (sectionOf b k 10).isSome)) then none
  else
    let sec := planShard b
    let cs := shardClaims sec
    let me := d.fld Reg.GROUP_CTRL Fd.GROUP_CTRL_MEMBER_ID
    bad (shardMembers sec != imgGroupSize b || claimsOverlap cs
      || (imgDies b).any (fun k => (tablesOf b k).any (fun t => !cs.any (fun c => c.1 = t.id && c.2.1 = me && c.2.2.1 = t.colFirst && c.2.2.2 = t.colCount)))) 0x0222

/-- PLAN_LOAD of a stored image: check 5, then checks 9 to 13: the moves, or the code of the refusal. -/
def Device.planValidate (d : Device) (b : List Byte) : List Move ⊕ Nat :=
  match first [planCheck5 b, d.planCheck9 b, planCheck10 b, d.planCheck11 b] with
  | some c => .inr c
  | none =>
    match d.planCheck12 b with
    | .inr c => .inr c
    | .inl ms => match d.planCheck13 b with | some c => .inr c | none => .inl ms

end Sys2Proof.Machine
end

