-- ==== Sys2Proof/Machine/Plans.lean ====
section
/-!
DEFINITION. The plan library, the slots and the commands over them (chapter 3: R71 to R84).
-/

namespace Sys2Proof.Machine

def Device.updPlan (d : Device) (f : PlanUnit → PlanUnit) : Device := { d with plan := f d.plan }

/-- The owner keys of P, by slot number minus 1: provisioned and not revoked (R588). -/
def Device.ownerKeys (d : Device) : List (Option (List Byte)) :=
  d.fuses.owner.zipIdx.map (fun x => if bitAt d.fuses.revoked x.2 then none else x.1)

/-- R15, R17, R123: a plan command is refused with a code; one of another block is recorded by that block as well, on the die whose sections
it comes from. -/
def Device.planError (d : Device) (code : Nat) (die : Nat := 4) : Device :=
  let d := if code / 256 = 2 then d else d.refuse code die
  d.refuseAt Reg.PLAN_LAST_ERROR 2 code

def Device.planRefuse (d : Device) (m : MsgRef) (opcode code : Nat) (die : Nat := 4) : Device := (d.planError code die).respond m opcode code []

/-- The die whose sections or stations fail check 9 or 10. -/
def Device.failingDie (d : Device) (b : List Byte) : Nat :=
  ((imgDies b).find? (fun k => ([1, 2, 3, 4, 5, 6, 7, 8, 9, 10, 11].findSome? (d.sectionCheck b k)).isSome)).getD
    (((imgDies b).find? (fun k => (firstOf (stationsOf b k) (stationRefs10 b)).isSome || (first [liftRefs b k, pisteRefs b k, affineRefs b k, tableRefs b k]).isSome)).getD
      ((imgDies b).headD 0))

/-- R126: the device as it judges a library image: one judged before keeps the ALIAS_CHECK it was judged under. -/
def Device.judging (d : Device) (lib : Nat) : Device :=
  match d.plan.libAlias.get? lib with
  | some v => d.setFld Reg.TENSOR_CTRL Fd.TENSOR_CTRL_ALIAS_CHECK v
  | none => d

/-- The image of a library entry is held in a slot (R73). -/
def Device.entryHeld (d : Device) (lib : Nat) : Bool := d.plan.active.any (fun p => p.lib = lib) || d.plan.shadow.any (fun p => p.lib = lib)

/-- R595: after a VENDOR unlock the device accepts no plan. -/
def Device.noPlans (d : Device) : Bool := d.fld Reg.SEC_STATUS Fd.SEC_STATUS_DEBUG = 2

/-- PLAN_SHADOW_ID and PLAN_SHADOW_VER, PLAN_ACTIVE_ID and PLAN_ACTIVE_VER (R88, R90). -/
def Device.showIds (d : Device) : Device :=
  let id (p : Option Plan) : DWord := BitVec.ofNat 64 ((p.map (fun x => imgPlanId x.image)).getD 0)
  let ver (p : Option Plan) : DWord := BitVec.ofNat 64 ((p.map (fun x => imgVersion x.image)).getD 0)
  (((d.setReg Reg.PLAN_ACTIVE_ID (id d.plan.active)).setReg Reg.PLAN_ACTIVE_VER (ver d.plan.active)).setReg Reg.PLAN_SHADOW_ID
    (id d.plan.shadow)).setReg Reg.PLAN_SHADOW_VER (ver d.plan.shadow)

/-! ### PLAN_STORE and PLAN_EVICT (R72 to R75) -/

/-- Where the bytes of an image come from: device memory, or the host window or a peer through reads. -/
def Device.storeFrom (d : Device) (m : MsgRef) (lib src len : Nat) : Device :=
  let local_ := d.localRange src len
  let outside := (pageParts src len).all (fun p => match d.place p.1 with | .host _ => true | .peer _ _ => true | _ => false)
  if local_ then
    if d.poisoned src len then d.planRefuse m 0x2001 0x0F12
    else d.updPlan (fun p => { p with storing := some (m, lib, d.read src len) })
  else if outside && !d.dmaOff then (d.updPlan (fun p => { p with storing := some (m, lib, zeros len) })).askPiece planStoreStream m.hseq src len 0
  else d.planRefuse m 0x2001 0x0204

/-- PLAN_STORE: the command begins, or is refused (R73, R74, R500, R595). -/
def execPlanStore (m : MsgRef) (lib src len : Nat) (s : State) : Host.Outcome State Fault Refusal :=
  s.cmd m 0x2001 (fieldsAre [(0, 1, lib), (8, 8, src), (16, 4, len)]) (fun d =>
    if d.fld Reg.MEM_STATUS Fd.MEM_STATUS_DDR_READY = 0 then d.planRefuse m 0x2001 0x0205
    else if 63 < lib then d.planRefuse m 0x2001 0x0204
    else if d.entryHeld lib || d.noPlans then d.planRefuse m 0x2001 0x0206
    else if len < 512 || 67108864 < len then d.planRefuse m 0x2001 0x0212
    else if src % 256 != 0 then d.planRefuse m 0x2001 0x0204
    else d.storeFrom m lib src len)

/-- PLAN_STORE_DONE: the image is in; checks 1 to 8; on success the entry holds it. -/
def execPlanStoreDone (s : State) : Host.Outcome State Fault Refusal :=
  s.upd (fun d =>
    match d.plan.storing with
    | none => d
    | some (m, lib, b) =>
      let waits := d.str.extReads.filter (fun r => r.stream = planStoreStream && r.tag = m.hseq)
      let lost := waits.any (fun r => match d.place r.src with | .peer k _ => d.memberLost k | _ => d.dmaOff)
      if !waits.isEmpty then (if lost then d.failStore m.hseq else d)
      else
        let d := d.updPlan (fun p => { p with storing := none })
        match planCheck1to8 d.ownerKeys b b.length with
        | some c => d.planRefuse m 0x2001 c
        | none => (d.updPlan (fun p => { p with library := p.library.put lib b, libAlias := p.libAlias.del lib })).respond m 0x2001 0 [])

/-- PLAN_EVICT: the entry is emptied. -/
def execPlanEvict (m : MsgRef) (lib : Nat) (s : State) : Host.Outcome State Fault Refusal :=
  s.cmd m 0x2005 (fieldsAre [(0, 1, lib)]) (fun d =>
    if 63 < lib then d.planRefuse m 0x2005 0x0204
    else if d.entryHeld lib then d.planRefuse m 0x2005 0x0206
    else (d.updPlan (fun p => { p with library := p.library.del lib, libAlias := p.libAlias.del lib })).respond m 0x2005 0 [])

/-! ### PLAN_LOAD -/

/-- PLAN_LOAD: check 5, then checks 9 to 13; the validated image is being copied into the shadow slot. -/
def execPlanLoad (m : MsgRef) (lib : Nat) (s : State) : Host.Outcome State Fault Refusal :=
  s.cmd m 0x2002 (fieldsAre [(0, 1, lib)]) (fun d =>
    if 63 < lib then d.planRefuse m 0x2002 0x0204
    else if d.shadowState = 3 || d.shadowState = 4 || d.noPlans then d.planRefuse m 0x2002 0x0206
    else match d.plan.library.get? lib with
      | none => d.planRefuse m 0x2002 0x0224
      | some b =>
        let j := d.judging lib
        match j.planValidate b with
        | .inr c => d.planRefuse m 0x2002 c (j.failingDie b)
        | .inl ms =>
          let (comp, waived) := j.planCompanions b
          let d := d.updPlan (fun u => { u with libAlias := u.libAlias.put lib (j.fld Reg.TENSOR_CTRL Fd.TENSOR_CTRL_ALIAS_CHECK) })
          let p : Plan := { lib := lib, image := b, moves := ms, companions := comp, stale := false }
          let d := if waived = 0 then d else d.count Reg.TENSOR_ALIAS_WAIVED_COUNT 32 waived
          ((d.updPlan (fun u => { u with loading := some (m, p), staleSinceArm := false })).setShadowState 1).showShadow (some p))

/-- PLAN_LOAD_DONE: the shadow slot holds the plan; the response carries PLAN_REPLACED. -/
def execPlanLoadDone (s : State) : Host.Outcome State Fault Refusal :=
  s.upd (fun d =>
    match d.plan.loading with
    | none => d
    | some (m, p) =>
      let d := (d.updPlan (fun u => { u with loading := none, shadow := some { p with stale := d.plan.staleSinceArm } })).setShadowState 2
      ((d.setFld Reg.PLAN_SLOT_STATE Fd.PLAN_SLOT_STATE_FENCE_STALE (bit d.plan.staleSinceArm)).showIds).respond m 0x2002 0 (u32 (movesReg p.moves)))

/-! ### Arming (R84) -/

/-- The switch point in force for SWITCH_PU, or none when it is out of range. -/
def Device.switchPu (d : Device) (pu : Nat) : Option Nat := if pu = 0 then some d.b3 else if d.b3 ≤ pu ∧ pu ≤ 65535 then some pu else none

/-- The step of SWITCH_STEP, or none when it is out of range. -/
def Device.switchStep (d : Device) (group step pu : Nat) : Option Nat :=
  if step = 0 then (if 1 < group then none else some (if d.phase < pu then d.stepNum else (d.stepNum + 1) % 2 ^ 32))
  else if step < 2 ^ 32 ∧ 1 ≤ seqDist step d.stepNum ∧ seqDist step d.stepNum < 2 ^ 31 then some step else none

/-- PLAN_ARM: a shadow image placed against an older fault map is placed anew first. -/
def execPlanArm (m : MsgRef) (step pu : Nat) (s : State) : Host.Outcome State Fault Refusal :=
  s.cmd m 0x2003 (fieldsAre [(0, 4, step), (4, 2, pu)]) (fun d =>
    match d.plan.shadow with
    | none => d.planRefuse m 0x2003 0x0206
    | some p =>
      if d.shadowState != 2 then d.planRefuse m 0x2003 0x0206
      else match d.switchPu pu with
        | none => d.planRefuse m 0x2003 0x0204
        | some pu =>
          match d.switchStep (imgGroupSize p.image) step pu with
          | none => d.planRefuse m 0x2003 0x0204
          | some step =>
            let placed := if d.fld Reg.PLAN_SLOT_STATE Fd.PLAN_SLOT_STATE_FENCE_STALE = 1 then d.planCheck12 p.image else .inl p.moves
            match placed with
            | .inr c => d.planRefuse m 0x2003 c
            | .inl ms =>
              let p := { p with moves := ms, stale := false }
              let d := (d.updPlan (fun u => { u with shadow := some p, staleSinceArm := false, switch := .none, carried := false, votes := [], decision := none })).setShadowState 3
              (((d.setFld Reg.PLAN_SLOT_STATE Fd.PLAN_SLOT_STATE_FENCE_STALE 0).showShadow (some p)).setReg Reg.PLAN_SWITCH_STEP (BitVec.ofNat 64 step)).setReg
                Reg.PLAN_SWITCH_PU (BitVec.ofNat 64 pu) |>.respond m 0x2003 0 [])

/-- The boundaries of a plan, those of reset without one (R48). -/
def planBounds (pl : Option Plan) : Nat × Nat × Nat :=
  match pl with | some p => (imgB1 p.image, imgB2 p.image, imgB3 p.image) | none => (0x4000, 0x8000, 0xC000)

/-- The boundaries of a plan are in force from the start of the present step (R48, R52); of those already seen, they leave what PHASE has
reached. -/
def Device.stepBounds (d : Device) (pl : Option Plan) : Device :=
  let b := planBounds pl
  let d := d.setReg Reg.SEG_BOUNDS (BitVec.ofNat 64 (b.1 + 2 ^ 16 * b.2.1 + 2 ^ 32 * b.2.2))
  d.updTime (fun u => { u with segSeen := min u.segSeen (([b.1, b.2.1, b.2.2].filter (fun x => decide (x ≤ d.phase))).length) })

/-- A table owes no last apply and no flush any longer: the switch that would have ended it is given up (R394). -/
def EmbTable.stay (e : EmbTable) : EmbTable :=
  { e with retiring := 0, apply := e.apply.map (fun a => { a with last := false }) }

/-- The armed switch is given up: the shadow slot is LOADED, the tables of the active plan stay, and a step that a carried switch would have governed has the boundaries of the
active plan. -/
def Device.unarm (d : Device) : Device :=
  let d := if d.plan.carried then d.stepBounds d.plan.active else d
  ({ d with emb := d.emb.mapVals (fun _ e => e.stay) }.updPlan
    (fun u => { u with switch := .none, carried := false, votes := [], decision := none })).setShadowState 2

/-- PLAN_DISARM. -/
def execPlanDisarm (m : MsgRef) (s : State) : Host.Outcome State Fault Refusal :=
  s.cmd m 0x2004 (fun _ => true) (fun d => if d.shadowState != 3 then d.planRefuse m 0x2004 0x0206 else d.unarm.respond m 0x2004 0 [])

/-- R85: the switch is cancelled with a code: the outgoing plan stays active. -/
def Device.cancelSwitch (d : Device) (code : Nat) : Device :=
  let id := (d.plan.shadow.map (fun p => imgPlanId p.image)).getD 0
  (((d.unarm).planError code).record { code := code, severity := 1, arg1 := id }).sendAsync 0x8002 (u32 id ++ u16 code)

end Sys2Proof.Machine
end

