-- ==== Sys2Proof/Machine/Recorder.lean ====
section
/-!
DEFINITION. The event recorder, the FATAL log, crashes and their dumps (chapter 18: R554 to R564).
-/

namespace Sys2Proof.Machine

/-- The 64 bytes of a record (R555). -/
def recordBytes (e : EventRec) : List Byte :=
  u32 e.seq ++ u16 e.code ++ u8 e.severity ++ u8 e.domain ++ u64 e.calNs ++ u32 e.step ++ u16 e.phase
    ++ u16 (bit e.calValid + 2 * bit e.subsumed + 4 * bit e.fenced + 8 * bit e.byGroomer + 16 * bit e.flashed)
    ++ u8 e.loc.kind ++ u8 e.loc.die ++ u16 e.loc.index ++ u32 e.loc.sub ++ u32 e.tag ++ u32 e.arg2 ++ u64 e.arg0 ++ u64 e.arg1 ++ u32 e.arg3
    ++ u32 (e.seq % 2 ^ 31 + 2 ^ 31)

/-- The record of `slots` a new one of a severity overwrites (R557): of the lowest severity at or below it, the oldest. -/
def overwritten (slots : Map EventRec) (severity next : Nat) : Option Nat :=
  let c := slots.filter (fun e => e.2.severity ≤ severity)
  (c.foldl (fun (best : Option (Nat × EventRec)) e =>
    match best with
    | none => some e
    | some b => if e.2.severity < b.2.severity || (e.2.severity = b.2.severity && seqDist next b.2.seq < seqDist next e.2.seq) then some e else best) none).map (·.1)

/-- A record is written into a slot, and into the DDR5 mirror while DDR5 is ready (R554); ERR_SUMMARY.FATAL shows the first FATAL one (R512, R538), and a notice goes out (R556). -/
def Device.writeRecord (d : Device) (slot : Nat) (e : EventRec) : Device :=
  let mirror := d.fault.mirror.filter (· != slot)
  let d := { d with fault := { d.fault with
    slots := d.fault.slots.put slot e, freed := d.fault.freed.del slot, badSlots := d.fault.badSlots.filter (· != slot)
    mirror := if d.fld Reg.MEM_STATUS Fd.MEM_STATUS_DDR_READY = 1 then mirror ++ [slot] else mirror } }
  let d := if e.severity = 5 && d.fld Reg.ERR_SUMMARY Fd.ERR_SUMMARY_FATAL = 0 then (d.setFld Reg.ERR_SUMMARY Fd.ERR_SUMMARY_FATAL 1).signal 1 else d
  d.sendAsync 0x8004 (u32 e.seq ++ u16 e.code ++ u8 e.severity)

/-- RECORDER_ACCEPT (R556, R557). -/
def execRecorderAccept (s : State) : Host.Outcome State Fault Refusal :=
  s.upd (fun d =>
    match d.fault.inputQ with
    | [] => d
    | e :: rest =>
      let d := { d with fault := { d.fault with inputQ := rest } }
      match (List.range 4096).find? (fun i => (d.fault.slots.get? i).isNone) with
      | some i => d.writeRecord i e
      | none => match overwritten d.fault.slots e.severity (d.fld Reg.EVR_SEQ_NEXT Fd.EVR_SEQ_NEXT_SEQ) with
        | some i => (d.count Reg.EVR_OVERWRITTEN 32 1).writeRecord i e
        | none => d.count Reg.EVR_DROPPED 32 1)

/-- EVR_RELEASE (R558): a write of the register; GO frees the old records up to a severity. -/
def Device.evrRelease (d : Device) (v : Nat) : Device :=
  let sev := bitsOf v 32 3
  if 2 ^ 36 ≤ v then d.refuse 0x1001
  else if sev = 5 then d.refuse 0x1004
  else if 5 < sev then d.refuse 0x1002
  else
    let d := d.setReg Reg.EVR_RELEASE (BitVec.ofNat 64 (v % 2 ^ 35))
    if !bitAt v 35 then d
    else
      let next := d.fld Reg.EVR_SEQ_NEXT Fd.EVR_SEQ_NEXT_SEQ
      let frees (e : EventRec) : Bool := e.severity ≤ sev && e.severity != 5 && seqDist next (v % 2 ^ 32) < seqDist next e.seq
      { d with fault := { d.fault with
          slots := d.fault.slots.filter (fun e => !frees e.2)
          freed := (d.fault.slots.filter (fun e => frees e.2)).foldl (fun m e => m.put e.1 e.2) d.fault.freed } }

def execEvrRelease (v : DWord) (s : State) : Host.Outcome State Fault Refusal := s.write64 Reg.EVR_RELEASE (fun d => d.evrRelease v.toNat)

/-- FATAL_FLASH_WRITE (R560): the oldest FATAL record waiting is in the log; its slot shows FLASHED. -/
def execFatalFlashWrite (s : State) : Host.Outcome State Fault Refusal :=
  s.upd (fun d =>
    match d.fault.flashQ with
    | [] => d
    | e :: rest =>
      let log := d.fault.log ++ [{ e with flashed := true }]
      { d with fault := { d.fault with
          flashQ := rest
          log := log.drop (log.length - 256)
          slots := d.fault.slots.mapVals (fun _ x => if x.seq = e.seq && x.severity = 5 then { x with flashed := true } else x) } })

/-! ### Crashes (R561, R562, R584) -/

/-- A crash of the management cores: a dump starts, and a CRITICAL entry reports it; the cores restart when it is written. -/
def Device.coreCrash (d : Device) (core : Nat) : Device :=
  if !d.mgmt.fw || d.mgmt.crashed then d
  else
    let d := d.startDump 0x1014 core
    { d with mgmt := { d.mgmt with crashed := true } }.errqEnter 4 { code := 0x1014, severity := 4, loc := x0Loc, arg2 := core }

/-- MGMT_WATCHDOG_EXPIRE. -/
def execMgmtWatchdogExpire (core : Fin 4) (s : State) : Host.Outcome State Fault Refusal := s.upd (fun d => d.coreCrash core.val)
/-- LOCKSTEP_MISMATCH. -/
def execLockstepMismatch (core : Fin 4) (s : State) : Host.Outcome State Fault Refusal := s.upd (fun d => d.coreCrash core.val)
/-- FIRMWARE_PANIC. -/
def execFirmwarePanic (core : Fin 4) (s : State) : Host.Outcome State Fault Refusal := s.upd (fun d => d.coreCrash core.val)

/-- A descriptor change is written into the other copy with the next SEQ (R581). -/
def Device.writeDesc (d : Device) (active prev : Nat) (trial : Bool) : Device :=
  let cur := match d.flash.descs.getD 0 none, d.flash.descs.getD 1 none with
    | some a, some b => if a.seq < b.seq then (1, b.seq) else (0, a.seq)
    | some a, none => (0, a.seq)
    | none, some b => (1, b.seq)
    | none, none => (1, 0)
  { d with flash := { d.flash with descs := setNth d.flash.descs (1 - cur.1) (some { seq := cur.2 + 1, active := active, trial := trial, prev := prev }) } }

/-- The descriptor in force (R581). -/
def Device.bootDesc (d : Device) : Option BootDesc :=
  match d.flash.descs.getD 0 none, d.flash.descs.getD 1 none with
  | some a, some b => if a.seq < b.seq then some b else some a
  | some a, none => some a
  | none, x => x

def fwVersionOf (img : List Byte) : Nat := leAt img 0x00C 4
def fwSvnOf (img : List Byte) : Nat := leAt img 0x010 1
def Device.fwImage (d : Device) (slot : Nat) : List Byte := d.flash.images.getD slot []

/-- A slot becomes the image in use (R584). -/
def Device.useImage (d : Device) (slot : Nat) (trial : Bool) : Device :=
  let img := d.fwImage slot
  ((d.setFld Reg.FW_STATUS Fd.FW_STATUS_RUNNING slot).setFld Reg.FW_STATUS Fd.FW_STATUS_TRIAL (bit trial)).setReg Reg.FW_RUNNING
    (BitVec.ofNat 64 (fwVersionOf img + 2 ^ 32 * (fwSvnOf img % 64)))

/-- FW_ACTIVATION (R597). -/
def Device.sendActivation (d : Device) (result slot : Nat) : Device :=
  (d.setFld Reg.FW_STATUS Fd.FW_STATUS_LAST_CODE result).sendAsync 0x8010 (u16 result ++ u8 slot)

/-- CRASH_DUMP_DONE: the oldest dump being written is in its slot; after a crash of the cores they restart, under the previous image where
the crash ended a trial. -/
def execCrashDumpDone (s : State) : Host.Outcome State Fault Refusal :=
  s.upd (fun d =>
    match d.fault.dumping with
    | [] => d
    | x :: rest =>
      let slot := match [0, 1, 2, 3].find? (fun i => (d.fault.crash.get? i).isNone) with
        | some i => i
        | none => ((d.fault.crash.foldl (fun (b : Option (Nat × CrashDump)) e =>
            match b with | none => some e | some y => if e.2.dumpSeq < y.2.dumpSeq then some e else b) none).map (·.1)).getD 0
      let d := { d with fault := { d.fault with dumping := rest, crash := d.fault.crash.put slot x } }
      if x.cause != 0x1014 || !d.mgmt.crashed then d
      else
        let d := { d with mgmt := { d.mgmt with crashed := false } }
        if d.fld Reg.FW_STATUS Fd.FW_STATUS_TRIAL = 0 then d
        else
          let prev := 1 - d.fld Reg.FW_STATUS Fd.FW_STATUS_RUNNING
          ((d.writeDesc prev prev false).useImage prev false).sendActivation 0x101F (1 - prev))

/-- The bytes of a dump (R562); the core sections and the trace are the firmware's (log 5). -/
def dumpBytes (x : CrashDump) : List Byte :=
  let pad (n : Nat) (b : List Byte) := b.take n ++ zeros (n - min n b.length)
  let trace := (Config.crashOpaque (2 * x.dumpSeq + 1)).take (262144 - 0x14100)
  let body := pad 16384 (Config.crashOpaque (2 * x.dumpSeq)) ++ pad 65536 (x.records.flatMap recordBytes) ++ trace
  let head := u32 0x52434B58 ++ u16 1 ++ u16 0 ++ u32 (0x100 + body.length) ++ u16 x.cause ++ u8 x.core ++ u8 x.fwImage ++ u64 x.calNs ++ u32 x.step
    ++ u32 x.fwVersion ++ u32 x.dumpSeq ++ zeros 28
  head ++ shake256 64 (head ++ zeros 64 ++ zeros 128 ++ body) ++ zeros 128 ++ body

/-- A range of mapped HBM4 or DDR5. -/
def Device.rangeHbmDdr (d : Device) (a n : Nat) : Bool := d.populated a n && d.inHbmDdr a

/-- DST of a copy: a multiple of 256, the copy in HBM4 or DDR5 (R563). -/
def Device.copyDst (d : Device) (dst n : Nat) : Bool := dst % 256 = 0 && d.rangeHbmDdr dst (max 1 n)

/-- CRASH_INFO (R563). -/
def execCrashInfo (m : MsgRef) (s : State) : Host.Outcome State Fault Refusal :=
  s.cmd m 0x0010 (fun _ => true) (fun d => d.respond m 0x0010 0 ([0, 1, 2, 3].flatMap (fun i =>
    match d.fault.crash.get? i with
    | some x => u8 1 ++ u8 x.core ++ u16 x.cause ++ u32 x.dumpSeq ++ u64 x.calNs
    | none => zeros 16)))

/-- CRASH_READ (R563). -/
def execCrashRead (m : MsgRef) (slot dst : Nat) (s : State) : Host.Outcome State Fault Refusal :=
  s.cmd m 0x0011 (fieldsAre [(0, 1, slot), (8, 8, dst)]) (fun d =>
    let b := ((d.fault.crash.get? slot).map dumpBytes).getD []
    if 3 < slot || !d.copyDst dst b.length then d.refuseMsg m 0x0011 0x1004
    else if (d.fault.crash.get? slot).isNone then d.refuseMsg m 0x0011 0x1015
    else (d.write dst b).respond m 0x0011 0 (u32 b.length))

/-- CRASH_RELEASE (R563). -/
def execCrashRelease (m : MsgRef) (slot : Nat) (s : State) : Host.Outcome State Fault Refusal :=
  s.cmd m 0x0012 (fieldsAre [(0, 1, slot)]) (fun d =>
    if 3 < slot then d.refuseMsg m 0x0012 0x1004
    else if (d.fault.crash.get? slot).isNone then d.refuseMsg m 0x0012 0x1015
    else { d with fault := { d.fault with crash := d.fault.crash.del slot } }.respond m 0x0012 0 [])

/-- FATAL_LOG_READ (R563). -/
def execFatalLogRead (m : MsgRef) (dst : Nat) (s : State) : Host.Outcome State Fault Refusal :=
  s.cmd m 0x0013 (fieldsAre [(8, 8, dst)]) (fun d =>
    let b := d.fault.log.flatMap recordBytes
    if !d.copyDst dst b.length then d.refuseMsg m 0x0013 0x1004
    else (d.write dst b).respond m 0x0013 0 (u32 d.fault.log.length))

end Sys2Proof.Machine
end

