-- ==== Sys2Proof/Machine/Power.lean ====
section
/-!
DEFINITION. Measurement, the governor, the Limit Guard, the regulators and telemetry (chapter 19: R567 to R577; R613, R614).
-/

namespace Sys2Proof.Machine

def Device.updMgmt (d : Device) (f : MgmtUnit → MgmtUnit) : Device := { d with mgmt := f d.mgmt }

def Device.tripped (d : Device) : Bool := d.fld Reg.GOV_STATUS Fd.GOV_STATUS_TRIPPED = 1

/-- The cap in force (R568). -/
def Device.capInForce (d : Device) : Nat := min (min (d.fld Reg.PWR_CAP Fd.PWR_CAP_HOST_CAP_W) d.mgmt.bmcCap) 1400

/-- The set point of VDD_Cd in mV for a clock in MHz (R572). -/
def vddFor (f : Nat) : Nat := 550 + 5 * ceilDiv (f - 300) 6

/-! ### Emergencies (R573) -/

/-- The emergencies have been clear for a continuous 1 s (R586). -/
def Device.clearSecond (d : Device) : Bool :=
  d.fld Reg.GOV_STATUS Fd.GOV_STATUS_POWER_EMERG = 0 && d.fld Reg.GOV_STATUS Fd.GOV_STATUS_THERMAL_EMERG = 0 && d.mgmt.emergEnd + 1000000000 ≤ d.now

/-- One of the two emergencies starts or ends: a WARNING record, the EMERGENCY message. -/
def Device.setEmergency (d : Device) (f : Fld) (on : Bool) : Device :=
  if d.fld Reg.GOV_STATUS f = bit on then d
  else
    let seen := d.clearSecond
    let d := d.setFld Reg.GOV_STATUS f (bit on)
    let d := if on then (d.setFld Reg.GOV_STATUS Fd.GOV_STATUS_EMERG_SEEN 1).updMgmt (fun m => { m with clearSeen := m.clearSeen || seen })
      else d.updMgmt (fun m => { m with emergEnd := d.now })
    let flags := d.fld Reg.GOV_STATUS Fd.GOV_STATUS_POWER_EMERG + 2 * d.fld Reg.GOV_STATUS Fd.GOV_STATUS_THERMAL_EMERG
    (d.record { severity := 2, loc := x0Loc, arg2 := flags }).sendAsync 0x8011 (u8 flags ++ zeros 3 ++ u32 d.stepNum)

/-- The arithmetic clock of a die changes; its cycles up to now are kept (R191). -/
def Device.setMhz (d : Device) (k f : Nat) : Device :=
  let c := d.cycles k
  { d with sched := { d.sched with cycBase := d.sched.cycBase.put k c, cycAt := d.sched.cycAt.put k d.now } }.setFld (Reg.DIE_CLOCK k) Fd.DIE_CLOCK_MHZ f

def Device.dieMhz (d : Device) (k : Nat) : Nat := d.fld (Reg.DIE_CLOCK k) Fd.DIE_CLOCK_MHZ
def Device.clamped (d : Device) (k : Nat) : Bool := d.fld (Reg.DIE_CLOCK k) Fd.DIE_CLOCK_CLAMPED = 1

/-- The emergencies are those of R573. -/
def Device.refreshEmergency (d : Device) : Device :=
  if d.inReset then d else
  let dies := [0, 1, 2, 3]
  let power := (dies.all (fun k => d.fld (Reg.DIE_CLOCK k) Fd.DIE_CLOCK_POWER_MHZ = 300) && d.mgmt.history.any (·.2))
    || dies.any (fun r => decide (4750 < d.fld (Reg.RAIL_MON r) Fd.RAIL_MON_DECIAMPS))
  let thermal := dies.any (fun k => d.clamped k || (d.fld (Reg.DIE_CLOCK k) Fd.DIE_CLOCK_THERMAL_MHZ = 300 && decide (95 < d.mgmt.hot.getD k 0)))
    || d.mgmt.stackTemp.any (fun t => decide (95 < t))
  (d.setEmergency Fd.GOV_STATUS_POWER_EMERG power).setEmergency Fd.GOV_STATUS_THERMAL_EMERG thermal

/-! ### Regulators (R613) -/

/-- The 7-bit address of the regulator of VDD_Cd (R613). -/
def vrAddr (k : Nat) : Nat := 0x58 + k

/-- The PEC of PMBus: CRC-8 of polynomial 0x07 over the bytes of the transfer, address first (PRESUMED, log 4). -/
def pmbusPec (b : List Byte) : Byte :=
  b.foldl (fun c x => (List.range 8).foldl (fun c _ => if c.getLsbD 7 then (c <<< 1) ^^^ 0x07#8 else c <<< 1) (c ^^^ x)) 0

/-- A write of a word to a register of a regulator, and a read of a register. -/
def Device.pmbusWrite (d : Device) (k cmd v : Nat) : Device :=
  let b := u8 (2 * vrAddr k) ++ u8 cmd ++ u16 v
  d.emit (.pmbus (vrAddr k) (b ++ [pmbusPec b]))
def Device.pmbusRead (d : Device) (k cmd : Nat) : Device := d.emit (.pmbus (vrAddr k) (u8 (2 * vrAddr k) ++ u8 cmd ++ u8 (2 * vrAddr k + 1)))

/-- A set point in the linear format that a VOUT_MODE gives: mV × 2^(−exponent) / 1000. -/
def voutWord (mode mv : Nat) : Nat :=
  let e := toSigned 5 (mode % 32)
  if 0 ≤ e then mv / 1000 / 2 ^ e.toNat else (mv * 2 ^ (-e).toNat + 500) / 1000

/-- The set point of a die; VOUT_COMMAND (0x21) to its regulator, in its format, where its VOUT_MODE has been read.  The set point before it is
kept until the rail has settled (R614). -/
def Device.setVdd (d : Device) (k mv : Nat) : Device :=
  let before := (d.mgmt.vddBefore.get? k).getD (d.fld (Reg.DIE_CLOCK k) Fd.DIE_CLOCK_VDD_MV)
  match d.mgmt.vmode.get? k with
  | none => d.setFld (Reg.DIE_CLOCK k) Fd.DIE_CLOCK_VDD_MV mv
  | some mode =>
    ((d.setFld (Reg.DIE_CLOCK k) Fd.DIE_CLOCK_VDD_MV mv).updMgmt (fun m =>
      { m with raisedAt := m.raisedAt.put k d.now, vddBefore := m.vddBefore.put k before })).pmbusWrite k 0x21 (voutWord mode mv)

/-! ### The Limit Guard (R574, R575) -/

/-- A trip, in reset too, where the Guard runs (R619): the clocks of the compute dies stop, their rails go to 0.55 V, TRIP_N is asserted, the
package is contained.  `quantity` is the row of R574 (4 point, 5 VDD_Cd voltage, 6 VDD_Cd current, 7 other rail). -/
def Device.trip (d : Device) (quantity index : Nat) : Device :=
  if d.tripped then d
  else
    let d := d.setFld Reg.GOV_STATUS Fd.GOV_STATUS_TRIPPED 1
    let d := [0, 1, 2, 3].foldl (fun d k => (d.setMhz k 0).setVdd k 550) d
    let d := (d.updMgmt (fun m => { m with raising := [], raisedAt := [], vddBefore := [] })).emit (.pin "TRIP_N" false)
    d.errqEnter 4 { code := 0x1019, severity := 5, loc := x0Loc, arg2 := quantity, arg3 := index }

/-- Nominal voltage in mV of rails 4 to 14 (R612). -/
def railNominal (r : Nat) : Nat :=
  match r with
  | 9 => 1800 | 10 => 1050 | 12 => 1100 | 14 => 1800 | _ => 750

/-- A sample of a rail lies outside its bound (R574). -/
def railOut (r mv : Nat) : Bool :=
  if r < 4 then mv < 520 || 830 < mv else decide (railNominal r < 20 * (mv - railNominal r)) || decide (railNominal r < 20 * (railNominal r - mv))

/-! ### Samples and periods (R567 to R570) -/

/-- The period is gated when what it may still draw would pass the allowance (R569). -/
def Device.gateCheck (d : Device) (limit : Bool) : Device :=
  if limit && !d.mgmt.gated then (d.updMgmt (fun m => { m with gated := true })).setFld Reg.GOV_STATUS Fd.GOV_STATUS_GATING 1 else d

/-- RAIL_SAMPLE: the voltage in mV and the current in 0.1 A of each rail, 1 µs after the last sample; the monitors run while the device is
held in reset (R619). -/
def execRailSample (mv da : List Nat) (s : State) : Host.Outcome State Fault Refusal :=
  s.updAny (fun d =>
    if !d.mgmt.powered || 10 ≤ d.mgmt.samples then d
    else
      let d := d.at (d.mgmt.sampleAt + 1000)
      let v (r : Nat) := mv.getD r 0
      let i (r : Nat) := da.getD r 0
      let d := (List.range 15).foldl (fun d r => d.setReg (Reg.RAIL_MON r)
        (BitVec.ofNat 64 (v r % 65536 + 2 ^ 16 * (i r % 65536) + 2 ^ 32 * (v r * i r / 10000 % 65536)))) d
      let p := (List.range 15).foldl (fun n r => n + v r * i r) 0
      let d := d.updMgmt (fun m => { m with
        sampleAt := d.now, samples := m.samples + 1, energy := m.energy + p
        outV := (List.range 15).map (fun r => if railOut r (v r) then m.outV.getD r 0 + 1 else 0)
        outI := (List.range 4).map (fun r => if 5200 < i r then m.outI.getD r 0 + 1 else 0) })
      let d := d.gateCheck (decide (d.mgmt.allowance ≤ (d.mgmt.energy + 6500000 * (10 - d.mgmt.samples) : Nat)))
      let d := match (List.range 15).find? (fun r => decide (5 ≤ d.mgmt.outV.getD r 0)) with
        | some r => d.trip (if r < 4 then 5 else 7) r
        | none => d
      let d := match (List.range 4).find? (fun r => decide (2 ≤ d.mgmt.outI.getD r 0)) with
        | some r => d.trip 6 r
        | none => d
      d.refreshEmergency)

/-- GOVERNOR_PERIOD: a period of ten samples ends and the next begins with its allowance. -/
def execGovernorPeriod (s : State) : Host.Outcome State Fault Refusal :=
  s.updAny (fun d =>
    if !d.mgmt.powered || d.mgmt.samples < 10 then d
    else
      let h := ((d.mgmt.energy, d.mgmt.gated) :: d.mgmt.history).take 100
      let d := if d.mgmt.gated then d.count Reg.GOV_GATED_PERIODS 64 1 else d
      let sum (l : List (Nat × Bool)) := l.foldl (fun n e => n + e.1) 0
      let d := d.setReg Reg.PKG_POWER (BitVec.ofNat 64 (min 65535 (sum h / 10000000) + 2 ^ 16 * min 65535 (d.mgmt.energy / 100000)))
      let cap := d.capInForce
      let a : Int := (cap * 10000000 : Nat) - (sum (h.take 99) : Nat) - 37000000
      let d := (d.setFld Reg.GOV_STATUS Fd.GOV_STATUS_CAP_W cap).setFld Reg.GOV_STATUS Fd.GOV_STATUS_GATING 0
      let d := d.updMgmt (fun m => { m with history := h, samples := 0, energy := 0, allowance := a, gated := false })
      (d.gateCheck (decide (a ≤ 65000000))).refreshEmergency)

/-- TEMP_SAMPLE: the hottest point of each die in °C, with its number; every 50 µs.  The spec has 110 °C as the bound (R36, R574) and
does not say whether a point at exactly 110 °C trips, or one at exactly 103 °C clamps its die: the model acts above them (DESIGN CHOICE,
log 95). -/
def execTempSample (temps : List (Nat × Nat)) (s : State) : Host.Outcome State Fault Refusal :=
  s.updAny (fun d =>
    if !d.mgmt.powered then d else
    let t (k : Nat) := (temps.getD k (0, 0)).1
    let d := d.updMgmt (fun m => { m with hot := (List.range 6).map t })
    let d := [0, 1, 2, 3].foldl (fun d k =>
      let d := d.setFld (Reg.DIE_CLOCK k) Fd.DIE_CLOCK_TMAX_C (min 255 (t k))
      if 103 < t k then
        let d := d.setFld (Reg.DIE_CLOCK k) Fd.DIE_CLOCK_CLAMPED 1
        if 300 < d.dieMhz k then d.setMhz k 300 else d
      else if t k < 98 then d.setFld (Reg.DIE_CLOCK k) Fd.DIE_CLOCK_CLAMPED 0
      else d) d
    let d := match (List.range 6).find? (fun k => decide (110 < t k)) with
      | some k => d.trip 4 ((temps.getD k (0, 0)).2)
      | none => d
    d.refreshEmergency)

/-- HBM_TEMP_REPORT. -/
def execHbmTempReport (stack : Fin 16) (temp : Nat) (s : State) : Host.Outcome State Fault Refusal :=
  s.upd (fun d => (d.updMgmt (fun m => { m with stackTemp := setNth m.stackTemp stack.val temp })).refreshEmergency)

/-! ### Clocks and regulators (R571, R572, R613, R614) -/

/-- A die goes toward a clock: down at once, then the voltage; up once its voltage has settled; at its clock already, as after a clamp, the
voltage is made that of the clock. -/
def Device.moveClock (d : Device) (k f : Nat) : Device :=
  if (d.mgmt.vmode.get? k).isNone then d
  else if f < d.dieMhz k then ((d.setMhz k f).updMgmt (fun m => { m with raising := m.raising.del k })).setVdd k (vddFor f)
  else if d.dieMhz k < f then (d.updMgmt (fun m => { m with raising := m.raising.put k f })).setVdd k (vddFor f)
  else if d.fld (Reg.DIE_CLOCK k) Fd.DIE_CLOCK_VDD_MV = vddFor f then d
  else (d.updMgmt (fun m => { m with raising := m.raising.del k })).setVdd k (vddFor f)

/-- CLOCK_ADJUST: every 100 µs once the firmware has started; a VENDOR session holds the cores in reset, and the governor, which is hardware,
runs on (R582, R595). -/
def execClockAdjust (s : State) : Host.Outcome State Fault Refusal :=
  s.upd (fun d =>
    if (!d.mgmt.fw && d.fld Reg.SEC_STATUS Fd.SEC_STATUS_DEBUG != 2) || d.tripped then d
    else
      let d := d.at (d.mgmt.adjustAt + 100000)
      let d := d.updMgmt (fun m => { m with adjustAt := d.now })
      let g := (d.mgmt.history.filter (·.2)).length
      let sum := d.mgmt.history.foldl (fun n e => n + e.1) 0
      let freq := d.fld Reg.FREQ_CAP Fd.FREQ_CAP_MHZ
      let power := d.fld (Reg.DIE_CLOCK 0) Fd.DIE_CLOCK_POWER_MHZ
      let power := if 25 ≤ g then power - 25 else if g = 0 && sum ≤ 9000000 * d.fld Reg.GOV_STATUS Fd.GOV_STATUS_CAP_W then power + 25 else power
      let power := max 300 (min power freq)
      let d := [0, 1, 2, 3].foldl (fun d k =>
        let hot := d.mgmt.hot.getD k 0
        let th := d.fld (Reg.DIE_CLOCK k) Fd.DIE_CLOCK_THERMAL_MHZ
        let th := max 300 (min 600 (if 95 < hot then th - 25 else if hot < 92 then th + 25 else th))
        let d := (d.setFld (Reg.DIE_CLOCK k) Fd.DIE_CLOCK_POWER_MHZ power).setFld (Reg.DIE_CLOCK k) Fd.DIE_CLOCK_THERMAL_MHZ th
        d.moveClock k (if d.clamped k then 300 else min (min power th) freq)) d
      d.refreshEmergency)

/-- VOLTAGE_SETTLED: the raised clock is taken. -/
def execVoltageSettled (k : Fin 4) (s : State) : Host.Outcome State Fault Refusal :=
  s.upd (fun d =>
    if d.tripped then d
    else
      let d' := d.updMgmt (fun m => { m with
        raising := m.raising.del k.val, raisedAt := m.raisedAt.del k.val, vddBefore := m.vddBefore.del k.val })
      match d.mgmt.raising.get? k.val with
      | some f => d'.setMhz k.val (if d.clamped k.val then 300 else f)
      | none => d')

/-- A regulator has failed (R614): its first failure is recorded until the host clears the bit. -/
def Device.vrFailed (d : Device) (k : Nat) : Device :=
  if bitAt (d.fld Reg.VR_STATUS Fd.VR_STATUS_NO_RESPONSE) k then d
  else (d.setFld Reg.VR_STATUS Fd.VR_STATUS_NO_RESPONSE (setBit (d.fld Reg.VR_STATUS Fd.VR_STATUS_NO_RESPONSE) k)).record
    { code := 0x1021, severity := 4, loc := { kind := 5, die := k } }

/-- VR_SETPOINT_TIMEOUT: three attempts unacknowledged, of which the second and the third are sent now, or the rail is not at its set point
after 50 µs: the voltage stays as it was, and a clock that was to rise does not (R614).  The next CLOCK_ADJUST tries again. -/
def execVrSetpointTimeout (x : VrFailure) (s : State) : Host.Outcome State Fault Refusal :=
  s.upd (fun d =>
    let k := x.die.val
    let mv := d.fld (Reg.DIE_CLOCK k) Fd.DIE_CLOCK_VDD_MV
    match d.mgmt.raisedAt.get? k with
    | none => d
    | some t =>
      let again (d : Device) : Device := d.pmbusWrite k 0x21 (voutWord (d.mgmt.vmode.getD k 0) mv)
      let d := if x.noAck then again (again d) else d.at (t + 50000)
      let before := (d.mgmt.vddBefore.get? k).getD mv
      let d := d.updMgmt (fun m => { m with raising := m.raising.del k, raisedAt := m.raisedAt.del k, vddBefore := m.vddBefore.del k })
      (d.setFld (Reg.DIE_CLOCK k) Fd.DIE_CLOCK_VDD_MV before).vrFailed k)

/-- VR_ALERT: the level of VR_ALERT_N and the STATUS_WORDs read while it is asserted. -/
def execVrAlert (asserted : Bool) (status : List Nat) (s : State) : Host.Outcome State Fault Refusal :=
  s.upd (fun d =>
    let d := d.setFld Reg.VR_STATUS Fd.VR_STATUS_ALERT (bit asserted)
    if !asserted then d
    else
      let d := [0, 1, 2, 3].foldl (fun d k => d.pmbusRead k 0x79) d
      d.record { severity := 2, loc := x0Loc, arg0 := [0, 1, 2, 3].foldl (fun n k => n + status.getD k 0 % 65536 * 2 ^ (16 * k)) 0 })

/-- PWR_CAP_WRITE (R568). -/
def Device.pwrCapWrite (d : Device) (v : Nat) : Device :=
  if 2 ^ 11 ≤ v then d.refuse 0x1001
  else if v < 700 || 1400 < v then d.refuse 0x1004
  else d.setReg Reg.PWR_CAP (BitVec.ofNat 64 v)

def execPwrCapWrite (v : Word) (s : State) : Host.Outcome State Fault Refusal := s.upd (fun d => d.pwrCapWrite v.toNat)

/-- FREQ_CAP_WRITE (R571). -/
def Device.freqCapWrite (d : Device) (v : Nat) : Device :=
  if 2 ^ 10 ≤ v then d.refuse 0x1001
  else if v % 25 != 0 || v < 300 || 600 < v then d.refuse 0x1004
  else d.setReg Reg.FREQ_CAP (BitVec.ofNat 64 v)

def execFreqCapWrite (v : Word) (s : State) : Host.Outcome State Fault Refusal := s.upd (fun d => d.freqCapWrite v.toNat)

/-! ### Telemetry (R576, R577) -/

/-- What sensor 59 shows: the highest state that holds. -/
def Device.powerState (d : Device) : Nat :=
  if d.tripped then 4 else if d.fld Reg.GOV_STATUS Fd.GOV_STATUS_THERMAL_EMERG = 1 then 3
  else if d.fld Reg.GOV_STATUS Fd.GOV_STATUS_POWER_EMERG = 1 then 2 else d.fld Reg.GOV_STATUS Fd.GOV_STATUS_GATING

/-- Readings 1 to 59 of the moment. -/
def Device.sensors (d : Device) : List Nat :=
  [d.fld Reg.PKG_POWER Fd.PKG_POWER_WINDOW_W, d.fld Reg.GOV_STATUS Fd.GOV_STATUS_CAP_W] ++ d.mgmt.hot ++ d.mgmt.stackTemp
    ++ (List.range 15).map (fun r => d.fld (Reg.RAIL_MON r) Fd.RAIL_MON_MV) ++ (List.range 15).map (fun r => d.fld (Reg.RAIL_MON r) Fd.RAIL_MON_DECIAMPS)
    ++ [0, 1, 2, 3].map d.dieMhz ++ [d.powerState]

/-- TELEMETRY_REFRESH: every 100 ms. -/
def execTelemetryRefresh (s : State) : Host.Outcome State Fault Refusal :=
  s.upd (fun d =>
    let d := d.at (d.mgmt.readAt + 100000000)
    d.updMgmt (fun m => { m with readings := d.sensors, readAt := d.now }))

/-- A response on the sideband, in the encoding of the DMTF standard (log 4); nothing without a good PEC or running firmware. -/
def Device.mctpReply (d : Device) (pec : Bool) (cmd : Nat) (fields : List Nat) : Device :=
  if pec && d.mgmt.fw && !d.mgmt.crashed then d.emit (.mctp (Config.dmtf cmd fields [])) else d

/-- SET_ENDPOINT_ID. -/
def execSetEndpointId (eid : Byte) (pec : Bool) (s : State) : Host.Outcome State Fault Refusal :=
  s.upd (fun d =>
    if !pec || !d.mgmt.fw || d.mgmt.crashed then d else (d.updMgmt (fun m => { m with eid := eid.toNat })).mctpReply pec 0x01 [eid.toNat])
/-- GET_ENDPOINT_ID. -/
def execGetEndpointId (pec : Bool) (s : State) : Host.Outcome State Fault Refusal := s.upd (fun d => d.mctpReply pec 0x02 [d.mgmt.eid])
/-- GET_MCTP_VERSION_SUPPORT. -/
def execGetMctpVersionSupport (mtype : Byte) (pec : Bool) (s : State) : Host.Outcome State Fault Refusal :=
  s.upd (fun d => d.mctpReply pec 0x04 [mtype.toNat])
/-- GET_MESSAGE_TYPE_SUPPORT: PLDM beside control. -/
def execGetMessageTypeSupport (pec : Bool) (s : State) : Host.Outcome State Fault Refusal := s.upd (fun d => d.mctpReply pec 0x05 [0x00, 0x01])
/-- GET_PDR. -/
def execGetPdr (id : Nat) (pec : Bool) (s : State) : Host.Outcome State Fault Refusal := s.upd (fun d => d.mctpReply pec 0x0251 [id])
/-- GET_SENSOR_READING: numeric sensors 1 to 58. -/
def execGetSensorReading (id : Nat) (pec : Bool) (s : State) : Host.Outcome State Fault Refusal :=
  s.upd (fun d => d.mctpReply pec 0x0211 [bit (1 ≤ id && id ≤ 58), id, d.mgmt.readings.getD (id - 1) 0])
/-- GET_STATE_SENSOR_READINGS: the state sensor, 59. -/
def execGetStateSensorReadings (id : Nat) (pec : Bool) (s : State) : Host.Outcome State Fault Refusal :=
  s.upd (fun d => d.mctpReply pec 0x0221 [bit (id = 59), id, d.mgmt.readings.getD 58 0])
/-- SET_NUMERIC_EFFECTER_VALUE: the BMC power cap; a value out of range is answered with ERROR_INVALID_DATA. -/
def execSetNumericEffecterValue (id value : Nat) (pec : Bool) (s : State) : Host.Outcome State Fault Refusal :=
  s.upd (fun d =>
    let ok := id = 1 && 700 ≤ value && value ≤ 1400
    let d := if ok && pec && d.mgmt.fw && !d.mgmt.crashed then d.updMgmt (fun m => { m with bmcCap := value }) else d
    d.mctpReply pec 0x0231 [bit ok, id, value])
/-- GET_NUMERIC_EFFECTER_VALUE. -/
def execGetNumericEffecterValue (id : Nat) (pec : Bool) (s : State) : Host.Outcome State Fault Refusal :=
  s.upd (fun d => d.mctpReply pec 0x0232 [bit (id = 1), id, d.mgmt.bmcCap])

end Sys2Proof.Machine
end

