-- ==== Sys2Proof/Machine/Firmware.lean ====
section
/-!
DEFINITION. Firmware images, their update and activation, and the boot (chapter 19: R580 to R587; R552, R583, R613).
-/

namespace Sys2Proof.Machine

/-! ### Images (R580) -/

/-- Every byte of a stretch is 0. -/
def zeroAt (b : List Byte) (o n : Nat) : Bool := leAt b o n = 0

def fwKey (b : List Byte) : List Byte := (b.drop 0x040).take 57
def fwDigest (b : List Byte) : List Byte := (b.drop 0x080).take 64
def fwSignature (b : List Byte) : List Byte := (b.drop 0x0C0).take 114

/-- Every condition on an image but the one on SVN against ROLLBACK. -/
def Device.fwGood (d : Device) (b : List Byte) : Bool :=
  leAt b 0 4 = 0x57464B58 && leAt b 4 2 = 1 && leAt b 8 4 = b.length && b.length % 4096 = 0 && 4096 ≤ b.length && b.length ≤ 16777216
    && fwSvnOf b ≤ 63 && zeroAt b 0x006 2 && zeroAt b 0x011 3 && zeroAt b 0x018 40 && zeroAt b 0x079 7 && zeroAt b 0x132 206
    && planDigest b = fwDigest b && shake256 64 (fwKey b) = d.fuses.vendorDigest
    && ed448Verify (fwKey b) (ascii "OSOUDRA-FW") (fwDigest b) (fwSignature b)

/-- R580: the image is valid. -/
def Device.fwValid (d : Device) (b : List Byte) : Bool := d.fwGood b && d.fuses.rollback ≤ fwSvnOf b

def otherSlot (k : Nat) : Nat := if k = 0 then 1 else 0

def Device.actState (d : Device) : Nat := d.fld Reg.FW_STATUS Fd.FW_STATUS_ACT_STATE
def Device.setActState (d : Device) (v : Nat) : Device := d.setFld Reg.FW_STATUS Fd.FW_STATUS_ACT_STATE v
def Device.fwTrial (d : Device) : Bool := d.fld Reg.FW_STATUS Fd.FW_STATUS_TRIAL = 1
def Device.running (d : Device) : Nat := d.fld Reg.FW_STATUS Fd.FW_STATUS_RUNNING

/-- R561, R587: the management cores restart; the queues of classes 1 and 3 hold their messages. -/
def Device.coresAway (d : Device) : Bool := d.mgmt.crashed || d.actState = 3

/-- A command of class 1 waits: the cores are not running, or an earlier FW_STAGE has not been answered. -/
def Device.class1Waits (d : Device) : Bool := !d.mgmt.fw || d.coresAway || d.mgmt.staging.isSome

/-! ### Commands of class 1 (R585) -/

/-- FW_STAGE: checked; a LENGTH that is not the IMAGE_SIZE of the image is out of range (R585); the write of the other slot begins. -/
def execFwStage (m : MsgRef) (payload : List Byte) (s : State) : Host.Outcome State Fault Refusal :=
  s.cmd m 0x1001 (fun b => b = payload) (fun d =>
    let src := leAt payload 0 8
    let len := leAt payload 8 4
    let b := d.read src len
    if d.class1Waits then d
    else if src % 256 != 0 || len % 4096 != 0 || len < 4096 || 16777216 < len || !d.rangeHbmDdr src len
        || (!d.poisoned src 16 && leAt b 8 4 != len) then d.refuseMsg m 0x1001 0x1004
    else if d.actState = 2 || d.fwTrial then d.refuseMsg m 0x1001 0x1006
    else if d.poisoned src len || !d.fwGood b then d.refuseMsg m 0x1001 0x101A
    else if !d.fwValid b then d.refuseMsg m 0x1001 0x101B
    else d.updMgmt (fun x => { x with staging := some (m, otherSlot d.running, b) }))

/-- FW_STAGE_DONE: the flash has been written and read back. -/
def execFwStageDone (ok : Bool) (s : State) : Host.Outcome State Fault Refusal :=
  s.upd (fun d =>
    match d.mgmt.staging with
    | none => d
    | some (m, slot, b) =>
      let d := { d with mgmt := { d.mgmt with staging := none, staged := slot }
                        flash := { d.flash with images := setNth d.flash.images slot (if ok then b else []) } }
      if ok then (d.setActState 1).respond m 0x1001 0 (u8 slot)
      else (d.setActState 0).respond m 0x1001 0x101E [])

/-- FW_ACTIVATE: the staged image becomes PENDING. -/
def execFwActivate (m : MsgRef) (payload : List Byte) (s : State) : Host.Outcome State Fault Refusal :=
  s.cmd m 0x1002 (fun b => b = payload) (fun d =>
    if d.class1Waits then d
    else if d.actState != 1 then d.refuseMsg m 0x1002 0x101C
    else ((d.setActState 2).updMgmt (fun x => { x with pendingSince := d.now, clearSeen := d.clearSecond })).respond m 0x1002 0 (u8 d.mgmt.staged))

/-- FW_CANCEL: the activation returns to STAGED, with its FW_ACTIVATION message (R597). -/
def execFwCancel (m : MsgRef) (payload : List Byte) (s : State) : Host.Outcome State Fault Refusal :=
  s.cmd m 0x1003 (fun b => b = payload) (fun d =>
    if d.class1Waits then d
    else if d.actState != 2 then d.refuseMsg m 0x1003 0x1006
    else ((d.setActState 1).respond m 0x1003 0 []).sendActivation 0x1006 d.mgmt.staged)

/-- FW_COMMIT: the trial ends; ROLLBACK is burnt up to the running SVN where asked. -/
def execFwCommit (m : MsgRef) (payload : List Byte) (s : State) : Host.Outcome State Fault Refusal :=
  s.cmd m 0x1004 (fun b => b = payload) (fun d =>
    let raise := leAt payload 0 1
    if d.class1Waits then d
    else if 1 < raise then d.refuseMsg m 0x1004 0x1004
    else if !d.fwTrial then d.refuseMsg m 0x1004 0x1006
    else
      let svn := d.fld Reg.FW_RUNNING Fd.FW_RUNNING_SVN
      let d := (d.writeDesc d.running (otherSlot d.running) false).setFld Reg.FW_STATUS Fd.FW_STATUS_TRIAL 0
      let d := if raise = 0 then d else { d with fuses := { d.fuses with rollback := max d.fuses.rollback svn } }
      d.respond m 0x1004 0 [])

/-- VERSION (u32), SVN, VALID, then two zero bytes, of a slot; a slot that holds nothing written has no VERSION and SVN (log 43). -/
def Device.slotInfo (d : Device) (slot : Nat) : List Byte × Device :=
  let b := d.fwImage slot
  if b.isEmpty then (u32 (d.free.1.toNat % 2 ^ 32) ++ u8 (d.free.1.toNat / 2 ^ 32 % 2 ^ 8) ++ u8 0, d.free.2)
  else (u32 (fwVersionOf b) ++ u8 (fwSvnOf b) ++ u8 (bit (d.fwValid b)), d)

/-- FW_INFO. -/
def execFwInfo (m : MsgRef) (payload : List Byte) (s : State) : Host.Outcome State Fault Refusal :=
  s.cmd m 0x1005 (fun b => b = payload) (fun d =>
    if d.class1Waits then d
    else
      let a := d.slotInfo 0
      let b := a.2.slotInfo 1
      b.2.respond m 0x1005 0 (u8 d.running ++ u8 (bit d.fwTrial) ++ u8 d.fuses.rollback ++ u8 d.actState ++ a.1 ++ zeros 2 ++ b.1))

/-! ### Activation (R586, R587) -/

/-- FW_ACTIVATION_APPLY: the first start of Night with the emergencies clear for 1 s; past B3 the next Night is waited for.  While a VENDOR
session holds the cores in reset nothing is applied (R595). -/
def execFwActivationApply (s : State) : Host.Outcome State Fault Refusal :=
  s.upd (fun d =>
    if d.actState != 2 || !d.mgmt.fw || d.b3 < d.phase then d
    else
      let d := d.reachPhase d.b3
      if !d.clearSecond then d else (d.writeDesc d.mgmt.staged d.running true).setActState 3)

/-- FW_ACTIVATION_TIMEOUT: 60 s have passed with no continuous 1 s clear. -/
def execFwActivationTimeout (s : State) : Host.Outcome State Fault Refusal :=
  s.upd (fun d =>
    if d.actState != 2 || !d.mgmt.fw then d
    else
      let d := d.at (d.mgmt.pendingSince + 60000000000)
      if d.mgmt.clearSeen || d.clearSecond then d else (d.setActState 1).sendActivation 0x101D d.mgmt.staged)

/-- FW_RESTART_DONE: the new image runs on trial. -/
def execFwRestartDone (s : State) : Host.Outcome State Fault Refusal :=
  s.upd (fun d =>
    if d.actState != 3 || d.mgmt.crashed || !d.mgmt.fw then d
    else (((d.useImage d.mgmt.staged true).setActState 0).record { severity := 0, loc := x0Loc }).sendActivation 0 d.mgmt.staged)

/-! ### Boot (R582, R583) -/

/-- The slots the boot ROM tries, in order; a descriptor on trial gives PREV, and is rewritten. -/
def Device.bootOrder (d : Device) : List Nat × Device :=
  match d.board.strapBoot with
  | 1 => ([0], d)
  | 2 => ([1], d)
  | 0 => match d.bootDesc with
    | none => ([0, 1], d)
    | some x => if x.trial then ([x.prev, otherSlot x.prev], d.writeDesc x.prev x.prev false) else ([x.active, otherSlot x.active], d)
  | _ => ([], d)

/-- FIRMWARE_START, 400 ms into the schedule: the image selected runs, or the cores stay in the boot ROM.  `vmode`: the VOUT_MODE byte that
each VDD_Cd regulator answers (R613, R614). -/
def execFirmwareStart (vmode : List (Option Nat)) (s : State) : Host.Outcome State Fault Refusal :=
  s.upd (fun d =>
    if d.mgmt.booted then d
    else
      let d := (d.at (d.mgmt.t0 + 400000000)).updMgmt (fun x => { x with booted := true })
      let o := d.bootOrder
      let d := o.2
      match o.1.find? (fun k => d.fwValid (d.fwImage k)) with
      | none => d.record { code := 0x101A, severity := 5, loc := x0Loc }
      | some slot =>
        let d := (d.useImage slot false).updMgmt (fun x => { x with fw := true, adjustAt := d.now, readAt := d.now })
        [0, 1, 2, 3].foldl (fun d k =>
          let d := d.pmbusRead k 0x20
          match vmode.getD k none with
          | some v => d.updMgmt (fun x => { x with vmode := x.vmode.put k v })
          | none => d.vrFailed k) d)

/-- DEVICE_READY, 4 s into the schedule: the units that failed the self-test stand in the fault map; the device is ready (R552, R583). -/
def execDeviceReady (fails : List FaultPlace) (s : State) : Host.Outcome State Fault Refusal :=
  s.upd (fun d =>
    if !d.mgmt.fw || d.fld Reg.MEM_STATUS Fd.MEM_STATUS_TRAINED = 0 || d.fld Reg.DEV_STATUS Fd.DEV_STATUS_READY = 1 then d
    else
      let d := d.at (d.mgmt.t0 + 4000000000)
      let d := fails.foldl (fun d p =>
        let l := placeLoc 4 p
        let e := l.entry 0x1016 false
        if l.kind = 0 || 5 < l.kind || d.fault.fmap.any (fun x => x.2.sameUnit e) then d
        else match d.fmapAdd e with
          | some d => d.stopUnit l
          | none => d.containDie l.die 0x1011 false) d
      (d.setFld Reg.DEV_STATUS Fd.DEV_STATUS_READY 1).setFld Reg.HOST_STATE Fd.HOST_STATE_READY 1)

end Sys2Proof.Machine
end

