-- ==== Sys2Proof/Machine/Host.lean ====
section
/-!
DEFINITION. The host interface: the rings and the mailbox, MSI-X, the watchdog, detaching, BAR2 and BAR4 (chapter 17: R504 to R531, R536).
-/

namespace Sys2Proof.Machine

def Device.updHost (d : Device) (f : HostUnit → HostUnit) : Device := { d with host := f d.host }
def Device.hostState (d : Device) : Nat := d.fld Reg.HOST_STATE Fd.HOST_STATE_STATE

/-! ### The watchdog (R527, R528) -/

/-- The watchdog counts. -/
def Device.wdogCounts (d : Device) : Bool := d.fld Reg.WDOG_CTRL Fd.WDOG_CTRL_ENABLE = 1 && d.hostState = 1 && d.host.busMaster

/-- PERIOD_MS in ns. -/
def Device.wdogPeriod (d : Device) : Nat := d.fld Reg.WDOG_CTRL Fd.WDOG_CTRL_PERIOD_MS * 1000000

/-- The time counted since its last restart. -/
def Device.wdogElapsed (d : Device) : Nat := d.host.wdogUsed + if d.wdogCounts then d.now - d.host.wdogSince else 0

/-- What has been counted is kept, before a change of what lets the watchdog count. -/
def Device.wdogSettle (d : Device) : Device := d.updHost (fun h => { h with wdogUsed := d.wdogElapsed, wdogSince := d.now })

def Device.wdogRestart (d : Device) : Device := d.updHost (fun h => { h with wdogUsed := 0, wdogSince := d.now })

/-- HEARTBEAT. -/
def execHeartbeat (_v : Word) (s : State) : Host.Outcome State Fault Refusal := s.upd (fun d => d.wdogRestart)

/-- A write of WDOG_CTRL. -/
def Device.wdogCtrlWrite (d : Device) (v : Nat) : Device :=
  let period := bitsOf v 1 16
  if 2 ^ 17 ≤ v then d.refuse 0x0101
  else if period < 10 || 60000 < period then d.refuse 0x0104
  else (d.setReg Reg.WDOG_CTRL (BitVec.ofNat 64 v)).wdogRestart

def execWdogCtrlWrite (v : Word) (s : State) : Host.Outcome State Fault Refusal := s.upd (fun d => d.wdogCtrlWrite v.toNat)

/-- Host-bound requests stop and STATE becomes DETACHING; a parking under way goes on. -/
def Device.stopHost (d : Device) (cause : Nat) : Device :=
  let d := d.wdogSettle.setFld Reg.HOST_STATE Fd.HOST_STATE_DMA_OFF 1
  if d.hostState = 2 || d.hostState = 3 then d
  else (d.setHostState 2).updHost (fun h => { h with parkCause := some cause })

/-- WDOG_EXPIRE. -/
def execWdogExpire (s : State) : Host.Outcome State Fault Refusal :=
  s.upd (fun d =>
    if !d.wdogCounts then d
    else
      let d := d.at (d.host.wdogSince + (d.wdogPeriod - d.host.wdogUsed))
      (d.stopHost 1).setFld Reg.HOST_STATE Fd.HOST_STATE_WDOG_EXPIRED 1)

/-- D3HOT_ENTRY (R504): host-bound DMA stops as the watchdog stops it; a device reset in progress governs (R535). -/
def execD3hotEntry (s : State) : Host.Outcome State Fault Refusal :=
  s.upd (fun d =>
    let d := d.updHost (fun h => { h with d3hot := true })
    if d.fld Reg.DEV_STATUS Fd.DEV_STATUS_RESET_BUSY = 1 then d.setFld Reg.HOST_STATE Fd.HOST_STATE_DMA_OFF 1 else d.stopHost 4)

/-! ### MSI-X (R512 to R514) -/

/-- The pending vectors that may be sent are sent. -/
def Device.sendPending (d : Device) : Device :=
  if !d.host.msixEnable || d.dmaOff then d
  else
    let go := d.host.pba.filter (fun v => !(d.msixEntry v).masked)
    go.foldl (fun d v => d.emit (.msix v)) (d.updHost (fun h => { h with pba := h.pba.filter (fun v => v ∉ go) }))

/-! ### Configuration space (R504, R505, R579) -/

/-- What the endpoint offers (R504): the list of its extended capabilities. -/
inductive ExtCapability where
  | aer | deviceSerialNumber | resizableBar | ats | pri | doe | secondaryPcie | physical16 | physical32 | physical64 | laneMargining
  | dataLinkFeature | device3
  deriving DecidableEq, Repr

def extCapabilities : List ExtCapability :=
  [.aer, .deviceSerialNumber, .resizableBar, .ats, .pri, .doe, .secondaryPcie, .physical16, .physical32, .physical64, .laneMargining
    , .dataLinkFeature, .device3]

/-- Vendor and Subsystem ID: those of the board record, or 0x1F3D and 0 where it is not valid (R579). -/
def Device.subsystem (d : Device) : Nat × Nat :=
  if boardRecordOk d.flash.record then (leAt d.flash.record 8 2, leAt d.flash.record 0x0A 2) else (0x1F3D, 0)

/-- The size of BAR0, BAR2 and BAR4 (R505), and the low four bits that say 64-bit memory, prefetchable or not. -/
def Device.barOf (d : Device) (i : Nat) : Nat × Nat :=
  match i with | 0 => (2 ^ 28, 0x4) | 1 => (2 ^ 24, 0x4) | _ => (d.host.bar4Size, 0xC)

/-- A dword of the configuration header (R505).  `open_` is what the spec does not give of it: the rest of Command and Status, the addresses
that the host has given the BARs, the capability pointer, the interrupt line (log 110). -/
def Device.headerDword (d : Device) (i open_ : Nat) : Nat :=
  match i with
  | 0 => 0x1F3D + 2 ^ 16 * 0x4160
  | 1 => withBits open_ 2 1 (bit d.host.busMaster)
  | 2 => 0x31 + 2 ^ 8 * 0x120000
  | 3 => open_
  | 10 => open_
  | 11 => d.subsystem.1 + 2 ^ 16 * d.subsystem.2
  | 12 => 0
  | 13 => open_
  | 14 => open_
  | 15 => withBits open_ 8 8 0
  | _ =>
    let x := d.barOf ((i - 4) / 2)
    if i % 2 = 0 then (open_ / x.1 * x.1) % 2 ^ 32 + x.2 else (open_ * 2 ^ 32 / x.1 * x.1) / 2 ^ 32

/-- Device Control as PCI Express lays it out (PRESUMED, log 110). -/
def RequestCtl.word (r : RequestCtl) (open_ : Nat) : Nat :=
  withBits (withBits (withBits (withBits open_ 4 1 (bit r.relaxed)) 5 3 r.maxPayload) 11 1 (bit r.noSnoop)) 12 3 r.maxRead

/-- A dword of configuration space as a read returns it. -/
def Device.configRead (d : Device) (x : ConfigDword) : Nat :=
  match x with
  | .header i => d.headerDword i.val ((Config.readValue (2 ^ 40 + 4 * i.val) d.now).toNat % 2 ^ 32) % 2 ^ 32
  | .deviceControl => d.host.requests.word ((Config.readValue (2 ^ 40 + 64) d.now).toNat % 2 ^ 32)

/-- CONFIGURATION_SPACE_WRITE: Bus Master Enable, Device Control, MSI-X, ATS and PRI enables; pending vectors leave once MSI-X is enabled.  A
payload size above 512 B is not offered and leaves the size in force (R504; log 110). -/
def execConfigurationSpaceWrite (ctl : ConfigControl) (msix ats pri : Bool) (s : State) : Host.Outcome State Fault Refusal :=
  s.upd (fun d =>
    let size (old new limit : Nat) := if limit < new then old else new
    let r := d.host.requests
    let r := { r with maxPayload := size r.maxPayload ctl.maxPayload.val 2, maxRead := size r.maxRead ctl.maxRead.val 5, relaxed := ctl.relaxed
                      noSnoop := ctl.noSnoop }
    let d := (d.wdogSettle.updHost (fun h => { h with busMaster := ctl.busMaster, msixEnable := msix, atsEnable := ats, priEnable := pri
                                                      requests := r })).sendPending
    match ctl.look with
    | some x => d.emit (.configData (d.configRead x))
    | none => d)

/-- MSIX_UNMASK. -/
def execMsixUnmask (v : Fin 2048) (s : State) : Host.Outcome State Fault Refusal :=
  s.upd (fun d => (d.updHost (fun h => { h with msix := h.msix.put v.val { d.msixEntry v.val with masked := false } })).sendPending)

/-- MSIX_COALESCE_TIMER: COALESCE_US after its last signal, vector 0 is signalled for what was written meanwhile. -/
def execMsixCoalesceTimer (s : State) : Host.Outcome State Fault Refusal :=
  s.upd (fun d =>
    match d.host.vec0Waiting, d.host.vec0Last with
    | true, some t =>
      let d := d.at (t + d.fld Reg.MB_CTRL Fd.MB_CTRL_COALESCE_US * 1000)
      (d.updHost (fun h => { h with vec0Waiting := false, vec0Last := some d.now })).signal 0
    | _, _ => d)

/-- A write of IRQ_MAP v; ARMED stays set where it is written 0 (R10). -/
def Device.irqMapWrite (d : Device) (v value : Nat) : Device :=
  if v < 16 then d.refuse 0x0104
  else if bitsOf value 19 13 != 0 then d.refuse 0x0101
  else
    let armed := bitAt value 18 || d.fld (Reg.IRQ_MAP v) Fd.IRQ_MAP_ARMED = 1
    let d := d.setReg (Reg.IRQ_MAP v) (BitVec.ofNat 64 (withBits value 18 1 (bit armed)))
    d.fireIrq (65536 * d.fld (Reg.IRQ_MAP v) Fd.IRQ_MAP_DIE + d.fld (Reg.IRQ_MAP v) Fd.IRQ_MAP_INDEX)

/-- IRQ_MAP_WRITE: an entry armed while its condition holds fires at once. -/
def execIrqMapWrite (v : Fin 2048) (value : DWord) (s : State) : Host.Outcome State Fault Refusal := 
  s.write64 (Reg.IRQ_MAP v.val) (fun d => d.irqMapWrite v.val value.toNat)

/-! ### The H2D ring (R515 to R519, R526) -/

def Device.hseqNext (d : Device) : Nat := d.fld Reg.MB_HSEQ_NEXT ⟨0, 32⟩
def Device.hseqPosted (d : Device) : Nat := d.fld Reg.MB_HSEQ_POSTED ⟨0, 32⟩

/-- A doorbell value (R517); the watchdog restarts even where it is refused. -/
def Device.doorbell (d : Device) (v : Nat) : Device :=
  let d := d.wdogRestart
  let up := seqDist v d.hseqNext
  if 8192 < up || up < seqDist d.hseqPosted d.hseqNext then d.refuse 0x0113
  else d.setReg Reg.MB_HSEQ_POSTED (BitVec.ofNat 64 v)

/-- H2D_DOORBELL: the slots written before it, then the doorbell. -/
def execH2dDoorbell (posted : Word) (slots : List (Nat × List Byte)) (s : State) : Host.Outcome State Fault Refusal :=
  s.upd (fun d => (slots.foldl (fun d e => d.updHost (fun h => { h with h2d := h.h2d.put (e.1 % 8192) e.2 })) d).doorbell posted.toNat)

/-- The payload length of an H2D opcode: the end of the last field of its payload table (R518). -/
def payloadLen (opcode : Nat) : Option Nat :=
  match opcode with
  | 0x0001 => some 8 | 0x0002 => some 0 | 0x0003 => some 8 | 0x0010 => some 0 | 0x0011 => some 16 | 0x0012 => some 1 | 0x0013 => some 16
  | 0x1001 => some 12 | 0x1002 => some 0 | 0x1003 => some 0 | 0x1004 => some 1 | 0x1005 => some 0
  | 0x2001 => some 20 | 0x2002 => some 1 | 0x2003 => some 6 | 0x2004 => some 0 | 0x2005 => some 1
  | 0x3001 => some 24 | 0x3002 => some 0 | 0x3003 => some 186 | 0x3004 => some 122 | 0x3005 => some 179
  | 0x4001 => some 36 | 0x4002 => some 4 | 0x4003 => some 4
  | 0x5000 => some 48 | 0x5001 => some 47 | 0x5002 => some 2 | 0x5003 => some 32 | 0x5004 => some 2 | 0x5005 => some 36 | 0x5006 => some 2
  | _ => none

/-- Checks 1 to 7 of a message, in order (R518); bytes 5 to 7 of the payload of ATTACH are 0 (R523). -/
def Device.messageCheck (d : Device) (b : List Byte) : Option Nat :=
  let opcode := leAt b 0 2
  if leAt b 8 4 != d.hseqNext then some 0x0112
  else if leAt b 2 1 != 1 then some 0x0110
  else if leAt b 6 2 != 0 || leAt b 12 12 != 0 || leAt b 28 4 != 0 || (opcode = 0x0001 && leAt b 37 3 != 0) then some 0x0101
  else match payloadLen opcode with
    | none => some 0x0102
    | some n =>
      let c := opcode / 4096
      if leAt b 4 2 != n then some 0x0116
      else if c != 0 && d.fld Reg.HOST_STATE Fd.HOST_STATE_READY = 0 then some 0x0114
      else if (c = 2 || c = 4 || c = 5) && d.hostState != 1 then some 0x0115
      else none

def Device.takeHseq (d : Device) : Device := d.setReg Reg.MB_HSEQ_NEXT (BitVec.ofNat 64 ((d.hseqNext + 1) % 2 ^ 32))

/-- MESSAGE_CONSUME: the next posted message is refused, or joins the queue of its class; while no D2H position is free, or that queue is
full, it waits (R519, R521).  During package containment only class 0 is served (R545). -/
def execMessageConsume (s : State) : Host.Outcome State Fault Refusal :=
  s.upd (fun d =>
    if d.hseqNext = d.hseqPosted || !d.d2hFree then d
    else
      let b := d.host.h2d.getD (d.hseqNext % 8192) []
      let m : MsgRef := { hseq := d.hseqNext, cookie := leAt b 24 4 }
      let opcode := leAt b 0 2
      let c := opcode / 4096
      match d.messageCheck b with
      | some code => d.takeHseq.refuseMsg m opcode code
      | none =>
        let payload := (b.drop 32).take (leAt b 4 2)
        let q := d.host.classQ.getD c []
        if d.packageContained && c != 0 then d.takeHseq.refuseMsg m opcode (classState c) (msgDie opcode payload)
        else if 64 ≤ q.length then d
        else d.takeHseq.updHost (fun h => { h with classQ := h.classQ.put c (q ++ [{ opcode := opcode, hseq := m.hseq, cookie := m.cookie, payload := payload }]) }))

/-- MB_CTRL.DISCARD (R526): every posted message is consumed without effect. -/
def Device.discard (d : Device) : Device :=
  let n := seqDist d.hseqPosted d.hseqNext
  (d.setReg Reg.MB_HSEQ_NEXT (BitVec.ofNat 64 d.hseqPosted)).count Reg.MB_DISCARDED 32 n

/-- MB_DISCARD. -/
def execMbDiscard (s : State) : Host.Outcome State Fault Refusal := s.upd (fun d => d.discard)

/-- A write of MB_CTRL. -/
def Device.mbCtrlWrite (d : Device) (v : Nat) : Device :=
  if bitsOf v 1 7 != 0 || 2 ^ 16 ≤ v then d.refuse 0x0101
  else
    let d := d.setFld Reg.MB_CTRL Fd.MB_CTRL_COALESCE_US (bitsOf v 8 8)
    if bitAt v 0 then d.discard else d

/-! ### The D2H ring (R521, R522) -/

/-- ATTACH's response, of the moment it is written (R523). -/
def Device.attachPayload (d : Device) (before : Nat) : List Byte :=
  u32 d.hseqNext ++ u32 (d.fld Reg.MB_DSEQ_NEXT ⟨0, 32⟩) ++ u32 (d.fld Reg.MB_D2H_ACKED ⟨0, 32⟩) ++ u32 (d.fld Reg.MB_DROPPED ⟨0, 32⟩)
    ++ u8 1 ++ u8 0 ++ u8 before ++ u8 (d.fld Reg.HOST_STATE Fd.HOST_STATE_WDOG_EXPIRED)

/-- A held message is written. -/
def Device.writeHeld (d : Device) (m : D2hMsg) : Device :=
  d.writeD2h (if m.opcode = 0x0001 && m.status = 0 && !m.async then { m with payload := d.attachPayload (leAt m.payload 18 1) } else m)

/-- Held responses, then held unsolicited messages, are written while positions are free. -/
def Device.flushHeld (d : Device) : Device :=
  let d := d.host.heldResp.foldl (fun d m => if d.d2hFree then (d.updHost (fun h => { h with heldResp := h.heldResp.drop 1 })).writeHeld m else d) d
  d.host.holdQ.foldl (fun d m => if d.d2hFree then (d.updHost (fun h => { h with holdQ := h.holdQ.drop 1 })).writeHeld m else d) d

/-- A D2H_ACK value. -/
def Device.d2hAck (d : Device) (v : Nat) : Device :=
  let acked := d.fld Reg.MB_D2H_ACKED ⟨0, 32⟩
  if seqDist (d.fld Reg.MB_D2H_POS ⟨0, 32⟩) acked < seqDist v acked then d.refuse 0x0113
  else (d.setReg Reg.MB_D2H_ACKED (BitVec.ofNat 64 v)).flushHeld

/-- D2H_ACK. -/
def execD2hAck (v : Word) (s : State) : Host.Outcome State Fault Refusal := s.upd (fun d => d.d2hAck v.toNat)

/-! ### Mailbox commands (R523, R529 to R531) -/

/-- ATTACH; during package containment DMA_OFF stays (R543). -/
def execAttach (m : MsgRef) (driver minorMax : Nat) (s : State) : Host.Outcome State Fault Refusal :=
  s.cmd m 0x0001 (fieldsAre [(0, 4, driver), (4, 1, minorMax)]) (fun d =>
    let before := d.hostState
    if before = 2 then d.refuseMsg m 0x0001 0x0106
    else
      let d := if before = 1 then d
        else
          let d := d.wdogSettle.setFld Reg.HOST_STATE Fd.HOST_STATE_DMA_OFF (bit d.packageContained)
          (d.setHostState 1).sendPending
      d.respond m 0x0001 0 (d.attachPayload before))

/-- DETACH: DETACHING until the mark that ends the step; in PARKED it is answered at once. -/
def execDetach (m : MsgRef) (s : State) : Host.Outcome State Fault Refusal :=
  s.cmd m 0x0002 (fun _ => true) (fun d =>
    if d.hostState = 3 then d.respond m 0x0002 0 (u32 d.host.parkStep)
    else
      let d := d.wdogSettle.updHost (fun h => { h with detaches := addNew h.detaches (m.hseq, m.cookie), parkCause := some (h.parkCause.getD 0) })
      d.setHostState 2)

/-- PING. -/
def execPing (m : MsgRef) (data : DWord) (s : State) : Host.Outcome State Fault Refusal :=
  s.cmd m 0x0003 (fieldsAre [(0, 8, data.toNat)]) (fun d => d.respond m 0x0003 0 (u64 data.toNat))

/-! ### BAR2 (R506, R509) -/

def inD2hRing (off : Nat) : Bool := 0x40_0000 ≤ off && off < 0x80_0000
def isDoorbell (off : Nat) : Bool := 0xF0_0000 ≤ off && off < 0xF0_000C

def inMsixTable (off : Nat) : Bool := 0xF1_0000 ≤ off && off < 0xF1_8000
def inPba (off : Nat) : Bool := 0xF2_0000 ≤ off && off < 0xF2_0100

/-- An offset that the table of R509 lists. -/
def bar2Listed (off : Nat) : Bool := off < 0x20_0000 || inD2hRing off || isDoorbell off || inMsixTable off || inPba off

/-- The 256 bytes of a D2H slot (R515); what stands behind the payload is ignored by the host and left open (`pad`). -/
def D2hMsg.bytes (m : D2hMsg) (pad : Nat → Byte) : List Byte :=
  let b := u16 m.opcode ++ u8 1 ++ u8 0 ++ u16 m.payload.length ++ u8 (1 + 2 * bit m.async) ++ u8 0 ++ u32 m.hseq ++ u32 m.dseq ++ u32 m.pos
    ++ u16 m.status ++ u16 0 ++ u32 m.cookie ++ u32 m.step ++ m.payload
  b ++ (List.range (256 - b.length)).map pad

/-- The 16 bytes of an MSI-X table entry, as PCI lays them out (PRESUMED, log 110). -/
def MsixEntry.bytes (e : MsixEntry) : List Byte := u64 e.addr ++ u32 e.data ++ u32 (bit e.masked)
def msixOf (b : List Byte) : MsixEntry := { addr := leAt b 0 8, data := leAt b 8 4, masked := bitAt (leAt b 12 4) 0 }

/-- A byte of BAR2 as a read returns it; the doorbells are written only, and read 0 (R10). -/
def Device.bar2Byte (d : Device) (o : Nat) : Byte :=
  if o < 0x20_0000 then (d.host.h2d.getD (o / 256) []).getD (o % 256) 0
  else if inD2hRing o then
    match d.host.d2h.get? ((o - 0x40_0000) / 256) with
    | some m => (m.bytes (fun i => (Config.readValue (2 ^ 41 + (o - o % 256) + i) m.pos).setWidth 8)).getD (o % 256) 0
    | none => 0
  else if inMsixTable o then (d.msixEntry ((o - 0xF1_0000) / 16)).bytes.getD (o % 16) 0
  else if inPba o then BitVec.ofNat 8 (bitsWhere 8 (fun i => 8 * (o - 0xF2_0000) + i ∈ d.host.pba))
  else 0

/-- A byte written into the H2D ring or the MSI-X table; the other areas take none. -/
def Device.bar2Put (d : Device) (o : Nat) (x : Byte) : Device :=
  if o < 0x20_0000 then
    let b := d.host.h2d.getD (o / 256) []
    d.updHost (fun h => { h with h2d := h.h2d.put (o / 256) (setNth (b ++ zeros (256 - b.length)) (o % 256) x) })
  else if inMsixTable o then
    let v := (o - 0xF1_0000) / 16
    d.updHost (fun h => { h with msix := h.msix.put v (msixOf (setNth (d.msixEntry v).bytes (o % 16) x)) })
  else d

/-- A 32-bit write of a doorbell. -/
def Device.doorbellWrite (d : Device) (off v : Nat) : Device :=
  match off with
  | 0xF0_0000 => d.doorbell v
  | 0xF0_0004 => d.d2hAck v
  | 0xF0_0008 => d.wdogRestart
  | _ => d.refuse 0x0118

/-- An access of the doorbells (R506, R9): of 32 bits, or of 64 as two of 32; others are not supported. -/
def Device.doorbellAccess (d : Device) (off width : Nat) (access : Bar2Access) : Device :=
  if unsupported off width then
    match access with | .read => d.emit (.bar2Data (2 ^ width - 1)) | .write _ => d.refuse 0x0103
  else
    let beyond := width = 64 && !isDoorbell (off + 4)
    match access with
    | .read => (if beyond then d.refuse 0x0118 else d).emit (.bar2Data 0)
    | .write v =>
      let d := d.doorbellWrite off (v.toNat % 2 ^ 32)
      if width = 64 then d.doorbellWrite (off + 4) (v.toNat / 2 ^ 32) else d

/-- BAR2_INVALID_ACCESS: an access of BAR2 of `width` bits: one that R509 refuses, or one that reads or writes what it lists.  An entry of the
MSI-X table that the host unmasks sends what is pending. -/
def execBar2InvalidAccess (off width : Nat) (access : Bar2Access) (s : State) : Host.Outcome State Fault Refusal :=
  s.upd (fun d =>
    let offs := (List.range (width / 8)).map (fun i => off + i)
    let write := access != .read
    if isDoorbell off then d.doorbellAccess off width access
    else if offs.any (fun o => !bar2Listed o || (inD2hRing o && write)) then
      (let d := d.refuse 0x0118
       if write then d else d.emit (.bar2Data (leAt (offs.map d.bar2Byte) 0 (width / 8))))
    else match access with
      | .read => d.emit (.bar2Data (leAt (offs.map d.bar2Byte) 0 (width / 8)))
      | .write v => ((offs.zip (leBytes (width / 8) v.toNat)).foldl (fun d x => d.bar2Put x.1 x.2) d).sendPending)

/-! ### BAR4 (R510, R511) -/

/-- A BAR4 access of `n` bytes at offset `off` reaches device memory. -/
def Device.bar4Served (d : Device) (off n : Nat) : Bool := d.localRange ((d.reg Reg.BAR4_BASE).toNat + off) n

/-- BAR4_READ. -/
def execBar4Read (off len : Nat) (s : State) : Host.Outcome State Fault Refusal :=
  s.upd (fun d =>
    let a := (d.reg Reg.BAR4_BASE).toNat + off
    if d.host.bar4Size < off + len then d
    else if !d.bar4Served off len then (d.count Reg.BAR4_UNMAPPED_COUNT 32 1).emit (.bar4Data (some (List.replicate len 0xFF)))
    else if d.poisoned a len then d.emit (.bar4Data none)
    else d.emit (.bar4Data (some (d.read a len))))

/-- BAR4_WRITE. -/
def execBar4Write (off : Nat) (data : List Byte) (s : State) : Host.Outcome State Fault Refusal :=
  s.upd (fun d =>
    if d.host.bar4Size < off + data.length then d
    else if !d.bar4Served off data.length then d.count Reg.BAR4_UNMAPPED_COUNT 32 1
    else d.write ((d.reg Reg.BAR4_BASE).toNat + off) data)

/-- A write of BAR4_BASE. -/
def Device.bar4BaseWrite (d : Device) (v : Nat) : Device :=
  if v % d.host.bar4Size != 0 then d.refuse 0x0104 else d.setReg Reg.BAR4_BASE (BitVec.ofNat 64 v)

/-- BAR4_BASE_WRITE. -/
def execBar4BaseWrite (v : DWord) (s : State) : Host.Outcome State Fault Refusal := 
  s.write64 Reg.BAR4_BASE (fun d => d.bar4BaseWrite v.toNat)

/-- BAR4_RESIZE: the capability offers 1 GiB to 1 TiB (R505). -/
def execBar4Resize (log2 : Nat) (s : State) : Host.Outcome State Fault Refusal :=
  s.upd (fun d => if log2 < 30 || 40 < log2 then d else (d.updHost (fun h => { h with bar4Size := 2 ^ log2 })).setReg Reg.BAR4_BASE 0)

end Sys2Proof.Machine
end

