-- ==== Sys2Proof/Machine/Switch.lean ====
section
/-!
DEFINITION. The plan switch and its agreement in a column group (chapter 3: R79, R85 to R88; R171, R219, R228, R289, R333, R453).
-/

namespace Sys2Proof.Machine

/-! ### Step 2: the agreement (R453) -/

/-- The first 32 bytes of the SHAKE256 of the SHARD section of the lowest-numbered die. -/
def shardDigest (b : List Byte) : List Byte := shake256 32 (planShard b)

/-- The group step of the armed switch (R451). -/
def Device.groupSwitchStep (d : Device) : Nat :=
  (d.fld Reg.PLAN_SWITCH_STEP Fd.PLAN_SWITCH_STEP_STEP + d.fld Reg.GROUP_STEP_DELTA Fd.GROUP_STEP_DELTA_DELTA) % 2 ^ 32

/-- The vote of this member for a shadow plan. -/
def Device.ownVote (d : Device) (p : Plan) : SwitchVoteData :=
  { member := d.memberId, step := d.groupSwitchStep, plan := imgPlanId p.image, digest := shardDigest p.image }

def Device.leader (d : Device) : Nat := d.fld Reg.GROUP_CTRL Fd.GROUP_CTRL_CAD_LEADER
def Device.coordinates (d : Device) : Bool := d.leader = d.memberId

/-- A vote is recorded, one for each member. -/
def Device.addVote (d : Device) (v : SwitchVoteData) : Device :=
  d.updPlan (fun u => { u with votes := u.votes.filter (fun x => x.member != v.member) ++ [v] })

/-- Two votes agree in all three values. -/
def voteAgrees (a b : SwitchVoteData) : Bool := a.step = b.step && a.plan = b.plan && a.digest = b.digest

/-- Steps 1 and 2 of R85 have passed: the Pack instances flush (R289), tables begin to retire (R394), and the device drains. -/
def Device.beginDrain (d : Device) : Device :=
  let new := (d.plan.shadow.map (·.image)).getD []
  ((d.packSwitch).embRetire new).updPlan (fun u => { u with switch := .draining, votes := [], decision := none })

/-- A member acts on the decision. -/
def Device.decided (d : Device) (commit : Bool) : Device := if commit then d.beginDrain else d.cancelSwitch 0x0223

/-- The coordinator sends its decision to every member below GROUP_SIZE and acts on it. -/
def Device.sendDecision (d : Device) (size : Nat) (commit : Bool) : Device :=
  let gs := d.groupSwitchStep
  ((List.range size).foldl (fun d m => if m = d.memberId then d else d.sendLink m 0x07 (u8 (bit commit) ++ zeros 3 ++ u32 gs) []) d).decided commit

/-- What the coordinator decides from the votes it holds: nothing yet, COMMIT or CANCEL. -/
def Device.verdict (d : Device) (p : Plan) : Option Bool :=
  let own := d.ownVote p
  let n := imgGroupSize p.image
  if d.plan.votes.any (fun v => !voteAgrees v own) then some false
  else if (List.range n).all (fun m => d.plan.votes.any (fun v => v.member = m) && !d.memberLost m) then some true
  else none

/-- The coordinator decides as soon as it can, once its own switch point has come. -/
def Device.coordinate (d : Device) : Device :=
  match d.plan.switch, d.plan.shadow with
  | .agreement _, some p =>
    if d.coordinates then (match d.verdict p with | some c => d.sendDecision (imgGroupSize p.image) c | none => d) else d
  | _, _ => d

/-- Its switch point begins the agreement: the vote goes to the coordinator. -/
def Device.beginAgreement (d : Device) (p : Plan) : Device :=
  let v := d.ownVote p
  let d := d.updPlan (fun u => { u with switch := .agreement d.ticks })
  if d.coordinates then (d.addVote v).coordinate
  else
    let d := d.sendLink d.leader 0x06 (u32 v.step ++ u32 v.plan) v.digest
    match d.plan.decision with
    | some c => d.decided c
    | none => d

/-- SWITCH_POINT (R85): PHASE reaches the switch point in SWITCH_STEP, or the switch was due in a step that has ended (R52). -/
def execSwitchPoint (s : State) : Host.Outcome State Fault Refusal :=
  s.upd (fun d =>
    match d.plan.switch, d.plan.shadow with
    | .none, some p =>
      if d.shadowState != 3 || !(d.plan.carried || d.stepNum = d.fld Reg.PLAN_SWITCH_STEP Fd.PLAN_SWITCH_STEP_STEP) then d
      else
        let d := if d.plan.carried then d else d.reachPhase (d.fld Reg.PLAN_SWITCH_PU Fd.PLAN_SWITCH_PU_PU)
        if d.plan.staleSinceArm then d.cancelSwitch 0x0225
        else if 1 < imgGroupSize p.image then d.beginAgreement p
        else d.beginDrain
    | _, _ => d)

/-- SWITCH_VOTE (R453): the coordinator records a vote, and decides when it can. -/
def execSwitchVote (p : Fin 8) (s : State) : Host.Outcome State Fault Refusal :=
  s.upd (fun d => d.onMessage p.val 0x06 (fun r d =>
    if d.coordinates then
      (d.addVote { member := r.msg.src, step := leAt r.msg.fields 0 4, plan := leAt r.msg.fields 4 4, digest := r.msg.payload }).coordinate
    else d))

/-- SWITCH_DECISION (R453): COMMIT goes on to the drain, CANCEL cancels; a decision of another group step is none of this switch. -/
def execSwitchDecision (p : Fin 8) (s : State) : Host.Outcome State Fault Refusal :=
  s.upd (fun d => d.onMessage p.val 0x07 (fun r d =>
    let c := leAt r.msg.fields 0 1 = 1
    if d.shadowState != 3 || leAt r.msg.fields 4 4 != d.groupSwitchStep then d
    else match d.plan.switch with
      | .agreement _ => d.decided c
      | .none => d.updPlan (fun u => { u with decision := some c })
      | _ => d))

/-- The clock moves on to a delay-list tick of the present step (R47). -/
def Device.reachTick (d : Device) (t : Nat) : Device := if t ≤ d.time.tickBase + 65535 then d.reachPhase (t - d.time.tickBase) else d

/-- `n` ticks after the switch point the agreement has come to no end: what follows. -/
def Device.agreementAfter (d : Device) (n : Nat) (f : Plan → Device → Device) : Device :=
  match d.plan.switch, d.plan.shadow with
  | .agreement t, some p =>
    let d' := d.reachTick (t + n)
    if t + n ≤ d'.ticks then f p d' else d
  | _, _ => d

/-- SWITCH_VOTE_TIMEOUT (R453): the coordinator has not decided within 1,920 ticks: CANCEL. -/
def execSwitchVoteTimeout (s : State) : Host.Outcome State Fault Refusal :=
  s.upd (fun d => if d.coordinates then d.agreementAfter 1920 (fun p d => d.sendDecision (imgGroupSize p.image) false) else d)

/-- SWITCH_DECISION_TIMEOUT (R453): no decision within 2,048 ticks: the member cancels. -/
def execSwitchDecisionTimeout (s : State) : Host.Outcome State Fault Refusal :=
  s.upd (fun d => d.agreementAfter 2048 (fun _ d => d.cancelSwitch 0x0223))

/-! ### Steps 3 and 4: the drain and the schedule (R85, R87) -/

/-- Every task of the outgoing plan has committed or aborted, and its Night actions, its emissions and its entry changes have completed; a
patrol burst that runs or is carried is one of the Night actions that step 3 of R85 waits for, as R51 lists it (R52; DEDUCED, log 80). -/
def Device.drained (d : Device) : Bool :=
  !(d.str.tasks.any (fun e => e.2.live)) && d.str.abortReqs.isEmpty && d.str.abortOrders.isEmpty && d.str.allocWait.isEmpty && d.embQuiet
    && d.pack.all (fun e => e.2.closed.isEmpty && e.2.slots.isEmpty && e.2.emitting.isNone) && d.matchI.all (fun e => e.2.apply.isEmpty)
    && !d.memu.burst

/-- Every buffer of a plan's pools, free (R148). -/
def planPools (pl : Plan) : Map (List Nat) :=
  (List.range 4).foldl (fun m die => (poolsOf pl.image die).foldl (fun (m : Map (List Nat)) r =>
    m.put (1024 * die + r.id) ((List.range r.count).map (fun i => pl.poolBase die r + i * r.size))) m) []

/-- The cluster data stores hold the data images of the new plan; the rest of every store reads 0 (R68, R87). -/
def Device.loadStores (d : Device) (pl : Plan) : Device :=
  let inStore (a : Nat) : Bool := (List.range 4).any (fun die => decide (sramBase die ≤ a) && decide (a < sramBase die + 4096 * 0x0002_0000))
  let d := { d with mem := d.mem.filter (fun c => !inStore c.1), poison := d.poison.filter (fun g => !inStore (64 * g)) }
  (List.range 4).foldl (fun d die => (placementsOf pl.image die).foldl (fun d r => d.write (clusterAddr die (pl.physical die r.cluster) 0) r.data) d) d

/-- R316: a Match bank belongs to the gang of a leader that the plan lists. -/
def Plan.hasBank (pl : Plan) (die k : Nat) : Bool :=
  (stationsOf pl.image die).any (fun s => s.kind = 1 && decide (k ∈ (matchCfg s.config).banks s.index))

/-- The plan names the unit of a fault-map entry: a placed cell, cluster or block, or a station listed or of a listed gang (R553, R316). -/
def Plan.names (pl : Plan) (e : FaultEntry) : Bool :=
  let placed := (placementsOf pl.image e.die).map (fun r => (pl.physical e.die r.cluster, r.mask))
  let station (kind k : Nat) : Bool := (pl.station e.die kind k).isSome || (kind = 1 && pl.hasBank e.die k)
  match e.kind with
  | 1 => placed.any (fun x => x.1 = 64 * e.block + e.cluster && bitAt x.2 e.cell)
  | 2 => placed.any (fun x => x.1 = 64 * e.block + e.cluster)
  | 3 => placed.any (fun x => x.1 / 64 = e.block) || station 1 e.block || station 5 e.block
  | 4 => station e.station e.index
  | _ => true

/-- The registers a switch resets that are not computed from other state: the self-test fields of ARR_STATUS (R433). -/
def Device.switchRegs (d : Device) : Device :=
  (List.range 32).foldl (fun d i =>
    let r := Reg.ARR_STATUS (i / 8) (i % 8)
    (d.setFld r Fd.ARR_STATUS_SELFTEST 0).setFld r Fd.ARR_STATUS_LAST_SELFTEST_FAIL 0) d

/-- The flush bits of Pack instances that hold nothing more. -/
def Device.clearFlush (d : Device) : Device := (List.range 4).foldl (fun d k => d.setFld (Reg.PACK_CMD k) Fd.PACK_CMD_FLUSH 0) d

/-- R87 from 0.0 to 0.5 µs: dispatch halts; streams, Lifts, Gates, stations and cells hold nothing more of any plan. -/
def Device.clearWork (d : Device) : Device :=
  ({ d with
    str := { StreamUnit.reset with
      seqs := d.str.seqs, allocCount := d.str.allocCount, retireCount := d.str.retireCount, nextRead := d.str.nextRead
      extReads := d.str.extReads.filter (fun r => r.stream = planStoreStream), abortReports := d.str.abortReports }
    sched := { d.sched with gates := [], formCount := 0 }
    cells := [], stn := StationUnit.reset, pack := [], sel := [], arr := []
    link := { d.link with trav := [], travEnded := [] } }).clearFlush.settleInvals

/-- R87 from 1.0 to 9.0 µs: the new plan is in place, contents that it keeps stay, roles are exchanged. -/
def Device.installPlan (d : Device) (new : Plan) : Device :=
  let old := d.plan.active
  let d := d.clearWork
  let d := { d with
    str := { d.str with pools := planPools new }
    sched := { d.sched with sync := syncInit new d.sched.sync }
    fault := { d.fault with idleUnits := d.fault.idleUnits.filter (fun e => !new.names e) } }
  let d := (d.updPlan (fun u => { u with active := some new, shadow := old })).switchRegs
  ((d.matchSwitch).embInstall (old.map (·.image)) new.image).loadStores new

/-- SWITCH_START (R85 step 3, R87): the drain has ended; the shadow becomes SWITCHING and the schedule runs. -/
def execSwitchStart (s : State) : Host.Outcome State Fault Refusal :=
  s.upd (fun d =>
    match d.plan.switch with
    | .draining =>
      if d.drained && d.plan.shadow.isSome then ((d.updPlan (fun u => { u with switch := .running d.now })).setShadowState 4).clearWork else d
    | _ => d)

/-- R171: the placed cells start; a fenced cell does not run. -/
def Device.startCells (d : Device) (pl : Plan) : Device :=
  (List.range 4).foldl (fun d die => (placementsOf pl.image die).foldl (fun d r =>
    (onesBelow 64 r.mask).foldl (fun d c =>
      let g := 64 * (4096 * die + pl.physical die r.cluster) + c
      let stopped := d.fault.fmap.any (fun e => (e.2.loc).hasCell g) || d.fault.idleUnits.any (fun e => e.loc.hasCell g)
      d.setCell g { Cell.gatedCell with state := if stopped then .fenced else .running, pc := BitVec.ofNat 32 (4 * r.entry) }) d) d) d

/-- The plan measurement PM and its extension (R79, R594). -/
def Device.planMeasure (d : Device) : List Byte := (List.range 16).flatMap (fun k => u32 (d.reg (Reg.SEC_PLAN_MEAS k)).toNat)
def Device.extendPm (d : Device) (x : List Byte) : Device :=
  let pm := shake256 64 (d.planMeasure ++ x)
  (List.range 16).foldl (fun d k => d.setReg (Reg.SEC_PLAN_MEAS k) (BitVec.ofNat 64 (leAt pm (4 * k) 4))) d

/-- R48, R86: the boundaries of the new plan are in force from the start of the step that a carried switch governs, where they are already, else
from the next accepted mark; none of its stages has reached a point of its own in this step. -/
def Device.takeBounds (d : Device) (pl : Plan) (carried : Bool) : Device :=
  if carried then d
  else d.updTime (fun u => { u with nextBounds := some (planBounds (some pl)), stagesBegun := [], stagesHanded := [], stagesCommitted := [] })

/-- R228: the sync operations held by the switch are applied at dispatch enable. -/
def Device.releaseSync (d : Device) : Device := ((d.sched.ops.map (·.obj)).foldl addNew []).foldl (fun d o => d.syncApply o) d

/-- A switch to a plan of one member ends a hold (R448). -/
def Device.endHold (d : Device) (pl : Plan) : Device :=
  if imgGroupSize pl.image ≤ 1 then
    (d.setFld Reg.GROUP_STATUS Fd.GROUP_STATUS_HELD 0).updTime (fun u => { u with held := decide (d.fld Reg.HOST_STATE Fd.HOST_STATE_STATE = 3) })
  else d

/-- R88, R90: what the plan registers show after a switch. -/
def Device.switchShown (d : Device) (new : Plan) (start : Nat) : Device :=
  let old := d.plan.shadow
  let d := (d.setShadowState (if old.isSome then 2 else 0)).showShadow old
  let d := (d.setFld Reg.PLAN_SLOT_STATE Fd.PLAN_SLOT_STATE_FENCE_STALE (bit ((old.map (·.stale)).getD new.stale))).showIds
  (d.count Reg.PLAN_SWITCH_COUNT 32 1).setReg Reg.PLAN_LAST_SWITCH_NS (BitVec.ofNat 64 (min (d.now - start) (2 ^ 32 - 1)))

/-- SWITCH_COMPLETE (R87, R88): 10 µs after the drain's end the new plan is in place and dispatch is enabled (log 54). -/
def execSwitchComplete (s : State) : Host.Outcome State Fault Refusal :=
  s.upd (fun d =>
    match d.plan.switch, d.plan.shadow with
    | .running start, some new =>
      let d := (d.at (start + 10000)).installPlan new
      let carried := d.plan.carried
      let d := (d.updPlan (fun u => { u with switch := .none, carried := false })).switchShown new start
      let d := { d with sched := { d.sched with cycBase := [], cycAt := [0, 1, 2, 3].map (fun k => (k, d.now)) } }
      let d := (((d.startCells new).takeBounds new carried).endHold new).releaseSync
      (d.extendPm (imgDigest new.image)).record { severity := 0, arg1 := imgPlanId new.image }
    | _, _ => d)

/-! ### Owner keys (R78) -/

/-- The active plan goes on after a switch that has lost its shadow plan while it ran: its cells start anew, with every buffer free (DESIGN
CHOICE, log 102). -/
def Device.resumePlan (d : Device) : Device :=
  match d.plan.active with
  | some old => ({ d with str := { d.str with pools := planPools old } }).startCells old
  | none => d

/-- R78: check 6 is applied again: the entries and the shadow slot that no longer pass are emptied, with one event record each.  An image that
is being loaded into the slot is refused with check 6's code; a switch to a plan that is emptied is given up. -/
def Device.recheckKeys (d : Device) : Device :=
  let passes (b : List Byte) : Bool := (planCheck6 d.ownerKeys b).isNone
  let note (d : Device) (b : List Byte) : Device := d.record { severity := 2, arg1 := imgPlanId b }
  let gone := d.plan.library.filter (fun e => !passes e.2)
  let d := d.updPlan (fun u => { u with library := u.library.filter (fun e => passes e.2), libAlias := u.libAlias.filter (fun a => !gone.any (fun e => e.1 = a.1)) })
  let d := gone.foldl (fun d e => note d e.2) d
  match d.plan.loading with
  | some (m, p) =>
    match planCheck6 d.ownerKeys p.image with
    | none => d
    | some code => note ((((d.updPlan (fun u => { u with loading := none, shadow := none })).setShadowState 0).showShadow none).showIds.planRefuse m 0x2002 code) p.image
  | none =>
    match d.plan.shadow with
    | some p =>
      if passes p.image then d
      else
        let running := d.shadowState = 4
        let d := (((d.unarm).updPlan (fun u => { u with shadow := none })).setShadowState 0).showShadow none
        note (if running then d.resumePlan else d).showIds p.image
    | none => d

end Sys2Proof.Machine
end

