-- ==== Sys2Proof/Machine/Mark.lean ====
section
/-!
DEFINITION. What an accepted mark, a segment boundary and the points of a stage do to the device (chapter 2: R40 to R52; R155, R156, R274, R277,
R382, R385, R389, R448, R450, R451, R463, R529, R530).
-/

namespace Sys2Proof.Machine

/-! ### Stages (R155, R156) -/

/-- No stage starts while a switch is carried or runs (R86, R87), nor under a plan that begins at the next mark (R86). -/
def Device.stagesWait (d : Device) : Bool :=
  d.plan.carried || (match d.plan.switch with | .running _ => true | _ => false) || d.time.nextBounds.isSome

/-- A stage's prologue begins, once in a step; no TASK stage begins in a held step (R448, R530). -/
def Device.beginStage (d : Device) (die st : Nat) : Device :=
  match d.plan.active.bind (fun pl => pl.stage die st) with
  | none => d
  | some r => if d.stagesWait || (r.kind = 0 && d.time.held) then d else d.updTime (fun u => { u with stagesBegun := addNew u.stagesBegun (64 * die + st) })

/-- A point of a stage of the active plan. -/
def Device.atStage (d : Device) (die st : Nat) (pu : StageRec → Nat) (f : StageRec → Device → Device) : Device :=
  match d.plan.active.bind (fun pl => pl.stage die st) with
  | none => d
  | some r => if d.stagesWait then d else f r (d.reachPhase (pu r))

/-- STAGE_START (R155). -/
def execStageStart (dd : Fin 4) (st : Fin 64) (s : State) : Host.Outcome State Fault Refusal :=
  s.upd (fun d => d.atStage dd.val st.val (·.start) (fun _ d => d.beginStage dd.val st.val))

/-- STAGE_HANDOVER (R155): the prologue of the stage named NEXT begins. -/
def execStageHandover (dd : Fin 4) (st : Fin 64) (s : State) : Host.Outcome State Fault Refusal :=
  s.upd (fun d => d.atStage dd.val st.val (·.handover) (fun r d =>
    let d := d.updTime (fun u => { u with stagesHanded := addNew u.stagesHanded (64 * dd.val + st.val) })
    if r.next = 0xFF then d else d.beginStage dd.val r.next))

/-- The tasks of a stage that have not ended at its COMMIT_PU in their deadline step abort; a prepared exchange task is exempt (R156). -/
def Device.commitDeadline (d : Device) (die st : Nat) : Device :=
  (d.str.tasks.filter (fun e => e.1 / 1024 = die && tagStage e.2.tag = st && e.2.state = .open && !e.2.prepared && !e.2.carried
    && e.2.deadlineStep = d.stepNum)).foldl (fun d e => d.requestAbort e.2.tag 0x041A) d

/-- The tasks of a stage that miss its COMMIT_PU abort, and what is held for its exchanges is given up (R156, R463). -/
def Device.missCommit (d : Device) (die st : Nat) : Device := (d.commitDeadline die st).exchHeldDeadline st

/-- STAGE_COMMIT_PU (R156, R463): once in a step for a stage of a plan.  While a carried switch runs, the tasks of the outgoing plan still
have their deadlines (R52); after a switch within the step those of the new plan have theirs, though none of its stages starts (R86). -/
def execStageCommitPu (dd : Fin 4) (st : Fin 64) (s : State) : Host.Outcome State Fault Refusal :=
  s.upd (fun d =>
    match d.plan.active.bind (fun pl => pl.stage dd.val st.val) with
    | none => d
    | some r =>
      if 64 * dd.val + st.val ∈ d.time.stagesCommitted then d
      else
        let d := d.reachPhase r.commit
        let d := if d.plan.carried then d else d.updTime (fun u => { u with stagesCommitted := u.stagesCommitted ++ [64 * dd.val + st.val] })
        d.missCommit dd.val st.val)

/-! ### Segments (R48) -/

/-- SEGMENT_BOUNDARY (R48, R385, R389, R382): PHASE reaches the next of B1, B2 and B3; Night begins the Night actions. -/
def execSegmentBoundary (s : State) : Host.Outcome State Fault Refusal :=
  s.upd (fun d =>
    match d.time.segSeen with
    | 0 => (d.reachPhase d.b1).updTime (fun u => { u with segSeen := 1 })
    | 1 => (d.reachPhase d.b2).updTime (fun u => { u with segSeen := 2 })
    | 2 => (((d.reachPhase d.b3).updTime (fun u => { u with segSeen := 3 })).embLate).embNight.beginBurst
    | _ => d)

/-! ### Accepted marks -/

/-- R43, R44: the history and the prediction; an interval is recorded when the mark's source is that of the mark before, and counts in
HIST_FILL when that is still the source in use. -/
def Device.predict (d : Device) (m : PendingMark) : Device :=
  let interval := min 0xFFFF_FFFF (m.time - d.time.stepStart)
  let same := m.src = d.time.lastSource
  let h := if same then d.time.history.drop 1 ++ [interval] else d.time.history
  let s := sortBy id h
  let fill := if same && m.src = d.activeSource then min 8 (d.fld Reg.CAD_STATUS Fd.CAD_STATUS_HIST_FILL + 1) else d.fld Reg.CAD_STATUS Fd.CAD_STATUS_HIST_FILL
  let d := (d.setFld Reg.CAD_STATUS Fd.CAD_STATUS_HIST_FILL fill).setFld Reg.CAD_STATUS Fd.CAD_STATUS_LOCKED (bitP (fill = 8))
  let d := if d.time.lastSource = 0 then d else d.setReg Reg.CAD_LAST_INTERVAL (BitVec.ofNat 64 interval)
  (d.updTime (fun u => { u with history := h })).setReg Reg.CAD_PRED_PERIOD (BitVec.ofNat 64 (max 1 ((s.getD 3 0 + s.getD 4 0) / 2)))

/-- R49, R50: the ended step was early or an overrun. -/
def Device.judgeStep (d : Device) (m : PendingMark) : Device :=
  let d := if d.phaseAt m.time < d.b3 then d.count Reg.CAD_EARLY_COUNT 32 1 else d
  if d.time.saturated || d.pred < m.time - d.time.stepStart then d.count Reg.CAD_OVERRUN_COUNT 32 1 else d

/-- R40, R45, R47, R48, R57: the new step begins. -/
def Device.beginStep (d : Device) (m : PendingMark) : Device :=
  let ticks := d.ticks + 1
  let d := d.predict m
  let d := (d.setReg Reg.STEP_NUM (BitVec.ofNat 64 ((d.stepNum + 1) % 2 ^ 32))).setReg Reg.CAD_LAST_MARK_CAL (BitVec.ofNat 64 m.cal)
  let d := match d.time.nextBounds with
    | some b => d.setReg Reg.SEG_BOUNDS (BitVec.ofNat 64 (b.1 + 2 ^ 16 * b.2.1 + 2 ^ 32 * b.2.2))
    | none => d
  d.updTime (fun u => { u with
    stepStart := m.time, lastSource := m.src, pending := u.pending.drop 1, segSeen := 0, tickBase := ticks, saturated := false
    nextBounds := none, stagesBegun := [], stagesHanded := [], stagesCommitted := [] })

/-- R51, R156: tasks of the ended step are carried; one carried before, and not ended, aborts. -/
def Device.carryTasks (d : Device) : Device :=
  (d.str.tasks.filter (fun e => e.2.live)).foldl (fun d e =>
    if e.2.carried then (if e.2.state = .open && !e.2.prepared then d.requestAbort e.2.tag 0x041A else d)
    else if e.2.deadlineStep != d.stepNum then d.setTask e.1 { e.2 with carried := true } else d) d

/-- R51: the Night actions of the ended step that had not finished, or not begun, are carried; whether Night was reached is given. -/
def Device.carryNight (d : Device) (reached : Bool) : Device :=
  let patrol := d.memu.burst
  let (d, due) := d.embCarry
  let missed := !reached && (d.burstDue || !d.allTables.isEmpty)
  let d := if reached then d else d.embNight.beginBurst
  if due || missed || patrol then d.count Reg.CAD_NIGHT_OVERRUN_COUNT 32 1 else d

/-- R86, R52: a switch due in the ended step is carried, and its plan governs the new step; one whose step 3 has not ended is late. -/
def Device.carrySwitch (d : Device) (ended : Nat) : Device :=
  let carry (d : Device) : Device := (d.updPlan (fun u => { u with carried := true })).stepBounds d.plan.shadow
  let late (d : Device) : Device := if d.plan.carried then d else carry (d.count Reg.PLAN_SWITCH_LATE_COUNT 32 1)
  match d.plan.switch with
  | .none => if d.shadowState = 3 && d.fld Reg.PLAN_SWITCH_STEP Fd.PLAN_SWITCH_STEP_STEP = ended then late d else d
  | .agreement _ => late d
  | .draining => late d
  | .running _ => carry d

/-- R529: the device parks: the DETACH responses, the PARKED message, the vectors, then DMA_OFF. -/
def Device.park (d : Device) : Device :=
  match d.host.parkCause with
  | none => d
  | some cause =>
    if d.fld Reg.HOST_STATE Fd.HOST_STATE_STATE != 2 then d
    else
      let ds := d.host.detaches
      let step := d.stepNum
      let d := { d with host := { d.host with parkCause := none, detaches := [], parkStep := step } }
      let d := ds.foldl (fun d m => d.respond { hseq := m.1, cookie := m.2 } 0x0002 0 (u32 step)) (d.setHostState 3)
      let d := (d.sendAsync 0x8005 (u32 step ++ u8 cause)).record { severity := 0, loc := x0Loc }
      d.setFld Reg.HOST_STATE Fd.HOST_STATE_DMA_OFF 1

/-- R448, R530: the new step is held when a member is missing, or the device is parked. -/
def Device.holdStep (d : Device) : Device :=
  let missing := decide (1 < d.groupSize) && !d.groupFormed
  let d := if missing then (d.setFld Reg.GROUP_STATUS Fd.GROUP_STATUS_HELD 1).count Reg.GROUP_HOLD_COUNT 32 1
    else d.setFld Reg.GROUP_STATUS Fd.GROUP_STATUS_HELD 0
  d.updTime (fun u => { u with held := missing || d.fld Reg.HOST_STATE Fd.HOST_STATE_STATE = 3 })

/-- R451: a follower takes the difference between the leader's step number and its own; the member that CAD_LEADER names has 0 (log 103). -/
def Device.followStep (d : Device) (m : PendingMark) : Device :=
  match m.step with
  | none => if d.fld Reg.GROUP_CTRL Fd.GROUP_CTRL_CAD_LEADER = d.memberId then d.setFld Reg.GROUP_STEP_DELTA Fd.GROUP_STEP_DELTA_DELTA 0 else d
  | some n =>
    let v := (n + 2 ^ 32 - d.stepNum) % 2 ^ 32
    let d := if v = d.fld Reg.GROUP_STEP_DELTA Fd.GROUP_STEP_DELTA_DELTA then d else d.setFld Reg.GROUP_STATUS Fd.GROUP_STATUS_STEP_SKEW 1
    d.setFld Reg.GROUP_STEP_DELTA Fd.GROUP_STEP_DELTA_DELTA v

/-- ACCEPTED_MARK (R40): 64 fabric cycles after its detection the oldest accepted mark takes effect. -/
def execAcceptedMark (s : State) : Host.Outcome State Fault Refusal :=
  s.upd (fun d =>
    match d.time.pending with
    | [] => d
    | m :: _ =>
      let d := d.at (m.time + 54)
      let ended := d.stepNum
      let reached := decide (3 ≤ d.time.segSeen)
      let d := (d.judgeStep m).packMark
      let d := ((d.beginStep m).followStep m).carryTasks
      let d := ((d.carryNight reached).carrySwitch ended).park
      d.holdStep.sendCadence m.cal (d.now - m.time))

end Sys2Proof.Machine
end

