-- ==== Sys2Proof/Machine/Ballout.lean ====
section
/-!
DEFINITION. The package: ball names, the net of every ball, and the order of the boundary-scan cells (chapter 20: R604 to R611, R626).
-/

namespace Sys2Proof.Machine

/-! ### Names (R604) -/

/-- The 19 letters of a row name. -/
def rowLetters : List String := ["A", "B", "C", "D", "E", "F", "G", "H", "J", "K", "L", "M", "N", "P", "T", "U", "V", "W", "Y"]
def rowLetter (k : Nat) : String := rowLetters.getD k ""

/-- The name of row 1 to 109. -/
def rowName (i : Nat) : String := if i ≤ 19 then rowLetter (i - 1) else rowLetter ((i - 20) / 19) ++ rowLetter ((i - 20) % 19)

/-- The name of the ball at a row and a column. -/
def ballName (i c : Nat) : String := rowName i ++ toString c

/-! ### The map (R605 to R610) -/

/-- R605, and the ends of the grid. -/
def hasBall (i c : Nat) : Bool :=
  1 ≤ i && i ≤ 109 && 1 ≤ c && c ≤ 109 && !(54 ≤ i && i ≤ 56 && 54 ≤ c && c ≤ 56)

/-- What a ball carries. -/
inductive Net where
  | supply (name : String)
  | signal (name : String)
  deriving DecidableEq, Repr

def vss : Net := .supply "VSS"

/-- The net of tile row `t`, column `u` of DDR5 channel `ch` (R607). -/
def ddrBall (ch t u : Nat) : Net :=
  let s := if u ≤ 4 then "A" else "B"
  let b := u % 5
  let sig (x : String) : Net := .signal ("D" ++ toString ch ++ "_" ++ x)
  let dq (n : Nat) : Net := if b < 4 then sig ("DQ_" ++ s ++ toString (8 * b + n)) else sig ("CB_" ++ s ++ toString n)
  let dqs (n : Nat) (half : String) : Net := sig ("DQS_" ++ s ++ toString n ++ "_" ++ half)
  let upper (x : String) : Net :=
    if u ≤ 3 then sig ("CA_" ++ x ++ toString (10 + u)) else if u ≤ 7 then sig ("CS_" ++ x ++ toString (u - 4) ++ "_N")
    else sig ("CK_" ++ x ++ (if u = 8 then "0_T" else "0_C"))
  match t with
  | 1 => if u % 2 = 0 then .supply "VDDQ_D" else vss
  | 2 => dq 0 | 3 => dq 1
  | 5 => dqs (2 * b) "T" | 6 => dqs (2 * b) "C"
  | 7 => dq 2 | 8 => dq 3
  | 10 => dq 4 | 11 => dq 5
  | 12 => dqs (2 * b + 1) "T" | 13 => dqs (2 * b + 1) "C"
  | 14 => dq 6 | 15 => dq 7
  | 16 => sig ("CA_A" ++ toString u)
  | 17 => upper "A"
  | 18 => sig ("CA_B" ++ toString u)
  | 19 => upper "B"
  | 20 => sig (["CK_A1_T", "CK_A1_C", "CK_B1_T", "CK_B1_C", "PAR_A", "PAR_B", "ALERT_N", "RESET_N", "SB_SCL", "SB_SDA"].getD u "")
  | _ => vss

/-- A memory region: tile row `t` and column `c` of the side whose first channel is `base`. -/
def memoryBall (base t c : Nat) : Net := if c = 95 then vss else ddrBall (base + (c - 15) / 10) t ((c - 15) % 10)

/-- The name of a lane slot of a lane region, west or east; none for a slot that carries no lane (R608). -/
def laneName (west : Bool) (slot : Nat) : Option (String × String) :=
  if west then (if slot < 16 then some ("PE", toString slot) else some ("P" ++ toString ((slot - 16) / 4), toString (slot % 4)))
  else if slot < 16 then some ("P" ++ toString (4 + slot / 4), toString (slot % 4)) else none

/-- A lane region, in its own columns 1 to 14 from the edge (R608). -/
def laneBall (west : Bool) (i e : Nat) : Net :=
  if 85 ≤ i then
    if west && i = 85 then
      match e with
      | 2 => .signal "REFCLK_PCIE_P" | 3 => .signal "REFCLK_PCIE_N" | 5 => .signal "REFCLK_SD_P" | 6 => .signal "REFCLK_SD_N" | _ => vss
    else vss
  else
    let lane (dir half : String) : Net := match laneName west ((i - 21) / 2) with
      | some (p, n) => .signal (p ++ "_" ++ dir ++ "[" ++ n ++ "]_" ++ half)
      | none => vss
    if (i - 21) % 2 = 0 then
      match e with
      | 2 => lane "TX" "P" | 3 => lane "TX" "N" | 11 => .supply "VDD_SD" | 13 => .supply "VDD_SD" | _ => vss
    else
      match e with
      | 5 => lane "RX" "P" | 6 => lane "RX" "N" | 12 => .supply "VDD_SD" | 14 => .supply "VDD_SD" | _ => vss

/-- The quadrant of die `d` at its own coordinates (R609). -/
def quadrantBall (d y x : Nat) : Net :=
  if (x + y) % 2 = 0 then vss
  else if y % 4 != 3 then .supply ("VDD_C" ++ toString d)
  else if x % 3 = 0 then .supply ("VDD_S" ++ toString d)
  else if x % 3 = 1 then .supply "VDD_HBM"
  else .supply "VDDQ_HBM"

/-- The core: four quadrants, and the cross between them. -/
def coreBall (i c : Nat) : Net :=
  if (54 ≤ i && i ≤ 56) || (54 ≤ c && c ≤ 56) then (if (i + c) % 2 = 1 then .supply "VDD_X" else vss)
  else
    let d := (if i ≤ 53 then 0 else 2) + (if c ≤ 53 then 0 else 1)
    quadrantBall d (if i ≤ 53 then i - 21 else 89 - i) (if c ≤ 53 then c - 15 else 95 - c)

/-- The signals of the southwest corner: rows a = 1, 3 and 5, columns b = 1 to 10 (R610). -/
def southwestSignals : List (List String) :=
  [["SPI_CLK", "SPI_CS_N", "SPI_IO0", "SPI_IO1", "SPI_IO2", "SPI_IO3", "SMB_SCL", "SMB_SDA", "SMB_ALERT_N", "TRIP_N"],
   ["TCK", "TMS", "TDI", "TDO", "TRST_N", "STRAP_BOOT0", "STRAP_BOOT1", "STRAP_SMB_ADDR0", "STRAP_SMB_ADDR1", "STRAP_SMB_ADDR2"],
   ["STRAP_PCIE_WIDTH", "PERST_N", "CAD_P", "CAD_N", "PPS_IN", "REFCLK_CORE_P", "REFCLK_CORE_N", "VR_SCL", "VR_SDA", "VR_ALERT_N"]]

/-- The corners (R610). -/
def cornerBall (i c : Nat) : Net :=
  let a := if i ≤ 20 then i - 1 else 109 - i
  let b := if c ≤ 14 then c - 1 else 109 - c
  if 90 ≤ i && c ≤ 14 then
    if (a = 1 || a = 3 || a = 5) && 1 ≤ b && b ≤ 10 then .signal ((southwestSignals.getD (a / 2) []).getD (b - 1) "")
    else if (a = 7 || a = 11) && b % 2 = 0 then .supply "VDD_IO" else vss
  else if a % 4 = 1 && b % 2 = 0 then .supply "VPP_HBM" else vss

/-- R606: the net of the ball at row `i`, column `c`; none where there is no ball. -/
def ballNet (i c : Nat) : Option Net :=
  if !hasBall i c then none
  else if 21 ≤ i && i ≤ 89 then
    some (if c ≤ 14 then laneBall true i c else if 96 ≤ c then laneBall false i (110 - c) else coreBall i c)
  else if 15 ≤ c && c ≤ 95 then some (if i ≤ 20 then memoryBall 8 i c else memoryBall 0 (110 - i) c)
  else some (cornerBall i c)

/-! ### The boundary-scan register (R626) -/

/-- A lane signal, which IEEE 1149.6 covers. -/
def isLaneBall (i c : Nat) : Bool := 21 ≤ i && i ≤ 84 && (c ≤ 14 || 96 ≤ c)

/-- The signal balls that the boundary-scan register covers, in the order of their cells from TDI: by row, then by column. -/
def boundaryBalls : List (Nat × Nat) :=
  (List.range 109).flatMap (fun i => ((List.range 109).map (fun c => (i + 1, c + 1))).filter (fun p =>
    match ballNet p.1 p.2 with | some (.signal _) => !isLaneBall p.1 p.2 | _ => false))

/-- The signals that are inputs, which R626 gives one observe cell; the other balls of the register are outputs or bidirectional (PRESUMED, log 77:
the spec names the signals and gives no table of directions). -/
def inputSignals : List String :=
  ["TCK", "TMS", "TDI", "TRST_N", "STRAP_BOOT0", "STRAP_BOOT1", "STRAP_SMB_ADDR0", "STRAP_SMB_ADDR1", "STRAP_SMB_ADDR2", "STRAP_PCIE_WIDTH"
    , "PERST_N", "CAD_P", "CAD_N", "PPS_IN", "VR_ALERT_N"] ++ (List.range 16).map (fun ch => "D" ++ toString ch ++ "_ALERT_N")

/-- The reference clocks, which have observe cells only (R626). -/
def isClockSignal (s : String) : Bool :=
  s ∈ ["REFCLK_PCIE_P", "REFCLK_PCIE_N", "REFCLK_SD_P", "REFCLK_SD_N", "REFCLK_CORE_P", "REFCLK_CORE_N"]

/-- A cell of the boundary-scan register. -/
inductive BoundaryCell where
  | observe | data | control
  deriving DecidableEq, Repr

/-- The cells of a ball, in order from TDI. -/
def ballCells (p : Nat × Nat) : List BoundaryCell :=
  match ballNet p.1 p.2 with
  | some (.signal s) => if s ∈ inputSignals || isClockSignal s then [.observe] else [.data, .control]
  | _ => []

/-- The cells of the boundary-scan register, from TDI (R626). -/
def boundaryCells : List BoundaryCell := boundaryBalls.flatMap ballCells

end Sys2Proof.Machine
end

