-- ==== Sys2Proof/Machine/Package.lean ====
section
/-!
DEFINITION. Power, PERST#, the straps, the cold reset and the Test Access Port (chapter 20: R615 to R619, R624 to R627; R532, R534, R595).
-/

namespace Sys2Proof.Machine

/-! ### Cold reset (R14, R532, R534, R616 to R618) -/

/-- A cold reset of everything but the clock of the model, the board, the flash and the fuses; an image being written is no image. -/
def Device.coldReset (d : Device) : Device :=
  let d := if d.tripped then d.emit (.pin "TRIP_N" true) else d
  let flash := match d.mgmt.staging with
    | some (_, slot, _) => { d.flash with images := setNth d.flash.images slot [] }
    | none => d.flash
  { Device.reset with
    now := d.now, board := d.board, flash := flash, fuses := d.fuses, out := d.out, fresh := d.fresh
    time := { TimeUnit.reset with stepStart := d.now, lastGen := d.now, calAt := d.now, noneBase := d.now }
    sched := { SchedUnit.reset with cycAt := [0, 1, 2, 3].map (fun k => (k, d.now)) }
    fault := { FaultUnit.reset with log := d.fault.log, crash := d.fault.crash, dumpSeq := d.fault.dumpSeq }
    mgmt := { MgmtUnit.reset with powered := d.mgmt.powered, perst := d.mgmt.perst, started := false, sampleAt := d.now, tap := d.mgmt.tap } }

/-- The straps are sampled and the cold-reset schedule starts; STRAP_BOOT = 3 holds the device in reset. -/
def Device.startSchedule (d : Device) (boot smb : Nat) (x16 : Bool) : Device :=
  { d with board := { d.board with strapBoot := boot, strapSmb := smb, strapPcie := bit x16 }
           mgmt := { d.mgmt with started := boot != 3, t0 := d.now } }

/-- COLD_RESET: PERST# is asserted. -/
def execColdReset (s : State) : Host.Outcome State Fault Refusal :=
  s.updAny (fun d =>
    let d := d.updMgmt (fun m => { m with perst := true })
    if d.mgmt.powered then d.coldReset else d)

/-- POWER_UP: the rails and the reference clocks are in range; the schedule starts unless PERST# is low. -/
def execPowerUp (boot : Fin 4) (smb : Fin 8) (x16 : Bool) (s : State) : Host.Outcome State Fault Refusal :=
  s.updAny (fun d =>
    if d.mgmt.powered then d
    else
      let d := d.coldReset.updMgmt (fun m => { m with powered := true, tap := .reset })
      if d.mgmt.perst then d else d.startSchedule boot.val smb.val x16)

/-- The instructions that take control of pins (R625). -/
def takesPins (ir : Nat) : Bool := ir = 0x00 || ir = 0x03 || ir = 0x04 || ir = 0x05 || ir = 0x06

/-- PERST_DEASSERTION: the pins return to their functional use; the schedule starts where the rails are in range. -/
def execPerstDeassertion (boot : Fin 4) (smb : Fin 8) (x16 : Bool) (s : State) : Host.Outcome State Fault Refusal :=
  s.updAny (fun d =>
    if !d.mgmt.perst then d
    else
      let d := d.updMgmt (fun m => { m with perst := false, tap := if takesPins m.tap.ir then { m.tap with ir := 0x02, refused := false } else m.tap })
      if d.mgmt.powered then d.startSchedule boot.val smb.val x16 else d)

/-- POWER_LOSS: every rail falls. -/
def execPowerLoss (s : State) : Host.Outcome State Fault Refusal :=
  s.updAny (fun d => if d.mgmt.powered then d.coldReset.updMgmt (fun m => { m with powered := false }) else d)

/-! ### The Test Access Port (R624 to R626) -/

/-- The bits of a number, least significant first: as TDO gives them. -/
def scanBits (n v : Nat) : List Bool := (List.range n).map (bitAt v)

/-- An instruction is shifted in: the register's capture leaves by TDO; the instruction is in force, obeyed or not. -/
def Device.irScan (d : Device) (code : Nat) (obeyed : Bool) : Device :=
  let d := d.emit (.tdo (scanBits 8 (if d.mgmt.tap.refused then 0x05 else 0x01)))
  d.updMgmt (fun m => { m with tap := { m.tap with ir := code, refused := !obeyed } })

/-- A scan of the bypass register: one bit, captured as 0. -/
def Device.bypassScan (d : Device) (shift : List Bool) : Device := d.emit (.tdo ((false :: shift).take shift.length))

/-- A scan of the boundary register, nearest TDO first: what its cells captured leaves, what was shifted in is latched (R626).  `pins` is what
the cells capture. -/
def Device.boundaryScan (d : Device) (pins shift : List Bool) : Device :=
  let n := boundaryCells.length
  let cells := pins.take n ++ List.replicate (n - pins.length) false
  (d.emit (.tdo ((cells ++ shift).take shift.length))).updMgmt (fun m => { m with tap := { m.tap with boundary := ((cells ++ shift).drop shift.length) } })

/-- R626: the levels that the update latches drive: a data cell with its control cell, where 1 means drive. -/
def drivenLevels (kinds : List BoundaryCell) (latches : List Bool) : List (Option Bool) :=
  match kinds, latches with
  | .data :: .control :: ks, x :: c :: ls => (if c then some x else none) :: drivenLevels ks ls
  | .observe :: ks, _ :: ls => drivenLevels ks ls
  | _, _ => []

/-- EXTEST, EXTEST_PULSE, EXTEST_TRAIN and CLAMP drive the pins from the update latches; a latch never written holds 0 and drives nothing. -/
def Device.drivePins (d : Device) : Device :=
  let l := d.mgmt.tap.boundary
  d.emit (.pins (drivenLevels boundaryCells (List.replicate (boundaryCells.length - l.length) false ++ l.reverse)))

/-- HIGHZ drives none of them. -/
def Device.releasePins (d : Device) : Device := d.emit (.pins (List.replicate (boundaryCells.filter (· = .data)).length none))

/-- An external test: the pins are driven from the latches, the boundary register is scanned, the pins follow. -/
def Device.externalTest (d : Device) (pins shift : List Bool) : Device := (d.drivePins.boundaryScan pins shift).drivePins

/-- R625: an instruction that takes control of pins is obeyed. -/
def Device.pinsFree (d : Device) : Bool := d.mgmt.perst || (d.board.strapBoot = 3 && !d.mgmt.started)

/-- A command of the TAP, which works while the device has power. -/
def State.tap (s : State) (f : Device → Device) : Host.Outcome State Fault Refusal := s.updAny (fun d => if d.mgmt.powered then f d else d)

/-- An instruction that takes control of pins, with its register's scan where it is obeyed; else BYPASS. -/
def Device.pinInstr (d : Device) (code : Nat) (shift : List Bool) (scan : Device → Device) : Device :=
  if d.pinsFree then scan (d.irScan code true) else (d.irScan code false).bypassScan shift

/-- EXTEST. -/
def execExtest (pins shift : List Bool) (s : State) : Host.Outcome State Fault Refusal :=
  s.tap (fun d => d.pinInstr 0x00 shift (fun d => d.externalTest pins shift))
/-- EXTEST_PULSE. -/
def execExtestPulse (pins shift : List Bool) (s : State) : Host.Outcome State Fault Refusal :=
  s.tap (fun d => d.pinInstr 0x05 shift (fun d => d.externalTest pins shift))
/-- EXTEST_TRAIN. -/
def execExtestTrain (pins shift : List Bool) (s : State) : Host.Outcome State Fault Refusal :=
  s.tap (fun d => d.pinInstr 0x06 shift (fun d => d.externalTest pins shift))
/-- SAMPLE/PRELOAD. -/
def execSamplePreload (pins shift : List Bool) (s : State) : Host.Outcome State Fault Refusal :=
  s.tap (fun d => (d.irScan 0x01 true).boundaryScan pins shift)
/-- IDCODE: the device identification register. -/
def execIdcode (shift : List Bool) (s : State) : Host.Outcome State Fault Refusal :=
  s.tap (fun d => (d.irScan 0x02 true).emit (.tdo ((scanBits 32 0x341607A7 ++ shift).take shift.length)))
/-- HIGHZ. -/
def execHighz (shift : List Bool) (s : State) : Host.Outcome State Fault Refusal := s.tap (fun d => d.pinInstr 0x03 shift (fun d => d.releasePins.bypassScan shift))
/-- CLAMP. -/
def execClamp (shift : List Bool) (s : State) : Host.Outcome State Fault Refusal := s.tap (fun d => d.pinInstr 0x04 shift (fun d => d.drivePins.bypassScan shift))
/-- BYPASS. -/
def execBypass (shift : List Bool) (s : State) : Host.Outcome State Fault Refusal := s.tap (fun d => (d.irScan 0xFF true).bypassScan shift)

/-- TEST_LOGIC_RESET: IDCODE is in force. -/
def execTestLogicReset (s : State) : Host.Outcome State Fault Refusal :=
  s.tap (fun d => d.updMgmt (fun m => { m with tap := { m.tap with ir := 0x02, refused := false } }))

/-- R595, R624: the debug level in force opens a private code. -/
def Device.tapOpen (d : Device) (code : Nat) : Bool :=
  let lvl := d.fld Reg.SEC_STATUS Fd.SEC_STATUS_DEBUG
  (0x10 ≤ code && code ≤ 0x7F && 1 ≤ lvl) || (0x80 ≤ code && code ≤ 0xFE && lvl = 2)

/-- What a private instruction does: cells and stations halt, or may make a step, a cell of one instruction, a station until the device next
idles; a read changes nothing (log 44). -/
def Device.tapAct (d : Device) (a : TapAction) : Device :=
  match a with
  | .halt p =>
    let l := placeLoc 4 p
    let d := { d with cells := d.cells.mapVals (fun g c => if l.hasCell g && c.state = .running then { c with state := .tapHalted } else c) }
    if l.kind = 3 then d.updMgmt (fun m => { m with tap := { m.tap with stations := addNew m.tap.stations (l.entry 0 false) } }) else d
  | .step p =>
    let l := placeLoc 4 p
    d.updMgmt (fun m => { m with tap := { m.tap with
      steps := (d.cells.filter (fun e => (e.2.state = .halted || e.2.state = .tapHalted) && l.hasCell e.1)).map (·.1)
      stationSteps := if l.kind = 3 then [l.entry 0 false] else [] } })
  | .read _ => d

/-- The step of a station is over (log 44). -/
def Device.stepsOver (d : Device) : Device := d.updMgmt (fun m => { m with tap := { m.tap with stationSteps := [] } })

/-- PRIVATE_TAP_INSTRUCTION: its bits of TDO are open (log 44); BYPASS while its level is not open. -/
def execPrivateTapInstruction (code : Byte) (act : TapAction) (shift : List Bool) (s : State) : Host.Outcome State Fault Refusal :=
  s.tap (fun d =>
    let e := d.irScan code.toNat true
    if !d.tapOpen code.toNat then e.bypassScan shift
    else
      let e := e.tapAct act
      let bits := (List.range shift.length).map (fun i => (Config.freeValue (e.fresh + i)).getLsbD 0)
      { e with fresh := e.fresh + shift.length }.emit (.tdo bits))

end Sys2Proof.Machine
end

