-- ==== Sys2Proof/Machine/Security.lean ====
section
/-!
DEFINITION. Owner keys, debug, measurements and attestation (chapter 19: R588 to R598; R504).
-/

namespace Sys2Proof.Machine

/-! ### Fuses (R588) -/

/-- PLAN_OWNER_KEYS.PROVISIONED (R90): bit k − 1 while slot k is provisioned. -/
def Device.provisionedBits (d : Device) : Nat := (List.range 4).foldl (fun n k => n + bit ((d.fuses.owner.getD k none).isSome) * 2 ^ k) 0

/-- P: the slots provisioned and not revoked, as slot numbers. -/
def Device.slotsInP (d : Device) : List Nat := [1, 2, 3, 4].filter (fun k => (d.ownerKeys.getD (k - 1) none).isSome)

def Device.keyOfSlot (d : Device) (k : Nat) : List Byte := (d.ownerKeys.getD (k - 1) none).getD []

def Device.debugLevel (d : Device) : Nat := d.fld Reg.SEC_STATUS Fd.SEC_STATUS_DEBUG

/-- A command of class 3 waits while the cores restart, or before firmware runs (R561, R583, R587, R595). -/
def Device.class3Waits (d : Device) : Bool := d.coresAway || (!d.mgmt.fw && d.debugLevel != 2)

/-! ### The nonce (R590) -/

/-- 32 bytes of the entropy source (log 1). -/
def Device.entropy (d : Device) : List Byte × Device :=
  ((List.range 4).flatMap (fun i => leBytes 8 (Config.freeValue (d.fresh + i)).toNat), { d with fresh := d.fresh + 4 })

def Device.dropNonce (d : Device) : Device := (d.updMgmt (fun x => { x with nonce := none })).setFld Reg.SEC_STATUS Fd.SEC_STATUS_NONCE_VALID 0

/-- SEC_NONCE: a fresh nonce replaces the one before. -/
def execSecNonce (m : MsgRef) (payload : List Byte) (s : State) : Host.Outcome State Fault Refusal :=
  s.cmd m 0x3002 (fun b => b = payload) (fun d =>
    if d.class3Waits then d
    else
      let e := d.entropy
      ((e.2.updMgmt (fun x => { x with nonce := some (e.1, d.now) })).setFld Reg.SEC_STATUS Fd.SEC_STATUS_NONCE_VALID 1).respond m 0x3002 0 e.1)

/-- NONCE_EXPIRE: 60 s after its issue. -/
def execNonceExpire (s : State) : Host.Outcome State Fault Refusal :=
  s.upd (fun d =>
    match d.mgmt.nonce with
    | none => d
    | some (_, t) => (d.at (t + 60000000000)).dropNonce)

/-! ### Signed commands (R590, R591, R595, R596) -/

/-- The 64 bytes signed: SERIAL, nonce, ACTION, slot or level, key. -/
def Device.signedDigest (d : Device) (nonce : List Byte) (action slot : Nat) (key : List Byte) : List Byte :=
  shake256 64 (u64 d.board.serial ++ nonce ++ u8 action ++ u8 slot ++ key)

/-- Checks 3 and 4 with a key; the nonce is consumed by check 3. -/
def Device.signedCheck (d : Device) (m : MsgRef) (opcode action slot : Nat) (key signer sig : List Byte) (vendor : Bool) (go : Device → Device) : Device :=
  match d.mgmt.nonce with
  | none => d.refuseMsg m opcode 0x1111
  | some (n, t) =>
    let e := d.dropNonce
    if t + 60000000000 ≤ d.now then e.refuseMsg m opcode 0x1111
    else if (vendor && shake256 64 signer != d.fuses.debugDigest) || !(ed448Verify signer (ascii "OSOUDRA-SEC") (d.signedDigest n action slot key) sig) then
      e.refuseMsg m opcode 0x1110
    else go e

/-- R591: after a provision or a revocation: check 6 again, a NOTICE record, the response. -/
def Device.keysChanged (d : Device) (m : MsgRef) (opcode : Nat) : Device :=
  (d.recheckKeys.record { severity := 1, loc := x0Loc }).respond m opcode 0 []

/-- OWNER_PROVISION. -/
def execOwnerProvision (m : MsgRef) (payload : List Byte) (s : State) : Host.Outcome State Fault Refusal :=
  s.cmd m 0x3003 (fun b => b = payload) (fun d =>
    let slot := leAt payload 0 1
    let signer := leAt payload 1 1
    let key := (payload.drop 8).take 57
    let burn (d : Device) : Device := { d with fuses := { d.fuses with owner := setNth d.fuses.owner (slot - 1) (some key) } }.keysChanged m 0x3003
    if d.class3Waits then d
    else if slot = 0 || 4 < slot || 4 < signer then d.refuseMsg m 0x3003 0x1104
    else if (d.fuses.owner.getD (slot - 1) none).isSome || bitAt d.fuses.revoked (slot - 1)
        || (if d.slotsInP.isEmpty then signer != 0 else !(signer ∈ d.slotsInP)) then d.refuseMsg m 0x3003 0x1112
    else if d.slotsInP.isEmpty then burn d
    else d.signedCheck m 0x3003 1 slot key (d.keyOfSlot signer) ((payload.drop 72).take 114) false burn)

/-- OWNER_REVOKE. -/
def execOwnerRevoke (m : MsgRef) (payload : List Byte) (s : State) : Host.Outcome State Fault Refusal :=
  s.cmd m 0x3004 (fun b => b = payload) (fun d =>
    let slot := leAt payload 0 1
    let signer := leAt payload 1 1
    if d.class3Waits then d
    else if slot = 0 || 4 < slot || signer = 0 || 4 < signer then d.refuseMsg m 0x3004 0x1104
    else if !(slot ∈ d.slotsInP) || !(signer ∈ d.slotsInP) || d.slotsInP = [slot] then d.refuseMsg m 0x3004 0x1112
    else d.signedCheck m 0x3004 2 slot (zeros 57) (d.keyOfSlot signer) ((payload.drop 8).take 114) false (fun d =>
      { d with fuses := { d.fuses with revoked := setBit d.fuses.revoked (slot - 1) } }.keysChanged m 0x3004))

/-- A level opens until the next cold reset; VENDOR holds the cores in reset and withdraws the identity key. -/
def Device.openDebug (d : Device) (level : Nat) : Device :=
  let d := d.setFld Reg.SEC_STATUS Fd.SEC_STATUS_DEBUG level
  let d := if level = 2 then
      (d.setFld Reg.SEC_STATUS Fd.SEC_STATUS_IDENTITY_AVAILABLE 0).updMgmt (fun x => { x with fw := false, eid := 0, staging := none, crashed := false })
    else d
  d.record { severity := 2, loc := x0Loc, arg2 := level }

/-- DEBUG_UNLOCK. -/
def execDebugUnlock (m : MsgRef) (payload : List Byte) (s : State) : Host.Outcome State Fault Refusal :=
  s.cmd m 0x3005 (fun b => b = payload) (fun d =>
    let level := leAt payload 0 1
    let signer := leAt payload 1 1
    let key := (payload.drop 122).take 57
    if d.class3Waits then d
    else if level = 0 || 2 < level || 4 < signer || (signer != 0 && key.any (fun b => b != 0)) then d.refuseMsg m 0x3005 0x1104
    else if level ≤ d.debugLevel || (signer != 0 && (level = 2 || !(signer ∈ d.slotsInP))) then d.refuseMsg m 0x3005 0x1112
    else d.signedCheck m 0x3005 3 level (zeros 57) (if signer = 0 then key else d.keyOfSlot signer) ((payload.drop 8).take 114) (signer = 0)
      (fun d => (d.openDebug level).respond m 0x3005 0 []))

/-! ### Measurements (R593, R594) -/

/-- The security configuration record. -/
def Device.securityRecord (d : Device) : List Byte :=
  let flags := d.fld Reg.TENSOR_CTRL Fd.TENSOR_CTRL_ALIAS_CHECK + 2 * d.fld Reg.GROOM_CTRL Fd.GROOM_CTRL_ENABLE + 4 * d.fld Reg.WDOG_CTRL Fd.WDOG_CTRL_ENABLE
    + 8 * d.fld Reg.VM_CTRL Fd.VM_CTRL_ATS_EN + 16 * d.fld Reg.VM_CTRL Fd.VM_CTRL_PRI_EN
  u8 d.debugLevel ++ u8 d.provisionedBits ++ u8 d.fuses.revoked ++ u8 flags
    ++ [0, 1, 2, 3].flatMap (fun k => u16 (d.fld (Reg.INGEST_CTRL k) Fd.INGEST_CTRL_EXP_LIMIT)) ++ zeros 4

/-- The content of a measurement block, 1 to 7. -/
def Device.measurement (d : Device) (i : Nat) : List Byte :=
  match i with
  | 1 => u32 Config.bootRomVersion.toNat
  | 2 => fwDigest (d.fwImage d.running)
  | 3 => u8 (d.fld Reg.FW_RUNNING Fd.FW_RUNNING_SVN) ++ u8 d.fuses.rollback
  | 4 => d.securityRecord
  | 5 => shake256 64 d.flash.record
  | 6 => d.planMeasure
  | 7 => (d.plan.active.map (fun p => imgDigest p.image)).getD (zeros 64)
  | _ => []

/-! ### SPDM (R589, R592, R595; encodings of the standard: log 4) -/

/-- The requests the device answers. -/
inductive SpdmReq where
  | version | capabilities | algorithms | digests | certificate | challenge | measurements
  deriving DecidableEq, Repr

/-- The request a message's code names in the standard (PRESUMED, log 4). -/
def spdmReqOf (req : List Byte) : Option SpdmReq :=
  match leAt req 1 1 with
  | 0x84 => some .version | 0xE1 => some .capabilities | 0xE3 => some .algorithms | 0x81 => some .digests | 0x82 => some .certificate
  | 0x83 => some .challenge | 0xE0 => some .measurements | _ => none

/-- An SPDM ERROR: 1 InvalidRequest, 4 UnexpectedRequest, 5 Unspecified, 7 UnsupportedRequest (PRESUMED, log 4). -/
def spdmError (code : Nat) : List Byte := Config.dmtf 0x17F [code] []

/-- The private identity key of R589. -/
def Device.identitySecret (d : Device) : List Byte := shake256 57 (d.fuses.uds ++ ascii "OSOUDRA-DEVID-1")

/-- The certificate chain of slot 0, where its leaf key is the identity key; else the slot is empty. -/
def Device.slot0 (d : Device) : Option (List Byte) :=
  if !d.flash.certs.isEmpty && Config.dmtf 0x1F0 [] d.flash.certs = ed448Public d.identitySecret then some d.flash.certs else none

def Device.conn (d : Device) (tr : Nat) : SpdmConn := d.mgmt.spdm.getD tr .reset
def Device.setConn (d : Device) (tr : Nat) (c : SpdmConn) : Device := d.updMgmt (fun x => { x with spdm := setNth x.spdm tr c })

/-- The signature over a transcript by the identity key. -/
def Device.identitySign (d : Device) (kind : Nat) (transcript : List Byte) : List Byte :=
  ed448Sign d.identitySecret [] (Config.dmtf 0x1A0 [kind] (sha3_512 transcript))

/-- A request asks for a signature of the measurements: bit 0 of its first parameter (PRESUMED, log 4). -/
def spdmSigned (req : List Byte) : Bool := leAt req 2 1 % 2 = 1

/-- The measurement blocks an operation names: 0 the count alone, 1 to 7 one, 255 all (PRESUMED, log 4). -/
def measIndices (op : Nat) : Option (List Nat) :=
  if op = 0 then some [] else if op = 255 then some [1, 2, 3, 4, 5, 6, 7] else if op ≤ 7 then some [op] else none

/-- The DMTF value type of a block (R593): 0 immutable ROM, 1 mutable firmware, 2 hardware configuration, 3 firmware configuration. -/
def measType (i : Nat) : Nat := match i with | 1 => 0 | 2 => 1 | 3 => 3 | 4 => 2 | 5 => 2 | _ => 1

/-- A measurement block of DMTF: its index, the DMTF specification (1), its size, its value type with the bit of a raw bit stream, the size of
the value, the value (PRESUMED, log 4). -/
def measBlock (i : Nat) (v : List Byte) : List Byte :=
  u8 i ++ u8 1 ++ u16 (3 + v.length) ++ u8 (0x80 + measType i) ++ u16 v.length ++ v

/-- The blocks as the standard encodes them. -/
def Device.measBlocks (d : Device) (is : List Nat) : List Byte := is.flatMap (fun i => measBlock i (d.measurement i))

/-- What ALGORITHMS selects (R592), each as the bit that the standard gives it (PRESUMED, log 4): BaseAsymAlgo EdDSA Ed448, BaseHashAlgo
SHA3-512, MeasurementHashAlgo raw bit stream only. -/
def spdmAlgorithms : List Nat := [0x800, 0x20, 0x01]

/-- The vendor unlock has withdrawn the identity key and the request needs it (R595, R596). -/
def Device.identityGone (d : Device) (req : List Byte) : Bool :=
  d.debugLevel = 2 && (spdmReqOf req = some .challenge || (spdmReqOf req = some .measurements && spdmSigned req))

/-- CHALLENGE: signed over the connection's transcript. -/
def Device.spdmChallenge (d : Device) (tr : Nat) (req : List Byte) : List Byte × Device :=
  let c := d.conn tr
  match if leAt req 2 1 = 0 then d.slot0 else none with
  | none => (spdmError 1, d)
  | some chain =>
    let e := d.entropy
    let summary := if leAt req 3 1 = 0 then [] else sha3_512 (d.measBlocks [1, 2, 3, 4, 5, 6, 7])
    let body := Config.dmtf 0x103 [0] (sha3_512 chain ++ e.1 ++ summary)
    (body ++ d.identitySign 3 (c.vca ++ c.m1 ++ req ++ body), e.2.setConn tr { c with m1 := [] })

/-- GET_MEASUREMENTS. -/
def Device.spdmMeasurements (d : Device) (tr : Nat) (req : List Byte) : List Byte × Device :=
  let c := d.conn tr
  let op := leAt req 3 1
  match measIndices op with
  | none => (spdmError 1, d)
  | some is =>
    let e := d.entropy
    let body := Config.dmtf 0x160 [op, if op = 0 then 7 else is.length] (d.measBlocks is ++ e.1)
    if !spdmSigned req then (body, e.2.setConn tr { c with l1 := c.l1 ++ req ++ body })
    else if d.slot0.isNone then (spdmError 1, d)
    else (body ++ d.identitySign 0x60 (c.vca ++ c.l1 ++ req ++ body), e.2.setConn tr { c with l1 := [] })

/-- The response of a connection (0 DOE, 1 mailbox) to a request, in the order the standard asks for. -/
def Device.spdmRespond (d : Device) (tr : Nat) (kind : Option SpdmReq) (req : List Byte) : List Byte × Device :=
  let c := d.conn tr
  let negotiate (at_ : Nat) (body : List Byte) : List Byte × Device :=
    if c.stage + 1 != at_ then (spdmError 4, d) else (body, d.setConn tr { c with stage := at_, vca := c.vca ++ req ++ body })
  let note (body : List Byte) : List Byte × Device := (body, d.setConn tr { c with m1 := c.m1 ++ req ++ body })
  match kind with
  | none => (spdmError 7, d)
  | some .version =>
    let body := Config.dmtf 0x104 [0x12] []
    (body, d.setConn tr { SpdmConn.reset with stage := 1, vca := req ++ body })
  | some .capabilities => negotiate 2 (Config.dmtf 0x161 [0x16, 65536] [])
  | some .algorithms => negotiate 3 (Config.dmtf 0x163 spdmAlgorithms req)
  | some k =>
    if d.debugLevel = 2 && (k = .challenge || (k = .measurements && spdmSigned req)) then (spdmError 5, d)
    else if c.stage != 3 then (spdmError 4, d)
    else match k with
      | .digests => note (match d.slot0 with
        | some chain => Config.dmtf 0x101 [1] (sha3_512 chain)
        | none => Config.dmtf 0x101 [0] [])
      | .certificate => match if leAt req 2 1 = 0 then d.slot0 else none with
        | none => (spdmError 1, d)
        | some chain =>
          let off := leAt req 4 2
          let part := (chain.drop off).take (leAt req 6 2)
          if chain.length ≤ off then (spdmError 1, d) else note (Config.dmtf 0x102 [0, part.length, chain.length - off - part.length] part)
      | .challenge => d.spdmChallenge tr req
      | _ => d.spdmMeasurements tr req

/-- A request over DOE: answered while management cores or the vendor's test mode serve it; at most 65,536 bytes. -/
def Device.doeSpdm (d : Device) (kind : SpdmReq) (req : List Byte) : Device :=
  if d.class3Waits then d
  else
    let r := if 65536 < req.length then (spdmError 1, d) else d.spdmRespond 0 (some kind) req
    r.2.emit (.doe r.1)

/-- GET_VERSION. -/
def execGetVersion (req : List Byte) (s : State) : Host.Outcome State Fault Refusal := s.upd (fun d => d.doeSpdm .version req)
/-- GET_CAPABILITIES. -/
def execGetCapabilities (req : List Byte) (s : State) : Host.Outcome State Fault Refusal := s.upd (fun d => d.doeSpdm .capabilities req)
/-- NEGOTIATE_ALGORITHMS. -/
def execNegotiateAlgorithms (req : List Byte) (s : State) : Host.Outcome State Fault Refusal := s.upd (fun d => d.doeSpdm .algorithms req)
/-- GET_DIGESTS. -/
def execGetDigests (req : List Byte) (s : State) : Host.Outcome State Fault Refusal := s.upd (fun d => d.doeSpdm .digests req)
/-- GET_CERTIFICATE. -/
def execGetCertificate (req : List Byte) (s : State) : Host.Outcome State Fault Refusal := s.upd (fun d => d.doeSpdm .certificate req)
/-- CHALLENGE. -/
def execChallenge (req : List Byte) (s : State) : Host.Outcome State Fault Refusal := s.upd (fun d => d.doeSpdm .challenge req)
/-- GET_MEASUREMENTS. -/
def execGetMeasurements (req : List Byte) (s : State) : Host.Outcome State Fault Refusal := s.upd (fun d => d.doeSpdm .measurements req)

/-- A buffer of SPDM_MESSAGE. -/
def Device.spdmBuffer (d : Device) (a n : Nat) : Bool := n ≤ 65536 && a % 256 = 0 && d.rangeHbmDdr a (max 1 n)

/-- SPDM_MESSAGE (R596). -/
def execSpdmMessage (m : MsgRef) (payload : List Byte) (s : State) : Host.Outcome State Fault Refusal :=
  s.cmd m 0x3001 (fun b => b = payload) (fun d =>
    let src := leAt payload 0 8
    let len := leAt payload 8 4
    let cap := leAt payload 12 4
    let dst := leAt payload 16 8
    let req := d.read src len
    if d.class3Waits then d
    else if !d.spdmBuffer src len || !d.spdmBuffer dst cap || d.poisoned src len then d.refuseMsg m 0x3001 0x1113
    else
      let r := d.spdmRespond 1 (spdmReqOf req) req
      if cap < r.1.length then d.refuseMsg m 0x3001 0x1113
      else if d.identityGone req then (r.2.write dst r.1).refuseMsg m 0x3001 0x1114
      else (r.2.write dst r.1).respond m 0x3001 0 (u32 r.1.length))

/-- DOE_DISCOVERY (R504): the data objects are discovery (0) and SPDM (1), in the encoding of PCIe DOE (PRESUMED, log 4). -/
def execDoeDiscovery (index : Nat) (s : State) : Host.Outcome State Fault Refusal :=
  s.upd (fun d =>
    let body := match index with
      | 0 => u16 1 ++ u8 0 ++ u8 1
      | 1 => u16 1 ++ u8 1 ++ u8 0
      | _ => u16 0xFFFF ++ u8 0xFF ++ u8 0
    d.emit (.doe (u16 1 ++ u8 0 ++ u8 0 ++ u32 3 ++ body)))

end Sys2Proof.Machine
end

