-- ==== Sys2Proof/Machine/RegValue.lean ====
section
/-!
DEFINITION. What BAR0 reads (R10): registers computed from other state, the capability list (R508), the recorder window (R554), the view of
the plans (R91).
-/

namespace Sys2Proof.Machine

/-! ### Plans (R90, R91) -/

/-- The placement records of a section as they stand after re-placement. -/
def rewritePlacement (pl : Plan) (die : Nat) (sec : List Byte) : List Byte :=
  let n := (placementsOf pl.image die).length
  ((List.range n).flatMap (fun i =>
    let r := (sec.drop (32 * i)).take 32
    let p := pl.physical die (64 * leAt r 2 1 + leAt r 3 1)
    r.take 2 ++ u8 (p / 64) ++ u8 (p % 64) ++ r.drop 4)) ++ sec.drop (32 * n)

/-- The content of a slot on a die. -/
def slotContent (pl : Plan) (die : Nat) : List Byte :=
  let es := ((List.range (imgSectionCount pl.image)).map (fun i => (pl.image.drop (0x200 + 16 * i)).take 16)).filter (fun e => bitAt (leAt e 2 1) die)
  let start := alignUp (0x200 + 16 * es.length) 64
  let body := es.foldl (fun (acc : List Byte × List Byte) e =>
    let sec := (pl.image.drop (leAt e 4 4)).take (leAt e 8 4)
    let sec := if leAt e 0 2 = 3 then rewritePlacement pl die sec else sec
    let pad := zeros (alignUp acc.2.length 64 - acc.2.length)
    (acc.1 ++ e.take 4 ++ u32 (start + acc.2.length + pad.length) ++ e.drop 8, acc.2 ++ pad ++ sec)) ([], [])
  let head := pl.image.take 512 ++ body.1
  head ++ zeros (start - head.length) ++ body.2

/-- How long the schedule of R87 has run, while it does. -/
def Device.switchAge (d : Device) : Option Nat := match d.plan.switch with | .running start => some (d.now - start) | _ => none

/-- R87: from 9.0 µs the new tables, sync objects and Lift map are in place and the roles are exchanged. -/
def Device.rolesExchanged (d : Device) : Bool := d.switchAge.any (9000 ≤ ·) && d.plan.shadow.isSome

/-- The plans that the registers show as active and as shadow. -/
def Device.shownActive (d : Device) : Option Plan := if d.rolesExchanged then d.plan.shadow else d.plan.active
def Device.shownShadow (d : Device) : Option Plan := if d.rolesExchanged then d.plan.active else d.plan.shadow

/-- The value of a sync object that its register shows: from 9.0 µs of a switch that of the new plan (R87, R228). -/
def Device.shownSync (d : Device) (obj : Nat) : Nat :=
  match d.shownActive with
  | some pl => if d.rolesExchanged then (syncInit pl d.sched.sync).getD obj 0 else d.syncVal obj
  | none => d.syncVal obj

/-- PLAN_SLOT_STATE (R90), its indexes by role. -/
def Device.slotState (d : Device) : Nat :=
  let w := withBits (d.reg Reg.PLAN_SLOT_STATE).toNat 3 1 (bit d.shownActive.isSome)
  let w := withBits w 4 6 ((d.shownActive.map (·.lib)).getD 0)
  if d.rolesExchanged then withBits w 10 6 ((d.shownShadow.map (·.lib)).getD 0) else w

/-- PLAN_ACTIVE_ID, _VER, PLAN_SHADOW_ID, _VER once the roles are exchanged. -/
def Device.exchangedId (d : Device) (p : Option Plan) (f : List Byte → Nat) : Option Nat :=
  if d.rolesExchanged then some ((p.map (fun x => f x.image)).getD 0) else none

/-- The 32-bit word at an offset of the view; all ones while the shadow state is LOADING or SWITCHING. -/
def Device.planView (d : Device) (o : Nat) : Nat :=
  let die := o / 0x0200_0000
  let p := if o / 0x0100_0000 % 2 = 0 then d.plan.active else d.plan.shadow
  if d.shadowState = 1 || d.shadowState = 4 then 0xFFFF_FFFF
  else match p with
    | some pl => if bitAt (imgDieMask pl.image) die then leAt (slotContent pl die) (o % 0x0100_0000) 4 else 0
    | none => 0

/-- The capability list, from 0x1000 (R508). -/
def capList : List Byte :=
  let entry (id next data : Nat) := u16 id ++ u8 1 ++ u8 0 ++ u32 next ++ u64 data
  entry 1 0x1010 (1 + 8192 * 2 ^ 16 + 16384 * 2 ^ 32) ++ entry 2 0x1020 1 ++ entry 3 0x1030 1 ++ entry 4 0 1

/-! ### Status registers computed from other state -/

/-- A station instance has a job. -/
def Device.busy (d : Device) (die kind k : Nat) : Nat := bit (d.job (stKey die kind k)).isSome

def Device.streamStatus (d : Device) (die sid : Nat) : Nat :=
  let x := d.stream (gsid die sid)
  (match x.state with | .idle => 0 | .armed => 1 | .running => 2 | .done => 3) + 4 * bit x.aborted + 8 * min 8 x.outstanding + 2 ^ 16 * x.code + 2 ^ 32 * x.tag

/-- LIFT_STATUS; the Lift map is reset at 0.5 µs of a switch and new at 9.0 µs (R87). -/
def Device.liftStatus (d : Device) (die l : Nat) : Nat :=
  let q := d.liftQ (4096 * die + l)
  let reset := d.switchAge.any (fun t => decide (500 ≤ t) && decide (t < 9000))
  let defined := !reset && (match d.shownActive with | some pl => (pl.liftRec die l).isSome | none => false)
  q.length + 2 ^ 9 * bit defined + 2 ^ 32 * (q.head?.map (·.tag)).getD 0

/-- The two words of a task-table entry. -/
def Device.taskStatus (d : Device) (die t word : Nat) : Nat :=
  match d.str.tasks.get? (1024 * die + t) with
  | none => 0
  | some x => if word = 0 then x.tag + 2 ^ 32 * x.shownState + 2 ^ 48 * x.shownCode else d.refs x.tag + 2 ^ 32 * ceilDiv (x.granules * 64) 1024

/-- Cells of a cluster whose state is the given one. -/
def Device.cellMask (d : Device) (die p : Nat) (test : Cell → Bool) : Nat :=
  (List.range 64).foldl (fun n c => match d.cells.get? (64 * (4096 * die + p) + c) with | some x => n + bit (test x) * 2 ^ c | none => n) 0

def isAsking (x : Cell) : Bool := match x.blocked with | some (.ask _ _) => true | _ => false

def Device.gateStatus (d : Device) (die p : Nat) : Nat :=
  let g := d.gate (4096 * die + p)
  let inS := d.inService (4096 * die + p)
  let used := g.unmatched.length + (g.items ++ inS).foldl (fun n i => n + i.operands.length) 0
  used + 2 ^ 10 * g.ready.length + 2 ^ 20 * g.delayed.length + 2 ^ 32 * inS.length + 2 ^ 39 * g.flows.length

/-- PACK_STATUS (R293); HELD stays at all ones above its 17 bits. -/
def Device.packStatus (d : Device) (die k : Nat) : Nat :=
  let p := (d.packFree die k).packInst die k
  let held := p.openB.foldl (fun n b => n + b.samples.length) (p.late.length + p.carried.length)
  p.openB.length + 2 ^ 3 * (p.slots.length + bit p.emitting.isSome) + 2 ^ 8 * min held (2 ^ 17 - 1) + 2 ^ 32 * p.stragglers.length

def Device.matchStatus (d : Device) (die k : Nat) : Nat :=
  let g := d.gangOf die k
  let leads := match g with | some (l, _) => l = k | none => false
  d.busy die 1 k + 2 * bit leads + 4 * bit (g.isSome && !leads)
    + 8 * (d.matchE.filter (fun e => e.1 / 4096 = 64 * die + k && e.2.state = 2)).length

/-- R361: a job in progress, and the incomplete rows held. -/
def Device.selStatus (d : Device) (die k : Nat) : Nat :=
  d.busy die 2 k + 2 * ((d.sel.getD (stKey die 2 k) []).filter (fun r => !r.complete)).length

/-- R399: table `t` of the active plan has its home on another die. -/
def Device.homedElsewhere (d : Device) (die t : Nat) : Bool :=
  (d.tableOf die t).isNone && [0, 1, 2, 3].any (fun k => k != die && (d.tableOf k t).isSome)

/-- EMB_STATUS (R400); a round is due in the Night that follows its copy (R392). -/
def Device.embStatus (d : Device) (die t : Nat) : Nat :=
  let x := d.embT (embKey die t)
  let round := match x.round with | none => 0 | some r => if r.replayed then 3 else if d.roundDue x r then 2 else 1
  let moving := (x.round.map (fun r => r.moves.length)).getD 0
  bit (d.tableOf die t).isSome + 2 * d.fld (Reg.EMB_STATUS die t) Fd.EMB_STATUS_KEPT + 4 * round + 16 * bit x.apply.isSome + 32 * bit x.flush + 2 ^ 32 * moving

def Device.arrStatus (d : Device) (die k : Nat) : Nat :=
  let stored := (d.reg (Reg.ARR_STATUS die k)).toNat
  let op := ((d.arr.get? (stKey die 0 k)).map (fun a => leAt a.cmd 0 1)).getD 0
  let fenced := d.fault.fmap.any (fun e => e.2.kind = 4 && e.2.die = die && e.2.station = 0 && e.2.index = k)
  stored + d.busy die 0 k + 2 * (if d.busy die 0 k = 1 then op % 4 else 0) + 16 * bit fenced

def Device.travStatus (d : Device) (die k : Nat) : Nat :=
  let ended := d.str.tasks.any (fun e => e.2.prepared && d.link.travEnded.any (fun x => x.1 = e.2.tag && x.2 = stKey die 7 k))
  let moving := d.emb.any (fun e => e.1 / 64 = die && e.2.round.any (fun r => !r.copied) && (d.tableOf die (e.1 % 64)).any (fun x => x.traverse = k))
  d.busy die 7 k + 2 * bit ended + 4 * bit moving

def Device.errqStatus (d : Device) (q : Nat) : Nat :=
  let x := d.errq q
  x.depth + 2 ^ 7 * (x.handling.map (fun e => e.event.severity)).getD 0 + 2 ^ 10 * bit x.handling.isSome + 2 ^ 11 * x.suspended.length

/-- An FMAP_ENTRY (R566). -/
def FaultEntry.word (e : FaultEntry) : Nat :=
  1 + 2 * e.kind + 2 ^ 4 * e.die + 2 ^ 6 * e.block + 2 ^ 12 * e.cluster + 2 ^ 18 * e.cell + 2 ^ 24 * e.station + 2 ^ 28 * e.index
    + 2 ^ 34 * bit e.host + 2 ^ 48 * e.code

/-! ### The value a read returns -/

/-- Registers of a compute die computed from other state: by the offset in the die's space of their row. -/
def Device.dieRegValue (d : Device) (die base i : Nat) : Option Nat :=
  match base with
  | 0x100010 => some (d.liveTasks die).length
  | 0x101000 => some (d.streamStatus die i)
  | 0x140000 => some (d.liftStatus die i)
  | 0x150000 => some (d.taskStatus die i 0)
  | 0x150008 => some (d.taskStatus die i 1)
  | 0x8000 => some (d.cellMask die i (fun x => x.state = .running))
  | 0x10000 => some (d.cellMask die i (fun x => x.state = .halted))
  | 0x200018 => some ((d.sched.gates.filter (fun e => e.1 / 4096 = die)).foldl (fun n e => n + e.2.flows.length) 0)
  | 0x210000 => some (d.gateStatus die i)
  | 0x218000 => some (d.cellMask die i isAsking)
  | 0x280000 => some (d.shownSync (65536 * die + i))
  | 0x300138 => some (d.busy die 3 i + 2 * d.buffersHeld (stKey die 3 i))
  | 0x700100 => some (d.packStatus die i)
  | 0x381028 => some (d.busy die 5 i + 2 * d.buffersHeld (stKey die 5 i))
  | 0x401030 => some (d.matchStatus die i)
  | 0x501038 => some (d.selStatus die i)
  | 0x581000 => some (d.embStatus die i)
  | 0x581008 => if d.homedElsewhere die i then some 0 else none
  | 0x581058 => some ((d.embT (embKey die i)).log.length + ((d.embT (embKey die i)).apply.map (fun a => a.entries.length)).getD 0)
  | 0x584018 => some (d.busy die 4 i + 2 * bit (d.gatherApplying die i && (d.job (stKey die 4 i)).isNone))
  | 0x601030 => some (d.arrStatus die i)
  | 0x740120 => some (d.travStatus die i)
  | 0x780000 => some (Config.readValue (Reg.MEM_TILE_HITS die) d.now).toNat
  | 0x780008 => some (Config.readValue (Reg.MEM_TILE_MISSES die) d.now).toNat
  | 0x1000 => some (d.errqStatus die)
  | _ => none

/-- The firmware has started (R583); a VENDOR session has stopped it since. -/
def Device.firmwareStarted (d : Device) : Bool := d.mgmt.booted && (d.mgmt.fw || d.debugLevel = 2)

/-- Registers of the package computed from other state: by the offset of their row. -/
def Device.pkgRegValue (d : Device) (base i : Nat) : Option Nat :=
  match base with
  | 0x0004 => some (0x31 + 2 ^ 16 * (16 * d.board.stackGib))
  | 0x0008 => some d.board.serial
  | 0x0018 => some (bitsWhere 18 (fun bb => 1 ≤ bb && d.blockHasError bb) + 2 ^ 31 * d.fld Reg.ERR_SUMMARY Fd.ERR_SUMMARY_FATAL)
  | 0x0020 => some (d.board.strapBoot + 4 * d.board.strapSmb + 32 * d.board.strapPcie)
  | 0x2010 => some (d.lapseSource.reg Reg.CAD_STATUS).toNat
  | 0x2014 => some (d.phase + 2 ^ 16 * bit (d.time.saturated || decide (d.pred ≤ d.now - d.time.stepStart)) + 2 ^ 17 * d.segment d.phase)
  | 0x2110 => some d.calNow
  | 0x3004 => some d.slotState
  | 0x3008 => d.exchangedId d.shownActive imgPlanId
  | 0x300C => d.exchangedId d.shownActive imgVersion
  | 0x3010 => d.exchangedId d.shownShadow imgPlanId
  | 0x3014 => d.exchangedId d.shownShadow imgVersion
  | 0x3030 => some (bitsWhere 64 (fun i => (d.plan.library.get? i).isSome))
  | 0x3038 => some (d.provisionedBits + 16 * bit (d.provisionedBits != 0))
  | 0x6001008 => some (withBits (d.reg Reg.GROUP_STATUS).toNat 0 1 (bit d.groupFormed))
  | 0x6005000 => some (d.errqStatus 4)
  | 0x10000C => some (ceilDiv (d.wdogPeriod - d.wdogElapsed + 1) 1000000 - 1)
  | 0x10002C => some (bitsWhere 16 (fun c => !(d.host.classQ.getD c []).isEmpty || d.inProgress c))
  | 0x440004 => some d.fault.slots.length
  | 0x440018 => some (min 511 d.fault.flashQ.length + 2 ^ 9 * d.fault.log.length)
  | 0x440110 => some (d.fault.fmap.length + 2 ^ 12 * bitsWhere 4 d.dieContained + 2 ^ 16 * bit d.packageContained)
  | 0x448000 => some ((d.fault.fmap.get? i).map FaultEntry.word |>.getD 0)
  | 0x200020 => if d.firmwareStarted then none else some (regReset (Reg.DIE_CLOCK i)).toNat
  | 0x200100 => some (withBits (d.reg Reg.FW_STATUS).toNat 4 6 d.fuses.rollback)
  | 0x300004 => some (withBits (d.reg Reg.SEC_STATUS).toNat 3 4 d.fuses.revoked)
  | _ => none

/-- The value of a register (DIE_CLOCK reads its reset value until the firmware starts, R600): RW fields as last written, WO fields 0 (they are never stored), RO fields of the moment. -/
def Device.regValue (d : Device) (off : Nat) : Nat :=
  match findReg off with
  | none => 0
  | some r =>
    let i := (r.index? off).getD 0
    let v := if r.perDie then d.dieRegValue (off / 0x0100_0000 - 1) r.base i else d.pkgRegValue r.base i
    v.getD (d.reg off).toNat % 2 ^ r.width

/-- A 32-bit word of BAR0 outside the register tables: the capability list, the recorder window, the view of the plans; 0 elsewhere
(R506).  The window serves a record whose SRAM word is uncorrectable from the mirror, which holds the same bytes (R554); where there is none the
word is a free value (log 108). -/
def Device.plainWord (d : Device) (off : Nat) : Nat :=
  if 0x1000 ≤ off && off < 0x1040 then leAt capList (off - 0x1000) 4
  else if 0x0040_0000 ≤ off && off < 0x0044_0000 then
    let i := (off - 0x0040_0000) / 64
    if i ∈ d.fault.badSlots && !(i ∈ d.fault.mirror) then (Config.readValue off d.now).toNat % 2 ^ 32
    else match d.fault.slots.get? i, d.fault.freed.get? i with
    | some e, _ => leAt (recordBytes e) (off % 64) 4
    | none, some e => if off % 64 = 60 then 0 else leAt (recordBytes e) (off % 64) 4
    | none, none => 0
  else if 0x0800_0000 ≤ off && off < 0x1000_0000 then d.planView (off - 0x0800_0000)
  else 0

end Sys2Proof.Machine
end

