-- ==== Sys2Proof/Machine/Resets.lean ====
section
/-!
DEFINITION. Device reset, hot reset and FLR (chapter 17: R532 to R535; R552, R575, R586, R594).
-/

namespace Sys2Proof.Machine

/-! ### What every lesser reset does (R532) -/

/-- The registers of the host block and the doorbells. -/
def isHostReg (off : Nat) : Bool := (0x0010_0000 ≤ off && off < 0x0020_0000) || 0x1000_0000 ≤ off

/-- Commands in progress that a reset of the rings leaves running have no response to write (log 46). -/
def Device.orphanAll (d : Device) : Device :=
  let o : MsgRef := { hseq := orphan, cookie := 0 }
  { d with
    mgmt := { d.mgmt with staging := d.mgmt.staging.map (fun x => (o, x.2)) }
    plan := { d.plan with storing := d.plan.storing.map (fun x => (o, x.2)), loading := d.plan.loading.map (fun x => (o, x.2)) }
    str := { d.str with
      extReads := d.str.extReads.map (fun r => if r.stream = planStoreStream then { r with tag := orphan } else r)
      allocWait := d.str.allocWait.map (fun w => match w with | .submit _ a b c => .submit o a b c | w => w) } }

/-- Host block registers, rings, H-seq, D-seq, MSI-X table and IRQ_MAP are reset, READY kept; the configuration space unless kept. -/
def Device.hostReset (d : Device) (keepConfig : Bool) : Device :=
  let ready := d.fld Reg.HOST_STATE Fd.HOST_STATE_READY
  let h := { HostUnit.reset with wdogSince := d.now, parkStep := d.host.parkStep }
  let h := if keepConfig then
      { h with busMaster := d.host.busMaster, msixEnable := d.host.msixEnable, atsEnable := d.host.atsEnable, priEnable := d.host.priEnable
               requests := d.host.requests, bar4Size := d.host.bar4Size }
    else h
  (({ d.orphanAll with regs := d.regs.filter (fun e => !isHostReg e.1), host := h }).setFld Reg.HOST_STATE Fd.HOST_STATE_READY ready).setFld
    Reg.HOST_STATE Fd.HOST_STATE_DMA_OFF 1

def Device.resetBusy (d : Device) : Bool := d.fld Reg.DEV_STATUS Fd.DEV_STATUS_RESET_BUSY = 1

/-- Hot reset, FLR and the return from D3hot: the device parks at the end of the step, with the cause of the latest; a device reset in
progress governs (R535). -/
def Device.parkReset (d : Device) (cause : Nat) : Device :=
  let d := d.hostReset false
  if d.resetBusy then d else (d.setHostState 2).updHost (fun h => { h with parkCause := some cause })

/-- HOT_RESET: hot reset from upstream, or DL_Down. -/
def execHotReset (s : State) : Host.Outcome State Fault Refusal := s.upd (fun d => d.parkReset 3)

/-- FLR: Initiate FLR, or the return to D0 from D3hot. -/
def execFlr (s : State) : Host.Outcome State Fault Refusal := s.upd (fun d => d.parkReset (if d.host.d3hot then 4 else 2))

/-! ### Device reset (R532, R533) -/

/-- A task before its commit point aborts at once, on every die; its record is written and no message is sent. -/
def Device.resetAbort (d : Device) (k : Nat) (t : Task) : Device :=
  let code := ((d.str.abortReqs.find? (fun r => r.1 = t.tag)).map (·.2)).getD 0x041C
  let d := [0, 1, 2, 3].foldl (fun d die => d.abortOn die t.tag) (d.markAborted k t code)
  d.record { code := code, severity := 1, loc := { kind := 5, die := tagHome t.tag }, tag := t.tag }

/-- Every task ends: those before their commit point aborted, then the others commit, oldest first; abort orders on their way are carried
out. -/
def Device.settleTasks (d : Device) : Device :=
  let open_ := d.str.tasks.filter (fun e => e.2.state = .open)
  let d := open_.foldl (fun d e => d.resetAbort e.1 e.2) d
  let d := d.str.abortOrders.foldl (fun d o =>
    let code := ((d.findTask o.1).map (fun e => e.2.code)).getD 0
    let d := d.abortOn o.2 o.1
    if d.str.abortReports.any (fun r => r.1 = o.1) then d else d.updStr (fun u => { u with abortReports := u.abortReports ++ [(o.1, code)] }))
    (d.updStr (fun u => { u with abortOrders := d.str.abortOrders.filter (fun o => !(open_.any (fun e => e.2.tag = o.1))) }))
  let ended := sortBy (fun e => e.2.alloc) (d.str.tasks.filter (fun e => e.2.state = .ended))
  ended.foldl (fun d e => d.commitTask e.1 e.2 []) (d.updStr (fun u => { u with abortReqs := [], abortOrders := [] }))

/-- The active plan, the shadow slot and the library are emptied, with everything that runs under a plan; plan registers take their reset
values (R90); the reset boundaries are in force from the next accepted mark (log 47).  STREAM_STATUS, TASK_STATUS and CELL_HALTED, which
R532 does not name, keep what they show (R14, R167, R199). -/
def Device.emptyPlans (d : Device) : Device :=
  let d := { d with
    plan := PlanUnit.reset
    regs := d.regs.filter (fun e => !(decide (0x3000 ≤ e.1) && decide (e.1 < 0x3100)))
    str := { StreamUnit.reset with
      streams := d.str.streams, tasks := d.str.tasks, seqs := d.str.seqs, allocCount := d.str.allocCount, retireCount := d.str.retireCount, nextRead := d.str.nextRead, abortReports := d.str.abortReports }
    sched := { d.sched with gates := [], formCount := 0 }
    cells := d.cells.filter (fun e => decide (e.2.state = CellState.halted)), stn := StationUnit.reset, pack := [], sel := [], arr := [], emb := []
    link := { d.link with trav := [], travEnded := [] } }
  let d := d.clearFlush.matchSwitch
  d.updTime (fun u => { u with
    stagesBegun := [], stagesHanded := [], stagesCommitted := [], held := false, nextBounds := some (0x4000, 0x8000, 0xC000) })

/-- A device reset begins: it has every effect but the end of containment and of RESET_BUSY. -/
def Device.deviceReset (d : Device) : Device :=
  let d := d.settleTasks.applyCommitted.emptyPlans.hostReset true
  let d := if d.actState = 2 then d.setActState 1 else d
  (d.extendPm (List.replicate 64 0xFF)).setFld Reg.DEV_STATUS Fd.DEV_STATUS_RESET_BUSY 1

/-- A write of RESET_CTRL.  While RESET_BUSY is 1 it is refused for that, whatever its reserved bits (DESIGN CHOICE, log 89). -/
def Device.resetCtrlWrite (d : Device) (v : Nat) : Device :=
  if d.resetBusy then d.refuse 0x0106
  else if bitsOf v 1 15 != 0 then d.refuse 0x0101
  else if !bitAt v 0 then d
  else if v / 2 ^ 16 != 0xD0E5 then d.refuse 0x0117
  else d.deviceReset

/-- DEVICE_RESET. -/
def execDeviceReset (v : Word) (s : State) : Host.Outcome State Fault Refusal := s.upd (fun d => d.resetCtrlWrite v.toNat)

/-- DEVICE_RESET_DONE: the dies in `pass` have passed their self-test (R552); after a trip every die is below 90 °C (R575). -/
def execDeviceResetDone (pass : List Nat) (s : State) : Host.Outcome State Fault Refusal :=
  s.upd (fun d =>
    if !d.resetBusy || (d.tripped && d.mgmt.hot.any (fun t => decide (90 ≤ t))) then d
    else
      let gone := d.fault.fmap.filter (fun e => e.2.kind = 5 && e.2.die ∈ pass)
      let d := gone.foldl (fun d e => ({ d with fault := { d.fault with fmap := d.fault.fmap.del e.1 } }).fmapChanged) d
      let d := if pass.isEmpty then d else d.setFld Reg.FMAP_STATUS Fd.FMAP_STATUS_PACKAGE_CONTAINED 0
      d.setFld Reg.DEV_STATUS Fd.DEV_STATUS_RESET_BUSY 0)

end Sys2Proof.Machine
end

