-- ==== Sys2Proof/Machine/RegFile.lean ====
section
/-!
DEFINITION. Host access to the registers of BAR0: access codes, reserved fields, widths, the two halves of a 64-bit register
(R9 to R13, R17, R18, R506), and the registers whose write has an effect of its own.
-/

namespace Sys2Proof.Machine

/-- The bits of a register whose access code is one of those given. -/
def RegDef.mask (r : RegDef) (p : Access → Bool) : Nat :=
  r.fields.foldl (fun m f => if p f.2 then m + (2 ^ f.1.w - 1) * 2 ^ f.1.lo else m) 0

/-- The low half that a write of the high half alone carries: RW fields as they are, 0 elsewhere (R13). -/
def Device.presentLow (d : Device) (r : RegDef) (off : Nat) : Nat :=
  (BitVec.ofNat 32 (d.regValue off) &&& BitVec.ofNat 32 (r.mask (fun a => a = .rw))).toNat

/-- R10: RW fields take the written bits, written ones clear W1C bits and set W1S bits; other fields stay. -/
def Device.plainWrite (d : Device) (r : RegDef) (off v : Nat) : Device :=
  let m (a : Access) : DWord := BitVec.ofNat 64 (r.mask (fun b => b = a))
  let v : DWord := BitVec.ofNat 64 v
  let old := d.reg off
  d.setReg off (((old &&& ~~~ m .rw) ||| (v &&& m .rw) ||| (v &&& m .w1s)) &&& ~~~ (v &&& m .w1c))

/-- R18: CODE and COUNT of a LAST_ERROR register become 0. -/
def Device.clearLastError (d : Device) (off : Nat) : Device := (d.setFld off ⟨0, 16⟩ 0).setFld off ⟨16, 15⟩ 0

/-- The register whose fields are CODE, COUNT and CLEAR of R18. -/
def RegDef.isLastError (r : RegDef) : Bool := decide (r.fields = [(⟨0, 16⟩, .ro), (⟨16, 15⟩, .ro), (⟨31, 1⟩, .wo)])

/-- SYNC_CMD (R229, R232): OP 0 signal, 1 reset, others reserved. -/
def Device.syncCmdWrite (d : Device) (die v : Nat) : Device :=
  let obj := 65536 * die + bitsOf v 0 16
  match bitsOf v 16 2 with
  | 0 => d.addSyncOp { obj := obj, kind := 1, source := 0, amount := bitsOf v 32 32 }
  | 1 =>
    if bitsOf v 32 32 != 0 then d.refuse 0x0604 die else d.addSyncOp { obj := obj, kind := 0, source := 0, amount := 0 }
  | _ => d.refuse 0x0602 die

/-- PACK_CMD (R288): a flush of an instance the plan does not make active refuses the write. -/
def Device.packCmdWrite (d : Device) (die v : Nat) : Device :=
  if (onesBelow 4 v).any (fun k => (d.packConfig die k).isNone) then d.refuse 0x0805 die
  else (onesBelow 4 v).foldl (fun d k => d.packFlush die k) d

/-- EMB_CMD: without GO its RW fields are stored. -/
def Device.embCmdWrite (d : Device) (die v : Nat) (plain : Device → Device) : Device :=
  if bitAt v 8 then d.embFlushCmd die (bitsOf v 0 6) (bitsOf v 6 2)
  else if bitsOf v 6 2 != 0 then d.refuse 0x0C02 die
  else plain d

/-- FMAP_CMD (R553, R566). -/
def Device.fmapCmdWrite (d : Device) (v : Nat) : Device :=
  if 2 ≤ v % 4 then d.refuse 0x1002
  else if !bitAt v 2 then d.setFld Reg.FMAP_CMD Fd.FMAP_CMD_ACTION (v % 4)
  else if v % 4 = 0 then d.fmapAddCmd else d.fmapRemoveCmd

/-- FMAP_CMD_ENTRY: a reserved KIND is refused at the write (R5, R553). -/
def Device.fmapEntryWrite (d : Device) (v : Nat) (plain : Device → Device) : Device :=
  if (fmapEntryOf v 0 false).reserved then d.refuse 0x1002 else plain d

/-- A write within a stated range (ERR_VALUE_RANGE outside it). -/
def Device.rangeWrite (d : Device) (lo hi x code k : Nat) (plain : Device → Device) : Device :=
  if x < lo || hi < x then d.refuse code k else plain d

/-- A write of all of a register of the package; `base` is the offset of its row and `i` its index there. -/
def Device.pkgWrite (d : Device) (base i v : Nat) (plain : Device → Device) : Device :=
  match base with
  | 0x2000 => d.cadCtrlWrite v
  | 0x2004 => d.rangeWrite 100000 4000000000 v 0x1004 4 plain
  | 0x2008 => d.rangeWrite 0 50000000 v 0x1004 4 plain
  | 0x200C => if bitAt v 0 then d.hostMark else d
  | 0x2100 => d.calCtrlWrite v
  | 0x2108 => d.calEpochWrite (BitVec.ofNat 64 v)
  | 0x6001004 => d.groupCtrlWrite v
  | 0x6001100 => d.groupRouteWrite i v
  | 0x6002000 => d.portCtrlWrite i v
  | 0x7002000 => d.portCtrlWrite (4 + i) v
  | 0x6004018 => d.vmCtrlWrite v
  | 0x6004020 => d.vmRootWrite v
  | 0x6004028 => d.vmInvalWrite v
  | 0x6004030 => d.groomCtrlWrite v
  | 0x100008 => d.wdogCtrlWrite v
  | 0x100024 => d.mbCtrlWrite v
  | 0x100030 => d.bar4BaseWrite v
  | 0x101080 => d.irqMapWrite (16 + i) v
  | 0x440010 => d.evrRelease v
  | 0x440100 => d.fmapCmdWrite v
  | 0x440108 => d.fmapEntryWrite v plain
  | 0x200004 => d.pwrCapWrite v
  | 0x200008 => d.freqCapWrite v
  | _ => plain d

/-- A write of all of a register of compute die `die`. -/
def Device.dieWrite (d : Device) (die base i v : Nat) (plain : Device → Device) : Device :=
  match base with
  | 0x100008 => d.streamArmWrite die v
  | 0x100030 => if bitAt v 0 then d.stallClear die else d
  | 0x200008 => d.syncCmdWrite die v
  | 0x300004 => d.rangeWrite 1 4096 v 0x0704 die plain
  | 0x700004 => d.packCmdWrite die v
  | 0x400008 => d.writeMatchCmd die v
  | 0x580008 => d.embCmdWrite die v plain
  | 0x581008 => if d.homedElsewhere die i then d else if bitsOf v 23 8 = 255 then d.refuse 0x0C04 die else plain d
  | 0x600004 => d.arraySelftest die v
  | _ => plain d

/-- A write of all of the register at `off` (R10, R11, R506). -/
def Device.regWrite (d : Device) (off v : Nat) : Device :=
  match findReg off with
  | none => d.refuse 0x0104
  | some r =>
    let die := off / 0x0100_0000 - 1
    let v := v % 2 ^ r.width
    if off = Reg.RESET_CTRL then d.resetCtrlWrite v
    else if BitVec.ofNat 64 v &&& BitVec.ofNat 64 (r.mask (fun a => a = .rsv)) != 0 then d.refuse (256 * r.block + 1) (if r.perDie then die else 4)
    else if r.isLastError then (if bitAt v 31 then d.clearLastError off else d)
    else if r.perDie then d.dieWrite die r.base ((r.index? off).getD 0) v (fun d => d.plainWrite r off v)
    else d.pkgWrite r.base ((r.index? off).getD 0) v (fun d => d.plainWrite r off v)

/-! ### Access by 32 and 64 bits (R9, R13) -/

/-- The 64-bit register at an offset. -/
def wideReg (off : Nat) : Option (Nat × RegDef) :=
  match findReg off with
  | some r => if r.width = 64 then some (off, r) else none
  | none => none

/-- The 64-bit register one half of which lies at an offset, with its offset. -/
def wideAt (off : Nat) : Option (Nat × RegDef) :=
  match findReg off with
  | some _ => wideReg off
  | none => if off % 8 = 4 then wideReg (off - 4) else none

/-- A 32-bit write at a multiple of 4: a low half is held, a high half commits both.  A write of the high half uses up the held low half,
also where it is then refused (DESIGN CHOICE, log 89). -/
def Device.write32 (d : Device) (off v : Nat) : Device :=
  match wideAt off with
  | none => d.regWrite off v
  | some (o, r) =>
    let held := d.host.heldLow.get? o
    let d := d.dropHalves o
    if off = o then d.updHost (fun h => { h with heldLow := h.heldLow.put o (v % 2 ^ 32) })
    else d.regWrite o (held.getD (d.presentLow r o) + 2 ^ 32 * (v % 2 ^ 32))

/-- An access that is not supported is an access of the registers whose bytes it covers: it discards the halves of those of 64 bits
(R13; DEDUCED, log 13). -/
def Device.dropTouched (d : Device) (off width : Nat) : Device :=
  [off / 8 * 8, (off + width / 8 - 1) / 8 * 8].foldl (fun d o => if (wideReg o).isSome then d.dropHalves o else d) d

/-- A write of BAR0 by an access of any width (R9, R506). -/
def Device.bar0Write (d : Device) (off width v : Nat) : Device :=
  if 0x1000_0000 ≤ off then d
  else if unsupported off width then (d.dropTouched off width).refuse 0x0103
  else if width = 32 then d.write32 off v
  else match wideAt off with
    | some (o, _) => (d.dropHalves o).regWrite o v
    | none => (d.regWrite off (v % 2 ^ 32)).regWrite (off + 4) (v / 2 ^ 32 % 2 ^ 32)

/-- A 32-bit read at a multiple of 4 (R13): its value, and the device after it. -/
def Device.read32 (d : Device) (off : Nat) : Nat × Device :=
  match wideAt off with
  | none => (if (findReg off).isSome then d.regValue off else d.plainWord off, d)
  | some (o, _) =>
    let now := d.regValue o
    let high := (d.host.capturedHigh.get? o).getD (now / 2 ^ 32)
    let d := d.dropHalves o
    if off = o then (now % 2 ^ 32, d.updHost (fun h => { h with capturedHigh := h.capturedHigh.put o (now / 2 ^ 32) }))
    else (high, d)

/-- REGISTER_WRITE (R9, R10, R11). -/
def execRegisterWrite (off width : Nat) (v : DWord) (s : State) : Host.Outcome State Fault Refusal :=
  s.upd (fun d => d.bar0Write off width v.toNat)

/-- LAST_ERROR_CLEAR (R18). -/
def execLastErrorClear (off : Nat) (s : State) : Host.Outcome State Fault Refusal :=
  s.upd (fun d =>
    match findReg off with
    | some r => if r.isLastError then d.clearLastError off else d
    | none => d)

/-- A read of BAR0 by an access of any width: its value, and the device after it (R9, R13).  A width or an offset that is not supported
reads all ones of that width; 64 bits over two 32-bit registers are two reads, the lower offset first. -/
def Device.bar0Read (d : Device) (off width : Nat) : Nat × Device :=
  if unsupported off width then (2 ^ width - 1, d.dropTouched off width)
  else if width = 32 then d.read32 off
  else match wideAt off with
    | some (o, _) => (d.regValue o, d.dropHalves o)
    | none =>
      let (lo, d) := d.read32 off
      let (hi, d) := d.read32 (off + 4)
      (lo + 2 ^ 32 * hi, d)

/-- REG64_LOW_HALF_READ (R9, R13): a read of BAR0; with 32 bits at the offset of a 64-bit register, of its low half. -/
def execReg64LowHalfRead (r : BarRead) (s : State) : Host.Outcome State Fault Refusal :=
  s.upd (fun d =>
    if 0x1000_0000 ≤ r.off then d
    else
      let (x, d) := d.bar0Read r.off r.width
      d.emit (.bar0Data x))

/-- REG64_LOW_HALF_WRITE (R13): a 32-bit write at the offset of a 64-bit register. -/
def execReg64LowHalfWrite (off : Nat) (v : Word) (s : State) : Host.Outcome State Fault Refusal :=
  s.upd (fun d => d.bar0Write off 32 v.toNat)

/-- REG64_HIGH_HALF_WRITE (R13): a 32-bit write 4 bytes above the offset of a 64-bit register. -/
def execReg64HighHalfWrite (off : Nat) (v : Word) (s : State) : Host.Outcome State Fault Refusal :=
  s.upd (fun d => d.bar0Write off 32 v.toNat)

end Sys2Proof.Machine
end

