-- ==== Sys2Proof/Machine/Dispatch.lean ====
section
/-!
DEFINITION. The dispatch of a command to its meaning, one arm per row of the table of operations and events.
-/

namespace Sys2Proof.Machine

def exec (i : Instr) (s : State) : Host.Outcome State Fault Refusal :=
  match i with
  | .registerWrite off width value => Sys2Proof.Machine.execRegisterWrite off width value s
  | .reg64LowHalfRead r => Sys2Proof.Machine.execReg64LowHalfRead r s
  | .reg64LowHalfWrite off v => Sys2Proof.Machine.execReg64LowHalfWrite off v s
  | .reg64HighHalfWrite off v => Sys2Proof.Machine.execReg64HighHalfWrite off v s
  | .lastErrorClear off => Sys2Proof.Machine.execLastErrorClear off s
  | .fabricLinkDown link => Sys2Proof.Machine.execFabricLinkDown link s
  | .cadPinEdge t => Sys2Proof.Machine.execCadPinEdge t s
  | .cadFreeMark => Sys2Proof.Machine.execCadFreeMark s
  | .cadHostMark t => Sys2Proof.Machine.execCadHostMark t s
  | .cadCtrlWrite v => Sys2Proof.Machine.execCadCtrlWrite v s
  | .acceptedMark => Sys2Proof.Machine.execAcceptedMark s
  | .sourceLost => Sys2Proof.Machine.execSourceLost s
  | .lossGeneratorMark => Sys2Proof.Machine.execLossGeneratorMark s
  | .phaseSaturate => Sys2Proof.Machine.execPhaseSaturate s
  | .segmentBoundary => Sys2Proof.Machine.execSegmentBoundary s
  | .calCtrlWrite v => Sys2Proof.Machine.execCalCtrlWrite v s
  | .calEpochSecWrite v => Sys2Proof.Machine.execCalEpochSecWrite v s
  | .ppsEdge t => Sys2Proof.Machine.execPpsEdge t s
  | .ppsHoldover => Sys2Proof.Machine.execPpsHoldover s
  | .planStore m lib src len => Sys2Proof.Machine.execPlanStore m lib src len s
  | .planStoreDone => Sys2Proof.Machine.execPlanStoreDone s
  | .planLoad m lib => Sys2Proof.Machine.execPlanLoad m lib s
  | .planLoadDone => Sys2Proof.Machine.execPlanLoadDone s
  | .planArm m step pu => Sys2Proof.Machine.execPlanArm m step pu s
  | .planDisarm m => Sys2Proof.Machine.execPlanDisarm m s
  | .planEvict m lib => Sys2Proof.Machine.execPlanEvict m lib s
  | .switchPoint => Sys2Proof.Machine.execSwitchPoint s
  | .switchStart => Sys2Proof.Machine.execSwitchStart s
  | .switchComplete => Sys2Proof.Machine.execSwitchComplete s
  | .streamArm d v => Sys2Proof.Machine.execStreamArm d v s
  | .taskAllocResume => Sys2Proof.Machine.execTaskAllocResume s
  | .nop sid => Sys2Proof.Machine.execNop sid s
  | .seta sid a region off => Sys2Proof.Machine.execSeta sid a region off s
  | .adda sid a imm => Sys2Proof.Machine.execAdda sid a imm s
  | .addp sid a k scale => Sys2Proof.Machine.execAddp sid a k scale s
  | .loop sid k count => Sys2Proof.Machine.execLoop sid k count s
  | .endl sid k target => Sys2Proof.Machine.execEndl sid k target s
  | .xfer sid a postinc bytes => Sys2Proof.Machine.execXfer sid a postinc bytes s
  | .xstr sid a postinc piece count stride => Sys2Proof.Machine.execXstr sid a postinc piece count stride s
  | .emit sid last => Sys2Proof.Machine.execEmit sid last s
  | .due sid due pace => Sys2Proof.Machine.execDue sid due pace s
  | .endStream sid => Sys2Proof.Machine.execEndStream sid s
  | .transferRetire sid => Sys2Proof.Machine.execTransferRetire sid s
  | .taskCommit tag bad => Sys2Proof.Machine.execTaskCommit tag bad s
  | .handleArrive d lift idx => Sys2Proof.Machine.execHandleArrive d lift idx s
  | .liftFullResume d lift => Sys2Proof.Machine.execLiftFullResume d lift s
  | .poolWaitResume w => Sys2Proof.Machine.execPoolWaitResume w s
  | .bufferReleaseArrive d pool idx => Sys2Proof.Machine.execBufferReleaseArrive d pool idx s
  | .stageStart d st => Sys2Proof.Machine.execStageStart d st s
  | .stageHandover d st => Sys2Proof.Machine.execStageHandover d st s
  | .stageCommitPu d st => Sys2Proof.Machine.execStageCommitPu d st s
  | .abortRequestReceive tag => Sys2Proof.Machine.execAbortRequestReceive tag s
  | .abortOrderReceive d tag => Sys2Proof.Machine.execAbortOrderReceive d tag s
  | .abortReport tag => Sys2Proof.Machine.execAbortReport tag s
  | .taskSubmit m die stage stream params => Sys2Proof.Machine.execTaskSubmit m die stage stream params s
  | .taskAbort m tag => Sys2Proof.Machine.execTaskAbort m tag s
  | .taskQuery m tag => Sys2Proof.Machine.execTaskQuery m tag s
  | .stallClear d => Sys2Proof.Machine.execStallClear d s
  | .add c rd rs1 rs2 => Sys2Proof.Machine.execAdd c rd rs1 rs2 s
  | .sub c rd rs1 rs2 => Sys2Proof.Machine.execSub c rd rs1 rs2 s
  | .and c rd rs1 rs2 => Sys2Proof.Machine.execAnd c rd rs1 rs2 s
  | .or c rd rs1 rs2 => Sys2Proof.Machine.execOr c rd rs1 rs2 s
  | .xor c rd rs1 rs2 => Sys2Proof.Machine.execXor c rd rs1 rs2 s
  | .sll c rd rs1 rs2 => Sys2Proof.Machine.execSll c rd rs1 rs2 s
  | .srl c rd rs1 rs2 => Sys2Proof.Machine.execSrl c rd rs1 rs2 s
  | .sra c rd rs1 rs2 => Sys2Proof.Machine.execSra c rd rs1 rs2 s
  | .slt c rd rs1 rs2 => Sys2Proof.Machine.execSlt c rd rs1 rs2 s
  | .sltu c rd rs1 rs2 => Sys2Proof.Machine.execSltu c rd rs1 rs2 s
  | .min c rd rs1 rs2 => Sys2Proof.Machine.execMin c rd rs1 rs2 s
  | .max c rd rs1 rs2 => Sys2Proof.Machine.execMax c rd rs1 rs2 s
  | .minu c rd rs1 rs2 => Sys2Proof.Machine.execMinu c rd rs1 rs2 s
  | .maxu c rd rs1 rs2 => Sys2Proof.Machine.execMaxu c rd rs1 rs2 s
  | .mul c rd rs1 rs2 => Sys2Proof.Machine.execMul c rd rs1 rs2 s
  | .mulh c rd rs1 rs2 => Sys2Proof.Machine.execMulh c rd rs1 rs2 s
  | .mulhu c rd rs1 rs2 => Sys2Proof.Machine.execMulhu c rd rs1 rs2 s
  | .div c rd rs1 rs2 => Sys2Proof.Machine.execDiv c rd rs1 rs2 s
  | .divu c rd rs1 rs2 => Sys2Proof.Machine.execDivu c rd rs1 rs2 s
  | .rem c rd rs1 rs2 => Sys2Proof.Machine.execRem c rd rs1 rs2 s
  | .remu c rd rs1 rs2 => Sys2Proof.Machine.execRemu c rd rs1 rs2 s
  | .clz c rd rs1 => Sys2Proof.Machine.execClz c rd rs1 s
  | .popc c rd rs1 => Sys2Proof.Machine.execPopc c rd rs1 s
  | .addi c rd rs1 imm => Sys2Proof.Machine.execAddi c rd rs1 imm s
  | .andi c rd rs1 imm => Sys2Proof.Machine.execAndi c rd rs1 imm s
  | .ori c rd rs1 imm => Sys2Proof.Machine.execOri c rd rs1 imm s
  | .xori c rd rs1 imm => Sys2Proof.Machine.execXori c rd rs1 imm s
  | .slli c rd rs1 sh => Sys2Proof.Machine.execSlli c rd rs1 sh s
  | .srli c rd rs1 sh => Sys2Proof.Machine.execSrli c rd rs1 sh s
  | .srai c rd rs1 sh => Sys2Proof.Machine.execSrai c rd rs1 sh s
  | .slti c rd rs1 imm => Sys2Proof.Machine.execSlti c rd rs1 imm s
  | .sltiu c rd rs1 imm => Sys2Proof.Machine.execSltiu c rd rs1 imm s
  | .lui c rd imm => Sys2Proof.Machine.execLui c rd imm s
  | .lw c rd rs1 imm => Sys2Proof.Machine.execLw c rd rs1 imm s
  | .lh c rd rs1 imm => Sys2Proof.Machine.execLh c rd rs1 imm s
  | .lhu c rd rs1 imm => Sys2Proof.Machine.execLhu c rd rs1 imm s
  | .lb c rd rs1 imm => Sys2Proof.Machine.execLb c rd rs1 imm s
  | .lbu c rd rs1 imm => Sys2Proof.Machine.execLbu c rd rs1 imm s
  | .sw c rs2 rs1 imm => Sys2Proof.Machine.execSw c rs2 rs1 imm s
  | .sh c rs2 rs1 imm => Sys2Proof.Machine.execSh c rs2 rs1 imm s
  | .sb c rs2 rs1 imm => Sys2Proof.Machine.execSb c rs2 rs1 imm s
  | .amoadd c rd rs1 rs2 => Sys2Proof.Machine.execAmoadd c rd rs1 rs2 s
  | .amoswap c rd rs1 rs2 => Sys2Proof.Machine.execAmoswap c rd rs1 rs2 s
  | .amocas c rd rs1 rs2 => Sys2Proof.Machine.execAmocas c rd rs1 rs2 s
  | .amomin c rd rs1 rs2 => Sys2Proof.Machine.execAmomin c rd rs1 rs2 s
  | .amomax c rd rs1 rs2 => Sys2Proof.Machine.execAmomax c rd rs1 rs2 s
  | .amominu c rd rs1 rs2 => Sys2Proof.Machine.execAmominu c rd rs1 rs2 s
  | .amomaxu c rd rs1 rs2 => Sys2Proof.Machine.execAmomaxu c rd rs1 rs2 s
  | .beq c rs1 rs2 off => Sys2Proof.Machine.execBeq c rs1 rs2 off s
  | .bne c rs1 rs2 off => Sys2Proof.Machine.execBne c rs1 rs2 off s
  | .blt c rs1 rs2 off => Sys2Proof.Machine.execBlt c rs1 rs2 off s
  | .bge c rs1 rs2 off => Sys2Proof.Machine.execBge c rs1 rs2 off s
  | .bltu c rs1 rs2 off => Sys2Proof.Machine.execBltu c rs1 rs2 off s
  | .bgeu c rs1 rs2 off => Sys2Proof.Machine.execBgeu c rs1 rs2 off s
  | .jal c rd imm => Sys2Proof.Machine.execJal c rd imm s
  | .jalr c rd rs1 imm => Sys2Proof.Machine.execJalr c rd rs1 imm s
  | .fadd c rd rs1 rs2 => Sys2Proof.Machine.execFadd c rd rs1 rs2 s
  | .fsub c rd rs1 rs2 => Sys2Proof.Machine.execFsub c rd rs1 rs2 s
  | .fmul c rd rs1 rs2 => Sys2Proof.Machine.execFmul c rd rs1 rs2 s
  | .fmin c rd rs1 rs2 => Sys2Proof.Machine.execFmin c rd rs1 rs2 s
  | .fmax c rd rs1 rs2 => Sys2Proof.Machine.execFmax c rd rs1 rs2 s
  | .feq c rd rs1 rs2 => Sys2Proof.Machine.execFeq c rd rs1 rs2 s
  | .flt c rd rs1 rs2 => Sys2Proof.Machine.execFlt c rd rs1 rs2 s
  | .fle c rd rs1 rs2 => Sys2Proof.Machine.execFle c rd rs1 rs2 s
  | .fsgnj c rd rs1 rs2 => Sys2Proof.Machine.execFsgnj c rd rs1 rs2 s
  | .fsgnjn c rd rs1 rs2 => Sys2Proof.Machine.execFsgnjn c rd rs1 rs2 s
  | .fsgnjx c rd rs1 rs2 => Sys2Proof.Machine.execFsgnjx c rd rs1 rs2 s
  | .fcvtSW c rd rs1 => Sys2Proof.Machine.execFcvtSW c rd rs1 s
  | .fcvtSWu c rd rs1 => Sys2Proof.Machine.execFcvtSWu c rd rs1 s
  | .fcvtWS c rd rs1 => Sys2Proof.Machine.execFcvtWS c rd rs1 s
  | .fcvtWuS c rd rs1 => Sys2Proof.Machine.execFcvtWuS c rd rs1 s
  | .fclass c rd rs1 => Sys2Proof.Machine.execFclass c rd rs1 s
  | .fmadd c rd rs1 rs2 rs3 => Sys2Proof.Machine.execFmadd c rd rs1 rs2 rs3 s
  | .fmsub c rd rs1 rs2 rs3 => Sys2Proof.Machine.execFmsub c rd rs1 rs2 rs3 s
  | .fnmadd c rd rs1 rs2 rs3 => Sys2Proof.Machine.execFnmadd c rd rs1 rs2 rs3 s
  | .fnmsub c rd rs1 rs2 rs3 => Sys2Proof.Machine.execFnmsub c rd rs1 rs2 rs3 s
  | .badd2 c rd rs1 rs2 => Sys2Proof.Machine.execBadd2 c rd rs1 rs2 s
  | .bmul2 c rd rs1 rs2 => Sys2Proof.Machine.execBmul2 c rd rs1 rs2 s
  | .bmax2 c rd rs1 rs2 => Sys2Proof.Machine.execBmax2 c rd rs1 rs2 s
  | .bmin2 c rd rs1 rs2 => Sys2Proof.Machine.execBmin2 c rd rs1 rs2 s
  | .bdot2 c rd rs1 rs2 => Sys2Proof.Machine.execBdot2 c rd rs1 rs2 s
  | .bpack c rd rs1 rs2 => Sys2Proof.Machine.execBpack c rd rs1 rs2 s
  | .blo c rd rs1 => Sys2Proof.Machine.execBlo c rd rs1 s
  | .bhi c rd rs1 => Sys2Proof.Machine.execBhi c rd rs1 s
  | .exp2 c rd rs1 => Sys2Proof.Machine.execExp2 c rd rs1 s
  | .log2 c rd rs1 => Sys2Proof.Machine.execLog2 c rd rs1 s
  | .rcp c rd rs1 => Sys2Proof.Machine.execRcp c rd rs1 s
  | .rsqrt c rd rs1 => Sys2Proof.Machine.execRsqrt c rd rs1 s
  | .sqrt c rd rs1 => Sys2Proof.Machine.execSqrt c rd rs1 s
  | .tanh c rd rs1 => Sys2Proof.Machine.execTanh c rd rs1 s
  | .sigmoid c rd rs1 => Sys2Proof.Machine.execSigmoid c rd rs1 s
  | .hmix c rd rs1 rs2 => Sys2Proof.Machine.execHmix c rd rs1 rs2 s
  | .crcw c rd rs1 rs2 => Sys2Proof.Machine.execCrcw c rd rs1 rs2 s
  | .crcb c rd rs1 rs2 => Sys2Proof.Machine.execCrcb c rd rs1 rs2 s
  | .gen c rd rs1 rs2 stream => Sys2Proof.Machine.execGen c rd rs1 rs2 stream s
  | .rdsr c rd sr => Sys2Proof.Machine.execRdsr c rd sr s
  | .wrsr c rs1 hi => Sys2Proof.Machine.execWrsr c rs1 hi s
  | .sarm c rd rs1 rs2 ctx => Sys2Proof.Machine.execSarm c rd rs1 rs2 ctx s
  | .swait c rd ctx => Sys2Proof.Machine.execSwait c rd ctx s
  | .balloc c rs1 rs2 => Sys2Proof.Machine.execBalloc c rs1 rs2 s
  | .brel c rs1 => Sys2Proof.Machine.execBrel c rs1 s
  | .lpush c rs1 rs2 => Sys2Proof.Machine.execLpush c rs1 rs2 s
  | .hloc c rd rs1 => Sys2Proof.Machine.execHloc c rd rs1 s
  | .ssig c rd rs1 rs2 => Sys2Proof.Machine.execSsig c rd rs1 rs2 s
  | .swge c rd rs1 rs2 => Sys2Proof.Machine.execSwge c rd rs1 rs2 s
  | .srst c rd rs1 => Sys2Proof.Machine.execSrst c rd rs1 s
  | .ask c rd rs1 => Sys2Proof.Machine.execAsk c rd rs1 s
  | .tnew c rd rs1 => Sys2Proof.Machine.execTnew c rd rs1 s
  | .trap c rs1 => Sys2Proof.Machine.execTrap c rs1 s
  | .halt c => Sys2Proof.Machine.execHalt c s
  | .cellResidueFail c => Sys2Proof.Machine.execCellResidueFail c s
  | .cellStoreEcc c => Sys2Proof.Machine.execCellStoreEcc c s
  | .clusterFault d p => Sys2Proof.Machine.execClusterFault d p s
  | .gatePop d p => Sys2Proof.Machine.execGatePop d p s
  | .flowEntryGrant d => Sys2Proof.Machine.execFlowEntryGrant d s
  | .delayRelease d p => Sys2Proof.Machine.execDelayRelease d p s
  | .gateDispatch d p => Sys2Proof.Machine.execGateDispatch d p s
  | .syncApply d idx => Sys2Proof.Machine.execSyncApply d idx s
  | .syncCmdSignal d idx amount => Sys2Proof.Machine.execSyncCmdSignal d idx amount s
  | .syncCmdReset d idx amount => Sys2Proof.Machine.execSyncCmdReset d idx amount s
  | .ingestJobStart d k => Sys2Proof.Machine.execIngestJobStart d k s
  | .ingestJobEnd d k => Sys2Proof.Machine.execIngestJobEnd d k s
  | .packHandleRead d k => Sys2Proof.Machine.execPackHandleRead d k s
  | .batchCloseBudget d k batch => Sys2Proof.Machine.execBatchCloseBudget d k batch s
  | .packEmit d k => Sys2Proof.Machine.execPackEmit d k s
  | .packFlush d k => Sys2Proof.Machine.execPackFlush d k s
  | .hashJobStart d k => Sys2Proof.Machine.execHashJobStart d k s
  | .hashJobEnd d k => Sys2Proof.Machine.execHashJobEnd d k s
  | .matchSearchJob d k ecc => Sys2Proof.Machine.execMatchSearchJob d k ecc s
  | .matchUpdateJob d k => Sys2Proof.Machine.execMatchUpdateJob d k s
  | .matchJobEnd d k => Sys2Proof.Machine.execMatchJobEnd d k s
  | .matchCommitApply d k ecc => Sys2Proof.Machine.execMatchCommitApply d k ecc s
  | .matchHostApply m => Sys2Proof.Machine.execMatchHostApply m s
  | .matchHostPair m => Sys2Proof.Machine.execMatchHostPair m s
  | .matchHostRead m => Sys2Proof.Machine.execMatchHostRead m s
  | .selectPiece d k => Sys2Proof.Machine.execSelectPiece d k s
  | .selectJobEnd d k => Sys2Proof.Machine.execSelectJobEnd d k s
  | .gatherLookupJob d k => Sys2Proof.Machine.execGatherLookupJob d k s
  | .gatherGradientJob d k => Sys2Proof.Machine.execGatherGradientJob d k s
  | .gatherJobEnd d k => Sys2Proof.Machine.execGatherJobEnd d k s
  | .applyStart d t => Sys2Proof.Machine.execApplyStart d t s
  | .applyEnd d t => Sys2Proof.Machine.execApplyEnd d t s
  | .migrationCopyEnd d t => Sys2Proof.Machine.execMigrationCopyEnd d t s
  | .roundReplay d t => Sys2Proof.Machine.execRoundReplay d t s
  | .cutOver d t => Sys2Proof.Machine.execCutOver d t s
  | .frameReturn d t area frame => Sys2Proof.Machine.execFrameReturn d t area frame s
  | .embFlush d t action => Sys2Proof.Machine.execEmbFlush d t action s
  | .arrayDense d k ecc => Sys2Proof.Machine.execArrayDense d k ecc s
  | .arrayRouted d k ecc => Sys2Proof.Machine.execArrayRouted d k ecc s
  | .arrayInteract d k ecc => Sys2Proof.Machine.execArrayInteract d k ecc s
  | .arrayAttend d k ecc => Sys2Proof.Machine.execArrayAttend d k ecc s
  | .arrayJobEnd d k => Sys2Proof.Machine.execArrayJobEnd d k s
  | .arrayResidueFail d k => Sys2Proof.Machine.execArrayResidueFail d k s
  | .arraySelftestEnd d k pass => Sys2Proof.Machine.execArraySelftestEnd d k pass s
  | .arraySelftest d mask => Sys2Proof.Machine.execArraySelftest d mask s
  | .portCtrlWrite p v => Sys2Proof.Machine.execPortCtrlWrite p v s
  | .portTrained p delay => Sys2Proof.Machine.execPortTrained p delay s
  | .flitReceive p t flit => Sys2Proof.Machine.execFlitReceive p t flit s
  | .flitAckTimeout p => Sys2Proof.Machine.execFlitAckTimeout p s
  | .portLinkDown p => Sys2Proof.Machine.execPortLinkDown p s
  | .messageForward p residence => Sys2Proof.Machine.execMessageForward p residence s
  | .keepalive p => Sys2Proof.Machine.execKeepalive p s
  | .keepaliveSend => Sys2Proof.Machine.execKeepaliveSend s
  | .memberLost m => Sys2Proof.Machine.execMemberLost m s
  | .cadence p => Sys2Proof.Machine.execCadence p s
  | .syncSignal p => Sys2Proof.Machine.execSyncSignal p s
  | .groupCtrlWrite v => Sys2Proof.Machine.execGroupCtrlWrite v s
  | .groupRouteWrite m v => Sys2Proof.Machine.execGroupRouteWrite m v s
  | .switchVote p => Sys2Proof.Machine.execSwitchVote p s
  | .switchVoteTimeout => Sys2Proof.Machine.execSwitchVoteTimeout s
  | .switchDecision p => Sys2Proof.Machine.execSwitchDecision p s
  | .switchDecisionTimeout => Sys2Proof.Machine.execSwitchDecisionTimeout s
  | .travAlltoall d k => Sys2Proof.Machine.execTravAlltoall d k s
  | .travReduce d k => Sys2Proof.Machine.execTravReduce d k s
  | .travRdmaWrite d k => Sys2Proof.Machine.execTravRdmaWrite d k s
  | .exchData p => Sys2Proof.Machine.execExchData p s
  | .exchReady p => Sys2Proof.Machine.execExchReady p s
  | .exchAbort p => Sys2Proof.Machine.execExchAbort p s
  | .peerWrite p => Sys2Proof.Machine.execPeerWrite p s
  | .peerRead p => Sys2Proof.Machine.execPeerRead p s
  | .peerData p => Sys2Proof.Machine.execPeerData p s
  | .portAddr m payload => Sys2Proof.Machine.execPortAddr m payload s
  | .qpSetup m payload => Sys2Proof.Machine.execQpSetup m payload s
  | .qpDestroy m payload => Sys2Proof.Machine.execQpDestroy m payload s
  | .mrSet m payload => Sys2Proof.Machine.execMrSet m payload s
  | .mrClear m payload => Sys2Proof.Machine.execMrClear m payload s
  | .feedBind m payload => Sys2Proof.Machine.execFeedBind m payload s
  | .feedUnbind m payload => Sys2Proof.Machine.execFeedUnbind m payload s
  | .roceWriteIn pkt => Sys2Proof.Machine.execRoceWriteIn pkt s
  | .roceSendIn pkt => Sys2Proof.Machine.execRoceSendIn pkt s
  | .roceAckIn port qpn psn syndrome icrc => Sys2Proof.Machine.execRoceAckIn port qpn psn syndrome icrc s
  | .roceCnpIn port qpn icrc => Sys2Proof.Machine.execRoceCnpIn port qpn icrc s
  | .roceRateRestore q => Sys2Proof.Machine.execRoceRateRestore q s
  | .roceRetryTimeout q => Sys2Proof.Machine.execRoceRetryTimeout q s
  | .feedFrame g => Sys2Proof.Machine.execFeedFrame g s
  | .ptpSyncIn p m => Sys2Proof.Machine.execPtpSyncIn p m s
  | .ptpFollowUpIn p m => Sys2Proof.Machine.execPtpFollowUpIn p m s
  | .ptpDelayRespIn p m => Sys2Proof.Machine.execPtpDelayRespIn p m s
  | .ptpSyncTimeout p => Sys2Proof.Machine.execPtpSyncTimeout p s
  | .groomerPatrol t found last => Sys2Proof.Machine.execGroomerPatrol t found last s
  | .groomCtrlWrite v => Sys2Proof.Machine.execGroomCtrlWrite v s
  | .vmCtrlWrite v => Sys2Proof.Machine.execVmCtrlWrite v s
  | .vmRootWrite v => Sys2Proof.Machine.execVmRootWrite v s
  | .vmInval v => Sys2Proof.Machine.execVmInval v s
  | .vmInvalDone => Sys2Proof.Machine.execVmInvalDone s
  | .atsCompletion page target read write => Sys2Proof.Machine.execAtsCompletion page target read write s
  | .atsInvalidate itag addr size => Sys2Proof.Machine.execAtsInvalidate itag addr size s
  | .hostReadCompletion id ok data => Sys2Proof.Machine.execHostReadCompletion id ok data s
  | .memoryTrainingEnd stk bonded dimms ddr => Sys2Proof.Machine.execMemoryTrainingEnd stk bonded dimms ddr s
  | .bar4Read off len => Sys2Proof.Machine.execBar4Read off len s
  | .bar4Write off data => Sys2Proof.Machine.execBar4Write off data s
  | .bar4BaseWrite v => Sys2Proof.Machine.execBar4BaseWrite v s
  | .bar4Resize exponent => Sys2Proof.Machine.execBar4Resize exponent s
  | .bar2InvalidAccess off width access => Sys2Proof.Machine.execBar2InvalidAccess off width access s
  | .h2dDoorbell posted slots => Sys2Proof.Machine.execH2dDoorbell posted slots s
  | .messageConsume => Sys2Proof.Machine.execMessageConsume s
  | .attach m driver minorMax => Sys2Proof.Machine.execAttach m driver minorMax s
  | .detach m => Sys2Proof.Machine.execDetach m s
  | .ping m data => Sys2Proof.Machine.execPing m data s
  | .d2hAck v => Sys2Proof.Machine.execD2hAck v s
  | .heartbeat v => Sys2Proof.Machine.execHeartbeat v s
  | .wdogCtrlWrite v => Sys2Proof.Machine.execWdogCtrlWrite v s
  | .wdogExpire => Sys2Proof.Machine.execWdogExpire s
  | .mbDiscard => Sys2Proof.Machine.execMbDiscard s
  | .irqMapWrite v value => Sys2Proof.Machine.execIrqMapWrite v value s
  | .msixCoalesceTimer => Sys2Proof.Machine.execMsixCoalesceTimer s
  | .msixUnmask v => Sys2Proof.Machine.execMsixUnmask v s
  | .coldReset => Sys2Proof.Machine.execColdReset s
  | .deviceReset v => Sys2Proof.Machine.execDeviceReset v s
  | .deviceResetDone pass => Sys2Proof.Machine.execDeviceResetDone pass s
  | .hotReset => Sys2Proof.Machine.execHotReset s
  | .flr => Sys2Proof.Machine.execFlr s
  | .d3hotEntry => Sys2Proof.Machine.execD3hotEntry s
  | .errqEntry q f => Sys2Proof.Machine.execErrqEntry q f s
  | .errqHandleDone q => Sys2Proof.Machine.execErrqHandleDone q s
  | .stationDatapathFault d kind k => Sys2Proof.Machine.execStationDatapathFault d kind k s
  | .controlFault q place => Sys2Proof.Machine.execControlFault q place s
  | .fmapAdd => Sys2Proof.Machine.execFmapAdd s
  | .fmapRemove => Sys2Proof.Machine.execFmapRemove s
  | .recorderAccept => Sys2Proof.Machine.execRecorderAccept s
  | .evrRelease v => Sys2Proof.Machine.execEvrRelease v s
  | .fatalFlashWrite => Sys2Proof.Machine.execFatalFlashWrite s
  | .mgmtWatchdogExpire core => Sys2Proof.Machine.execMgmtWatchdogExpire core s
  | .lockstepMismatch core => Sys2Proof.Machine.execLockstepMismatch core s
  | .firmwarePanic core => Sys2Proof.Machine.execFirmwarePanic core s
  | .crashDumpDone => Sys2Proof.Machine.execCrashDumpDone s
  | .crashInfo m => Sys2Proof.Machine.execCrashInfo m s
  | .crashRead m slot dst => Sys2Proof.Machine.execCrashRead m slot dst s
  | .crashRelease m slot => Sys2Proof.Machine.execCrashRelease m slot s
  | .fatalLogRead m dst => Sys2Proof.Machine.execFatalLogRead m dst s
  | .railSample mv da => Sys2Proof.Machine.execRailSample mv da s
  | .tempSample temps => Sys2Proof.Machine.execTempSample temps s
  | .hbmTempReport stack temp => Sys2Proof.Machine.execHbmTempReport stack temp s
  | .governorPeriod => Sys2Proof.Machine.execGovernorPeriod s
  | .clockAdjust => Sys2Proof.Machine.execClockAdjust s
  | .voltageSettled d => Sys2Proof.Machine.execVoltageSettled d s
  | .vrSetpointTimeout f => Sys2Proof.Machine.execVrSetpointTimeout f s
  | .vrAlert asserted status => Sys2Proof.Machine.execVrAlert asserted status s
  | .pwrCapWrite v => Sys2Proof.Machine.execPwrCapWrite v s
  | .freqCapWrite v => Sys2Proof.Machine.execFreqCapWrite v s
  | .telemetryRefresh => Sys2Proof.Machine.execTelemetryRefresh s
  | .setEndpointId eid pec => Sys2Proof.Machine.execSetEndpointId eid pec s
  | .getEndpointId pec => Sys2Proof.Machine.execGetEndpointId pec s
  | .getMctpVersionSupport mtype pec => Sys2Proof.Machine.execGetMctpVersionSupport mtype pec s
  | .getMessageTypeSupport pec => Sys2Proof.Machine.execGetMessageTypeSupport pec s
  | .getPdr id pec => Sys2Proof.Machine.execGetPdr id pec s
  | .getSensorReading id pec => Sys2Proof.Machine.execGetSensorReading id pec s
  | .getStateSensorReadings id pec => Sys2Proof.Machine.execGetStateSensorReadings id pec s
  | .setNumericEffecterValue id value pec => Sys2Proof.Machine.execSetNumericEffecterValue id value pec s
  | .getNumericEffecterValue id pec => Sys2Proof.Machine.execGetNumericEffecterValue id pec s
  | .fwStage m payload => Sys2Proof.Machine.execFwStage m payload s
  | .fwActivate m payload => Sys2Proof.Machine.execFwActivate m payload s
  | .fwCancel m payload => Sys2Proof.Machine.execFwCancel m payload s
  | .fwCommit m payload => Sys2Proof.Machine.execFwCommit m payload s
  | .fwInfo m payload => Sys2Proof.Machine.execFwInfo m payload s
  | .fwActivationApply => Sys2Proof.Machine.execFwActivationApply s
  | .fwActivationTimeout => Sys2Proof.Machine.execFwActivationTimeout s
  | .fwRestartDone => Sys2Proof.Machine.execFwRestartDone s
  | .spdmMessage m payload => Sys2Proof.Machine.execSpdmMessage m payload s
  | .secNonce m payload => Sys2Proof.Machine.execSecNonce m payload s
  | .nonceExpire => Sys2Proof.Machine.execNonceExpire s
  | .ownerProvision m payload => Sys2Proof.Machine.execOwnerProvision m payload s
  | .ownerRevoke m payload => Sys2Proof.Machine.execOwnerRevoke m payload s
  | .debugUnlock m payload => Sys2Proof.Machine.execDebugUnlock m payload s
  | .getVersion req => Sys2Proof.Machine.execGetVersion req s
  | .getCapabilities req => Sys2Proof.Machine.execGetCapabilities req s
  | .negotiateAlgorithms req => Sys2Proof.Machine.execNegotiateAlgorithms req s
  | .getDigests req => Sys2Proof.Machine.execGetDigests req s
  | .getCertificate req => Sys2Proof.Machine.execGetCertificate req s
  | .challenge req => Sys2Proof.Machine.execChallenge req s
  | .getMeasurements req => Sys2Proof.Machine.execGetMeasurements req s
  | .powerUp boot smb x16 => Sys2Proof.Machine.execPowerUp boot smb x16 s
  | .powerLoss => Sys2Proof.Machine.execPowerLoss s
  | .extest pins shift => Sys2Proof.Machine.execExtest pins shift s
  | .samplePreload pins shift => Sys2Proof.Machine.execSamplePreload pins shift s
  | .idcode shift => Sys2Proof.Machine.execIdcode shift s
  | .highz shift => Sys2Proof.Machine.execHighz shift s
  | .clamp shift => Sys2Proof.Machine.execClamp shift s
  | .extestPulse pins shift => Sys2Proof.Machine.execExtestPulse pins shift s
  | .extestTrain pins shift => Sys2Proof.Machine.execExtestTrain pins shift s
  | .bypass shift => Sys2Proof.Machine.execBypass shift s
  | .perstDeassertion boot smb x16 => Sys2Proof.Machine.execPerstDeassertion boot smb x16 s
  | .firmwareStart vmode => Sys2Proof.Machine.execFirmwareStart vmode s
  | .deviceReady fails => Sys2Proof.Machine.execDeviceReady fails s
  | .fwStageDone ok => Sys2Proof.Machine.execFwStageDone ok s
  | .configurationSpaceWrite ctl msix ats pri => Sys2Proof.Machine.execConfigurationSpaceWrite ctl msix ats pri s
  | .pageRequestResponse group => Sys2Proof.Machine.execPageRequestResponse group s
  | .doeDiscovery index => Sys2Proof.Machine.execDoeDiscovery index s
  | .testLogicReset => Sys2Proof.Machine.execTestLogicReset s
  | .privateTapInstruction code act shift => Sys2Proof.Machine.execPrivateTapInstruction code act shift s

end Sys2Proof.Machine
end

