-- ==== Sys2Proof/Machine/Step.lean ====
section
/-!
DEFINITION. One step of the machine: the command at the front of the queue, or a tick of the timebase.
-/

namespace Sys2Proof.Machine

/-- A command joins the end of the queue. -/
def State.send (s : State) (c : Instr) : State := { s with pending := s.pending ++ [c] }

/-- A command is put at the front of the queue. -/
def State.front (s : State) (c : Instr) : State := { s with pending := c :: s.pending }

/-- With no command waiting, what closes at the end of a cycle closes (R274), the internal timebase (R39) moves on by 1 ns, ports that have nothing else to send
send IDLE flits (R440), and the step that the TAP gave a station is over
(DESIGN CHOICE, log 9). -/
def State.tick (s : State) : State := { s with dev := (s.dev.packTick.stepsOver.at (s.dev.now + 1)).idleFlits }

/-- One step (log 9). -/
def step (s : State) : Host.Outcome State Fault Refusal :=
  match s.pending with
  | [] => .next s.tick
  | c :: rest => exec c { s with pending := rest }

/-- The command a word spells, at the front of the queue; the state unchanged where the word spells none. -/
def State.withFetchWord (s : State) (nbits w : Nat) : State :=
  match decodeTableWord nbits w with
  | some c => s.front c
  | none => s

end Sys2Proof.Machine
end

