-- ==== Sys2Proof/Safety.lean ====
section
/-!
DEFINITION. The terms claims use: a command that completes, the canonical form of the register file and of memory, what a command leaves
unchanged.
-/

namespace Sys2Proof.Machine

/-- The register file is in canonical form: offsets rise, no entry equal to its register's reset value. -/
abbrev Device.regsWf (d : Device) : Prop := Map.rising d.regs = true ∧ ∀ e ∈ d.regs, e.2 ≠ regReset e.1

/-- Memory and the register file are in canonical form. -/
abbrev Device.canonical (d : Device) : Prop := Memory.wf d.mem = true ∧ d.regsWf

/-- A command completes: from every state whose device meets `pre`, it answers a next state with the same queue, whose device is
related to the device before as `post` says. -/
def Completes (c : Instr) (pre : Device → Prop) (post : Device → Device → Prop) : Prop :=
  ∀ s : State, pre s.dev → ∃ t, exec c s = .next t ∧ t.pending = s.pending ∧ post s.dev t.dev

/-- The device runs: it has power, PERST# is high and the schedule has started. -/
abbrev Device.runs (d : Device) : Prop := d.inReset = false

/-- Registers other than those at the offsets listed read as before. -/
abbrev Device.sameRegsBut (d d' : Device) (offs : List Nat) : Prop := ∀ j, j ∉ offs → d'.reg j = d.reg j

/-- Every byte of device memory reads as before, and the same granules are poisoned. -/
abbrev Device.sameMem (d d' : Device) : Prop := (∀ a, memRead d'.mem a = memRead d.mem a) ∧ d'.poison = d.poison

/-- A response to a message can be written at once: a ring position is free, and the message has an H-seq (R520, R521). -/
abbrev Device.canAnswer (d : Device) (m : MsgRef) : Prop := m.hseq ≠ orphan ∧ d.d2hFree = true ∧ d.regsWf

/-- The response to a message stands at the next ring position, with its status and payload; the position and the D-seq have moved on by
one and no other register by the response (R520, R521). -/
abbrev Device.answered (d d' : Device) (m : MsgRef) (opcode status : Nat) (payload : List Byte) : Prop :=
  d'.host.d2h.get? (d.fld Reg.MB_D2H_POS ⟨0, 32⟩ % 16384) =
    some { opcode := opcode, async := false, hseq := m.hseq, dseq := d.fld Reg.MB_DSEQ_NEXT ⟨0, 32⟩, pos := d.fld Reg.MB_D2H_POS ⟨0, 32⟩
           status := status, cookie := m.cookie, step := d.stepNum, payload := payload } ∧
  d'.fld Reg.MB_D2H_POS ⟨0, 32⟩ = (d.fld Reg.MB_D2H_POS ⟨0, 32⟩ + 1) % 2 ^ 32 ∧
  d'.fld Reg.MB_DSEQ_NEXT ⟨0, 32⟩ = (d.fld Reg.MB_DSEQ_NEXT ⟨0, 32⟩ + 1) % 2 ^ 32

/-- The next message of a type whose turn has come on a port (R443). -/
abbrev Device.nextMessage (d : Device) (p mtype : Nat) : Option RxMsg := (d.takeRx p mtype).map (·.1)

/-- An unsolicited message can be written at once (R522). -/
abbrev Device.canAnnounce (d : Device) : Prop := d.d2hFree = true ∧ d.host.holdQ = [] ∧ d.regsWf

/-- An unsolicited message stands at the next ring position (R521, R522). -/
abbrev Device.announced (d d' : Device) (opcode : Nat) (payload : List Byte) : Prop :=
  (d'.host.d2h.get? (d.fld Reg.MB_D2H_POS ⟨0, 32⟩ % 16384)).map (fun x => (x.opcode, x.async, x.payload)) = some (opcode, true, payload) ∧
  d'.fld Reg.MB_D2H_POS ⟨0, 32⟩ = (d.fld Reg.MB_D2H_POS ⟨0, 32⟩ + 1) % 2 ^ 32

/-- A Piste stream of the plan that may execute an instruction (R129 to R132): its record and its state. -/
abbrev Device.pisteReady (d : Device) (s : StreamId) (r : StreamRec) : Prop :=
  d.streamRec (gsid s.die.val s.sid.val) = some r ∧ r.affine = false ∧ (d.stream (gsid s.die.val s.sid.val)).active = true ∧
  d.dieContained s.die.val = false

/-- One stream has a new state, and nothing else of the device has changed. -/
abbrev Device.streamOnly (d d' : Device) (s : StreamId) (x : Stream) : Prop :=
  d' = { d with str := { d.str with streams := d'.str.streams } } ∧ d'.stream (gsid s.die.val s.sid.val) = x ∧
  ∀ j, j ≠ gsid s.die.val s.sid.val → d'.stream j = d.stream j

/-- No stream of the port of a stream has a transfer still to issue (R140). -/
abbrev Device.portIdle (d : Device) (g : Nat) : Prop := ∀ h ∈ portOf g, (d.stream h).issueQ = []

/-- The cell runs and is not blocked: it executes the command's instruction (R169, R190). -/
abbrev Device.cellReady (d : Device) (c : CellId) : Prop :=
  (d.cell c.gid).blocked = none ∧ (d.cell c.gid).state = .running ∧ (d.cell c.gid).regs.length = 32 ∧ d.mgmt.gated = false

/-- One cell has changed, and nothing else of the device. -/
abbrev Device.oneCell (d d' : Device) (g : Nat) : Prop := d' = { d with cells := d'.cells } ∧ ∀ j, j ≠ g → d'.cell j = d.cell j

/-- The registers of a cell after a write of one of them; w0 discards it (R169). -/
abbrev Cell.wroteReg (x x' : Cell) (rd : Nat) (v : Word) : Prop := ∀ r < 32, x'.w r = if r = rd ∧ r ≠ 0 then v else x.w r

/-- A cell has written one register and goes on with its next instruction; nothing else has changed. -/
abbrev Device.wrote (d d' : Device) (c : CellId) (rd : Reg) (v : Word) : Prop :=
  d.oneCell d' c.gid ∧ (d.cell c.gid).wroteReg (d'.cell c.gid) rd.val v ∧
  d'.cell c.gid = { d.cell c.gid with regs := (d'.cell c.gid).regs, pc := (d.cell c.gid).pc + 4 }

/-- A cell took an exception and was restarted (R194, R195): EXC and the die's registers hold the code and the PC, the count moves, the
cell's registers, TAG and GKEY are clear, its private store is as it was, and it goes on at ENTRY. -/
abbrev Device.excepted (d d' : Device) (c : CellId) (code pc : Nat) : Prop :=
  (d'.cell c.gid).exc = code + 2 ^ 16 * (pc / 4 % 4096) ∧
  d'.reg (Reg.CELL_LAST_EXC c.die.val) = BitVec.ofNat 64 (code + 2 ^ 16 * c.gid + 2 ^ 36 * (pc / 4 % 4096)) ∧
  d'.reg (Reg.CELL_LAST_EXC_TAG c.die.val) = BitVec.ofNat 64 (d.cell c.gid).tag ∧
  d'.fld (Reg.CELL_EXC_COUNT c.die.val) ⟨0, 64⟩ = satAdd 64 (d.fld (Reg.CELL_EXC_COUNT c.die.val) ⟨0, 64⟩) 1 ∧
  (d'.cell c.gid).regs = List.replicate 32 0 ∧ (d'.cell c.gid).tag = 0 ∧ (d'.cell c.gid).gkey = 0 ∧ (d'.cell c.gid).item = none ∧
  (d'.cell c.gid).store = (d.cell c.gid).store ∧ (d'.cell c.gid).state = .running ∧
  (d'.cell c.gid).pc = BitVec.ofNat 32 (4 * ((d.placement c.gid).map (·.entry)).getD 0)

/-- The item a Gate dispatches next: the head of its lowest level (R212). -/
abbrev Device.nextItem (d : Device) (k : Nat) : Option Item := (List.range 8).findSome? (fun l => (d.gate k).ready.find? (fun i => i.prio = l))

/-- The lowest running cell of a cluster that is blocked in ASK, with its register and record address (R213). -/
abbrev Device.askingCell (d : Device) (k : Nat) : Option (Nat × Cell × Nat × Nat) :=
  (d.clusterCells k).findSome? (fun e =>
    match e.2.blocked with
    | some (.ask rd a) => if e.2.state = .running then some (e.1, e.2, rd, a) else none
    | _ => none)

/-- A counter has moved by `n`, saturating (R16). -/
abbrev Device.counted (d d' : Device) (r n : Nat) : Prop := d'.fld r ⟨0, 64⟩ = satAdd 64 (d.fld r ⟨0, 64⟩) n

/-- A stream pushed the handle. -/
def Sender.isStream (p : Sender) : Bool := match p with | .stream _ => true | _ => false

/-- A station instance of the active plan that has no job and is not stopped, and the handle at the head of a Lift, of a task that goes
on (R233). -/
abbrev Device.oneHead (d : Device) (die kind k lk : Nat) (b : List Byte) (e : LiftEntry) (rest : List LiftEntry) : Prop :=
  d.stationCfg die kind k = some b ∧ d.stationStopped die kind k = false ∧ d.job (stKey die kind k) = none ∧ d.liftQ lk = e :: rest ∧
  e.src.isStream = false ∧ d.taskGone e.tag = false

/-- The handle has been popped and is the input of the instance's job; nothing else has changed. -/
abbrev Device.began (d d' : Device) (key lk : Nat) (e : LiftEntry) (rest : List LiftEntry) : Prop :=
  (d'.job key).map (fun j => (j.tag, j.inputs)) = some (e.tag, [e]) ∧ d'.liftQ lk = rest ∧
  (∀ n, n ≠ key → d'.job n = d.job n) ∧ d' = { d with stn := d'.stn, str := { d.str with lifts := d'.str.lifts } }

/-- A task that was open is asked to abort with a code (R160). -/
abbrev Device.abortAsked (d d' : Device) (tag code : Nat) : Prop :=
  ∀ k t, d.findTask tag = some (k, t) → t.state = .open → t.aborting = false →
    d'.str.tasks.get? k = some { t with aborting := true, code := code } ∧ d'.str.abortReqs = d.str.abortReqs ++ [(tag, code)]

/-- A job failed (R234): the instance has none, the failure is counted and recorded, its task is asked to abort, memory is as before. -/
abbrev Device.jobFailed (d d' : Device) (key failReg lastReg code tag : Nat) : Prop :=
  d'.job key = none ∧ d.counted d' failReg 1 ∧ d'.reg lastReg = BitVec.ofNat 64 (code + 2 ^ 16 * tag) ∧ d.abortAsked d' tag code ∧
  d'.mem = d.mem ∧ d.sameRegsBut d' [failReg, lastReg]

/-- A job under way of an instance that is not stopped, with no output buffer taken or pushed yet (R234). -/
abbrev Device.working (d : Device) (die kind k : Nat) (b : List Byte) (j : Job) : Prop :=
  d.stationCfg die kind k = some b ∧ d.stationStopped die kind k = false ∧ d.job (stKey die kind k) = some j ∧
  j.pushed = false ∧ j.held = [] ∧ Map.rising d.stn.jobs = true ∧ Memory.wf d.mem = true ∧ d.regsWf

/-- A pool holds one buffer and a Lift has room (R234). -/
abbrev Device.canPush (d : Device) (pk lk a : Nat) (rest : List Nat) : Prop :=
  d.str.pools.getD pk [] = a :: rest ∧ d.liftLoad lk < 256 ∧ d.str.pushWait = []

/-- The bytes of a range are those given, and every other byte of memory is as before. -/
abbrev Device.stored (d d' : Device) (a : Nat) (x : List Byte) : Prop :=
  (∀ i, i < x.length → memRead d'.mem (a + i) = x.getD i 0) ∧ ∀ y, y < a ∨ a + x.length ≤ y → memRead d'.mem y = memRead d.mem y

/-- A job ended with one output (R234): the instance has no job, the buffer holds the output and no other byte of memory has changed, and
its handle is on its way to the Lift with the job's tag. -/
abbrev Device.pushedOne (d d' : Device) (key pk lk tag : Nat) (last : Bool) (x : List Byte) (a : Nat) (rest : List Nat) : Prop :=
  d'.job key = none ∧ d.stored d' a x ∧ d'.str.pools.getD pk [] = rest ∧
  .push lk { h := { addr := a, len := x.length, last := last, late := false, pool := pk % 1024 }, tag := tag, src := .station key } ∈ d'.str.flight ∧
  d'.str.lifts = d.str.lifts

/-- An Array of the active plan that works: its die is not contained, it is not fenced, in self-test or removed (R429). -/
abbrev Device.arrReady (d : Device) (die k : Nat) (cfg : List Byte) : Prop :=
  d.stationCfg die 0 k = some cfg ∧ d.mgmt.gated = false ∧ d.tapStopped die 0 k = false ∧ d.dieContained die = false ∧ d.arrSelftest die k = false ∧ d.arrFenced die k = false ∧
  d.fault.idleUnits.any (fun e => e.coversStation die 0 k) = false

/-- An Array's job under way whose task goes on: the job, what it holds, its command. -/
abbrev Device.arrWorks (d : Device) (die k : Nat) (j : Job) (a : ArrJob) (c : ArrCmd) : Prop :=
  d.job (arrKey die k) = some j ∧ d.arrJob (arrKey die k) = some a ∧ arrCmd a.cmd = c ∧ j.mode = c.op ∧ a.done = false ∧ d.taskGone j.tag = false

/-- Every flit of a message waits on a port or has been sent on it and is not yet acknowledged (R439, R442). -/
abbrev Device.messageSent (d' : Device) (q : Nat) (m : LinkMsg) (die : Nat) : Prop :=
  ∀ f ∈ linkFlits m die, f ∈ (d'.portUnit q).queue ∨ f ∈ (d'.portUnit q).retry.map (fun r => r.2.2)

/-- The registers a response moves. -/
def answerRegs : List Nat := [Reg.MB_D2H_POS, Reg.MB_DSEQ_NEXT]

end Sys2Proof.Machine
end

