-- ==== Sys2Proof/Certificates/Slice0/Obligations.lean ====
section
/-!
DEFINITION. The statements for the provers.
-/

open Sys2Proof Sys2Proof.Machine

/-- A step runs the command at the front of the queue. R39, R440, R519. -/
def Obligations.StepRunsTheFrontCommand : Prop :=
  (∀ (c : Instr) (s : State), step (s.front c) = exec c s) ∧
  (∀ s : State, s.pending = [] → ∃ t, step s = .next t ∧ t.pending = [] ∧
    ((∀ e ∈ s.dev.pack, ∀ b ∈ e.2.openB, b.full = none) →
      let m := { s.dev.mgmt with tap := { s.dev.mgmt.tap with stationSteps := [] } }
      t.dev = { s.dev with now := s.dev.now + 1, mgmt := m, link := { s.dev.link with ports := t.dev.link.ports }, out := t.dev.out } ∧
      ((∀ p < 8, s.dev.portAlanauri p = true → s.dev.portUp p = true → s.dev.now + 1 < (s.dev.portUnit p).lastTx + 64) →
        t.dev = { s.dev with now := s.dev.now + 1, mgmt := m })))

/-- No command stops the machine, and a command leaves the queue alone. R506, R9, R17. -/
def Obligations.EveryCommandCompletes : Prop :=
  ∀ (c : Instr) (s : State), ∃ t, exec c s = .next t ∧ t.pending = s.pending

/-- A queue of commands is served whole, in order, and no command stops the machine. R506, R519, R17. -/
def Obligations.QueueIsServedWhole : Prop :=
  ∀ s : State, ∃ t, (Sys2Proof.core).run s.pending.length s = .next t ∧ t.pending = [] ∧
    ∃ ds : List Device, ds.length = s.pending.length + 1 ∧ ds.head? = some s.dev ∧ ds.getLast? = some t.dev ∧
      ∀ i, ∀ (c : Instr) (d d' : Device), s.pending[i]? = some c → ds[i]? = some d → ds[i + 1]? = some d' →
        ∃ q, exec c { dev := d, pending := q } = .next { dev := d', pending := q }

/-- After reset every register reads its reset value, memory is zero, and no command waits. R14, R59, R37, R499. -/
def Obligations.ResetLeavesTheStatedValues : Prop :=
  (∀ off r, findReg off = some r → State.reset.dev.reg off = BitVec.ofNat 64 r.reset) ∧
  (∀ a, memRead State.reset.dev.mem a = 0) ∧ State.reset.pending = [] ∧
  State.reset.dev.sourceInUse = 4 ∧ State.reset.dev.pred = 10000000 ∧ State.reset.dev.fld Reg.CAD_FREE_PERIOD ⟨0, 32⟩ = 10000000 ∧
  State.reset.dev.b1 = 16384 ∧ State.reset.dev.b2 = 32768 ∧ State.reset.dev.b3 = 49152 ∧
  State.reset.dev.time.history = List.replicate 8 10000000

/-- At reset memory and the register file are in canonical form. R14, R499. -/
def Obligations.ResetIsCanonical : Prop :=
  State.reset.dev.canonical

/-- Every step keeps memory and the register file in canonical form. R14, R499. -/
def Obligations.EveryStepKeepsTheCanonicalForm : Prop :=
  ∀ s t : State, s.dev.canonical → step s = .next t → t.dev.canonical

/-- A register with no row of its own is written by its access codes. R10, R11. -/
def Obligations.RegisterWriteFollowsAccessCodes : Prop :=
  ∀ (off : Nat) (r : RegDef) (v : DWord), findReg off = some r → r.width = 32 → off % 4 = 0 → off < 0x1000_0000 →
    off ≠ Reg.RESET_CTRL → r.isLastError = false → v.toNat < 2 ^ 32 →
    r.base ∉ (if r.perDie then [0x100030, 0x300004, 0x700004, 0x581008, 0x600004]
      else [0x2000, 0x2004, 0x2008, 0x200C, 0x2100, 0x6001004, 0x6001100, 0x6002000, 0x7002000, 0x6004018, 0x6004030, 0x100008, 0x100024,
        0x440100, 0x200004, 0x200008]) →
    v &&& BitVec.ofNat 64 (r.mask (fun a => a = .rsv)) = 0 →
    Completes (.registerWrite off 32 v) (fun d => d.runs ∧ d.regsWf)
      (fun d d' =>
        let m (a : Access) : DWord := BitVec.ofNat 64 (r.mask (fun b => b = a))
        d'.reg off = ((d.reg off &&& ~~~ m .rw) ||| (v &&& m .rw) ||| (v &&& m .w1s)) &&& ~~~ (v &&& m .w1c) ∧
        d.sameRegsBut d' [off] ∧ d' = { d with regs := d'.regs })

/-- A write with a 1 in a reserved field, of an unsupported width, or at no register is counted as a refusal and changes nothing else. R9, R11, R17, R18, R506. -/
def Obligations.RefusedRegisterWritesChangeNothing : Prop :=
  (∀ (off : Nat) (r : RegDef) (v : DWord), findReg off = some r → r.width = 32 → off % 4 = 0 → off < 0x1000_0000 →
    off ≠ Reg.RESET_CTRL → v.toNat < 2 ^ 32 → v &&& BitVec.ofNat 64 (r.mask (fun a => a = .rsv)) ≠ 0 →
    Completes (.registerWrite off 32 v) (fun d => d.runs)
      (fun d d' => d' = d.refuse (256 * r.block + 1) (if r.perDie then off / 0x0100_0000 - 1 else 4))) ∧
  (∀ (off width : Nat) (v : DWord), off < 0x1000_0000 → width = 8 ∨ width = 16 →
    Completes (.registerWrite off width v) (fun d => d.runs) (fun d d' => d' = (d.dropTouched off width).refuse 0x0103)) ∧
  (∀ (off : Nat) (v : DWord), off < 0x1000_0000 → off % 4 = 0 → findReg off = none → wideAt off = none →
    Completes (.registerWrite off 32 v) (fun d => d.runs) (fun d d' => d' = d.refuse 0x0104)) ∧
  (∀ (d : Device) (code k : Nat), d.regsWf → code < 2 ^ 16 →
    let off := lastErrorReg (code / 256) k
    (d.refuse code k).fld off ⟨0, 16⟩ = code ∧ (d.refuse code k).errCount off = min (d.errCount off + 1) 0x7FFF ∧
    d.sameRegsBut (d.refuse code k) [off] ∧
    d.refuse code k = { d with regs := (d.refuse code k).regs, host := { d.host with pba := (d.refuse code k).host.pba }, out := (d.refuse code k).out })

/-- A 64-bit register is accessed by halves: a low half read captures, a low half written is held, a high half commits both. R9, R13. -/
def Obligations.HalvesOfWideRegisters : Prop :=
  (∀ (off width : Nat), off < 0x1000_0000 → width = 8 ∨ width = 16 ∨ ((width = 32 ∨ width = 64) ∧ off % (width / 8) ≠ 0) →
    Completes (.reg64LowHalfRead ⟨off, width⟩) (fun d => d.runs) (fun d d' => d' = { d.dropTouched off width with out := d.out ++ [.bar0Data (2 ^ width - 1)] })) ∧
  (∀ (off : Nat) (r : RegDef) (v : Word), findReg off = some r → r.width = 64 → off % 8 = 0 → off < 0x0FFF_FFF8 →
    Completes (.reg64LowHalfRead ⟨off, 64⟩) (fun d => d.runs)
      (fun d d' => d' = { d.dropHalves off with out := d.out ++ [.bar0Data (d.regValue off)] }) ∧
    Completes (.reg64LowHalfRead ⟨off + 4, 32⟩) (fun d => d.runs)
      (fun d d' => d' = { d.dropHalves off with out := d.out ++ [.bar0Data ((d.host.capturedHigh.get? off).getD (d.regValue off / 2 ^ 32))] }) ∧
    Completes (.reg64LowHalfRead ⟨off, 32⟩) (fun d => d.runs)
      (fun d d' => d'.host.capturedHigh.get? off = some (d.regValue off / 2 ^ 32) ∧ d'.out = d.out ++ [.bar0Data (d.regValue off % 2 ^ 32)] ∧
        d' = { d with host := { d.host with heldLow := d.host.heldLow.del off, capturedHigh := d'.host.capturedHigh }, out := d'.out }) ∧
    Completes (.reg64LowHalfWrite off v) (fun d => d.runs)
      (fun d d' => d'.host.heldLow.get? off = some v.toNat ∧
        d' = { d with host := { d.host with heldLow := d'.host.heldLow, capturedHigh := d.host.capturedHigh.del off } }) ∧
    Completes (.reg64HighHalfWrite (off + 4) v) (fun d => d.runs)
      (fun d d' => d' = (d.dropHalves off).regWrite off ((d.host.heldLow.get? off).getD (d.presentLow r off) + 2 ^ 32 * v.toNat)))

/-- Writing CLEAR = 1 to a LAST_ERROR register sets CODE and COUNT to 0. R18. -/
def Obligations.ClearingALastError : Prop :=
  ∀ (off : Nat) (r : RegDef), findReg off = some r → r.isLastError = true →
    Completes (.lastErrorClear off) (fun d => d.runs ∧ d.regsWf)
      (fun d d' => d'.fld off ⟨0, 16⟩ = 0 ∧ d'.errCount off = 0 ∧ d.sameRegsBut d' [off] ∧ d' = { d with regs := d'.regs })

/-- A mark of the source in use that comes late enough is accepted, stamped with its time. R37, R39, R42. -/
def Obligations.CadenceMarksAreAccepted : Prop :=
  (∀ (src t : Nat) (c : Instr), (c, src) = (.cadPinEdge t, 1) ∨ (c, src) = (.cadHostMark t, 3) →
    Completes c
      (fun d => d.runs ∧ d.srcSel = src ∧ ∀ p, d.time.lastAccepted = some p → d.fld Reg.CAD_MIN_GAP Fd.CAD_MIN_GAP_MIN_GAP_NS ≤ max d.now t - p)
      (fun d d' => d'.now = max d.now t ∧ d'.time.lastAccepted = some d'.now ∧ d'.time.lost = false ∧
        d'.time.pending = d.time.pending ++ [{ time := d'.now, src := src, cal := d.calAtTime d'.now }] ∧
        d' = { d with now := d'.now, regs := d'.regs, time := d'.time, fault := d'.fault, host := d'.host, out := d'.out })) ∧
  Completes .cadFreeMark
    (fun d => d.runs ∧ d.srcSel = 4 ∧ d.time.lost = false ∧ d.time.lastAccepted = some d.time.lastGen ∧
      d.fld Reg.CAD_MIN_GAP Fd.CAD_MIN_GAP_MIN_GAP_NS ≤ d.fld Reg.CAD_FREE_PERIOD Fd.CAD_FREE_PERIOD_PERIOD_NS)
    (fun d d' => d'.now = max d.now (d.time.lastGen + d.fld Reg.CAD_FREE_PERIOD Fd.CAD_FREE_PERIOD_PERIOD_NS) ∧
      d'.time.pending = d.time.pending ++ [{ time := d'.now, src := 4, cal := d.calAtTime d'.now }] ∧ d'.time.lastGen = d'.now ∧
      d' = { d with now := d'.now, regs := d'.regs, time := d'.time, fault := d'.fault, host := d'.host, out := d'.out })

/-- A write of CAD_CTRL or CAL_CTRL takes effect at once, or is refused when its source is not enabled. R42, R53, R54. -/
def Obligations.CadenceControlWrites : Prop :=
  (∀ v : Word, v.toNat < 64 → v.toNat % 8 ≤ 4 →
    Completes (.cadCtrlWrite v)
      (fun d => d.runs ∧ d.regsWf ∧ (v.toNat % 8 = 2 → d.fld (Reg.PORT_CTRL (v.toNat / 8)) Fd.PORT_CTRL_MODE = 0))
      (fun d d' => d'.reg Reg.CAD_CTRL = BitVec.ofNat 64 v.toNat ∧ d'.srcSel = v.toNat % 8 ∧
        d' = { d with regs := d'.regs, time := d'.time, fault := d'.fault })) ∧
  (∀ v : Word, v.toNat < 64 → v.toNat % 8 = 2 →
    Completes (.cadCtrlWrite v) (fun d => d.runs ∧ d.fld (Reg.PORT_CTRL (v.toNat / 8)) Fd.PORT_CTRL_MODE = 1)
      (fun d d' => d' = d.refuse 0x1005)) ∧
  (∀ v : Word, v.toNat < 32 → v.toNat % 4 = 0 ∨ v.toNat % 4 = 2 →
    Completes (.calCtrlWrite v) (fun d => d.runs ∧ d.regsWf)
      (fun d d' => d'.reg Reg.CAL_CTRL = BitVec.ofNat 64 v.toNat ∧ d'.calValid = false ∧
        d' = { d with regs := d'.regs, time := d'.time, fault := d'.fault })) ∧
  (∀ v : DWord, Completes (.calEpochSecWrite v) (fun d => d.runs ∧ d.regsWf)
      (fun d d' => d'.reg Reg.CAL_EPOCH_SEC = v ∧ d'.fld Reg.CAL_STATUS Fd.CAL_STATUS_ARMED = 1 ∧
        d.sameRegsBut d' [Reg.CAL_EPOCH_SEC, Reg.CAL_STATUS] ∧ d' = { d.dropHalves Reg.CAL_EPOCH_SEC with regs := d'.regs }))

/-- An accepted mark counts a step and sets PHASE back to 0 from the time of its detection. R40, R45, R57. -/
def Obligations.AnAcceptedMarkBeginsAStep : Prop :=
  ∀ (m : PendingMark) (ms : List PendingMark),
    Completes .acceptedMark
      (fun d => d.runs ∧ d.regsWf ∧ d.time.pending = m :: ms ∧ m.step = none ∧ d.plan.active = none ∧ d.plan.switch = .none ∧
        d.shadowState ≠ 3 ∧ d.str.tasks = [] ∧ d.emb = [] ∧ d.pack = [] ∧ d.host.parkCause = none ∧ d.groupEnabled = false)
      (fun d d' => d'.stepNum = (d.stepNum + 1) % 2 ^ 32 ∧ d'.time.stepStart = m.time ∧ d'.time.lastSource = m.src ∧
        d'.reg Reg.CAD_LAST_MARK_CAL = BitVec.ofNat 64 m.cal ∧ d'.time.pending = ms ∧ d'.time.saturated = false ∧
        d'.phaseAt m.time = 0 ∧ (∀ a, memRead d'.mem a = memRead d.mem a))

/-- The predicted period is the mean of the two middle intervals of the last eight. R43. -/
def Obligations.ThePredictionIsTheMiddleOfTheHistory : Prop :=
  ∀ (d : Device) (m : PendingMark), d.regsWf → d.time.history.length = 8 → (∀ h ∈ d.time.history, h < 2 ^ 32) →
    let h := if m.src = d.time.lastSource then d.time.history.drop 1 ++ [min 0xFFFF_FFFF (m.time - d.time.stepStart)] else d.time.history
    (d.predict m).time.history = h ∧ (d.predict m).pred = max 1 (((sortBy id h).getD 3 0 + (sortBy id h).getD 4 0) / 2)

/-- A source with no accepted mark in four predicted periods is declared lost, and the generator marks in its place. R41. -/
def Obligations.ALostSourceIsCounted : Prop :=
  Completes .sourceLost
    (fun d => d.runs ∧ d.regsWf ∧ (d.srcSel = 1 ∨ d.srcSel = 2 ∨ d.srcSel = 3) ∧ d.time.lost = false ∧
      (∃ p, d.time.lastAccepted = some p ∧ d.now ≤ p + 4 * d.pred) ∧ d.fld Reg.CAD_MIN_GAP Fd.CAD_MIN_GAP_MIN_GAP_NS ≤ 4 * d.pred)
    (fun d d' => d'.fld Reg.CAD_STATUS Fd.CAD_STATUS_SRC_LOST = 1 ∧ d'.time.lost = true ∧ d'.sourceInUse = 4 ∧
      d'.fld Reg.CAD_LOSS_COUNT ⟨0, 32⟩ = satAdd 32 (d.fld Reg.CAD_LOSS_COUNT ⟨0, 32⟩) 1 ∧
      d'.now = d.time.lastAccepted.getD 0 + 4 * d.pred ∧
      d'.time.pending = d.time.pending ++ [{ time := d'.now, src := 4, cal := d.calAtTime d'.now }]) ∧
  Completes .lossGeneratorMark
    (fun d => d.runs ∧ (d.srcSel = 1 ∨ d.srcSel = 2 ∨ d.srcSel = 3) ∧ d.time.lost = true ∧
      (∃ p, d.time.lastAccepted = some p ∧ d.time.lastGen = p ∧ d.now ≤ p + d.pred) ∧ d.fld Reg.CAD_MIN_GAP Fd.CAD_MIN_GAP_MIN_GAP_NS ≤ d.pred)
    (fun d d' => d'.now = d.time.lastGen + d.pred ∧ d'.time.lost = true ∧
      d'.time.pending = d.time.pending ++ [{ time := d'.now, src := 4, cal := d.calAtTime d'.now }])

/-- PHASE saturates at the predicted period, and the boundaries are reached in order. R45, R48, R49. -/
def Obligations.PhaseAndSegments : Prop :=
  (∀ d : Device, 0 < d.pred → d.phaseAt (d.time.stepStart + d.pred) = 65535 ∧ d.phaseAt d.time.stepStart = 0) ∧
  Completes .phaseSaturate (fun d => d.runs)
    (fun d d' => d'.time.saturated = true ∧ d'.now = max d.now (d.time.stepStart + d.pred) ∧
      d' = { d with now := d'.now, time := { d.time with saturated := true } }) ∧
  Completes .segmentBoundary (fun d => d.runs ∧ d.time.segSeen < 2)
    (fun d d' => d'.now = max d.now (d.timeOfPhase (if d.time.segSeen = 0 then d.b1 else d.b2)) ∧ d'.time.segSeen = d.time.segSeen + 1 ∧
      d' = { d with now := d'.now, time := { d.time with segSeen := d'.time.segSeen } }) ∧
  Completes .segmentBoundary (fun d => d.runs ∧ d.time.segSeen = 2 ∧ d.plan.active = none ∧ d.emb = [])
    (fun d d' => d'.now = max d.now (d.timeOfPhase d.b3) ∧ d'.time.segSeen = 3)

/-- An armed edge of PPS_IN sets the calendar to the armed second, and its absence is holdover. R53, R54, R55. -/
def Obligations.CalendarEdges : Prop :=
  (∀ t : Nat, Completes (.ppsEdge t)
    (fun d => d.runs ∧ d.regsWf ∧ d.fld Reg.CAL_CTRL Fd.CAL_CTRL_SRC = 2 ∧ d.fld Reg.CAL_STATUS Fd.CAL_STATUS_ARMED = 1 ∧
      (d.reg Reg.CAL_EPOCH_SEC).toNat * 1000000000 < 2 ^ 64)
    (fun d d' => d'.calNow = (d.reg Reg.CAL_EPOCH_SEC).toNat * 1000000000 ∧ d'.calValid = true ∧ d'.now = max d.now t ∧
      d'.reg Reg.CAL_EPOCH_SEC = d.reg Reg.CAL_EPOCH_SEC ∧
      d' = { d with now := d'.now, regs := d'.regs, time := d'.time, fault := d'.fault })) ∧
  (∀ t v : Nat, v + 1000000000 < 2 ^ 64 → Completes (.ppsEdge t)
    (fun d => d.runs ∧ d.regsWf ∧ d.fld Reg.CAL_CTRL Fd.CAL_CTRL_SRC = 2 ∧ d.fld Reg.CAL_STATUS Fd.CAL_STATUS_ARMED = 0 ∧
      d.time.ppsValue = some v)
    (fun _ d' => d'.calNow = v + 1000000000 ∧ (d'.reg Reg.CAL_EPOCH_SEC).toNat = (v + 1000000000) / 1000000000 ∧ d'.calValid = true)) ∧
  (∀ p : Nat, Completes .ppsHoldover
    (fun d => d.runs ∧ d.regsWf ∧ d.fld Reg.CAL_CTRL Fd.CAL_CTRL_SRC = 2 ∧ d.calValid = true ∧ d.time.ppsLast = some p)
    (fun d d' => d'.fld Reg.CAL_STATUS Fd.CAL_STATUS_HOLDOVER = 1 ∧ d'.calValid = true ∧ d'.now = max d.now (p + 1500000000) ∧
      d' = { d with now := d'.now, regs := d'.regs }))

/-- PLAN_STORE reads the image, PLAN_STORE_DONE admits or refuses it, PLAN_EVICT empties an entry. R72, R73, R74, R76. -/
def Obligations.PlanLibraryCommands : Prop :=
  (∀ (m : MsgRef) (lib src len : Nat), Completes (.planStore m lib src len)
      (fun d => d.runs ∧ d.turn m 0x2001 (fieldsAre [(0, 1, lib), (8, 8, src), (16, 4, len)]) = true ∧ 
        d.fld Reg.MEM_STATUS Fd.MEM_STATUS_DDR_READY ≠ 0 ∧ lib ≤ 63 ∧ d.entryHeld lib = false ∧ d.noPlans = false ∧
        512 ≤ len ∧ len ≤ 67108864 ∧ src % 256 = 0 ∧ d.localRange src len = true ∧ d.poisoned src len = false)
      (fun d d' => d' = { d with plan := { d.plan with storing := some (m, lib, d.read src len) } })) ∧
  (∀ (m : MsgRef) (lib : Nat) (b : List Byte), Completes (.planStoreDone)
      (fun d => d.runs ∧ d.plan.storing = some (m, lib, b) ∧ (d.str.extReads.all (fun r => !(r.stream = planStoreStream && r.tag = m.hseq))) = true ∧
        planCheck1to8 d.ownerKeys b b.length = none ∧ d.canAnswer m)
      (fun d d' => d'.plan = { d.plan with storing := none, library := d.plan.library.put lib b, libAlias := d.plan.libAlias.del lib } ∧ d.answered d' m 0x2001 0 [] ∧
        d.sameRegsBut d' answerRegs ∧ d' = { d with plan := d'.plan, regs := d'.regs, host := d'.host, out := d'.out })) ∧
  (∀ (m : MsgRef) (lib : Nat) (b : List Byte) (c : Nat), c < 2 ^ 16 → Completes (.planStoreDone)
      (fun d => d.runs ∧ d.plan.storing = some (m, lib, b) ∧ (d.str.extReads.all (fun r => !(r.stream = planStoreStream && r.tag = m.hseq))) = true ∧
        planCheck1to8 d.ownerKeys b b.length = some c ∧ d.canAnswer m)
      (fun d d' => d'.plan = { d.plan with storing := none } ∧ d.answered d' m 0x2001 c [] ∧ d'.fld Reg.PLAN_LAST_ERROR ⟨0, 16⟩ = c ∧ d' = { d with plan := d'.plan, regs := d'.regs, host := d'.host, out := d'.out })) ∧
  (∀ (m : MsgRef) (lib : Nat), Completes (.planEvict m lib)
      (fun d => d.runs ∧ d.turn m 0x2005 (fieldsAre [(0, 1, lib)]) = true ∧ lib ≤ 63 ∧ d.entryHeld lib = false ∧ d.canAnswer m)
      (fun d d' => d'.plan = { d.plan with library := d.plan.library.del lib, libAlias := d.plan.libAlias.del lib } ∧ d.answered d' m 0x2005 0 [] ∧ d.sameRegsBut d' answerRegs ∧
        d' = { d with plan := d'.plan, regs := d'.regs, host := d'.host, out := d'.out }))

/-- PLAN_LOAD places a stored image, PLAN_ARM sets its switch point, PLAN_DISARM withdraws it. R72, R83, R84, R90. -/
def Obligations.PlanSlotCommands : Prop :=
  (∀ (m : MsgRef) (lib : Nat) (b : List Byte) (ms : List Move), Completes (.planLoad m lib)
      (fun d => d.runs ∧ d.turn m 0x2002 (fieldsAre [(0, 1, lib)]) = true ∧ lib ≤ 63 ∧ d.shadowState ≠ 3 ∧ d.shadowState ≠ 4 ∧ d.noPlans = false ∧
        d.plan.library.get? lib = some b ∧ (d.judging lib).planValidate b = .inl ms ∧ d.regsWf)
      (fun d d' => (∃ p, d'.plan.loading = some (m, p) ∧ p.lib = lib ∧ p.image = b ∧ p.moves = ms) ∧ d'.shadowState = 1 ∧
        d'.fld Reg.PLAN_SLOT_STATE Fd.PLAN_SLOT_STATE_SHADOW_INDEX = lib ∧
        d'.plan = { d.plan with loading := d'.plan.loading, staleSinceArm := false, libAlias := d'.plan.libAlias } ∧ d' = { d with plan := d'.plan, regs := d'.regs })) ∧
  (∀ (m : MsgRef) (p : Plan), Completes (.planLoadDone)
      (fun d => d.runs ∧ d.plan.loading = some (m, p) ∧ d.canAnswer m)
      (fun d d' => d'.plan = { d.plan with loading := none, shadow := some { p with stale := d.plan.staleSinceArm } } ∧ d'.shadowState = 2 ∧
        d'.fld Reg.PLAN_SHADOW_ID ⟨0, 32⟩ = imgPlanId p.image % 2 ^ 32 ∧ d.answered d' m 0x2002 0 (u32 (movesReg p.moves)) ∧ d' = { d with plan := d'.plan, regs := d'.regs, host := d'.host, out := d'.out })) ∧
  (∀ (m : MsgRef) (step pu : Nat) (p : Plan), step < 2 ^ 32 ∧ pu < 2 ^ 16 → Completes (.planArm m step pu)
      (fun d => d.runs ∧ d.turn m 0x2003 (fieldsAre [(0, 4, step), (4, 2, pu)]) = true ∧ d.plan.shadow = some p ∧ d.shadowState = 2 ∧ d.fld Reg.PLAN_SLOT_STATE Fd.PLAN_SLOT_STATE_FENCE_STALE = 0 ∧
        (pu = 0 ∨ d.b3 ≤ pu) ∧ (step = 0 → imgGroupSize p.image ≤ 1) ∧
        (step ≠ 0 → 1 ≤ seqDist step d.stepNum ∧ seqDist step d.stepNum < 2 ^ 31) ∧ d.canAnswer m)
      (fun d d' => let at_ := if pu = 0 then d.b3 else pu
        d'.shadowState = 3 ∧ d'.fld Reg.PLAN_SWITCH_PU Fd.PLAN_SWITCH_PU_PU = at_ ∧
        d'.fld Reg.PLAN_SWITCH_STEP Fd.PLAN_SWITCH_STEP_STEP = (if step ≠ 0 then step else if d.phase < at_ then d.stepNum else (d.stepNum + 1) % 2 ^ 32) ∧
        d'.plan.shadow.map (·.image) = some p.image ∧ d'.plan.active = d.plan.active ∧ d'.plan.library = d.plan.library ∧
        d.answered d' m 0x2003 0 [] ∧ d' = { d with plan := d'.plan, regs := d'.regs, host := d'.host, out := d'.out })) ∧
  (∀ (m : MsgRef), Completes (.planDisarm m)
      (fun d => d.runs ∧ d.turn m 0x2004 (fun _ => true) = true ∧ d.shadowState = 3 ∧ d.plan.carried = false ∧ d.canAnswer m)
      (fun d d' => d'.shadowState = 2 ∧ d'.plan = { d.plan with switch := .none, carried := false, votes := [], decision := none } ∧
        d.answered d' m 0x2004 0 [] ∧ d.sameRegsBut d' (Reg.PLAN_SLOT_STATE :: answerRegs) ∧
        (∀ k, d'.emb.get? k = (d.emb.get? k).map EmbTable.stay) ∧ d' = { d with plan := d'.plan, regs := d'.regs, host := d'.host, out := d'.out, emb := d'.emb }))

/-- A switch begins at its point, starts when the device has drained, and completes 10 us later. R83, R85, R87, R88. -/
def Obligations.PlanSwitchRuns : Prop :=
  (∀ (p : Plan), Completes (.switchPoint)
      (fun d => d.runs ∧ d.regsWf ∧ d.plan.switch = .none ∧ d.plan.shadow = some p ∧ d.shadowState = 3 ∧ d.plan.carried = false ∧
        d.stepNum = d.fld Reg.PLAN_SWITCH_STEP Fd.PLAN_SWITCH_STEP_STEP ∧ d.plan.staleSinceArm = false ∧ imgGroupSize p.image ≤ 1)
      (fun d d' => d'.plan.switch = .draining ∧ d'.now = max d.now (d.timeOfPhase (d.fld Reg.PLAN_SWITCH_PU Fd.PLAN_SWITCH_PU_PU)) ∧
        d'.plan.active = d.plan.active ∧ d'.plan.shadow = d.plan.shadow ∧ d'.shadowState = 3)) ∧
  (∀ (p : Plan), Completes (.switchPoint)
      (fun d => d.runs ∧ d.regsWf ∧ d.plan.switch = .none ∧ d.plan.shadow = some p ∧ d.shadowState = 3 ∧ d.plan.carried = false ∧
        d.stepNum = d.fld Reg.PLAN_SWITCH_STEP Fd.PLAN_SWITCH_STEP_STEP ∧ d.plan.staleSinceArm = true)
      (fun d d' => d'.plan.switch = .none ∧ d'.shadowState = 2 ∧ d'.fld Reg.PLAN_LAST_ERROR ⟨0, 16⟩ = 0x0225 ∧
        d'.plan.active = d.plan.active ∧ d'.plan.shadow = d.plan.shadow ∧ (∀ a, memRead d'.mem a = memRead d.mem a))) ∧
  (∀ (new : Plan), Completes (.switchStart)
      (fun d => d.runs ∧ d.plan.switch = .draining ∧ d.plan.shadow = some new ∧ d.drained = true)
      (fun d d' => d'.plan = { d.plan with switch := .running d.now } ∧ d'.shadowState = 4 ∧ d'.cells = [] ∧ d'.str.tasks = [] ∧ d'.str.streams = [] ∧
        d'.str.lifts = [] ∧ d'.sched.gates = [] ∧ d'.sched.sync = d.sched.sync ∧ (∀ a, memRead d'.mem a = memRead d.mem a))) ∧
  (∀ (start : Nat) (new : Plan), Completes (.switchComplete)
      (fun d => d.runs ∧ d.regsWf ∧ d.plan.switch = .running start ∧ d.plan.shadow = some new ∧ d.sched.ops = [])
      (fun d d' => d'.plan = { d.plan with switch := .none, carried := false, active := some new, shadow := d.plan.active } ∧ d'.now = max d.now (start + 10000) ∧
        d'.shadowState = (if d.plan.active.isSome then 2 else 0) ∧
        d'.fld Reg.PLAN_SWITCH_COUNT ⟨0, 32⟩ = satAdd 32 (d.fld Reg.PLAN_SWITCH_COUNT ⟨0, 32⟩) 1 ∧
        d'.fld Reg.PLAN_LAST_SWITCH_NS ⟨0, 32⟩ = min (d'.now - start) (2 ^ 32 - 1) ∧
        d'.fld Reg.PLAN_ACTIVE_ID ⟨0, 32⟩ = imgPlanId new.image % 2 ^ 32)) ∧
  (∀ (start : Nat) (new : Plan), Completes (.switchComplete)
      (fun d => d.runs ∧ d.regsWf ∧ d.plan.switch = .running start ∧ d.plan.shadow = some new ∧ d.sched.ops = [] ∧
        ((List.range 4).all (fun k => (tablesOf new.image k).all (fun x => !x.keep))) = true)
      (fun d d' => d'.fld Reg.EVR_SEQ_NEXT Fd.EVR_SEQ_NEXT_SEQ = (d.fld Reg.EVR_SEQ_NEXT Fd.EVR_SEQ_NEXT_SEQ + 1) % 2 ^ Fd.EVR_SEQ_NEXT_SEQ.w))

/-- A column group agrees on a switch: votes, the decision, and both timeouts. R85, R453. -/
def Obligations.GroupSwitchAgreement : Prop :=
  (∀ (p : Fin 8) (r : RxMsg), Completes (.switchVote p)
      (fun d => d.runs ∧ d.coordinates = true ∧ d.nextMessage p.val 0x06 = some r ∧ d.plan.switch = .none)
      (fun d d' => (∃ v ∈ d'.plan.votes, v.member = r.msg.src ∧ v.step = leAt r.msg.fields 0 4 ∧ v.plan = leAt r.msg.fields 4 4 ∧ v.digest = r.msg.payload) ∧
        d'.plan = { d.plan with votes := d'.plan.votes })) ∧
  (∀ (p : Fin 8) (r : RxMsg), Completes (.switchDecision p)
      (fun d => d.runs ∧ d.nextMessage p.val 0x07 = some r ∧ d.shadowState = 3 ∧ leAt r.msg.fields 4 4 = d.groupSwitchStep ∧ d.plan.switch = .none)
      (fun d d' => d'.plan = { d.plan with decision := some (leAt r.msg.fields 0 1 = 1) })) ∧
  (∀ (p : Fin 8) (r : RxMsg) (t : Nat), Completes (.switchDecision p)
      (fun d => d.runs ∧ d.regsWf ∧ d.nextMessage p.val 0x07 = some r ∧ d.shadowState = 3 ∧ leAt r.msg.fields 4 4 = d.groupSwitchStep ∧ leAt r.msg.fields 0 1 ≠ 1 ∧
        d.plan.switch = .agreement t)
      (fun d d' => d'.plan = { d.plan with switch := .none, carried := false, votes := [], decision := none } ∧ d'.shadowState = 2 ∧ d'.fld Reg.PLAN_LAST_ERROR ⟨0, 16⟩ = 0x0223)) ∧
  (∀ (t : Nat) (p : Plan), Completes (.switchVoteTimeout)
      (fun d => d.runs ∧ d.regsWf ∧ d.coordinates = true ∧ d.plan.switch = .agreement t ∧ d.plan.shadow = some p ∧ t + 1920 ≤ d.ticks)
      (fun d d' => d'.plan = { d.plan with switch := .none, carried := false, votes := [], decision := none } ∧ d'.shadowState = 2 ∧
        d'.fld Reg.PLAN_LAST_ERROR ⟨0, 16⟩ = 0x0223)) ∧
  (∀ (t : Nat) (p : Plan), Completes (.switchDecisionTimeout)
      (fun d => d.runs ∧ d.regsWf ∧ d.plan.switch = .agreement t ∧ d.plan.shadow = some p ∧ t + 2048 ≤ d.ticks)
      (fun d d' => d'.plan = { d.plan with switch := .none, carried := false, votes := [], decision := none } ∧ d'.shadowState = 2 ∧
        d'.fld Reg.PLAN_LAST_ERROR ⟨0, 16⟩ = 0x0223))

/-- Arming a stream, submitting, resuming, aborting and querying a task. R130, R153, R160, R162, R167. -/
def Obligations.ArmingAndTaskCommands : Prop :=
  (∀ (die : Fin 4) (v : DWord) (g : Nat) (r : StreamRec), v.toNat / 2 ^ 15 ≠ 0 ∧ v.toNat < 2 ^ 47 → Completes (.streamArm die v)
      (fun d => d.runs ∧ d.boundStream die.val (v.toNat % 2 ^ 15) = g ∧ d.streamRec g = some r ∧ (d.stream g).state ≠ .armed ∧ (d.stream g).state ≠ .running ∧
        d.taskGone (v.toNat / 2 ^ 15) = false)
      (fun d d' => (d'.stream g).state = .armed ∧ (d'.stream g).tag = v.toNat / 2 ^ 15 ∧ (d'.stream g).pc = 0 ∧ (d'.stream g).due = r.due ∧
        (d'.stream g).params = (List.range 8).map (fun k => BitVec.ofNat 32 (d.reg (Reg.STREAM_PARAM die.val k)).toNat) ∧
        d' = { d.dropHalves (Reg.STREAM_ARM die.val) with str := { d.str with streams := d'.str.streams } } ∧ ∀ j, j ≠ g → d'.stream j = d.stream j)) ∧
  (∀ (m : MsgRef) (die stage sid : Nat) (params : List Word) (g : Nat) (r : StreamRec), die ≤ 3 ∧ sid < 16808 ∧ stage < 64 → Completes (.taskSubmit m die stage sid params)
      (fun d => d.runs ∧ d.turn m 0x4001 (submitIs die stage sid params) = true ∧ d.boundStream die sid = g ∧ d.streamRec g = some r ∧ r.taskHead = true ∧ r.stage = stage ∧
        (d.stream g).state ≠ .armed ∧ (d.stream g).state ≠ .running ∧ (d.liveTasks die).length < 1024 ∧
        (∀ e ∈ d.str.tasks, e.2.tag ≠ mkTag stage die (d.str.seqs.getD (64 * die + stage) 1)) ∧ (d.freeEntry die).isSome = true ∧
        mkTag stage die (d.str.seqs.getD (64 * die + stage) 1) ≠ 0 ∧ d.canAnswer m)
      (fun d d' => let tag := mkTag stage die (d.str.seqs.getD (64 * die + stage) 1)
        (d'.stream g).state = .armed ∧ (d'.stream g).tag = tag ∧ (d'.stream g).params = params ∧
        (∃ k t, (k, t) ∈ d'.str.tasks ∧ k / 1024 = die ∧ t.tag = tag ∧ t.state = .open) ∧ d.answered d' m 0x4001 0 (u32 tag) ∧
        d' = { d with str := d'.str, stn := d'.stn, regs := d'.regs, host := d'.host, out := d'.out })) ∧
  (∀ (die sid : Nat) (ps : List Word) (r : StreamRec), die ≤ 3 → Completes (.taskAllocResume)
      (fun d => d.runs ∧ d.nextAlloc = some (.stream die sid ps) ∧ d.streamRec (gsid die sid) = some r ∧ r.taskHead = true ∧ (d.stream (gsid die sid)).state ≠ .armed ∧
        (d.stream (gsid die sid)).state ≠ .running ∧ (∀ e ∈ d.str.tasks, e.2.tag ≠ mkTag r.stage die (d.str.seqs.getD (64 * die + r.stage) 1)) ∧
        mkTag r.stage die (d.str.seqs.getD (64 * die + r.stage) 1) ≠ 0)
      (fun d d' => let tag := mkTag r.stage die (d.str.seqs.getD (64 * die + r.stage) 1)
        (d'.stream (gsid die sid)).state = .armed ∧ (d'.stream (gsid die sid)).tag = tag ∧ (d'.stream (gsid die sid)).params = ps ∧
        d'.str.allocWait = d.str.allocWait.erase (.stream die sid ps) ∧
        (∃ k t, (k, t) ∈ d'.str.tasks ∧ k / 1024 = die ∧ t.tag = tag ∧ t.state = .open) ∧ d' = { d with str := d'.str, stn := d'.stn })) ∧
  (∀ (die sid : Nat) (ps : List Word) (r : StreamRec), die ≤ 3 → Completes (.taskAllocResume)
      (fun d => d.runs ∧ d.nextAlloc = some (.stream die sid ps) ∧ d.streamRec (gsid die sid) = some r ∧ r.taskHead = true ∧
        ((d.stream (gsid die sid)).state = .armed ∨ (d.stream (gsid die sid)).state = .running))
      (fun d d' => d' = ({ d with str := { d.str with allocWait := d.str.allocWait.erase (.stream die sid ps) } } : Device).refuse 0x0410 die)) ∧
  (∀ (m : MsgRef) (tag k : Nat) (t : Task), Completes (.taskAbort m tag)
      (fun d => d.runs ∧ d.turn m 0x4002 (fieldsAre [(0, 4, tag)]) = true ∧ d.findTask tag = some (k, t) ∧ t.state = .open ∧ t.aborting = false ∧ t.prepared = false ∧ d.canAnswer m)
      (fun d d' => d'.str.tasks.get? k = some { t with aborting := true, code := 0x041C } ∧ d'.str.abortReqs = d.str.abortReqs ++ [(tag, 0x041C)] ∧
        d.answered d' m 0x4002 0 [] ∧ d.sameRegsBut d' answerRegs ∧
        d' = { d with str := { d.str with tasks := d'.str.tasks, abortReqs := d'.str.abortReqs }, regs := d'.regs, host := d'.host, out := d'.out })) ∧
  (∀ (m : MsgRef) (tag k : Nat) (t : Task), Completes (.taskQuery m tag)
      (fun d => d.runs ∧ d.turn m 0x4003 (fieldsAre [(0, 4, tag)]) = true ∧ d.findTask tag = some (k, t) ∧ d.canAnswer m)
      (fun d d' => d.answered d' m 0x4003 0 (u8 t.shownState ++ u8 0 ++ u16 t.shownCode ++ u32 (d.refs tag) ++ u32 (ceilDiv (t.granules * 64) 1024)) ∧
        d.sameRegsBut d' answerRegs ∧ d' = { d with regs := d'.regs, host := d'.host, out := d'.out })) ∧
  (∀ (die : Fin 4), Completes (.stallClear die)
      (fun d => d.runs ∧ d.regsWf)
      (fun d d' => (∀ i, i < 25680 → d'.reg (Reg.STALL die.val 0 0 + 8 * i) = 0) ∧
        (∀ j, j < Reg.STALL die.val 0 0 ∨ Reg.STALL die.val 0 0 + 8 * 25680 ≤ j → d'.reg j = d.reg j) ∧ d' = { d with regs := d'.regs }))

/-- NOP, SETA, ADDA, ADDP, LOOP, ENDL and DUE change the registers of their stream alone. R131, R132, R142. -/
def Obligations.PisteRegisterInstructions : Prop :=
  (∀ (s : StreamId) (r : StreamRec), Completes (.nop s)
      (fun d => d.runs ∧ d.pisteReady s r)
      (fun d d' => let x := d.stream (gsid s.die.val s.sid.val)
        d.streamOnly d' s { x with pc := x.pc + 1 })) ∧
  (∀ (s : StreamId) (r : StreamRec) (a : Fin 4) (region : BitVec 16) (off : BitVec 40) (g : Region), Completes (.seta s a region off)
      (fun d => d.runs ∧ d.pisteReady s r ∧ (d.plan.active.bind (fun pl => pl.region s.die.val region.toNat)) = some g)
      (fun d d' => let x := d.stream (gsid s.die.val s.sid.val)
        ∃ v : Nat, (v : Int) = ((g.base : Int) + off.toInt) % 2 ^ 57 ∧
        d.streamOnly d' s { x with areg := setNth x.areg a.val v, areg_region := setNth x.areg_region a.val region.toNat, pc := x.pc + 1 })) ∧
  (∀ (s : StreamId) (r : StreamRec) (a : Fin 4) (imm : BitVec 48), Completes (.adda s a imm)
      (fun d => d.runs ∧ d.pisteReady s r)
      (fun d d' => let x := d.stream (gsid s.die.val s.sid.val)
        ∃ v : Nat, (v : Int) = ((x.areg.getD a.val 0 : Int) + imm.toInt) % 2 ^ 57 ∧
        d.streamOnly d' s { x with areg := setNth x.areg a.val v, pc := x.pc + 1 })) ∧
  (∀ (s : StreamId) (r : StreamRec) (a : Fin 4) (k : Fin 8) (scale : BitVec 16), Completes (.addp s a k scale)
      (fun d => d.runs ∧ d.pisteReady s r)
      (fun d d' => let x := d.stream (gsid s.die.val s.sid.val)
        ∃ v : Nat, (v : Int) = ((x.areg.getD a.val 0 : Int) + (x.params.getD k.val 0).toInt * (scale.toNat : Int)) % 2 ^ 57 ∧
        d.streamOnly d' s { x with areg := setNth x.areg a.val v, pc := x.pc + 1 })) ∧
  (∀ (s : StreamId) (r : StreamRec) (k : Fin 8) (count : Word), Completes (.loop s k count)
      (fun d => d.runs ∧ d.pisteReady s r)
      (fun d d' => let x := d.stream (gsid s.die.val s.sid.val)
        d.streamOnly d' s { x with ctr := setNth x.ctr k.val count.toNat, pc := x.pc + 1 })) ∧
  (∀ (s : StreamId) (r : StreamRec) (k : Fin 8) (target : Fin 32), Completes (.endl s k target)
      (fun d => d.runs ∧ d.pisteReady s r ∧ (d.stream (gsid s.die.val s.sid.val)).ctr.getD k.val 0 = 1)
      (fun d d' => let x := d.stream (gsid s.die.val s.sid.val)
        d.streamOnly d' s { x with ctr := setNth x.ctr k.val 0, pc := x.pc + 1 })) ∧
  (∀ (s : StreamId) (r : StreamRec) (k : Fin 8) (target : Fin 32), Completes (.endl s k target)
      (fun d => d.runs ∧ d.pisteReady s r ∧ 2 ≤ (d.stream (gsid s.die.val s.sid.val)).ctr.getD k.val 0 ∧ (d.stream (gsid s.die.val s.sid.val)).ctr.getD k.val 0 < 2 ^ 32)
      (fun d d' => let x := d.stream (gsid s.die.val s.sid.val)
        d.streamOnly d' s { x with ctr := setNth x.ctr k.val (x.ctr.getD k.val 0 - 1), pc := target.val })) ∧
  (∀ (s : StreamId) (r : StreamRec) (v pace : BitVec 16), Completes (.due s v pace)
      (fun d => d.runs ∧ d.pisteReady s r)
      (fun d d' => let x := d.stream (gsid s.die.val s.sid.val)
        d.streamOnly d' s { x with due := v.toNat, pace := pace.toNat, dueIndex := 0, pc := x.pc + 1 }))

/-- XFER and XSTR move bytes and the cursor, EMIT pushes the buffer, END finishes the stream, TRANSFER_RETIRE retires one. R132, R135, R140, R150, R156. -/
def Obligations.PisteTransfers : Prop :=
  (∀ (s : StreamId) (r : StreamRec) (a : Fin 4) (postinc : Bool) (bytes : Word) (b : Buffer) (x : Nat), x < 2 ^ 57 → Completes (.xfer s a postinc bytes)
      (fun d => d.runs ∧ d.pisteReady s r ∧ Memory.wf d.mem = true ∧ r.write = false ∧ r.conditional = false ∧ r.prologue = false ∧
        (d.stream (gsid s.die.val s.sid.val)).openBuf = some b ∧ (d.stream (gsid s.die.val s.sid.val)).areg.getD a.val 0 = x ∧
        d.pieceCheck s.die.val ((d.stream (gsid s.die.val s.sid.val)).areg_region.getD a.val 0) r.accessWidth x bytes.toNat = none ∧
        d.accessCheck x bytes.toNat false = none ∧ d.isLocal x = true ∧ b.cursor + bytes.toNat ≤ b.size ∧ b.addr + b.size ≤ 2 ^ 57 ∧
        (b.addr + b.cursor + bytes.toNat ≤ x ∨ x + bytes.toNat ≤ b.addr + b.cursor) ∧ d.portIdle (gsid s.die.val s.sid.val) ∧
        d.portLoad (gsid s.die.val s.sid.val) + transfersOf x bytes.toNat ≤ 8)
      (fun d d' => let g := gsid s.die.val s.sid.val
        (∀ i, i < bytes.toNat → memRead d'.mem (b.addr + b.cursor + i) = memRead d.mem (x + i)) ∧
        (∀ y, y < b.addr + b.cursor ∨ b.addr + b.cursor + bytes.toNat ≤ y → memRead d'.mem y = memRead d.mem y) ∧
        (d'.stream g).openBuf = some { b with cursor := b.cursor + bytes.toNat } ∧ (0 < bytes.toNat → (d'.stream g).state = .running) ∧ (d'.stream g).issueQ = [] ∧
        (d'.stream g).outstanding = (d.stream g).outstanding + transfersOf x bytes.toNat ∧ (d'.stream g).pc = (d.stream g).pc + 1 ∧
        (d'.stream g).areg = setNth (d.stream g).areg a.val ((if postinc then x + bytes.toNat else x) % 2 ^ 57) ∧
        d' = { d with mem := d'.mem, poison := d'.poison, str := { d.str with streams := d'.str.streams } })) ∧
  (∀ (s : StreamId) (r : StreamRec) (a : Fin 4) (postinc : Bool) (bytes : Word) (b : Buffer) (x : Nat), Completes (.xfer s a postinc bytes)
      (fun d => d.runs ∧ d.pisteReady s r ∧ r.write = false ∧ r.conditional = false ∧ r.prologue = false ∧
        (d.stream (gsid s.die.val s.sid.val)).openBuf = some b ∧ (d.stream (gsid s.die.val s.sid.val)).areg.getD a.val 0 = x ∧
        d.pieceCheck s.die.val ((d.stream (gsid s.die.val s.sid.val)).areg_region.getD a.val 0) r.accessWidth x bytes.toNat = none ∧
        d.accessCheck x bytes.toNat false = none ∧ b.cursor + bytes.toNat ≤ b.size ∧ 8 ≤ d.portLoad (gsid s.die.val s.sid.val))
      (fun d d' => let y := d.stream (gsid s.die.val s.sid.val)
        d.streamOnly d' s { y with openBuf := some { b with cursor := b.cursor + bytes.toNat }, pc := y.pc + 1,
                                   areg := setNth y.areg a.val ((if postinc then x + bytes.toNat else x) % 2 ^ 57),
                                   issueQ := y.issueQ ++ (pageParts x bytes.toNat).map (fun p => .fetch p.1 p.2.1 (b.addr + b.cursor + p.2.2)) })) ∧
  (∀ (s : StreamId) (r : StreamRec) (a : Fin 4) (postinc : Bool) (piece : BitVec 12) (count : BitVec 16) (stride : BitVec 24) (b : Buffer) (x : Nat), x < 2 ^ 57 → Completes (.xstr s a postinc piece count stride)
      (fun d => d.runs ∧ d.pisteReady s r ∧ Memory.wf d.mem = true ∧ r.write = false ∧ r.conditional = false ∧ r.prologue = false ∧
        (d.stream (gsid s.die.val s.sid.val)).openBuf = some b ∧ (d.stream (gsid s.die.val s.sid.val)).areg.getD a.val 0 = x ∧
        (∀ i, i < count.toNat → let p := ofSigned 57 ((x : Int) + (i : Int) * stride.toInt)
          d.pieceCheck s.die.val ((d.stream (gsid s.die.val s.sid.val)).areg_region.getD a.val 0) r.accessWidth p piece.toNat = none ∧
          d.accessCheck p piece.toNat false = none ∧ d.isLocal p = true) ∧ b.cursor + count.toNat * piece.toNat ≤ b.size ∧ b.addr + b.size ≤ 2 ^ 57 ∧
        d.portIdle (gsid s.die.val s.sid.val))
      (fun d d' => let g := gsid s.die.val s.sid.val; let src (i : Nat) := ofSigned 57 ((x : Int) + (i : Int) * stride.toInt)
        (d.portLoad g + (List.range count.toNat).foldl (fun n (i : Nat) => n + transfersOf (src i) piece.toNat) 0 ≤ 8 →
          (∀ i, i < count.toNat → src i + piece.toNat ≤ b.addr + b.cursor ∨ b.addr + b.cursor + count.toNat * piece.toNat ≤ src i) →
          ∀ i j, i < count.toNat → j < piece.toNat → memRead d'.mem (b.addr + b.cursor + i * piece.toNat + j) = memRead d.mem (src i + j)) ∧
        (∀ y, y < b.addr + b.cursor ∨ b.addr + b.cursor + count.toNat * piece.toNat ≤ y → memRead d'.mem y = memRead d.mem y) ∧
        (d'.stream g).openBuf = some { b with cursor := b.cursor + count.toNat * piece.toNat } ∧ (d'.stream g).pc = (d.stream g).pc + 1 ∧
        (d'.stream g).outstanding + (d'.stream g).issueQ.length = (d.stream g).outstanding +
          (List.range count.toNat).foldl (fun n (i : Nat) => n + transfersOf (ofSigned 57 ((x : Int) + (i : Int) * stride.toInt)) piece.toNat) 0 ∧
        (d.portLoad g < 8 → 0 < count.toNat * piece.toNat → (d'.stream g).state = .running) ∧
        (d'.stream g).areg = setNth (d.stream g).areg a.val (if postinc then ofSigned 57 ((x : Int) + (count.toNat : Int) * stride.toInt) else x) ∧
        d' = { d with mem := d'.mem, poison := d'.poison, str := { d.str with streams := d'.str.streams } })) ∧
  (∀ (s : StreamId) (r : StreamRec) (a : Fin 4) (postinc : Bool) (bytes : Word) (e : LiftEntry) (x k : Nat) (t : Task), Completes (.xfer s a postinc bytes)
      (fun d => d.runs ∧ d.pisteReady s r ∧ r.write = true ∧ r.prologue = false ∧ (d.stream (gsid s.die.val s.sid.val)).popped = some e ∧
        e.tag = (d.stream (gsid s.die.val s.sid.val)).tag ∧ (d.stream (gsid s.die.val s.sid.val)).areg.getD a.val 0 = x ∧
        d.pieceCheck s.die.val ((d.stream (gsid s.die.val s.sid.val)).areg_region.getD a.val 0) r.accessWidth x bytes.toNat = none ∧
        d.accessCheck x bytes.toNat true = none ∧ (∀ p ∈ pageParts x bytes.toNat, d.accessCheck p.1 p.2.1 true = none) ∧ r.conditional = false ∧
        d.portIdle (gsid s.die.val s.sid.val) ∧ d.portLoad (gsid s.die.val s.sid.val) + transfersOf x bytes.toNat ≤ 8 ∧ Map.rising d.str.tasks = true ∧
        (d.stream (gsid s.die.val s.sid.val)).cursor + bytes.toNat ≤ e.h.len ∧
        d.poisoned (e.h.addr + (d.stream (gsid s.die.val s.sid.val)).cursor) bytes.toNat = false ∧ d.findTask e.tag = some (k, t) ∧
        d.stagingUsed s.die.val + bytes.toNat / 64 + 2 ≤ d.stagingCapacity s.die.val)
      (fun d d' => let g := gsid s.die.val s.sid.val
        d'.str.tasks.get? k = some { t with writes := t.writes ++ (pageParts x bytes.toNat).map (fun p =>
          { die := s.die.val, addr := p.1, data := d.read (e.h.addr + (d.stream g).cursor + p.2.2) p.2.1, combine := none, order := 0 }) } ∧
        (d'.stream g).cursor = (d.stream g).cursor + bytes.toNat ∧ (0 < bytes.toNat → (d'.stream g).state = .running) ∧
        (d'.stream g).outstanding = (d.stream g).outstanding + transfersOf x bytes.toNat ∧
        d' = { d with str := { d.str with streams := d'.str.streams, tasks := d'.str.tasks } })) ∧
  (∀ (s : StreamId) (r : StreamRec) (last : Bool) (b : Buffer), Completes (.emit s last)
      (fun d => d.runs ∧ d.pisteReady s r ∧ r.write = false ∧ r.conditional = false ∧ d.extPending (gsid s.die.val s.sid.val) = false ∧
        (d.stream (gsid s.die.val s.sid.val)).openBuf = some b ∧ d.liftLoad (d.outLift s.die.val r.sid r.lift) < 256 ∧ d.str.pushWait = [])
      (fun d d' => let g := gsid s.die.val s.sid.val
        (∃ h : Handle, h.addr = b.addr ∧ h.len = b.cursor ∧ h.last = last ∧ h.pool = b.pool ∧
          d'.str.flight = d.str.flight ++ [.push (d.outLift s.die.val r.sid r.lift) { h := h, tag := (d.stream g).tag, src := .stream g, arm := (d.stream g).arms }]) ∧
        (d'.stream g).openBuf = none ∧ (d'.stream g).bufIndex = (d.stream g).bufIndex + 1 ∧ (d'.stream g).pc = (d.stream g).pc + 1 ∧
        d' = { d with str := { d.str with streams := d'.str.streams, flight := d'.str.flight, tasks := d'.str.tasks } })) ∧
  (∀ (s : StreamId) (r : StreamRec), Completes (.endStream s)
      (fun d => d.runs ∧ d.pisteReady s r ∧ r.write = false ∧ d.extPending (gsid s.die.val s.sid.val) = false ∧ (d.stream (gsid s.die.val s.sid.val)).openBuf = none ∧
        (d.stream (gsid s.die.val s.sid.val)).outstanding = 0)
      (fun d d' => let g := gsid s.die.val s.sid.val
        (d'.stream g).state = .done ∧ (d'.stream g).aborted = (d.stream g).aborted ∧ d'.mem = d.mem ∧ d'.str.lifts = d.str.lifts ∧ d'.str.flight = d.str.flight ∧ d'.regs = d.regs)) ∧
  (∀ (s : StreamId) (r : StreamRec), Completes (.transferRetire s)
      (fun d => d.runs ∧ d.streamRec (gsid s.die.val s.sid.val) = some r ∧ (d.stream (gsid s.die.val s.sid.val)).state = .running ∧
        (d.stream (gsid s.die.val s.sid.val)).liftWait = false ∧ d.dieContained s.die.val = false ∧ d.str.extReads = [] ∧
        d.portIdle (gsid s.die.val s.sid.val) ∧ 2 ≤ (d.stream (gsid s.die.val s.sid.val)).outstanding)
      (fun d d' => let x := d.stream (gsid s.die.val s.sid.val)
        d.streamOnly d' s { x with outstanding := x.outstanding - 1 })) ∧
  (∀ (s : StreamId), Completes (.transferRetire s)
      (fun d => d.runs ∧ d.streamRec (gsid s.die.val s.sid.val) = none ∧ d.dieContained s.die.val = false ∧ d.str.extReads = [] ∧
        d.portIdle (gsid s.die.val s.sid.val) ∧ 1 ≤ (d.stream (gsid s.die.val s.sid.val)).outstanding)
      (fun d d' => let x := d.stream (gsid s.die.val s.sid.val)
        d.streamOnly d' s { x with outstanding := x.outstanding - 1 })) ∧
  (∀ (s : StreamId) (r : StreamRec) (a n dst : Nat) (rest : List Xfer), Completes (.transferRetire s)
      (fun d => d.runs ∧ d.streamRec (gsid s.die.val s.sid.val) = some r ∧ r.conditional = false ∧ (d.stream (gsid s.die.val s.sid.val)).state = .running ∧
        (d.stream (gsid s.die.val s.sid.val)).liftWait = false ∧ d.dieContained s.die.val = false ∧ d.str.extReads = [] ∧ Memory.wf d.mem = true ∧
        d.portLoad (gsid s.die.val s.sid.val) = 8 ∧ 1 ≤ (d.stream (gsid s.die.val s.sid.val)).outstanding ∧
        (∀ h ∈ portOf (gsid s.die.val s.sid.val), h ≠ gsid s.die.val s.sid.val → (d.stream h).issueQ = []) ∧
        (d.stream (gsid s.die.val s.sid.val)).issueQ = .fetch a n dst :: rest ∧ d.accessCheck a n false = none ∧ d.isLocal a = true ∧ dst < 2 ^ 58)
      (fun d d' => let g := gsid s.die.val s.sid.val
        d.stored d' dst (d.read a n) ∧ d'.stream g = { d.stream g with issueQ := rest } ∧
        d' = { d with mem := d'.mem, poison := d'.poison, str := { d.str with streams := d'.str.streams } })) ∧
  (∀ (s : StreamId) (r : StreamRec), Completes (.transferRetire s)
      (fun d => d.runs ∧ d.streamRec (gsid s.die.val s.sid.val) = some r ∧ (d.stream (gsid s.die.val s.sid.val)).state = .running ∧
        (d.stream (gsid s.die.val s.sid.val)).liftWait = false ∧ d.dieContained s.die.val = false ∧ d.str.extReads = [] ∧
        r.affine = false ∧ d.portIdle (gsid s.die.val s.sid.val) ∧
        (d.stream (gsid s.die.val s.sid.val)).outstanding = 1 ∧ (d.stream (gsid s.die.val s.sid.val)).ended = true ∧
        (d.stream (gsid s.die.val s.sid.val)).openBuf = none)
      (fun d d' => let g := gsid s.die.val s.sid.val
        (d'.stream g).state = .done ∧ (d'.stream g).outstanding = 0 ∧ d'.mem = d.mem))

/-- Handles arrive in order, full Lifts and empty pools let their producers go on, released buffers come back. R150, R152, R161, R186. -/
def Obligations.LiftsAndPools : Prop :=
  (∀ (dd : Fin 4) (lift : Fin 4096) (i : Nat) (e : LiftEntry), Completes (.handleArrive dd lift i)
      (fun d => d.runs ∧ d.dieContained dd.val = false ∧ (d.arriving (4096 * dd.val + lift.val))[i]? = some e ∧ d.taskGone e.tag = false)
      (fun d d' => let lk := 4096 * dd.val + lift.val
        d'.liftQ lk = d.liftQ lk ++ [e] ∧ d'.str.flight = d.str.flight.erase (.push lk e) ∧ (∀ l, l ≠ lk → d'.liftQ l = d.liftQ l) ∧
        d' = { d with str := { d.str with lifts := d'.str.lifts, flight := d'.str.flight } })) ∧
  (∀ (dd : Fin 4) (lift : Fin 4096) (i die : Nat) (e : LiftEntry), Completes (.handleArrive dd lift i)
      (fun d => d.runs ∧ d.dieContained dd.val = false ∧ (d.arriving (4096 * dd.val + lift.val))[i]? = some e ∧ d.taskGone e.tag = true ∧
        (d.plan.active.bind (fun pl => pl.poolOfBuffer e.h.pool e.h.addr)).map (·.1) = some die)
      (fun d d' => let lk := 4096 * dd.val + lift.val
        d'.str.flight = d.str.flight.erase (.push lk e) ++ [.release (1024 * die + e.h.pool) e.h.addr (d.liftRouter lk)] ∧
        d' = { d with str := { d.str with flight := d'.str.flight } })) ∧
  (∀ (die : Fin 4) (lift : Fin 4096) (w : Nat × LiftEntry), Completes (.liftFullResume die lift)
      (fun d => d.runs ∧ d.str.pushWait.find? (fun w => w.1 = 4096 * die.val + lift.val) = some w ∧ d.liftLoad (4096 * die.val + lift.val) < 256)
      (fun d d' => d'.str.flight = d.str.flight ++ [.push (4096 * die.val + lift.val) w.2] ∧ d'.str.pushWait = d.str.pushWait.erase w ∧
        (∀ g, w.2.src = .stream g → (d'.stream g).liftWait = d'.str.pushWait.any (fun x => x.2.src = .stream g)) ∧
        (∀ g, w.2.src = .cell g → (d.cell g).blocked = some (.lpush (4096 * die.val + lift.val)) → (d'.cell g).blocked = none ∧ (d'.cell g).pc = (d.cell g).pc + 4) ∧
        d' = { d with cells := d'.cells, str := { d.str with pushWait := d'.str.pushWait, flight := d'.str.flight, streams := d'.str.streams } })) ∧
  (∀ (s : StreamId) (r : StreamRec), Completes (.poolWaitResume (.stream s))
      (fun d => d.runs ∧ d.streamRec (gsid s.die.val s.sid.val) = some r ∧ (d.stream (gsid s.die.val s.sid.val)).poolWait = true ∧
        (d.str.pools.getD (1024 * s.die.val + r.pool) []).isEmpty = false)
      (fun d d' => d.streamOnly d' s { d.stream (gsid s.die.val s.sid.val) with poolWait := false })) ∧
  (∀ (c : CellId) (addr pk a : Nat) (rest : List Nat), Completes (.poolWaitResume (.cell c))
      (fun d => d.runs ∧ (d.cell c.gid).blocked = some (.balloc addr pk) ∧ d.str.pools.getD pk [] = a :: rest)
      (fun d d' => (d'.cell c.gid).blocked = none ∧ (d'.cell c.gid).pc = (d.cell c.gid).pc + 4 ∧ d'.str.pools.getD pk [] = rest ∧
        d'.str.owner.get? a = some (d.cell c.gid).tag ∧ (∀ g, g ≠ c.gid → d'.cell g = d.cell g))) ∧
  (∀ (die : Fin 4) (pool : Fin 1024) (i a r : Nat), Completes (.bufferReleaseArrive die pool i)
      (fun d => d.runs ∧ (d.inOrder.filter (fun f => f.toPool (1024 * die.val + pool.val)))[i]? = some (.release (1024 * die.val + pool.val) a r))
      (fun d d' => d'.str.pools.getD (1024 * die.val + pool.val) [] = d.str.pools.getD (1024 * die.val + pool.val) [] ++ [a] ∧
        d'.str.flight = d.str.flight.erase (.release (1024 * die.val + pool.val) a r) ∧ d'.str.owner = d.str.owner.del a ∧ d'.mem = d.mem ∧ d'.cells = d.cells))

/-- The points of a stage, the commit of a task, and the four steps of an abort. R155, R156, R157, R158, R160, R161. -/
def Obligations.StagesCommitAndAbort : Prop :=
  (∀ (dd : Fin 4) (st : Fin 64) (r : StageRec), Completes (.stageStart dd st)
      (fun d => d.runs ∧ d.plan.active.bind (fun pl => pl.stage dd.val st.val) = some r ∧ d.stagesWait = false ∧ (r.kind = 0 → d.time.held = false))
      (fun d d' => 64 * dd.val + st.val ∈ d'.time.stagesBegun ∧ d'.now = max d.now (d.timeOfPhase r.start) ∧
        d' = { d with now := d'.now, time := { d.time with stagesBegun := d'.time.stagesBegun } })) ∧
  (∀ (dd : Fin 4) (st : Fin 64) (r r2 : StageRec), Completes (.stageHandover dd st)
      (fun d => d.runs ∧ d.plan.active.bind (fun pl => pl.stage dd.val st.val) = some r ∧ r.next ≠ 0xFF ∧ d.plan.active.bind (fun pl => pl.stage dd.val r.next) = some r2 ∧
        d.stagesWait = false ∧ (r2.kind = 0 → d.time.held = false))
      (fun d d' => 64 * dd.val + st.val ∈ d'.time.stagesHanded ∧ 64 * dd.val + r.next ∈ d'.time.stagesBegun ∧ d'.now = max d.now (d.timeOfPhase r.handover) ∧
        d' = { d with now := d'.now, time := { d.time with stagesBegun := d'.time.stagesBegun, stagesHanded := d'.time.stagesHanded } })) ∧
  (∀ (dd : Fin 4) (st : Fin 64) (r : StageRec) (k : Nat) (t : Task), Completes (.stageCommitPu dd st)
      (fun d => d.runs ∧ d.plan.active.bind (fun pl => pl.stage dd.val st.val) = some r ∧ d.stagesWait = false ∧ 64 * dd.val + st.val ∉ d.time.stagesCommitted ∧
        d.link.held = [] ∧ d.str.tasks = [(k, t)] ∧ k / 1024 = dd.val ∧ tagHome t.tag = dd.val ∧ tagStage t.tag = st.val ∧ t.tag ≠ 0 ∧ t.state = .open ∧
        t.prepared = false ∧ t.carried = false ∧ t.aborting = false ∧ t.deadlineStep = d.stepNum)
      (fun d d' => d'.str.tasks = [(k, { t with aborting := true, code := 0x041A })] ∧ d'.str.abortReqs = d.str.abortReqs ++ [(t.tag, 0x041A)] ∧
        d'.now = max d.now (d.timeOfPhase r.commit) ∧ 64 * dd.val + st.val ∈ d'.time.stagesCommitted)) ∧
  (∀ (dd : Fin 4) (st : Fin 64) (r : StageRec) (k : Nat) (t : Task), Completes (.stageCommitPu dd st)
      (fun d => d.runs ∧ d.plan.active.bind (fun pl => pl.stage dd.val st.val) = some r ∧ d.plan.carried = true ∧ 64 * dd.val + st.val ∉ d.time.stagesCommitted ∧
        d.link.held = [] ∧ d.str.tasks = [(k, t)] ∧ k / 1024 = dd.val ∧ tagHome t.tag = dd.val ∧ tagStage t.tag = st.val ∧ t.tag ≠ 0 ∧ t.state = .open ∧
        t.prepared = false ∧ t.carried = false ∧ t.aborting = false ∧ t.deadlineStep = d.stepNum)
      (fun d d' => d'.str.tasks = [(k, { t with aborting := true, code := 0x041A })] ∧ d'.str.abortReqs = d.str.abortReqs ++ [(t.tag, 0x041A)] ∧
        d'.now = max d.now (d.timeOfPhase r.commit) ∧ d'.time = d.time)) ∧
  (∀ (tag k : Nat) (t : Task) (w : StagedWrite), Completes (.taskCommit tag [])
      (fun d => d.runs ∧ d.regsWf ∧ Memory.wf d.mem = true ∧ d.findTask tag = some (k, t) ∧ t.state = .ended ∧ d.commitTurn t = true ∧ (∀ x ∈ d.str.extReads, ¬ (x.stream = commitStream ∧ x.tag = tag)) ∧ t.writes = [w] ∧ w.combine = none ∧
        d.localRange w.addr w.data.length = true ∧ t.rdma = [] ∧ t.exch = [] ∧ d.pack = [] ∧ d.matchI = [] ∧ d.emb = [] ∧ d.link.travEnded = [])
      (fun d d' => (∀ i, i < w.data.length → memRead d'.mem (w.addr + i) = w.data.getD i 0) ∧
        (∀ a, a < w.addr ∨ w.addr + w.data.length ≤ a → memRead d'.mem a = memRead d.mem a) ∧
        (d'.str.tasks.get? k).map (·.state) = some .committed ∧ (d'.str.tasks.get? k).map (·.writes) = some [] ∧
        d'.fld (Reg.TASK_COMMIT_COUNT (tagHome t.tag)) ⟨0, 64⟩ = satAdd 64 (d.fld (Reg.TASK_COMMIT_COUNT (tagHome t.tag)) ⟨0, 64⟩) 1)) ∧
  (∀ (tag k : Nat) (t : Task) (r : Nat × Nat), Completes (.abortRequestReceive tag)
      (fun d => d.runs ∧ d.regsWf ∧ d.str.abortReqs.find? (fun r => r.1 = tag) = some r ∧ d.findTask tag = some (k, t) ∧ t.state = .open ∧ t.exch = [])
      (fun d d' => (d'.str.tasks.get? k).map (fun x => (x.state, x.code)) = some (.aborted, r.2) ∧
        d'.str.abortOrders = d.str.abortOrders ++ [(tag, 0), (tag, 1), (tag, 2), (tag, 3)] ∧ d'.str.abortReqs = d.str.abortReqs.erase r ∧
        d'.fld (Reg.TASK_ABORT_COUNT (tagHome t.tag)) ⟨0, 64⟩ = satAdd 64 (d.fld (Reg.TASK_ABORT_COUNT (tagHome t.tag)) ⟨0, 64⟩) 1 ∧
        d.sameRegsBut d' [Reg.TASK_ABORT_COUNT (tagHome t.tag)] ∧ d' = { d with str := d'.str, regs := d'.regs })) ∧
  (∀ (dd : Fin 4) (tag : Nat), Completes (.abortOrderReceive dd tag)
      (fun d => d.runs ∧ (tag, dd.val) ∈ d.str.abortOrders ∧ d.stn.jobs = [] ∧ d.pack = [] ∧ d.matchI = [] ∧ d.sel = [] ∧ d.emb = [] ∧ d.sched.gates = [] ∧ d.cells = [] ∧
        d.memu.invals = [] ∧ Map.rising d.str.streams = true ∧ Map.rising d.str.lifts = true ∧ Map.rising d.str.tasks = true)
      (fun d d' => d'.str.abortOrders = d.str.abortOrders.erase (tag, dd.val) ∧ (∀ lk, lk / 4096 = dd.val → d'.liftQ lk = (d.liftQ lk).filter (fun e => e.tag ≠ tag)) ∧
        (∀ lk, lk / 4096 ≠ dd.val → d'.liftQ lk = d.liftQ lk) ∧
        (∀ g, g / 32768 = dd.val → (d.stream g).tag = tag → (d.stream g).state ≠ .idle →
          (d'.stream g).state = .done ∧ (d'.stream g).aborted = true ∧ (d'.stream g).code = ((d.findTask tag).map (fun e => e.2.code)).getD 0 ∧
          (d'.stream g).outstanding = 0 ∧ (d'.stream g).issueQ = [] ∧ (d'.stream g).openBuf = none ∧ (d'.stream g).popped = none) ∧
        (∀ g, g / 32768 ≠ dd.val ∨ ((d.stream g).tag ≠ tag ∧ ∀ h ∈ (d.stream g).provisional, h.tag ≠ tag) → d'.stream g = d.stream g) ∧
        d'.str.abortReports = d.str.abortReports ++ (if ∃ o ∈ d'.str.abortOrders, o.1 = tag then [] else [(tag, ((d.findTask tag).map (fun e => e.2.code)).getD 0)]))) ∧
  (∀ (tag : Nat) (r : Nat × Nat), Completes (.abortReport tag)
      (fun d => d.runs ∧ d.str.abortReports.find? (fun r => r.1 = tag) = some r ∧ d.canAnnounce)
      (fun d d' => d.announced d' 0x8001 (u32 tag ++ u16 r.2 ++ u8 (tagHome tag)) ∧ d'.str.abortReports = d.str.abortReports.erase r ∧
        d'.fld Reg.EVR_SEQ_NEXT Fd.EVR_SEQ_NEXT_SEQ = (d.fld Reg.EVR_SEQ_NEXT Fd.EVR_SEQ_NEXT_SEQ + 1) % 2 ^ Fd.EVR_SEQ_NEXT_SEQ.w))

/-- Integer register and immediate instructions write their result to rd and go on. R169, R177, R179, R180. -/
def Obligations.IntegerInstructions : Prop :=
  (∀ (c : CellId) (rd rs1 rs2 : Reg), ∀ p ∈ ([(.add c rd rs1 rs2, fun a b => BitVec.ofNat 32 (a.toNat + b.toNat)),
        (.sub c rd rs1 rs2, fun a b => BitVec.ofInt 32 (a.toInt - b.toInt)),
        (.and c rd rs1 rs2, fun a b => a &&& b),
        (.or c rd rs1 rs2, fun a b => a ||| b),
        (.xor c rd rs1 rs2, fun a b => a ^^^ b),
        (.sll c rd rs1 rs2, fun a b => BitVec.ofNat 32 (a.toNat * 2 ^ (b.toNat % 32))),
        (.srl c rd rs1 rs2, fun a b => BitVec.ofNat 32 (a.toNat / 2 ^ (b.toNat % 32))),
        (.sra c rd rs1 rs2, fun a b => BitVec.ofInt 32 (a.toInt / 2 ^ (b.toNat % 32))),
        (.slt c rd rs1 rs2, fun a b => if a.toInt < b.toInt then 1 else 0),
        (.sltu c rd rs1 rs2, fun a b => if a.toNat < b.toNat then 1 else 0),
        (.min c rd rs1 rs2, fun a b => if a.toInt ≤ b.toInt then a else b),
        (.max c rd rs1 rs2, fun a b => if a.toInt ≤ b.toInt then b else a),
        (.minu c rd rs1 rs2, fun a b => if a.toNat ≤ b.toNat then a else b),
        (.maxu c rd rs1 rs2, fun a b => if a.toNat ≤ b.toNat then b else a),
        (.mul c rd rs1 rs2, fun a b => BitVec.ofNat 32 (a.toNat * b.toNat)),
        (.mulh c rd rs1 rs2, fun a b => BitVec.ofInt 32 (a.toInt * b.toInt / 2 ^ 32)),
        (.mulhu c rd rs1 rs2, fun a b => BitVec.ofNat 32 (a.toNat * b.toNat / 2 ^ 32)),
        (.div c rd rs1 rs2, fun a b => if b = 0 then 0xFFFF_FFFF else BitVec.ofInt 32 (a.toInt.tdiv b.toInt)),
        (.divu c rd rs1 rs2, fun a b => if b = 0 then 0xFFFF_FFFF else BitVec.ofNat 32 (a.toNat / b.toNat)),
        (.rem c rd rs1 rs2, fun a b => if b = 0 then a else BitVec.ofInt 32 (a.toInt.tmod b.toInt)),
        (.remu c rd rs1 rs2, fun a b => if b = 0 then a else BitVec.ofNat 32 (a.toNat % b.toNat))] : List (Instr × (Word → Word → Word))),
      Completes p.1
      (fun d => d.runs ∧ d.cellReady c)
      (fun d d' => d.wrote d' c rd (p.2 ((d.cell c.gid).w rs1.val) ((d.cell c.gid).w rs2.val)))) ∧
  (∀ (c : CellId) (rd rs1 : Reg) (imm : BitVec 16), ∀ p ∈ ([(.addi c rd rs1 imm, fun a i => BitVec.ofInt 32 (a.toInt + i.toInt)),
        (.andi c rd rs1 imm, fun a i => a &&& BitVec.ofNat 32 i.toNat),
        (.ori c rd rs1 imm, fun a i => a ||| BitVec.ofNat 32 i.toNat),
        (.xori c rd rs1 imm, fun a i => a ^^^ BitVec.ofNat 32 i.toNat),
        (.slti c rd rs1 imm, fun a i => if a.toInt < i.toInt then 1 else 0),
        (.sltiu c rd rs1 imm, fun a i => if a.toNat < (BitVec.ofInt 32 i.toInt).toNat then 1 else 0)] : List (Instr × (Word → BitVec 16 → Word))),
      Completes p.1
      (fun d => d.runs ∧ d.cellReady c)
      (fun d d' => d.wrote d' c rd (p.2 ((d.cell c.gid).w rs1.val) imm))) ∧
  (∀ (c : CellId) (rd rs1 : Reg) (sh : BitVec 5), ∀ p ∈ ([(.slli c rd rs1 sh, fun a n => BitVec.ofNat 32 (a.toNat * 2 ^ n)),
        (.srli c rd rs1 sh, fun a n => BitVec.ofNat 32 (a.toNat / 2 ^ n)),
        (.srai c rd rs1 sh, fun a n => BitVec.ofInt 32 (a.toInt / 2 ^ n))] : List (Instr × (Word → Nat → Word))),
      Completes p.1
      (fun d => d.runs ∧ d.cellReady c)
      (fun d d' => d.wrote d' c rd (p.2 ((d.cell c.gid).w rs1.val) sh.toNat))) ∧
  (∀ (c : CellId) (rd : Reg) (imm : BitVec 21), Completes (.lui c rd imm)
      (fun d => d.runs ∧ d.cellReady c)
      (fun d d' => d.wrote d' c rd (BitVec.ofNat 32 (imm.toNat * 2 ^ 11)))) ∧
  (∀ (c : CellId) (rd rs1 : Reg), Completes (.clz c rd rs1)
      (fun d => d.runs ∧ d.cellReady c)
      (fun d d' => ∃ n : Nat, n ≤ 32 ∧ ((d.cell c.gid).w rs1.val).toNat < 2 ^ (32 - n) ∧ (n < 32 → 2 ^ (31 - n) ≤ ((d.cell c.gid).w rs1.val).toNat) ∧ d.wrote d' c rd (BitVec.ofNat 32 n))) ∧
  (∀ (c : CellId) (rd rs1 : Reg), Completes (.popc c rd rs1)
      (fun d => d.runs ∧ d.cellReady c)
      (fun d d' => d.wrote d' c rd (BitVec.ofNat 32 ((List.range 32).filter (fun i => ((d.cell c.gid).w rs1.val).getLsbD i)).length))) ∧
  (∀ (c : CellId) (rd rs1 : Reg) (imm : BitVec 16), Completes (.addi c rd rs1 imm)
      (fun d => d.runs ∧ (d.cell c.gid).blocked = none ∧ (d.cell c.gid).state = .halted ∧ (d.cell c.gid).regs.length = 32 ∧ c.gid ∈ d.mgmt.tap.steps)
      (fun d d' => (d.cell c.gid).wroteReg (d'.cell c.gid) rd.val (BitVec.ofInt 32 (((d.cell c.gid).w rs1.val).toInt + imm.toInt)) ∧ (d'.cell c.gid).pc = (d.cell c.gid).pc + 4 ∧
        c.gid ∉ d'.mgmt.tap.steps ∧ d' = { d with cells := d'.cells, mgmt := { d.mgmt with tap := { d.mgmt.tap with steps := d'.mgmt.tap.steps } } }))

/-- Loads, stores and atomics of the private store and the cluster store. R170, R179, R180. -/
def Obligations.LoadsStoresAndAtomics : Prop :=
  (∀ (c : CellId) (rd rs1 : Reg) (imm : BitVec 16) (a : Nat), ∀ p ∈ ([(.lw c rd rs1 imm, 4, fun v => BitVec.ofNat 32 v),
        (.lh c rd rs1 imm, 2, fun v => BitVec.ofInt 32 (toSigned 16 v)),
        (.lhu c rd rs1 imm, 2, fun v => BitVec.ofNat 32 v),
        (.lb c rd rs1 imm, 1, fun v => BitVec.ofInt 32 (toSigned 8 v)),
        (.lbu c rd rs1 imm, 1, fun v => BitVec.ofNat 32 v)] : List (Instr × Nat × (Nat → Word))),
      Completes p.1
      (fun d => d.runs ∧ d.cellReady c ∧ ((d.cell c.gid).w rs1.val + BitVec.ofInt 32 imm.toInt).toNat = a ∧ a < 0x400 ∧ a % p.2.1 = 0)
      (fun d d' => d.wrote d' c rd (p.2.2 (ofLe ((d.cell c.gid).load a p.2.1))))) ∧
  (∀ (c : CellId) (rd rs1 : Reg) (imm : BitVec 16) (a : Nat), ∀ p ∈ ([(.lw c rd rs1 imm, 4, fun v => BitVec.ofNat 32 v),
        (.lh c rd rs1 imm, 2, fun v => BitVec.ofInt 32 (toSigned 16 v)),
        (.lhu c rd rs1 imm, 2, fun v => BitVec.ofNat 32 v),
        (.lb c rd rs1 imm, 1, fun v => BitVec.ofInt 32 (toSigned 8 v)),
        (.lbu c rd rs1 imm, 1, fun v => BitVec.ofNat 32 v)] : List (Instr × Nat × (Nat → Word))),
      Completes p.1
      (fun d => d.runs ∧ d.cellReady c ∧ ((d.cell c.gid).w rs1.val + BitVec.ofInt 32 imm.toInt).toNat = a ∧ 0x1_0000 ≤ a ∧ a < 0x3_0000 ∧ a % p.2.1 = 0)
      (fun d d' => d.wrote d' c rd (p.2.2 (ofLe ((List.range p.2.1).map (fun i => memRead d.mem (clusterAddr c.die.val (64 * c.block.val + c.cluster.val) (a - 0x1_0000 + i)))))))) ∧
  (∀ (c : CellId) (rs2 rs1 : Reg) (imm : BitVec 16) (a : Nat), ∀ p ∈ ([(.sw c rs2 rs1 imm, 4),
        (.sh c rs2 rs1 imm, 2),
        (.sb c rs2 rs1 imm, 1)] : List (Instr × Nat)),
      Completes p.1
      (fun d => d.runs ∧ d.cellReady c ∧ Map.rising (d.cell c.gid).store = true ∧ ((d.cell c.gid).w rs1.val + BitVec.ofInt 32 imm.toInt).toNat = a ∧ a < 0x400 ∧ a % p.2 = 0)
      (fun d d' => d.oneCell d' c.gid ∧ d'.cell c.gid = { d.cell c.gid with store := (d'.cell c.gid).store, pc := (d.cell c.gid).pc + 4 } ∧
        ∀ j, (d'.cell c.gid).store.getD j 0 =
          if a ≤ j ∧ j < a + p.2 then BitVec.ofNat 8 (((d.cell c.gid).w rs2.val).toNat / 2 ^ (8 * (j - a))) else (d.cell c.gid).store.getD j 0)) ∧
  (∀ (c : CellId) (rs2 rs1 : Reg) (imm : BitVec 16) (a : Nat), ∀ p ∈ ([(.sw c rs2 rs1 imm, 4),
        (.sh c rs2 rs1 imm, 2),
        (.sb c rs2 rs1 imm, 1)] : List (Instr × Nat)),
      Completes p.1
      (fun d => d.runs ∧ d.cellReady c ∧ Memory.wf d.mem = true ∧ ((d.cell c.gid).w rs1.val + BitVec.ofInt 32 imm.toInt).toNat = a ∧ 0x1_0000 ≤ a ∧ a < 0x3_0000 ∧ a % p.2 = 0)
      (fun d d' => d'.cell c.gid = { d.cell c.gid with pc := (d.cell c.gid).pc + 4 } ∧ d' = { d with cells := d'.cells, mem := d'.mem } ∧
        (∀ j, j ≠ c.gid → d'.cell j = d.cell j) ∧
        (∀ i, i < p.2 → memRead d'.mem (clusterAddr c.die.val (64 * c.block.val + c.cluster.val) (a - 0x1_0000) + i) = BitVec.ofNat 8 (((d.cell c.gid).w rs2.val).toNat / 2 ^ (8 * i))) ∧
        (∀ y, y < clusterAddr c.die.val (64 * c.block.val + c.cluster.val) (a - 0x1_0000) ∨ clusterAddr c.die.val (64 * c.block.val + c.cluster.val) (a - 0x1_0000) + p.2 ≤ y → memRead d'.mem y = memRead d.mem y))) ∧
  (∀ (c : CellId) (rd rs1 rs2 : Reg) (a : Nat), ∀ p ∈ ([(.amoadd c rd rs1 rs2, fun o v _ => BitVec.ofNat 32 (o.toNat + v.toNat)),
        (.amoswap c rd rs1 rs2, fun _ v _ => v),
        (.amocas c rd rs1 rs2, fun o v r => if o = r then v else o),
        (.amomin c rd rs1 rs2, fun o v _ => if o.toInt ≤ v.toInt then o else v),
        (.amomax c rd rs1 rs2, fun o v _ => if o.toInt ≤ v.toInt then v else o),
        (.amominu c rd rs1 rs2, fun o v _ => if o.toNat ≤ v.toNat then o else v),
        (.amomaxu c rd rs1 rs2, fun o v _ => if o.toNat ≤ v.toNat then v else o)] : List (Instr × (Word → Word → Word → Word))),
      Completes p.1
      (fun d => d.runs ∧ d.cellReady c ∧ Memory.wf d.mem = true ∧ ((d.cell c.gid).w rs1.val).toNat = a ∧ 0x1_0000 ≤ a ∧ a < 0x3_0000 ∧ a % 4 = 0)
      (fun d d' => let at_ := clusterAddr c.die.val (64 * c.block.val + c.cluster.val) (a - 0x1_0000)
        let old := BitVec.ofNat 32 (d.readLe at_ 4)
        (d.cell c.gid).wroteReg (d'.cell c.gid) rd.val old ∧ d'.cell c.gid = { d.cell c.gid with regs := (d'.cell c.gid).regs, pc := (d.cell c.gid).pc + 4 } ∧
        d'.readLe at_ 4 = (p.2 old ((d.cell c.gid).w rs2.val) ((d.cell c.gid).w rd.val)).toNat ∧
        (∀ y, y < at_ ∨ at_ + 4 ≤ y → memRead d'.mem y = memRead d.mem y) ∧ (∀ j, j ≠ c.gid → d'.cell j = d.cell j) ∧
        d' = { d with cells := d'.cells, mem := d'.mem }))

/-- Branches and jumps move the PC; a target outside the code takes ERR_CELL_PC. R179, R180, R194, R195. -/
def Obligations.BranchesAndJumps : Prop :=
  (∀ (c : CellId) (rs1 rs2 : Reg) (off : BitVec 16) (len : Nat) (t : Word), ∀ p ∈ ([(.beq c rs1 rs2 off, fun a b => a = b),
        (.bne c rs1 rs2 off, fun a b => a ≠ b),
        (.blt c rs1 rs2 off, fun a b => a.toInt < b.toInt),
        (.bge c rs1 rs2 off, fun a b => b.toInt ≤ a.toInt),
        (.bltu c rs1 rs2 off, fun a b => a.toNat < b.toNat),
        (.bgeu c rs1 rs2 off, fun a b => b.toNat ≤ a.toNat)] : List (Instr × (Word → Word → Bool))),
      Completes p.1
      (fun d => d.runs ∧ d.cellReady c ∧ (d.placement c.gid).map (·.code.length) = some len ∧ (d.cell c.gid).pc + 4 * BitVec.ofInt 32 off.toInt = t ∧ t.toNat % 4 = 0 ∧ t.toNat < len)
      (fun d d' => d.oneCell d' c.gid ∧ d'.cell c.gid =
          { d.cell c.gid with pc := if p.2 ((d.cell c.gid).w rs1.val) ((d.cell c.gid).w rs2.val) then t else (d.cell c.gid).pc + 4 })) ∧
  (∀ (c : CellId) (rd : Reg) (imm : BitVec 21) (len : Nat) (t : Word), Completes (.jal c rd imm)
      (fun d => d.runs ∧ d.cellReady c ∧ (d.placement c.gid).map (·.code.length) = some len ∧ (d.cell c.gid).pc + 4 * BitVec.ofInt 32 imm.toInt = t ∧ t.toNat % 4 = 0 ∧ t.toNat < len)
      (fun d d' => d.oneCell d' c.gid ∧ (d.cell c.gid).wroteReg (d'.cell c.gid) rd.val ((d.cell c.gid).pc + 4) ∧
        d'.cell c.gid = { d.cell c.gid with regs := (d'.cell c.gid).regs, pc := t })) ∧
  (∀ (c : CellId) (rd rs1 : Reg) (imm : BitVec 16) (len : Nat) (t : Word), Completes (.jalr c rd rs1 imm)
      (fun d => d.runs ∧ d.cellReady c ∧ (d.placement c.gid).map (·.code.length) = some len ∧ (d.cell c.gid).w rs1.val + BitVec.ofInt 32 imm.toInt = t ∧ t.toNat % 4 = 0 ∧ t.toNat < len)
      (fun d d' => d.oneCell d' c.gid ∧ (d.cell c.gid).wroteReg (d'.cell c.gid) rd.val ((d.cell c.gid).pc + 4) ∧
        d'.cell c.gid = { d.cell c.gid with regs := (d'.cell c.gid).regs, pc := t })) ∧
  (∀ (c : CellId) (rs1 rs2 : Reg) (off : BitVec 16) (len : Nat) (t : Word), ∀ p ∈ ([(.beq c rs1 rs2 off, fun a b => a = b),
        (.bne c rs1 rs2 off, fun a b => a ≠ b),
        (.blt c rs1 rs2 off, fun a b => a.toInt < b.toInt),
        (.bge c rs1 rs2 off, fun a b => b.toInt ≤ a.toInt),
        (.bltu c rs1 rs2 off, fun a b => a.toNat < b.toNat),
        (.bgeu c rs1 rs2 off, fun a b => b.toNat ≤ a.toNat)] : List (Instr × (Word → Word → Bool))),
      Completes p.1
      (fun d => d.runs ∧ d.regsWf ∧ d.cellReady c ∧ p.2 ((d.cell c.gid).w rs1.val) ((d.cell c.gid).w rs2.val) = true ∧ (d.placement c.gid).map (·.code.length) = some len ∧ (d.cell c.gid).pc + 4 * BitVec.ofInt 32 off.toInt = t ∧ (t.toNat % 4 ≠ 0 ∨ len ≤ t.toNat) ∧ d.fld (Reg.CELL_CTRL c.die.val) Fd.CELL_CTRL_EXC_HALT = 0)
      (fun d d' => d.excepted d' c 0x0512 t.toNat)) ∧
  (∀ (c : CellId) (rs1 rs2 : Reg) (off : BitVec 16), ∀ p ∈ ([(.beq c rs1 rs2 off, fun a b => a = b),
        (.bne c rs1 rs2 off, fun a b => a ≠ b),
        (.blt c rs1 rs2 off, fun a b => a.toInt < b.toInt),
        (.bge c rs1 rs2 off, fun a b => b.toInt ≤ a.toInt),
        (.bltu c rs1 rs2 off, fun a b => a.toNat < b.toNat),
        (.bgeu c rs1 rs2 off, fun a b => b.toNat ≤ a.toNat)] : List (Instr × (Word → Word → Bool))),
      Completes p.1
      (fun d => d.runs ∧ d.cellReady c ∧ p.2 ((d.cell c.gid).w rs1.val) ((d.cell c.gid).w rs2.val) = false)
      (fun d d' => d.oneCell d' c.gid ∧ d'.cell c.gid = { d.cell c.gid with pc := (d.cell c.gid).pc + 4 })) ∧
  (∀ (c : CellId) (rd rs1 : Reg) (imm : BitVec 16) (len : Nat) (t : Word), Completes (.jalr c rd rs1 imm)
      (fun d => d.runs ∧ d.regsWf ∧ d.cellReady c ∧ (d.placement c.gid).map (·.code.length) = some len ∧ (d.cell c.gid).w rs1.val + BitVec.ofInt 32 imm.toInt = t ∧ (t.toNat % 4 ≠ 0 ∨ len ≤ t.toNat) ∧ d.fld (Reg.CELL_CTRL c.die.val) Fd.CELL_CTRL_EXC_HALT = 0)
      (fun d d' => d.excepted d' c 0x0512 t.toNat)) ∧
  (∀ (c : CellId) (rd : Reg) (imm : BitVec 21) (len : Nat) (t : Word), Completes (.jal c rd imm)
      (fun d => d.runs ∧ d.regsWf ∧ d.cellReady c ∧ (d.placement c.gid).map (·.code.length) = some len ∧ (d.cell c.gid).pc + 4 * BitVec.ofInt 32 imm.toInt = t ∧ (t.toNat % 4 ≠ 0 ∨ len ≤ t.toNat) ∧ d.fld (Reg.CELL_CTRL c.die.val) Fd.CELL_CTRL_EXC_HALT = 0)
      (fun d d' => d.excepted d' c 0x0512 t.toNat))

/-- FP32, BF16 and special functions round once, with the rules for NaN and for signs. R181, R182, R183, R94. -/
def Obligations.FloatInstructions : Prop :=
  (∀ (c : CellId) (rd rs1 rs2 : Reg), ∀ p ∈ ([(.fadd c rd rs1 rs2, fun a b => BitVec.ofNat 32 (toF32 ((f32 a.toNat).add (f32 b.toNat)))),
        (.fsub c rd rs1 rs2, fun a b => BitVec.ofNat 32 (toF32 ((f32 a.toNat).add (f32 b.toNat).neg))),
        (.fmul c rd rs1 rs2, fun a b => BitVec.ofNat 32 (toF32 ((f32 a.toNat).mul (f32 b.toNat)))),
        (.fmin c rd rs1 rs2, fun a b => if (f32 a.toNat).isNan && (f32 b.toNat).isNan then 0x7FC0_0000 else if (f32 a.toNat).isNan then b else if (f32 b.toNat).isNan then a else if (f32 b.toNat).lt (f32 a.toNat) then b else a),
        (.fmax c rd rs1 rs2, fun a b => if (f32 a.toNat).isNan && (f32 b.toNat).isNan then 0x7FC0_0000 else if (f32 a.toNat).isNan then b else if (f32 b.toNat).isNan then a else if (f32 a.toNat).lt (f32 b.toNat) then b else a),
        (.feq c rd rs1 rs2, fun a b => if (f32 a.toNat).isNan || (f32 b.toNat).isNan then 0 else if (f32 a.toNat).lt (f32 b.toNat) || (f32 b.toNat).lt (f32 a.toNat) then 0 else 1),
        (.flt c rd rs1 rs2, fun a b => if !(f32 a.toNat).isNan && !(f32 b.toNat).isNan && (f32 a.toNat).lt (f32 b.toNat) then 1 else 0),
        (.fle c rd rs1 rs2, fun a b => if (f32 a.toNat).isNan || (f32 b.toNat).isNan || (f32 b.toNat).lt (f32 a.toNat) then 0 else 1),
        (.fsgnj c rd rs1 rs2, fun a b => (a &&& 0x7FFF_FFFF) ||| (b &&& 0x8000_0000)),
        (.fsgnjn c rd rs1 rs2, fun a b => (a &&& 0x7FFF_FFFF) ||| (~~~b &&& 0x8000_0000)),
        (.fsgnjx c rd rs1 rs2, fun a b => a ^^^ (b &&& 0x8000_0000)),
        (.badd2 c rd rs1 rs2, fun a b => BitVec.ofNat 32 (f32ToBf16 (fadd (a.toNat % 2 ^ 16 * 2 ^ 16) (b.toNat % 2 ^ 16 * 2 ^ 16)) + 2 ^ 16 * f32ToBf16 (fadd (a.toNat / 2 ^ 16 * 2 ^ 16) (b.toNat / 2 ^ 16 * 2 ^ 16)))),
        (.bmul2 c rd rs1 rs2, fun a b => BitVec.ofNat 32 (f32ToBf16 (fmul (a.toNat % 2 ^ 16 * 2 ^ 16) (b.toNat % 2 ^ 16 * 2 ^ 16)) + 2 ^ 16 * f32ToBf16 (fmul (a.toNat / 2 ^ 16 * 2 ^ 16) (b.toNat / 2 ^ 16 * 2 ^ 16)))),
        (.bmax2 c rd rs1 rs2, fun a b => BitVec.ofNat 32 (f32ToBf16 (fminmax false (a.toNat % 2 ^ 16 * 2 ^ 16) (b.toNat % 2 ^ 16 * 2 ^ 16)) + 2 ^ 16 * f32ToBf16 (fminmax false (a.toNat / 2 ^ 16 * 2 ^ 16) (b.toNat / 2 ^ 16 * 2 ^ 16)))),
        (.bmin2 c rd rs1 rs2, fun a b => BitVec.ofNat 32 (f32ToBf16 (fminmax true (a.toNat % 2 ^ 16 * 2 ^ 16) (b.toNat % 2 ^ 16 * 2 ^ 16)) + 2 ^ 16 * f32ToBf16 (fminmax true (a.toNat / 2 ^ 16 * 2 ^ 16) (b.toNat / 2 ^ 16 * 2 ^ 16)))),
        (.bpack c rd rs1 rs2, fun a b => BitVec.ofNat 32 (f32ToBf16 a.toNat + 2 ^ 16 * f32ToBf16 b.toNat))] : List (Instr × (Word → Word → Word))),
      Completes p.1
      (fun d => d.runs ∧ d.cellReady c)
      (fun d d' => d.wrote d' c rd (p.2 ((d.cell c.gid).w rs1.val) ((d.cell c.gid).w rs2.val)))) ∧
  (∀ (c : CellId) (rd rs1 : Reg), ∀ p ∈ ([(.fcvtSW c rd rs1, fun a => BitVec.ofNat 32 (toF32 (FP.ofInt a.toInt))),
        (.fcvtSWu c rd rs1, fun a => BitVec.ofNat 32 (toF32 (FP.ofInt a.toNat))),
        (.fcvtWS c rd rs1, fun a => BitVec.ofInt 32 ((f32 a.toNat).toInt (-2147483648) 2147483647)),
        (.fcvtWuS c rd rs1, fun a => BitVec.ofInt 32 ((f32 a.toNat).toInt 0 4294967295)),
        (.fclass c rd rs1, fun a => BitVec.ofNat 32 (fclass a.toNat)),
        (.blo c rd rs1, fun a => BitVec.ofNat 32 (a.toNat % 2 ^ 16 * 2 ^ 16)),
        (.bhi c rd rs1, fun a => BitVec.ofNat 32 (a.toNat / 2 ^ 16 * 2 ^ 16)),
        (.exp2 c rd rs1, fun a => if (f32 a.toNat).isNan then 0x7FC0_0000 else BitVec.ofNat 32 (toF32 (f32 a.toNat).exp2)),
        (.log2 c rd rs1, fun a => if (f32 a.toNat).isNan then 0x7FC0_0000 else BitVec.ofNat 32 (toF32 (f32 a.toNat).log2)),
        (.rcp c rd rs1, fun a => if (f32 a.toNat).isNan then 0x7FC0_0000 else BitVec.ofNat 32 (toF32 (f32 a.toNat).rcp)),
        (.rsqrt c rd rs1, fun a => if (f32 a.toNat).isNan then 0x7FC0_0000 else BitVec.ofNat 32 (toF32 (f32 a.toNat).rsqrt)),
        (.sqrt c rd rs1, fun a => if (f32 a.toNat).isNan then 0x7FC0_0000 else BitVec.ofNat 32 (toF32 (f32 a.toNat).sqrt)),
        (.tanh c rd rs1, fun a => if (f32 a.toNat).isNan then 0x7FC0_0000 else BitVec.ofNat 32 (toF32 (f32 a.toNat).tanh)),
        (.sigmoid c rd rs1, fun a => if (f32 a.toNat).isNan then 0x7FC0_0000 else BitVec.ofNat 32 (toF32 (f32 a.toNat).sigmoid))] : List (Instr × (Word → Word))),
      Completes p.1
      (fun d => d.runs ∧ d.cellReady c)
      (fun d d' => d.wrote d' c rd (p.2 ((d.cell c.gid).w rs1.val)))) ∧
  (∀ (c : CellId) (rd rs1 rs2 rs3 : Reg), ∀ p ∈ ([(.fmadd c rd rs1 rs2 rs3, fun a b e => BitVec.ofNat 32 (toF32 (((f32 a.toNat).mul (f32 b.toNat)).add (f32 e.toNat)))),
        (.fmsub c rd rs1 rs2 rs3, fun a b e => BitVec.ofNat 32 (toF32 (((f32 a.toNat).mul (f32 b.toNat)).add (f32 e.toNat).neg))),
        (.fnmadd c rd rs1 rs2 rs3, fun a b e => BitVec.ofNat 32 (toF32 (((f32 a.toNat).mul (f32 b.toNat)).neg.add (f32 e.toNat).neg))),
        (.fnmsub c rd rs1 rs2 rs3, fun a b e => BitVec.ofNat 32 (toF32 (((f32 a.toNat).mul (f32 b.toNat)).neg.add (f32 e.toNat))))] : List (Instr × (Word → Word → Word → Word))),
      Completes p.1
      (fun d => d.runs ∧ d.cellReady c)
      (fun d d' => d.wrote d' c rd (p.2 ((d.cell c.gid).w rs1.val) ((d.cell c.gid).w rs2.val) ((d.cell c.gid).w rs3.val)))) ∧
  (∀ (c : CellId) (rd rs1 rs2 : Reg), Completes (.bdot2 c rd rs1 rs2)
      (fun d => d.runs ∧ d.cellReady c)
      (fun d d' => let a := ((d.cell c.gid).w rs1.val).toNat
        let b := ((d.cell c.gid).w rs2.val).toNat
        let t := toF32 ((f32 ((d.cell c.gid).w rd.val).toNat).add ((f32 (a % 2 ^ 16 * 2 ^ 16)).mul (f32 (b % 2 ^ 16 * 2 ^ 16))))
        d.wrote d' c rd (BitVec.ofNat 32 (toF32 ((f32 t).add ((f32 (a / 2 ^ 16 * 2 ^ 16)).mul (f32 (b / 2 ^ 16 * 2 ^ 16))))))))

/-- Hash and generator instructions, and the special registers. R184, R191, R286, R294, R296. -/
def Obligations.HashAndSpecialRegisters : Prop :=
  (∀ (c : CellId) (rd rs1 rs2 : Pair), Completes (.hmix c rd rs1 rs2)
      (fun d => d.runs ∧ d.cellReady c)
      (fun d d' => let x := d.cell c.gid
        let x' := d'.cell c.gid
        d.oneCell d' c.gid ∧ x' = { x with regs := x'.regs, pc := x.pc + 4 } ∧
        (∀ v, v = mix64 (x.pair rs1.val) (x.pair rs2.val) → x'.w (2 * rd.val + 1) = (v >>> 32).setWidth 32 ∧ x'.w (2 * rd.val) = if rd.val = 0 then 0 else v.setWidth 32) ∧
        (∀ r, r < 32 → r / 2 ≠ rd.val → x'.w r = x.w r))) ∧
  (∀ (c : CellId) (rd rs1 rs2 : Reg), Completes (.crcw c rd rs1 rs2)
      (fun d => d.runs ∧ d.cellReady c)
      (fun d d' => d.wrote d' c rd ((leBytes 4 ((d.cell c.gid).w rs1.val).toNat).foldl crcByte ((d.cell c.gid).w rd.val)))) ∧
  (∀ (c : CellId) (rd rs1 rs2 : Reg), Completes (.crcb c rd rs1 rs2)
      (fun d => d.runs ∧ d.cellReady c)
      (fun d d' => d.wrote d' c rd (crcByte ((d.cell c.gid).w rd.val) (BitVec.ofNat 8 ((d.cell c.gid).w rs1.val).toNat)))) ∧
  (∀ (c : CellId) (rd rs1 rs2 : Reg) (stream : BitVec 8), Completes (.gen c rd rs1 rs2 stream)
      (fun d => d.runs ∧ d.cellReady c)
      (fun d d' => d.wrote d' c rd (genWord (d.cell c.gid).gkey ((d.cell c.gid).w rs1.val) stream ((d.cell c.gid).w rs2.val)))) ∧
  (∀ (c : CellId) (rd : Reg), Completes (.rdsr c rd 0)
      (fun d => d.runs ∧ d.cellReady c)
      (fun d d' => d.wrote d' c rd (BitVec.ofNat 32 (d.logicalId c.gid)))) ∧
  (∀ (c : CellId) (rd : Reg), Completes (.rdsr c rd 1)
      (fun d => d.runs ∧ d.cellReady c)
      (fun d d' => d.wrote d' c rd (BitVec.ofNat 32 c.gid))) ∧
  (∀ (c : CellId) (rd : Reg), Completes (.rdsr c rd 2)
      (fun d => d.runs ∧ d.cellReady c)
      (fun d d' => d.wrote d' c rd (BitVec.ofNat 32 (d.cell c.gid).tag))) ∧
  (∀ (c : CellId) (rd : Reg), Completes (.rdsr c rd 4)
      (fun d => d.runs ∧ d.cellReady c)
      (fun d d' => d.wrote d' c rd (BitVec.ofNat 32 d.phaseWord))) ∧
  (∀ (c : CellId) (rd : Reg), Completes (.rdsr c rd 5)
      (fun d => d.runs ∧ d.cellReady c)
      (fun d d' => d.wrote d' c rd (BitVec.ofNat 32 d.stepNum))) ∧
  (∀ (c : CellId) (rd : Reg), Completes (.rdsr c rd 8)
      (fun d => d.runs ∧ d.cellReady c)
      (fun d d' => d.wrote d' c rd ((d.cell c.gid).gkey.setWidth 32))) ∧
  (∀ (c : CellId) (rd : Reg), Completes (.rdsr c rd 9)
      (fun d => d.runs ∧ d.cellReady c)
      (fun d d' => d.wrote d' c rd (((d.cell c.gid).gkey >>> 32).setWidth 32))) ∧
  (∀ (c : CellId) (rd : Reg), Completes (.rdsr c rd 10)
      (fun d => d.runs ∧ d.cellReady c)
      (fun d d' => d.wrote d' c rd (BitVec.ofNat 32 (d.cell c.gid).exc))) ∧
  (∀ (c : CellId) (rd : Reg) (i : Item), Completes (.rdsr c rd 3)
      (fun d => d.runs ∧ d.cellReady c ∧ (d.cell c.gid).item = some i)
      (fun d d' => d.wrote d' c rd (match i.flow with | some f => BitVec.ofNat 32 (f + 2 ^ 20) | none => 0))) ∧
  (∀ (c : CellId) (rd : Reg), Completes (.rdsr c rd 6)
      (fun d => d.runs ∧ d.cellReady c)
      (fun d d' => let x := d.cell c.gid
        let x' := d'.cell c.gid
        d.oneCell d' c.gid ∧ x.wroteReg x' rd.val (BitVec.ofNat 32 (d.cycles c.die.val)) ∧ x'.cycleHi = some (BitVec.ofNat 32 (d.cycles c.die.val / 2 ^ 32)) ∧
        x' = { x with regs := x'.regs, pc := x.pc + 4, cycleHi := x'.cycleHi })) ∧
  (∀ (c : CellId) (rd : Reg) (h : Word), Completes (.rdsr c rd 7)
      (fun d => d.runs ∧ d.cellReady c ∧ (d.cell c.gid).cycleHi = some h)
      (fun d d' => let x := d.cell c.gid
        let x' := d'.cell c.gid
        d.oneCell d' c.gid ∧ x.wroteReg x' rd.val h ∧ x' = { x with regs := x'.regs, pc := x.pc + 4, cycleHi := none })) ∧
  (∀ (c : CellId) (rd : Reg) (k : Nat) (t : Task), Completes (.rdsr c rd 11)
      (fun d => d.runs ∧ d.cellReady c ∧ d.findTask (d.cell c.gid).tag = some (k, t))
      (fun d d' => d.wrote d' c rd (BitVec.ofNat 32 (if t.prepared then 2 else match t.state with | .open => 1 | .ended => 2 | .committed => 3 | .aborted => 4)))) ∧
  (∀ (c : CellId) (rs1 : Reg) (hi : Bool), Completes (.wrsr c rs1 hi)
      (fun d => d.runs ∧ d.cellReady c)
      (fun d d' => let x := d.cell c.gid
        d.oneCell d' c.gid ∧ d'.cell c.gid = { x with pc := x.pc + 4, gkey := (d'.cell c.gid).gkey } ∧
        (d'.cell c.gid).gkey.toNat = if hi then (x.w rs1.val).toNat * 2 ^ 32 + x.gkey.toNat % 2 ^ 32 else x.gkey.toNat / 2 ^ 32 * 2 ^ 32 + (x.w rs1.val).toNat))

/-- SARM, SWAIT, BALLOC, BREL, LPUSH and HLOC drive the streams, buffers and Lifts of a cell. R130, R185, R186, R189. -/
def Obligations.CellStreamsAndLifts : Prop :=
  (∀ (c : CellId) (rd rs1 rs2 : Reg) (ctx : Fin 4) (a tag : Nat) (r : StreamRec), Completes (.sarm c rd rs1 rs2 ctx)
      (fun d => d.runs ∧ d.cellReady c ∧ ((d.cell c.gid).w rs2.val).toNat = a ∧ a + 32 ≤ 0x400 ∧ a % 32 = 0 ∧ ((d.cell c.gid).w rs1.val).toNat = tag ∧ tag ≠ 0 ∧ d.taskGone tag = false ∧
        d.streamRec (gsid c.die.val (4 * (64 * c.block.val + c.cluster.val) + ctx.val)) = some r ∧ (d.stream (gsid c.die.val (4 * (64 * c.block.val + c.cluster.val) + ctx.val))).state ≠ .armed ∧ (d.stream (gsid c.die.val (4 * (64 * c.block.val + c.cluster.val) + ctx.val))).state ≠ .running)
      (fun d d' => let g := gsid c.die.val (4 * (64 * c.block.val + c.cluster.val) + ctx.val)
        (d'.stream g).state = .armed ∧ (d'.stream g).tag = tag ∧ (d'.stream g).params = (List.range 8).map (fun i => BitVec.ofNat 32 (ofLe ((d.cell c.gid).load (a + 4 * i) 4))) ∧
        (d.cell c.gid).wroteReg (d'.cell c.gid) rd.val 0 ∧ (d'.cell c.gid).pc = (d.cell c.gid).pc + 4 ∧ (∀ j, j ≠ g → d'.stream j = d.stream j) ∧
        d' = { d with cells := d'.cells, str := { d.str with streams := d'.str.streams } })) ∧
  (∀ (c : CellId) (rd rs1 rs2 : Reg) (ctx : Fin 4) (a e : Nat), Completes (.sarm c rd rs1 rs2 ctx)
      (fun d => d.runs ∧ d.regsWf ∧ d.cellReady c ∧ ((d.cell c.gid).w rs2.val).toNat = a ∧ a + 32 ≤ 0x400 ∧ a % 32 = 0 ∧ d.armCheck (gsid c.die.val (4 * (64 * c.block.val + c.cluster.val) + ctx.val)) ((d.cell c.gid).w rs1.val).toNat = some e)
      (fun d d' => (d.cell c.gid).wroteReg (d'.cell c.gid) rd.val (BitVec.ofNat 32 e) ∧ (d'.cell c.gid).pc = (d.cell c.gid).pc + 4 ∧ d'.str = d.str ∧ d'.mem = d.mem ∧
        d'.fld (Reg.STREAM_LAST_ERROR c.die.val) ⟨0, 16⟩ = e)) ∧
  (∀ (c : CellId) (rd : Reg) (ctx : Fin 4) (r : StreamRec), Completes (.swait c rd ctx)
      (fun d => d.runs ∧ d.cellReady c ∧ d.streamRec (gsid c.die.val (4 * (64 * c.block.val + c.cluster.val) + ctx.val)) = some r ∧ (d.stream (gsid c.die.val (4 * (64 * c.block.val + c.cluster.val) + ctx.val))).state = .done)
      (fun d d' => d.wrote d' c rd (BitVec.ofNat 32 (3 + 4 * bit (d.stream (gsid c.die.val (4 * (64 * c.block.val + c.cluster.val) + ctx.val))).aborted + 8 * min 8 (d.stream (gsid c.die.val (4 * (64 * c.block.val + c.cluster.val) + ctx.val))).outstanding + 2 ^ 16 * (d.stream (gsid c.die.val (4 * (64 * c.block.val + c.cluster.val) + ctx.val))).code)))) ∧
  (∀ (c : CellId) (rd : Reg) (ctx : Fin 4) (r : StreamRec), Completes (.swait c rd ctx)
      (fun d => d.runs ∧ d.cellReady c ∧ d.streamRec (gsid c.die.val (4 * (64 * c.block.val + c.cluster.val) + ctx.val)) = some r ∧ (d.stream (gsid c.die.val (4 * (64 * c.block.val + c.cluster.val) + ctx.val))).state ≠ .done ∧ d.taskGone (d.cell c.gid).tag = false)
      (fun d d' => d.oneCell d' c.gid ∧ d'.cell c.gid = { d.cell c.gid with blocked := some (.swait rd.val (gsid c.die.val (4 * (64 * c.block.val + c.cluster.val) + ctx.val))) })) ∧
  (∀ (c : CellId) (rs1 rs2 : Reg) (a pool x : Nat) (r : PoolRec) (rest : List Nat), Completes (.balloc c rs1 rs2)
      (fun d => d.runs ∧ d.cellReady c ∧ Map.rising (d.cell c.gid).store = true ∧ ((d.cell c.gid).w rs1.val).toNat = a ∧ a + 16 ≤ 0x400 ∧ a % 16 = 0 ∧ ((d.cell c.gid).w rs2.val).toNat = pool ∧ d.plan.active.bind (fun pl => pl.poolRec c.die.val pool) = some r ∧
        d.str.pools.getD (1024 * c.die.val + pool) [] = x :: rest ∧ pool < 1024 ∧ x < 2 ^ 57)
      (fun d d' => handleOf ((d'.cell c.gid).load a 16) = { addr := x, len := 0, last := false, late := false, pool := pool } ∧ d'.str.pools.getD (1024 * c.die.val + pool) [] = rest ∧
        d'.str.owner.get? x = some (d.cell c.gid).tag ∧ d'.cell c.gid = { d.cell c.gid with store := (d'.cell c.gid).store, pc := (d.cell c.gid).pc + 4 } ∧
        (∀ j, j < a ∨ a + 16 ≤ j → (d'.cell c.gid).store.getD j 0 = (d.cell c.gid).store.getD j 0) ∧ (∀ j, j ≠ c.gid → d'.cell j = d.cell j) ∧
        d' = { d with cells := d'.cells, str := { d.str with pools := d'.str.pools, owner := d'.str.owner } })) ∧
  (∀ (c : CellId) (rs1 rs2 : Reg) (a pool : Nat) (r : PoolRec), Completes (.balloc c rs1 rs2)
      (fun d => d.runs ∧ d.cellReady c ∧ ((d.cell c.gid).w rs1.val).toNat = a ∧ a + 16 ≤ 0x400 ∧ a % 16 = 0 ∧ ((d.cell c.gid).w rs2.val).toNat = pool ∧ d.plan.active.bind (fun pl => pl.poolRec c.die.val pool) = some r ∧
        d.str.pools.getD (1024 * c.die.val + pool) [] = [])
      (fun d d' => d.oneCell d' c.gid ∧ d'.cell c.gid = { d.cell c.gid with blocked := some (.balloc a (1024 * c.die.val + pool)) })) ∧
  (∀ (c : CellId) (rs1 : Reg) (a die : Nat) (h : Handle) (r : PoolRec), Completes (.brel c rs1)
      (fun d => d.runs ∧ d.cellReady c ∧ ((d.cell c.gid).w rs1.val).toNat = a ∧ a + 16 ≤ 0x400 ∧ a % 16 = 0 ∧ d.recordHandle (d.cell c.gid) a = some (h, r) ∧ (d.plan.active.bind (fun pl => pl.poolOfBuffer h.pool h.addr)).map (·.1) = some die)
      (fun d d' => d'.str.flight = d.str.flight ++ [.release (1024 * die + h.pool) h.addr (c.gid / 4096)] ∧ d'.cell c.gid = { (d.cell c.gid).spend h with pc := (d.cell c.gid).pc + 4 } ∧
        (∀ j, j ≠ c.gid → d'.cell j = d.cell j) ∧ d' = { d with cells := d'.cells, str := { d.str with flight := d'.str.flight } })) ∧
  (∀ (c : CellId) (rs1 rs2 : Reg) (a lk : Nat) (h : Handle) (r : PoolRec), Completes (.lpush c rs1 rs2)
      (fun d => d.runs ∧ d.cellReady c ∧ ((d.cell c.gid).w rs1.val).toNat = a ∧ a + 16 ≤ 0x400 ∧ a % 16 = 0 ∧ d.cellLift c.gid ((d.cell c.gid).w rs2.val).toNat = some lk ∧ d.recordHandle (d.cell c.gid) a = some (h, r) ∧ h.len ≠ 0 ∧ h.len ≤ r.size ∧
        (d.cell c.gid).tag ≠ 0 ∧ d.taskGone (d.cell c.gid).tag = false ∧ d.liftLoad lk < 256 ∧ d.str.pushWait = [])
      (fun d d' => d'.str.flight = d.str.flight ++ [.push lk { h := h, tag := (d.cell c.gid).tag, src := .cell c.gid }] ∧ d'.cell c.gid = { (d.cell c.gid).spend h with pc := (d.cell c.gid).pc + 4 } ∧
        (∀ j, j ≠ c.gid → d'.cell j = d.cell j) ∧
        d' = { d with cells := d'.cells, str := { d.str with flight := d'.str.flight, owner := d'.str.owner, tasks := d'.str.tasks } })) ∧
  (∀ (c : CellId) (rd rs1 : Reg) (a : Nat) (h : Handle) (r : PoolRec), Completes (.hloc c rd rs1)
      (fun d => d.runs ∧ d.cellReady c ∧ ((d.cell c.gid).w rs1.val).toNat = a ∧ a + 16 ≤ 0x400 ∧ a % 16 = 0 ∧ d.recordHandle (d.cell c.gid) a = some (h, r) ∧ clusterAddr c.die.val (64 * c.block.val + c.cluster.val) 0 ≤ h.addr ∧ h.addr + r.size ≤ clusterAddr c.die.val (64 * c.block.val + c.cluster.val) 0 + 0x2_0000)
      (fun d d' => d.wrote d' c rd (BitVec.ofNat 32 (h.addr - clusterAddr c.die.val (64 * c.block.val + c.cluster.val) 0 + 0x1_0000))))

/-- SSIG, SWGE, SRST, ASK, TNEW and HALT: sync operations, items and tasks of a cell. R153, R187, R188, R213, R215, R224. -/
def Obligations.CellSyncAndWork : Prop :=
  (∀ (c : CellId) (rd rs1 rs2 : Reg) (id_ : Nat), Completes (.ssig c rd rs1 rs2)
      (fun d => d.runs ∧ d.cellReady c ∧ ((d.cell c.gid).w rs1.val).toNat = id_ ∧ id_ < 2 ^ 18)
      (fun d d' => d'.sched.ops = d.sched.ops ++ [{ obj := id_, kind := 2, source := c.gid, amount := ((d.cell c.gid).w rs2.val).toNat }] ∧
        (d.cell c.gid).wroteReg (d'.cell c.gid) rd.val 0 ∧ (d'.cell c.gid).pc = (d.cell c.gid).pc + 4 ∧ (∀ j, j ≠ c.gid → d'.cell j = d.cell j) ∧
        d' = { d with cells := d'.cells, sched := { d.sched with ops := d'.sched.ops } })) ∧
  (∀ (c : CellId) (rd rs1 : Reg) (id_ : Nat), Completes (.srst c rd rs1)
      (fun d => d.runs ∧ d.cellReady c ∧ ((d.cell c.gid).w rs1.val).toNat = id_ ∧ id_ < 2 ^ 18)
      (fun d d' => d'.sched.ops = d.sched.ops ++ [{ obj := id_, kind := 0, source := c.gid, amount := 0 }] ∧
        (d.cell c.gid).wroteReg (d'.cell c.gid) rd.val 0 ∧ (d'.cell c.gid).pc = (d.cell c.gid).pc + 4 ∧ (∀ j, j ≠ c.gid → d'.cell j = d.cell j) ∧
        d' = { d with cells := d'.cells, sched := { d.sched with ops := d'.sched.ops } })) ∧
  (∀ (c : CellId) (rd rs1 rs2 : Reg) (id_ : Nat), Completes (.swge c rd rs1 rs2)
      (fun d => d.runs ∧ d.cellReady c ∧ ((d.cell c.gid).w rs1.val).toNat = id_ ∧ id_ < 2 ^ 18 ∧ ((d.cell c.gid).w rs2.val).toNat ≤ d.syncVal id_)
      (fun d d' => d.wrote d' c rd 0)) ∧
  (∀ (c : CellId) (rd rs1 rs2 : Reg) (id_ : Nat), Completes (.swge c rd rs1 rs2)
      (fun d => d.runs ∧ d.cellReady c ∧ ((d.cell c.gid).w rs1.val).toNat = id_ ∧ id_ < 2 ^ 18 ∧ d.syncVal id_ < ((d.cell c.gid).w rs2.val).toNat)
      (fun d d' => d.oneCell d' c.gid ∧ d'.cell c.gid = { d.cell c.gid with blocked := some (.swge rd.val id_ ((d.cell c.gid).w rs2.val).toNat) })) ∧
  (∀ (c : CellId) (rd rs1 : Reg) (a : Nat), Completes (.ask c rd rs1)
      (fun d => d.runs ∧ d.cellReady c ∧ ((d.cell c.gid).w rs1.val).toNat = a ∧ a % 32 = 0 ∧ a + 16 * (d.maxArity (c.gid / 64) + 1) ≤ 0x400)
      (fun d d' => d'.cell c.gid = { d.cell c.gid with blocked := some (.ask rd.val a), item := none } ∧ (∀ j, j ≠ c.gid → d'.cell j = d.cell j) ∧
        ((d.cell c.gid).item = none → d' = { d with cells := d'.cells }) ∧
        (∀ k, d'.str.tasks.get? k = d.str.tasks.get? k ∨ ∃ i t, (d.cell c.gid).item = some i ∧ d.findTask i.tag = some (k, t) ∧ t.state = .open) ∧
        d' = { d with cells := d'.cells, sched := { d.sched with gates := d'.sched.gates }, str := { d.str with tasks := d'.str.tasks, abortReqs := d'.str.abortReqs }, link := d'.link, out := d'.out })) ∧
  (∀ (c : CellId) (rd rs1 : Reg) (stage : Nat), Completes (.tnew c rd rs1)
      (fun d => d.runs ∧ d.cellReady c ∧ ((d.cell c.gid).w rs1.val).toNat = stage ∧ stage < 64 ∧ (d.plan.active.bind (fun pl => pl.stage c.die.val stage)).isSome = true ∧
        (d.liveTasks c.die.val).length < 1024 ∧ (d.freeEntry c.die.val).isSome = true ∧
        (∀ e ∈ d.str.tasks, e.2.tag ≠ mkTag stage c.die.val (d.str.seqs.getD (64 * c.die.val + stage) 1)))
      (fun d d' => let tag := mkTag stage c.die.val (d.str.seqs.getD (64 * c.die.val + stage) 1)
        (d.cell c.gid).wroteReg (d'.cell c.gid) rd.val (BitVec.ofNat 32 tag) ∧ (d'.cell c.gid).tag = tag ∧ (d'.cell c.gid).pc = (d.cell c.gid).pc + 4 ∧
        (∃ k t, (k, t) ∈ d'.str.tasks ∧ k / 1024 = c.die.val ∧ t.tag = tag ∧ t.state = .open) ∧
        d' = { d with cells := d'.cells, stn := d'.stn, str := { d.str with tasks := d'.str.tasks, seqs := d'.str.seqs, allocCount := d.str.allocCount + 1 } })) ∧
  (∀ (c : CellId), Completes (.halt c)
      (fun d => d.runs ∧ d.cellReady c)
      (fun d d' => d'.cell c.gid = { d.cell c.gid with state := .halted, item := none } ∧ (∀ j, j ≠ c.gid → d'.cell j = d.cell j) ∧
        ((d.cell c.gid).item = none → d' = { d with cells := d'.cells }) ∧
        (∀ k, d'.str.tasks.get? k = d.str.tasks.get? k ∨ ∃ i t, (d.cell c.gid).item = some i ∧ d.findTask i.tag = some (k, t) ∧ t.state = .open) ∧
        d' = { d with cells := d'.cells, sched := { d.sched with gates := d'.sched.gates }, str := { d.str with tasks := d'.str.tasks, abortReqs := d'.str.abortReqs }, link := d'.link, out := d'.out }))

/-- A cell exception records its code and restarts the cell; a datapath or store fault fences it. R180, R194, R195, R196, R542. -/
def Obligations.CellExceptions : Prop :=
  (∀ (c : CellId) (rd rs1 : Reg) (imm : BitVec 16) (a : Nat), Completes (.lw c rd rs1 imm)
      (fun d => d.runs ∧ d.regsWf ∧ d.cellReady c ∧ d.fld (Reg.CELL_CTRL c.die.val) Fd.CELL_CTRL_EXC_HALT = 0 ∧ Map.rising d.str.tasks = true ∧ ((d.cell c.gid).w rs1.val + BitVec.ofInt 32 imm.toInt).toNat = a ∧ 0x400 ≤ a ∧ (a < 0x1_0000 ∨ 0x3_0000 ≤ a))
      (fun d d' => d.excepted d' c 0x0510 (d.cell c.gid).pc.toNat ∧
        ∀ k t, d.findTask (d.cell c.gid).tag = some (k, t) → t.state = .open → t.aborting = false →
          (d'.str.tasks.get? k).map (fun x => (x.aborting, x.code)) = some (true, 0x0510) ∧ ∃ more, d'.str.abortReqs = d.str.abortReqs ++ [((d.cell c.gid).tag, 0x0510)] ++ more)) ∧
  (∀ (c : CellId) (rs2 rs1 : Reg) (imm : BitVec 16) (a : Nat), Completes (.sw c rs2 rs1 imm)
      (fun d => d.runs ∧ d.regsWf ∧ d.cellReady c ∧ d.fld (Reg.CELL_CTRL c.die.val) Fd.CELL_CTRL_EXC_HALT = 0 ∧ Map.rising d.str.tasks = true ∧ ((d.cell c.gid).w rs1.val + BitVec.ofInt 32 imm.toInt).toNat = a ∧ (a + 4 ≤ 0x400 ∨ 0x1_0000 ≤ a ∧ a + 4 ≤ 0x3_0000) ∧ a % 4 ≠ 0)
      (fun d d' => d.excepted d' c 0x0511 (d.cell c.gid).pc.toNat ∧ d'.mem = d.mem ∧
        ∀ k t, d.findTask (d.cell c.gid).tag = some (k, t) → t.state = .open → t.aborting = false →
          (d'.str.tasks.get? k).map (fun x => (x.aborting, x.code)) = some (true, 0x0511) ∧ ∃ more, d'.str.abortReqs = d.str.abortReqs ++ [((d.cell c.gid).tag, 0x0511)] ++ more)) ∧
  (∀ (c : CellId) (rs1 : Reg) (k : Nat) (t : Task), Completes (.trap c rs1)
      (fun d => d.runs ∧ d.regsWf ∧ d.cellReady c ∧ d.fld (Reg.CELL_CTRL c.die.val) Fd.CELL_CTRL_EXC_HALT = 0 ∧ Map.rising d.str.tasks = true ∧ d.findTask (d.cell c.gid).tag = some (k, t) ∧ t.state = .open ∧ t.aborting = false)
      (fun d d' => d.excepted d' c 0x0517 (d.cell c.gid).pc.toNat ∧ (d'.str.tasks.get? k).map (fun x => (x.aborting, x.code)) = some (true, 0x0517) ∧
        (∃ more, d'.str.abortReqs = d.str.abortReqs ++ [((d.cell c.gid).tag, 0x0517)] ++ more) ∧ d'.mem = d.mem ∧ (∀ j, j ≠ c.gid → d'.cell j = d.cell j))) ∧
  (∀ (c : CellId) (rs1 : Reg), Completes (.trap c rs1)
      (fun d => d.runs ∧ d.regsWf ∧ d.cellReady c ∧ d.fld (Reg.CELL_CTRL c.die.val) Fd.CELL_CTRL_EXC_HALT = 1)
      (fun d d' => (d'.cell c.gid).state = .halted ∧ (d'.cell c.gid).exc = 0x0517 + 2 ^ 16 * ((d.cell c.gid).pc.toNat / 4 % 4096) ∧ (d'.cell c.gid).regs = (d.cell c.gid).regs)) ∧
  (∀ (c : CellId) (h : ErrEntry), Completes (.cellResidueFail c)
      (fun d => d.runs ∧ d.regsWf ∧ (d.errq c.die.val).depth < 64 ∧ (d.errq c.die.val).handling = some h ∧ 4 ≤ h.event.severity)
      (fun d d' => (d'.cell c.gid).exc = 0x0518 + 2 ^ 16 * ((d.cell c.gid).pc.toNat / 4 % 4096) ∧ (d'.cell c.gid).state = .fenced ∧ (d'.cell c.gid).regs = (d.cell c.gid).regs ∧
        d.counted d' (Reg.CELL_EXC_COUNT c.die.val) 1 ∧ d.counted d' (Reg.CELL_RESIDUE_COUNT c.die.val) 1 ∧ d'.mem = d.mem ∧ (∀ j, j ≠ c.gid → d'.cell j = d.cell j) ∧ (d'.errq c.die.val).handling = some h ∧
        (∃ x, (d'.errq c.die.val).waiting = (d.errq c.die.val).waiting ++ [x] ∧ (x.event.code, x.event.severity, x.event.loc.kind, x.event.loc.sub, x.event.tag) = (0x0518, 4, 1, c.gid, (d.cell c.gid).tag)))) ∧
  (∀ (c : CellId), Completes (.cellResidueFail c)
      (fun d => d.runs ∧ d.regsWf ∧ (d.errq c.die.val).depth < 64 ∧ (d.errq c.die.val).handling = none ∧ d.fault.fmap = [] ∧ d.dieContained c.die.val = false)
      (fun d d' => (d'.cell c.gid).exc = 0x0518 + 2 ^ 16 * ((d.cell c.gid).pc.toNat / 4 % 4096) ∧ (d'.cell c.gid).state = .fenced ∧ (d'.cell c.gid).item = none ∧
        d'.fault.fmap.map (fun e => (e.2.kind, e.2.die, e.2.block, e.2.cluster, e.2.cell, e.2.code)) = [(1, c.die.val, c.block.val, c.cluster.val, c.cell.val, 0x0518)] ∧
        (d'.errq c.die.val).handling.map (fun x => (x.event.code, x.event.fenced)) = some (0x0518, true) ∧ d'.mem = d.mem ∧ (∀ j, j ≠ c.gid → d'.cell j = d.cell j))) ∧
  (∀ (c : CellId) (h : ErrEntry), Completes (.cellStoreEcc c)
      (fun d => d.runs ∧ d.regsWf ∧ (d.errq c.die.val).depth < 64 ∧ (d.errq c.die.val).handling = some h ∧ 4 ≤ h.event.severity)
      (fun d d' => (d'.cell c.gid).exc = 0x0519 + 2 ^ 16 * ((d.cell c.gid).pc.toNat / 4 % 4096) ∧ (d'.cell c.gid).state = .fenced ∧ (d'.cell c.gid).regs = (d.cell c.gid).regs ∧
        d.counted d' (Reg.CELL_EXC_COUNT c.die.val) 1 ∧ d'.mem = d.mem ∧ (∀ j, j ≠ c.gid → d'.cell j = d.cell j) ∧ (d'.errq c.die.val).handling = some h ∧
        (∃ x, (d'.errq c.die.val).waiting = (d.errq c.die.val).waiting ++ [x] ∧ (x.event.code, x.event.severity, x.event.loc.kind, x.event.loc.sub, x.event.tag) = (0x0519, 4, 1, c.gid, (d.cell c.gid).tag)))) ∧
  (∀ (c : CellId), Completes (.cellStoreEcc c)
      (fun d => d.runs ∧ d.regsWf ∧ (d.errq c.die.val).depth < 64 ∧ (d.errq c.die.val).handling = none ∧ d.fault.fmap = [] ∧ d.dieContained c.die.val = false)
      (fun d d' => (d'.cell c.gid).exc = 0x0519 + 2 ^ 16 * ((d.cell c.gid).pc.toNat / 4 % 4096) ∧ (d'.cell c.gid).state = .fenced ∧ (d'.cell c.gid).item = none ∧
        d'.fault.fmap.map (fun e => (e.2.kind, e.2.die, e.2.block, e.2.cluster, e.2.cell, e.2.code)) = [(1, c.die.val, c.block.val, c.cluster.val, c.cell.val, 0x0519)] ∧
        (d'.errq c.die.val).handling.map (fun x => (x.event.code, x.event.fenced)) = some (0x0519, true) ∧ d'.mem = d.mem ∧ (∀ j, j ≠ c.gid → d'.cell j = d.cell j))) ∧
  (∀ (die : Fin 4) (p : Fin 4096) (h : ErrEntry), Completes (.clusterFault die p)
      (fun d => d.runs ∧ d.regsWf ∧ Map.rising d.cells = true ∧ (d.errq die.val).depth < 64 ∧ (d.errq die.val).handling = some h ∧ 4 ≤ h.event.severity)
      (fun d d' => (d'.errq die.val).handling = some h ∧ (∃ x, (d'.errq die.val).waiting = (d.errq die.val).waiting ++ [x] ∧ x.event.code = 0x051A ∧ x.event.severity = 4 ∧ x.event.loc.kind = 2) ∧
        (∀ g, g / 64 = 4096 * die.val + p.val → (d.cell g).state = .running → d'.cell g = { d.cell g with exc := 0x051A + 2 ^ 16 * ((d.cell g).pc.toNat / 4 % 4096) }) ∧
        (∀ g, g / 64 ≠ 4096 * die.val + p.val ∨ (d.cell g).state ≠ .running → d'.cell g = d.cell g) ∧ (d'.reg (Reg.CELL_LAST_EXC die.val)).toNat % 2 ^ 16 = 0x051A ∧
        d.counted d' (Reg.CELL_EXC_COUNT die.val) 1 ∧ d.sameRegsBut d' [Reg.CELL_LAST_EXC die.val, Reg.CELL_LAST_EXC_TAG die.val, Reg.CELL_EXC_COUNT die.val] ∧ d'.mem = d.mem))

/-- A Gate pops, forms, releases and dispatches items; sync operations are applied in order. R204, R205, R208, R210, R212, R213, R214, R221, R222, R229. -/
def Obligations.GatesAndSyncObjects : Prop :=
  (∀ (die : Fin 4) (p : Fin 4096) (c : GateClass) (lk : Nat) (e : LiftEntry) (rest : List LiftEntry), Completes (.gatePop die p)
      (fun d => d.runs ∧ (d.gate (4096 * die.val + p.val)).stopped = false ∧ d.clusterFenced (4096 * die.val + p.val) = false ∧
        (d.popOrder (4096 * die.val + p.val)).find? (fun x => !(d.liftQ x.2.2).isEmpty && decide (d.charged (4096 * die.val + p.val) x.1.cls x.2.1 < x.1.quotas.getD x.2.1 0)) = some (c, 0, lk) ∧
        c.arity = 1 ∧ c.flowMode = 0 ∧ c.delayMode = 0 ∧ d.liftQ lk = e :: rest ∧ e.src.isStream = false)
      (fun d d' => d'.liftQ lk = rest ∧ (∃ i ∈ (d'.gate (4096 * die.val + p.val)).ready, i.cls = c.cls ∧ i.prio = c.prio ∧ i.tag = e.tag ∧ i.operands = [e.h] ∧ i.flow = none ∧ i.formStep = d.stepNum) ∧
        d'.sched.formCount = d.sched.formCount + 1 ∧ d' = { d with str := { d.str with lifts := d'.str.lifts }, sched := { d.sched with gates := d'.sched.gates, formCount := d'.sched.formCount } })) ∧
  (∀ (die : Fin 4) (k f : Nat) (g : Gate) (i : Item), Completes (.flowEntryGrant die)
      (fun d => d.runs ∧ d.sched.gates = [(k, g)] ∧ k / 4096 = die.val ∧ g.delayed = [] ∧ g.ready = [] ∧ g.flowWait = [i] ∧ i.granted = false ∧ i.flow = some f ∧ g.flows = [] ∧ d.cells = [])
      (fun d d' => (d'.gate k).flows = [f] ∧ (d'.gate k).ready = [{ i with granted := true, readyPu := d.phase }] ∧ (d'.gate k).flowWait = [] ∧
        d' = { d with sched := { d.sched with gates := d'.sched.gates } })) ∧
  (∀ (die : Fin 4) (p : Fin 4096) (i : Item) (rest : List Item), Completes (.delayRelease die p)
      (fun d => d.runs ∧ (d.gate (4096 * die.val + p.val)).delayed = i :: rest ∧ i.release ≤ d.ticks ∧ i.flow = none ∧ i.granted = true)
      (fun d d' => (∀ j ∈ (d'.gate (4096 * die.val + p.val)).delayed, d.ticks < j.release ∧ j ∈ (d.gate (4096 * die.val + p.val)).delayed) ∧ (∃ j ∈ (d'.gate (4096 * die.val + p.val)).ready, j.tag = i.tag ∧ j.operands = i.operands ∧ j.formed = i.formed) ∧
        d' = { d with sched := { d.sched with gates := d'.sched.gates } })) ∧
  (∀ (die : Fin 4) (p : Fin 4096) (i : Item) (gid rd a : Nat) (c : Cell), Completes (.gateDispatch die p)
      (fun d => d.runs ∧ d.regsWf ∧ (d.gate (4096 * die.val + p.val)).stopped = false ∧ d.clusterFenced (4096 * die.val + p.val) = false ∧ d.nextItem (4096 * die.val + p.val) = some i ∧ d.askingCell (4096 * die.val + p.val) = some (gid, c, rd, a) ∧
        Map.rising d.cells = true ∧ Map.rising c.store = true ∧ c.regs.length = 32 ∧ rd < 32 ∧ i.operands.length ≤ 4)
      (fun d d' => let x := d'.cell gid
        x.item = some i ∧ x.tag = i.tag ∧ x.blocked = none ∧ x.pc = c.pc + 4 ∧ x.load a (16 + 16 * i.operands.length) = itemRecord i ∧
        c.wroteReg x rd (match i.flow with | some f => BitVec.ofNat 32 (f + 2 ^ 20) | none => 0) ∧ (d'.gate (4096 * die.val + p.val)).ready = (d.gate (4096 * die.val + p.val)).ready.erase i ∧
        d'.fld (Reg.GATE_DISPATCH_COUNT die.val) ⟨0, 64⟩ = satAdd 64 (d.fld (Reg.GATE_DISPATCH_COUNT die.val) ⟨0, 64⟩) 1 ∧ (∀ j, j ≠ gid → d'.cell j = d.cell j))) ∧
  (∀ (die : Fin 4) (i : Fin 65536) (o : SyncOp), Completes (.syncApply die i)
      (fun d => d.runs ∧ d.plan.switch = .none ∧ d.sched.ops = [o] ∧ o.obj = 65536 * die.val + i.val ∧ Map.rising d.sched.sync = true)
      (fun d d' => let v := if o.kind = 0 then 0 else min 0xFFFF_FFFF (d.syncVal o.obj + o.amount)
        d'.syncVal o.obj = v ∧ (∀ j, j ≠ o.obj → d'.syncVal j = d.syncVal j) ∧ d'.sched.ops = [] ∧
        (∀ g rd t, (d.cell g).blocked = some (.swge rd o.obj t) → (d'.cell g).blocked = if t ≤ v then none else (d.cell g).blocked) ∧ d'.mem = d.mem)) ∧
  (∀ (die : Fin 4) (i : Fin 65536) (o1 o2 : SyncOp), Completes (.syncApply die i)
      (fun d => d.runs ∧ d.plan.switch = .none ∧ d.sched.ops.filter (fun o => o.obj = 65536 * die.val + i.val) = [o1, o2] ∧ o1.source < 2 ^ 32 ∧ o2.source < 2 ^ 32 ∧
        Map.rising d.sched.sync = true)
      (fun d d' => let obj := 65536 * die.val + i.val
        let op (v : Nat) (o : SyncOp) : Nat := if o.kind = 0 then 0 else min 0xFFFF_FFFF (v + o.amount)
        (d'.syncVal obj = if o2.kind < o1.kind ∨ (o2.kind = o1.kind ∧ o2.source < o1.source) then op (op (d.syncVal obj) o2) o1 else op (op (d.syncVal obj) o1) o2) ∧
        (∀ j, j ≠ obj → d'.syncVal j = d.syncVal j) ∧ d'.sched.ops = d.sched.ops.filter (fun o => o.obj ≠ obj) ∧ d'.mem = d.mem)) ∧
  (∀ (die : Fin 4) (i : Fin 65536) (amount : Word), Completes (.syncCmdSignal die i amount)
      (fun d => d.runs)
      (fun d d' => d' = { d with sched := { d.sched with ops := d.sched.ops ++ [{ obj := 65536 * die.val + i.val, kind := 1, source := 0, amount := amount.toNat }] } })) ∧
  (∀ (die : Fin 4) (i : Fin 65536), Completes (.syncCmdReset die i 0)
      (fun d => d.runs)
      (fun d d' => d' = { d with sched := { d.sched with ops := d.sched.ops ++ [{ obj := 65536 * die.val + i.val, kind := 0, source := 0, amount := 0 }] } })) ∧
  (∀ (die : Fin 4) (i : Fin 65536) (amount : Word), amount ≠ 0 → Completes (.syncCmdReset die i amount)
      (fun d => d.runs)
      (fun d d' => d' = d.refuse 0x0604 die.val))

/-- A Hash job pops its operand, is checked, and ends with its output in one burst, or fails. R234, R300, R301, R303. -/
def Obligations.HashJobs : Prop :=
  (∀ (die : Fin 4) (k : Fin 64) (b : List Byte) (e : LiftEntry) (rest : List LiftEntry) (x : List (List Byte) × Nat × Nat), Completes (.hashJobStart die k)
      (fun d => d.runs ∧ d.oneHead die.val 5 k.val (4096 * die.val + (hashCfg b).inLift) b e rest ∧ (hashCfg b).arity = 1 ∧ d.inputsPoisoned [e] = false ∧ (hashCfg b).check (d.takeSeq (stKey die.val 5 k.val) e.tag).1 (d.poolSize (poolKey die.val (hashCfg b).outPool)) [d.handleData e] = .inl x)
      (fun d d' => d.began d' (stKey die.val 5 k.val) (4096 * die.val + (hashCfg b).inLift) e rest)) ∧
  (∀ (die : Fin 4) (k : Fin 64) (b : List Byte) (e : LiftEntry) (rest : List LiftEntry) (code : Nat), Completes (.hashJobStart die k)
      (fun d => d.runs ∧ d.oneHead die.val 5 k.val (4096 * die.val + (hashCfg b).inLift) b e rest ∧ (hashCfg b).arity = 1 ∧ d.inputsPoisoned [e] = false ∧ (hashCfg b).check (d.takeSeq (stKey die.val 5 k.val) e.tag).1 (d.poolSize (poolKey die.val (hashCfg b).outPool)) [d.handleData e] = .inr code ∧ d.regsWf ∧ Map.rising d.stn.jobs = true)
      (fun d d' => d'.liftQ (4096 * die.val + (hashCfg b).inLift) = rest ∧ d.jobFailed d' (stKey die.val 5 k.val) (Reg.HASH_JOBS_FAILED die.val k.val) (Reg.HASH_LAST_FAIL die.val k.val) code e.tag)) ∧
  (∀ (die : Fin 4) (k : Fin 64) (b : List Byte) (e : LiftEntry) (rest : List LiftEntry), Completes (.hashJobStart die k)
      (fun d => d.runs ∧ d.oneHead die.val 5 k.val (4096 * die.val + (hashCfg b).inLift) b e rest ∧ (hashCfg b).arity = 1 ∧ d.inputsPoisoned [e] = true ∧ d.regsWf ∧ Map.rising d.stn.jobs = true)
      (fun d d' => d'.liftQ (4096 * die.val + (hashCfg b).inLift) = rest ∧ d.jobFailed d' (stKey die.val 5 k.val) (Reg.HASH_JOBS_FAILED die.val k.val) (Reg.HASH_LAST_FAIL die.val k.val) 0x0F12 e.tag)) ∧
  (∀ (die : Fin 4) (k : Fin 64) (b : List Byte) (j : Job) (a : Nat) (rest : List Nat) (x : List Byte) (nans n rows : Nat), Completes (.hashJobEnd die k)
      (fun d => d.runs ∧ d.working die.val 5 k.val b j ∧ d.canPush (poolKey die.val (hashCfg b).outPool) (d.stationOut die.val 5 k.val 1 (hashCfg b).outLift) a rest ∧
        (hashCfg b).check j.seq (d.poolSize (poolKey die.val (hashCfg b).outPool)) (j.inputs.map d.handleData) = .inl ([x], nans, n) ∧ ((j.inputs.head?.bind (fun e => columnOf (d.handleData e))).map (·.count)).getD 0 = rows)
      (fun d d' => d.pushedOne d' (stKey die.val 5 k.val) (poolKey die.val (hashCfg b).outPool) (d.stationOut die.val 5 k.val 1 (hashCfg b).outLift) j.tag
          ((j.inputs.getLast?.map (·.h.last)).getD false) x a rest ∧
        d.counted d' (Reg.HASH_JOBS_DONE die.val k.val) 1 ∧ d.counted d' (Reg.HASH_ROWS die.val k.val) rows ∧ d.counted d' (Reg.HASH_NAN_COUNT die.val k.val) nans)) ∧
  (∀ (die : Fin 4) (k : Fin 64) (b : List Byte) (j : Job) (rows : Nat), Completes (.hashJobEnd die k)
      (fun d => d.runs ∧ d.stationCfg die.val 5 k.val = some b ∧ d.stationStopped die.val 5 k.val = false ∧ d.job (stKey die.val 5 k.val) = some j ∧ j.pushed = true ∧
        d.outputWaits (stKey die.val 5 k.val) = false ∧ Map.rising d.stn.jobs = true ∧ d.regsWf ∧ ((j.inputs.head?.bind (fun e => columnOf (d.handleData e))).map (·.count)).getD 0 = rows)
      (fun d d' => d'.job (stKey die.val 5 k.val) = none ∧ d.counted d' (Reg.HASH_JOBS_DONE die.val k.val) 1 ∧ d.counted d' (Reg.HASH_ROWS die.val k.val) rows ∧
        d.sameRegsBut d' [Reg.HASH_JOBS_DONE die.val k.val, Reg.HASH_ROWS die.val k.val] ∧ d'.mem = d.mem ∧ d'.str.lifts = d.str.lifts)) ∧
  (∀ (die : Fin 4) (k : Fin 64) (b : List Byte) (j : Job), Completes (.hashJobEnd die k)
      (fun d => d.runs ∧ d.stationCfg die.val 5 k.val = some b ∧ d.stationStopped die.val 5 k.val = false ∧ d.job (stKey die.val 5 k.val) = some j ∧ j.pushed = true ∧
        d.outputWaits (stKey die.val 5 k.val) = true)
      (fun d d' => d' = d))

/-- An Ingest job pops its handle and applies the checks; it ends with the encoded or decoded bytes, or fails. R233, R234, R249, R254, R260. -/
def Obligations.IngestJobs : Prop :=
  (∀ (die : Fin 4) (k : Fin 8) (b : List Byte) (e : LiftEntry) (rest : List LiftEntry) (w : IngestJob), Completes (.ingestJobStart die k)
      (fun d => d.runs ∧ d.oneHead die.val 3 k.val (4096 * die.val + (ingestCfg b).inLift) b e rest ∧ d.inputsPoisoned [e] = false ∧ ingestJob (ingestCfg b).kind (d.handleData e) = .inl w ∧ w.check4to6 (ingestCfg b) (d.fld (Reg.INGEST_CTRL die.val) Fd.INGEST_CTRL_EXP_LIMIT) (d.poolSize (poolKey die.val (ingestCfg b).outPool)) = none ∧ d.regsWf)
      (fun d d' => (d'.job (stKey die.val 3 k.val)).map (fun j => (j.tag, j.inputs)) = some (e.tag, [e]) ∧ d'.liftQ (4096 * die.val + (ingestCfg b).inLift) = rest ∧
        (∀ n, n ≠ stKey die.val 3 k.val → d'.job n = d.job n) ∧ d.counted d' (Reg.ING_BYTES_IN die.val k.val) w.bytesIn ∧
        d.sameRegsBut d' [Reg.ING_BYTES_IN die.val k.val] ∧ d' = { d with stn := d'.stn, regs := d'.regs, str := { d.str with lifts := d'.str.lifts } })) ∧
  (∀ (die : Fin 4) (k : Fin 8) (b : List Byte) (e : LiftEntry) (rest : List LiftEntry) (code : Nat), Completes (.ingestJobStart die k)
      (fun d => d.runs ∧ d.oneHead die.val 3 k.val (4096 * die.val + (ingestCfg b).inLift) b e rest ∧ d.inputsPoisoned [e] = false ∧ ingestJob (ingestCfg b).kind (d.handleData e) = .inr code ∧ d.regsWf ∧ Map.rising d.stn.jobs = true)
      (fun d d' => d'.liftQ (4096 * die.val + (ingestCfg b).inLift) = rest ∧ d.jobFailed d' (stKey die.val 3 k.val) (Reg.ING_JOBS_FAILED die.val k.val) (Reg.ING_LAST_FAIL die.val k.val) code e.tag)) ∧
  (∀ (die : Fin 4) (k : Fin 8) (b : List Byte) (e : LiftEntry) (rest : List LiftEntry), Completes (.ingestJobStart die k)
      (fun d => d.runs ∧ d.oneHead die.val 3 k.val (4096 * die.val + (ingestCfg b).inLift) b e rest ∧ d.inputsPoisoned [e] = true ∧ d.regsWf ∧ Map.rising d.stn.jobs = true)
      (fun d d' => d'.liftQ (4096 * die.val + (ingestCfg b).inLift) = rest ∧ d.jobFailed d' (stKey die.val 3 k.val) (Reg.ING_JOBS_FAILED die.val k.val) (Reg.ING_LAST_FAIL die.val k.val) 0x0F12 e.tag)) ∧
  (∀ (die : Fin 4) (k : Fin 8) (b : List Byte) (e : LiftEntry) (rest : List LiftEntry) (w : IngestJob) (code : Nat), Completes (.ingestJobStart die k)
      (fun d => d.runs ∧ d.oneHead die.val 3 k.val (4096 * die.val + (ingestCfg b).inLift) b e rest ∧ d.inputsPoisoned [e] = false ∧ ingestJob (ingestCfg b).kind (d.handleData e) = .inl w ∧ w.check4to6 (ingestCfg b) (d.fld (Reg.INGEST_CTRL die.val) Fd.INGEST_CTRL_EXP_LIMIT) (d.poolSize (poolKey die.val (ingestCfg b).outPool)) = some code ∧ d.regsWf ∧ Map.rising d.stn.jobs = true)
      (fun d d' => d'.liftQ (4096 * die.val + (ingestCfg b).inLift) = rest ∧ d.jobFailed d' (stKey die.val 3 k.val) (Reg.ING_JOBS_FAILED die.val k.val) (Reg.ING_LAST_FAIL die.val k.val) code e.tag)) ∧
  (∀ (die : Fin 4) (k : Fin 8) (b : List Byte) (j : Job) (e : LiftEntry) (a : Nat) (rest : List Nat) (x : List Byte) (f : Nat) (p : List Byte), Completes (.ingestJobEnd die k)
      (fun d => d.runs ∧ d.working die.val 3 k.val b j ∧ j.inputs = [e] ∧ d.canPush (poolKey die.val (ingestCfg b).outPool) (d.stationOut die.val 3 k.val 1 (ingestCfg b).outLift) a rest ∧ ingestJob (ingestCfg b).kind (d.handleData e) = .inl (.encode f p) ∧ rawBuffers (d.poolSize (poolKey die.val (ingestCfg b).outPool)) j.seq (codecEncode f p) = [x])
      (fun d d' => d.pushedOne d' (stKey die.val 3 k.val) (poolKey die.val (ingestCfg b).outPool) (d.stationOut die.val 3 k.val 1 (ingestCfg b).outLift) e.tag e.h.last x a rest ∧
        d.counted d' (Reg.ING_JOBS_DONE die.val k.val) 1 ∧ d.counted d' (Reg.ING_BYTES_OUT die.val k.val) x.length)) ∧
  (∀ (die : Fin 4) (k : Fin 8) (b : List Byte) (j : Job) (e : LiftEntry) (a : Nat) (rest : List Nat) (x : List Byte) (f : Nat) (p : List Byte) (decl : Option Nat) (out : List Byte), Completes (.ingestJobEnd die k)
      (fun d => d.runs ∧ d.working die.val 3 k.val b j ∧ j.inputs = [e] ∧ d.canPush (poolKey die.val (ingestCfg b).outPool) (d.stationOut die.val 3 k.val 1 (ingestCfg b).outLift) a rest ∧ ingestJob (ingestCfg b).kind (d.handleData e) = .inl (.decode f p decl) ∧ decl.all (fun n => n = out.length) = true ∧
        (match codecDecode f p.toArray ((IngestJob.decode f p decl).bounds (j.words.headD 0) ((ingestCfg b).maxBufs * (d.poolSize (poolKey die.val (ingestCfg b).outPool) - 32)) (d.poolSize (poolKey die.val (ingestCfg b).outPool))).limit with | .ok o => decide (o.toList = out) | .error _ => false) = true ∧
        rawBuffers (d.poolSize (poolKey die.val (ingestCfg b).outPool)) j.seq out = [x])
      (fun d d' => d.pushedOne d' (stKey die.val 3 k.val) (poolKey die.val (ingestCfg b).outPool) (d.stationOut die.val 3 k.val 1 (ingestCfg b).outLift) e.tag e.h.last x a rest ∧
        d.counted d' (Reg.ING_JOBS_DONE die.val k.val) 1 ∧ d.counted d' (Reg.ING_BYTES_OUT die.val k.val) x.length)) ∧
  (∀ (die : Fin 4) (k : Fin 8) (b : List Byte) (j : Job) (e : LiftEntry) (f : Nat) (p : List Byte) (decl : Option Nat) (bnd : OutBounds) (code : Nat), Completes (.ingestJobEnd die k)
      (fun d => d.runs ∧ d.working die.val 3 k.val b j ∧ j.inputs = [e] ∧ ingestJob (ingestCfg b).kind (d.handleData e) = .inl (.decode f p decl) ∧ (IngestJob.decode f p decl).bounds (j.words.headD 0) ((ingestCfg b).maxBufs * (d.poolSize (poolKey die.val (ingestCfg b).outPool) - 32)) (d.poolSize (poolKey die.val (ingestCfg b).outPool)) = bnd ∧
        (match codecDecode f p.toArray bnd.limit with | .ok _ => none | .error er => some (bnd.failCode er)) = some code)
      (fun d d' => d'.job (stKey die.val 3 k.val) = none ∧ d.counted d' (Reg.ING_JOBS_FAILED die.val k.val) 1 ∧ d'.reg (Reg.ING_LAST_FAIL die.val k.val) = BitVec.ofNat 64 (code + 2 ^ 16 * j.tag) ∧
        d.abortAsked d' j.tag code ∧ d'.mem = d.mem ∧ (∃ v, v ≤ bnd.limit ∧ d.counted d' (Reg.ING_BYTES_OUT die.val k.val) v) ∧ d.sameRegsBut d' [Reg.ING_JOBS_FAILED die.val k.val, Reg.ING_LAST_FAIL die.val k.val, Reg.ING_BYTES_OUT die.val k.val])) ∧
  (∀ (die : Fin 4) (k : Fin 8) (b : List Byte) (j : Job) (e : LiftEntry) (f n : Nat) (p out : List Byte), Completes (.ingestJobEnd die k)
      (fun d => d.runs ∧ d.working die.val 3 k.val b j ∧ j.inputs = [e] ∧ ingestJob (ingestCfg b).kind (d.handleData e) = .inl (.decode f p (some n)) ∧ n ≠ out.length ∧
        (match codecDecode f p.toArray ((IngestJob.decode f p (some n)).bounds (j.words.headD 0) ((ingestCfg b).maxBufs * (d.poolSize (poolKey die.val (ingestCfg b).outPool) - 32)) (d.poolSize (poolKey die.val (ingestCfg b).outPool))).limit with | .ok o => decide (o.toList = out) | .error _ => false) = true)
      (fun d d' => d'.job (stKey die.val 3 k.val) = none ∧ d.counted d' (Reg.ING_JOBS_FAILED die.val k.val) 1 ∧ d'.reg (Reg.ING_LAST_FAIL die.val k.val) = BitVec.ofNat 64 (0x0719 + 2 ^ 16 * j.tag) ∧
        d.abortAsked d' j.tag 0x0719 ∧ d'.mem = d.mem ∧ (d.counted d' (Reg.ING_BYTES_OUT die.val k.val) out.length) ∧ d.sameRegsBut d' [Reg.ING_JOBS_FAILED die.val k.val, Reg.ING_LAST_FAIL die.val k.val, Reg.ING_BYTES_OUT die.val k.val]))

/-- A Pack instance stages the records of a handle, closes batches, writes them to slots and flushes. R270, R274, R281, R283, R288. -/
def Obligations.PackRecords : Prop :=
  (∀ (die k : Fin 4) (c : PackCfg) (e : LiftEntry) (rest : List LiftEntry) (rs : List PackRecord), Completes (.packHandleRead die k)
      (fun d => d.runs ∧ d.packConfig die.val k.val = some c ∧ d.liftQ (4096 * die.val + c.inLift) = e :: rest ∧ e.src.isStream = false ∧ d.taskGone e.tag = false ∧ (d.packInst die.val k.val).emitting = none ∧
        (∀ y ∈ (d.packInst die.val k.val).openB, y.full = none) ∧ d.stationStopped die.val 6 k.val = false ∧ (d.packInst die.val k.val).closed = [] ∧ (d.packInst die.val k.val).used + e.h.len ≤ d.regionSize die.val c.storeRegion ∧ d.poisoned e.h.addr e.h.len = false ∧
        parseRecords c (d.packInst die.val k.val) (e.h.len / 64 + 1) (d.handleData e) = .inl rs)
      (fun d d' => (d'.packInst die.val k.val) = { (d.packInst die.val k.val) with staged := (d.packInst die.val k.val).staged ++ rs.map (fun r => (e.tag, r)) } ∧ d'.liftQ (4096 * die.val + c.inLift) = rest ∧
        d' = { d with pack := d'.pack, str := { d.str with lifts := d'.str.lifts, flight := d'.str.flight } })) ∧
  (∀ (die k : Fin 4) (c : PackCfg) (e : LiftEntry) (rest : List LiftEntry) (code : Nat), Completes (.packHandleRead die k)
      (fun d => d.runs ∧ d.packConfig die.val k.val = some c ∧ d.liftQ (4096 * die.val + c.inLift) = e :: rest ∧ e.src.isStream = false ∧ d.taskGone e.tag = false ∧ (d.packInst die.val k.val).emitting = none ∧
        (∀ y ∈ (d.packInst die.val k.val).openB, y.full = none) ∧ d.stationStopped die.val 6 k.val = false ∧ (d.packInst die.val k.val).closed = [] ∧ (d.packInst die.val k.val).used + e.h.len ≤ d.regionSize die.val c.storeRegion ∧ d.poisoned e.h.addr e.h.len = false ∧
        parseRecords c (d.packInst die.val k.val) (e.h.len / 64 + 1) (d.handleData e) = .inr code)
      (fun d d' => d'.pack = d.pack ∧ d.abortAsked d' e.tag code ∧ d'.liftQ (4096 * die.val + c.inLift) = rest ∧ d'.mem = d.mem ∧ d'.regs = d.regs)) ∧
  (∀ (die k : Fin 4) (batch : Nat) (c : PackCfg) (x : PackBatch), Completes (.batchCloseBudget die k batch)
      (fun d => d.runs ∧ d.packConfig die.val k.val = some c ∧ (d.packInst die.val k.val).openB.find? (fun y => y.id = batch) = some x ∧ x.openStep = d.stepNum ∧ x.full = none ∧ d.packOff die.val k.val = false ∧ batch < 2 ^ 32 ∧ d.regsWf ∧ Map.rising d.regs = true)
      (fun d d' => (d'.packInst die.val k.val).openB = (d.packInst die.val k.val).openB.filter (fun y => y.id != batch) ∧
        (∃ cb, (d'.packInst die.val k.val).closed = (d.packInst die.val k.val).closed ++ [cb] ∧ leAt cb.bytes 0 4 = batch ∧ leAt cb.bytes 28 1 = 1 ∧ leAt cb.bytes 4 4 = cb.samples % 2 ^ 32) ∧
        d.counted d' (Reg.PACK_BATCHES die.val k.val) 1 ∧ d'.mem = d.mem ∧ d.timeOfPhase (x.closePoint c) ≤ d'.now)) ∧
  (∀ (die k : Fin 4) (c : PackCfg) (cb : ClosedBatch) (cs : List ClosedBatch), Completes (.packEmit die k)
      (fun d => d.runs ∧ d.packConfig die.val k.val = some c ∧ d.stationStopped die.val 6 k.val = false ∧ Memory.wf d.mem = true ∧ (d.packInst die.val k.val).closed = cb :: cs ∧ cs ≠ [] ∧ (d.packInst die.val k.val).slots = [] ∧ (d.packInst die.val k.val).emitting = none ∧ 0 < c.slots ∧
        (∀ y ∈ (d.packInst die.val k.val).openB, y.full = none) ∧ (d.stream (packStream die.val k.val)).state = .idle)
      (fun d d' => d.stored d' (d.regionBase die.val c.slotRegion) cb.bytes ∧ (d'.packInst die.val k.val).closed = cs ∧ (d'.packInst die.val k.val).slots = [] ∧
        (d'.packInst die.val k.val).emitting = some { slot := 0, samples := cb.samples, rows := cb.rows, late := cb.late } ∧ d'.regs = d.regs)) ∧
  (∀ (die k : Fin 4) (c : PackCfg) (cb : ClosedBatch) (cs : List ClosedBatch) (x : PackSlot) (i : Nat), Completes (.packEmit die k)
      (fun d => d.runs ∧ d.packConfig die.val k.val = some c ∧ d.stationStopped die.val 6 k.val = false ∧ Memory.wf d.mem = true ∧ d.regsWf ∧ (d.packInst die.val k.val).closed = cb :: cs ∧ (d.packInst die.val k.val).emitting = some x ∧
        (List.range c.slots).find? (fun s => s ∉ (d.packInst die.val k.val).busySlots) = some i ∧ (∀ y ∈ (d.packInst die.val k.val).openB, y.full = none) ∧ (d.stream (packStream die.val k.val)).state ≠ .done)
      (fun d d' => d.stored d' (d.regionBase die.val c.slotRegion + i * c.slotBytes) cb.bytes ∧ (d'.packInst die.val k.val).closed = cs ∧
        (d'.packInst die.val k.val).slots = (d.packInst die.val k.val).slots ++ [{ slot := i, samples := cb.samples, rows := cb.rows, late := cb.late }] ∧ (d'.packInst die.val k.val).emitting = some x ∧
        bitAt (d'.fld (Reg.PACK_CMD die.val) Fd.PACK_CMD_FLUSH) k.val = (bitAt (d.fld (Reg.PACK_CMD die.val) Fd.PACK_CMD_FLUSH) k.val && !cs.isEmpty) ∧ d.sameRegsBut d' [Reg.PACK_CMD die.val])) ∧
  (∀ (die k : Fin 4), Completes (.packFlush die k)
      (fun d => d.runs ∧ d.packConfig die.val k.val = none)
      (fun d d' => d' = d.refuse 0x0805 die.val)) ∧
  (∀ (die k : Fin 4) (c : PackCfg) (x : PackBatch), Completes (.packFlush die k)
      (fun d => d.runs ∧ d.packConfig die.val k.val = some c ∧ (d.packInst die.val k.val).openB = [x] ∧ x.full = none ∧ d.packOff die.val k.val = false ∧ x.id < 2 ^ 32 ∧ d.regsWf)
      (fun d d' => (d'.packInst die.val k.val).openB = [] ∧ (∃ cb, (d'.packInst die.val k.val).closed = (d.packInst die.val k.val).closed ++ [cb] ∧ leAt cb.bytes 0 4 = x.id ∧ leAt cb.bytes 28 1 = if x.openStep = d.stepNum ∧ x.closePoint c ≤ d.phase then 1 else 4) ∧ d.counted d' (Reg.PACK_BATCHES die.val k.val) 1 ∧
        d'.mem = d.mem ∧ bitAt (d'.fld (Reg.PACK_CMD die.val) Fd.PACK_CMD_FLUSH) k.val = true))

/-- A gang searches its rows, stages and applies entry changes, answers with results and status words, and serves host actions. R314, R315, R321, R324, R325, R326, R328, R329, R331. -/
def Obligations.MatchJobs : Prop :=
  (∀ (die : Fin 4) (k : Fin 64) (b : List Byte) (e : LiftEntry) (rest : List LiftEntry) (cs : List Column), Completes (.matchSearchJob die k [])
      (fun d => d.runs ∧ d.stationCfg die.val 1 k.val = some b ∧ d.gangStopped die.val k.val (matchCfg b) = false ∧ (matchCfg b).arity = 1 ∧ d.job (matchKey die.val k.val) = none ∧ d.liftQ (4096 * die.val + (matchCfg b).inLift) = e :: rest ∧ e.src.isStream = false ∧ d.taskGone e.tag = false ∧ d.headIsUpdate (4096 * die.val + (matchCfg b).inLift) = false ∧ d.inputsPoisoned [e] = false ∧ searchCheck (matchCfg b) (d.poolSize (poolKey die.val (matchCfg b).outPool)) [d.handleData e] = .inl cs)
      (fun d d' => d.began d' (matchKey die.val k.val) (4096 * die.val + (matchCfg b).inLift) e rest)) ∧
  (∀ (die : Fin 4) (k : Fin 64) (b : List Byte) (j : Job) (cs : List Column) (n r : Nat), Completes (.matchSearchJob die k [])
      (fun d => d.runs ∧ d.stationCfg die.val 1 k.val = some b ∧ d.gangStopped die.val k.val (matchCfg b) = false ∧ d.job (matchKey die.val k.val) = some j ∧ (d.gang die.val k.val).apply = [] ∧ d.hostWaits die.val k.val (matchCfg b) = false ∧ d.gangBad die.val k.val (matchCfg b) = false ∧ d.regsWf ∧
        searchCheck (matchCfg b) (d.poolSize (poolKey die.val (matchCfg b).outPool)) (j.inputs.map d.handleData) = .inl cs ∧ (cs.head?.map (·.count)).getD 0 = n ∧ j.words.length = 3 * r ∧ r < n ∧ rowPresent cs r = true)
      (fun d d' => let f := d.search die.val k.val (matchCfg b) (searchKey (matchCfg b) cs r)
        d'.job (matchKey die.val k.val) = some { j with words := j.words ++ [1, statusWord f, match f with | some x => x.entry.result | none => (matchCfg b).miss] } ∧
        d.counted d' (Reg.MATCH_SEARCHES die.val k.val) 1 ∧ d.counted d' (Reg.MATCH_HITS die.val k.val) (bit f.isSome) ∧
        d' = { d with stn := d'.stn, regs := d'.regs })) ∧
  (∀ (die : Fin 4) (k : Fin 64) (b : List Byte) (e : LiftEntry) (rest : List LiftEntry) (xs : List MatchChange) (i : Nat) (t : Task), Completes (.matchUpdateJob die k)
      (fun d => d.runs ∧ d.stationCfg die.val 1 k.val = some b ∧ d.gangStopped die.val k.val (matchCfg b) = false ∧ d.job (matchKey die.val k.val) = none ∧ d.liftQ (4096 * die.val + (matchCfg b).inLift) = e :: rest ∧ e.src.isStream = false ∧ d.headIsUpdate (4096 * die.val + (matchCfg b).inLift) = true ∧ d.inputsPoisoned [e] = false ∧
        updateCheck (matchCfg b) (d.handleData e) = .inl xs ∧ d.findTask e.tag = some (i, t) ∧ t.state = .open ∧ t.aborting = false ∧ d.stagingUsed die.val + 2 * xs.length ≤ d.stagingCapacity die.val)
      (fun d d' => (d'.gang die.val k.val).staged = (d.gang die.val k.val).staged ++ xs.map (fun x => (e.tag, x)) ∧ (d'.gang die.val k.val).apply = (d.gang die.val k.val).apply ∧
        d'.liftQ (4096 * die.val + (matchCfg b).inLift) = rest ∧ d'.matchE = d.matchE ∧ d'.mem = d.mem ∧ d'.regs = d.regs ∧ d'.job (matchKey die.val k.val) = none)) ∧
  (∀ (die : Fin 4) (k : Fin 64) (b : List Byte) (j : Job) (cs : List Column) (a c : Nat) (x y : List Byte), Completes (.matchJobEnd die k)
      (fun d => d.runs ∧ d.working die.val 1 k.val b j ∧ searchCheck (matchCfg b) (d.poolSize (poolKey die.val (matchCfg b).outPool)) (j.inputs.map d.handleData) = .inl cs ∧ (matchCfg b).mode = 0 ∧
        (List.range ((cs.head?.map (·.count)).getD 0)).all (fun r => decide (r < j.words.length / 3) || !(rowPresent cs r)) = true ∧
        d.str.pools.getD (poolKey die.val (matchCfg b).outPool) [] = [a, c] ∧ d.str.pushWait = [] ∧ d.liftLoad (d.stationOut die.val 1 k.val 1 (matchCfg b).outLift) < 255 ∧
        x.length ≤ d.poolSize (poolKey die.val (matchCfg b).outPool) ∧ y.length ≤ d.poolSize (poolKey die.val (matchCfg b).outPool) ∧
        searchOutputs (matchCfg b) cs j.seq j.words = [x, y] ∧ (a + x.length ≤ c ∨ c + y.length ≤ a))
      (fun d d' => (∀ i, i < x.length → memRead d'.mem (a + i) = x.getD i 0) ∧ (∀ i, i < y.length → memRead d'.mem (c + i) = y.getD i 0) ∧
        (∀ z, (z < a ∨ a + x.length ≤ z) → (z < c ∨ c + y.length ≤ z) → memRead d'.mem z = memRead d.mem z) ∧ d'.job (matchKey die.val k.val) = none ∧ d'.regs = d.regs ∧ d'.matchE = d.matchE)) ∧
  (∀ (die : Fin 4) (k : Fin 64) (b : List Byte) (x : MatchChange) (r : List MatchChange), Completes (.matchCommitApply die k 0)
      (fun d => d.runs ∧ d.stationCfg die.val 1 k.val = some b ∧ d.mgmt.gated = false ∧ d.hostWaits die.val k.val (matchCfg b) = false ∧ (d.gang die.val k.val).apply = x :: r ∧ (matchCfg b).paired = false ∧ (matchCfg b).wide = false ∧
        x.op = 1 ∧ Map.rising d.matchE = true ∧ d.regsWf)
      (fun d d' => d'.entry (gangPlace die.val k.val (matchCfg b) x.index).lo = { state := 1, key := x.key % 2 ^ 160, care := x.care % 2 ^ 160, result := x.result, prio := x.prio } ∧
        (∀ n, n ≠ (gangPlace die.val k.val (matchCfg b) x.index).lo → d'.entry n = d.entry n) ∧ d'.gang die.val k.val = { (d.gang die.val k.val) with apply := r } ∧
        d.counted d' (Reg.MATCH_UPDATES die.val k.val) 1 ∧ d' = { d with matchE := d'.matchE, matchI := d'.matchI, regs := d'.regs })) ∧
  (∀ (die : Fin 4) (k : Fin 64) (b : List Byte) (x : MatchChange) (r : List MatchChange), Completes (.matchCommitApply die k 0)
      (fun d => d.runs ∧ d.stationCfg die.val 1 k.val = some b ∧ d.mgmt.gated = false ∧ d.hostWaits die.val k.val (matchCfg b) = false ∧ (d.gang die.val k.val).apply = x :: r ∧ (matchCfg b).paired = false ∧ (matchCfg b).wide = false ∧
        x.op = 2 ∧ Map.rising d.matchE = true)
      (fun d d' => ((d'.entry (gangPlace die.val k.val (matchCfg b) x.index).lo).state = 0) ∧ (d'.entry (gangPlace die.val k.val (matchCfg b) x.index).lo).result = (d.entry (gangPlace die.val k.val (matchCfg b) x.index).lo).result ∧
        (∀ n, n ≠ (gangPlace die.val k.val (matchCfg b) x.index).lo → d'.entry n = d.entry n))) ∧
  (∀ (die : Fin 4) (bank : Nat) (x : MatchChange), Completes (.matchHostApply ⟨die, 0⟩)
      (fun d => d.runs ∧ d.fld (Reg.MATCH_HOST_CMD die.val) ⟨9, 1⟩ = 1 ∧ d.fld (Reg.MATCH_HOST_CMD die.val) ⟨7, 2⟩ = 0 ∧ d.fld (Reg.MATCH_HOST_CMD die.val) ⟨6, 1⟩ = 0 ∧ d.plan.switch = .none ∧ d.fld (Reg.MATCH_HOST_CMD die.val) ⟨0, 6⟩ = bank ∧ d.hostBankStopped die.val bank false = false ∧ d.regsWf ∧ Map.rising d.matchE = true ∧ d.hostRecordsBad die.val 0 false = none ∧ changeOf (d.hostRecord die.val 0) = x ∧ x.op = 1)
      (fun d d' => d'.entry (entryNo die.val bank x.index) = { state := 1, key := x.key % 2 ^ 160, care := x.care % 2 ^ 160, result := x.result, prio := x.prio } ∧ (∀ n, n ≠ entryNo die.val bank x.index → d'.entry n = d.entry n) ∧ d.counted d' (Reg.MATCH_UPDATES die.val (((d.gangOf die.val bank).map (·.1)).getD bank)) 1 ∧ d'.fld (Reg.MATCH_HOST_CMD die.val) ⟨9, 1⟩ = 0 ∧ d'.fld (Reg.MATCH_HOST_CMD die.val) ⟨32, 16⟩ = 0)) ∧
  (∀ (die : Fin 4) (bank : Nat) (x y : MatchChange), Completes (.matchHostPair ⟨die, 0⟩)
      (fun d => d.runs ∧ d.fld (Reg.MATCH_HOST_CMD die.val) ⟨9, 1⟩ = 1 ∧ d.fld (Reg.MATCH_HOST_CMD die.val) ⟨7, 2⟩ = 1 ∧ d.fld (Reg.MATCH_HOST_CMD die.val) ⟨6, 1⟩ = 0 ∧ d.plan.switch = .none ∧ d.fld (Reg.MATCH_HOST_CMD die.val) ⟨0, 6⟩ = bank ∧ d.hostBankStopped die.val bank false = false ∧ d.regsWf ∧ Map.rising d.matchE = true ∧ d.hostRecordsBad die.val 1 false = none ∧ changeOf (d.hostRecord die.val 0) = x ∧ x.op = 1 ∧ changeOf (d.hostRecord die.val 1) = y ∧ y.op = 2 ∧ y.index ≠ x.index)
      (fun d d' => d'.entry (entryNo die.val bank x.index) = { state := 1, key := x.key % 2 ^ 160, care := x.care % 2 ^ 160, result := x.result, prio := x.prio } ∧ (d'.entry (entryNo die.val bank y.index)).state = 0 ∧ (∀ n, n ≠ entryNo die.val bank x.index → n ≠ entryNo die.val bank y.index → d'.entry n = d.entry n) ∧ d.counted d' (Reg.MATCH_UPDATES die.val (((d.gangOf die.val bank).map (·.1)).getD bank)) 2 ∧ d'.fld (Reg.MATCH_HOST_CMD die.val) ⟨9, 1⟩ = 0 ∧ d'.fld (Reg.MATCH_HOST_CMD die.val) ⟨32, 16⟩ = 0)) ∧
  (∀ (die : Fin 4) (bank i : Nat) (x : MatchEntry), Completes (.matchHostRead ⟨die, 0⟩)
      (fun d => d.runs ∧ d.fld (Reg.MATCH_HOST_CMD die.val) ⟨9, 1⟩ = 1 ∧ d.fld (Reg.MATCH_HOST_CMD die.val) ⟨7, 2⟩ = 2 ∧ d.fld (Reg.MATCH_HOST_CMD die.val) ⟨6, 1⟩ = 0 ∧ d.plan.switch = .none ∧ d.fld (Reg.MATCH_HOST_CMD die.val) ⟨0, 6⟩ = bank ∧ d.hostBankStopped die.val bank false = false ∧ d.regsWf ∧ Map.rising d.matchE = true ∧ d.hostRecordsBad die.val 2 false = none ∧ (changeOf (d.hostRecord die.val 0)).index = i ∧ d.entry (entryNo die.val bank i) = x ∧ x.state < 4 ∧ i < 65536 ∧ x.key < 2 ^ 160 ∧ x.care < 2 ^ 160 ∧ x.result < 2 ^ 64 ∧ x.prio < 256)
      (fun d d' => d'.hostRecord die.val 0 = entryRecord i x ∧ d'.fld (Reg.MATCH_HOST_CMD die.val) ⟨10, 2⟩ = x.state ∧ d'.matchE = d.matchE ∧ d'.fld (Reg.MATCH_HOST_CMD die.val) ⟨9, 1⟩ = 0 ∧ d'.fld (Reg.MATCH_HOST_CMD die.val) ⟨32, 16⟩ = 0))

/-- A Select instance takes whole buffers as jobs and pieces into rows, and pushes the result of a job. R344, R345, R347, R350, R354. -/
def Obligations.SelectJobs : Prop :=
  (∀ (die : Fin 4) (k : Fin 16) (b : List Byte) (e : LiftEntry) (rest : List LiftEntry), Completes (.selectPiece die k)
      (fun d => d.runs ∧ d.oneHead die.val 2 k.val (4096 * die.val + (selectCfg b).inLift) b e rest ∧ d.inputsPoisoned [e] = false ∧ scoreCheck (selectCfg b) (d.handleData e) = none ∧ (scoreHead (d.handleData e)).whole = true ∧ d.selRows (stKey die.val 2 k.val) = [])
      (fun d d' => d.began d' (stKey die.val 2 k.val) (4096 * die.val + (selectCfg b).inLift) e rest)) ∧
  (∀ (die : Fin 4) (k : Fin 16) (b : List Byte) (e : LiftEntry) (rest : List LiftEntry) (h : ScoreHead), Completes (.selectPiece die k)
      (fun d => d.runs ∧ d.oneHead die.val 2 k.val (4096 * die.val + (selectCfg b).inLift) b e rest ∧ d.inputsPoisoned [e] = false ∧ e.h.last = false ∧ scoreCheck (selectCfg b) (d.handleData e) = none ∧ scoreHead (d.handleData e) = h ∧ h.whole = false ∧ d.selRows (stKey die.val 2 k.val) = [] ∧ 0 < (selectCfg b).openRows ∧ d.regsWf)
      (fun d d' => d'.selRows (stKey die.val 2 k.val) = [{ tag := e.tag, row := h.row, type := h.type, lastPiece := if h.lastPiece then some h.piece else none, last := false, pieces := [{ no := h.piece, count := h.count, indexBase := h.indexBase, data := scoreRow (d.handleData e) h (selectCfg b).indexed 0 }] }] ∧
        d'.liftQ (4096 * die.val + (selectCfg b).inLift) = rest ∧ d.counted d' (Reg.SEL_NAN_COUNT die.val k.val) (({ no := h.piece, count := h.count, indexBase := h.indexBase, data := scoreRow (d.handleData e) h (selectCfg b).indexed 0 } : SelPiece).work (selectCfg b) h.type).1 ∧ d.counted d' (Reg.SEL_PASSES die.val k.val) (({ no := h.piece, count := h.count, indexBase := h.indexBase, data := scoreRow (d.handleData e) h (selectCfg b).indexed 0 } : SelPiece).work (selectCfg b) h.type).2 ∧ d.sameRegsBut d' [Reg.SEL_NAN_COUNT die.val k.val, Reg.SEL_PASSES die.val k.val] ∧
        d' = { d with sel := d'.sel, regs := d'.regs, str := { d.str with lifts := d'.str.lifts, flight := d'.str.flight } })) ∧
  (∀ (die : Fin 4) (k : Fin 16) (b : List Byte) (e : LiftEntry) (rest : List LiftEntry) (h : ScoreHead) (r : SelRow), Completes (.selectPiece die k)
      (fun d => d.runs ∧ d.oneHead die.val 2 k.val (4096 * die.val + (selectCfg b).inLift) b e rest ∧ d.inputsPoisoned [e] = false ∧ e.h.last = false ∧ scoreCheck (selectCfg b) (d.handleData e) = none ∧ scoreHead (d.handleData e) = h ∧ h.whole = false ∧ d.selRows (stKey die.val 2 k.val) = [r] ∧ r.tag = e.tag ∧ r.row = h.row ∧ r.complete = false ∧ pieceCheck (selectCfg b) [r] h e.tag false = none ∧ d.regsWf)
      (fun d d' => let x : SelRow := { r with lastPiece := if h.lastPiece then some h.piece else r.lastPiece, pieces := r.pieces ++ [{ no := h.piece, count := h.count, indexBase := h.indexBase, data := scoreRow (d.handleData e) h (selectCfg b).indexed 0 }] }
        d'.selRows (stKey die.val 2 k.val) = [x] ∧ d'.liftQ (4096 * die.val + (selectCfg b).inLift) = rest ∧
        d'.job (stKey die.val 2 k.val) = (if x.complete then some { mode := 1, tag := e.tag, inputs := [], seq := 0, words := [], bytes := [] } else none) ∧
        d.counted d' (Reg.SEL_NAN_COUNT die.val k.val) (({ no := h.piece, count := h.count, indexBase := h.indexBase, data := scoreRow (d.handleData e) h (selectCfg b).indexed 0 } : SelPiece).work (selectCfg b) h.type).1 ∧ d.counted d' (Reg.SEL_PASSES die.val k.val) (({ no := h.piece, count := h.count, indexBase := h.indexBase, data := scoreRow (d.handleData e) h (selectCfg b).indexed 0 } : SelPiece).work (selectCfg b) h.type).2 ∧ d.sameRegsBut d' [Reg.SEL_NAN_COUNT die.val k.val, Reg.SEL_PASSES die.val k.val] ∧
        d' = { d with sel := d'.sel, stn := d'.stn, regs := d'.regs, str := { d.str with lifts := d'.str.lifts, flight := d'.str.flight } })) ∧
  (∀ (die : Fin 4) (k : Fin 16) (b : List Byte) (e : LiftEntry) (rest : List LiftEntry) (code : Nat), Completes (.selectPiece die k)
      (fun d => d.runs ∧ d.oneHead die.val 2 k.val (4096 * die.val + (selectCfg b).inLift) b e rest ∧ d.inputsPoisoned [e] = false ∧ scoreCheck (selectCfg b) (d.handleData e) = some code ∧ d.regsWf ∧ Map.rising d.stn.jobs = true)
      (fun d d' => d'.liftQ (4096 * die.val + (selectCfg b).inLift) = rest ∧ d.jobFailed d' (stKey die.val 2 k.val) (Reg.SEL_JOBS_FAILED die.val k.val) (Reg.SEL_LAST_FAIL die.val k.val) code e.tag ∧ ∀ r ∈ d'.selRows (stKey die.val 2 k.val), r.tag ≠ e.tag)) ∧
  (∀ (die : Fin 4) (k : Fin 16) (b : List Byte) (j : Job) (e : LiftEntry) (a : Nat) (rest : List Nat), Completes (.selectJobEnd die k)
      (fun d => d.runs ∧ d.working die.val 2 k.val b j ∧ j.inputs = [e] ∧ (selectCfg b).op ≠ 2 ∧ d.canPush (poolKey die.val (selectCfg b).outPool) (d.stationOut die.val 2 k.val 1 (selectCfg b).outLift) a rest ∧
        ((jobRows (selectCfg b) (d.handleData e)).flatMap (fun r => resultBytes (selectCfg b) r.2.1 r.1 (selectRow (selectCfg b) r.2.1 r.2.2) 0)).length ≤ d.poolSize (poolKey die.val (selectCfg b).outPool))
      (fun d d' => ∃ v < 2 ^ 32, let x := (jobRows (selectCfg b) (d.handleData e)).flatMap (fun r => resultBytes (selectCfg b) r.2.1 r.1 (selectRow (selectCfg b) r.2.1 r.2.2) v)
        d.pushedOne d' (stKey die.val 2 k.val) (poolKey die.val (selectCfg b).outPool) (d.stationOut die.val 2 k.val 1 (selectCfg b).outLift) j.tag e.h.last x a rest ∧
        d.counted d' (Reg.SEL_ROWS_DONE die.val k.val) (jobRows (selectCfg b) (d.handleData e)).length)) ∧
  (∀ (die : Fin 4) (k : Fin 16) (b : List Byte) (j : Job) (r : SelRow) (a : Nat) (rest : List Nat), Completes (.selectJobEnd die k)
      (fun d => d.runs ∧ d.working die.val 2 k.val b j ∧ j.inputs = [] ∧ (selectCfg b).op ≠ 2 ∧ d.canPush (poolKey die.val (selectCfg b).outPool) (d.stationOut die.val 2 k.val 1 (selectCfg b).outLift) a rest ∧
        (d.selRows (stKey die.val 2 k.val)).find? (·.complete) = some r ∧ Map.rising d.sel = true ∧
        (resultBytes (selectCfg b) r.type r.row (selectRow (selectCfg b) r.type r.pieces) 0).length ≤ d.poolSize (poolKey die.val (selectCfg b).outPool))
      (fun d d' => ∃ v < 2 ^ 32, d.pushedOne d' (stKey die.val 2 k.val) (poolKey die.val (selectCfg b).outPool) (d.stationOut die.val 2 k.val 1 (selectCfg b).outLift) j.tag r.last
          (resultBytes (selectCfg b) r.type r.row (selectRow (selectCfg b) r.type r.pieces) v) a rest ∧
        d.counted d' (Reg.SEL_ROWS_DONE die.val k.val) 1 ∧ d'.selRows (stKey die.val 2 k.val) = (d.selRows (stKey die.val 2 k.val)).filter (fun x => !x.complete)))

/-- A Gather instance forms the result of a lookup from the committed rows, and the contributions of a gradient. R375, R376, R377, R378, R383, R384. -/
def Obligations.GatherJobs : Prop :=
  (∀ (die : Fin 4) (k : Fin 16) (b : List Byte) (e : LiftEntry) (rest : List LiftEntry) (kind : Nat) (g : GatherBuf) (x : TableRec), Completes (.gatherLookupJob die k)
      (fun d => d.runs ∧ d.oneHead die.val 4 k.val (4096 * die.val + (gatherCfg b).inLift) b e rest ∧ d.gatherApplying die.val k.val = false ∧ d.gatherHead die.val b = some (kind, false) ∧ kind ≠ 3 ∧
        d.inputsPoisoned [e] = false ∧ d.gatherRead [e] = some g ∧ d.gatherTable die.val k.val g.table = some x ∧
        64 + ceil64 (4 * rOut g.pool g.bags g.entries) + rOut g.pool g.bags g.entries * x.outRow ≤ d.poolSize (poolKey die.val (gatherCfg b).outPool) ∧
        (x.policyZero = true ∨ ∀ r ∈ g.idx, x.valid r = true) ∧ (∀ r ∈ g.idx, d.rowPoisoned die.val x (d.embT (embKey die.val x.id)) r = false))
      (fun d d' => (d'.job (stKey die.val 4 k.val)).map (fun j => (j.tag, j.inputs, j.bytes)) = some (e.tag, [e], d.lookupResult die.val x (d.embT (embKey die.val x.id)) g) ∧
        d'.liftQ (4096 * die.val + (gatherCfg b).inLift) = rest ∧ d' = { d with stn := d'.stn, str := { d.str with lifts := d'.str.lifts } })) ∧
  (∀ (die : Fin 4) (k : Fin 16) (b : List Byte) (e : LiftEntry) (rest : List LiftEntry) (kind : Nat), Completes (.gatherLookupJob die k)
      (fun d => d.runs ∧ d.oneHead die.val 4 k.val (4096 * die.val + (gatherCfg b).inLift) b e rest ∧ d.gatherApplying die.val k.val = false ∧ d.gatherHead die.val b = some (kind, false) ∧ kind ≠ 3 ∧
        d.inputsPoisoned [e] = false ∧ d.gatherRead [e] = none ∧ d.regsWf ∧ Map.rising d.stn.jobs = true)
      (fun d d' => d'.liftQ (4096 * die.val + (gatherCfg b).inLift) = rest ∧ d.jobFailed d' (stKey die.val 4 k.val) (Reg.GATHER_JOBS_FAILED die.val k.val) (Reg.GATHER_LAST_FAIL die.val k.val) 0x0C13 e.tag ∧ d'.emb = d.emb)) ∧
  (∀ (die : Fin 4) (k : Fin 16) (b : List Byte) (e : LiftEntry) (rest : List LiftEntry) (kind : Nat) (g : GatherBuf) (x : TableRec), Completes (.gatherGradientJob die k)
      (fun d => d.runs ∧ d.oneHead die.val 4 k.val (4096 * die.val + (gatherCfg b).inLift) b e rest ∧ d.gatherApplying die.val k.val = false ∧ d.gatherHead die.val b = some (kind, false) ∧ kind = 3 ∧
        d.inputsPoisoned [e] = false ∧ d.gatherRead [e] = some g ∧ d.gatherTable die.val k.val g.table = some x ∧ x.opt ≠ 0 ∧ g.cols = x.colCount ∧ tagStage e.tag = x.updateStage ∧
        (∀ r ∈ g.idx, x.valid r = true) ∧ (d.embT (embKey die.val x.id)).logHeld + g.entries ≤ x.logEntries)
      (fun d d' => d'.embT (embKey die.val x.id) = { d.embT (embKey die.val x.id) with staged := (d.embT (embKey die.val x.id)).staged ++ (g.contributions x).map (fun c => (e.tag, c)) } ∧
        (d'.job (stKey die.val 4 k.val)).map (fun j => (j.tag, j.inputs)) = some (e.tag, [e]) ∧ d'.mem = d.mem ∧ d'.regs = d.regs)) ∧
  (∀ (die : Fin 4) (k : Fin 16) (b : List Byte) (e : LiftEntry) (rest : List LiftEntry) (kind : Nat) (g : GatherBuf) (x : TableRec), Completes (.gatherGradientJob die k)
      (fun d => d.runs ∧ d.oneHead die.val 4 k.val (4096 * die.val + (gatherCfg b).inLift) b e rest ∧ d.gatherApplying die.val k.val = false ∧ d.gatherHead die.val b = some (kind, false) ∧ kind = 3 ∧
        d.inputsPoisoned [e] = false ∧ d.gatherRead [e] = some g ∧ d.gatherTable die.val k.val g.table = some x ∧ x.opt ≠ 0 ∧ g.cols = x.colCount ∧ tagStage e.tag = x.updateStage ∧
        (∀ r ∈ g.idx, x.valid r = true) ∧ x.logEntries < (d.embT (embKey die.val x.id)).logHeld + g.entries ∧ d.regsWf ∧ Map.rising d.stn.jobs = true)
      (fun d d' => d'.liftQ (4096 * die.val + (gatherCfg b).inLift) = rest ∧ d.jobFailed d' (stKey die.val 4 k.val) (Reg.GATHER_JOBS_FAILED die.val k.val) (Reg.GATHER_LAST_FAIL die.val k.val) 0x0C16 e.tag ∧ d'.emb = d.emb)) ∧
  (∀ (die : Fin 4) (k : Fin 16) (b : List Byte) (j : Job) (t hits areaHits bad : Nat) (valid : List Nat) (a : Nat) (rest : List Nat), Completes (.gatherJobEnd die k)
      (fun d => d.runs ∧ d.working die.val 4 k.val b j ∧ j.mode = 1 ∧ j.words = [t, hits, areaHits, bad] ++ valid ∧ t < 64 ∧ d.canPush (poolKey die.val (gatherCfg b).outPool) (d.stationOut die.val 4 k.val 1 (gatherCfg b).outLift) a rest)
      (fun d d' => d.pushedOne d' (stKey die.val 4 k.val) (poolKey die.val (gatherCfg b).outPool) (d.stationOut die.val 4 k.val 1 (gatherCfg b).outLift) j.tag ((j.inputs.getLast?.map (·.h.last)).getD false) j.bytes a rest ∧
        (d'.embT (embKey die.val t)).lookups = (d.embT (embKey die.val t)).lookups ++ valid.map (fun r => (j.tag, r)) ∧ d.counted d' (Reg.GATHER_JOBS_DONE die.val k.val) 1 ∧
        d.counted d' (Reg.EMB_LOOKUPS die.val t) valid.length ∧ d.counted d' (Reg.EMB_CACHE_HITS die.val t) hits ∧ d.counted d' (Reg.EMB_ZEROED die.val t) bad)) ∧
  (∀ (die : Fin 4) (k : Fin 16) (b : List Byte) (j : Job) (t bad : Nat), Completes (.gatherJobEnd die k)
      (fun d => d.runs ∧ d.working die.val 4 k.val b j ∧ j.mode = 3 ∧ j.words = [t, 0, 0, bad] ∧ t < 64)
      (fun d d' => d'.job (stKey die.val 4 k.val) = none ∧ d'.emb = d.emb ∧ d'.mem = d.mem ∧ d.counted d' (Reg.GATHER_JOBS_DONE die.val k.val) 1 ∧ d.counted d' (Reg.EMB_ZEROED die.val t) bad))

/-- The apply of a table updates each touched row once; a round copies, replays, cuts over and returns its frames. R385, R386, R387, R388, R390, R392, R393. -/
def Obligations.EmbeddingRounds : Prop :=
  (∀ (die : Fin 4) (t : Fin 64) (x : TableRec), Completes (.applyStart die t)
      (fun d => d.runs ∧ d.tableOf die.val t.val = some x ∧ d.dieContained die.val = false ∧ d.mgmt.gated = false ∧ x.opt ≠ 0 ∧ (d.embT (embKey die.val t.val)).apply = none ∧ (d.embT (embKey die.val t.val)).round = none ∧ (d.embT (embKey die.val t.val)).retiring = 0 ∧ (d.embT (embKey die.val t.val)).appliedStep ≠ some d.stepNum ∧ d.regsWf)
      (fun d d' => (d'.embT (embKey die.val t.val)).log = [] ∧ (d'.embT (embKey die.val t.val)).appliedStep = some d.stepNum ∧
        (d'.embT (embKey die.val t.val)).apply = some { entries := (d.embT (embKey die.val t.val)).log, last := false, lr := d.fld (Reg.EMB_LR die.val t.val) Fd.EMB_LR_LR, p1 := if x.opt = 3 then fmul (d.embT (embKey die.val t.val)).p1 x.beta1 else (d.embT (embKey die.val t.val)).p1, p2 := if x.opt = 3 then fmul (d.embT (embKey die.val t.val)).p2 x.beta2 else (d.embT (embKey die.val t.val)).p2 } ∧
        d.counted d' (Reg.EMB_STEP die.val t.val) 1 ∧ d.timeOfPhase x.applyPu ≤ d'.now ∧ d'.mem = d.mem)) ∧
  (∀ (die : Fin 4) (t : Fin 64) (x : TableRec) (a : EmbApply) (l : List Contribution) (row : Nat), Completes (.applyEnd die t)
      (fun d => d.runs ∧ d.tableOf die.val t.val = some x ∧ d.dieContained die.val = false ∧ d.mgmt.gated = false ∧ (d.embT (embKey die.val t.val)).apply = some a ∧ a.last = false ∧ d.applyWaits die.val x = false ∧ l.Perm a.entries ∧ l.Pairwise (fun p q => p.before q = true) ∧ l ≠ [] ∧ (∀ c ∈ l, c.row = row) ∧
        (d.embT (embKey die.val t.val)).moving row = false ∧ (d.embT (embKey die.val t.val)).retiring = 0 ∧ x.id = t.val ∧ d.poisoned (d.placeAddr die.val x row ((d.embT (embKey die.val t.val)).placeOf x row)) x.rrec = false ∧ Memory.wf d.mem = true ∧ d.regsWf)
      (fun d d' => (let p := d.placeAddr die.val x row ((d.embT (embKey die.val t.val)).placeOf x row)
         d.stored d' p (optRow x (optConsts x a) (d.read p x.rrec) l)) ∧ (d'.embT (embKey die.val t.val)).apply = none ∧ d.counted d' (Reg.EMB_CONTRIBS die.val t.val) l.length ∧ d.counted d' (Reg.EMB_ROWS_UPDATED die.val t.val) 1)) ∧
  (∀ (die : Fin 4) (t : Fin 64) (x : TableRec) (a : EmbApply) (l m : List Contribution) (r1 r2 p1 p2 : Nat) (w1 w2 : List Byte), Completes (.applyEnd die t)
      (fun d => d.runs ∧ d.tableOf die.val t.val = some x ∧ d.dieContained die.val = false ∧ d.mgmt.gated = false ∧ (d.embT (embKey die.val t.val)).apply = some a ∧ a.last = false ∧ d.applyWaits die.val x = false ∧ (l ++ m).Perm a.entries ∧ l.Pairwise (fun p q => p.before q = true) ∧ m.Pairwise (fun p q => p.before q = true) ∧ l ≠ [] ∧ m ≠ [] ∧
        (∀ c ∈ l, c.row = r1) ∧ (∀ c ∈ m, c.row = r2) ∧ r1 < r2 ∧ (d.embT (embKey die.val t.val)).round = none ∧ (d.embT (embKey die.val t.val)).retiring = 0 ∧ x.id = t.val ∧ p1 = d.placeAddr die.val x r1 ((d.embT (embKey die.val t.val)).placeOf x r1) ∧ p2 = d.placeAddr die.val x r2 ((d.embT (embKey die.val t.val)).placeOf x r2) ∧
        d.poisoned p1 x.rrec = false ∧ d.poisoned p2 x.rrec = false ∧ w1 = optRow x (optConsts x a) (d.read p1 x.rrec) l ∧ w2 = optRow x (optConsts x a) (d.read p2 x.rrec) m ∧
        (p1 + w1.length ≤ p2 ∨ p2 + w2.length ≤ p1) ∧ Memory.wf d.mem = true ∧ d.regsWf)
      (fun d d' => d'.read p1 w1.length = w1 ∧ d'.read p2 w2.length = w2 ∧ (∀ y, (y < p1 ∨ p1 + w1.length ≤ y) → (y < p2 ∨ p2 + w2.length ≤ y) → memRead d'.mem y = memRead d.mem y) ∧
        (d'.embT (embKey die.val t.val)).apply = none ∧ d.counted d' (Reg.EMB_CONTRIBS die.val t.val) (l.length + m.length) ∧ d.counted d' (Reg.EMB_ROWS_UPDATED die.val t.val) 2)) ∧
  (∀ (die : Fin 4) (t : Fin 64) (x : TableRec) (a : EmbApply) (c : Contribution) (r : EmbRound), Completes (.applyEnd die t)
      (fun d => d.runs ∧ d.tableOf die.val t.val = some x ∧ d.dieContained die.val = false ∧ d.mgmt.gated = false ∧ (d.embT (embKey die.val t.val)).apply = some a ∧ a.last = false ∧ d.applyWaits die.val x = false ∧ a.entries = [c] ∧ (d.embT (embKey die.val t.val)).round = some r ∧ (∃ m ∈ r.moves, m.row = c.row) ∧ c.row ∉ r.fwd ∧ (d.embT (embKey die.val t.val)).retiring = 0 ∧ x.id = t.val ∧
        d.poisoned (d.placeAddr die.val x c.row ((d.embT (embKey die.val t.val)).placeOf x c.row)) x.rrec = false ∧ Memory.wf d.mem = true ∧ d.regsWf)
      (fun d d' => (let p := d.placeAddr die.val x c.row ((d.embT (embKey die.val t.val)).placeOf x c.row)
         d.stored d' p (optRow x (optConsts x a) (d.read p x.rrec) [c])) ∧ (d'.embT (embKey die.val t.val)).apply = none ∧ (d'.embT (embKey die.val t.val)).round = some { r with fwd := r.fwd ++ [c.row] })) ∧
  (∀ (die : Fin 4) (t : Fin 64) (x : TableRec) (a : EmbApply), Completes (.applyEnd die t)
      (fun d => d.runs ∧ d.tableOf die.val t.val = some x ∧ d.dieContained die.val = false ∧ d.mgmt.gated = false ∧ (d.embT (embKey die.val t.val)).apply = some a ∧ a.last = true ∧ d.applyWaits die.val x = false ∧ a.entries = [] ∧ (d.embT (embKey die.val t.val)).round = none ∧ (d.embT (embKey die.val t.val)).flush = false ∧ (d.embT (embKey die.val t.val)).flushMoves = [])
      (fun d d' => (d'.embT (embKey die.val t.val)) = { (d.embT (embKey die.val t.val)) with apply := none, retiring := 2 } ∧ d' = { d with emb := d'.emb })) ∧
  (∀ (die : Fin 4) (t : Fin 64) (x : TableRec) (a : EmbApply), Completes (.applyEnd die t)
      (fun d => d.runs ∧ d.tableOf die.val t.val = some x ∧ d.dieContained die.val = false ∧ d.mgmt.gated = false ∧ (d.embT (embKey die.val t.val)).apply = some a ∧ d.applyWaits die.val x = true)
      (fun d d' => d' = d)) ∧
  (∀ (die : Fin 4) (t : Fin 64) (x : TableRec) (r : EmbRound), Completes (.migrationCopyEnd die t)
      (fun d => d.runs ∧ d.tableOf die.val t.val = some x ∧ d.dieContained die.val = false ∧ d.mgmt.gated = false ∧ (d.embT (embKey die.val t.val)).round = some r ∧ r.copied = false ∧ d.stationStopped die.val 7 x.traverse = false ∧ Memory.wf d.mem = true ∧
        (∀ m ∈ r.moves, ∀ n ∈ r.moves, d.placeAddr die.val x m.row m.src + x.rrec ≤ d.placeAddr die.val x n.row n.dst ∨ d.placeAddr die.val x n.row n.dst + x.rrec ≤ d.placeAddr die.val x m.row m.src) ∧
        r.moves.Pairwise (fun m n => d.placeAddr die.val x m.row m.dst + x.rrec ≤ d.placeAddr die.val x n.row n.dst ∨ d.placeAddr die.val x n.row n.dst + x.rrec ≤ d.placeAddr die.val x m.row m.dst))
      (fun d d' => (d'.embT (embKey die.val t.val)).round = some { r with copied := true } ∧ (∀ m ∈ r.moves, d'.read (d.placeAddr die.val x m.row m.dst) x.rrec = d.read (d.placeAddr die.val x m.row m.src) x.rrec) ∧
        (∀ y, (∀ m ∈ r.moves, y < d.placeAddr die.val x m.row m.dst ∨ d.placeAddr die.val x m.row m.dst + x.rrec ≤ y) → memRead d'.mem y = memRead d.mem y) ∧ d'.regs = d.regs)) ∧
  (∀ (die : Fin 4) (t : Fin 64) (x : TableRec) (r : EmbRound), Completes (.roundReplay die t)
      (fun d => d.runs ∧ d.tableOf die.val t.val = some x ∧ d.dieContained die.val = false ∧ d.mgmt.gated = false ∧ (d.embT (embKey die.val t.val)).round = some r ∧ r.replayed = false ∧ r.copied = true ∧ (r.carried = true ∨ d.b3 ≤ d.phase) ∧ (d.embT (embKey die.val t.val)).apply = none ∧
        d.stationStopped die.val 7 x.traverse = false ∧ Memory.wf d.mem = true ∧
        (∀ m ∈ r.moves, ∀ n ∈ r.moves, d.placeAddr die.val x m.row m.src + x.rrec ≤ d.placeAddr die.val x n.row n.dst ∨ d.placeAddr die.val x n.row n.dst + x.rrec ≤ d.placeAddr die.val x m.row m.src) ∧
        r.moves.Pairwise (fun m n => d.placeAddr die.val x m.row m.dst + x.rrec ≤ d.placeAddr die.val x n.row n.dst ∨ d.placeAddr die.val x n.row n.dst + x.rrec ≤ d.placeAddr die.val x m.row m.dst))
      (fun d d' => (d'.embT (embKey die.val t.val)).round = some { r with replayed := true } ∧ (∀ m ∈ r.moves, m.row ∈ r.fwd → d'.read (d.placeAddr die.val x m.row m.dst) x.rrec = d.read (d.placeAddr die.val x m.row m.src) x.rrec) ∧
        (∀ y, (∀ m ∈ r.moves, m.row ∈ r.fwd → y < d.placeAddr die.val x m.row m.dst ∨ d.placeAddr die.val x m.row m.dst + x.rrec ≤ y) → memRead d'.mem y = memRead d.mem y) ∧ d'.regs = d.regs)) ∧
  (∀ (die : Fin 4) (t : Fin 64) (x : TableRec) (r : EmbRound) (m : EmbMove), Completes (.cutOver die t)
      (fun d => d.runs ∧ d.tableOf die.val t.val = some x ∧ d.dieContained die.val = false ∧ (d.embT (embKey die.val t.val)).round = some r ∧ r.replayed = true ∧ r.flush = false ∧ r.moves = [m] ∧ m.src.store = 0 ∧ m.dst.store = 1 ∧ (d.embT (embKey die.val t.val)).retiring = 0 ∧ d.regsWf)
      (fun d d' => (d'.embT (embKey die.val t.val)).round = none ∧ (d'.embT (embKey die.val t.val)).cache.ways.get? m.dst.way = some (m.row, m.dst.frame) ∧ (∀ w, w ≠ m.dst.way → (d'.embT (embKey die.val t.val)).cache.ways.get? w = (d.embT (embKey die.val t.val)).cache.ways.get? w) ∧ (d'.embT (embKey die.val t.val)).area = (d.embT (embKey die.val t.val)).area ∧
        d.counted d' (Reg.EMB_MIGRATED die.val t.val) 1 ∧ d.counted d' (Reg.EMB_FORWARDED die.val t.val) r.fwd.length ∧ d'.mem = d.mem)) ∧
  (∀ (die : Fin 4) (t : Fin 64) (x : TableRec) (r : EmbRound) (m n : EmbMove), Completes (.cutOver die t)
      (fun d => d.runs ∧ d.tableOf die.val t.val = some x ∧ d.dieContained die.val = false ∧ (d.embT (embKey die.val t.val)).round = some r ∧ r.replayed = true ∧ r.flush = false ∧ r.moves = [m, n] ∧ m.src.store = 0 ∧ m.dst.store = 1 ∧ n.src.store = 1 ∧ n.src.way = m.dst.way ∧ n.dst.store = 0 ∧ (d.embT (embKey die.val t.val)).retiring = 0 ∧ d.regsWf)
      (fun d d' => (d'.embT (embKey die.val t.val)).round = none ∧ (d'.embT (embKey die.val t.val)).cache.ways.get? m.dst.way = some (m.row, m.dst.frame) ∧ (∀ w, w ≠ m.dst.way → (d'.embT (embKey die.val t.val)).cache.ways.get? w = (d.embT (embKey die.val t.val)).cache.ways.get? w) ∧ (d'.embT (embKey die.val t.val)).cache.vacated = (d.embT (embKey die.val t.val)).cache.vacated ++ [n.src.frame] ∧ (d'.embT (embKey die.val t.val)).area = (d.embT (embKey die.val t.val)).area ∧
        d.counted d' (Reg.EMB_MIGRATED die.val t.val) 2 ∧ d.counted d' (Reg.EMB_FORWARDED die.val t.val) r.fwd.length ∧ d'.mem = d.mem)) ∧
  (∀ (die : Fin 4) (t : Fin 64) (x : TableRec) (area : Bool) (frame : Nat), Completes (.frameReturn die t area frame)
      (fun d => d.runs ∧ d.tableOf die.val t.val = some x ∧ d.dieContained die.val = false)
      (fun d d' => frame ∉ ((d'.embT (embKey die.val t.val)).store (if area then 2 else 1)).vacated ∧ ((d'.embT (embKey die.val t.val)).store (if area then 2 else 1)).ways = ((d.embT (embKey die.val t.val)).store (if area then 2 else 1)).ways ∧ d' = { d with emb := d'.emb })) ∧
  (∀ (die : Fin 4) (t : Fin 64) (x : TableRec), Completes (.embFlush die t 0)
      (fun d => d.runs ∧ d.tableOf die.val t.val = some x ∧ (∀ e ∈ d.emb, e.1 / 64 = die.val → e.2.flush = false) ∧ d.regsWf)
      (fun d d' => (d'.embT (embKey die.val t.val)).flush = true ∧ d'.fld (Reg.EMB_CMD die.val) Fd.EMB_CMD_GO = 1 ∧ d'.fld (Reg.EMB_CMD die.val) Fd.EMB_CMD_TABLE = t.val ∧ d'.mem = d.mem)) ∧
  (∀ (die : Fin 4) (t : Fin 64) (action : Fin 4), action ≠ 0 → Completes (.embFlush die t action)
      (fun d => d.runs ∧ (∀ e ∈ d.emb, e.1 / 64 = die.val → e.2.flush = false) ∧ d.regsWf)
      (fun d d' => d'.emb = d.emb ∧ d'.fld (Reg.EMB_CMD die.val) Fd.EMB_CMD_CODE = 0x0C02 ∧ d'.mem = d.mem))

/-- DENSE, ROUTED, INTERACT and ATTEND form the output rows that their operands give, a job ends in one burst, and a command that breaks check 1 fails. R409, R410, R411, R412, R418, R422, R423, R426, R430. -/
def Obligations.ArrayResults : Prop :=
  (∀ (die : Fin 4) (k : Fin 8) (cfg : List Byte) (e : LiftEntry) (rest : List LiftEntry), Completes (.arrayDense die k 0)
      (fun d => d.runs ∧ d.arrReady die.val k.val cfg ∧ d.job (arrKey die.val k.val) = none ∧ d.arrJob (arrKey die.val k.val) = none ∧ (arrCfg cfg).fixed = false ∧ (arrCfg cfg).cmdLift < 4096 ∧
        d.liftQ (4096 * die.val + (arrCfg cfg).cmdLift) = e :: rest ∧ e.src.isStream = false ∧ d.taskGone e.tag = false ∧ d.liftQ (4096 * die.val + (arrCfg cfg).aLift) = [] ∧
        d.poisoned e.h.addr e.h.len = false ∧ (arrCmd (d.read e.h.addr e.h.len)).op = 0 ∧ (arrCmd (d.read e.h.addr e.h.len)).check1 (d.read e.h.addr e.h.len) = false ∧ d.regsWf ∧ Map.rising d.stn.jobs = true ∧ Map.rising d.arr = true)
      (fun d d' => d'.liftQ (4096 * die.val + (arrCfg cfg).cmdLift) = rest ∧ d.jobFailed d' (arrKey die.val k.val) (Reg.ARR_JOBS_FAILED die.val k.val) (Reg.ARR_LAST_FAIL die.val k.val) 0x0D11 e.tag)) ∧
  (∀ (die : Fin 4) (k : Fin 8) (cfg : List Byte) (e : LiftEntry) (rest : List LiftEntry), Completes (.arrayRouted die k 0)
      (fun d => d.runs ∧ d.arrReady die.val k.val cfg ∧ d.job (arrKey die.val k.val) = none ∧ d.arrJob (arrKey die.val k.val) = none ∧ (arrCfg cfg).fixed = false ∧ (arrCfg cfg).cmdLift < 4096 ∧
        d.liftQ (4096 * die.val + (arrCfg cfg).cmdLift) = e :: rest ∧ e.src.isStream = false ∧ d.taskGone e.tag = false ∧ d.liftQ (4096 * die.val + (arrCfg cfg).aLift) = [] ∧
        d.poisoned e.h.addr e.h.len = false ∧ (arrCmd (d.read e.h.addr e.h.len)).op = 1 ∧ (arrCmd (d.read e.h.addr e.h.len)).check1 (d.read e.h.addr e.h.len) = false ∧ d.regsWf ∧ Map.rising d.stn.jobs = true ∧ Map.rising d.arr = true)
      (fun d d' => d'.liftQ (4096 * die.val + (arrCfg cfg).cmdLift) = rest ∧ d.jobFailed d' (arrKey die.val k.val) (Reg.ARR_JOBS_FAILED die.val k.val) (Reg.ARR_LAST_FAIL die.val k.val) 0x0D11 e.tag)) ∧
  (∀ (die : Fin 4) (k : Fin 8) (cfg : List Byte) (e : LiftEntry) (rest : List LiftEntry), Completes (.arrayInteract die k 0)
      (fun d => d.runs ∧ d.arrReady die.val k.val cfg ∧ d.job (arrKey die.val k.val) = none ∧ d.arrJob (arrKey die.val k.val) = none ∧ (arrCfg cfg).fixed = false ∧ (arrCfg cfg).cmdLift < 4096 ∧
        d.liftQ (4096 * die.val + (arrCfg cfg).cmdLift) = e :: rest ∧ e.src.isStream = false ∧ d.taskGone e.tag = false ∧ d.liftQ (4096 * die.val + (arrCfg cfg).aLift) = [] ∧
        d.poisoned e.h.addr e.h.len = false ∧ (arrCmd (d.read e.h.addr e.h.len)).op = 2 ∧ (arrCmd (d.read e.h.addr e.h.len)).check1 (d.read e.h.addr e.h.len) = false ∧ d.regsWf ∧ Map.rising d.stn.jobs = true ∧ Map.rising d.arr = true)
      (fun d d' => d'.liftQ (4096 * die.val + (arrCfg cfg).cmdLift) = rest ∧ d.jobFailed d' (arrKey die.val k.val) (Reg.ARR_JOBS_FAILED die.val k.val) (Reg.ARR_LAST_FAIL die.val k.val) 0x0D11 e.tag)) ∧
  (∀ (die : Fin 4) (k : Fin 8) (cfg : List Byte) (e : LiftEntry) (rest : List LiftEntry), Completes (.arrayAttend die k 0)
      (fun d => d.runs ∧ d.arrReady die.val k.val cfg ∧ d.job (arrKey die.val k.val) = none ∧ d.arrJob (arrKey die.val k.val) = none ∧ (arrCfg cfg).fixed = false ∧ (arrCfg cfg).cmdLift < 4096 ∧
        d.liftQ (4096 * die.val + (arrCfg cfg).cmdLift) = e :: rest ∧ e.src.isStream = false ∧ d.taskGone e.tag = false ∧ d.liftQ (4096 * die.val + (arrCfg cfg).aLift) = [] ∧
        d.poisoned e.h.addr e.h.len = false ∧ (arrCmd (d.read e.h.addr e.h.len)).op = 3 ∧ (arrCmd (d.read e.h.addr e.h.len)).check1 (d.read e.h.addr e.h.len) = false ∧ d.regsWf ∧ Map.rising d.stn.jobs = true ∧ Map.rising d.arr = true)
      (fun d d' => d'.liftQ (4096 * die.val + (arrCfg cfg).cmdLift) = rest ∧ d.jobFailed d' (arrKey die.val k.val) (Reg.ARR_JOBS_FAILED die.val k.val) (Reg.ARR_LAST_FAIL die.val k.val) 0x0D11 e.tag)) ∧
  (∀ (die : Fin 4) (k : Fin 8) (cfg : List Byte) (j : Job) (a : ArrJob) (c : ArrCmd) (e : LiftEntry) (rest : List LiftEntry) (ws : List (List (Option FP))), Completes (.arrayDense die k 0)
      (fun d => d.runs ∧ d.arrReady die.val k.val cfg ∧ d.arrWorks die.val k.val j a c ∧ c.op = 0 ∧ a.sides = [] ∧ a.ws.length = c.wHandles ∧ c.aHandles = a.aDone + 1 ∧ d.liftQ (4096 * die.val + (arrCfg cfg).aLift) = e :: rest ∧ e.src.isStream = false ∧
        e.tag = j.tag ∧ d.poisoned e.h.addr e.h.len = false ∧ operandOk e.h.len c.aOff c.aPitch (handleRows c.m c.aRows a.aDone) c.aSpan = true ∧ d.arrPoolOk die.val { a with as := [e] } c e = true ∧ d.wRowsOf c a.ws = some ws)
      (fun d d' => d'.arrJob (arrKey die.val k.val) = some (d.denseRows c a e ws) ∧ d'.liftQ (4096 * die.val + (arrCfg cfg).aLift) = rest ∧ d'.mem = d.mem ∧ d'.regs = d.regs)) ∧
  (∀ (die : Fin 4) (k : Fin 8) (cfg : List Byte) (j : Job) (a : ArrJob) (c : ArrCmd) (e : LiftEntry) (rest : List LiftEntry), Completes (.arrayDense die k 0)
      (fun d => d.runs ∧ d.arrReady die.val k.val cfg ∧ d.arrWorks die.val k.val j a c ∧ c.op = 0 ∧ a.sides = [] ∧ a.ws.length = c.wHandles ∧ c.aHandles = a.aDone + 1 ∧ d.liftQ (4096 * die.val + (arrCfg cfg).aLift) = e :: rest ∧ e.src.isStream = false ∧
        e.tag = j.tag ∧ d.poisoned e.h.addr e.h.len = false ∧ operandOk e.h.len c.aOff c.aPitch (handleRows c.m c.aRows a.aDone) c.aSpan = false ∧ d.arrPoolOk die.val { a with as := [e] } c e = true ∧ d.regsWf ∧ Map.rising d.stn.jobs = true ∧ Map.rising d.arr = true)
      (fun d d' => d.jobFailed d' (arrKey die.val k.val) (Reg.ARR_JOBS_FAILED die.val k.val) (Reg.ARR_LAST_FAIL die.val k.val) 0x0D13 j.tag)) ∧
  (∀ (die : Fin 4) (k : Fin 8) (cfg : List Byte) (j : Job) (a : ArrJob) (c : ArrCmd) (e : LiftEntry) (rest : List LiftEntry) (ws : List (List (Option FP))), Completes (.arrayDense die k 1)
      (fun d => d.runs ∧ d.arrReady die.val k.val cfg ∧ d.arrWorks die.val k.val j a c ∧ c.op = 0 ∧ a.sides = [] ∧ a.ws.length = c.wHandles ∧ c.aHandles = a.aDone + 1 ∧ d.liftQ (4096 * die.val + (arrCfg cfg).aLift) = e :: rest ∧ e.src.isStream = false ∧
        e.tag = j.tag ∧ d.poisoned e.h.addr e.h.len = false ∧ operandOk e.h.len c.aOff c.aPitch (handleRows c.m c.aRows a.aDone) c.aSpan = true ∧ d.arrPoolOk die.val { a with as := [e] } c e = true ∧ d.wRowsOf c a.ws = some ws ∧ d.regsWf)
      (fun d d' => d'.arrJob (arrKey die.val k.val) = some (d.denseRows c a e ws) ∧ d'.mem = d.mem ∧ d.counted d' (Reg.MEM_CE_COUNT 0) 1 ∧ d.sameRegsBut d' [Reg.MEM_CE_COUNT 0])) ∧
  (∀ (die : Fin 4) (k : Fin 8) (cfg : List Byte) (j : Job) (a : ArrJob) (c : ArrCmd) (e : LiftEntry) (rest : List LiftEntry) (h : ErrEntry), Completes (.arrayDense die k 2)
      (fun d => d.runs ∧ d.arrReady die.val k.val cfg ∧ d.arrWorks die.val k.val j a c ∧ c.op = 0 ∧ a.sides = [] ∧ a.ws.length = c.wHandles ∧ c.aHandles = a.aDone + 1 ∧ d.liftQ (4096 * die.val + (arrCfg cfg).aLift) = e :: rest ∧ e.src.isStream = false ∧
        e.tag = j.tag ∧ d.poisoned e.h.addr e.h.len = false ∧ inArrayStaging e.h.addr = true ∧ (d.errq (d.ownerQueue e.h.addr)).depth < 63 ∧ (d.errq (d.ownerQueue e.h.addr)).handling = some h ∧ 3 ≤ h.event.severity ∧ d.regsWf ∧ Map.rising d.stn.jobs = true)
      (fun d d' => d'.job (arrKey die.val k.val) = none ∧ d.counted d' (Reg.ARR_JOBS_FAILED die.val k.val) 1 ∧ d'.reg (Reg.ARR_LAST_FAIL die.val k.val) = BitVec.ofNat 64 (0x0D1B + 2 ^ 16 * j.tag) ∧
        d.abortAsked d' j.tag 0x0D1B ∧ e.h.addr / 64 ∈ d'.poison ∧ d'.mem = d.mem)) ∧
  (∀ (die : Fin 4) (k : Fin 8) (cfg : List Byte) (j : Job) (a : ArrJob) (c : ArrCmd) (e : LiftEntry) (rest : List LiftEntry) (h : ErrEntry), Completes (.arrayDense die k 2)
      (fun d => d.runs ∧ d.arrReady die.val k.val cfg ∧ d.arrWorks die.val k.val j a c ∧ c.op = 0 ∧ a.sides = [] ∧ a.ws.length = c.wHandles ∧ c.aHandles = a.aDone + 1 ∧ d.liftQ (4096 * die.val + (arrCfg cfg).aLift) = e :: rest ∧ e.src.isStream = false ∧
        e.tag = j.tag ∧ d.poisoned e.h.addr e.h.len = false ∧ inArrayStaging e.h.addr = false ∧ (d.errq die.val).depth < 64 ∧ (d.errq die.val).handling = some h ∧ 3 ≤ h.event.severity ∧ d.regsWf ∧ Map.rising d.stn.jobs = true)
      (fun d d' => d'.job (arrKey die.val k.val) = none ∧ d.counted d' (Reg.ARR_JOBS_FAILED die.val k.val) 1 ∧ d'.reg (Reg.ARR_LAST_FAIL die.val k.val) = BitVec.ofNat 64 (0x0D1B + 2 ^ 16 * j.tag) ∧
        d.abortAsked d' j.tag 0x0D1B ∧ d.counted d' (Reg.MEM_UE_COUNT 0) 1 ∧ d'.poison = d.poison ∧ d'.mem = d.mem)) ∧
  (∀ (die : Fin 4) (k : Fin 8) (cfg : List Byte) (j : Job) (a : ArrJob) (c : ArrCmd) (x y : LiftEntry) (ws : List (List (Option FP))) (rs : List SelResult) (recs : List (Nat × Nat × Nat)), Completes (.arrayRouted die k 0)
      (fun d => d.runs ∧ d.arrReady die.val k.val cfg ∧ d.arrWorks die.val k.val j a c ∧ c.op = 1 ∧ a.sides = [x, y] ∧ a.ws.length = c.wHandles ∧ a.as.length = c.aHandles ∧ c.e = a.expert + 1 ∧ d.wRowsOf c a.ws = some ws ∧
        c.routeCheck (d.handleData x) (d.handleData y) = .inl (rs, recs))
      (fun d d' => d'.arrJob (arrKey die.val k.val) = some (d.routeExpert c a ws rs recs) ∧ d'.mem = d.mem ∧ d'.regs = d.regs)) ∧
  (∀ (die : Fin 4) (k : Fin 8) (cfg : List Byte) (j : Job) (a : ArrJob) (c : ArrCmd), Completes (.arrayInteract die k 0)
      (fun d => d.runs ∧ d.arrReady die.val k.val cfg ∧ d.arrWorks die.val k.val j a c ∧ c.op = 2 ∧ a.ws = [] ∧ a.sides = [] ∧ a.as.length = c.aHandles)
      (fun d d' => d'.arrJob (arrKey die.val k.val) = some (d.interactRows c a) ∧ d'.mem = d.mem ∧ d'.regs = d.regs)) ∧
  (∀ (die : Fin 4) (k : Fin 8) (cfg : List Byte) (j : Job) (a : ArrJob) (c : ArrCmd) (e : LiftEntry) (r : SelResult) (x : Tensor) (rows : List (Option (List Byte))), Completes (.arrayAttend die k 0)
      (fun d => d.runs ∧ d.arrReady die.val k.val cfg ∧ d.arrWorks die.val k.val j a c ∧ c.op = 3 ∧ a.sides = [e] ∧ a.vdesc ≠ [] ∧ a.asked = true ∧ d.taskGone e.tag = false ∧ d.quiet (arrValueStream die.val k.val) = true ∧
        selResults (d.handleData e) = [r] ∧ tensorFrom a.vdesc [] = x ∧ x.valueRows (d.stream (arrValueStream die.val k.val)).tile (r.entries.map (·.1)) = rows)
      (fun d d' => ∃ a', d'.arrJob (arrKey die.val k.val) = some a' ∧ a'.done = true ∧ a'.out = [(c.attendQuery x.desc.elem (x.viewExtent 0) r rows).1] ∧ a'.cols = x.viewExtent 0 ∧ a'.last = e.h.last ∧
        (d'.stream (arrValueStream die.val k.val)).state = .done ∧ d'.mem = d.mem ∧ d'.regs = d.regs)) ∧
  (∀ (die : Fin 4) (k : Fin 8) (cfg : List Byte) (j : Job) (a : ArrJob) (c : ArrCmd) (e : LiftEntry) (r : SelResult) (x : Tensor) (xs : List Xfer), Completes (.arrayAttend die k 0)
      (fun d => d.runs ∧ d.arrReady die.val k.val cfg ∧ d.arrWorks die.val k.val j a c ∧ c.op = 3 ∧ a.sides = [e] ∧ a.vdesc ≠ [] ∧ a.asked = false ∧ d.taskGone e.tag = false ∧ selResults (d.handleData e) = [r] ∧ tensorFrom a.vdesc [] = x ∧
        (r.entries.all (fun y => decide (y.1 < x.viewExtent 1))) = true ∧
        (d.reachReads die.val e.tag (joinReads ((x.valueEntries (r.entries.map (·.1))).flatMap (fun p => x.rowReads [] p.2 p.1)))).1 = .inl xs)
      (fun _ d' => d'.arrJob (arrKey die.val k.val) = some { a with asked := true })) ∧
  (∀ (die : Fin 4) (k : Fin 8) (b : List Byte) (j : Job) (a : ArrJob) (x : List Byte) (p : Nat) (rest : List Nat), Completes (.arrayJobEnd die k)
      (fun d => d.runs ∧ d.working die.val 0 k.val b j ∧ d.arrJob (arrKey die.val k.val) = some a ∧ a.done = true ∧ d.arrSelftest die.val k.val = false ∧ (arrCmd a.cmd).buffers a j.seq = [x] ∧
        d.canPush (poolKey die.val (arrCfg b).outPool) (d.stationOut die.val 0 k.val 3 (arrCfg b).outLift) p rest ∧ Map.rising d.arr = true)
      (fun d d' => d.pushedOne d' (arrKey die.val k.val) (poolKey die.val (arrCfg b).outPool) (d.stationOut die.val 0 k.val 3 (arrCfg b).outLift) j.tag a.last x p rest ∧ d'.arrJob (arrKey die.val k.val) = none ∧
        d.counted d' (Reg.ARR_JOBS_DONE die.val k.val) 1 ∧ d.counted d' (Reg.ARR_BUSY_CYCLES die.val k.val) a.busy ∧ d.counted d' (Reg.ARR_SKIPPED die.val k.val) a.skipped))

/-- A residue failure aborts the tasks in the Array and starts the self-test, which resumes it or enters it in the fault map. R428, R429, R433. -/
def Obligations.ArrayFaults : Prop :=
  (∀ (die : Fin 4) (k : Fin 8) (h : ErrEntry), Completes (.arrayResidueFail die k)
      (fun d => d.runs ∧ d.regsWf ∧ (d.errq die.val).depth < 64 ∧ (d.errq die.val).handling = some h ∧ 3 ≤ h.event.severity ∧ d.tagsIn (placeLoc die.val (.station die 0 ⟨k.val, by omega⟩)) = [])
      (fun d d' => d'.fld (Reg.ARR_STATUS die.val k.val) Fd.ARR_STATUS_SELFTEST = 1 ∧ d.counted d' (Reg.ARR_RESIDUE die.val k.val) 1 ∧
        (∃ x, (d'.errq die.val).waiting = (d.errq die.val).waiting ++ [x] ∧ x.event.code = 0x0D1A ∧ x.event.severity = 3) ∧ d'.arrSelftest die.val k.val = true ∧ d'.mem = d.mem ∧ d'.str = d.str)) ∧
  (∀ (die : Fin 4) (k : Fin 8) (h : ErrEntry) (tag i : Nat) (t : Task), Completes (.arrayResidueFail die k)
      (fun d => d.runs ∧ d.tagsIn (placeLoc die.val (.station die 0 ⟨k.val, by omega⟩)) = [tag] ∧ d.findTask tag = some (i, t) ∧ t.state = .open ∧ t.aborting = false ∧ (d.errq die.val).depth < 64 ∧ (d.errq die.val).handling = some h ∧ 3 ≤ h.event.severity)
      (fun d d' => d.abortAsked d' tag 0x0D1A)) ∧
  (∀ (die : Fin 4) (k : Fin 8), Completes (.arraySelftestEnd die k true)
      (fun d => d.runs ∧ d.arrSelftest die.val k.val = true ∧ d.regsWf)
      (fun d d' => d'.fld (Reg.ARR_STATUS die.val k.val) Fd.ARR_STATUS_SELFTEST = 0 ∧ d'.fld (Reg.ARR_STATUS die.val k.val) Fd.ARR_STATUS_LAST_SELFTEST_FAIL = 0 ∧ bitAt (d'.fld (Reg.ARRAY_CMD die.val) Fd.ARRAY_CMD_SELFTEST) k.val = false ∧ d' = { d with regs := d'.regs, fault := { d.fault with selftests := d.fault.selftests.erase (8 * die.val + k.val) } })) ∧
  (∀ (die : Fin 4) (k : Fin 8) (h : ErrEntry), Completes (.arraySelftestEnd die k false)
      (fun d => d.runs ∧ d.arrSelftest die.val k.val = true ∧ d.regsWf ∧ (d.errq die.val).depth < 64 ∧ (d.errq die.val).handling = some h ∧ 4 ≤ h.event.severity)
      (fun d d' => d'.fault.selftests = d.fault.selftests.erase (8 * die.val + k.val) ∧ d'.fld (Reg.ARR_STATUS die.val k.val) Fd.ARR_STATUS_SELFTEST = 0 ∧ d'.fld (Reg.ARR_STATUS die.val k.val) Fd.ARR_STATUS_LAST_SELFTEST_FAIL = 1 ∧
        (∃ x, (d'.errq die.val).waiting = (d.errq die.val).waiting ++ [x] ∧ x.event.code = 0x0D1A ∧ x.event.severity = 4))) ∧
  (∀ (die : Fin 4) (k : Fin 8), Completes (.arraySelftestEnd die k false)
      (fun d => d.runs ∧ d.arrSelftest die.val k.val = true ∧ d.regsWf ∧ (d.errq die.val).depth < 64 ∧ (d.errq die.val).handling = none ∧ d.fault.fmap.length < 2044)
      (fun d d' => d'.fld (Reg.ARR_STATUS die.val k.val) Fd.ARR_STATUS_LAST_SELFTEST_FAIL = 1 ∧ (∃ x ∈ d'.fault.fmap, x.2.coversStation die.val 0 k.val = true) ∧ (∀ x ∈ d.fault.fmap, x ∈ d'.fault.fmap) ∧ d'.mem = d.mem)) ∧
  (∀ (die : Fin 4) (mask : BitVec 8), Completes (.arraySelftest die mask)
      (fun d => d.runs ∧ (onesBelow 8 mask.toNat).any (fun k => (d.stationCfg die.val 0 k).isSome) = true)
      (fun d d' => d' = d.refuse 0x0D06 die.val)) ∧
  (∀ (die : Fin 4) (mask : BitVec 8), Completes (.arraySelftest die mask)
      (fun d => d.runs ∧ (onesBelow 8 mask.toNat).any (fun k => (d.stationCfg die.val 0 k).isSome) = false ∧ d.regsWf)
      (fun d d' => (∀ k : Fin 8, d'.fld (Reg.ARR_STATUS die.val k.val) Fd.ARR_STATUS_SELFTEST = if mask.toNat.testBit k.val then 1 else d.fld (Reg.ARR_STATUS die.val k.val) Fd.ARR_STATUS_SELFTEST) ∧ (∀ k : Fin 8, mask.toNat.testBit k.val = true → d'.arrSelftest die.val k.val = true) ∧ d' = { d with regs := d'.regs, fault := { d.fault with selftests := d'.fault.selftests } }))

/-- Ports train and go down; flits are checked, acknowledged, answered and sent again; messages are forwarded. R435, R438, R439, R441, R442, R443, R444. -/
def Obligations.LinkLayer : Prop :=
  (∀ (p : Fin 8) (v : Word), 32 ≤ v.toNat → Completes (.portCtrlWrite p v)
      (fun d => d.runs)
      (fun d d' => d' = d.refuse 0x0E01)) ∧
  (∀ (p : Fin 8) (v : Word), v.toNat < 32 → Completes (.portCtrlWrite p v)
      (fun d => d.runs ∧ d.fld (Reg.PORT_CTRL p.val) Fd.PORT_CTRL_ENABLE = 1 ∧ d.fld (Reg.PORT_CTRL p.val) Fd.PORT_CTRL_MODE ≠ bitsOf v.toNat 1 1)
      (fun d d' => d' = d.refuse 0x0E1A)) ∧
  (∀ (p : Fin 8) (v : Word), v.toNat < 32 ∧ v.toNat.testBit 1 = false ∧ 4 ≤ v.toNat → Completes (.portCtrlWrite p v)
      (fun d => d.runs)
      (fun d d' => d' = d.refuse 0x0E1A)) ∧
  (∀ (p : Fin 8) (v : Word), v.toNat < 32 ∧ (bitsOf v.toNat 1 1 = 1 ∨ v.toNat < 4) → Completes (.portCtrlWrite p v)
      (fun d => d.runs ∧ d.regsWf ∧ (d.fld (Reg.PORT_CTRL p.val) Fd.PORT_CTRL_ENABLE = 0 ∨ d.fld (Reg.PORT_CTRL p.val) Fd.PORT_CTRL_MODE = bitsOf v.toNat 1 1))
      (fun d d' => d'.reg (Reg.PORT_CTRL p.val) = BitVec.ofNat 64 v.toNat ∧ (bitsOf v.toNat 0 1 = 0 → d'.fld (Reg.PORT_STATUS p.val) Fd.PORT_STATUS_LINK_UP = 0) ∧ (bitsOf v.toNat 3 1 = 0 → d'.fld (Reg.PORT_STATUS p.val) Fd.PORT_STATUS_PTP_LOCK = 0) ∧ d' = { d with regs := d'.regs, link := d'.link, out := d'.out })) ∧
  (∀ (p : Fin 8) (delay : Nat), Completes (.portTrained p delay)
      (fun d => d.runs ∧ d.regsWf ∧ d.packageContained = false ∧ d.fld (Reg.PORT_CTRL p.val) Fd.PORT_CTRL_ENABLE = 1 ∧ d.portUp p.val = false)
      (fun d d' => d'.portUp p.val = true ∧ d'.reg (Reg.PORT_DELAY_NS p.val) = BitVec.ofNat 64 (delay % 2 ^ 32) ∧ d.sameRegsBut d' [Reg.PORT_STATUS p.val, Reg.PORT_DELAY_NS p.val] ∧ d' = { d with regs := d'.regs, link := d'.link, out := d'.out })) ∧
  (∀ (p : Fin 8) (t : Nat) (b : List Byte), Completes (.flitReceive p t b)
      (fun d => d.runs ∧ d.packageContained = false ∧ d.portAlanauri p.val = true ∧ d.portUp p.val = true ∧ flitOf b = none ∧ d.regsWf)
      (fun d d' => d.counted d' (Reg.PORT_CRC_ERRORS p.val) 1 ∧ d.sameRegsBut d' [Reg.PORT_CRC_ERRORS p.val] ∧ d' = { d with regs := d'.regs, now := max d.now t })) ∧
  (∀ (p : Fin 8) (t : Nat) (b : List Byte) (f : Flit), Completes (.flitReceive p t b)
      (fun d => d.runs ∧ d.packageContained = false ∧ d.portAlanauri p.val = true ∧ d.portUp p.val = true ∧ flitOf b = some f ∧ f.type = 1 ∧ f.seq ≠ ((d.portUnit p.val).rxSeq + 1) % 4096)
      (fun d d' => d'.out = d.out ++ [.flit p.val { type := 3, vc := 0, seq := 0, ackSeq := (d.portUnit p.val).rxSeq, creditVc := 0, credit := 0, payload := zeros 240 }] ∧ d'.link.rx = d.link.rx ∧ d'.portUnit p.val = { d.portUnit p.val with lastFlit := max d.now t, lastTx := max d.now t } ∧ d'.regs = d.regs)) ∧
  (∀ (p : Fin 8) (t : Nat) (b : List Byte) (f : Flit) (m : LinkMsg) (more : List Byte), Completes (.flitReceive p t b)
      (fun d => d.runs ∧ d.packageContained = false ∧ d.portAlanauri p.val = true ∧ d.portUp p.val = true ∧ flitOf b = some f ∧ f.type = 1 ∧ f.seq = ((d.portUnit p.val).rxSeq + 1) % 4096 ∧
        parseMessages ((((d.portUnit p.val).rxBytes.getD f.vc [] ++ f.payload).length) / 16 + 1) ((d.portUnit p.val).rxBytes.getD f.vc [] ++ f.payload) = ([(m, true)], more) ∧ m.hops ≤ 4 ∧ m.dst = d.memberId ∧
        d.memberLost m.src = false ∧ seqGe m.pseq (d.rxNext m) = true ∧ (∀ r ∈ d.link.rx, ¬ (r.msg.src = m.src ∧ vcOf r.msg.mtype = vcOf m.mtype ∧ r.msg.pseq = m.pseq)))
      (fun d d' => ∃ n, d'.link.rx = d.link.rx ++ [{ port := p.val, time := max d.now t, vc := f.vc, flits := n, msg := m }] ∧ (d'.portUnit p.val).rxSeq = f.seq ∧ d'.regs = d.regs ∧ d'.now = max d.now t)) ∧
  (∀ (p : Fin 8) (t : Nat) (b : List Byte) (f : Flit) (r1 r2 : List (Nat × Nat × TxFlit)) (sent : Nat) (x : TxFlit), Completes (.flitReceive p t b)
      (fun d => d.runs ∧ d.packageContained = false ∧ d.portAlanauri p.val = true ∧ d.portUp p.val = true ∧ flitOf b = some f ∧ f.type ≠ 3 ∧ (f.type = 1 → f.seq = ((d.portUnit p.val).rxSeq + 1) % 4096) ∧
        (d.portUnit p.val).retry = r1 ++ (f.ackSeq, sent, x) :: r2 ∧ (∀ y ∈ r1, y.1 ≠ f.ackSeq) ∧ (d.portUnit p.val).queue = [])
      (fun d d' => (d'.portUnit p.val).retry = r2 ∧ (d'.portUnit p.val).queue = [] ∧ (d'.portUnit p.val).txSeq = (d.portUnit p.val).txSeq)) ∧
  (∀ (p : Fin 8) (r : Nat × Nat × TxFlit) (more : List (Nat × Nat × TxFlit)), Completes (.flitAckTimeout p)
      (fun d => d.runs ∧ d.packageContained = false ∧ d.portUp p.val = true ∧ (d.portUnit p.val).retry = r :: more ∧ d.regsWf)
      (fun d d' => d.counted d' (Reg.PORT_REPLAYS p.val) 1 ∧ (d'.portUnit p.val).retry.map (fun x => (x.1, x.2.2)) = (d.portUnit p.val).retry.map (fun x => (x.1, x.2.2)) ∧ d'.out.length = d.out.length + (d.portUnit p.val).retry.length ∧ d'.now = max d.now (r.2.1 + 2000))) ∧
  (∀ (p : Fin 8), Completes (.portLinkDown p)
      (fun d => d.runs ∧ d.portAlanauri p.val = true ∧ d.portUp p.val = true ∧ d.regsWf)
      (fun d d' => d'.portUp p.val = false ∧ d'.fld (Reg.PORT_STATUS p.val) Fd.PORT_STATUS_RETRAIN = 1 ∧ d.sameRegsBut d' [(Reg.PORT_STATUS p.val)] ∧ d'.now = max d.now ((d.portUnit p.val).lastFlit + 1000) ∧ d' = { d with now := d'.now, regs := d'.regs, link := d'.link, out := d'.out })) ∧
  (∀ (p : Fin 8) (residence : Nat) (r : RxMsg) (q : Nat), Completes (.messageForward p residence)
      (fun d => d.runs ∧ d.link.rx.find? (fun r => r.port = p.val && r.msg.dst != d.memberId) = some r ∧ r.msg.mtype ≠ 0x02 ∧ d.routePort r.msg.dst = some q ∧ d.packageContained = false)
      (fun d d' => d'.messageSent q { r.msg with hops := r.msg.hops + 1 } 4 ∧ d'.link.rx = d.link.rx.erase r ∧ d'.regs = d.regs))

/-- KEEPALIVE, member loss, CADENCE, remote signals and the writes of the group registers. R445, R446, R450, R452. -/
def Obligations.ColumnGroup : Prop :=
  (∀ (p : Fin 8) (r : RxMsg), Completes (.keepalive p)
      (fun d => d.runs ∧ d.nextMessage p.val 0x01 = some r ∧ d.groupEnabled = true ∧ leAt r.msg.fields 4 4 = 0 ∧ r.msg.src < 32 ∧ d.regsWf)
      (fun d d' => bitAt (d'.reg Reg.GROUP_PRESENT).toNat r.msg.src = true ∧ d'.link.lastKeep.get? r.msg.src = some r.time ∧ d.sameRegsBut d' [Reg.GROUP_PRESENT, Reg.PORT_STATUS p.val] ∧ d'.link.rx = d.link.rx.erase r ∧ d'.mem = d.mem)) ∧
  (∀ (p : Fin 8) (r : RxMsg) (m : Fin 32), Completes (.keepalive p)
      (fun d => d.runs ∧ d.nextMessage p.val 0x01 = some r ∧ d.groupEnabled = true ∧ leAt r.msg.fields 4 4 = 2 ^ m.val ∧ d.memberLost m.val = false ∧ r.msg.src < 32 ∧ d.regsWf)
      (fun d d' => d'.memberLost m.val = true ∧ (∀ k : Nat, k ≠ m.val → d'.memberLost k = d.memberLost k) ∧ bitAt (d'.reg Reg.GROUP_PRESENT).toNat r.msg.src = true ∧ d'.mem = d.mem)) ∧
  (∀ (m q : Nat), Completes (.keepaliveSend)
      (fun d => d.runs ∧ d.groupEnabled = true ∧ d.packageContained = false ∧ m < 32 ∧ m ≠ d.memberId ∧ d.routePort m = some q)
      (fun d d' => d'.messageSent q { mtype := 1, src := d.memberId, dst := m, hops := 0, pseq := d.link.txPseq.getD (4 * m) 0, fields := u32 d.stepNum ++ u32 (d.reg Reg.GROUP_LOST).toNat ++ zeros 12, payload := [] } 4 ∧ d'.link.keepSent = max d.now (d.link.keepSent + 2000) ∧ d'.regs = d.regs)) ∧
  (∀ (m : Fin 32), Completes (.memberLost m)
      (fun d => d.runs ∧ d.groupEnabled = true ∧ bitAt (d.reg Reg.GROUP_PRESENT).toNat m.val = true ∧ m.val ≠ d.memberId ∧ d.regsWf)
      (fun d d' => bitAt (d'.reg Reg.GROUP_PRESENT).toNat m.val = false ∧ d'.memberLost m.val = true ∧ (∀ k : Nat, k ≠ m.val → d'.memberLost k = d.memberLost k) ∧ d'.mem = d.mem)) ∧
  (∀ (p : Fin 8) (r : RxMsg), Completes (.cadence p)
      (fun d => d.runs ∧ d.nextMessage p.val 0x02 = some r ∧ d.fld Reg.CAD_CTRL Fd.CAD_CTRL_LINK_PORT ≠ p.val)
      (fun d d' => d'.regs = d.regs ∧ d'.time = d.time ∧ d'.link.rx = d.link.rx.erase r ∧ d'.now = d.now)) ∧
  (∀ (p : Fin 8) (r : RxMsg), Completes (.cadence p)
      (fun d => d.runs ∧ d.nextMessage p.val 0x02 = some r ∧ d.fld Reg.CAD_CTRL Fd.CAD_CTRL_LINK_PORT = p.val)
      (fun d d' => d'.time.lastLink = some (r.time - leAt r.msg.fields 12 8 - (d.reg (Reg.PORT_DELAY_NS p.val)).toNat) ∧ d'.now = d.now ∧ d'.mem = d.mem ∧ d'.link.rx = d.link.rx.erase r)) ∧
  (∀ (p : Fin 8) (r : RxMsg), Completes (.syncSignal p)
      (fun d => d.runs ∧ d.nextMessage p.val 0x03 = some r ∧ leAt r.msg.fields 0 4 < 2 ^ 18)
      (fun d d' => d'.sched.ops = d.sched.ops ++ [{ obj := leAt r.msg.fields 0 4, kind := 3, source := r.msg.src, amount := leAt r.msg.fields 4 4 }] ∧ d'.regs = d.regs ∧ d'.link.rx = d.link.rx.erase r)) ∧
  (∀ (v : Word), 2 ^ 12 ≤ v.toNat → Completes (.groupCtrlWrite v)
      (fun d => d.runs)
      (fun d d' => d' = d.refuse 0x0E01)) ∧
  (∀ (v : Word), v.toNat < 2 ^ 12 → Completes (.groupCtrlWrite v)
      (fun d => d.runs ∧ 1 < d.groupSize ∧ bitsOf v.toNat 1 5 ≠ d.memberId)
      (fun d d' => d' = d.refuse 0x0E06)) ∧
  (∀ (v : Word), v.toNat < 2 ^ 12 → Completes (.groupCtrlWrite v)
      (fun d => d.runs ∧ d.groupSize = 1 ∧ d.regsWf)
      (fun d d' => d'.reg Reg.GROUP_CTRL = BitVec.ofNat 64 v.toNat ∧ d'.memberId = bitsOf v.toNat 1 5 ∧ (bitsOf v.toNat 0 1 = 0 → d'.reg Reg.GROUP_PRESENT = 0) ∧ (bitsOf v.toNat 0 1 = 1 → bitAt (d'.reg Reg.GROUP_PRESENT).toNat (bitsOf v.toNat 1 5) = true) ∧ (bitsOf v.toNat 1 5 ≠ bitsOf v.toNat 6 5 → d'.reg Reg.GROUP_STEP_DELTA = d.reg Reg.GROUP_STEP_DELTA) ∧ d.sameRegsBut d' [Reg.GROUP_CTRL, Reg.GROUP_PRESENT, Reg.GROUP_STEP_DELTA])) ∧
  (∀ (m : Fin 32) (v : Word), 256 ≤ v.toNat → Completes (.groupRouteWrite m v)
      (fun d => d.runs)
      (fun d d' => d' = d.refuse 0x0E01)) ∧
  (∀ (m : Fin 32) (v : Word), v.toNat < 256 ∧ bitsOf v.toNat 3 1 = 1 → Completes (.groupRouteWrite m v)
      (fun d => d.runs ∧ d.portAlanauri (bitsOf v.toNat 0 3) = false)
      (fun d d' => d' = d.refuse 0x0E16)) ∧
  (∀ (m : Fin 32) (v : Word), v.toNat < 256 → Completes (.groupRouteWrite m v)
      (fun d => d.runs ∧ d.portAlanauri (bitsOf v.toNat 0 3) = true ∧ d.portAlanauri (bitsOf v.toNat 4 3) = true ∧ d.regsWf)
      (fun d d' => d'.reg (Reg.GROUP_ROUTE m.val) = BitVec.ofNat 64 v.toNat ∧ d.sameRegsBut d' [Reg.GROUP_ROUTE m.val] ∧ d' = { d with regs := d'.regs }))

/-- A Traverse job checks its command, takes the parts of the members, and stages its destination once all have come. R457, R458, R459, R460, R467. -/
def Obligations.TraverseJobs : Prop :=
  (∀ (die k : Fin 4) (cfg : List Byte) (e : LiftEntry) (rest : List LiftEntry), Completes (.travAlltoall die k)
      (fun d => d.runs ∧ d.oneHead die.val 7 k.val (4096 * die.val + travCmdLift cfg) cfg e rest ∧ d.inputsPoisoned [e] = false ∧ leAt (d.handleData e) 0 1 = 0 ∧ (travCmd (d.handleData e)).fieldsOk = false ∧ d.regsWf ∧
        Map.rising d.stn.jobs = true ∧ Map.rising d.link.trav = true)
      (fun d d' => d'.liftQ (4096 * die.val + travCmdLift cfg) = rest ∧ d'.job (travKey die.val k.val) = none ∧ d.counted d' (Reg.TRAV_JOBS_FAILED die.val k.val) 1 ∧ d'.reg (Reg.TRAV_LAST_FAIL die.val k.val) = BitVec.ofNat 64 (0x0E12 + 2 ^ 16 * e.tag) ∧ d'.mem = d.mem ∧
        d.sameRegsBut d' [Reg.TRAV_JOBS_FAILED die.val k.val, Reg.TRAV_LAST_FAIL die.val k.val] ∧
        (∀ i u, d.findTask e.tag = some (i, u) → u.state = .open → u.aborting = false →
          (d'.str.tasks.get? i).map (fun x => (x.aborting, x.code)) = some (true, 0x0E12) ∧ d'.str.abortReqs = d.str.abortReqs ++ [(e.tag, 0x0E12)]))) ∧
  (∀ (die k : Fin 4) (cfg : List Byte) (e : LiftEntry) (rest : List LiftEntry), Completes (.travReduce die k)
      (fun d => d.runs ∧ d.oneHead die.val 7 k.val (4096 * die.val + travCmdLift cfg) cfg e rest ∧ d.inputsPoisoned [e] = false ∧ leAt (d.handleData e) 0 1 = 1 ∧ (travCmd (d.handleData e)).fieldsOk = false ∧ d.regsWf ∧
        Map.rising d.stn.jobs = true ∧ Map.rising d.link.trav = true)
      (fun d d' => d'.liftQ (4096 * die.val + travCmdLift cfg) = rest ∧ d'.job (travKey die.val k.val) = none ∧ d.counted d' (Reg.TRAV_JOBS_FAILED die.val k.val) 1 ∧ d'.reg (Reg.TRAV_LAST_FAIL die.val k.val) = BitVec.ofNat 64 (0x0E12 + 2 ^ 16 * e.tag) ∧ d'.mem = d.mem ∧
        d.sameRegsBut d' [Reg.TRAV_JOBS_FAILED die.val k.val, Reg.TRAV_LAST_FAIL die.val k.val] ∧
        (∀ i u, d.findTask e.tag = some (i, u) → u.state = .open → u.aborting = false →
          (d'.str.tasks.get? i).map (fun x => (x.aborting, x.code)) = some (true, 0x0E12) ∧ d'.str.abortReqs = d.str.abortReqs ++ [(e.tag, 0x0E12)]))) ∧
  (∀ (die k : Fin 4) (cfg : List Byte) (e : LiftEntry) (rest : List LiftEntry), Completes (.travRdmaWrite die k)
      (fun d => d.runs ∧ d.oneHead die.val 7 k.val (4096 * die.val + travCmdLift cfg) cfg e rest ∧ d.inputsPoisoned [e] = false ∧ leAt (d.handleData e) 0 1 = 2 ∧ (travCmd (d.handleData e)).fieldsOk = false ∧ d.regsWf ∧
        Map.rising d.stn.jobs = true ∧ Map.rising d.link.trav = true)
      (fun d d' => d'.liftQ (4096 * die.val + travCmdLift cfg) = rest ∧ d.jobFailed d' (travKey die.val k.val) (Reg.TRAV_JOBS_FAILED die.val k.val) (Reg.TRAV_LAST_FAIL die.val k.val) 0x0E12 e.tag)) ∧
  (∀ (die k : Fin 4) (cfg : List Byte) (j : Job) (t : TravJob) (sm : ShardMap) (dm : ShardMap) (y : Tensor) (ws : List TileWrite) (w : StagedWrite) (i : Nat) (u : Task), Completes (.travAlltoall die k)
      (fun d => d.runs ∧ d.stationCfg die.val 7 k.val = some cfg ∧ d.stationStopped die.val 7 k.val = false ∧ d.job (travKey die.val k.val) = some j ∧ j.mode = 0 ∧ d.taskGone j.tag = false ∧ d.link.trav.get? (travKey die.val k.val) = some t ∧ d.shardMap die.val (travCmd t.cmd).srcMap = some sm ∧ t.asked = true ∧ t.sent = true ∧ t.staged = false ∧ d.quiet (travStream die.val k.val 0) = true ∧ d.quiet (travStream die.val k.val 1) = true ∧ d.shardMap die.val (travCmd t.cmd).dstMap = some dm ∧
        (dm.part d.memberId).empty = false ∧ travComplete t sm (dm.part d.memberId) d.groupSize = true ∧ tensorFrom (travCmd t.cmd).dst t.comps = y ∧
        y.desc.indexed = false ∧ y.idx = none ∧ (y.drainWrites (d.stream (travStream die.val k.val 1)).tile 0 ((List.range y.viewRows).map (y.travRow t (travCmd t.cmd) (dm.part d.memberId) sm.cols d.groupSize))).1 = ws ∧
        (d.reachWrites die.val j.tag y.desc.combine ws).1 = .inl [.stage w] ∧ (d.reachWrites die.val j.tag y.desc.combine ws).2 = d ∧
        d.accessCheck w.addr w.data.length true = none ∧ d.provisional (travStream die.val k.val 1) = false ∧ (d.stream (travStream die.val k.val 1)).tag = j.tag ∧ d.findTask j.tag = some (i, u) ∧ w.die = die.val ∧
        d.stagingUsed die.val + w.data.length / 64 + 2 ≤ d.stagingCapacity die.val)
      (fun d d' => d'.str.tasks.get? i = some { u with writes := u.writes ++ [w] } ∧ d'.link.trav.get? (travKey die.val k.val) = some { t with staged := true } ∧
        (d'.stream (travStream die.val k.val 1)).outstanding = 1 ∧ d'.job (travKey die.val k.val) = some j ∧ d'.mem = d.mem)) ∧
  (∀ (die k : Fin 4) (cfg : List Byte) (j : Job) (t : TravJob) (sm : ShardMap) (dm : ShardMap) (y : Tensor) (ws : List TileWrite) (w : StagedWrite) (i : Nat) (u : Task), Completes (.travReduce die k)
      (fun d => d.runs ∧ d.stationCfg die.val 7 k.val = some cfg ∧ d.stationStopped die.val 7 k.val = false ∧ d.job (travKey die.val k.val) = some j ∧ j.mode = 1 ∧ d.taskGone j.tag = false ∧ d.link.trav.get? (travKey die.val k.val) = some t ∧ d.shardMap die.val (travCmd t.cmd).srcMap = some sm ∧ t.asked = true ∧ t.sent = true ∧ t.staged = false ∧ d.quiet (travStream die.val k.val 0) = true ∧ d.quiet (travStream die.val k.val 1) = true ∧ d.shardMap die.val (travCmd t.cmd).dstMap = some dm ∧
        (dm.part d.memberId).empty = false ∧ travComplete t sm (dm.part d.memberId) d.groupSize = true ∧ tensorFrom (travCmd t.cmd).dst t.comps = y ∧
        y.desc.indexed = false ∧ y.idx = none ∧ (y.drainWrites (d.stream (travStream die.val k.val 1)).tile 0 ((List.range y.viewRows).map (y.travRow t (travCmd t.cmd) (dm.part d.memberId) sm.cols d.groupSize))).1 = ws ∧
        (d.reachWrites die.val j.tag y.desc.combine ws).1 = .inl [.stage w] ∧ (d.reachWrites die.val j.tag y.desc.combine ws).2 = d ∧
        d.accessCheck w.addr w.data.length true = none ∧ d.provisional (travStream die.val k.val 1) = false ∧ (d.stream (travStream die.val k.val 1)).tag = j.tag ∧ d.findTask j.tag = some (i, u) ∧ w.die = die.val ∧
        d.stagingUsed die.val + w.data.length / 64 + 2 ≤ d.stagingCapacity die.val)
      (fun d d' => d'.str.tasks.get? i = some { u with writes := u.writes ++ [w] } ∧ d'.link.trav.get? (travKey die.val k.val) = some { t with staged := true } ∧
        (d'.stream (travStream die.val k.val 1)).outstanding = 1 ∧ d'.job (travKey die.val k.val) = some j ∧ d'.mem = d.mem)) ∧
  (∀ (die k : Fin 4) (cfg : List Byte) (j : Job) (t : TravJob) (sm : ShardMap) (dm : ShardMap), Completes (.travAlltoall die k)
      (fun d => d.runs ∧ d.stationCfg die.val 7 k.val = some cfg ∧ d.stationStopped die.val 7 k.val = false ∧ d.job (travKey die.val k.val) = some j ∧ j.mode = 0 ∧ d.taskGone j.tag = false ∧ d.link.trav.get? (travKey die.val k.val) = some t ∧ d.shardMap die.val (travCmd t.cmd).srcMap = some sm ∧ t.asked = true ∧ t.sent = true ∧ t.staged = true ∧ d.quiet (travStream die.val k.val 0) = true ∧ d.quiet (travStream die.val k.val 1) = true ∧ d.shardMap die.val (travCmd t.cmd).dstMap = some dm ∧
        travComplete t sm (dm.part d.memberId) d.groupSize = true ∧ travDoneLift cfg = 0xFFFF ∧ Map.rising d.stn.jobs = true ∧ Map.rising d.link.trav = true)
      (fun d d' => d'.job (travKey die.val k.val) = none ∧ d'.link.trav.get? (travKey die.val k.val) = none ∧ d'.link.travEnded = d.link.travEnded ++ [(j.tag, travKey die.val k.val)] ∧
        (d'.stream (travStream die.val k.val 0)).state = .done ∧ (d'.stream (travStream die.val k.val 1)).state = .done ∧ d'.mem = d.mem)) ∧
  (∀ (die k : Fin 4) (cfg : List Byte) (j : Job) (t : TravJob) (sm : ShardMap) (dm : ShardMap), Completes (.travReduce die k)
      (fun d => d.runs ∧ d.stationCfg die.val 7 k.val = some cfg ∧ d.stationStopped die.val 7 k.val = false ∧ d.job (travKey die.val k.val) = some j ∧ j.mode = 1 ∧ d.taskGone j.tag = false ∧ d.link.trav.get? (travKey die.val k.val) = some t ∧ d.shardMap die.val (travCmd t.cmd).srcMap = some sm ∧ t.asked = true ∧ t.sent = true ∧ t.staged = true ∧ d.quiet (travStream die.val k.val 0) = true ∧ d.quiet (travStream die.val k.val 1) = true ∧ d.shardMap die.val (travCmd t.cmd).dstMap = some dm ∧
        travComplete t sm (dm.part d.memberId) d.groupSize = true ∧ travDoneLift cfg = 0xFFFF ∧ Map.rising d.stn.jobs = true ∧ Map.rising d.link.trav = true)
      (fun d d' => d'.job (travKey die.val k.val) = none ∧ d'.link.trav.get? (travKey die.val k.val) = none ∧ d'.link.travEnded = d.link.travEnded ++ [(j.tag, travKey die.val k.val)] ∧
        (d'.stream (travStream die.val k.val 0)).state = .done ∧ (d'.stream (travStream die.val k.val 1)).state = .done ∧ d'.mem = d.mem)) ∧
  (∀ (die k : Fin 4) (cfg : List Byte) (j : Job) (t : TravJob) (sm : ShardMap) (x : Tensor) (data : List Byte) (i : Nat) (u : Task), Completes (.travRdmaWrite die k)
      (fun d => d.runs ∧ d.stationCfg die.val 7 k.val = some cfg ∧ d.stationStopped die.val 7 k.val = false ∧ d.job (travKey die.val k.val) = some j ∧ j.mode = 2 ∧ d.taskGone j.tag = false ∧ d.link.trav.get? (travKey die.val k.val) = some t ∧ d.shardMap die.val (travCmd t.cmd).srcMap = some sm ∧ t.asked = true ∧ t.sent = false ∧ d.quiet (travStream die.val k.val 0) = true ∧ (sm.part d.memberId).empty = false ∧ tensorFrom (travCmd t.cmd).src t.comps = x ∧
        ((List.range x.viewRows).map (fun r => x.assemble (d.stream (travStream die.val k.val 0)).tile (x.window r) r)).flatten = data ∧ d.findTask j.tag = some (i, u) ∧
        d.stagingUsed die.val + ceilDiv data.length 64 ≤ d.stagingCapacity die.val ∧ travDoneLift cfg = 0xFFFF ∧ Map.rising d.stn.jobs = true ∧ Map.rising d.link.trav = true)
      (fun d d' => d'.job (travKey die.val k.val) = none ∧ (d'.str.tasks.get? i).map (fun u => u.rdma) = some (u.rdma ++ [((travCmd t.cmd).qp, (travCmd t.cmd).va, (travCmd t.cmd).rkey, data)]) ∧
        (d'.stream (travStream die.val k.val 0)).state = .done ∧ d'.mem = d.mem))

/-- Peer accesses are served or rejected; exchange data, READY and ABORT messages reach their job and task. R443, R460, R461, R462, R463, R476. -/
def Obligations.PeersAndExchanges : Prop :=
  (∀ (p : Fin 8) (r : RxMsg), Completes (.peerWrite p)
      (fun d => d.runs ∧ d.nextMessage p.val 0x09 = some r ∧ r.msg.payload ≠ [] ∧ d.localRange (leAt r.msg.fields 0 8) r.msg.payload.length = true ∧ Memory.wf d.mem = true)
      (fun d d' => d.stored d' (leAt r.msg.fields 0 8) r.msg.payload ∧ d'.regs = d.regs ∧ d'.link.rx = d.link.rx.erase r)) ∧
  (∀ (p : Fin 8) (r : RxMsg), Completes (.peerWrite p)
      (fun d => d.runs ∧ d.nextMessage p.val 0x09 = some r ∧ (r.msg.payload = [] ∨ d.localRange (leAt r.msg.fields 0 8) r.msg.payload.length = false) ∧ d.fault.inputQ.length < 224 ∧ d.regsWf)
      (fun d d' => d.counted d' Reg.MEM_PEER_REJECT 1 ∧ (∃ e, d'.fault.inputQ = d.fault.inputQ ++ [e] ∧ e.seq = d.fld Reg.EVR_SEQ_NEXT Fd.EVR_SEQ_NEXT_SEQ ∧ e.arg0 = leAt r.msg.fields 0 8 ∧ e.loc.index = r.msg.src) ∧ d'.mem = d.mem ∧ d'.link.rx = d.link.rx.erase r)) ∧
  (∀ (p : Fin 8) (r : RxMsg) (a n q : Nat), Completes (.peerRead p)
      (fun d => d.runs ∧ d.nextMessage p.val 0x0A = some r ∧ leAt r.msg.fields 0 8 = a ∧ leAt r.msg.fields 8 4 = n ∧ 1 ≤ n ∧ n ≤ 4096 ∧ d.localRange a n = true ∧ d.poisoned a n = false ∧ d.packageContained = false ∧ d.routePort r.msg.src = some q)
      (fun d d' => d'.messageSent q { mtype := 0x0B, src := d.memberId, dst := r.msg.src, hops := 0, pseq := d.link.txPseq.getD (4 * r.msg.src + 2) 0, fields := zeros 12 ++ u32 (leAt r.msg.fields 12 4) ++ zeros 4, payload := d.read a n } 4 ∧ d'.mem = d.mem ∧ d'.regs = d.regs)) ∧
  (∀ (p : Fin 8) (r : RxMsg) (a n q : Nat), Completes (.peerRead p)
      (fun d => d.runs ∧ d.nextMessage p.val 0x0A = some r ∧ leAt r.msg.fields 0 8 = a ∧ leAt r.msg.fields 8 4 = n ∧ (n = 0 ∨ 4096 < n ∨ d.localRange a n = false ∨ d.poisoned a n = true) ∧ d.packageContained = false ∧ d.routePort r.msg.src = some q)
      (fun d d' => d'.messageSent q { mtype := 0x0B, src := d.memberId, dst := r.msg.src, hops := 0, pseq := d.link.txPseq.getD (4 * r.msg.src + 2) 0, fields := zeros 12 ++ u32 (leAt r.msg.fields 12 4) ++ u8 1 ++ zeros 3, payload := [] } 4 ∧ d'.mem = d.mem ∧ d'.regs = d.regs)) ∧
  (∀ (p : Fin 8) (r : RxMsg) (x : ExtRead), Completes (.peerData p)
      (fun d => d.runs ∧ d.nextMessage p.val 0x0B = some r ∧ d.str.extReads.find? (fun x => x.peer && x.id = leAt r.msg.fields 12 4) = some x ∧ leAt r.msg.fields 16 1 = 0 ∧ r.msg.payload.length = x.len ∧ x.dst < tileBase ∧ x.stream ≠ planStoreStream ∧ x.stream ≠ commitStream ∧ Memory.wf d.mem = true)
      (fun d d' => d.stored d' x.dst r.msg.payload ∧ d'.str.extReads = d.str.extReads.erase x ∧ d'.regs = d.regs)) ∧
  (∀ (p : Fin 8) (r : RxMsg) (x : ExtRead), Completes (.peerData p)
      (fun d => d.runs ∧ d.nextMessage p.val 0x0B = some r ∧ d.str.extReads.find? (fun x => x.peer && x.id = leAt r.msg.fields 12 4) = some x ∧ leAt r.msg.fields 16 1 = 1 ∧ d.streamRec x.stream = none ∧ x.stream ≠ planStoreStream ∧ x.stream ≠ commitStream)
      (fun d d' => d.abortAsked d' x.tag 0x0F15 ∧ d'.str.extReads = d.str.extReads.erase x ∧ d'.mem = d.mem)) ∧
  (∀ (p : Fin 8) (r : RxMsg) (key : Nat) (t : TravJob), Completes (.exchData p)
      (fun d => d.runs ∧ d.nextMessage p.val 0x08 = some r ∧ d.exchRoom r.msg = true ∧ (d.takeRx p.val 8 (fun r => d.exchRoom r.msg)).map (·.1) = some r ∧ d.exchJob (msgStage r.msg) (msgExch r.msg) = some (key, t) ∧ leAt r.msg.fields 1 1 = (travCmd t.cmd).op ∧
        leAt r.msg.fields 2 1 = (travCmd t.cmd).srcMap ∧ leAt r.msg.fields 3 1 = (travCmd t.cmd).dstMap ∧ leAt r.msg.fields 16 1 = (descOf (travCmd t.cmd).src).elem)
      (fun d d' => d'.link.trav.get? key = some (travTake t r.msg.src (leAt r.msg.fields 16 1) (leAt r.msg.fields 8 8) (d.travMine (key / 1024) (travCmd t.cmd) r.msg.src) r.msg.payload) ∧ d'.mem = d.mem ∧ d'.str = d.str)) ∧
  (∀ (p : Fin 8) (r : RxMsg) (key : Nat) (t : TravJob) (j : Job), Completes (.exchData p)
      (fun d => d.runs ∧ (d.takeRx p.val 8 (fun r => d.exchRoom r.msg)).map (·.1) = some r ∧ d.exchJob (msgStage r.msg) (msgExch r.msg) = some (key, t) ∧ leAt r.msg.fields 1 1 ≠ (travCmd t.cmd).op ∧ d.job key = some j)
      (fun d d' => d.abortAsked d' j.tag 0x0E13 ∧ d'.link.trav = d.link.trav)) ∧
  (∀ (p : Fin 8) (r : RxMsg), Completes (.exchData p)
      (fun d => d.runs ∧ (d.takeRx p.val 8 (fun r => d.exchRoom r.msg)).map (·.1) = some r ∧ d.exchJob (msgStage r.msg) (msgExch r.msg) = none ∧ d.unheard (msgStage r.msg) (msgExch r.msg) r.msg.src = none ∧ d.heldExch (msgStage r.msg) (msgExch r.msg) = none)
      (fun d d' => d'.link.held = d.link.held ++ [{ stage := msgStage r.msg, exch := msgExch r.msg, step := d.stepNum, data := [r.msg], ready := [] }] ∧ d'.str = d.str ∧ d'.mem = d.mem)) ∧
  (∀ (p : Fin 8) (r : RxMsg) (k : Nat) (t : Task), Completes (.exchReady p)
      (fun d => d.runs ∧ d.nextMessage p.val 0x04 = some r ∧ d.unheard (msgStage r.msg) (msgExch r.msg) r.msg.src = some (k, t) ∧ t.state = .open ∧ t.prepared = true ∧ t.aborting = false ∧ t.exch = [(r.msg.src, msgExch r.msg, false)])
      (fun d d' => d'.str.tasks.get? k = some { t with exch := [(r.msg.src, msgExch r.msg, true)], state := .ended, prepared := false } ∧ d'.mem = d.mem)) ∧
  (∀ (p : Fin 8) (r : RxMsg), Completes (.exchReady p)
      (fun d => d.runs ∧ d.nextMessage p.val 0x04 = some r ∧ d.unheard (msgStage r.msg) (msgExch r.msg) r.msg.src = none ∧ d.heldExch (msgStage r.msg) (msgExch r.msg) = none)
      (fun d d' => d'.link.held = d.link.held ++ [{ stage := msgStage r.msg, exch := msgExch r.msg, step := d.stepNum, data := [], ready := [r.msg.src] }] ∧ d'.str = d.str)) ∧
  (∀ (p : Fin 8) (r : RxMsg) (k : Nat) (t : Task), Completes (.exchAbort p)
      (fun d => d.runs ∧ d.nextMessage p.val 0x05 = some r ∧ d.unheard (msgStage r.msg) (msgExch r.msg) r.msg.src = some (k, t) ∧ d.findTask t.tag = some (k, t) ∧ t.state = .open ∧ t.aborting = false)
      (fun d d' => (d'.str.tasks.get? k).map (fun x => (x.aborting, x.code)) = some (true, 0x0E15) ∧ d'.str.abortReqs = d.str.abortReqs ++ [(t.tag, 0x0E15)])) ∧
  (∀ (p : Fin 8) (r : RxMsg), Completes (.exchAbort p)
      (fun d => d.runs ∧ d.nextMessage p.val 0x05 = some r ∧ d.str.tasks = [])
      (fun d d' => d'.link.exchAborts = d.link.exchAborts.filter (fun a => !(a.1 = msgStage r.msg && a.2.1 = msgExch r.msg)) ++ [(msgStage r.msg, msgExch r.msg, 0x0E15, containmentCode (leAt r.msg.fields 8 2))] ∧ d'.link.held = d.link.held.filter (fun h => !(h.stage = msgStage r.msg && h.exch = msgExch r.msg))))

/-- Addresses, queue pairs, memory regions and feeds of an Ethernet port, and their refusals. R466. -/
def Obligations.EthernetCommands : Prop :=
  (∀ (m : MsgRef) (pl : List Byte), Completes (.portAddr m pl)
      (fun d => d.runs ∧ d.turn m 0x5000 (fun b => b = pl) = true ∧ d.canAnswer m ∧ d.ethPort (leAt pl 0 1) = true)
      (fun d d' => d.answered d' m 0x5000 0 [] ∧ d'.link = { d.link with portAddr := d.link.portAddr.put (leAt pl 0 1) (leAt pl 8 6, leAt pl 16 4, leAt pl 32 16) } ∧ d.sameRegsBut d' answerRegs ∧ d' = { d with link := d'.link, regs := d'.regs, host := d'.host, out := d'.out })) ∧
  (∀ (m : MsgRef) (pl : List Byte), Completes (.portAddr m pl)
      (fun d => d.runs ∧ d.turn m 0x5000 (fun b => b = pl) = true ∧ d.ethPort (leAt pl 0 1) = false)
      (fun d d' => d' = d.refuseMsg m 0x5000 0x0E05)) ∧
  (∀ (m : MsgRef) (pl : List Byte) (q p : Nat), Completes (.qpSetup m pl)
      (fun d => d.runs ∧ d.turn m 0x5001 (fun b => b = pl) = true ∧ d.canAnswer m ∧ leAt pl 0 2 = q ∧ q < 4096 ∧ leAt pl 2 1 = p ∧ leAt pl 3 1 < 4 ∧ leAt pl 4 4 < 2 ^ 24 ∧ leAt pl 32 4 < 2 ^ 24 ∧ leAt pl 36 4 < 2 ^ 24 ∧ leAt pl 40 1 < 3 ∧ leAt pl 41 1 < 4 ∧ leAt pl 42 2 < 4096 ∧
          leAt pl 44 2 < 1024 ∧ leAt pl 46 1 < 64 ∧ d.link.qps.get? q = none ∧ d.ethPort p = true ∧ d.fld (Reg.PORT_CTRL p) Fd.PORT_CTRL_ROCE_EN = 1)
      (fun d d' => d.answered d' m 0x5001 0 [] ∧ d'.link = { d.link with qps := d.link.qps.put q { port := p, responder := (leAt pl 3 1).testBit 0, requester := (leAt pl 3 1).testBit 1, destQpn := leAt pl 4 4, destIp := leAt pl 8 16, destMac := leAt pl 24 6, txPsn := leAt pl 32 4, rxPsn := leAt pl 36 4, mtu := leAt pl 40 1, die := leAt pl 41 1, lift := leAt pl 42 2, pool := leAt pl 44 2, stage := leAt pl 46 1, error := false, rate := 65536, rateAt := d.now, retries := 0, sentAt := d.now, unacked := [], writeVa := 0, writeEnd := 0, writePa := 0, recv := [] } } ∧ d.sameRegsBut d' answerRegs ∧ d' = { d with link := d'.link, regs := d'.regs, host := d'.host, out := d'.out })) ∧
  (∀ (m : MsgRef) (pl : List Byte), Completes (.qpSetup m pl)
      (fun d => d.runs ∧ d.turn m 0x5001 (fun b => b = pl) = true ∧ (d.link.qps.get? (leAt pl 0 2)).isSome = true)
      (fun d d' => d' = d.refuseMsg m 0x5001 0x0E17)) ∧
  (∀ (m : MsgRef) (pl : List Byte), Completes (.qpDestroy m pl)
      (fun d => d.runs ∧ d.turn m 0x5002 (fun b => b = pl) = true ∧ d.canAnswer m ∧ leAt pl 0 2 < 4096)
      (fun d d' => d.answered d' m 0x5002 0 [] ∧ d'.link = { d.link with qps := d.link.qps.del (leAt pl 0 2) } ∧ d.sameRegsBut d' answerRegs ∧ d' = { d with link := d'.link, regs := d'.regs, host := d'.host, out := d'.out })) ∧
  (∀ (m : MsgRef) (pl : List Byte) (i : Nat), Completes (.mrSet m pl)
      (fun d => d.runs ∧ d.turn m 0x5003 (fun b => b = pl) = true ∧ d.canAnswer m ∧ leAt pl 0 2 = i ∧ i < 1024 ∧ d.link.mrs.get? i = none ∧ leAt pl 8 8 + leAt pl 16 8 ≤ 2 ^ 64 ∧ d.populated (leAt pl 24 8) (leAt pl 16 8) = true ∧ (∀ e ∈ d.link.mrs, e.2.rkey ≠ leAt pl 4 4))
      (fun d d' => d.answered d' m 0x5003 0 [] ∧ d'.link = { d.link with mrs := d.link.mrs.put i { rkey := leAt pl 4 4, va := leAt pl 8 8, len := leAt pl 16 8, pa := leAt pl 24 8 } } ∧ d.sameRegsBut d' answerRegs ∧ d' = { d with link := d'.link, regs := d'.regs, host := d'.host, out := d'.out })) ∧
  (∀ (m : MsgRef) (pl : List Byte), Completes (.mrSet m pl)
      (fun d => d.runs ∧ d.turn m 0x5003 (fun b => b = pl) = true ∧ ((d.link.mrs.get? (leAt pl 0 2)).isSome = true ∨ d.populated (leAt pl 24 8) (leAt pl 16 8) = false ∨ ∃ e ∈ d.link.mrs, e.2.rkey = leAt pl 4 4))
      (fun d d' => d' = d.refuseMsg m 0x5003 0x0E18)) ∧
  (∀ (m : MsgRef) (pl : List Byte), Completes (.mrClear m pl)
      (fun d => d.runs ∧ d.turn m 0x5004 (fun b => b = pl) = true ∧ d.canAnswer m ∧ leAt pl 0 2 < 1024)
      (fun d d' => d.answered d' m 0x5004 0 [] ∧ d'.link = { d.link with mrs := d.link.mrs.del (leAt pl 0 2) } ∧ d.sameRegsBut d' answerRegs ∧ d' = { d with link := d'.link, regs := d'.regs, host := d'.host, out := d'.out })) ∧
  (∀ (m : MsgRef) (pl : List Byte) (i p : Nat), Completes (.feedBind m pl)
      (fun d => d.runs ∧ d.turn m 0x5005 (fun b => b = pl) = true ∧ d.canAnswer m ∧ leAt pl 0 2 = i ∧ i < 64 ∧ leAt pl 2 1 = p ∧ leAt pl 3 1 < 2 ∧ leAt pl 24 1 < 4 ∧ leAt pl 25 1 < 64 ∧ leAt pl 26 2 < 4096 ∧ leAt pl 28 2 < 1024 ∧ 1 ≤ leAt pl 30 2 ∧ 1 ≤ leAt pl 32 4 ∧ leAt pl 32 4 ≤ 1000000 ∧
          d.link.feeds.get? i = none ∧ d.ethPort p = true ∧ d.fld (Reg.PORT_CTRL p) Fd.PORT_CTRL_FEED_EN = 1)
      (fun d d' => d.answered d' m 0x5005 0 [] ∧ d'.link = { d.link with feeds := d.link.feeds.put i { port := p, ipv6 := (leAt pl 3 1).testBit 0, udpPort := leAt pl 4 2, dstIp := leAt pl 8 16, die := leAt pl 24 1, stage := leAt pl 25 1, lift := leAt pl 26 2, pool := leAt pl 28 2, frames := leAt pl 30 2, closeUs := leAt pl 32 4, seq := 0, tag := 0, count := 0, first := 0 } } ∧ d.sameRegsBut d' answerRegs ∧ d' = { d with link := d'.link, regs := d'.regs, host := d'.host, out := d'.out })) ∧
  (∀ (m : MsgRef) (pl : List Byte), Completes (.feedBind m pl)
      (fun d => d.runs ∧ d.turn m 0x5005 (fun b => b = pl) = true ∧ (64 ≤ leAt pl 0 2 ∨ leAt pl 30 2 = 0 ∨ 1000000 < leAt pl 32 4 ∨ (d.link.feeds.get? (leAt pl 0 2)).isSome = true))
      (fun d d' => d' = d.refuseMsg m 0x5005 0x0E19)) ∧
  (∀ (m : MsgRef) (pl : List Byte), Completes (.feedUnbind m pl)
      (fun d => d.runs ∧ d.turn m 0x5006 (fun b => b = pl) = true ∧ d.canAnswer m ∧ leAt pl 0 2 < 64)
      (fun d d' => d.answered d' m 0x5006 0 [] ∧ d'.link = { d.link with feeds := d.link.feeds.del (leAt pl 0 2) } ∧ d.sameRegsBut d' answerRegs ∧ d' = { d with link := d'.link, regs := d'.regs, host := d'.host, out := d'.out }))

/-- RoCE packets, retransmission and rate, live feeds and PTP messages have their effects. R467, R468, R469. -/
def Obligations.RoceFeedsAndPtp : Prop :=
  (∀ (k : RocePkt) (q : Nat) (x : Qp) (i : Nat) (r : MemRegion), Completes (.roceWriteIn k)
      (fun d => d.runs ∧ d.qpAt k.port.val k.qpn = some (q, x) ∧ k.icrc = true ∧ k.ce = false ∧ x.responder = true ∧ k.psn = x.rxPsn ∧ k.kind = 3 ∧ k.data.length = k.len ∧ k.len ≤ 1024 * 2 ^ x.mtu ∧ d.link.mrs = [(i, r)] ∧ r.rkey = k.rkey ∧ r.va ≤ k.va ∧ k.va + k.len ≤ r.va + r.len ∧ Memory.wf d.mem = true)
      (fun d d' => d.stored d' (r.pa + (k.va - r.va)) k.data ∧ (d'.link.qps.get? q).map (·.rxPsn) = some ((x.rxPsn + 1) % 2 ^ 24) ∧ d'.out = d.out ++ [.roce x.port x.destQpn 16 k.psn 0 0 []] ∧ d'.str = d.str ∧ d'.regs = d.regs)) ∧
  (∀ (k : RocePkt) (q : Nat) (x : Qp), Completes (.roceWriteIn k)
      (fun d => d.runs ∧ (d.qpAt k.port.val k.qpn = some (q, x) ∧ k.icrc = true ∧ k.ce = false ∧ x.responder = true ∧ k.psn = x.rxPsn ∧ k.kind = 3 ∧ k.data.length ≤ 1024 * 2 ^ x.mtu ∧ ∀ e ∈ d.link.mrs, e.2.rkey = k.rkey → k.va < e.2.va ∨ e.2.va + e.2.len < k.va + k.len))
      (fun d d' => d' = { d with out := d.out ++ [.roce x.port x.destQpn 18 k.psn 0 0 []] })) ∧
  (∀ (k : RocePkt) (q : Nat) (x : Qp), Completes (.roceWriteIn k)
      (fun d => d.runs ∧ d.qpAt k.port.val k.qpn = some (q, x) ∧ k.icrc = true ∧ k.ce = false ∧ x.responder = true ∧ x.rxPsn < k.psn ∧ k.psn < x.rxPsn + 2 ^ 23 ∧ k.psn < 2 ^ 24)
      (fun d d' => d' = { d with out := d.out ++ [.roce x.port x.destQpn 17 x.rxPsn 0 0 []] })) ∧
  (∀ (k : RocePkt) (q : Nat) (x : Qp), Completes (.roceWriteIn k)
      (fun d => d.runs ∧ d.qpAt k.port.val k.qpn = some (q, x) ∧ k.icrc = true ∧ k.ce = false ∧ x.responder = true ∧ k.psn = x.rxPsn ∧ 3 < k.kind)
      (fun d d' => d' = { d with out := d.out ++ [.roce x.port x.destQpn 19 k.psn 0 0 []] })) ∧
  (∀ (k : RocePkt), Completes (.roceWriteIn k)
      (fun d => d.runs ∧ k.icrc = false)
      (fun d d' => d' = d)) ∧
  (∀ (k : RocePkt) (q : Nat) (x : Qp) (a : Nat) (rest : List Nat) (tag : Nat) (d1 : Device), x.die < 4 ∧ x.pool < 1024 → Completes (.roceSendIn k)
      (fun d => d.runs ∧ d.qpAt k.port.val k.qpn = some (q, x) ∧ k.icrc = true ∧ k.ce = false ∧ x.responder = true ∧ k.psn = x.rxPsn ∧ k.kind = 3 ∧ k.data.length ≤ 1024 * 2 ^ x.mtu ∧ k.data.length + 64 ≤ d.poolSize (poolKey x.die x.pool) ∧ d.canPush (poolKey x.die x.pool) (4096 * x.die + x.lift) a rest ∧ d.str.allocWait = [] ∧ d.allocTag x.die x.stage = some (tag, d1) ∧ Memory.wf d.mem = true)
      (fun d d' => d.stored d' a (u32 k.data.length ++ zeros 60 ++ k.data) ∧ (d'.link.qps.get? q).map (·.rxPsn) = some ((x.rxPsn + 1) % 2 ^ 24) ∧ d'.out = d.out ++ [.roce x.port x.destQpn 16 k.psn 0 0 []] ∧ d'.str.pools.getD (poolKey x.die x.pool) [] = rest ∧
          .push (4096 * x.die + x.lift) { h := { addr := a, len := 64 + k.data.length, last := true, late := false, pool := x.pool }, tag := tag, src := .port x.port } ∈ d'.str.flight)) ∧
  (∀ (k : RocePkt) (q : Nat) (x : Qp), Completes (.roceSendIn k)
      (fun d => d.runs ∧ d.qpAt k.port.val k.qpn = some (q, x) ∧ k.icrc = true ∧ k.ce = false ∧ x.responder = true ∧ k.psn = x.rxPsn ∧ k.kind = 3 ∧ k.data.length ≤ 1024 * 2 ^ x.mtu ∧ k.data.length + 64 ≤ d.poolSize (poolKey x.die x.pool) ∧ d.str.pools.getD (poolKey x.die x.pool) [] = [])
      (fun d d' => d' = { d with out := d.out ++ [.roce x.port x.destQpn 20 k.psn 0 0 []] })) ∧
  (∀ (p : Fin 8) (qpn psn q : Nat) (x : Qp) (u : RoceSent), Completes (.roceAckIn p qpn psn 16 true)
      (fun d => d.runs ∧ d.qpAt p.val qpn = some (q, x) ∧ x.requester = true ∧ x.unacked = [u] ∧ u.psn = psn)
      (fun d d' => d'.link.qps.get? q = some { x with unacked := [], retries := 0, sentAt := d.now } ∧ d' = { d with link := d'.link })) ∧
  (∀ (p : Fin 8) (qpn psn syn q : Nat) (x : Qp), Completes (.roceAckIn p qpn psn syn true)
      (fun d => d.runs ∧ d.qpAt p.val qpn = some (q, x) ∧ x.requester = true ∧ (syn = 18 ∨ syn = 19))
      (fun d d' => d'.link.qps.get? q = some { x with error := true, unacked := [] } ∧ d'.str = d.str ∧ d'.mem = d.mem)) ∧
  (∀ (p : Fin 8) (qpn q : Nat) (x : Qp), Completes (.roceCnpIn p qpn true)
      (fun d => d.runs ∧ d.qpAt p.val qpn = some (q, x) ∧ x.requester = true)
      (fun d d' => d'.link.qps.get? q = some { x with rate := x.rate / 2, rateAt := d.now } ∧ d' = { d with link := d'.link })) ∧
  (∀ (q : Fin 4096) (x : Qp), Completes (.roceRateRestore q)
      (fun d => d.runs ∧ d.link.qps.get? q.val = some x ∧ x.rate < 65536)
      (fun d d' => (d'.link.qps.get? q.val).map (·.rate) = some (min 65536 (x.rate + 65536 / 16)) ∧ x.rateAt + 50000 ≤ d'.now ∧ d' = { d with link := d'.link, now := d'.now })) ∧
  (∀ (q : Fin 4096) (x : Qp) (u : RoceSent), Completes (.roceRetryTimeout q)
      (fun d => d.runs ∧ d.link.qps.get? q.val = some x ∧ d.packageContained = false ∧ x.error = false ∧ x.unacked = [u] ∧ x.retries < 7)
      (fun d d' => (d'.link.qps.get? q.val).map (fun y => (y.retries, y.unacked)) = some (x.retries + 1, [u]) ∧ d'.out = d.out ++ [.roce x.port x.destQpn u.kind u.psn u.va u.rkey u.data] ∧ x.sentAt + 64000 ≤ d'.now)) ∧
  (∀ (q : Fin 4096) (x : Qp), Completes (.roceRetryTimeout q)
      (fun d => d.runs ∧ d.link.qps.get? q.val = some x ∧ d.packageContained = false ∧ x.error = false ∧ x.unacked ≠ [] ∧ x.retries = 7)
      (fun d d' => (d'.link.qps.get? q.val).map (fun y => (y.error, y.unacked)) = some (true, []) ∧ d'.str = d.str)) ∧
  (∀ (g : Datagram) (i : Nat) (f : Feed) (a : Nat) (rest : List Nat) (tag : Nat) (d1 : Device), f.die < 4 ∧ f.pool < 1024 → Completes (.feedFrame g)
      (fun d => d.runs ∧ d.now ≤ g.time ∧ d.ethOn g.port.val Fd.PORT_CTRL_FEED_EN = true ∧ g.frame ≤ 9216 ∧ d.link.feeds = [(i, f)] ∧ f.port = g.port.val ∧ f.ipv6 = g.ipv6 ∧ f.dstIp = g.dstIp ∧ f.udpPort = g.dstPort ∧ f.count = 0 ∧ g.ok = true ∧ g.payload.length + 64 ≤ d.poolSize (poolKey f.die f.pool) ∧
          d.canPush (poolKey f.die f.pool) (4096 * f.die + f.lift) a rest ∧ d.str.allocWait = [] ∧ d.allocTag f.die f.stage = some (tag, d1) ∧ Memory.wf d.mem = true)
      (fun d d' => d.stored d' a (u64 (d.calAtTime g.time) ++ u16 i ++ u8 (bit g.ipv6 + 2 * bit d.calValid) ++ u8 g.port.val ++ u32 g.payload.length ++ leBytes 16 g.srcIp ++ u16 g.srcPort ++ zeros 2 ++ u32 f.seq ++ zeros 24 ++ g.payload) ∧
          .push (4096 * f.die + f.lift) { h := { addr := a, len := 64 + g.payload.length, last := decide (f.frames = 1), late := false, pool := f.pool }, tag := tag, src := .port g.port.val } ∈ d'.str.flight ∧
          (d'.link.feeds.get? i).map (fun y => (y.seq, y.tag, y.first)) = some ((f.seq + 1) % 2 ^ 32, tag, g.time) ∧ d'.now = g.time)) ∧
  (∀ (g : Datagram) (i : Nat) (f : Feed), Completes (.feedFrame g)
      (fun d => d.runs ∧ d.now ≤ g.time ∧ d.regsWf ∧ d.ethOn g.port.val Fd.PORT_CTRL_FEED_EN = true ∧ g.frame ≤ 9216 ∧ d.link.feeds = [(i, f)] ∧ f.port = g.port.val ∧ f.ipv6 = g.ipv6 ∧ f.dstIp = g.dstIp ∧ f.udpPort = g.dstPort ∧ (g.ok = false ∨ d.str.pools.getD (poolKey f.die f.pool) [] = [] ∨ d.poolSize (poolKey f.die f.pool) < g.payload.length + 64))
      (fun d d' => d.counted d' (Reg.PORT_FEED_DROPS g.port.val) 1 ∧ d'.mem = d.mem ∧ d'.str = d.str ∧ d'.link = d.link)) ∧
  (∀ (g : Datagram), Completes (.feedFrame g)
      (fun d => d.runs ∧ d.now ≤ g.time ∧ 9216 < g.frame)
      (fun d d' => d' = { d with now := g.time })) ∧
  (∀ (p : Fin 8) (x : PtpMsg), Completes (.ptpSyncIn p x)
      (fun d => d.runs ∧ d.ptpOn p.val = true ∧ d.now ≤ x.time ∧ x.twoStep = true)
      (fun d d' => (let u := d'.ptpUnit p.val
           (u.syncSeq, u.t1, u.corr, u.t2, u.awaiting, u.lastSync) = (x.seq, x.stamp, x.corr, d'.calAtTime x.time, true, some x.time)) ∧ d'.now = x.time ∧ d'.out = d.out ++ [.ptpDelayReq p.val])) ∧
  (∀ (p : Fin 8) (x : PtpMsg), Completes (.ptpFollowUpIn p x)
      (fun d => d.runs ∧ d.ptpOn p.val = true ∧ d.now ≤ x.time ∧ (d.ptpUnit p.val).awaiting = true ∧ x.seq = (d.ptpUnit p.val).syncSeq ∧ (d.ptpUnit p.val).delay = none)
      (fun d d' => d'.ptpUnit p.val = { d.ptpUnit p.val with t1 := x.stamp, corr := (d.ptpUnit p.val).corr + x.corr, awaiting := false } ∧ d'.now = x.time)) ∧
  (∀ (p : Fin 8) (x : PtpMsg), Completes (.ptpDelayRespIn p x)
      (fun d => d.runs ∧ d.ptpOn p.val = true ∧ d.now ≤ x.time ∧ (d.ptpUnit p.val).awaiting = false ∧ (d.ptpUnit p.val).lastSync.isSome = true ∧ x.seq = (d.ptpUnit p.val).reqSeq)
      (fun d d' => (let u := d.ptpUnit p.val
           d'.ptpUnit p.val = { u with delay := some ((((u.t2 : Int) - (u.t1 : Int) - u.corr) + ((x.stamp : Int) - (u.t3 : Int) - x.corr)) / 2) }) ∧ d'.now = x.time)) ∧
  (∀ (p : Fin 8) (t : Nat), Completes (.ptpSyncTimeout p)
      (fun d => d.runs ∧ d.ptpOn p.val = true ∧ (d.ptpUnit p.val).lastSync = some t ∧ d.regsWf)
      (fun d d' => d'.fld (Reg.PORT_STATUS p.val) Fd.PORT_STATUS_PTP_LOCK = 0 ∧ (d'.ptpUnit p.val).good = 0 ∧ t + 4 * (d.ptpUnit p.val).interval ≤ d'.now))

/-- The Groomer counts, poisons and reports what it finds; training ends with the populations it found. R480, R485, R486, R487, R488, R489, R492, R499, R500, R579. -/
def Obligations.GroomerAndTraining : Prop :=
  (∀ (a : Nat), Completes (.groomerPatrol (.memory a) 1 ⟨false, false, false⟩)
      (fun d => d.runs ∧ d.fld Reg.GROOM_CTRL Fd.GROOM_CTRL_ENABLE = 1 ∧ d.regsWf)
      (fun d d' => d.counted d' (Reg.MEM_CE_COUNT (d.tierReg a)) 1 ∧ d.sameRegsBut d' [Reg.MEM_CE_COUNT (d.tierReg a)] ∧ d' = { d with regs := d'.regs })) ∧
  (∀ (a : Nat) (be : Bool), Completes (.groomerPatrol (.memory a) 2 ⟨true, be, false⟩)
      (fun d => d.runs ∧ d.fld Reg.GROOM_CTRL Fd.GROOM_CTRL_ENABLE = 1 ∧ d.regsWf ∧ d.isLocal a = true ∧ a / 64 ∉ d.poison ∧ (d.errq (d.ownerQueue a)).handling = none ∧ (d.errq (d.ownerQueue a)).waiting = [] ∧ (d.errq (d.ownerQueue a)).suspended = [])
      (fun d d' => a / 64 ∈ d'.poison ∧ d.counted d' (Reg.MEM_UE_COUNT (d.tierReg a)) 1 ∧ d.counted d' (Reg.GROOM_PASSES (d.tierReg a)) 1 ∧
          d'.reg Reg.MEM_LAST_UE = BitVec.ofNat 64 (a / 64 * 64 + 2 ^ 56 * d.tierReg a + 2 ^ 58) ∧
          (d'.errq (d.ownerQueue a)).handling.map (fun e => (e.event.code, e.event.severity, e.event.loc.kind, e.event.arg0)) = some (0x0F12, 3, 7, a / 64 * 64) ∧ d'.memu.burst = (d.memu.burst && !be) ∧ d'.mem = d.mem)) ∧
  (∀ (die : Fin 5) (index : Nat), index < 2 ^ 56 → Completes (.groomerPatrol (.sram die index) 2 ⟨false, false, false⟩)
      (fun d => d.runs ∧ d.fld Reg.GROOM_CTRL Fd.GROOM_CTRL_ENABLE = 1 ∧ d.regsWf ∧ (0, die.val, index) ∉ d.fault.dark ∧ (d.errq die.val).handling = none ∧ (d.errq die.val).waiting = [] ∧ (d.errq die.val).suspended = [])
      (fun d d' => (0, die.val, index) ∈ d'.fault.dark ∧ d.counted d' (Reg.MEM_UE_COUNT 0) 1 ∧ d'.reg Reg.MEM_LAST_UE = BitVec.ofNat 64 (index + 2 ^ 58) ∧
          (d'.errq die.val).handling.map (fun e => (e.event.code, e.event.severity, e.event.loc.kind, e.event.loc.die)) = some (0x0F12, 3, 7, die.val) ∧ d'.mem = d.mem ∧ d'.poison = d.poison)) ∧
  (∀ (die : Fin 5) (index : Nat), Completes (.groomerPatrol (.sram die index) 2 ⟨false, false, false⟩)
      (fun d => d.runs ∧ d.fld Reg.GROOM_CTRL Fd.GROOM_CTRL_ENABLE = 1 ∧ (0, die.val, index) ∈ d.fault.dark)
      (fun d d' => d' = d)) ∧
  (∀ (a : Nat), Completes (.groomerPatrol (.memory a) 2 ⟨false, false, false⟩)
      (fun d => d.runs ∧ d.fld Reg.GROOM_CTRL Fd.GROOM_CTRL_ENABLE = 1 ∧ a / 64 ∈ d.poison)
      (fun d d' => d' = d)) ∧
  (∀ (t : PatrolTarget), Completes (.groomerPatrol t 0 ⟨false, true, false⟩)
      (fun d => d.runs ∧ d.fld Reg.GROOM_CTRL Fd.GROOM_CTRL_ENABLE = 1)
      (fun d d' => d' = { d with memu := { d.memu with burst := false } })) ∧
  (∀ (t : PatrolTarget) (n : Fin 3) (pe be : Bool), Completes (.groomerPatrol t n ⟨pe, be, false⟩)
      (fun d => d.runs ∧ d.fld Reg.GROOM_CTRL Fd.GROOM_CTRL_ENABLE = 0)
      (fun d d' => d' = d)) ∧
  (∀ (v : Word), v.toNat < 4 → Completes (.groomCtrlWrite v)
      (fun d => d.runs ∧ d.regsWf)
      (fun d d' => d'.reg Reg.GROOM_CTRL = v.zeroExtend 64 ∧ d'.fld Reg.EVR_SEQ_NEXT Fd.EVR_SEQ_NEXT_SEQ = (d.fld Reg.EVR_SEQ_NEXT Fd.EVR_SEQ_NEXT_SEQ + (if d.fld Reg.GROOM_CTRL Fd.GROOM_CTRL_ENABLE = 1 ∧ v.toNat % 2 = 0 then 1 else 0)) % 2 ^ 32 ∧ d'.mem = d.mem ∧ d'.str = d.str ∧ (v.toNat ≠ 3 → d'.memu.burst = false))) ∧
  (∀ (v : Word), 4 ≤ v.toNat → Completes (.groomCtrlWrite v)
      (fun d => d.runs)
      (fun d d' => d' = d.refuse 0x0F01)) ∧
  (∀ (stk : BitVec 16) (bonded : List Nat) (dimms ddr : Option (Fin 16)), Completes (.memoryTrainingEnd stk bonded dimms ddr)
      (fun d => d.runs ∧ d.mgmt.fw = true ∧ d.fld Reg.MEM_STATUS Fd.MEM_STATUS_TRAINED = 0 ∧ d.regsWf)
      (fun d d' => let r := d.flash.record; let ready := boardRecordOk r && dimms.isNone && ddr.isNone
        let hbm := d'.fld Reg.MEM_STATUS Fd.MEM_STATUS_HBM_READY; let bond := d'.fld Reg.MEM_STATUS Fd.MEM_STATUS_BONDED_READY
        d'.mem = [] ∧ d'.poison = [] ∧ d'.fld Reg.MEM_STATUS Fd.MEM_STATUS_TRAINED = 1 ∧ (∀ k : Fin 4, hbm.testBit k.val = decide (stk.toNat / 2 ^ (4 * k.val) % 16 = 15)) ∧
          (∀ k : Fin 4, bond.testBit k.val = decide (bonded.getD k.val 0 ≤ 16)) ∧ d'.fld Reg.MEM_STATUS Fd.MEM_STATUS_DDR_READY = bit ready ∧
          d'.fld Reg.MEM_STATUS Fd.MEM_STATUS_DDR_MISMATCH = bit (!boardRecordOk r || dimms.isSome) ∧
          d'.reg Reg.DDR_MAPPED = BitVec.ofNat 64 (if ready then leAt r 0x0C 1 * (leAt r 0x0E 1 * leAt r 0x10 2 * 2 ^ 30 - 576 * 2 ^ 20) else 0) ∧
          d'.fld Reg.MEM_STATUS Fd.MEM_STATUS_TRAIN_CODE = (if hbm = 15 ∧ bond = 15 ∧ ready = true then 0 else 0x0F17))) ∧
  (∀ (stk : BitVec 16) (bonded : List Nat) (ch : Fin 16), stk = 0xFFFF ∧ bonded = [0, 0, 0, 0] → Completes (.memoryTrainingEnd stk bonded none (some ch))
      (fun d => d.runs ∧ d.mgmt.fw = true ∧ d.fld Reg.MEM_STATUS Fd.MEM_STATUS_TRAINED = 0 ∧ boardRecordOk d.flash.record = true ∧ d.fault.inputQ.length < 256 ∧ d.regsWf)
      (fun d d' => d'.fld Reg.MEM_STATUS Fd.MEM_STATUS_DDR_READY = 0 ∧ d'.fld Reg.MEM_STATUS Fd.MEM_STATUS_DDR_MISMATCH = 0 ∧
          (∃ e, d'.fault.inputQ = d.fault.inputQ ++ [e] ∧ e.code = 0x0F17 ∧ e.severity = 5 ∧ e.loc = { kind := 7, die := 4 + ch.val / 8, index := ch.val })))

/-- Virtual memory control, invalidation, ATS and host-window completions. R477, R497, R498, R503. -/
def Obligations.VirtualMemoryAndHost : Prop :=
  (∀ (v : Word), v.toNat < 8 → Completes (.vmCtrlWrite v)
      (fun d => d.runs ∧ d.regsWf ∧ (v.toNat.testBit 1 = true → d.host.atsEnable = true) ∧ (v.toNat.testBit 2 = true → d.host.priEnable = true))
      (fun d d' => d'.reg Reg.VM_CTRL = v.zeroExtend 64 ∧ d.sameRegsBut d' [Reg.VM_CTRL] ∧ d' = { d with regs := d'.regs })) ∧
  (∀ (v : Word), v.toNat < 8 → Completes (.vmCtrlWrite v)
      (fun d => d.runs ∧ ((v.toNat.testBit 1 = true ∧ d.host.atsEnable = false) ∨ (v.toNat.testBit 2 = true ∧ d.host.priEnable = false)))
      (fun d d' => d' = d.refuse 0x0F05)) ∧
  (∀ (v : DWord), v.toNat % 2 ^ 21 = 0 ∧ v.toNat < 2 ^ 56 → Completes (.vmRootWrite v)
      (fun d => d.runs ∧ d.regsWf ∧ d.fld Reg.VM_CTRL Fd.VM_CTRL_ENABLE = 0 ∧ d.inHbmDdr v.toNat = true ∧ d.inHbmDdr (v.toNat + 2 ^ 21 - 1) = true)
      (fun d d' => d'.reg Reg.VM_ROOT = v ∧ d.sameRegsBut d' [Reg.VM_ROOT] ∧ d' = { d.dropHalves Reg.VM_ROOT with regs := d'.regs })) ∧
  (∀ (v : DWord), v.toNat % 2 ^ 21 = 0 ∧ v.toNat < 2 ^ 56 → Completes (.vmRootWrite v)
      (fun d => d.runs ∧ d.fld Reg.VM_CTRL Fd.VM_CTRL_ENABLE = 1)
      (fun d d' => d' = (d.dropHalves Reg.VM_ROOT).refuse 0x0F06)) ∧
  (∀ (v : DWord), v.toNat % 2 ^ 21 = 0 ∧ v.toNat < 2 ^ 56 → Completes (.vmRootWrite v)
      (fun d => d.runs ∧ d.fld Reg.VM_CTRL Fd.VM_CTRL_ENABLE = 0 ∧ (d.inHbmDdr v.toNat = false ∨ d.inHbmDdr (v.toNat + 2 ^ 21 - 1) = false))
      (fun d d' => d' = (d.dropHalves Reg.VM_ROOT).refuse 0x0F16)) ∧
  (∀ (v : DWord), v.toNat.testBit 2 = true ∧ v.toNat / 8 % 2 ^ 9 = 0 ∧ v.toNat < 2 ^ 57 → Completes (.vmInval v)
      (fun d => d.runs ∧ d.regsWf)
      (fun d d' => (∀ e, e ∈ d'.memu.tlb ↔ e ∈ d.memu.tlb ∧ ¬ (e.va < (invalRange v.toNat).1 + (invalRange v.toNat).2 ∧ (invalRange v.toNat).1 < e.va + e.size)) ∧ d'.fld Reg.VM_INVAL Fd.VM_INVAL_GO = 1 ∧ d.sameRegsBut d' [Reg.VM_INVAL] ∧ d'.mem = d.mem)) ∧
  (∀ (r : Nat × Nat), Completes (.vmInvalDone)
      (fun d => d.runs ∧ d.fld Reg.VM_INVAL Fd.VM_INVAL_GO = 1 ∧ r ∈ d.memu.vmTargets ∧ d.inUse r.1 r.2 = true)
      (fun d d' => d' = d)) ∧
  (Completes (.vmInvalDone)
      (fun d => d.runs ∧ d.regsWf ∧ d.fld Reg.VM_INVAL Fd.VM_INVAL_GO = 1 ∧ (∀ r ∈ d.memu.vmTargets, d.inUse r.1 r.2 = false))
      (fun d d' => d'.fld Reg.VM_INVAL Fd.VM_INVAL_GO = 0 ∧ d.sameRegsBut d' [Reg.VM_INVAL] ∧ d'.mem = d.mem)) ∧
  (∀ (page target : Nat) (r : AtsRequest), Completes (.atsCompletion page target true true)
      (fun d => d.runs ∧ d.memu.atsPending = [r] ∧ r.page = page ∧ d.memu.atc = [])
      (fun d d' => d'.memu.atsPending = [] ∧ d'.memu.atc = [{ page := page, target := target / 4096 * 4096, read := true, write := true }] ∧ d' = { d with memu := d'.memu })) ∧
  (∀ (page target : Nat) (r : AtsRequest), Completes (.atsCompletion page target false false)
      (fun d => d.runs ∧ d.regsWf ∧ d.memu.atsPending = [r] ∧ r.page = page ∧ d.fld Reg.VM_CTRL Fd.VM_CTRL_PRI_EN = 0)
      (fun d d' => d'.memu.atsPending = [] ∧ d.abortAsked d' r.tag 0x0F13 ∧ d.counted d' Reg.VM_FAULT_COUNT 1 ∧ d'.reg Reg.VM_LAST_FAULT = BitVec.ofNat 64 (r.va % 2 ^ 57) ∧ d'.reg Reg.VM_LAST_FAULT_INFO = BitVec.ofNat 64 (0x0F13 + 2 ^ 16 * r.level + 2 ^ 18 * bit r.write) ∧ d'.memu.atc = d.memu.atc ∧ d'.mem = d.mem)) ∧
  (∀ (itag addr size : Nat) (e : AtcEntry), Completes (.atsInvalidate itag addr size)
      (fun d => d.runs ∧ d.memu.invals.length < invalDepth ∧ e ∈ d.memu.atc ∧ e.page * 4096 < addr + size ∧ addr < e.page * 4096 + 4096 ∧ d.inUse (hostBus e.target) 4096 = true)
      (fun d d' => e ∉ d'.memu.atc ∧ (∃ l, d'.memu.invals = d.memu.invals ++ [(itag, l)] ∧ e.target ∈ l) ∧ d'.out = d.out ∧ d'.regs = d.regs ∧ d'.mem = d.mem)) ∧
  (∀ (itag addr size : Nat), Completes (.atsInvalidate itag addr size)
      (fun d => d.runs ∧ d.memu.invals.length < invalDepth ∧ (∀ e ∈ d.memu.atc, e.page * 4096 < addr + size → addr < e.page * 4096 + 4096 → d.inUse (hostBus e.target) 4096 = false))
      (fun d d' => (∀ e, e ∈ d'.memu.atc ↔ e ∈ d.memu.atc ∧ ¬ (e.page * 4096 < addr + size ∧ addr < e.page * 4096 + 4096)) ∧ d'.out = d.out ++ [.atsInvalidateDone itag] ∧ d'.regs = d.regs ∧ d'.mem = d.mem)) ∧
  (∀ (n : Nat) (data : List Byte) (x : ExtRead), Completes (.hostReadCompletion n true data)
      (fun d => d.runs ∧ d.str.extReads = [x] ∧ x.peer = false ∧ x.id = n ∧ data.length = x.len ∧ x.dst < tileBase ∧ x.stream ≠ planStoreStream ∧ x.stream ≠ commitStream ∧ d.memu.invals = [] ∧ Memory.wf d.mem = true)
      (fun d d' => d.stored d' x.dst data ∧ d'.str.extReads = [] ∧ d'.regs = d.regs)) ∧
  (∀ (n : Nat) (data : List Byte) (x : ExtRead), Completes (.hostReadCompletion n false data)
      (fun d => d.runs ∧ d.str.extReads = [x] ∧ x.peer = false ∧ x.id = n ∧ d.streamRec x.stream = none ∧ x.stream ≠ planStoreStream ∧ x.stream ≠ commitStream ∧ d.memu.invals = [])
      (fun d d' => d.abortAsked d' x.tag 0x0F14 ∧ d'.str.extReads = [] ∧ d'.mem = d.mem))

/-- Doorbells, messages, ATTACH, DETACH, PING, acknowledgements and the watchdog. R513, R517, R518, R519, R521, R523, R526, R527, R528, R529, R531. -/
def Obligations.MailboxAndWatchdog : Prop :=
  (∀ (v : Word), Completes (.h2dDoorbell v [])
      (fun d => d.runs ∧ d.regsWf ∧ seqDist d.hseqPosted d.hseqNext ≤ seqDist v.toNat d.hseqNext ∧ seqDist v.toNat d.hseqNext ≤ 8192)
      (fun d d' => d'.reg Reg.MB_HSEQ_POSTED = v.zeroExtend 64 ∧ d.sameRegsBut d' [Reg.MB_HSEQ_POSTED] ∧ d'.host.wdogUsed = 0 ∧ d'.host.wdogSince = d.now ∧ d'.mem = d.mem)) ∧
  (∀ (v : Word), Completes (.h2dDoorbell v [])
      (fun d => d.runs ∧ d.regsWf ∧ (8192 < seqDist v.toNat d.hseqNext ∨ seqDist v.toNat d.hseqNext < seqDist d.hseqPosted d.hseqNext))
      (fun d d' => d'.reg Reg.HOST_LAST_ERROR = (d.refuse 0x0113).reg Reg.HOST_LAST_ERROR ∧ d'.reg Reg.MB_HSEQ_POSTED = d.reg Reg.MB_HSEQ_POSTED ∧ d'.host.wdogUsed = 0 ∧ d'.host.wdogSince = d.now)) ∧
  (∀ (v : Word), Completes (.h2dDoorbell v [])
      (fun d => d.runs ∧ d.regsWf ∧ seqDist v.toNat d.hseqNext < seqDist d.hseqPosted d.hseqNext)
      (fun d d' => d'.reg Reg.HOST_LAST_ERROR = (d.refuse 0x0113).reg Reg.HOST_LAST_ERROR ∧ d'.hseqPosted = d.hseqPosted ∧ d'.host.wdogUsed = 0)) ∧
  (∀ (b : List Byte), Completes (.messageConsume)
      (fun d => d.runs ∧ d.regsWf ∧ d.hseqNext ≠ d.hseqPosted ∧ d.d2hFree = true ∧ d.host.h2d.getD (d.hseqNext % 8192) [] = b ∧ d.messageCheck b = none ∧ d.packageContained = false ∧ (d.host.classQ.getD (leAt b 0 2 / 4096) []).length < 64)
      (fun d d' => d'.host.classQ.getD (leAt b 0 2 / 4096) [] = d.host.classQ.getD (leAt b 0 2 / 4096) [] ++ [{ opcode := leAt b 0 2, hseq := d.hseqNext, cookie := leAt b 24 4, payload := (b.drop 32).take (leAt b 4 2) }] ∧
          d'.hseqNext = (d.hseqNext + 1) % 2 ^ 32 ∧ d.sameRegsBut d' [Reg.MB_HSEQ_NEXT] ∧ d' = { d with regs := d'.regs, host := d'.host })) ∧
  (∀ (b : List Byte), Completes (.messageConsume)
      (fun d => d.runs ∧ d.regsWf ∧ d.hseqNext ≠ d.hseqPosted ∧ d.d2hFree = true ∧ d.host.h2d.getD (d.hseqNext % 8192) [] = b ∧ leAt b 8 4 ≠ d.hseqNext)
      (fun d d' => d.answered d' ⟨d.hseqNext, leAt b 24 4⟩ (leAt b 0 2) 0x0112 [] ∧ d'.hseqNext = (d.hseqNext + 1) % 2 ^ 32 ∧ d'.mem = d.mem ∧ d'.str = d.str ∧ d'.plan = d.plan)) ∧
  (Completes (.messageConsume)
      (fun d => d.runs ∧ d.d2hFree = false)
      (fun d d' => d' = d)) ∧
  (∀ (m : MsgRef) (v mm : Nat), Completes (.attach m v mm)
      (fun d => d.runs ∧ d.turn m 0x0001 (fieldsAre [(0, 4, v), (4, 1, mm)]) = true ∧ d.canAnswer m ∧ (d.fld Reg.HOST_STATE Fd.HOST_STATE_STATE = 0 ∨ d.fld Reg.HOST_STATE Fd.HOST_STATE_STATE = 3) ∧ d.packageContained = false ∧ d.host.msixEnable = false)
      (fun d d' => d'.fld Reg.HOST_STATE Fd.HOST_STATE_STATE = 1 ∧ d'.fld Reg.HOST_STATE Fd.HOST_STATE_DMA_OFF = 0 ∧ d.answered d' m 0x0001 0 (u32 d.hseqNext ++ u32 (d.fld Reg.MB_DSEQ_NEXT ⟨0, 32⟩) ++ u32 (d.fld Reg.MB_D2H_ACKED ⟨0, 32⟩) ++ u32 (d.fld Reg.MB_DROPPED ⟨0, 32⟩)
            ++ u8 1 ++ u8 0 ++ u8 (d.fld Reg.HOST_STATE Fd.HOST_STATE_STATE) ++ u8 (d.fld Reg.HOST_STATE Fd.HOST_STATE_WDOG_EXPIRED)) ∧ d.sameRegsBut d' (Reg.HOST_STATE :: answerRegs) ∧ d' = { d with regs := d'.regs, host := d'.host })) ∧
  (∀ (m : MsgRef) (v mm : Nat), Completes (.attach m v mm)
      (fun d => d.runs ∧ d.turn m 0x0001 (fieldsAre [(0, 4, v), (4, 1, mm)]) = true ∧ d.fld Reg.HOST_STATE Fd.HOST_STATE_STATE = 2)
      (fun d d' => d' = d.refuseMsg m 0x0001 0x0106)) ∧
  (∀ (m : MsgRef), Completes (.detach m)
      (fun d => d.runs ∧ d.turn m 0x0002 (fun _ => true) = true ∧ d.regsWf ∧ d.fld Reg.HOST_STATE Fd.HOST_STATE_STATE = 1 ∧ d.host.msixEnable = false)
      (fun d d' => d'.fld Reg.HOST_STATE Fd.HOST_STATE_STATE = 2 ∧ (m.hseq, m.cookie) ∈ d'.host.detaches ∧ d'.host.d2h = d.host.d2h ∧ d.sameRegsBut d' [Reg.HOST_STATE] ∧ d' = { d with regs := d'.regs, host := d'.host })) ∧
  (∀ (m : MsgRef), Completes (.detach m)
      (fun d => d.runs ∧ d.turn m 0x0002 (fun _ => true) = true ∧ d.canAnswer m ∧ d.fld Reg.HOST_STATE Fd.HOST_STATE_STATE = 3)
      (fun d d' => d.answered d' m 0x0002 0 (u32 d.host.parkStep) ∧ d.sameRegsBut d' answerRegs ∧ d' = { d with regs := d'.regs, host := d'.host, out := d'.out })) ∧
  (∀ (m : MsgRef) (x : DWord), Completes (.ping m x)
      (fun d => d.runs ∧ d.turn m 0x0003 (fieldsAre [(0, 8, (x).toNat)]) = true ∧ d.canAnswer m)
      (fun d d' => d.answered d' m 0x0003 0 (leBytes 8 x.toNat) ∧ d.sameRegsBut d' answerRegs ∧ d' = { d with regs := d'.regs, host := d'.host, out := d'.out })) ∧
  (∀ (v : Word), Completes (.d2hAck v)
      (fun d => d.runs ∧ d.regsWf ∧ seqDist v.toNat (d.fld Reg.MB_D2H_ACKED ⟨0, 32⟩) ≤ seqDist (d.fld Reg.MB_D2H_POS ⟨0, 32⟩) (d.fld Reg.MB_D2H_ACKED ⟨0, 32⟩) ∧ d.host.heldResp = [] ∧ d.host.holdQ = [])
      (fun d d' => d'.reg Reg.MB_D2H_ACKED = v.zeroExtend 64 ∧ d.sameRegsBut d' [Reg.MB_D2H_ACKED] ∧ d' = { d with regs := d'.regs })) ∧
  (∀ (v : Word), Completes (.d2hAck v)
      (fun d => d.runs ∧ seqDist (d.fld Reg.MB_D2H_POS ⟨0, 32⟩) (d.fld Reg.MB_D2H_ACKED ⟨0, 32⟩) < seqDist v.toNat (d.fld Reg.MB_D2H_ACKED ⟨0, 32⟩))
      (fun d d' => d' = d.refuse 0x0113)) ∧
  (Completes (.mbDiscard)
      (fun d => d.runs ∧ d.regsWf ∧ (d.reg Reg.MB_HSEQ_POSTED).toNat < 2 ^ 32)
      (fun d d' => d'.reg Reg.MB_HSEQ_NEXT = d.reg Reg.MB_HSEQ_POSTED ∧ d'.fld Reg.MB_DISCARDED ⟨0, 32⟩ = satAdd 32 (d.fld Reg.MB_DISCARDED ⟨0, 32⟩) (seqDist d.hseqPosted d.hseqNext) ∧ d.sameRegsBut d' [Reg.MB_HSEQ_NEXT, Reg.MB_DISCARDED] ∧ d' = { d with regs := d'.regs })) ∧
  (∀ (v : Word), Completes (.heartbeat v)
      (fun d => d.runs)
      (fun d d' => d' = { d with host := { d.host with wdogUsed := 0, wdogSince := d.now } })) ∧
  (∀ (v : Word), v.toNat < 2 ^ 17 ∧ 10 ≤ v.toNat / 2 ∧ v.toNat / 2 ≤ 60000 → Completes (.wdogCtrlWrite v)
      (fun d => d.runs ∧ d.regsWf)
      (fun d d' => d'.reg Reg.WDOG_CTRL = v.zeroExtend 64 ∧ d.sameRegsBut d' [Reg.WDOG_CTRL] ∧ d'.host.wdogUsed = 0 ∧ d'.host.wdogSince = d.now)) ∧
  (∀ (v : Word), v.toNat < 2 ^ 17 ∧ (v.toNat / 2 < 10 ∨ 60000 < v.toNat / 2) → Completes (.wdogCtrlWrite v)
      (fun d => d.runs)
      (fun d d' => d' = d.refuse 0x0104)) ∧
  (Completes (.wdogExpire)
      (fun d => d.runs ∧ d.regsWf ∧ d.wdogCounts = true)
      (fun d d' => d'.fld Reg.HOST_STATE Fd.HOST_STATE_STATE = 2 ∧ d'.fld Reg.HOST_STATE Fd.HOST_STATE_DMA_OFF = 1 ∧ d'.fld Reg.HOST_STATE Fd.HOST_STATE_WDOG_EXPIRED = 1 ∧ d.sameRegsBut d' [Reg.HOST_STATE] ∧ d.now ≤ d'.now ∧ d'.str = d.str ∧ d'.mem = d.mem))

/-- MSI-X vectors, BAR2 and BAR4 accesses, and the resets. R504, R509, R510, R511, R512, R513, R514, R532, R533, R534, R535, R552. -/
def Obligations.InterruptsBarsAndResets : Prop :=
  (∀ (x : ConfigControl) (b c e : Bool), Completes (.configurationSpaceWrite x b c e)
      (fun d => d.runs)
      (fun d d' => (d'.host.busMaster, d'.host.msixEnable, d'.host.atsEnable, d'.host.priEnable) = (x.busMaster, b, c, e) ∧
        (d'.host.requests.relaxed, d'.host.requests.noSnoop) = (x.relaxed, x.noSnoop) ∧ (x.maxPayload.val ≤ 2 → d'.host.requests.maxPayload = x.maxPayload.val) ∧
        (x.maxRead.val ≤ 5 → d'.host.requests.maxRead = x.maxRead.val) ∧ d' = { d with host := d'.host, out := d'.out } ∧ (b = false → x.look = none → d'.out = d.out))) ∧
  (∀ (x : ConfigControl) (b c e : Bool) (i : Fin 16), Completes (.configurationSpaceWrite x b c e)
      (fun d => d.runs ∧ x.look = some (.header i))
      (fun d d' => ∃ more, d'.out = d.out ++ more ++ [.configData (d'.configRead (.header i))] ∧ (b = false → more = []))) ∧
  (∀ (v : Fin 2048), Completes (.msixUnmask v)
      (fun d => d.runs ∧ d.host.msixEnable = true ∧ d.fld Reg.HOST_STATE Fd.HOST_STATE_DMA_OFF = 0 ∧ d.host.pba = [v.val])
      (fun d d' => d'.host.pba = [] ∧ d'.out = d.out ++ [.msix v.val] ∧ (d'.msixEntry v.val).masked = false ∧ (∀ u, u ≠ v.val → d'.msixEntry u = d.msixEntry u) ∧ d'.regs = d.regs)) ∧
  (∀ (v : Fin 2048) (x : DWord), 16 ≤ v.val → Completes (.irqMapWrite v x)
      (fun d => d.runs ∧ d.regsWf ∧ x.toNat / 2 ^ 19 % 2 ^ 13 = 0 ∧ x.toNat.testBit 18 = true ∧ (∀ e ∈ d.regs, Reg.IRQ_MAP 16 ≤ e.1 → e.1 ≤ Reg.IRQ_MAP 2047 → d.fld e.1 Fd.IRQ_MAP_ARMED = 0) ∧ d.syncVal (x.toNat % 2 ^ 18) < x.toNat / 2 ^ 32)
      (fun d d' => d'.reg (Reg.IRQ_MAP v.val) = x ∧ d.sameRegsBut d' [Reg.IRQ_MAP v.val] ∧ d' = { d.dropHalves (Reg.IRQ_MAP v.val) with regs := d'.regs })) ∧
  (∀ (v : Fin 2048) (x : DWord), 16 ≤ v.val → Completes (.irqMapWrite v x)
      (fun d => d.runs ∧ d.regsWf ∧ x.toNat / 2 ^ 19 % 2 ^ 13 = 0 ∧ x.toNat.testBit 18 = true ∧ (∀ e ∈ d.regs, Reg.IRQ_MAP 16 ≤ e.1 → e.1 ≤ Reg.IRQ_MAP 2047 → d.fld e.1 Fd.IRQ_MAP_ARMED = 0) ∧ x.toNat / 2 ^ 32 ≤ d.syncVal (x.toNat % 2 ^ 18) ∧ d.host.msixEnable = true ∧ (d.msixEntry v.val).masked = false ∧ d.fld Reg.HOST_STATE Fd.HOST_STATE_DMA_OFF = 0)
      (fun d d' => d'.fld (Reg.IRQ_MAP v.val) Fd.IRQ_MAP_ARMED = 0 ∧ d'.out = d.out ++ [.msix v.val] ∧ d.sameRegsBut d' [Reg.IRQ_MAP v.val] ∧ d'.host = (d.dropHalves (Reg.IRQ_MAP v.val)).host)) ∧
  (∀ (v : Fin 2048) (x : DWord), v.val < 16 → Completes (.irqMapWrite v x)
      (fun d => d.runs)
      (fun d d' => d' = (d.dropHalves (Reg.IRQ_MAP v.val)).refuse 0x0104)) ∧
  (∀ (v : Fin 2048) (x : DWord), 16 ≤ v.val ∧ x.toNat / 2 ^ 19 % 2 ^ 13 ≠ 0 → Completes (.irqMapWrite v x)
      (fun d => d.runs)
      (fun d d' => d' = (d.dropHalves (Reg.IRQ_MAP v.val)).refuse 0x0101)) ∧
  (∀ (t : Nat), Completes (.msixCoalesceTimer)
      (fun d => d.runs ∧ d.host.vec0Waiting = true ∧ d.host.vec0Last = some t ∧ d.host.msixEnable = true ∧ (d.msixEntry 0).masked = false ∧ d.fld Reg.HOST_STATE Fd.HOST_STATE_DMA_OFF = 0)
      (fun d d' => d'.out = d.out ++ [.msix 0] ∧ d'.host.vec0Waiting = false ∧ d'.host.vec0Last = some d'.now ∧ d'.now = max d.now (t + d.fld Reg.MB_CTRL Fd.MB_CTRL_COALESCE_US * 1000) ∧ d'.regs = d.regs)) ∧
  (∀ (off n : Nat), Completes (.bar4Read off n)
      (fun d => d.runs ∧ off + n ≤ d.host.bar4Size ∧ d.bar4Served off n = true ∧ d.poisoned ((d.reg Reg.BAR4_BASE).toNat + off) n = false)
      (fun d d' => d' = { d with out := d.out ++ [.bar4Data (some ((List.range n).map (fun i => memRead d.mem ((d.reg Reg.BAR4_BASE).toNat + off + i))))] })) ∧
  (∀ (off n : Nat), Completes (.bar4Read off n)
      (fun d => d.runs ∧ off + n ≤ d.host.bar4Size ∧ d.bar4Served off n = true ∧ d.poisoned ((d.reg Reg.BAR4_BASE).toNat + off) n = true)
      (fun d d' => d' = { d with out := d.out ++ [.bar4Data none] })) ∧
  (∀ (off n : Nat), Completes (.bar4Read off n)
      (fun d => d.runs ∧ off + n ≤ d.host.bar4Size ∧ d.bar4Served off n = false ∧ d.regsWf)
      (fun d d' => d'.out = d.out ++ [.bar4Data (some (List.replicate n 0xFF))] ∧ d'.fld Reg.BAR4_UNMAPPED_COUNT ⟨0, 32⟩ = satAdd 32 (d.fld Reg.BAR4_UNMAPPED_COUNT ⟨0, 32⟩) 1 ∧ d.sameRegsBut d' [Reg.BAR4_UNMAPPED_COUNT])) ∧
  (∀ (off : Nat) (x : List Byte), Completes (.bar4Write off x)
      (fun d => d.runs ∧ off + x.length ≤ d.host.bar4Size ∧ d.bar4Served off x.length = true ∧ Memory.wf d.mem = true)
      (fun d d' => d.stored d' ((d.reg Reg.BAR4_BASE).toNat + off) x ∧ d'.regs = d.regs ∧ d'.str = d.str)) ∧
  (∀ (off : Nat) (x : List Byte), Completes (.bar4Write off x)
      (fun d => d.runs ∧ off + x.length ≤ d.host.bar4Size ∧ d.bar4Served off x.length = false ∧ d.regsWf)
      (fun d d' => d'.mem = d.mem ∧ d'.fld Reg.BAR4_UNMAPPED_COUNT ⟨0, 32⟩ = satAdd 32 (d.fld Reg.BAR4_UNMAPPED_COUNT ⟨0, 32⟩) 1 ∧ d.sameRegsBut d' [Reg.BAR4_UNMAPPED_COUNT])) ∧
  (∀ (v : DWord), Completes (.bar4BaseWrite v)
      (fun d => d.runs ∧ d.regsWf ∧ v.toNat % d.host.bar4Size = 0)
      (fun d d' => d'.reg Reg.BAR4_BASE = v ∧ d.sameRegsBut d' [Reg.BAR4_BASE] ∧ d' = { d.dropHalves Reg.BAR4_BASE with regs := d'.regs })) ∧
  (∀ (v : DWord), Completes (.bar4BaseWrite v)
      (fun d => d.runs ∧ v.toNat % d.host.bar4Size ≠ 0)
      (fun d d' => d' = (d.dropHalves Reg.BAR4_BASE).refuse 0x0104)) ∧
  (∀ (n : Nat), 30 ≤ n ∧ n ≤ 40 → Completes (.bar4Resize n)
      (fun d => d.runs ∧ d.regsWf)
      (fun d d' => d'.host.bar4Size = 2 ^ n ∧ d'.reg Reg.BAR4_BASE = 0 ∧ d.sameRegsBut d' [Reg.BAR4_BASE] ∧ d'.mem = d.mem)) ∧
  (∀ (off w : Nat) (v : DWord), 8 ≤ w ∧ ((((0x20_0000 ≤ off ∧ off < 0x40_0000) ∨ (0x80_0000 ≤ off ∧ off < 0xF0_0000) ∨ (0xF0_000C ≤ off ∧ off < 0xF1_0000) ∨ (0xF1_8000 ≤ off ∧ off < 0xF2_0000) ∨ 0xF2_0100 ≤ off)) ∨ (0x40_0000 ≤ off ∧ off < 0x80_0000)) → Completes (.bar2InvalidAccess off w (.write v))
      (fun d => d.runs)
      (fun d d' => d' = d.refuse 0x0118)) ∧
  (∀ (off w : Nat), (w = 8 ∨ w = 16 ∨ w = 32 ∨ w = 64) ∧ (((0x20_0000 ≤ off ∧ off < 0x40_0000) ∨ (0x80_0000 ≤ off ∧ off < 0xF0_0000) ∨ (0xF0_000C ≤ off ∧ off < 0xF1_0000) ∨ (0xF1_8000 ≤ off ∧ off < 0xF2_0000) ∨ 0xF2_0100 ≤ off)) → Completes (.bar2InvalidAccess off w .read)
      (fun d => d.runs)
      (fun d d' => ∃ v, d' = (d.refuse 0x0118).emit (.bar2Data v) ∧ (off % (w / 8) = 0 → v = 0))) ∧
  (∀ (off w : Nat) (v : DWord), 0xF0_0000 ≤ off ∧ off < 0xF0_000C ∧ (w < 32 ∨ off % (w / 8) ≠ 0) → Completes (.bar2InvalidAccess off w (.write v))
      (fun d => d.runs)
      (fun d d' => d' = d.refuse 0x0103)) ∧
  (∀ (off w : Nat), 0xF0_0000 ≤ off ∧ off < 0xF0_000C ∧ (w < 32 ∨ off % (w / 8) ≠ 0) → Completes (.bar2InvalidAccess off w .read)
      (fun d => d.runs)
      (fun d d' => d' = d.emit (.bar2Data (2 ^ w - 1)))) ∧
  (∀ (off : Nat), off < 0x20_0000 → Completes (.bar2InvalidAccess off 8 .read)
      (fun d => d.runs)
      (fun d d' => d' = d.emit (.bar2Data ((d.host.h2d.getD (off / 256) []).getD (off % 256) 0).toNat))) ∧
  (∀ (off : Nat) (v : DWord), off < 0x20_0000 → Completes (.bar2InvalidAccess off 8 (.write v))
      (fun d => d.runs)
      (fun d d' => d'.bar2Byte off = BitVec.ofNat 8 v.toNat ∧ (∀ o, o ≠ off → o < 0x20_0000 → d'.bar2Byte o = d.bar2Byte o) ∧ d'.regs = d.regs ∧ d'.mem = d.mem ∧ d'.host.msix = d.host.msix)) ∧
  (∀ (i : Nat) (m : D2hMsg), i < 16384 → Completes (.bar2InvalidAccess (0x40_0000 + 256 * i + 16) 32 .read)
      (fun d => d.runs ∧ d.host.d2h.get? i = some m ∧ m.pos < 2 ^ 32)
      (fun d d' => d' = d.emit (.bar2Data m.pos))) ∧
  (∀ (v : Fin 2048), Completes (.bar2InvalidAccess (0xF1_0000 + 16 * v.val + 12) 32 (.write 1))
      (fun d => d.runs)
      (fun d d' => (d'.msixEntry v.val).masked = true ∧ (∀ u, u ≠ v.val → d'.msixEntry u = d.msixEntry u) ∧ d'.regs = d.regs)) ∧
  (Completes (.coldReset)
      (fun d => d.runs ∧ d.mgmt.powered = true ∧ d.mgmt.staging = none)
      (fun d d' => d'.inReset = true ∧ d'.mgmt.perst = true ∧ d'.mem = [] ∧ d'.poison = [] ∧ d'.plan = PlanUnit.reset ∧ d'.str = StreamUnit.reset ∧ d'.host = HostUnit.reset ∧ d'.regs = [] ∧ d'.cells = [] ∧ d'.fault.fmap = [] ∧ d'.fault.log = d.fault.log ∧ d'.fault.crash = d.fault.crash ∧ d'.flash = d.flash ∧ d'.fuses = d.fuses ∧ d'.board = d.board)) ∧
  (∀ (v : Word), v.toNat = 0xD0E5_0001 → Completes (.deviceReset v)
      (fun d => d.runs ∧ d.regsWf ∧ d.resetBusy = false ∧ d.str.tasks = [] ∧ d.str.abortOrders = [] ∧ d.matchI = [] ∧ d.fld Reg.FW_STATUS Fd.FW_STATUS_ACT_STATE ≠ 2)
      (fun d d' => d'.resetBusy = true ∧ d'.plan = PlanUnit.reset ∧ (∀ e ∈ d'.cells, e.2.state = .halted) ∧ d'.str.streams = d.str.streams ∧ d'.str.lifts = [] ∧ d'.str.pools = [] ∧ d'.host.classQ = [] ∧ d'.host.h2d = [] ∧ d'.host.d2h = [] ∧ d'.host.msix = [] ∧ d'.hseqNext = 0 ∧ d'.hseqPosted = 0 ∧
          d'.fld Reg.MB_D2H_POS ⟨0, 32⟩ = 0 ∧ d'.fld Reg.MB_DSEQ_NEXT ⟨0, 32⟩ = 0 ∧ d'.fld Reg.HOST_STATE Fd.HOST_STATE_STATE = 0 ∧ d'.fld Reg.HOST_STATE Fd.HOST_STATE_DMA_OFF = 1 ∧ d'.fld Reg.HOST_STATE Fd.HOST_STATE_READY = d.fld Reg.HOST_STATE Fd.HOST_STATE_READY ∧ d'.mem = d.mem ∧ d'.poison = d.poison ∧ d'.host.busMaster = d.host.busMaster ∧ d'.fault.fmap = d.fault.fmap)) ∧
  (∀ (v : Word) (k : Nat) (t : Task), v.toNat = 0xD0E5_0001 → Completes (.deviceReset v)
      (fun d => d.runs ∧ d.resetBusy = false ∧ d.str.tasks = [(k, t)] ∧ t.state = .open ∧ d.str.abortReqs = [] ∧ d.str.abortOrders = [])
      (fun _ d' => (d'.str.tasks.get? k).map (fun x => (x.tag, x.state, x.code)) = some (t.tag, .aborted, 0x041C) ∧ d'.resetBusy = true ∧ d'.plan = PlanUnit.reset)) ∧
  (∀ (v : Word), v.toNat % 2 ^ 16 = 1 ∧ v.toNat / 2 ^ 16 ≠ 0xD0E5 → Completes (.deviceReset v)
      (fun d => d.runs ∧ d.resetBusy = false)
      (fun d d' => d' = d.refuse 0x0117)) ∧
  (∀ (v : Word), v.toNat % 2 ^ 16 = 1 → Completes (.deviceReset v)
      (fun d => d.runs ∧ d.resetBusy = true)
      (fun d d' => d' = d.refuse 0x0106)) ∧
  (∀ (pass : List Nat), Completes (.deviceResetDone pass)
      (fun d => d.runs ∧ d.regsWf ∧ d.resetBusy = true ∧ d.tripped = false ∧ Map.rising d.fault.fmap = true)
      (fun d d' => d'.resetBusy = false ∧ (∀ e, e ∈ d'.fault.fmap ↔ e ∈ d.fault.fmap ∧ ¬ (e.2.kind = 5 ∧ e.2.die ∈ pass)) ∧ (pass ≠ [] → d'.fld Reg.FMAP_STATUS Fd.FMAP_STATUS_PACKAGE_CONTAINED = 0) ∧ d'.mem = d.mem)) ∧
  (Completes (.hotReset)
      (fun d => d.runs ∧ d.regsWf ∧ d.resetBusy = false)
      (fun d d' => d'.fld Reg.HOST_STATE Fd.HOST_STATE_STATE = 2 ∧ d'.fld Reg.HOST_STATE Fd.HOST_STATE_DMA_OFF = 1 ∧ d'.host.parkCause = some 3 ∧ d'.host.classQ = [] ∧ d'.host.msix = [] ∧ d'.host.busMaster = false ∧ d'.hseqNext = 0 ∧ d'.mem = d.mem ∧ d'.plan.active = d.plan.active ∧ d'.str.tasks = d.str.tasks ∧ d'.str.streams = d.str.streams)) ∧
  (Completes (.flr)
      (fun d => d.runs ∧ d.regsWf ∧ d.resetBusy = false)
      (fun d d' => d'.fld Reg.HOST_STATE Fd.HOST_STATE_STATE = 2 ∧ d'.fld Reg.HOST_STATE Fd.HOST_STATE_DMA_OFF = 1 ∧ d'.host.parkCause = some (if d.host.d3hot then 4 else 2) ∧ d'.host.classQ = [] ∧ d'.host.msix = [] ∧ d'.host.busMaster = false ∧ d'.hseqNext = 0 ∧ d'.mem = d.mem ∧ d'.plan.active = d.plan.active ∧ d'.str.tasks = d.str.tasks ∧ d'.str.streams = d.str.streams)) ∧
  (Completes (.d3hotEntry)
      (fun d => d.runs ∧ d.regsWf ∧ d.resetBusy = false)
      (fun d d' => d'.fld Reg.HOST_STATE Fd.HOST_STATE_DMA_OFF = 1 ∧ d'.host.d3hot = true ∧ (d'.fld Reg.HOST_STATE Fd.HOST_STATE_STATE = 2 ∨ d'.fld Reg.HOST_STATE Fd.HOST_STATE_STATE = 3) ∧ d.sameRegsBut d' [Reg.HOST_STATE] ∧ d'.mem = d.mem ∧ d'.str = d.str))

/-- Error queues begin, hold, preempt and overflow; units, dies and the package are contained; FMAP_CMD adds and removes. R542, R543, R547, R548, R549, R550, R553, R561. -/
def Obligations.ErrorQueuesAndFences : Prop :=
  (∀ (q : Fin 5) (f : FaultDesc) (a n : Nat), f.severity = 3 ∧ f.place = .memory a ∧ f.code ≠ 0x0F12 → Completes (.errqEntry q f)
      (fun d => d.runs ∧ d.errq q.val = { waiting := [], handling := none, suspended := [], arrivals := n })
      (fun d d' => (d'.errq q.val).handling.map (fun e => (e.event.code, e.event.severity, e.event.tag, e.event.loc.kind)) = some (f.code, 3, f.tag, 7) ∧ d.abortAsked d' f.tag f.code ∧ d'.mem = d.mem ∧ d'.fault.fmap = d.fault.fmap ∧ d'.regs = d.regs)) ∧
  (∀ (q : Fin 5) (f : FaultDesc) (a n : Nat) (h : ErrEntry), f.severity = 3 ∧ f.place = .memory a ∧ f.code ≠ 0x0F12 → Completes (.errqEntry q f)
      (fun d => d.runs ∧ d.regsWf ∧ d.errq q.val = { waiting := [], handling := some h, suspended := [], arrivals := n } ∧ h.event.severity < 3)
      (fun d d' => (d'.errq q.val).handling.map (fun e => (e.event.code, e.event.severity)) = some (f.code, 3) ∧ (d'.errq q.val).suspended.map (fun e => e.event) = [h.event] ∧ d.counted d' (Reg.ERRQ_PREEMPTED q.val) 1 ∧ d.abortAsked d' f.tag f.code ∧ d.sameRegsBut d' [Reg.ERRQ_PREEMPTED q.val])) ∧
  (∀ (q : Fin 5) (f : FaultDesc) (h : ErrEntry), f.code ≠ 0x0F12 → Completes (.errqEntry q f)
      (fun d => d.runs ∧ (d.errq q.val).handling = some h ∧ f.severity ≤ h.event.severity ∧ (d.errq q.val).depth < 64)
      (fun d d' => (d'.errq q.val).handling = some h ∧ (d'.errq q.val).waiting.map (fun e => (e.event.code, e.arrival)) = (d.errq q.val).waiting.map (fun e => (e.event.code, e.arrival)) ++ [(f.code, (d.errq q.val).arrivals)] ∧ d'.str = d.str ∧ d'.regs = d.regs)) ∧
  (∀ (q : Fin 5) (f : FaultDesc) (n : Nat), q.val < 4 ∧ f.code ≠ 0x0F12 → Completes (.errqEntry q f)
      (fun d => d.runs ∧ d.regsWf ∧ (d.errq q.val).depth = 64 ∧ d.errq 4 = { waiting := [], handling := none, suspended := [], arrivals := n } ∧ d.fault.fmap = [])
      (fun d d' => (d'.errq q.val).depth = 0 ∧ d.counted d' (Reg.ERRQ_DISCARDED q.val) 65 ∧ d'.dieContained q.val = true ∧ (d'.errq 4).handling.map (fun e => [e.event.code, e.event.severity, e.event.arg0, e.event.arg2]) = some [0x1010, 5, f.code, 65])) ∧
  (∀ (q : Fin 5) (f : FaultDesc) (a : Nat), f.severity = 3 ∧ f.place = .memory a ∧ f.code = 0x0F12 → Completes (.errqEntry q f)
      (fun d => d.runs ∧ d.regsWf ∧ d.isLocal a = true ∧ a / 64 ∉ d.poison ∧ (d.errq (d.ownerQueue a)).handling = none ∧ (d.errq (d.ownerQueue a)).waiting = [] ∧ (d.errq (d.ownerQueue a)).suspended = [])
      (fun d d' => a / 64 ∈ d'.poison ∧ d.counted d' (Reg.MEM_UE_COUNT (d.tierReg a)) 1 ∧ (d'.errq (d.ownerQueue a)).handling.map (fun e => (e.event.code, e.event.severity, e.event.tag, e.event.arg0)) = some (0x0F12, 3, f.tag, a / 64 * 64) ∧ d.abortAsked d' f.tag 0x0F12 ∧ d'.mem = d.mem)) ∧
  (∀ (q : Fin 5) (h g : ErrEntry) (n : Nat), Completes (.errqHandleDone q)
      (fun d => d.runs ∧ d.regsWf ∧ d.errq q.val = { waiting := [], handling := some h, suspended := [g], arrivals := n } ∧ d.fault.inputQ.length < 224 ∧ h.event.severity < 5)
      (fun d d' => (d'.errq q.val).handling = some g ∧ (d'.errq q.val).suspended = [] ∧ d.counted d' (Reg.ERRQ_HANDLED q.val) 1 ∧ d'.fault.inputQ = d.fault.inputQ ++ [{ h.event with subsumed := h.subsumed, seq := d.fld Reg.EVR_SEQ_NEXT Fd.EVR_SEQ_NEXT_SEQ }] ∧ d'.fld Reg.EVR_SEQ_NEXT Fd.EVR_SEQ_NEXT_SEQ = (d.fld Reg.EVR_SEQ_NEXT Fd.EVR_SEQ_NEXT_SEQ + 1) % 2 ^ 32 ∧ d'.str = d.str ∧ d'.fault.fmap = d.fault.fmap)) ∧
  (∀ (k : Fin 4) (kind : Fin 8) (x : Fin 64) (i n : Nat), i < 2048 → Completes (.stationDatapathFault k kind x)
      (fun d => d.runs ∧ d.errq k.val = { waiting := [], handling := none, suspended := [], arrivals := n } ∧ d.regsWf ∧ d.fault.fmap.get? i = none ∧ (∀ j, j < i → (d.fault.fmap.get? j).isSome = true) ∧ (∀ e ∈ d.fault.fmap, e.2.kind ≠ 4 ∧ e.2.kind ≠ 5) ∧ d.fault.fmap.length < 2044)
      (fun d d' => d'.fault.fmap.get? i = some { kind := 4, die := k.val, station := kind.val, index := x.val, code := 0x1017 } ∧ d'.fld Reg.FMAP_CHANGES ⟨0, 32⟩ = satAdd 32 (d.fld Reg.FMAP_CHANGES ⟨0, 32⟩) 1 ∧ d'.fld Reg.PLAN_SLOT_STATE Fd.PLAN_SLOT_STATE_FENCE_STALE = 1 ∧ (d'.errq k.val).handling.map (fun e => (e.event.code, e.event.severity, e.event.fenced)) = some (0x1017, 4, true))) ∧
  (∀ (q : Fin 5) (k : Fin 4) (x : Fin 64) (i n : Nat), i < 2048 → Completes (.controlFault q (.block k x))
      (fun d => d.runs ∧ d.errq q.val = { waiting := [], handling := none, suspended := [], arrivals := n } ∧ d.regsWf ∧ d.fault.fmap.get? i = none ∧ (∀ j, j < i → (d.fault.fmap.get? j).isSome = true) ∧ (∀ e ∈ d.fault.fmap, e.2.kind ≠ 3 ∧ e.2.kind ≠ 5) ∧ d.fault.fmap.length < 2044)
      (fun d d' => d'.fault.fmap.get? i = some { kind := 3, die := k.val, block := x.val, code := 0x1016 } ∧ d'.fld Reg.FMAP_CHANGES ⟨0, 32⟩ = satAdd 32 (d.fld Reg.FMAP_CHANGES ⟨0, 32⟩) 1 ∧ d'.fld Reg.PLAN_SLOT_STATE Fd.PLAN_SLOT_STATE_FENCE_STALE = 1 ∧ (∀ e ∈ d'.cells, e.1 / 2 ^ 18 = k.val ∧ e.1 / 2 ^ 12 % 64 = x.val → e.2.state = .fenced))) ∧
  (∀ (n : Nat), Completes (.controlFault 4 .package)
      (fun d => d.runs ∧ d.errq 4 = { waiting := [], handling := none, suspended := [], arrivals := n } ∧ d.regsWf ∧ d.fault.fmap = [] ∧ d.packageContained = false)
      (fun d d' => (∀ k : Fin 4, d'.dieContained k.val = true) ∧ d'.packageContained = true ∧ d'.fld Reg.HOST_STATE Fd.HOST_STATE_DMA_OFF = 1 ∧ d'.fault.dumping.map (fun x => x.cause) = d.fault.dumping.map (fun x => x.cause) ++ [0x1016] ∧ (∀ e ∈ d'.fault.fmap, e.2.kind = 5 ∧ e.2.code = 0x1016) ∧ d'.mem = d.mem ∧ (d'.errq 4).handling.map (fun e => (e.event.code, e.event.severity, e.event.arg0)) = some (0x1016, 5, 0))) ∧
  (∀ (link n : Nat), Completes (.fabricLinkDown link)
      (fun d => d.runs ∧ d.errq 4 = { waiting := [], handling := none, suspended := [], arrivals := n } ∧ d.regsWf ∧ d.fault.fmap = [] ∧ d.packageContained = false)
      (fun d d' => (∀ k : Fin 4, d'.dieContained k.val = true) ∧ d'.packageContained = true ∧ d'.fld Reg.HOST_STATE Fd.HOST_STATE_DMA_OFF = 1 ∧ d'.fault.dumping.map (fun x => x.cause) = d.fault.dumping.map (fun x => x.cause) ++ [0x1018] ∧ (∀ e ∈ d'.fault.fmap, e.2.kind = 5 ∧ e.2.code = 0x1018) ∧ d'.mem = d.mem ∧ (d'.errq 4).handling.map (fun e => (e.event.code, e.event.severity, e.event.arg0)) = some (0x1018, 5, link))) ∧
  (∀ (e : FaultEntry) (i : Nat), i < 2048 → Completes (.fmapAdd)
      (fun d => d.runs ∧ d.regsWf ∧ fmapEntryOf (d.reg Reg.FMAP_CMD_ENTRY).toNat 0x1012 true = e ∧ e.reserved = false ∧ e.kind ≠ 5 ∧ (∀ x ∈ d.fault.fmap, x.2.sameUnit e = false) ∧ d.fault.fmap.get? i = none ∧ (∀ j, j < i → (d.fault.fmap.get? j).isSome = true) ∧ d.fault.fmap.length < 2044 ∧ d.fault.inputQ.length < 224)
      (fun d d' => d'.fault.fmap.get? i = some e ∧ e.host = true ∧ e.code = 0x1012 ∧ d'.fld Reg.FMAP_CMD Fd.FMAP_CMD_CODE = 0 ∧ d'.fld Reg.FMAP_CMD Fd.FMAP_CMD_GO = 0 ∧ d'.fld Reg.FMAP_CHANGES ⟨0, 32⟩ = satAdd 32 (d.fld Reg.FMAP_CHANGES ⟨0, 32⟩) 1 ∧ d'.fld Reg.PLAN_SLOT_STATE Fd.PLAN_SLOT_STATE_FENCE_STALE = 1 ∧ d'.fault.inputQ.map (fun x => (x.code, x.severity, x.fenced)) = d.fault.inputQ.map (fun x => (x.code, x.severity, x.fenced)) ++ [(0x1012, 4, true)] ∧ d'.mem = d.mem)) ∧
  (∀ (e : FaultEntry) (x : Nat × FaultEntry), Completes (.fmapAdd)
      (fun d => d.runs ∧ d.regsWf ∧ fmapEntryOf (d.reg Reg.FMAP_CMD_ENTRY).toNat 0x1012 true = e ∧ e.reserved = false ∧ x ∈ d.fault.fmap ∧ x.2.sameUnit e = true)
      (fun d d' => d'.fld Reg.FMAP_CMD Fd.FMAP_CMD_CODE = 0 ∧ d'.fld Reg.FMAP_CMD Fd.FMAP_CMD_GO = 0 ∧ d' = { d with regs := d'.regs } ∧ d.sameRegsBut d' [Reg.FMAP_CMD])) ∧
  (Completes (.fmapAdd)
      (fun d => d.runs ∧ d.regsWf ∧ (fmapEntryOf (d.reg Reg.FMAP_CMD_ENTRY).toNat 0x1012 true).kind ∈ [0, 6, 7])
      (fun d d' => d'.fld Reg.FMAP_CMD Fd.FMAP_CMD_CODE = 0x1002 ∧ d'.fld Reg.FMAP_CMD Fd.FMAP_CMD_GO = 0 ∧ d' = { d with regs := d'.regs, host := d'.host, out := d'.out } ∧ d.sameRegsBut d' [Reg.FMAP_CMD, Reg.MGMT_LAST_ERROR])) ∧
  (∀ (e x : FaultEntry) (i : Nat), Completes (.fmapRemove)
      (fun d => d.runs ∧ d.regsWf ∧ fmapEntryOf (d.reg Reg.FMAP_CMD_ENTRY).toNat 0 false = e ∧ e.reserved = false ∧ e.kind ≠ 5 ∧ d.fault.fmap.find? (fun x => x.2.sameUnit e) = some (i, x) ∧ d.fault.inputQ.length < 224)
      (fun d d' => d'.fault.fmap = d.fault.fmap.del i ∧ d'.fault.idleUnits = d.fault.idleUnits ++ [x] ∧ d'.fld Reg.FMAP_CMD Fd.FMAP_CMD_CODE = 0 ∧ d'.fld Reg.FMAP_CMD Fd.FMAP_CMD_GO = 0 ∧ d'.fld Reg.FMAP_CHANGES ⟨0, 32⟩ = satAdd 32 (d.fld Reg.FMAP_CHANGES ⟨0, 32⟩) 1 ∧ d'.fld Reg.PLAN_SLOT_STATE Fd.PLAN_SLOT_STATE_FENCE_STALE = 1 ∧ d'.fault.inputQ.map (fun y => (y.code, y.severity)) = d.fault.inputQ.map (fun y => (y.code, y.severity)) ++ [(x.code, 0)] ∧ d'.str = d.str)) ∧
  (∀ (e : FaultEntry), Completes (.fmapRemove)
      (fun d => d.runs ∧ d.regsWf ∧ fmapEntryOf (d.reg Reg.FMAP_CMD_ENTRY).toNat 0 false = e ∧ e.reserved = false ∧ e.kind ≠ 5 ∧ (∀ x ∈ d.fault.fmap, x.2.sameUnit e = false))
      (fun d d' => d'.fld Reg.FMAP_CMD Fd.FMAP_CMD_CODE = 0x1013 ∧ d'.fld Reg.FMAP_CMD Fd.FMAP_CMD_GO = 0 ∧ d'.fault = d.fault)) ∧
  (Completes (.fmapRemove)
      (fun d => d.runs ∧ d.regsWf ∧ (fmapEntryOf (d.reg Reg.FMAP_CMD_ENTRY).toNat 0 false).kind = 5 ∧ (fmapEntryOf (d.reg Reg.FMAP_CMD_ENTRY).toNat 0 false).reserved = false)
      (fun d d' => d'.fld Reg.FMAP_CMD Fd.FMAP_CMD_CODE = 0x1006 ∧ d'.fld Reg.FMAP_CMD Fd.FMAP_CMD_GO = 0 ∧ d'.fault = d.fault))

/-- The recorder places, overwrites and releases records; FATAL records reach the log; crashes are dumped and retrieved. R555, R556, R557, R558, R560, R561, R563. -/
def Obligations.EventRecorder : Prop :=
  (∀ (e : EventRec) (rest : List EventRec) (i : Nat), i < 4096 → Completes (.recorderAccept)
      (fun d => d.runs ∧ d.canAnnounce ∧ d.fault.inputQ = e :: rest ∧ d.fault.slots.get? i = none ∧ (∀ j, j < i → (d.fault.slots.get? j).isSome = true))
      (fun d d' => d'.fault.slots = d.fault.slots.put i e ∧ d'.fault.inputQ = rest ∧ d.announced d' 0x8004 (u32 e.seq ++ u16 e.code ++ u8 e.severity) ∧ d'.str = d.str ∧ d'.mem = d.mem)) ∧
  (∀ (e r : EventRec) (rest : List EventRec) (i : Nat), Completes (.recorderAccept)
      (fun d => d.runs ∧ d.regsWf ∧ d.fault.inputQ = e :: rest ∧ d.fault.slots.map (fun x => x.1) = List.range 4096 ∧ (i, r) ∈ d.fault.slots ∧ r.severity ≤ e.severity ∧ (∀ x ∈ d.fault.slots, x.2.severity ≤ e.severity → r.severity ≤ x.2.severity ∧ (x.2.severity = r.severity → x.1 = i ∨ seqDist (d.fld Reg.EVR_SEQ_NEXT Fd.EVR_SEQ_NEXT_SEQ) x.2.seq < seqDist (d.fld Reg.EVR_SEQ_NEXT Fd.EVR_SEQ_NEXT_SEQ) r.seq)))
      (fun d d' => d'.fault.slots = d.fault.slots.put i e ∧ d'.fault.inputQ = rest ∧ d'.fld Reg.EVR_OVERWRITTEN ⟨0, 32⟩ = satAdd 32 (d.fld Reg.EVR_OVERWRITTEN ⟨0, 32⟩) 1)) ∧
  (∀ (e : EventRec) (rest : List EventRec), Completes (.recorderAccept)
      (fun d => d.runs ∧ d.regsWf ∧ d.fault.inputQ = e :: rest ∧ d.fault.slots.map (fun x => x.1) = List.range 4096 ∧ (∀ x ∈ d.fault.slots, e.severity < x.2.severity))
      (fun d d' => d'.fault.slots = d.fault.slots ∧ d'.fault.inputQ = rest ∧ d'.fld Reg.EVR_DROPPED ⟨0, 32⟩ = satAdd 32 (d.fld Reg.EVR_DROPPED ⟨0, 32⟩) 1 ∧ d'.host = d.host)) ∧
  (∀ (v : DWord), v.toNat / 2 ^ 35 = 1 ∧ v.toNat / 2 ^ 32 % 8 ≤ 4 → Completes (.evrRelease v)
      (fun d => d.runs ∧ d.regsWf)
      (fun d d' => (∀ e, e ∈ d'.fault.slots ↔ e ∈ d.fault.slots ∧ ¬ (e.2.severity ≤ v.toNat / 2 ^ 32 % 8 ∧ e.2.severity ≠ 5 ∧ seqDist (d.fld Reg.EVR_SEQ_NEXT Fd.EVR_SEQ_NEXT_SEQ) (v.toNat % 2 ^ 32) < seqDist (d.fld Reg.EVR_SEQ_NEXT Fd.EVR_SEQ_NEXT_SEQ) e.2.seq)) ∧
          d'.reg Reg.EVR_RELEASE = BitVec.ofNat 64 (v.toNat % 2 ^ 35) ∧ d.sameRegsBut d' [Reg.EVR_RELEASE])) ∧
  (∀ (v : DWord), v.toNat / 2 ^ 32 = 5 → Completes (.evrRelease v)
      (fun d => d.runs)
      (fun d d' => d' = (d.dropHalves Reg.EVR_RELEASE).refuse 0x1004)) ∧
  (∀ (e : EventRec) (rest : List EventRec), Completes (.fatalFlashWrite)
      (fun d => d.runs ∧ d.fault.flashQ = e :: rest ∧ d.fault.log.length < 256)
      (fun d d' => d'.fault.log = d.fault.log ++ [{ e with flashed := true }] ∧ d'.fault.flashQ = rest ∧ d'.fault.inputQ = d.fault.inputQ ∧ d' = { d with fault := d'.fault })) ∧
  (∀ (c : Fin 4) (n : Nat), ∀ p ∈ ([(.mgmtWatchdogExpire c, ()),
        (.lockstepMismatch c, ()),
        (.firmwarePanic c, ())] : List (Instr × Unit)),
      Completes p.1
      (fun d => d.runs ∧ d.mgmt.fw = true ∧ d.mgmt.crashed = false ∧ d.errq 4 = { waiting := [], handling := none, suspended := [], arrivals := n })
      (fun d d' => (d'.fault.dumping.map (fun x => (x.cause, x.core))) = d.fault.dumping.map (fun x => (x.cause, x.core)) ++ [(0x1014, c.val)] ∧ d'.mgmt.crashed = true ∧ (d'.errq 4).handling.map (fun e => (e.event.code, e.event.severity)) = some (0x1014, 4) ∧ d'.str = d.str ∧ d'.cells = d.cells ∧ d'.mem = d.mem ∧ d'.regs = d.regs)) ∧
  (∀ (x : CrashDump) (rest : List CrashDump) (i : Nat), i < 4 → Completes (.crashDumpDone)
      (fun d => d.runs ∧ d.fault.dumping = x :: rest ∧ d.fault.crash.get? i = none ∧ (∀ j, j < i → (d.fault.crash.get? j).isSome = true) ∧ x.cause = 0x1014 ∧ d.mgmt.crashed = true ∧ d.fld Reg.FW_STATUS Fd.FW_STATUS_TRIAL = 0)
      (fun d d' => d'.fault.crash = d.fault.crash.put i x ∧ d'.fault.dumping = rest ∧ d'.mgmt.crashed = false ∧ d'.regs = d.regs ∧ d'.mem = d.mem)) ∧
  (∀ (m : MsgRef) (i : Nat) (x : CrashDump), i < 4 → Completes (.crashInfo m)
      (fun d => d.runs ∧ d.turn m 0x0010 (fun _ => true) = true ∧ d.canAnswer m ∧ d.fault.crash = [(i, x)])
      (fun d d' => d.answered d' m 0x0010 0 (zeros (16 * i) ++ (u8 1 ++ u8 x.core ++ u16 x.cause ++ u32 x.dumpSeq ++ u64 x.calNs) ++ zeros (16 * (3 - i))) ∧ d.sameRegsBut d' answerRegs ∧ d' = { d with  regs := d'.regs, host := d'.host, out := d'.out })) ∧
  (∀ (m : MsgRef) (i dst : Nat) (x : CrashDump), i < 4 → Completes (.crashRead m i dst)
      (fun d => d.runs ∧ d.turn m 0x0011 (fieldsAre [(0, 1, i), (8, 8, dst)]) = true ∧ d.canAnswer m ∧ d.fault.crash.get? i = some x ∧ d.copyDst dst (dumpBytes x).length = true ∧ Memory.wf d.mem = true)
      (fun d d' => d.stored d' dst (dumpBytes x) ∧ d.answered d' m 0x0011 0 (u32 (dumpBytes x).length) ∧ d.sameRegsBut d' answerRegs ∧ d'.fault = d.fault)) ∧
  (∀ (m : MsgRef) (i dst : Nat), i < 4 → Completes (.crashRead m i dst)
      (fun d => d.runs ∧ d.turn m 0x0011 (fieldsAre [(0, 1, i), (8, 8, dst)]) = true ∧ d.fault.crash.get? i = none ∧ d.copyDst dst 0 = true)
      (fun d d' => d' = d.refuseMsg m 0x0011 0x1015)) ∧
  (∀ (m : MsgRef) (i dst : Nat), Completes (.crashRead m i dst)
      (fun d => d.runs ∧ d.turn m 0x0011 (fieldsAre [(0, 1, i), (8, 8, dst)]) = true ∧ (3 < i ∨ dst % 256 ≠ 0))
      (fun d d' => d' = d.refuseMsg m 0x0011 0x1004)) ∧
  (∀ (m : MsgRef) (i : Nat), i < 4 → Completes (.crashRelease m i)
      (fun d => d.runs ∧ d.turn m 0x0012 (fieldsAre [(0, 1, i)]) = true ∧ d.canAnswer m ∧ (d.fault.crash.get? i).isSome = true)
      (fun d d' => d'.fault = { d.fault with crash := d.fault.crash.del i } ∧ d.answered d' m 0x0012 0 [] ∧ d.sameRegsBut d' answerRegs ∧ d'.mem = d.mem)) ∧
  (∀ (m : MsgRef) (dst : Nat), Completes (.fatalLogRead m dst)
      (fun d => d.runs ∧ d.turn m 0x0013 (fieldsAre [(8, 8, dst)]) = true ∧ d.canAnswer m ∧ d.copyDst dst (64 * d.fault.log.length) = true ∧ Memory.wf d.mem = true)
      (fun d d' => d.stored d' dst (d.fault.log.flatMap recordBytes) ∧ d.answered d' m 0x0013 0 (u32 d.fault.log.length) ∧ d.sameRegsBut d' answerRegs ∧ d'.fault = d.fault))

/-- Rail and temperature samples, the governor, clocks and regulators, the caps, telemetry. R567, R568, R569, R571, R572, R574, R575, R576, R577, R613, R614. -/
def Obligations.PowerAndTelemetry : Prop :=
  (∀ (mv da : List Nat), (∀ r : Fin 15, railOut r.val (mv.getD r.val 0) = false) ∧ (∀ r : Fin 4, da.getD r.val 0 ≤ 5200) → Completes (.railSample mv da)
      (fun d => d.mgmt.powered = true ∧ d.mgmt.samples < 10 ∧ d.regsWf ∧ d.mgmt.outV = List.replicate 15 0 ∧ d.mgmt.outI = List.replicate 4 0)
      (fun d d' => let e := d.mgmt.energy + ((List.range 15).map (fun r => mv.getD r 0 * da.getD r 0)).sum
        (∀ r : Fin 15, d'.reg (Reg.RAIL_MON r.val) = BitVec.ofNat 64 (mv.getD r.val 0 % 2 ^ 16 + 2 ^ 16 * (da.getD r.val 0 % 2 ^ 16) + 2 ^ 32 * (mv.getD r.val 0 * da.getD r.val 0 / 10000 % 2 ^ 16))) ∧
          d'.mgmt.energy = e ∧ d'.mgmt.samples = d.mgmt.samples + 1 ∧ d'.mgmt.gated = (d.mgmt.gated || decide (d.mgmt.allowance ≤ (e + 6500000 * (9 - d.mgmt.samples) : Nat))) ∧ d'.mgmt.history = d.mgmt.history ∧ d'.mem = d.mem)) ∧
  (∀ (mv da : List Nat) (r n : Nat), r < 15 ∧ railOut r (mv.getD r 0) = true ∧ (∀ q : Fin 4, da.getD q.val 0 ≤ 5200) → Completes (.railSample mv da)
      (fun d => d.mgmt.powered = true ∧ d.mgmt.samples < 10 ∧ d.regsWf ∧ d.mgmt.outV = setNth (List.replicate 15 0) r 4 ∧ d.mgmt.outI = List.replicate 4 0 ∧ d.tripped = false ∧ d.fault.fmap = [] ∧ d.packageContained = false ∧ d.errq 4 = { waiting := [], handling := none, suspended := [], arrivals := n })
      (fun d d' => d'.tripped = true ∧ d'.packageContained = true ∧ (∀ k : Fin 4, d'.dieContained k.val = true ∧ d'.dieMhz k.val = 0 ∧ d'.fld (Reg.DIE_CLOCK k.val) Fd.DIE_CLOCK_VDD_MV = 550) ∧ d'.mem = d.mem ∧ (d'.errq 4).handling.map (fun e => [e.event.code, e.event.severity, e.event.arg2, e.event.arg3]) = some [0x1019, 5, if r < 4 then 5 else 7, r])) ∧
  (Completes (.governorPeriod)
      (fun d => d.mgmt.powered = true ∧ d.mgmt.samples = 10 ∧ d.regsWf)
      (fun d d' => let h := ((d.mgmt.energy, d.mgmt.gated) :: d.mgmt.history).take 100; let a : Int := (d.capInForce : Int) * 10000000 - (((h.take 99).map (fun x => x.1)).sum : Nat) - 37000000
        d'.mgmt.history = h ∧ d'.mgmt.allowance = a ∧ d'.mgmt.gated = decide (a ≤ 65000000) ∧ d'.mgmt.samples = 0 ∧ d'.mgmt.energy = 0 ∧ d'.fld Reg.GOV_STATUS Fd.GOV_STATUS_GATING = bit d'.mgmt.gated ∧ d'.mem = d.mem ∧ d'.cells = d.cells)) ∧
  (∀ (temps : List (Nat × Nat)), (∀ k : Fin 6, (temps.getD k.val (0, 0)).1 ≤ 110) → Completes (.tempSample temps)
      (fun d => d.mgmt.powered = true ∧ d.regsWf)
      (fun d d' => ∀ k : Fin 4, let t := (temps.getD k.val (0, 0)).1
          d'.fld (Reg.DIE_CLOCK k.val) Fd.DIE_CLOCK_TMAX_C = min 255 t ∧ (103 < t → d'.clamped k.val = true ∧ d'.dieMhz k.val = min 300 (d.dieMhz k.val)) ∧
          (t ≤ 103 → d'.dieMhz k.val = d.dieMhz k.val) ∧ (t < 98 → d'.clamped k.val = false) ∧ (98 ≤ t → t ≤ 103 → d'.clamped k.val = d.clamped k.val))) ∧
  (∀ (temps : List (Nat × Nat)) (hot place n : Nat), temps.head? = some (hot, place) ∧ 110 < hot → Completes (.tempSample temps)
      (fun d => d.mgmt.powered = true ∧ d.inReset = true ∧ d.regsWf ∧ d.tripped = false ∧ d.fault.fmap = [] ∧ d.packageContained = false ∧ d.errq 4 = { waiting := [], handling := none, suspended := [], arrivals := n })
      (fun d d' => d'.tripped = true ∧ d'.packageContained = true ∧ d'.inReset = true ∧ (∀ k : Fin 4, d'.dieMhz k.val = 0) ∧ d'.mem = d.mem ∧ (d'.errq 4).handling.map (fun e => [e.event.code, e.event.severity, e.event.arg2, e.event.arg3]) = some [0x1019, 5, 4, place])) ∧
  (∀ (k : Fin 16) (t : Nat), Completes (.hbmTempReport k t)
      (fun d => d.runs ∧ d.regsWf ∧ d.mgmt.stackTemp.length = 16)
      (fun d d' => d'.mgmt.stackTemp = setNth d.mgmt.stackTemp k.val t ∧ (95 < t → d'.fld Reg.GOV_STATUS Fd.GOV_STATUS_THERMAL_EMERG = 1) ∧ d'.mem = d.mem ∧ d'.cells = d.cells)) ∧
  (∀ (freq pw : Nat), 300 ≤ freq ∧ freq ≤ 600 ∧ 300 ≤ pw ∧ pw ≤ 600 → Completes (.clockAdjust)
      (fun d => d.runs ∧ d.mgmt.fw = true ∧ d.tripped = false ∧ d.regsWf ∧ d.fld Reg.FREQ_CAP Fd.FREQ_CAP_MHZ = freq ∧ d.fld (Reg.DIE_CLOCK 0) Fd.DIE_CLOCK_POWER_MHZ = pw)
      (fun d d' => let g := (d.mgmt.history.filter (fun x => x.2)).length; let s := (d.mgmt.history.map (fun x => x.1)).sum
        let power := max 300 (min freq (if 25 ≤ g then pw - 25 else if g = 0 ∧ s ≤ 9000000 * d.fld Reg.GOV_STATUS Fd.GOV_STATUS_CAP_W then pw + 25 else pw))
        ∀ k : Fin 4, let hot := d.mgmt.hot.getD k.val 0; let th := d.fld (Reg.DIE_CLOCK k.val) Fd.DIE_CLOCK_THERMAL_MHZ
          let thermal := max 300 (min 600 (if 95 < hot then th - 25 else if hot < 92 then th + 25 else th)); let f := if d.clamped k.val then 300 else min (min power thermal) freq
          d'.fld (Reg.DIE_CLOCK k.val) Fd.DIE_CLOCK_POWER_MHZ = power ∧ d'.fld (Reg.DIE_CLOCK k.val) Fd.DIE_CLOCK_THERMAL_MHZ = thermal ∧
          ((d.mgmt.vmode.get? k.val).isSome = true → (f < d.dieMhz k.val → d'.dieMhz k.val = f ∧ d'.fld (Reg.DIE_CLOCK k.val) Fd.DIE_CLOCK_VDD_MV = vddFor f) ∧
            (d.dieMhz k.val < f → d'.dieMhz k.val = d.dieMhz k.val ∧ d'.mgmt.raising.get? k.val = some f ∧ d'.fld (Reg.DIE_CLOCK k.val) Fd.DIE_CLOCK_VDD_MV = vddFor f) ∧
            (d.dieMhz k.val = f → d'.dieMhz k.val = f ∧ d'.fld (Reg.DIE_CLOCK k.val) Fd.DIE_CLOCK_VDD_MV = vddFor f)))) ∧
  (∀ (k : Fin 4) (f : Nat), f ≤ 600 → Completes (.voltageSettled k)
      (fun d => d.runs ∧ d.regsWf ∧ d.tripped = false ∧ d.mgmt.raising.get? k.val = some f ∧ d.clamped k.val = false ∧ Map.rising d.mgmt.raising = true)
      (fun d d' => d'.dieMhz k.val = f ∧ d.sameRegsBut d' [Reg.DIE_CLOCK k.val] ∧ d'.mgmt.raising.get? k.val = none ∧ d'.mem = d.mem)) ∧
  (∀ (k : Fin 4) (na : Bool) (t mv : Nat), Completes (.vrSetpointTimeout ⟨k, na⟩)
      (fun d => d.runs ∧ d.regsWf ∧ d.mgmt.raisedAt.get? k.val = some t ∧ d.mgmt.vddBefore.get? k.val = some mv ∧ mv < 2 ^ 10 ∧ Map.rising d.mgmt.raising = true)
      (fun d d' => d'.dieMhz k.val = d.dieMhz k.val ∧ d'.fld (Reg.DIE_CLOCK k.val) Fd.DIE_CLOCK_VDD_MV = mv ∧ (d'.fld Reg.VR_STATUS Fd.VR_STATUS_NO_RESPONSE).testBit k.val = true ∧
        (na = false → t + 50000 ≤ d'.now) ∧ d'.mgmt.raising.get? k.val = none ∧ d'.mem = d.mem)) ∧
  (∀ (k : Fin 4) (t : Nat), Completes (.vrSetpointTimeout ⟨k, true⟩)
      (fun d => d.runs ∧ d.mgmt.raisedAt.get? k.val = some t ∧ (d.fld Reg.VR_STATUS Fd.VR_STATUS_NO_RESPONSE).testBit k.val = true)
      (fun d d' => d'.out = d.out ++ List.replicate 2 (.pmbus (0x58 + k.val) (let w := u8 (2 * (0x58 + k.val)) ++ u8 0x21 ++ u16 (voutWord (d.mgmt.vmode.getD k.val 0) (d.fld (Reg.DIE_CLOCK k.val) Fd.DIE_CLOCK_VDD_MV)); w ++ [pmbusPec w])))) ∧
  (∀ (st : List Nat), Completes (.vrAlert true st)
      (fun d => d.runs ∧ d.regsWf)
      (fun d d' => d'.fld Reg.VR_STATUS Fd.VR_STATUS_ALERT = 1 ∧ d'.out = d.out ++ [.pmbus 0x58 [0xB0, 0x79, 0xB1], .pmbus 0x59 [0xB2, 0x79, 0xB3], .pmbus 0x5A [0xB4, 0x79, 0xB5], .pmbus 0x5B [0xB6, 0x79, 0xB7]] ∧ d'.fld Reg.EVR_SEQ_NEXT Fd.EVR_SEQ_NEXT_SEQ = (d.fld Reg.EVR_SEQ_NEXT Fd.EVR_SEQ_NEXT_SEQ + 1) % 2 ^ 32 ∧ d'.mem = d.mem)) ∧
  (∀ (st : List Nat), Completes (.vrAlert false st)
      (fun d => d.runs ∧ d.regsWf)
      (fun d d' => d'.fld Reg.VR_STATUS Fd.VR_STATUS_ALERT = 0 ∧ d.sameRegsBut d' [Reg.VR_STATUS] ∧ d' = { d with regs := d'.regs })) ∧
  (∀ (v : Word), 700 ≤ v.toNat ∧ v.toNat ≤ 1400 → Completes (.pwrCapWrite v)
      (fun d => d.runs ∧ d.regsWf)
      (fun d d' => d'.reg Reg.PWR_CAP = v.zeroExtend 64 ∧ d.sameRegsBut d' [Reg.PWR_CAP] ∧ d' = { d with regs := d'.regs })) ∧
  (∀ (v : Word), v.toNat < 2 ^ 11 ∧ (v.toNat < 700 ∨ 1400 < v.toNat) → Completes (.pwrCapWrite v)
      (fun d => d.runs)
      (fun d d' => d' = d.refuse 0x1004)) ∧
  (∀ (v : Word), v.toNat % 25 = 0 ∧ 300 ≤ v.toNat ∧ v.toNat ≤ 600 → Completes (.freqCapWrite v)
      (fun d => d.runs ∧ d.regsWf)
      (fun d d' => d'.reg Reg.FREQ_CAP = v.zeroExtend 64 ∧ d.sameRegsBut d' [Reg.FREQ_CAP] ∧ d' = { d with regs := d'.regs })) ∧
  (∀ (v : Word), v.toNat < 2 ^ 10 ∧ (v.toNat % 25 ≠ 0 ∨ v.toNat < 300 ∨ 600 < v.toNat) → Completes (.freqCapWrite v)
      (fun d => d.runs)
      (fun d d' => d' = d.refuse 0x1004)) ∧
  (Completes (.telemetryRefresh)
      (fun d => d.runs)
      (fun d d' => d'.mgmt.readings = [d.fld Reg.PKG_POWER Fd.PKG_POWER_WINDOW_W, d.fld Reg.GOV_STATUS Fd.GOV_STATUS_CAP_W] ++ d.mgmt.hot ++ d.mgmt.stackTemp ++ (List.range 15).map (fun r => d.fld (Reg.RAIL_MON r) Fd.RAIL_MON_MV)
            ++ (List.range 15).map (fun r => d.fld (Reg.RAIL_MON r) Fd.RAIL_MON_DECIAMPS) ++ [d.dieMhz 0, d.dieMhz 1, d.dieMhz 2, d.dieMhz 3, d.powerState] ∧ d' = { d with mgmt := d'.mgmt, now := d'.now })) ∧
  (∀ (x : Byte), Completes (.setEndpointId x true)
      (fun d => d.runs ∧ d.mgmt.fw = true ∧ d.mgmt.crashed = false)
      (fun d d' => d' = { d with mgmt := { d.mgmt with eid := x.toNat }, out := d.out ++ [.mctp (Config.dmtf 0x01 [x.toNat] [])] })) ∧
  (∀ (x : Byte) (n e r z c : Nat), ∀ p ∈ ([(.getEndpointId true, (0x02, [e])),
        (.getMctpVersionSupport x true, (0x04, [x.toNat])),
        (.getMessageTypeSupport true, (0x05, [0, 1])),
        (.getPdr n true, (0x0251, [n])),
        (.getSensorReading n true, (0x0211, [if 1 ≤ n ∧ n ≤ 58 then 1 else 0, n, r])),
        (.getStateSensorReadings n true, (0x0221, [if n = 59 then 1 else 0, n, z])),
        (.getNumericEffecterValue n true, (0x0232, [if n = 1 then 1 else 0, n, c]))] : List (Instr × (Nat × List Nat))),
      Completes p.1
      (fun d => d.runs ∧ d.mgmt.fw = true ∧ d.mgmt.crashed = false ∧ d.mgmt.eid = e ∧ d.mgmt.readings.getD (n - 1) 0 = r ∧ d.mgmt.readings.getD 58 0 = z ∧ d.mgmt.bmcCap = c)
      (fun d d' => d' = { d with out := d.out ++ [.mctp (Config.dmtf p.2.1 p.2.2 [])] })) ∧
  (∀ (n v : Nat), Completes (.setNumericEffecterValue n v true)
      (fun d => d.runs ∧ d.mgmt.fw = true ∧ d.mgmt.crashed = false)
      (fun d d' => d'.mgmt = { d.mgmt with bmcCap := if n = 1 ∧ 700 ≤ v ∧ v ≤ 1400 then v else d.mgmt.bmcCap } ∧ d'.out = d.out ++ [.mctp (Config.dmtf 0x0231 [if n = 1 ∧ 700 ≤ v ∧ v ≤ 1400 then 1 else 0, n, v] [])] ∧ d' = { d with mgmt := d'.mgmt, out := d'.out }))

/-- Staging, activating, cancelling and committing a firmware image; its activation at Night and its trial. R552, R580, R581, R582, R583, R585, R586, R587, R597. -/
def Obligations.FirmwareUpdate : Prop :=
  (∀ (m : MsgRef) (pl : List Byte), Completes (.fwStage m pl)
      (fun d => d.runs ∧ d.turn m 0x1001 (fun b => b = pl) = true ∧ d.canAnswer m ∧ d.class1Waits = false ∧ leAt pl 0 8 % 256 = 0 ∧ leAt pl 8 4 % 4096 = 0 ∧ 4096 ≤ leAt pl 8 4 ∧ leAt pl 8 4 ≤ 16777216 ∧ d.rangeHbmDdr (leAt pl 0 8) (leAt pl 8 4) = true ∧ d.poisoned (leAt pl 0 8) (leAt pl 8 4) = false ∧
          leAt (d.read (leAt pl 0 8) (leAt pl 8 4)) 8 4 = leAt pl 8 4 ∧ d.actState ≠ 2 ∧ d.fwTrial = false)
      (fun d d' => let b := d.read (leAt pl 0 8) (leAt pl 8 4)
        (d.fwValid b = true → d' = { d with mgmt := { d.mgmt with staging := some (m, 1 - d.running, b) } }) ∧ (d.fwGood b = false → d' = d.refuseMsg m 0x1001 0x101A) ∧
          (d.fwGood b = true → fwSvnOf b < d.fuses.rollback → d' = d.refuseMsg m 0x1001 0x101B))) ∧
  (∀ (m : MsgRef) (pl : List Byte), Completes (.fwStage m pl)
      (fun d => d.runs ∧ d.turn m 0x1001 (fun b => b = pl) = true ∧ d.class1Waits = false ∧ d.poisoned (leAt pl 0 8) 16 = false ∧ leAt (d.read (leAt pl 0 8) (leAt pl 8 4)) 8 4 ≠ leAt pl 8 4)
      (fun d d' => d' = d.refuseMsg m 0x1001 0x1004)) ∧
  (∀ (m : MsgRef) (pl : List Byte), Completes (.fwStage m pl)
      (fun d => d.runs ∧ d.turn m 0x1001 (fun b => b = pl) = true ∧ d.class1Waits = false ∧ (leAt pl 0 8 % 256 ≠ 0 ∨ leAt pl 8 4 % 4096 ≠ 0 ∨ leAt pl 8 4 < 4096 ∨ 16777216 < leAt pl 8 4 ∨ d.rangeHbmDdr (leAt pl 0 8) (leAt pl 8 4) = false))
      (fun d d' => d' = d.refuseMsg m 0x1001 0x1004)) ∧
  (∀ (m : MsgRef) (k : Nat) (b : List Byte), Completes (.fwStageDone true)
      (fun d => d.runs ∧ d.regsWf ∧ d.mgmt.staging = some (m, k, b) ∧ d.canAnswer m)
      (fun d d' => d'.flash = { d.flash with images := setNth d.flash.images k b } ∧ d'.actState = 1 ∧ d'.mgmt.staged = k ∧ d'.mgmt.staging = none ∧ d.answered d' m 0x1001 0 [BitVec.ofNat 8 k] ∧ d.sameRegsBut d' (Reg.FW_STATUS :: answerRegs))) ∧
  (∀ (m : MsgRef) (k : Nat) (b : List Byte), Completes (.fwStageDone false)
      (fun d => d.runs ∧ d.regsWf ∧ d.mgmt.staging = some (m, k, b) ∧ d.canAnswer m)
      (fun d d' => d'.flash = { d.flash with images := setNth d.flash.images k [] } ∧ d'.actState = 0 ∧ d.answered d' m 0x1001 0x101E [])) ∧
  (∀ (m : MsgRef) (pl : List Byte), Completes (.fwActivate m pl)
      (fun d => d.runs ∧ d.turn m 0x1002 (fun b => b = pl) = true ∧ d.canAnswer m ∧ d.class1Waits = false ∧ d.actState = 1)
      (fun d d' => d'.actState = 2 ∧ d'.mgmt.pendingSince = d.now ∧ d.answered d' m 0x1002 0 [BitVec.ofNat 8 d.mgmt.staged] ∧ d.sameRegsBut d' (Reg.FW_STATUS :: answerRegs) ∧ d'.flash = d.flash)) ∧
  (∀ (m : MsgRef) (pl : List Byte), Completes (.fwActivate m pl)
      (fun d => d.runs ∧ d.turn m 0x1002 (fun b => b = pl) = true ∧ d.class1Waits = false ∧ d.actState ≠ 1)
      (fun d d' => d' = d.refuseMsg m 0x1002 0x101C)) ∧
  (∀ (m : MsgRef) (pl : List Byte), Completes (.fwCancel m pl)
      (fun d => d.runs ∧ d.turn m 0x1003 (fun b => b = pl) = true ∧ d.canAnswer m ∧ d.class1Waits = false ∧ d.actState = 2 ∧ d.host.holdQ = [] ∧ seqDist (d.fld Reg.MB_D2H_POS ⟨0, 32⟩) (d.fld Reg.MB_D2H_ACKED ⟨0, 32⟩) < 16383)
      (fun d d' => d'.actState = 1 ∧ (d'.host.d2h.get? (d.fld Reg.MB_D2H_POS ⟨0, 32⟩ % 16384)).map (fun x => (x.opcode, x.status, x.hseq)) = some (0x1003, 0, m.hseq) ∧
          (d'.host.d2h.get? ((d.fld Reg.MB_D2H_POS ⟨0, 32⟩ + 1) % 16384)).map (fun x => (x.opcode, x.async, x.payload)) = some (0x8010, true, u16 0x1006 ++ u8 d.mgmt.staged) ∧ d'.flash = d.flash)) ∧
  (∀ (m : MsgRef) (pl : List Byte), Completes (.fwCancel m pl)
      (fun d => d.runs ∧ d.turn m 0x1003 (fun b => b = pl) = true ∧ d.class1Waits = false ∧ d.actState ≠ 2)
      (fun d d' => d' = d.refuseMsg m 0x1003 0x1006)) ∧
  (∀ (m : MsgRef) (pl : List Byte), Completes (.fwCommit m pl)
      (fun d => d.runs ∧ d.turn m 0x1004 (fun b => b = pl) = true ∧ d.canAnswer m ∧ d.class1Waits = false ∧ d.fwTrial = true ∧ d.flash.descs.length = 2 ∧ leAt pl 0 1 ≤ 1)
      (fun d d' => d'.fwTrial = false ∧ d'.bootDesc.map (fun x => (x.active, x.trial, x.prev)) = some (d.running, false, 1 - d.running) ∧ d'.fuses = { d.fuses with rollback := if leAt pl 0 1 = 1 then max d.fuses.rollback (d.fld Reg.FW_RUNNING Fd.FW_RUNNING_SVN) else d.fuses.rollback } ∧ d.answered d' m 0x1004 0 [])) ∧
  (∀ (m : MsgRef) (pl : List Byte), Completes (.fwCommit m pl)
      (fun d => d.runs ∧ d.turn m 0x1004 (fun b => b = pl) = true ∧ d.class1Waits = false ∧ d.fwTrial = false ∧ leAt pl 0 1 ≤ 1)
      (fun d d' => d' = d.refuseMsg m 0x1004 0x1006)) ∧
  (∀ (m : MsgRef) (pl : List Byte) (x y : List Byte), Completes (.fwInfo m pl)
      (fun d => d.runs ∧ d.turn m 0x1005 (fun b => b = pl) = true ∧ d.canAnswer m ∧ d.class1Waits = false ∧ d.fwImage 0 = x ∧ d.fwImage 1 = y ∧ x ≠ [] ∧ y ≠ [])
      (fun d d' => d.answered d' m 0x1005 0 (u8 d.running ++ u8 (bit d.fwTrial) ++ u8 d.fuses.rollback ++ u8 d.actState ++ u32 (leAt x 0xC 4) ++ u8 (leAt x 0x10 1) ++ u8 (bit (d.fwValid x)) ++ u16 0 ++ u32 (leAt y 0xC 4) ++ u8 (leAt y 0x10 1) ++ u8 (bit (d.fwValid y))) ∧
          d.sameRegsBut d' answerRegs ∧ d'.flash = d.flash ∧ d'.fuses = d.fuses)) ∧
  (Completes (.fwActivationApply)
      (fun d => d.runs ∧ d.regsWf ∧ d.mgmt.fw = true ∧ d.phase ≤ d.b3 ∧ d.actState = 2 ∧ d.flash.descs.length = 2 ∧ d.fld Reg.GOV_STATUS Fd.GOV_STATUS_POWER_EMERG = 0 ∧ d.fld Reg.GOV_STATUS Fd.GOV_STATUS_THERMAL_EMERG = 0 ∧ d.mgmt.emergEnd + 10 ^ 9 ≤ d.now)
      (fun d d' => d'.actState = 3 ∧ d'.bootDesc.map (fun x => (x.active, x.trial, x.prev)) = some (d.mgmt.staged, true, d.running) ∧ d.sameRegsBut d' [Reg.FW_STATUS] ∧ d'.str = d.str ∧ d'.cells = d.cells)) ∧
  (Completes (.fwActivationApply)
      (fun d => d.runs ∧ (d.mgmt.fw = false ∨ d.b3 < d.phase))
      (fun d d' => d' = d)) ∧
  (Completes (.fwActivationApply)
      (fun d => d.runs ∧ d.actState = 2 ∧ (d.fld Reg.GOV_STATUS Fd.GOV_STATUS_POWER_EMERG = 1 ∨ d.fld Reg.GOV_STATUS Fd.GOV_STATUS_THERMAL_EMERG = 1))
      (fun d d' => d' = { d with now := d'.now })) ∧
  (Completes (.fwActivationTimeout)
      (fun d => d.runs ∧ d.canAnnounce ∧ d.mgmt.fw = true ∧ d.actState = 2 ∧ d.mgmt.clearSeen = false ∧ d.fld Reg.GOV_STATUS Fd.GOV_STATUS_POWER_EMERG = 1)
      (fun d d' => d'.actState = 1 ∧ d'.fld Reg.FW_STATUS Fd.FW_STATUS_LAST_CODE = 0x101D ∧ d.announced d' 0x8010 (u16 0x101D ++ u8 d.mgmt.staged) ∧ d.mgmt.pendingSince + 60 * 10 ^ 9 ≤ d'.now ∧ d'.flash = d.flash)) ∧
  (Completes (.fwRestartDone)
      (fun d => d.runs ∧ d.canAnnounce ∧ d.mgmt.fw = true ∧ d.actState = 3 ∧ d.mgmt.crashed = false ∧ d.mgmt.staged < 2)
      (fun d d' => d'.actState = 0 ∧ d'.running = d.mgmt.staged ∧ d'.fwTrial = true ∧ d'.reg Reg.FW_RUNNING = BitVec.ofNat 64 (leAt (d.fwImage d.mgmt.staged) 0xC 4 + 2 ^ 32 * (leAt (d.fwImage d.mgmt.staged) 0x10 1 % 64)) ∧ d.announced d' 0x8010 (u16 0 ++ u8 d.mgmt.staged) ∧ d'.fld Reg.EVR_SEQ_NEXT Fd.EVR_SEQ_NEXT_SEQ = (d.fld Reg.EVR_SEQ_NEXT Fd.EVR_SEQ_NEXT_SEQ + 1) % 2 ^ 32)) ∧
  (∀ (vm : List (Option Nat)), Completes (.firmwareStart vm)
      (fun d => d.runs ∧ d.regsWf ∧ d.mgmt.booted = false ∧ d.mgmt.fw = false ∧ d.board.strapBoot = 1)
      (fun d d' => (d.fwValid (d.fwImage 0) = true → d'.mgmt.fw = true ∧ d'.running = 0 ∧ d'.fwTrial = false) ∧ (d.fwValid (d.fwImage 0) = false → d'.mgmt.fw = false ∧ d'.fault.flashQ.map (fun e => (e.code, e.severity)) = d.fault.flashQ.map (fun e => (e.code, e.severity)) ++ [(0x101A, 5)]) ∧ d'.mgmt.booted = true ∧ d.mgmt.t0 + 400000000 ≤ d'.now)) ∧
  (Completes (.deviceReady [])
      (fun d => d.runs ∧ d.regsWf ∧ d.mgmt.fw = true ∧ d.fld Reg.MEM_STATUS Fd.MEM_STATUS_TRAINED = 1 ∧ d.fld Reg.DEV_STATUS Fd.DEV_STATUS_READY = 0)
      (fun d d' => d'.fld Reg.DEV_STATUS Fd.DEV_STATUS_READY = 1 ∧ d'.fld Reg.HOST_STATE Fd.HOST_STATE_READY = 1 ∧ d.sameRegsBut d' [Reg.DEV_STATUS, Reg.HOST_STATE] ∧ d'.fault = d.fault ∧ d.mgmt.t0 + 4000000000 ≤ d'.now)) ∧
  (∀ (k : Fin 4) (x : Fin 4096), Completes (.deviceReady [.cluster k x])
      (fun d => d.runs ∧ d.regsWf ∧ d.mgmt.fw = true ∧ d.fld Reg.MEM_STATUS Fd.MEM_STATUS_TRAINED = 1 ∧ d.fld Reg.DEV_STATUS Fd.DEV_STATUS_READY = 0 ∧ d.fault.fmap = [])
      (fun _ d' => d'.fld Reg.DEV_STATUS Fd.DEV_STATUS_READY = 1 ∧ d'.fault.fmap = [(0, { kind := 2, die := k.val, block := x.val / 64, cluster := x.val % 64, code := 0x1016 })]))

/-- Nonces, owner keys, debug unlock, and the SPDM requests over DOE and the mailbox. R588, R589, R590, R591, R592, R593, R595, R596. -/
def Obligations.SecurityAndAttestation : Prop :=
  (∀ (m : MsgRef) (pl : List Byte), Completes (.secNonce m pl)
      (fun d => d.runs ∧ d.turn m 0x3002 (fun b => b = pl) = true ∧ d.canAnswer m ∧ d.class3Waits = false)
      (fun d d' => (∃ n : List Byte, n.length = 32 ∧ d'.mgmt.nonce = some (n, d.now) ∧ d.answered d' m 0x3002 0 n) ∧ d'.fld Reg.SEC_STATUS Fd.SEC_STATUS_NONCE_VALID = 1 ∧ d.sameRegsBut d' (Reg.SEC_STATUS :: answerRegs))) ∧
  (∀ (n : List Byte) (t : Nat), Completes (.nonceExpire)
      (fun d => d.runs ∧ d.regsWf ∧ d.mgmt.nonce = some (n, t))
      (fun d d' => d'.mgmt.nonce = none ∧ d'.fld Reg.SEC_STATUS Fd.SEC_STATUS_NONCE_VALID = 0 ∧ t + 60 * 10 ^ 9 ≤ d'.now ∧ d.sameRegsBut d' [Reg.SEC_STATUS])) ∧
  (∀ (m : MsgRef) (pl : List Byte) (k : Nat), 1 ≤ k ∧ k ≤ 4 → Completes (.ownerProvision m pl)
      (fun d => d.runs ∧ d.turn m 0x3003 (fun b => b = pl) = true ∧ d.canAnswer m ∧ d.class3Waits = false ∧ d.plan.library = [] ∧ d.plan.shadow = none ∧ d.slotsInP = [] ∧ leAt pl 0 1 = k ∧ leAt pl 1 1 = 0 ∧ d.fuses.owner.getD (k - 1) none = none ∧ d.fuses.revoked.testBit (k - 1) = false)
      (fun d d' => d'.fuses = { d.fuses with owner := setNth d.fuses.owner (k - 1) (some ((pl.drop 8).take 57)) } ∧ d.answered d' m 0x3003 0 [] ∧ d'.fld Reg.EVR_SEQ_NEXT Fd.EVR_SEQ_NEXT_SEQ = (d.fld Reg.EVR_SEQ_NEXT Fd.EVR_SEQ_NEXT_SEQ + 1) % 2 ^ 32 ∧ d'.mem = d.mem)) ∧
  (∀ (m : MsgRef) (pl : List Byte), Completes (.ownerProvision m pl)
      (fun d => d.runs ∧ d.turn m 0x3003 (fun b => b = pl) = true ∧ d.class3Waits = false ∧ (leAt pl 0 1 = 0 ∨ 4 < leAt pl 0 1 ∨ 4 < leAt pl 1 1))
      (fun d d' => d' = d.refuseMsg m 0x3003 0x1104)) ∧
  (∀ (m : MsgRef) (pl : List Byte), Completes (.ownerProvision m pl)
      (fun d => d.runs ∧ d.turn m 0x3003 (fun b => b = pl) = true ∧ d.class3Waits = false ∧ 1 ≤ leAt pl 0 1 ∧ leAt pl 0 1 ≤ 4 ∧ leAt pl 1 1 ≤ 4 ∧ ((d.fuses.owner.getD (leAt pl 0 1 - 1) none).isSome = true ∨ (d.slotsInP = [] ∧ leAt pl 1 1 ≠ 0)))
      (fun d d' => d' = d.refuseMsg m 0x3003 0x1112)) ∧
  (∀ (m : MsgRef) (pl : List Byte) (k g : Nat) (n : List Byte) (t : Nat), Completes (.ownerRevoke m pl)
      (fun d => d.runs ∧ d.turn m 0x3004 (fun b => b = pl) = true ∧ d.canAnswer m ∧ d.class3Waits = false ∧ d.plan.library = [] ∧ d.plan.shadow = none ∧ leAt pl 0 1 = k ∧ leAt pl 1 1 = g ∧ k ∈ d.slotsInP ∧ g ∈ d.slotsInP ∧ d.slotsInP ≠ [k] ∧ d.mgmt.nonce = some (n, t) ∧ d.now < t + 60 * 10 ^ 9 ∧ ed448Verify (d.keyOfSlot g) (ascii "OSOUDRA-SEC") (shake256 64 (u64 d.board.serial ++ n ++ u8 2 ++ u8 k ++ zeros 57)) ((pl.drop 8).take 114) = true)
      (fun d d' => d'.fuses = { d.fuses with revoked := setBit d.fuses.revoked (k - 1) } ∧ d'.mgmt.nonce = none ∧ d.answered d' m 0x3004 0 [] ∧ d'.fld Reg.EVR_SEQ_NEXT Fd.EVR_SEQ_NEXT_SEQ = (d.fld Reg.EVR_SEQ_NEXT Fd.EVR_SEQ_NEXT_SEQ + 1) % 2 ^ 32)) ∧
  (∀ (m : MsgRef) (pl : List Byte), Completes (.ownerRevoke m pl)
      (fun d => d.runs ∧ d.turn m 0x3004 (fun b => b = pl) = true ∧ d.class3Waits = false ∧ leAt pl 0 1 ∈ d.slotsInP ∧ leAt pl 1 1 ∈ d.slotsInP ∧ d.slotsInP ≠ [leAt pl 0 1] ∧ d.mgmt.nonce = none)
      (fun d d' => d' = d.refuseMsg m 0x3004 0x1111)) ∧
  (∀ (m : MsgRef) (pl : List Byte), Completes (.ownerRevoke m pl)
      (fun d => d.runs ∧ d.turn m 0x3004 (fun b => b = pl) = true ∧ d.class3Waits = false ∧ 1 ≤ leAt pl 0 1 ∧ leAt pl 0 1 ≤ 4 ∧ 1 ≤ leAt pl 1 1 ∧ leAt pl 1 1 ≤ 4 ∧ (leAt pl 0 1 ∉ d.slotsInP ∨ leAt pl 1 1 ∉ d.slotsInP ∨ d.slotsInP = [leAt pl 0 1]))
      (fun d d' => d' = d.refuseMsg m 0x3004 0x1112)) ∧
  (∀ (m : MsgRef) (pl : List Byte) (g : Nat) (n : List Byte) (t : Nat), Completes (.debugUnlock m pl)
      (fun d => d.runs ∧ d.turn m 0x3005 (fun b => b = pl) = true ∧ d.canAnswer m ∧ d.class3Waits = false ∧ leAt pl 0 1 = 1 ∧ leAt pl 1 1 = g ∧ g ∈ d.slotsInP ∧ (∀ b ∈ (pl.drop 122).take 57, b = 0) ∧ d.debugLevel = 0 ∧ d.mgmt.nonce = some (n, t) ∧ d.now < t + 60 * 10 ^ 9)
      (fun d d' => let ok := ed448Verify (d.keyOfSlot g) (ascii "OSOUDRA-SEC") (shake256 64 (u64 d.board.serial ++ n ++ u8 3 ++ u8 1 ++ zeros 57)) ((pl.drop 8).take 114)
        d'.mgmt.nonce = none ∧ (ok = true → d'.debugLevel = 1 ∧ d.answered d' m 0x3005 0 [] ∧ d'.fld Reg.EVR_SEQ_NEXT Fd.EVR_SEQ_NEXT_SEQ = (d.fld Reg.EVR_SEQ_NEXT Fd.EVR_SEQ_NEXT_SEQ + 1) % 2 ^ 32) ∧
          (ok = false → d'.debugLevel = 0 ∧ d.answered d' m 0x3005 0x1110 []))) ∧
  (∀ (req : List Byte), Completes (.getVersion req)
      (fun d => d.runs ∧ d.class3Waits = false ∧ d.mgmt.spdm.length = 2 ∧ req.length ≤ 65536)
      (fun d d' => d'.out = d.out ++ [.doe (Config.dmtf 0x104 [0x12] [])] ∧ d'.regs = d.regs ∧ d'.mem = d.mem ∧ d'.conn 0 = { stage := 1, vca := req ++ Config.dmtf 0x104 [0x12] [], m1 := [], l1 := [] } ∧ d'.conn 1 = d.conn 1)) ∧
  (∀ (req : List Byte), Completes (.getCapabilities req)
      (fun d => d.runs ∧ d.class3Waits = false ∧ (d.conn 0).stage = 1 ∧ d.mgmt.spdm.length = 2 ∧ req.length ≤ 65536)
      (fun d d' => d'.out = d.out ++ [.doe (Config.dmtf 0x161 [0x16, 65536] [])] ∧ d'.regs = d.regs ∧ d'.mem = d.mem ∧ d'.conn 0 = { d.conn 0 with stage := 2, vca := (d.conn 0).vca ++ req ++ Config.dmtf 0x161 [0x16, 65536] [] })) ∧
  (∀ (req : List Byte), Completes (.negotiateAlgorithms req)
      (fun d => d.runs ∧ d.class3Waits = false ∧ (d.conn 0).stage = 2 ∧ d.mgmt.spdm.length = 2 ∧ req.length ≤ 65536)
      (fun d d' => d'.out = d.out ++ [.doe (Config.dmtf 0x163 [0x800, 0x20, 0x01] req)] ∧ d'.regs = d.regs ∧ d'.mem = d.mem ∧ d'.conn 0 = { d.conn 0 with stage := 3, vca := (d.conn 0).vca ++ req ++ Config.dmtf 0x163 [0x800, 0x20, 0x01] req })) ∧
  (∀ (req : List Byte), Completes (.getDigests req)
      (fun d => d.runs ∧ d.class3Waits = false ∧ (d.conn 0).stage = 3 ∧ d.debugLevel ≠ 2 ∧ d.mgmt.spdm.length = 2 ∧ req.length ≤ 65536)
      (fun d d' => let body := match d.slot0 with | some chain => Config.dmtf 0x101 [1] (sha3_512 chain) | none => Config.dmtf 0x101 [0] []
        d'.out = d.out ++ [.doe body] ∧ d'.regs = d.regs ∧ d'.mem = d.mem ∧ d'.conn 0 = { d.conn 0 with m1 := (d.conn 0).m1 ++ req ++ body })) ∧
  (∀ (req : List Byte), Completes (.getCertificate req)
      (fun d => d.runs ∧ d.class3Waits = false ∧ (d.conn 0).stage = 3 ∧ d.debugLevel ≠ 2 ∧ d.mgmt.spdm.length = 2 ∧ req.length ≤ 65536 ∧ leAt req 2 1 = 0)
      (fun d d' => let off := leAt req 4 2
        (∀ chain, d.slot0 = some chain → off < chain.length → d'.out = d.out ++ [.doe (Config.dmtf 0x102 [0, min (leAt req 6 2) (chain.length - off), chain.length - off - leAt req 6 2] ((chain.drop off).take (leAt req 6 2)))] ∧ d'.regs = d.regs ∧ d'.mem = d.mem) ∧ (d.slot0 = none → d'.out = d.out ++ [.doe (spdmError 1)] ∧ d'.regs = d.regs ∧ d'.mem = d.mem))) ∧
  (∀ (req : List Byte), Completes (.challenge req)
      (fun d => d.runs ∧ d.class3Waits = false ∧ (d.conn 0).stage = 3 ∧ d.debugLevel ≠ 2 ∧ d.mgmt.spdm.length = 2 ∧ req.length ≤ 65536 ∧ leAt req 2 1 = 0 ∧ leAt req 3 1 = 0)
      (fun d d' => (∀ chain, d.slot0 = some chain → ∃ nonce : List Byte, nonce.length = 32 ∧ (let body := Config.dmtf 0x103 [0] (sha3_512 chain ++ nonce)
            d'.out = d.out ++ [.doe (body ++ ed448Sign (shake256 57 (d.fuses.uds ++ ascii "OSOUDRA-DEVID-1")) [] (Config.dmtf 0x1A0 [3] (sha3_512 ((d.conn 0).vca ++ (d.conn 0).m1 ++ req ++ body))))] ∧ (d'.conn 0).m1 = [])) ∧
          (d.slot0 = none → d'.out = d.out ++ [.doe (spdmError 1)] ∧ d'.regs = d.regs ∧ d'.mem = d.mem))) ∧
  (∀ (req : List Byte), Completes (.getMeasurements req)
      (fun d => d.runs ∧ d.class3Waits = false ∧ (d.conn 0).stage = 3 ∧ d.debugLevel ≠ 2 ∧ d.mgmt.spdm.length = 2 ∧ req.length ≤ 65536 ∧ leAt req 2 1 = 0 ∧ 1 ≤ leAt req 3 1 ∧ leAt req 3 1 ≤ 7)
      (fun d d' => ∃ nonce : List Byte, nonce.length = 32 ∧ (let body := Config.dmtf 0x160 [leAt req 3 1, 1] ((let v := d.measurement (leAt req 3 1); u8 (leAt req 3 1) ++ u8 1 ++ u16 (3 + v.length) ++ u8 (0x80 + measType (leAt req 3 1)) ++ u16 v.length ++ v) ++ nonce)
            d'.out = d.out ++ [.doe body] ∧ d'.regs = d.regs ∧ d'.mem = d.mem ∧ (d'.conn 0).l1 = (d.conn 0).l1 ++ req ++ body))) ∧
  (∀ (m : MsgRef) (pl : List Byte), Completes (.spdmMessage m pl)
      (fun d => d.runs ∧ d.turn m 0x3001 (fun b => b = pl) = true ∧ d.canAnswer m ∧ d.class3Waits = false ∧ d.mgmt.spdm.length = 2 ∧ Memory.wf d.mem = true ∧ d.spdmBuffer (leAt pl 0 8) (leAt pl 8 4) = true ∧ d.spdmBuffer (leAt pl 16 8) (leAt pl 12 4) = true ∧ d.poisoned (leAt pl 0 8) (leAt pl 8 4) = false ∧ 2 ≤ leAt pl 8 4 ∧
          memRead d.mem (leAt pl 0 8 + 1) = 0x84)
      (fun d d' => let r := Config.dmtf 0x104 [0x12] []
        (r.length ≤ leAt pl 12 4 → d.stored d' (leAt pl 16 8) r ∧ d.answered d' m 0x3001 0 (u32 r.length) ∧ (d'.conn 1).stage = 1 ∧ d'.conn 0 = d.conn 0) ∧ (leAt pl 12 4 < r.length → d' = d.refuseMsg m 0x3001 0x1113))) ∧
  (∀ (m : MsgRef) (pl : List Byte), Completes (.spdmMessage m pl)
      (fun d => d.runs ∧ d.turn m 0x3001 (fun b => b = pl) = true ∧ d.class3Waits = false ∧ (leAt pl 0 8 % 256 ≠ 0 ∨ 65536 < leAt pl 8 4 ∨ leAt pl 16 8 % 256 ≠ 0 ∨ 65536 < leAt pl 12 4))
      (fun d d' => d' = d.refuseMsg m 0x3001 0x1113)) ∧
  (∀ d : Device, d.measurement 2 = ((d.fwImage d.running).drop 0x80).take 64) ∧
  (∀ d : Device, d.measurement 3 = u8 (d.fld Reg.FW_RUNNING Fd.FW_RUNNING_SVN) ++ u8 d.fuses.rollback) ∧
  (∀ d : Device, d.measurement 5 = shake256 64 d.flash.record)

/-- Power, PERST# and the straps start and end a cold reset; the Test Access Port obeys or turns into BYPASS. R504, R532, R534, R595, R616, R618, R624, R625, R626. -/
def Obligations.PowerPinsAndTap : Prop :=
  (∀ (boot : Fin 4) (smb : Fin 8) (x16 : Bool), Completes (.powerUp boot smb x16)
      (fun d => d.mgmt.powered = false ∧ d.mgmt.perst = false ∧ d.mgmt.staging = none)
      (fun d d' => d'.mgmt.powered = true ∧ d'.mgmt.started = (boot.val != 3) ∧ d'.mgmt.perst = false ∧ d'.board.strapBoot = boot.val ∧ d'.board.strapSmb = smb.val ∧ d'.board.strapPcie = bit x16 ∧ d'.mgmt.tap = .reset ∧
          d'.mem = [] ∧ d'.regs = [] ∧ d'.cells = [] ∧ d'.str = StreamUnit.reset ∧ d'.flash = d.flash ∧ d'.fuses = d.fuses ∧ (∀ j, d'.reg j = regReset j))) ∧
  (∀ (boot : Fin 4) (smb : Fin 8) (x16 : Bool), Completes (.powerUp boot smb x16)
      (fun d => d.mgmt.powered = false ∧ d.mgmt.perst = true)
      (fun _ d' => d'.mgmt.powered = true ∧ d'.mgmt.started = false ∧ d'.inReset = true ∧ d'.mem = [] ∧ d'.regs = [])) ∧
  (∀ (boot : Fin 4) (smb : Fin 8) (x16 : Bool), Completes (.perstDeassertion boot smb x16)
      (fun d => d.mgmt.powered = true ∧ d.mgmt.perst = true)
      (fun d d' => d' = { d with board := { d.board with strapBoot := boot.val, strapSmb := smb.val, strapPcie := bit x16 }, mgmt := { d.mgmt with perst := false, started := boot.val != 3, t0 := d.now, tap := if d.mgmt.tap.ir ∈ [0x00, 0x03, 0x04, 0x05, 0x06] then { d.mgmt.tap with ir := 0x02, refused := false } else d.mgmt.tap } })) ∧
  (Completes (.powerLoss)
      (fun d => d.mgmt.powered = true)
      (fun d d' => d'.mgmt.powered = false ∧ d'.inReset = true ∧ d'.mem = [] ∧ d'.regs = [] ∧ d'.cells = [] ∧ d'.fuses = d.fuses)) ∧
  (∀ (pins shift : List Bool), ∀ p ∈ ([(.extest pins shift, (0x00 : Nat)),
        (.extestPulse pins shift, (0x05 : Nat)),
        (.extestTrain pins shift, (0x06 : Nat)),
        (.highz shift, (0x03 : Nat)),
        (.clamp shift, (0x04 : Nat))] : List (Instr × Nat)),
      Completes p.1
      (fun d => d.mgmt.powered = true ∧ d.pinsFree = false)
      (fun d d' => d'.out = d.out ++ [.tdo (scanBits 8 (if d.mgmt.tap.refused then 0x05 else 0x01)), .tdo ((false :: shift).take shift.length)] ∧ d'.mgmt.tap.ir = p.2 ∧ d'.mgmt.tap.refused = true ∧ d' = { d with mgmt := { d.mgmt with tap := d'.mgmt.tap }, out := d'.out } ∧ d'.mgmt.tap.boundary = d.mgmt.tap.boundary)) ∧
  (∀ (pins shift : List Bool), ∀ p ∈ ([(.extest pins shift, (0x00 : Nat)),
        (.extestPulse pins shift, (0x05 : Nat)),
        (.extestTrain pins shift, (0x06 : Nat))] : List (Instr × Nat)),
      Completes p.1
      (fun d => d.mgmt.powered = true ∧ d.pinsFree = true)
      (fun d d' => d'.out = d.out ++ [.tdo (scanBits 8 (if d.mgmt.tap.refused then 0x05 else 0x01)), (.pins (drivenLevels boundaryCells (List.replicate (boundaryCells.length - (d.mgmt.tap.boundary).length) false ++ (d.mgmt.tap.boundary).reverse))), .tdo (((pins.take boundaryCells.length ++ List.replicate (boundaryCells.length - pins.length) false) ++ shift).take shift.length), (.pins (drivenLevels boundaryCells (List.replicate (boundaryCells.length - ((((pins.take boundaryCells.length ++ List.replicate (boundaryCells.length - pins.length) false) ++ shift).drop shift.length)).length) false ++ ((((pins.take boundaryCells.length ++ List.replicate (boundaryCells.length - pins.length) false) ++ shift).drop shift.length)).reverse)))] ∧ d'.mgmt.tap.boundary = (((pins.take boundaryCells.length ++ List.replicate (boundaryCells.length - pins.length) false) ++ shift).drop shift.length) ∧ d'.mgmt.tap.ir = p.2 ∧ d'.mgmt.tap.refused = false ∧ d' = { d with mgmt := { d.mgmt with tap := d'.mgmt.tap }, out := d'.out })) ∧
  (∀ (shift : List Bool), Completes (.highz shift)
      (fun d => d.mgmt.powered = true ∧ d.pinsFree = true)
      (fun d d' => d'.out = d.out ++ [.tdo (scanBits 8 (if d.mgmt.tap.refused then 0x05 else 0x01)), (.pins (List.replicate (boundaryCells.filter (· = .data)).length none)), .tdo ((false :: shift).take shift.length)] ∧ d'.mgmt.tap.boundary = d.mgmt.tap.boundary ∧ d'.mgmt.tap.ir = 0x03 ∧ d'.mgmt.tap.refused = false ∧ d' = { d with mgmt := { d.mgmt with tap := d'.mgmt.tap }, out := d'.out })) ∧
  (∀ (shift : List Bool), Completes (.clamp shift)
      (fun d => d.mgmt.powered = true ∧ d.pinsFree = true)
      (fun d d' => d'.out = d.out ++ [.tdo (scanBits 8 (if d.mgmt.tap.refused then 0x05 else 0x01)), (.pins (drivenLevels boundaryCells (List.replicate (boundaryCells.length - (d.mgmt.tap.boundary).length) false ++ (d.mgmt.tap.boundary).reverse))), .tdo ((false :: shift).take shift.length)] ∧ d'.mgmt.tap.boundary = d.mgmt.tap.boundary ∧ d'.mgmt.tap.ir = 0x04 ∧ d'.mgmt.tap.refused = false ∧ d' = { d with mgmt := { d.mgmt with tap := d'.mgmt.tap }, out := d'.out })) ∧
  (∀ (pins shift : List Bool), Completes (.samplePreload pins shift)
      (fun d => d.mgmt.powered = true)
      (fun d d' => d'.out = d.out ++ [.tdo (scanBits 8 (if d.mgmt.tap.refused then 0x05 else 0x01)), .tdo (((pins.take boundaryCells.length ++ List.replicate (boundaryCells.length - pins.length) false) ++ shift).take shift.length)] ∧ d'.mgmt.tap.boundary = (((pins.take boundaryCells.length ++ List.replicate (boundaryCells.length - pins.length) false) ++ shift).drop shift.length) ∧ d'.mgmt.tap.ir = 0x01 ∧ d'.mgmt.tap.refused = false ∧ d' = { d with mgmt := { d.mgmt with tap := d'.mgmt.tap }, out := d'.out })) ∧
  (∀ (shift : List Bool), Completes (.idcode shift)
      (fun d => d.mgmt.powered = true)
      (fun d d' => d'.out = d.out ++ [.tdo (scanBits 8 (if d.mgmt.tap.refused then 0x05 else 0x01)), .tdo ((scanBits 32 0x341607A7 ++ shift).take shift.length)] ∧ d'.mgmt.tap.ir = 0x02 ∧ d'.mgmt.tap.boundary = d.mgmt.tap.boundary ∧ d' = { d with mgmt := { d.mgmt with tap := d'.mgmt.tap }, out := d'.out })) ∧
  (∀ (shift : List Bool), Completes (.bypass shift)
      (fun d => d.mgmt.powered = true)
      (fun d d' => d'.out = d.out ++ [.tdo (scanBits 8 (if d.mgmt.tap.refused then 0x05 else 0x01)), .tdo ((false :: shift).take shift.length)] ∧ d'.mgmt.tap.ir = 0xFF ∧ d'.mgmt.tap.refused = false ∧ d' = { d with mgmt := { d.mgmt with tap := d'.mgmt.tap }, out := d'.out })) ∧
  (Completes (.testLogicReset)
      (fun d => d.mgmt.powered = true)
      (fun d d' => d' = { d with mgmt := { d.mgmt with tap := { d.mgmt.tap with ir := 0x02, refused := false } } })) ∧
  (∀ (code : Byte) (act : TapAction) (shift : List Bool), 0x10 ≤ code.toNat ∧ code.toNat ≤ 0xFE → Completes (.privateTapInstruction code act shift)
      (fun d => d.mgmt.powered = true ∧ ((d.fld Reg.SEC_STATUS Fd.SEC_STATUS_DEBUG = 0) ∨ 0x80 ≤ code.toNat ∧ d.fld Reg.SEC_STATUS Fd.SEC_STATUS_DEBUG = 1))
      (fun d d' => d'.out = d.out ++ [.tdo (scanBits 8 (if d.mgmt.tap.refused then 0x05 else 0x01)), .tdo ((false :: shift).take shift.length)] ∧ d'.mgmt.tap.ir = code.toNat ∧ d'.mgmt.tap.steps = d.mgmt.tap.steps ∧ d'.mgmt.tap.stations = d.mgmt.tap.stations ∧ d'.cells = d.cells ∧ d' = { d with mgmt := { d.mgmt with tap := d'.mgmt.tap }, out := d'.out })) ∧
  (∀ (code : Byte) (p : FaultPlace) (lvl : Nat) (shift : List Bool), 0x10 ≤ code.toNat ∧ (code.toNat ≤ 0x7F ∧ 1 ≤ lvl ∨ code.toNat ≤ 0xFE ∧ lvl = 2) → Completes (.privateTapInstruction code (.halt p) shift)
      (fun d => d.mgmt.powered = true ∧ d.fld Reg.SEC_STATUS Fd.SEC_STATUS_DEBUG = lvl)
      (fun d d' => d'.mem = d.mem ∧ d'.regs = d.regs ∧ d'.mgmt.tap.ir = code.toNat ∧ ∀ g, ((placeLoc 4 p).hasCell g = true → (d.cell g).state = .running → (d'.cell g) = { d.cell g with state := .tapHalted }) ∧ ((placeLoc 4 p).hasCell g = false ∨ (d.cell g).state ≠ .running → d'.cell g = d.cell g))) ∧
  (∀ (code : Byte) (k : Fin 4) (kind : Fin 8) (x : Fin 64) (lvl : Nat) (shift : List Bool), 0x10 ≤ code.toNat ∧ (code.toNat ≤ 0x7F ∧ 1 ≤ lvl ∨ code.toNat ≤ 0xFE ∧ lvl = 2) → Completes (.privateTapInstruction code (.halt (.station k kind x)) shift)
      (fun d => d.mgmt.powered = true ∧ d.fld Reg.SEC_STATUS Fd.SEC_STATUS_DEBUG = lvl ∧ d.mgmt.tap.stationSteps = [])
      (fun d d' => d'.tapStopped k.val kind.val x.val = true ∧ d'.stationStopped k.val kind.val x.val = true ∧ d'.cells = d.cells ∧ d'.stn = d.stn ∧ d'.mem = d.mem ∧ d'.regs = d.regs)) ∧
  (∀ (index : Nat), Completes (.doeDiscovery index)
      (fun d => d.runs)
      (fun d d' => d' = { d with out := d.out ++ [.doe (u16 1 ++ u8 0 ++ u8 0 ++ u32 3 ++ (if index = 0 then u16 1 ++ u8 0 ++ u8 1 else if index = 1 then u16 1 ++ u8 1 ++ u8 0 else u16 0xFFFF ++ u8 0xFF ++ u8 0))] })) ∧
  (∀ (group : Nat), Completes (.pageRequestResponse group)
      (fun d => d.runs)
      (fun d d' => d' = { d with memu := { d.memu with pageReqs := d.memu.pageReqs.filter (· != group) } }))
end

