-- ==== Sys2Proof/Laws/Map.lean ====
section
/-!
SUPPORT. Laws of sparse maps: what a lookup finds after a store or a removal, and that both keep the keys rising.
-/

namespace Sys2Proof.Machine

variable {β : Type}

@[simp] theorem Map.get?_nil (k : Nat) : Map.get? ([] : Map β) k = none := rfl

theorem Map.get?_cons (j : Nat) (v : β) (m : Map β) (k : Nat) :
    Map.get? ((j, v) :: m) k = if j = k then some v else Map.get? m k := rfl

/-- A key below every key of a map is not in it. -/
theorem Map.get?_eq_none_of_lt {m : Map β} {k : Nat} (h : ∀ e ∈ m, k < e.1) : Map.get? m k = none := by
  induction m with
  | nil => rfl
  | cons e r ih =>
    obtain ⟨j, v⟩ := e
    have hj : k < j := h (j, v) (List.mem_cons_self ..)
    rw [Map.get?_cons, if_neg (by omega)]
    exact ih (fun e he => h e (List.mem_cons_of_mem _ he))

theorem Map.get?_put (m : Map β) (k : Nat) (v : β) (j : Nat) :
    Map.get? (Map.put m k v) j = if j = k then some v else Map.get? m j := by
  have hkj : (k = j) = (j = k) := propext eq_comm
  induction m with
  | nil => simp only [Map.put, Map.get?_cons, Map.get?_nil, hkj]
  | cons e r ih =>
    obtain ⟨i, w⟩ := e
    unfold Map.put
    split
    · simp only [Map.get?_cons, hkj]
    · split
      · subst_vars
        simp only [Map.get?_cons, hkj]
        split <;> rfl
      · rw [Map.get?_cons, ih, Map.get?_cons]
        split
        · rw [if_neg (by omega)]
        · rfl

@[simp] theorem Map.get?_put_self (m : Map β) (k : Nat) (v : β) : Map.get? (Map.put m k v) k = some v := by
  simp [Map.get?_put]

theorem Map.get?_put_of_ne (m : Map β) {j k : Nat} (v : β) (h : j ≠ k) : Map.get? (Map.put m k v) j = Map.get? m j := by
  simp [Map.get?_put, h]

/-- The keys of a map rise, as a statement about its entries. -/
theorem Map.rising_cons (j : Nat) (v : β) (m : Map β) :
    Map.rising ((j, v) :: m) = true ↔ (∀ e ∈ m, j < e.1) ∧ Map.rising m = true := by
  simp [Map.rising]

theorem Map.mem_put {m : Map β} {k : Nat} {v : β} {e : Nat × β} (h : e ∈ Map.put m k v) : e = (k, v) ∨ e ∈ m := by
  induction m with
  | nil => simpa [Map.put] using h
  | cons f r ih =>
    obtain ⟨i, w⟩ := f
    unfold Map.put at h
    split at h
    · rcases List.mem_cons.1 h with h | h
      · exact .inl h
      · exact .inr h
    · split at h
      · rcases List.mem_cons.1 h with h | h
        · exact .inl h
        · exact .inr (List.mem_cons_of_mem _ h)
      · rcases List.mem_cons.1 h with h | h
        · exact .inr (h ▸ List.mem_cons_self ..)
        · rcases ih h with h | h
          · exact .inl h
          · exact .inr (List.mem_cons_of_mem _ h)

theorem Map.mem_del {m : Map β} {k : Nat} {e : Nat × β} (h : e ∈ Map.del m k) : e ∈ m := by
  induction m with
  | nil => exact h
  | cons f r ih =>
    obtain ⟨i, w⟩ := f
    unfold Map.del at h
    split at h
    · exact List.mem_cons_of_mem _ h
    · rcases List.mem_cons.1 h with h | h
      · exact h ▸ List.mem_cons_self ..
      · exact List.mem_cons_of_mem _ (ih h)

theorem Map.rising_put {m : Map β} (k : Nat) (v : β) (h : Map.rising m = true) : Map.rising (Map.put m k v) = true := by
  induction m with
  | nil => simp [Map.put, Map.rising]
  | cons f r ih =>
    obtain ⟨i, w⟩ := f
    have ⟨h1, h2⟩ := (Map.rising_cons i w r).1 h
    unfold Map.put
    split
    · refine (Map.rising_cons ..).2 ⟨fun e he => ?_, h⟩
      rcases List.mem_cons.1 he with rfl | he
      · assumption
      · exact Nat.lt_trans ‹k < i› (h1 e he)
    · split
      · subst_vars
        exact (Map.rising_cons ..).2 ⟨h1, h2⟩
      · refine (Map.rising_cons ..).2 ⟨fun e he => ?_, ih h2⟩
        rcases Map.mem_put he with rfl | he
        · simp only; omega
        · exact h1 e he

theorem Map.rising_del {m : Map β} (k : Nat) (h : Map.rising m = true) : Map.rising (Map.del m k) = true := by
  induction m with
  | nil => simp [Map.del, Map.rising]
  | cons f r ih =>
    obtain ⟨i, w⟩ := f
    have ⟨h1, h2⟩ := (Map.rising_cons i w r).1 h
    unfold Map.del
    split
    · exact h2
    · exact (Map.rising_cons ..).2 ⟨fun e he => h1 e (Map.mem_del he), ih h2⟩

theorem Map.rising_filter {m : Map β} (p : Nat × β → Bool) (h : Map.rising m = true) : Map.rising (m.filter p) = true := by
  induction m with
  | nil => rfl
  | cons f r ih =>
    obtain ⟨i, w⟩ := f
    have ⟨h1, h2⟩ := (Map.rising_cons i w r).1 h
    rw [List.filter_cons]
    split
    · exact (Map.rising_cons ..).2 ⟨fun e he => h1 e (List.mem_of_mem_filter he), ih h2⟩
    · exact ih h2

theorem Map.get?_del {m : Map β} (k j : Nat) (h : Map.rising m = true) :
    Map.get? (Map.del m k) j = if j = k then none else Map.get? m j := by
  induction m with
  | nil => simp [Map.del]
  | cons f r ih =>
    obtain ⟨i, w⟩ := f
    have ⟨h1, h2⟩ := (Map.rising_cons i w r).1 h
    unfold Map.del
    by_cases hik : i = k
    · rw [if_pos hik]; subst hik
      by_cases hj : j = i
      · rw [if_pos hj, hj]; exact Map.get?_eq_none_of_lt h1
      · rw [if_neg hj, Map.get?_cons, if_neg (Ne.symm hj)]
    · rw [if_neg hik, Map.get?_cons, ih h2, Map.get?_cons]
      by_cases hj : j = k
      · rw [if_pos hj, if_neg (by omega), if_pos hj]
      · rw [if_neg hj, if_neg hj]

theorem Map.setC_eq [DecidableEq β] (m : Map β) (dflt : β) (k : Nat) (v : β) :
    Map.setC m dflt k v = if v = dflt then Map.del m k else Map.put m k v := by
  cases m <;> rfl

theorem Map.get?_del_of_ne (m : Map β) {j k : Nat} (h : j ≠ k) : Map.get? (Map.del m k) j = Map.get? m j := by
  induction m with
  | nil => rfl
  | cons f r ih =>
    obtain ⟨i, w⟩ := f
    unfold Map.del
    split
    · rw [Map.get?_cons, if_neg (by omega)]
    · rw [Map.get?_cons, ih, Map.get?_cons]

theorem Map.get?_setC_of_ne [DecidableEq β] (m : Map β) (dflt : β) {j k : Nat} (v : β) (h : j ≠ k) :
    Map.get? (Map.setC m dflt k v) j = Map.get? m j := by
  rw [Map.setC_eq]
  split
  · exact Map.get?_del_of_ne m h
  · exact Map.get?_put_of_ne m v h

/-- A lookup with a default after a canonical store. -/
theorem Map.getD_setC [DecidableEq β] {m : Map β} (dflt : β) (k : Nat) (v : β) (j : Nat) (h : Map.rising m = true) :
    Map.getD (Map.setC m dflt k v) j dflt = if j = k then v else Map.getD m j dflt := by
  rw [Map.setC_eq]
  unfold Map.getD
  split
  · rw [Map.get?_del k j h]
    by_cases hj : j = k <;> simp [*]
  · rw [Map.get?_put]
    by_cases hj : j = k <;> simp [hj]

theorem Map.rising_setC [DecidableEq β] {m : Map β} (dflt : β) (k : Nat) (v : β) (h : Map.rising m = true) :
    Map.rising (Map.setC m dflt k v) = true := by
  rw [Map.setC_eq]
  split
  · exact Map.rising_del k h
  · exact Map.rising_put k v h

/-- A canonical store lists no entry equal to the default where none was. -/
theorem Map.setC_ne_default [DecidableEq β] {m : Map β} (dflt : β) (k : Nat) (v : β) (h : ∀ e ∈ m, e.2 ≠ dflt) :
    ∀ e ∈ Map.setC m dflt k v, e.2 ≠ dflt := by
  intro e he
  rw [Map.setC_eq] at he
  split at he
  · exact h e (Map.mem_del he)
  · rcases Map.mem_put he with rfl | he
    · assumption
    · exact h e he

end Sys2Proof.Machine
end

