-- ==== Sys2Proof/Laws/Fields.lean ====
section
/-!
SUPPORT. Laws of bit fields and of the register file: what a register and a field read after a write, and that a write keeps the file in
its canonical form.
-/

namespace Sys2Proof.Machine

/-! ### Bit fields -/

theorem split3 (x lo w : Nat) : x = x / 2 ^ (lo + w) * 2 ^ (lo + w) + bitsOf x lo w * 2 ^ lo + x % 2 ^ lo := by
  unfold bitsOf
  have h1 := Nat.div_add_mod x (2 ^ lo)
  have h2 := Nat.div_add_mod (x / 2 ^ lo) (2 ^ w)
  have h3 : x / 2 ^ lo / 2 ^ w = x / 2 ^ (lo + w) := by rw [Nat.div_div_eq_div_mul, ← pow_add]
  rw [h3] at h2
  calc x = 2 ^ lo * (x / 2 ^ lo) + x % 2 ^ lo := h1.symm
    _ = 2 ^ lo * (2 ^ w * (x / 2 ^ (lo + w)) + x / 2 ^ lo % 2 ^ w) + x % 2 ^ lo := by rw [h2]
    _ = _ := by rw [pow_add]; ring

theorem withBits_eq (x lo w v : Nat) :
    withBits x lo w v = x / 2 ^ (lo + w) * 2 ^ (lo + w) + v % 2 ^ w * 2 ^ lo + x % 2 ^ lo := by
  have h := split3 x lo w
  unfold withBits
  omega

theorem withBits_lt {x lo w v n : Nat} (hx : x < 2 ^ n) (hn : lo + w ≤ n) : withBits x lo w v < 2 ^ n := by
  rw [withBits_eq]
  have h1 : x / 2 ^ (lo + w) < 2 ^ (n - (lo + w)) := by
    apply Nat.div_lt_of_lt_mul
    rwa [← pow_add, Nat.add_sub_cancel' hn]
  have h2 : v % 2 ^ w < 2 ^ w := Nat.mod_lt _ (Nat.two_pow_pos w)
  have h3 : x % 2 ^ lo < 2 ^ lo := Nat.mod_lt _ (Nat.two_pow_pos lo)
  have h4 : v % 2 ^ w * 2 ^ lo + x % 2 ^ lo < 2 ^ (lo + w) := by
    have : (v % 2 ^ w + 1) * 2 ^ lo ≤ 2 ^ w * 2 ^ lo := Nat.mul_le_mul_right _ h2
    rw [← pow_add, Nat.add_comm w lo] at this
    linarith [this, Nat.add_mul (v % 2 ^ w) 1 (2 ^ lo)]
  have h5 : (x / 2 ^ (lo + w) + 1) * 2 ^ (lo + w) ≤ 2 ^ (n - (lo + w)) * 2 ^ (lo + w) := Nat.mul_le_mul_right _ h1
  rw [← pow_add, Nat.sub_add_cancel hn] at h5
  linarith [Nat.add_mul (x / 2 ^ (lo + w)) 1 (2 ^ (lo + w))]

/-- Bits above position `lo` of a number put together from two parts. -/
theorem mul_add_div_pow {a b lo : Nat} (hb : b < 2 ^ lo) : (a * 2 ^ lo + b) / 2 ^ lo = a := by
  rw [Nat.mul_comm, Nat.mul_add_div (Nat.two_pow_pos lo), Nat.div_eq_of_lt hb, Nat.add_zero]

theorem withBits_div (x lo w v : Nat) : withBits x lo w v / 2 ^ lo = x / 2 ^ (lo + w) * 2 ^ w + v % 2 ^ w := by
  rw [withBits_eq, pow_add, ← Nat.mul_assoc, Nat.mul_right_comm, ← Nat.add_mul]
  exact mul_add_div_pow (Nat.mod_lt _ (Nat.two_pow_pos lo))

@[simp] theorem bitsOf_withBits_self (x lo w v : Nat) : bitsOf (withBits x lo w v) lo w = v % 2 ^ w := by
  unfold bitsOf
  rw [withBits_div, Nat.mul_comm, Nat.mul_add_mod, Nat.mod_mod]

theorem withBits_mod (x lo w v : Nat) : withBits x lo w v % 2 ^ lo = x % 2 ^ lo := by
  rw [withBits_eq, pow_add, show x / (2 ^ lo * 2 ^ w) * (2 ^ lo * 2 ^ w) + v % 2 ^ w * 2 ^ lo + x % 2 ^ lo
    = 2 ^ lo * (x / (2 ^ lo * 2 ^ w) * 2 ^ w + v % 2 ^ w) + x % 2 ^ lo by ring, Nat.mul_add_mod, Nat.mod_mod]

theorem withBits_high (x lo w v : Nat) : withBits x lo w v / 2 ^ (lo + w) = x / 2 ^ (lo + w) := by
  rw [pow_add, ← Nat.div_div_eq_div_mul, withBits_div, mul_add_div_pow (Nat.mod_lt _ (Nat.two_pow_pos w)), pow_add]

/-- A field below another is not changed by a write of that other. -/
theorem bitsOf_withBits_below {x lo w v lo' w' : Nat} (h : lo' + w' ≤ lo) : bitsOf (withBits x lo w v) lo' w' = bitsOf x lo' w' := by
  unfold bitsOf
  have hm : ∀ y, y / 2 ^ lo' % 2 ^ w' = y % 2 ^ lo / 2 ^ lo' % 2 ^ w' := fun y => by
    rw [← Nat.mod_mul_right_div_self, ← Nat.mod_mul_right_div_self, ← pow_add,
      Nat.mod_mod_of_dvd _ (pow_dvd_pow 2 h)]
  rw [hm, withBits_mod, ← hm]

/-- A field above another is not changed by a write of that other. -/
theorem bitsOf_withBits_above {x lo w v lo' w' : Nat} (h : lo + w ≤ lo') : bitsOf (withBits x lo w v) lo' w' = bitsOf x lo' w' := by
  unfold bitsOf
  have hd : ∀ y, y / 2 ^ lo' = y / 2 ^ (lo + w) / 2 ^ (lo' - (lo + w)) := fun y => by
    rw [Nat.div_div_eq_div_mul, ← pow_add, Nat.add_sub_cancel' h]
  rw [hd, withBits_high, ← hd]

theorem bitsOf_lt (x lo w : Nat) : bitsOf x lo w < 2 ^ w := Nat.mod_lt _ (Nat.two_pow_pos w)

/-! ### The register file -/

theorem State.reset_regsWf : State.reset.dev.regsWf := ⟨rfl, fun _ h => by cases h⟩

theorem Device.setReg_regsWf {d : Device} (off : Nat) (v : DWord) (h : d.regsWf) : (d.setReg off v).regsWf := by
  refine ⟨Map.rising_setC _ _ _ h.1, fun e he => ?_⟩
  change e ∈ Map.setC d.regs (regReset off) off v at he
  rw [Map.setC_eq] at he
  split at he
  · exact h.2 e (Map.mem_del he)
  · rcases Map.mem_put he with rfl | he
    · assumption
    · exact h.2 e he

theorem Device.setFld_regsWf {d : Device} (off : Nat) (f : Fld) (v : Nat) (h : d.regsWf) : (d.setFld off f v).regsWf :=
  Device.setReg_regsWf _ _ h

theorem Device.bumpBy_regsWf {d : Device} (off : Nat) (f : Fld) (n : Nat) (h : d.regsWf) : (d.bumpBy off f n).regsWf :=
  Device.setReg_regsWf _ _ h

/-- A register after a write of a register. -/
theorem Device.reg_setReg {d : Device} (off : Nat) (v : DWord) (j : Nat) (h : d.regsWf) :
    (d.setReg off v).reg j = if j = off then v else d.reg j := by
  show (Map.get? (Map.setC d.regs (regReset off) off v) j).getD (regReset j) = _
  by_cases hj : j = off
  · subst hj
    rw [if_pos rfl]
    have := Map.getD_setC (regReset j) j v j h.1
    rwa [if_pos rfl] at this
  · rw [if_neg hj]
    rw [Map.setC_eq]
    split
    · rw [Map.get?_del _ _ h.1, if_neg hj]; rfl
    · rw [Map.get?_put, if_neg hj]; rfl

@[simp] theorem Device.reg_setReg_self {d : Device} (off : Nat) (v : DWord) (h : d.regsWf) : (d.setReg off v).reg off = v := by
  rw [Device.reg_setReg _ _ _ h, if_pos rfl]

/-- A register other than the one written; no premise on the file. -/
theorem Device.reg_setReg_of_ne {d : Device} {off j : Nat} (v : DWord) (hj : j ≠ off) : (d.setReg off v).reg j = d.reg j := by
  show (Map.get? (Map.setC d.regs (regReset off) off v) j).getD (regReset j) = _
  rw [Map.get?_setC_of_ne _ _ _ hj]; rfl

/-- A field of the 64 bits of a register after a write of that field. -/
theorem Device.fld_setFld_self {d : Device} (off : Nat) (f : Fld) (v : Nat) (h : d.regsWf) (hf : f.lo + f.w ≤ 64) :
    (d.setFld off f v).fld off f = v % 2 ^ f.w := by
  unfold Device.fld Device.setFld
  rw [Device.reg_setReg_self _ _ h, BitVec.toNat_ofNat, Nat.mod_eq_of_lt (withBits_lt (d.reg off).isLt hf)]
  exact bitsOf_withBits_self ..

/-- Another field of the same register, apart from the one written. -/
theorem Device.fld_setFld_apart {d : Device} (off : Nat) (f g : Fld) (v : Nat) (h : d.regsWf) (hf : f.lo + f.w ≤ 64)
    (hg : g.lo + g.w ≤ f.lo ∨ f.lo + f.w ≤ g.lo) : (d.setFld off f v).fld off g = d.fld off g := by
  unfold Device.fld Device.setFld
  rw [Device.reg_setReg_self _ _ h, BitVec.toNat_ofNat, Nat.mod_eq_of_lt (withBits_lt (d.reg off).isLt hf)]
  rcases hg with hg | hg
  · exact bitsOf_withBits_below hg
  · exact bitsOf_withBits_above hg

theorem Device.fld_setFld_of_ne {d : Device} {off j : Nat} (f g : Fld) (v : Nat) (hj : j ≠ off) :
    (d.setFld off f v).fld j g = d.fld j g := by
  unfold Device.fld Device.setFld
  rw [Device.reg_setReg_of_ne _ hj]

theorem Device.reg_setFld_of_ne {d : Device} {off j : Nat} (f : Fld) (v : Nat) (hj : j ≠ off) :
    (d.setFld off f v).reg j = d.reg j := Device.reg_setReg_of_ne _ hj

end Sys2Proof.Machine
end

