-- ==== Sys2Proof/Laws/Memory.lean ====
section
/-!
SUPPORT. Laws of device memory: every operation keeps the canonical form, a read after a write, a write leaves other addresses alone.
-/

namespace Sys2Proof.Machine

theorem Memory.wf_iff (m : List Host.Cell) : Memory.wf m = true ↔ Map.rising m = true ∧ ∀ e ∈ m, e.2 ≠ memDefault := by
  simp [Memory.wf]

theorem Memory.wf_nil : Memory.wf [] = true := rfl

theorem memWrite_wf {m : List Host.Cell} (a : Nat) (b : Byte) (h : Memory.wf m = true) : Memory.wf (memWrite m a b) = true := by
  rw [Memory.wf_iff] at h ⊢
  exact ⟨Map.rising_setC _ _ _ h.1, Map.setC_ne_default _ _ _ h.2⟩

theorem memWriteN_wf {m : List Host.Cell} (a : Nat) (bs : List Byte) (h : Memory.wf m = true) : Memory.wf (memWriteN m a bs) = true := by
  induction bs generalizing m a with
  | nil => exact h
  | cons b r ih => exact ih (a + 1) (memWrite_wf a b h)

/-- The one operation that writes device memory keeps its canonical form. -/
theorem Device.write_wf {d : Device} (a : Nat) (bs : List Byte) (h : Memory.wf d.mem = true) : Memory.wf (d.write a bs).mem = true :=
  memWriteN_wf a bs h

theorem State.reset_mem_wf : Memory.wf State.reset.dev.mem = true := rfl

theorem memRead_memWrite {m : List Host.Cell} (a : Nat) (b : Byte) (x : Nat) (h : Memory.wf m = true) :
    memRead (memWrite m a b) x = if x = a then b else memRead m x := by
  rw [Memory.wf_iff] at h
  exact Map.getD_setC memDefault a b x h.1

/-- A write of bytes is read back, and every byte outside it is as before. -/
theorem memRead_memWriteN {m : List Host.Cell} (a : Nat) (bs : List Byte) (x : Nat) (h : Memory.wf m = true) :
    memRead (memWriteN m a bs) x = if a ≤ x ∧ x < a + bs.length then bs.getD (x - a) 0 else memRead m x := by
  induction bs generalizing m a with
  | nil => simp [memWriteN]
  | cons b r ih =>
    rw [memWriteN, ih (a + 1) (memWrite_wf a b h), memRead_memWrite a b x h]
    by_cases hx : x = a
    · subst hx; simp
    · by_cases hr : a + 1 ≤ x ∧ x < a + 1 + r.length
      · have : x - a = (x - (a + 1)) + 1 := by omega
        rw [if_pos hr, if_pos (by simp only [List.length_cons]; omega), this]
        simp
      · rw [if_neg hr, if_neg hx, if_neg (by simp only [List.length_cons]; omega)]

/-- Bytes outside those written read as before. -/
theorem Device.write_other {d : Device} (a : Nat) (bs : List Byte) (x : Nat) (h : Memory.wf d.mem = true)
    (hx : x < a ∨ a + bs.length ≤ x) : memRead (d.write a bs).mem x = memRead d.mem x := by
  show memRead (memWriteN d.mem a bs) x = _
  rw [memRead_memWriteN a bs x h, if_neg (by omega)]

end Sys2Proof.Machine
end

