-- ==== Sys2Proof/Laws/State.lean ====
section
/-!
SUPPORT. One lemma per field of the device per named update: an update of one part leaves the others as they are.
-/

namespace Sys2Proof.Machine

@[simp] theorem Device.updTime_now (d : Device) (f : TimeUnit → TimeUnit) : (d.updTime f).now = d.now := (rfl)
@[simp] theorem Device.updTime_regs (d : Device) (f : TimeUnit → TimeUnit) : (d.updTime f).regs = d.regs := (rfl)
@[simp] theorem Device.updTime_mem (d : Device) (f : TimeUnit → TimeUnit) : (d.updTime f).mem = d.mem := (rfl)
@[simp] theorem Device.updTime_poison (d : Device) (f : TimeUnit → TimeUnit) : (d.updTime f).poison = d.poison := (rfl)
@[simp] theorem Device.updTime_board (d : Device) (f : TimeUnit → TimeUnit) : (d.updTime f).board = d.board := (rfl)
@[simp] theorem Device.updTime_host (d : Device) (f : TimeUnit → TimeUnit) : (d.updTime f).host = d.host := (rfl)
@[simp] theorem Device.updTime_fault (d : Device) (f : TimeUnit → TimeUnit) : (d.updTime f).fault = d.fault := (rfl)
@[simp] theorem Device.updTime_plan (d : Device) (f : TimeUnit → TimeUnit) : (d.updTime f).plan = d.plan := (rfl)
@[simp] theorem Device.updTime_link (d : Device) (f : TimeUnit → TimeUnit) : (d.updTime f).link = d.link := (rfl)
@[simp] theorem Device.updTime_memu (d : Device) (f : TimeUnit → TimeUnit) : (d.updTime f).memu = d.memu := (rfl)
@[simp] theorem Device.updTime_mgmt (d : Device) (f : TimeUnit → TimeUnit) : (d.updTime f).mgmt = d.mgmt := (rfl)
@[simp] theorem Device.updTime_flash (d : Device) (f : TimeUnit → TimeUnit) : (d.updTime f).flash = d.flash := (rfl)
@[simp] theorem Device.updTime_fuses (d : Device) (f : TimeUnit → TimeUnit) : (d.updTime f).fuses = d.fuses := (rfl)
@[simp] theorem Device.updTime_stn (d : Device) (f : TimeUnit → TimeUnit) : (d.updTime f).stn = d.stn := (rfl)
@[simp] theorem Device.updTime_pack (d : Device) (f : TimeUnit → TimeUnit) : (d.updTime f).pack = d.pack := (rfl)
@[simp] theorem Device.updTime_matchE (d : Device) (f : TimeUnit → TimeUnit) : (d.updTime f).matchE = d.matchE := (rfl)
@[simp] theorem Device.updTime_matchI (d : Device) (f : TimeUnit → TimeUnit) : (d.updTime f).matchI = d.matchI := (rfl)
@[simp] theorem Device.updTime_sel (d : Device) (f : TimeUnit → TimeUnit) : (d.updTime f).sel = d.sel := (rfl)
@[simp] theorem Device.updTime_emb (d : Device) (f : TimeUnit → TimeUnit) : (d.updTime f).emb = d.emb := (rfl)
@[simp] theorem Device.updTime_arr (d : Device) (f : TimeUnit → TimeUnit) : (d.updTime f).arr = d.arr := (rfl)
@[simp] theorem Device.updTime_str (d : Device) (f : TimeUnit → TimeUnit) : (d.updTime f).str = d.str := (rfl)
@[simp] theorem Device.updTime_sched (d : Device) (f : TimeUnit → TimeUnit) : (d.updTime f).sched = d.sched := (rfl)
@[simp] theorem Device.updTime_cells (d : Device) (f : TimeUnit → TimeUnit) : (d.updTime f).cells = d.cells := (rfl)
@[simp] theorem Device.updTime_out (d : Device) (f : TimeUnit → TimeUnit) : (d.updTime f).out = d.out := (rfl)
@[simp] theorem Device.updTime_fresh (d : Device) (f : TimeUnit → TimeUnit) : (d.updTime f).fresh = d.fresh := (rfl)
@[simp] theorem Device.updTime_self (d : Device) (f : TimeUnit → TimeUnit) : (d.updTime f).time = f d.time := (rfl)
@[simp] theorem Device.updHost_now (d : Device) (f : HostUnit → HostUnit) : (d.updHost f).now = d.now := (rfl)
@[simp] theorem Device.updHost_regs (d : Device) (f : HostUnit → HostUnit) : (d.updHost f).regs = d.regs := (rfl)
@[simp] theorem Device.updHost_mem (d : Device) (f : HostUnit → HostUnit) : (d.updHost f).mem = d.mem := (rfl)
@[simp] theorem Device.updHost_poison (d : Device) (f : HostUnit → HostUnit) : (d.updHost f).poison = d.poison := (rfl)
@[simp] theorem Device.updHost_board (d : Device) (f : HostUnit → HostUnit) : (d.updHost f).board = d.board := (rfl)
@[simp] theorem Device.updHost_time (d : Device) (f : HostUnit → HostUnit) : (d.updHost f).time = d.time := (rfl)
@[simp] theorem Device.updHost_fault (d : Device) (f : HostUnit → HostUnit) : (d.updHost f).fault = d.fault := (rfl)
@[simp] theorem Device.updHost_plan (d : Device) (f : HostUnit → HostUnit) : (d.updHost f).plan = d.plan := (rfl)
@[simp] theorem Device.updHost_link (d : Device) (f : HostUnit → HostUnit) : (d.updHost f).link = d.link := (rfl)
@[simp] theorem Device.updHost_memu (d : Device) (f : HostUnit → HostUnit) : (d.updHost f).memu = d.memu := (rfl)
@[simp] theorem Device.updHost_mgmt (d : Device) (f : HostUnit → HostUnit) : (d.updHost f).mgmt = d.mgmt := (rfl)
@[simp] theorem Device.updHost_flash (d : Device) (f : HostUnit → HostUnit) : (d.updHost f).flash = d.flash := (rfl)
@[simp] theorem Device.updHost_fuses (d : Device) (f : HostUnit → HostUnit) : (d.updHost f).fuses = d.fuses := (rfl)
@[simp] theorem Device.updHost_stn (d : Device) (f : HostUnit → HostUnit) : (d.updHost f).stn = d.stn := (rfl)
@[simp] theorem Device.updHost_pack (d : Device) (f : HostUnit → HostUnit) : (d.updHost f).pack = d.pack := (rfl)
@[simp] theorem Device.updHost_matchE (d : Device) (f : HostUnit → HostUnit) : (d.updHost f).matchE = d.matchE := (rfl)
@[simp] theorem Device.updHost_matchI (d : Device) (f : HostUnit → HostUnit) : (d.updHost f).matchI = d.matchI := (rfl)
@[simp] theorem Device.updHost_sel (d : Device) (f : HostUnit → HostUnit) : (d.updHost f).sel = d.sel := (rfl)
@[simp] theorem Device.updHost_emb (d : Device) (f : HostUnit → HostUnit) : (d.updHost f).emb = d.emb := (rfl)
@[simp] theorem Device.updHost_arr (d : Device) (f : HostUnit → HostUnit) : (d.updHost f).arr = d.arr := (rfl)
@[simp] theorem Device.updHost_str (d : Device) (f : HostUnit → HostUnit) : (d.updHost f).str = d.str := (rfl)
@[simp] theorem Device.updHost_sched (d : Device) (f : HostUnit → HostUnit) : (d.updHost f).sched = d.sched := (rfl)
@[simp] theorem Device.updHost_cells (d : Device) (f : HostUnit → HostUnit) : (d.updHost f).cells = d.cells := (rfl)
@[simp] theorem Device.updHost_out (d : Device) (f : HostUnit → HostUnit) : (d.updHost f).out = d.out := (rfl)
@[simp] theorem Device.updHost_fresh (d : Device) (f : HostUnit → HostUnit) : (d.updHost f).fresh = d.fresh := (rfl)
@[simp] theorem Device.updHost_self (d : Device) (f : HostUnit → HostUnit) : (d.updHost f).host = f d.host := (rfl)
@[simp] theorem Device.updPlan_now (d : Device) (f : PlanUnit → PlanUnit) : (d.updPlan f).now = d.now := (rfl)
@[simp] theorem Device.updPlan_regs (d : Device) (f : PlanUnit → PlanUnit) : (d.updPlan f).regs = d.regs := (rfl)
@[simp] theorem Device.updPlan_mem (d : Device) (f : PlanUnit → PlanUnit) : (d.updPlan f).mem = d.mem := (rfl)
@[simp] theorem Device.updPlan_poison (d : Device) (f : PlanUnit → PlanUnit) : (d.updPlan f).poison = d.poison := (rfl)
@[simp] theorem Device.updPlan_board (d : Device) (f : PlanUnit → PlanUnit) : (d.updPlan f).board = d.board := (rfl)
@[simp] theorem Device.updPlan_time (d : Device) (f : PlanUnit → PlanUnit) : (d.updPlan f).time = d.time := (rfl)
@[simp] theorem Device.updPlan_host (d : Device) (f : PlanUnit → PlanUnit) : (d.updPlan f).host = d.host := (rfl)
@[simp] theorem Device.updPlan_fault (d : Device) (f : PlanUnit → PlanUnit) : (d.updPlan f).fault = d.fault := (rfl)
@[simp] theorem Device.updPlan_link (d : Device) (f : PlanUnit → PlanUnit) : (d.updPlan f).link = d.link := (rfl)
@[simp] theorem Device.updPlan_memu (d : Device) (f : PlanUnit → PlanUnit) : (d.updPlan f).memu = d.memu := (rfl)
@[simp] theorem Device.updPlan_mgmt (d : Device) (f : PlanUnit → PlanUnit) : (d.updPlan f).mgmt = d.mgmt := (rfl)
@[simp] theorem Device.updPlan_flash (d : Device) (f : PlanUnit → PlanUnit) : (d.updPlan f).flash = d.flash := (rfl)
@[simp] theorem Device.updPlan_fuses (d : Device) (f : PlanUnit → PlanUnit) : (d.updPlan f).fuses = d.fuses := (rfl)
@[simp] theorem Device.updPlan_stn (d : Device) (f : PlanUnit → PlanUnit) : (d.updPlan f).stn = d.stn := (rfl)
@[simp] theorem Device.updPlan_pack (d : Device) (f : PlanUnit → PlanUnit) : (d.updPlan f).pack = d.pack := (rfl)
@[simp] theorem Device.updPlan_matchE (d : Device) (f : PlanUnit → PlanUnit) : (d.updPlan f).matchE = d.matchE := (rfl)
@[simp] theorem Device.updPlan_matchI (d : Device) (f : PlanUnit → PlanUnit) : (d.updPlan f).matchI = d.matchI := (rfl)
@[simp] theorem Device.updPlan_sel (d : Device) (f : PlanUnit → PlanUnit) : (d.updPlan f).sel = d.sel := (rfl)
@[simp] theorem Device.updPlan_emb (d : Device) (f : PlanUnit → PlanUnit) : (d.updPlan f).emb = d.emb := (rfl)
@[simp] theorem Device.updPlan_arr (d : Device) (f : PlanUnit → PlanUnit) : (d.updPlan f).arr = d.arr := (rfl)
@[simp] theorem Device.updPlan_str (d : Device) (f : PlanUnit → PlanUnit) : (d.updPlan f).str = d.str := (rfl)
@[simp] theorem Device.updPlan_sched (d : Device) (f : PlanUnit → PlanUnit) : (d.updPlan f).sched = d.sched := (rfl)
@[simp] theorem Device.updPlan_cells (d : Device) (f : PlanUnit → PlanUnit) : (d.updPlan f).cells = d.cells := (rfl)
@[simp] theorem Device.updPlan_out (d : Device) (f : PlanUnit → PlanUnit) : (d.updPlan f).out = d.out := (rfl)
@[simp] theorem Device.updPlan_fresh (d : Device) (f : PlanUnit → PlanUnit) : (d.updPlan f).fresh = d.fresh := (rfl)
@[simp] theorem Device.updPlan_self (d : Device) (f : PlanUnit → PlanUnit) : (d.updPlan f).plan = f d.plan := (rfl)
@[simp] theorem Device.updLink_now (d : Device) (f : LinkUnit → LinkUnit) : (d.updLink f).now = d.now := (rfl)
@[simp] theorem Device.updLink_regs (d : Device) (f : LinkUnit → LinkUnit) : (d.updLink f).regs = d.regs := (rfl)
@[simp] theorem Device.updLink_mem (d : Device) (f : LinkUnit → LinkUnit) : (d.updLink f).mem = d.mem := (rfl)
@[simp] theorem Device.updLink_poison (d : Device) (f : LinkUnit → LinkUnit) : (d.updLink f).poison = d.poison := (rfl)
@[simp] theorem Device.updLink_board (d : Device) (f : LinkUnit → LinkUnit) : (d.updLink f).board = d.board := (rfl)
@[simp] theorem Device.updLink_time (d : Device) (f : LinkUnit → LinkUnit) : (d.updLink f).time = d.time := (rfl)
@[simp] theorem Device.updLink_host (d : Device) (f : LinkUnit → LinkUnit) : (d.updLink f).host = d.host := (rfl)
@[simp] theorem Device.updLink_fault (d : Device) (f : LinkUnit → LinkUnit) : (d.updLink f).fault = d.fault := (rfl)
@[simp] theorem Device.updLink_plan (d : Device) (f : LinkUnit → LinkUnit) : (d.updLink f).plan = d.plan := (rfl)
@[simp] theorem Device.updLink_memu (d : Device) (f : LinkUnit → LinkUnit) : (d.updLink f).memu = d.memu := (rfl)
@[simp] theorem Device.updLink_mgmt (d : Device) (f : LinkUnit → LinkUnit) : (d.updLink f).mgmt = d.mgmt := (rfl)
@[simp] theorem Device.updLink_flash (d : Device) (f : LinkUnit → LinkUnit) : (d.updLink f).flash = d.flash := (rfl)
@[simp] theorem Device.updLink_fuses (d : Device) (f : LinkUnit → LinkUnit) : (d.updLink f).fuses = d.fuses := (rfl)
@[simp] theorem Device.updLink_stn (d : Device) (f : LinkUnit → LinkUnit) : (d.updLink f).stn = d.stn := (rfl)
@[simp] theorem Device.updLink_pack (d : Device) (f : LinkUnit → LinkUnit) : (d.updLink f).pack = d.pack := (rfl)
@[simp] theorem Device.updLink_matchE (d : Device) (f : LinkUnit → LinkUnit) : (d.updLink f).matchE = d.matchE := (rfl)
@[simp] theorem Device.updLink_matchI (d : Device) (f : LinkUnit → LinkUnit) : (d.updLink f).matchI = d.matchI := (rfl)
@[simp] theorem Device.updLink_sel (d : Device) (f : LinkUnit → LinkUnit) : (d.updLink f).sel = d.sel := (rfl)
@[simp] theorem Device.updLink_emb (d : Device) (f : LinkUnit → LinkUnit) : (d.updLink f).emb = d.emb := (rfl)
@[simp] theorem Device.updLink_arr (d : Device) (f : LinkUnit → LinkUnit) : (d.updLink f).arr = d.arr := (rfl)
@[simp] theorem Device.updLink_str (d : Device) (f : LinkUnit → LinkUnit) : (d.updLink f).str = d.str := (rfl)
@[simp] theorem Device.updLink_sched (d : Device) (f : LinkUnit → LinkUnit) : (d.updLink f).sched = d.sched := (rfl)
@[simp] theorem Device.updLink_cells (d : Device) (f : LinkUnit → LinkUnit) : (d.updLink f).cells = d.cells := (rfl)
@[simp] theorem Device.updLink_out (d : Device) (f : LinkUnit → LinkUnit) : (d.updLink f).out = d.out := (rfl)
@[simp] theorem Device.updLink_fresh (d : Device) (f : LinkUnit → LinkUnit) : (d.updLink f).fresh = d.fresh := (rfl)
@[simp] theorem Device.updLink_self (d : Device) (f : LinkUnit → LinkUnit) : (d.updLink f).link = f d.link := (rfl)
@[simp] theorem Device.updMem_now (d : Device) (f : MemUnit → MemUnit) : (d.updMem f).now = d.now := (rfl)
@[simp] theorem Device.updMem_regs (d : Device) (f : MemUnit → MemUnit) : (d.updMem f).regs = d.regs := (rfl)
@[simp] theorem Device.updMem_mem (d : Device) (f : MemUnit → MemUnit) : (d.updMem f).mem = d.mem := (rfl)
@[simp] theorem Device.updMem_poison (d : Device) (f : MemUnit → MemUnit) : (d.updMem f).poison = d.poison := (rfl)
@[simp] theorem Device.updMem_board (d : Device) (f : MemUnit → MemUnit) : (d.updMem f).board = d.board := (rfl)
@[simp] theorem Device.updMem_time (d : Device) (f : MemUnit → MemUnit) : (d.updMem f).time = d.time := (rfl)
@[simp] theorem Device.updMem_host (d : Device) (f : MemUnit → MemUnit) : (d.updMem f).host = d.host := (rfl)
@[simp] theorem Device.updMem_fault (d : Device) (f : MemUnit → MemUnit) : (d.updMem f).fault = d.fault := (rfl)
@[simp] theorem Device.updMem_plan (d : Device) (f : MemUnit → MemUnit) : (d.updMem f).plan = d.plan := (rfl)
@[simp] theorem Device.updMem_link (d : Device) (f : MemUnit → MemUnit) : (d.updMem f).link = d.link := (rfl)
@[simp] theorem Device.updMem_mgmt (d : Device) (f : MemUnit → MemUnit) : (d.updMem f).mgmt = d.mgmt := (rfl)
@[simp] theorem Device.updMem_flash (d : Device) (f : MemUnit → MemUnit) : (d.updMem f).flash = d.flash := (rfl)
@[simp] theorem Device.updMem_fuses (d : Device) (f : MemUnit → MemUnit) : (d.updMem f).fuses = d.fuses := (rfl)
@[simp] theorem Device.updMem_stn (d : Device) (f : MemUnit → MemUnit) : (d.updMem f).stn = d.stn := (rfl)
@[simp] theorem Device.updMem_pack (d : Device) (f : MemUnit → MemUnit) : (d.updMem f).pack = d.pack := (rfl)
@[simp] theorem Device.updMem_matchE (d : Device) (f : MemUnit → MemUnit) : (d.updMem f).matchE = d.matchE := (rfl)
@[simp] theorem Device.updMem_matchI (d : Device) (f : MemUnit → MemUnit) : (d.updMem f).matchI = d.matchI := (rfl)
@[simp] theorem Device.updMem_sel (d : Device) (f : MemUnit → MemUnit) : (d.updMem f).sel = d.sel := (rfl)
@[simp] theorem Device.updMem_emb (d : Device) (f : MemUnit → MemUnit) : (d.updMem f).emb = d.emb := (rfl)
@[simp] theorem Device.updMem_arr (d : Device) (f : MemUnit → MemUnit) : (d.updMem f).arr = d.arr := (rfl)
@[simp] theorem Device.updMem_str (d : Device) (f : MemUnit → MemUnit) : (d.updMem f).str = d.str := (rfl)
@[simp] theorem Device.updMem_sched (d : Device) (f : MemUnit → MemUnit) : (d.updMem f).sched = d.sched := (rfl)
@[simp] theorem Device.updMem_cells (d : Device) (f : MemUnit → MemUnit) : (d.updMem f).cells = d.cells := (rfl)
@[simp] theorem Device.updMem_out (d : Device) (f : MemUnit → MemUnit) : (d.updMem f).out = d.out := (rfl)
@[simp] theorem Device.updMem_fresh (d : Device) (f : MemUnit → MemUnit) : (d.updMem f).fresh = d.fresh := (rfl)
@[simp] theorem Device.updMem_self (d : Device) (f : MemUnit → MemUnit) : (d.updMem f).memu = f d.memu := (rfl)
@[simp] theorem Device.updMgmt_now (d : Device) (f : MgmtUnit → MgmtUnit) : (d.updMgmt f).now = d.now := (rfl)
@[simp] theorem Device.updMgmt_regs (d : Device) (f : MgmtUnit → MgmtUnit) : (d.updMgmt f).regs = d.regs := (rfl)
@[simp] theorem Device.updMgmt_mem (d : Device) (f : MgmtUnit → MgmtUnit) : (d.updMgmt f).mem = d.mem := (rfl)
@[simp] theorem Device.updMgmt_poison (d : Device) (f : MgmtUnit → MgmtUnit) : (d.updMgmt f).poison = d.poison := (rfl)
@[simp] theorem Device.updMgmt_board (d : Device) (f : MgmtUnit → MgmtUnit) : (d.updMgmt f).board = d.board := (rfl)
@[simp] theorem Device.updMgmt_time (d : Device) (f : MgmtUnit → MgmtUnit) : (d.updMgmt f).time = d.time := (rfl)
@[simp] theorem Device.updMgmt_host (d : Device) (f : MgmtUnit → MgmtUnit) : (d.updMgmt f).host = d.host := (rfl)
@[simp] theorem Device.updMgmt_fault (d : Device) (f : MgmtUnit → MgmtUnit) : (d.updMgmt f).fault = d.fault := (rfl)
@[simp] theorem Device.updMgmt_plan (d : Device) (f : MgmtUnit → MgmtUnit) : (d.updMgmt f).plan = d.plan := (rfl)
@[simp] theorem Device.updMgmt_link (d : Device) (f : MgmtUnit → MgmtUnit) : (d.updMgmt f).link = d.link := (rfl)
@[simp] theorem Device.updMgmt_memu (d : Device) (f : MgmtUnit → MgmtUnit) : (d.updMgmt f).memu = d.memu := (rfl)
@[simp] theorem Device.updMgmt_flash (d : Device) (f : MgmtUnit → MgmtUnit) : (d.updMgmt f).flash = d.flash := (rfl)
@[simp] theorem Device.updMgmt_fuses (d : Device) (f : MgmtUnit → MgmtUnit) : (d.updMgmt f).fuses = d.fuses := (rfl)
@[simp] theorem Device.updMgmt_stn (d : Device) (f : MgmtUnit → MgmtUnit) : (d.updMgmt f).stn = d.stn := (rfl)
@[simp] theorem Device.updMgmt_pack (d : Device) (f : MgmtUnit → MgmtUnit) : (d.updMgmt f).pack = d.pack := (rfl)
@[simp] theorem Device.updMgmt_matchE (d : Device) (f : MgmtUnit → MgmtUnit) : (d.updMgmt f).matchE = d.matchE := (rfl)
@[simp] theorem Device.updMgmt_matchI (d : Device) (f : MgmtUnit → MgmtUnit) : (d.updMgmt f).matchI = d.matchI := (rfl)
@[simp] theorem Device.updMgmt_sel (d : Device) (f : MgmtUnit → MgmtUnit) : (d.updMgmt f).sel = d.sel := (rfl)
@[simp] theorem Device.updMgmt_emb (d : Device) (f : MgmtUnit → MgmtUnit) : (d.updMgmt f).emb = d.emb := (rfl)
@[simp] theorem Device.updMgmt_arr (d : Device) (f : MgmtUnit → MgmtUnit) : (d.updMgmt f).arr = d.arr := (rfl)
@[simp] theorem Device.updMgmt_str (d : Device) (f : MgmtUnit → MgmtUnit) : (d.updMgmt f).str = d.str := (rfl)
@[simp] theorem Device.updMgmt_sched (d : Device) (f : MgmtUnit → MgmtUnit) : (d.updMgmt f).sched = d.sched := (rfl)
@[simp] theorem Device.updMgmt_cells (d : Device) (f : MgmtUnit → MgmtUnit) : (d.updMgmt f).cells = d.cells := (rfl)
@[simp] theorem Device.updMgmt_out (d : Device) (f : MgmtUnit → MgmtUnit) : (d.updMgmt f).out = d.out := (rfl)
@[simp] theorem Device.updMgmt_fresh (d : Device) (f : MgmtUnit → MgmtUnit) : (d.updMgmt f).fresh = d.fresh := (rfl)
@[simp] theorem Device.updMgmt_self (d : Device) (f : MgmtUnit → MgmtUnit) : (d.updMgmt f).mgmt = f d.mgmt := (rfl)
@[simp] theorem Device.updStn_now (d : Device) (f : StationUnit → StationUnit) : (d.updStn f).now = d.now := (rfl)
@[simp] theorem Device.updStn_regs (d : Device) (f : StationUnit → StationUnit) : (d.updStn f).regs = d.regs := (rfl)
@[simp] theorem Device.updStn_mem (d : Device) (f : StationUnit → StationUnit) : (d.updStn f).mem = d.mem := (rfl)
@[simp] theorem Device.updStn_poison (d : Device) (f : StationUnit → StationUnit) : (d.updStn f).poison = d.poison := (rfl)
@[simp] theorem Device.updStn_board (d : Device) (f : StationUnit → StationUnit) : (d.updStn f).board = d.board := (rfl)
@[simp] theorem Device.updStn_time (d : Device) (f : StationUnit → StationUnit) : (d.updStn f).time = d.time := (rfl)
@[simp] theorem Device.updStn_host (d : Device) (f : StationUnit → StationUnit) : (d.updStn f).host = d.host := (rfl)
@[simp] theorem Device.updStn_fault (d : Device) (f : StationUnit → StationUnit) : (d.updStn f).fault = d.fault := (rfl)
@[simp] theorem Device.updStn_plan (d : Device) (f : StationUnit → StationUnit) : (d.updStn f).plan = d.plan := (rfl)
@[simp] theorem Device.updStn_link (d : Device) (f : StationUnit → StationUnit) : (d.updStn f).link = d.link := (rfl)
@[simp] theorem Device.updStn_memu (d : Device) (f : StationUnit → StationUnit) : (d.updStn f).memu = d.memu := (rfl)
@[simp] theorem Device.updStn_mgmt (d : Device) (f : StationUnit → StationUnit) : (d.updStn f).mgmt = d.mgmt := (rfl)
@[simp] theorem Device.updStn_flash (d : Device) (f : StationUnit → StationUnit) : (d.updStn f).flash = d.flash := (rfl)
@[simp] theorem Device.updStn_fuses (d : Device) (f : StationUnit → StationUnit) : (d.updStn f).fuses = d.fuses := (rfl)
@[simp] theorem Device.updStn_pack (d : Device) (f : StationUnit → StationUnit) : (d.updStn f).pack = d.pack := (rfl)
@[simp] theorem Device.updStn_matchE (d : Device) (f : StationUnit → StationUnit) : (d.updStn f).matchE = d.matchE := (rfl)
@[simp] theorem Device.updStn_matchI (d : Device) (f : StationUnit → StationUnit) : (d.updStn f).matchI = d.matchI := (rfl)
@[simp] theorem Device.updStn_sel (d : Device) (f : StationUnit → StationUnit) : (d.updStn f).sel = d.sel := (rfl)
@[simp] theorem Device.updStn_emb (d : Device) (f : StationUnit → StationUnit) : (d.updStn f).emb = d.emb := (rfl)
@[simp] theorem Device.updStn_arr (d : Device) (f : StationUnit → StationUnit) : (d.updStn f).arr = d.arr := (rfl)
@[simp] theorem Device.updStn_str (d : Device) (f : StationUnit → StationUnit) : (d.updStn f).str = d.str := (rfl)
@[simp] theorem Device.updStn_sched (d : Device) (f : StationUnit → StationUnit) : (d.updStn f).sched = d.sched := (rfl)
@[simp] theorem Device.updStn_cells (d : Device) (f : StationUnit → StationUnit) : (d.updStn f).cells = d.cells := (rfl)
@[simp] theorem Device.updStn_out (d : Device) (f : StationUnit → StationUnit) : (d.updStn f).out = d.out := (rfl)
@[simp] theorem Device.updStn_fresh (d : Device) (f : StationUnit → StationUnit) : (d.updStn f).fresh = d.fresh := (rfl)
@[simp] theorem Device.updStn_self (d : Device) (f : StationUnit → StationUnit) : (d.updStn f).stn = f d.stn := (rfl)
@[simp] theorem Device.updStr_now (d : Device) (f : StreamUnit → StreamUnit) : (d.updStr f).now = d.now := (rfl)
@[simp] theorem Device.updStr_regs (d : Device) (f : StreamUnit → StreamUnit) : (d.updStr f).regs = d.regs := (rfl)
@[simp] theorem Device.updStr_mem (d : Device) (f : StreamUnit → StreamUnit) : (d.updStr f).mem = d.mem := (rfl)
@[simp] theorem Device.updStr_poison (d : Device) (f : StreamUnit → StreamUnit) : (d.updStr f).poison = d.poison := (rfl)
@[simp] theorem Device.updStr_board (d : Device) (f : StreamUnit → StreamUnit) : (d.updStr f).board = d.board := (rfl)
@[simp] theorem Device.updStr_time (d : Device) (f : StreamUnit → StreamUnit) : (d.updStr f).time = d.time := (rfl)
@[simp] theorem Device.updStr_host (d : Device) (f : StreamUnit → StreamUnit) : (d.updStr f).host = d.host := (rfl)
@[simp] theorem Device.updStr_fault (d : Device) (f : StreamUnit → StreamUnit) : (d.updStr f).fault = d.fault := (rfl)
@[simp] theorem Device.updStr_plan (d : Device) (f : StreamUnit → StreamUnit) : (d.updStr f).plan = d.plan := (rfl)
@[simp] theorem Device.updStr_link (d : Device) (f : StreamUnit → StreamUnit) : (d.updStr f).link = d.link := (rfl)
@[simp] theorem Device.updStr_memu (d : Device) (f : StreamUnit → StreamUnit) : (d.updStr f).memu = d.memu := (rfl)
@[simp] theorem Device.updStr_mgmt (d : Device) (f : StreamUnit → StreamUnit) : (d.updStr f).mgmt = d.mgmt := (rfl)
@[simp] theorem Device.updStr_flash (d : Device) (f : StreamUnit → StreamUnit) : (d.updStr f).flash = d.flash := (rfl)
@[simp] theorem Device.updStr_fuses (d : Device) (f : StreamUnit → StreamUnit) : (d.updStr f).fuses = d.fuses := (rfl)
@[simp] theorem Device.updStr_stn (d : Device) (f : StreamUnit → StreamUnit) : (d.updStr f).stn = d.stn := (rfl)
@[simp] theorem Device.updStr_pack (d : Device) (f : StreamUnit → StreamUnit) : (d.updStr f).pack = d.pack := (rfl)
@[simp] theorem Device.updStr_matchE (d : Device) (f : StreamUnit → StreamUnit) : (d.updStr f).matchE = d.matchE := (rfl)
@[simp] theorem Device.updStr_matchI (d : Device) (f : StreamUnit → StreamUnit) : (d.updStr f).matchI = d.matchI := (rfl)
@[simp] theorem Device.updStr_sel (d : Device) (f : StreamUnit → StreamUnit) : (d.updStr f).sel = d.sel := (rfl)
@[simp] theorem Device.updStr_emb (d : Device) (f : StreamUnit → StreamUnit) : (d.updStr f).emb = d.emb := (rfl)
@[simp] theorem Device.updStr_arr (d : Device) (f : StreamUnit → StreamUnit) : (d.updStr f).arr = d.arr := (rfl)
@[simp] theorem Device.updStr_sched (d : Device) (f : StreamUnit → StreamUnit) : (d.updStr f).sched = d.sched := (rfl)
@[simp] theorem Device.updStr_cells (d : Device) (f : StreamUnit → StreamUnit) : (d.updStr f).cells = d.cells := (rfl)
@[simp] theorem Device.updStr_out (d : Device) (f : StreamUnit → StreamUnit) : (d.updStr f).out = d.out := (rfl)
@[simp] theorem Device.updStr_fresh (d : Device) (f : StreamUnit → StreamUnit) : (d.updStr f).fresh = d.fresh := (rfl)
@[simp] theorem Device.updStr_self (d : Device) (f : StreamUnit → StreamUnit) : (d.updStr f).str = f d.str := (rfl)
@[simp] theorem Device.setReg_now (d : Device) (off : Nat) (v : DWord) : (d.setReg off v).now = d.now := (rfl)
@[simp] theorem Device.setReg_mem (d : Device) (off : Nat) (v : DWord) : (d.setReg off v).mem = d.mem := (rfl)
@[simp] theorem Device.setReg_poison (d : Device) (off : Nat) (v : DWord) : (d.setReg off v).poison = d.poison := (rfl)
@[simp] theorem Device.setReg_board (d : Device) (off : Nat) (v : DWord) : (d.setReg off v).board = d.board := (rfl)
@[simp] theorem Device.setReg_time (d : Device) (off : Nat) (v : DWord) : (d.setReg off v).time = d.time := (rfl)
@[simp] theorem Device.setReg_host (d : Device) (off : Nat) (v : DWord) : (d.setReg off v).host = d.host := (rfl)
@[simp] theorem Device.setReg_fault (d : Device) (off : Nat) (v : DWord) : (d.setReg off v).fault = d.fault := (rfl)
@[simp] theorem Device.setReg_plan (d : Device) (off : Nat) (v : DWord) : (d.setReg off v).plan = d.plan := (rfl)
@[simp] theorem Device.setReg_link (d : Device) (off : Nat) (v : DWord) : (d.setReg off v).link = d.link := (rfl)
@[simp] theorem Device.setReg_memu (d : Device) (off : Nat) (v : DWord) : (d.setReg off v).memu = d.memu := (rfl)
@[simp] theorem Device.setReg_mgmt (d : Device) (off : Nat) (v : DWord) : (d.setReg off v).mgmt = d.mgmt := (rfl)
@[simp] theorem Device.setReg_flash (d : Device) (off : Nat) (v : DWord) : (d.setReg off v).flash = d.flash := (rfl)
@[simp] theorem Device.setReg_fuses (d : Device) (off : Nat) (v : DWord) : (d.setReg off v).fuses = d.fuses := (rfl)
@[simp] theorem Device.setReg_stn (d : Device) (off : Nat) (v : DWord) : (d.setReg off v).stn = d.stn := (rfl)
@[simp] theorem Device.setReg_pack (d : Device) (off : Nat) (v : DWord) : (d.setReg off v).pack = d.pack := (rfl)
@[simp] theorem Device.setReg_matchE (d : Device) (off : Nat) (v : DWord) : (d.setReg off v).matchE = d.matchE := (rfl)
@[simp] theorem Device.setReg_matchI (d : Device) (off : Nat) (v : DWord) : (d.setReg off v).matchI = d.matchI := (rfl)
@[simp] theorem Device.setReg_sel (d : Device) (off : Nat) (v : DWord) : (d.setReg off v).sel = d.sel := (rfl)
@[simp] theorem Device.setReg_emb (d : Device) (off : Nat) (v : DWord) : (d.setReg off v).emb = d.emb := (rfl)
@[simp] theorem Device.setReg_arr (d : Device) (off : Nat) (v : DWord) : (d.setReg off v).arr = d.arr := (rfl)
@[simp] theorem Device.setReg_str (d : Device) (off : Nat) (v : DWord) : (d.setReg off v).str = d.str := (rfl)
@[simp] theorem Device.setReg_sched (d : Device) (off : Nat) (v : DWord) : (d.setReg off v).sched = d.sched := (rfl)
@[simp] theorem Device.setReg_cells (d : Device) (off : Nat) (v : DWord) : (d.setReg off v).cells = d.cells := (rfl)
@[simp] theorem Device.setReg_out (d : Device) (off : Nat) (v : DWord) : (d.setReg off v).out = d.out := (rfl)
@[simp] theorem Device.setReg_fresh (d : Device) (off : Nat) (v : DWord) : (d.setReg off v).fresh = d.fresh := (rfl)
@[simp] theorem Device.setFld_now (d : Device) (off : Nat) (f : Fld) (v : Nat) : (d.setFld off f v).now = d.now := (rfl)
@[simp] theorem Device.setFld_mem (d : Device) (off : Nat) (f : Fld) (v : Nat) : (d.setFld off f v).mem = d.mem := (rfl)
@[simp] theorem Device.setFld_poison (d : Device) (off : Nat) (f : Fld) (v : Nat) : (d.setFld off f v).poison = d.poison := (rfl)
@[simp] theorem Device.setFld_board (d : Device) (off : Nat) (f : Fld) (v : Nat) : (d.setFld off f v).board = d.board := (rfl)
@[simp] theorem Device.setFld_time (d : Device) (off : Nat) (f : Fld) (v : Nat) : (d.setFld off f v).time = d.time := (rfl)
@[simp] theorem Device.setFld_host (d : Device) (off : Nat) (f : Fld) (v : Nat) : (d.setFld off f v).host = d.host := (rfl)
@[simp] theorem Device.setFld_fault (d : Device) (off : Nat) (f : Fld) (v : Nat) : (d.setFld off f v).fault = d.fault := (rfl)
@[simp] theorem Device.setFld_plan (d : Device) (off : Nat) (f : Fld) (v : Nat) : (d.setFld off f v).plan = d.plan := (rfl)
@[simp] theorem Device.setFld_link (d : Device) (off : Nat) (f : Fld) (v : Nat) : (d.setFld off f v).link = d.link := (rfl)
@[simp] theorem Device.setFld_memu (d : Device) (off : Nat) (f : Fld) (v : Nat) : (d.setFld off f v).memu = d.memu := (rfl)
@[simp] theorem Device.setFld_mgmt (d : Device) (off : Nat) (f : Fld) (v : Nat) : (d.setFld off f v).mgmt = d.mgmt := (rfl)
@[simp] theorem Device.setFld_flash (d : Device) (off : Nat) (f : Fld) (v : Nat) : (d.setFld off f v).flash = d.flash := (rfl)
@[simp] theorem Device.setFld_fuses (d : Device) (off : Nat) (f : Fld) (v : Nat) : (d.setFld off f v).fuses = d.fuses := (rfl)
@[simp] theorem Device.setFld_stn (d : Device) (off : Nat) (f : Fld) (v : Nat) : (d.setFld off f v).stn = d.stn := (rfl)
@[simp] theorem Device.setFld_pack (d : Device) (off : Nat) (f : Fld) (v : Nat) : (d.setFld off f v).pack = d.pack := (rfl)
@[simp] theorem Device.setFld_matchE (d : Device) (off : Nat) (f : Fld) (v : Nat) : (d.setFld off f v).matchE = d.matchE := (rfl)
@[simp] theorem Device.setFld_matchI (d : Device) (off : Nat) (f : Fld) (v : Nat) : (d.setFld off f v).matchI = d.matchI := (rfl)
@[simp] theorem Device.setFld_sel (d : Device) (off : Nat) (f : Fld) (v : Nat) : (d.setFld off f v).sel = d.sel := (rfl)
@[simp] theorem Device.setFld_emb (d : Device) (off : Nat) (f : Fld) (v : Nat) : (d.setFld off f v).emb = d.emb := (rfl)
@[simp] theorem Device.setFld_arr (d : Device) (off : Nat) (f : Fld) (v : Nat) : (d.setFld off f v).arr = d.arr := (rfl)
@[simp] theorem Device.setFld_str (d : Device) (off : Nat) (f : Fld) (v : Nat) : (d.setFld off f v).str = d.str := (rfl)
@[simp] theorem Device.setFld_sched (d : Device) (off : Nat) (f : Fld) (v : Nat) : (d.setFld off f v).sched = d.sched := (rfl)
@[simp] theorem Device.setFld_cells (d : Device) (off : Nat) (f : Fld) (v : Nat) : (d.setFld off f v).cells = d.cells := (rfl)
@[simp] theorem Device.setFld_out (d : Device) (off : Nat) (f : Fld) (v : Nat) : (d.setFld off f v).out = d.out := (rfl)
@[simp] theorem Device.setFld_fresh (d : Device) (off : Nat) (f : Fld) (v : Nat) : (d.setFld off f v).fresh = d.fresh := (rfl)
@[simp] theorem Device.bumpBy_now (d : Device) (off : Nat) (f : Fld) (n : Nat) : (d.bumpBy off f n).now = d.now := (rfl)
@[simp] theorem Device.bumpBy_mem (d : Device) (off : Nat) (f : Fld) (n : Nat) : (d.bumpBy off f n).mem = d.mem := (rfl)
@[simp] theorem Device.bumpBy_poison (d : Device) (off : Nat) (f : Fld) (n : Nat) : (d.bumpBy off f n).poison = d.poison := (rfl)
@[simp] theorem Device.bumpBy_board (d : Device) (off : Nat) (f : Fld) (n : Nat) : (d.bumpBy off f n).board = d.board := (rfl)
@[simp] theorem Device.bumpBy_time (d : Device) (off : Nat) (f : Fld) (n : Nat) : (d.bumpBy off f n).time = d.time := (rfl)
@[simp] theorem Device.bumpBy_host (d : Device) (off : Nat) (f : Fld) (n : Nat) : (d.bumpBy off f n).host = d.host := (rfl)
@[simp] theorem Device.bumpBy_fault (d : Device) (off : Nat) (f : Fld) (n : Nat) : (d.bumpBy off f n).fault = d.fault := (rfl)
@[simp] theorem Device.bumpBy_plan (d : Device) (off : Nat) (f : Fld) (n : Nat) : (d.bumpBy off f n).plan = d.plan := (rfl)
@[simp] theorem Device.bumpBy_link (d : Device) (off : Nat) (f : Fld) (n : Nat) : (d.bumpBy off f n).link = d.link := (rfl)
@[simp] theorem Device.bumpBy_memu (d : Device) (off : Nat) (f : Fld) (n : Nat) : (d.bumpBy off f n).memu = d.memu := (rfl)
@[simp] theorem Device.bumpBy_mgmt (d : Device) (off : Nat) (f : Fld) (n : Nat) : (d.bumpBy off f n).mgmt = d.mgmt := (rfl)
@[simp] theorem Device.bumpBy_flash (d : Device) (off : Nat) (f : Fld) (n : Nat) : (d.bumpBy off f n).flash = d.flash := (rfl)
@[simp] theorem Device.bumpBy_fuses (d : Device) (off : Nat) (f : Fld) (n : Nat) : (d.bumpBy off f n).fuses = d.fuses := (rfl)
@[simp] theorem Device.bumpBy_stn (d : Device) (off : Nat) (f : Fld) (n : Nat) : (d.bumpBy off f n).stn = d.stn := (rfl)
@[simp] theorem Device.bumpBy_pack (d : Device) (off : Nat) (f : Fld) (n : Nat) : (d.bumpBy off f n).pack = d.pack := (rfl)
@[simp] theorem Device.bumpBy_matchE (d : Device) (off : Nat) (f : Fld) (n : Nat) : (d.bumpBy off f n).matchE = d.matchE := (rfl)
@[simp] theorem Device.bumpBy_matchI (d : Device) (off : Nat) (f : Fld) (n : Nat) : (d.bumpBy off f n).matchI = d.matchI := (rfl)
@[simp] theorem Device.bumpBy_sel (d : Device) (off : Nat) (f : Fld) (n : Nat) : (d.bumpBy off f n).sel = d.sel := (rfl)
@[simp] theorem Device.bumpBy_emb (d : Device) (off : Nat) (f : Fld) (n : Nat) : (d.bumpBy off f n).emb = d.emb := (rfl)
@[simp] theorem Device.bumpBy_arr (d : Device) (off : Nat) (f : Fld) (n : Nat) : (d.bumpBy off f n).arr = d.arr := (rfl)
@[simp] theorem Device.bumpBy_str (d : Device) (off : Nat) (f : Fld) (n : Nat) : (d.bumpBy off f n).str = d.str := (rfl)
@[simp] theorem Device.bumpBy_sched (d : Device) (off : Nat) (f : Fld) (n : Nat) : (d.bumpBy off f n).sched = d.sched := (rfl)
@[simp] theorem Device.bumpBy_cells (d : Device) (off : Nat) (f : Fld) (n : Nat) : (d.bumpBy off f n).cells = d.cells := (rfl)
@[simp] theorem Device.bumpBy_out (d : Device) (off : Nat) (f : Fld) (n : Nat) : (d.bumpBy off f n).out = d.out := (rfl)
@[simp] theorem Device.bumpBy_fresh (d : Device) (off : Nat) (f : Fld) (n : Nat) : (d.bumpBy off f n).fresh = d.fresh := (rfl)
@[simp] theorem Device.count_now (d : Device) (off w n : Nat) : (d.count off w n).now = d.now := (rfl)
@[simp] theorem Device.count_mem (d : Device) (off w n : Nat) : (d.count off w n).mem = d.mem := (rfl)
@[simp] theorem Device.count_poison (d : Device) (off w n : Nat) : (d.count off w n).poison = d.poison := (rfl)
@[simp] theorem Device.count_board (d : Device) (off w n : Nat) : (d.count off w n).board = d.board := (rfl)
@[simp] theorem Device.count_time (d : Device) (off w n : Nat) : (d.count off w n).time = d.time := (rfl)
@[simp] theorem Device.count_host (d : Device) (off w n : Nat) : (d.count off w n).host = d.host := (rfl)
@[simp] theorem Device.count_fault (d : Device) (off w n : Nat) : (d.count off w n).fault = d.fault := (rfl)
@[simp] theorem Device.count_plan (d : Device) (off w n : Nat) : (d.count off w n).plan = d.plan := (rfl)
@[simp] theorem Device.count_link (d : Device) (off w n : Nat) : (d.count off w n).link = d.link := (rfl)
@[simp] theorem Device.count_memu (d : Device) (off w n : Nat) : (d.count off w n).memu = d.memu := (rfl)
@[simp] theorem Device.count_mgmt (d : Device) (off w n : Nat) : (d.count off w n).mgmt = d.mgmt := (rfl)
@[simp] theorem Device.count_flash (d : Device) (off w n : Nat) : (d.count off w n).flash = d.flash := (rfl)
@[simp] theorem Device.count_fuses (d : Device) (off w n : Nat) : (d.count off w n).fuses = d.fuses := (rfl)
@[simp] theorem Device.count_stn (d : Device) (off w n : Nat) : (d.count off w n).stn = d.stn := (rfl)
@[simp] theorem Device.count_pack (d : Device) (off w n : Nat) : (d.count off w n).pack = d.pack := (rfl)
@[simp] theorem Device.count_matchE (d : Device) (off w n : Nat) : (d.count off w n).matchE = d.matchE := (rfl)
@[simp] theorem Device.count_matchI (d : Device) (off w n : Nat) : (d.count off w n).matchI = d.matchI := (rfl)
@[simp] theorem Device.count_sel (d : Device) (off w n : Nat) : (d.count off w n).sel = d.sel := (rfl)
@[simp] theorem Device.count_emb (d : Device) (off w n : Nat) : (d.count off w n).emb = d.emb := (rfl)
@[simp] theorem Device.count_arr (d : Device) (off w n : Nat) : (d.count off w n).arr = d.arr := (rfl)
@[simp] theorem Device.count_str (d : Device) (off w n : Nat) : (d.count off w n).str = d.str := (rfl)
@[simp] theorem Device.count_sched (d : Device) (off w n : Nat) : (d.count off w n).sched = d.sched := (rfl)
@[simp] theorem Device.count_cells (d : Device) (off w n : Nat) : (d.count off w n).cells = d.cells := (rfl)
@[simp] theorem Device.count_out (d : Device) (off w n : Nat) : (d.count off w n).out = d.out := (rfl)
@[simp] theorem Device.count_fresh (d : Device) (off w n : Nat) : (d.count off w n).fresh = d.fresh := (rfl)
@[simp] theorem Device.write_now (d : Device) (a : Nat) (bs : List Byte) : (d.write a bs).now = d.now := (rfl)
@[simp] theorem Device.write_regs (d : Device) (a : Nat) (bs : List Byte) : (d.write a bs).regs = d.regs := (rfl)
@[simp] theorem Device.write_board (d : Device) (a : Nat) (bs : List Byte) : (d.write a bs).board = d.board := (rfl)
@[simp] theorem Device.write_time (d : Device) (a : Nat) (bs : List Byte) : (d.write a bs).time = d.time := (rfl)
@[simp] theorem Device.write_host (d : Device) (a : Nat) (bs : List Byte) : (d.write a bs).host = d.host := (rfl)
@[simp] theorem Device.write_fault (d : Device) (a : Nat) (bs : List Byte) : (d.write a bs).fault = d.fault := (rfl)
@[simp] theorem Device.write_plan (d : Device) (a : Nat) (bs : List Byte) : (d.write a bs).plan = d.plan := (rfl)
@[simp] theorem Device.write_link (d : Device) (a : Nat) (bs : List Byte) : (d.write a bs).link = d.link := (rfl)
@[simp] theorem Device.write_memu (d : Device) (a : Nat) (bs : List Byte) : (d.write a bs).memu = d.memu := (rfl)
@[simp] theorem Device.write_mgmt (d : Device) (a : Nat) (bs : List Byte) : (d.write a bs).mgmt = d.mgmt := (rfl)
@[simp] theorem Device.write_flash (d : Device) (a : Nat) (bs : List Byte) : (d.write a bs).flash = d.flash := (rfl)
@[simp] theorem Device.write_fuses (d : Device) (a : Nat) (bs : List Byte) : (d.write a bs).fuses = d.fuses := (rfl)
@[simp] theorem Device.write_stn (d : Device) (a : Nat) (bs : List Byte) : (d.write a bs).stn = d.stn := (rfl)
@[simp] theorem Device.write_pack (d : Device) (a : Nat) (bs : List Byte) : (d.write a bs).pack = d.pack := (rfl)
@[simp] theorem Device.write_matchE (d : Device) (a : Nat) (bs : List Byte) : (d.write a bs).matchE = d.matchE := (rfl)
@[simp] theorem Device.write_matchI (d : Device) (a : Nat) (bs : List Byte) : (d.write a bs).matchI = d.matchI := (rfl)
@[simp] theorem Device.write_sel (d : Device) (a : Nat) (bs : List Byte) : (d.write a bs).sel = d.sel := (rfl)
@[simp] theorem Device.write_emb (d : Device) (a : Nat) (bs : List Byte) : (d.write a bs).emb = d.emb := (rfl)
@[simp] theorem Device.write_arr (d : Device) (a : Nat) (bs : List Byte) : (d.write a bs).arr = d.arr := (rfl)
@[simp] theorem Device.write_str (d : Device) (a : Nat) (bs : List Byte) : (d.write a bs).str = d.str := (rfl)
@[simp] theorem Device.write_sched (d : Device) (a : Nat) (bs : List Byte) : (d.write a bs).sched = d.sched := (rfl)
@[simp] theorem Device.write_cells (d : Device) (a : Nat) (bs : List Byte) : (d.write a bs).cells = d.cells := (rfl)
@[simp] theorem Device.write_out (d : Device) (a : Nat) (bs : List Byte) : (d.write a bs).out = d.out := (rfl)
@[simp] theorem Device.write_fresh (d : Device) (a : Nat) (bs : List Byte) : (d.write a bs).fresh = d.fresh := (rfl)
@[simp] theorem Device.poisonRange_now (d : Device) (a n : Nat) : (d.poisonRange a n).now = d.now := (rfl)
@[simp] theorem Device.poisonRange_regs (d : Device) (a n : Nat) : (d.poisonRange a n).regs = d.regs := (rfl)
@[simp] theorem Device.poisonRange_mem (d : Device) (a n : Nat) : (d.poisonRange a n).mem = d.mem := (rfl)
@[simp] theorem Device.poisonRange_board (d : Device) (a n : Nat) : (d.poisonRange a n).board = d.board := (rfl)
@[simp] theorem Device.poisonRange_time (d : Device) (a n : Nat) : (d.poisonRange a n).time = d.time := (rfl)
@[simp] theorem Device.poisonRange_host (d : Device) (a n : Nat) : (d.poisonRange a n).host = d.host := (rfl)
@[simp] theorem Device.poisonRange_fault (d : Device) (a n : Nat) : (d.poisonRange a n).fault = d.fault := (rfl)
@[simp] theorem Device.poisonRange_plan (d : Device) (a n : Nat) : (d.poisonRange a n).plan = d.plan := (rfl)
@[simp] theorem Device.poisonRange_link (d : Device) (a n : Nat) : (d.poisonRange a n).link = d.link := (rfl)
@[simp] theorem Device.poisonRange_memu (d : Device) (a n : Nat) : (d.poisonRange a n).memu = d.memu := (rfl)
@[simp] theorem Device.poisonRange_mgmt (d : Device) (a n : Nat) : (d.poisonRange a n).mgmt = d.mgmt := (rfl)
@[simp] theorem Device.poisonRange_flash (d : Device) (a n : Nat) : (d.poisonRange a n).flash = d.flash := (rfl)
@[simp] theorem Device.poisonRange_fuses (d : Device) (a n : Nat) : (d.poisonRange a n).fuses = d.fuses := (rfl)
@[simp] theorem Device.poisonRange_stn (d : Device) (a n : Nat) : (d.poisonRange a n).stn = d.stn := (rfl)
@[simp] theorem Device.poisonRange_pack (d : Device) (a n : Nat) : (d.poisonRange a n).pack = d.pack := (rfl)
@[simp] theorem Device.poisonRange_matchE (d : Device) (a n : Nat) : (d.poisonRange a n).matchE = d.matchE := (rfl)
@[simp] theorem Device.poisonRange_matchI (d : Device) (a n : Nat) : (d.poisonRange a n).matchI = d.matchI := (rfl)
@[simp] theorem Device.poisonRange_sel (d : Device) (a n : Nat) : (d.poisonRange a n).sel = d.sel := (rfl)
@[simp] theorem Device.poisonRange_emb (d : Device) (a n : Nat) : (d.poisonRange a n).emb = d.emb := (rfl)
@[simp] theorem Device.poisonRange_arr (d : Device) (a n : Nat) : (d.poisonRange a n).arr = d.arr := (rfl)
@[simp] theorem Device.poisonRange_str (d : Device) (a n : Nat) : (d.poisonRange a n).str = d.str := (rfl)
@[simp] theorem Device.poisonRange_sched (d : Device) (a n : Nat) : (d.poisonRange a n).sched = d.sched := (rfl)
@[simp] theorem Device.poisonRange_cells (d : Device) (a n : Nat) : (d.poisonRange a n).cells = d.cells := (rfl)
@[simp] theorem Device.poisonRange_out (d : Device) (a n : Nat) : (d.poisonRange a n).out = d.out := (rfl)
@[simp] theorem Device.poisonRange_fresh (d : Device) (a n : Nat) : (d.poisonRange a n).fresh = d.fresh := (rfl)
@[simp] theorem Device.at_regs (d : Device) (t : Nat) : (d.at t).regs = d.regs := (rfl)
@[simp] theorem Device.at_mem (d : Device) (t : Nat) : (d.at t).mem = d.mem := (rfl)
@[simp] theorem Device.at_poison (d : Device) (t : Nat) : (d.at t).poison = d.poison := (rfl)
@[simp] theorem Device.at_board (d : Device) (t : Nat) : (d.at t).board = d.board := (rfl)
@[simp] theorem Device.at_time (d : Device) (t : Nat) : (d.at t).time = d.time := (rfl)
@[simp] theorem Device.at_host (d : Device) (t : Nat) : (d.at t).host = d.host := (rfl)
@[simp] theorem Device.at_fault (d : Device) (t : Nat) : (d.at t).fault = d.fault := (rfl)
@[simp] theorem Device.at_plan (d : Device) (t : Nat) : (d.at t).plan = d.plan := (rfl)
@[simp] theorem Device.at_link (d : Device) (t : Nat) : (d.at t).link = d.link := (rfl)
@[simp] theorem Device.at_memu (d : Device) (t : Nat) : (d.at t).memu = d.memu := (rfl)
@[simp] theorem Device.at_mgmt (d : Device) (t : Nat) : (d.at t).mgmt = d.mgmt := (rfl)
@[simp] theorem Device.at_flash (d : Device) (t : Nat) : (d.at t).flash = d.flash := (rfl)
@[simp] theorem Device.at_fuses (d : Device) (t : Nat) : (d.at t).fuses = d.fuses := (rfl)
@[simp] theorem Device.at_stn (d : Device) (t : Nat) : (d.at t).stn = d.stn := (rfl)
@[simp] theorem Device.at_pack (d : Device) (t : Nat) : (d.at t).pack = d.pack := (rfl)
@[simp] theorem Device.at_matchE (d : Device) (t : Nat) : (d.at t).matchE = d.matchE := (rfl)
@[simp] theorem Device.at_matchI (d : Device) (t : Nat) : (d.at t).matchI = d.matchI := (rfl)
@[simp] theorem Device.at_sel (d : Device) (t : Nat) : (d.at t).sel = d.sel := (rfl)
@[simp] theorem Device.at_emb (d : Device) (t : Nat) : (d.at t).emb = d.emb := (rfl)
@[simp] theorem Device.at_arr (d : Device) (t : Nat) : (d.at t).arr = d.arr := (rfl)
@[simp] theorem Device.at_str (d : Device) (t : Nat) : (d.at t).str = d.str := (rfl)
@[simp] theorem Device.at_sched (d : Device) (t : Nat) : (d.at t).sched = d.sched := (rfl)
@[simp] theorem Device.at_cells (d : Device) (t : Nat) : (d.at t).cells = d.cells := (rfl)
@[simp] theorem Device.at_out (d : Device) (t : Nat) : (d.at t).out = d.out := (rfl)
@[simp] theorem Device.at_fresh (d : Device) (t : Nat) : (d.at t).fresh = d.fresh := (rfl)
@[simp] theorem Device.emit_now (d : Device) (o : Output) : (d.emit o).now = d.now := (rfl)
@[simp] theorem Device.emit_regs (d : Device) (o : Output) : (d.emit o).regs = d.regs := (rfl)
@[simp] theorem Device.emit_mem (d : Device) (o : Output) : (d.emit o).mem = d.mem := (rfl)
@[simp] theorem Device.emit_poison (d : Device) (o : Output) : (d.emit o).poison = d.poison := (rfl)
@[simp] theorem Device.emit_board (d : Device) (o : Output) : (d.emit o).board = d.board := (rfl)
@[simp] theorem Device.emit_time (d : Device) (o : Output) : (d.emit o).time = d.time := (rfl)
@[simp] theorem Device.emit_host (d : Device) (o : Output) : (d.emit o).host = d.host := (rfl)
@[simp] theorem Device.emit_fault (d : Device) (o : Output) : (d.emit o).fault = d.fault := (rfl)
@[simp] theorem Device.emit_plan (d : Device) (o : Output) : (d.emit o).plan = d.plan := (rfl)
@[simp] theorem Device.emit_link (d : Device) (o : Output) : (d.emit o).link = d.link := (rfl)
@[simp] theorem Device.emit_memu (d : Device) (o : Output) : (d.emit o).memu = d.memu := (rfl)
@[simp] theorem Device.emit_mgmt (d : Device) (o : Output) : (d.emit o).mgmt = d.mgmt := (rfl)
@[simp] theorem Device.emit_flash (d : Device) (o : Output) : (d.emit o).flash = d.flash := (rfl)
@[simp] theorem Device.emit_fuses (d : Device) (o : Output) : (d.emit o).fuses = d.fuses := (rfl)
@[simp] theorem Device.emit_stn (d : Device) (o : Output) : (d.emit o).stn = d.stn := (rfl)
@[simp] theorem Device.emit_pack (d : Device) (o : Output) : (d.emit o).pack = d.pack := (rfl)
@[simp] theorem Device.emit_matchE (d : Device) (o : Output) : (d.emit o).matchE = d.matchE := (rfl)
@[simp] theorem Device.emit_matchI (d : Device) (o : Output) : (d.emit o).matchI = d.matchI := (rfl)
@[simp] theorem Device.emit_sel (d : Device) (o : Output) : (d.emit o).sel = d.sel := (rfl)
@[simp] theorem Device.emit_emb (d : Device) (o : Output) : (d.emit o).emb = d.emb := (rfl)
@[simp] theorem Device.emit_arr (d : Device) (o : Output) : (d.emit o).arr = d.arr := (rfl)
@[simp] theorem Device.emit_str (d : Device) (o : Output) : (d.emit o).str = d.str := (rfl)
@[simp] theorem Device.emit_sched (d : Device) (o : Output) : (d.emit o).sched = d.sched := (rfl)
@[simp] theorem Device.emit_cells (d : Device) (o : Output) : (d.emit o).cells = d.cells := (rfl)
@[simp] theorem Device.emit_fresh (d : Device) (o : Output) : (d.emit o).fresh = d.fresh := (rfl)
@[simp] theorem Device.setCell_now (d : Device) (g : Nat) (c : Cell) : (d.setCell g c).now = d.now := (rfl)
@[simp] theorem Device.setCell_regs (d : Device) (g : Nat) (c : Cell) : (d.setCell g c).regs = d.regs := (rfl)
@[simp] theorem Device.setCell_mem (d : Device) (g : Nat) (c : Cell) : (d.setCell g c).mem = d.mem := (rfl)
@[simp] theorem Device.setCell_poison (d : Device) (g : Nat) (c : Cell) : (d.setCell g c).poison = d.poison := (rfl)
@[simp] theorem Device.setCell_board (d : Device) (g : Nat) (c : Cell) : (d.setCell g c).board = d.board := (rfl)
@[simp] theorem Device.setCell_time (d : Device) (g : Nat) (c : Cell) : (d.setCell g c).time = d.time := (rfl)
@[simp] theorem Device.setCell_host (d : Device) (g : Nat) (c : Cell) : (d.setCell g c).host = d.host := (rfl)
@[simp] theorem Device.setCell_fault (d : Device) (g : Nat) (c : Cell) : (d.setCell g c).fault = d.fault := (rfl)
@[simp] theorem Device.setCell_plan (d : Device) (g : Nat) (c : Cell) : (d.setCell g c).plan = d.plan := (rfl)
@[simp] theorem Device.setCell_link (d : Device) (g : Nat) (c : Cell) : (d.setCell g c).link = d.link := (rfl)
@[simp] theorem Device.setCell_memu (d : Device) (g : Nat) (c : Cell) : (d.setCell g c).memu = d.memu := (rfl)
@[simp] theorem Device.setCell_mgmt (d : Device) (g : Nat) (c : Cell) : (d.setCell g c).mgmt = d.mgmt := (rfl)
@[simp] theorem Device.setCell_flash (d : Device) (g : Nat) (c : Cell) : (d.setCell g c).flash = d.flash := (rfl)
@[simp] theorem Device.setCell_fuses (d : Device) (g : Nat) (c : Cell) : (d.setCell g c).fuses = d.fuses := (rfl)
@[simp] theorem Device.setCell_stn (d : Device) (g : Nat) (c : Cell) : (d.setCell g c).stn = d.stn := (rfl)
@[simp] theorem Device.setCell_pack (d : Device) (g : Nat) (c : Cell) : (d.setCell g c).pack = d.pack := (rfl)
@[simp] theorem Device.setCell_matchE (d : Device) (g : Nat) (c : Cell) : (d.setCell g c).matchE = d.matchE := (rfl)
@[simp] theorem Device.setCell_matchI (d : Device) (g : Nat) (c : Cell) : (d.setCell g c).matchI = d.matchI := (rfl)
@[simp] theorem Device.setCell_sel (d : Device) (g : Nat) (c : Cell) : (d.setCell g c).sel = d.sel := (rfl)
@[simp] theorem Device.setCell_emb (d : Device) (g : Nat) (c : Cell) : (d.setCell g c).emb = d.emb := (rfl)
@[simp] theorem Device.setCell_arr (d : Device) (g : Nat) (c : Cell) : (d.setCell g c).arr = d.arr := (rfl)
@[simp] theorem Device.setCell_str (d : Device) (g : Nat) (c : Cell) : (d.setCell g c).str = d.str := (rfl)
@[simp] theorem Device.setCell_sched (d : Device) (g : Nat) (c : Cell) : (d.setCell g c).sched = d.sched := (rfl)
@[simp] theorem Device.setCell_out (d : Device) (g : Nat) (c : Cell) : (d.setCell g c).out = d.out := (rfl)
@[simp] theorem Device.setCell_fresh (d : Device) (g : Nat) (c : Cell) : (d.setCell g c).fresh = d.fresh := (rfl)
@[simp] theorem Device.setGate_now (d : Device) (k : Nat) (g : Gate) : (d.setGate k g).now = d.now := (rfl)
@[simp] theorem Device.setGate_regs (d : Device) (k : Nat) (g : Gate) : (d.setGate k g).regs = d.regs := (rfl)
@[simp] theorem Device.setGate_mem (d : Device) (k : Nat) (g : Gate) : (d.setGate k g).mem = d.mem := (rfl)
@[simp] theorem Device.setGate_poison (d : Device) (k : Nat) (g : Gate) : (d.setGate k g).poison = d.poison := (rfl)
@[simp] theorem Device.setGate_board (d : Device) (k : Nat) (g : Gate) : (d.setGate k g).board = d.board := (rfl)
@[simp] theorem Device.setGate_time (d : Device) (k : Nat) (g : Gate) : (d.setGate k g).time = d.time := (rfl)
@[simp] theorem Device.setGate_host (d : Device) (k : Nat) (g : Gate) : (d.setGate k g).host = d.host := (rfl)
@[simp] theorem Device.setGate_fault (d : Device) (k : Nat) (g : Gate) : (d.setGate k g).fault = d.fault := (rfl)
@[simp] theorem Device.setGate_plan (d : Device) (k : Nat) (g : Gate) : (d.setGate k g).plan = d.plan := (rfl)
@[simp] theorem Device.setGate_link (d : Device) (k : Nat) (g : Gate) : (d.setGate k g).link = d.link := (rfl)
@[simp] theorem Device.setGate_memu (d : Device) (k : Nat) (g : Gate) : (d.setGate k g).memu = d.memu := (rfl)
@[simp] theorem Device.setGate_mgmt (d : Device) (k : Nat) (g : Gate) : (d.setGate k g).mgmt = d.mgmt := (rfl)
@[simp] theorem Device.setGate_flash (d : Device) (k : Nat) (g : Gate) : (d.setGate k g).flash = d.flash := (rfl)
@[simp] theorem Device.setGate_fuses (d : Device) (k : Nat) (g : Gate) : (d.setGate k g).fuses = d.fuses := (rfl)
@[simp] theorem Device.setGate_stn (d : Device) (k : Nat) (g : Gate) : (d.setGate k g).stn = d.stn := (rfl)
@[simp] theorem Device.setGate_pack (d : Device) (k : Nat) (g : Gate) : (d.setGate k g).pack = d.pack := (rfl)
@[simp] theorem Device.setGate_matchE (d : Device) (k : Nat) (g : Gate) : (d.setGate k g).matchE = d.matchE := (rfl)
@[simp] theorem Device.setGate_matchI (d : Device) (k : Nat) (g : Gate) : (d.setGate k g).matchI = d.matchI := (rfl)
@[simp] theorem Device.setGate_sel (d : Device) (k : Nat) (g : Gate) : (d.setGate k g).sel = d.sel := (rfl)
@[simp] theorem Device.setGate_emb (d : Device) (k : Nat) (g : Gate) : (d.setGate k g).emb = d.emb := (rfl)
@[simp] theorem Device.setGate_arr (d : Device) (k : Nat) (g : Gate) : (d.setGate k g).arr = d.arr := (rfl)
@[simp] theorem Device.setGate_str (d : Device) (k : Nat) (g : Gate) : (d.setGate k g).str = d.str := (rfl)
@[simp] theorem Device.setGate_cells (d : Device) (k : Nat) (g : Gate) : (d.setGate k g).cells = d.cells := (rfl)
@[simp] theorem Device.setGate_out (d : Device) (k : Nat) (g : Gate) : (d.setGate k g).out = d.out := (rfl)
@[simp] theorem Device.setGate_fresh (d : Device) (k : Nat) (g : Gate) : (d.setGate k g).fresh = d.fresh := (rfl)
@[simp] theorem Device.setSync_now (d : Device) (obj v : Nat) : (d.setSync obj v).now = d.now := (rfl)
@[simp] theorem Device.setSync_regs (d : Device) (obj v : Nat) : (d.setSync obj v).regs = d.regs := (rfl)
@[simp] theorem Device.setSync_mem (d : Device) (obj v : Nat) : (d.setSync obj v).mem = d.mem := (rfl)
@[simp] theorem Device.setSync_poison (d : Device) (obj v : Nat) : (d.setSync obj v).poison = d.poison := (rfl)
@[simp] theorem Device.setSync_board (d : Device) (obj v : Nat) : (d.setSync obj v).board = d.board := (rfl)
@[simp] theorem Device.setSync_time (d : Device) (obj v : Nat) : (d.setSync obj v).time = d.time := (rfl)
@[simp] theorem Device.setSync_host (d : Device) (obj v : Nat) : (d.setSync obj v).host = d.host := (rfl)
@[simp] theorem Device.setSync_fault (d : Device) (obj v : Nat) : (d.setSync obj v).fault = d.fault := (rfl)
@[simp] theorem Device.setSync_plan (d : Device) (obj v : Nat) : (d.setSync obj v).plan = d.plan := (rfl)
@[simp] theorem Device.setSync_link (d : Device) (obj v : Nat) : (d.setSync obj v).link = d.link := (rfl)
@[simp] theorem Device.setSync_memu (d : Device) (obj v : Nat) : (d.setSync obj v).memu = d.memu := (rfl)
@[simp] theorem Device.setSync_mgmt (d : Device) (obj v : Nat) : (d.setSync obj v).mgmt = d.mgmt := (rfl)
@[simp] theorem Device.setSync_flash (d : Device) (obj v : Nat) : (d.setSync obj v).flash = d.flash := (rfl)
@[simp] theorem Device.setSync_fuses (d : Device) (obj v : Nat) : (d.setSync obj v).fuses = d.fuses := (rfl)
@[simp] theorem Device.setSync_stn (d : Device) (obj v : Nat) : (d.setSync obj v).stn = d.stn := (rfl)
@[simp] theorem Device.setSync_pack (d : Device) (obj v : Nat) : (d.setSync obj v).pack = d.pack := (rfl)
@[simp] theorem Device.setSync_matchE (d : Device) (obj v : Nat) : (d.setSync obj v).matchE = d.matchE := (rfl)
@[simp] theorem Device.setSync_matchI (d : Device) (obj v : Nat) : (d.setSync obj v).matchI = d.matchI := (rfl)
@[simp] theorem Device.setSync_sel (d : Device) (obj v : Nat) : (d.setSync obj v).sel = d.sel := (rfl)
@[simp] theorem Device.setSync_emb (d : Device) (obj v : Nat) : (d.setSync obj v).emb = d.emb := (rfl)
@[simp] theorem Device.setSync_arr (d : Device) (obj v : Nat) : (d.setSync obj v).arr = d.arr := (rfl)
@[simp] theorem Device.setSync_str (d : Device) (obj v : Nat) : (d.setSync obj v).str = d.str := (rfl)
@[simp] theorem Device.setSync_cells (d : Device) (obj v : Nat) : (d.setSync obj v).cells = d.cells := (rfl)
@[simp] theorem Device.setSync_out (d : Device) (obj v : Nat) : (d.setSync obj v).out = d.out := (rfl)
@[simp] theorem Device.setSync_fresh (d : Device) (obj v : Nat) : (d.setSync obj v).fresh = d.fresh := (rfl)
@[simp] theorem Device.addSyncOp_now (d : Device) (o : SyncOp) : (d.addSyncOp o).now = d.now := (rfl)
@[simp] theorem Device.addSyncOp_regs (d : Device) (o : SyncOp) : (d.addSyncOp o).regs = d.regs := (rfl)
@[simp] theorem Device.addSyncOp_mem (d : Device) (o : SyncOp) : (d.addSyncOp o).mem = d.mem := (rfl)
@[simp] theorem Device.addSyncOp_poison (d : Device) (o : SyncOp) : (d.addSyncOp o).poison = d.poison := (rfl)
@[simp] theorem Device.addSyncOp_board (d : Device) (o : SyncOp) : (d.addSyncOp o).board = d.board := (rfl)
@[simp] theorem Device.addSyncOp_time (d : Device) (o : SyncOp) : (d.addSyncOp o).time = d.time := (rfl)
@[simp] theorem Device.addSyncOp_host (d : Device) (o : SyncOp) : (d.addSyncOp o).host = d.host := (rfl)
@[simp] theorem Device.addSyncOp_fault (d : Device) (o : SyncOp) : (d.addSyncOp o).fault = d.fault := (rfl)
@[simp] theorem Device.addSyncOp_plan (d : Device) (o : SyncOp) : (d.addSyncOp o).plan = d.plan := (rfl)
@[simp] theorem Device.addSyncOp_link (d : Device) (o : SyncOp) : (d.addSyncOp o).link = d.link := (rfl)
@[simp] theorem Device.addSyncOp_memu (d : Device) (o : SyncOp) : (d.addSyncOp o).memu = d.memu := (rfl)
@[simp] theorem Device.addSyncOp_mgmt (d : Device) (o : SyncOp) : (d.addSyncOp o).mgmt = d.mgmt := (rfl)
@[simp] theorem Device.addSyncOp_flash (d : Device) (o : SyncOp) : (d.addSyncOp o).flash = d.flash := (rfl)
@[simp] theorem Device.addSyncOp_fuses (d : Device) (o : SyncOp) : (d.addSyncOp o).fuses = d.fuses := (rfl)
@[simp] theorem Device.addSyncOp_stn (d : Device) (o : SyncOp) : (d.addSyncOp o).stn = d.stn := (rfl)
@[simp] theorem Device.addSyncOp_pack (d : Device) (o : SyncOp) : (d.addSyncOp o).pack = d.pack := (rfl)
@[simp] theorem Device.addSyncOp_matchE (d : Device) (o : SyncOp) : (d.addSyncOp o).matchE = d.matchE := (rfl)
@[simp] theorem Device.addSyncOp_matchI (d : Device) (o : SyncOp) : (d.addSyncOp o).matchI = d.matchI := (rfl)
@[simp] theorem Device.addSyncOp_sel (d : Device) (o : SyncOp) : (d.addSyncOp o).sel = d.sel := (rfl)
@[simp] theorem Device.addSyncOp_emb (d : Device) (o : SyncOp) : (d.addSyncOp o).emb = d.emb := (rfl)
@[simp] theorem Device.addSyncOp_arr (d : Device) (o : SyncOp) : (d.addSyncOp o).arr = d.arr := (rfl)
@[simp] theorem Device.addSyncOp_str (d : Device) (o : SyncOp) : (d.addSyncOp o).str = d.str := (rfl)
@[simp] theorem Device.addSyncOp_cells (d : Device) (o : SyncOp) : (d.addSyncOp o).cells = d.cells := (rfl)
@[simp] theorem Device.addSyncOp_out (d : Device) (o : SyncOp) : (d.addSyncOp o).out = d.out := (rfl)
@[simp] theorem Device.addSyncOp_fresh (d : Device) (o : SyncOp) : (d.addSyncOp o).fresh = d.fresh := (rfl)
@[simp] theorem Device.setPack_now (d : Device) (die k : Nat) (p : PackInst) : (d.setPack die k p).now = d.now := (rfl)
@[simp] theorem Device.setPack_regs (d : Device) (die k : Nat) (p : PackInst) : (d.setPack die k p).regs = d.regs := (rfl)
@[simp] theorem Device.setPack_mem (d : Device) (die k : Nat) (p : PackInst) : (d.setPack die k p).mem = d.mem := (rfl)
@[simp] theorem Device.setPack_poison (d : Device) (die k : Nat) (p : PackInst) : (d.setPack die k p).poison = d.poison := (rfl)
@[simp] theorem Device.setPack_board (d : Device) (die k : Nat) (p : PackInst) : (d.setPack die k p).board = d.board := (rfl)
@[simp] theorem Device.setPack_time (d : Device) (die k : Nat) (p : PackInst) : (d.setPack die k p).time = d.time := (rfl)
@[simp] theorem Device.setPack_host (d : Device) (die k : Nat) (p : PackInst) : (d.setPack die k p).host = d.host := (rfl)
@[simp] theorem Device.setPack_fault (d : Device) (die k : Nat) (p : PackInst) : (d.setPack die k p).fault = d.fault := (rfl)
@[simp] theorem Device.setPack_plan (d : Device) (die k : Nat) (p : PackInst) : (d.setPack die k p).plan = d.plan := (rfl)
@[simp] theorem Device.setPack_link (d : Device) (die k : Nat) (p : PackInst) : (d.setPack die k p).link = d.link := (rfl)
@[simp] theorem Device.setPack_memu (d : Device) (die k : Nat) (p : PackInst) : (d.setPack die k p).memu = d.memu := (rfl)
@[simp] theorem Device.setPack_mgmt (d : Device) (die k : Nat) (p : PackInst) : (d.setPack die k p).mgmt = d.mgmt := (rfl)
@[simp] theorem Device.setPack_flash (d : Device) (die k : Nat) (p : PackInst) : (d.setPack die k p).flash = d.flash := (rfl)
@[simp] theorem Device.setPack_fuses (d : Device) (die k : Nat) (p : PackInst) : (d.setPack die k p).fuses = d.fuses := (rfl)
@[simp] theorem Device.setPack_stn (d : Device) (die k : Nat) (p : PackInst) : (d.setPack die k p).stn = d.stn := (rfl)
@[simp] theorem Device.setPack_matchE (d : Device) (die k : Nat) (p : PackInst) : (d.setPack die k p).matchE = d.matchE := (rfl)
@[simp] theorem Device.setPack_matchI (d : Device) (die k : Nat) (p : PackInst) : (d.setPack die k p).matchI = d.matchI := (rfl)
@[simp] theorem Device.setPack_sel (d : Device) (die k : Nat) (p : PackInst) : (d.setPack die k p).sel = d.sel := (rfl)
@[simp] theorem Device.setPack_emb (d : Device) (die k : Nat) (p : PackInst) : (d.setPack die k p).emb = d.emb := (rfl)
@[simp] theorem Device.setPack_arr (d : Device) (die k : Nat) (p : PackInst) : (d.setPack die k p).arr = d.arr := (rfl)
@[simp] theorem Device.setPack_str (d : Device) (die k : Nat) (p : PackInst) : (d.setPack die k p).str = d.str := (rfl)
@[simp] theorem Device.setPack_sched (d : Device) (die k : Nat) (p : PackInst) : (d.setPack die k p).sched = d.sched := (rfl)
@[simp] theorem Device.setPack_cells (d : Device) (die k : Nat) (p : PackInst) : (d.setPack die k p).cells = d.cells := (rfl)
@[simp] theorem Device.setPack_out (d : Device) (die k : Nat) (p : PackInst) : (d.setPack die k p).out = d.out := (rfl)
@[simp] theorem Device.setPack_fresh (d : Device) (die k : Nat) (p : PackInst) : (d.setPack die k p).fresh = d.fresh := (rfl)
@[simp] theorem Device.setEntry_now (d : Device) (n : Nat) (x : MatchEntry) : (d.setEntry n x).now = d.now := (rfl)
@[simp] theorem Device.setEntry_regs (d : Device) (n : Nat) (x : MatchEntry) : (d.setEntry n x).regs = d.regs := (rfl)
@[simp] theorem Device.setEntry_mem (d : Device) (n : Nat) (x : MatchEntry) : (d.setEntry n x).mem = d.mem := (rfl)
@[simp] theorem Device.setEntry_poison (d : Device) (n : Nat) (x : MatchEntry) : (d.setEntry n x).poison = d.poison := (rfl)
@[simp] theorem Device.setEntry_board (d : Device) (n : Nat) (x : MatchEntry) : (d.setEntry n x).board = d.board := (rfl)
@[simp] theorem Device.setEntry_time (d : Device) (n : Nat) (x : MatchEntry) : (d.setEntry n x).time = d.time := (rfl)
@[simp] theorem Device.setEntry_host (d : Device) (n : Nat) (x : MatchEntry) : (d.setEntry n x).host = d.host := (rfl)
@[simp] theorem Device.setEntry_fault (d : Device) (n : Nat) (x : MatchEntry) : (d.setEntry n x).fault = d.fault := (rfl)
@[simp] theorem Device.setEntry_plan (d : Device) (n : Nat) (x : MatchEntry) : (d.setEntry n x).plan = d.plan := (rfl)
@[simp] theorem Device.setEntry_link (d : Device) (n : Nat) (x : MatchEntry) : (d.setEntry n x).link = d.link := (rfl)
@[simp] theorem Device.setEntry_memu (d : Device) (n : Nat) (x : MatchEntry) : (d.setEntry n x).memu = d.memu := (rfl)
@[simp] theorem Device.setEntry_mgmt (d : Device) (n : Nat) (x : MatchEntry) : (d.setEntry n x).mgmt = d.mgmt := (rfl)
@[simp] theorem Device.setEntry_flash (d : Device) (n : Nat) (x : MatchEntry) : (d.setEntry n x).flash = d.flash := (rfl)
@[simp] theorem Device.setEntry_fuses (d : Device) (n : Nat) (x : MatchEntry) : (d.setEntry n x).fuses = d.fuses := (rfl)
@[simp] theorem Device.setEntry_stn (d : Device) (n : Nat) (x : MatchEntry) : (d.setEntry n x).stn = d.stn := (rfl)
@[simp] theorem Device.setEntry_pack (d : Device) (n : Nat) (x : MatchEntry) : (d.setEntry n x).pack = d.pack := (rfl)
@[simp] theorem Device.setEntry_matchI (d : Device) (n : Nat) (x : MatchEntry) : (d.setEntry n x).matchI = d.matchI := (rfl)
@[simp] theorem Device.setEntry_sel (d : Device) (n : Nat) (x : MatchEntry) : (d.setEntry n x).sel = d.sel := (rfl)
@[simp] theorem Device.setEntry_emb (d : Device) (n : Nat) (x : MatchEntry) : (d.setEntry n x).emb = d.emb := (rfl)
@[simp] theorem Device.setEntry_arr (d : Device) (n : Nat) (x : MatchEntry) : (d.setEntry n x).arr = d.arr := (rfl)
@[simp] theorem Device.setEntry_str (d : Device) (n : Nat) (x : MatchEntry) : (d.setEntry n x).str = d.str := (rfl)
@[simp] theorem Device.setEntry_sched (d : Device) (n : Nat) (x : MatchEntry) : (d.setEntry n x).sched = d.sched := (rfl)
@[simp] theorem Device.setEntry_cells (d : Device) (n : Nat) (x : MatchEntry) : (d.setEntry n x).cells = d.cells := (rfl)
@[simp] theorem Device.setEntry_out (d : Device) (n : Nat) (x : MatchEntry) : (d.setEntry n x).out = d.out := (rfl)
@[simp] theorem Device.setEntry_fresh (d : Device) (n : Nat) (x : MatchEntry) : (d.setEntry n x).fresh = d.fresh := (rfl)
@[simp] theorem Device.setGang_now (d : Device) (die k : Nat) (g : MatchInst) : (d.setGang die k g).now = d.now := (rfl)
@[simp] theorem Device.setGang_regs (d : Device) (die k : Nat) (g : MatchInst) : (d.setGang die k g).regs = d.regs := (rfl)
@[simp] theorem Device.setGang_mem (d : Device) (die k : Nat) (g : MatchInst) : (d.setGang die k g).mem = d.mem := (rfl)
@[simp] theorem Device.setGang_poison (d : Device) (die k : Nat) (g : MatchInst) : (d.setGang die k g).poison = d.poison := (rfl)
@[simp] theorem Device.setGang_board (d : Device) (die k : Nat) (g : MatchInst) : (d.setGang die k g).board = d.board := (rfl)
@[simp] theorem Device.setGang_time (d : Device) (die k : Nat) (g : MatchInst) : (d.setGang die k g).time = d.time := (rfl)
@[simp] theorem Device.setGang_host (d : Device) (die k : Nat) (g : MatchInst) : (d.setGang die k g).host = d.host := (rfl)
@[simp] theorem Device.setGang_fault (d : Device) (die k : Nat) (g : MatchInst) : (d.setGang die k g).fault = d.fault := (rfl)
@[simp] theorem Device.setGang_plan (d : Device) (die k : Nat) (g : MatchInst) : (d.setGang die k g).plan = d.plan := (rfl)
@[simp] theorem Device.setGang_link (d : Device) (die k : Nat) (g : MatchInst) : (d.setGang die k g).link = d.link := (rfl)
@[simp] theorem Device.setGang_memu (d : Device) (die k : Nat) (g : MatchInst) : (d.setGang die k g).memu = d.memu := (rfl)
@[simp] theorem Device.setGang_mgmt (d : Device) (die k : Nat) (g : MatchInst) : (d.setGang die k g).mgmt = d.mgmt := (rfl)
@[simp] theorem Device.setGang_flash (d : Device) (die k : Nat) (g : MatchInst) : (d.setGang die k g).flash = d.flash := (rfl)
@[simp] theorem Device.setGang_fuses (d : Device) (die k : Nat) (g : MatchInst) : (d.setGang die k g).fuses = d.fuses := (rfl)
@[simp] theorem Device.setGang_stn (d : Device) (die k : Nat) (g : MatchInst) : (d.setGang die k g).stn = d.stn := (rfl)
@[simp] theorem Device.setGang_pack (d : Device) (die k : Nat) (g : MatchInst) : (d.setGang die k g).pack = d.pack := (rfl)
@[simp] theorem Device.setGang_matchE (d : Device) (die k : Nat) (g : MatchInst) : (d.setGang die k g).matchE = d.matchE := (rfl)
@[simp] theorem Device.setGang_sel (d : Device) (die k : Nat) (g : MatchInst) : (d.setGang die k g).sel = d.sel := (rfl)
@[simp] theorem Device.setGang_emb (d : Device) (die k : Nat) (g : MatchInst) : (d.setGang die k g).emb = d.emb := (rfl)
@[simp] theorem Device.setGang_arr (d : Device) (die k : Nat) (g : MatchInst) : (d.setGang die k g).arr = d.arr := (rfl)
@[simp] theorem Device.setGang_str (d : Device) (die k : Nat) (g : MatchInst) : (d.setGang die k g).str = d.str := (rfl)
@[simp] theorem Device.setGang_sched (d : Device) (die k : Nat) (g : MatchInst) : (d.setGang die k g).sched = d.sched := (rfl)
@[simp] theorem Device.setGang_cells (d : Device) (die k : Nat) (g : MatchInst) : (d.setGang die k g).cells = d.cells := (rfl)
@[simp] theorem Device.setGang_out (d : Device) (die k : Nat) (g : MatchInst) : (d.setGang die k g).out = d.out := (rfl)
@[simp] theorem Device.setGang_fresh (d : Device) (die k : Nat) (g : MatchInst) : (d.setGang die k g).fresh = d.fresh := (rfl)
@[simp] theorem Device.setSelRows_now (d : Device) (key : Nat) (l : List SelRow) : (d.setSelRows key l).now = d.now := (rfl)
@[simp] theorem Device.setSelRows_regs (d : Device) (key : Nat) (l : List SelRow) : (d.setSelRows key l).regs = d.regs := (rfl)
@[simp] theorem Device.setSelRows_mem (d : Device) (key : Nat) (l : List SelRow) : (d.setSelRows key l).mem = d.mem := (rfl)
@[simp] theorem Device.setSelRows_poison (d : Device) (key : Nat) (l : List SelRow) : (d.setSelRows key l).poison = d.poison := (rfl)
@[simp] theorem Device.setSelRows_board (d : Device) (key : Nat) (l : List SelRow) : (d.setSelRows key l).board = d.board := (rfl)
@[simp] theorem Device.setSelRows_time (d : Device) (key : Nat) (l : List SelRow) : (d.setSelRows key l).time = d.time := (rfl)
@[simp] theorem Device.setSelRows_host (d : Device) (key : Nat) (l : List SelRow) : (d.setSelRows key l).host = d.host := (rfl)
@[simp] theorem Device.setSelRows_fault (d : Device) (key : Nat) (l : List SelRow) : (d.setSelRows key l).fault = d.fault := (rfl)
@[simp] theorem Device.setSelRows_plan (d : Device) (key : Nat) (l : List SelRow) : (d.setSelRows key l).plan = d.plan := (rfl)
@[simp] theorem Device.setSelRows_link (d : Device) (key : Nat) (l : List SelRow) : (d.setSelRows key l).link = d.link := (rfl)
@[simp] theorem Device.setSelRows_memu (d : Device) (key : Nat) (l : List SelRow) : (d.setSelRows key l).memu = d.memu := (rfl)
@[simp] theorem Device.setSelRows_mgmt (d : Device) (key : Nat) (l : List SelRow) : (d.setSelRows key l).mgmt = d.mgmt := (rfl)
@[simp] theorem Device.setSelRows_flash (d : Device) (key : Nat) (l : List SelRow) : (d.setSelRows key l).flash = d.flash := (rfl)
@[simp] theorem Device.setSelRows_fuses (d : Device) (key : Nat) (l : List SelRow) : (d.setSelRows key l).fuses = d.fuses := (rfl)
@[simp] theorem Device.setSelRows_stn (d : Device) (key : Nat) (l : List SelRow) : (d.setSelRows key l).stn = d.stn := (rfl)
@[simp] theorem Device.setSelRows_pack (d : Device) (key : Nat) (l : List SelRow) : (d.setSelRows key l).pack = d.pack := (rfl)
@[simp] theorem Device.setSelRows_matchE (d : Device) (key : Nat) (l : List SelRow) : (d.setSelRows key l).matchE = d.matchE := (rfl)
@[simp] theorem Device.setSelRows_matchI (d : Device) (key : Nat) (l : List SelRow) : (d.setSelRows key l).matchI = d.matchI := (rfl)
@[simp] theorem Device.setSelRows_emb (d : Device) (key : Nat) (l : List SelRow) : (d.setSelRows key l).emb = d.emb := (rfl)
@[simp] theorem Device.setSelRows_arr (d : Device) (key : Nat) (l : List SelRow) : (d.setSelRows key l).arr = d.arr := (rfl)
@[simp] theorem Device.setSelRows_str (d : Device) (key : Nat) (l : List SelRow) : (d.setSelRows key l).str = d.str := (rfl)
@[simp] theorem Device.setSelRows_sched (d : Device) (key : Nat) (l : List SelRow) : (d.setSelRows key l).sched = d.sched := (rfl)
@[simp] theorem Device.setSelRows_cells (d : Device) (key : Nat) (l : List SelRow) : (d.setSelRows key l).cells = d.cells := (rfl)
@[simp] theorem Device.setSelRows_out (d : Device) (key : Nat) (l : List SelRow) : (d.setSelRows key l).out = d.out := (rfl)
@[simp] theorem Device.setSelRows_fresh (d : Device) (key : Nat) (l : List SelRow) : (d.setSelRows key l).fresh = d.fresh := (rfl)
@[simp] theorem Device.setEmb_now (d : Device) (key : Nat) (e : EmbTable) : (d.setEmb key e).now = d.now := (rfl)
@[simp] theorem Device.setEmb_regs (d : Device) (key : Nat) (e : EmbTable) : (d.setEmb key e).regs = d.regs := (rfl)
@[simp] theorem Device.setEmb_mem (d : Device) (key : Nat) (e : EmbTable) : (d.setEmb key e).mem = d.mem := (rfl)
@[simp] theorem Device.setEmb_poison (d : Device) (key : Nat) (e : EmbTable) : (d.setEmb key e).poison = d.poison := (rfl)
@[simp] theorem Device.setEmb_board (d : Device) (key : Nat) (e : EmbTable) : (d.setEmb key e).board = d.board := (rfl)
@[simp] theorem Device.setEmb_time (d : Device) (key : Nat) (e : EmbTable) : (d.setEmb key e).time = d.time := (rfl)
@[simp] theorem Device.setEmb_host (d : Device) (key : Nat) (e : EmbTable) : (d.setEmb key e).host = d.host := (rfl)
@[simp] theorem Device.setEmb_fault (d : Device) (key : Nat) (e : EmbTable) : (d.setEmb key e).fault = d.fault := (rfl)
@[simp] theorem Device.setEmb_plan (d : Device) (key : Nat) (e : EmbTable) : (d.setEmb key e).plan = d.plan := (rfl)
@[simp] theorem Device.setEmb_link (d : Device) (key : Nat) (e : EmbTable) : (d.setEmb key e).link = d.link := (rfl)
@[simp] theorem Device.setEmb_memu (d : Device) (key : Nat) (e : EmbTable) : (d.setEmb key e).memu = d.memu := (rfl)
@[simp] theorem Device.setEmb_mgmt (d : Device) (key : Nat) (e : EmbTable) : (d.setEmb key e).mgmt = d.mgmt := (rfl)
@[simp] theorem Device.setEmb_flash (d : Device) (key : Nat) (e : EmbTable) : (d.setEmb key e).flash = d.flash := (rfl)
@[simp] theorem Device.setEmb_fuses (d : Device) (key : Nat) (e : EmbTable) : (d.setEmb key e).fuses = d.fuses := (rfl)
@[simp] theorem Device.setEmb_stn (d : Device) (key : Nat) (e : EmbTable) : (d.setEmb key e).stn = d.stn := (rfl)
@[simp] theorem Device.setEmb_pack (d : Device) (key : Nat) (e : EmbTable) : (d.setEmb key e).pack = d.pack := (rfl)
@[simp] theorem Device.setEmb_matchE (d : Device) (key : Nat) (e : EmbTable) : (d.setEmb key e).matchE = d.matchE := (rfl)
@[simp] theorem Device.setEmb_matchI (d : Device) (key : Nat) (e : EmbTable) : (d.setEmb key e).matchI = d.matchI := (rfl)
@[simp] theorem Device.setEmb_sel (d : Device) (key : Nat) (e : EmbTable) : (d.setEmb key e).sel = d.sel := (rfl)
@[simp] theorem Device.setEmb_arr (d : Device) (key : Nat) (e : EmbTable) : (d.setEmb key e).arr = d.arr := (rfl)
@[simp] theorem Device.setEmb_str (d : Device) (key : Nat) (e : EmbTable) : (d.setEmb key e).str = d.str := (rfl)
@[simp] theorem Device.setEmb_sched (d : Device) (key : Nat) (e : EmbTable) : (d.setEmb key e).sched = d.sched := (rfl)
@[simp] theorem Device.setEmb_cells (d : Device) (key : Nat) (e : EmbTable) : (d.setEmb key e).cells = d.cells := (rfl)
@[simp] theorem Device.setEmb_out (d : Device) (key : Nat) (e : EmbTable) : (d.setEmb key e).out = d.out := (rfl)
@[simp] theorem Device.setEmb_fresh (d : Device) (key : Nat) (e : EmbTable) : (d.setEmb key e).fresh = d.fresh := (rfl)
@[simp] theorem Device.setArr_now (d : Device) (key : Nat) (a : ArrJob) : (d.setArr key a).now = d.now := (rfl)
@[simp] theorem Device.setArr_regs (d : Device) (key : Nat) (a : ArrJob) : (d.setArr key a).regs = d.regs := (rfl)
@[simp] theorem Device.setArr_mem (d : Device) (key : Nat) (a : ArrJob) : (d.setArr key a).mem = d.mem := (rfl)
@[simp] theorem Device.setArr_poison (d : Device) (key : Nat) (a : ArrJob) : (d.setArr key a).poison = d.poison := (rfl)
@[simp] theorem Device.setArr_board (d : Device) (key : Nat) (a : ArrJob) : (d.setArr key a).board = d.board := (rfl)
@[simp] theorem Device.setArr_time (d : Device) (key : Nat) (a : ArrJob) : (d.setArr key a).time = d.time := (rfl)
@[simp] theorem Device.setArr_host (d : Device) (key : Nat) (a : ArrJob) : (d.setArr key a).host = d.host := (rfl)
@[simp] theorem Device.setArr_fault (d : Device) (key : Nat) (a : ArrJob) : (d.setArr key a).fault = d.fault := (rfl)
@[simp] theorem Device.setArr_plan (d : Device) (key : Nat) (a : ArrJob) : (d.setArr key a).plan = d.plan := (rfl)
@[simp] theorem Device.setArr_link (d : Device) (key : Nat) (a : ArrJob) : (d.setArr key a).link = d.link := (rfl)
@[simp] theorem Device.setArr_memu (d : Device) (key : Nat) (a : ArrJob) : (d.setArr key a).memu = d.memu := (rfl)
@[simp] theorem Device.setArr_mgmt (d : Device) (key : Nat) (a : ArrJob) : (d.setArr key a).mgmt = d.mgmt := (rfl)
@[simp] theorem Device.setArr_flash (d : Device) (key : Nat) (a : ArrJob) : (d.setArr key a).flash = d.flash := (rfl)
@[simp] theorem Device.setArr_fuses (d : Device) (key : Nat) (a : ArrJob) : (d.setArr key a).fuses = d.fuses := (rfl)
@[simp] theorem Device.setArr_stn (d : Device) (key : Nat) (a : ArrJob) : (d.setArr key a).stn = d.stn := (rfl)
@[simp] theorem Device.setArr_pack (d : Device) (key : Nat) (a : ArrJob) : (d.setArr key a).pack = d.pack := (rfl)
@[simp] theorem Device.setArr_matchE (d : Device) (key : Nat) (a : ArrJob) : (d.setArr key a).matchE = d.matchE := (rfl)
@[simp] theorem Device.setArr_matchI (d : Device) (key : Nat) (a : ArrJob) : (d.setArr key a).matchI = d.matchI := (rfl)
@[simp] theorem Device.setArr_sel (d : Device) (key : Nat) (a : ArrJob) : (d.setArr key a).sel = d.sel := (rfl)
@[simp] theorem Device.setArr_emb (d : Device) (key : Nat) (a : ArrJob) : (d.setArr key a).emb = d.emb := (rfl)
@[simp] theorem Device.setArr_str (d : Device) (key : Nat) (a : ArrJob) : (d.setArr key a).str = d.str := (rfl)
@[simp] theorem Device.setArr_sched (d : Device) (key : Nat) (a : ArrJob) : (d.setArr key a).sched = d.sched := (rfl)
@[simp] theorem Device.setArr_cells (d : Device) (key : Nat) (a : ArrJob) : (d.setArr key a).cells = d.cells := (rfl)
@[simp] theorem Device.setArr_out (d : Device) (key : Nat) (a : ArrJob) : (d.setArr key a).out = d.out := (rfl)
@[simp] theorem Device.setArr_fresh (d : Device) (key : Nat) (a : ArrJob) : (d.setArr key a).fresh = d.fresh := (rfl)

end Sys2Proof.Machine
end

