-- ==== Sys2Proof/Laws/Ops.lean ====
section
/-!
SUPPORT. What the shared operations can do: every meaning ends in a next state; what a refusal, a record, an interrupt and a message leave
unchanged.
-/

namespace Sys2Proof.Machine

/-- A meaning built by `upd` answers a next state: the device in reset stays as it is. -/
theorem State.upd_eq (s : State) (f : Device → Device) :
    s.upd f = .next { s with dev := if s.dev.inReset then s.dev else f s.dev } := rfl

theorem State.updAny_eq (s : State) (f : Device → Device) : s.updAny f = .next { s with dev := f s.dev } := rfl

theorem State.upd_running {s : State} (f : Device → Device) (h : s.dev.inReset = false) : s.upd f = .next { s with dev := f s.dev } := by
  rw [State.upd_eq, h]; rfl

theorem State.upd_inReset {s : State} (f : Device → Device) (h : s.dev.inReset = true) : s.upd f = .next s := by
  rw [State.upd_eq, h]; rfl

theorem State.cmd_eq (s : State) (m : MsgRef) (opcode : Nat) (is : List Byte → Bool) (f : Device → Device) :
    s.cmd m opcode is f = .next { s with dev := if s.dev.inReset then s.dev else if s.dev.turn m opcode is then f s.dev else s.dev } := rfl

theorem State.cmd_running {s : State} {m : MsgRef} {opcode : Nat} {is : List Byte → Bool} (f : Device → Device) (h : s.dev.inReset = false)
    (ht : s.dev.turn m opcode is = true) : s.cmd m opcode is f = .next { s with dev := f s.dev } := by
  rw [State.cmd_eq, h, ht]; rfl

/-- A command that is not the first of its class queue does nothing. -/
theorem State.cmd_waits {s : State} {m : MsgRef} {opcode : Nat} {is : List Byte → Bool} (f : Device → Device) (ht : s.dev.turn m opcode is = false) :
    s.cmd m opcode is f = .next s := by
  rw [State.cmd_eq, ht]; cases h : s.dev.inReset <;> rfl

@[simp] theorem Device.signal_now (d : Device) (v : Nat) : (d.signal v).now = d.now := by 
  unfold Device.signal; split
  · rfl
  · split <;> rfl
@[simp] theorem Device.signal_regs (d : Device) (v : Nat) : (d.signal v).regs = d.regs := by 
  unfold Device.signal; split
  · rfl
  · split <;> rfl
@[simp] theorem Device.signal_mem (d : Device) (v : Nat) : (d.signal v).mem = d.mem := by 
  unfold Device.signal; split
  · rfl
  · split <;> rfl
@[simp] theorem Device.signal_poison (d : Device) (v : Nat) : (d.signal v).poison = d.poison := by 
  unfold Device.signal; split
  · rfl
  · split <;> rfl
@[simp] theorem Device.signal_board (d : Device) (v : Nat) : (d.signal v).board = d.board := by 
  unfold Device.signal; split
  · rfl
  · split <;> rfl
@[simp] theorem Device.signal_time (d : Device) (v : Nat) : (d.signal v).time = d.time := by 
  unfold Device.signal; split
  · rfl
  · split <;> rfl
@[simp] theorem Device.signal_fault (d : Device) (v : Nat) : (d.signal v).fault = d.fault := by 
  unfold Device.signal; split
  · rfl
  · split <;> rfl
@[simp] theorem Device.signal_plan (d : Device) (v : Nat) : (d.signal v).plan = d.plan := by 
  unfold Device.signal; split
  · rfl
  · split <;> rfl
@[simp] theorem Device.signal_link (d : Device) (v : Nat) : (d.signal v).link = d.link := by 
  unfold Device.signal; split
  · rfl
  · split <;> rfl
@[simp] theorem Device.signal_memu (d : Device) (v : Nat) : (d.signal v).memu = d.memu := by 
  unfold Device.signal; split
  · rfl
  · split <;> rfl
@[simp] theorem Device.signal_mgmt (d : Device) (v : Nat) : (d.signal v).mgmt = d.mgmt := by 
  unfold Device.signal; split
  · rfl
  · split <;> rfl
@[simp] theorem Device.signal_flash (d : Device) (v : Nat) : (d.signal v).flash = d.flash := by 
  unfold Device.signal; split
  · rfl
  · split <;> rfl
@[simp] theorem Device.signal_fuses (d : Device) (v : Nat) : (d.signal v).fuses = d.fuses := by 
  unfold Device.signal; split
  · rfl
  · split <;> rfl
@[simp] theorem Device.signal_stn (d : Device) (v : Nat) : (d.signal v).stn = d.stn := by 
  unfold Device.signal; split
  · rfl
  · split <;> rfl
@[simp] theorem Device.signal_pack (d : Device) (v : Nat) : (d.signal v).pack = d.pack := by 
  unfold Device.signal; split
  · rfl
  · split <;> rfl
@[simp] theorem Device.signal_matchE (d : Device) (v : Nat) : (d.signal v).matchE = d.matchE := by 
  unfold Device.signal; split
  · rfl
  · split <;> rfl
@[simp] theorem Device.signal_matchI (d : Device) (v : Nat) : (d.signal v).matchI = d.matchI := by 
  unfold Device.signal; split
  · rfl
  · split <;> rfl
@[simp] theorem Device.signal_sel (d : Device) (v : Nat) : (d.signal v).sel = d.sel := by 
  unfold Device.signal; split
  · rfl
  · split <;> rfl
@[simp] theorem Device.signal_emb (d : Device) (v : Nat) : (d.signal v).emb = d.emb := by 
  unfold Device.signal; split
  · rfl
  · split <;> rfl
@[simp] theorem Device.signal_arr (d : Device) (v : Nat) : (d.signal v).arr = d.arr := by 
  unfold Device.signal; split
  · rfl
  · split <;> rfl
@[simp] theorem Device.signal_str (d : Device) (v : Nat) : (d.signal v).str = d.str := by 
  unfold Device.signal; split
  · rfl
  · split <;> rfl
@[simp] theorem Device.signal_sched (d : Device) (v : Nat) : (d.signal v).sched = d.sched := by 
  unfold Device.signal; split
  · rfl
  · split <;> rfl
@[simp] theorem Device.signal_cells (d : Device) (v : Nat) : (d.signal v).cells = d.cells := by 
  unfold Device.signal; split
  · rfl
  · split <;> rfl
@[simp] theorem Device.signal_fresh (d : Device) (v : Nat) : (d.signal v).fresh = d.fresh := by 
  unfold Device.signal; split
  · rfl
  · split <;> rfl

@[simp] theorem Device.refuseAt_now (d : Device) (off bb code : Nat) : (d.refuseAt off bb code).now = d.now := by 
  unfold Device.refuseAt; extract_lets; split
  · rw [Device.setFld_now, Device.setFld_now]
  · rw [Device.signal_now, Device.setFld_now, Device.setFld_now]
@[simp] theorem Device.refuseAt_mem (d : Device) (off bb code : Nat) : (d.refuseAt off bb code).mem = d.mem := by 
  unfold Device.refuseAt; extract_lets; split
  · rw [Device.setFld_mem, Device.setFld_mem]
  · rw [Device.signal_mem, Device.setFld_mem, Device.setFld_mem]
@[simp] theorem Device.refuseAt_poison (d : Device) (off bb code : Nat) : (d.refuseAt off bb code).poison = d.poison := by 
  unfold Device.refuseAt; extract_lets; split
  · rw [Device.setFld_poison, Device.setFld_poison]
  · rw [Device.signal_poison, Device.setFld_poison, Device.setFld_poison]
@[simp] theorem Device.refuseAt_board (d : Device) (off bb code : Nat) : (d.refuseAt off bb code).board = d.board := by 
  unfold Device.refuseAt; extract_lets; split
  · rw [Device.setFld_board, Device.setFld_board]
  · rw [Device.signal_board, Device.setFld_board, Device.setFld_board]
@[simp] theorem Device.refuseAt_time (d : Device) (off bb code : Nat) : (d.refuseAt off bb code).time = d.time := by 
  unfold Device.refuseAt; extract_lets; split
  · rw [Device.setFld_time, Device.setFld_time]
  · rw [Device.signal_time, Device.setFld_time, Device.setFld_time]
@[simp] theorem Device.refuseAt_fault (d : Device) (off bb code : Nat) : (d.refuseAt off bb code).fault = d.fault := by 
  unfold Device.refuseAt; extract_lets; split
  · rw [Device.setFld_fault, Device.setFld_fault]
  · rw [Device.signal_fault, Device.setFld_fault, Device.setFld_fault]
@[simp] theorem Device.refuseAt_plan (d : Device) (off bb code : Nat) : (d.refuseAt off bb code).plan = d.plan := by 
  unfold Device.refuseAt; extract_lets; split
  · rw [Device.setFld_plan, Device.setFld_plan]
  · rw [Device.signal_plan, Device.setFld_plan, Device.setFld_plan]
@[simp] theorem Device.refuseAt_link (d : Device) (off bb code : Nat) : (d.refuseAt off bb code).link = d.link := by 
  unfold Device.refuseAt; extract_lets; split
  · rw [Device.setFld_link, Device.setFld_link]
  · rw [Device.signal_link, Device.setFld_link, Device.setFld_link]
@[simp] theorem Device.refuseAt_memu (d : Device) (off bb code : Nat) : (d.refuseAt off bb code).memu = d.memu := by 
  unfold Device.refuseAt; extract_lets; split
  · rw [Device.setFld_memu, Device.setFld_memu]
  · rw [Device.signal_memu, Device.setFld_memu, Device.setFld_memu]
@[simp] theorem Device.refuseAt_mgmt (d : Device) (off bb code : Nat) : (d.refuseAt off bb code).mgmt = d.mgmt := by 
  unfold Device.refuseAt; extract_lets; split
  · rw [Device.setFld_mgmt, Device.setFld_mgmt]
  · rw [Device.signal_mgmt, Device.setFld_mgmt, Device.setFld_mgmt]
@[simp] theorem Device.refuseAt_flash (d : Device) (off bb code : Nat) : (d.refuseAt off bb code).flash = d.flash := by 
  unfold Device.refuseAt; extract_lets; split
  · rw [Device.setFld_flash, Device.setFld_flash]
  · rw [Device.signal_flash, Device.setFld_flash, Device.setFld_flash]
@[simp] theorem Device.refuseAt_fuses (d : Device) (off bb code : Nat) : (d.refuseAt off bb code).fuses = d.fuses := by 
  unfold Device.refuseAt; extract_lets; split
  · rw [Device.setFld_fuses, Device.setFld_fuses]
  · rw [Device.signal_fuses, Device.setFld_fuses, Device.setFld_fuses]
@[simp] theorem Device.refuseAt_stn (d : Device) (off bb code : Nat) : (d.refuseAt off bb code).stn = d.stn := by 
  unfold Device.refuseAt; extract_lets; split
  · rw [Device.setFld_stn, Device.setFld_stn]
  · rw [Device.signal_stn, Device.setFld_stn, Device.setFld_stn]
@[simp] theorem Device.refuseAt_pack (d : Device) (off bb code : Nat) : (d.refuseAt off bb code).pack = d.pack := by 
  unfold Device.refuseAt; extract_lets; split
  · rw [Device.setFld_pack, Device.setFld_pack]
  · rw [Device.signal_pack, Device.setFld_pack, Device.setFld_pack]
@[simp] theorem Device.refuseAt_matchE (d : Device) (off bb code : Nat) : (d.refuseAt off bb code).matchE = d.matchE := by 
  unfold Device.refuseAt; extract_lets; split
  · rw [Device.setFld_matchE, Device.setFld_matchE]
  · rw [Device.signal_matchE, Device.setFld_matchE, Device.setFld_matchE]
@[simp] theorem Device.refuseAt_matchI (d : Device) (off bb code : Nat) : (d.refuseAt off bb code).matchI = d.matchI := by 
  unfold Device.refuseAt; extract_lets; split
  · rw [Device.setFld_matchI, Device.setFld_matchI]
  · rw [Device.signal_matchI, Device.setFld_matchI, Device.setFld_matchI]
@[simp] theorem Device.refuseAt_sel (d : Device) (off bb code : Nat) : (d.refuseAt off bb code).sel = d.sel := by 
  unfold Device.refuseAt; extract_lets; split
  · rw [Device.setFld_sel, Device.setFld_sel]
  · rw [Device.signal_sel, Device.setFld_sel, Device.setFld_sel]
@[simp] theorem Device.refuseAt_emb (d : Device) (off bb code : Nat) : (d.refuseAt off bb code).emb = d.emb := by 
  unfold Device.refuseAt; extract_lets; split
  · rw [Device.setFld_emb, Device.setFld_emb]
  · rw [Device.signal_emb, Device.setFld_emb, Device.setFld_emb]
@[simp] theorem Device.refuseAt_arr (d : Device) (off bb code : Nat) : (d.refuseAt off bb code).arr = d.arr := by 
  unfold Device.refuseAt; extract_lets; split
  · rw [Device.setFld_arr, Device.setFld_arr]
  · rw [Device.signal_arr, Device.setFld_arr, Device.setFld_arr]
@[simp] theorem Device.refuseAt_str (d : Device) (off bb code : Nat) : (d.refuseAt off bb code).str = d.str := by 
  unfold Device.refuseAt; extract_lets; split
  · rw [Device.setFld_str, Device.setFld_str]
  · rw [Device.signal_str, Device.setFld_str, Device.setFld_str]
@[simp] theorem Device.refuseAt_sched (d : Device) (off bb code : Nat) : (d.refuseAt off bb code).sched = d.sched := by 
  unfold Device.refuseAt; extract_lets; split
  · rw [Device.setFld_sched, Device.setFld_sched]
  · rw [Device.signal_sched, Device.setFld_sched, Device.setFld_sched]
@[simp] theorem Device.refuseAt_cells (d : Device) (off bb code : Nat) : (d.refuseAt off bb code).cells = d.cells := by 
  unfold Device.refuseAt; extract_lets; split
  · rw [Device.setFld_cells, Device.setFld_cells]
  · rw [Device.signal_cells, Device.setFld_cells, Device.setFld_cells]
@[simp] theorem Device.refuseAt_fresh (d : Device) (off bb code : Nat) : (d.refuseAt off bb code).fresh = d.fresh := by 
  unfold Device.refuseAt; extract_lets; split
  · rw [Device.setFld_fresh, Device.setFld_fresh]
  · rw [Device.signal_fresh, Device.setFld_fresh, Device.setFld_fresh]

@[simp] theorem Device.refuse_now (d : Device) (code k : Nat) : (d.refuse code k).now = d.now := by 
  exact Device.refuseAt_now ..
@[simp] theorem Device.refuse_mem (d : Device) (code k : Nat) : (d.refuse code k).mem = d.mem := by 
  exact Device.refuseAt_mem ..
@[simp] theorem Device.refuse_poison (d : Device) (code k : Nat) : (d.refuse code k).poison = d.poison := by 
  exact Device.refuseAt_poison ..
@[simp] theorem Device.refuse_board (d : Device) (code k : Nat) : (d.refuse code k).board = d.board := by 
  exact Device.refuseAt_board ..
@[simp] theorem Device.refuse_time (d : Device) (code k : Nat) : (d.refuse code k).time = d.time := by 
  exact Device.refuseAt_time ..
@[simp] theorem Device.refuse_fault (d : Device) (code k : Nat) : (d.refuse code k).fault = d.fault := by 
  exact Device.refuseAt_fault ..
@[simp] theorem Device.refuse_plan (d : Device) (code k : Nat) : (d.refuse code k).plan = d.plan := by 
  exact Device.refuseAt_plan ..
@[simp] theorem Device.refuse_link (d : Device) (code k : Nat) : (d.refuse code k).link = d.link := by 
  exact Device.refuseAt_link ..
@[simp] theorem Device.refuse_memu (d : Device) (code k : Nat) : (d.refuse code k).memu = d.memu := by 
  exact Device.refuseAt_memu ..
@[simp] theorem Device.refuse_mgmt (d : Device) (code k : Nat) : (d.refuse code k).mgmt = d.mgmt := by 
  exact Device.refuseAt_mgmt ..
@[simp] theorem Device.refuse_flash (d : Device) (code k : Nat) : (d.refuse code k).flash = d.flash := by 
  exact Device.refuseAt_flash ..
@[simp] theorem Device.refuse_fuses (d : Device) (code k : Nat) : (d.refuse code k).fuses = d.fuses := by 
  exact Device.refuseAt_fuses ..
@[simp] theorem Device.refuse_stn (d : Device) (code k : Nat) : (d.refuse code k).stn = d.stn := by 
  exact Device.refuseAt_stn ..
@[simp] theorem Device.refuse_pack (d : Device) (code k : Nat) : (d.refuse code k).pack = d.pack := by 
  exact Device.refuseAt_pack ..
@[simp] theorem Device.refuse_matchE (d : Device) (code k : Nat) : (d.refuse code k).matchE = d.matchE := by 
  exact Device.refuseAt_matchE ..
@[simp] theorem Device.refuse_matchI (d : Device) (code k : Nat) : (d.refuse code k).matchI = d.matchI := by 
  exact Device.refuseAt_matchI ..
@[simp] theorem Device.refuse_sel (d : Device) (code k : Nat) : (d.refuse code k).sel = d.sel := by 
  exact Device.refuseAt_sel ..
@[simp] theorem Device.refuse_emb (d : Device) (code k : Nat) : (d.refuse code k).emb = d.emb := by 
  exact Device.refuseAt_emb ..
@[simp] theorem Device.refuse_arr (d : Device) (code k : Nat) : (d.refuse code k).arr = d.arr := by 
  exact Device.refuseAt_arr ..
@[simp] theorem Device.refuse_str (d : Device) (code k : Nat) : (d.refuse code k).str = d.str := by 
  exact Device.refuseAt_str ..
@[simp] theorem Device.refuse_sched (d : Device) (code k : Nat) : (d.refuse code k).sched = d.sched := by 
  exact Device.refuseAt_sched ..
@[simp] theorem Device.refuse_cells (d : Device) (code k : Nat) : (d.refuse code k).cells = d.cells := by 
  exact Device.refuseAt_cells ..
@[simp] theorem Device.refuse_fresh (d : Device) (code k : Nat) : (d.refuse code k).fresh = d.fresh := by 
  exact Device.refuseAt_fresh ..

@[simp] theorem Device.setHostState_now (d : Device) (st : Nat) : (d.setHostState st).now = d.now := by 
  unfold Device.setHostState; split
  · rfl
  · rw [Device.signal_now, Device.setFld_now]
@[simp] theorem Device.setHostState_mem (d : Device) (st : Nat) : (d.setHostState st).mem = d.mem := by 
  unfold Device.setHostState; split
  · rfl
  · rw [Device.signal_mem, Device.setFld_mem]
@[simp] theorem Device.setHostState_poison (d : Device) (st : Nat) : (d.setHostState st).poison = d.poison := by 
  unfold Device.setHostState; split
  · rfl
  · rw [Device.signal_poison, Device.setFld_poison]
@[simp] theorem Device.setHostState_board (d : Device) (st : Nat) : (d.setHostState st).board = d.board := by 
  unfold Device.setHostState; split
  · rfl
  · rw [Device.signal_board, Device.setFld_board]
@[simp] theorem Device.setHostState_time (d : Device) (st : Nat) : (d.setHostState st).time = d.time := by 
  unfold Device.setHostState; split
  · rfl
  · rw [Device.signal_time, Device.setFld_time]
@[simp] theorem Device.setHostState_fault (d : Device) (st : Nat) : (d.setHostState st).fault = d.fault := by 
  unfold Device.setHostState; split
  · rfl
  · rw [Device.signal_fault, Device.setFld_fault]
@[simp] theorem Device.setHostState_plan (d : Device) (st : Nat) : (d.setHostState st).plan = d.plan := by 
  unfold Device.setHostState; split
  · rfl
  · rw [Device.signal_plan, Device.setFld_plan]
@[simp] theorem Device.setHostState_link (d : Device) (st : Nat) : (d.setHostState st).link = d.link := by 
  unfold Device.setHostState; split
  · rfl
  · rw [Device.signal_link, Device.setFld_link]
@[simp] theorem Device.setHostState_memu (d : Device) (st : Nat) : (d.setHostState st).memu = d.memu := by 
  unfold Device.setHostState; split
  · rfl
  · rw [Device.signal_memu, Device.setFld_memu]
@[simp] theorem Device.setHostState_mgmt (d : Device) (st : Nat) : (d.setHostState st).mgmt = d.mgmt := by 
  unfold Device.setHostState; split
  · rfl
  · rw [Device.signal_mgmt, Device.setFld_mgmt]
@[simp] theorem Device.setHostState_flash (d : Device) (st : Nat) : (d.setHostState st).flash = d.flash := by 
  unfold Device.setHostState; split
  · rfl
  · rw [Device.signal_flash, Device.setFld_flash]
@[simp] theorem Device.setHostState_fuses (d : Device) (st : Nat) : (d.setHostState st).fuses = d.fuses := by 
  unfold Device.setHostState; split
  · rfl
  · rw [Device.signal_fuses, Device.setFld_fuses]
@[simp] theorem Device.setHostState_stn (d : Device) (st : Nat) : (d.setHostState st).stn = d.stn := by 
  unfold Device.setHostState; split
  · rfl
  · rw [Device.signal_stn, Device.setFld_stn]
@[simp] theorem Device.setHostState_pack (d : Device) (st : Nat) : (d.setHostState st).pack = d.pack := by 
  unfold Device.setHostState; split
  · rfl
  · rw [Device.signal_pack, Device.setFld_pack]
@[simp] theorem Device.setHostState_matchE (d : Device) (st : Nat) : (d.setHostState st).matchE = d.matchE := by 
  unfold Device.setHostState; split
  · rfl
  · rw [Device.signal_matchE, Device.setFld_matchE]
@[simp] theorem Device.setHostState_matchI (d : Device) (st : Nat) : (d.setHostState st).matchI = d.matchI := by 
  unfold Device.setHostState; split
  · rfl
  · rw [Device.signal_matchI, Device.setFld_matchI]
@[simp] theorem Device.setHostState_sel (d : Device) (st : Nat) : (d.setHostState st).sel = d.sel := by 
  unfold Device.setHostState; split
  · rfl
  · rw [Device.signal_sel, Device.setFld_sel]
@[simp] theorem Device.setHostState_emb (d : Device) (st : Nat) : (d.setHostState st).emb = d.emb := by 
  unfold Device.setHostState; split
  · rfl
  · rw [Device.signal_emb, Device.setFld_emb]
@[simp] theorem Device.setHostState_arr (d : Device) (st : Nat) : (d.setHostState st).arr = d.arr := by 
  unfold Device.setHostState; split
  · rfl
  · rw [Device.signal_arr, Device.setFld_arr]
@[simp] theorem Device.setHostState_str (d : Device) (st : Nat) : (d.setHostState st).str = d.str := by 
  unfold Device.setHostState; split
  · rfl
  · rw [Device.signal_str, Device.setFld_str]
@[simp] theorem Device.setHostState_sched (d : Device) (st : Nat) : (d.setHostState st).sched = d.sched := by 
  unfold Device.setHostState; split
  · rfl
  · rw [Device.signal_sched, Device.setFld_sched]
@[simp] theorem Device.setHostState_cells (d : Device) (st : Nat) : (d.setHostState st).cells = d.cells := by 
  unfold Device.setHostState; split
  · rfl
  · rw [Device.signal_cells, Device.setFld_cells]
@[simp] theorem Device.setHostState_fresh (d : Device) (st : Nat) : (d.setHostState st).fresh = d.fresh := by 
  unfold Device.setHostState; split
  · rfl
  · rw [Device.signal_fresh, Device.setFld_fresh]

@[simp] theorem Device.recorderArrive_now (d : Device) (e : EventRec) : (d.recorderArrive e).now = d.now := by 
  unfold Device.recorderArrive; extract_lets _ _ d1 _ d2 _ _
  have h1 : d1.now = d.now := Device.setFld_now ..
  have h : d2.now = d.now := by
    unfold d2; split <;> exact h1
  split
  · exact h
  · rw [Device.count_now, h]
@[simp] theorem Device.recorderArrive_mem (d : Device) (e : EventRec) : (d.recorderArrive e).mem = d.mem := by 
  unfold Device.recorderArrive; extract_lets _ _ d1 _ d2 _ _
  have h1 : d1.mem = d.mem := Device.setFld_mem ..
  have h : d2.mem = d.mem := by
    unfold d2; split <;> exact h1
  split
  · exact h
  · rw [Device.count_mem, h]
@[simp] theorem Device.recorderArrive_poison (d : Device) (e : EventRec) : (d.recorderArrive e).poison = d.poison := by 
  unfold Device.recorderArrive; extract_lets _ _ d1 _ d2 _ _
  have h1 : d1.poison = d.poison := Device.setFld_poison ..
  have h : d2.poison = d.poison := by
    unfold d2; split <;> exact h1
  split
  · exact h
  · rw [Device.count_poison, h]
@[simp] theorem Device.recorderArrive_board (d : Device) (e : EventRec) : (d.recorderArrive e).board = d.board := by 
  unfold Device.recorderArrive; extract_lets _ _ d1 _ d2 _ _
  have h1 : d1.board = d.board := Device.setFld_board ..
  have h : d2.board = d.board := by
    unfold d2; split <;> exact h1
  split
  · exact h
  · rw [Device.count_board, h]
@[simp] theorem Device.recorderArrive_time (d : Device) (e : EventRec) : (d.recorderArrive e).time = d.time := by 
  unfold Device.recorderArrive; extract_lets _ _ d1 _ d2 _ _
  have h1 : d1.time = d.time := Device.setFld_time ..
  have h : d2.time = d.time := by
    unfold d2; split <;> exact h1
  split
  · exact h
  · rw [Device.count_time, h]
@[simp] theorem Device.recorderArrive_host (d : Device) (e : EventRec) : (d.recorderArrive e).host = d.host := by 
  unfold Device.recorderArrive; extract_lets _ _ d1 _ d2 _ _
  have h1 : d1.host = d.host := Device.setFld_host ..
  have h : d2.host = d.host := by
    unfold d2; split <;> exact h1
  split
  · exact h
  · rw [Device.count_host, h]
@[simp] theorem Device.recorderArrive_plan (d : Device) (e : EventRec) : (d.recorderArrive e).plan = d.plan := by 
  unfold Device.recorderArrive; extract_lets _ _ d1 _ d2 _ _
  have h1 : d1.plan = d.plan := Device.setFld_plan ..
  have h : d2.plan = d.plan := by
    unfold d2; split <;> exact h1
  split
  · exact h
  · rw [Device.count_plan, h]
@[simp] theorem Device.recorderArrive_link (d : Device) (e : EventRec) : (d.recorderArrive e).link = d.link := by 
  unfold Device.recorderArrive; extract_lets _ _ d1 _ d2 _ _
  have h1 : d1.link = d.link := Device.setFld_link ..
  have h : d2.link = d.link := by
    unfold d2; split <;> exact h1
  split
  · exact h
  · rw [Device.count_link, h]
@[simp] theorem Device.recorderArrive_memu (d : Device) (e : EventRec) : (d.recorderArrive e).memu = d.memu := by 
  unfold Device.recorderArrive; extract_lets _ _ d1 _ d2 _ _
  have h1 : d1.memu = d.memu := Device.setFld_memu ..
  have h : d2.memu = d.memu := by
    unfold d2; split <;> exact h1
  split
  · exact h
  · rw [Device.count_memu, h]
@[simp] theorem Device.recorderArrive_mgmt (d : Device) (e : EventRec) : (d.recorderArrive e).mgmt = d.mgmt := by 
  unfold Device.recorderArrive; extract_lets _ _ d1 _ d2 _ _
  have h1 : d1.mgmt = d.mgmt := Device.setFld_mgmt ..
  have h : d2.mgmt = d.mgmt := by
    unfold d2; split <;> exact h1
  split
  · exact h
  · rw [Device.count_mgmt, h]
@[simp] theorem Device.recorderArrive_flash (d : Device) (e : EventRec) : (d.recorderArrive e).flash = d.flash := by 
  unfold Device.recorderArrive; extract_lets _ _ d1 _ d2 _ _
  have h1 : d1.flash = d.flash := Device.setFld_flash ..
  have h : d2.flash = d.flash := by
    unfold d2; split <;> exact h1
  split
  · exact h
  · rw [Device.count_flash, h]
@[simp] theorem Device.recorderArrive_fuses (d : Device) (e : EventRec) : (d.recorderArrive e).fuses = d.fuses := by 
  unfold Device.recorderArrive; extract_lets _ _ d1 _ d2 _ _
  have h1 : d1.fuses = d.fuses := Device.setFld_fuses ..
  have h : d2.fuses = d.fuses := by
    unfold d2; split <;> exact h1
  split
  · exact h
  · rw [Device.count_fuses, h]
@[simp] theorem Device.recorderArrive_stn (d : Device) (e : EventRec) : (d.recorderArrive e).stn = d.stn := by 
  unfold Device.recorderArrive; extract_lets _ _ d1 _ d2 _ _
  have h1 : d1.stn = d.stn := Device.setFld_stn ..
  have h : d2.stn = d.stn := by
    unfold d2; split <;> exact h1
  split
  · exact h
  · rw [Device.count_stn, h]
@[simp] theorem Device.recorderArrive_pack (d : Device) (e : EventRec) : (d.recorderArrive e).pack = d.pack := by 
  unfold Device.recorderArrive; extract_lets _ _ d1 _ d2 _ _
  have h1 : d1.pack = d.pack := Device.setFld_pack ..
  have h : d2.pack = d.pack := by
    unfold d2; split <;> exact h1
  split
  · exact h
  · rw [Device.count_pack, h]
@[simp] theorem Device.recorderArrive_matchE (d : Device) (e : EventRec) : (d.recorderArrive e).matchE = d.matchE := by 
  unfold Device.recorderArrive; extract_lets _ _ d1 _ d2 _ _
  have h1 : d1.matchE = d.matchE := Device.setFld_matchE ..
  have h : d2.matchE = d.matchE := by
    unfold d2; split <;> exact h1
  split
  · exact h
  · rw [Device.count_matchE, h]
@[simp] theorem Device.recorderArrive_matchI (d : Device) (e : EventRec) : (d.recorderArrive e).matchI = d.matchI := by 
  unfold Device.recorderArrive; extract_lets _ _ d1 _ d2 _ _
  have h1 : d1.matchI = d.matchI := Device.setFld_matchI ..
  have h : d2.matchI = d.matchI := by
    unfold d2; split <;> exact h1
  split
  · exact h
  · rw [Device.count_matchI, h]
@[simp] theorem Device.recorderArrive_sel (d : Device) (e : EventRec) : (d.recorderArrive e).sel = d.sel := by 
  unfold Device.recorderArrive; extract_lets _ _ d1 _ d2 _ _
  have h1 : d1.sel = d.sel := Device.setFld_sel ..
  have h : d2.sel = d.sel := by
    unfold d2; split <;> exact h1
  split
  · exact h
  · rw [Device.count_sel, h]
@[simp] theorem Device.recorderArrive_emb (d : Device) (e : EventRec) : (d.recorderArrive e).emb = d.emb := by 
  unfold Device.recorderArrive; extract_lets _ _ d1 _ d2 _ _
  have h1 : d1.emb = d.emb := Device.setFld_emb ..
  have h : d2.emb = d.emb := by
    unfold d2; split <;> exact h1
  split
  · exact h
  · rw [Device.count_emb, h]
@[simp] theorem Device.recorderArrive_arr (d : Device) (e : EventRec) : (d.recorderArrive e).arr = d.arr := by 
  unfold Device.recorderArrive; extract_lets _ _ d1 _ d2 _ _
  have h1 : d1.arr = d.arr := Device.setFld_arr ..
  have h : d2.arr = d.arr := by
    unfold d2; split <;> exact h1
  split
  · exact h
  · rw [Device.count_arr, h]
@[simp] theorem Device.recorderArrive_str (d : Device) (e : EventRec) : (d.recorderArrive e).str = d.str := by 
  unfold Device.recorderArrive; extract_lets _ _ d1 _ d2 _ _
  have h1 : d1.str = d.str := Device.setFld_str ..
  have h : d2.str = d.str := by
    unfold d2; split <;> exact h1
  split
  · exact h
  · rw [Device.count_str, h]
@[simp] theorem Device.recorderArrive_sched (d : Device) (e : EventRec) : (d.recorderArrive e).sched = d.sched := by 
  unfold Device.recorderArrive; extract_lets _ _ d1 _ d2 _ _
  have h1 : d1.sched = d.sched := Device.setFld_sched ..
  have h : d2.sched = d.sched := by
    unfold d2; split <;> exact h1
  split
  · exact h
  · rw [Device.count_sched, h]
@[simp] theorem Device.recorderArrive_cells (d : Device) (e : EventRec) : (d.recorderArrive e).cells = d.cells := by 
  unfold Device.recorderArrive; extract_lets _ _ d1 _ d2 _ _
  have h1 : d1.cells = d.cells := Device.setFld_cells ..
  have h : d2.cells = d.cells := by
    unfold d2; split <;> exact h1
  split
  · exact h
  · rw [Device.count_cells, h]
@[simp] theorem Device.recorderArrive_out (d : Device) (e : EventRec) : (d.recorderArrive e).out = d.out := by 
  unfold Device.recorderArrive; extract_lets _ _ d1 _ d2 _ _
  have h1 : d1.out = d.out := Device.setFld_out ..
  have h : d2.out = d.out := by
    unfold d2; split <;> exact h1
  split
  · exact h
  · rw [Device.count_out, h]
@[simp] theorem Device.recorderArrive_fresh (d : Device) (e : EventRec) : (d.recorderArrive e).fresh = d.fresh := by 
  unfold Device.recorderArrive; extract_lets _ _ d1 _ d2 _ _
  have h1 : d1.fresh = d.fresh := Device.setFld_fresh ..
  have h : d2.fresh = d.fresh := by
    unfold d2; split <;> exact h1
  split
  · exact h
  · rw [Device.count_fresh, h]

@[simp] theorem Device.record_now (d : Device) (e : EventRec) : (d.record e).now = d.now := by 
  exact Device.recorderArrive_now ..
@[simp] theorem Device.record_mem (d : Device) (e : EventRec) : (d.record e).mem = d.mem := by 
  exact Device.recorderArrive_mem ..
@[simp] theorem Device.record_poison (d : Device) (e : EventRec) : (d.record e).poison = d.poison := by 
  exact Device.recorderArrive_poison ..
@[simp] theorem Device.record_board (d : Device) (e : EventRec) : (d.record e).board = d.board := by 
  exact Device.recorderArrive_board ..
@[simp] theorem Device.record_time (d : Device) (e : EventRec) : (d.record e).time = d.time := by 
  exact Device.recorderArrive_time ..
@[simp] theorem Device.record_host (d : Device) (e : EventRec) : (d.record e).host = d.host := by 
  exact Device.recorderArrive_host ..
@[simp] theorem Device.record_plan (d : Device) (e : EventRec) : (d.record e).plan = d.plan := by 
  exact Device.recorderArrive_plan ..
@[simp] theorem Device.record_link (d : Device) (e : EventRec) : (d.record e).link = d.link := by 
  exact Device.recorderArrive_link ..
@[simp] theorem Device.record_memu (d : Device) (e : EventRec) : (d.record e).memu = d.memu := by 
  exact Device.recorderArrive_memu ..
@[simp] theorem Device.record_mgmt (d : Device) (e : EventRec) : (d.record e).mgmt = d.mgmt := by 
  exact Device.recorderArrive_mgmt ..
@[simp] theorem Device.record_flash (d : Device) (e : EventRec) : (d.record e).flash = d.flash := by 
  exact Device.recorderArrive_flash ..
@[simp] theorem Device.record_fuses (d : Device) (e : EventRec) : (d.record e).fuses = d.fuses := by 
  exact Device.recorderArrive_fuses ..
@[simp] theorem Device.record_stn (d : Device) (e : EventRec) : (d.record e).stn = d.stn := by 
  exact Device.recorderArrive_stn ..
@[simp] theorem Device.record_pack (d : Device) (e : EventRec) : (d.record e).pack = d.pack := by 
  exact Device.recorderArrive_pack ..
@[simp] theorem Device.record_matchE (d : Device) (e : EventRec) : (d.record e).matchE = d.matchE := by 
  exact Device.recorderArrive_matchE ..
@[simp] theorem Device.record_matchI (d : Device) (e : EventRec) : (d.record e).matchI = d.matchI := by 
  exact Device.recorderArrive_matchI ..
@[simp] theorem Device.record_sel (d : Device) (e : EventRec) : (d.record e).sel = d.sel := by 
  exact Device.recorderArrive_sel ..
@[simp] theorem Device.record_emb (d : Device) (e : EventRec) : (d.record e).emb = d.emb := by 
  exact Device.recorderArrive_emb ..
@[simp] theorem Device.record_arr (d : Device) (e : EventRec) : (d.record e).arr = d.arr := by 
  exact Device.recorderArrive_arr ..
@[simp] theorem Device.record_str (d : Device) (e : EventRec) : (d.record e).str = d.str := by 
  exact Device.recorderArrive_str ..
@[simp] theorem Device.record_sched (d : Device) (e : EventRec) : (d.record e).sched = d.sched := by 
  exact Device.recorderArrive_sched ..
@[simp] theorem Device.record_cells (d : Device) (e : EventRec) : (d.record e).cells = d.cells := by 
  exact Device.recorderArrive_cells ..
@[simp] theorem Device.record_out (d : Device) (e : EventRec) : (d.record e).out = d.out := by 
  exact Device.recorderArrive_out ..
@[simp] theorem Device.record_fresh (d : Device) (e : EventRec) : (d.record e).fresh = d.fresh := by 
  exact Device.recorderArrive_fresh ..

@[simp] theorem Device.vector0_now (d : Device) : (d.vector0).now = d.now := by 
  unfold Device.vector0; extract_lets; split
  · rw [Device.signal_now]
  · rfl
@[simp] theorem Device.vector0_regs (d : Device) : (d.vector0).regs = d.regs := by 
  unfold Device.vector0; extract_lets; split
  · rw [Device.signal_regs]
  · rfl
@[simp] theorem Device.vector0_mem (d : Device) : (d.vector0).mem = d.mem := by 
  unfold Device.vector0; extract_lets; split
  · rw [Device.signal_mem]
  · rfl
@[simp] theorem Device.vector0_poison (d : Device) : (d.vector0).poison = d.poison := by 
  unfold Device.vector0; extract_lets; split
  · rw [Device.signal_poison]
  · rfl
@[simp] theorem Device.vector0_board (d : Device) : (d.vector0).board = d.board := by 
  unfold Device.vector0; extract_lets; split
  · rw [Device.signal_board]
  · rfl
@[simp] theorem Device.vector0_time (d : Device) : (d.vector0).time = d.time := by 
  unfold Device.vector0; extract_lets; split
  · rw [Device.signal_time]
  · rfl
@[simp] theorem Device.vector0_fault (d : Device) : (d.vector0).fault = d.fault := by 
  unfold Device.vector0; extract_lets; split
  · rw [Device.signal_fault]
  · rfl
@[simp] theorem Device.vector0_plan (d : Device) : (d.vector0).plan = d.plan := by 
  unfold Device.vector0; extract_lets; split
  · rw [Device.signal_plan]
  · rfl
@[simp] theorem Device.vector0_link (d : Device) : (d.vector0).link = d.link := by 
  unfold Device.vector0; extract_lets; split
  · rw [Device.signal_link]
  · rfl
@[simp] theorem Device.vector0_memu (d : Device) : (d.vector0).memu = d.memu := by 
  unfold Device.vector0; extract_lets; split
  · rw [Device.signal_memu]
  · rfl
@[simp] theorem Device.vector0_mgmt (d : Device) : (d.vector0).mgmt = d.mgmt := by 
  unfold Device.vector0; extract_lets; split
  · rw [Device.signal_mgmt]
  · rfl
@[simp] theorem Device.vector0_flash (d : Device) : (d.vector0).flash = d.flash := by 
  unfold Device.vector0; extract_lets; split
  · rw [Device.signal_flash]
  · rfl
@[simp] theorem Device.vector0_fuses (d : Device) : (d.vector0).fuses = d.fuses := by 
  unfold Device.vector0; extract_lets; split
  · rw [Device.signal_fuses]
  · rfl
@[simp] theorem Device.vector0_stn (d : Device) : (d.vector0).stn = d.stn := by 
  unfold Device.vector0; extract_lets; split
  · rw [Device.signal_stn]
  · rfl
@[simp] theorem Device.vector0_pack (d : Device) : (d.vector0).pack = d.pack := by 
  unfold Device.vector0; extract_lets; split
  · rw [Device.signal_pack]
  · rfl
@[simp] theorem Device.vector0_matchE (d : Device) : (d.vector0).matchE = d.matchE := by 
  unfold Device.vector0; extract_lets; split
  · rw [Device.signal_matchE]
  · rfl
@[simp] theorem Device.vector0_matchI (d : Device) : (d.vector0).matchI = d.matchI := by 
  unfold Device.vector0; extract_lets; split
  · rw [Device.signal_matchI]
  · rfl
@[simp] theorem Device.vector0_sel (d : Device) : (d.vector0).sel = d.sel := by 
  unfold Device.vector0; extract_lets; split
  · rw [Device.signal_sel]
  · rfl
@[simp] theorem Device.vector0_emb (d : Device) : (d.vector0).emb = d.emb := by 
  unfold Device.vector0; extract_lets; split
  · rw [Device.signal_emb]
  · rfl
@[simp] theorem Device.vector0_arr (d : Device) : (d.vector0).arr = d.arr := by 
  unfold Device.vector0; extract_lets; split
  · rw [Device.signal_arr]
  · rfl
@[simp] theorem Device.vector0_str (d : Device) : (d.vector0).str = d.str := by 
  unfold Device.vector0; extract_lets; split
  · rw [Device.signal_str]
  · rfl
@[simp] theorem Device.vector0_sched (d : Device) : (d.vector0).sched = d.sched := by 
  unfold Device.vector0; extract_lets; split
  · rw [Device.signal_sched]
  · rfl
@[simp] theorem Device.vector0_cells (d : Device) : (d.vector0).cells = d.cells := by 
  unfold Device.vector0; extract_lets; split
  · rw [Device.signal_cells]
  · rfl
@[simp] theorem Device.vector0_fresh (d : Device) : (d.vector0).fresh = d.fresh := by 
  unfold Device.vector0; extract_lets; split
  · rw [Device.signal_fresh]
  · rfl

@[simp] theorem Device.writeD2h_now (d : Device) (m : D2hMsg) : (d.writeD2h m).now = d.now := by 
  unfold Device.writeD2h; extract_lets; rw [Device.vector0_now, Device.setFld_now, Device.setFld_now]
@[simp] theorem Device.writeD2h_mem (d : Device) (m : D2hMsg) : (d.writeD2h m).mem = d.mem := by 
  unfold Device.writeD2h; extract_lets; rw [Device.vector0_mem, Device.setFld_mem, Device.setFld_mem]
@[simp] theorem Device.writeD2h_poison (d : Device) (m : D2hMsg) : (d.writeD2h m).poison = d.poison := by 
  unfold Device.writeD2h; extract_lets; rw [Device.vector0_poison, Device.setFld_poison, Device.setFld_poison]
@[simp] theorem Device.writeD2h_board (d : Device) (m : D2hMsg) : (d.writeD2h m).board = d.board := by 
  unfold Device.writeD2h; extract_lets; rw [Device.vector0_board, Device.setFld_board, Device.setFld_board]
@[simp] theorem Device.writeD2h_time (d : Device) (m : D2hMsg) : (d.writeD2h m).time = d.time := by 
  unfold Device.writeD2h; extract_lets; rw [Device.vector0_time, Device.setFld_time, Device.setFld_time]
@[simp] theorem Device.writeD2h_fault (d : Device) (m : D2hMsg) : (d.writeD2h m).fault = d.fault := by 
  unfold Device.writeD2h; extract_lets; rw [Device.vector0_fault, Device.setFld_fault, Device.setFld_fault]
@[simp] theorem Device.writeD2h_plan (d : Device) (m : D2hMsg) : (d.writeD2h m).plan = d.plan := by 
  unfold Device.writeD2h; extract_lets; rw [Device.vector0_plan, Device.setFld_plan, Device.setFld_plan]
@[simp] theorem Device.writeD2h_link (d : Device) (m : D2hMsg) : (d.writeD2h m).link = d.link := by 
  unfold Device.writeD2h; extract_lets; rw [Device.vector0_link, Device.setFld_link, Device.setFld_link]
@[simp] theorem Device.writeD2h_memu (d : Device) (m : D2hMsg) : (d.writeD2h m).memu = d.memu := by 
  unfold Device.writeD2h; extract_lets; rw [Device.vector0_memu, Device.setFld_memu, Device.setFld_memu]
@[simp] theorem Device.writeD2h_mgmt (d : Device) (m : D2hMsg) : (d.writeD2h m).mgmt = d.mgmt := by 
  unfold Device.writeD2h; extract_lets; rw [Device.vector0_mgmt, Device.setFld_mgmt, Device.setFld_mgmt]
@[simp] theorem Device.writeD2h_flash (d : Device) (m : D2hMsg) : (d.writeD2h m).flash = d.flash := by 
  unfold Device.writeD2h; extract_lets; rw [Device.vector0_flash, Device.setFld_flash, Device.setFld_flash]
@[simp] theorem Device.writeD2h_fuses (d : Device) (m : D2hMsg) : (d.writeD2h m).fuses = d.fuses := by 
  unfold Device.writeD2h; extract_lets; rw [Device.vector0_fuses, Device.setFld_fuses, Device.setFld_fuses]
@[simp] theorem Device.writeD2h_stn (d : Device) (m : D2hMsg) : (d.writeD2h m).stn = d.stn := by 
  unfold Device.writeD2h; extract_lets; rw [Device.vector0_stn, Device.setFld_stn, Device.setFld_stn]
@[simp] theorem Device.writeD2h_pack (d : Device) (m : D2hMsg) : (d.writeD2h m).pack = d.pack := by 
  unfold Device.writeD2h; extract_lets; rw [Device.vector0_pack, Device.setFld_pack, Device.setFld_pack]
@[simp] theorem Device.writeD2h_matchE (d : Device) (m : D2hMsg) : (d.writeD2h m).matchE = d.matchE := by 
  unfold Device.writeD2h; extract_lets; rw [Device.vector0_matchE, Device.setFld_matchE, Device.setFld_matchE]
@[simp] theorem Device.writeD2h_matchI (d : Device) (m : D2hMsg) : (d.writeD2h m).matchI = d.matchI := by 
  unfold Device.writeD2h; extract_lets; rw [Device.vector0_matchI, Device.setFld_matchI, Device.setFld_matchI]
@[simp] theorem Device.writeD2h_sel (d : Device) (m : D2hMsg) : (d.writeD2h m).sel = d.sel := by 
  unfold Device.writeD2h; extract_lets; rw [Device.vector0_sel, Device.setFld_sel, Device.setFld_sel]
@[simp] theorem Device.writeD2h_emb (d : Device) (m : D2hMsg) : (d.writeD2h m).emb = d.emb := by 
  unfold Device.writeD2h; extract_lets; rw [Device.vector0_emb, Device.setFld_emb, Device.setFld_emb]
@[simp] theorem Device.writeD2h_arr (d : Device) (m : D2hMsg) : (d.writeD2h m).arr = d.arr := by 
  unfold Device.writeD2h; extract_lets; rw [Device.vector0_arr, Device.setFld_arr, Device.setFld_arr]
@[simp] theorem Device.writeD2h_str (d : Device) (m : D2hMsg) : (d.writeD2h m).str = d.str := by 
  unfold Device.writeD2h; extract_lets; rw [Device.vector0_str, Device.setFld_str, Device.setFld_str]
@[simp] theorem Device.writeD2h_sched (d : Device) (m : D2hMsg) : (d.writeD2h m).sched = d.sched := by 
  unfold Device.writeD2h; extract_lets; rw [Device.vector0_sched, Device.setFld_sched, Device.setFld_sched]
@[simp] theorem Device.writeD2h_cells (d : Device) (m : D2hMsg) : (d.writeD2h m).cells = d.cells := by 
  unfold Device.writeD2h; extract_lets; rw [Device.vector0_cells, Device.setFld_cells, Device.setFld_cells]
@[simp] theorem Device.writeD2h_fresh (d : Device) (m : D2hMsg) : (d.writeD2h m).fresh = d.fresh := by 
  unfold Device.writeD2h; extract_lets; rw [Device.vector0_fresh, Device.setFld_fresh, Device.setFld_fresh]

@[simp] theorem Device.respond_now (d : Device) (m : MsgRef) (opcode status : Nat) (payload : List Byte) : (d.respond m opcode status payload).now = d.now := by 
  unfold Device.respond; extract_lets; split
  · rfl
  · split
    · rw [Device.writeD2h_now]
    · rfl
@[simp] theorem Device.respond_mem (d : Device) (m : MsgRef) (opcode status : Nat) (payload : List Byte) : (d.respond m opcode status payload).mem = d.mem := by 
  unfold Device.respond; extract_lets; split
  · rfl
  · split
    · rw [Device.writeD2h_mem]
    · rfl
@[simp] theorem Device.respond_poison (d : Device) (m : MsgRef) (opcode status : Nat) (payload : List Byte) : (d.respond m opcode status payload).poison = d.poison := by 
  unfold Device.respond; extract_lets; split
  · rfl
  · split
    · rw [Device.writeD2h_poison]
    · rfl
@[simp] theorem Device.respond_board (d : Device) (m : MsgRef) (opcode status : Nat) (payload : List Byte) : (d.respond m opcode status payload).board = d.board := by 
  unfold Device.respond; extract_lets; split
  · rfl
  · split
    · rw [Device.writeD2h_board]
    · rfl
@[simp] theorem Device.respond_time (d : Device) (m : MsgRef) (opcode status : Nat) (payload : List Byte) : (d.respond m opcode status payload).time = d.time := by 
  unfold Device.respond; extract_lets; split
  · rfl
  · split
    · rw [Device.writeD2h_time]
    · rfl
@[simp] theorem Device.respond_fault (d : Device) (m : MsgRef) (opcode status : Nat) (payload : List Byte) : (d.respond m opcode status payload).fault = d.fault := by 
  unfold Device.respond; extract_lets; split
  · rfl
  · split
    · rw [Device.writeD2h_fault]
    · rfl
@[simp] theorem Device.respond_plan (d : Device) (m : MsgRef) (opcode status : Nat) (payload : List Byte) : (d.respond m opcode status payload).plan = d.plan := by 
  unfold Device.respond; extract_lets; split
  · rfl
  · split
    · rw [Device.writeD2h_plan]
    · rfl
@[simp] theorem Device.respond_link (d : Device) (m : MsgRef) (opcode status : Nat) (payload : List Byte) : (d.respond m opcode status payload).link = d.link := by 
  unfold Device.respond; extract_lets; split
  · rfl
  · split
    · rw [Device.writeD2h_link]
    · rfl
@[simp] theorem Device.respond_memu (d : Device) (m : MsgRef) (opcode status : Nat) (payload : List Byte) : (d.respond m opcode status payload).memu = d.memu := by 
  unfold Device.respond; extract_lets; split
  · rfl
  · split
    · rw [Device.writeD2h_memu]
    · rfl
@[simp] theorem Device.respond_mgmt (d : Device) (m : MsgRef) (opcode status : Nat) (payload : List Byte) : (d.respond m opcode status payload).mgmt = d.mgmt := by 
  unfold Device.respond; extract_lets; split
  · rfl
  · split
    · rw [Device.writeD2h_mgmt]
    · rfl
@[simp] theorem Device.respond_flash (d : Device) (m : MsgRef) (opcode status : Nat) (payload : List Byte) : (d.respond m opcode status payload).flash = d.flash := by 
  unfold Device.respond; extract_lets; split
  · rfl
  · split
    · rw [Device.writeD2h_flash]
    · rfl
@[simp] theorem Device.respond_fuses (d : Device) (m : MsgRef) (opcode status : Nat) (payload : List Byte) : (d.respond m opcode status payload).fuses = d.fuses := by 
  unfold Device.respond; extract_lets; split
  · rfl
  · split
    · rw [Device.writeD2h_fuses]
    · rfl
@[simp] theorem Device.respond_stn (d : Device) (m : MsgRef) (opcode status : Nat) (payload : List Byte) : (d.respond m opcode status payload).stn = d.stn := by 
  unfold Device.respond; extract_lets; split
  · rfl
  · split
    · rw [Device.writeD2h_stn]
    · rfl
@[simp] theorem Device.respond_pack (d : Device) (m : MsgRef) (opcode status : Nat) (payload : List Byte) : (d.respond m opcode status payload).pack = d.pack := by 
  unfold Device.respond; extract_lets; split
  · rfl
  · split
    · rw [Device.writeD2h_pack]
    · rfl
@[simp] theorem Device.respond_matchE (d : Device) (m : MsgRef) (opcode status : Nat) (payload : List Byte) : (d.respond m opcode status payload).matchE = d.matchE := by 
  unfold Device.respond; extract_lets; split
  · rfl
  · split
    · rw [Device.writeD2h_matchE]
    · rfl
@[simp] theorem Device.respond_matchI (d : Device) (m : MsgRef) (opcode status : Nat) (payload : List Byte) : (d.respond m opcode status payload).matchI = d.matchI := by 
  unfold Device.respond; extract_lets; split
  · rfl
  · split
    · rw [Device.writeD2h_matchI]
    · rfl
@[simp] theorem Device.respond_sel (d : Device) (m : MsgRef) (opcode status : Nat) (payload : List Byte) : (d.respond m opcode status payload).sel = d.sel := by 
  unfold Device.respond; extract_lets; split
  · rfl
  · split
    · rw [Device.writeD2h_sel]
    · rfl
@[simp] theorem Device.respond_emb (d : Device) (m : MsgRef) (opcode status : Nat) (payload : List Byte) : (d.respond m opcode status payload).emb = d.emb := by 
  unfold Device.respond; extract_lets; split
  · rfl
  · split
    · rw [Device.writeD2h_emb]
    · rfl
@[simp] theorem Device.respond_arr (d : Device) (m : MsgRef) (opcode status : Nat) (payload : List Byte) : (d.respond m opcode status payload).arr = d.arr := by 
  unfold Device.respond; extract_lets; split
  · rfl
  · split
    · rw [Device.writeD2h_arr]
    · rfl
@[simp] theorem Device.respond_str (d : Device) (m : MsgRef) (opcode status : Nat) (payload : List Byte) : (d.respond m opcode status payload).str = d.str := by 
  unfold Device.respond; extract_lets; split
  · rfl
  · split
    · rw [Device.writeD2h_str]
    · rfl
@[simp] theorem Device.respond_sched (d : Device) (m : MsgRef) (opcode status : Nat) (payload : List Byte) : (d.respond m opcode status payload).sched = d.sched := by 
  unfold Device.respond; extract_lets; split
  · rfl
  · split
    · rw [Device.writeD2h_sched]
    · rfl
@[simp] theorem Device.respond_cells (d : Device) (m : MsgRef) (opcode status : Nat) (payload : List Byte) : (d.respond m opcode status payload).cells = d.cells := by 
  unfold Device.respond; extract_lets; split
  · rfl
  · split
    · rw [Device.writeD2h_cells]
    · rfl
@[simp] theorem Device.respond_fresh (d : Device) (m : MsgRef) (opcode status : Nat) (payload : List Byte) : (d.respond m opcode status payload).fresh = d.fresh := by 
  unfold Device.respond; extract_lets; split
  · rfl
  · split
    · rw [Device.writeD2h_fresh]
    · rfl

@[simp] theorem Device.refuseMsg_now (d : Device) (m : MsgRef) (opcode code k : Nat) : (d.refuseMsg m opcode code k).now = d.now := by 
  unfold Device.refuseMsg; rw [Device.respond_now, Device.refuse_now]
@[simp] theorem Device.refuseMsg_mem (d : Device) (m : MsgRef) (opcode code k : Nat) : (d.refuseMsg m opcode code k).mem = d.mem := by 
  unfold Device.refuseMsg; rw [Device.respond_mem, Device.refuse_mem]
@[simp] theorem Device.refuseMsg_poison (d : Device) (m : MsgRef) (opcode code k : Nat) : (d.refuseMsg m opcode code k).poison = d.poison := by 
  unfold Device.refuseMsg; rw [Device.respond_poison, Device.refuse_poison]
@[simp] theorem Device.refuseMsg_board (d : Device) (m : MsgRef) (opcode code k : Nat) : (d.refuseMsg m opcode code k).board = d.board := by 
  unfold Device.refuseMsg; rw [Device.respond_board, Device.refuse_board]
@[simp] theorem Device.refuseMsg_time (d : Device) (m : MsgRef) (opcode code k : Nat) : (d.refuseMsg m opcode code k).time = d.time := by 
  unfold Device.refuseMsg; rw [Device.respond_time, Device.refuse_time]
@[simp] theorem Device.refuseMsg_fault (d : Device) (m : MsgRef) (opcode code k : Nat) : (d.refuseMsg m opcode code k).fault = d.fault := by 
  unfold Device.refuseMsg; rw [Device.respond_fault, Device.refuse_fault]
@[simp] theorem Device.refuseMsg_plan (d : Device) (m : MsgRef) (opcode code k : Nat) : (d.refuseMsg m opcode code k).plan = d.plan := by 
  unfold Device.refuseMsg; rw [Device.respond_plan, Device.refuse_plan]
@[simp] theorem Device.refuseMsg_link (d : Device) (m : MsgRef) (opcode code k : Nat) : (d.refuseMsg m opcode code k).link = d.link := by 
  unfold Device.refuseMsg; rw [Device.respond_link, Device.refuse_link]
@[simp] theorem Device.refuseMsg_memu (d : Device) (m : MsgRef) (opcode code k : Nat) : (d.refuseMsg m opcode code k).memu = d.memu := by 
  unfold Device.refuseMsg; rw [Device.respond_memu, Device.refuse_memu]
@[simp] theorem Device.refuseMsg_mgmt (d : Device) (m : MsgRef) (opcode code k : Nat) : (d.refuseMsg m opcode code k).mgmt = d.mgmt := by 
  unfold Device.refuseMsg; rw [Device.respond_mgmt, Device.refuse_mgmt]
@[simp] theorem Device.refuseMsg_flash (d : Device) (m : MsgRef) (opcode code k : Nat) : (d.refuseMsg m opcode code k).flash = d.flash := by 
  unfold Device.refuseMsg; rw [Device.respond_flash, Device.refuse_flash]
@[simp] theorem Device.refuseMsg_fuses (d : Device) (m : MsgRef) (opcode code k : Nat) : (d.refuseMsg m opcode code k).fuses = d.fuses := by 
  unfold Device.refuseMsg; rw [Device.respond_fuses, Device.refuse_fuses]
@[simp] theorem Device.refuseMsg_stn (d : Device) (m : MsgRef) (opcode code k : Nat) : (d.refuseMsg m opcode code k).stn = d.stn := by 
  unfold Device.refuseMsg; rw [Device.respond_stn, Device.refuse_stn]
@[simp] theorem Device.refuseMsg_pack (d : Device) (m : MsgRef) (opcode code k : Nat) : (d.refuseMsg m opcode code k).pack = d.pack := by 
  unfold Device.refuseMsg; rw [Device.respond_pack, Device.refuse_pack]
@[simp] theorem Device.refuseMsg_matchE (d : Device) (m : MsgRef) (opcode code k : Nat) : (d.refuseMsg m opcode code k).matchE = d.matchE := by 
  unfold Device.refuseMsg; rw [Device.respond_matchE, Device.refuse_matchE]
@[simp] theorem Device.refuseMsg_matchI (d : Device) (m : MsgRef) (opcode code k : Nat) : (d.refuseMsg m opcode code k).matchI = d.matchI := by 
  unfold Device.refuseMsg; rw [Device.respond_matchI, Device.refuse_matchI]
@[simp] theorem Device.refuseMsg_sel (d : Device) (m : MsgRef) (opcode code k : Nat) : (d.refuseMsg m opcode code k).sel = d.sel := by 
  unfold Device.refuseMsg; rw [Device.respond_sel, Device.refuse_sel]
@[simp] theorem Device.refuseMsg_emb (d : Device) (m : MsgRef) (opcode code k : Nat) : (d.refuseMsg m opcode code k).emb = d.emb := by 
  unfold Device.refuseMsg; rw [Device.respond_emb, Device.refuse_emb]
@[simp] theorem Device.refuseMsg_arr (d : Device) (m : MsgRef) (opcode code k : Nat) : (d.refuseMsg m opcode code k).arr = d.arr := by 
  unfold Device.refuseMsg; rw [Device.respond_arr, Device.refuse_arr]
@[simp] theorem Device.refuseMsg_str (d : Device) (m : MsgRef) (opcode code k : Nat) : (d.refuseMsg m opcode code k).str = d.str := by 
  unfold Device.refuseMsg; rw [Device.respond_str, Device.refuse_str]
@[simp] theorem Device.refuseMsg_sched (d : Device) (m : MsgRef) (opcode code k : Nat) : (d.refuseMsg m opcode code k).sched = d.sched := by 
  unfold Device.refuseMsg; rw [Device.respond_sched, Device.refuse_sched]
@[simp] theorem Device.refuseMsg_cells (d : Device) (m : MsgRef) (opcode code k : Nat) : (d.refuseMsg m opcode code k).cells = d.cells := by 
  unfold Device.refuseMsg; rw [Device.respond_cells, Device.refuse_cells]
@[simp] theorem Device.refuseMsg_fresh (d : Device) (m : MsgRef) (opcode code k : Nat) : (d.refuseMsg m opcode code k).fresh = d.fresh := by 
  unfold Device.refuseMsg; rw [Device.respond_fresh, Device.refuse_fresh]

@[simp] theorem Device.sendAsync_now (d : Device) (opcode : Nat) (payload : List Byte) : (d.sendAsync opcode payload).now = d.now := by 
  unfold Device.sendAsync; extract_lets; split
  · rw [Device.writeD2h_now]
  · split
    · rfl
    · rw [Device.setFld_now, Device.count_now]
@[simp] theorem Device.sendAsync_mem (d : Device) (opcode : Nat) (payload : List Byte) : (d.sendAsync opcode payload).mem = d.mem := by 
  unfold Device.sendAsync; extract_lets; split
  · rw [Device.writeD2h_mem]
  · split
    · rfl
    · rw [Device.setFld_mem, Device.count_mem]
@[simp] theorem Device.sendAsync_poison (d : Device) (opcode : Nat) (payload : List Byte) : (d.sendAsync opcode payload).poison = d.poison := by 
  unfold Device.sendAsync; extract_lets; split
  · rw [Device.writeD2h_poison]
  · split
    · rfl
    · rw [Device.setFld_poison, Device.count_poison]
@[simp] theorem Device.sendAsync_board (d : Device) (opcode : Nat) (payload : List Byte) : (d.sendAsync opcode payload).board = d.board := by 
  unfold Device.sendAsync; extract_lets; split
  · rw [Device.writeD2h_board]
  · split
    · rfl
    · rw [Device.setFld_board, Device.count_board]
@[simp] theorem Device.sendAsync_time (d : Device) (opcode : Nat) (payload : List Byte) : (d.sendAsync opcode payload).time = d.time := by 
  unfold Device.sendAsync; extract_lets; split
  · rw [Device.writeD2h_time]
  · split
    · rfl
    · rw [Device.setFld_time, Device.count_time]
@[simp] theorem Device.sendAsync_fault (d : Device) (opcode : Nat) (payload : List Byte) : (d.sendAsync opcode payload).fault = d.fault := by 
  unfold Device.sendAsync; extract_lets; split
  · rw [Device.writeD2h_fault]
  · split
    · rfl
    · rw [Device.setFld_fault, Device.count_fault]
@[simp] theorem Device.sendAsync_plan (d : Device) (opcode : Nat) (payload : List Byte) : (d.sendAsync opcode payload).plan = d.plan := by 
  unfold Device.sendAsync; extract_lets; split
  · rw [Device.writeD2h_plan]
  · split
    · rfl
    · rw [Device.setFld_plan, Device.count_plan]
@[simp] theorem Device.sendAsync_link (d : Device) (opcode : Nat) (payload : List Byte) : (d.sendAsync opcode payload).link = d.link := by 
  unfold Device.sendAsync; extract_lets; split
  · rw [Device.writeD2h_link]
  · split
    · rfl
    · rw [Device.setFld_link, Device.count_link]
@[simp] theorem Device.sendAsync_memu (d : Device) (opcode : Nat) (payload : List Byte) : (d.sendAsync opcode payload).memu = d.memu := by 
  unfold Device.sendAsync; extract_lets; split
  · rw [Device.writeD2h_memu]
  · split
    · rfl
    · rw [Device.setFld_memu, Device.count_memu]
@[simp] theorem Device.sendAsync_mgmt (d : Device) (opcode : Nat) (payload : List Byte) : (d.sendAsync opcode payload).mgmt = d.mgmt := by 
  unfold Device.sendAsync; extract_lets; split
  · rw [Device.writeD2h_mgmt]
  · split
    · rfl
    · rw [Device.setFld_mgmt, Device.count_mgmt]
@[simp] theorem Device.sendAsync_flash (d : Device) (opcode : Nat) (payload : List Byte) : (d.sendAsync opcode payload).flash = d.flash := by 
  unfold Device.sendAsync; extract_lets; split
  · rw [Device.writeD2h_flash]
  · split
    · rfl
    · rw [Device.setFld_flash, Device.count_flash]
@[simp] theorem Device.sendAsync_fuses (d : Device) (opcode : Nat) (payload : List Byte) : (d.sendAsync opcode payload).fuses = d.fuses := by 
  unfold Device.sendAsync; extract_lets; split
  · rw [Device.writeD2h_fuses]
  · split
    · rfl
    · rw [Device.setFld_fuses, Device.count_fuses]
@[simp] theorem Device.sendAsync_stn (d : Device) (opcode : Nat) (payload : List Byte) : (d.sendAsync opcode payload).stn = d.stn := by 
  unfold Device.sendAsync; extract_lets; split
  · rw [Device.writeD2h_stn]
  · split
    · rfl
    · rw [Device.setFld_stn, Device.count_stn]
@[simp] theorem Device.sendAsync_pack (d : Device) (opcode : Nat) (payload : List Byte) : (d.sendAsync opcode payload).pack = d.pack := by 
  unfold Device.sendAsync; extract_lets; split
  · rw [Device.writeD2h_pack]
  · split
    · rfl
    · rw [Device.setFld_pack, Device.count_pack]
@[simp] theorem Device.sendAsync_matchE (d : Device) (opcode : Nat) (payload : List Byte) : (d.sendAsync opcode payload).matchE = d.matchE := by 
  unfold Device.sendAsync; extract_lets; split
  · rw [Device.writeD2h_matchE]
  · split
    · rfl
    · rw [Device.setFld_matchE, Device.count_matchE]
@[simp] theorem Device.sendAsync_matchI (d : Device) (opcode : Nat) (payload : List Byte) : (d.sendAsync opcode payload).matchI = d.matchI := by 
  unfold Device.sendAsync; extract_lets; split
  · rw [Device.writeD2h_matchI]
  · split
    · rfl
    · rw [Device.setFld_matchI, Device.count_matchI]
@[simp] theorem Device.sendAsync_sel (d : Device) (opcode : Nat) (payload : List Byte) : (d.sendAsync opcode payload).sel = d.sel := by 
  unfold Device.sendAsync; extract_lets; split
  · rw [Device.writeD2h_sel]
  · split
    · rfl
    · rw [Device.setFld_sel, Device.count_sel]
@[simp] theorem Device.sendAsync_emb (d : Device) (opcode : Nat) (payload : List Byte) : (d.sendAsync opcode payload).emb = d.emb := by 
  unfold Device.sendAsync; extract_lets; split
  · rw [Device.writeD2h_emb]
  · split
    · rfl
    · rw [Device.setFld_emb, Device.count_emb]
@[simp] theorem Device.sendAsync_arr (d : Device) (opcode : Nat) (payload : List Byte) : (d.sendAsync opcode payload).arr = d.arr := by 
  unfold Device.sendAsync; extract_lets; split
  · rw [Device.writeD2h_arr]
  · split
    · rfl
    · rw [Device.setFld_arr, Device.count_arr]
@[simp] theorem Device.sendAsync_str (d : Device) (opcode : Nat) (payload : List Byte) : (d.sendAsync opcode payload).str = d.str := by 
  unfold Device.sendAsync; extract_lets; split
  · rw [Device.writeD2h_str]
  · split
    · rfl
    · rw [Device.setFld_str, Device.count_str]
@[simp] theorem Device.sendAsync_sched (d : Device) (opcode : Nat) (payload : List Byte) : (d.sendAsync opcode payload).sched = d.sched := by 
  unfold Device.sendAsync; extract_lets; split
  · rw [Device.writeD2h_sched]
  · split
    · rfl
    · rw [Device.setFld_sched, Device.count_sched]
@[simp] theorem Device.sendAsync_cells (d : Device) (opcode : Nat) (payload : List Byte) : (d.sendAsync opcode payload).cells = d.cells := by 
  unfold Device.sendAsync; extract_lets; split
  · rw [Device.writeD2h_cells]
  · split
    · rfl
    · rw [Device.setFld_cells, Device.count_cells]
@[simp] theorem Device.sendAsync_fresh (d : Device) (opcode : Nat) (payload : List Byte) : (d.sendAsync opcode payload).fresh = d.fresh := by 
  unfold Device.sendAsync; extract_lets; split
  · rw [Device.writeD2h_fresh]
  · split
    · rfl
    · rw [Device.setFld_fresh, Device.count_fresh]

end Sys2Proof.Machine
end

