-- ==== Sys2Proof/Machine/Words.lean ====
section
/-!
DEFINITION. From the words of a plan image to commands (R132, R177, R179): the command a Piste word or a Kalxel word spells, and the
command that a stream's or a cell's pc stands at.  A sender that runs a plan's programs sends these commands (log 96).
-/

namespace Sys2Proof.Machine

/-! ### Piste words (R132) -/

/-- The command of a 64-bit Piste word of a stream; none for a reserved opcode or a bit that its row does not name. -/
def pisteInstr (s : StreamId) (w : Nat) : Option Instr :=
  let a := Fin.ofNat 4 (bitsOf w 6 2)
  let k := Fin.ofNat 8 (bitsOf w 8 3)
  let f (i n : Nat) : BitVec n := BitVec.ofNat n (bitsOf w i n)
  if pisteRsv w then none
  else match bitsOf w 0 6 with
    | 0x00 => some (.nop s)
    | 0x01 => some (.seta s a (f 8 16) (f 24 40))
    | 0x02 => some (.adda s a (f 16 48))
    | 0x03 => some (.addp s a k (f 16 16))
    | 0x04 => some (.loop s k (f 32 32))
    | 0x05 => some (.endl s k (Fin.ofNat 32 (bitsOf w 16 5)))
    | 0x06 => some (.xfer s a (bitAt w 8) (f 32 32))
    | 0x07 => some (.xstr s a (bitAt w 8) (f 12 12) (f 24 16) (f 40 24))
    | 0x08 => some (.emit s (bitAt w 8))
    | 0x09 => some (.due s (f 16 16) (f 32 16))
    | 0x0A => some (.endStream s)
    | _ => none

/-- The command at the pc of a Piste stream of the active plan. -/
def Device.nextPiste (d : Device) (s : StreamId) : Option Instr :=
  let g := gsid s.die.val s.sid.val
  (d.streamRec g).bind (fun r => (r.instrs[(d.stream g).pc]?).bind (pisteInstr s))

/-! ### Kalxel words (R177, R179) -/

/-- The integer operations of OP 0x00 by FN. -/
def aluInstr (c : CellId) (fn : Nat) (rd rs1 rs2 : Reg) : Option Instr :=
  match fn with
  | 0 => some (.add c rd rs1 rs2) | 1 => some (.sub c rd rs1 rs2) | 2 => some (.and c rd rs1 rs2) | 3 => some (.or c rd rs1 rs2)
  | 4 => some (.xor c rd rs1 rs2) | 5 => some (.sll c rd rs1 rs2) | 6 => some (.srl c rd rs1 rs2) | 7 => some (.sra c rd rs1 rs2)
  | 8 => some (.slt c rd rs1 rs2) | 9 => some (.sltu c rd rs1 rs2) | 10 => some (.min c rd rs1 rs2) | 11 => some (.max c rd rs1 rs2)
  | 12 => some (.minu c rd rs1 rs2) | 13 => some (.maxu c rd rs1 rs2) | 14 => some (.mul c rd rs1 rs2) | 15 => some (.mulh c rd rs1 rs2)
  | 16 => some (.mulhu c rd rs1 rs2) | 17 => some (.div c rd rs1 rs2) | 18 => some (.divu c rd rs1 rs2) | 19 => some (.rem c rd rs1 rs2)
  | 20 => some (.remu c rd rs1 rs2) | 21 => some (.clz c rd rs1) | 22 => some (.popc c rd rs1)
  | _ => none

/-- The atomics of OP 0x13 by FN. -/
def amoInstr (c : CellId) (fn : Nat) (rd rs1 rs2 : Reg) : Option Instr :=
  match fn with
  | 0 => some (.amoadd c rd rs1 rs2) | 1 => some (.amoswap c rd rs1 rs2) | 2 => some (.amocas c rd rs1 rs2)
  | 3 => some (.amomin c rd rs1 rs2) | 4 => some (.amomax c rd rs1 rs2) | 5 => some (.amominu c rd rs1 rs2)
  | 6 => some (.amomaxu c rd rs1 rs2)
  | _ => none

/-- The FP32 operations of OP 0x1C by FN. -/
def fpInstr (c : CellId) (fn : Nat) (rd rs1 rs2 : Reg) : Option Instr :=
  match fn with
  | 0 => some (.fadd c rd rs1 rs2) | 1 => some (.fsub c rd rs1 rs2) | 2 => some (.fmul c rd rs1 rs2) | 3 => some (.fmin c rd rs1 rs2)
  | 4 => some (.fmax c rd rs1 rs2) | 5 => some (.feq c rd rs1 rs2) | 6 => some (.flt c rd rs1 rs2) | 7 => some (.fle c rd rs1 rs2)
  | 8 => some (.fsgnj c rd rs1 rs2) | 9 => some (.fsgnjn c rd rs1 rs2) | 10 => some (.fsgnjx c rd rs1 rs2) | 11 => some (.fcvtSW c rd rs1)
  | 12 => some (.fcvtSWu c rd rs1) | 13 => some (.fcvtWS c rd rs1) | 14 => some (.fcvtWuS c rd rs1) | 15 => some (.fclass c rd rs1)
  | _ => none

/-- The fused operations of OP 0x1D by FN6. -/
def fmaInstr (c : CellId) (fn : Nat) (rd rs1 rs2 rs3 : Reg) : Option Instr :=
  match fn with
  | 0 => some (.fmadd c rd rs1 rs2 rs3) | 1 => some (.fmsub c rd rs1 rs2 rs3) | 2 => some (.fnmadd c rd rs1 rs2 rs3)
  | 3 => some (.fnmsub c rd rs1 rs2 rs3)
  | _ => none

/-- The BF16 operations of OP 0x1E by FN. -/
def bfInstr (c : CellId) (fn : Nat) (rd rs1 rs2 : Reg) : Option Instr :=
  match fn with
  | 0 => some (.badd2 c rd rs1 rs2) | 1 => some (.bmul2 c rd rs1 rs2) | 2 => some (.bmax2 c rd rs1 rs2) | 3 => some (.bmin2 c rd rs1 rs2)
  | 4 => some (.bdot2 c rd rs1 rs2) | 5 => some (.bpack c rd rs1 rs2) | 6 => some (.blo c rd rs1) | 7 => some (.bhi c rd rs1)
  | _ => none

/-- The special functions of OP 0x1F by FN. -/
def sfuInstr (c : CellId) (fn : Nat) (rd rs1 : Reg) : Option Instr :=
  match fn with
  | 0 => some (.exp2 c rd rs1) | 1 => some (.log2 c rd rs1) | 2 => some (.rcp c rd rs1) | 3 => some (.rsqrt c rd rs1)
  | 4 => some (.sqrt c rd rs1) | 5 => some (.tanh c rd rs1) | 6 => some (.sigmoid c rd rs1)
  | _ => none

/-- The buffer, sync and work operations of OP 0x26 to 0x28 by OP and FN. -/
def workInstr (c : CellId) (op fn : Nat) (rd rs1 rs2 : Reg) : Option Instr :=
  match op, fn with
  | 0x26, 0 => some (.balloc c rs1 rs2) | 0x26, 1 => some (.brel c rs1) | 0x26, 2 => some (.lpush c rs1 rs2) | 0x26, 3 => some (.hloc c rd rs1)
  | 0x27, 0 => some (.ssig c rd rs1 rs2) | 0x27, 1 => some (.swge c rd rs1 rs2) | 0x27, 2 => some (.srst c rd rs1)
  | 0x28, 0 => some (.ask c rd rs1) | 0x28, 1 => some (.tnew c rd rs1) | 0x28, 2 => some (.trap c rs1) | 0x28, 3 => some (.halt c)
  | _, _ => none

/-- The Imm, Store, Branch and Jump rows by OP. -/
def immInstr (c : CellId) (w : Nat) : Option Instr :=
  let r (i : Nat) : Reg := Fin.ofNat 32 (bitsOf w i 5)
  let rd := r 6
  let rs1 := r 11
  let imm : BitVec 16 := BitVec.ofNat 16 (bitsOf w 16 16)
  let sh : BitVec 5 := BitVec.ofNat 5 (bitsOf w 16 5)
  let long : BitVec 21 := BitVec.ofNat 21 (bitsOf w 11 21)
  match bitsOf w 0 6 with
  | 0x01 => some (.addi c rd rs1 imm) | 0x02 => some (.andi c rd rs1 imm) | 0x03 => some (.ori c rd rs1 imm) | 0x04 => some (.xori c rd rs1 imm)
  | 0x05 => some (.slli c rd rs1 sh) | 0x06 => some (.srli c rd rs1 sh) | 0x07 => some (.srai c rd rs1 sh)
  | 0x08 => some (.slti c rd rs1 imm) | 0x09 => some (.sltiu c rd rs1 imm) | 0x0A => some (.lui c rd long)
  | 0x0B => some (.lw c rd rs1 imm) | 0x0C => some (.lh c rd rs1 imm) | 0x0D => some (.lhu c rd rs1 imm) | 0x0E => some (.lb c rd rs1 imm)
  | 0x0F => some (.lbu c rd rs1 imm)
  | 0x10 => some (.sw c rd rs1 imm) | 0x11 => some (.sh c rd rs1 imm) | 0x12 => some (.sb c rd rs1 imm)
  | 0x14 => some (.beq c rd rs1 imm) | 0x15 => some (.bne c rd rs1 imm) | 0x16 => some (.blt c rd rs1 imm) | 0x17 => some (.bge c rd rs1 imm)
  | 0x18 => some (.bltu c rd rs1 imm) | 0x19 => some (.bgeu c rd rs1 imm)
  | 0x1A => some (.jal c rd long) | 0x1B => some (.jalr c rd rs1 imm)
  | 0x22 => some (.rdsr c rd (Fin.ofNat 12 (bitsOf w 16 16))) | 0x23 => some (.wrsr c rs1 (bitAt w 16))
  | _ => none

/-- The command of a 32-bit Kalxel word of a cell; none for a word that the plan check refuses (R178). -/
def kalxelInstr (c : CellId) (w : Nat) : Option Instr :=
  let r (i : Nat) : Reg := Fin.ofNat 32 (bitsOf w i 5)
  let p (i : Nat) : Pair := Fin.ofNat 16 (bitsOf w (i + 1) 4)
  let fn := bitsOf w 21 11
  if (kalxelCheck w).isSome then none
  else match bitsOf w 0 6 with
    | 0x00 => aluInstr c fn (r 6) (r 11) (r 16)
    | 0x13 => amoInstr c fn (r 6) (r 11) (r 16)
    | 0x1C => fpInstr c fn (r 6) (r 11) (r 16)
    | 0x1D => fmaInstr c (bitsOf w 26 6) (r 6) (r 11) (r 16) (r 21)
    | 0x1E => bfInstr c fn (r 6) (r 11) (r 16)
    | 0x1F => sfuInstr c fn (r 6) (r 11)
    | 0x20 => (match fn with
      | 0 => some (.hmix c (p 6) (p 11) (p 16)) | 1 => some (.crcw c (r 6) (r 11) (r 16)) | _ => some (.crcb c (r 6) (r 11) (r 16)))
    | 0x21 => some (.gen c (r 6) (r 11) (r 16) (BitVec.ofNat 8 fn))
    | 0x24 => some (.sarm c (r 6) (r 11) (r 16) (Fin.ofNat 4 fn))
    | 0x25 => some (.swait c (r 6) (Fin.ofNat 4 fn))
    | op => if 0x26 ≤ op then workInstr c op fn (r 6) (r 11) (r 16) else immInstr c w

/-- The command at the pc of a cell of the active plan. -/
def Device.nextKalxel (d : Device) (c : CellId) : Option Instr :=
  let x := d.cell c.gid
  (d.placement c.gid).bind (fun p =>
    if x.pc.toNat % 4 != 0 || decide (p.code.length < x.pc.toNat + 4) then none else kalxelInstr c (leAt p.code x.pc.toNat 4))

end Sys2Proof.Machine
end

