-- ==== Sys2Proof/WellFormed.lean ====
section
/-!
DEFINITION. Which commands are well formed: their operands fit the fields of the spec that carry them.  The machine gives every command
a meaning; a command that is not well formed is one the outside world cannot send.
-/

namespace Sys2Proof

/-- R515: HSEQ and COOKIE are 32-bit fields. -/
def MsgRef.wf (m : MsgRef) : Bool := decide (m.hseq < 2 ^ 32) && decide (m.cookie < 2 ^ 32)

/-- R15, R542: a 16-bit code, one of the severities 0 to 5. -/
def FaultDesc.wf (f : FaultDesc) : Bool := decide (f.code < 2 ^ 16) && decide (f.severity ≤ 5) && decide (f.tag < 2 ^ 32)

/-- R467: 24-bit QPN and PSN, a payload of at most 4,096 bytes. -/
def RocePkt.wf (p : RocePkt) : Bool := decide (p.qpn < 2 ^ 24) && decide (p.psn < 2 ^ 24) && decide (p.data.length ≤ 4096)

/-- R468: IP addresses and UDP ports. -/
def Datagram.wf (g : Datagram) : Bool :=
  decide (g.dstIp < 2 ^ (if g.ipv6 then 128 else 32)) && decide (g.srcIp < 2 ^ (if g.ipv6 then 128 else 32))
    && decide (g.dstPort < 2 ^ 16) && decide (g.srcPort < 2 ^ 16)

/-- The operands of a command fit their fields. -/
def Instr.wf (i : Instr) : Bool :=
  match i with
  | .registerWrite off width value => decide (off < 0x1000_0000) && decide (width ∈ [8, 16, 32, 64]) && decide (value.toNat < 2 ^ width)
  | .reg64LowHalfRead r => decide (r.off < 0x1000_0000) && decide (r.width ∈ [8, 16, 32, 64])
  | .reg64LowHalfWrite off _ => decide (off < 0x1000_0000) && off % 8 = 0
  | .reg64HighHalfWrite off _ => decide (off < 0x1000_0000) && off % 8 = 4
  | .lastErrorClear off => decide (off < 0x1000_0000) && off % 4 = 0
  | .fabricLinkDown link => decide (link < 15)
  | .cadPinEdge _ => true
  | .cadFreeMark => true
  | .cadHostMark _ => true
  | .cadCtrlWrite _ => true
  | .acceptedMark => true
  | .sourceLost => true
  | .lossGeneratorMark => true
  | .phaseSaturate => true
  | .segmentBoundary => true
  | .calCtrlWrite _ => true
  | .calEpochSecWrite _ => true
  | .ppsEdge _ => true
  | .ppsHoldover => true
  | .planStore m lib src len => m.wf && decide (lib < 256) && decide (src < 2 ^ 64) && decide (len < 2 ^ 32)
  | .planStoreDone => true
  | .planLoad m lib => m.wf && decide (lib < 256)
  | .planLoadDone => true
  | .planArm m step pu => m.wf && decide (step < 2 ^ 32) && decide (pu < 2 ^ 16)
  | .planDisarm m => m.wf
  | .planEvict m lib => m.wf && decide (lib < 256)
  | .switchPoint => true
  | .switchStart => true
  | .switchComplete => true
  | .streamArm _ _ => true
  | .taskAllocResume => true
  | .nop _ => true
  | .seta _ _ _ _ => true
  | .adda _ _ _ => true
  | .addp _ _ _ _ => true
  | .loop _ _ _ => true
  | .endl _ _ _ => true
  | .xfer _ _ _ _ => true
  | .xstr _ _ _ piece _ _ => decide (1 ≤ piece.toNat)
  | .emit _ _ => true
  | .due _ _ _ => true
  | .endStream _ => true
  | .transferRetire _ => true
  | .taskCommit tag bad => decide (tag < 2 ^ 32) && bad.all (fun a => a < 2 ^ 56)
  | .handleArrive _ _ _ => true
  | .liftFullResume _ _ => true
  | .poolWaitResume _ => true
  | .bufferReleaseArrive _ _ _ => true
  | .stageStart _ _ => true
  | .stageHandover _ _ => true
  | .stageCommitPu _ _ => true
  | .abortRequestReceive tag => decide (tag < 2 ^ 32)
  | .abortOrderReceive _ tag => decide (tag < 2 ^ 32)
  | .abortReport tag => decide (tag < 2 ^ 32)
  | .taskSubmit m die stage stream params => m.wf && decide (die < 256) && decide (stage < 256) && decide (stream < 2 ^ 16) && params.length = 8
  | .taskAbort m tag => m.wf && decide (tag < 2 ^ 32)
  | .taskQuery m tag => m.wf && decide (tag < 2 ^ 32)
  | .stallClear _ => true
  | .add _ _ _ _ => true
  | .sub _ _ _ _ => true
  | .and _ _ _ _ => true
  | .or _ _ _ _ => true
  | .xor _ _ _ _ => true
  | .sll _ _ _ _ => true
  | .srl _ _ _ _ => true
  | .sra _ _ _ _ => true
  | .slt _ _ _ _ => true
  | .sltu _ _ _ _ => true
  | .min _ _ _ _ => true
  | .max _ _ _ _ => true
  | .minu _ _ _ _ => true
  | .maxu _ _ _ _ => true
  | .mul _ _ _ _ => true
  | .mulh _ _ _ _ => true
  | .mulhu _ _ _ _ => true
  | .div _ _ _ _ => true
  | .divu _ _ _ _ => true
  | .rem _ _ _ _ => true
  | .remu _ _ _ _ => true
  | .clz _ _ _ => true
  | .popc _ _ _ => true
  | .addi _ _ _ _ => true
  | .andi _ _ _ _ => true
  | .ori _ _ _ _ => true
  | .xori _ _ _ _ => true
  | .slli _ _ _ _ => true
  | .srli _ _ _ _ => true
  | .srai _ _ _ _ => true
  | .slti _ _ _ _ => true
  | .sltiu _ _ _ _ => true
  | .lui _ _ _ => true
  | .lw _ _ _ _ => true
  | .lh _ _ _ _ => true
  | .lhu _ _ _ _ => true
  | .lb _ _ _ _ => true
  | .lbu _ _ _ _ => true
  | .sw _ _ _ _ => true
  | .sh _ _ _ _ => true
  | .sb _ _ _ _ => true
  | .amoadd _ _ _ _ => true
  | .amoswap _ _ _ _ => true
  | .amocas _ _ _ _ => true
  | .amomin _ _ _ _ => true
  | .amomax _ _ _ _ => true
  | .amominu _ _ _ _ => true
  | .amomaxu _ _ _ _ => true
  | .beq _ _ _ _ => true
  | .bne _ _ _ _ => true
  | .blt _ _ _ _ => true
  | .bge _ _ _ _ => true
  | .bltu _ _ _ _ => true
  | .bgeu _ _ _ _ => true
  | .jal _ _ _ => true
  | .jalr _ _ _ _ => true
  | .fadd _ _ _ _ => true
  | .fsub _ _ _ _ => true
  | .fmul _ _ _ _ => true
  | .fmin _ _ _ _ => true
  | .fmax _ _ _ _ => true
  | .feq _ _ _ _ => true
  | .flt _ _ _ _ => true
  | .fle _ _ _ _ => true
  | .fsgnj _ _ _ _ => true
  | .fsgnjn _ _ _ _ => true
  | .fsgnjx _ _ _ _ => true
  | .fcvtSW _ _ _ => true
  | .fcvtSWu _ _ _ => true
  | .fcvtWS _ _ _ => true
  | .fcvtWuS _ _ _ => true
  | .fclass _ _ _ => true
  | .fmadd _ _ _ _ _ => true
  | .fmsub _ _ _ _ _ => true
  | .fnmadd _ _ _ _ _ => true
  | .fnmsub _ _ _ _ _ => true
  | .badd2 _ _ _ _ => true
  | .bmul2 _ _ _ _ => true
  | .bmax2 _ _ _ _ => true
  | .bmin2 _ _ _ _ => true
  | .bdot2 _ _ _ _ => true
  | .bpack _ _ _ _ => true
  | .blo _ _ _ => true
  | .bhi _ _ _ => true
  | .exp2 _ _ _ => true
  | .log2 _ _ _ => true
  | .rcp _ _ _ => true
  | .rsqrt _ _ _ => true
  | .sqrt _ _ _ => true
  | .tanh _ _ _ => true
  | .sigmoid _ _ _ => true
  | .hmix _ _ _ _ => true
  | .crcw _ _ _ _ => true
  | .crcb _ _ _ _ => true
  | .gen _ _ _ _ _ => true
  | .rdsr _ _ _ => true
  | .wrsr _ _ _ => true
  | .sarm _ _ _ _ _ => true
  | .swait _ _ _ => true
  | .balloc _ _ _ => true
  | .brel _ _ => true
  | .lpush _ _ _ => true
  | .hloc _ _ _ => true
  | .ssig _ _ _ _ => true
  | .swge _ _ _ _ => true
  | .srst _ _ _ => true
  | .ask _ _ _ => true
  | .tnew _ _ _ => true
  | .trap _ _ => true
  | .halt _ => true
  | .cellResidueFail _ => true
  | .cellStoreEcc _ => true
  | .clusterFault _ _ => true
  | .gatePop _ _ => true
  | .flowEntryGrant _ => true
  | .delayRelease _ _ => true
  | .gateDispatch _ _ => true
  | .syncApply _ _ => true
  | .syncCmdSignal _ _ _ => true
  | .syncCmdReset _ _ _ => true
  | .ingestJobStart _ _ => true
  | .ingestJobEnd _ _ => true
  | .packHandleRead _ _ => true
  | .batchCloseBudget _ _ batch => decide (batch < 2 ^ 32)
  | .packEmit _ _ => true
  | .packFlush _ _ => true
  | .hashJobStart _ _ => true
  | .hashJobEnd _ _ => true
  | .matchSearchJob _ _ ecc => ecc.all (fun g => g < 4)
  | .matchUpdateJob _ _ => true
  | .matchJobEnd _ _ => true
  | .matchCommitApply _ _ _ => true
  | .matchHostApply _ => true
  | .matchHostPair _ => true
  | .matchHostRead _ => true
  | .selectPiece _ _ => true
  | .selectJobEnd _ _ => true
  | .gatherLookupJob _ _ => true
  | .gatherGradientJob _ _ => true
  | .gatherJobEnd _ _ => true
  | .applyStart _ _ => true
  | .applyEnd _ _ => true
  | .migrationCopyEnd _ _ => true
  | .roundReplay _ _ => true
  | .cutOver _ _ => true
  | .frameReturn _ _ _ _ => true
  | .embFlush _ _ _ => true
  | .arrayDense _ _ _ => true
  | .arrayRouted _ _ _ => true
  | .arrayInteract _ _ _ => true
  | .arrayAttend _ _ _ => true
  | .arrayJobEnd _ _ => true
  | .arrayResidueFail _ _ => true
  | .arraySelftestEnd _ _ _ => true
  | .arraySelftest _ _ => true
  | .portCtrlWrite _ _ => true
  | .portTrained _ delay => decide (delay < 2 ^ 32)
  | .flitReceive _ _ flit => flit.length = 256
  | .flitAckTimeout _ => true
  | .portLinkDown _ => true
  | .messageForward _ _ => true
  | .keepalive _ => true
  | .keepaliveSend => true
  | .memberLost _ => true
  | .cadence _ => true
  | .syncSignal _ => true
  | .groupCtrlWrite _ => true
  | .groupRouteWrite _ _ => true
  | .switchVote _ => true
  | .switchVoteTimeout => true
  | .switchDecision _ => true
  | .switchDecisionTimeout => true
  | .travAlltoall _ _ => true
  | .travReduce _ _ => true
  | .travRdmaWrite _ _ => true
  | .exchData _ => true
  | .exchReady _ => true
  | .exchAbort _ => true
  | .peerWrite _ => true
  | .peerRead _ => true
  | .peerData _ => true
  | .portAddr m payload => m.wf && decide (payload.length ≤ 224)
  | .qpSetup m payload => m.wf && decide (payload.length ≤ 224)
  | .qpDestroy m payload => m.wf && decide (payload.length ≤ 224)
  | .mrSet m payload => m.wf && decide (payload.length ≤ 224)
  | .mrClear m payload => m.wf && decide (payload.length ≤ 224)
  | .feedBind m payload => m.wf && decide (payload.length ≤ 224)
  | .feedUnbind m payload => m.wf && decide (payload.length ≤ 224)
  | .roceWriteIn pkt => pkt.wf
  | .roceSendIn pkt => pkt.wf
  | .roceAckIn _ qpn psn syndrome _ => decide (qpn < 2 ^ 24) && decide (psn < 2 ^ 24) && decide (syndrome < 256)
  | .roceCnpIn _ qpn _ => decide (qpn < 2 ^ 24)
  | .roceRateRestore _ => true
  | .roceRetryTimeout _ => true
  | .feedFrame g => g.wf
  | .ptpSyncIn _ m => decide (m.seq < 2 ^ 16)
  | .ptpFollowUpIn _ m => decide (m.seq < 2 ^ 16)
  | .ptpDelayRespIn _ m => decide (m.seq < 2 ^ 16)
  | .ptpSyncTimeout _ => true
  | .groomerPatrol t _ _ => match t with | .memory a => decide (a < 2 ^ 56) | _ => true
  | .groomCtrlWrite _ => true
  | .vmCtrlWrite _ => true
  | .vmRootWrite _ => true
  | .vmInval _ => true
  | .vmInvalDone => true
  | .atsCompletion page target _ _ => decide (page < 2 ^ 52) && decide (target < 2 ^ 52)
  | .atsInvalidate itag addr _ => decide (itag < 32) && decide (addr < 2 ^ 64)
  | .hostReadCompletion _ _ _ => true
  | .memoryTrainingEnd _ bonded _ _ => decide (bonded.length ≤ 4)
  | .bar4Read off len => decide (off + len ≤ 2 ^ 40)
  | .bar4Write off data => decide (off + data.length ≤ 2 ^ 40)
  | .bar4BaseWrite _ => true
  | .bar4Resize exponent => decide (exponent < 64)
  | .bar2InvalidAccess off width _ => decide (off < 0x0100_0000) && decide (width ∈ [8, 16, 32, 64])
  | .h2dDoorbell _ slots => slots.all (fun e => decide (e.1 < 8192) && e.2.length = 256)
  | .messageConsume => true
  | .attach m driver minorMax => m.wf && decide (driver < 2 ^ 32) && decide (minorMax < 256)
  | .detach m => m.wf
  | .ping m _ => m.wf
  | .d2hAck _ => true
  | .heartbeat _ => true
  | .wdogCtrlWrite _ => true
  | .wdogExpire => true
  | .mbDiscard => true
  | .irqMapWrite _ _ => true
  | .msixCoalesceTimer => true
  | .msixUnmask _ => true
  | .coldReset => true
  | .deviceReset _ => true
  | .deviceResetDone pass => pass.all (fun k => k < 4)
  | .hotReset => true
  | .flr => true
  | .d3hotEntry => true
  | .errqEntry _ f => f.wf
  | .errqHandleDone _ => true
  | .stationDatapathFault _ _ _ => true
  | .controlFault _ _ => true
  | .fmapAdd => true
  | .fmapRemove => true
  | .recorderAccept => true
  | .evrRelease _ => true
  | .fatalFlashWrite => true
  | .mgmtWatchdogExpire _ => true
  | .lockstepMismatch _ => true
  | .firmwarePanic _ => true
  | .crashDumpDone => true
  | .crashInfo m => m.wf
  | .crashRead m slot dst => m.wf && decide (slot < 256) && decide (dst < 2 ^ 64)
  | .crashRelease m slot => m.wf && decide (slot < 256)
  | .fatalLogRead m dst => m.wf && decide (dst < 2 ^ 64)
  | .railSample mv da => mv.length = 15 && da.length = 15
  | .tempSample temps => decide (temps.length = 6)
  | .hbmTempReport _ _ => true
  | .governorPeriod => true
  | .clockAdjust => true
  | .voltageSettled _ => true
  | .vrSetpointTimeout _ => true
  | .vrAlert _ status => decide (status.all (fun x => x < 2 ^ 16))
  | .pwrCapWrite _ => true
  | .freqCapWrite _ => true
  | .telemetryRefresh => true
  | .setEndpointId _ _ => true
  | .getEndpointId _ => true
  | .getMctpVersionSupport _ _ => true
  | .getMessageTypeSupport _ => true
  | .getPdr id _ => decide (id < 2 ^ 32)
  | .getSensorReading id _ => decide (id < 2 ^ 16)
  | .getStateSensorReadings id _ => decide (id < 2 ^ 16)
  | .setNumericEffecterValue id value _ => decide (id < 2 ^ 16) && decide (value < 2 ^ 16)
  | .getNumericEffecterValue id _ => decide (id < 2 ^ 16)
  | .fwStage m payload => m.wf && decide (payload.length ≤ 224)
  | .fwActivate m payload => m.wf && decide (payload.length ≤ 224)
  | .fwCancel m payload => m.wf && decide (payload.length ≤ 224)
  | .fwCommit m payload => m.wf && decide (payload.length ≤ 224)
  | .fwInfo m payload => m.wf && decide (payload.length ≤ 224)
  | .fwActivationApply => true
  | .fwActivationTimeout => true
  | .fwRestartDone => true
  | .spdmMessage m payload => m.wf && decide (payload.length ≤ 224)
  | .secNonce m payload => m.wf && decide (payload.length ≤ 224)
  | .nonceExpire => true
  | .ownerProvision m payload => m.wf && decide (payload.length ≤ 224)
  | .ownerRevoke m payload => m.wf && decide (payload.length ≤ 224)
  | .debugUnlock m payload => m.wf && decide (payload.length ≤ 224)
  | .getVersion _ => true
  | .getCapabilities _ => true
  | .negotiateAlgorithms _ => true
  | .getDigests _ => true
  | .getCertificate _ => true
  | .challenge _ => true
  | .getMeasurements _ => true
  | .powerUp _ _ _ => true
  | .powerLoss => true
  | .extest _ _ => true
  | .samplePreload _ _ => true
  | .idcode _ => true
  | .highz _ => true
  | .clamp _ => true
  | .extestPulse _ _ => true
  | .extestTrain _ _ => true
  | .bypass _ => true
  | .perstDeassertion _ _ _ => true
  | .firmwareStart vmode => decide (vmode.length = 4)
  | .deviceReady _ => true
  | .fwStageDone _ => true
  | .configurationSpaceWrite _ _ _ _ => true
  | .pageRequestResponse group => decide (group < 512)
  | .doeDiscovery _ => true
  | .testLogicReset => true
  | .privateTapInstruction _ _ _ => true

end Sys2Proof
end

