-- ==== Sys2Proof/Tests/Slice0.lean ====
section
/-!
SUPPORT. Tests: a command the well-formedness check refuses for each of its checks, and for every statement a state that meets its
hypotheses.
-/

namespace Sys2Proof.Tests.Slice0

open Sys2Proof Sys2Proof.Machine

set_option linter.unusedVariables false
set_option Elab.async false

/-! ### Small devices -/

/-- A message stands at the front of the queue of its class. -/
def aQueue (d : Device) (m : MsgRef) (op : Nat) (b : List Byte) : Device :=
  { d with host := { d.host with classQ := d.host.classQ.put (op / 4096) [{ opcode := op, hseq := m.hseq, cookie := m.cookie, payload := b }] } }

/-- A plan image of one member: one region, one Traverse with its Lift, one program of one HALT, one stage. -/
def image : List Byte :=
  leBytes 38 0xc0008000400000050101000000000000000100000007000003c000000200000000014c504b58 ++
  zeros 90 ++
  leBytes 64 0xce0a781ef1d81bc6e5b68eaba1f77a5829ffcf9a59d2569f4120528fbb7dd2382e8b2bf11b97b6f4fb62ff436d4e53ce001495439981fc8bcd5fb6000e1007c1 ++
  zeros 320 ++
  leBytes 80 0x3fd7418700000010000003800001000b11454a4c0000002000000340000100040f85c9ba0000002400000300000100032180ee2700000018000002c000010002b8fb2f1c000000180000028000010001 ++
  zeros 48 ++
  leBytes 4 0x2000001 ++
  zeros 13 ++
  leBytes 1 0x10 ++
  zeros 46 ++
  leBytes 13 0x1ffff00010000000800100007 ++
  zeros 51 ++
  leBytes 35 0x6000280000000000000024000000040000002000000000000000010000000000000001 ++
  zeros 29 ++
  leBytes 11 0x400000000419800010101 ++
  zeros 54 ++
  leBytes 8 0xc8006400000000ff ++
  zeros 55

theorem image_digest : planCheck5 image = none := by decide +kernel

/-- The image loaded. -/
def aPlan : Plan := { lib := 3, image := image, moves := [], companions := [], stale := false }

/-- A plan whose image reads as zeros. -/
def plan0 : Plan := { lib := 3, image := [], moves := [], companions := [], stale := false }

/-- The device at reset with its memory ready. -/
def ready : Device := Device.reset.setReg Reg.MEM_STATUS 0x7FF

def plan (f : PlanUnit → PlanUnit) : Device := ready.updPlan f

/-- A message from member 1 on port 0. -/
def aMsg (mtype : Nat) (fields : List Byte := zeros 20) (payload : List Byte := []) : RxMsg :=
  { port := 0, time := 0, vc := vcOf mtype, flits := 0, msg := { mtype := mtype, src := 1, dst := 0, hops := 0, pseq := 0, fields := fields, payload := payload } }
def gotMsg (mtype : Nat) (fields : List Byte := zeros 20) (payload : List Byte := []) : Device :=
  ready.updLink (fun l => { l with rx := [aMsg mtype fields payload] })

/-- An image with the sections given, for die 0; its other header fields are 0. -/
def mkImage (secs : List (Nat × List Byte)) : List Byte :=
  zeros 0x1C ++ [1, 1] ++ u16 secs.length ++ u16 0x4000 ++ u16 0x8000 ++ u16 0xC000 ++ zeros 0x1DA
    ++ (secs.foldl (fun (acc : List Byte × Nat) s => (acc.1 ++ u16 s.1 ++ [1, 0] ++ u32 acc.2 ++ u32 s.2.length ++ u32 0, acc.2 + s.2.length))
      ([], 0x200 + 16 * secs.length)).1
    ++ secs.flatMap (·.2)
def region (id flags base size : Nat) : List Byte := u16 id ++ u8 0 ++ u8 flags ++ zeros 4 ++ u64 base ++ u64 size
def stageRec (id next start hand commit : Nat) : List Byte := u8 id ++ u8 next ++ zeros 2 ++ u16 start ++ u16 hand ++ u16 commit ++ zeros 6
def liftRec (id consumer producer : Nat) : List Byte := u8 1 ++ u8 1 ++ u16 id ++ u32 consumer ++ u32 producer ++ zeros 20
def poolRec (id reg off size n : Nat) : List Byte := u8 2 ++ u8 0 ++ u16 id ++ u16 reg ++ zeros 2 ++ u64 off ++ u32 size ++ u32 n ++ zeros 8
def pisteSec (sid flags lift pool stage : Nat) : List Byte :=
  u16 sid ++ u8 flags ++ u8 0 ++ u16 lift ++ u16 pool ++ zeros 2 ++ u8 stage ++ zeros 21
def stationSec (kind k : Nat) (config : List Byte) : List Byte := u64 (kind + 16 * k + 2 ^ 16 * config.length + 2 ^ 32 * 8) ++ config

/-- The device running a plan with the sections given. -/
def running (secs : List (Nat × List Byte)) : Device :=
  plan (fun p => { p with active := some { lib := 3, image := mkImage secs, moves := [], companions := [], stale := false } })

/-- Chapter 5: stream 0 reads and is a task head, stream 1 writes; two stages, one pool, one Lift. -/
def streamPlan : Device := running [(1, region 1 0 0 0x10000 ++ region 2 2 0x10000 0x10000), (4, poolRec 0 1 0x1000 256 4 ++ liftRec 1 1 0),
  (5, pisteSec 0 4 1 0 0 ++ pisteSec 1 1 1 0 0), (11, stageRec 0 1 0 100 200 ++ stageRec 1 0xFF 100 200 300)]
def aStream (f : Stream → Stream) : Stream := f { Stream.idle with state := .running, tag := 5 }
def aTask (f : Task → Task) : Task := f { tag := 5, state := .open, code := 0, aborting := false, alloc := 0, retired := 0, allocStep := 0
                                          deadlineStep := 0, carried := false, writes := [], stationStaging := [], lifts := [], lastLifts := []
                                          prepared := false, exch := [], rdma := [] }
def streaming (g : Nat) (f : Stream → Stream) : Device :=
  streamPlan.updStr (fun u => { u with streams := [(g, aStream f)], tasks := [(0, aTask id)] })
def aHandle : Handle := { addr := 0x1000, len := 64, last := false, late := false, pool := 0 }
def anEntry : LiftEntry := { h := aHandle, tag := 5, src := .port 0 }

/-- Chapter 6: a program of 64 words on cluster 0, with a pool in its cluster store and a Lift it may push on. -/
def cellPlan : Device := running [(1, region 1 0 0xB0000000000 0x10000), (3, u16 1 ++ zeros 6 ++ u64 3 ++ u32 32 ++ u16 256 ++ u16 2 ++ zeros 8 ++ zeros 256),
  (4, poolRec 7 1 0x1000 256 4 ++ liftRec 1 1 (2 ^ 18)), (5, pisteSec 0 4 1 7 0), (11, stageRec 0 1 0 100 200)]
/-- w3 = 0xFFFF_FFF9 (−7), w4 = 3, w5 = 0x40, w6 = 0x1_0010, w7 = 1. -/
def aCell (f : Cell → Cell) : Cell :=
  f { Cell.gatedCell with state := .running, pc := 16, regs := [0, 0, 0, 0xFFFFFFF9, 3, 0x40, 0x10010, 1] ++ List.replicate 24 0 }
def celling (f : Cell → Cell) : Device := { cellPlan with cells := [(0, aCell f)], str := { cellPlan.str with pools := [(7, [0xB0000001000])] } }
def cell0 : CellId := ⟨0, 0, 0, 0⟩
def anItem : Item := { cls := 0, prio := 1, tag := 5, ordinal := 0, operands := [aHandle], flow := some 7, formed := 0, formStep := 0, formTick := 0
                       readyPu := 0, abs := false, release := 0, granted := true }

/-- Chapter 7: class 0 of cluster 0 takes one operand from Lift 1. -/
def gatePlan : Device := running [(4, liftRec 1 (2 ^ 18) (2 ^ 18)), (7, zeros 4 ++ u8 1 ++ u8 1 ++ zeros 10 ++ u16 1 ++ zeros 6 ++ u16 2 ++ zeros 6)]
def gating (f : Gate → Gate) : Device := { gatePlan with sched := { gatePlan.sched with gates := [(0, f Gate.empty)] } }

/-! Stations: one instance of a kind on Lift 1 with pool 1, whose job has one input buffer at 0x1000. -/
def stationPlan (kind k : Nat) (config : List Byte) : Device :=
  running [(1, region 1 0 0 0x10000 ++ region 2 2 0x10000 0x10000), (2, stationSec kind k config), (4, poolRec 1 1 0x2000 512 4),
    (11, stageRec 0 1 0 100 200)]
def headOf (data : List Byte) : LiftEntry := { h := { addr := 0x1000, len := data.length, last := true, late := false, pool := 1 }, tag := 5, src := .port 0 }
/-- The handle waits on the Lift. -/
def waiting (kind k : Nat) (config data : List Byte) : Device :=
  ((stationPlan kind k config).write 0x1000 data).updStr (fun u => { u with lifts := [(1, [headOf data])], tasks := [(0, aTask id)] })
def jobOf (data : List Byte) (words : List Nat) : Job := { mode := 0, tag := 5, inputs := [headOf data], seq := 3, words := words, bytes := [] }
/-- The job is under way, with two buffers in the pool. -/
def jobbing (kind k : Nat) (config data : List Byte) (words : List Nat) : Device :=
  (((stationPlan kind k config).write 0x1000 data).updStr (fun u => { u with pools := [(1, [0x2000, 0x2200])], tasks := [(0, aTask id)] })).updStn
    (fun u => { u with jobs := [(stKey 0 kind k, jobOf data words)] })

/-- Hash: OP 1 (bucket), one operand, seed 7, N 100, BASE 10. -/
def hashConfig : List Byte := u16 1 ++ u16 2 ++ u16 1 ++ u8 1 ++ u8 1 ++ u64 7 ++ u32 100 ++ u32 10 ++ zeros 40
def hashData : List Byte := columnBuffer 5 0x0E 2 0 0 0 true none (u32 1 ++ u32 2)
/-- Ingest: raw output, 2 buffers; an envelope of stored bytes to decode, and one to encode. -/
def ingestConfig : List Byte := u16 1 ++ u16 2 ++ u16 1 ++ u8 0 ++ u8 1 ++ zeros 104
def envelope (format dir : Nat) (payload : List Byte) : List Byte :=
  let h := u32 0x48454958 ++ u8 format ++ u8 dir ++ u16 0 ++ u32 payload.length ++ u32 0 ++ u64 0
  h ++ u32 (headerCrc h 0x18) ++ zeros (64 - h.length - 4) ++ payload
/-- An envelope of stored bytes that declares `n`. -/
def envelopeSized (n : Nat) (payload : List Byte) : List Byte :=
  let h := u32 0x48454958 ++ u8 0 ++ u8 0 ++ u16 0 ++ u32 payload.length ++ u32 0 ++ u64 n
  h ++ u32 (headerCrc h 0x18) ++ zeros (64 - h.length - 4) ++ payload
/-- Pack: MANIFEST mode, rows of 8, 2 rows, 2 slots, budget 100, 4 samples. -/
def packConfig : List Byte := u16 1 ++ u16 1 ++ u16 2 ++ u8 0 ++ u8 0x0E ++ u32 8 ++ u16 2 ++ u8 2 ++ u8 0 ++ u16 100 ++ u16 3 ++ zeros 44
def aSample : PackSample := { id := 9, live := false, len := 2, capture := 0, data := u32 1 ++ u32 2, space := 128, adm := 0, origin := 3, marks := 0 }
def aBatch : PackBatch := { id := 3, listed := [9], samples := [aSample], openStep := 0, openPu := 0, space := 128 }
def packing (f : PackInst → PackInst) : Device := { stationPlan 6 0 packConfig with pack := [(packKey 0 0, f PackInst.empty)] }
/-- Match: a gang of one bank, values, keys of 32 bits at offset 0. -/
def matchConfig : List Byte := u16 1 ++ u16 2 ++ u16 1 ++ u8 0 ++ u8 1 ++ u8 0 ++ u8 2 ++ u16 7 ++ zeros 4 ++ u64 99 ++ u16 0 ++ zeros 38
def aChange : MatchChange := { op := 1, index := 4, src := 0, key := 2, care := 0xF, result := 77, prio := 1, pair := false }
def aChangeBytes : List Byte := u8 1 ++ u8 0 ++ u16 4 ++ u16 0 ++ u16 0 ++ leBytes 40 2 ++ leBytes 40 0xF ++ u64 77 ++ u8 1 ++ zeros 31
def updateData : List Byte := outHeader 0xFFFD 0x09 2 1 0 0 0 32 128 ++ aChangeBytes
def matching (f : MatchInst → MatchInst) : Device :=
  let d := jobbing 1 0 matchConfig hashData []
  { d with matchI := [(matchKey 0 0, f MatchInst.empty)], matchE := [(entryNo 0 0 4, { state := 1, key := 2, care := 0xF, result := 77, prio := 1 })] }
def hostMatching (act : Nat) : Device :=
  ((List.range 32).foldl (fun (d : Device) w => d.setReg (Reg.MATCH_HOST_REC0 0 w) (BitVec.ofNat 64 (leAt aChangeBytes (4 * w) 4)))
    { stationPlan 1 0 matchConfig with matchE := [(entryNo 0 3 4, { state := 2, key := 6, care := 7, result := 8, prio := 2 })] }).setReg
      (Reg.MATCH_HOST_CMD 0) (BitVec.ofNat 64 (3 + 2 ^ 7 * act + 2 ^ 9))
/-- Select: top 2 of a row of unsigned integers. -/
def selectConfig : List Byte := u16 1 ++ u16 2 ++ u16 1 ++ u8 0 ++ u8 0 ++ u32 2 ++ u32 0 ++ u16 0 ++ u8 2 ++ zeros 45
def scores (row piece flags : Nat) : List Byte :=
  u32 row ++ u8 0x0E ++ u8 flags ++ u8 piece ++ u8 0 ++ u32 4 ++ u32 10 ++ u32 1 ++ u32 64 ++ zeros 40 ++ u32 5 ++ u32 9 ++ u32 7 ++ u32 9

/-! Chapter 13: table 0 of FP32 rows of two columns under SGD, served by Gather 0, with a row cache of one set. -/
def tableSec : List Byte :=
  u16 0 ++ u8 0 ++ u8 1 ++ u8 5 ++ u8 0 ++ u8 0 ++ u8 0 ++ u32 8 ++ u16 2 ++ u16 0 ++ u16 2 ++ u16 1 ++ u16 3 ++ u16 2 ++ u16 4 ++ u16 0
    ++ u32 1 ++ u32 0 ++ u16 0 ++ u16 0 ++ u32 4 ++ zeros 84
def gatherConfig : List Byte := u16 1 ++ u16 2 ++ u16 1 ++ zeros 58
def gatherPlan : Device :=
  running [(1, region 1 0 0 0x10000 ++ region 2 0 0x10000 0x10000 ++ region 3 0 0x20000 0x10000 ++ region 4 0 0x30000 0x10000), (2, stationSec 4 0 gatherConfig),
    (4, poolRec 1 1 0x2000 512 4), (9, tableSec), (11, stageRec 0 1 0 100 200)]
/-- SUM of rows 3 and 9, of which 9 is invalid. -/
def lookupData : List Byte := u8 1 ++ u8 1 ++ u16 0 ++ u32 1 ++ u32 2 ++ zeros 52 ++ u32 77 ++ zeros 60 ++ u32 0 ++ u32 2 ++ zeros 56 ++ u32 3 ++ u32 9
def gradientData : List Byte :=
  u8 3 ++ u8 1 ++ u16 0 ++ u32 1 ++ u32 1 ++ u8 0 ++ u8 0 ++ u16 2 ++ zeros 48 ++ u32 77 ++ zeros 60 ++ u32 0 ++ u32 1 ++ zeros 56 ++ u32 3 ++ zeros 60
    ++ u32 0x3F800000 ++ u32 0x40000000 ++ zeros 56
def gathering (data : List Byte) : Device :=
  (((gatherPlan.write 0x1000 data).write (0x20000 + 3 * 64) (u32 0x40400000 ++ u32 0x3F800000)).updStr
    (fun u => { u with lifts := [(1, [headOf data])], pools := [(1, [0x2000, 0x2200])], tasks := [(0, aTask id)] }))
def gatherJob (mode : Nat) (words : List Nat) (bytes : List Byte) : Job := { mode := mode, tag := 5, inputs := [headOf lookupData], seq := 0, words := words, bytes := bytes }
def gatherEnding (j : Job) : Device := (gathering lookupData).updStn (fun u => { u with jobs := [(256, j)] })
def aTable : TableRec := tableRec tableSec
def aContribution : Contribution := { row := 3, sample := 77, pos := 0, vec := [0x3F800000, 0x40000000] }
def aMove : EmbMove := { row := 3, src := ⟨0, 0, 0⟩, dst := ⟨1, 2, 5⟩ }
def tabling (f : EmbTable → EmbTable) : Device := { gathering lookupData with emb := [(0, f EmbTable.empty)] }

/-! Chapter 14: Array 0 with its command on Lift 1, A on Lift 3, W on Lift 4; a BF16 product of one row of 32 with two columns. -/
def arrConfig : List Byte := u16 1 ++ u16 3 ++ u16 4 ++ u16 2 ++ u16 1 ++ zeros 6
def arrCommand (op : Nat) (n v e : Nat) (valueDesc : Nat) : List Byte :=
  let prod := op ≤ 1
  u8 op ++ u8 (if op = 3 then 0 else 1) ++ u8 (if prod then 1 else 0) ++ u8 0 ++ u8 0 ++ u8 0 ++ u8 (if op = 1 then 32 else 0) ++ u8 (if op = 3 then 1 else 0)
    ++ u32 (if op = 3 then 0 else 1) ++ u32 n ++ u32 (if op = 3 then 0 else 32) ++ u16 v ++ u16 e ++ u32 (if op = 3 then 0 else 1) ++ u32 0 ++ u32 (if op = 3 then 0 else 64)
    ++ u32 (if prod then 2 else 0) ++ u32 0 ++ u32 (if prod then 64 else 0) ++ u32 1 ++ u32 64 ++ u32 0 ++ u32 (if op = 1 || op = 3 then 0x3F800000 else 0) ++ zeros 24 ++ u64 valueDesc ++ zeros 160
def aRow : List Byte := u16 0x4000 ++ u16 0x3F80 ++ zeros 60
def wRowsB : List Byte := u16 0x4040 ++ zeros 62 ++ u16 0 ++ u16 0x4080 ++ zeros 60
def opEntry (addr len : Nat) : LiftEntry := { h := { addr := addr, len := len, last := false, late := false, pool := 1 }, tag := 5, src := .port 0 }
/-- A Select result of one row 0 with one entry: index 0, value 1.0, SUM_SELECTED 1.0, SUM_REST 1.0, ROW_MAX 1.0; and its dispatch list. -/
def aResult : List Byte :=
  u32 0 ++ u8 0 ++ u8 2 ++ u16 1 ++ u32 1 ++ u32 1 ++ u32 0 ++ u32 0 ++ u64 0x3F800000 ++ u64 0x3F800000 ++ u32 0x3F800000 ++ zeros 20 ++ u32 0 ++ u32 0x3F800000 ++ zeros 56
def aDispatch : List Byte := u32 1 ++ u32 1 ++ zeros 56 ++ u32 1 ++ zeros 60 ++ u32 0 ++ u16 0 ++ u16 0
def aValueDesc : List Byte :=
  u64 0x3100 ++ u16 1 ++ u8 0 ++ u8 2 ++ zeros 4 ++ u32 2 ++ u32 1 ++ zeros 16 ++ u64 8 ++ zeros 48
def arrPlan : Device :=
  ((((((running [(1, region 1 0 0 0x10000), (2, stationSec 0 0 arrConfig), (4, poolRec 1 1 0x2000 512 8), (11, stageRec 0 1 0 100 200)]).write 0x1000 aRow).write 0x1100 wRowsB).write
    0x1200 aResult).write 0x1300 aDispatch).write 0x3000 aValueDesc).write 0x3100 (u32 0x40000000 ++ u32 0x40400000) |>.updStr
      (fun u => { u with lifts := [(3, [opEntry 0x1000 64])], pools := [(1, [0x2000, 0x2200])], tasks := [(0, aTask id)] })
def arrJobOf (op : Nat) : Job := { mode := op, tag := 5, inputs := [opEntry 0x1100 128], seq := 0, words := [], bytes := [] }
def arraying (op : Nat) (cmd : List Byte) (f : ArrJob → ArrJob) : Device :=
  { arrPlan.updStn (fun u => { u with jobs := [(0, arrJobOf op)] }) with arr := [(0, f (ArrJob.new cmd))] }

/-- ATTEND with its Select result held and its descriptor read; the value row asked for or in the tile of channel 2. -/
def attending (asked : Bool) : Device :=
  let d := arraying 3 (arrCommand 3 0 0 0 0x3000) (fun a => { a with sides := [opEntry 0x1200 128], vdesc := aValueDesc, asked := asked })
  if asked then d.setStream 16386 { Stream.idle with tile := [(tileKey 0 0 0 0x3100, u32 0x40000000 ++ u32 0x40400000)] } else d

/-! Chapter 15: port 0 enabled, trained in Alanauri mode, with a route to member 1 on it; the device is member 0. -/
def linked : Device :=
  ((ready.setReg (Reg.PORT_CTRL 0) 1).setFld (Reg.PORT_STATUS 0) Fd.PORT_STATUS_LINK_UP 1).setReg (Reg.GROUP_ROUTE 1) 8
def grouped : Device := (linked.setReg Reg.GROUP_CTRL 1).setReg Reg.GROUP_PRESENT 3
def linkPort (f : PortUnit → PortUnit) : Device := linked.setPort 0 (f PortUnit.trained)
def aFlit : TxFlit := { vc := 0, msg := { mtype := 1, src := 0, dst := 1, hops := 0, pseq := 0, fields := zeros 20, payload := [] }, die := 4, payload := zeros 240 }
def rxOf (mtype dst : Nat) (fields payload : List Byte) : RxMsg :=
  { port := 0, time := 0, vc := vcOf mtype, flits := 0, msg := { mtype := mtype, src := 1, dst := dst, hops := 0, pseq := 0, fields := fields, payload := payload } }
def received (r : RxMsg) : Device := grouped.updLink (fun l => { l with rx := [r] })
/-! A DATA flit that carries a KEEPALIVE from member 1. -/
/-- The first 252 bytes of a DATA flit with SEQ 0, its CRC computed in parts, and the flit the port reads. -/
def keepHead : List Byte := u8 1 ++ u8 0 ++ u16 0 ++ u16 0 ++ u8 0 ++ u8 0 ++ zeros 4 ++ linkBytes (rxOf 1 0 (zeros 20) []).msg
def keepPre : List Byte := keepHead ++ zeros 26 ++ zeros 26 ++ zeros 26 ++ zeros 26 ++ zeros 26 ++ zeros 26 ++ zeros 26 ++ zeros 26
theorem keep_crc0 : keepHead.foldl crcByte 0xFFFFFFFF#32 = 0xDF98775E#32 := by decide +kernel
theorem keep_crc1 : (zeros 26).foldl crcByte 0xDF98775E#32 = 0xAAAAC945#32 := by decide +kernel
theorem keep_crc2 : (zeros 26).foldl crcByte 0xAAAAC945#32 = 0x13AF3794#32 := by decide +kernel
theorem keep_crc3 : (zeros 26).foldl crcByte 0x13AF3794#32 = 0x3DDA114#32 := by decide +kernel
theorem keep_crc4 : (zeros 26).foldl crcByte 0x3DDA114#32 = 0x6494C551#32 := by decide +kernel
theorem keep_crc5 : (zeros 26).foldl crcByte 0x6494C551#32 = 0xC0BA999C#32 := by decide +kernel
theorem keep_crc6 : (zeros 26).foldl crcByte 0xC0BA999C#32 = 0x4C94A5DF#32 := by decide +kernel
theorem keep_crc7 : (zeros 26).foldl crcByte 0x4C94A5DF#32 = 0x815700B2#32 := by decide +kernel
theorem keep_crc8 : (zeros 26).foldl crcByte 0x815700B2#32 = 0x52D1FEC1#32 := by decide +kernel
theorem keep_crc : crc32c keepPre = 0xAD2E013E#32 := by
  unfold crc32c keepPre
  simp only [List.foldl_append, keep_crc0, keep_crc1, keep_crc2, keep_crc3, keep_crc4, keep_crc5, keep_crc6, keep_crc7, keep_crc8]
  decide
def keepFlit0 : Flit := { type := 1, vc := 0, seq := 0, ackSeq := 0, creditVc := 0, credit := 0, payload := keepPre.drop 12 }
theorem keep_flit : flitOf (keepPre ++ u32 0xAD2E013E) = some keepFlit0 := by
  have h : (keepPre ++ u32 0xAD2E013E).take 252 = keepPre := by decide +kernel
  unfold flitOf
  rw [h, keep_crc]
  decide +kernel
def keepBytes : List Byte := keepPre ++ u32 0xAD2E013E
/-- Port 0 in Ethernet mode with every function on. -/
def etherDev : Device := ready.setReg (Reg.PORT_CTRL 0) 0x1F
def aQp : Qp := { port := 0, responder := true, requester := true, destQpn := 5, destIp := 0, destMac := 0, txPsn := 0, rxPsn := 7, mtu := 0, die := 0, lift := 1, pool := 1, stage := 0
                  error := false, rate := 65536, rateAt := 0, retries := 0, sentAt := 0, unacked := [], writeVa := 0, writeEnd := 0, writePa := 0, recv := [] }
def aSent : RoceSent := { kind := 3, psn := 2, va := 0, rkey := 1, data := [1] }
def aMr : MemRegion := { rkey := 9, va := 0x100, len := 0x1000, pa := 0x2000 }
def aFeed : Feed := { port := 0, ipv6 := false, udpPort := 77, dstIp := 5, die := 0, stage := 0, lift := 1, pool := 1, frames := 1, closeUs := 1, seq := 0, tag := 0, count := 0, first := 0 }
def etherPlan (f : LinkUnit → LinkUnit) : Device :=
  (((running [(1, region 1 0 0 0x10000), (4, poolRec 1 1 0x2000 512 4), (5, pisteSec 0 0 1 1 0), (11, stageRec 0 1 0 100 200)]).updStr
    (fun u => { u with pools := [(1, [0x2000, 0x2200])] })).setReg (Reg.PORT_CTRL 0) 0x1F).updLink (fun l => f { l with qps := [(0, aQp)], mrs := [(0, aMr)], feeds := [(0, aFeed)] })
def aPkt (kind : Nat) (va len : Nat) (data : List Byte) : RocePkt :=
  { port := 0, qpn := 0x100, kind := kind, psn := 7, va := va, rkey := 9, len := len, data := data, icrc := true, ce := false }
def aDatagram : Datagram := { port := 0, ipv6 := false, dstIp := 5, dstPort := 77, srcIp := 3, srcPort := 4, payload := [1, 2], ok := true, time := 50, frame := 60 }
def ptping (u : PtpUnit) : Device := etherDev.setPtp 0 u

/-! Traverse 0 of a group of two: map 1 replicated over one row of two columns, command on Lift 1, no DONE_LIFT. -/
def shardSec : List Byte := u8 2 ++ u16 0 ++ u8 3 ++ zeros 60 ++ (u8 1 ++ u8 2 ++ u16 0 ++ u32 1 ++ u32 2 ++ u32 0) ++ (u8 2 ++ u8 3 ++ u16 0 ++ u32 1 ++ u32 2 ++ u32 0)
  ++ (u8 3 ++ u8 0 ++ u16 0 ++ u32 1 ++ u32 2 ++ u32 0 ++ u32 0 ++ u32 0 ++ u32 0 ++ u32 1)
def travConfig : List Byte := u16 1 ++ u16 0xFFFF ++ u16 2 ++ zeros 10
def partDesc (base mode : Nat) : List Byte := u64 base ++ u16 (if mode = 0 then 1 else 2) ++ u8 0 ++ u8 2 ++ u8 mode ++ zeros 3 ++ u32 2 ++ u32 1 ++ zeros 16 ++ u64 8 ++ zeros 48
def travCommand (op sm dm : Nat) : List Byte :=
  u8 op ++ u8 0 ++ u8 sm ++ u8 dm ++ u32 9 ++ u16 0 ++ u16 0 ++ u16 0 ++ zeros 18 ++ partDesc 0x3000 0 ++ (if op = 2 then zeros 96 else partDesc 0x10000 0x20) ++ zeros 32
def travPlan : Device :=
  let d := running [(1, region 1 0 0 0x10000 ++ region 2 2 0x10000 0x10000), (2, stationSec 7 0 travConfig), (4, poolRec 1 1 0x2000 512 4), (10, shardSec), (11, stageRec 0 1 0 100 200)]
  ((d.updPlan (fun p => { p with active := p.active.map (fun a => { a with image := a.image.set 0x1D 2 }) })).write 0x3000 (u32 0x3F800000 ++ u32 0x40000000)).updStr
    (fun u => { u with pools := [(1, [0x2000, 0x2200])], tasks := [(0, aTask id)] })
def travWaiting (data : List Byte) : Device := (travPlan.write 0x5000 data).updStr (fun u => { u with lifts := [(1, [opEntry 0x5000 data.length])] })
def travTask : Task := aTask (fun t => { t with exch := [(1, 9, false)] })
def traversing (op : Nat) (cmd : List Byte) (t : Task) (f : TravJob → TravJob) : Device :=
  ((travPlan.updStr (fun u => { u with tasks := [(0, t)] })).updStn (fun u => { u with jobs := [(448, { arrJobOf op with inputs := [opEntry 0x5000 256] })] })).updLink
    (fun l => { l with trav := [(448, f { cmd := cmd, comps := [], asked := true, sent := true, staged := false, recv := [] })] })
def travGot (r : RxMsg) (d : Device) : Device := d.updLink (fun l => { l with rx := [r] })

/-! Chapter 16. -/
def hostGot (f : StreamUnit → StreamUnit) : Device := ready.updStr (fun u => f { u with extReads := [⟨7, 0, 5, hostBus 0x5000, 0x4000, 2, false⟩] })
def anAts : AtsRequest := { page := 5, write := true, tag := 5, va := 0x1234, level := 1 }
def atsWaiting : Device := (ready.updStr (fun u => { u with tasks := [(0, aTask id)] })).updMem (fun m => { m with atsPending := [anAts] })
def vmCached : Device := ready.updMem (fun m => { m with tlb := [{ die := 0, va := 0x1000, size := 0x1000, leaf := 7 }, { die := 1, va := 0x5000, size := 0x1000, leaf := 7 }], atc := [{ page := 5, target := 0x9000, read := true, write := true }] })
def boardHead : List Byte := u32 0x43424B58 ++ u16 1 ++ u16 256 ++ u16 0x1F3D ++ u16 1 ++ u8 16 ++ u8 1 ++ u8 2 ++ u8 4 ++ u16 64 ++ u16 6400
def boardRec0 : List Byte := boardHead ++ zeros 29 ++ zeros 29 ++ zeros 29 ++ zeros 29 ++ zeros 29 ++ zeros 29 ++ zeros 29 ++ zeros 29
theorem board_crc0 : boardHead.foldl crcByte 0xFFFFFFFF#32 = 0x7d91b82e#32 := by decide +kernel
theorem board_crc1 : (zeros 29).foldl crcByte 0x7d91b82e#32 = 0xdd4942aa#32 := by decide +kernel
theorem board_crc2 : (zeros 29).foldl crcByte 0xdd4942aa#32 = 0x4da40131#32 := by decide +kernel
theorem board_crc3 : (zeros 29).foldl crcByte 0x4da40131#32 = 0x3ee85f74#32 := by decide +kernel
theorem board_crc4 : (zeros 29).foldl crcByte 0x3ee85f74#32 = 0xe75db87e#32 := by decide +kernel
theorem board_crc5 : (zeros 29).foldl crcByte 0xe75db87e#32 = 0x12727270#32 := by decide +kernel
theorem board_crc6 : (zeros 29).foldl crcByte 0x12727270#32 = 0x44c0aab6#32 := by decide +kernel
theorem board_crc7 : (zeros 29).foldl crcByte 0x44c0aab6#32 = 0x70819360#32 := by decide +kernel
theorem board_crc8 : (zeros 29).foldl crcByte 0x70819360#32 = 0x814be647#32 := by decide +kernel
theorem board_crc : (crc32c boardRec0).toNat = 2125732280 := by
  unfold crc32c boardRec0
  simp only [List.foldl_append, board_crc0, board_crc1, board_crc2, board_crc3, board_crc4, board_crc5, board_crc6, board_crc7, board_crc8]
  decide
theorem board_ok : boardRecordOk (boardRec0 ++ u32 2125732280) = true := by
  have h : (boardRec0 ++ u32 2125732280).take 0xFC = boardRec0 := by decide +kernel
  unfold boardRecordOk
  rw [h, board_crc]
  decide +kernel

/-! Chapter 17. -/
def pingBytes (hseq : Nat) : List Byte := u16 3 ++ u8 1 ++ u8 0 ++ u16 8 ++ zeros 2 ++ u32 hseq ++ zeros 12 ++ u32 77 ++ zeros 4 ++ u64 0x1122
def posting (b : List Byte) : Device := ((ready.updHost (fun h => { h with h2d := [(0, b)] })).setReg Reg.MB_HSEQ_POSTED 1)
def msixOn : Device := ready.updHost (fun h => { h with msixEnable := true, busMaster := true, msix := [(0, ⟨0, 0, false⟩), (2, ⟨0, 0, false⟩), (3, ⟨0, 0, true⟩), (16, ⟨0, 0, false⟩)], pba := [3] })
def attached : Device := (ready.updHost (fun h => { h with busMaster := true })).setReg Reg.HOST_STATE 0x101

/-! Chapter 18. -/
def aFault (sev : Nat) (p : FaultPlace) : FaultDesc := { code := 0x0F12, severity := sev, place := p, tag := 5, byGroomer := false, arg0 := 0 }
def anErr (sev : Nat) (loc : Loc := {}) : ErrEntry := { event := { code := 0x0F12, severity := sev, tag := 9, loc := loc }, arrival := 0, subsumed := false }
def queued (q : Nat) (x : ErrQueue) : Device := (ready.updStr (fun u => { u with tasks := [(0, aTask id)] })).setErrq q x
def faulty (f : FaultUnit → FaultUnit) : Device := { ready with fault := f ready.fault }
def aRec (seq sev : Nat) : EventRec := { seq := seq, code := 0x1016, severity := sev, loc := { kind := 5, die := 1 } }
def withFw (d : Device) : Device := { d with mgmt := { d.mgmt with fw := true } }
def aDump : CrashDump := { cause := 0x1014, core := 2, fwImage := 0, calNs := 7, step := 3, fwVersion := 9, dumpSeq := 0, records := [aRec 1 3] }
def cellsOf : Device := { ready with cells := [(0x1000, Cell.gatedCell), (0x2000, Cell.gatedCell)] }
def fullRecorder : Device := { ready.setReg Reg.EVR_SEQ_NEXT 5001 with fault := { FaultUnit.reset with slots := (List.range 4096).map (fun i => (i, aRec i 1)), inputQ := [aRec 5000 2] } }
def fullRecorder0 : Device := { ready.setReg Reg.EVR_SEQ_NEXT 5001 with fault := { FaultUnit.reset with slots := (List.range 4096).map (fun i => (i, aRec i 1)), inputQ := [aRec 5000 0] } }
theorem full_seq : fullRecorder.fld Reg.EVR_SEQ_NEXT Fd.EVR_SEQ_NEXT_SEQ = 5001 := by decide +kernel
theorem full_slots : fullRecorder.fault.slots = (List.range 4096).map (fun i => (i, aRec i 1)) := by simp only [fullRecorder]
theorem full_recorder : (fun (d : Device) => d.runs ∧ d.regsWf ∧ d.fault.inputQ = aRec 5000 2 :: [] ∧ d.fault.slots.map (fun x => x.1) = List.range 4096 ∧ (0, aRec 0 1) ∈ d.fault.slots ∧ (aRec 0 1).severity ≤ (aRec 5000 2).severity ∧
    (∀ x ∈ d.fault.slots, x.2.severity ≤ (aRec 5000 2).severity → (aRec 0 1).severity ≤ x.2.severity ∧ (x.2.severity = (aRec 0 1).severity → x.1 = 0 ∨ seqDist (d.fld Reg.EVR_SEQ_NEXT Fd.EVR_SEQ_NEXT_SEQ) x.2.seq < seqDist (d.fld Reg.EVR_SEQ_NEXT Fd.EVR_SEQ_NEXT_SEQ) (aRec 0 1).seq))) fullRecorder := by
  refine ⟨by decide +kernel, by decide +kernel, rfl, ?_, ?_, by decide, ?_⟩
  · rw [full_slots, List.map_map]; exact List.map_id _
  · rw [full_slots]; exact List.mem_map.2 ⟨0, by simp, rfl⟩
  · rw [full_slots, full_seq]
    intro x hx _
    obtain ⟨i, hi, rfl⟩ := List.mem_map.1 hx
    have := List.mem_range.1 hi
    refine ⟨Nat.le_refl _, fun _ => ?_⟩
    simp only [aRec, seqDist]
    omega
theorem full_recorder0 : (fun (d : Device) => d.runs ∧ d.regsWf ∧ d.fault.inputQ = aRec 5000 0 :: [] ∧ d.fault.slots.map (fun x => x.1) = List.range 4096 ∧ (∀ x ∈ d.fault.slots, (aRec 5000 0).severity < x.2.severity)) fullRecorder0 := by
  have h : fullRecorder0.fault.slots = (List.range 4096).map (fun i => (i, aRec i 1)) := by simp only [fullRecorder0]
  refine ⟨by decide +kernel, by decide +kernel, rfl, ?_, ?_⟩
  · rw [h, List.map_map]; exact List.map_id _
  · rw [h]
    intro x hx
    obtain ⟨i, _, rfl⟩ := List.mem_map.1 hx
    exact Nat.zero_lt_one
theorem keccak_len (n : Nat) (m : List Byte) : (shake256 n m).length ≤ n := by
  exact List.length_take_le _ _
def crashed : Device := faulty (fun f => { f with crash := [(1, aDump)] })
theorem crash_dst (n : Nat) (h : n ≤ 2 ^ 30) : crashed.copyDst 0x4000 n = true := by
  have h0 : crashed.place 0x4000 = .hbm 0 := by decide +kernel
  have h1 : crashed.populatedEnd 0x4000 = some 0x30_0000_0000 := by decide +kernel
  have h3 : 0x4000 + max 1 n ≤ 0x30_0000_0000 := by omega
  have h4 : (max 1 n != 0) = true := by simp
  simp only [Device.copyDst, Device.rangeHbmDdr, Device.populated, Device.populatedFrom, Device.inHbmDdr, h0, h1, h3, h4, decide_true, Bool.true_or, Bool.and_true]
theorem aQueue_copyDst (d : Device) (m : MsgRef) (op : Nat) (b : List Byte) (a n : Nat) : (aQueue d m op b).copyDst a n = d.copyDst a n := rfl
theorem le_len (n v : Nat) : (leBytes n v).length = n := by
  induction n generalizing v with
  | zero => rfl
  | succ n ih => simp [leBytes, ih]
theorem dump_len : (dumpBytes aDump).length ≤ 2 ^ 30 := by
  have hh : ∀ m, (shake256 64 m).length ≤ 64 := keccak_len 64
  unfold dumpBytes
  simp only [List.length_append, List.length_take, zeros, List.length_replicate]
  refine Nat.le_trans (Nat.add_le_add_right (Nat.add_le_add_right (Nat.add_le_add_left (hh _) _) _) _) ?_
  simp only [u8, u16, u32, u64, le_len]
  omega
theorem crash_read_ready : (1 : Nat) < 4 ∧ (fun (d : Device) => d.runs ∧ d.turn ⟨5, 7⟩ 0x0011 (fieldsAre [(0, 1, 1), (8, 8, 0x4000)]) = true ∧ d.canAnswer ⟨5, 7⟩ ∧ d.fault.crash.get? 1 = some aDump ∧ d.copyDst 0x4000 (dumpBytes aDump).length = true ∧
    Memory.wf d.mem = true) (aQueue crashed ⟨5, 7⟩ 0x0011 (u8 1 ++ zeros 7 ++ u64 0x4000)) :=
  ⟨by decide, by decide +kernel, by decide +kernel, by decide +kernel, by decide +kernel, (aQueue_copyDst ..).trans (crash_dst _ dump_len), by decide +kernel⟩

/-! Chapter 19. -/
def managed (f : MgmtUnit → MgmtUnit) : Device := ready.updMgmt (fun m => f { m with fw := true })
def okMv : List Nat := [700, 700, 700, 700, 750, 750, 750, 750, 750, 1800, 1050, 750, 1100, 750, 1800]
def rollbackable : Device := managed (fun m => { m with staged := 1 })
def staged1 (st : Nat) : Device := rollbackable.setActState st
def onTrial : Device := { managed id with flash := { Flash.reset with descs := [some ⟨4, 0, true, 1⟩, none] } }.setReg Reg.FW_STATUS 2
def staging1 : Device := managed (fun m => { m with staging := some (⟨5, 7⟩, 1, [1, 2]) })
def imaged : Device := { managed id with flash := { Flash.reset with images := [zeros 20, zeros 20] } }
def connected (stage : Nat) : Device := managed (fun m => { m with spdm := [{ SpdmConn.reset with stage := stage }, .reset] })
def ownerKey : List Byte := leBytes 57 528374377958058509413167616290963571663797212503514700650986918908743804897137332309942492712712485422825579061377437543615152740850584
def owned : Device := { managed (fun m => { m with nonce := some (zeros 32, 0) }) with fuses := { Fuses.reset with owner := [some ownerKey, some (zeros 57), none, none] } }

theorem wit_PlanLibraryCommands :
    (∃ (m : MsgRef) (lib src len : Nat), (fun (d : Device) => d.runs ∧ d.turn m 0x2001 (fieldsAre [(0, 1, lib), (8, 8, src), (16, 4, len)]) = true ∧ 
      d.fld Reg.MEM_STATUS Fd.MEM_STATUS_DDR_READY ≠ 0 ∧ lib ≤ 63 ∧ d.entryHeld lib = false ∧ d.noPlans = false ∧
      512 ≤ len ∧ len ≤ 67108864 ∧ src % 256 = 0 ∧ d.localRange src len = true ∧ d.poisoned src len = false) (aQueue (ready) ⟨5, 7⟩ 0x2001 (u8 (3) ++ zeros 7 ++ u64 (0) ++ u32 (512)))) ∧
    (∃ (m : MsgRef) (lib : Nat) (b : List Byte), (fun (d : Device) => d.runs ∧ d.plan.storing = some (m, lib, b) ∧ (d.str.extReads.all (fun r => !(r.stream = planStoreStream && r.tag = m.hseq))) = true ∧
      planCheck1to8 d.ownerKeys b b.length = none ∧ d.canAnswer m) (plan (fun p => { p with storing := some (⟨5, 7⟩, 3, image) }))) ∧
    (∃ (m : MsgRef) (lib : Nat) (b : List Byte) (c : Nat), c < 2 ^ 16 ∧ (fun (d : Device) => d.runs ∧ d.plan.storing = some (m, lib, b) ∧ (d.str.extReads.all (fun r => !(r.stream = planStoreStream && r.tag = m.hseq))) = true ∧
      planCheck1to8 d.ownerKeys b b.length = some c ∧ d.canAnswer m) (plan (fun p => { p with storing := some (⟨5, 7⟩, 3, zeros 512) }))) ∧
    (∃ (m : MsgRef) (lib : Nat), (fun (d : Device) => d.runs ∧ d.turn m 0x2005 (fieldsAre [(0, 1, lib)]) = true ∧ lib ≤ 63 ∧ d.entryHeld lib = false ∧ d.canAnswer m) (aQueue (plan (fun p => { p with library := [(3, [1])] })) ⟨5, 7⟩ 0x2005 (u8 (3)))) := by
  refine ⟨?_, ?_, ?_, ?_⟩
  · refine ⟨⟨5, 7⟩, 3, 0, 512, ?_⟩
    decide +kernel
  · refine ⟨⟨5, 7⟩, 3, image, ?_⟩
    unfold planCheck1to8
    rw [image_digest]
    decide +kernel
  · refine ⟨⟨5, 7⟩, 3, zeros 512, 0x0210, ?_⟩
    decide +kernel
  · refine ⟨⟨5, 7⟩, 3, ?_⟩
    decide +kernel

theorem wit_PlanSlotCommands :
    (∃ (m : MsgRef) (lib : Nat) (b : List Byte) (ms : List Move), (fun (d : Device) => d.runs ∧ d.turn m 0x2002 (fieldsAre [(0, 1, lib)]) = true ∧ lib ≤ 63 ∧ d.shadowState ≠ 3 ∧ d.shadowState ≠ 4 ∧ d.noPlans = false ∧
      d.plan.library.get? lib = some b ∧ (d.judging lib).planValidate b = .inl ms ∧ d.regsWf) (aQueue (plan (fun p => { p with library := [(3, image)] })) ⟨5, 7⟩ 0x2002 (u8 (3)))) ∧
    (∃ (m : MsgRef) (p : Plan), (fun (d : Device) => d.runs ∧ d.plan.loading = some (m, p) ∧ d.canAnswer m) (plan (fun p => { p with loading := some (⟨5, 7⟩, plan0) }))) ∧
    (∃ (m : MsgRef) (step pu : Nat) (p : Plan), step < 2 ^ 32 ∧ pu < 2 ^ 16 ∧ (fun (d : Device) => d.runs ∧ d.turn m 0x2003 (fieldsAre [(0, 4, step), (4, 2, pu)]) = true ∧ d.plan.shadow = some p ∧ d.shadowState = 2 ∧ d.fld Reg.PLAN_SLOT_STATE Fd.PLAN_SLOT_STATE_FENCE_STALE = 0 ∧
      (pu = 0 ∨ d.b3 ≤ pu) ∧ (step = 0 → imgGroupSize p.image ≤ 1) ∧
      (step ≠ 0 → 1 ≤ seqDist step d.stepNum ∧ seqDist step d.stepNum < 2 ^ 31) ∧ d.canAnswer m) (aQueue ((plan (fun p => { p with shadow := some plan0 })).setShadowState 2) ⟨5, 7⟩ 0x2003 (u32 (9) ++ u16 (0)))) ∧
    (∃ (m : MsgRef), (fun (d : Device) => d.runs ∧ d.turn m 0x2004 (fun _ => true) = true ∧ d.shadowState = 3 ∧ d.plan.carried = false ∧ d.canAnswer m) (aQueue ((plan (fun p => { p with shadow := some plan0 })).setShadowState 3) ⟨5, 7⟩ 0x2004 ([]))) := by
  refine ⟨?_, ?_, ?_, ?_⟩
  · refine ⟨⟨5, 7⟩, 3, image, [], ?_⟩
    unfold Device.planValidate
    rw [image_digest]
    decide +kernel
  · refine ⟨⟨5, 7⟩, plan0, ?_⟩
    decide +kernel
  · refine ⟨⟨5, 7⟩, 9, 0, plan0, ?_⟩
    decide +kernel
  · refine ⟨⟨5, 7⟩, ?_⟩
    decide +kernel

theorem wit_PlanSwitchRuns :
    (∃ (p : Plan), (fun (d : Device) => d.runs ∧ d.regsWf ∧ d.plan.switch = .none ∧ d.plan.shadow = some p ∧ d.shadowState = 3 ∧ d.plan.carried = false ∧
      d.stepNum = d.fld Reg.PLAN_SWITCH_STEP Fd.PLAN_SWITCH_STEP_STEP ∧ d.plan.staleSinceArm = false ∧ imgGroupSize p.image ≤ 1) ((plan (fun p => { p with shadow := some plan0 })).setShadowState 3)) ∧
    (∃ (p : Plan), (fun (d : Device) => d.runs ∧ d.regsWf ∧ d.plan.switch = .none ∧ d.plan.shadow = some p ∧ d.shadowState = 3 ∧ d.plan.carried = false ∧
      d.stepNum = d.fld Reg.PLAN_SWITCH_STEP Fd.PLAN_SWITCH_STEP_STEP ∧ d.plan.staleSinceArm = true) ((plan (fun p => { p with shadow := some plan0, staleSinceArm := true })).setShadowState 3)) ∧
    (∃ (new : Plan), (fun (d : Device) => d.runs ∧ d.plan.switch = .draining ∧ d.plan.shadow = some new ∧ d.drained = true) ((plan (fun p => { p with shadow := some plan0, switch := .draining })).setShadowState 3)) ∧
    (∃ (start : Nat) (new : Plan), (fun (d : Device) => d.runs ∧ d.regsWf ∧ d.plan.switch = .running start ∧ d.plan.shadow = some new ∧ d.sched.ops = []) ((plan (fun p => { p with shadow := some plan0, switch := .running 50 })).setShadowState 4)) ∧
    (∃ (start : Nat) (new : Plan), (fun (d : Device) => d.runs ∧ d.regsWf ∧ d.plan.switch = .running start ∧ d.plan.shadow = some new ∧ d.sched.ops = [] ∧
      ((List.range 4).all (fun k => (tablesOf new.image k).all (fun x => !x.keep))) = true) ((plan (fun p => { p with shadow := some plan0, switch := .running 50 })).setShadowState 4)) := by
  refine ⟨?_, ?_, ?_, ?_, ?_⟩
  · refine ⟨plan0, ?_⟩
    decide +kernel
  · refine ⟨plan0, ?_⟩
    decide +kernel
  · refine ⟨plan0, ?_⟩
    decide +kernel
  · refine ⟨50, plan0, ?_⟩
    decide +kernel
  · refine ⟨50, plan0, ?_⟩
    decide +kernel

theorem wit_GroupSwitchAgreement :
    (∃ (p : Fin 8) (r : RxMsg), (fun (d : Device) => d.runs ∧ d.coordinates = true ∧ d.nextMessage p.val 0x06 = some r ∧ d.plan.switch = .none) (gotMsg 0x06)) ∧
    (∃ (p : Fin 8) (r : RxMsg), (fun (d : Device) => d.runs ∧ d.nextMessage p.val 0x07 = some r ∧ d.shadowState = 3 ∧ leAt r.msg.fields 4 4 = d.groupSwitchStep ∧ d.plan.switch = .none) ((gotMsg 0x07).setShadowState 3)) ∧
    (∃ (p : Fin 8) (r : RxMsg) (t : Nat), (fun (d : Device) => d.runs ∧ d.regsWf ∧ d.nextMessage p.val 0x07 = some r ∧ d.shadowState = 3 ∧ leAt r.msg.fields 4 4 = d.groupSwitchStep ∧ leAt r.msg.fields 0 1 ≠ 1 ∧
      d.plan.switch = .agreement t) (((gotMsg 0x07).updPlan (fun p => { p with switch := .agreement 0 })).setShadowState 3)) ∧
    (∃ (t : Nat) (p : Plan), (fun (d : Device) => d.runs ∧ d.regsWf ∧ d.coordinates = true ∧ d.plan.switch = .agreement t ∧ d.plan.shadow = some p ∧ t + 1920 ≤ d.ticks) (((plan (fun p => { p with shadow := some plan0, switch := .agreement 0 })).setShadowState 3).at 500000)) ∧
    (∃ (t : Nat) (p : Plan), (fun (d : Device) => d.runs ∧ d.regsWf ∧ d.plan.switch = .agreement t ∧ d.plan.shadow = some p ∧ t + 2048 ≤ d.ticks) (((plan (fun p => { p with shadow := some plan0, switch := .agreement 0 })).setShadowState 3).at 500000)) := by
  refine ⟨?_, ?_, ?_, ?_, ?_⟩
  · refine ⟨0, aMsg 0x06, ?_⟩
    decide +kernel
  · refine ⟨0, aMsg 0x07, ?_⟩
    decide +kernel
  · refine ⟨0, aMsg 0x07, 0, ?_⟩
    decide +kernel
  · refine ⟨0, plan0, ?_⟩
    decide +kernel
  · refine ⟨0, plan0, ?_⟩
    decide +kernel

theorem wit_ArmingAndTaskCommands :
    (∃ (die : Fin 4) (v : DWord) (g : Nat) (r : StreamRec), v.toNat / 2 ^ 15 ≠ 0 ∧ v.toNat < 2 ^ 47 ∧ (fun (d : Device) => d.runs ∧ d.boundStream die.val (v.toNat % 2 ^ 15) = g ∧ d.streamRec g = some r ∧ (d.stream g).state ≠ .armed ∧ (d.stream g).state ≠ .running ∧
      d.taskGone (v.toNat / 2 ^ 15) = false) (streamPlan)) ∧
    (∃ (m : MsgRef) (die stage sid : Nat) (params : List Word) (g : Nat) (r : StreamRec), die ≤ 3 ∧ sid < 16808 ∧ stage < 64 ∧ (fun (d : Device) => d.runs ∧ d.turn m 0x4001 (submitIs die stage sid params) = true ∧ d.boundStream die sid = g ∧ d.streamRec g = some r ∧ r.taskHead = true ∧ r.stage = stage ∧
      (d.stream g).state ≠ .armed ∧ (d.stream g).state ≠ .running ∧ (d.liveTasks die).length < 1024 ∧
      (∀ e ∈ d.str.tasks, e.2.tag ≠ mkTag stage die (d.str.seqs.getD (64 * die + stage) 1)) ∧ (d.freeEntry die).isSome = true ∧
      mkTag stage die (d.str.seqs.getD (64 * die + stage) 1) ≠ 0 ∧ d.canAnswer m) (aQueue (streamPlan) ⟨5, 7⟩ 0x4001 (u8 (0) ++ u8 (0) ++ u16 (0) ++ (([1, 2, 3, 4, 5, 6, 7, 8]) : List Word).flatMap (fun w => u32 w.toNat)))) ∧
    (∃ (die sid : Nat) (ps : List Word) (r : StreamRec), die ≤ 3 ∧ (fun (d : Device) => d.runs ∧ d.nextAlloc = some (.stream die sid ps) ∧ d.streamRec (gsid die sid) = some r ∧ r.taskHead = true ∧ (d.stream (gsid die sid)).state ≠ .armed ∧
      (d.stream (gsid die sid)).state ≠ .running ∧ (∀ e ∈ d.str.tasks, e.2.tag ≠ mkTag r.stage die (d.str.seqs.getD (64 * die + r.stage) 1)) ∧
      mkTag r.stage die (d.str.seqs.getD (64 * die + r.stage) 1) ≠ 0) (streamPlan.updStr (fun u => { u with allocWait := [.stream 0 0 []] }))) ∧
    (∃ (die sid : Nat) (ps : List Word) (r : StreamRec), die ≤ 3 ∧ (fun (d : Device) => d.runs ∧ d.nextAlloc = some (.stream die sid ps) ∧ d.streamRec (gsid die sid) = some r ∧ r.taskHead = true ∧
      ((d.stream (gsid die sid)).state = .armed ∨ (d.stream (gsid die sid)).state = .running)) ((streaming 0 id).updStr (fun u => { u with allocWait := [.stream 0 0 []] }))) ∧
    (∃ (m : MsgRef) (tag k : Nat) (t : Task), (fun (d : Device) => d.runs ∧ d.turn m 0x4002 (fieldsAre [(0, 4, tag)]) = true ∧ d.findTask tag = some (k, t) ∧ t.state = .open ∧ t.aborting = false ∧ t.prepared = false ∧ d.canAnswer m) (aQueue (streaming 0 id) ⟨5, 7⟩ 0x4002 (u32 (5)))) ∧
    (∃ (m : MsgRef) (tag k : Nat) (t : Task), (fun (d : Device) => d.runs ∧ d.turn m 0x4003 (fieldsAre [(0, 4, tag)]) = true ∧ d.findTask tag = some (k, t) ∧ d.canAnswer m) (aQueue (streaming 0 id) ⟨5, 7⟩ 0x4003 (u32 (5)))) ∧
    (∃ (die : Fin 4), (fun (d : Device) => d.runs ∧ d.regsWf) (ready)) := by
  refine ⟨?_, ?_, ?_, ?_, ?_, ?_, ?_⟩
  · refine ⟨0, 0x28001, 1, pisteRec (pisteSec 1 1 1 0 0), ?_⟩
    decide +kernel
  · refine ⟨⟨5, 7⟩, 0, 0, 0, [1, 2, 3, 4, 5, 6, 7, 8], 0, pisteRec (pisteSec 0 4 1 0 0), ?_⟩
    decide +kernel
  · refine ⟨0, 0, [], pisteRec (pisteSec 0 4 1 0 0), ?_⟩
    decide +kernel
  · refine ⟨0, 0, [], pisteRec (pisteSec 0 4 1 0 0), ?_⟩
    decide +kernel
  · refine ⟨⟨5, 7⟩, 5, 0, aTask id, ?_⟩
    decide +kernel
  · refine ⟨⟨5, 7⟩, 5, 0, aTask id, ?_⟩
    decide +kernel
  · refine ⟨0, ?_⟩
    decide +kernel

theorem wit_PisteRegisterInstructions :
    (∃ (s : StreamId) (r : StreamRec), (fun (d : Device) => d.runs ∧ d.pisteReady s r) (streaming 0 (fun x => { x with ctr := [1, 2, 0, 0, 0, 0, 0, 0], params := [3, 0xFFFF_FFFF, 0, 0, 0, 0, 0, 0] }))) ∧
    (∃ (s : StreamId) (r : StreamRec) (a : Fin 4) (region : BitVec 16) (off : BitVec 40) (g : Region), (fun (d : Device) => d.runs ∧ d.pisteReady s r ∧ (d.plan.active.bind (fun pl => pl.region s.die.val region.toNat)) = some g) (streaming 0 (fun x => { x with ctr := [1, 2, 0, 0, 0, 0, 0, 0], params := [3, 0xFFFF_FFFF, 0, 0, 0, 0, 0, 0] }))) ∧
    (∃ (s : StreamId) (r : StreamRec) (a : Fin 4) (imm : BitVec 48), (fun (d : Device) => d.runs ∧ d.pisteReady s r) (streaming 0 (fun x => { x with ctr := [1, 2, 0, 0, 0, 0, 0, 0], params := [3, 0xFFFF_FFFF, 0, 0, 0, 0, 0, 0] }))) ∧
    (∃ (s : StreamId) (r : StreamRec) (a : Fin 4) (k : Fin 8) (scale : BitVec 16), (fun (d : Device) => d.runs ∧ d.pisteReady s r) (streaming 0 (fun x => { x with ctr := [1, 2, 0, 0, 0, 0, 0, 0], params := [3, 0xFFFF_FFFF, 0, 0, 0, 0, 0, 0] }))) ∧
    (∃ (s : StreamId) (r : StreamRec) (k : Fin 8) (count : Word), (fun (d : Device) => d.runs ∧ d.pisteReady s r) (streaming 0 (fun x => { x with ctr := [1, 2, 0, 0, 0, 0, 0, 0], params := [3, 0xFFFF_FFFF, 0, 0, 0, 0, 0, 0] }))) ∧
    (∃ (s : StreamId) (r : StreamRec) (k : Fin 8) (target : Fin 32), (fun (d : Device) => d.runs ∧ d.pisteReady s r ∧ (d.stream (gsid s.die.val s.sid.val)).ctr.getD k.val 0 = 1) (streaming 0 (fun x => { x with ctr := [1, 2, 0, 0, 0, 0, 0, 0], params := [3, 0xFFFF_FFFF, 0, 0, 0, 0, 0, 0] }))) ∧
    (∃ (s : StreamId) (r : StreamRec) (k : Fin 8) (target : Fin 32), (fun (d : Device) => d.runs ∧ d.pisteReady s r ∧ 2 ≤ (d.stream (gsid s.die.val s.sid.val)).ctr.getD k.val 0 ∧ (d.stream (gsid s.die.val s.sid.val)).ctr.getD k.val 0 < 2 ^ 32) (streaming 0 (fun x => { x with ctr := [1, 2, 0, 0, 0, 0, 0, 0], params := [3, 0xFFFF_FFFF, 0, 0, 0, 0, 0, 0] }))) ∧
    (∃ (s : StreamId) (r : StreamRec) (v pace : BitVec 16), (fun (d : Device) => d.runs ∧ d.pisteReady s r) (streaming 0 (fun x => { x with ctr := [1, 2, 0, 0, 0, 0, 0, 0], params := [3, 0xFFFF_FFFF, 0, 0, 0, 0, 0, 0] }))) := by
  refine ⟨?_, ?_, ?_, ?_, ?_, ?_, ?_, ?_⟩
  · refine ⟨⟨0, 0⟩, pisteRec (pisteSec 0 4 1 0 0), ?_⟩
    decide +kernel
  · refine ⟨⟨0, 0⟩, pisteRec (pisteSec 0 4 1 0 0), 1, 2, 0xFF_FFFF_FFF0, ⟨0, 2, 0, false, true, 0x10000, 0x10000⟩, ?_⟩
    decide +kernel
  · refine ⟨⟨0, 0⟩, pisteRec (pisteSec 0 4 1 0 0), 3, 0xFFFF_FFFF_FFFF, ?_⟩
    decide +kernel
  · refine ⟨⟨0, 0⟩, pisteRec (pisteSec 0 4 1 0 0), 0, 1, 0xFFFF, ?_⟩
    decide +kernel
  · refine ⟨⟨0, 0⟩, pisteRec (pisteSec 0 4 1 0 0), 2, 7, ?_⟩
    decide +kernel
  · refine ⟨⟨0, 0⟩, pisteRec (pisteSec 0 4 1 0 0), 0, 9, ?_⟩
    decide +kernel
  · refine ⟨⟨0, 0⟩, pisteRec (pisteSec 0 4 1 0 0), 1, 9, ?_⟩
    decide +kernel
  · refine ⟨⟨0, 0⟩, pisteRec (pisteSec 0 4 1 0 0), 7, 8, ?_⟩
    decide +kernel

theorem wit_PisteTransfers :
    (∃ (s : StreamId) (r : StreamRec) (a : Fin 4) (postinc : Bool) (bytes : Word) (b : Buffer) (x : Nat), x < 2 ^ 57 ∧ (fun (d : Device) => d.runs ∧ d.pisteReady s r ∧ Memory.wf d.mem = true ∧ r.write = false ∧ r.conditional = false ∧ r.prologue = false ∧
      (d.stream (gsid s.die.val s.sid.val)).openBuf = some b ∧ (d.stream (gsid s.die.val s.sid.val)).areg.getD a.val 0 = x ∧
      d.pieceCheck s.die.val ((d.stream (gsid s.die.val s.sid.val)).areg_region.getD a.val 0) r.accessWidth x bytes.toNat = none ∧
      d.accessCheck x bytes.toNat false = none ∧ d.isLocal x = true ∧ b.cursor + bytes.toNat ≤ b.size ∧ b.addr + b.size ≤ 2 ^ 57 ∧
      (b.addr + b.cursor + bytes.toNat ≤ x ∨ x + bytes.toNat ≤ b.addr + b.cursor) ∧ d.portIdle (gsid s.die.val s.sid.val) ∧
      d.portLoad (gsid s.die.val s.sid.val) + transfersOf x bytes.toNat ≤ 8) ((streaming 0 (fun x => { x with openBuf := some ⟨0x1000, 256, 0, 16, 0⟩, areg := [0x2000, 0, 0, 0], areg_region := [1, 0, 0, 0] })).write 0x2000 [1, 2, 3])) ∧
    (∃ (s : StreamId) (r : StreamRec) (a : Fin 4) (postinc : Bool) (bytes : Word) (b : Buffer) (x : Nat), (fun (d : Device) => d.runs ∧ d.pisteReady s r ∧ r.write = false ∧ r.conditional = false ∧ r.prologue = false ∧
      (d.stream (gsid s.die.val s.sid.val)).openBuf = some b ∧ (d.stream (gsid s.die.val s.sid.val)).areg.getD a.val 0 = x ∧
      d.pieceCheck s.die.val ((d.stream (gsid s.die.val s.sid.val)).areg_region.getD a.val 0) r.accessWidth x bytes.toNat = none ∧
      d.accessCheck x bytes.toNat false = none ∧ b.cursor + bytes.toNat ≤ b.size ∧ 8 ≤ d.portLoad (gsid s.die.val s.sid.val)) (streaming 0 (fun x => { x with outstanding := 8, openBuf := some ⟨0x1000, 256, 0, 16, 0⟩, areg := [0x2000, 0, 0, 0], areg_region := [1, 0, 0, 0] }))) ∧
    (∃ (s : StreamId) (r : StreamRec) (a : Fin 4) (postinc : Bool) (piece : BitVec 12) (count : BitVec 16) (stride : BitVec 24) (b : Buffer) (x : Nat), x < 2 ^ 57 ∧ (fun (d : Device) => d.runs ∧ d.pisteReady s r ∧ Memory.wf d.mem = true ∧ r.write = false ∧ r.conditional = false ∧ r.prologue = false ∧
      (d.stream (gsid s.die.val s.sid.val)).openBuf = some b ∧ (d.stream (gsid s.die.val s.sid.val)).areg.getD a.val 0 = x ∧
      (∀ i, i < count.toNat → let p := ofSigned 57 ((x : Int) + (i : Int) * stride.toInt)
        d.pieceCheck s.die.val ((d.stream (gsid s.die.val s.sid.val)).areg_region.getD a.val 0) r.accessWidth p piece.toNat = none ∧
        d.accessCheck p piece.toNat false = none ∧ d.isLocal p = true) ∧ b.cursor + count.toNat * piece.toNat ≤ b.size ∧ b.addr + b.size ≤ 2 ^ 57 ∧
      d.portIdle (gsid s.die.val s.sid.val)) ((streaming 0 (fun x => { x with openBuf := some ⟨0x1000, 256, 0, 16, 0⟩, areg := [0x2000, 0, 0, 0], areg_region := [1, 0, 0, 0] })).write 0x1FC0 [9])) ∧
    (∃ (s : StreamId) (r : StreamRec) (a : Fin 4) (postinc : Bool) (bytes : Word) (e : LiftEntry) (x k : Nat) (t : Task), (fun (d : Device) => d.runs ∧ d.pisteReady s r ∧ r.write = true ∧ r.prologue = false ∧ (d.stream (gsid s.die.val s.sid.val)).popped = some e ∧
      e.tag = (d.stream (gsid s.die.val s.sid.val)).tag ∧ (d.stream (gsid s.die.val s.sid.val)).areg.getD a.val 0 = x ∧
      d.pieceCheck s.die.val ((d.stream (gsid s.die.val s.sid.val)).areg_region.getD a.val 0) r.accessWidth x bytes.toNat = none ∧
      d.accessCheck x bytes.toNat true = none ∧ (∀ p ∈ pageParts x bytes.toNat, d.accessCheck p.1 p.2.1 true = none) ∧ r.conditional = false ∧
      d.portIdle (gsid s.die.val s.sid.val) ∧ d.portLoad (gsid s.die.val s.sid.val) + transfersOf x bytes.toNat ≤ 8 ∧ Map.rising d.str.tasks = true ∧
      (d.stream (gsid s.die.val s.sid.val)).cursor + bytes.toNat ≤ e.h.len ∧
      d.poisoned (e.h.addr + (d.stream (gsid s.die.val s.sid.val)).cursor) bytes.toNat = false ∧ d.findTask e.tag = some (k, t) ∧
      d.stagingUsed s.die.val + bytes.toNat / 64 + 2 ≤ d.stagingCapacity s.die.val) (streaming 1 (fun x => { x with popped := some anEntry, areg := [0x2000, 0, 0, 0], areg_region := [1, 0, 0, 0] }))) ∧
    (∃ (s : StreamId) (r : StreamRec) (last : Bool) (b : Buffer), (fun (d : Device) => d.runs ∧ d.pisteReady s r ∧ r.write = false ∧ r.conditional = false ∧ d.extPending (gsid s.die.val s.sid.val) = false ∧
      (d.stream (gsid s.die.val s.sid.val)).openBuf = some b ∧ d.liftLoad (d.outLift s.die.val r.sid r.lift) < 256 ∧ d.str.pushWait = []) (streaming 0 (fun x => { x with openBuf := some ⟨0x1000, 256, 0, 16, 0⟩, areg := [0x2000, 0, 0, 0], areg_region := [1, 0, 0, 0] }))) ∧
    (∃ (s : StreamId) (r : StreamRec), (fun (d : Device) => d.runs ∧ d.pisteReady s r ∧ r.write = false ∧ d.extPending (gsid s.die.val s.sid.val) = false ∧ (d.stream (gsid s.die.val s.sid.val)).openBuf = none ∧
      (d.stream (gsid s.die.val s.sid.val)).outstanding = 0) (streaming 0 id)) ∧
    (∃ (s : StreamId) (r : StreamRec), (fun (d : Device) => d.runs ∧ d.streamRec (gsid s.die.val s.sid.val) = some r ∧ (d.stream (gsid s.die.val s.sid.val)).state = .running ∧
      (d.stream (gsid s.die.val s.sid.val)).liftWait = false ∧ d.dieContained s.die.val = false ∧ d.str.extReads = [] ∧
      d.portIdle (gsid s.die.val s.sid.val) ∧ 2 ≤ (d.stream (gsid s.die.val s.sid.val)).outstanding) (streaming 0 (fun x => { x with outstanding := 2 }))) ∧
    (∃ (s : StreamId), (fun (d : Device) => d.runs ∧ d.streamRec (gsid s.die.val s.sid.val) = none ∧ d.dieContained s.die.val = false ∧ d.str.extReads = [] ∧
      d.portIdle (gsid s.die.val s.sid.val) ∧ 1 ≤ (d.stream (gsid s.die.val s.sid.val)).outstanding) (streaming 4 (fun x => { x with outstanding := 2 }))) ∧
    (∃ (s : StreamId) (r : StreamRec) (a n dst : Nat) (rest : List Xfer), (fun (d : Device) => d.runs ∧ d.streamRec (gsid s.die.val s.sid.val) = some r ∧ r.conditional = false ∧ (d.stream (gsid s.die.val s.sid.val)).state = .running ∧
      (d.stream (gsid s.die.val s.sid.val)).liftWait = false ∧ d.dieContained s.die.val = false ∧ d.str.extReads = [] ∧ Memory.wf d.mem = true ∧
      d.portLoad (gsid s.die.val s.sid.val) = 8 ∧ 1 ≤ (d.stream (gsid s.die.val s.sid.val)).outstanding ∧
      (∀ h ∈ portOf (gsid s.die.val s.sid.val), h ≠ gsid s.die.val s.sid.val → (d.stream h).issueQ = []) ∧
      (d.stream (gsid s.die.val s.sid.val)).issueQ = .fetch a n dst :: rest ∧ d.accessCheck a n false = none ∧ d.isLocal a = true ∧ dst < 2 ^ 58) ((streaming 0 (fun x => { x with outstanding := 8, issueQ := [.fetch 0x2000 4 0x1010] })).write 0x2000 [1, 2, 3])) ∧
    (∃ (s : StreamId) (r : StreamRec), (fun (d : Device) => d.runs ∧ d.streamRec (gsid s.die.val s.sid.val) = some r ∧ (d.stream (gsid s.die.val s.sid.val)).state = .running ∧
      (d.stream (gsid s.die.val s.sid.val)).liftWait = false ∧ d.dieContained s.die.val = false ∧ d.str.extReads = [] ∧
      r.affine = false ∧ d.portIdle (gsid s.die.val s.sid.val) ∧
      (d.stream (gsid s.die.val s.sid.val)).outstanding = 1 ∧ (d.stream (gsid s.die.val s.sid.val)).ended = true ∧
      (d.stream (gsid s.die.val s.sid.val)).openBuf = none) (streaming 0 (fun x => { x with outstanding := 1, ended := true }))) := by
  refine ⟨?_, ?_, ?_, ?_, ?_, ?_, ?_, ?_, ?_, ?_⟩
  · refine ⟨⟨0, 0⟩, pisteRec (pisteSec 0 4 1 0 0), 0, true, 32, ⟨0x1000, 256, 0, 16, 0⟩, 0x2000, ?_⟩
    decide +kernel
  · refine ⟨⟨0, 0⟩, pisteRec (pisteSec 0 4 1 0 0), 0, true, 32, ⟨0x1000, 256, 0, 16, 0⟩, 0x2000, ?_⟩
    decide +kernel
  · refine ⟨⟨0, 0⟩, pisteRec (pisteSec 0 4 1 0 0), 0, true, 8, 2, 0xFF_FFC0, ⟨0x1000, 256, 0, 16, 0⟩, 0x2000, ?_⟩
    decide +kernel
  · refine ⟨⟨0, 1⟩, pisteRec (pisteSec 1 1 1 0 0), 0, true, 32, anEntry, 0x2000, 0, aTask id, ?_⟩
    decide +kernel
  · refine ⟨⟨0, 0⟩, pisteRec (pisteSec 0 4 1 0 0), true, ⟨0x1000, 256, 0, 16, 0⟩, ?_⟩
    decide +kernel
  · refine ⟨⟨0, 0⟩, pisteRec (pisteSec 0 4 1 0 0), ?_⟩
    decide +kernel
  · refine ⟨⟨0, 0⟩, pisteRec (pisteSec 0 4 1 0 0), ?_⟩
    decide +kernel
  · refine ⟨⟨0, 4⟩, ?_⟩
    decide +kernel
  · refine ⟨⟨0, 0⟩, pisteRec (pisteSec 0 4 1 0 0), 0x2000, 4, 0x1010, [], ?_⟩
    decide +kernel
  · refine ⟨⟨0, 0⟩, pisteRec (pisteSec 0 4 1 0 0), ?_⟩
    decide +kernel

theorem wit_LiftsAndPools :
    (∃ (dd : Fin 4) (lift : Fin 4096) (i : Nat) (e : LiftEntry), (fun (d : Device) => d.runs ∧ d.dieContained dd.val = false ∧ (d.arriving (4096 * dd.val + lift.val))[i]? = some e ∧ d.taskGone e.tag = false) (streamPlan.updStr (fun u => { u with flight := [.push 1 anEntry] }))) ∧
    (∃ (dd : Fin 4) (lift : Fin 4096) (i die : Nat) (e : LiftEntry), (fun (d : Device) => d.runs ∧ d.dieContained dd.val = false ∧ (d.arriving (4096 * dd.val + lift.val))[i]? = some e ∧ d.taskGone e.tag = true ∧
      (d.plan.active.bind (fun pl => pl.poolOfBuffer e.h.pool e.h.addr)).map (·.1) = some die) ((streaming 0 id).updStr (fun u => { u with flight := [.push 1 anEntry], tasks := [(0, aTask (fun t => { t with aborting := true }))] }))) ∧
    (∃ (die : Fin 4) (lift : Fin 4096) (w : Nat × LiftEntry), (fun (d : Device) => d.runs ∧ d.str.pushWait.find? (fun w => w.1 = 4096 * die.val + lift.val) = some w ∧ d.liftLoad (4096 * die.val + lift.val) < 256) ((streaming 0 (fun x => { x with liftWait := true })).updStr (fun u => { u with pushWait := [(1, { anEntry with src := .stream 0 })] }))) ∧
    (∃ (s : StreamId) (r : StreamRec), (fun (d : Device) => d.runs ∧ d.streamRec (gsid s.die.val s.sid.val) = some r ∧ (d.stream (gsid s.die.val s.sid.val)).poolWait = true ∧
      (d.str.pools.getD (1024 * s.die.val + r.pool) []).isEmpty = false) ((streaming 0 (fun x => { x with poolWait := true })).updStr (fun u => { u with pools := [(0, [0x1000])] }))) ∧
    (∃ (c : CellId) (addr pk a : Nat) (rest : List Nat), (fun (d : Device) => d.runs ∧ (d.cell c.gid).blocked = some (.balloc addr pk) ∧ d.str.pools.getD pk [] = a :: rest) ({ streamPlan with str := { streamPlan.str with pools := [(0, [0x1000])] }, cells := [(0, { Cell.gatedCell with blocked := some (.balloc 16 0) })] })) ∧
    (∃ (die : Fin 4) (pool : Fin 1024) (i a r : Nat), (fun (d : Device) => d.runs ∧ (d.inOrder.filter (fun f => f.toPool (1024 * die.val + pool.val)))[i]? = some (.release (1024 * die.val + pool.val) a r)) (streamPlan.updStr (fun u => { u with flight := [.release 0 0x1000 0], owner := [(0x1000, 5)] }))) := by
  refine ⟨?_, ?_, ?_, ?_, ?_, ?_⟩
  · refine ⟨0, 1, 0, anEntry, ?_⟩
    decide +kernel
  · refine ⟨0, 1, 0, 0, anEntry, ?_⟩
    decide +kernel
  · refine ⟨0, 1, (1, { anEntry with src := .stream 0 }), ?_⟩
    decide +kernel
  · refine ⟨⟨0, 0⟩, pisteRec (pisteSec 0 4 1 0 0), ?_⟩
    decide +kernel
  · refine ⟨⟨0, 0, 0, 0⟩, 16, 0, 0x1000, [], ?_⟩
    decide +kernel
  · refine ⟨0, 0, 0, 0x1000, 0, ?_⟩
    decide +kernel

theorem wit_StagesCommitAndAbort :
    (∃ (dd : Fin 4) (st : Fin 64) (r : StageRec), (fun (d : Device) => d.runs ∧ d.plan.active.bind (fun pl => pl.stage dd.val st.val) = some r ∧ d.stagesWait = false ∧ (r.kind = 0 → d.time.held = false)) (streamPlan)) ∧
    (∃ (dd : Fin 4) (st : Fin 64) (r r2 : StageRec), (fun (d : Device) => d.runs ∧ d.plan.active.bind (fun pl => pl.stage dd.val st.val) = some r ∧ r.next ≠ 0xFF ∧ d.plan.active.bind (fun pl => pl.stage dd.val r.next) = some r2 ∧
      d.stagesWait = false ∧ (r2.kind = 0 → d.time.held = false)) (streamPlan)) ∧
    (∃ (dd : Fin 4) (st : Fin 64) (r : StageRec) (k : Nat) (t : Task), (fun (d : Device) => d.runs ∧ d.plan.active.bind (fun pl => pl.stage dd.val st.val) = some r ∧ d.stagesWait = false ∧ 64 * dd.val + st.val ∉ d.time.stagesCommitted ∧
      d.link.held = [] ∧ d.str.tasks = [(k, t)] ∧ k / 1024 = dd.val ∧ tagHome t.tag = dd.val ∧ tagStage t.tag = st.val ∧ t.tag ≠ 0 ∧ t.state = .open ∧
      t.prepared = false ∧ t.carried = false ∧ t.aborting = false ∧ t.deadlineStep = d.stepNum) (streaming 0 id)) ∧
    (∃ (dd : Fin 4) (st : Fin 64) (r : StageRec) (k : Nat) (t : Task), (fun (d : Device) => d.runs ∧ d.plan.active.bind (fun pl => pl.stage dd.val st.val) = some r ∧ d.plan.carried = true ∧ 64 * dd.val + st.val ∉ d.time.stagesCommitted ∧
      d.link.held = [] ∧ d.str.tasks = [(k, t)] ∧ k / 1024 = dd.val ∧ tagHome t.tag = dd.val ∧ tagStage t.tag = st.val ∧ t.tag ≠ 0 ∧ t.state = .open ∧
      t.prepared = false ∧ t.carried = false ∧ t.aborting = false ∧ t.deadlineStep = d.stepNum) ({ streaming 0 id with plan := { (streaming 0 id).plan with carried := true } })) ∧
    (∃ (tag k : Nat) (t : Task) (w : StagedWrite), (fun (d : Device) => d.runs ∧ d.regsWf ∧ Memory.wf d.mem = true ∧ d.findTask tag = some (k, t) ∧ t.state = .ended ∧ d.commitTurn t = true ∧ (∀ x ∈ d.str.extReads, ¬ (x.stream = commitStream ∧ x.tag = tag)) ∧ t.writes = [w] ∧ w.combine = none ∧
      d.localRange w.addr w.data.length = true ∧ t.rdma = [] ∧ t.exch = [] ∧ d.pack = [] ∧ d.matchI = [] ∧ d.emb = [] ∧ d.link.travEnded = []) (streamPlan.updStr (fun u => { u with tasks := [(0, aTask (fun t => { t with state := .ended, writes := [{ die := 0, addr := 0xFFE, data := [7, 8, 9], combine := none, order := 0 }] }))] }))) ∧
    (∃ (tag k : Nat) (t : Task) (r : Nat × Nat), (fun (d : Device) => d.runs ∧ d.regsWf ∧ d.str.abortReqs.find? (fun r => r.1 = tag) = some r ∧ d.findTask tag = some (k, t) ∧ t.state = .open ∧ t.exch = []) ((streaming 0 id).updStr (fun u => { u with abortReqs := [(5, 0x0414)] }))) ∧
    (∃ (dd : Fin 4) (tag : Nat), (fun (d : Device) => d.runs ∧ (tag, dd.val) ∈ d.str.abortOrders ∧ d.stn.jobs = [] ∧ d.pack = [] ∧ d.matchI = [] ∧ d.sel = [] ∧ d.emb = [] ∧ d.sched.gates = [] ∧ d.cells = [] ∧
      d.memu.invals = [] ∧ Map.rising d.str.streams = true ∧ Map.rising d.str.lifts = true ∧ Map.rising d.str.tasks = true) ((streaming 0 id).updStr (fun u => { u with abortOrders := [(5, 0), (5, 1)], lifts := [(1, [anEntry, { anEntry with tag := 6 }])] }))) ∧
    (∃ (tag : Nat) (r : Nat × Nat), (fun (d : Device) => d.runs ∧ d.str.abortReports.find? (fun r => r.1 = tag) = some r ∧ d.canAnnounce) ((streaming 0 id).updStr (fun u => { u with abortReports := [(5, 0x0414)] }))) := by
  refine ⟨?_, ?_, ?_, ?_, ?_, ?_, ?_, ?_⟩
  · refine ⟨0, 1, ⟨1, 0xFF, 0, 100, 200, 300⟩, ?_⟩
    decide +kernel
  · refine ⟨0, 0, ⟨0, 1, 0, 0, 100, 200⟩, ⟨1, 0xFF, 0, 100, 200, 300⟩, ?_⟩
    decide +kernel
  · refine ⟨0, 0, ⟨0, 1, 0, 0, 100, 200⟩, 0, aTask id, ?_⟩
    decide +kernel
  · refine ⟨0, 0, ⟨0, 1, 0, 0, 100, 200⟩, 0, aTask id, ?_⟩
    decide +kernel
  · refine ⟨5, 0, aTask (fun t => { t with state := .ended, writes := [{ die := 0, addr := 0xFFE, data := [7, 8, 9], combine := none, order := 0 }] }), { die := 0, addr := 0xFFE, data := [7, 8, 9], combine := none, order := 0 }, ?_⟩
    decide +kernel
  · refine ⟨5, 0, aTask id, (5, 0x0414), ?_⟩
    decide +kernel
  · refine ⟨0, 5, ?_⟩
    decide +kernel
  · refine ⟨5, (5, 0x0414), ?_⟩
    decide +kernel

theorem wit_IntegerInstructions :
    (∃ (c : CellId) (rd rs1 rs2 : Reg), (fun (d : Device) => d.runs ∧ d.cellReady c) (celling id)) ∧
    (∃ (c : CellId) (rd rs1 : Reg) (imm : BitVec 16), (fun (d : Device) => d.runs ∧ d.cellReady c) (celling id)) ∧
    (∃ (c : CellId) (rd rs1 : Reg) (sh : BitVec 5), (fun (d : Device) => d.runs ∧ d.cellReady c) (celling id)) ∧
    (∃ (c : CellId) (rd : Reg) (imm : BitVec 21), (fun (d : Device) => d.runs ∧ d.cellReady c) (celling id)) ∧
    (∃ (c : CellId) (rd rs1 : Reg), (fun (d : Device) => d.runs ∧ d.cellReady c) (celling id)) ∧
    (∃ (c : CellId) (rd rs1 : Reg), (fun (d : Device) => d.runs ∧ d.cellReady c) (celling id)) ∧
    (∃ (c : CellId) (rd rs1 : Reg) (imm : BitVec 16), (fun (d : Device) => d.runs ∧ (d.cell c.gid).blocked = none ∧ (d.cell c.gid).state = .halted ∧ (d.cell c.gid).regs.length = 32 ∧ c.gid ∈ d.mgmt.tap.steps) (let d := celling (fun x => { x with state := .halted }); { d with mgmt := { d.mgmt with tap := { d.mgmt.tap with steps := [0] } } })) := by
  refine ⟨?_, ?_, ?_, ?_, ?_, ?_, ?_⟩
  · refine ⟨cell0, 9, 3, 4, ?_⟩
    decide +kernel
  · refine ⟨cell0, 9, 4, 0xFFFC, ?_⟩
    decide +kernel
  · refine ⟨cell0, 9, 3, 4, ?_⟩
    decide +kernel
  · refine ⟨cell0, 9, 0x1F_FFFF, ?_⟩
    decide +kernel
  · refine ⟨cell0, 9, 4, ?_⟩
    decide +kernel
  · refine ⟨cell0, 9, 3, ?_⟩
    decide +kernel
  · refine ⟨cell0, 9, 4, 0xFFFC, ?_⟩
    decide +kernel

theorem wit_LoadsStoresAndAtomics :
    (∃ (c : CellId) (rd rs1 : Reg) (imm : BitVec 16) (a : Nat), ∃ p ∈ ([(.lw c rd rs1 imm, 4, fun v => BitVec.ofNat 32 v),
      (.lh c rd rs1 imm, 2, fun v => BitVec.ofInt 32 (toSigned 16 v)),
      (.lhu c rd rs1 imm, 2, fun v => BitVec.ofNat 32 v),
      (.lb c rd rs1 imm, 1, fun v => BitVec.ofInt 32 (toSigned 8 v)),
      (.lbu c rd rs1 imm, 1, fun v => BitVec.ofNat 32 v)] : List (Instr × Nat × (Nat → Word))), (fun (d : Device) => d.runs ∧ d.cellReady c ∧ ((d.cell c.gid).w rs1.val + BitVec.ofInt 32 imm.toInt).toNat = a ∧ a < 0x400 ∧ a % p.2.1 = 0) (celling (fun x => { x with store := [(0x3C, 0xFE), (0x3D, 0xFF)] }))) ∧
    (∃ (c : CellId) (rd rs1 : Reg) (imm : BitVec 16) (a : Nat), ∃ p ∈ ([(.lw c rd rs1 imm, 4, fun v => BitVec.ofNat 32 v),
      (.lh c rd rs1 imm, 2, fun v => BitVec.ofInt 32 (toSigned 16 v)),
      (.lhu c rd rs1 imm, 2, fun v => BitVec.ofNat 32 v),
      (.lb c rd rs1 imm, 1, fun v => BitVec.ofInt 32 (toSigned 8 v)),
      (.lbu c rd rs1 imm, 1, fun v => BitVec.ofNat 32 v)] : List (Instr × Nat × (Nat → Word))), (fun (d : Device) => d.runs ∧ d.cellReady c ∧ ((d.cell c.gid).w rs1.val + BitVec.ofInt 32 imm.toInt).toNat = a ∧ 0x1_0000 ≤ a ∧ a < 0x3_0000 ∧ a % p.2.1 = 0) ((celling id).write 0xB000000000C [0xFE, 0xFF])) ∧
    (∃ (c : CellId) (rs2 rs1 : Reg) (imm : BitVec 16) (a : Nat), ∃ p ∈ ([(.sw c rs2 rs1 imm, 4),
      (.sh c rs2 rs1 imm, 2),
      (.sb c rs2 rs1 imm, 1)] : List (Instr × Nat)), (fun (d : Device) => d.runs ∧ d.cellReady c ∧ Map.rising (d.cell c.gid).store = true ∧ ((d.cell c.gid).w rs1.val + BitVec.ofInt 32 imm.toInt).toNat = a ∧ a < 0x400 ∧ a % p.2 = 0) (celling id)) ∧
    (∃ (c : CellId) (rs2 rs1 : Reg) (imm : BitVec 16) (a : Nat), ∃ p ∈ ([(.sw c rs2 rs1 imm, 4),
      (.sh c rs2 rs1 imm, 2),
      (.sb c rs2 rs1 imm, 1)] : List (Instr × Nat)), (fun (d : Device) => d.runs ∧ d.cellReady c ∧ Memory.wf d.mem = true ∧ ((d.cell c.gid).w rs1.val + BitVec.ofInt 32 imm.toInt).toNat = a ∧ 0x1_0000 ≤ a ∧ a < 0x3_0000 ∧ a % p.2 = 0) (celling id)) ∧
    (∃ (c : CellId) (rd rs1 rs2 : Reg) (a : Nat), (fun (d : Device) => d.runs ∧ d.cellReady c ∧ Memory.wf d.mem = true ∧ ((d.cell c.gid).w rs1.val).toNat = a ∧ 0x1_0000 ≤ a ∧ a < 0x3_0000 ∧ a % 4 = 0) ((celling id).write 0xB0000000010 [3])) := by
  refine ⟨?_, ?_, ?_, ?_, ?_⟩
  · refine ⟨cell0, 9, 5, 0xFFFC, 0x3C, ?_⟩
    decide +kernel
  · refine ⟨cell0, 9, 6, 0xFFFC, 0x1000C, ?_⟩
    decide +kernel
  · refine ⟨cell0, 3, 5, 0xFFFC, 0x3C, ?_⟩
    decide +kernel
  · refine ⟨cell0, 3, 6, 0xFFFC, 0x1000C, ?_⟩
    decide +kernel
  · refine ⟨cell0, 4, 6, 3, 0x10010, ?_⟩
    decide +kernel

theorem wit_BranchesAndJumps :
    (∃ (c : CellId) (rs1 rs2 : Reg) (off : BitVec 16) (len : Nat) (t : Word), (fun (d : Device) => d.runs ∧ d.cellReady c ∧ (d.placement c.gid).map (·.code.length) = some len ∧ (d.cell c.gid).pc + 4 * BitVec.ofInt 32 off.toInt = t ∧ t.toNat % 4 = 0 ∧ t.toNat < len) (celling id)) ∧
    (∃ (c : CellId) (rd : Reg) (imm : BitVec 21) (len : Nat) (t : Word), (fun (d : Device) => d.runs ∧ d.cellReady c ∧ (d.placement c.gid).map (·.code.length) = some len ∧ (d.cell c.gid).pc + 4 * BitVec.ofInt 32 imm.toInt = t ∧ t.toNat % 4 = 0 ∧ t.toNat < len) (celling id)) ∧
    (∃ (c : CellId) (rd rs1 : Reg) (imm : BitVec 16) (len : Nat) (t : Word), (fun (d : Device) => d.runs ∧ d.cellReady c ∧ (d.placement c.gid).map (·.code.length) = some len ∧ (d.cell c.gid).w rs1.val + BitVec.ofInt 32 imm.toInt = t ∧ t.toNat % 4 = 0 ∧ t.toNat < len) (celling id)) ∧
    (∃ (c : CellId) (rs1 rs2 : Reg) (off : BitVec 16) (len : Nat) (t : Word), ∃ p ∈ ([(.beq c rs1 rs2 off, fun a b => a = b),
      (.bne c rs1 rs2 off, fun a b => a ≠ b),
      (.blt c rs1 rs2 off, fun a b => a.toInt < b.toInt),
      (.bge c rs1 rs2 off, fun a b => b.toInt ≤ a.toInt),
      (.bltu c rs1 rs2 off, fun a b => a.toNat < b.toNat),
      (.bgeu c rs1 rs2 off, fun a b => b.toNat ≤ a.toNat)] : List (Instr × (Word → Word → Bool))), (fun (d : Device) => d.runs ∧ d.regsWf ∧ d.cellReady c ∧ p.2 ((d.cell c.gid).w rs1.val) ((d.cell c.gid).w rs2.val) = true ∧ (d.placement c.gid).map (·.code.length) = some len ∧ (d.cell c.gid).pc + 4 * BitVec.ofInt 32 off.toInt = t ∧ (t.toNat % 4 ≠ 0 ∨ len ≤ t.toNat) ∧ d.fld (Reg.CELL_CTRL c.die.val) Fd.CELL_CTRL_EXC_HALT = 0) (celling id)) ∧
    (∃ (c : CellId) (rs1 rs2 : Reg) (off : BitVec 16), ∃ p ∈ ([(.beq c rs1 rs2 off, fun a b => a = b),
      (.bne c rs1 rs2 off, fun a b => a ≠ b),
      (.blt c rs1 rs2 off, fun a b => a.toInt < b.toInt),
      (.bge c rs1 rs2 off, fun a b => b.toInt ≤ a.toInt),
      (.bltu c rs1 rs2 off, fun a b => a.toNat < b.toNat),
      (.bgeu c rs1 rs2 off, fun a b => b.toNat ≤ a.toNat)] : List (Instr × (Word → Word → Bool))), (fun (d : Device) => d.runs ∧ d.cellReady c ∧ p.2 ((d.cell c.gid).w rs1.val) ((d.cell c.gid).w rs2.val) = false) (celling id)) ∧
    (∃ (c : CellId) (rd rs1 : Reg) (imm : BitVec 16) (len : Nat) (t : Word), (fun (d : Device) => d.runs ∧ d.regsWf ∧ d.cellReady c ∧ (d.placement c.gid).map (·.code.length) = some len ∧ (d.cell c.gid).w rs1.val + BitVec.ofInt 32 imm.toInt = t ∧ (t.toNat % 4 ≠ 0 ∨ len ≤ t.toNat) ∧ d.fld (Reg.CELL_CTRL c.die.val) Fd.CELL_CTRL_EXC_HALT = 0) (celling id)) ∧
    (∃ (c : CellId) (rd : Reg) (imm : BitVec 21) (len : Nat) (t : Word), (fun (d : Device) => d.runs ∧ d.regsWf ∧ d.cellReady c ∧ (d.placement c.gid).map (·.code.length) = some len ∧ (d.cell c.gid).pc + 4 * BitVec.ofInt 32 imm.toInt = t ∧ (t.toNat % 4 ≠ 0 ∨ len ≤ t.toNat) ∧ d.fld (Reg.CELL_CTRL c.die.val) Fd.CELL_CTRL_EXC_HALT = 0) (celling id)) := by
  refine ⟨?_, ?_, ?_, ?_, ?_, ?_, ?_⟩
  · refine ⟨cell0, 3, 4, 0xFFFE, 256, 8, ?_⟩
    decide +kernel
  · refine ⟨cell0, 9, 0x1F_FFFE, 256, 8, ?_⟩
    decide +kernel
  · refine ⟨cell0, 5, 5, 0xFFF0, 256, 0x30, ?_⟩
    decide +kernel
  · refine ⟨cell0, 3, 3, 60, 256, 256, ?_⟩
    decide +kernel
  · refine ⟨cell0, 3, 3, 60, ?_⟩
    decide +kernel
  · refine ⟨cell0, 5, 5, 0xFFF2, 256, 0x32, ?_⟩
    decide +kernel
  · refine ⟨cell0, 9, 60, 256, 256, ?_⟩
    decide +kernel

theorem wit_FloatInstructions :
    (∃ (c : CellId) (rd rs1 rs2 : Reg), (fun (d : Device) => d.runs ∧ d.cellReady c) (celling (fun x => (x.setW 3 0x40490FDB).setW 4 0xC02DF854))) ∧
    (∃ (c : CellId) (rd rs1 : Reg), (fun (d : Device) => d.runs ∧ d.cellReady c) (celling (fun x => x.setW 3 0x40490FDB))) ∧
    (∃ (c : CellId) (rd rs1 rs2 rs3 : Reg), (fun (d : Device) => d.runs ∧ d.cellReady c) (celling (fun x => (x.setW 3 0x40490FDB).setW 4 0xC02DF854))) ∧
    (∃ (c : CellId) (rd rs1 rs2 : Reg), (fun (d : Device) => d.runs ∧ d.cellReady c) (celling (fun x => ((x.setW 4 0x4B800000).setW 6 0x3F803F80).setW 7 0x3F803F80))) := by
  refine ⟨?_, ?_, ?_, ?_⟩
  · refine ⟨cell0, 9, 3, 4, ?_⟩
    decide +kernel
  · refine ⟨cell0, 9, 3, ?_⟩
    decide +kernel
  · refine ⟨cell0, 9, 3, 4, 5, ?_⟩
    decide +kernel
  · refine ⟨cell0, 4, 6, 7, ?_⟩
    decide +kernel

theorem wit_HashAndSpecialRegisters :
    (∃ (c : CellId) (rd rs1 rs2 : Pair), (fun (d : Device) => d.runs ∧ d.cellReady c) (celling id)) ∧
    (∃ (c : CellId) (rd rs1 rs2 : Reg), (fun (d : Device) => d.runs ∧ d.cellReady c) (celling id)) ∧
    (∃ (c : CellId) (rd rs1 rs2 : Reg), (fun (d : Device) => d.runs ∧ d.cellReady c) (celling id)) ∧
    (∃ (c : CellId) (rd rs1 rs2 : Reg) (stream : BitVec 8), (fun (d : Device) => d.runs ∧ d.cellReady c) (celling id)) ∧
    (∃ (c : CellId) (rd : Reg), (fun (d : Device) => d.runs ∧ d.cellReady c) (celling (fun x => { x with gkey := 0x123456789ABCDEF0, tag := 5, exc := 0x0517 }))) ∧
    (∃ (c : CellId) (rd : Reg), (fun (d : Device) => d.runs ∧ d.cellReady c) (celling (fun x => { x with gkey := 0x123456789ABCDEF0, tag := 5, exc := 0x0517 }))) ∧
    (∃ (c : CellId) (rd : Reg), (fun (d : Device) => d.runs ∧ d.cellReady c) (celling (fun x => { x with gkey := 0x123456789ABCDEF0, tag := 5, exc := 0x0517 }))) ∧
    (∃ (c : CellId) (rd : Reg), (fun (d : Device) => d.runs ∧ d.cellReady c) (celling (fun x => { x with gkey := 0x123456789ABCDEF0, tag := 5, exc := 0x0517 }))) ∧
    (∃ (c : CellId) (rd : Reg), (fun (d : Device) => d.runs ∧ d.cellReady c) (celling (fun x => { x with gkey := 0x123456789ABCDEF0, tag := 5, exc := 0x0517 }))) ∧
    (∃ (c : CellId) (rd : Reg), (fun (d : Device) => d.runs ∧ d.cellReady c) (celling (fun x => { x with gkey := 0x123456789ABCDEF0, tag := 5, exc := 0x0517 }))) ∧
    (∃ (c : CellId) (rd : Reg), (fun (d : Device) => d.runs ∧ d.cellReady c) (celling (fun x => { x with gkey := 0x123456789ABCDEF0, tag := 5, exc := 0x0517 }))) ∧
    (∃ (c : CellId) (rd : Reg), (fun (d : Device) => d.runs ∧ d.cellReady c) (celling (fun x => { x with gkey := 0x123456789ABCDEF0, tag := 5, exc := 0x0517 }))) ∧
    (∃ (c : CellId) (rd : Reg) (i : Item), (fun (d : Device) => d.runs ∧ d.cellReady c ∧ (d.cell c.gid).item = some i) (celling (fun x => { x with item := some anItem }))) ∧
    (∃ (c : CellId) (rd : Reg), (fun (d : Device) => d.runs ∧ d.cellReady c) (celling id)) ∧
    (∃ (c : CellId) (rd : Reg) (h : Word), (fun (d : Device) => d.runs ∧ d.cellReady c ∧ (d.cell c.gid).cycleHi = some h) (celling (fun x => { x with cycleHi := some 7 }))) ∧
    (∃ (c : CellId) (rd : Reg) (k : Nat) (t : Task), (fun (d : Device) => d.runs ∧ d.cellReady c ∧ d.findTask (d.cell c.gid).tag = some (k, t)) ((celling (fun x => { x with tag := 5 })).updStr (fun u => { u with tasks := [(0, aTask id)] }))) ∧
    (∃ (c : CellId) (rs1 : Reg) (hi : Bool), (fun (d : Device) => d.runs ∧ d.cellReady c) (celling (fun x => { x with gkey := 5 }))) := by
  refine ⟨?_, ?_, ?_, ?_, ?_, ?_, ?_, ?_, ?_, ?_, ?_, ?_, ?_, ?_, ?_, ?_, ?_⟩
  · refine ⟨cell0, 4, 2, 3, ?_⟩
    decide +kernel
  · refine ⟨cell0, 9, 3, 4, ?_⟩
    decide +kernel
  · refine ⟨cell0, 9, 3, 4, ?_⟩
    decide +kernel
  · refine ⟨cell0, 9, 3, 4, 5, ?_⟩
    decide +kernel
  · refine ⟨cell0, 9, ?_⟩
    decide +kernel
  · refine ⟨cell0, 9, ?_⟩
    decide +kernel
  · refine ⟨cell0, 9, ?_⟩
    decide +kernel
  · refine ⟨cell0, 9, ?_⟩
    decide +kernel
  · refine ⟨cell0, 9, ?_⟩
    decide +kernel
  · refine ⟨cell0, 9, ?_⟩
    decide +kernel
  · refine ⟨cell0, 9, ?_⟩
    decide +kernel
  · refine ⟨cell0, 9, ?_⟩
    decide +kernel
  · refine ⟨cell0, 9, anItem, ?_⟩
    decide +kernel
  · refine ⟨cell0, 9, ?_⟩
    decide +kernel
  · refine ⟨cell0, 9, 7, ?_⟩
    decide +kernel
  · refine ⟨cell0, 9, 0, aTask id, ?_⟩
    decide +kernel
  · refine ⟨cell0, 3, true, ?_⟩
    decide +kernel

theorem wit_CellStreamsAndLifts :
    (∃ (c : CellId) (rd rs1 rs2 : Reg) (ctx : Fin 4) (a tag : Nat) (r : StreamRec), (fun (d : Device) => d.runs ∧ d.cellReady c ∧ ((d.cell c.gid).w rs2.val).toNat = a ∧ a + 32 ≤ 0x400 ∧ a % 32 = 0 ∧ ((d.cell c.gid).w rs1.val).toNat = tag ∧ tag ≠ 0 ∧ d.taskGone tag = false ∧
      d.streamRec (gsid c.die.val (4 * (64 * c.block.val + c.cluster.val) + ctx.val)) = some r ∧ (d.stream (gsid c.die.val (4 * (64 * c.block.val + c.cluster.val) + ctx.val))).state ≠ .armed ∧ (d.stream (gsid c.die.val (4 * (64 * c.block.val + c.cluster.val) + ctx.val))).state ≠ .running) (celling id)) ∧
    (∃ (c : CellId) (rd rs1 rs2 : Reg) (ctx : Fin 4) (a e : Nat), (fun (d : Device) => d.runs ∧ d.regsWf ∧ d.cellReady c ∧ ((d.cell c.gid).w rs2.val).toNat = a ∧ a + 32 ≤ 0x400 ∧ a % 32 = 0 ∧ d.armCheck (gsid c.die.val (4 * (64 * c.block.val + c.cluster.val) + ctx.val)) ((d.cell c.gid).w rs1.val).toNat = some e) (celling id)) ∧
    (∃ (c : CellId) (rd : Reg) (ctx : Fin 4) (r : StreamRec), (fun (d : Device) => d.runs ∧ d.cellReady c ∧ d.streamRec (gsid c.die.val (4 * (64 * c.block.val + c.cluster.val) + ctx.val)) = some r ∧ (d.stream (gsid c.die.val (4 * (64 * c.block.val + c.cluster.val) + ctx.val))).state = .done) ((celling id).updStr (fun u => { u with streams := [(0, aStream (fun x => { x with state := .done }))] }))) ∧
    (∃ (c : CellId) (rd : Reg) (ctx : Fin 4) (r : StreamRec), (fun (d : Device) => d.runs ∧ d.cellReady c ∧ d.streamRec (gsid c.die.val (4 * (64 * c.block.val + c.cluster.val) + ctx.val)) = some r ∧ (d.stream (gsid c.die.val (4 * (64 * c.block.val + c.cluster.val) + ctx.val))).state ≠ .done ∧ d.taskGone (d.cell c.gid).tag = false) (celling id)) ∧
    (∃ (c : CellId) (rs1 rs2 : Reg) (a pool x : Nat) (r : PoolRec) (rest : List Nat), (fun (d : Device) => d.runs ∧ d.cellReady c ∧ Map.rising (d.cell c.gid).store = true ∧ ((d.cell c.gid).w rs1.val).toNat = a ∧ a + 16 ≤ 0x400 ∧ a % 16 = 0 ∧ ((d.cell c.gid).w rs2.val).toNat = pool ∧ d.plan.active.bind (fun pl => pl.poolRec c.die.val pool) = some r ∧
      d.str.pools.getD (1024 * c.die.val + pool) [] = x :: rest ∧ pool < 1024 ∧ x < 2 ^ 57) (celling (fun x => x.setW 9 7))) ∧
    (∃ (c : CellId) (rs1 rs2 : Reg) (a pool : Nat) (r : PoolRec), (fun (d : Device) => d.runs ∧ d.cellReady c ∧ ((d.cell c.gid).w rs1.val).toNat = a ∧ a + 16 ≤ 0x400 ∧ a % 16 = 0 ∧ ((d.cell c.gid).w rs2.val).toNat = pool ∧ d.plan.active.bind (fun pl => pl.poolRec c.die.val pool) = some r ∧
      d.str.pools.getD (1024 * c.die.val + pool) [] = []) ((celling (fun x => x.setW 9 7)).updStr (fun u => { u with pools := [] }))) ∧
    (∃ (c : CellId) (rs1 : Reg) (a die : Nat) (h : Handle) (r : PoolRec), (fun (d : Device) => d.runs ∧ d.cellReady c ∧ ((d.cell c.gid).w rs1.val).toNat = a ∧ a + 16 ≤ 0x400 ∧ a % 16 = 0 ∧ d.recordHandle (d.cell c.gid) a = some (h, r) ∧ (d.plan.active.bind (fun pl => pl.poolOfBuffer h.pool h.addr)).map (·.1) = some die) (celling (fun x => { x with store := ((u64 0xB0000001000 ++ u32 64 ++ u16 7 ++ u16 0).zipIdx.map (fun x => (0x40 + x.2, x.1))).filter (fun e => e.2 != 0) }))) ∧
    (∃ (c : CellId) (rs1 rs2 : Reg) (a lk : Nat) (h : Handle) (r : PoolRec), (fun (d : Device) => d.runs ∧ d.cellReady c ∧ ((d.cell c.gid).w rs1.val).toNat = a ∧ a + 16 ≤ 0x400 ∧ a % 16 = 0 ∧ d.cellLift c.gid ((d.cell c.gid).w rs2.val).toNat = some lk ∧ d.recordHandle (d.cell c.gid) a = some (h, r) ∧ h.len ≠ 0 ∧ h.len ≤ r.size ∧
      (d.cell c.gid).tag ≠ 0 ∧ d.taskGone (d.cell c.gid).tag = false ∧ d.liftLoad lk < 256 ∧ d.str.pushWait = []) (celling (fun x => { x with store := ((u64 0xB0000001000 ++ u32 64 ++ u16 7 ++ u16 0).zipIdx.map (fun x => (0x40 + x.2, x.1))).filter (fun e => e.2 != 0), tag := 5 }))) ∧
    (∃ (c : CellId) (rd rs1 : Reg) (a : Nat) (h : Handle) (r : PoolRec), (fun (d : Device) => d.runs ∧ d.cellReady c ∧ ((d.cell c.gid).w rs1.val).toNat = a ∧ a + 16 ≤ 0x400 ∧ a % 16 = 0 ∧ d.recordHandle (d.cell c.gid) a = some (h, r) ∧ clusterAddr c.die.val (64 * c.block.val + c.cluster.val) 0 ≤ h.addr ∧ h.addr + r.size ≤ clusterAddr c.die.val (64 * c.block.val + c.cluster.val) 0 + 0x2_0000) (celling (fun x => { x with store := ((u64 0xB0000001000 ++ u32 64 ++ u16 7 ++ u16 0).zipIdx.map (fun x => (0x40 + x.2, x.1))).filter (fun e => e.2 != 0) }))) := by
  refine ⟨?_, ?_, ?_, ?_, ?_, ?_, ?_, ?_, ?_⟩
  · refine ⟨cell0, 9, 4, 5, 0, 0x40, 3, pisteRec (pisteSec 0 4 1 7 0), ?_⟩
    decide +kernel
  · refine ⟨cell0, 9, 4, 5, 1, 0x40, 0x041E, ?_⟩
    decide +kernel
  · refine ⟨cell0, 9, 0, pisteRec (pisteSec 0 4 1 7 0), ?_⟩
    decide +kernel
  · refine ⟨cell0, 9, 0, pisteRec (pisteSec 0 4 1 7 0), ?_⟩
    decide +kernel
  · refine ⟨cell0, 5, 9, 0x40, 7, 0xB0000001000, ⟨7, 1, 0x1000, 256, 4⟩, [], ?_⟩
    decide +kernel
  · refine ⟨cell0, 5, 9, 0x40, 7, ⟨7, 1, 0x1000, 256, 4⟩, ?_⟩
    decide +kernel
  · refine ⟨cell0, 5, 0x40, 0, ⟨0xB0000001000, 64, false, false, 7⟩, ⟨7, 1, 0x1000, 256, 4⟩, ?_⟩
    decide +kernel
  · refine ⟨cell0, 5, 7, 0x40, 1, ⟨0xB0000001000, 64, false, false, 7⟩, ⟨7, 1, 0x1000, 256, 4⟩, ?_⟩
    decide +kernel
  · refine ⟨cell0, 9, 5, 0x40, ⟨0xB0000001000, 64, false, false, 7⟩, ⟨7, 1, 0x1000, 256, 4⟩, ?_⟩
    decide +kernel

theorem wit_CellSyncAndWork :
    (∃ (c : CellId) (rd rs1 rs2 : Reg) (id_ : Nat), (fun (d : Device) => d.runs ∧ d.cellReady c ∧ ((d.cell c.gid).w rs1.val).toNat = id_ ∧ id_ < 2 ^ 18) (celling id)) ∧
    (∃ (c : CellId) (rd rs1 : Reg) (id_ : Nat), (fun (d : Device) => d.runs ∧ d.cellReady c ∧ ((d.cell c.gid).w rs1.val).toNat = id_ ∧ id_ < 2 ^ 18) (celling id)) ∧
    (∃ (c : CellId) (rd rs1 rs2 : Reg) (id_ : Nat), (fun (d : Device) => d.runs ∧ d.cellReady c ∧ ((d.cell c.gid).w rs1.val).toNat = id_ ∧ id_ < 2 ^ 18 ∧ ((d.cell c.gid).w rs2.val).toNat ≤ d.syncVal id_) ((celling id).setSync 0x10010 3)) ∧
    (∃ (c : CellId) (rd rs1 rs2 : Reg) (id_ : Nat), (fun (d : Device) => d.runs ∧ d.cellReady c ∧ ((d.cell c.gid).w rs1.val).toNat = id_ ∧ id_ < 2 ^ 18 ∧ d.syncVal id_ < ((d.cell c.gid).w rs2.val).toNat) (celling id)) ∧
    (∃ (c : CellId) (rd rs1 : Reg) (a : Nat), (fun (d : Device) => d.runs ∧ d.cellReady c ∧ ((d.cell c.gid).w rs1.val).toNat = a ∧ a % 32 = 0 ∧ a + 16 * (d.maxArity (c.gid / 64) + 1) ≤ 0x400) (celling (fun x => { x with item := some anItem }))) ∧
    (∃ (c : CellId) (rd rs1 : Reg) (stage : Nat), (fun (d : Device) => d.runs ∧ d.cellReady c ∧ ((d.cell c.gid).w rs1.val).toNat = stage ∧ stage < 64 ∧ (d.plan.active.bind (fun pl => pl.stage c.die.val stage)).isSome = true ∧
      (d.liveTasks c.die.val).length < 1024 ∧ (d.freeEntry c.die.val).isSome = true ∧
      (∀ e ∈ d.str.tasks, e.2.tag ≠ mkTag stage c.die.val (d.str.seqs.getD (64 * c.die.val + stage) 1))) (celling id)) ∧
    (∃ (c : CellId), (fun (d : Device) => d.runs ∧ d.cellReady c) (celling (fun x => { x with item := some anItem }))) := by
  refine ⟨?_, ?_, ?_, ?_, ?_, ?_, ?_⟩
  · refine ⟨cell0, 3, 6, 4, 0x10010, ?_⟩
    decide +kernel
  · refine ⟨cell0, 3, 6, 0x10010, ?_⟩
    decide +kernel
  · refine ⟨cell0, 3, 6, 4, 0x10010, ?_⟩
    decide +kernel
  · refine ⟨cell0, 3, 6, 4, 0x10010, ?_⟩
    decide +kernel
  · refine ⟨cell0, 3, 5, 0x40, ?_⟩
    decide +kernel
  · refine ⟨cell0, 3, 9, 0, ?_⟩
    decide +kernel
  · refine ⟨cell0, ?_⟩
    decide +kernel

theorem wit_CellExceptions :
    (∃ (c : CellId) (rd rs1 : Reg) (imm : BitVec 16) (a : Nat), (fun (d : Device) => d.runs ∧ d.regsWf ∧ d.cellReady c ∧ d.fld (Reg.CELL_CTRL c.die.val) Fd.CELL_CTRL_EXC_HALT = 0 ∧ Map.rising d.str.tasks = true ∧ ((d.cell c.gid).w rs1.val + BitVec.ofInt 32 imm.toInt).toNat = a ∧ 0x400 ≤ a ∧ (a < 0x1_0000 ∨ 0x3_0000 ≤ a)) ((celling (fun x => { x with tag := 5 })).updStr (fun u => { u with tasks := [(0, aTask id)] }))) ∧
    (∃ (c : CellId) (rs2 rs1 : Reg) (imm : BitVec 16) (a : Nat), (fun (d : Device) => d.runs ∧ d.regsWf ∧ d.cellReady c ∧ d.fld (Reg.CELL_CTRL c.die.val) Fd.CELL_CTRL_EXC_HALT = 0 ∧ Map.rising d.str.tasks = true ∧ ((d.cell c.gid).w rs1.val + BitVec.ofInt 32 imm.toInt).toNat = a ∧ (a + 4 ≤ 0x400 ∨ 0x1_0000 ≤ a ∧ a + 4 ≤ 0x3_0000) ∧ a % 4 ≠ 0) ((celling (fun x => { x with tag := 5 })).updStr (fun u => { u with tasks := [(0, aTask id)] }))) ∧
    (∃ (c : CellId) (rs1 : Reg) (k : Nat) (t : Task), (fun (d : Device) => d.runs ∧ d.regsWf ∧ d.cellReady c ∧ d.fld (Reg.CELL_CTRL c.die.val) Fd.CELL_CTRL_EXC_HALT = 0 ∧ Map.rising d.str.tasks = true ∧ d.findTask (d.cell c.gid).tag = some (k, t) ∧ t.state = .open ∧ t.aborting = false) ((celling (fun x => { x with tag := 5 })).updStr (fun u => { u with tasks := [(0, aTask id)] }))) ∧
    (∃ (c : CellId) (rs1 : Reg), (fun (d : Device) => d.runs ∧ d.regsWf ∧ d.cellReady c ∧ d.fld (Reg.CELL_CTRL c.die.val) Fd.CELL_CTRL_EXC_HALT = 1) ((celling id).setFld (Reg.CELL_CTRL 0) Fd.CELL_CTRL_EXC_HALT 1)) ∧
    (∃ (c : CellId) (h : ErrEntry), (fun (d : Device) => d.runs ∧ d.regsWf ∧ (d.errq c.die.val).depth < 64 ∧ (d.errq c.die.val).handling = some h ∧ 4 ≤ h.event.severity) ((celling id).setErrq 0 { ErrQueue.empty with handling := some { event := { code := 0x0511, severity := 5 }, arrival := 0, subsumed := false } })) ∧
    (∃ (c : CellId), (fun (d : Device) => d.runs ∧ d.regsWf ∧ (d.errq c.die.val).depth < 64 ∧ (d.errq c.die.val).handling = none ∧ d.fault.fmap = [] ∧ d.dieContained c.die.val = false) (celling id)) ∧
    (∃ (c : CellId) (h : ErrEntry), (fun (d : Device) => d.runs ∧ d.regsWf ∧ (d.errq c.die.val).depth < 64 ∧ (d.errq c.die.val).handling = some h ∧ 4 ≤ h.event.severity) ((celling id).setErrq 0 { ErrQueue.empty with handling := some { event := { code := 0x0511, severity := 5 }, arrival := 0, subsumed := false } })) ∧
    (∃ (c : CellId), (fun (d : Device) => d.runs ∧ d.regsWf ∧ (d.errq c.die.val).depth < 64 ∧ (d.errq c.die.val).handling = none ∧ d.fault.fmap = [] ∧ d.dieContained c.die.val = false) (celling id)) ∧
    (∃ (die : Fin 4) (p : Fin 4096) (h : ErrEntry), (fun (d : Device) => d.runs ∧ d.regsWf ∧ Map.rising d.cells = true ∧ (d.errq die.val).depth < 64 ∧ (d.errq die.val).handling = some h ∧ 4 ≤ h.event.severity) ((celling id).setErrq 0 { ErrQueue.empty with handling := some { event := { code := 0x0511, severity := 5 }, arrival := 0, subsumed := false } })) := by
  refine ⟨?_, ?_, ?_, ?_, ?_, ?_, ?_, ?_, ?_⟩
  · refine ⟨cell0, 9, 5, 0x7001, 0x7041, ?_⟩
    decide +kernel
  · refine ⟨cell0, 9, 5, 1, 0x41, ?_⟩
    decide +kernel
  · refine ⟨cell0, 9, 0, aTask id, ?_⟩
    decide +kernel
  · refine ⟨cell0, 9, ?_⟩
    decide +kernel
  · refine ⟨cell0, { event := { code := 0x0511, severity := 5 }, arrival := 0, subsumed := false }, ?_⟩
    decide +kernel
  · refine ⟨cell0, ?_⟩
    decide +kernel
  · refine ⟨cell0, { event := { code := 0x0511, severity := 5 }, arrival := 0, subsumed := false }, ?_⟩
    decide +kernel
  · refine ⟨cell0, ?_⟩
    decide +kernel
  · refine ⟨0, 0, { event := { code := 0x0511, severity := 5 }, arrival := 0, subsumed := false }, ?_⟩
    decide +kernel

theorem wit_GatesAndSyncObjects :
    (∃ (die : Fin 4) (p : Fin 4096) (c : GateClass) (lk : Nat) (e : LiftEntry) (rest : List LiftEntry), (fun (d : Device) => d.runs ∧ (d.gate (4096 * die.val + p.val)).stopped = false ∧ d.clusterFenced (4096 * die.val + p.val) = false ∧
      (d.popOrder (4096 * die.val + p.val)).find? (fun x => !(d.liftQ x.2.2).isEmpty && decide (d.charged (4096 * die.val + p.val) x.1.cls x.2.1 < x.1.quotas.getD x.2.1 0)) = some (c, 0, lk) ∧
      c.arity = 1 ∧ c.flowMode = 0 ∧ c.delayMode = 0 ∧ d.liftQ lk = e :: rest ∧ e.src.isStream = false) (gatePlan.updStr (fun u => { u with lifts := [(1, [anEntry])] }))) ∧
    (∃ (die : Fin 4) (k f : Nat) (g : Gate) (i : Item), (fun (d : Device) => d.runs ∧ d.sched.gates = [(k, g)] ∧ k / 4096 = die.val ∧ g.delayed = [] ∧ g.ready = [] ∧ g.flowWait = [i] ∧ i.granted = false ∧ i.flow = some f ∧ g.flows = [] ∧ d.cells = []) (gating (fun g => { g with flowWait := [{ anItem with granted := false }] }))) ∧
    (∃ (die : Fin 4) (p : Fin 4096) (i : Item) (rest : List Item), (fun (d : Device) => d.runs ∧ (d.gate (4096 * die.val + p.val)).delayed = i :: rest ∧ i.release ≤ d.ticks ∧ i.flow = none ∧ i.granted = true) (gating (fun g => { g with delayed := [{ anItem with flow := none }] }))) ∧
    (∃ (die : Fin 4) (p : Fin 4096) (i : Item) (gid rd a : Nat) (c : Cell), (fun (d : Device) => d.runs ∧ d.regsWf ∧ (d.gate (4096 * die.val + p.val)).stopped = false ∧ d.clusterFenced (4096 * die.val + p.val) = false ∧ d.nextItem (4096 * die.val + p.val) = some i ∧ d.askingCell (4096 * die.val + p.val) = some (gid, c, rd, a) ∧
      Map.rising d.cells = true ∧ Map.rising c.store = true ∧ c.regs.length = 32 ∧ rd < 32 ∧ i.operands.length ≤ 4) ({ gating (fun g => { g with ready := [anItem] }) with cells := [(0, aCell (fun x => { x with blocked := some (.ask 9 0x40) }))] })) ∧
    (∃ (die : Fin 4) (i : Fin 65536) (o : SyncOp), (fun (d : Device) => d.runs ∧ d.plan.switch = .none ∧ d.sched.ops = [o] ∧ o.obj = 65536 * die.val + i.val ∧ Map.rising d.sched.sync = true) ({ (celling (fun x => { x with blocked := some (.swge 9 9 4) })) with sched := { SchedUnit.reset with ops := [⟨9, 2, 0, 0xFFFFFFFF⟩], sync := [(9, 3)] } })) ∧
    (∃ (die : Fin 4) (i : Fin 65536) (o1 o2 : SyncOp), (fun (d : Device) => d.runs ∧ d.plan.switch = .none ∧ d.sched.ops.filter (fun o => o.obj = 65536 * die.val + i.val) = [o1, o2] ∧ o1.source < 2 ^ 32 ∧ o2.source < 2 ^ 32 ∧
      Map.rising d.sched.sync = true) ({ celling id with sched := { SchedUnit.reset with ops := [⟨9, 2, 7, 5⟩, ⟨8, 2, 7, 5⟩, ⟨9, 0, 0, 0⟩], sync := [(9, 3)] } })) ∧
    (∃ (die : Fin 4) (i : Fin 65536) (amount : Word), (fun (d : Device) => d.runs) (ready)) ∧
    (∃ (die : Fin 4) (i : Fin 65536), (fun (d : Device) => d.runs) (ready)) ∧
    (∃ (die : Fin 4) (i : Fin 65536) (amount : Word), amount ≠ 0 ∧ (fun (d : Device) => d.runs) (ready)) := by
  refine ⟨?_, ?_, ?_, ?_, ?_, ?_, ?_, ?_, ?_⟩
  · refine ⟨0, 0, gateClass (zeros 4 ++ u8 1 ++ u8 1 ++ zeros 10 ++ u16 1 ++ zeros 6 ++ u16 2 ++ zeros 6), 1, anEntry, [], ?_⟩
    decide +kernel
  · refine ⟨0, 0, 7, { Gate.empty with flowWait := [{ anItem with granted := false }] }, { anItem with granted := false }, ?_⟩
    decide +kernel
  · refine ⟨0, 0, { anItem with flow := none }, [], ?_⟩
    decide +kernel
  · refine ⟨0, 0, anItem, 0, 9, 0x40, aCell (fun x => { x with blocked := some (.ask 9 0x40) }), ?_⟩
    decide +kernel
  · refine ⟨0, 9, ⟨9, 2, 0, 0xFFFFFFFF⟩, ?_⟩
    decide +kernel
  · refine ⟨0, 9, ⟨9, 2, 7, 5⟩, ⟨9, 0, 0, 0⟩, ?_⟩
    decide +kernel
  · refine ⟨1, 9, 4, ?_⟩
    decide +kernel
  · refine ⟨1, 9, ?_⟩
    decide +kernel
  · refine ⟨1, 9, 4, ?_⟩
    decide +kernel

theorem wit_HashJobs :
    (∃ (die : Fin 4) (k : Fin 64) (b : List Byte) (e : LiftEntry) (rest : List LiftEntry) (x : List (List Byte) × Nat × Nat), (fun (d : Device) => d.runs ∧ d.oneHead die.val 5 k.val (4096 * die.val + (hashCfg b).inLift) b e rest ∧ (hashCfg b).arity = 1 ∧ d.inputsPoisoned [e] = false ∧ (hashCfg b).check (d.takeSeq (stKey die.val 5 k.val) e.tag).1 (d.poolSize (poolKey die.val (hashCfg b).outPool)) [d.handleData e] = .inl x) (waiting 5 0 hashConfig hashData)) ∧
    (∃ (die : Fin 4) (k : Fin 64) (b : List Byte) (e : LiftEntry) (rest : List LiftEntry) (code : Nat), (fun (d : Device) => d.runs ∧ d.oneHead die.val 5 k.val (4096 * die.val + (hashCfg b).inLift) b e rest ∧ (hashCfg b).arity = 1 ∧ d.inputsPoisoned [e] = false ∧ (hashCfg b).check (d.takeSeq (stKey die.val 5 k.val) e.tag).1 (d.poolSize (poolKey die.val (hashCfg b).outPool)) [d.handleData e] = .inr code ∧ d.regsWf ∧ Map.rising d.stn.jobs = true) (waiting 5 0 hashConfig (zeros 64))) ∧
    (∃ (die : Fin 4) (k : Fin 64) (b : List Byte) (e : LiftEntry) (rest : List LiftEntry), (fun (d : Device) => d.runs ∧ d.oneHead die.val 5 k.val (4096 * die.val + (hashCfg b).inLift) b e rest ∧ (hashCfg b).arity = 1 ∧ d.inputsPoisoned [e] = true ∧ d.regsWf ∧ Map.rising d.stn.jobs = true) ((waiting 5 0 hashConfig hashData).poisonRange 0x1000 64)) ∧
    (∃ (die : Fin 4) (k : Fin 64) (b : List Byte) (j : Job) (a : Nat) (rest : List Nat) (x : List Byte) (nans n rows : Nat), (fun (d : Device) => d.runs ∧ d.working die.val 5 k.val b j ∧ d.canPush (poolKey die.val (hashCfg b).outPool) (d.stationOut die.val 5 k.val 1 (hashCfg b).outLift) a rest ∧
      (hashCfg b).check j.seq (d.poolSize (poolKey die.val (hashCfg b).outPool)) (j.inputs.map d.handleData) = .inl ([x], nans, n) ∧ ((j.inputs.head?.bind (fun e => columnOf (d.handleData e))).map (·.count)).getD 0 = rows) (jobbing 5 0 hashConfig hashData [])) ∧
    (∃ (die : Fin 4) (k : Fin 64) (b : List Byte) (j : Job) (rows : Nat), (fun (d : Device) => d.runs ∧ d.stationCfg die.val 5 k.val = some b ∧ d.stationStopped die.val 5 k.val = false ∧ d.job (stKey die.val 5 k.val) = some j ∧ j.pushed = true ∧
      d.outputWaits (stKey die.val 5 k.val) = false ∧ Map.rising d.stn.jobs = true ∧ d.regsWf ∧ ((j.inputs.head?.bind (fun e => columnOf (d.handleData e))).map (·.count)).getD 0 = rows) ((jobbing 5 0 hashConfig hashData []).updStn (fun u => { u with jobs := [(320, { jobOf hashData [] with pushed := true })] }))) ∧
    (∃ (die : Fin 4) (k : Fin 64) (b : List Byte) (j : Job), (fun (d : Device) => d.runs ∧ d.stationCfg die.val 5 k.val = some b ∧ d.stationStopped die.val 5 k.val = false ∧ d.job (stKey die.val 5 k.val) = some j ∧ j.pushed = true ∧
      d.outputWaits (stKey die.val 5 k.val) = true) (((jobbing 5 0 hashConfig hashData []).updStn (fun u => { u with jobs := [(320, { jobOf hashData [] with pushed := true })] })).updStr (fun u => { u with pushWait := [(1, { anEntry with src := .station 320 })] }))) := by
  refine ⟨?_, ?_, ?_, ?_, ?_, ?_⟩
  · refine ⟨0, 0, hashConfig, headOf hashData, [], match (hashCfg hashConfig).check 0 512 [hashData] with | .inl x => x | .inr _ => ([], 0, 0), ?_⟩
    decide +kernel
  · refine ⟨0, 0, hashConfig, headOf (zeros 64), [], 0x0911, ?_⟩
    decide +kernel
  · refine ⟨0, 0, hashConfig, headOf hashData, [], ?_⟩
    decide +kernel
  · refine ⟨0, 0, hashConfig, jobOf hashData [], 0x2000, [0x2200], match (hashCfg hashConfig).check 3 512 [hashData] with | .inl x => x.1.headD [] | .inr _ => [], 0, 2, 2, ?_⟩
    decide +kernel
  · refine ⟨0, 0, hashConfig, { jobOf hashData [] with pushed := true }, 2, ?_⟩
    decide +kernel
  · refine ⟨0, 0, hashConfig, { jobOf hashData [] with pushed := true }, ?_⟩
    decide +kernel

theorem wit_IngestJobs :
    (∃ (die : Fin 4) (k : Fin 8) (b : List Byte) (e : LiftEntry) (rest : List LiftEntry) (w : IngestJob), (fun (d : Device) => d.runs ∧ d.oneHead die.val 3 k.val (4096 * die.val + (ingestCfg b).inLift) b e rest ∧ d.inputsPoisoned [e] = false ∧ ingestJob (ingestCfg b).kind (d.handleData e) = .inl w ∧ w.check4to6 (ingestCfg b) (d.fld (Reg.INGEST_CTRL die.val) Fd.INGEST_CTRL_EXP_LIMIT) (d.poolSize (poolKey die.val (ingestCfg b).outPool)) = none ∧ d.regsWf) (waiting 3 0 ingestConfig (envelope 0 0 [1, 2, 3]))) ∧
    (∃ (die : Fin 4) (k : Fin 8) (b : List Byte) (e : LiftEntry) (rest : List LiftEntry) (code : Nat), (fun (d : Device) => d.runs ∧ d.oneHead die.val 3 k.val (4096 * die.val + (ingestCfg b).inLift) b e rest ∧ d.inputsPoisoned [e] = false ∧ ingestJob (ingestCfg b).kind (d.handleData e) = .inr code ∧ d.regsWf ∧ Map.rising d.stn.jobs = true) (waiting 3 0 ingestConfig (zeros 64))) ∧
    (∃ (die : Fin 4) (k : Fin 8) (b : List Byte) (e : LiftEntry) (rest : List LiftEntry), (fun (d : Device) => d.runs ∧ d.oneHead die.val 3 k.val (4096 * die.val + (ingestCfg b).inLift) b e rest ∧ d.inputsPoisoned [e] = true ∧ d.regsWf ∧ Map.rising d.stn.jobs = true) ((waiting 3 0 ingestConfig (envelope 0 0 [1, 2, 3])).poisonRange 0x1000 64)) ∧
    (∃ (die : Fin 4) (k : Fin 8) (b : List Byte) (e : LiftEntry) (rest : List LiftEntry) (w : IngestJob) (code : Nat), (fun (d : Device) => d.runs ∧ d.oneHead die.val 3 k.val (4096 * die.val + (ingestCfg b).inLift) b e rest ∧ d.inputsPoisoned [e] = false ∧ ingestJob (ingestCfg b).kind (d.handleData e) = .inl w ∧ w.check4to6 (ingestCfg b) (d.fld (Reg.INGEST_CTRL die.val) Fd.INGEST_CTRL_EXP_LIMIT) (d.poolSize (poolKey die.val (ingestCfg b).outPool)) = some code ∧ d.regsWf ∧ Map.rising d.stn.jobs = true) (waiting 3 0 ingestConfig (envelopeSized 1000000 [1, 2, 3]))) ∧
    (∃ (die : Fin 4) (k : Fin 8) (b : List Byte) (j : Job) (e : LiftEntry) (a : Nat) (rest : List Nat) (x : List Byte) (f : Nat) (p : List Byte), (fun (d : Device) => d.runs ∧ d.working die.val 3 k.val b j ∧ j.inputs = [e] ∧ d.canPush (poolKey die.val (ingestCfg b).outPool) (d.stationOut die.val 3 k.val 1 (ingestCfg b).outLift) a rest ∧ ingestJob (ingestCfg b).kind (d.handleData e) = .inl (.encode f p) ∧ rawBuffers (d.poolSize (poolKey die.val (ingestCfg b).outPool)) j.seq (codecEncode f p) = [x]) (jobbing 3 0 ingestConfig (envelope 2 1 [1, 2, 3]) [16])) ∧
    (∃ (die : Fin 4) (k : Fin 8) (b : List Byte) (j : Job) (e : LiftEntry) (a : Nat) (rest : List Nat) (x : List Byte) (f : Nat) (p : List Byte) (decl : Option Nat) (out : List Byte), (fun (d : Device) => d.runs ∧ d.working die.val 3 k.val b j ∧ j.inputs = [e] ∧ d.canPush (poolKey die.val (ingestCfg b).outPool) (d.stationOut die.val 3 k.val 1 (ingestCfg b).outLift) a rest ∧ ingestJob (ingestCfg b).kind (d.handleData e) = .inl (.decode f p decl) ∧ decl.all (fun n => n = out.length) = true ∧
      (match codecDecode f p.toArray ((IngestJob.decode f p decl).bounds (j.words.headD 0) ((ingestCfg b).maxBufs * (d.poolSize (poolKey die.val (ingestCfg b).outPool) - 32)) (d.poolSize (poolKey die.val (ingestCfg b).outPool))).limit with | .ok o => decide (o.toList = out) | .error _ => false) = true ∧
      rawBuffers (d.poolSize (poolKey die.val (ingestCfg b).outPool)) j.seq out = [x]) (jobbing 3 0 ingestConfig (envelope 0 0 [1, 2, 3]) [16])) ∧
    (∃ (die : Fin 4) (k : Fin 8) (b : List Byte) (j : Job) (e : LiftEntry) (f : Nat) (p : List Byte) (decl : Option Nat) (bnd : OutBounds) (code : Nat), (fun (d : Device) => d.runs ∧ d.working die.val 3 k.val b j ∧ j.inputs = [e] ∧ ingestJob (ingestCfg b).kind (d.handleData e) = .inl (.decode f p decl) ∧ (IngestJob.decode f p decl).bounds (j.words.headD 0) ((ingestCfg b).maxBufs * (d.poolSize (poolKey die.val (ingestCfg b).outPool) - 32)) (d.poolSize (poolKey die.val (ingestCfg b).outPool)) = bnd ∧
      (match codecDecode f p.toArray bnd.limit with | .ok _ => none | .error er => some (bnd.failCode er)) = some code) (jobbing 3 0 ingestConfig (envelope 2 0 [1, 2, 3]) [16])) ∧
    (∃ (die : Fin 4) (k : Fin 8) (b : List Byte) (j : Job) (e : LiftEntry) (f n : Nat) (p out : List Byte), (fun (d : Device) => d.runs ∧ d.working die.val 3 k.val b j ∧ j.inputs = [e] ∧ ingestJob (ingestCfg b).kind (d.handleData e) = .inl (.decode f p (some n)) ∧ n ≠ out.length ∧
      (match codecDecode f p.toArray ((IngestJob.decode f p (some n)).bounds (j.words.headD 0) ((ingestCfg b).maxBufs * (d.poolSize (poolKey die.val (ingestCfg b).outPool) - 32)) (d.poolSize (poolKey die.val (ingestCfg b).outPool))).limit with | .ok o => decide (o.toList = out) | .error _ => false) = true) (jobbing 3 0 ingestConfig (envelopeSized 4 [1, 2, 3]) [16])) := by
  refine ⟨?_, ?_, ?_, ?_, ?_, ?_, ?_, ?_⟩
  · refine ⟨0, 0, ingestConfig, headOf (envelope 0 0 [1, 2, 3]), [], .decode 0 [1, 2, 3] none, ?_⟩
    decide +kernel
  · refine ⟨0, 0, ingestConfig, headOf (zeros 64), [], 0x0711, ?_⟩
    decide +kernel
  · refine ⟨0, 0, ingestConfig, headOf (envelope 0 0 [1, 2, 3]), [], ?_⟩
    decide +kernel
  · refine ⟨0, 0, ingestConfig, headOf (envelopeSized 1000000 [1, 2, 3]), [], .decode 0 [1, 2, 3] (some 1000000), 0x0715, ?_⟩
    decide +kernel
  · refine ⟨0, 0, ingestConfig, jobOf (envelope 2 1 [1, 2, 3]) [16], headOf (envelope 2 1 [1, 2, 3]), 0x2000, [0x2200], (rawBuffers 512 3 (codecEncode 2 [1, 2, 3])).headD [], 2, [1, 2, 3], ?_⟩
    decide +kernel
  · refine ⟨0, 0, ingestConfig, jobOf (envelope 0 0 [1, 2, 3]) [16], headOf (envelope 0 0 [1, 2, 3]), 0x2000, [0x2200], (rawBuffers 512 3 [1, 2, 3]).headD [], 0, [1, 2, 3], none, [1, 2, 3], ?_⟩
    decide +kernel
  · refine ⟨0, 0, ingestConfig, jobOf (envelope 2 0 [1, 2, 3]) [16], headOf (envelope 2 0 [1, 2, 3]), 2, [1, 2, 3], none, (IngestJob.decode 2 [1, 2, 3] none).bounds 16 ((ingestCfg ingestConfig).maxBufs * 480) 512, 0x0714, ?_⟩
    decide +kernel
  · refine ⟨0, 0, ingestConfig, jobOf (envelopeSized 4 [1, 2, 3]) [16], headOf (envelopeSized 4 [1, 2, 3]), 0, 4, [1, 2, 3], [1, 2, 3], ?_⟩
    decide +kernel

theorem wit_PackRecords :
    (∃ (die k : Fin 4) (c : PackCfg) (e : LiftEntry) (rest : List LiftEntry) (rs : List PackRecord), (fun (d : Device) => d.runs ∧ d.packConfig die.val k.val = some c ∧ d.liftQ (4096 * die.val + c.inLift) = e :: rest ∧ e.src.isStream = false ∧ d.taskGone e.tag = false ∧ (d.packInst die.val k.val).emitting = none ∧
      (∀ y ∈ (d.packInst die.val k.val).openB, y.full = none) ∧ d.stationStopped die.val 6 k.val = false ∧ (d.packInst die.val k.val).closed = [] ∧ (d.packInst die.val k.val).used + e.h.len ≤ d.regionSize die.val c.storeRegion ∧ d.poisoned e.h.addr e.h.len = false ∧
      parseRecords c (d.packInst die.val k.val) (e.h.len / 64 + 1) (d.handleData e) = .inl rs) (waiting 6 0 packConfig (u8 1 ++ u8 0x0E ++ u8 0 ++ u8 0 ++ u32 9 ++ u32 2 ++ zeros 52 ++ u32 1 ++ u32 2 ++ zeros 56))) ∧
    (∃ (die k : Fin 4) (c : PackCfg) (e : LiftEntry) (rest : List LiftEntry) (code : Nat), (fun (d : Device) => d.runs ∧ d.packConfig die.val k.val = some c ∧ d.liftQ (4096 * die.val + c.inLift) = e :: rest ∧ e.src.isStream = false ∧ d.taskGone e.tag = false ∧ (d.packInst die.val k.val).emitting = none ∧
      (∀ y ∈ (d.packInst die.val k.val).openB, y.full = none) ∧ d.stationStopped die.val 6 k.val = false ∧ (d.packInst die.val k.val).closed = [] ∧ (d.packInst die.val k.val).used + e.h.len ≤ d.regionSize die.val c.storeRegion ∧ d.poisoned e.h.addr e.h.len = false ∧
      parseRecords c (d.packInst die.val k.val) (e.h.len / 64 + 1) (d.handleData e) = .inr code) (waiting 6 0 packConfig (zeros 64))) ∧
    (∃ (die k : Fin 4) (batch : Nat) (c : PackCfg) (x : PackBatch), (fun (d : Device) => d.runs ∧ d.packConfig die.val k.val = some c ∧ (d.packInst die.val k.val).openB.find? (fun y => y.id = batch) = some x ∧ x.openStep = d.stepNum ∧ x.full = none ∧ d.packOff die.val k.val = false ∧ batch < 2 ^ 32 ∧ d.regsWf ∧ Map.rising d.regs = true) (packing (fun p => { p with openB := [aBatch] }))) ∧
    (∃ (die k : Fin 4) (c : PackCfg) (cb : ClosedBatch) (cs : List ClosedBatch), (fun (d : Device) => d.runs ∧ d.packConfig die.val k.val = some c ∧ d.stationStopped die.val 6 k.val = false ∧ Memory.wf d.mem = true ∧ (d.packInst die.val k.val).closed = cb :: cs ∧ cs ≠ [] ∧ (d.packInst die.val k.val).slots = [] ∧ (d.packInst die.val k.val).emitting = none ∧ 0 < c.slots ∧
      (∀ y ∈ (d.packInst die.val k.val).openB, y.full = none) ∧ (d.stream (packStream die.val k.val)).state = .idle) (packing (fun p => { p with closed := [⟨[1, 2, 3], 1, 1, false, 128⟩, ⟨[4], 1, 1, false, 128⟩] }))) ∧
    (∃ (die k : Fin 4) (c : PackCfg) (cb : ClosedBatch) (cs : List ClosedBatch) (x : PackSlot) (i : Nat), (fun (d : Device) => d.runs ∧ d.packConfig die.val k.val = some c ∧ d.stationStopped die.val 6 k.val = false ∧ Memory.wf d.mem = true ∧ d.regsWf ∧ (d.packInst die.val k.val).closed = cb :: cs ∧ (d.packInst die.val k.val).emitting = some x ∧
      (List.range c.slots).find? (fun s => s ∉ (d.packInst die.val k.val).busySlots) = some i ∧ (∀ y ∈ (d.packInst die.val k.val).openB, y.full = none) ∧ (d.stream (packStream die.val k.val)).state ≠ .done) (packing (fun p => { p with closed := [⟨[1, 2, 3], 1, 1, false, 128⟩], emitting := some ⟨0, 1, 1, false⟩ }))) ∧
    (∃ (die k : Fin 4), (fun (d : Device) => d.runs ∧ d.packConfig die.val k.val = none) (ready)) ∧
    (∃ (die k : Fin 4) (c : PackCfg) (x : PackBatch), (fun (d : Device) => d.runs ∧ d.packConfig die.val k.val = some c ∧ (d.packInst die.val k.val).openB = [x] ∧ x.full = none ∧ d.packOff die.val k.val = false ∧ x.id < 2 ^ 32 ∧ d.regsWf) (packing (fun p => { p with openB := [aBatch] }))) := by
  refine ⟨?_, ?_, ?_, ?_, ?_, ?_, ?_⟩
  · refine ⟨0, 0, packCfg packConfig, headOf (u8 1 ++ u8 0x0E ++ u8 0 ++ u8 0 ++ u32 9 ++ u32 2 ++ zeros 52 ++ u32 1 ++ u32 2 ++ zeros 56), [], [.sample { aSample with origin := 0 }], ?_⟩
    decide +kernel
  · refine ⟨0, 0, packCfg packConfig, headOf (zeros 64), [], 0x0811, ?_⟩
    decide +kernel
  · refine ⟨0, 0, 3, packCfg packConfig, aBatch, ?_⟩
    decide +kernel
  · refine ⟨0, 0, packCfg packConfig, ⟨[1, 2, 3], 1, 1, false, 128⟩, [⟨[4], 1, 1, false, 128⟩], ?_⟩
    decide +kernel
  · refine ⟨0, 0, packCfg packConfig, ⟨[1, 2, 3], 1, 1, false, 128⟩, [], ⟨0, 1, 1, false⟩, 1, ?_⟩
    decide +kernel
  · refine ⟨1, 2, ?_⟩
    decide +kernel
  · refine ⟨0, 0, packCfg packConfig, aBatch, ?_⟩
    decide +kernel

theorem wit_MatchJobs :
    (∃ (die : Fin 4) (k : Fin 64) (b : List Byte) (e : LiftEntry) (rest : List LiftEntry) (cs : List Column), (fun (d : Device) => d.runs ∧ d.stationCfg die.val 1 k.val = some b ∧ d.gangStopped die.val k.val (matchCfg b) = false ∧ (matchCfg b).arity = 1 ∧ d.job (matchKey die.val k.val) = none ∧ d.liftQ (4096 * die.val + (matchCfg b).inLift) = e :: rest ∧ e.src.isStream = false ∧ d.taskGone e.tag = false ∧ d.headIsUpdate (4096 * die.val + (matchCfg b).inLift) = false ∧ d.inputsPoisoned [e] = false ∧ searchCheck (matchCfg b) (d.poolSize (poolKey die.val (matchCfg b).outPool)) [d.handleData e] = .inl cs) (waiting 1 0 matchConfig hashData)) ∧
    (∃ (die : Fin 4) (k : Fin 64) (b : List Byte) (j : Job) (cs : List Column) (n r : Nat), (fun (d : Device) => d.runs ∧ d.stationCfg die.val 1 k.val = some b ∧ d.gangStopped die.val k.val (matchCfg b) = false ∧ d.job (matchKey die.val k.val) = some j ∧ (d.gang die.val k.val).apply = [] ∧ d.hostWaits die.val k.val (matchCfg b) = false ∧ d.gangBad die.val k.val (matchCfg b) = false ∧ d.regsWf ∧
      searchCheck (matchCfg b) (d.poolSize (poolKey die.val (matchCfg b).outPool)) (j.inputs.map d.handleData) = .inl cs ∧ (cs.head?.map (·.count)).getD 0 = n ∧ j.words.length = 3 * r ∧ r < n ∧ rowPresent cs r = true) (matching id)) ∧
    (∃ (die : Fin 4) (k : Fin 64) (b : List Byte) (e : LiftEntry) (rest : List LiftEntry) (xs : List MatchChange) (i : Nat) (t : Task), (fun (d : Device) => d.runs ∧ d.stationCfg die.val 1 k.val = some b ∧ d.gangStopped die.val k.val (matchCfg b) = false ∧ d.job (matchKey die.val k.val) = none ∧ d.liftQ (4096 * die.val + (matchCfg b).inLift) = e :: rest ∧ e.src.isStream = false ∧ d.headIsUpdate (4096 * die.val + (matchCfg b).inLift) = true ∧ d.inputsPoisoned [e] = false ∧
      updateCheck (matchCfg b) (d.handleData e) = .inl xs ∧ d.findTask e.tag = some (i, t) ∧ t.state = .open ∧ t.aborting = false ∧ d.stagingUsed die.val + 2 * xs.length ≤ d.stagingCapacity die.val) (waiting 1 0 matchConfig updateData)) ∧
    (∃ (die : Fin 4) (k : Fin 64) (b : List Byte) (j : Job) (cs : List Column) (a c : Nat) (x y : List Byte), (fun (d : Device) => d.runs ∧ d.working die.val 1 k.val b j ∧ searchCheck (matchCfg b) (d.poolSize (poolKey die.val (matchCfg b).outPool)) (j.inputs.map d.handleData) = .inl cs ∧ (matchCfg b).mode = 0 ∧
      (List.range ((cs.head?.map (·.count)).getD 0)).all (fun r => decide (r < j.words.length / 3) || !(rowPresent cs r)) = true ∧
      d.str.pools.getD (poolKey die.val (matchCfg b).outPool) [] = [a, c] ∧ d.str.pushWait = [] ∧ d.liftLoad (d.stationOut die.val 1 k.val 1 (matchCfg b).outLift) < 255 ∧
      x.length ≤ d.poolSize (poolKey die.val (matchCfg b).outPool) ∧ y.length ≤ d.poolSize (poolKey die.val (matchCfg b).outPool) ∧
      searchOutputs (matchCfg b) cs j.seq j.words = [x, y] ∧ (a + x.length ≤ c ∨ c + y.length ≤ a)) (jobbing 1 0 matchConfig hashData [1, 0, 99, 1, 65540, 77])) ∧
    (∃ (die : Fin 4) (k : Fin 64) (b : List Byte) (x : MatchChange) (r : List MatchChange), (fun (d : Device) => d.runs ∧ d.stationCfg die.val 1 k.val = some b ∧ d.mgmt.gated = false ∧ d.hostWaits die.val k.val (matchCfg b) = false ∧ (d.gang die.val k.val).apply = x :: r ∧ (matchCfg b).paired = false ∧ (matchCfg b).wide = false ∧
      x.op = 1 ∧ Map.rising d.matchE = true ∧ d.regsWf) (matching (fun g => { g with apply := [{ aChange with index := 6 }] }))) ∧
    (∃ (die : Fin 4) (k : Fin 64) (b : List Byte) (x : MatchChange) (r : List MatchChange), (fun (d : Device) => d.runs ∧ d.stationCfg die.val 1 k.val = some b ∧ d.mgmt.gated = false ∧ d.hostWaits die.val k.val (matchCfg b) = false ∧ (d.gang die.val k.val).apply = x :: r ∧ (matchCfg b).paired = false ∧ (matchCfg b).wide = false ∧
      x.op = 2 ∧ Map.rising d.matchE = true) (matching (fun g => { g with apply := [{ aChange with op := 2 }] }))) ∧
    (∃ (die : Fin 4) (bank : Nat) (x : MatchChange), (fun (d : Device) => d.runs ∧ d.fld (Reg.MATCH_HOST_CMD die.val) ⟨9, 1⟩ = 1 ∧ d.fld (Reg.MATCH_HOST_CMD die.val) ⟨7, 2⟩ = 0 ∧ d.fld (Reg.MATCH_HOST_CMD die.val) ⟨6, 1⟩ = 0 ∧ d.plan.switch = .none ∧ d.fld (Reg.MATCH_HOST_CMD die.val) ⟨0, 6⟩ = bank ∧ d.hostBankStopped die.val bank false = false ∧ d.regsWf ∧ Map.rising d.matchE = true ∧ d.hostRecordsBad die.val 0 false = none ∧ changeOf (d.hostRecord die.val 0) = x ∧ x.op = 1) (hostMatching 0)) ∧
    (∃ (die : Fin 4) (bank : Nat) (x y : MatchChange), (fun (d : Device) => d.runs ∧ d.fld (Reg.MATCH_HOST_CMD die.val) ⟨9, 1⟩ = 1 ∧ d.fld (Reg.MATCH_HOST_CMD die.val) ⟨7, 2⟩ = 1 ∧ d.fld (Reg.MATCH_HOST_CMD die.val) ⟨6, 1⟩ = 0 ∧ d.plan.switch = .none ∧ d.fld (Reg.MATCH_HOST_CMD die.val) ⟨0, 6⟩ = bank ∧ d.hostBankStopped die.val bank false = false ∧ d.regsWf ∧ Map.rising d.matchE = true ∧ d.hostRecordsBad die.val 1 false = none ∧ changeOf (d.hostRecord die.val 0) = x ∧ x.op = 1 ∧ changeOf (d.hostRecord die.val 1) = y ∧ y.op = 2 ∧ y.index ≠ x.index) ((hostMatching 1).setReg (Reg.MATCH_HOST_REC1 0 0) 0x90002)) ∧
    (∃ (die : Fin 4) (bank i : Nat) (x : MatchEntry), (fun (d : Device) => d.runs ∧ d.fld (Reg.MATCH_HOST_CMD die.val) ⟨9, 1⟩ = 1 ∧ d.fld (Reg.MATCH_HOST_CMD die.val) ⟨7, 2⟩ = 2 ∧ d.fld (Reg.MATCH_HOST_CMD die.val) ⟨6, 1⟩ = 0 ∧ d.plan.switch = .none ∧ d.fld (Reg.MATCH_HOST_CMD die.val) ⟨0, 6⟩ = bank ∧ d.hostBankStopped die.val bank false = false ∧ d.regsWf ∧ Map.rising d.matchE = true ∧ d.hostRecordsBad die.val 2 false = none ∧ (changeOf (d.hostRecord die.val 0)).index = i ∧ d.entry (entryNo die.val bank i) = x ∧ x.state < 4 ∧ i < 65536 ∧ x.key < 2 ^ 160 ∧ x.care < 2 ^ 160 ∧ x.result < 2 ^ 64 ∧ x.prio < 256) (hostMatching 2)) := by
  refine ⟨?_, ?_, ?_, ?_, ?_, ?_, ?_, ?_, ?_⟩
  · refine ⟨0, 0, matchConfig, headOf hashData, [], match searchCheck (matchCfg matchConfig) 512 [hashData] with | .inl x => x | .inr _ => [], ?_⟩
    decide +kernel
  · refine ⟨0, 0, matchConfig, jobOf hashData [], (match searchCheck (matchCfg matchConfig) 512 [hashData] with | .inl x => x | .inr _ => []), 2, 0, ?_⟩
    decide +kernel
  · refine ⟨0, 0, matchConfig, headOf updateData, [], [aChange], 0, aTask id, ?_⟩
    decide +kernel
  · refine ⟨0, 0, matchConfig, jobOf hashData [1, 0, 99, 1, 65540, 77], (match searchCheck (matchCfg matchConfig) 512 [hashData] with | .inl x => x | .inr _ => []), 0x2000, 0x2200, columnBuffer 7 0x0C 2 0 3 0 false none (u64 99 ++ u64 77), columnBuffer 0xFFFC 0x0E 2 0 3 1 true none (u32 0 ++ u32 65540), ?_⟩
    decide +kernel
  · refine ⟨0, 0, matchConfig, { aChange with index := 6 }, [], ?_⟩
    decide +kernel
  · refine ⟨0, 0, matchConfig, { aChange with op := 2 }, [], ?_⟩
    decide +kernel
  · refine ⟨0, 3, aChange, ?_⟩
    decide +kernel
  · refine ⟨0, 3, aChange, ⟨2, 9, 0, 0, 0, 0, 0, false⟩, ?_⟩
    decide +kernel
  · refine ⟨0, 3, 4, ⟨2, 6, 7, 8, 2⟩, ?_⟩
    decide +kernel

theorem wit_SelectJobs :
    (∃ (die : Fin 4) (k : Fin 16) (b : List Byte) (e : LiftEntry) (rest : List LiftEntry), (fun (d : Device) => d.runs ∧ d.oneHead die.val 2 k.val (4096 * die.val + (selectCfg b).inLift) b e rest ∧ d.inputsPoisoned [e] = false ∧ scoreCheck (selectCfg b) (d.handleData e) = none ∧ (scoreHead (d.handleData e)).whole = true ∧ d.selRows (stKey die.val 2 k.val) = []) (waiting 2 0 selectConfig (scores 6 0 1))) ∧
    (∃ (die : Fin 4) (k : Fin 16) (b : List Byte) (e : LiftEntry) (rest : List LiftEntry) (h : ScoreHead), (fun (d : Device) => d.runs ∧ d.oneHead die.val 2 k.val (4096 * die.val + (selectCfg b).inLift) b e rest ∧ d.inputsPoisoned [e] = false ∧ e.h.last = false ∧ scoreCheck (selectCfg b) (d.handleData e) = none ∧ scoreHead (d.handleData e) = h ∧ h.whole = false ∧ d.selRows (stKey die.val 2 k.val) = [] ∧ 0 < (selectCfg b).openRows ∧ d.regsWf) ((waiting 2 0 selectConfig (scores 6 0 0)).updStr (fun u => { u with lifts := [(1, [{ headOf (scores 6 0 0) with h := { (headOf (scores 6 0 0)).h with last := false } }])] }))) ∧
    (∃ (die : Fin 4) (k : Fin 16) (b : List Byte) (e : LiftEntry) (rest : List LiftEntry) (h : ScoreHead) (r : SelRow), (fun (d : Device) => d.runs ∧ d.oneHead die.val 2 k.val (4096 * die.val + (selectCfg b).inLift) b e rest ∧ d.inputsPoisoned [e] = false ∧ e.h.last = false ∧ scoreCheck (selectCfg b) (d.handleData e) = none ∧ scoreHead (d.handleData e) = h ∧ h.whole = false ∧ d.selRows (stKey die.val 2 k.val) = [r] ∧ r.tag = e.tag ∧ r.row = h.row ∧ r.complete = false ∧ pieceCheck (selectCfg b) [r] h e.tag false = none ∧ d.regsWf) ({ (waiting 2 0 selectConfig (scores 6 1 1)).updStr (fun u => { u with lifts := [(1, [{ headOf (scores 6 1 1) with h := { (headOf (scores 6 1 1)).h with last := false } }])] }) with sel := [(128, [⟨5, 6, 0x0E, none, false, [⟨0, 4, 10, zeros 16⟩]⟩])] })) ∧
    (∃ (die : Fin 4) (k : Fin 16) (b : List Byte) (e : LiftEntry) (rest : List LiftEntry) (code : Nat), (fun (d : Device) => d.runs ∧ d.oneHead die.val 2 k.val (4096 * die.val + (selectCfg b).inLift) b e rest ∧ d.inputsPoisoned [e] = false ∧ scoreCheck (selectCfg b) (d.handleData e) = some code ∧ d.regsWf ∧ Map.rising d.stn.jobs = true) (waiting 2 0 selectConfig (zeros 64))) ∧
    (∃ (die : Fin 4) (k : Fin 16) (b : List Byte) (j : Job) (e : LiftEntry) (a : Nat) (rest : List Nat), (fun (d : Device) => d.runs ∧ d.working die.val 2 k.val b j ∧ j.inputs = [e] ∧ (selectCfg b).op ≠ 2 ∧ d.canPush (poolKey die.val (selectCfg b).outPool) (d.stationOut die.val 2 k.val 1 (selectCfg b).outLift) a rest ∧
      ((jobRows (selectCfg b) (d.handleData e)).flatMap (fun r => resultBytes (selectCfg b) r.2.1 r.1 (selectRow (selectCfg b) r.2.1 r.2.2) 0)).length ≤ d.poolSize (poolKey die.val (selectCfg b).outPool)) (jobbing 2 0 selectConfig (scores 6 0 1) [])) ∧
    (∃ (die : Fin 4) (k : Fin 16) (b : List Byte) (j : Job) (r : SelRow) (a : Nat) (rest : List Nat), (fun (d : Device) => d.runs ∧ d.working die.val 2 k.val b j ∧ j.inputs = [] ∧ (selectCfg b).op ≠ 2 ∧ d.canPush (poolKey die.val (selectCfg b).outPool) (d.stationOut die.val 2 k.val 1 (selectCfg b).outLift) a rest ∧
      (d.selRows (stKey die.val 2 k.val)).find? (·.complete) = some r ∧ Map.rising d.sel = true ∧
      (resultBytes (selectCfg b) r.type r.row (selectRow (selectCfg b) r.type r.pieces) 0).length ≤ d.poolSize (poolKey die.val (selectCfg b).outPool)) ({ (jobbing 2 0 selectConfig [] []).updStn (fun u => { u with jobs := [(128, { jobOf [] [] with mode := 1, inputs := [] })] }) with sel := [(128, [⟨5, 6, 0x0E, some 0, true, [⟨0, 4, 10, u32 5 ++ u32 9 ++ u32 7 ++ u32 9⟩]⟩])] })) := by
  refine ⟨?_, ?_, ?_, ?_, ?_, ?_⟩
  · refine ⟨0, 0, selectConfig, headOf (scores 6 0 1), [], ?_⟩
    decide +kernel
  · refine ⟨0, 0, selectConfig, { headOf (scores 6 0 0) with h := { (headOf (scores 6 0 0)).h with last := false } }, [], scoreHead (scores 6 0 0), ?_⟩
    decide +kernel
  · refine ⟨0, 0, selectConfig, { headOf (scores 6 1 1) with h := { (headOf (scores 6 1 1)).h with last := false } }, [], scoreHead (scores 6 1 1), ⟨5, 6, 0x0E, none, false, [⟨0, 4, 10, zeros 16⟩]⟩, ?_⟩
    decide +kernel
  · refine ⟨0, 0, selectConfig, headOf (zeros 64), [], 0x0B11, ?_⟩
    decide +kernel
  · refine ⟨0, 0, selectConfig, jobOf (scores 6 0 1) [], headOf (scores 6 0 1), 0x2000, [0x2200], ?_⟩
    decide +kernel
  · refine ⟨0, 0, selectConfig, { jobOf [] [] with mode := 1, inputs := [] }, ⟨5, 6, 0x0E, some 0, true, [⟨0, 4, 10, u32 5 ++ u32 9 ++ u32 7 ++ u32 9⟩]⟩, 0x2000, [0x2200], ?_⟩
    decide +kernel

theorem wit_GatherJobs :
    (∃ (die : Fin 4) (k : Fin 16) (b : List Byte) (e : LiftEntry) (rest : List LiftEntry) (kind : Nat) (g : GatherBuf) (x : TableRec), (fun (d : Device) => d.runs ∧ d.oneHead die.val 4 k.val (4096 * die.val + (gatherCfg b).inLift) b e rest ∧ d.gatherApplying die.val k.val = false ∧ d.gatherHead die.val b = some (kind, false) ∧ kind ≠ 3 ∧
      d.inputsPoisoned [e] = false ∧ d.gatherRead [e] = some g ∧ d.gatherTable die.val k.val g.table = some x ∧
      64 + ceil64 (4 * rOut g.pool g.bags g.entries) + rOut g.pool g.bags g.entries * x.outRow ≤ d.poolSize (poolKey die.val (gatherCfg b).outPool) ∧
      (x.policyZero = true ∨ ∀ r ∈ g.idx, x.valid r = true) ∧ (∀ r ∈ g.idx, d.rowPoisoned die.val x (d.embT (embKey die.val x.id)) r = false)) (gathering lookupData)) ∧
    (∃ (die : Fin 4) (k : Fin 16) (b : List Byte) (e : LiftEntry) (rest : List LiftEntry) (kind : Nat), (fun (d : Device) => d.runs ∧ d.oneHead die.val 4 k.val (4096 * die.val + (gatherCfg b).inLift) b e rest ∧ d.gatherApplying die.val k.val = false ∧ d.gatherHead die.val b = some (kind, false) ∧ kind ≠ 3 ∧
      d.inputsPoisoned [e] = false ∧ d.gatherRead [e] = none ∧ d.regsWf ∧ Map.rising d.stn.jobs = true) (gathering (zeros 64))) ∧
    (∃ (die : Fin 4) (k : Fin 16) (b : List Byte) (e : LiftEntry) (rest : List LiftEntry) (kind : Nat) (g : GatherBuf) (x : TableRec), (fun (d : Device) => d.runs ∧ d.oneHead die.val 4 k.val (4096 * die.val + (gatherCfg b).inLift) b e rest ∧ d.gatherApplying die.val k.val = false ∧ d.gatherHead die.val b = some (kind, false) ∧ kind = 3 ∧
      d.inputsPoisoned [e] = false ∧ d.gatherRead [e] = some g ∧ d.gatherTable die.val k.val g.table = some x ∧ x.opt ≠ 0 ∧ g.cols = x.colCount ∧ tagStage e.tag = x.updateStage ∧
      (∀ r ∈ g.idx, x.valid r = true) ∧ (d.embT (embKey die.val x.id)).logHeld + g.entries ≤ x.logEntries) (gathering gradientData)) ∧
    (∃ (die : Fin 4) (k : Fin 16) (b : List Byte) (e : LiftEntry) (rest : List LiftEntry) (kind : Nat) (g : GatherBuf) (x : TableRec), (fun (d : Device) => d.runs ∧ d.oneHead die.val 4 k.val (4096 * die.val + (gatherCfg b).inLift) b e rest ∧ d.gatherApplying die.val k.val = false ∧ d.gatherHead die.val b = some (kind, false) ∧ kind = 3 ∧
      d.inputsPoisoned [e] = false ∧ d.gatherRead [e] = some g ∧ d.gatherTable die.val k.val g.table = some x ∧ x.opt ≠ 0 ∧ g.cols = x.colCount ∧ tagStage e.tag = x.updateStage ∧
      (∀ r ∈ g.idx, x.valid r = true) ∧ x.logEntries < (d.embT (embKey die.val x.id)).logHeld + g.entries ∧ d.regsWf ∧ Map.rising d.stn.jobs = true) ({ gathering gradientData with emb := [(0, { EmbTable.empty with log := List.replicate 4 aContribution })] })) ∧
    (∃ (die : Fin 4) (k : Fin 16) (b : List Byte) (j : Job) (t hits areaHits bad : Nat) (valid : List Nat) (a : Nat) (rest : List Nat), (fun (d : Device) => d.runs ∧ d.working die.val 4 k.val b j ∧ j.mode = 1 ∧ j.words = [t, hits, areaHits, bad] ++ valid ∧ t < 64 ∧ d.canPush (poolKey die.val (gatherCfg b).outPool) (d.stationOut die.val 4 k.val 1 (gatherCfg b).outLift) a rest) (gatherEnding (gatherJob 1 [0, 0, 0, 1, 3] [1, 2, 3]))) ∧
    (∃ (die : Fin 4) (k : Fin 16) (b : List Byte) (j : Job) (t bad : Nat), (fun (d : Device) => d.runs ∧ d.working die.val 4 k.val b j ∧ j.mode = 3 ∧ j.words = [t, 0, 0, bad] ∧ t < 64) (gatherEnding (gatherJob 3 [0, 0, 0, 0] []))) := by
  refine ⟨?_, ?_, ?_, ?_, ?_, ?_⟩
  · refine ⟨0, 0, gatherConfig, headOf lookupData, [], 1, ((gatherBuf lookupData none).getD ⟨0, 0, 0, 0, 0, 0, 0, [], [], [], [], []⟩), aTable, ?_⟩
    decide +kernel
  · refine ⟨0, 0, gatherConfig, headOf (zeros 64), [], 0, ?_⟩
    decide +kernel
  · refine ⟨0, 0, gatherConfig, headOf gradientData, [], 3, ((gatherBuf gradientData none).getD ⟨0, 0, 0, 0, 0, 0, 0, [], [], [], [], []⟩), aTable, ?_⟩
    decide +kernel
  · refine ⟨0, 0, gatherConfig, headOf gradientData, [], 3, ((gatherBuf gradientData none).getD ⟨0, 0, 0, 0, 0, 0, 0, [], [], [], [], []⟩), aTable, ?_⟩
    decide +kernel
  · refine ⟨0, 0, gatherConfig, gatherJob 1 [0, 0, 0, 1, 3] [1, 2, 3], 0, 0, 0, 1, [3], 0x2000, [0x2200], ?_⟩
    decide +kernel
  · refine ⟨0, 0, gatherConfig, gatherJob 3 [0, 0, 0, 0] [], 0, 0, ?_⟩
    decide +kernel

theorem wit_EmbeddingRounds :
    (∃ (die : Fin 4) (t : Fin 64) (x : TableRec), (fun (d : Device) => d.runs ∧ d.tableOf die.val t.val = some x ∧ d.dieContained die.val = false ∧ d.mgmt.gated = false ∧ x.opt ≠ 0 ∧ (d.embT (embKey die.val t.val)).apply = none ∧ (d.embT (embKey die.val t.val)).round = none ∧ (d.embT (embKey die.val t.val)).retiring = 0 ∧ (d.embT (embKey die.val t.val)).appliedStep ≠ some d.stepNum ∧ d.regsWf) (tabling (fun e => { e with log := [aContribution] }))) ∧
    (∃ (die : Fin 4) (t : Fin 64) (x : TableRec) (a : EmbApply) (l : List Contribution) (row : Nat), (fun (d : Device) => d.runs ∧ d.tableOf die.val t.val = some x ∧ d.dieContained die.val = false ∧ d.mgmt.gated = false ∧ (d.embT (embKey die.val t.val)).apply = some a ∧ a.last = false ∧ d.applyWaits die.val x = false ∧ l.Perm a.entries ∧ l.Pairwise (fun p q => p.before q = true) ∧ l ≠ [] ∧ (∀ c ∈ l, c.row = row) ∧
      (d.embT (embKey die.val t.val)).moving row = false ∧ (d.embT (embKey die.val t.val)).retiring = 0 ∧ x.id = t.val ∧ d.poisoned (d.placeAddr die.val x row ((d.embT (embKey die.val t.val)).placeOf x row)) x.rrec = false ∧ Memory.wf d.mem = true ∧ d.regsWf) ((tabling (fun e => { e with apply := some ⟨[⟨3, 41002, 0, [0x33800000, 0]⟩, ⟨3, 3, 1, [0x3F800000, 0]⟩, ⟨3, 3, 0, [0xBF800000, 0]⟩], false, 0x3F000000, 0, 0⟩ })).write (0x20000 + 3 * 64) (u32 0x3E800000))) ∧
    (∃ (die : Fin 4) (t : Fin 64) (x : TableRec) (a : EmbApply) (l m : List Contribution) (r1 r2 p1 p2 : Nat) (w1 w2 : List Byte), (fun (d : Device) => d.runs ∧ d.tableOf die.val t.val = some x ∧ d.dieContained die.val = false ∧ d.mgmt.gated = false ∧ (d.embT (embKey die.val t.val)).apply = some a ∧ a.last = false ∧ d.applyWaits die.val x = false ∧ (l ++ m).Perm a.entries ∧ l.Pairwise (fun p q => p.before q = true) ∧ m.Pairwise (fun p q => p.before q = true) ∧ l ≠ [] ∧ m ≠ [] ∧
      (∀ c ∈ l, c.row = r1) ∧ (∀ c ∈ m, c.row = r2) ∧ r1 < r2 ∧ (d.embT (embKey die.val t.val)).round = none ∧ (d.embT (embKey die.val t.val)).retiring = 0 ∧ x.id = t.val ∧ p1 = d.placeAddr die.val x r1 ((d.embT (embKey die.val t.val)).placeOf x r1) ∧ p2 = d.placeAddr die.val x r2 ((d.embT (embKey die.val t.val)).placeOf x r2) ∧
      d.poisoned p1 x.rrec = false ∧ d.poisoned p2 x.rrec = false ∧ w1 = optRow x (optConsts x a) (d.read p1 x.rrec) l ∧ w2 = optRow x (optConsts x a) (d.read p2 x.rrec) m ∧
      (p1 + w1.length ≤ p2 ∨ p2 + w2.length ≤ p1) ∧ Memory.wf d.mem = true ∧ d.regsWf) (tabling (fun e => { e with apply := some ⟨[⟨4, 1, 0, [0x3F800000, 0]⟩, aContribution], false, 0x3F000000, 0, 0⟩ }))) ∧
    (∃ (die : Fin 4) (t : Fin 64) (x : TableRec) (a : EmbApply) (c : Contribution) (r : EmbRound), (fun (d : Device) => d.runs ∧ d.tableOf die.val t.val = some x ∧ d.dieContained die.val = false ∧ d.mgmt.gated = false ∧ (d.embT (embKey die.val t.val)).apply = some a ∧ a.last = false ∧ d.applyWaits die.val x = false ∧ a.entries = [c] ∧ (d.embT (embKey die.val t.val)).round = some r ∧ (∃ m ∈ r.moves, m.row = c.row) ∧ c.row ∉ r.fwd ∧ (d.embT (embKey die.val t.val)).retiring = 0 ∧ x.id = t.val ∧
      d.poisoned (d.placeAddr die.val x c.row ((d.embT (embKey die.val t.val)).placeOf x c.row)) x.rrec = false ∧ Memory.wf d.mem = true ∧ d.regsWf) (tabling (fun e => { e with apply := some ⟨[aContribution], false, 0x3F000000, 0, 0⟩, round := some (EmbRound.new [aMove] false) }))) ∧
    (∃ (die : Fin 4) (t : Fin 64) (x : TableRec) (a : EmbApply), (fun (d : Device) => d.runs ∧ d.tableOf die.val t.val = some x ∧ d.dieContained die.val = false ∧ d.mgmt.gated = false ∧ (d.embT (embKey die.val t.val)).apply = some a ∧ a.last = true ∧ d.applyWaits die.val x = false ∧ a.entries = [] ∧ (d.embT (embKey die.val t.val)).round = none ∧ (d.embT (embKey die.val t.val)).flush = false ∧ (d.embT (embKey die.val t.val)).flushMoves = []) (tabling (fun e => { e with retiring := 1, apply := some ⟨[], true, 0, 0, 0⟩ }))) ∧
    (∃ (die : Fin 4) (t : Fin 64) (x : TableRec) (a : EmbApply), (fun (d : Device) => d.runs ∧ d.tableOf die.val t.val = some x ∧ d.dieContained die.val = false ∧ d.mgmt.gated = false ∧ (d.embT (embKey die.val t.val)).apply = some a ∧ d.applyWaits die.val x = true) ((tabling (fun e => { e with apply := some ⟨[], false, 0, 0, 0⟩ })).updStn (fun u => { u with jobs := [(256, gatherJob 3 [0, 0, 0, 0] [])] }))) ∧
    (∃ (die : Fin 4) (t : Fin 64) (x : TableRec) (r : EmbRound), (fun (d : Device) => d.runs ∧ d.tableOf die.val t.val = some x ∧ d.dieContained die.val = false ∧ d.mgmt.gated = false ∧ (d.embT (embKey die.val t.val)).round = some r ∧ r.copied = false ∧ d.stationStopped die.val 7 x.traverse = false ∧ Memory.wf d.mem = true ∧
      (∀ m ∈ r.moves, ∀ n ∈ r.moves, d.placeAddr die.val x m.row m.src + x.rrec ≤ d.placeAddr die.val x n.row n.dst ∨ d.placeAddr die.val x n.row n.dst + x.rrec ≤ d.placeAddr die.val x m.row m.src) ∧
      r.moves.Pairwise (fun m n => d.placeAddr die.val x m.row m.dst + x.rrec ≤ d.placeAddr die.val x n.row n.dst ∨ d.placeAddr die.val x n.row n.dst + x.rrec ≤ d.placeAddr die.val x m.row m.dst)) ((tabling (fun e => { e with round := some (EmbRound.new [aMove, ⟨4, ⟨0, 0, 0⟩, ⟨1, 3, 6⟩⟩] false) })).write (0x20000 + 4 * 64) (u32 7))) ∧
    (∃ (die : Fin 4) (t : Fin 64) (x : TableRec) (r : EmbRound), (fun (d : Device) => d.runs ∧ d.tableOf die.val t.val = some x ∧ d.dieContained die.val = false ∧ d.mgmt.gated = false ∧ (d.embT (embKey die.val t.val)).round = some r ∧ r.replayed = false ∧ r.copied = true ∧ (r.carried = true ∨ d.b3 ≤ d.phase) ∧ (d.embT (embKey die.val t.val)).apply = none ∧
      d.stationStopped die.val 7 x.traverse = false ∧ Memory.wf d.mem = true ∧
      (∀ m ∈ r.moves, ∀ n ∈ r.moves, d.placeAddr die.val x m.row m.src + x.rrec ≤ d.placeAddr die.val x n.row n.dst ∨ d.placeAddr die.val x n.row n.dst + x.rrec ≤ d.placeAddr die.val x m.row m.src) ∧
      r.moves.Pairwise (fun m n => d.placeAddr die.val x m.row m.dst + x.rrec ≤ d.placeAddr die.val x n.row n.dst ∨ d.placeAddr die.val x n.row n.dst + x.rrec ≤ d.placeAddr die.val x m.row m.dst)) ((tabling (fun e => { e with round := some ⟨[aMove, ⟨4, ⟨0, 0, 0⟩, ⟨1, 3, 6⟩⟩], false, true, true, false, [3]⟩ })).write (0x20000 + 4 * 64) (u32 7))) ∧
    (∃ (die : Fin 4) (t : Fin 64) (x : TableRec) (r : EmbRound) (m : EmbMove), (fun (d : Device) => d.runs ∧ d.tableOf die.val t.val = some x ∧ d.dieContained die.val = false ∧ (d.embT (embKey die.val t.val)).round = some r ∧ r.replayed = true ∧ r.flush = false ∧ r.moves = [m] ∧ m.src.store = 0 ∧ m.dst.store = 1 ∧ (d.embT (embKey die.val t.val)).retiring = 0 ∧ d.regsWf) (tabling (fun e => { e with round := some ⟨[aMove], false, true, true, true, [3]⟩ }))) ∧
    (∃ (die : Fin 4) (t : Fin 64) (x : TableRec) (r : EmbRound) (m n : EmbMove), (fun (d : Device) => d.runs ∧ d.tableOf die.val t.val = some x ∧ d.dieContained die.val = false ∧ (d.embT (embKey die.val t.val)).round = some r ∧ r.replayed = true ∧ r.flush = false ∧ r.moves = [m, n] ∧ m.src.store = 0 ∧ m.dst.store = 1 ∧ n.src.store = 1 ∧ n.src.way = m.dst.way ∧ n.dst.store = 0 ∧ (d.embT (embKey die.val t.val)).retiring = 0 ∧ d.regsWf) (tabling (fun e => { e with cache := { e.cache with ways := [(2, (6, 1))] }, round := some ⟨[aMove, ⟨6, ⟨1, 2, 1⟩, ⟨0, 0, 0⟩⟩], false, true, true, true, [6, 3]⟩ }))) ∧
    (∃ (die : Fin 4) (t : Fin 64) (x : TableRec) (area : Bool) (frame : Nat), (fun (d : Device) => d.runs ∧ d.tableOf die.val t.val = some x ∧ d.dieContained die.val = false) (tabling (fun e => { e with cache := { e.cache with vacated := [4, 5] } }))) ∧
    (∃ (die : Fin 4) (t : Fin 64) (x : TableRec), (fun (d : Device) => d.runs ∧ d.tableOf die.val t.val = some x ∧ (∀ e ∈ d.emb, e.1 / 64 = die.val → e.2.flush = false) ∧ d.regsWf) (tabling id)) ∧
    (∃ (die : Fin 4) (t : Fin 64) (action : Fin 4), action ≠ 0 ∧ (fun (d : Device) => d.runs ∧ (∀ e ∈ d.emb, e.1 / 64 = die.val → e.2.flush = false) ∧ d.regsWf) (tabling id)) := by
  refine ⟨?_, ?_, ?_, ?_, ?_, ?_, ?_, ?_, ?_, ?_, ?_, ?_, ?_⟩
  · refine ⟨0, 0, aTable, ?_⟩
    decide +kernel
  · refine ⟨0, 0, aTable, ⟨[⟨3, 41002, 0, [0x33800000, 0]⟩, ⟨3, 3, 1, [0x3F800000, 0]⟩, ⟨3, 3, 0, [0xBF800000, 0]⟩], false, 0x3F000000, 0, 0⟩, [⟨3, 3, 0, [0xBF800000, 0]⟩, ⟨3, 3, 1, [0x3F800000, 0]⟩, ⟨3, 41002, 0, [0x33800000, 0]⟩], 3, ?_⟩
    decide +kernel
  · refine ⟨0, 0, aTable, ⟨[⟨4, 1, 0, [0x3F800000, 0]⟩, aContribution], false, 0x3F000000, 0, 0⟩, [aContribution], [⟨4, 1, 0, [0x3F800000, 0]⟩], 3, 4, 131264, 131328, optRow aTable (optConsts aTable ⟨[], false, 0x3F000000, 0, 0⟩) (u32 0x40400000 ++ u32 0x3F800000 ++ zeros 56) [aContribution], optRow aTable (optConsts aTable ⟨[], false, 0x3F000000, 0, 0⟩) (zeros 64) [⟨4, 1, 0, [0x3F800000, 0]⟩], ?_⟩
    decide +kernel
  · refine ⟨0, 0, aTable, ⟨[aContribution], false, 0x3F000000, 0, 0⟩, aContribution, EmbRound.new [aMove] false, ?_⟩
    decide +kernel
  · refine ⟨0, 0, aTable, ⟨[], true, 0, 0, 0⟩, ?_⟩
    decide +kernel
  · refine ⟨0, 0, aTable, ⟨[], false, 0, 0, 0⟩, ?_⟩
    decide +kernel
  · refine ⟨0, 0, aTable, EmbRound.new [aMove, ⟨4, ⟨0, 0, 0⟩, ⟨1, 3, 6⟩⟩] false, ?_⟩
    decide +kernel
  · refine ⟨0, 0, aTable, ⟨[aMove, ⟨4, ⟨0, 0, 0⟩, ⟨1, 3, 6⟩⟩], false, true, true, false, [3]⟩, ?_⟩
    decide +kernel
  · refine ⟨0, 0, aTable, ⟨[aMove], false, true, true, true, [3]⟩, aMove, ?_⟩
    decide +kernel
  · refine ⟨0, 0, aTable, ⟨[aMove, ⟨6, ⟨1, 2, 1⟩, ⟨0, 0, 0⟩⟩], false, true, true, true, [6, 3]⟩, aMove, ⟨6, ⟨1, 2, 1⟩, ⟨0, 0, 0⟩⟩, ?_⟩
    decide +kernel
  · refine ⟨0, 0, aTable, false, 5, ?_⟩
    decide +kernel
  · refine ⟨0, 0, aTable, ?_⟩
    decide +kernel
  · refine ⟨0, 0, 1, ?_⟩
    decide +kernel

theorem wit_ArrayResults :
    (∃ (die : Fin 4) (k : Fin 8) (cfg : List Byte) (e : LiftEntry) (rest : List LiftEntry), (fun (d : Device) => d.runs ∧ d.arrReady die.val k.val cfg ∧ d.job (arrKey die.val k.val) = none ∧ d.arrJob (arrKey die.val k.val) = none ∧ (arrCfg cfg).fixed = false ∧ (arrCfg cfg).cmdLift < 4096 ∧
      d.liftQ (4096 * die.val + (arrCfg cfg).cmdLift) = e :: rest ∧ e.src.isStream = false ∧ d.taskGone e.tag = false ∧ d.liftQ (4096 * die.val + (arrCfg cfg).aLift) = [] ∧
      d.poisoned e.h.addr e.h.len = false ∧ (arrCmd (d.read e.h.addr e.h.len)).op = 0 ∧ (arrCmd (d.read e.h.addr e.h.len)).check1 (d.read e.h.addr e.h.len) = false ∧ d.regsWf ∧ Map.rising d.stn.jobs = true ∧ Map.rising d.arr = true) ((arrPlan.write 0x5000 (u8 0 ++ zeros 255)).updStr (fun u => { u with lifts := [(1, [opEntry 0x5000 256])] }))) ∧
    (∃ (die : Fin 4) (k : Fin 8) (cfg : List Byte) (e : LiftEntry) (rest : List LiftEntry), (fun (d : Device) => d.runs ∧ d.arrReady die.val k.val cfg ∧ d.job (arrKey die.val k.val) = none ∧ d.arrJob (arrKey die.val k.val) = none ∧ (arrCfg cfg).fixed = false ∧ (arrCfg cfg).cmdLift < 4096 ∧
      d.liftQ (4096 * die.val + (arrCfg cfg).cmdLift) = e :: rest ∧ e.src.isStream = false ∧ d.taskGone e.tag = false ∧ d.liftQ (4096 * die.val + (arrCfg cfg).aLift) = [] ∧
      d.poisoned e.h.addr e.h.len = false ∧ (arrCmd (d.read e.h.addr e.h.len)).op = 1 ∧ (arrCmd (d.read e.h.addr e.h.len)).check1 (d.read e.h.addr e.h.len) = false ∧ d.regsWf ∧ Map.rising d.stn.jobs = true ∧ Map.rising d.arr = true) ((arrPlan.write 0x5000 (u8 1 ++ zeros 255)).updStr (fun u => { u with lifts := [(1, [opEntry 0x5000 256])] }))) ∧
    (∃ (die : Fin 4) (k : Fin 8) (cfg : List Byte) (e : LiftEntry) (rest : List LiftEntry), (fun (d : Device) => d.runs ∧ d.arrReady die.val k.val cfg ∧ d.job (arrKey die.val k.val) = none ∧ d.arrJob (arrKey die.val k.val) = none ∧ (arrCfg cfg).fixed = false ∧ (arrCfg cfg).cmdLift < 4096 ∧
      d.liftQ (4096 * die.val + (arrCfg cfg).cmdLift) = e :: rest ∧ e.src.isStream = false ∧ d.taskGone e.tag = false ∧ d.liftQ (4096 * die.val + (arrCfg cfg).aLift) = [] ∧
      d.poisoned e.h.addr e.h.len = false ∧ (arrCmd (d.read e.h.addr e.h.len)).op = 2 ∧ (arrCmd (d.read e.h.addr e.h.len)).check1 (d.read e.h.addr e.h.len) = false ∧ d.regsWf ∧ Map.rising d.stn.jobs = true ∧ Map.rising d.arr = true) ((arrPlan.write 0x5000 (u8 2 ++ zeros 255)).updStr (fun u => { u with lifts := [(1, [opEntry 0x5000 256])] }))) ∧
    (∃ (die : Fin 4) (k : Fin 8) (cfg : List Byte) (e : LiftEntry) (rest : List LiftEntry), (fun (d : Device) => d.runs ∧ d.arrReady die.val k.val cfg ∧ d.job (arrKey die.val k.val) = none ∧ d.arrJob (arrKey die.val k.val) = none ∧ (arrCfg cfg).fixed = false ∧ (arrCfg cfg).cmdLift < 4096 ∧
      d.liftQ (4096 * die.val + (arrCfg cfg).cmdLift) = e :: rest ∧ e.src.isStream = false ∧ d.taskGone e.tag = false ∧ d.liftQ (4096 * die.val + (arrCfg cfg).aLift) = [] ∧
      d.poisoned e.h.addr e.h.len = false ∧ (arrCmd (d.read e.h.addr e.h.len)).op = 3 ∧ (arrCmd (d.read e.h.addr e.h.len)).check1 (d.read e.h.addr e.h.len) = false ∧ d.regsWf ∧ Map.rising d.stn.jobs = true ∧ Map.rising d.arr = true) ((arrPlan.write 0x5000 (u8 3 ++ zeros 255)).updStr (fun u => { u with lifts := [(1, [opEntry 0x5000 256])] }))) ∧
    (∃ (die : Fin 4) (k : Fin 8) (cfg : List Byte) (j : Job) (a : ArrJob) (c : ArrCmd) (e : LiftEntry) (rest : List LiftEntry) (ws : List (List (Option FP))), (fun (d : Device) => d.runs ∧ d.arrReady die.val k.val cfg ∧ d.arrWorks die.val k.val j a c ∧ c.op = 0 ∧ a.sides = [] ∧ a.ws.length = c.wHandles ∧ c.aHandles = a.aDone + 1 ∧ d.liftQ (4096 * die.val + (arrCfg cfg).aLift) = e :: rest ∧ e.src.isStream = false ∧
      e.tag = j.tag ∧ d.poisoned e.h.addr e.h.len = false ∧ operandOk e.h.len c.aOff c.aPitch (handleRows c.m c.aRows a.aDone) c.aSpan = true ∧ d.arrPoolOk die.val { a with as := [e] } c e = true ∧ d.wRowsOf c a.ws = some ws) (arraying 0 (arrCommand 0 2 0 0 0) (fun a => { a with ws := [opEntry 0x1100 128] }))) ∧
    (∃ (die : Fin 4) (k : Fin 8) (cfg : List Byte) (j : Job) (a : ArrJob) (c : ArrCmd) (e : LiftEntry) (rest : List LiftEntry), (fun (d : Device) => d.runs ∧ d.arrReady die.val k.val cfg ∧ d.arrWorks die.val k.val j a c ∧ c.op = 0 ∧ a.sides = [] ∧ a.ws.length = c.wHandles ∧ c.aHandles = a.aDone + 1 ∧ d.liftQ (4096 * die.val + (arrCfg cfg).aLift) = e :: rest ∧ e.src.isStream = false ∧
      e.tag = j.tag ∧ d.poisoned e.h.addr e.h.len = false ∧ operandOk e.h.len c.aOff c.aPitch (handleRows c.m c.aRows a.aDone) c.aSpan = false ∧ d.arrPoolOk die.val { a with as := [e] } c e = true ∧ d.regsWf ∧ Map.rising d.stn.jobs = true ∧ Map.rising d.arr = true) ((arraying 0 (arrCommand 0 2 0 0 0) (fun a => { a with ws := [opEntry 0x1100 128] })).updStr (fun u => { u with lifts := [(3, [opEntry 0x1000 32])] }))) ∧
    (∃ (die : Fin 4) (k : Fin 8) (cfg : List Byte) (j : Job) (a : ArrJob) (c : ArrCmd) (e : LiftEntry) (rest : List LiftEntry) (ws : List (List (Option FP))), (fun (d : Device) => d.runs ∧ d.arrReady die.val k.val cfg ∧ d.arrWorks die.val k.val j a c ∧ c.op = 0 ∧ a.sides = [] ∧ a.ws.length = c.wHandles ∧ c.aHandles = a.aDone + 1 ∧ d.liftQ (4096 * die.val + (arrCfg cfg).aLift) = e :: rest ∧ e.src.isStream = false ∧
      e.tag = j.tag ∧ d.poisoned e.h.addr e.h.len = false ∧ operandOk e.h.len c.aOff c.aPitch (handleRows c.m c.aRows a.aDone) c.aSpan = true ∧ d.arrPoolOk die.val { a with as := [e] } c e = true ∧ d.wRowsOf c a.ws = some ws ∧ d.regsWf) (arraying 0 (arrCommand 0 2 0 0 0) (fun a => { a with ws := [opEntry 0x1100 128] }))) ∧
    (∃ (die : Fin 4) (k : Fin 8) (cfg : List Byte) (j : Job) (a : ArrJob) (c : ArrCmd) (e : LiftEntry) (rest : List LiftEntry) (h : ErrEntry), (fun (d : Device) => d.runs ∧ d.arrReady die.val k.val cfg ∧ d.arrWorks die.val k.val j a c ∧ c.op = 0 ∧ a.sides = [] ∧ a.ws.length = c.wHandles ∧ c.aHandles = a.aDone + 1 ∧ d.liftQ (4096 * die.val + (arrCfg cfg).aLift) = e :: rest ∧ e.src.isStream = false ∧
      e.tag = j.tag ∧ d.poisoned e.h.addr e.h.len = false ∧ inArrayStaging e.h.addr = true ∧ (d.errq (d.ownerQueue e.h.addr)).depth < 63 ∧ (d.errq (d.ownerQueue e.h.addr)).handling = some h ∧ 3 ≤ h.event.severity ∧ d.regsWf ∧ Map.rising d.stn.jobs = true) (((arraying 0 (arrCommand 0 2 0 0 0) (fun a => { a with ws := [opEntry 0x1100 128] })).updStr (fun u => { u with lifts := [(3, [opEntry (arrayStagingAddr 0 0 0) 64])] })).setErrq 0 { ErrQueue.empty with handling := some { event := { code := 0x0511, severity := 5 }, arrival := 0, subsumed := false } })) ∧
    (∃ (die : Fin 4) (k : Fin 8) (cfg : List Byte) (j : Job) (a : ArrJob) (c : ArrCmd) (e : LiftEntry) (rest : List LiftEntry) (h : ErrEntry), (fun (d : Device) => d.runs ∧ d.arrReady die.val k.val cfg ∧ d.arrWorks die.val k.val j a c ∧ c.op = 0 ∧ a.sides = [] ∧ a.ws.length = c.wHandles ∧ c.aHandles = a.aDone + 1 ∧ d.liftQ (4096 * die.val + (arrCfg cfg).aLift) = e :: rest ∧ e.src.isStream = false ∧
      e.tag = j.tag ∧ d.poisoned e.h.addr e.h.len = false ∧ inArrayStaging e.h.addr = false ∧ (d.errq die.val).depth < 64 ∧ (d.errq die.val).handling = some h ∧ 3 ≤ h.event.severity ∧ d.regsWf ∧ Map.rising d.stn.jobs = true) ((arraying 0 (arrCommand 0 2 0 0 0) (fun a => { a with ws := [opEntry 0x1100 128] })).setErrq 0 { ErrQueue.empty with handling := some { event := { code := 0x0511, severity := 5 }, arrival := 0, subsumed := false } })) ∧
    (∃ (die : Fin 4) (k : Fin 8) (cfg : List Byte) (j : Job) (a : ArrJob) (c : ArrCmd) (x y : LiftEntry) (ws : List (List (Option FP))) (rs : List SelResult) (recs : List (Nat × Nat × Nat)), (fun (d : Device) => d.runs ∧ d.arrReady die.val k.val cfg ∧ d.arrWorks die.val k.val j a c ∧ c.op = 1 ∧ a.sides = [x, y] ∧ a.ws.length = c.wHandles ∧ a.as.length = c.aHandles ∧ c.e = a.expert + 1 ∧ d.wRowsOf c a.ws = some ws ∧
      c.routeCheck (d.handleData x) (d.handleData y) = .inl (rs, recs)) (arraying 1 (arrCommand 1 2 0 1 0) (fun a => { a with ws := [opEntry 0x1100 128], as := [opEntry 0x1000 64], sides := [opEntry 0x1200 128, opEntry 0x1300 136], acc := [[0, 0]] }))) ∧
    (∃ (die : Fin 4) (k : Fin 8) (cfg : List Byte) (j : Job) (a : ArrJob) (c : ArrCmd), (fun (d : Device) => d.runs ∧ d.arrReady die.val k.val cfg ∧ d.arrWorks die.val k.val j a c ∧ c.op = 2 ∧ a.ws = [] ∧ a.sides = [] ∧ a.as.length = c.aHandles) (arraying 2 (arrCommand 2 0 2 0 0) (fun a => { a with as := [opEntry 0x1000 64, opEntry 0x1100 128] }))) ∧
    (∃ (die : Fin 4) (k : Fin 8) (cfg : List Byte) (j : Job) (a : ArrJob) (c : ArrCmd) (e : LiftEntry) (r : SelResult) (x : Tensor) (rows : List (Option (List Byte))), (fun (d : Device) => d.runs ∧ d.arrReady die.val k.val cfg ∧ d.arrWorks die.val k.val j a c ∧ c.op = 3 ∧ a.sides = [e] ∧ a.vdesc ≠ [] ∧ a.asked = true ∧ d.taskGone e.tag = false ∧ d.quiet (arrValueStream die.val k.val) = true ∧
      selResults (d.handleData e) = [r] ∧ tensorFrom a.vdesc [] = x ∧ x.valueRows (d.stream (arrValueStream die.val k.val)).tile (r.entries.map (·.1)) = rows) (attending true)) ∧
    (∃ (die : Fin 4) (k : Fin 8) (cfg : List Byte) (j : Job) (a : ArrJob) (c : ArrCmd) (e : LiftEntry) (r : SelResult) (x : Tensor) (xs : List Xfer), (fun (d : Device) => d.runs ∧ d.arrReady die.val k.val cfg ∧ d.arrWorks die.val k.val j a c ∧ c.op = 3 ∧ a.sides = [e] ∧ a.vdesc ≠ [] ∧ a.asked = false ∧ d.taskGone e.tag = false ∧ selResults (d.handleData e) = [r] ∧ tensorFrom a.vdesc [] = x ∧
      (r.entries.all (fun y => decide (y.1 < x.viewExtent 1))) = true ∧
      (d.reachReads die.val e.tag (joinReads ((x.valueEntries (r.entries.map (·.1))).flatMap (fun p => x.rowReads [] p.2 p.1)))).1 = .inl xs) (attending false)) ∧
    (∃ (die : Fin 4) (k : Fin 8) (b : List Byte) (j : Job) (a : ArrJob) (x : List Byte) (p : Nat) (rest : List Nat), (fun (d : Device) => d.runs ∧ d.working die.val 0 k.val b j ∧ d.arrJob (arrKey die.val k.val) = some a ∧ a.done = true ∧ d.arrSelftest die.val k.val = false ∧ (arrCmd a.cmd).buffers a j.seq = [x] ∧
      d.canPush (poolKey die.val (arrCfg b).outPool) (d.stationOut die.val 0 k.val 3 (arrCfg b).outLift) p rest ∧ Map.rising d.arr = true) (arraying 0 (arrCommand 0 2 0 0 0) (fun a => { a with out := [u32 5 ++ u32 6], cols := 2, done := true }))) := by
  refine ⟨?_, ?_, ?_, ?_, ?_, ?_, ?_, ?_, ?_, ?_, ?_, ?_, ?_, ?_⟩
  · refine ⟨0, 0, arrConfig, opEntry 0x5000 256, [], ?_⟩
    decide +kernel
  · refine ⟨0, 0, arrConfig, opEntry 0x5000 256, [], ?_⟩
    decide +kernel
  · refine ⟨0, 0, arrConfig, opEntry 0x5000 256, [], ?_⟩
    decide +kernel
  · refine ⟨0, 0, arrConfig, opEntry 0x5000 256, [], ?_⟩
    decide +kernel
  · refine ⟨0, 0, arrConfig, arrJobOf 0, { ArrJob.new (arrCommand 0 2 0 0 0) with ws := [opEntry 0x1100 128] }, arrCmd (arrCommand 0 2 0 0 0), opEntry 0x1000 64, [], [arrRow 1 32 (wRowsB.take 64), arrRow 1 32 (wRowsB.drop 64)], ?_⟩
    decide +kernel
  · refine ⟨0, 0, arrConfig, arrJobOf 0, { ArrJob.new (arrCommand 0 2 0 0 0) with ws := [opEntry 0x1100 128] }, arrCmd (arrCommand 0 2 0 0 0), opEntry 0x1000 32, [], ?_⟩
    decide +kernel
  · refine ⟨0, 0, arrConfig, arrJobOf 0, { ArrJob.new (arrCommand 0 2 0 0 0) with ws := [opEntry 0x1100 128] }, arrCmd (arrCommand 0 2 0 0 0), opEntry 0x1000 64, [], [arrRow 1 32 (wRowsB.take 64), arrRow 1 32 (wRowsB.drop 64)], ?_⟩
    decide +kernel
  · refine ⟨0, 0, arrConfig, arrJobOf 0, { ArrJob.new (arrCommand 0 2 0 0 0) with ws := [opEntry 0x1100 128] }, arrCmd (arrCommand 0 2 0 0 0), opEntry (arrayStagingAddr 0 0 0) 64, [], { event := { code := 0x0511, severity := 5 }, arrival := 0, subsumed := false }, ?_⟩
    decide +kernel
  · refine ⟨0, 0, arrConfig, arrJobOf 0, { ArrJob.new (arrCommand 0 2 0 0 0) with ws := [opEntry 0x1100 128] }, arrCmd (arrCommand 0 2 0 0 0), opEntry 0x1000 64, [], { event := { code := 0x0511, severity := 5 }, arrival := 0, subsumed := false }, ?_⟩
    decide +kernel
  · refine ⟨0, 0, arrConfig, arrJobOf 1, { ArrJob.new (arrCommand 1 2 0 1 0) with ws := [opEntry 0x1100 128], as := [opEntry 0x1000 64], sides := [opEntry 0x1200 128, opEntry 0x1300 136], acc := [[0, 0]] }, arrCmd (arrCommand 1 2 0 1 0), opEntry 0x1200 128, opEntry 0x1300 136, [arrRow 1 32 (wRowsB.take 64), arrRow 1 32 (wRowsB.drop 64)], [selResult aResult], [(0, 0, 0)], ?_⟩
    decide +kernel
  · refine ⟨0, 0, arrConfig, arrJobOf 2, { ArrJob.new (arrCommand 2 0 2 0 0) with as := [opEntry 0x1000 64, opEntry 0x1100 128] }, arrCmd (arrCommand 2 0 2 0 0), ?_⟩
    decide +kernel
  · refine ⟨0, 0, arrConfig, arrJobOf 3, { ArrJob.new (arrCommand 3 0 0 0 0x3000) with sides := [opEntry 0x1200 128], vdesc := aValueDesc, asked := true }, arrCmd (arrCommand 3 0 0 0 0x3000), opEntry 0x1200 128, selResult aResult, tensorFrom aValueDesc [], [some (u32 0x40000000 ++ u32 0x40400000)], ?_⟩
    decide +kernel
  · refine ⟨0, 0, arrConfig, arrJobOf 3, { ArrJob.new (arrCommand 3 0 0 0 0x3000) with sides := [opEntry 0x1200 128], vdesc := aValueDesc }, arrCmd (arrCommand 3 0 0 0 0x3000), opEntry 0x1200 128, selResult aResult, tensorFrom aValueDesc [], [.fetch 0x3100 8 (tileKey 0 0 0 0x3100)], ?_⟩
    decide +kernel
  · refine ⟨0, 0, arrConfig, arrJobOf 0, { ArrJob.new (arrCommand 0 2 0 0 0) with out := [u32 5 ++ u32 6], cols := 2, done := true }, u32 5 ++ u32 6, 0x2000, [0x2200], ?_⟩
    decide +kernel

theorem wit_ArrayFaults :
    (∃ (die : Fin 4) (k : Fin 8) (h : ErrEntry), (fun (d : Device) => d.runs ∧ d.regsWf ∧ (d.errq die.val).depth < 64 ∧ (d.errq die.val).handling = some h ∧ 3 ≤ h.event.severity ∧ d.tagsIn (placeLoc die.val (.station die 0 ⟨k.val, by omega⟩)) = []) (ready.setErrq 0 { ErrQueue.empty with handling := some { event := { code := 0x0511, severity := 5 }, arrival := 0, subsumed := false } })) ∧
    (∃ (die : Fin 4) (k : Fin 8) (h : ErrEntry) (tag i : Nat) (t : Task), (fun (d : Device) => d.runs ∧ d.tagsIn (placeLoc die.val (.station die 0 ⟨k.val, by omega⟩)) = [tag] ∧ d.findTask tag = some (i, t) ∧ t.state = .open ∧ t.aborting = false ∧ (d.errq die.val).depth < 64 ∧ (d.errq die.val).handling = some h ∧ 3 ≤ h.event.severity) ((arraying 0 (arrCommand 0 2 0 0 0) id).setErrq 0 { ErrQueue.empty with handling := some { event := { code := 0x0511, severity := 5 }, arrival := 0, subsumed := false } })) ∧
    (∃ (die : Fin 4) (k : Fin 8), (fun (d : Device) => d.runs ∧ d.arrSelftest die.val k.val = true ∧ d.regsWf) (ready.beginSelftest 0 0)) ∧
    (∃ (die : Fin 4) (k : Fin 8) (h : ErrEntry), (fun (d : Device) => d.runs ∧ d.arrSelftest die.val k.val = true ∧ d.regsWf ∧ (d.errq die.val).depth < 64 ∧ (d.errq die.val).handling = some h ∧ 4 ≤ h.event.severity) ((ready.beginSelftest 0 0).setErrq 0 { ErrQueue.empty with handling := some { event := { code := 0x0511, severity := 5 }, arrival := 0, subsumed := false } })) ∧
    (∃ (die : Fin 4) (k : Fin 8), (fun (d : Device) => d.runs ∧ d.arrSelftest die.val k.val = true ∧ d.regsWf ∧ (d.errq die.val).depth < 64 ∧ (d.errq die.val).handling = none ∧ d.fault.fmap.length < 2044) (ready.beginSelftest 1 2)) ∧
    (∃ (die : Fin 4) (mask : BitVec 8), (fun (d : Device) => d.runs ∧ (onesBelow 8 mask.toNat).any (fun k => (d.stationCfg die.val 0 k).isSome) = true) (arrPlan)) ∧
    (∃ (die : Fin 4) (mask : BitVec 8), (fun (d : Device) => d.runs ∧ (onesBelow 8 mask.toNat).any (fun k => (d.stationCfg die.val 0 k).isSome) = false ∧ d.regsWf) (arrPlan)) := by
  refine ⟨?_, ?_, ?_, ?_, ?_, ?_, ?_⟩
  · refine ⟨0, 0, { event := { code := 0x0511, severity := 5 }, arrival := 0, subsumed := false }, ?_⟩
    decide +kernel
  · refine ⟨0, 0, { event := { code := 0x0511, severity := 5 }, arrival := 0, subsumed := false }, 5, 0, aTask id, ?_⟩
    decide +kernel
  · refine ⟨0, 0, ?_⟩
    decide +kernel
  · refine ⟨0, 0, { event := { code := 0x0511, severity := 5 }, arrival := 0, subsumed := false }, ?_⟩
    decide +kernel
  · refine ⟨1, 2, ?_⟩
    decide +kernel
  · refine ⟨0, 1, ?_⟩
    decide +kernel
  · refine ⟨0, 6, ?_⟩
    decide +kernel

theorem wit_LinkLayer :
    (∃ (p : Fin 8) (v : Word), 32 ≤ v.toNat ∧ (fun (d : Device) => d.runs) (ready)) ∧
    (∃ (p : Fin 8) (v : Word), v.toNat < 32 ∧ (fun (d : Device) => d.runs ∧ d.fld (Reg.PORT_CTRL p.val) Fd.PORT_CTRL_ENABLE = 1 ∧ d.fld (Reg.PORT_CTRL p.val) Fd.PORT_CTRL_MODE ≠ bitsOf v.toNat 1 1) (linked)) ∧
    (∃ (p : Fin 8) (v : Word), v.toNat < 32 ∧ v.toNat.testBit 1 = false ∧ 4 ≤ v.toNat ∧ (fun (d : Device) => d.runs) (ready)) ∧
    (∃ (p : Fin 8) (v : Word), v.toNat < 32 ∧ (bitsOf v.toNat 1 1 = 1 ∨ v.toNat < 4) ∧ (fun (d : Device) => d.runs ∧ d.regsWf ∧ (d.fld (Reg.PORT_CTRL p.val) Fd.PORT_CTRL_ENABLE = 0 ∨ d.fld (Reg.PORT_CTRL p.val) Fd.PORT_CTRL_MODE = bitsOf v.toNat 1 1)) (ready)) ∧
    (∃ (p : Fin 8) (delay : Nat), (fun (d : Device) => d.runs ∧ d.regsWf ∧ d.packageContained = false ∧ d.fld (Reg.PORT_CTRL p.val) Fd.PORT_CTRL_ENABLE = 1 ∧ d.portUp p.val = false) (ready.setReg (Reg.PORT_CTRL 0) 1)) ∧
    (∃ (p : Fin 8) (t : Nat) (b : List Byte), (fun (d : Device) => d.runs ∧ d.packageContained = false ∧ d.portAlanauri p.val = true ∧ d.portUp p.val = true ∧ flitOf b = none ∧ d.regsWf) (linked)) ∧
    (∃ (p : Fin 8) (t : Nat) (b : List Byte) (f : Flit), (fun (d : Device) => d.runs ∧ d.packageContained = false ∧ d.portAlanauri p.val = true ∧ d.portUp p.val = true ∧ flitOf b = some f ∧ f.type = 1 ∧ f.seq ≠ ((d.portUnit p.val).rxSeq + 1) % 4096) (linkPort (fun u => { u with rxSeq := 7, queue := [aFlit] }))) ∧
    (∃ (p : Fin 8) (t : Nat) (b : List Byte) (f : Flit) (m : LinkMsg) (more : List Byte), (fun (d : Device) => d.runs ∧ d.packageContained = false ∧ d.portAlanauri p.val = true ∧ d.portUp p.val = true ∧ flitOf b = some f ∧ f.type = 1 ∧ f.seq = ((d.portUnit p.val).rxSeq + 1) % 4096 ∧
      parseMessages ((((d.portUnit p.val).rxBytes.getD f.vc [] ++ f.payload).length) / 16 + 1) ((d.portUnit p.val).rxBytes.getD f.vc [] ++ f.payload) = ([(m, true)], more) ∧ m.hops ≤ 4 ∧ m.dst = d.memberId ∧
      d.memberLost m.src = false ∧ seqGe m.pseq (d.rxNext m) = true ∧ (∀ r ∈ d.link.rx, ¬ (r.msg.src = m.src ∧ vcOf r.msg.mtype = vcOf m.mtype ∧ r.msg.pseq = m.pseq))) (linked)) ∧
    (∃ (p : Fin 8) (t : Nat) (b : List Byte) (f : Flit) (r1 r2 : List (Nat × Nat × TxFlit)) (sent : Nat) (x : TxFlit), (fun (d : Device) => d.runs ∧ d.packageContained = false ∧ d.portAlanauri p.val = true ∧ d.portUp p.val = true ∧ flitOf b = some f ∧ f.type ≠ 3 ∧ (f.type = 1 → f.seq = ((d.portUnit p.val).rxSeq + 1) % 4096) ∧
      (d.portUnit p.val).retry = r1 ++ (f.ackSeq, sent, x) :: r2 ∧ (∀ y ∈ r1, y.1 ≠ f.ackSeq) ∧ (d.portUnit p.val).queue = []) (linkPort (fun u => { u with retry := [(4095, 90, aFlit), (0, 100, aFlit), (1, 110, aFlit)] }))) ∧
    (∃ (p : Fin 8) (r : Nat × Nat × TxFlit) (more : List (Nat × Nat × TxFlit)), (fun (d : Device) => d.runs ∧ d.packageContained = false ∧ d.portUp p.val = true ∧ (d.portUnit p.val).retry = r :: more ∧ d.regsWf) (linkPort (fun u => { u with retry := [(0, 100, aFlit)] }))) ∧
    (∃ (p : Fin 8), (fun (d : Device) => d.runs ∧ d.portAlanauri p.val = true ∧ d.portUp p.val = true ∧ d.regsWf) (linkPort (fun u => { u with retry := [(0, 100, { aFlit with payload := (linkBytes aFlit.msg ++ zeros 240).take 240 })] }))) ∧
    (∃ (p : Fin 8) (residence : Nat) (r : RxMsg) (q : Nat), (fun (d : Device) => d.runs ∧ d.link.rx.find? (fun r => r.port = p.val && r.msg.dst != d.memberId) = some r ∧ r.msg.mtype ≠ 0x02 ∧ d.routePort r.msg.dst = some q ∧ d.packageContained = false) (received { rxOf 0x09 1 (zeros 20) [] with port := 1 })) := by
  refine ⟨?_, ?_, ?_, ?_, ?_, ?_, ?_, ?_, ?_, ?_, ?_, ?_⟩
  · refine ⟨0, 32, ?_⟩
    decide +kernel
  · refine ⟨0, 3, ?_⟩
    decide +kernel
  · refine ⟨0, 5, ?_⟩
    decide +kernel
  · refine ⟨0, 0x1F, ?_⟩
    decide +kernel
  · refine ⟨0, 40, ?_⟩
    decide +kernel
  · refine ⟨0, 50, [], ?_⟩
    decide +kernel
  · refine ⟨0, 50, keepBytes, keepFlit0, ?_⟩
    refine ⟨?_, ?_, ?_, ?_, keep_flit, ?_⟩ <;> decide +kernel
  · refine ⟨0, 50, keepBytes, keepFlit0, (rxOf 1 0 (zeros 20) []).msg, [], ?_⟩
    refine ⟨?_, ?_, ?_, ?_, keep_flit, ?_⟩ <;> decide +kernel
  · refine ⟨0, 50, keepBytes, keepFlit0, [(4095, 90, aFlit)], [(1, 110, aFlit)], 100, aFlit, ?_⟩
    refine ⟨?_, ?_, ?_, ?_, keep_flit, ?_⟩ <;> decide +kernel
  · refine ⟨0, (0, 100, aFlit), [], ?_⟩
    decide +kernel
  · refine ⟨0, ?_⟩
    decide +kernel
  · refine ⟨1, 0, { rxOf 0x09 1 (zeros 20) [] with port := 1 }, 0, ?_⟩
    decide +kernel

theorem wit_ColumnGroup :
    (∃ (p : Fin 8) (r : RxMsg), (fun (d : Device) => d.runs ∧ d.nextMessage p.val 0x01 = some r ∧ d.groupEnabled = true ∧ leAt r.msg.fields 4 4 = 0 ∧ r.msg.src < 32 ∧ d.regsWf) ((received (rxOf 1 0 (zeros 20) [])).setReg Reg.GROUP_PRESENT 1)) ∧
    (∃ (p : Fin 8) (r : RxMsg) (m : Fin 32), (fun (d : Device) => d.runs ∧ d.nextMessage p.val 0x01 = some r ∧ d.groupEnabled = true ∧ leAt r.msg.fields 4 4 = 2 ^ m.val ∧ d.memberLost m.val = false ∧ r.msg.src < 32 ∧ d.regsWf) (received (rxOf 1 0 (zeros 4 ++ u32 4 ++ zeros 12) []))) ∧
    (∃ (m q : Nat), (fun (d : Device) => d.runs ∧ d.groupEnabled = true ∧ d.packageContained = false ∧ m < 32 ∧ m ≠ d.memberId ∧ d.routePort m = some q) (grouped)) ∧
    (∃ (m : Fin 32), (fun (d : Device) => d.runs ∧ d.groupEnabled = true ∧ bitAt (d.reg Reg.GROUP_PRESENT).toNat m.val = true ∧ m.val ≠ d.memberId ∧ d.regsWf) (grouped)) ∧
    (∃ (p : Fin 8) (r : RxMsg), (fun (d : Device) => d.runs ∧ d.nextMessage p.val 0x02 = some r ∧ d.fld Reg.CAD_CTRL Fd.CAD_CTRL_LINK_PORT ≠ p.val) (received { rxOf 2 0 (zeros 20) [] with port := 1 })) ∧
    (∃ (p : Fin 8) (r : RxMsg), (fun (d : Device) => d.runs ∧ d.nextMessage p.val 0x02 = some r ∧ d.fld Reg.CAD_CTRL Fd.CAD_CTRL_LINK_PORT = p.val) (received { rxOf 2 0 (zeros 20) [] with time := 900 })) ∧
    (∃ (p : Fin 8) (r : RxMsg), (fun (d : Device) => d.runs ∧ d.nextMessage p.val 0x03 = some r ∧ leAt r.msg.fields 0 4 < 2 ^ 18) (received (rxOf 3 0 (u32 9 ++ u32 2 ++ zeros 12) []))) ∧
    (∃ (v : Word), 2 ^ 12 ≤ v.toNat ∧ (fun (d : Device) => d.runs) (ready)) ∧
    (∃ (v : Word), v.toNat < 2 ^ 12 ∧ (fun (d : Device) => d.runs ∧ 1 < d.groupSize ∧ bitsOf v.toNat 1 5 ≠ d.memberId) (ready.updPlan (fun p => { p with active := some { aPlan with image := zeros 0x1C ++ [2, 2] ++ zeros 0x1E2 } }))) ∧
    (∃ (v : Word), v.toNat < 2 ^ 12 ∧ (fun (d : Device) => d.runs ∧ d.groupSize = 1 ∧ d.regsWf) (ready)) ∧
    (∃ (m : Fin 32) (v : Word), 256 ≤ v.toNat ∧ (fun (d : Device) => d.runs) (ready)) ∧
    (∃ (m : Fin 32) (v : Word), v.toNat < 256 ∧ bitsOf v.toNat 3 1 = 1 ∧ (fun (d : Device) => d.runs ∧ d.portAlanauri (bitsOf v.toNat 0 3) = false) (linked)) ∧
    (∃ (m : Fin 32) (v : Word), v.toNat < 256 ∧ (fun (d : Device) => d.runs ∧ d.portAlanauri (bitsOf v.toNat 0 3) = true ∧ d.portAlanauri (bitsOf v.toNat 4 3) = true ∧ d.regsWf) (linked)) := by
  refine ⟨?_, ?_, ?_, ?_, ?_, ?_, ?_, ?_, ?_, ?_, ?_, ?_, ?_⟩
  · refine ⟨0, rxOf 1 0 (zeros 20) [], ?_⟩
    decide +kernel
  · refine ⟨0, rxOf 1 0 (zeros 4 ++ u32 4 ++ zeros 12) [], 2, ?_⟩
    decide +kernel
  · refine ⟨1, 0, ?_⟩
    decide +kernel
  · refine ⟨1, ?_⟩
    decide +kernel
  · refine ⟨1, { rxOf 2 0 (zeros 20) [] with port := 1 }, ?_⟩
    decide +kernel
  · refine ⟨0, { rxOf 2 0 (zeros 20) [] with time := 900 }, ?_⟩
    decide +kernel
  · refine ⟨0, rxOf 3 0 (u32 9 ++ u32 2 ++ zeros 12) [], ?_⟩
    decide +kernel
  · refine ⟨0x1000, ?_⟩
    decide +kernel
  · refine ⟨3, ?_⟩
    decide +kernel
  · refine ⟨5, ?_⟩
    decide +kernel
  · refine ⟨1, 256, ?_⟩
    decide +kernel
  · refine ⟨1, 9, ?_⟩
    decide +kernel
  · refine ⟨1, 8, ?_⟩
    decide +kernel

theorem wit_TraverseJobs :
    (∃ (die k : Fin 4) (cfg : List Byte) (e : LiftEntry) (rest : List LiftEntry), (fun (d : Device) => d.runs ∧ d.oneHead die.val 7 k.val (4096 * die.val + travCmdLift cfg) cfg e rest ∧ d.inputsPoisoned [e] = false ∧ leAt (d.handleData e) 0 1 = 0 ∧ (travCmd (d.handleData e)).fieldsOk = false ∧ d.regsWf ∧
      Map.rising d.stn.jobs = true ∧ Map.rising d.link.trav = true) (travWaiting (u8 0 ++ u8 1 ++ zeros 254))) ∧
    (∃ (die k : Fin 4) (cfg : List Byte) (e : LiftEntry) (rest : List LiftEntry), (fun (d : Device) => d.runs ∧ d.oneHead die.val 7 k.val (4096 * die.val + travCmdLift cfg) cfg e rest ∧ d.inputsPoisoned [e] = false ∧ leAt (d.handleData e) 0 1 = 1 ∧ (travCmd (d.handleData e)).fieldsOk = false ∧ d.regsWf ∧
      Map.rising d.stn.jobs = true ∧ Map.rising d.link.trav = true) (travWaiting (u8 1 ++ u8 1 ++ zeros 254))) ∧
    (∃ (die k : Fin 4) (cfg : List Byte) (e : LiftEntry) (rest : List LiftEntry), (fun (d : Device) => d.runs ∧ d.oneHead die.val 7 k.val (4096 * die.val + travCmdLift cfg) cfg e rest ∧ d.inputsPoisoned [e] = false ∧ leAt (d.handleData e) 0 1 = 2 ∧ (travCmd (d.handleData e)).fieldsOk = false ∧ d.regsWf ∧
      Map.rising d.stn.jobs = true ∧ Map.rising d.link.trav = true) (travWaiting (u8 2 ++ u8 1 ++ zeros 254))) ∧
    (∃ (die k : Fin 4) (cfg : List Byte) (j : Job) (t : TravJob) (sm : ShardMap) (dm : ShardMap) (y : Tensor) (ws : List TileWrite) (w : StagedWrite) (i : Nat) (u : Task), (fun (d : Device) => d.runs ∧ d.stationCfg die.val 7 k.val = some cfg ∧ d.stationStopped die.val 7 k.val = false ∧ d.job (travKey die.val k.val) = some j ∧ j.mode = 0 ∧ d.taskGone j.tag = false ∧ d.link.trav.get? (travKey die.val k.val) = some t ∧ d.shardMap die.val (travCmd t.cmd).srcMap = some sm ∧ t.asked = true ∧ t.sent = true ∧ t.staged = false ∧ d.quiet (travStream die.val k.val 0) = true ∧ d.quiet (travStream die.val k.val 1) = true ∧ d.shardMap die.val (travCmd t.cmd).dstMap = some dm ∧
      (dm.part d.memberId).empty = false ∧ travComplete t sm (dm.part d.memberId) d.groupSize = true ∧ tensorFrom (travCmd t.cmd).dst t.comps = y ∧
      y.desc.indexed = false ∧ y.idx = none ∧ (y.drainWrites (d.stream (travStream die.val k.val 1)).tile 0 ((List.range y.viewRows).map (y.travRow t (travCmd t.cmd) (dm.part d.memberId) sm.cols d.groupSize))).1 = ws ∧
      (d.reachWrites die.val j.tag y.desc.combine ws).1 = .inl [.stage w] ∧ (d.reachWrites die.val j.tag y.desc.combine ws).2 = d ∧
      d.accessCheck w.addr w.data.length true = none ∧ d.provisional (travStream die.val k.val 1) = false ∧ (d.stream (travStream die.val k.val 1)).tag = j.tag ∧ d.findTask j.tag = some (i, u) ∧ w.die = die.val ∧
      d.stagingUsed die.val + w.data.length / 64 + 2 ≤ d.stagingCapacity die.val) ((traversing 0 (travCommand 0 1 1) travTask (fun t => { t with recv := [(0, 0x3F800000), (1, 0x40000000), (2 ^ 64, 7), (2 ^ 64 + 1, 8)] })).setStream (travStream 0 0 1) { Stream.idle with state := .armed, tag := 5 })) ∧
    (∃ (die k : Fin 4) (cfg : List Byte) (j : Job) (t : TravJob) (sm : ShardMap) (dm : ShardMap) (y : Tensor) (ws : List TileWrite) (w : StagedWrite) (i : Nat) (u : Task), (fun (d : Device) => d.runs ∧ d.stationCfg die.val 7 k.val = some cfg ∧ d.stationStopped die.val 7 k.val = false ∧ d.job (travKey die.val k.val) = some j ∧ j.mode = 1 ∧ d.taskGone j.tag = false ∧ d.link.trav.get? (travKey die.val k.val) = some t ∧ d.shardMap die.val (travCmd t.cmd).srcMap = some sm ∧ t.asked = true ∧ t.sent = true ∧ t.staged = false ∧ d.quiet (travStream die.val k.val 0) = true ∧ d.quiet (travStream die.val k.val 1) = true ∧ d.shardMap die.val (travCmd t.cmd).dstMap = some dm ∧
      (dm.part d.memberId).empty = false ∧ travComplete t sm (dm.part d.memberId) d.groupSize = true ∧ tensorFrom (travCmd t.cmd).dst t.comps = y ∧
      y.desc.indexed = false ∧ y.idx = none ∧ (y.drainWrites (d.stream (travStream die.val k.val 1)).tile 0 ((List.range y.viewRows).map (y.travRow t (travCmd t.cmd) (dm.part d.memberId) sm.cols d.groupSize))).1 = ws ∧
      (d.reachWrites die.val j.tag y.desc.combine ws).1 = .inl [.stage w] ∧ (d.reachWrites die.val j.tag y.desc.combine ws).2 = d ∧
      d.accessCheck w.addr w.data.length true = none ∧ d.provisional (travStream die.val k.val 1) = false ∧ (d.stream (travStream die.val k.val 1)).tag = j.tag ∧ d.findTask j.tag = some (i, u) ∧ w.die = die.val ∧
      d.stagingUsed die.val + w.data.length / 64 + 2 ≤ d.stagingCapacity die.val) ((traversing 1 (travCommand 1 2 1) travTask (fun t => { t with recv := [(0, 0x3F800000), (1, 0x40000000), (2 ^ 64, 0x3F800000), (2 ^ 64 + 1, 0x40000000)] })).setStream (travStream 0 0 1) { Stream.idle with state := .armed, tag := 5 })) ∧
    (∃ (die k : Fin 4) (cfg : List Byte) (j : Job) (t : TravJob) (sm : ShardMap) (dm : ShardMap), (fun (d : Device) => d.runs ∧ d.stationCfg die.val 7 k.val = some cfg ∧ d.stationStopped die.val 7 k.val = false ∧ d.job (travKey die.val k.val) = some j ∧ j.mode = 0 ∧ d.taskGone j.tag = false ∧ d.link.trav.get? (travKey die.val k.val) = some t ∧ d.shardMap die.val (travCmd t.cmd).srcMap = some sm ∧ t.asked = true ∧ t.sent = true ∧ t.staged = true ∧ d.quiet (travStream die.val k.val 0) = true ∧ d.quiet (travStream die.val k.val 1) = true ∧ d.shardMap die.val (travCmd t.cmd).dstMap = some dm ∧
      travComplete t sm (dm.part d.memberId) d.groupSize = true ∧ travDoneLift cfg = 0xFFFF ∧ Map.rising d.stn.jobs = true ∧ Map.rising d.link.trav = true) (traversing 0 (travCommand 0 1 1) travTask (fun t => { t with staged := true, recv := [(0, 0x3F800000), (1, 0x40000000), (2 ^ 64, 7), (2 ^ 64 + 1, 8)] }))) ∧
    (∃ (die k : Fin 4) (cfg : List Byte) (j : Job) (t : TravJob) (sm : ShardMap) (dm : ShardMap), (fun (d : Device) => d.runs ∧ d.stationCfg die.val 7 k.val = some cfg ∧ d.stationStopped die.val 7 k.val = false ∧ d.job (travKey die.val k.val) = some j ∧ j.mode = 1 ∧ d.taskGone j.tag = false ∧ d.link.trav.get? (travKey die.val k.val) = some t ∧ d.shardMap die.val (travCmd t.cmd).srcMap = some sm ∧ t.asked = true ∧ t.sent = true ∧ t.staged = true ∧ d.quiet (travStream die.val k.val 0) = true ∧ d.quiet (travStream die.val k.val 1) = true ∧ d.shardMap die.val (travCmd t.cmd).dstMap = some dm ∧
      travComplete t sm (dm.part d.memberId) d.groupSize = true ∧ travDoneLift cfg = 0xFFFF ∧ Map.rising d.stn.jobs = true ∧ Map.rising d.link.trav = true) (traversing 1 (travCommand 1 2 1) travTask (fun t => { t with staged := true, recv := [(0, 0x3F800000), (1, 0x40000000), (2 ^ 64, 0x3F800000), (2 ^ 64 + 1, 0x40000000)] }))) ∧
    (∃ (die k : Fin 4) (cfg : List Byte) (j : Job) (t : TravJob) (sm : ShardMap) (x : Tensor) (data : List Byte) (i : Nat) (u : Task), (fun (d : Device) => d.runs ∧ d.stationCfg die.val 7 k.val = some cfg ∧ d.stationStopped die.val 7 k.val = false ∧ d.job (travKey die.val k.val) = some j ∧ j.mode = 2 ∧ d.taskGone j.tag = false ∧ d.link.trav.get? (travKey die.val k.val) = some t ∧ d.shardMap die.val (travCmd t.cmd).srcMap = some sm ∧ t.asked = true ∧ t.sent = false ∧ d.quiet (travStream die.val k.val 0) = true ∧ (sm.part d.memberId).empty = false ∧ tensorFrom (travCmd t.cmd).src t.comps = x ∧
      ((List.range x.viewRows).map (fun r => x.assemble (d.stream (travStream die.val k.val 0)).tile (x.window r) r)).flatten = data ∧ d.findTask j.tag = some (i, u) ∧
      d.stagingUsed die.val + ceilDiv data.length 64 ≤ d.stagingCapacity die.val ∧ travDoneLift cfg = 0xFFFF ∧ Map.rising d.stn.jobs = true ∧ Map.rising d.link.trav = true) ((traversing 2 (travCommand 2 1 0) (aTask id) (fun t => { t with sent := false })).setStream (travStream 0 0 0) { Stream.idle with tile := [(tileKey 0 0 0 0x3000, u32 0x3F800000 ++ u32 0x40000000)] })) := by
  refine ⟨?_, ?_, ?_, ?_, ?_, ?_, ?_, ?_⟩
  · refine ⟨0, 0, travConfig, opEntry 0x5000 256, [], ?_⟩
    decide +kernel
  · refine ⟨0, 0, travConfig, opEntry 0x5000 256, [], ?_⟩
    decide +kernel
  · refine ⟨0, 0, travConfig, opEntry 0x5000 256, [], ?_⟩
    decide +kernel
  · refine ⟨0, 0, travConfig, { arrJobOf 0 with inputs := [opEntry 0x5000 256] }, { cmd := travCommand 0 1 1, comps := [], asked := true, sent := true, staged := false, recv := [(0, 0x3F800000), (1, 0x40000000), (2 ^ 64, 7), (2 ^ 64 + 1, 8)] }, ⟨1, 2, 1, 2, []⟩, ⟨1, 2, 1, 2, []⟩, ⟨descOf (partDesc 0x10000 0x20), none, none⟩, [{ region := 2, addr := 0x10000, data := u32 0x3F800000 ++ u32 0x40000000, order := 0, step := 1, elem := 0 }], { die := 0, addr := 0x10000, data := u32 0x3F800000 ++ u32 0x40000000, combine := none, order := 0, step := 1 }, 0, travTask, ?_⟩
    decide +kernel
  · refine ⟨0, 0, travConfig, { arrJobOf 1 with inputs := [opEntry 0x5000 256] }, { cmd := travCommand 1 2 1, comps := [], asked := true, sent := true, staged := false, recv := [(0, 0x3F800000), (1, 0x40000000), (2 ^ 64, 0x3F800000), (2 ^ 64 + 1, 0x40000000)] }, ⟨2, 3, 1, 2, []⟩, ⟨1, 2, 1, 2, []⟩, ⟨descOf (partDesc 0x10000 0x20), none, none⟩, [{ region := 2, addr := 0x10000, data := u32 0x40000000 ++ u32 0x40800000, order := 0, step := 1, elem := 0 }], { die := 0, addr := 0x10000, data := u32 0x40000000 ++ u32 0x40800000, combine := none, order := 0, step := 1 }, 0, travTask, ?_⟩
    decide +kernel
  · refine ⟨0, 0, travConfig, { arrJobOf 0 with inputs := [opEntry 0x5000 256] }, { cmd := travCommand 0 1 1, comps := [], asked := true, sent := true, staged := true, recv := [(0, 0x3F800000), (1, 0x40000000), (2 ^ 64, 7), (2 ^ 64 + 1, 8)] }, ⟨1, 2, 1, 2, []⟩, ⟨1, 2, 1, 2, []⟩, ?_⟩
    decide +kernel
  · refine ⟨0, 0, travConfig, { arrJobOf 1 with inputs := [opEntry 0x5000 256] }, { cmd := travCommand 1 2 1, comps := [], asked := true, sent := true, staged := true, recv := [(0, 0x3F800000), (1, 0x40000000), (2 ^ 64, 0x3F800000), (2 ^ 64 + 1, 0x40000000)] }, ⟨2, 3, 1, 2, []⟩, ⟨1, 2, 1, 2, []⟩, ?_⟩
    decide +kernel
  · refine ⟨0, 0, travConfig, { arrJobOf 2 with inputs := [opEntry 0x5000 256] }, { cmd := travCommand 2 1 0, comps := [], asked := true, sent := false, staged := false, recv := [] }, ⟨1, 2, 1, 2, []⟩, ⟨descOf (partDesc 0x3000 0), none, none⟩, u32 0x3F800000 ++ u32 0x40000000, 0, aTask id, ?_⟩
    decide +kernel

theorem wit_PeersAndExchanges :
    (∃ (p : Fin 8) (r : RxMsg), (fun (d : Device) => d.runs ∧ d.nextMessage p.val 0x09 = some r ∧ r.msg.payload ≠ [] ∧ d.localRange (leAt r.msg.fields 0 8) r.msg.payload.length = true ∧ Memory.wf d.mem = true) (received (rxOf 9 0 (u64 0x4000 ++ zeros 12) [1, 2, 3]))) ∧
    (∃ (p : Fin 8) (r : RxMsg), (fun (d : Device) => d.runs ∧ d.nextMessage p.val 0x09 = some r ∧ (r.msg.payload = [] ∨ d.localRange (leAt r.msg.fields 0 8) r.msg.payload.length = false) ∧ d.fault.inputQ.length < 224 ∧ d.regsWf) (received (rxOf 9 0 (u64 0xFFFFFFFFFFFF ++ zeros 12) [1, 2, 3]))) ∧
    (∃ (p : Fin 8) (r : RxMsg) (a n q : Nat), (fun (d : Device) => d.runs ∧ d.nextMessage p.val 0x0A = some r ∧ leAt r.msg.fields 0 8 = a ∧ leAt r.msg.fields 8 4 = n ∧ 1 ≤ n ∧ n ≤ 4096 ∧ d.localRange a n = true ∧ d.poisoned a n = false ∧ d.packageContained = false ∧ d.routePort r.msg.src = some q) (received (rxOf 10 0 (u64 0x4000 ++ u32 4 ++ u32 3 ++ zeros 4) []))) ∧
    (∃ (p : Fin 8) (r : RxMsg) (a n q : Nat), (fun (d : Device) => d.runs ∧ d.nextMessage p.val 0x0A = some r ∧ leAt r.msg.fields 0 8 = a ∧ leAt r.msg.fields 8 4 = n ∧ (n = 0 ∨ 4096 < n ∨ d.localRange a n = false ∨ d.poisoned a n = true) ∧ d.packageContained = false ∧ d.routePort r.msg.src = some q) (received (rxOf 10 0 (u64 0xFFFFFFFFFFFF ++ u32 4 ++ u32 3 ++ zeros 4) []))) ∧
    (∃ (p : Fin 8) (r : RxMsg) (x : ExtRead), (fun (d : Device) => d.runs ∧ d.nextMessage p.val 0x0B = some r ∧ d.str.extReads.find? (fun x => x.peer && x.id = leAt r.msg.fields 12 4) = some x ∧ leAt r.msg.fields 16 1 = 0 ∧ r.msg.payload.length = x.len ∧ x.dst < tileBase ∧ x.stream ≠ planStoreStream ∧ x.stream ≠ commitStream ∧ Memory.wf d.mem = true) ((received (rxOf 11 0 (zeros 12 ++ u32 3 ++ zeros 4) [7, 8])).updStr (fun u => { u with extReads := [⟨3, 0, 5, 0x10_0000, 0x4000, 2, true⟩] }))) ∧
    (∃ (p : Fin 8) (r : RxMsg) (x : ExtRead), (fun (d : Device) => d.runs ∧ d.nextMessage p.val 0x0B = some r ∧ d.str.extReads.find? (fun x => x.peer && x.id = leAt r.msg.fields 12 4) = some x ∧ leAt r.msg.fields 16 1 = 1 ∧ d.streamRec x.stream = none ∧ x.stream ≠ planStoreStream ∧ x.stream ≠ commitStream) ((received (rxOf 11 0 (zeros 12 ++ u32 3 ++ u8 1 ++ zeros 3) [])).updStr (fun u => { u with extReads := [⟨3, 0, 5, 0x10_0000, 0x4000, 2, true⟩], tasks := [(0, aTask id)] }))) ∧
    (∃ (p : Fin 8) (r : RxMsg) (key : Nat) (t : TravJob), (fun (d : Device) => d.runs ∧ d.nextMessage p.val 0x08 = some r ∧ d.exchRoom r.msg = true ∧ (d.takeRx p.val 8 (fun r => d.exchRoom r.msg)).map (·.1) = some r ∧ d.exchJob (msgStage r.msg) (msgExch r.msg) = some (key, t) ∧ leAt r.msg.fields 1 1 = (travCmd t.cmd).op ∧
      leAt r.msg.fields 2 1 = (travCmd t.cmd).srcMap ∧ leAt r.msg.fields 3 1 = (travCmd t.cmd).dstMap ∧ leAt r.msg.fields 16 1 = (descOf (travCmd t.cmd).src).elem) (travGot (rxOf 8 0 (u8 0 ++ u8 1 ++ u8 2 ++ u8 1 ++ u32 9 ++ u64 0 ++ u8 0 ++ zeros 3) (u32 5 ++ u32 6)) (traversing 1 (travCommand 1 2 1) travTask id))) ∧
    (∃ (p : Fin 8) (r : RxMsg) (key : Nat) (t : TravJob) (j : Job), (fun (d : Device) => d.runs ∧ (d.takeRx p.val 8 (fun r => d.exchRoom r.msg)).map (·.1) = some r ∧ d.exchJob (msgStage r.msg) (msgExch r.msg) = some (key, t) ∧ leAt r.msg.fields 1 1 ≠ (travCmd t.cmd).op ∧ d.job key = some j) (travGot (rxOf 8 0 (u8 0 ++ u8 0 ++ u8 2 ++ u8 1 ++ u32 9 ++ zeros 12) []) (traversing 1 (travCommand 1 2 1) travTask id))) ∧
    (∃ (p : Fin 8) (r : RxMsg), (fun (d : Device) => d.runs ∧ (d.takeRx p.val 8 (fun r => d.exchRoom r.msg)).map (·.1) = some r ∧ d.exchJob (msgStage r.msg) (msgExch r.msg) = none ∧ d.unheard (msgStage r.msg) (msgExch r.msg) r.msg.src = none ∧ d.heldExch (msgStage r.msg) (msgExch r.msg) = none) (travGot (rxOf 8 0 (u8 0 ++ u8 1 ++ u8 2 ++ u8 1 ++ u32 9 ++ zeros 12) [1]) travPlan)) ∧
    (∃ (p : Fin 8) (r : RxMsg) (k : Nat) (t : Task), (fun (d : Device) => d.runs ∧ d.nextMessage p.val 0x04 = some r ∧ d.unheard (msgStage r.msg) (msgExch r.msg) r.msg.src = some (k, t) ∧ t.state = .open ∧ t.prepared = true ∧ t.aborting = false ∧ t.exch = [(r.msg.src, msgExch r.msg, false)]) (travGot (rxOf 4 0 (u32 0 ++ u32 9 ++ zeros 12) []) (travPlan.updStr (fun u => { u with tasks := [(0, { travTask with prepared := true })] })))) ∧
    (∃ (p : Fin 8) (r : RxMsg), (fun (d : Device) => d.runs ∧ d.nextMessage p.val 0x04 = some r ∧ d.unheard (msgStage r.msg) (msgExch r.msg) r.msg.src = none ∧ d.heldExch (msgStage r.msg) (msgExch r.msg) = none) (travGot (rxOf 4 0 (u32 0 ++ u32 9 ++ zeros 12) []) travPlan)) ∧
    (∃ (p : Fin 8) (r : RxMsg) (k : Nat) (t : Task), (fun (d : Device) => d.runs ∧ d.nextMessage p.val 0x05 = some r ∧ d.unheard (msgStage r.msg) (msgExch r.msg) r.msg.src = some (k, t) ∧ d.findTask t.tag = some (k, t) ∧ t.state = .open ∧ t.aborting = false) (travGot (rxOf 5 0 (u32 0 ++ u32 9 ++ zeros 12) []) (travPlan.updStr (fun u => { u with tasks := [(0, travTask)] })))) ∧
    (∃ (p : Fin 8) (r : RxMsg), (fun (d : Device) => d.runs ∧ d.nextMessage p.val 0x05 = some r ∧ d.str.tasks = []) (travGot (rxOf 5 0 (u32 0 ++ u32 9 ++ zeros 12) []) (travPlan.updStr (fun u => { u with tasks := [] })))) := by
  refine ⟨?_, ?_, ?_, ?_, ?_, ?_, ?_, ?_, ?_, ?_, ?_, ?_, ?_⟩
  · refine ⟨0, rxOf 9 0 (u64 0x4000 ++ zeros 12) [1, 2, 3], ?_⟩
    decide +kernel
  · refine ⟨0, rxOf 9 0 (u64 0xFFFFFFFFFFFF ++ zeros 12) [1, 2, 3], ?_⟩
    decide +kernel
  · refine ⟨0, rxOf 10 0 (u64 0x4000 ++ u32 4 ++ u32 3 ++ zeros 4) [], 0x4000, 4, 0, ?_⟩
    decide +kernel
  · refine ⟨0, rxOf 10 0 (u64 0xFFFFFFFFFFFF ++ u32 4 ++ u32 3 ++ zeros 4) [], 0xFFFFFFFFFFFF, 4, 0, ?_⟩
    decide +kernel
  · refine ⟨0, rxOf 11 0 (zeros 12 ++ u32 3 ++ zeros 4) [7, 8], ⟨3, 0, 5, 0x10_0000, 0x4000, 2, true⟩, ?_⟩
    decide +kernel
  · refine ⟨0, rxOf 11 0 (zeros 12 ++ u32 3 ++ u8 1 ++ zeros 3) [], ⟨3, 0, 5, 0x10_0000, 0x4000, 2, true⟩, ?_⟩
    decide +kernel
  · refine ⟨0, rxOf 8 0 (u8 0 ++ u8 1 ++ u8 2 ++ u8 1 ++ u32 9 ++ u64 0 ++ u8 0 ++ zeros 3) (u32 5 ++ u32 6), 448, { cmd := travCommand 1 2 1, comps := [], asked := true, sent := true, staged := false, recv := [] }, ?_⟩
    decide +kernel
  · refine ⟨0, rxOf 8 0 (u8 0 ++ u8 0 ++ u8 2 ++ u8 1 ++ u32 9 ++ zeros 12) [], 448, { cmd := travCommand 1 2 1, comps := [], asked := true, sent := true, staged := false, recv := [] }, { arrJobOf 1 with inputs := [opEntry 0x5000 256] }, ?_⟩
    decide +kernel
  · refine ⟨0, rxOf 8 0 (u8 0 ++ u8 1 ++ u8 2 ++ u8 1 ++ u32 9 ++ zeros 12) [1], ?_⟩
    decide +kernel
  · refine ⟨0, rxOf 4 0 (u32 0 ++ u32 9 ++ zeros 12) [], 0, { travTask with prepared := true }, ?_⟩
    decide +kernel
  · refine ⟨0, rxOf 4 0 (u32 0 ++ u32 9 ++ zeros 12) [], ?_⟩
    decide +kernel
  · refine ⟨0, rxOf 5 0 (u32 0 ++ u32 9 ++ zeros 12) [], 0, travTask, ?_⟩
    decide +kernel
  · refine ⟨0, rxOf 5 0 (u32 0 ++ u32 9 ++ zeros 12) [], ?_⟩
    decide +kernel

theorem wit_EthernetCommands :
    (∃ (m : MsgRef) (pl : List Byte), (fun (d : Device) => d.runs ∧ d.turn m 0x5000 (fun b => b = pl) = true ∧ d.canAnswer m ∧ d.ethPort (leAt pl 0 1) = true) (aQueue (etherDev) ⟨5, 7⟩ 0x5000 (((u8 0 ++ zeros 7 ++ u64 0x1234 ++ u32 9 ++ zeros 28))))) ∧
    (∃ (m : MsgRef) (pl : List Byte), (fun (d : Device) => d.runs ∧ d.turn m 0x5000 (fun b => b = pl) = true ∧ d.ethPort (leAt pl 0 1) = false) (aQueue (ready) ⟨5, 7⟩ 0x5000 (((zeros 48))))) ∧
    (∃ (m : MsgRef) (pl : List Byte) (q p : Nat), (fun (d : Device) => d.runs ∧ d.turn m 0x5001 (fun b => b = pl) = true ∧ d.canAnswer m ∧ leAt pl 0 2 = q ∧ q < 4096 ∧ leAt pl 2 1 = p ∧ leAt pl 3 1 < 4 ∧ leAt pl 4 4 < 2 ^ 24 ∧ leAt pl 32 4 < 2 ^ 24 ∧ leAt pl 36 4 < 2 ^ 24 ∧ leAt pl 40 1 < 3 ∧ leAt pl 41 1 < 4 ∧ leAt pl 42 2 < 4096 ∧
        leAt pl 44 2 < 1024 ∧ leAt pl 46 1 < 64 ∧ d.link.qps.get? q = none ∧ d.ethPort p = true ∧ d.fld (Reg.PORT_CTRL p) Fd.PORT_CTRL_ROCE_EN = 1) (aQueue (etherDev) ⟨5, 7⟩ 0x5001 (((u16 3 ++ u8 0 ++ u8 3 ++ u32 5 ++ zeros 16 ++ u64 0x1234 ++ u32 9 ++ u32 7 ++ u8 1 ++ u8 2 ++ u16 6 ++ u16 8 ++ u8 10))))) ∧
    (∃ (m : MsgRef) (pl : List Byte), (fun (d : Device) => d.runs ∧ d.turn m 0x5001 (fun b => b = pl) = true ∧ (d.link.qps.get? (leAt pl 0 2)).isSome = true) (aQueue (etherPlan id) ⟨5, 7⟩ 0x5001 (((zeros 48))))) ∧
    (∃ (m : MsgRef) (pl : List Byte), (fun (d : Device) => d.runs ∧ d.turn m 0x5002 (fun b => b = pl) = true ∧ d.canAnswer m ∧ leAt pl 0 2 < 4096) (aQueue (etherPlan id) ⟨5, 7⟩ 0x5002 (((zeros 4))))) ∧
    (∃ (m : MsgRef) (pl : List Byte) (i : Nat), (fun (d : Device) => d.runs ∧ d.turn m 0x5003 (fun b => b = pl) = true ∧ d.canAnswer m ∧ leAt pl 0 2 = i ∧ i < 1024 ∧ d.link.mrs.get? i = none ∧ leAt pl 8 8 + leAt pl 16 8 ≤ 2 ^ 64 ∧ d.populated (leAt pl 24 8) (leAt pl 16 8) = true ∧ (∀ e ∈ d.link.mrs, e.2.rkey ≠ leAt pl 4 4)) (aQueue (etherPlan id) ⟨5, 7⟩ 0x5003 (((u16 3 ++ zeros 2 ++ u32 11 ++ u64 0x500 ++ u64 0x100 ++ u64 0x4000))))) ∧
    (∃ (m : MsgRef) (pl : List Byte), (fun (d : Device) => d.runs ∧ d.turn m 0x5003 (fun b => b = pl) = true ∧ ((d.link.mrs.get? (leAt pl 0 2)).isSome = true ∨ d.populated (leAt pl 24 8) (leAt pl 16 8) = false ∨ ∃ e ∈ d.link.mrs, e.2.rkey = leAt pl 4 4)) (aQueue (etherPlan id) ⟨5, 7⟩ 0x5003 (((u16 1 ++ zeros 2 ++ u32 9 ++ u64 0x500 ++ u64 0x100 ++ u64 0x4000))))) ∧
    (∃ (m : MsgRef) (pl : List Byte), (fun (d : Device) => d.runs ∧ d.turn m 0x5004 (fun b => b = pl) = true ∧ d.canAnswer m ∧ leAt pl 0 2 < 1024) (aQueue (etherPlan id) ⟨5, 7⟩ 0x5004 (((zeros 4))))) ∧
    (∃ (m : MsgRef) (pl : List Byte) (i p : Nat), (fun (d : Device) => d.runs ∧ d.turn m 0x5005 (fun b => b = pl) = true ∧ d.canAnswer m ∧ leAt pl 0 2 = i ∧ i < 64 ∧ leAt pl 2 1 = p ∧ leAt pl 3 1 < 2 ∧ leAt pl 24 1 < 4 ∧ leAt pl 25 1 < 64 ∧ leAt pl 26 2 < 4096 ∧ leAt pl 28 2 < 1024 ∧ 1 ≤ leAt pl 30 2 ∧ 1 ≤ leAt pl 32 4 ∧ leAt pl 32 4 ≤ 1000000 ∧
        d.link.feeds.get? i = none ∧ d.ethPort p = true ∧ d.fld (Reg.PORT_CTRL p) Fd.PORT_CTRL_FEED_EN = 1) (aQueue (etherDev) ⟨5, 7⟩ 0x5005 (((u16 3 ++ u8 0 ++ u8 1 ++ u16 77 ++ zeros 2 ++ leBytes 16 5 ++ u8 1 ++ u8 2 ++ u16 6 ++ u16 8 ++ u16 100 ++ u32 1000000))))) ∧
    (∃ (m : MsgRef) (pl : List Byte), (fun (d : Device) => d.runs ∧ d.turn m 0x5005 (fun b => b = pl) = true ∧ (64 ≤ leAt pl 0 2 ∨ leAt pl 30 2 = 0 ∨ 1000000 < leAt pl 32 4 ∨ (d.link.feeds.get? (leAt pl 0 2)).isSome = true)) (aQueue (etherPlan id) ⟨5, 7⟩ 0x5005 (((zeros 36))))) ∧
    (∃ (m : MsgRef) (pl : List Byte), (fun (d : Device) => d.runs ∧ d.turn m 0x5006 (fun b => b = pl) = true ∧ d.canAnswer m ∧ leAt pl 0 2 < 64) (aQueue (etherPlan id) ⟨5, 7⟩ 0x5006 (((zeros 4))))) := by
  refine ⟨?_, ?_, ?_, ?_, ?_, ?_, ?_, ?_, ?_, ?_, ?_⟩
  · refine ⟨⟨5, 7⟩, (u8 0 ++ zeros 7 ++ u64 0x1234 ++ u32 9 ++ zeros 28), ?_⟩
    decide +kernel
  · refine ⟨⟨5, 7⟩, (zeros 48), ?_⟩
    decide +kernel
  · refine ⟨⟨5, 7⟩, (u16 3 ++ u8 0 ++ u8 3 ++ u32 5 ++ zeros 16 ++ u64 0x1234 ++ u32 9 ++ u32 7 ++ u8 1 ++ u8 2 ++ u16 6 ++ u16 8 ++ u8 10), 3, 0, ?_⟩
    decide +kernel
  · refine ⟨⟨5, 7⟩, (zeros 48), ?_⟩
    decide +kernel
  · refine ⟨⟨5, 7⟩, (zeros 4), ?_⟩
    decide +kernel
  · refine ⟨⟨5, 7⟩, (u16 3 ++ zeros 2 ++ u32 11 ++ u64 0x500 ++ u64 0x100 ++ u64 0x4000), 3, ?_⟩
    decide +kernel
  · refine ⟨⟨5, 7⟩, (u16 1 ++ zeros 2 ++ u32 9 ++ u64 0x500 ++ u64 0x100 ++ u64 0x4000), ?_⟩
    decide +kernel
  · refine ⟨⟨5, 7⟩, (zeros 4), ?_⟩
    decide +kernel
  · refine ⟨⟨5, 7⟩, (u16 3 ++ u8 0 ++ u8 1 ++ u16 77 ++ zeros 2 ++ leBytes 16 5 ++ u8 1 ++ u8 2 ++ u16 6 ++ u16 8 ++ u16 100 ++ u32 1000000), 3, 0, ?_⟩
    decide +kernel
  · refine ⟨⟨5, 7⟩, (zeros 36), ?_⟩
    decide +kernel
  · refine ⟨⟨5, 7⟩, (zeros 4), ?_⟩
    decide +kernel

theorem wit_RoceFeedsAndPtp :
    (∃ (k : RocePkt) (q : Nat) (x : Qp) (i : Nat) (r : MemRegion), (fun (d : Device) => d.runs ∧ d.qpAt k.port.val k.qpn = some (q, x) ∧ k.icrc = true ∧ k.ce = false ∧ x.responder = true ∧ k.psn = x.rxPsn ∧ k.kind = 3 ∧ k.data.length = k.len ∧ k.len ≤ 1024 * 2 ^ x.mtu ∧ d.link.mrs = [(i, r)] ∧ r.rkey = k.rkey ∧ r.va ≤ k.va ∧ k.va + k.len ≤ r.va + r.len ∧ Memory.wf d.mem = true) (etherPlan id)) ∧
    (∃ (k : RocePkt) (q : Nat) (x : Qp), (fun (d : Device) => d.runs ∧ (d.qpAt k.port.val k.qpn = some (q, x) ∧ k.icrc = true ∧ k.ce = false ∧ x.responder = true ∧ k.psn = x.rxPsn ∧ k.kind = 3 ∧ k.data.length ≤ 1024 * 2 ^ x.mtu ∧ ∀ e ∈ d.link.mrs, e.2.rkey = k.rkey → k.va < e.2.va ∨ e.2.va + e.2.len < k.va + k.len)) (etherPlan id)) ∧
    (∃ (k : RocePkt) (q : Nat) (x : Qp), (fun (d : Device) => d.runs ∧ d.qpAt k.port.val k.qpn = some (q, x) ∧ k.icrc = true ∧ k.ce = false ∧ x.responder = true ∧ x.rxPsn < k.psn ∧ k.psn < x.rxPsn + 2 ^ 23 ∧ k.psn < 2 ^ 24) (etherPlan id)) ∧
    (∃ (k : RocePkt) (q : Nat) (x : Qp), (fun (d : Device) => d.runs ∧ d.qpAt k.port.val k.qpn = some (q, x) ∧ k.icrc = true ∧ k.ce = false ∧ x.responder = true ∧ k.psn = x.rxPsn ∧ 3 < k.kind) (etherPlan id)) ∧
    (∃ (k : RocePkt), (fun (d : Device) => d.runs ∧ k.icrc = false) (etherPlan id)) ∧
    (∃ (k : RocePkt) (q : Nat) (x : Qp) (a : Nat) (rest : List Nat) (tag : Nat) (d1 : Device), x.die < 4 ∧ x.pool < 1024 ∧ (fun (d : Device) => d.runs ∧ d.qpAt k.port.val k.qpn = some (q, x) ∧ k.icrc = true ∧ k.ce = false ∧ x.responder = true ∧ k.psn = x.rxPsn ∧ k.kind = 3 ∧ k.data.length ≤ 1024 * 2 ^ x.mtu ∧ k.data.length + 64 ≤ d.poolSize (poolKey x.die x.pool) ∧ d.canPush (poolKey x.die x.pool) (4096 * x.die + x.lift) a rest ∧ d.str.allocWait = [] ∧ d.allocTag x.die x.stage = some (tag, d1) ∧ Memory.wf d.mem = true) (etherPlan id)) ∧
    (∃ (k : RocePkt) (q : Nat) (x : Qp), (fun (d : Device) => d.runs ∧ d.qpAt k.port.val k.qpn = some (q, x) ∧ k.icrc = true ∧ k.ce = false ∧ x.responder = true ∧ k.psn = x.rxPsn ∧ k.kind = 3 ∧ k.data.length ≤ 1024 * 2 ^ x.mtu ∧ k.data.length + 64 ≤ d.poolSize (poolKey x.die x.pool) ∧ d.str.pools.getD (poolKey x.die x.pool) [] = []) ((etherPlan id).updStr (fun u => { u with pools := [] }))) ∧
    (∃ (p : Fin 8) (qpn psn q : Nat) (x : Qp) (u : RoceSent), (fun (d : Device) => d.runs ∧ d.qpAt p.val qpn = some (q, x) ∧ x.requester = true ∧ x.unacked = [u] ∧ u.psn = psn) (etherPlan (fun l => l) |>.setQp 0 { aQp with unacked := [aSent] })) ∧
    (∃ (p : Fin 8) (qpn psn syn q : Nat) (x : Qp), (fun (d : Device) => d.runs ∧ d.qpAt p.val qpn = some (q, x) ∧ x.requester = true ∧ (syn = 18 ∨ syn = 19)) (etherPlan id)) ∧
    (∃ (p : Fin 8) (qpn q : Nat) (x : Qp), (fun (d : Device) => d.runs ∧ d.qpAt p.val qpn = some (q, x) ∧ x.requester = true) (etherPlan id)) ∧
    (∃ (q : Fin 4096) (x : Qp), (fun (d : Device) => d.runs ∧ d.link.qps.get? q.val = some x ∧ x.rate < 65536) ((etherPlan id).setQp 0 { aQp with rate := 32768 })) ∧
    (∃ (q : Fin 4096) (x : Qp) (u : RoceSent), (fun (d : Device) => d.runs ∧ d.link.qps.get? q.val = some x ∧ d.packageContained = false ∧ x.error = false ∧ x.unacked = [u] ∧ x.retries < 7) ((etherPlan id).setQp 0 { aQp with unacked := [aSent], retries := 6 })) ∧
    (∃ (q : Fin 4096) (x : Qp), (fun (d : Device) => d.runs ∧ d.link.qps.get? q.val = some x ∧ d.packageContained = false ∧ x.error = false ∧ x.unacked ≠ [] ∧ x.retries = 7) ((etherPlan id).setQp 0 { aQp with unacked := [aSent], retries := 7 })) ∧
    (∃ (g : Datagram) (i : Nat) (f : Feed) (a : Nat) (rest : List Nat) (tag : Nat) (d1 : Device), f.die < 4 ∧ f.pool < 1024 ∧ (fun (d : Device) => d.runs ∧ d.now ≤ g.time ∧ d.ethOn g.port.val Fd.PORT_CTRL_FEED_EN = true ∧ g.frame ≤ 9216 ∧ d.link.feeds = [(i, f)] ∧ f.port = g.port.val ∧ f.ipv6 = g.ipv6 ∧ f.dstIp = g.dstIp ∧ f.udpPort = g.dstPort ∧ f.count = 0 ∧ g.ok = true ∧ g.payload.length + 64 ≤ d.poolSize (poolKey f.die f.pool) ∧
        d.canPush (poolKey f.die f.pool) (4096 * f.die + f.lift) a rest ∧ d.str.allocWait = [] ∧ d.allocTag f.die f.stage = some (tag, d1) ∧ Memory.wf d.mem = true) (etherPlan id)) ∧
    (∃ (g : Datagram) (i : Nat) (f : Feed), (fun (d : Device) => d.runs ∧ d.now ≤ g.time ∧ d.regsWf ∧ d.ethOn g.port.val Fd.PORT_CTRL_FEED_EN = true ∧ g.frame ≤ 9216 ∧ d.link.feeds = [(i, f)] ∧ f.port = g.port.val ∧ f.ipv6 = g.ipv6 ∧ f.dstIp = g.dstIp ∧ f.udpPort = g.dstPort ∧ (g.ok = false ∨ d.str.pools.getD (poolKey f.die f.pool) [] = [] ∨ d.poolSize (poolKey f.die f.pool) < g.payload.length + 64)) (etherPlan id)) ∧
    (∃ (g : Datagram), (fun (d : Device) => d.runs ∧ d.now ≤ g.time ∧ 9216 < g.frame) (etherPlan id)) ∧
    (∃ (p : Fin 8) (x : PtpMsg), (fun (d : Device) => d.runs ∧ d.ptpOn p.val = true ∧ d.now ≤ x.time ∧ x.twoStep = true) (etherDev)) ∧
    (∃ (p : Fin 8) (x : PtpMsg), (fun (d : Device) => d.runs ∧ d.ptpOn p.val = true ∧ d.now ≤ x.time ∧ (d.ptpUnit p.val).awaiting = true ∧ x.seq = (d.ptpUnit p.val).syncSeq ∧ (d.ptpUnit p.val).delay = none) (ptping { PtpUnit.reset with awaiting := true, syncSeq := 3 })) ∧
    (∃ (p : Fin 8) (x : PtpMsg), (fun (d : Device) => d.runs ∧ d.ptpOn p.val = true ∧ d.now ≤ x.time ∧ (d.ptpUnit p.val).awaiting = false ∧ (d.ptpUnit p.val).lastSync.isSome = true ∧ x.seq = (d.ptpUnit p.val).reqSeq) (ptping { PtpUnit.reset with reqSeq := 3, t1 := 100, t2 := 110, t3 := 120, lastSync := some 0 })) ∧
    (∃ (p : Fin 8) (t : Nat), (fun (d : Device) => d.runs ∧ d.ptpOn p.val = true ∧ (d.ptpUnit p.val).lastSync = some t ∧ d.regsWf) (ptping { PtpUnit.reset with interval := 1000, lastSync := some 5 })) := by
  refine ⟨?_, ?_, ?_, ?_, ?_, ?_, ?_, ?_, ?_, ?_, ?_, ?_, ?_, ?_, ?_, ?_, ?_, ?_, ?_, ?_⟩
  · refine ⟨aPkt 3 0x110 3 [1, 2, 3], 0, aQp, 0, aMr, ?_⟩
    decide +kernel
  · refine ⟨aPkt 3 0xFF 3 [1, 2, 3], 0, aQp, ?_⟩
    decide +kernel
  · refine ⟨{ aPkt 3 0x110 3 [1, 2, 3] with psn := 8 }, 0, aQp, ?_⟩
    decide +kernel
  · refine ⟨aPkt 4 0x110 3 [1, 2, 3], 0, aQp, ?_⟩
    decide +kernel
  · refine ⟨{ aPkt 3 0x110 3 [1, 2, 3] with icrc := false }, ?_⟩
    decide +kernel
  · refine ⟨aPkt 3 0 0 [1, 2, 3], 0, aQp, 0x2000, [0x2200], 1, ((etherPlan id).allocTag 0 0).elim Device.reset (·.2), ?_⟩
    decide +kernel
  · refine ⟨aPkt 3 0 0 [1, 2, 3], 0, aQp, ?_⟩
    decide +kernel
  · refine ⟨0, 0x100, 2, 0, { aQp with unacked := [aSent] }, aSent, ?_⟩
    decide +kernel
  · refine ⟨0, 0x100, 2, 18, 0, aQp, ?_⟩
    decide +kernel
  · refine ⟨0, 0x100, 0, aQp, ?_⟩
    decide +kernel
  · refine ⟨0, { aQp with rate := 32768 }, ?_⟩
    decide +kernel
  · refine ⟨0, { aQp with unacked := [aSent], retries := 6 }, aSent, ?_⟩
    decide +kernel
  · refine ⟨0, { aQp with unacked := [aSent], retries := 7 }, ?_⟩
    decide +kernel
  · refine ⟨{ aDatagram with time := (etherPlan id).now + 50 }, 0, aFeed, 0x2000, [0x2200], 1, ((etherPlan id).allocTag 0 0).elim Device.reset (·.2), ?_⟩
    decide +kernel
  · refine ⟨{ aDatagram with time := (etherPlan id).now + 50, ok := false }, 0, aFeed, ?_⟩
    decide +kernel
  · refine ⟨{ aDatagram with time := (etherPlan id).now + 50, frame := 9217 }, ?_⟩
    decide +kernel
  · refine ⟨0, { seq := 3, twoStep := true, stamp := 9, corr := 0, time := etherDev.now + 5 }, ?_⟩
    decide +kernel
  · refine ⟨0, { seq := 3, twoStep := true, stamp := 9, corr := 0, time := etherDev.now + 5 }, ?_⟩
    decide +kernel
  · refine ⟨0, { seq := 3, twoStep := false, stamp := 130, corr := 0, time := etherDev.now + 5 }, ?_⟩
    decide +kernel
  · refine ⟨0, 5, ?_⟩
    decide +kernel

theorem wit_GroomerAndTraining :
    (∃ (a : Nat), (fun (d : Device) => d.runs ∧ d.fld Reg.GROOM_CTRL Fd.GROOM_CTRL_ENABLE = 1 ∧ d.regsWf) (ready)) ∧
    (∃ (a : Nat) (be : Bool), (fun (d : Device) => d.runs ∧ d.fld Reg.GROOM_CTRL Fd.GROOM_CTRL_ENABLE = 1 ∧ d.regsWf ∧ d.isLocal a = true ∧ a / 64 ∉ d.poison ∧ (d.errq (d.ownerQueue a)).handling = none ∧ (d.errq (d.ownerQueue a)).waiting = [] ∧ (d.errq (d.ownerQueue a)).suspended = []) (ready)) ∧
    (∃ (die : Fin 5) (index : Nat), index < 2 ^ 56 ∧ (fun (d : Device) => d.runs ∧ d.fld Reg.GROOM_CTRL Fd.GROOM_CTRL_ENABLE = 1 ∧ d.regsWf ∧ (0, die.val, index) ∉ d.fault.dark ∧ (d.errq die.val).handling = none ∧ (d.errq die.val).waiting = [] ∧ (d.errq die.val).suspended = []) (ready)) ∧
    (∃ (die : Fin 5) (index : Nat), (fun (d : Device) => d.runs ∧ d.fld Reg.GROOM_CTRL Fd.GROOM_CTRL_ENABLE = 1 ∧ (0, die.val, index) ∈ d.fault.dark) (faulty (fun f => { f with dark := [(0, 2, 77)] }))) ∧
    (∃ (a : Nat), (fun (d : Device) => d.runs ∧ d.fld Reg.GROOM_CTRL Fd.GROOM_CTRL_ENABLE = 1 ∧ a / 64 ∈ d.poison) ({ ready with poison := [0x100] })) ∧
    (∃ (t : PatrolTarget), (fun (d : Device) => d.runs ∧ d.fld Reg.GROOM_CTRL Fd.GROOM_CTRL_ENABLE = 1) (ready.updMem (fun m => { m with burst := true }))) ∧
    (∃ (t : PatrolTarget) (n : Fin 3) (pe be : Bool), (fun (d : Device) => d.runs ∧ d.fld Reg.GROOM_CTRL Fd.GROOM_CTRL_ENABLE = 0) (ready.setReg Reg.GROOM_CTRL 0)) ∧
    (∃ (v : Word), v.toNat < 4 ∧ (fun (d : Device) => d.runs ∧ d.regsWf) (ready)) ∧
    (∃ (v : Word), 4 ≤ v.toNat ∧ (fun (d : Device) => d.runs) (ready)) ∧
    (∃ (stk : BitVec 16) (bonded : List Nat) (dimms ddr : Option (Fin 16)), (fun (d : Device) => d.runs ∧ d.mgmt.fw = true ∧ d.fld Reg.MEM_STATUS Fd.MEM_STATUS_TRAINED = 0 ∧ d.regsWf) ({ Device.reset with mgmt := { Device.reset.mgmt with fw := true }, flash := { Device.reset.flash with record := boardRec0 ++ u32 2125732280 } })) ∧
    (∃ (stk : BitVec 16) (bonded : List Nat) (ch : Fin 16), stk = 0xFFFF ∧ bonded = [0, 0, 0, 0] ∧ (fun (d : Device) => d.runs ∧ d.mgmt.fw = true ∧ d.fld Reg.MEM_STATUS Fd.MEM_STATUS_TRAINED = 0 ∧ boardRecordOk d.flash.record = true ∧ d.fault.inputQ.length < 256 ∧ d.regsWf) ({ Device.reset with mgmt := { Device.reset.mgmt with fw := true }, flash := { Device.reset.flash with record := boardRec0 ++ u32 2125732280 } })) := by
  refine ⟨?_, ?_, ?_, ?_, ?_, ?_, ?_, ?_, ?_, ?_, ?_⟩
  · refine ⟨0x4000, ?_⟩
    decide +kernel
  · refine ⟨0x4010, true, ?_⟩
    decide +kernel
  · refine ⟨2, 77, ?_⟩
    decide +kernel
  · refine ⟨2, 77, ?_⟩
    decide +kernel
  · refine ⟨0x4010, ?_⟩
    decide +kernel
  · refine ⟨.memory 0x4000, ?_⟩
    decide +kernel
  · refine ⟨.memory 0x4000, 2, true, true, ?_⟩
    decide +kernel
  · refine ⟨2, ?_⟩
    decide +kernel
  · refine ⟨5, ?_⟩
    decide +kernel
  · refine ⟨0xFEFF, [0, 16, 17, 0], none, none, ?_⟩
    decide +kernel
  · refine ⟨0xFFFF, [0, 0, 0, 0], 9, ?_⟩
    refine ⟨rfl, rfl, ?_, ?_, ?_, board_ok, ?_, ?_⟩ <;> decide +kernel

theorem wit_VirtualMemoryAndHost :
    (∃ (v : Word), v.toNat < 8 ∧ (fun (d : Device) => d.runs ∧ d.regsWf ∧ (v.toNat.testBit 1 = true → d.host.atsEnable = true) ∧ (v.toNat.testBit 2 = true → d.host.priEnable = true)) ({ ready with host := { ready.host with atsEnable := true, priEnable := true } })) ∧
    (∃ (v : Word), v.toNat < 8 ∧ (fun (d : Device) => d.runs ∧ ((v.toNat.testBit 1 = true ∧ d.host.atsEnable = false) ∨ (v.toNat.testBit 2 = true ∧ d.host.priEnable = false))) (ready)) ∧
    (∃ (v : DWord), v.toNat % 2 ^ 21 = 0 ∧ v.toNat < 2 ^ 56 ∧ (fun (d : Device) => d.runs ∧ d.regsWf ∧ d.fld Reg.VM_CTRL Fd.VM_CTRL_ENABLE = 0 ∧ d.inHbmDdr v.toNat = true ∧ d.inHbmDdr (v.toNat + 2 ^ 21 - 1) = true) (ready)) ∧
    (∃ (v : DWord), v.toNat % 2 ^ 21 = 0 ∧ v.toNat < 2 ^ 56 ∧ (fun (d : Device) => d.runs ∧ d.fld Reg.VM_CTRL Fd.VM_CTRL_ENABLE = 1) (ready.setReg Reg.VM_CTRL 1)) ∧
    (∃ (v : DWord), v.toNat % 2 ^ 21 = 0 ∧ v.toNat < 2 ^ 56 ∧ (fun (d : Device) => d.runs ∧ d.fld Reg.VM_CTRL Fd.VM_CTRL_ENABLE = 0 ∧ (d.inHbmDdr v.toNat = false ∨ d.inHbmDdr (v.toNat + 2 ^ 21 - 1) = false)) (ready)) ∧
    (∃ (v : DWord), v.toNat.testBit 2 = true ∧ v.toNat / 8 % 2 ^ 9 = 0 ∧ v.toNat < 2 ^ 57 ∧ (fun (d : Device) => d.runs ∧ d.regsWf) (vmCached)) ∧
    (∃ (r : Nat × Nat), (fun (d : Device) => d.runs ∧ d.fld Reg.VM_INVAL Fd.VM_INVAL_GO = 1 ∧ r ∈ d.memu.vmTargets ∧ d.inUse r.1 r.2 = true) (((vmCached.setReg Reg.VM_INVAL 0x1005).updMem (fun m => { m with vmTargets := [(0x7000, 4096)] })).updStr (fun u => { u with tasks := [(0, { aTask id with writes := [{ die := 0, addr := 0x7010, data := [1], combine := none, order := 0, step := 1 }] })] }))) ∧
    ((fun (d : Device) => d.runs ∧ d.regsWf ∧ d.fld Reg.VM_INVAL Fd.VM_INVAL_GO = 1 ∧ (∀ r ∈ d.memu.vmTargets, d.inUse r.1 r.2 = false)) (vmCached.setReg Reg.VM_INVAL 0x1005)) ∧
    (∃ (page target : Nat) (r : AtsRequest), (fun (d : Device) => d.runs ∧ d.memu.atsPending = [r] ∧ r.page = page ∧ d.memu.atc = []) (atsWaiting)) ∧
    (∃ (page target : Nat) (r : AtsRequest), (fun (d : Device) => d.runs ∧ d.regsWf ∧ d.memu.atsPending = [r] ∧ r.page = page ∧ d.fld Reg.VM_CTRL Fd.VM_CTRL_PRI_EN = 0) (atsWaiting)) ∧
    (∃ (itag addr size : Nat) (e : AtcEntry), (fun (d : Device) => d.runs ∧ d.memu.invals.length < invalDepth ∧ e ∈ d.memu.atc ∧ e.page * 4096 < addr + size ∧ addr < e.page * 4096 + 4096 ∧ d.inUse (hostBus e.target) 4096 = true) (vmCached.updStr (fun u => { u with tasks := [(0, { aTask id with writes := [{ die := 0, addr := hostBus 0x9010, data := [1], combine := none, order := 0, step := 1 }] })] }))) ∧
    (∃ (itag addr size : Nat), (fun (d : Device) => d.runs ∧ d.memu.invals.length < invalDepth ∧ (∀ e ∈ d.memu.atc, e.page * 4096 < addr + size → addr < e.page * 4096 + 4096 → d.inUse (hostBus e.target) 4096 = false)) (vmCached)) ∧
    (∃ (n : Nat) (data : List Byte) (x : ExtRead), (fun (d : Device) => d.runs ∧ d.str.extReads = [x] ∧ x.peer = false ∧ x.id = n ∧ data.length = x.len ∧ x.dst < tileBase ∧ x.stream ≠ planStoreStream ∧ x.stream ≠ commitStream ∧ d.memu.invals = [] ∧ Memory.wf d.mem = true) (hostGot (fun u => u))) ∧
    (∃ (n : Nat) (data : List Byte) (x : ExtRead), (fun (d : Device) => d.runs ∧ d.str.extReads = [x] ∧ x.peer = false ∧ x.id = n ∧ d.streamRec x.stream = none ∧ x.stream ≠ planStoreStream ∧ x.stream ≠ commitStream ∧ d.memu.invals = []) (hostGot (fun u => { u with tasks := [(0, aTask id)] }))) := by
  refine ⟨?_, ?_, ?_, ?_, ?_, ?_, ?_, ?_, ?_, ?_, ?_, ?_, ?_, ?_⟩
  · refine ⟨7, ?_⟩
    decide +kernel
  · refine ⟨3, ?_⟩
    decide +kernel
  · refine ⟨0x8_0000_0000, ?_⟩
    decide +kernel
  · refine ⟨0x8_0000_0000, ?_⟩
    decide +kernel
  · refine ⟨0xA00_0000_0000, ?_⟩
    decide +kernel
  · refine ⟨0x1005, ?_⟩
    decide +kernel
  · refine ⟨(0x7000, 4096), ?_⟩
    decide +kernel
  · decide +kernel
  · refine ⟨5, 0x9000, anAts, ?_⟩
    decide +kernel
  · refine ⟨5, 0x9000, anAts, ?_⟩
    decide +kernel
  · refine ⟨3, 0x5000, 0x1000, { page := 5, target := 0x9000, read := true, write := true }, ?_⟩
    decide +kernel
  · refine ⟨3, 0x5000, 0x1000, ?_⟩
    decide +kernel
  · refine ⟨7, [7, 8], ⟨7, 0, 5, hostBus 0x5000, 0x4000, 2, false⟩, ?_⟩
    decide +kernel
  · refine ⟨7, [], ⟨7, 0, 5, hostBus 0x5000, 0x4000, 2, false⟩, ?_⟩
    decide +kernel

theorem wit_MailboxAndWatchdog :
    (∃ (v : Word), (fun (d : Device) => d.runs ∧ d.regsWf ∧ seqDist d.hseqPosted d.hseqNext ≤ seqDist v.toNat d.hseqNext ∧ seqDist v.toNat d.hseqNext ≤ 8192) (posting [])) ∧
    (∃ (v : Word), (fun (d : Device) => d.runs ∧ d.regsWf ∧ (8192 < seqDist v.toNat d.hseqNext ∨ seqDist v.toNat d.hseqNext < seqDist d.hseqPosted d.hseqNext)) (posting [])) ∧
    (∃ (v : Word), (fun (d : Device) => d.runs ∧ d.regsWf ∧ seqDist v.toNat d.hseqNext < seqDist d.hseqPosted d.hseqNext) (posting [])) ∧
    (∃ (b : List Byte), (fun (d : Device) => d.runs ∧ d.regsWf ∧ d.hseqNext ≠ d.hseqPosted ∧ d.d2hFree = true ∧ d.host.h2d.getD (d.hseqNext % 8192) [] = b ∧ d.messageCheck b = none ∧ d.packageContained = false ∧ (d.host.classQ.getD (leAt b 0 2 / 4096) []).length < 64) (posting (pingBytes 0))) ∧
    (∃ (b : List Byte), (fun (d : Device) => d.runs ∧ d.regsWf ∧ d.hseqNext ≠ d.hseqPosted ∧ d.d2hFree = true ∧ d.host.h2d.getD (d.hseqNext % 8192) [] = b ∧ leAt b 8 4 ≠ d.hseqNext) (posting (pingBytes 1))) ∧
    ((fun (d : Device) => d.runs ∧ d.d2hFree = false) ((posting (pingBytes 0)).setReg Reg.MB_D2H_POS 16384)) ∧
    (∃ (m : MsgRef) (v mm : Nat), (fun (d : Device) => d.runs ∧ d.turn m 0x0001 (fieldsAre [(0, 4, v), (4, 1, mm)]) = true ∧ d.canAnswer m ∧ (d.fld Reg.HOST_STATE Fd.HOST_STATE_STATE = 0 ∨ d.fld Reg.HOST_STATE Fd.HOST_STATE_STATE = 3) ∧ d.packageContained = false ∧ d.host.msixEnable = false) (aQueue (ready.setReg Reg.HOST_STATE 0x107) ⟨5, 7⟩ 0x0001 (u32 (1) ++ u8 (0) ++ zeros 3))) ∧
    (∃ (m : MsgRef) (v mm : Nat), (fun (d : Device) => d.runs ∧ d.turn m 0x0001 (fieldsAre [(0, 4, v), (4, 1, mm)]) = true ∧ d.fld Reg.HOST_STATE Fd.HOST_STATE_STATE = 2) (aQueue ((ready.setHostState 2)) ⟨5, 7⟩ 0x0001 (u32 (1) ++ u8 (0) ++ zeros 3))) ∧
    (∃ (m : MsgRef), (fun (d : Device) => d.runs ∧ d.turn m 0x0002 (fun _ => true) = true ∧ d.regsWf ∧ d.fld Reg.HOST_STATE Fd.HOST_STATE_STATE = 1 ∧ d.host.msixEnable = false) (aQueue ((ready.setHostState 1)) ⟨5, 7⟩ 0x0002 ([]))) ∧
    (∃ (m : MsgRef), (fun (d : Device) => d.runs ∧ d.turn m 0x0002 (fun _ => true) = true ∧ d.canAnswer m ∧ d.fld Reg.HOST_STATE Fd.HOST_STATE_STATE = 3) (aQueue ((ready.setHostState 3)) ⟨5, 7⟩ 0x0002 ([]))) ∧
    (∃ (m : MsgRef) (x : DWord), (fun (d : Device) => d.runs ∧ d.turn m 0x0003 (fieldsAre [(0, 8, (x).toNat)]) = true ∧ d.canAnswer m) (aQueue (ready) ⟨5, 7⟩ 0x0003 (u64 ((0x1122334455667788) : DWord).toNat))) ∧
    (∃ (v : Word), (fun (d : Device) => d.runs ∧ d.regsWf ∧ seqDist v.toNat (d.fld Reg.MB_D2H_ACKED ⟨0, 32⟩) ≤ seqDist (d.fld Reg.MB_D2H_POS ⟨0, 32⟩) (d.fld Reg.MB_D2H_ACKED ⟨0, 32⟩) ∧ d.host.heldResp = [] ∧ d.host.holdQ = []) (ready.setReg Reg.MB_D2H_POS 9)) ∧
    (∃ (v : Word), (fun (d : Device) => d.runs ∧ seqDist (d.fld Reg.MB_D2H_POS ⟨0, 32⟩) (d.fld Reg.MB_D2H_ACKED ⟨0, 32⟩) < seqDist v.toNat (d.fld Reg.MB_D2H_ACKED ⟨0, 32⟩)) (ready.setReg Reg.MB_D2H_POS 9)) ∧
    ((fun (d : Device) => d.runs ∧ d.regsWf ∧ (d.reg Reg.MB_HSEQ_POSTED).toNat < 2 ^ 32) (posting [])) ∧
    (∃ (v : Word), (fun (d : Device) => d.runs) (attached)) ∧
    (∃ (v : Word), v.toNat < 2 ^ 17 ∧ 10 ≤ v.toNat / 2 ∧ v.toNat / 2 ≤ 60000 ∧ (fun (d : Device) => d.runs ∧ d.regsWf) (attached)) ∧
    (∃ (v : Word), v.toNat < 2 ^ 17 ∧ (v.toNat / 2 < 10 ∨ 60000 < v.toNat / 2) ∧ (fun (d : Device) => d.runs) (attached)) ∧
    ((fun (d : Device) => d.runs ∧ d.regsWf ∧ d.wdogCounts = true) (attached.setReg Reg.WDOG_CTRL 201)) := by
  refine ⟨?_, ?_, ?_, ?_, ?_, ?_, ?_, ?_, ?_, ?_, ?_, ?_, ?_, ?_, ?_, ?_, ?_, ?_⟩
  · refine ⟨3, ?_⟩
    decide +kernel
  · refine ⟨8193, ?_⟩
    decide +kernel
  · refine ⟨0, ?_⟩
    decide +kernel
  · refine ⟨pingBytes 0, ?_⟩
    decide +kernel
  · refine ⟨pingBytes 1, ?_⟩
    decide +kernel
  · decide +kernel
  · refine ⟨⟨5, 7⟩, 1, 0, ?_⟩
    decide +kernel
  · refine ⟨⟨5, 7⟩, 1, 0, ?_⟩
    decide +kernel
  · refine ⟨⟨5, 7⟩, ?_⟩
    decide +kernel
  · refine ⟨⟨5, 7⟩, ?_⟩
    decide +kernel
  · refine ⟨⟨5, 7⟩, 0x1122334455667788, ?_⟩
    decide +kernel
  · refine ⟨9, ?_⟩
    decide +kernel
  · refine ⟨10, ?_⟩
    decide +kernel
  · decide +kernel
  · refine ⟨1, ?_⟩
    decide +kernel
  · refine ⟨21, ?_⟩
    decide +kernel
  · refine ⟨19, ?_⟩
    decide +kernel
  · decide +kernel

theorem wit_InterruptsBarsAndResets :
    (∃ (x : ConfigControl) (b c e : Bool), (fun (d : Device) => d.runs) (ready)) ∧
    (∃ (x : ConfigControl) (b c e : Bool) (i : Fin 16), (fun (d : Device) => d.runs ∧ x.look = some (.header i)) (ready)) ∧
    (∃ (v : Fin 2048), (fun (d : Device) => d.runs ∧ d.host.msixEnable = true ∧ d.fld Reg.HOST_STATE Fd.HOST_STATE_DMA_OFF = 0 ∧ d.host.pba = [v.val]) (msixOn.setReg Reg.HOST_STATE 1)) ∧
    (∃ (v : Fin 2048) (x : DWord), 16 ≤ v.val ∧ (fun (d : Device) => d.runs ∧ d.regsWf ∧ x.toNat / 2 ^ 19 % 2 ^ 13 = 0 ∧ x.toNat.testBit 18 = true ∧ (∀ e ∈ d.regs, Reg.IRQ_MAP 16 ≤ e.1 → e.1 ≤ Reg.IRQ_MAP 2047 → d.fld e.1 Fd.IRQ_MAP_ARMED = 0) ∧ d.syncVal (x.toNat % 2 ^ 18) < x.toNat / 2 ^ 32) (msixOn.setReg Reg.HOST_STATE 1)) ∧
    (∃ (v : Fin 2048) (x : DWord), 16 ≤ v.val ∧ (fun (d : Device) => d.runs ∧ d.regsWf ∧ x.toNat / 2 ^ 19 % 2 ^ 13 = 0 ∧ x.toNat.testBit 18 = true ∧ (∀ e ∈ d.regs, Reg.IRQ_MAP 16 ≤ e.1 → e.1 ≤ Reg.IRQ_MAP 2047 → d.fld e.1 Fd.IRQ_MAP_ARMED = 0) ∧ x.toNat / 2 ^ 32 ≤ d.syncVal (x.toNat % 2 ^ 18) ∧ d.host.msixEnable = true ∧ (d.msixEntry v.val).masked = false ∧ d.fld Reg.HOST_STATE Fd.HOST_STATE_DMA_OFF = 0) (msixOn.setReg Reg.HOST_STATE 1)) ∧
    (∃ (v : Fin 2048) (x : DWord), v.val < 16 ∧ (fun (d : Device) => d.runs) (msixOn)) ∧
    (∃ (v : Fin 2048) (x : DWord), 16 ≤ v.val ∧ x.toNat / 2 ^ 19 % 2 ^ 13 ≠ 0 ∧ (fun (d : Device) => d.runs) (msixOn)) ∧
    (∃ (t : Nat), (fun (d : Device) => d.runs ∧ d.host.vec0Waiting = true ∧ d.host.vec0Last = some t ∧ d.host.msixEnable = true ∧ (d.msixEntry 0).masked = false ∧ d.fld Reg.HOST_STATE Fd.HOST_STATE_DMA_OFF = 0) ((msixOn.setReg Reg.HOST_STATE 1).updHost (fun h => { h with vec0Waiting := true, vec0Last := some 5 }))) ∧
    (∃ (off n : Nat), (fun (d : Device) => d.runs ∧ off + n ≤ d.host.bar4Size ∧ d.bar4Served off n = true ∧ d.poisoned ((d.reg Reg.BAR4_BASE).toNat + off) n = false) (ready.write 0x100 [1, 2])) ∧
    (∃ (off n : Nat), (fun (d : Device) => d.runs ∧ off + n ≤ d.host.bar4Size ∧ d.bar4Served off n = true ∧ d.poisoned ((d.reg Reg.BAR4_BASE).toNat + off) n = true) ({ ready with poison := [4] })) ∧
    (∃ (off n : Nat), (fun (d : Device) => d.runs ∧ off + n ≤ d.host.bar4Size ∧ d.bar4Served off n = false ∧ d.regsWf) (ready.setReg Reg.BAR4_BASE 0x0C00_0000_0000)) ∧
    (∃ (off : Nat) (x : List Byte), (fun (d : Device) => d.runs ∧ off + x.length ≤ d.host.bar4Size ∧ d.bar4Served off x.length = true ∧ Memory.wf d.mem = true) (ready)) ∧
    (∃ (off : Nat) (x : List Byte), (fun (d : Device) => d.runs ∧ off + x.length ≤ d.host.bar4Size ∧ d.bar4Served off x.length = false ∧ d.regsWf) (ready.setReg Reg.BAR4_BASE 0x0C00_0000_0000)) ∧
    (∃ (v : DWord), (fun (d : Device) => d.runs ∧ d.regsWf ∧ v.toNat % d.host.bar4Size = 0) (ready)) ∧
    (∃ (v : DWord), (fun (d : Device) => d.runs ∧ v.toNat % d.host.bar4Size ≠ 0) (ready)) ∧
    (∃ (n : Nat), 30 ≤ n ∧ n ≤ 40 ∧ (fun (d : Device) => d.runs ∧ d.regsWf) (ready.setReg Reg.BAR4_BASE 0x4000_0000)) ∧
    (∃ (off w : Nat) (v : DWord), 8 ≤ w ∧ ((((0x20_0000 ≤ off ∧ off < 0x40_0000) ∨ (0x80_0000 ≤ off ∧ off < 0xF0_0000) ∨ (0xF0_000C ≤ off ∧ off < 0xF1_0000) ∨ (0xF1_8000 ≤ off ∧ off < 0xF2_0000) ∨ 0xF2_0100 ≤ off)) ∨ (0x40_0000 ≤ off ∧ off < 0x80_0000)) ∧ (fun (d : Device) => d.runs) (ready)) ∧
    (∃ (off w : Nat), (w = 8 ∨ w = 16 ∨ w = 32 ∨ w = 64) ∧ (((0x20_0000 ≤ off ∧ off < 0x40_0000) ∨ (0x80_0000 ≤ off ∧ off < 0xF0_0000) ∨ (0xF0_000C ≤ off ∧ off < 0xF1_0000) ∨ (0xF1_8000 ≤ off ∧ off < 0xF2_0000) ∨ 0xF2_0100 ≤ off)) ∧ (fun (d : Device) => d.runs) (ready)) ∧
    (∃ (off w : Nat) (v : DWord), 0xF0_0000 ≤ off ∧ off < 0xF0_000C ∧ (w < 32 ∨ off % (w / 8) ≠ 0) ∧ (fun (d : Device) => d.runs) (ready)) ∧
    (∃ (off w : Nat), 0xF0_0000 ≤ off ∧ off < 0xF0_000C ∧ (w < 32 ∨ off % (w / 8) ≠ 0) ∧ (fun (d : Device) => d.runs) (ready)) ∧
    (∃ (off : Nat), off < 0x20_0000 ∧ (fun (d : Device) => d.runs) (posting (pingBytes 7))) ∧
    (∃ (off : Nat) (v : DWord), off < 0x20_0000 ∧ (fun (d : Device) => d.runs) (posting (pingBytes 7))) ∧
    (∃ (i : Nat) (m : D2hMsg), i < 16384 ∧ (fun (d : Device) => d.runs ∧ d.host.d2h.get? i = some m ∧ m.pos < 2 ^ 32) (ready.updHost (fun h => { h with d2h := [(3, { opcode := 0x8004, async := true, hseq := 0, dseq := 9, pos := 3, status := 0, cookie := 0, step := 1, payload := [1] })] }))) ∧
    (∃ (v : Fin 2048), (fun (d : Device) => d.runs) (msixOn.updHost (fun h => { h with msix := [(5, { (h.msix.getD 5 (ready.msixEntry 5)) with masked := false })] }))) ∧
    ((fun (d : Device) => d.runs ∧ d.mgmt.powered = true ∧ d.mgmt.staging = none) ((streaming 0 id).setReg Reg.HOST_STATE 1)) ∧
    (∃ (v : Word), v.toNat = 0xD0E5_0001 ∧ (fun (d : Device) => d.runs ∧ d.regsWf ∧ d.resetBusy = false ∧ d.str.tasks = [] ∧ d.str.abortOrders = [] ∧ d.matchI = [] ∧ d.fld Reg.FW_STATUS Fd.FW_STATUS_ACT_STATE ≠ 2) ((posting (pingBytes 0)).write 0x100 [7])) ∧
    (∃ (v : Word) (k : Nat) (t : Task), v.toNat = 0xD0E5_0001 ∧ (fun (d : Device) => d.runs ∧ d.resetBusy = false ∧ d.str.tasks = [(k, t)] ∧ t.state = .open ∧ d.str.abortReqs = [] ∧ d.str.abortOrders = []) ((posting (pingBytes 0)).updStr (fun u => { u with tasks := [(0, aTask id)] }))) ∧
    (∃ (v : Word), v.toNat % 2 ^ 16 = 1 ∧ v.toNat / 2 ^ 16 ≠ 0xD0E5 ∧ (fun (d : Device) => d.runs ∧ d.resetBusy = false) (ready)) ∧
    (∃ (v : Word), v.toNat % 2 ^ 16 = 1 ∧ (fun (d : Device) => d.runs ∧ d.resetBusy = true) (ready.setFld Reg.DEV_STATUS Fd.DEV_STATUS_RESET_BUSY 1)) ∧
    (∃ (pass : List Nat), (fun (d : Device) => d.runs ∧ d.regsWf ∧ d.resetBusy = true ∧ d.tripped = false ∧ Map.rising d.fault.fmap = true) ((ready.containDie 1 0x1016 false).setFld Reg.DEV_STATUS Fd.DEV_STATUS_RESET_BUSY 1)) ∧
    ((fun (d : Device) => d.runs ∧ d.regsWf ∧ d.resetBusy = false) ((streaming 0 id).setReg Reg.MB_HSEQ_NEXT 5)) ∧
    ((fun (d : Device) => d.runs ∧ d.regsWf ∧ d.resetBusy = false) ((streaming 0 id).setReg Reg.MB_HSEQ_NEXT 5)) ∧
    ((fun (d : Device) => d.runs ∧ d.regsWf ∧ d.resetBusy = false) (attached)) := by
  refine ⟨?_, ?_, ?_, ?_, ?_, ?_, ?_, ?_, ?_, ?_, ?_, ?_, ?_, ?_, ?_, ?_, ?_, ?_, ?_, ?_, ?_, ?_, ?_, ?_, ?_, ?_, ?_, ?_, ?_, ?_, ?_, ?_, ?_⟩
  · refine ⟨{ busMaster := true, maxPayload := 2, maxRead := 5, relaxed := true, noSnoop := false, look := none }, false, true, false, ?_⟩
    decide +kernel
  · refine ⟨{ busMaster := true, maxPayload := 2, maxRead := 5, relaxed := true, noSnoop := false, look := some (.header 11) }, false, true, false, 11, ?_⟩
    decide +kernel
  · refine ⟨3, ?_⟩
    decide +kernel
  · refine ⟨16, 0x5_0004_0000, ?_⟩
    decide +kernel
  · refine ⟨16, 0x4_0000, ?_⟩
    decide +kernel
  · refine ⟨15, 0x4_0000, ?_⟩
    decide +kernel
  · refine ⟨16, 0x8_0000, ?_⟩
    decide +kernel
  · refine ⟨5, ?_⟩
    decide +kernel
  · refine ⟨0x100, 4, ?_⟩
    decide +kernel
  · refine ⟨0x100, 4, ?_⟩
    decide +kernel
  · refine ⟨0, 4, ?_⟩
    decide +kernel
  · refine ⟨0x100, [1, 2, 0], ?_⟩
    decide +kernel
  · refine ⟨0, [1], ?_⟩
    decide +kernel
  · refine ⟨0x4000_0000, ?_⟩
    decide +kernel
  · refine ⟨0x2000_0000, ?_⟩
    decide +kernel
  · refine ⟨40, ?_⟩
    decide +kernel
  · refine ⟨0x40_0000, 32, 5, ?_⟩
    decide +kernel
  · refine ⟨0x20_0000, 32, ?_⟩
    decide +kernel
  · refine ⟨0xF0_0002, 32, 7, ?_⟩
    decide +kernel
  · refine ⟨0xF0_0001, 16, ?_⟩
    decide +kernel
  · refine ⟨8, ?_⟩
    decide +kernel
  · refine ⟨257, 0x1234, ?_⟩
    decide +kernel
  · refine ⟨3, { opcode := 0x8004, async := true, hseq := 0, dseq := 9, pos := 3, status := 0, cookie := 0, step := 1, payload := [1] }, ?_⟩
    decide +kernel
  · refine ⟨5, ?_⟩
    decide +kernel
  · decide +kernel
  · refine ⟨0xD0E5_0001, ?_⟩
    decide +kernel
  · refine ⟨0xD0E5_0001, 0, aTask id, ?_⟩
    decide +kernel
  · refine ⟨0xD0E4_0001, ?_⟩
    decide +kernel
  · refine ⟨0xD0E5_0001, ?_⟩
    decide +kernel
  · refine ⟨[0, 1], ?_⟩
    decide +kernel
  · decide +kernel
  · decide +kernel
  · decide +kernel

theorem wit_ErrorQueuesAndFences :
    (∃ (q : Fin 5) (f : FaultDesc) (a n : Nat), f.severity = 3 ∧ f.place = .memory a ∧ f.code ≠ 0x0F12 ∧ (fun (d : Device) => d.runs ∧ d.errq q.val = { waiting := [], handling := none, suspended := [], arrivals := n }) (queued 2 ErrQueue.empty)) ∧
    (∃ (q : Fin 5) (f : FaultDesc) (a n : Nat) (h : ErrEntry), f.severity = 3 ∧ f.place = .memory a ∧ f.code ≠ 0x0F12 ∧ (fun (d : Device) => d.runs ∧ d.regsWf ∧ d.errq q.val = { waiting := [], handling := some h, suspended := [], arrivals := n } ∧ h.event.severity < 3) (queued 2 { ErrQueue.empty with handling := some (anErr 2), arrivals := 1 })) ∧
    (∃ (q : Fin 5) (f : FaultDesc) (h : ErrEntry), f.code ≠ 0x0F12 ∧ (fun (d : Device) => d.runs ∧ (d.errq q.val).handling = some h ∧ f.severity ≤ h.event.severity ∧ (d.errq q.val).depth < 64) (queued 2 { ErrQueue.empty with handling := some (anErr 3), arrivals := 1 })) ∧
    (∃ (q : Fin 5) (f : FaultDesc) (n : Nat), q.val < 4 ∧ f.code ≠ 0x0F12 ∧ (fun (d : Device) => d.runs ∧ d.regsWf ∧ (d.errq q.val).depth = 64 ∧ d.errq 4 = { waiting := [], handling := none, suspended := [], arrivals := n } ∧ d.fault.fmap = []) (queued 2 { ErrQueue.empty with waiting := List.replicate 63 (anErr 3), handling := some (anErr 3), arrivals := 64 })) ∧
    (∃ (q : Fin 5) (f : FaultDesc) (a : Nat), f.severity = 3 ∧ f.place = .memory a ∧ f.code = 0x0F12 ∧ (fun (d : Device) => d.runs ∧ d.regsWf ∧ d.isLocal a = true ∧ a / 64 ∉ d.poison ∧ (d.errq (d.ownerQueue a)).handling = none ∧ (d.errq (d.ownerQueue a)).waiting = [] ∧ (d.errq (d.ownerQueue a)).suspended = []) (queued 2 ErrQueue.empty)) ∧
    (∃ (q : Fin 5) (h g : ErrEntry) (n : Nat), (fun (d : Device) => d.runs ∧ d.regsWf ∧ d.errq q.val = { waiting := [], handling := some h, suspended := [g], arrivals := n } ∧ d.fault.inputQ.length < 224 ∧ h.event.severity < 5) (queued 2 { waiting := [], handling := some (anErr 3), suspended := [anErr 2], arrivals := 1 })) ∧
    (∃ (k : Fin 4) (kind : Fin 8) (x : Fin 64) (i n : Nat), i < 2048 ∧ (fun (d : Device) => d.runs ∧ d.errq k.val = { waiting := [], handling := none, suspended := [], arrivals := n } ∧ d.regsWf ∧ d.fault.fmap.get? i = none ∧ (∀ j, j < i → (d.fault.fmap.get? j).isSome = true) ∧ (∀ e ∈ d.fault.fmap, e.2.kind ≠ 4 ∧ e.2.kind ≠ 5) ∧ d.fault.fmap.length < 2044) (ready)) ∧
    (∃ (q : Fin 5) (k : Fin 4) (x : Fin 64) (i n : Nat), i < 2048 ∧ (fun (d : Device) => d.runs ∧ d.errq q.val = { waiting := [], handling := none, suspended := [], arrivals := n } ∧ d.regsWf ∧ d.fault.fmap.get? i = none ∧ (∀ j, j < i → (d.fault.fmap.get? j).isSome = true) ∧ (∀ e ∈ d.fault.fmap, e.2.kind ≠ 3 ∧ e.2.kind ≠ 5) ∧ d.fault.fmap.length < 2044) (cellsOf)) ∧
    (∃ (n : Nat), (fun (d : Device) => d.runs ∧ d.errq 4 = { waiting := [], handling := none, suspended := [], arrivals := n } ∧ d.regsWf ∧ d.fault.fmap = [] ∧ d.packageContained = false) (ready)) ∧
    (∃ (link n : Nat), (fun (d : Device) => d.runs ∧ d.errq 4 = { waiting := [], handling := none, suspended := [], arrivals := n } ∧ d.regsWf ∧ d.fault.fmap = [] ∧ d.packageContained = false) (ready)) ∧
    (∃ (e : FaultEntry) (i : Nat), i < 2048 ∧ (fun (d : Device) => d.runs ∧ d.regsWf ∧ fmapEntryOf (d.reg Reg.FMAP_CMD_ENTRY).toNat 0x1012 true = e ∧ e.reserved = false ∧ e.kind ≠ 5 ∧ (∀ x ∈ d.fault.fmap, x.2.sameUnit e = false) ∧ d.fault.fmap.get? i = none ∧ (∀ j, j < i → (d.fault.fmap.get? j).isSome = true) ∧ d.fault.fmap.length < 2044 ∧ d.fault.inputQ.length < 224) (ready.setReg Reg.FMAP_CMD_ENTRY 0x96)) ∧
    (∃ (e : FaultEntry) (x : Nat × FaultEntry), (fun (d : Device) => d.runs ∧ d.regsWf ∧ fmapEntryOf (d.reg Reg.FMAP_CMD_ENTRY).toNat 0x1012 true = e ∧ e.reserved = false ∧ x ∈ d.fault.fmap ∧ x.2.sameUnit e = true) ((faulty (fun f => { f with fmap := [(7, { kind := 3, die := 1, block := 2, code := 0x1016 })] })).setReg Reg.FMAP_CMD_ENTRY 0x96)) ∧
    ((fun (d : Device) => d.runs ∧ d.regsWf ∧ (fmapEntryOf (d.reg Reg.FMAP_CMD_ENTRY).toNat 0x1012 true).kind ∈ [0, 6, 7]) (ready)) ∧
    (∃ (e x : FaultEntry) (i : Nat), (fun (d : Device) => d.runs ∧ d.regsWf ∧ fmapEntryOf (d.reg Reg.FMAP_CMD_ENTRY).toNat 0 false = e ∧ e.reserved = false ∧ e.kind ≠ 5 ∧ d.fault.fmap.find? (fun x => x.2.sameUnit e) = some (i, x) ∧ d.fault.inputQ.length < 224) ((faulty (fun f => { f with fmap := [(7, { kind := 3, die := 1, block := 2, code := 0x1016 })] })).setReg Reg.FMAP_CMD_ENTRY 0x96)) ∧
    (∃ (e : FaultEntry), (fun (d : Device) => d.runs ∧ d.regsWf ∧ fmapEntryOf (d.reg Reg.FMAP_CMD_ENTRY).toNat 0 false = e ∧ e.reserved = false ∧ e.kind ≠ 5 ∧ (∀ x ∈ d.fault.fmap, x.2.sameUnit e = false)) (ready.setReg Reg.FMAP_CMD_ENTRY 0x96)) ∧
    ((fun (d : Device) => d.runs ∧ d.regsWf ∧ (fmapEntryOf (d.reg Reg.FMAP_CMD_ENTRY).toNat 0 false).kind = 5 ∧ (fmapEntryOf (d.reg Reg.FMAP_CMD_ENTRY).toNat 0 false).reserved = false) (ready.setReg Reg.FMAP_CMD_ENTRY 0x1A)) := by
  refine ⟨?_, ?_, ?_, ?_, ?_, ?_, ?_, ?_, ?_, ?_, ?_, ?_, ?_, ?_, ?_, ?_⟩
  · refine ⟨2, { aFault 3 (.memory 0x4000) with code := 0x0417 }, 0x4000, 0, ?_⟩
    decide +kernel
  · refine ⟨2, { aFault 3 (.memory 0x4000) with code := 0x0417 }, 0x4000, 1, anErr 2, ?_⟩
    decide +kernel
  · refine ⟨2, { aFault 3 (.memory 0x4000) with code := 0x0417 }, anErr 3, ?_⟩
    decide +kernel
  · refine ⟨2, { aFault 3 (.memory 0x4000) with code := 0x0417 }, 0, ?_⟩
    decide +kernel
  · refine ⟨2, aFault 3 (.memory 0x4010), 0x4010, ?_⟩
    decide +kernel
  · refine ⟨2, anErr 3, anErr 2, 1, ?_⟩
    decide +kernel
  · refine ⟨1, 2, 3, 0, 0, ?_⟩
    decide +kernel
  · refine ⟨0, 0, 1, 0, 0, ?_⟩
    decide +kernel
  · refine ⟨0, ?_⟩
    decide +kernel
  · refine ⟨14, 0, ?_⟩
    decide +kernel
  · refine ⟨{ kind := 3, die := 1, block := 2, host := true, code := 0x1012 }, 0, ?_⟩
    decide +kernel
  · refine ⟨{ kind := 3, die := 1, block := 2, host := true, code := 0x1012 }, (7, { kind := 3, die := 1, block := 2, code := 0x1016 }), ?_⟩
    decide +kernel
  · decide +kernel
  · refine ⟨{ kind := 3, die := 1, block := 2 }, { kind := 3, die := 1, block := 2, code := 0x1016 }, 7, ?_⟩
    decide +kernel
  · refine ⟨{ kind := 3, die := 1, block := 2 }, ?_⟩
    decide +kernel
  · decide +kernel

theorem wit_EventRecorder :
    (∃ (e : EventRec) (rest : List EventRec) (i : Nat), i < 4096 ∧ (fun (d : Device) => d.runs ∧ d.canAnnounce ∧ d.fault.inputQ = e :: rest ∧ d.fault.slots.get? i = none ∧ (∀ j, j < i → (d.fault.slots.get? j).isSome = true)) (faulty (fun f => { f with slots := [(0, aRec 1 1), (2, aRec 3 1)], inputQ := [aRec 7 3, aRec 8 2] }))) ∧
    (∃ (e r : EventRec) (rest : List EventRec) (i : Nat), (fun (d : Device) => d.runs ∧ d.regsWf ∧ d.fault.inputQ = e :: rest ∧ d.fault.slots.map (fun x => x.1) = List.range 4096 ∧ (i, r) ∈ d.fault.slots ∧ r.severity ≤ e.severity ∧ (∀ x ∈ d.fault.slots, x.2.severity ≤ e.severity → r.severity ≤ x.2.severity ∧ (x.2.severity = r.severity → x.1 = i ∨ seqDist (d.fld Reg.EVR_SEQ_NEXT Fd.EVR_SEQ_NEXT_SEQ) x.2.seq < seqDist (d.fld Reg.EVR_SEQ_NEXT Fd.EVR_SEQ_NEXT_SEQ) r.seq))) (fullRecorder)) ∧
    (∃ (e : EventRec) (rest : List EventRec), (fun (d : Device) => d.runs ∧ d.regsWf ∧ d.fault.inputQ = e :: rest ∧ d.fault.slots.map (fun x => x.1) = List.range 4096 ∧ (∀ x ∈ d.fault.slots, e.severity < x.2.severity)) (fullRecorder0)) ∧
    (∃ (v : DWord), v.toNat / 2 ^ 35 = 1 ∧ v.toNat / 2 ^ 32 % 8 ≤ 4 ∧ (fun (d : Device) => d.runs ∧ d.regsWf) ((faulty (fun f => { f with slots := [(0, aRec 1 1), (2, aRec 3 1), (3, aRec 2 2)] })).setReg Reg.EVR_SEQ_NEXT 9)) ∧
    (∃ (v : DWord), v.toNat / 2 ^ 32 = 5 ∧ (fun (d : Device) => d.runs) (ready)) ∧
    (∃ (e : EventRec) (rest : List EventRec), (fun (d : Device) => d.runs ∧ d.fault.flashQ = e :: rest ∧ d.fault.log.length < 256) (faulty (fun f => { f with flashQ := [aRec 7 5] }))) ∧
    (∃ (c : Fin 4) (n : Nat), (fun (d : Device) => d.runs ∧ d.mgmt.fw = true ∧ d.mgmt.crashed = false ∧ d.errq 4 = { waiting := [], handling := none, suspended := [], arrivals := n }) (withFw ready)) ∧
    (∃ (x : CrashDump) (rest : List CrashDump) (i : Nat), i < 4 ∧ (fun (d : Device) => d.runs ∧ d.fault.dumping = x :: rest ∧ d.fault.crash.get? i = none ∧ (∀ j, j < i → (d.fault.crash.get? j).isSome = true) ∧ x.cause = 0x1014 ∧ d.mgmt.crashed = true ∧ d.fld Reg.FW_STATUS Fd.FW_STATUS_TRIAL = 0) ((withFw (faulty (fun f => { f with dumping := [aDump] }))).updMgmt (fun m => { m with crashed := true }))) ∧
    (∃ (m : MsgRef) (i : Nat) (x : CrashDump), i < 4 ∧ (fun (d : Device) => d.runs ∧ d.turn m 0x0010 (fun _ => true) = true ∧ d.canAnswer m ∧ d.fault.crash = [(i, x)]) (aQueue (faulty (fun f => { f with crash := [(1, aDump)] })) ⟨5, 7⟩ 0x0010 ([]))) ∧
    (∃ (m : MsgRef) (i dst : Nat) (x : CrashDump), i < 4 ∧ (fun (d : Device) => d.runs ∧ d.turn m 0x0011 (fieldsAre [(0, 1, i), (8, 8, dst)]) = true ∧ d.canAnswer m ∧ d.fault.crash.get? i = some x ∧ d.copyDst dst (dumpBytes x).length = true ∧ Memory.wf d.mem = true) (aQueue (crashed) ⟨5, 7⟩ 0x0011 (u8 (1) ++ zeros 7 ++ u64 (0x4000)))) ∧
    (∃ (m : MsgRef) (i dst : Nat), i < 4 ∧ (fun (d : Device) => d.runs ∧ d.turn m 0x0011 (fieldsAre [(0, 1, i), (8, 8, dst)]) = true ∧ d.fault.crash.get? i = none ∧ d.copyDst dst 0 = true) (aQueue (ready) ⟨5, 7⟩ 0x0011 (u8 (1) ++ zeros 7 ++ u64 (0x4000)))) ∧
    (∃ (m : MsgRef) (i dst : Nat), (fun (d : Device) => d.runs ∧ d.turn m 0x0011 (fieldsAre [(0, 1, i), (8, 8, dst)]) = true ∧ (3 < i ∨ dst % 256 ≠ 0)) (aQueue (ready) ⟨5, 7⟩ 0x0011 (u8 (1) ++ zeros 7 ++ u64 (0x4001)))) ∧
    (∃ (m : MsgRef) (i : Nat), i < 4 ∧ (fun (d : Device) => d.runs ∧ d.turn m 0x0012 (fieldsAre [(0, 1, i)]) = true ∧ d.canAnswer m ∧ (d.fault.crash.get? i).isSome = true) (aQueue (faulty (fun f => { f with crash := [(1, aDump)] })) ⟨5, 7⟩ 0x0012 (u8 (1)))) ∧
    (∃ (m : MsgRef) (dst : Nat), (fun (d : Device) => d.runs ∧ d.turn m 0x0013 (fieldsAre [(8, 8, dst)]) = true ∧ d.canAnswer m ∧ d.copyDst dst (64 * d.fault.log.length) = true ∧ Memory.wf d.mem = true) (aQueue (faulty (fun f => { f with log := [aRec 7 5] })) ⟨5, 7⟩ 0x0013 (zeros 8 ++ u64 (0x4000)))) := by
  refine ⟨?_, ?_, ?_, ?_, ?_, ?_, ?_, ?_, ?_, ?_, ?_, ?_, ?_, ?_⟩
  · refine ⟨aRec 7 3, [aRec 8 2], 1, ?_⟩
    decide +kernel
  · refine ⟨aRec 5000 2, aRec 0 1, [], 0, ?_⟩
    exact full_recorder
  · refine ⟨aRec 5000 0, [], ?_⟩
    exact full_recorder0
  · refine ⟨0x9_0000_0003, ?_⟩
    decide +kernel
  · refine ⟨0x5_0000_0003, ?_⟩
    decide +kernel
  · refine ⟨aRec 7 5, [], ?_⟩
    decide +kernel
  · refine ⟨2, 0, ?_⟩
    decide +kernel
  · refine ⟨aDump, [], 0, ?_⟩
    decide +kernel
  · refine ⟨⟨5, 7⟩, 1, aDump, ?_⟩
    decide +kernel
  · refine ⟨⟨5, 7⟩, 1, 0x4000, aDump, ?_⟩
    exact crash_read_ready
  · refine ⟨⟨5, 7⟩, 1, 0x4000, ?_⟩
    decide +kernel
  · refine ⟨⟨5, 7⟩, 1, 0x4001, ?_⟩
    decide +kernel
  · refine ⟨⟨5, 7⟩, 1, ?_⟩
    decide +kernel
  · refine ⟨⟨5, 7⟩, 0x4000, ?_⟩
    decide +kernel

theorem wit_PowerAndTelemetry :
    (∃ (mv da : List Nat), (∀ r : Fin 15, railOut r.val (mv.getD r.val 0) = false) ∧ (∀ r : Fin 4, da.getD r.val 0 ≤ 5200) ∧ (fun (d : Device) => d.mgmt.powered = true ∧ d.mgmt.samples < 10 ∧ d.regsWf ∧ d.mgmt.outV = List.replicate 15 0 ∧ d.mgmt.outI = List.replicate 4 0) (ready)) ∧
    (∃ (mv da : List Nat) (r n : Nat), r < 15 ∧ railOut r (mv.getD r 0) = true ∧ (∀ q : Fin 4, da.getD q.val 0 ≤ 5200) ∧ (fun (d : Device) => d.mgmt.powered = true ∧ d.mgmt.samples < 10 ∧ d.regsWf ∧ d.mgmt.outV = setNth (List.replicate 15 0) r 4 ∧ d.mgmt.outI = List.replicate 4 0 ∧ d.tripped = false ∧ d.fault.fmap = [] ∧ d.packageContained = false ∧ d.errq 4 = { waiting := [], handling := none, suspended := [], arrivals := n }) (ready.updMgmt (fun m => { m with outV := setNth (List.replicate 15 0) 9 4 }))) ∧
    ((fun (d : Device) => d.mgmt.powered = true ∧ d.mgmt.samples = 10 ∧ d.regsWf) (ready.updMgmt (fun m => { m with samples := 10, energy := 13950000000 }))) ∧
    (∃ (temps : List (Nat × Nat)), (∀ k : Fin 6, (temps.getD k.val (0, 0)).1 ≤ 110) ∧ (fun (d : Device) => d.mgmt.powered = true ∧ d.regsWf) (ready)) ∧
    (∃ (temps : List (Nat × Nat)) (hot place n : Nat), temps.head? = some (hot, place) ∧ 110 < hot ∧ (fun (d : Device) => d.mgmt.powered = true ∧ d.inReset = true ∧ d.regsWf ∧ d.tripped = false ∧ d.fault.fmap = [] ∧ d.packageContained = false ∧ d.errq 4 = { waiting := [], handling := none, suspended := [], arrivals := n }) (Device.reset.updMgmt (fun m => { m with powered := true, perst := true }))) ∧
    (∃ (k : Fin 16) (t : Nat), (fun (d : Device) => d.runs ∧ d.regsWf ∧ d.mgmt.stackTemp.length = 16) (ready)) ∧
    (∃ (freq pw : Nat), 300 ≤ freq ∧ freq ≤ 600 ∧ 300 ≤ pw ∧ pw ≤ 600 ∧ (fun (d : Device) => d.runs ∧ d.mgmt.fw = true ∧ d.tripped = false ∧ d.regsWf ∧ d.fld Reg.FREQ_CAP Fd.FREQ_CAP_MHZ = freq ∧ d.fld (Reg.DIE_CLOCK 0) Fd.DIE_CLOCK_POWER_MHZ = pw) (managed (fun m => { m with vmode := [(0, 0x14), (1, 0x14)], history := [(5, false)], hot := [96, 30, 30, 30, 30, 30] }))) ∧
    (∃ (k : Fin 4) (f : Nat), f ≤ 600 ∧ (fun (d : Device) => d.runs ∧ d.regsWf ∧ d.tripped = false ∧ d.mgmt.raising.get? k.val = some f ∧ d.clamped k.val = false ∧ Map.rising d.mgmt.raising = true) (managed (fun m => { m with raising := [(1, 575)], raisedAt := [(1, 5)] }))) ∧
    (∃ (k : Fin 4) (na : Bool) (t mv : Nat), (fun (d : Device) => d.runs ∧ d.regsWf ∧ d.mgmt.raisedAt.get? k.val = some t ∧ d.mgmt.vddBefore.get? k.val = some mv ∧ mv < 2 ^ 10 ∧ Map.rising d.mgmt.raising = true) (managed (fun m => { m with raising := [(1, 575)], raisedAt := [(1, 5)], vddBefore := [(1, 750)] }))) ∧
    (∃ (k : Fin 4) (t : Nat), (fun (d : Device) => d.runs ∧ d.mgmt.raisedAt.get? k.val = some t ∧ (d.fld Reg.VR_STATUS Fd.VR_STATUS_NO_RESPONSE).testBit k.val = true) (managed (fun m => { m with raising := [(1, 575)], raisedAt := [(1, 5)] }) |>.setReg Reg.VR_STATUS 0x1F)) ∧
    (∃ (st : List Nat), (fun (d : Device) => d.runs ∧ d.regsWf) (ready)) ∧
    (∃ (st : List Nat), (fun (d : Device) => d.runs ∧ d.regsWf) (ready.setFld Reg.VR_STATUS Fd.VR_STATUS_ALERT 1)) ∧
    (∃ (v : Word), 700 ≤ v.toNat ∧ v.toNat ≤ 1400 ∧ (fun (d : Device) => d.runs ∧ d.regsWf) (ready)) ∧
    (∃ (v : Word), v.toNat < 2 ^ 11 ∧ (v.toNat < 700 ∨ 1400 < v.toNat) ∧ (fun (d : Device) => d.runs) (ready)) ∧
    (∃ (v : Word), v.toNat % 25 = 0 ∧ 300 ≤ v.toNat ∧ v.toNat ≤ 600 ∧ (fun (d : Device) => d.runs ∧ d.regsWf) (ready)) ∧
    (∃ (v : Word), v.toNat < 2 ^ 10 ∧ (v.toNat % 25 ≠ 0 ∨ v.toNat < 300 ∨ 600 < v.toNat) ∧ (fun (d : Device) => d.runs) (ready)) ∧
    ((fun (d : Device) => d.runs) (ready)) ∧
    (∃ (x : Byte), (fun (d : Device) => d.runs ∧ d.mgmt.fw = true ∧ d.mgmt.crashed = false) (managed id)) ∧
    (∃ (x : Byte) (n e r z c : Nat), (fun (d : Device) => d.runs ∧ d.mgmt.fw = true ∧ d.mgmt.crashed = false ∧ d.mgmt.eid = e ∧ d.mgmt.readings.getD (n - 1) 0 = r ∧ d.mgmt.readings.getD 58 0 = z ∧ d.mgmt.bmcCap = c) (managed id)) ∧
    (∃ (n v : Nat), (fun (d : Device) => d.runs ∧ d.mgmt.fw = true ∧ d.mgmt.crashed = false) (managed id)) := by
  refine ⟨?_, ?_, ?_, ?_, ?_, ?_, ?_, ?_, ?_, ?_, ?_, ?_, ?_, ?_, ?_, ?_, ?_, ?_, ?_, ?_⟩
  · refine ⟨okMv, List.replicate 15 100, ?_⟩
    decide +kernel
  · refine ⟨setNth okMv 9 2000, List.replicate 15 100, 9, 0, ?_⟩
    decide +kernel
  · decide +kernel
  · refine ⟨[(104, 3), (97, 0), (100, 0), (30, 0), (30, 0), (30, 0)], ?_⟩
    decide +kernel
  · refine ⟨[(111, 7)], 111, 7, 0, ?_⟩
    decide +kernel
  · refine ⟨3, 96, ?_⟩
    decide +kernel
  · refine ⟨600, 300, ?_⟩
    decide +kernel
  · refine ⟨1, 575, ?_⟩
    decide +kernel
  · refine ⟨1, false, 5, 750, ?_⟩
    decide +kernel
  · refine ⟨1, 5, ?_⟩
    decide +kernel
  · refine ⟨[1, 2, 3, 4], ?_⟩
    decide +kernel
  · refine ⟨[], ?_⟩
    decide +kernel
  · refine ⟨700, ?_⟩
    decide +kernel
  · refine ⟨699, ?_⟩
    decide +kernel
  · refine ⟨325, ?_⟩
    decide +kernel
  · refine ⟨330, ?_⟩
    decide +kernel
  · decide +kernel
  · refine ⟨9, ?_⟩
    decide +kernel
  · refine ⟨1, 3, 0, 0, 0, 1400, ?_⟩
    decide +kernel
  · refine ⟨1, 700, ?_⟩
    decide +kernel

theorem wit_FirmwareUpdate :
    (∃ (m : MsgRef) (pl : List Byte), (fun (d : Device) => d.runs ∧ d.turn m 0x1001 (fun b => b = pl) = true ∧ d.canAnswer m ∧ d.class1Waits = false ∧ leAt pl 0 8 % 256 = 0 ∧ leAt pl 8 4 % 4096 = 0 ∧ 4096 ≤ leAt pl 8 4 ∧ leAt pl 8 4 ≤ 16777216 ∧ d.rangeHbmDdr (leAt pl 0 8) (leAt pl 8 4) = true ∧ d.poisoned (leAt pl 0 8) (leAt pl 8 4) = false ∧
        leAt (d.read (leAt pl 0 8) (leAt pl 8 4)) 8 4 = leAt pl 8 4 ∧ d.actState ≠ 2 ∧ d.fwTrial = false) (aQueue ((managed id).write 0x4008 (u32 4096)) ⟨5, 7⟩ 0x1001 ((u64 0x4000 ++ u32 4096)))) ∧
    (∃ (m : MsgRef) (pl : List Byte), (fun (d : Device) => d.runs ∧ d.turn m 0x1001 (fun b => b = pl) = true ∧ d.class1Waits = false ∧ d.poisoned (leAt pl 0 8) 16 = false ∧ leAt (d.read (leAt pl 0 8) (leAt pl 8 4)) 8 4 ≠ leAt pl 8 4) (aQueue ((managed id).write 0x4008 (u32 8192)) ⟨5, 7⟩ 0x1001 ((u64 0x4000 ++ u32 4096)))) ∧
    (∃ (m : MsgRef) (pl : List Byte), (fun (d : Device) => d.runs ∧ d.turn m 0x1001 (fun b => b = pl) = true ∧ d.class1Waits = false ∧ (leAt pl 0 8 % 256 ≠ 0 ∨ leAt pl 8 4 % 4096 ≠ 0 ∨ leAt pl 8 4 < 4096 ∨ 16777216 < leAt pl 8 4 ∨ d.rangeHbmDdr (leAt pl 0 8) (leAt pl 8 4) = false)) (aQueue (managed id) ⟨5, 7⟩ 0x1001 ((u64 0x4000 ++ u32 4097)))) ∧
    (∃ (m : MsgRef) (k : Nat) (b : List Byte), (fun (d : Device) => d.runs ∧ d.regsWf ∧ d.mgmt.staging = some (m, k, b) ∧ d.canAnswer m) (staging1)) ∧
    (∃ (m : MsgRef) (k : Nat) (b : List Byte), (fun (d : Device) => d.runs ∧ d.regsWf ∧ d.mgmt.staging = some (m, k, b) ∧ d.canAnswer m) (staging1)) ∧
    (∃ (m : MsgRef) (pl : List Byte), (fun (d : Device) => d.runs ∧ d.turn m 0x1002 (fun b => b = pl) = true ∧ d.canAnswer m ∧ d.class1Waits = false ∧ d.actState = 1) (aQueue (staged1 1) ⟨5, 7⟩ 0x1002 (([])))) ∧
    (∃ (m : MsgRef) (pl : List Byte), (fun (d : Device) => d.runs ∧ d.turn m 0x1002 (fun b => b = pl) = true ∧ d.class1Waits = false ∧ d.actState ≠ 1) (aQueue (staged1 0) ⟨5, 7⟩ 0x1002 (([])))) ∧
    (∃ (m : MsgRef) (pl : List Byte), (fun (d : Device) => d.runs ∧ d.turn m 0x1003 (fun b => b = pl) = true ∧ d.canAnswer m ∧ d.class1Waits = false ∧ d.actState = 2 ∧ d.host.holdQ = [] ∧ seqDist (d.fld Reg.MB_D2H_POS ⟨0, 32⟩) (d.fld Reg.MB_D2H_ACKED ⟨0, 32⟩) < 16383) (aQueue (staged1 2) ⟨5, 7⟩ 0x1003 (([])))) ∧
    (∃ (m : MsgRef) (pl : List Byte), (fun (d : Device) => d.runs ∧ d.turn m 0x1003 (fun b => b = pl) = true ∧ d.class1Waits = false ∧ d.actState ≠ 2) (aQueue (staged1 1) ⟨5, 7⟩ 0x1003 (([])))) ∧
    (∃ (m : MsgRef) (pl : List Byte), (fun (d : Device) => d.runs ∧ d.turn m 0x1004 (fun b => b = pl) = true ∧ d.canAnswer m ∧ d.class1Waits = false ∧ d.fwTrial = true ∧ d.flash.descs.length = 2 ∧ leAt pl 0 1 ≤ 1) (aQueue (onTrial) ⟨5, 7⟩ 0x1004 (([1])))) ∧
    (∃ (m : MsgRef) (pl : List Byte), (fun (d : Device) => d.runs ∧ d.turn m 0x1004 (fun b => b = pl) = true ∧ d.class1Waits = false ∧ d.fwTrial = false ∧ leAt pl 0 1 ≤ 1) (aQueue (staged1 0) ⟨5, 7⟩ 0x1004 (([1])))) ∧
    (∃ (m : MsgRef) (pl : List Byte) (x y : List Byte), (fun (d : Device) => d.runs ∧ d.turn m 0x1005 (fun b => b = pl) = true ∧ d.canAnswer m ∧ d.class1Waits = false ∧ d.fwImage 0 = x ∧ d.fwImage 1 = y ∧ x ≠ [] ∧ y ≠ []) (aQueue (imaged) ⟨5, 7⟩ 0x1005 (([])))) ∧
    ((fun (d : Device) => d.runs ∧ d.regsWf ∧ d.mgmt.fw = true ∧ d.phase ≤ d.b3 ∧ d.actState = 2 ∧ d.flash.descs.length = 2 ∧ d.fld Reg.GOV_STATUS Fd.GOV_STATUS_POWER_EMERG = 0 ∧ d.fld Reg.GOV_STATUS Fd.GOV_STATUS_THERMAL_EMERG = 0 ∧ d.mgmt.emergEnd + 10 ^ 9 ≤ d.now) ({ staged1 2 with now := 10 ^ 9, time := { (staged1 2).time with stepStart := 10 ^ 9 } })) ∧
    ((fun (d : Device) => d.runs ∧ (d.mgmt.fw = false ∨ d.b3 < d.phase)) ((staged1 2).updMgmt (fun m => { m with fw := false }))) ∧
    ((fun (d : Device) => d.runs ∧ d.actState = 2 ∧ (d.fld Reg.GOV_STATUS Fd.GOV_STATUS_POWER_EMERG = 1 ∨ d.fld Reg.GOV_STATUS Fd.GOV_STATUS_THERMAL_EMERG = 1)) ((staged1 2).setReg Reg.GOV_STATUS 0x1000)) ∧
    ((fun (d : Device) => d.runs ∧ d.canAnnounce ∧ d.mgmt.fw = true ∧ d.actState = 2 ∧ d.mgmt.clearSeen = false ∧ d.fld Reg.GOV_STATUS Fd.GOV_STATUS_POWER_EMERG = 1) ((staged1 2).setReg Reg.GOV_STATUS 0x1000)) ∧
    ((fun (d : Device) => d.runs ∧ d.canAnnounce ∧ d.mgmt.fw = true ∧ d.actState = 3 ∧ d.mgmt.crashed = false ∧ d.mgmt.staged < 2) (staged1 3)) ∧
    (∃ (vm : List (Option Nat)), (fun (d : Device) => d.runs ∧ d.regsWf ∧ d.mgmt.booted = false ∧ d.mgmt.fw = false ∧ d.board.strapBoot = 1) ({ ready with board := { ready.board with strapBoot := 1 } })) ∧
    ((fun (d : Device) => d.runs ∧ d.regsWf ∧ d.mgmt.fw = true ∧ d.fld Reg.MEM_STATUS Fd.MEM_STATUS_TRAINED = 1 ∧ d.fld Reg.DEV_STATUS Fd.DEV_STATUS_READY = 0) (managed id)) ∧
    (∃ (k : Fin 4) (x : Fin 4096), (fun (d : Device) => d.runs ∧ d.regsWf ∧ d.mgmt.fw = true ∧ d.fld Reg.MEM_STATUS Fd.MEM_STATUS_TRAINED = 1 ∧ d.fld Reg.DEV_STATUS Fd.DEV_STATUS_READY = 0 ∧ d.fault.fmap = []) (managed id)) := by
  refine ⟨?_, ?_, ?_, ?_, ?_, ?_, ?_, ?_, ?_, ?_, ?_, ?_, ?_, ?_, ?_, ?_, ?_, ?_, ?_, ?_⟩
  · refine ⟨⟨5, 7⟩, u64 0x4000 ++ u32 4096, ?_⟩
    decide +kernel
  · refine ⟨⟨5, 7⟩, u64 0x4000 ++ u32 4096, ?_⟩
    decide +kernel
  · refine ⟨⟨5, 7⟩, u64 0x4000 ++ u32 4097, ?_⟩
    decide +kernel
  · refine ⟨⟨5, 7⟩, 1, [1, 2], ?_⟩
    decide +kernel
  · refine ⟨⟨5, 7⟩, 1, [1, 2], ?_⟩
    decide +kernel
  · refine ⟨⟨5, 7⟩, [], ?_⟩
    decide +kernel
  · refine ⟨⟨5, 7⟩, [], ?_⟩
    decide +kernel
  · refine ⟨⟨5, 7⟩, [], ?_⟩
    decide +kernel
  · refine ⟨⟨5, 7⟩, [], ?_⟩
    decide +kernel
  · refine ⟨⟨5, 7⟩, [1], ?_⟩
    decide +kernel
  · refine ⟨⟨5, 7⟩, [1], ?_⟩
    decide +kernel
  · refine ⟨⟨5, 7⟩, [], zeros 20, zeros 20, ?_⟩
    decide +kernel
  · decide +kernel
  · decide +kernel
  · decide +kernel
  · decide +kernel
  · decide +kernel
  · refine ⟨[], ?_⟩
    decide +kernel
  · decide +kernel
  · refine ⟨1, 130, ?_⟩
    decide +kernel

theorem wit_SecurityAndAttestation :
    (∃ (m : MsgRef) (pl : List Byte), (fun (d : Device) => d.runs ∧ d.turn m 0x3002 (fun b => b = pl) = true ∧ d.canAnswer m ∧ d.class3Waits = false) (aQueue (managed id) ⟨5, 7⟩ 0x3002 (([])))) ∧
    (∃ (n : List Byte) (t : Nat), (fun (d : Device) => d.runs ∧ d.regsWf ∧ d.mgmt.nonce = some (n, t)) (owned)) ∧
    (∃ (m : MsgRef) (pl : List Byte) (k : Nat), 1 ≤ k ∧ k ≤ 4 ∧ (fun (d : Device) => d.runs ∧ d.turn m 0x3003 (fun b => b = pl) = true ∧ d.canAnswer m ∧ d.class3Waits = false ∧ d.plan.library = [] ∧ d.plan.shadow = none ∧ d.slotsInP = [] ∧ leAt pl 0 1 = k ∧ leAt pl 1 1 = 0 ∧ d.fuses.owner.getD (k - 1) none = none ∧ d.fuses.revoked.testBit (k - 1) = false) (aQueue (managed id) ⟨5, 7⟩ 0x3003 (((u8 3 ++ zeros 7 ++ leBytes 57 9 ++ zeros 121))))) ∧
    (∃ (m : MsgRef) (pl : List Byte), (fun (d : Device) => d.runs ∧ d.turn m 0x3003 (fun b => b = pl) = true ∧ d.class3Waits = false ∧ (leAt pl 0 1 = 0 ∨ 4 < leAt pl 0 1 ∨ 4 < leAt pl 1 1)) (aQueue (managed id) ⟨5, 7⟩ 0x3003 ((u8 5)))) ∧
    (∃ (m : MsgRef) (pl : List Byte), (fun (d : Device) => d.runs ∧ d.turn m 0x3003 (fun b => b = pl) = true ∧ d.class3Waits = false ∧ 1 ≤ leAt pl 0 1 ∧ leAt pl 0 1 ≤ 4 ∧ leAt pl 1 1 ≤ 4 ∧ ((d.fuses.owner.getD (leAt pl 0 1 - 1) none).isSome = true ∨ (d.slotsInP = [] ∧ leAt pl 1 1 ≠ 0))) (aQueue (owned) ⟨5, 7⟩ 0x3003 ((u8 1 ++ u8 1)))) ∧
    (∃ (m : MsgRef) (pl : List Byte) (k g : Nat) (n : List Byte) (t : Nat), (fun (d : Device) => d.runs ∧ d.turn m 0x3004 (fun b => b = pl) = true ∧ d.canAnswer m ∧ d.class3Waits = false ∧ d.plan.library = [] ∧ d.plan.shadow = none ∧ leAt pl 0 1 = k ∧ leAt pl 1 1 = g ∧ k ∈ d.slotsInP ∧ g ∈ d.slotsInP ∧ d.slotsInP ≠ [k] ∧ d.mgmt.nonce = some (n, t) ∧ d.now < t + 60 * 10 ^ 9 ∧ ed448Verify (d.keyOfSlot g) (ascii "OSOUDRA-SEC") (shake256 64 (u64 d.board.serial ++ n ++ u8 2 ++ u8 k ++ zeros 57)) ((pl.drop 8).take 114) = true) (aQueue (owned) ⟨5, 7⟩ 0x3004 (((u8 2 ++ u8 1 ++ zeros 6 ++ leBytes 114 2728422401858672813027724910587032527364934639927616112406141564834037278144545995545527633209851934086639260691768705889418656319761832530337016919830337896348358871420532182694193964409570129128518936416164223501399752361956026753740283619232409628384673555294042814221))))) ∧
    (∃ (m : MsgRef) (pl : List Byte), (fun (d : Device) => d.runs ∧ d.turn m 0x3004 (fun b => b = pl) = true ∧ d.class3Waits = false ∧ leAt pl 0 1 ∈ d.slotsInP ∧ leAt pl 1 1 ∈ d.slotsInP ∧ d.slotsInP ≠ [leAt pl 0 1] ∧ d.mgmt.nonce = none) (aQueue (owned.updMgmt (fun m => { m with nonce := none })) ⟨5, 7⟩ 0x3004 ((u8 2 ++ u8 1)))) ∧
    (∃ (m : MsgRef) (pl : List Byte), (fun (d : Device) => d.runs ∧ d.turn m 0x3004 (fun b => b = pl) = true ∧ d.class3Waits = false ∧ 1 ≤ leAt pl 0 1 ∧ leAt pl 0 1 ≤ 4 ∧ 1 ≤ leAt pl 1 1 ∧ leAt pl 1 1 ≤ 4 ∧ (leAt pl 0 1 ∉ d.slotsInP ∨ leAt pl 1 1 ∉ d.slotsInP ∨ d.slotsInP = [leAt pl 0 1])) (aQueue (owned) ⟨5, 7⟩ 0x3004 ((u8 3 ++ u8 1)))) ∧
    (∃ (m : MsgRef) (pl : List Byte) (g : Nat) (n : List Byte) (t : Nat), (fun (d : Device) => d.runs ∧ d.turn m 0x3005 (fun b => b = pl) = true ∧ d.canAnswer m ∧ d.class3Waits = false ∧ leAt pl 0 1 = 1 ∧ leAt pl 1 1 = g ∧ g ∈ d.slotsInP ∧ (∀ b ∈ (pl.drop 122).take 57, b = 0) ∧ d.debugLevel = 0 ∧ d.mgmt.nonce = some (n, t) ∧ d.now < t + 60 * 10 ^ 9) (aQueue (owned) ⟨5, 7⟩ 0x3005 (((u8 1 ++ u8 1 ++ zeros 6 ++ leBytes 114 26323357824328114783913214299900934656020286570687914262903173721603758833060912376920488433302102008037553971591301223874877555903167940251904230471983960780808527888929222733417130250012274328538772856075853838878272041291438981249579844277696415620417710226957785602742 ++ zeros 57))))) ∧
    (∃ (req : List Byte), (fun (d : Device) => d.runs ∧ d.class3Waits = false ∧ d.mgmt.spdm.length = 2 ∧ req.length ≤ 65536) (connected 0)) ∧
    (∃ (req : List Byte), (fun (d : Device) => d.runs ∧ d.class3Waits = false ∧ (d.conn 0).stage = 1 ∧ d.mgmt.spdm.length = 2 ∧ req.length ≤ 65536) (connected 1)) ∧
    (∃ (req : List Byte), (fun (d : Device) => d.runs ∧ d.class3Waits = false ∧ (d.conn 0).stage = 2 ∧ d.mgmt.spdm.length = 2 ∧ req.length ≤ 65536) (connected 2)) ∧
    (∃ (req : List Byte), (fun (d : Device) => d.runs ∧ d.class3Waits = false ∧ (d.conn 0).stage = 3 ∧ d.debugLevel ≠ 2 ∧ d.mgmt.spdm.length = 2 ∧ req.length ≤ 65536) (connected 3)) ∧
    (∃ (req : List Byte), (fun (d : Device) => d.runs ∧ d.class3Waits = false ∧ (d.conn 0).stage = 3 ∧ d.debugLevel ≠ 2 ∧ d.mgmt.spdm.length = 2 ∧ req.length ≤ 65536 ∧ leAt req 2 1 = 0) (connected 3)) ∧
    (∃ (req : List Byte), (fun (d : Device) => d.runs ∧ d.class3Waits = false ∧ (d.conn 0).stage = 3 ∧ d.debugLevel ≠ 2 ∧ d.mgmt.spdm.length = 2 ∧ req.length ≤ 65536 ∧ leAt req 2 1 = 0 ∧ leAt req 3 1 = 0) (connected 3)) ∧
    (∃ (req : List Byte), (fun (d : Device) => d.runs ∧ d.class3Waits = false ∧ (d.conn 0).stage = 3 ∧ d.debugLevel ≠ 2 ∧ d.mgmt.spdm.length = 2 ∧ req.length ≤ 65536 ∧ leAt req 2 1 = 0 ∧ 1 ≤ leAt req 3 1 ∧ leAt req 3 1 ≤ 7) (connected 3)) ∧
    (∃ (m : MsgRef) (pl : List Byte), (fun (d : Device) => d.runs ∧ d.turn m 0x3001 (fun b => b = pl) = true ∧ d.canAnswer m ∧ d.class3Waits = false ∧ d.mgmt.spdm.length = 2 ∧ Memory.wf d.mem = true ∧ d.spdmBuffer (leAt pl 0 8) (leAt pl 8 4) = true ∧ d.spdmBuffer (leAt pl 16 8) (leAt pl 12 4) = true ∧ d.poisoned (leAt pl 0 8) (leAt pl 8 4) = false ∧ 2 ≤ leAt pl 8 4 ∧
        memRead d.mem (leAt pl 0 8 + 1) = 0x84) (aQueue ((managed id).write 0x4000 [0x12, 0x84, 0, 0]) ⟨5, 7⟩ 0x3001 ((u64 0x4000 ++ u32 4 ++ u32 256 ++ u64 0x5000)))) ∧
    (∃ (m : MsgRef) (pl : List Byte), (fun (d : Device) => d.runs ∧ d.turn m 0x3001 (fun b => b = pl) = true ∧ d.class3Waits = false ∧ (leAt pl 0 8 % 256 ≠ 0 ∨ 65536 < leAt pl 8 4 ∨ leAt pl 16 8 % 256 ≠ 0 ∨ 65536 < leAt pl 12 4)) (aQueue (managed id) ⟨5, 7⟩ 0x3001 ((u64 0x4001 ++ u32 4 ++ u32 256 ++ u64 0x5000)))) := by
  refine ⟨?_, ?_, ?_, ?_, ?_, ?_, ?_, ?_, ?_, ?_, ?_, ?_, ?_, ?_, ?_, ?_, ?_, ?_⟩
  · refine ⟨⟨5, 7⟩, [], ?_⟩
    decide +kernel
  · refine ⟨zeros 32, 0, ?_⟩
    decide +kernel
  · refine ⟨⟨5, 7⟩, (u8 3 ++ zeros 7 ++ leBytes 57 9 ++ zeros 121), 3, ?_⟩
    decide +kernel
  · refine ⟨⟨5, 7⟩, u8 5, ?_⟩
    decide +kernel
  · refine ⟨⟨5, 7⟩, u8 1 ++ u8 1, ?_⟩
    decide +kernel
  · refine ⟨⟨5, 7⟩, (u8 2 ++ u8 1 ++ zeros 6 ++ leBytes 114 2728422401858672813027724910587032527364934639927616112406141564834037278144545995545527633209851934086639260691768705889418656319761832530337016919830337896348358871420532182694193964409570129128518936416164223501399752361956026753740283619232409628384673555294042814221), 2, 1, zeros 32, 0, ?_⟩
    decide +kernel
  · refine ⟨⟨5, 7⟩, u8 2 ++ u8 1, ?_⟩
    decide +kernel
  · refine ⟨⟨5, 7⟩, u8 3 ++ u8 1, ?_⟩
    decide +kernel
  · refine ⟨⟨5, 7⟩, (u8 1 ++ u8 1 ++ zeros 6 ++ leBytes 114 26323357824328114783913214299900934656020286570687914262903173721603758833060912376920488433302102008037553971591301223874877555903167940251904230471983960780808527888929222733417130250012274328538772856075853838878272041291438981249579844277696415620417710226957785602742 ++ zeros 57), 1, zeros 32, 0, ?_⟩
    decide +kernel
  · refine ⟨[0x12, 0x84, 0, 0], ?_⟩
    decide +kernel
  · refine ⟨[0x12, 0xE1, 0, 0], ?_⟩
    decide +kernel
  · refine ⟨[0x12, 0xE3, 0, 0], ?_⟩
    decide +kernel
  · refine ⟨[0x12, 0x81, 0, 0], ?_⟩
    decide +kernel
  · refine ⟨[0x12, 0x82, 0, 0, 0, 0, 16, 0], ?_⟩
    decide +kernel
  · refine ⟨[0x12, 0x83, 0, 0], ?_⟩
    decide +kernel
  · refine ⟨[0x12, 0xE0, 0, 3], ?_⟩
    decide +kernel
  · refine ⟨⟨5, 7⟩, u64 0x4000 ++ u32 4 ++ u32 256 ++ u64 0x5000, ?_⟩
    decide +kernel
  · refine ⟨⟨5, 7⟩, u64 0x4001 ++ u32 4 ++ u32 256 ++ u64 0x5000, ?_⟩
    decide +kernel

theorem wit_PowerPinsAndTap :
    (∃ (boot : Fin 4) (smb : Fin 8) (x16 : Bool), (fun (d : Device) => d.mgmt.powered = false ∧ d.mgmt.perst = false ∧ d.mgmt.staging = none) (ready.updMgmt (fun m => { m with powered := false }))) ∧
    (∃ (boot : Fin 4) (smb : Fin 8) (x16 : Bool), (fun (d : Device) => d.mgmt.powered = false ∧ d.mgmt.perst = true) (ready.updMgmt (fun m => { m with powered := false, perst := true }))) ∧
    (∃ (boot : Fin 4) (smb : Fin 8) (x16 : Bool), (fun (d : Device) => d.mgmt.powered = true ∧ d.mgmt.perst = true) (ready.updMgmt (fun m => { m with perst := true, started := false, tap := { m.tap with ir := 3 } }))) ∧
    ((fun (d : Device) => d.mgmt.powered = true) (ready)) ∧
    (∃ (pins shift : List Bool), (fun (d : Device) => d.mgmt.powered = true ∧ d.pinsFree = false) (ready)) ∧
    (∃ (pins shift : List Bool), (fun (d : Device) => d.mgmt.powered = true ∧ d.pinsFree = true) (ready.updMgmt (fun m => { m with perst := true }))) ∧
    (∃ (shift : List Bool), (fun (d : Device) => d.mgmt.powered = true ∧ d.pinsFree = true) ({ ready with board := { ready.board with strapBoot := 3 } }.updMgmt (fun m => { m with started := false }))) ∧
    (∃ (shift : List Bool), (fun (d : Device) => d.mgmt.powered = true ∧ d.pinsFree = true) ({ ready with board := { ready.board with strapBoot := 3 } }.updMgmt (fun m => { m with started := false }))) ∧
    (∃ (pins shift : List Bool), (fun (d : Device) => d.mgmt.powered = true) (ready)) ∧
    (∃ (shift : List Bool), (fun (d : Device) => d.mgmt.powered = true) (ready)) ∧
    (∃ (shift : List Bool), (fun (d : Device) => d.mgmt.powered = true) (ready)) ∧
    ((fun (d : Device) => d.mgmt.powered = true) (ready.updMgmt (fun m => { m with tap := { m.tap with ir := 5, refused := true } }))) ∧
    (∃ (code : Byte) (act : TapAction) (shift : List Bool), 0x10 ≤ code.toNat ∧ code.toNat ≤ 0xFE ∧ (fun (d : Device) => d.mgmt.powered = true ∧ ((d.fld Reg.SEC_STATUS Fd.SEC_STATUS_DEBUG = 0) ∨ 0x80 ≤ code.toNat ∧ d.fld Reg.SEC_STATUS Fd.SEC_STATUS_DEBUG = 1)) (ready.setFld Reg.SEC_STATUS Fd.SEC_STATUS_DEBUG 1)) ∧
    (∃ (code : Byte) (p : FaultPlace) (lvl : Nat) (shift : List Bool), 0x10 ≤ code.toNat ∧ (code.toNat ≤ 0x7F ∧ 1 ≤ lvl ∨ code.toNat ≤ 0xFE ∧ lvl = 2) ∧ (fun (d : Device) => d.mgmt.powered = true ∧ d.fld Reg.SEC_STATUS Fd.SEC_STATUS_DEBUG = lvl) ((celling id).setFld Reg.SEC_STATUS Fd.SEC_STATUS_DEBUG 1)) ∧
    (∃ (code : Byte) (k : Fin 4) (kind : Fin 8) (x : Fin 64) (lvl : Nat) (shift : List Bool), 0x10 ≤ code.toNat ∧ (code.toNat ≤ 0x7F ∧ 1 ≤ lvl ∨ code.toNat ≤ 0xFE ∧ lvl = 2) ∧ (fun (d : Device) => d.mgmt.powered = true ∧ d.fld Reg.SEC_STATUS Fd.SEC_STATUS_DEBUG = lvl ∧ d.mgmt.tap.stationSteps = []) ((celling id).setFld Reg.SEC_STATUS Fd.SEC_STATUS_DEBUG 1)) ∧
    (∃ (index : Nat), (fun (d : Device) => d.runs) (ready)) ∧
    (∃ (group : Nat), (fun (d : Device) => d.runs) (ready.updMem (fun m => { m with pageReqs := [1, 2] }))) := by
  refine ⟨?_, ?_, ?_, ?_, ?_, ?_, ?_, ?_, ?_, ?_, ?_, ?_, ?_, ?_, ?_, ?_, ?_⟩
  · refine ⟨1, 5, true, ?_⟩
    decide +kernel
  · refine ⟨1, 5, true, ?_⟩
    decide +kernel
  · refine ⟨3, 5, false, ?_⟩
    decide +kernel
  · decide +kernel
  · refine ⟨[true], [true, false], ?_⟩
    decide +kernel
  · refine ⟨[true, true, false], [true], ?_⟩
    decide +kernel
  · refine ⟨[true], ?_⟩
    decide +kernel
  · refine ⟨[true], ?_⟩
    decide +kernel
  · refine ⟨[true], [false], ?_⟩
    decide +kernel
  · refine ⟨List.replicate 32 false, ?_⟩
    decide +kernel
  · refine ⟨[true, true], ?_⟩
    decide +kernel
  · decide +kernel
  · refine ⟨0x80, .halt .package, [true], ?_⟩
    decide +kernel
  · refine ⟨0x7F, .package, 1, [true], ?_⟩
    decide +kernel
  · refine ⟨0x7F, 1, 2, 3, 1, [true], ?_⟩
    decide +kernel
  · refine ⟨2, ?_⟩
    decide +kernel
  · refine ⟨1, ?_⟩
    decide +kernel

theorem wit_StepRunsTheFrontCommand : ∃ s : State, s.pending = [] ∧ ∀ p < 8, s.dev.portAlanauri p = true → s.dev.portUp p = true →
    s.dev.now + 1 < (s.dev.portUnit p).lastTx + 64 := ⟨.reset, rfl, by decide +kernel⟩

theorem wit_QueueIsServedWhole : ∃ (s : State) (c : Instr), s.pending[0]? = some c := ⟨State.reset.front .cadFreeMark, .cadFreeMark, rfl⟩

theorem wit_EveryStepKeepsTheCanonicalForm : ∃ s t : State, s.dev.canonical ∧ step s = .next t :=
  ⟨State.reset.front (.pwrCapWrite 800), _, by decide +kernel, rfl⟩

theorem wit_ResetLeavesTheStatedValues : ∃ off r, findReg off = some r := ⟨Reg.CAD_MIN_GAP, _, rfl⟩

theorem wit_RegisterWrite : ∃ (off : Nat) (r : RegDef) (v : DWord), findReg off = some r ∧ r.width = 32 ∧ off % 4 = 0 ∧ off < 0x1000_0000 ∧
    off ≠ Reg.RESET_CTRL ∧ r.isLastError = false ∧ v.toNat < 2 ^ 32 ∧
    r.base ∉ (if r.perDie then [0x100030, 0x300004, 0x700004, 0x581008, 0x600004]
      else [0x2000, 0x2004, 0x2008, 0x200C, 0x2100, 0x6001004, 0x6001100, 0x6002000, 0x7002000, 0x6004018, 0x6004030, 0x100008, 0x100024,
        0x440100, 0x200004, 0x200008]) ∧
    v &&& BitVec.ofNat 64 (r.mask (fun a => a = .rsv)) = 0 ∧ Device.reset.runs ∧ Device.reset.regsWf :=
  ⟨Reg.CAD_STATUS, _, 0x10, rfl, by decide +kernel⟩

theorem wit_RefusedRegisterWrites1 : ∃ (off : Nat) (r : RegDef) (v : DWord), findReg off = some r ∧ r.width = 32 ∧ off % 4 = 0 ∧
    off < 0x1000_0000 ∧ off ≠ Reg.RESET_CTRL ∧ v.toNat < 2 ^ 32 ∧ v &&& BitVec.ofNat 64 (r.mask (fun a => a = .rsv)) ≠ 0 ∧ Device.reset.runs :=
  ⟨Reg.CAD_CTRL, _, 0x8000_0000, rfl, by decide +kernel⟩
theorem wit_RefusedRegisterWrites2 : ∃ off width : Nat, off < 0x1000_0000 ∧ (width = 8 ∨ width = 16) ∧ Device.reset.runs := ⟨0, 8, by decide +kernel⟩
theorem wit_RefusedRegisterWrites3 : ∃ off : Nat, off < 0x1000_0000 ∧ off % 4 = 0 ∧ findReg off = none ∧ wideAt off = none ∧ Device.reset.runs :=
  ⟨0x0FFF_FFFC, by decide +kernel⟩
theorem wit_RefusedRegisterWrites4 : ∃ (d : Device) (code : Nat), d.regsWf ∧ code < 2 ^ 16 := ⟨Device.reset, 0x0103, by decide +kernel⟩

theorem wit_HalvesOfWideRegisters0 : ∃ off width : Nat, off < 0x1000_0000 ∧ (width = 8 ∨ width = 16 ∨ ((width = 32 ∨ width = 64) ∧ off % (width / 8) ≠ 0)) ∧ Device.reset.runs := ⟨0x2002, 32, by decide +kernel⟩
theorem wit_HalvesOfWideRegisters : ∃ (off : Nat) (r : RegDef), findReg off = some r ∧ r.width = 64 ∧ off % 8 = 0 ∧ off < 0x0FFF_FFF8 ∧ Device.reset.runs :=
  ⟨Reg.CAL_EPOCH_SEC, _, rfl, by decide +kernel⟩

set_option maxRecDepth 20000 in
theorem wit_ClearingALastError : ∃ (off : Nat) (r : RegDef), findReg off = some r ∧ r.isLastError = true ∧ Device.reset.runs ∧ Device.reset.regsWf :=
  ⟨lastErrorReg 0x10 4, _, rfl, by decide +kernel⟩

theorem wit_CadenceMarksAreAccepted1 : ∃ (src t : Nat) (c : Instr) (d : Device), ((c, src) = (.cadPinEdge t, 1) ∨ (c, src) = (.cadHostMark t, 3)) ∧
    d.runs ∧ d.srcSel = src ∧ ∀ p, d.time.lastAccepted = some p → d.fld Reg.CAD_MIN_GAP Fd.CAD_MIN_GAP_MIN_GAP_NS ≤ max d.now t - p :=
  ⟨1, 5, .cadPinEdge 5, Device.reset.setReg Reg.CAD_CTRL 1, .inl rfl, by decide +kernel, by decide +kernel, fun p h => by cases h⟩
theorem wit_CadenceMarksAreAccepted2 : ∃ d : Device, d.runs ∧ d.srcSel = 4 ∧ d.time.lost = false ∧ d.time.lastAccepted = some d.time.lastGen ∧
    d.fld Reg.CAD_MIN_GAP Fd.CAD_MIN_GAP_MIN_GAP_NS ≤ d.fld Reg.CAD_FREE_PERIOD Fd.CAD_FREE_PERIOD_PERIOD_NS :=
  ⟨{ Device.reset.setReg Reg.CAD_CTRL 4 with time := { Device.reset.time with lastAccepted := some 0, lastGen := 0 } }, by decide +kernel⟩

theorem wit_CadenceControlWrites1 : ∃ (v : Word) (d : Device), v.toNat < 64 ∧ v.toNat % 8 ≤ 4 ∧ d.runs ∧ d.regsWf ∧
    (v.toNat % 8 = 2 → d.fld (Reg.PORT_CTRL (v.toNat / 8)) Fd.PORT_CTRL_MODE = 0) := ⟨10, Device.reset.setReg (Reg.PORT_CTRL 1) 0, by decide +kernel⟩
theorem wit_CadenceControlWrites2 : ∃ (v : Word) (d : Device), v.toNat < 64 ∧ v.toNat % 8 = 2 ∧ d.runs ∧
    d.fld (Reg.PORT_CTRL (v.toNat / 8)) Fd.PORT_CTRL_MODE = 1 := ⟨10, Device.reset.setFld (Reg.PORT_CTRL 1) Fd.PORT_CTRL_MODE 1, by decide +kernel⟩
theorem wit_CadenceControlWrites3 : ∃ (v : Word) (d : Device), v.toNat < 32 ∧ (v.toNat % 4 = 0 ∨ v.toNat % 4 = 2) ∧ d.runs ∧ d.regsWf :=
  ⟨2, Device.reset, by decide +kernel⟩

theorem wit_AnAcceptedMarkBeginsAStep : ∃ (m : PendingMark) (ms : List PendingMark) (d : Device), d.runs ∧ d.regsWf ∧ d.time.pending = m :: ms ∧
    m.step = none ∧ d.plan.active = none ∧ d.plan.switch = .none ∧ d.shadowState ≠ 3 ∧ d.str.tasks = [] ∧ d.emb = [] ∧ d.pack = [] ∧
    d.host.parkCause = none ∧ d.groupEnabled = false :=
  ⟨{ time := 9, src := 4, cal := 0 }, [], { Device.reset with time := { Device.reset.time with pending := [{ time := 9, src := 4, cal := 0 }] } },
    by decide +kernel⟩

theorem wit_ThePredictionIsTheMiddleOfTheHistory : ∃ d : Device, d.regsWf ∧ d.time.history.length = 8 ∧ ∀ h ∈ d.time.history, h < 2 ^ 32 :=
  ⟨Device.reset, by decide +kernel⟩

theorem wit_ALostSourceIsCounted1 : ∃ d : Device, d.runs ∧ d.regsWf ∧ (d.srcSel = 1 ∨ d.srcSel = 2 ∨ d.srcSel = 3) ∧ d.time.lost = false ∧
    (∃ p, d.time.lastAccepted = some p ∧ d.now ≤ p + 4 * d.pred) ∧ d.fld Reg.CAD_MIN_GAP Fd.CAD_MIN_GAP_MIN_GAP_NS ≤ 4 * d.pred :=
  ⟨{ Device.reset.setReg Reg.CAD_CTRL 3 with time := { Device.reset.time with lastAccepted := some 0 } },
    by decide +kernel, by decide +kernel, by decide +kernel, by decide +kernel, ⟨0, by decide +kernel⟩, by decide +kernel⟩
theorem wit_ALostSourceIsCounted2 : ∃ d : Device, d.runs ∧ (d.srcSel = 1 ∨ d.srcSel = 2 ∨ d.srcSel = 3) ∧ d.time.lost = true ∧
    (∃ p, d.time.lastAccepted = some p ∧ d.time.lastGen = p ∧ d.now ≤ p + d.pred) ∧ d.fld Reg.CAD_MIN_GAP Fd.CAD_MIN_GAP_MIN_GAP_NS ≤ d.pred :=
  ⟨{ Device.reset.setReg Reg.CAD_CTRL 1 with time := { Device.reset.time with lastAccepted := some 0, lastGen := 0, lost := true } },
    by decide +kernel, by decide +kernel, by decide +kernel, ⟨0, by decide +kernel⟩, by decide +kernel⟩

theorem wit_PhaseAndSegments1 : ∃ d : Device, 0 < d.pred := ⟨Device.reset, by decide +kernel⟩
theorem wit_PhaseAndSegments2 : ∃ d : Device, d.runs ∧ d.time.segSeen < 2 := ⟨Device.reset, by decide +kernel⟩
theorem wit_PhaseAndSegments3 : ∃ d : Device, d.runs ∧ d.time.segSeen = 2 ∧ d.plan.active = none ∧ d.emb = [] :=
  ⟨{ Device.reset with time := { Device.reset.time with segSeen := 2 } }, by decide +kernel⟩

theorem wit_CalendarEdges1 : ∃ d : Device, d.runs ∧ d.regsWf ∧ d.fld Reg.CAL_CTRL Fd.CAL_CTRL_SRC = 2 ∧ d.fld Reg.CAL_STATUS Fd.CAL_STATUS_ARMED = 1 ∧
    (d.reg Reg.CAL_EPOCH_SEC).toNat * 1000000000 < 2 ^ 64 :=
  ⟨((Device.reset.setReg Reg.CAL_CTRL 2).setFld Reg.CAL_STATUS Fd.CAL_STATUS_ARMED 1).setReg Reg.CAL_EPOCH_SEC 12, by decide +kernel⟩
theorem wit_CalendarEdges2 : ∃ (v : Nat) (d : Device), v + 1000000000 < 2 ^ 64 ∧ d.runs ∧ d.regsWf ∧ d.fld Reg.CAL_CTRL Fd.CAL_CTRL_SRC = 2 ∧
    d.fld Reg.CAL_STATUS Fd.CAL_STATUS_ARMED = 0 ∧ d.time.ppsValue = some v :=
  ⟨5, { Device.reset.setReg Reg.CAL_CTRL 2 with time := { Device.reset.time with ppsValue := some 5 } }, by decide +kernel⟩
theorem wit_CalendarEdges3 : ∃ (p : Nat) (d : Device), d.runs ∧ d.regsWf ∧ d.fld Reg.CAL_CTRL Fd.CAL_CTRL_SRC = 2 ∧ d.calValid = true ∧ d.time.ppsLast = some p :=
  ⟨5, { (Device.reset.setReg Reg.CAL_CTRL 2).setFld Reg.CAL_STATUS Fd.CAL_STATUS_VALID 1 with time := { Device.reset.time with ppsLast := some 5 } }, by decide +kernel⟩
theorem test_illformed_registers : (([
  .registerWrite 0x1000_0000 32 0,
  .registerWrite 0x2000 24 0,
  .registerWrite 0x2000 8 256,
  .reg64LowHalfRead ⟨0x1000_0000, 32⟩,
  .reg64LowHalfRead ⟨0x2004, 24⟩,
  .reg64LowHalfWrite 0x1000_0000 0,
  .reg64LowHalfWrite 0x2004 0,
  .reg64HighHalfWrite 0x1000_0004 0,
  .reg64HighHalfWrite 0x2000 0,
  .lastErrorClear 0x1000_0000,
  .lastErrorClear 0x2002] : List Instr).all (fun i => !i.wf)) = true := by decide +kernel
theorem test_illformed_plans : (([
  .planStore ⟨2 ^ 32, 0⟩ 0 0 0,
  .planStore ⟨0, 2 ^ 32⟩ 0 0 0,
  .planStore ⟨0, 0⟩ 256 0 0,
  .planStore ⟨0, 0⟩ 0 (2 ^ 64) 0,
  .planStore ⟨0, 0⟩ 0 0 (2 ^ 32),
  .planLoad ⟨0, 0⟩ 256,
  .planLoad ⟨2 ^ 32, 0⟩ 0,
  .planArm ⟨0, 0⟩ (2 ^ 32) 0,
  .planArm ⟨0, 0⟩ 0 (2 ^ 16),
  .planArm ⟨0, 2 ^ 32⟩ 0 0,
  .planDisarm ⟨2 ^ 32, 0⟩,
  .planEvict ⟨0, 0⟩ 256,
  .planEvict ⟨2 ^ 32, 0⟩ 0] : List Instr).all (fun i => !i.wf)) = true := by decide +kernel
theorem test_illformed_tasks : (([
  .xstr ⟨0, 0⟩ 0 false 0 1 0,
  .taskCommit (2 ^ 32) [],
  .taskCommit 0 [2 ^ 56],
  .abortRequestReceive (2 ^ 32),
  .abortOrderReceive 0 (2 ^ 32),
  .abortReport (2 ^ 32),
  .taskSubmit ⟨0, 0⟩ 256 0 0 (List.replicate 8 0),
  .taskSubmit ⟨0, 0⟩ 0 256 0 (List.replicate 8 0),
  .taskSubmit ⟨0, 0⟩ 0 0 (2 ^ 16) (List.replicate 8 0),
  .taskSubmit ⟨0, 0⟩ 0 0 0 (List.replicate 7 0),
  .taskSubmit ⟨2 ^ 32, 0⟩ 0 0 0 (List.replicate 8 0),
  .taskAbort ⟨0, 0⟩ (2 ^ 32),
  .taskAbort ⟨2 ^ 32, 0⟩ 0,
  .taskQuery ⟨0, 0⟩ (2 ^ 32),
  .taskQuery ⟨2 ^ 32, 0⟩ 0] : List Instr).all (fun i => !i.wf)) = true := by decide +kernel
theorem test_illformed_stations : (([
  .fabricLinkDown 15,
  .groomerPatrol (.memory (2 ^ 56)) 0 ⟨false, false, false⟩,
  .batchCloseBudget 0 0 (2 ^ 32),
  .matchSearchJob 0 0 [4]] : List Instr).all (fun i => !i.wf)) = true := by decide +kernel
theorem test_illformed_links : (([
  .portTrained 0 (2 ^ 32),
  .flitReceive 0 0 (List.replicate 255 0),
  .roceWriteIn ⟨0, 2 ^ 24, 0, 0, 0, 0, 0, [], true, false⟩,
  .roceWriteIn ⟨0, 0, 0, 2 ^ 24, 0, 0, 0, [], true, false⟩,
  .roceWriteIn ⟨0, 0, 0, 0, 0, 0, 0, List.replicate 4097 0, true, false⟩,
  .roceSendIn ⟨0, 2 ^ 24, 0, 0, 0, 0, 0, [], true, false⟩,
  .roceAckIn 0 (2 ^ 24) 0 0 true,
  .roceAckIn 0 0 (2 ^ 24) 0 true,
  .roceAckIn 0 0 0 256 true,
  .roceCnpIn 0 (2 ^ 24) true,
  .feedFrame ⟨0, false, 2 ^ 32, 0, 0, 0, [], true, 0, 60⟩,
  .feedFrame ⟨0, true, 2 ^ 128, 0, 0, 0, [], true, 0, 60⟩,
  .feedFrame ⟨0, false, 0, 2 ^ 16, 0, 0, [], true, 0, 60⟩,
  .feedFrame ⟨0, false, 0, 0, 2 ^ 32, 0, [], true, 0, 60⟩,
  .feedFrame ⟨0, false, 0, 0, 0, 2 ^ 16, [], true, 0, 60⟩,
  .ptpSyncIn 0 ⟨2 ^ 16, 0, 0, 0, false⟩,
  .ptpFollowUpIn 0 ⟨2 ^ 16, 0, 0, 0, false⟩,
  .ptpDelayRespIn 0 ⟨2 ^ 16, 0, 0, 0, false⟩] : List Instr).all (fun i => !i.wf)) = true := by decide +kernel
theorem test_illformed_payloads : (([
  .portAddr ⟨0, 0⟩ (List.replicate 225 0),
  .qpSetup ⟨0, 0⟩ (List.replicate 225 0),
  .qpDestroy ⟨0, 0⟩ (List.replicate 225 0),
  .mrSet ⟨0, 0⟩ (List.replicate 225 0),
  .mrClear ⟨0, 0⟩ (List.replicate 225 0),
  .feedBind ⟨0, 0⟩ (List.replicate 225 0),
  .feedUnbind ⟨0, 0⟩ (List.replicate 225 0),
  .fwStage ⟨0, 0⟩ (List.replicate 225 0),
  .fwActivate ⟨0, 0⟩ (List.replicate 225 0),
  .fwCancel ⟨0, 0⟩ (List.replicate 225 0),
  .fwCommit ⟨0, 0⟩ (List.replicate 225 0),
  .fwInfo ⟨0, 0⟩ (List.replicate 225 0),
  .spdmMessage ⟨0, 0⟩ (List.replicate 225 0),
  .secNonce ⟨0, 0⟩ (List.replicate 225 0),
  .ownerProvision ⟨0, 0⟩ (List.replicate 225 0),
  .ownerRevoke ⟨0, 0⟩ (List.replicate 225 0),
  .debugUnlock ⟨0, 0⟩ (List.replicate 225 0)] : List Instr).all (fun i => !i.wf)) = true := by decide +kernel
theorem test_illformed_messages : (([
  .portAddr ⟨2 ^ 32, 0⟩ [],
  .qpSetup ⟨2 ^ 32, 0⟩ [],
  .qpDestroy ⟨2 ^ 32, 0⟩ [],
  .mrSet ⟨2 ^ 32, 0⟩ [],
  .mrClear ⟨2 ^ 32, 0⟩ [],
  .feedBind ⟨2 ^ 32, 0⟩ [],
  .feedUnbind ⟨2 ^ 32, 0⟩ [],
  .fwStage ⟨2 ^ 32, 0⟩ [],
  .fwActivate ⟨2 ^ 32, 0⟩ [],
  .fwCancel ⟨2 ^ 32, 0⟩ [],
  .fwCommit ⟨2 ^ 32, 0⟩ [],
  .fwInfo ⟨2 ^ 32, 0⟩ [],
  .spdmMessage ⟨2 ^ 32, 0⟩ [],
  .secNonce ⟨2 ^ 32, 0⟩ [],
  .ownerProvision ⟨2 ^ 32, 0⟩ [],
  .ownerRevoke ⟨2 ^ 32, 0⟩ [],
  .debugUnlock ⟨2 ^ 32, 0⟩ []] : List Instr).all (fun i => !i.wf)) = true := by decide +kernel
theorem test_illformed_memory : (([
  .atsCompletion (2 ^ 52) 0 true true,
  .atsCompletion 0 (2 ^ 52) true true,
  .atsInvalidate 32 0 0,
  .atsInvalidate 0 (2 ^ 64) 0,
  .memoryTrainingEnd 0 [1, 2, 3, 4, 5] none none,
  .pageRequestResponse 512] : List Instr).all (fun i => !i.wf)) = true := by decide +kernel
theorem test_illformed_host : (([
  .bar4Read (2 ^ 40) 1,
  .bar4Write (2 ^ 40) [0],
  .bar4Resize 64,
  .bar2InvalidAccess 0x0100_0000 32 (.write 0),
  .bar2InvalidAccess 0 24 (.write 0),
  .h2dDoorbell 0 [(8192, List.replicate 256 0)],
  .h2dDoorbell 0 [(0, [])],
  .attach ⟨0, 0⟩ (2 ^ 32) 0,
  .attach ⟨0, 0⟩ 0 256,
  .attach ⟨2 ^ 32, 0⟩ 0 0,
  .detach ⟨2 ^ 32, 0⟩,
  .ping ⟨2 ^ 32, 0⟩ 0,
  .deviceResetDone [4]] : List Instr).all (fun i => !i.wf)) = true := by decide +kernel
theorem test_illformed_faults : (([
  .errqEntry 0 ⟨2 ^ 16, 0, .package, 0, false, 0⟩,
  .errqEntry 0 ⟨0, 6, .package, 0, false, 0⟩,
  .errqEntry 0 ⟨0, 0, .package, 2 ^ 32, false, 0⟩,
  .crashInfo ⟨2 ^ 32, 0⟩,
  .crashRead ⟨0, 0⟩ 256 0,
  .crashRead ⟨0, 0⟩ 0 (2 ^ 64),
  .crashRead ⟨2 ^ 32, 0⟩ 0 0,
  .crashRelease ⟨0, 0⟩ 256,
  .crashRelease ⟨2 ^ 32, 0⟩ 0,
  .fatalLogRead ⟨0, 0⟩ (2 ^ 64),
  .fatalLogRead ⟨2 ^ 32, 0⟩ 0] : List Instr).all (fun i => !i.wf)) = true := by decide +kernel
theorem test_illformed_management : (([
  .railSample [] (List.replicate 15 0),
  .railSample (List.replicate 15 0) [],
  .tempSample [],
  .vrAlert true [2 ^ 16],
  .getPdr (2 ^ 32) true,
  .getSensorReading (2 ^ 16) true,
  .getStateSensorReadings (2 ^ 16) true,
  .setNumericEffecterValue (2 ^ 16) 0 true,
  .setNumericEffecterValue 0 (2 ^ 16) true,
  .getNumericEffecterValue (2 ^ 16) true,
  .firmwareStart [none]] : List Instr).all (fun i => !i.wf)) = true := by decide +kernel
theorem test_wellformed : ([.registerWrite 0x2008 32 5, .planArm ⟨3, 4⟩ 7 0, .roceAckIn 0 1 2 3 true, .bar4Write 0 [1], .tempSample (List.replicate 6 (0, 0))] : List Instr).all Instr.wf = true := by decide +kernel
/-- The check value of CRC-32C, published with the polynomial. -/
theorem test_crc32c_check_value : crc32c (ascii "123456789") = 0xE3069283 := by decide +kernel

/-- The first 8 bytes of SHAKE256 of the empty message, of FIPS 202. -/
theorem test_shake256_empty : shake256 8 [] = leBytes 8 0x138da80b2bddb946 := by decide +kernel

/-- The first 8 bytes of SHA3-512 of "abc", of FIPS 202. -/
theorem test_sha3_512_abc : (sha3_512 (ascii "abc")).take 8 = leBytes 8 0x8a16571a0b8551b7 := by decide +kernel

/-- 1 + 2^-24 is half way between two FP32 values and goes to the even one; 1 + 3 x 2^-24 goes up. -/
theorem test_fp32_rounds_to_even : toF32 ((f32 0x3F80_0000).add (f32 0x3380_0000)) = 0x3F80_0000 ∧
    toF32 ((f32 0x3F80_0001).add (f32 0x3380_0000)) = 0x3F80_0002 := by decide +kernel

/-- The sum of opposite infinities is the canonical NaN. -/
theorem test_fp32_inf_minus_inf : toF32 ((f32 0x7F80_0000).add (f32 0xFF80_0000)) = 0x7FC0_0000 := by decide +kernel

/-- An idle step moves the timebase on. -/
theorem test_idle_step : (match step .reset with | .next t => decide (t = { State.reset with dev := { Device.reset with now := 1 } }) | _ => false) = true := by
  decide +kernel

/-- The example of R178: ADDI w5, w3, −4 is the word 0xFFFC_1941. -/
theorem test_kalxel_addi : kalxelInstr ⟨0, 1, 2, 3⟩ 0xFFFC_1941 = some (.addi ⟨0, 1, 2, 3⟩ 5 3 0xFFFC) := by decide +kernel

/-- R177, R179: a Store, a Branch and a Reg4 word, field by field: SH of w7 at w2 + 4; BLTU w1, w2, −1; FMSUB w1, w2, w3, w4. -/
theorem test_kalxel_formats :
    kalxelInstr ⟨0, 0, 0, 0⟩ (0x11 + 7 * 2 ^ 6 + 2 * 2 ^ 11 + 4 * 2 ^ 16) = some (.sh ⟨0, 0, 0, 0⟩ 7 2 4) ∧
    kalxelInstr ⟨0, 0, 0, 0⟩ (0x18 + 1 * 2 ^ 6 + 2 * 2 ^ 11 + 0xFFFF * 2 ^ 16) = some (.bltu ⟨0, 0, 0, 0⟩ 1 2 0xFFFF) ∧
    kalxelInstr ⟨0, 0, 0, 0⟩ (0x1D + 1 * 2 ^ 6 + 2 * 2 ^ 11 + 3 * 2 ^ 16 + 4 * 2 ^ 21 + 1 * 2 ^ 26) = some (.fmsub ⟨0, 0, 0, 0⟩ 1 2 3 4) := by decide +kernel

/-- R178: a reserved OP, a nonzero RSV field and an odd register of a pair are no instruction. -/
theorem test_kalxel_refused :
    ([0x29, 0x28 + 3 * 2 ^ 21 + 1 * 2 ^ 6, 0x20 + 1 * 2 ^ 6] : List Nat).all (fun w => (kalxelInstr ⟨0, 0, 0, 0⟩ w).isNone) = true := by decide +kernel

/-- R132: a SETA and an XSTR word, field by field; a reserved opcode is no instruction. -/
theorem test_piste_words :
    pisteInstr ⟨0, 1⟩ (0x01 + 2 * 2 ^ 6 + 9 * 2 ^ 8 + (2 ^ 40 - 8) * 2 ^ 24) = some (.seta ⟨0, 1⟩ 2 9 (-8)) ∧
    pisteInstr ⟨0, 1⟩ (0x07 + 3 * 2 ^ 6 + 2 ^ 8 + 16 * 2 ^ 12 + 5 * 2 ^ 24 + 64 * 2 ^ 40) = some (.xstr ⟨0, 1⟩ 3 true 16 5 64) ∧
    pisteInstr ⟨0, 1⟩ 0x0B = none := by decide +kernel

/-- The example of R482: physical address 0x0100_2340_1ABC of a population of 16 channels. -/
theorem test_ddr_interleaving : ddrSpot 16 (0x0100_2340_1ABC - ddrBase) = { unit := 4, channel := 5, addr := 0x0234_0ABC } := by decide +kernel

/-- The examples beside the ball counts of R611. -/
theorem test_ball_names : ballName 104 4 = "EJ4" ∧ ballNet 104 4 = some (.signal "CAD_P") ∧ ballName 105 52 = "EK52" ∧
    ballNet 105 52 = some (.signal "D3_DQS_B4_T") ∧ ballNet 30 20 = some vss ∧ ballNet 30 21 = some (.supply "VDD_C0") := by
  decide +kernel
end Sys2Proof.Tests.Slice0
end

section
/-!
SUPPORT. Every operation, every command and every step keeps memory and the register file in canonical form (R14, R499): one lemma per
operation that answers a device, in the order of the model, each proved along the branches of the operation from the lemmas before it.
-/

namespace Sys2Proof.Machine

/-- Memory and the register file are in canonical form, as a predicate that keeps its name in goals. -/
def Device.Canon (d : Device) : Prop := d.canonical

/-- The device of an answered pair, where there is one, is in canonical form. -/
def OptCanon {α : Type} : Option (α × Device) → Prop
  | none => True
  | some r => r.2.Canon

/-- The device answered, where there is one, is in canonical form. -/
def OptDevCanon : Option Device → Prop
  | none => True
  | some d => d.Canon

/-- The device answered beside a result, unless a code is answered, is in canonical form. -/
def SumCanon {α β : Type} : α ⊕ (β × Device) → Prop
  | .inl _ => True
  | .inr r => r.2.Canon

/-- The outcome of a command that starts in `s` keeps the canonical form. -/
def KeepsCanon (s : State) (o : Host.Outcome State Fault Refusal) : Prop :=
  s.dev.Canon → ∀ t, o = .next t → t.dev.Canon

theorem OptCanon.of_eq {α : Type} {o : Option (α × Device)} {x : α} {d : Device} (h : OptCanon o) (he : o = some (x, d)) : d.Canon := by
  subst he; exact h

theorem OptDevCanon.of_eq {o : Option Device} {d : Device} (h : OptDevCanon o) (he : o = some d) : d.Canon := by
  subst he; exact h

theorem SumCanon.of_eq {α β : Type} {o : α ⊕ (β × Device)} {x : β} {d : Device} (h : SumCanon o) (he : o = .inr (x, d)) : d.Canon := by
  subst he; exact h

theorem Device.Canon.of_eq {α : Type} {e : α × Device} {x : α} {d : Device} (h : e.2.Canon) (he : e = (x, d)) : d.Canon := by
  subst he; exact h

theorem Device.Canon.of_eqFst {α : Type} {e : Device × α} {x : α} {d : Device} (h : e.1.Canon) (he : e = (d, x)) : d.Canon := by
  subst he; exact h

variable {d d' : Device} {s : State}

theorem Device.Canon.ite {a b : Device} {c : Prop} {i : Decidable c} (ha : a.Canon) (hb : b.Canon) : (if c then a else b).Canon := by
  split <;> assumption

theorem Device.Canon.iteSnd {α : Type} {a b : α × Device} {c : Prop} {i : Decidable c} (ha : a.2.Canon) (hb : b.2.Canon) :
    (if c then a else b).2.Canon := by
  split <;> assumption

theorem Device.Canon.iteFst {α : Type} {a b : Device × α} {c : Prop} {i : Decidable c} (ha : a.1.Canon) (hb : b.1.Canon) :
    (if c then a else b).1.Canon := by
  split <;> assumption

theorem OptCanon.iteOpt {α : Type} {a b : Option (α × Device)} {c : Prop} {i : Decidable c} (ha : OptCanon a) (hb : OptCanon b) :
    OptCanon (if c then a else b) := by
  split <;> assumption

theorem OptDevCanon.iteOptDev {a b : Option Device} {c : Prop} {i : Decidable c} (ha : OptDevCanon a) (hb : OptDevCanon b) :
    OptDevCanon (if c then a else b) := by
  split <;> assumption

theorem SumCanon.iteSum {α β : Type} {a b : α ⊕ (β × Device)} {c : Prop} {i : Decidable c} (ha : SumCanon a) (hb : SumCanon b) :
    SumCanon (if c then a else b) := by
  split <;> assumption

theorem KeepsCanon.iteOut {a b :
    Host.Outcome State Fault Refusal} {c : Prop} {i : Decidable c} (ha : KeepsCanon s a) (hb : KeepsCanon s b) :
    KeepsCanon s (if c then a else b) := by
  split <;> assumption

theorem Device.Canon.foldl {β : Type} {f : Device → β → Device} {l : List β} (h : d.Canon)
    (hf : ∀ (d : Device) x, d.Canon → (f d x).Canon) : (l.foldl f d).Canon :=
  List.foldlRecOn l f h fun d h x _ => hf d x h

theorem Device.Canon.foldlSnd {α β : Type} {f : α × Device → β → α × Device} {l : List β} {p : α × Device} (h : p.2.Canon)
    (hf : ∀ (p : α × Device) x, p.2.Canon → (f p x).2.Canon) : (l.foldl f p).2.Canon :=
  List.foldlRecOn (motive := fun p => p.2.Canon) l f h fun p h x _ => hf p x h

theorem Device.Canon.unpair {α : Type} {e : α × Device} {b : α → Device → Device} (he : e.2.Canon)
    (hb : ∀ x (d : Device), d.Canon → (b x d).Canon) : (match e with | (x, d) => b x d).Canon :=
  hb _ _ he

theorem Device.Canon.unpairSnd {α β : Type} {e : α × Device} {b : α → Device → β × Device} (he : e.2.Canon)
    (hb : ∀ x (d : Device), d.Canon → (b x d).2.Canon) : (match e with | (x, d) => b x d).2.Canon :=
  hb _ _ he

theorem Device.Canon.unpairFst {α : Type} {e : Device × α} {b : Device → α → Device} (he : e.1.Canon)
    (hb : ∀ (d : Device) x, d.Canon → (b d x).Canon) : (match e with | (d, x) => b d x).Canon :=
  hb _ _ he

theorem Device.Canon.filterRegs {p : Nat × DWord → Bool} (h : d.Canon) : ({ d with regs := d.regs.filter p } : Device).Canon :=
  ⟨h.1, Map.rising_filter p h.2.1, fun e he => h.2.2 e (List.mem_of_mem_filter he)⟩

theorem Device.Canon.filterMem {p : Host.Cell → Bool} (h : d.Canon) : ({ d with mem := d.mem.filter p } : Device).Canon := by
  refine ⟨?_, h.2⟩
  have ⟨hr, hv⟩ := (Memory.wf_iff _).1 h.1
  exact (Memory.wf_iff _).2 ⟨Map.rising_filter p hr, fun e he => hv e (List.mem_of_mem_filter he)⟩

theorem Device.Canon.clearMem (h : d.Canon) : ({ d with mem := [] } : Device).Canon :=
  ⟨Memory.wf_nil, h.2⟩

theorem OptDevCanon.map {α : Type} {o : Option α} {f : α → Device} (hf : ∀ x, (f x).Canon) : OptDevCanon (o.map f) := by
  cases o
  · exact trivial
  · exact hf _

theorem OptDevCanon.getD {o : Option Device} (ho : OptDevCanon o) (h : d.Canon) : (o.getD d).Canon := by
  cases o
  · exact h
  · exact ho

theorem OptCanon.map {α β : Type} {o : Option (α × Device)} {f : α × Device → β × Device} (ho : OptCanon o)
    (hf : ∀ x, x.2.Canon → (f x).2.Canon) : OptCanon (o.map f) := by
  cases o
  · exact trivial
  · exact hf _ ho

theorem OptCanon.mapDev {α : Type} {o : Option (α × Device)} {f : α × Device → Device} (ho : OptCanon o)
    (hf : ∀ x, x.2.Canon → (f x).Canon) : OptDevCanon (o.map f) := by
  cases o
  · exact trivial
  · exact hf _ ho

theorem OptCanon.foldl {α β : Type} {f : Option (α × Device) → β → Option (α × Device)} {l : List β} {o : Option (α × Device)}
    (h : OptCanon o) (hf : ∀ o x, OptCanon o → OptCanon (f o x)) : OptCanon (l.foldl f o) :=
  List.foldlRecOn l f h fun o h x _ => hf o x h

/-! ### The reset state -/

theorem canon_reset : Device.reset.Canon :=
  ⟨State.reset_mem_wf, State.reset_regsWf⟩

/-! ### Shared operations (registers, memory, errors, records, messages) -/

theorem KeepsCanon.updAny {f : Device → Device} (hf : ∀ d : Device, d.Canon → (f d).Canon) : KeepsCanon s (s.updAny f) := by
  intro h t ht
  cases ht
  exact hf _ h

theorem KeepsCanon.upd {f} (hf : ∀ (d0 : Device), d0.Canon → (f d0).Canon) : KeepsCanon s (State.upd s f) :=
  .updAny (fun _ h1 => .ite h1 (hf _ h1))
theorem Device.Canon.setReg (h : d.Canon) {off v} : (d.setReg off v).Canon :=
  ⟨h.1, Device.setReg_regsWf _ _ h.2⟩
theorem Device.Canon.setFld {off f v} (h : d.Canon) : (d.setFld off f v).Canon :=
  h.setReg
theorem Device.Canon.bumpBy {off f n} (h : d.Canon) : (d.bumpBy off f n).Canon :=
  h.setFld
theorem Device.Canon.count {off w n} (h : d.Canon) : (d.count off w n).Canon :=
  h.bumpBy
theorem Device.Canon.dropHalves {off} (h : d.Canon) : (d.dropHalves off).Canon :=
  h
theorem KeepsCanon.write64 {off f} (hf : ∀ (d0 : Device), d0.Canon → (f d0).Canon) : KeepsCanon s (State.write64 s off f) :=
  .upd (fun _ h1 => hf _ h1.dropHalves)
theorem Device.Canon.write (h : d.Canon) {a bs} : (d.write a bs).Canon :=
  ⟨Device.write_wf _ _ h.1, h.2⟩
theorem Device.Canon.poisonRange {a n} (h : d.Canon) : (d.poisonRange a n).Canon :=
  h
theorem Device.Canon.at {t} (h : d.Canon) : (d.at t).Canon :=
  h
theorem Device.Canon.reachPhase {p} (h : d.Canon) : (d.reachPhase p).Canon :=
  h.at
theorem Device.Canon.emit {o} (h : d.Canon) : (d.emit o).Canon :=
  h
theorem Device.Canon.signal {v} (h : d.Canon) : (d.signal v).Canon :=
  .ite h (.ite h h.emit)

theorem Device.Canon.refuseAt {off bb code} (h : d.Canon) : (d.refuseAt off bb code).Canon := by
  unfold Device.refuseAt
  extract_lets -underBinder d1
  have h1 : d1.Canon := h.setFld.setFld
  exact .ite h1 h1.signal

theorem Device.Canon.refuse {code k} (h : d.Canon) : (d.refuse code k).Canon :=
  h.refuseAt

theorem Device.Canon.recorderArrive {e} (h : d.Canon) : (d.recorderArrive e).Canon := by
  unfold Device.recorderArrive
  extract_lets -underBinder _ _ d1 _ d2 _ _
  have h1 : d1.Canon := h.setFld
  have h2 : d2.Canon := .ite h1 h1
  exact .ite h2 h2.count

theorem Device.Canon.record {e} (h : d.Canon) : (d.record e).Canon :=
  h.recorderArrive
theorem Device.Canon.vector0 (h : d.Canon) : d.vector0.Canon :=
  .ite (.signal h) h
theorem Device.Canon.writeD2h {m} (h : d.Canon) : (d.writeD2h m).Canon :=
  .vector0 (.setFld (.setFld h))
theorem Device.Canon.respond {m opcode status payload} (h : d.Canon) : (d.respond m opcode status payload).Canon :=
  .ite h (.ite (.writeD2h h) h)
theorem KeepsCanon.cmd {m opcode is f} (hf : ∀ (d0 : Device), d0.Canon → (f d0).Canon) : KeepsCanon s (State.cmd s m opcode is f) :=
  .upd (fun _ h1 => .ite (hf _ h1) h1)
theorem Device.Canon.refuseMsg {m opcode code k} (h : d.Canon) : (d.refuseMsg m opcode code k).Canon :=
  h.refuse.respond
theorem Device.Canon.sendAsync {opcode payload} (h : d.Canon) : (d.sendAsync opcode payload).Canon :=
  .ite h.writeD2h (.ite h h.count.setFld)
theorem Device.Canon.setHostState {st} (h : d.Canon) : (d.setHostState st).Canon :=
  .ite h h.setFld.signal
theorem Device.Canon.free (h : d.Canon) : d.free.2.Canon :=
  h

/-! ### Link operations -/

theorem Device.Canon.updLink {f} (h : d.Canon) : (d.updLink f).Canon :=
  h
theorem Device.Canon.setPort {p u} (h : d.Canon) : (d.setPort p u).Canon :=
  h.updLink
theorem Device.Canon.sendFlit {p f} (h : d.Canon) : (d.sendFlit p f).Canon :=
  .ite h h.setPort.emit
theorem Device.Canon.idleFlits (h : d.Canon) : d.idleFlits.Canon :=
  .foldl h (fun _ _ h1 => .ite h1.sendFlit h1)

theorem Device.Canon.pump {p n} (h : d.Canon) : (d.pump p n).Canon := by
  induction n generalizing d with
  | zero => exact h
  | succ n ih =>
    unfold Device.pump
    extract_lets -underBinder _
    split
    · exact h
    · split
      · exact h
      · exact ih h.setPort.sendFlit

theorem Device.Canon.portSend {p fs} (h : d.Canon) : (d.portSend p fs).Canon :=
  h.setPort.pump

theorem Device.Canon.sendLink {dst mtype fields payload die} (h : d.Canon) : (d.sendLink dst mtype fields payload die).Canon := by
  unfold Device.sendLink
  split
  · exact h
  · split
    · exact h
    · exact h.updLink.portSend

/-! ### Tasks, pools, Lifts -/

theorem Device.Canon.updStr {f} (h : d.Canon) : (d.updStr f).Canon :=
  h
theorem Device.Canon.setStream {g sid} (h : d.Canon) : (d.setStream g sid).Canon :=
  h.updStr
theorem Device.Canon.setTask {k t} (h : d.Canon) : (d.setTask k t).Canon :=
  h.updStr

theorem Device.Canon.updTask {tag f} (h : d.Canon) : (d.updTask tag f).Canon := by
  unfold Device.updTask
  split
  · exact h.setTask
  · exact h

theorem Device.Canon.allocTag {die stage} (h : d.Canon) : OptCanon (d.allocTag die stage) := by
  unfold Device.allocTag
  extract_lets -underBinder _ _
  split
  · exact trivial
  · split
    · exact trivial
    · split
      · exact trivial
      · exact h

theorem Device.Canon.requestAbort {tag code} (h : d.Canon) : (d.requestAbort tag code).Canon := by
  unfold Device.requestAbort
  split
  · exact .ite h.setTask.updStr h
  · exact h

theorem Device.Canon.takeBuffer {pk tag} (h : d.Canon) : OptCanon (d.takeBuffer pk tag) := by
  unfold Device.takeBuffer
  split
  · exact trivial
  · exact h.updStr

theorem Device.Canon.releaseBuffer {src pool addr} (h : d.Canon) : (d.releaseBuffer src pool addr).Canon := by
  unfold Device.releaseBuffer
  split
  · exact h.updStr
  · exact h

theorem Device.Canon.releaseHandle {src h'} (h : d.Canon) : (d.releaseHandle src h').Canon :=
  h.releaseBuffer
theorem Device.Canon.setLift {lk q} (h : d.Canon) : (d.setLift lk q).Canon :=
  h.updStr
theorem Device.Canon.push {lk e} (h : d.Canon) : (d.push lk e).Canon :=
  .ite h.updTask.updStr h.updTask.updStr

theorem Device.Canon.confirm {e} (h : d.Canon) : (d.confirm e).Canon := by
  unfold Device.confirm
  split
  · split
    · exact h
    · split
      · exact h
      · extract_lets -underBinder _ _
        split
        · exact h.setStream
        · exact h.setStream.push
  · exact h

theorem Device.Canon.popLift {lk} (h : d.Canon) : OptCanon (d.popLift lk) := by
  unfold Device.popLift
  split
  · exact trivial
  · exact h.setLift.confirm

theorem Device.Canon.mismatch {lks} (h : d.Canon) : (d.mismatch lks).Canon := by
  unfold Device.mismatch
  split
  · exact h
  · split
    · exact h.requestAbort.requestAbort
    · exact h

theorem Device.Canon.stage {tag w} (h : d.Canon) : (d.stage tag w).Canon := by
  unfold Device.stage
  split
  · exact h
  · exact .ite h.requestAbort h.setTask

theorem Device.Canon.stageStation {tag die n} (h : d.Canon) : (d.stageStation tag die n).Canon := by
  unfold Device.stageStation
  split
  · exact h
  · exact .ite h.requestAbort h.setTask

/-! ### Streams -/

theorem Device.Canon.setCell {g c} (h : d.Canon) : (d.setCell g c).Canon :=
  h
theorem Device.Canon.wakeSwait {g} (h : d.Canon) : (d.wakeSwait g).Canon :=
  h

theorem Device.Canon.tryEnd {tag} (h : d.Canon) : (d.tryEnd tag).Canon := by
  unfold Device.tryEnd
  split
  · exact h
  · split
    · split
      · exact h.requestAbort
      · extract_lets -underBinder d1
        have h1 : d1.Canon := .foldl h (fun _ _ h2 => h2.sendLink)
        exact .ite h1.setTask h1.setTask
    · exact h

theorem Device.Canon.finishStream {g} (h : d.Canon) : (d.finishStream g).Canon :=
  h.setStream.wakeSwait.tryEnd

theorem Device.Canon.bindStream {g tag params} (h : d.Canon) : (d.bindStream g tag params).Canon := by
  unfold Device.bindStream
  split
  · exact h
  · exact .ite h.setStream.wakeSwait h.setStream

theorem Device.Canon.arm {g tag params} (h : d.Canon) : (d.arm g tag params).Canon := by
  unfold Device.arm
  split
  · split
    · rename_i d1 heq
      have h1 : d1.Canon := h.allocTag.of_eq heq
      exact h1.bindStream
    · exact h.updStr
  · exact h.bindStream

theorem Device.Canon.piste {sid f} (h : d.Canon) (hf : ∀ x0 x1 x2 (d3 : Device), d3.Canon → (f x0 x1 x2 d3).Canon) :
    (d.piste sid f).Canon := by
  unfold Device.piste
  extract_lets -underBinder _
  split
  · exact h
  · exact .ite (hf _ _ _ _ h) h

theorem Device.Canon.pisteStep {f g r sid} (h : d.Canon) : (pisteStep f g r sid d).Canon :=
  h.setStream
theorem Device.Canon.settleInvals (h : d.Canon) : d.settleInvals.Canon :=
  .foldl h (fun _ _ h1 => h1.emit)

theorem Device.Canon.askPiece {g tag a n dst} (h : d.Canon) : (d.askPiece g tag a n dst).Canon := by
  unfold Device.askPiece
  refine .foldl h fun _ _ h1 => ?_
  extract_lets -underBinder _ f
  have hf : ∀ x0, (f x0).Canon := fun _ => h1.updStr
  split
  · exact (hf _).emit
  · exact (hf _).sendLink
  · exact h1

theorem Device.Canon.fetch {g tag a n dst} (h : d.Canon) : (d.fetch g tag a n dst).Canon := by
  unfold Device.fetch
  split
  · exact h.askPiece
  · exact h.askPiece
  · exact .ite h.write h.setStream

theorem Device.Canon.issueOne {g} (h : d.Canon) : (d.issueOne g).Canon := by
  unfold Device.issueOne
  extract_lets -underBinder _
  split
  · exact h
  · split
    · exact h.setStream.requestAbort
    · extract_lets -underBinder d1
      have h1 : d1.Canon := h.setStream
      split
      · exact h1.fetch
      · exact h1.stage

theorem Device.Canon.issuePort {g n} (h : d.Canon) : (d.issuePort g n).Canon := by
  induction n generalizing d with
  | zero => exact h
  | succ n ih =>
    unfold Device.issuePort
    split
    · exact h
    · split
      · exact h
      · exact ih h.issueOne

theorem Device.Canon.issue {g} (h : d.Canon) : (d.issue g).Canon :=
  h.issuePort

theorem Device.Canon.pisteRead {g r sid a pieces next} (h : d.Canon) : (d.pisteRead g r sid a pieces next).Canon := by
  unfold Device.pisteRead
  extract_lets -underBinder _ _ d1
  have h1 : OptCanon d1 := by
    unfold d1
    split
    · exact h
    · split
      · rename_i d2 heq
        have h2 : d2.Canon := h.takeBuffer.of_eq heq
        exact h2
      · exact trivial
  split
  · exact h
  · clear_value d1
    split
    · exact h.setStream
    · have h2 : Device.Canon _ := h1
      extract_lets -underBinder _ x'
      clear_value x'
      split
      · exact .ite h h.requestAbort
      · exact .ite (.ite h h.requestAbort) h2.setStream.issue

theorem Device.Canon.pisteWrite {g r sid a pieces next} (h : d.Canon) : (d.pisteWrite g r sid a pieces next).Canon := by
  unfold Device.pisteWrite
  extract_lets -underBinder _ _ _ held
  have hheld : ∀ e cur d1, held = some (e, cur, d1) → d1.Canon := by
    intro e cur d1 he
    unfold held at he
    split at he
    · cases he; exact h
    · split at he
      · cases he
      · split at he
        · cases he; exact h
        · obtain ⟨x, hx, he⟩ := Option.map_eq_some_iff.1 he
          cases he
          exact h.popLift.of_eq hx
  clear_value held
  split
  · exact h
  · rename_i d1
    have h1 : d1.Canon := hheld _ _ _ rfl
    split
    · exact h.requestAbort.requestAbort
    · extract_lets -underBinder bad
      clear_value bad
      split
      · exact h.requestAbort
      · exact .ite h.requestAbort (.ite h.requestAbort h1.setStream.issue)

theorem Device.Canon.pisteMove {a pieces next g r sid} (h : d.Canon) : (pisteMove a pieces next g r sid d).Canon :=
  .ite h (.ite h.pisteWrite h.pisteRead)

theorem Device.Canon.closeBuffer {g r sid last} (h : d.Canon) : (d.closeBuffer g r sid last).Canon := by
  unfold Device.closeBuffer
  split
  · split
    · exact h.setStream
    · exact h.setStream.releaseHandle
  · split
    · exact .ite h.requestAbort h.setStream
    · extract_lets -underBinder _ _ d1
      have h1 : d1.Canon := h.setStream.push
      exact .ite h.setStream (.ite h1.setStream h1)

theorem execNop_keepsCanon {sid st} : KeepsCanon st (execNop sid st) :=
  .upd (fun _ h1 => h1.piste (fun _ _ _ _ h2 => h2.pisteStep))
theorem execSeta_keepsCanon {sid a region off st} : KeepsCanon st (execSeta sid a region off st) :=
  .upd (fun _ h1 => h1.piste (fun _ _ _ _ h2 => h2.pisteStep))
theorem execAdda_keepsCanon {sid a imm st} : KeepsCanon st (execAdda sid a imm st) :=
  .upd (fun _ h1 => h1.piste (fun _ _ _ _ h2 => h2.pisteStep))
theorem execAddp_keepsCanon {sid a k scale st} : KeepsCanon st (execAddp sid a k scale st) :=
  .upd (fun _ h1 => h1.piste (fun _ _ _ _ h2 => h2.pisteStep))
theorem execLoop_keepsCanon {sid k count st} : KeepsCanon st (execLoop sid k count st) :=
  .upd (fun _ h1 => h1.piste (fun _ _ _ _ h2 => h2.pisteStep))
theorem execEndl_keepsCanon {sid k target st} : KeepsCanon st (execEndl sid k target st) :=
  .upd (fun _ h1 => h1.piste (fun _ _ _ _ h2 => h2.setStream))
theorem execXfer_keepsCanon {sid a postinc bytes st} : KeepsCanon st (execXfer sid a postinc bytes st) :=
  .upd (fun _ h1 => h1.piste (fun _ _ _ _ h2 => h2.pisteMove))
theorem execXstr_keepsCanon {sid a postinc piece count stride st} : KeepsCanon st (execXstr sid a postinc piece count stride st) :=
  .upd (fun _ h1 => h1.piste (fun _ _ _ _ h2 => h2.pisteMove))
theorem execEmit_keepsCanon {sid last st} : KeepsCanon st (execEmit sid last st) :=
  .upd (fun _ h1 => .piste h1 (fun _ _ _ _ h2 => .ite h2 h2.closeBuffer))
theorem execDue_keepsCanon {sid due pace st} : KeepsCanon st (execDue sid due pace st) :=
  .upd (fun _ h1 => h1.piste (fun _ _ _ _ h2 => h2.pisteStep))

theorem execEndStream_keepsCanon {sid st} : KeepsCanon st (execEndStream sid st) := by
  refine .upd (fun _ h1 => ?_)
  refine .piste h1 (fun _ _ _ _ h2 => ?_)
  split
  · exact h2
  · extract_lets -underBinder d3 _ d4
    have h3 : d3.Canon := h2.closeBuffer
    have h4 : d4.Canon := h3.setStream
    exact .ite h4.finishStream h4

theorem Device.Canon.streamArmWrite {die v} (h : d.Canon) : (d.streamArmWrite die v).Canon := by
  unfold Device.streamArmWrite
  extract_lets -underBinder _ _
  split
  · exact h.refuse
  · split
    · exact h.refuse
    · exact h.arm

theorem execStreamArm_keepsCanon {die v} : KeepsCanon s (execStreamArm die v s) :=
  .write64 (fun _ h1 => h1.streamArmWrite)

theorem Device.Canon.allocated {w tag} (h : d.Canon) : (d.allocated w tag).Canon := by
  unfold Device.allocated
  split
  · exact h.bindStream
  · exact h.setCell
  · exact h.bindStream.respond

theorem Device.Canon.refusedArm {w} (h : d.Canon) : OptDevCanon (d.refusedArm w) := by
  unfold Device.refusedArm
  split
  · exact .map fun _ => h.refuse
  · exact trivial
  · exact .map fun _ => h.refuseMsg

theorem execTaskAllocResume_keepsCanon : KeepsCanon s (execTaskAllocResume s) := by
  refine .upd (fun _ h1 => ?_)
  split
  · exact h1
  · extract_lets -underBinder d2
    have h2 : d2.Canon := h1.updStr
    split
    · rename_i heq
      exact h2.refusedArm.of_eq heq
    · rename_i d3 _ heq
      have h3 : d3.Canon := h2.allocTag.of_eq heq
      exact h3.allocated
    · exact h2

theorem execLiftFullResume_keepsCanon {die lift} : KeepsCanon s (execLiftFullResume die lift s) := by
  refine .upd (fun _ h1 => ?_)
  extract_lets -underBinder _
  split
  · exact h1
  · split
    · exact h1
    · extract_lets -underBinder d2
      have h2 : d2.Canon := h1.updStr
      split
      · exact h2.setStream
      · exact .ite h2.setCell h2
      · exact h2

theorem Device.Canon.balloc {g addr pk} (h : d.Canon) : (d.balloc g addr pk).Canon := by
  unfold Device.balloc
  extract_lets -underBinder _
  split
  · exact h.setCell
  · rename_i d1 heq
    have h1 : d1.Canon := h.takeBuffer.of_eq heq
    exact h1.setCell

theorem execPoolWaitResume_keepsCanon {w} : KeepsCanon s (execPoolWaitResume w s) := by
  refine .upd (fun _ h1 => ?_)
  split
  · extract_lets -underBinder _
    split
    · exact h1
    · exact .ite h1.setStream h1
  · split
    · exact h1.balloc
    · exact h1

theorem execBufferReleaseArrive_keepsCanon {die pool i} : KeepsCanon s (execBufferReleaseArrive die pool i s) := by
  refine .upd (fun _ h1 => ?_)
  extract_lets -underBinder _
  split
  · exact h1.updStr.tryEnd
  · exact h1

theorem execTaskSubmit_keepsCanon {m die stage stream params} : KeepsCanon s (execTaskSubmit m die stage stream params s) := by
  refine .cmd (fun _ h1 => ?_)
  split
  · exact h1.refuseMsg
  · extract_lets -underBinder _
    split
    · exact h1.refuseMsg
    · split
      · exact h1.refuseMsg
      · split
        · exact h1.refuseMsg
        · split
          · exact h1.refuseMsg
          · split
            · rename_i d2 heq
              have h2 : d2.Canon := h1.allocTag.of_eq heq
              exact h2.bindStream.respond
            · exact h1.updStr

theorem execTaskAbort_keepsCanon {m tag} : KeepsCanon s (execTaskAbort m tag s) := by
  refine .cmd (fun _ h1 => ?_)
  split
  · exact h1.refuseMsg
  · exact .ite h1.respond (.ite h1.requestAbort.respond h1.refuseMsg)

theorem execTaskQuery_keepsCanon {m tag} : KeepsCanon s (execTaskQuery m tag s) := by
  refine .cmd (fun _ h1 => ?_)
  split
  · exact h1.refuseMsg
  · exact h1.respond

theorem Device.Canon.stallClear {die} (h : d.Canon) : (d.stallClear die).Canon :=
  h.filterRegs
theorem execStallClear_keepsCanon {die} : KeepsCanon s (execStallClear die s) :=
  .upd (fun _ h1 => h1.stallClear)

/-! ### Tensor -/

theorem Device.Canon.bindTensor {b regions toArray} (h : d.Canon) : SumCanon (d.bindTensor b regions toArray) := by
  unfold Device.bindTensor
  extract_lets -underBinder _
  split
  · exact trivial
  · exact .ite h h.count

/-! ### Virtual memory -/

theorem Device.Canon.updMem {f} (h : d.Canon) : (d.updMem f).Canon :=
  h

theorem Device.Canon.atsTranslate {h' va level tag write} (h : d.Canon) : (d.atsTranslate h' va level tag write).2.Canon := by
  unfold Device.atsTranslate
  extract_lets -underBinder _
  split
  · exact h
  · exact .iteSnd h (.iteSnd h h.updMem.emit)

theorem Device.Canon.useLeaf {leaf va size level tag write} (h : d.Canon) : (d.useLeaf leaf va size level tag write).2.Canon :=
  .iteSnd h (.iteSnd h.atsTranslate h)
theorem Device.Canon.noteVmFault {va code level write} (h : d.Canon) : (d.noteVmFault va code level write).Canon :=
  h.setReg.setReg.count

theorem Device.Canon.translate {die va tag write} (h : d.Canon) : (d.translate die va tag write).2.Canon := by
  have h1 : (d.count (Reg.MEM_TLB_MISSES die) 64 1).Canon := h.count
  simp only [Device.translate]
  generalize Device.walk _ va 3 _ = w
  generalize d.memu.tlb.find? _ = o
  refine .iteSnd (.noteVmFault h.free) ?_
  cases o with
  | some e => exact .iteSnd h.noteVmFault h.useLeaf
  | none =>
    cases w with
    | inl l => exact .iteSnd h1 h1.noteVmFault
    | inr x => exact .iteSnd h1.noteVmFault h1.updMem.useLeaf

theorem Device.Canon.tensorAddr {die region a tag write} (h : d.Canon) : (d.tensorAddr die region a tag write).2.Canon :=
  .iteSnd h.translate h

/-! ### Affine -/

theorem Device.Canon.bindRead {b regions} (h : d.Canon) : SumCanon (d.bindRead b regions) := by
  unfold Device.bindRead
  split
  · exact trivial
  · exact h.bindTensor

theorem Device.Canon.reach {die tag region a n write} (h : d.Canon) : (d.reach die tag region a n write).2.Canon := by
  unfold Device.reach
  refine .foldlSnd h fun p x h1 => ?_
  split
  · have h2 : Device.Canon _ := h1
    split
    · rename_i heq; exact h2.tensorAddr.of_eq heq
    · rename_i heq; exact h2.tensorAddr.of_eq heq
    · rename_i heq
      have h3 := h2.tensorAddr.of_eq heq
      split
      · exact h3
      · exact h3
  · exact h1

theorem Device.Canon.reachAll {α : Type} {die tag write} {range : α → Nat × Nat × Nat} {part xs} (h : d.Canon) :
    (d.reachAll die tag write range part xs).2.Canon := by
  unfold Device.reachAll
  refine .foldlSnd h fun p x h1 => ?_
  split
  · have h2 : Device.Canon _ := h1
    split
    · rename_i heq; exact h2.reach.of_eq heq
    · rename_i heq; exact h2.reach.of_eq heq
    · rename_i heq; exact h2.reach.of_eq heq
  · exact h1

theorem Device.Canon.reachReads {die tag rs} (h : d.Canon) : (d.reachReads die tag rs).2.Canon :=
  h.reachAll
theorem Device.Canon.reachWrites {die tag comb ws} (h : d.Canon) : (d.reachWrites die tag comb ws).2.Canon :=
  h.reachAll

theorem Device.Canon.tensorIndexes {die tag x tile rs} (h : d.Canon) : (d.tensorIndexes die tag x tile rs).2.Canon := by
  unfold Device.tensorIndexes
  split
  · rename_i d1 heq
    have h1 : d1.Canon := h.reachReads.of_eq heq
    exact h1
  · rename_i d1 heq
    have h1 : d1.Canon := h.reachReads.of_eq heq
    split
    exact .iteSnd h1 h1

theorem Device.Canon.countInvalid {die x tile rs} (h : d.Canon) : (d.countInvalid die x tile rs).Canon :=
  .ite h h.count

theorem Device.Canon.takeTargets {targets} (h : d.Canon) : OptCanon (d.takeTargets targets) := by
  unfold Device.takeTargets
  refine .foldl h fun _ _ h1 => ?_
  split
  · exact trivial
  · have h2 : Device.Canon _ := h1
    extract_lets -underBinder _
    split
    · exact trivial
    · rename_i d3 heq
      have h3 : d3.Canon := h2.takeBuffer.of_eq heq
      exact h3.setStream

theorem Device.Canon.affineFill {g x targets rpb} (h : d.Canon) : (d.affineFill g x targets rpb).Canon := by
  unfold Device.affineFill
  extract_lets -underBinder _ _ _ _
  split
  · rename_i d1 heq
    have h1 : d1.Canon := h.tensorIndexes.of_eq heq
    exact h1
  · rename_i d1 heq
    have h1 : d1.Canon := h.tensorIndexes.of_eq heq
    exact h1.requestAbort
  · rename_i d1 heq
    have h1 : d1.Canon := h.tensorIndexes.of_eq heq
    split
    · exact h1.setStream.issue
    · extract_lets -underBinder _
      split
      · rename_i d2 heq
        have h2 : d2.Canon := h1.reachReads.of_eq heq
        exact h2
      · rename_i d2 heq
        have h2 : d2.Canon := h1.reachReads.of_eq heq
        exact h2.requestAbort
      · rename_i d2 heq
        have h2 : d2.Canon := h1.reachReads.of_eq heq
        split
        · exact .foldl h2 (fun _ _ h3 => .ite h3.setStream h3)
        · rename_i d3 heq
          have h3 : d3.Canon := h2.takeTargets.of_eq heq
          split
          · exact h3.requestAbort
          · extract_lets -underBinder _ d4 _
            have h4 : d4.Canon := .foldl h3 (fun _ _ h5 => h5.setStream)
            exact h4.countInvalid.setStream.issue

theorem Device.Canon.affineClose {g r x} (h : d.Canon) : (d.affineClose g r x).Canon := by
  unfold Device.affineClose
  extract_lets -underBinder _
  split
  · exact h
  · extract_lets -underBinder _ _ d1 d2 _ d3
    have h1 : d1.Canon := h.setStream
    have h2 : d2.Canon := h1.push
    have h3 : d3.Canon := .ite h2.setStream h2
    exact .ite h3.finishStream h3

theorem Device.Canon.affineDrain {g r x} (h : d.Canon) : (d.affineDrain g r x).Canon := by
  unfold Device.affineDrain
  extract_lets -underBinder _ _ _
  split
  · exact h
  · split
    · exact h.requestAbort.requestAbort
    · extract_lets -underBinder _ _
      split
      · exact h.requestAbort
      · split
        · exact h.requestAbort
        · split
          · rename_i d1 heq
            have h1 : d1.Canon := h.tensorIndexes.of_eq heq
            exact h1
          · rename_i d1 heq
            have h1 : d1.Canon := h.tensorIndexes.of_eq heq
            exact h1.requestAbort
          · rename_i d1 heq
            have h1 : d1.Canon := h.tensorIndexes.of_eq heq
            split
            · exact h1.setStream.issue
            · split
              split
              · rename_i d2 heq
                have h2 : d2.Canon := h1.reachWrites.of_eq heq
                exact h2
              · rename_i d2 heq
                have h2 : d2.Canon := h1.reachWrites.of_eq heq
                exact h2.requestAbort
              · rename_i d2 heq
                have h2 : d2.Canon := h1.reachWrites.of_eq heq
                split
                · exact h2
                · rename_i d3 heq
                  have h3 : d3.Canon := h2.popLift.of_eq heq
                  exact h3.countInvalid.setStream.issue

theorem Device.Canon.affineDrained {g e} (h : d.Canon) : (d.affineDrained g e).Canon := by
  unfold Device.affineDrained
  extract_lets -underBinder _ d1
  have h1 : d1.Canon := h.setStream.releaseHandle
  exact .ite h1.finishStream h1

theorem Device.Canon.affineIssue {g r} (h : d.Canon) : (d.affineIssue g r).Canon := by
  unfold Device.affineIssue
  extract_lets -underBinder _
  split
  · exact h
  · split
    · exact h.affineDrain
    · split
      · exact h.affineFill
      · split
        · exact h
        · split
          · exact h
          · exact h.affineFill

theorem Device.Canon.placeRows {src g x} (h : d.Canon) : (d.placeRows src g x).Canon := by
  unfold Device.placeRows
  extract_lets -underBinder _
  split
  · exact h
  · exact .foldl h (fun _ _ h1 => h1.write)

theorem Device.Canon.affineComplete {g r} (h : d.Canon) : (d.affineComplete g r).Canon := by
  unfold Device.affineComplete
  extract_lets -underBinder _
  split
  · exact h.placeRows.affineClose
  · split
    · exact h
    · extract_lets -underBinder d1
      have h1 : d1.Canon := .foldl h (fun _ _ h2 => h2.placeRows)
      refine .foldl h1 fun _ _ h2 => ?_
      split
      · exact h2.affineClose
      · exact h2

theorem Device.Canon.retired {g r} (h : d.Canon) : (d.retired g r).Canon := by
  unfold Device.retired
  extract_lets -underBinder _
  split
  · exact .ite h.finishStream h
  · split
    · exact h.affineDrained
    · exact .ite h.affineComplete h

theorem Device.Canon.retireOne {g} (h : d.Canon) : (d.retireOne g).Canon := by
  unfold Device.retireOne
  extract_lets -underBinder _ d1
  have h1 : d1.Canon := .ite h h.setStream
  exact h1.issue

theorem execTransferRetire_keepsCanon {sid st} : KeepsCanon st (execTransferRetire sid st) := by
  refine .upd (fun _ h1 => ?_)
  extract_lets -underBinder _
  split
  · exact .ite h1 h1.retireOne
  · exact .ite h1 (.ite (.ite h1.affineIssue h1.retired) (.ite h1.retireOne.retired h1.retireOne))

/-! ### Stations -/

theorem Device.Canon.updStn {f} (h : d.Canon) : (d.updStn f).Canon :=
  h
theorem Device.Canon.setJob {key j} (h : d.Canon) : (d.setJob key j).Canon :=
  h.updStn
theorem Device.Canon.dropJob {key} (h : d.Canon) : (d.dropJob key).Canon :=
  h
theorem Device.Canon.takeSeq {key tag} (h : d.Canon) : (d.takeSeq key tag).2.Canon :=
  h.updStn

theorem Device.Canon.discardGone {lk n} (h : d.Canon) : (d.discardGone lk n).Canon := by
  induction n generalizing d with
  | zero => exact h
  | succ n ih =>
    unfold Device.discardGone
    split
    · split
      · split
        · rename_i d1 heq
          exact ih (h.popLift.of_eq heq).releaseHandle
        · exact h
      · exact h
    · exact h

theorem Device.Canon.discardHeads {lks} (h : d.Canon) : (d.discardHeads lks).Canon :=
  .foldl h (fun _ _ h1 => h1.discardGone)

theorem Device.Canon.popHeads {lks} (h : d.Canon) : (d.popHeads lks).2.Canon := by
  unfold Device.popHeads
  extract_lets -underBinder x
  split
  · exact h.mismatch
  · clear_value x
    split
    · exact h
    · split
      · refine .foldl h fun _ _ h1 => ?_
        split
        · rename_i d2 heq
          have h2 : d2.Canon := h1.popLift.of_eq heq
          exact h2
        · exact h1
      · exact h.mismatch

theorem Device.Canon.holdBuffers {pk n j most} (h : d.Canon) : (d.holdBuffers pk n j most).2.Canon := by
  induction most generalizing d j with
  | zero => exact h
  | succ m ih =>
    unfold Device.holdBuffers
    split
    · exact h
    · split
      · exact h
      · rename_i d1 heq
        exact ih (h.takeBuffer.of_eq heq)

theorem Device.Canon.pushOutputs {key lk j last late outs} (h : d.Canon) : (d.pushOutputs key lk j last late outs).Canon := by
  unfold Device.pushOutputs
  extract_lets -underBinder d1
  have h1 : d1.Canon := .foldl h (fun _ _ h2 => h2.write)
  exact .foldl h1 (fun _ _ h2 => h2.push)

theorem Device.Canon.afterPush {key fin} (h : d.Canon) (hfin : ∀ (d0 : Device), d0.Canon → (fin d0).Canon) : (d.afterPush key fin).Canon :=
  .ite h (hfin _ h)

theorem Device.Canon.jobOutputs {key pk lk j last late outs counts fin scratch} (h : d.Canon) (hcounts : ∀ (d0 : Device), d0.Canon →
    (counts d0).Canon) (hfin : ∀ (d0 : Device), d0.Canon → (fin d0).Canon) :
    (d.jobOutputs key pk lk j last late outs counts fin scratch).Canon := by
  unfold Device.jobOutputs
  extract_lets -underBinder _
  split
  rename_i d1 heq
  have h1 : d1.Canon := h.holdBuffers.of_eq heq
  split
  · exact h1.setJob
  · extract_lets -underBinder d2 d3
    have h2 : d2.Canon := .foldl h1 (fun _ _ h3 => h3.releaseBuffer)
    have h3 : d3.Canon := h2.pushOutputs
    exact (hcounts _ h3.setJob).afterPush hfin

theorem Device.Canon.releaseInputs {key j} (h : d.Canon) : (d.releaseInputs key j).Canon :=
  .foldl h (fun _ _ h1 => h1.releaseHandle)
theorem Device.Canon.releaseHeld {key j} (h : d.Canon) : (d.releaseHeld key j).Canon :=
  .foldl h (fun _ _ h1 => h1.releaseBuffer)

theorem Device.Canon.failJob {key failReg lastReg code j} (h : d.Canon) : (d.failJob key failReg lastReg code j).Canon := by
  unfold Device.failJob
  extract_lets -underBinder d1
  have h1 : d1.Canon := h.dropJob.releaseInputs.releaseHeld.count
  exact h1.setReg.requestAbort

theorem Device.Canon.stopJobs {die tag} (h : d.Canon) : (d.stopJobs die tag).Canon :=
  .foldl h (fun _ _ h1 => h1.dropJob.releaseInputs.releaseHeld)

theorem Device.Canon.beginJob {die kind k lifts f} (h : d.Canon) (hf : ∀ x0 x1 (d2 : Device), d2.Canon → (f x0 x1 d2).Canon) :
    (d.beginJob die kind k lifts f).Canon := by
  unfold Device.beginJob
  split
  · exact h
  · split
    · exact h
    · extract_lets -underBinder _
      split
      · rename_i d1 heq
        have h1 : d1.Canon := h.discardHeads.popHeads.of_eq heq
        exact h1
      · rename_i d1 heq
        have h1 : d1.Canon := h.discardHeads.popHeads.of_eq heq
        exact hf _ _ _ h1

theorem Device.Canon.withJob {die kind k f} (h : d.Canon) (hf : ∀ x0 x1 (d2 : Device), d2.Canon → (f x0 x1 d2).Canon) :
    (d.withJob die kind k f).Canon := by
  unfold Device.withJob
  split
  · exact .ite h (hf _ _ _ h)
  · exact h

/-! ### Columns -/

theorem Device.Canon.popLive {lk n fuel} (h : d.Canon) : (d.popLive lk n fuel).2.Canon := by
  induction fuel generalizing d n with
  | zero => exact h
  | succ f ih =>
    unfold Device.popLive
    split
    · exact h
    · split
      · exact h
      · rename_i d1 heq
        have h1 : d1.Canon := h.popLift.of_eq heq
        split
        · exact ih h1.releaseHandle
        · exact ih h1

theorem Device.Canon.popRun {lk n} (h : d.Canon) : (d.popRun lk n).2.Canon := by
  unfold Device.popRun
  extract_lets -underBinder q
  clear_value q
  split
  · exact h
  · split
    · exact h.requestAbort.requestAbort
    · split
      · exact h
      · split
        rename_i heq
        exact h.popLive.of_eq heq

theorem Device.Canon.discardFront {lk} (h : d.Canon) : (d.discardFront lk).Canon :=
  h.discardGone

theorem Device.Canon.beginRun {die kind k lift arity f} (h : d.Canon) (hf : ∀ x0 x1 (d2 : Device), d2.Canon → (f x0 x1 d2).Canon) :
    (d.beginRun die kind k lift arity f).Canon := by
  unfold Device.beginRun
  split
  · exact h
  · split
    · exact h
    · extract_lets -underBinder _
      split
      · rename_i d1 heq
        have h1 : d1.Canon := h.discardFront.popRun.of_eq heq
        exact h1
      · rename_i d1 heq
        have h1 : d1.Canon := h.discardFront.popRun.of_eq heq
        exact hf _ _ _ h1

/-! ### Gates -/

theorem Device.Canon.setGate {k g} (h : d.Canon) : (d.setGate k g).Canon :=
  h
theorem Device.Canon.settleIn {k order} (h : d.Canon) : (d.settleIn k order).Canon :=
  h.setGate
theorem Device.Canon.settle {k} (h : d.Canon) : (d.settle k).Canon :=
  h.settleIn

theorem Device.Canon.dropFlow {k flow} (h : d.Canon) : (d.dropFlow k flow).Canon := by
  unfold Device.dropFlow
  split
  · exact h
  · exact .ite h h.setGate

theorem Device.Canon.completeItem {g} (h : d.Canon) : (d.completeItem g).Canon := by
  unfold Device.completeItem
  extract_lets -underBinder _
  split
  · exact h
  · exact h.setCell.dropFlow.settle.tryEnd

theorem Device.Canon.formItem {k c tag ordinal ops} (h : d.Canon) : (d.formItem k c tag ordinal ops).Canon := by
  unfold Device.formItem
  extract_lets -underBinder _ _ _ _ _ _ _ _ _ _ _ _ d1 _
  have h1 : d1.Canon := .ite h h.count
  exact .settle (.setGate h1)

theorem Device.Canon.gatePop {k} (h : d.Canon) : (d.gatePop k).Canon := by
  unfold Device.gatePop
  split
  · exact h
  · split
    · exact h
    · split
      · exact h
      · rename_i d1 heq
        have h1 : d1.Canon := h.popLift.of_eq heq
        exact .ite h1.setGate.formItem (.ite h1.setGate.formItem h1.setGate)

theorem execGatePop_keepsCanon {die p} : KeepsCanon s (execGatePop die p s) :=
  .upd (fun _ h1 => h1.gatePop)

theorem execFlowEntryGrant_keepsCanon {die} : KeepsCanon s (execFlowEntryGrant die s) := by
  refine .upd (fun _ h1 => ?_)
  split
  · exact h1
  · split
    · exact h1
    · split
      · exact h1
      · exact h1.setGate.settle

theorem execDelayRelease_keepsCanon {die p} : KeepsCanon s (execDelayRelease die p s) := by
  refine .upd (fun _ h1 => ?_)
  extract_lets -underBinder _
  split
  · exact h1
  · extract_lets -underBinder d2 _ _ _
    have h2 : d2.Canon := .ite h1.reachPhase h1
    exact h2.setGate.settleIn

theorem execGateDispatch_keepsCanon {die p} : KeepsCanon s (execGateDispatch die p s) := by
  refine .upd (fun _ h1 => ?_)
  extract_lets -underBinder _ _ x'' x'''
  clear_value x''
  clear_value x'''
  split
  · exact .ite h1 h1.setGate.setCell.count
  · exact h1

theorem Device.Canon.gateAbort {die tag} (h : d.Canon) : (d.gateAbort die tag).Canon := by
  unfold Device.gateAbort
  refine .foldl h fun _ _ h1 => ?_
  extract_lets -underBinder _ _ _ _ d2 d3
  have h2 : d2.Canon := h1.setGate
  have h3 : d3.Canon := .foldl h2 (fun _ _ h4 => h4.releaseHandle)
  exact .settle (.foldl h3 (fun _ _ h4 => h4.dropFlow))

theorem Device.Canon.setSync {obj v} (h : d.Canon) : (d.setSync obj v).Canon :=
  h
theorem Device.Canon.addSyncOp {o} (h : d.Canon) : (d.addSyncOp o).Canon :=
  h
theorem Device.Canon.applySync {o} (h : d.Canon) : (d.applySync o).Canon :=
  .ite h.setSync (.ite h.setSync.count h.setSync)
theorem Device.Canon.fireIrq {obj} (h : d.Canon) : (d.fireIrq obj).Canon :=
  .foldl h (fun _ _ h1 => .ite h1.setFld.signal h1)
theorem Device.Canon.endWaits {obj} (h : d.Canon) : (d.endWaits obj).Canon :=
  h

theorem Device.Canon.syncApply {obj} (h : d.Canon) : (d.syncApply obj).Canon := by
  unfold Device.syncApply
  split
  · exact h
  · exact .fireIrq (.endWaits (.foldl h (fun _ _ h1 => h1.applySync)))

theorem execSyncApply_keepsCanon {die i} : KeepsCanon s (execSyncApply die i s) :=
  .upd (fun _ h1 => h1.syncApply)
theorem execSyncCmdSignal_keepsCanon {die i amount} : KeepsCanon s (execSyncCmdSignal die i amount s) :=
  .write64 (fun _ h1 => h1.addSyncOp)
theorem execSyncCmdReset_keepsCanon {die i amount} : KeepsCanon s (execSyncCmdReset die i amount s) :=
  .write64 (fun _ h1 => .ite h1.refuse h1.addSyncOp)

/-! ### Cells -/

theorem Device.Canon.useStep {g} (h : d.Canon) : (d.useStep g).Canon :=
  h
theorem Device.Canon.onCell {c f} (h : d.Canon) (hf : ∀ x0 x1 (d2 : Device), d2.Canon → (f x0 x1 d2).Canon) : (d.onCell c f).Canon :=
  .ite h (.ite (hf _ _ _ h) (.ite (hf _ _ _ h.useStep) h))
theorem Device.Canon.alu {c rd f} (h : d.Canon) : (d.alu c rd f).Canon :=
  h.onCell (fun _ _ _ h1 => h1.setCell)

theorem Device.Canon.restart {g} (h : d.Canon) : (d.restart g).Canon := by
  unfold Device.restart
  extract_lets -underBinder d1 _
  have h1 : d1.Canon := h.completeItem
  exact .ite h1.setCell h1.setCell

theorem Device.Canon.noteException {g code sev arg} (h : d.Canon) : (d.noteException g code sev arg).Canon := by
  unfold Device.noteException
  extract_lets -underBinder _ _ _ d1 d2 d3 d4 d5
  have h1 : d1.Canon := h.setCell
  have h2 : d2.Canon := h1.setReg
  have h3 : d3.Canon := h2.setReg
  have h4 : d4.Canon := h3.count
  have h5 : d5.Canon := h4.record
  exact h5.requestAbort

theorem Device.Canon.cellException {g code arg} (h : d.Canon) : (d.cellException g code arg).Canon :=
  h.noteException.restart

theorem Device.Canon.load {c rd rs1 imm n ext} (h : d.Canon) : (d.load c rd rs1 imm n ext).Canon := by
  unfold Device.load
  refine .onCell h (fun _ _ _ h1 => ?_)
  split
  · exact h1.cellException
  · exact h1.setCell
  · exact h1.setCell

theorem Device.Canon.store {c rs2 rs1 imm n} (h : d.Canon) : (d.store c rs2 rs1 imm n).Canon := by
  unfold Device.store
  refine .onCell h (fun _ _ _ h1 => ?_)
  extract_lets -underBinder _
  split
  · exact h1.cellException
  · exact h1.setCell
  · exact h1.setCell.write

theorem Device.Canon.amo {c rd rs1 rs2 f} (h : d.Canon) : (d.amo c rd rs1 rs2 f).Canon := by
  unfold Device.amo
  refine .onCell h (fun _ _ _ h1 => ?_)
  split
  · exact h1.cellException
  · exact h1.cellException
  · exact h1.setCell.write

theorem Device.Canon.jump {g x t} (h : d.Canon) : (d.jump g x t).Canon :=
  .ite h.setCell.cellException h.setCell
theorem Device.Canon.branch {c rs1 rs2 off p} (h : d.Canon) : (d.branch c rs1 rs2 off p).Canon :=
  .onCell h (fun _ _ _ h1 => .ite h1.jump h1.setCell)
theorem execAdd_keepsCanon {c rd rs1 rs2} : KeepsCanon s (execAdd c rd rs1 rs2 s) :=
  .upd (fun _ h1 => h1.alu)
theorem execSub_keepsCanon {c rd rs1 rs2} : KeepsCanon s (execSub c rd rs1 rs2 s) :=
  .upd (fun _ h1 => h1.alu)
theorem execAnd_keepsCanon {c rd rs1 rs2} : KeepsCanon s (execAnd c rd rs1 rs2 s) :=
  .upd (fun _ h1 => h1.alu)
theorem execOr_keepsCanon {c rd rs1 rs2} : KeepsCanon s (execOr c rd rs1 rs2 s) :=
  .upd (fun _ h1 => h1.alu)
theorem execXor_keepsCanon {c rd rs1 rs2} : KeepsCanon s (execXor c rd rs1 rs2 s) :=
  .upd (fun _ h1 => h1.alu)
theorem execSll_keepsCanon {c rd rs1 rs2} : KeepsCanon s (execSll c rd rs1 rs2 s) :=
  .upd (fun _ h1 => h1.alu)
theorem execSrl_keepsCanon {c rd rs1 rs2} : KeepsCanon s (execSrl c rd rs1 rs2 s) :=
  .upd (fun _ h1 => h1.alu)
theorem execSra_keepsCanon {c rd rs1 rs2} : KeepsCanon s (execSra c rd rs1 rs2 s) :=
  .upd (fun _ h1 => h1.alu)
theorem execSlt_keepsCanon {c rd rs1 rs2} : KeepsCanon s (execSlt c rd rs1 rs2 s) :=
  .upd (fun _ h1 => h1.alu)
theorem execSltu_keepsCanon {c rd rs1 rs2} : KeepsCanon s (execSltu c rd rs1 rs2 s) :=
  .upd (fun _ h1 => h1.alu)
theorem execMin_keepsCanon {c rd rs1 rs2} : KeepsCanon s (execMin c rd rs1 rs2 s) :=
  .upd (fun _ h1 => h1.alu)
theorem execMax_keepsCanon {c rd rs1 rs2} : KeepsCanon s (execMax c rd rs1 rs2 s) :=
  .upd (fun _ h1 => h1.alu)
theorem execMinu_keepsCanon {c rd rs1 rs2} : KeepsCanon s (execMinu c rd rs1 rs2 s) :=
  .upd (fun _ h1 => h1.alu)
theorem execMaxu_keepsCanon {c rd rs1 rs2} : KeepsCanon s (execMaxu c rd rs1 rs2 s) :=
  .upd (fun _ h1 => h1.alu)
theorem execMul_keepsCanon {c rd rs1 rs2} : KeepsCanon s (execMul c rd rs1 rs2 s) :=
  .upd (fun _ h1 => h1.alu)
theorem execMulh_keepsCanon {c rd rs1 rs2} : KeepsCanon s (execMulh c rd rs1 rs2 s) :=
  .upd (fun _ h1 => h1.alu)
theorem execMulhu_keepsCanon {c rd rs1 rs2} : KeepsCanon s (execMulhu c rd rs1 rs2 s) :=
  .upd (fun _ h1 => h1.alu)
theorem execDiv_keepsCanon {c rd rs1 rs2} : KeepsCanon s (execDiv c rd rs1 rs2 s) :=
  .upd (fun _ h1 => h1.alu)
theorem execDivu_keepsCanon {c rd rs1 rs2} : KeepsCanon s (execDivu c rd rs1 rs2 s) :=
  .upd (fun _ h1 => h1.alu)
theorem execRem_keepsCanon {c rd rs1 rs2} : KeepsCanon s (execRem c rd rs1 rs2 s) :=
  .upd (fun _ h1 => h1.alu)
theorem execRemu_keepsCanon {c rd rs1 rs2} : KeepsCanon s (execRemu c rd rs1 rs2 s) :=
  .upd (fun _ h1 => h1.alu)
theorem execClz_keepsCanon {c rd rs1} : KeepsCanon s (execClz c rd rs1 s) :=
  .upd (fun _ h1 => h1.alu)
theorem execPopc_keepsCanon {c rd rs1} : KeepsCanon s (execPopc c rd rs1 s) :=
  .upd (fun _ h1 => h1.alu)
theorem execAddi_keepsCanon {c rd rs1 imm} : KeepsCanon s (execAddi c rd rs1 imm s) :=
  .upd (fun _ h1 => h1.alu)
theorem execAndi_keepsCanon {c rd rs1 imm} : KeepsCanon s (execAndi c rd rs1 imm s) :=
  .upd (fun _ h1 => h1.alu)
theorem execOri_keepsCanon {c rd rs1 imm} : KeepsCanon s (execOri c rd rs1 imm s) :=
  .upd (fun _ h1 => h1.alu)
theorem execXori_keepsCanon {c rd rs1 imm} : KeepsCanon s (execXori c rd rs1 imm s) :=
  .upd (fun _ h1 => h1.alu)
theorem execSlti_keepsCanon {c rd rs1 imm} : KeepsCanon s (execSlti c rd rs1 imm s) :=
  .upd (fun _ h1 => h1.alu)
theorem execSltiu_keepsCanon {c rd rs1 imm} : KeepsCanon s (execSltiu c rd rs1 imm s) :=
  .upd (fun _ h1 => h1.alu)
theorem execSlli_keepsCanon {c rd rs1 sh} : KeepsCanon s (execSlli c rd rs1 sh s) :=
  .upd (fun _ h1 => h1.alu)
theorem execSrli_keepsCanon {c rd rs1 sh} : KeepsCanon s (execSrli c rd rs1 sh s) :=
  .upd (fun _ h1 => h1.alu)
theorem execSrai_keepsCanon {c rd rs1 sh} : KeepsCanon s (execSrai c rd rs1 sh s) :=
  .upd (fun _ h1 => h1.alu)
theorem execLui_keepsCanon {c rd imm} : KeepsCanon s (execLui c rd imm s) :=
  .upd (fun _ h1 => h1.alu)
theorem execLw_keepsCanon {c rd rs1 imm} : KeepsCanon s (execLw c rd rs1 imm s) :=
  .upd (fun _ h1 => h1.load)
theorem execLh_keepsCanon {c rd rs1 imm} : KeepsCanon s (execLh c rd rs1 imm s) :=
  .upd (fun _ h1 => h1.load)
theorem execLhu_keepsCanon {c rd rs1 imm} : KeepsCanon s (execLhu c rd rs1 imm s) :=
  .upd (fun _ h1 => h1.load)
theorem execLb_keepsCanon {c rd rs1 imm} : KeepsCanon s (execLb c rd rs1 imm s) :=
  .upd (fun _ h1 => h1.load)
theorem execLbu_keepsCanon {c rd rs1 imm} : KeepsCanon s (execLbu c rd rs1 imm s) :=
  .upd (fun _ h1 => h1.load)
theorem execSw_keepsCanon {c rs2 rs1 imm} : KeepsCanon s (execSw c rs2 rs1 imm s) :=
  .upd (fun _ h1 => h1.store)
theorem execSh_keepsCanon {c rs2 rs1 imm} : KeepsCanon s (execSh c rs2 rs1 imm s) :=
  .upd (fun _ h1 => h1.store)
theorem execSb_keepsCanon {c rs2 rs1 imm} : KeepsCanon s (execSb c rs2 rs1 imm s) :=
  .upd (fun _ h1 => h1.store)
theorem execAmoadd_keepsCanon {c rd rs1 rs2} : KeepsCanon s (execAmoadd c rd rs1 rs2 s) :=
  .upd (fun _ h1 => h1.amo)
theorem execAmoswap_keepsCanon {c rd rs1 rs2} : KeepsCanon s (execAmoswap c rd rs1 rs2 s) :=
  .upd (fun _ h1 => h1.amo)
theorem execAmocas_keepsCanon {c rd rs1 rs2} : KeepsCanon s (execAmocas c rd rs1 rs2 s) :=
  .upd (fun _ h1 => h1.amo)
theorem execAmomin_keepsCanon {c rd rs1 rs2} : KeepsCanon s (execAmomin c rd rs1 rs2 s) :=
  .upd (fun _ h1 => h1.amo)
theorem execAmomax_keepsCanon {c rd rs1 rs2} : KeepsCanon s (execAmomax c rd rs1 rs2 s) :=
  .upd (fun _ h1 => h1.amo)
theorem execAmominu_keepsCanon {c rd rs1 rs2} : KeepsCanon s (execAmominu c rd rs1 rs2 s) :=
  .upd (fun _ h1 => h1.amo)
theorem execAmomaxu_keepsCanon {c rd rs1 rs2} : KeepsCanon s (execAmomaxu c rd rs1 rs2 s) :=
  .upd (fun _ h1 => h1.amo)
theorem execBeq_keepsCanon {c rs1 rs2 off} : KeepsCanon s (execBeq c rs1 rs2 off s) :=
  .upd (fun _ h1 => h1.branch)
theorem execBne_keepsCanon {c rs1 rs2 off} : KeepsCanon s (execBne c rs1 rs2 off s) :=
  .upd (fun _ h1 => h1.branch)
theorem execBlt_keepsCanon {c rs1 rs2 off} : KeepsCanon s (execBlt c rs1 rs2 off s) :=
  .upd (fun _ h1 => h1.branch)
theorem execBge_keepsCanon {c rs1 rs2 off} : KeepsCanon s (execBge c rs1 rs2 off s) :=
  .upd (fun _ h1 => h1.branch)
theorem execBltu_keepsCanon {c rs1 rs2 off} : KeepsCanon s (execBltu c rs1 rs2 off s) :=
  .upd (fun _ h1 => h1.branch)
theorem execBgeu_keepsCanon {c rs1 rs2 off} : KeepsCanon s (execBgeu c rs1 rs2 off s) :=
  .upd (fun _ h1 => h1.branch)
theorem execJal_keepsCanon {c rd imm} : KeepsCanon s (execJal c rd imm s) :=
  .upd (fun _ h1 => h1.onCell (fun _ _ _ h2 => h2.jump))
theorem execJalr_keepsCanon {c rd rs1 imm} : KeepsCanon s (execJalr c rd rs1 imm s) :=
  .upd (fun _ h1 => h1.onCell (fun _ _ _ h2 => h2.jump))
theorem execFadd_keepsCanon {c rd rs1 rs2} : KeepsCanon s (execFadd c rd rs1 rs2 s) :=
  .upd (fun _ h1 => h1.alu)
theorem execFsub_keepsCanon {c rd rs1 rs2} : KeepsCanon s (execFsub c rd rs1 rs2 s) :=
  .upd (fun _ h1 => h1.alu)
theorem execFmul_keepsCanon {c rd rs1 rs2} : KeepsCanon s (execFmul c rd rs1 rs2 s) :=
  .upd (fun _ h1 => h1.alu)
theorem execFmin_keepsCanon {c rd rs1 rs2} : KeepsCanon s (execFmin c rd rs1 rs2 s) :=
  .upd (fun _ h1 => h1.alu)
theorem execFmax_keepsCanon {c rd rs1 rs2} : KeepsCanon s (execFmax c rd rs1 rs2 s) :=
  .upd (fun _ h1 => h1.alu)
theorem execFeq_keepsCanon {c rd rs1 rs2} : KeepsCanon s (execFeq c rd rs1 rs2 s) :=
  .upd (fun _ h1 => h1.alu)
theorem execFlt_keepsCanon {c rd rs1 rs2} : KeepsCanon s (execFlt c rd rs1 rs2 s) :=
  .upd (fun _ h1 => h1.alu)
theorem execFle_keepsCanon {c rd rs1 rs2} : KeepsCanon s (execFle c rd rs1 rs2 s) :=
  .upd (fun _ h1 => h1.alu)
theorem execFsgnj_keepsCanon {c rd rs1 rs2} : KeepsCanon s (execFsgnj c rd rs1 rs2 s) :=
  .upd (fun _ h1 => h1.alu)
theorem execFsgnjn_keepsCanon {c rd rs1 rs2} : KeepsCanon s (execFsgnjn c rd rs1 rs2 s) :=
  .upd (fun _ h1 => h1.alu)
theorem execFsgnjx_keepsCanon {c rd rs1 rs2} : KeepsCanon s (execFsgnjx c rd rs1 rs2 s) :=
  .upd (fun _ h1 => h1.alu)
theorem execFcvtSW_keepsCanon {c rd rs1} : KeepsCanon s (execFcvtSW c rd rs1 s) :=
  .upd (fun _ h1 => h1.alu)
theorem execFcvtSWu_keepsCanon {c rd rs1} : KeepsCanon s (execFcvtSWu c rd rs1 s) :=
  .upd (fun _ h1 => h1.alu)
theorem execFcvtWS_keepsCanon {c rd rs1} : KeepsCanon s (execFcvtWS c rd rs1 s) :=
  .upd (fun _ h1 => h1.alu)
theorem execFcvtWuS_keepsCanon {c rd rs1} : KeepsCanon s (execFcvtWuS c rd rs1 s) :=
  .upd (fun _ h1 => h1.alu)
theorem execFclass_keepsCanon {c rd rs1} : KeepsCanon s (execFclass c rd rs1 s) :=
  .upd (fun _ h1 => h1.alu)
theorem execFmadd_keepsCanon {c rd rs1 rs2 rs3} : KeepsCanon s (execFmadd c rd rs1 rs2 rs3 s) :=
  .upd (fun _ h1 => h1.alu)
theorem execFmsub_keepsCanon {c rd rs1 rs2 rs3} : KeepsCanon s (execFmsub c rd rs1 rs2 rs3 s) :=
  .upd (fun _ h1 => h1.alu)
theorem execFnmadd_keepsCanon {c rd rs1 rs2 rs3} : KeepsCanon s (execFnmadd c rd rs1 rs2 rs3 s) :=
  .upd (fun _ h1 => h1.alu)
theorem execFnmsub_keepsCanon {c rd rs1 rs2 rs3} : KeepsCanon s (execFnmsub c rd rs1 rs2 rs3 s) :=
  .upd (fun _ h1 => h1.alu)
theorem execBadd2_keepsCanon {c rd rs1 rs2} : KeepsCanon s (execBadd2 c rd rs1 rs2 s) :=
  .upd (fun _ h1 => h1.alu)
theorem execBmul2_keepsCanon {c rd rs1 rs2} : KeepsCanon s (execBmul2 c rd rs1 rs2 s) :=
  .upd (fun _ h1 => h1.alu)
theorem execBmax2_keepsCanon {c rd rs1 rs2} : KeepsCanon s (execBmax2 c rd rs1 rs2 s) :=
  .upd (fun _ h1 => h1.alu)
theorem execBmin2_keepsCanon {c rd rs1 rs2} : KeepsCanon s (execBmin2 c rd rs1 rs2 s) :=
  .upd (fun _ h1 => h1.alu)
theorem execBdot2_keepsCanon {c rd rs1 rs2} : KeepsCanon s (execBdot2 c rd rs1 rs2 s) :=
  .upd (fun _ h1 => h1.alu)
theorem execBpack_keepsCanon {c rd rs1 rs2} : KeepsCanon s (execBpack c rd rs1 rs2 s) :=
  .upd (fun _ h1 => h1.alu)
theorem execBlo_keepsCanon {c rd rs1} : KeepsCanon s (execBlo c rd rs1 s) :=
  .upd (fun _ h1 => h1.alu)
theorem execBhi_keepsCanon {c rd rs1} : KeepsCanon s (execBhi c rd rs1 s) :=
  .upd (fun _ h1 => h1.alu)
theorem execExp2_keepsCanon {c rd rs1} : KeepsCanon s (execExp2 c rd rs1 s) :=
  .upd (fun _ h1 => h1.alu)
theorem execLog2_keepsCanon {c rd rs1} : KeepsCanon s (execLog2 c rd rs1 s) :=
  .upd (fun _ h1 => h1.alu)
theorem execRcp_keepsCanon {c rd rs1} : KeepsCanon s (execRcp c rd rs1 s) :=
  .upd (fun _ h1 => h1.alu)
theorem execRsqrt_keepsCanon {c rd rs1} : KeepsCanon s (execRsqrt c rd rs1 s) :=
  .upd (fun _ h1 => h1.alu)
theorem execSqrt_keepsCanon {c rd rs1} : KeepsCanon s (execSqrt c rd rs1 s) :=
  .upd (fun _ h1 => h1.alu)
theorem execTanh_keepsCanon {c rd rs1} : KeepsCanon s (execTanh c rd rs1 s) :=
  .upd (fun _ h1 => h1.alu)
theorem execSigmoid_keepsCanon {c rd rs1} : KeepsCanon s (execSigmoid c rd rs1 s) :=
  .upd (fun _ h1 => h1.alu)
theorem execHmix_keepsCanon {c rd rs1 rs2} : KeepsCanon s (execHmix c rd rs1 rs2 s) :=
  .upd (fun _ h1 => h1.onCell (fun _ _ _ h2 => h2.setCell))
theorem execCrcw_keepsCanon {c rd rs1 y} : KeepsCanon s (execCrcw c rd rs1 y s) :=
  .upd (fun _ h1 => h1.alu)
theorem execCrcb_keepsCanon {c rd rs1 y} : KeepsCanon s (execCrcb c rd rs1 y s) :=
  .upd (fun _ h1 => h1.alu)
theorem execGen_keepsCanon {c rd rs1 rs2 stream} : KeepsCanon s (execGen c rd rs1 rs2 stream s) :=
  .upd (fun _ h1 => h1.alu)
theorem execRdsr_keepsCanon {c rd sr} : KeepsCanon s (execRdsr c rd sr s) :=
  .upd (fun _ h1 => h1.onCell (fun _ _ _ h2 => h2.setCell))
theorem execWrsr_keepsCanon {c rs1 hi} : KeepsCanon s (execWrsr c rs1 hi s) :=
  .upd (fun _ h1 => h1.onCell (fun _ _ _ h2 => h2.setCell))

theorem execSarm_keepsCanon {c rd rs1 rs2 ctx} : KeepsCanon s (execSarm c rd rs1 rs2 ctx s) := by
  refine .upd (fun _ h1 => ?_)
  refine .onCell h1 (fun _ _ _ h2 => ?_)
  extract_lets -underBinder _ _ _
  split
  · exact h2.cellException
  · split
    · exact h2.cellException
    · split
      · exact h2.refuse.setCell
      · exact h2.arm.setCell

theorem execSwait_keepsCanon {c rd ctx} : KeepsCanon s (execSwait c rd ctx s) := by
  refine .upd (fun _ h1 => ?_)
  refine .onCell h1 (fun _ _ _ h2 => ?_)
  extract_lets -underBinder _
  split
  · exact h2.cellException
  · exact .ite h2.setCell h2.setCell

theorem execBalloc_keepsCanon {c rs1 rs2} : KeepsCanon s (execBalloc c rs1 rs2 s) := by
  refine .upd (fun _ h1 => ?_)
  refine .onCell h1 (fun _ _ _ h2 => ?_)
  extract_lets -underBinder _ _
  split
  · exact h2.cellException
  · split
    · exact h2.cellException
    · exact h2.balloc

theorem execBrel_keepsCanon {c rs1} : KeepsCanon s (execBrel c rs1 s) := by
  refine .upd (fun _ h1 => ?_)
  refine .onCell h1 (fun _ _ _ h2 => ?_)
  extract_lets -underBinder _
  split
  · exact h2.cellException
  · split
    · exact h2.cellException
    · exact h2.setCell.releaseHandle

theorem execLpush_keepsCanon {c rs1 rs2} : KeepsCanon s (execLpush c rs1 rs2 s) := by
  refine .upd (fun _ h1 => ?_)
  refine .onCell h1 (fun _ _ _ h2 => ?_)
  extract_lets -underBinder _
  split
  · exact h2.cellException
  · split
    · exact h2.cellException
    · split
      · exact h2.cellException
      · exact .ite h2.cellException (.ite h2.cellException (.ite h2.setCell.releaseHandle h2.updStr.setCell.push))

theorem execHloc_keepsCanon {c rd rs1} : KeepsCanon s (execHloc c rd rs1 s) := by
  refine .upd (fun _ h1 => ?_)
  refine .onCell h1 (fun _ _ _ h2 => ?_)
  extract_lets -underBinder _
  split
  · exact h2.cellException
  · split
    · exact h2.cellException
    · exact .ite h2.cellException h2.setCell

theorem Device.Canon.syncStatus {g x rd code} (h : d.Canon) : (d.syncStatus g x rd code).Canon := by
  unfold Device.syncStatus
  extract_lets -underBinder d1
  have h1 : d1.Canon := .ite h h.refuse
  exact h1.setCell

theorem execSsig_keepsCanon {c rd rs1 rs2} : KeepsCanon s (execSsig c rd rs1 rs2 s) := by
  refine .upd (fun _ h1 => ?_)
  refine .onCell h1 (fun _ _ _ h2 => ?_)
  extract_lets -underBinder _ _
  split
  · exact h2.syncStatus
  · exact .ite h2.addSyncOp.syncStatus (.ite h2.syncStatus h2.sendLink.syncStatus)

theorem execSwge_keepsCanon {c rd rs1 rs2} : KeepsCanon s (execSwge c rd rs1 rs2 s) := by
  refine .upd (fun _ h1 => ?_)
  refine .onCell h1 (fun _ _ _ h2 => ?_)
  extract_lets -underBinder _ _
  split
  · exact h2.syncStatus
  · exact .ite h2.syncStatus h2.setCell

theorem execSrst_keepsCanon {c rd rs1} : KeepsCanon s (execSrst c rd rs1 s) := by
  refine .upd (fun _ h1 => ?_)
  refine .onCell h1 (fun _ _ _ h2 => ?_)
  extract_lets -underBinder _
  split
  · exact h2.syncStatus
  · exact h2.addSyncOp.syncStatus

theorem execAsk_keepsCanon {c rd rs1} : KeepsCanon s (execAsk c rd rs1 s) := by
  refine .upd (fun _ h1 => ?_)
  refine .onCell h1 (fun _ _ _ h2 => ?_)
  extract_lets -underBinder _ d3 _
  have h3 : d3.Canon := h2.completeItem
  exact .ite h2.cellException (.ite h2.cellException h3.setCell)

theorem execTnew_keepsCanon {c rd rs1} : KeepsCanon s (execTnew c rd rs1 s) := by
  refine .upd (fun _ h1 => ?_)
  refine .onCell h1 (fun _ _ _ h2 => ?_)
  extract_lets -underBinder _ _
  split
  · exact h2.cellException
  · split
    · rename_i d3 heq
      have h3 : d3.Canon := h2.allocTag.of_eq heq
      exact h3.setCell
    · exact h2.setCell.updStr

theorem execTrap_keepsCanon {c rs1} : KeepsCanon s (execTrap c rs1 s) :=
  .upd (fun _ h1 => h1.onCell (fun _ _ _ h2 => h2.cellException))

theorem execHalt_keepsCanon {c} : KeepsCanon s (execHalt c s) := by
  refine .upd (fun _ h1 => ?_)
  refine .onCell h1 (fun _ _ _ h2 => ?_)
  extract_lets -underBinder d3 _
  have h3 : d3.Canon := h2.completeItem
  exact h3.setCell

/-! ### Pack -/

theorem Device.Canon.setPack {die k p} (h : d.Canon) : (d.setPack die k p).Canon :=
  h
theorem Device.Canon.packNotice {die k id batch} (h : d.Canon) : (d.packNotice die k id batch).Canon :=
  h.record
theorem Device.Canon.packDrop {die k id batch} (h : d.Canon) : (d.packDrop die k id batch).Canon :=
  h.count.packNotice
theorem Device.Canon.packDiscard {die k id batch} (h : d.Canon) : (d.packDiscard die k id batch).Canon :=
  h.count.packNotice
theorem Device.Canon.addStraggler {die k id batch} (h : d.Canon) : (d.addStraggler die k id batch).Canon :=
  .ite h.packDrop h.setPack
theorem Device.Canon.holdCarried {die k x} (h : d.Canon) : (d.holdCarried die k x).Canon :=
  .ite h.setPack (.ite h.packDrop h.setPack)

theorem Device.Canon.closeBatch {die k c b cause} (h : d.Canon) : (d.closeBatch die k c b cause).Canon := by
  unfold Device.closeBatch
  extract_lets -underBinder _ _ _ _ _ _ _ _
  split
  extract_lets -underBinder _ _ _ _ _ _ _ _ _ _ _ _ _ d1 d2 d3
  have h1 : d1.Canon := h.setPack
  have h2 : d2.Canon := h1.count.count.count.count.count
  have h3 : d3.Canon := .foldl h2 (fun _ _ h4 => h4.holdCarried)
  exact .ite (.foldl h3 (fun _ _ h4 => h4.addStraggler)) h2

theorem Device.Canon.packSettle {die k c ended} (h : d.Canon) : (d.packSettle die k c ended).Canon := by
  unfold Device.packSettle
  refine .foldl h fun _ _ h1 => ?_
  split
  · exact .ite h1.closeBatch h1
  · exact h1

theorem Device.Canon.packNote {die k c} (h : d.Canon) : (d.packNote die k c).Canon :=
  h.setPack

theorem Device.Canon.window {die k} (h : d.Canon) : (d.window die k).2.Canon := by
  unfold Device.window
  extract_lets -underBinder _
  split
  · exact h
  · exact h.setPack

theorem Device.Canon.updBatch {die k id f} (h : d.Canon) : (d.updBatch die k id f).Canon :=
  h.setPack

theorem Device.Canon.admitSample {die k c x} (h : d.Canon) : (d.admitSample die k c x).Canon := by
  unfold Device.admitSample
  extract_lets -underBinder _ _ d1 _ x''' x'''' f d2
  have h1 : d1.Canon := h.setPack.count
  have hf : ∀ (d0 : Device), d0.Canon → (f d0).Canon := fun _ h2 => h2.setPack
  have h2 : d2.Canon := h1.count
  split
  · clear_value x'''
    split
    · exact h2.updBatch
    · exact .ite (hf _ h2) h2
  · clear_value x'''
    split
    · exact h1.updBatch
    · clear_value x''''
      split
      · exact (hf _ h1).setPack
      · exact .ite h1.packDiscard (.unpair h1.window (fun _ _ h3 => h3.updBatch))

theorem Device.Canon.admitManifest {die k batch ids space} (h : d.Canon) : (d.admitManifest die k batch ids space).Canon :=
  .ite h.packDiscard h.setPack

theorem Device.Canon.packCommit {tag} (h : d.Canon) : (d.packCommit tag).Canon := by
  unfold Device.packCommit
  refine .foldl h fun _ _ h1 => ?_
  extract_lets -underBinder _ _ _ _
  split
  · exact h1
  · split
    · exact h1
    · extract_lets -underBinder d2
      have h2 : d2.Canon := h1.setPack
      split
      · exact h2
      · refine .packNote ?_
        refine .foldl h2.packSettle fun _ _ h3 => ?_
        split
        · exact h3.admitSample
        · exact h3.admitManifest

theorem Device.Canon.packTick (h : d.Canon) : d.packTick.Canon := by
  unfold Device.packTick
  refine .foldl h fun _ _ h1 => ?_
  extract_lets -underBinder _ _
  split
  · exact h1
  · split
    · exact h1.packSettle
    · exact h1

theorem Device.Canon.packAbort {die tag} (h : d.Canon) : (d.packAbort die tag).Canon :=
  .foldl h (fun _ _ h1 => .ite h1.setPack h1)
theorem Device.Canon.packAge {die k c} (h : d.Canon) : (d.packAge die k c).Canon :=
  .foldl h.setPack (fun _ _ h1 => h1.packDrop)

theorem Device.Canon.packMark (h : d.Canon) : d.packMark.Canon := by
  unfold Device.packMark
  refine .foldl h fun _ _ h1 => ?_
  extract_lets -underBinder _ _
  split
  · exact h1
  · exact .ite h1 (.packAge (.foldl h1.setPack (fun _ _ h2 => h2.closeBatch)))

theorem Device.Canon.packFlushInst {die k c} (h : d.Canon) : (d.packFlushInst die k c).Canon :=
  .ite h (.ite h.closeBatch (.foldl h (fun _ _ h1 => h1.closeBatch)))

theorem Device.Canon.packSwitch (h : d.Canon) : d.packSwitch.Canon := by
  unfold Device.packSwitch
  refine .foldl h fun _ _ h1 => ?_
  extract_lets -underBinder _ _
  split
  · exact h1
  · extract_lets -underBinder d2 _ d3 _ d4
    have h2 : d2.Canon := h1.packFlushInst
    have h3 : d3.Canon := .foldl h2 (fun _ _ h4 => h4.packDrop)
    have h4 : d4.Canon := h3.count
    exact h4.setPack

theorem Device.Canon.packFree {die k} (h : d.Canon) : (d.packFree die k).Canon :=
  .ite h.setPack h

theorem Device.Canon.packWrite {die k c} (h : d.Canon) : (d.packWrite die k c).Canon := by
  unfold Device.packWrite
  extract_lets -underBinder _
  split
  · extract_lets -underBinder d1 d2
    have h1 : d1.Canon := h.write
    have h2 : d2.Canon := h1.setPack
    exact .ite h2.setFld h2
  · exact h

theorem Device.Canon.packArm {die k c} (h : d.Canon) : (d.packArm die k c).Canon := by
  unfold Device.packArm
  extract_lets -underBinder _ _
  split
  · exact .ite h.setPack.arm h
  · exact h

theorem execPackHandleRead_keepsCanon {dd k st} : KeepsCanon st (execPackHandleRead dd k st) := by
  refine .upd (fun _ h1 => ?_)
  split
  · exact h1
  · extract_lets -underBinder _ d2 _
    have h2 : d2.Canon := h1.discardHeads.packFree.packSettle
    split
    · exact h2
    · extract_lets -underBinder _
      split
      · exact h2
      · split
        · exact h2
        · split
          · exact h2
          · rename_i d3 heq
            have h3 : d3.Canon := h2.popLift.of_eq heq
            split
            · exact h3.releaseHandle.requestAbort
            · split
              · exact h3.releaseHandle.requestAbort
              · split
                · exact h3.releaseHandle.requestAbort
                · exact h3.setPack.releaseHandle

theorem execBatchCloseBudget_keepsCanon {dd k batch st} : KeepsCanon st (execBatchCloseBudget dd k batch st) := by
  refine .upd (fun _ h1 => ?_)
  split
  · split
    · extract_lets -underBinder d2
      have h2 : d2.Canon := h1.reachPhase
      exact h2.closeBatch
    · exact h1
  · exact h1

theorem execPackEmit_keepsCanon {dd k st} : KeepsCanon st (execPackEmit dd k st) := by
  refine .upd (fun _ h1 => ?_)
  split
  · exact h1
  · exact .ite h1 h1.packFree.packSettle.packWrite.packArm

theorem Device.Canon.packFlush {die k} (h : d.Canon) : (d.packFlush die k).Canon := by
  unfold Device.packFlush
  split
  · exact h.refuse
  · extract_lets -underBinder d1 _
    have h1 : d1.Canon := h.packFlushInst
    exact h1.setFld

theorem execPackFlush_keepsCanon {dd k st} : KeepsCanon st (execPackFlush dd k st) :=
  .upd (fun _ h1 => h1.packFlush)

/-! ### Containment -/

theorem Device.Canon.abortAll {tags code} (h : d.Canon) : (d.abortAll tags code).Canon :=
  .foldl h (fun _ _ h1 => h1.requestAbort)

theorem Device.Canon.fmapChanged (h : d.Canon) : d.fmapChanged.Canon := by
  unfold Device.fmapChanged
  extract_lets -underBinder d1 _ _
  have h1 : d1.Canon := h.count.setFld
  exact h1

theorem Device.Canon.fmapAdd {e} (h : d.Canon) : OptDevCanon (d.fmapAdd e) := by
  unfold Device.fmapAdd
  split
  · exact trivial
  · split
    · exact trivial
    · exact .fmapChanged h

theorem Device.Canon.withdrawPush {g} (h : d.Canon) : (d.withdrawPush g).Canon := by
  unfold Device.withdrawPush
  extract_lets -underBinder _ _ d1
  have h1 : d1.Canon := h.updStr
  split
  · exact h1.setCell
  · exact h1

theorem Device.Canon.giveUpItem {g} (h : d.Canon) : (d.giveUpItem g).Canon := by
  unfold Device.giveUpItem
  extract_lets -underBinder d1
  have h1 : d1.Canon := h.withdrawPush
  split
  · exact .foldl h1.completeItem (fun _ _ h2 => h2.releaseHandle)
  · exact h1

theorem Device.Canon.emptyGate {k} (h : d.Canon) : (d.emptyGate k).Canon :=
  .foldl h.setGate (fun _ _ h1 => h1.releaseHandle)

theorem Device.Canon.stopUnit {l} (h : d.Canon) : (d.stopUnit l).Canon := by
  unfold Device.stopUnit
  extract_lets -underBinder d1 d2
  have h1 : d1.Canon := h
  have h2 : d2.Canon := .foldl h1 (fun _ _ h3 => h3.giveUpItem)
  exact .foldl h2 (fun _ _ h3 => h3.emptyGate)

theorem Device.Canon.containDie {die code host} (h : d.Canon) : (d.containDie die code host).Canon := by
  unfold Device.containDie
  extract_lets -underBinder _ _
  exact .ite h (h.fmapAdd.getD h).stopUnit.abortAll

theorem Device.Canon.startDump {cause core} (h : d.Canon) : (d.startDump cause core).Canon :=
  h

theorem Device.Canon.showShadow {p} (h : d.Canon) : (d.showShadow p).Canon := by
  unfold Device.showShadow
  split
  · exact h.setFld.setReg
  · exact h.setFld.setReg

theorem Device.Canon.setShadowState {st} (h : d.Canon) : (d.setShadowState st).Canon :=
  h.setFld
theorem Device.Canon.dropPlanWork (h : d.Canon) : d.dropPlanWork.Canon :=
  .ite (.showShadow (.setShadowState h)) h

theorem Device.Canon.refuseQueued (h : d.Canon) : d.refuseQueued.Canon := by
  unfold Device.refuseQueued
  extract_lets -underBinder _ d1 _
  have h1 : d1.Canon := .foldl h (fun _ _ h2 => h2.refuseMsg)
  exact .dropPlanWork h1

theorem Device.Canon.containPackage {code} (h : d.Canon) : (d.containPackage code).Canon := by
  unfold Device.containPackage
  split
  · exact h
  · extract_lets -underBinder d1
    have h1 : d1.Canon := .abortAll (.foldl h (fun _ _ h2 => h2.containDie))
    exact h1.setFld.setFld.refuseQueued.startDump

theorem Device.Canon.fenceUnit {l code host} (h : d.Canon) : (d.fenceUnit l code host).1.Canon := by
  unfold Device.fenceUnit
  extract_lets -underBinder _ _
  split
  · exact h
  · split
    · exact h.containDie
    · split
      · rename_i d1 heq
        have h1 : d1.Canon := h.fmapAdd.of_eq heq
        exact h1.stopUnit.abortAll
      · exact .iteFst h h.containDie.record

theorem Device.Canon.setErrq {q x} (h : d.Canon) : (d.setErrq q x).Canon :=
  h

theorem Device.Canon.containEntry {e} (h : d.Canon) : (d.containEntry e).1.Canon := by
  unfold Device.containEntry
  split
  · exact h
  · split
    · exact h.requestAbort
    · split
      · exact .iteFst h.requestAbort.containPackage h.requestAbort.containDie
      · exact .iteFst h (.iteFst h.requestAbort.fenceUnit h.requestAbort)

theorem Device.Canon.errqBegin {q e} (h : d.Canon) : (d.errqBegin q e).Canon :=
  .unpairFst h.containEntry (fun _ _ h1 => h1.setErrq)

theorem Device.Canon.errqJoin {q e} (h : d.Canon) : (d.errqJoin q e).Canon := by
  unfold Device.errqJoin
  extract_lets -underBinder _ _ _
  split
  · exact h.setErrq.errqBegin
  · exact .ite h.setErrq.count.errqBegin h.setErrq

theorem Device.Canon.errqEnterX0 {e} (h : d.Canon) : (d.errqEnterX0 e).Canon :=
  .ite h.setErrq.count.containPackage.record h.errqJoin
theorem Device.Canon.errqEnter {q e} (h : d.Canon) : (d.errqEnter q e).Canon :=
  .ite h.errqEnterX0 (.ite h.setErrq.count.errqEnterX0 h.errqJoin)

theorem Device.Canon.errqDone {q} (h : d.Canon) : (d.errqDone q).Canon := by
  unfold Device.errqDone
  extract_lets -underBinder _
  split
  · exact h
  · extract_lets -underBinder _ d1 _
    have h1 : d1.Canon := h.recorderArrive.count
    split
    · exact h1.setErrq
    · exact .ite h1.setErrq h1.setErrq.errqBegin

theorem Device.Canon.poisonGranule {a tag byGroomer code} (h : d.Canon) : (d.poisonGranule a tag byGroomer code).Canon := by
  unfold Device.poisonGranule
  extract_lets -underBinder _ _ _ d1
  have h1 : d1.Canon := .setReg (.count h)
  exact .ite h h1.errqEnter

theorem Device.Canon.sramBad {die index e} (h : d.Canon) : (d.sramBad die index e).Canon :=
  h.count.setReg.errqEnter
theorem Device.Canon.sramBadAt {die e} (h : d.Canon) : (d.sramBadAt die e).Canon :=
  .unpair h.free (fun _ _ h1 => h1.sramBad)

theorem execErrqEntry_keepsCanon {q f} : KeepsCanon s (execErrqEntry q f s) := by
  refine .upd (fun _ h1 => ?_)
  split
  · exact .ite h1.poisonGranule h1.errqEnter
  · exact h1.errqEnter

theorem execErrqHandleDone_keepsCanon {q} : KeepsCanon s (execErrqHandleDone q s) :=
  .upd (fun _ h1 => h1.errqDone)
theorem execStationDatapathFault_keepsCanon {dd kind k} : KeepsCanon s (execStationDatapathFault dd kind k s) :=
  .upd (fun _ h1 => h1.abortAll.errqEnter)
theorem execControlFault_keepsCanon {q place} : KeepsCanon s (execControlFault q place s) :=
  .upd (fun _ h1 => h1.errqEnter)
theorem execFabricLinkDown_keepsCanon {link} : KeepsCanon s (execFabricLinkDown link s) :=
  .upd (fun _ h1 => h1.errqEnter)

theorem Device.Canon.cellFault {g code} (h : d.Canon) : (d.cellFault g code).Canon := by
  unfold Device.cellFault
  extract_lets -underBinder _ _ _ d1 d2 d3 d4
  have h1 : d1.Canon := h.setCell
  have h2 : d2.Canon := h1.setReg
  have h3 : d3.Canon := h2.setReg
  have h4 : d4.Canon := h3.count
  exact h4.errqEnter

theorem execCellResidueFail_keepsCanon {c} : KeepsCanon s (execCellResidueFail c s) :=
  .upd (fun _ h1 => h1.count.cellFault)
theorem execCellStoreEcc_keepsCanon {c} : KeepsCanon s (execCellStoreEcc c s) :=
  .upd (fun _ h1 => h1.cellFault)

theorem Device.Canon.clusterException {k code} (h : d.Canon) : (d.clusterException k code).Canon := by
  unfold Device.clusterException
  extract_lets -underBinder _ _ _ _ d1
  have h1 : d1.Canon := h.setReg.setReg
  exact .foldl h1.count (fun _ _ h2 => h2.setCell)

theorem execClusterFault_keepsCanon {dd p} : KeepsCanon s (execClusterFault dd p s) :=
  .upd (fun _ h1 => h1.clusterException.errqEnter)

theorem Device.Canon.fmapEnd {action code} (h : d.Canon) : (d.fmapEnd action code).Canon := by
  unfold Device.fmapEnd
  extract_lets -underBinder d1
  have h1 : d1.Canon := h.setFld.setFld
  exact .ite h1.setFld h1.refuse

theorem Device.Canon.fmapAddCmd (h : d.Canon) : d.fmapAddCmd.Canon :=
  .ite h.fmapEnd (.ite h.fmapEnd (.ite h.fmapEnd h.fenceUnit.record.fmapEnd))

theorem Device.Canon.fmapRemoveCmd (h : d.Canon) : d.fmapRemoveCmd.Canon := by
  unfold Device.fmapRemoveCmd
  extract_lets -underBinder _
  split
  · exact h.fmapEnd
  · split
    · exact h.fmapEnd
    · split
      · exact h.fmapEnd
      · extract_lets -underBinder _ d1
        have h1 : d1.Canon := .fmapChanged h
        exact h1.record.fmapEnd

theorem execFmapAdd_keepsCanon : KeepsCanon s (execFmapAdd s) :=
  .upd (fun _ h1 => h1.fmapAddCmd)
theorem execFmapRemove_keepsCanon : KeepsCanon s (execFmapRemove s) :=
  .upd (fun _ h1 => h1.fmapRemoveCmd)

/-! ### Gather -/

theorem Device.Canon.setEmb {key e} (h : d.Canon) : (d.setEmb key e).Canon :=
  h

theorem Device.Canon.gatherBegin {die k want f} (h : d.Canon) (hf : ∀ x0 x1 (d2 : Device), d2.Canon → (f x0 x1 d2).Canon) :
    (d.gatherBegin die k want f).Canon := by
  unfold Device.gatherBegin
  split
  · exact h
  · split
    · exact h
    · extract_lets -underBinder d1
      have h1 : d1.Canon := h.discardFront
      split
      · exact .ite (h1.beginRun hf) h1
      · exact h1

theorem Device.Canon.gatherFail {die k code j} (h : d.Canon) : (d.gatherFail die k code j).Canon :=
  h.failJob

theorem execGatherLookupJob_keepsCanon {dd k st} : KeepsCanon st (execGatherLookupJob dd k st) := by
  refine .upd (fun _ h1 => ?_)
  refine .gatherBegin h1 (fun _ _ _ h2 => ?_)
  extract_lets -underBinder _ _ _ f
  have hf : ∀ x0, (f x0).Canon := fun _ => h2.gatherFail
  split
  · exact hf _
  · split
    · exact hf _
    · split
      · exact hf _
      · extract_lets -underBinder _ _ _
        split
        · exact hf _
        · split
          · exact hf _
          · exact h2.setJob

theorem execGatherGradientJob_keepsCanon {dd k st} : KeepsCanon st (execGatherGradientJob dd k st) := by
  refine .upd (fun _ h1 => ?_)
  refine .gatherBegin h1 (fun _ _ _ h2 => ?_)
  extract_lets -underBinder _ _ _ f
  have hf : ∀ x0, (f x0).Canon := fun _ => h2.gatherFail
  split
  · exact hf _
  · split
    · exact hf _
    · split
      · exact hf _
      · exact .ite (hf _) (.ite (hf _) (.ite (hf _) h2.setEmb.setJob))

theorem execGatherJobEnd_keepsCanon {dd k st} : KeepsCanon st (execGatherJobEnd dd k st) := by
  refine .upd (fun _ h1 => ?_)
  refine .withJob h1 (fun _ _ _ h2 => ?_)
  extract_lets -underBinder _ _ _ _ _ _ f f'
  have hf : ∀ (d0 : Device), d0.Canon → (f d0).Canon := fun _ h3 => h3.dropJob.releaseInputs.count
  have hf' : ∀ (d0 : Device), d0.Canon → (f' d0).Canon := fun _ h3 => by
    unfold f'
    extract_lets -underBinder _ d4 d5
    have h4 : d4.Canon := .ite h3 h3.setEmb
    have h5 : d5.Canon := h4.count.count
    exact h5.count.count.count
  exact .ite (hf _ (hf' _ h2)) (.ite (h2.afterPush hf) (h2.jobOutputs hf' hf))

theorem Device.Canon.embCommit {tag} (h : d.Canon) : (d.embCommit tag).Canon := by
  unfold Device.embCommit
  refine .foldl h fun _ _ h1 => ?_
  split
  · exact h1
  · exact h1.setEmb

theorem Device.Canon.embAbort {die tag} (h : d.Canon) : (d.embAbort die tag).Canon :=
  h
theorem Device.Canon.flushDone {die key} (h : d.Canon) : (d.flushDone die key).Canon :=
  h.setEmb.setFld.setFld
theorem Device.Canon.beginFlush {die key} (h : d.Canon) : (d.beginFlush die key).Canon :=
  .ite (.ite h.flushDone h) h.setEmb

theorem Device.Canon.embNightTable {die x} (h : d.Canon) : (d.embNightTable die x).Canon := by
  unfold Device.embNightTable
  extract_lets -underBinder _ _ _ d1
  have h1 : d1.Canon := .ite h (.ite h.beginFlush (.ite h h.setEmb))
  exact h1.setEmb

theorem Device.Canon.embNight (h : d.Canon) : d.embNight.Canon :=
  .foldl h (fun _ _ h1 => .ite h1 h1.embNightTable)
theorem Device.Canon.embLate (h : d.Canon) : d.embLate.Canon :=
  .foldl h (fun _ _ h1 => .ite h1.count h1)
theorem Device.Canon.embCarry (h : d.Canon) : d.embCarry.1.Canon :=
  h
theorem Device.Canon.copyRecord {src dst n} (h : d.Canon) : (d.copyRecord src dst n).Canon :=
  .foldl h.write (fun _ _ h1 => .ite h1.poisonRange h1)
theorem Device.Canon.copyMoves {die x ms} (h : d.Canon) : (d.copyMoves die x ms).Canon :=
  .foldl h (fun _ _ h1 => h1.copyRecord)

theorem Device.Canon.onTable {die t f} (h : d.Canon) (hf : ∀ x0 x1 (d2 : Device), d2.Canon → (f x0 x1 d2).Canon) :
    (d.onTable die t f).Canon := by
  unfold Device.onTable
  split
  · exact h
  · exact .ite h (hf _ _ _ h)

theorem execMigrationCopyEnd_keepsCanon {dd t st} : KeepsCanon st (execMigrationCopyEnd dd t st) := by
  refine .upd (fun _ h1 => ?_)
  refine .onTable h1 (fun _ _ _ h2 => ?_)
  split
  · exact h2
  · exact .ite h2 h2.copyMoves.setEmb

theorem execRoundReplay_keepsCanon {dd t st} : KeepsCanon st (execRoundReplay dd t st) := by
  refine .upd (fun _ h1 => ?_)
  refine .onTable h1 (fun _ _ _ h2 => ?_)
  split
  · exact h2
  · exact .ite h2 h2.copyMoves.setEmb

theorem execCutOver_keepsCanon {dd t st} : KeepsCanon st (execCutOver dd t st) := by
  refine .upd (fun _ h1 => ?_)
  refine .onTable h1 (fun _ _ _ h2 => ?_)
  split
  · exact h2
  · split
    · exact h2
    · extract_lets -underBinder _ d3 d4 d5
      have h3 : d3.Canon := h2.setEmb
      have h4 : d4.Canon := h3.count.count
      have h5 : d5.Canon := .ite h4.flushDone h4
      exact .ite h5.beginFlush h5

theorem execFrameReturn_keepsCanon {dd t area frame st} : KeepsCanon st (execFrameReturn dd t area frame st) :=
  .upd (fun _ h1 => h1.onTable (fun _ _ _ h2 => h2.setEmb))

theorem execApplyStart_keepsCanon {dd t st} : KeepsCanon st (execApplyStart dd t st) := by
  refine .upd (fun _ h1 => ?_)
  refine .onTable h1 (fun _ _ _ h2 => ?_)
  extract_lets -underBinder _ _ d3 _ _
  have h3 : d3.Canon := .ite h2 h2.reachPhase
  exact .ite h2 h3.count.setEmb

theorem Device.Canon.applyRow {die x c key r cs} (h : d.Canon) : (d.applyRow die x c key r cs).Canon := by
  unfold Device.applyRow
  extract_lets -underBinder _ _ d1 d2
  have h1 : d1.Canon := h.write.count
  have h2 : d2.Canon := h1.count
  exact .ite h.errqEnter (.ite h2.setEmb h2)

theorem execApplyEnd_keepsCanon {dd t st} : KeepsCanon st (execApplyEnd dd t st) := by
  refine .upd (fun _ h1 => ?_)
  refine .onTable h1 (fun _ _ _ h2 => ?_)
  split
  · exact h2
  · split
    · exact h2
    · extract_lets -underBinder _ _ d3 _ d4
      have h3 : d3.Canon := .foldl h2 (fun _ _ h4 => h4.applyRow)
      have h4 : d4.Canon := h3.setEmb
      exact .ite h4.beginFlush h4

theorem Device.Canon.embFlushCmd {die t action} (h : d.Canon) : (d.embFlushCmd die t action).Canon := by
  unfold Device.embFlushCmd
  extract_lets -underBinder d1 _
  have h1 : d1.Canon := h.setFld.setFld
  exact .ite h.refuse (.ite h.setFld.refuse (.ite h.setFld.refuse h1.setFld.setEmb))

theorem execEmbFlush_keepsCanon {dd t action st} : KeepsCanon st (execEmbFlush dd t action st) :=
  .write64 (fun _ h1 => h1.embFlushCmd)
theorem Device.Canon.embRetire {new} (h : d.Canon) : (d.embRetire new).Canon :=
  .foldl h (fun _ _ h1 => .ite h1 (.ite h1.setEmb.beginFlush h1.setEmb))

theorem Device.Canon.embInstall {old new} (h : d.Canon) : (d.embInstall old new).Canon := by
  unfold Device.embInstall
  extract_lets -underBinder _ _ _ d1 d2
  have h1 : d1.Canon := h
  have h2 : d2.Canon := h1.foldl fun _ _ h => .ite h h.filterRegs
  exact h2.foldl fun _ _ h => .ite h.setFld.setFld.record h.setFld.setFld.setEmb

/-! ### Select -/

theorem Device.Canon.setSelRows {key l} (h : d.Canon) : (d.setSelRows key l).Canon :=
  h
theorem Device.Canon.selAbort {die tag} (h : d.Canon) : (d.selAbort die tag).Canon :=
  h

theorem execSelectPiece_keepsCanon {dd k st} : KeepsCanon st (execSelectPiece dd k st) := by
  refine .upd (fun _ h1 => ?_)
  refine .beginJob h1 (fun _ _ _ h2 => ?_)
  split
  · exact h2
  · extract_lets -underBinder _ _ _ _ _ f _
    have hf : ∀ x0, (f x0).Canon := fun _ => h2.setSelRows.failJob
    split
    · exact hf _
    · split
      · exact hf _
      · split
        · exact .ite (hf _) h2.setJob
        · split
          · exact hf _
          · extract_lets -underBinder _ _ _ _ _ d3 d4
            have h3 : d3.Canon := h2.count.count
            have h4 : d4.Canon := h3.setSelRows.releaseHandle
            exact .ite h4.setJob h4

theorem Device.Canon.selCount {die k whole rs} (h : d.Canon) : (d.selCount die k whole rs).Canon :=
  h.count.count.count.count

theorem execSelectJobEnd_keepsCanon {dd k st} : KeepsCanon st (execSelectJobEnd dd k st) := by
  refine .upd (fun _ h1 => ?_)
  refine .withJob h1 (fun _ _ _ h2 => ?_)
  extract_lets -underBinder _ _ _ f
  have hf : ∀ (d0 : Device), d0.Canon → (f d0).Canon := fun _ h3 => h3.dropJob.releaseInputs.setSelRows
  split
  · exact h2.afterPush hf
  · split
    split
    rename_i d3 heq
    have h3 : d3.Canon := h2.free.of_eq heq
    extract_lets -underBinder _ _ _ d4
    have h4 : d4.Canon := .ite h3.selCount h3
    exact .ite h3.setSelRows.failJob (h4.jobOutputs (fun _ h5 => h5.count) hf)

/-! ### Arrays -/

theorem Device.Canon.setArr {key a} (h : d.Canon) : (d.setArr key a).Canon :=
  h

theorem Device.Canon.arrFail {die k code} (h : d.Canon) : (d.arrFail die k code).Canon := by
  unfold Device.arrFail
  split
  · exact h.failJob
  · exact h

theorem Device.Canon.arrPop {die k lift} (h : d.Canon) : OptCanon (d.arrPop die k lift) := by
  unfold Device.arrPop
  extract_lets -underBinder _ d1
  have h1 : d1.Canon := h.discardFront
  split
  · exact .iteOpt h1.requestAbort.requestAbort (h1.popLift.map fun _ => id)
  · exact trivial

theorem Device.Canon.arrHold {key e} (h : d.Canon) : (d.arrHold key e).Canon := by
  unfold Device.arrHold
  split
  · exact h.setJob
  · exact h

theorem Device.Canon.arrRelease {key es} (h : d.Canon) : (d.arrRelease key es).Canon := by
  unfold Device.arrRelease
  split
  · exact .foldl h.setJob (fun _ _ h1 => h1.releaseHandle)
  · exact h

theorem Device.Canon.attendOpen {die k cfg c a e} (h : d.Canon) : (d.attendOpen die k cfg c a e).Canon := by
  unfold Device.attendOpen
  extract_lets -underBinder _
  split
  · exact h.arrFail
  · extract_lets -underBinder _ _
    split
    · exact h.arrFail
    · split
      · exact h.arrFail
      · split
        · exact h.arrFail
        · split
          · exact .arrFail (.ite h.refuse h)
          · rename_i d1 heq
            have h1 : d1.Canon := h.bindRead.of_eq heq
            exact .ite h1.arrFail h1.setStream.setArr

theorem Device.Canon.attendAsk {die k c a e x idxs} (h : d.Canon) : (d.attendAsk die k c a e x idxs).Canon := by
  unfold Device.attendAsk
  extract_lets -underBinder _
  split
  · exact h.arrFail
  · split
    · rename_i d1 heq
      have h1 : d1.Canon := h.reachReads.of_eq heq
      exact h1
    · rename_i d1 heq
      have h1 : d1.Canon := h.reachReads.of_eq heq
      exact h1.arrFail
    · rename_i d1 heq
      have h1 : d1.Canon := h.reachReads.of_eq heq
      exact h1.setStream.setArr.issue

theorem Device.Canon.attendStep {die k c a e} (h : d.Canon) : (d.attendStep die k c a e).Canon :=
  .ite h.attendAsk (.ite h h.setStream.finishStream.setArr)
theorem Device.Canon.arrStagingBad {die k e} (h : d.Canon) : (d.arrStagingBad die k e).Canon :=
  .arrFail (.ite h.poisonGranule h.sramBadAt)

theorem Device.Canon.arrAdvance {die k cfg ecc} (h : d.Canon) : OptDevCanon (d.arrAdvance die k cfg ecc) := by
  unfold Device.arrAdvance
  extract_lets -underBinder key
  split
  · extract_lets -underBinder _ take _
    have htake : ∀ lift f, (∀ e (d : Device), d.Canon → (f e d).Canon) → OptDevCanon (take lift f) := by
      intro lift f hf
      refine h.arrPop.mapDev fun x h1 => ?_
      split
      · exact h1
      · extract_lets -underBinder d2 d3
        have h2 : d2.Canon := h1.arrHold
        have h3 : d3.Canon := .ite h2.count h2
        exact .ite h2.arrStagingBad (.ite h3.arrFail (hf _ _ h3))
    clear_value take
    split
    · exact trivial
    · split
      · refine htake _ _ fun _ _ h1 => ?_
        extract_lets -underBinder _ d2
        have h2 : d2.Canon := h1.setArr
        split
        · exact .ite h2.attendOpen h2.arrFail
        · split
          · split
            · exact h2.arrFail
            · exact h2.setArr
          · exact h2
      · split
        · exact trivial
        · split
          · refine htake _ _ fun _ _ h1 => ?_
            extract_lets -underBinder _ _
            split
            · exact h1.arrFail
            · exact .ite h1.arrFail h1.setArr
          · split
            · refine htake _ _ fun _ _ h1 => ?_
              extract_lets -underBinder _
              split
              · exact h1.arrFail
              · split
                · exact h1.arrFail
                · exact h1.setArr.arrRelease
            · split
              · refine htake _ _ fun _ _ h1 => ?_
                extract_lets -underBinder _ _ _
                split
                · exact h1.arrFail
                · exact .ite h1.arrFail h1.setArr
              · split
                · exact h.setArr
                · split
                  · split
                    · exact h.setArr.arrRelease
                    · exact h.arrFail
                    · exact h.arrFail
                  · exact trivial
  · exact trivial

theorem Device.Canon.arrRun {die k cfg ecc n} (h : d.Canon) : (d.arrRun die k cfg ecc n).Canon := by
  induction n generalizing d ecc with
  | zero => exact h
  | succ n ih =>
    unfold Device.arrRun
    split
    · rename_i heq
      exact ih (h.arrAdvance.of_eq heq)
    · exact h

theorem Device.Canon.arrAttend {die k} (h : d.Canon) : (d.arrAttend die k).Canon := by
  unfold Device.arrAttend
  split
  · split
    · exact .ite h h.attendStep
    · exact h
  · exact h

theorem Device.Canon.arrGo {die k cfg ecc} (h : d.Canon) : (d.arrGo die k cfg ecc).Canon :=
  h.arrRun.arrAttend

theorem Device.Canon.arrBegin {die k cfg b e fenced} (h : d.Canon) : (d.arrBegin die k cfg b e fenced).Canon := by
  unfold Device.arrBegin
  extract_lets -underBinder _ _ _ d1
  have h1 : OptDevCanon d1 := by
    unfold d1
    split
    · exact h
    · exact h.popLift.mapDev fun _ => id
  clear_value d1
  split
  · exact h
  · have h2 : Device.Canon _ := h1
    split
    rename_i d3 heq
    have h3 : d3.Canon := h2.takeSeq.of_eq heq
    extract_lets -underBinder d4
    have h4 : d4.Canon := h3.setJob.setArr
    split
    · exact h4.arrFail
    · split
      · exact h4.arrFail
      · split
        · exact h4.arrFail
        · split
          · exact h4.arrFail
          · split
            · exact h4
            · split
              · exact h4.arrFail
              · exact h4

theorem Device.Canon.beginSelftest {die k} (h : d.Canon) : (d.beginSelftest die k).Canon :=
  .setFld h

theorem Device.Canon.arrStep {die k op ecc} (h : d.Canon) : (d.arrStep die k op ecc).Canon := by
  unfold Device.arrStep
  extract_lets -underBinder _
  split
  · exact h
  · extract_lets -underBinder _
    split
    · exact h
    · split
      · exact .ite h.arrGo h
      · extract_lets -underBinder _ d1
        have h1 : d1.Canon := .discardFront (.ite h.discardFront h)
        split
        · exact h1
        · exact .ite h1 h1.arrBegin.arrGo

theorem execArrayDense_keepsCanon {dd k ecc st} : KeepsCanon st (execArrayDense dd k ecc st) :=
  .upd (fun _ h1 => h1.arrStep)
theorem execArrayRouted_keepsCanon {dd k ecc st} : KeepsCanon st (execArrayRouted dd k ecc st) :=
  .upd (fun _ h1 => h1.arrStep)
theorem execArrayInteract_keepsCanon {dd k ecc st} : KeepsCanon st (execArrayInteract dd k ecc st) :=
  .upd (fun _ h1 => h1.arrStep)
theorem execArrayAttend_keepsCanon {dd k ecc st} : KeepsCanon st (execArrayAttend dd k ecc st) :=
  .upd (fun _ h1 => h1.arrStep)

theorem execArrayJobEnd_keepsCanon {dd k st} : KeepsCanon st (execArrayJobEnd dd k st) := by
  refine .upd (fun _ h1 => ?_)
  extract_lets -underBinder _
  refine .withJob h1 (fun _ _ _ h2 => ?_)
  split
  · exact h2
  · split
    · exact h2
    · extract_lets -underBinder _ f f'
      have hf : ∀ (d0 : Device), d0.Canon → (f d0).Canon := fun _ h3 => h3.count.count.count
      have hf' : ∀ (d0 : Device), d0.Canon → (f' d0).Canon := fun _ h3 => h3.dropJob.releaseInputs.count
      exact .ite (h2.afterPush hf') (h2.jobOutputs hf hf')

theorem execArrayResidueFail_keepsCanon {dd k st} : KeepsCanon st (execArrayResidueFail dd k st) := by
  refine .upd (fun _ h1 => ?_)
  extract_lets -underBinder _ _ d2
  have h2 : d2.Canon := h1.abortAll.count
  exact h2.beginSelftest.errqEnter

theorem execArraySelftestEnd_keepsCanon {dd k pass st} : KeepsCanon st (execArraySelftestEnd dd k pass st) := by
  refine .upd (fun _ h1 => ?_)
  extract_lets -underBinder _ _ d2 d3 d4
  have h2 : d2.Canon := h1
  have h3 : d3.Canon := h2.setFld.setFld
  have h4 : d4.Canon := h3.setFld
  exact .ite h1 (.ite h4 h4.errqEnter)

theorem Device.Canon.arraySelftest {die mask} (h : d.Canon) : (d.arraySelftest die mask).Canon :=
  .ite h.refuse (.foldl h.setFld (fun _ _ h1 => h1.beginSelftest))
theorem execArraySelftest_keepsCanon {dd mask st} : KeepsCanon st (execArraySelftest dd mask st) :=
  .upd (fun _ h1 => h1.arraySelftest)

/-! ### Match -/

theorem Device.Canon.setGang {die k g} (h : d.Canon) : (d.setGang die k g).Canon :=
  h
theorem Device.Canon.setEntry {n x} (h : d.Canon) : (d.setEntry n x).Canon :=
  h
theorem Device.Canon.putEntry {p x} (h : d.Canon) : (d.putEntry p x).Canon :=
  .ite h.setEntry.setEntry h.setEntry

theorem Device.Canon.lostEntry (h : d.Canon) : d.lostEntry.2.Canon := by
  unfold Device.lostEntry
  split
  rename_i d1 heq
  have h1 : d1.Canon := h.free.of_eq heq
  split
  rename_i d2 heq
  have h2 : d2.Canon := h1.free.of_eq heq
  split
  rename_i d3 heq
  have h3 : d3.Canon := h2.free.of_eq heq
  split
  rename_i d4 heq
  have h4 : d4.Canon := h3.free.of_eq heq
  split
  rename_i d5 heq
  have h5 : d5.Canon := h4.free.of_eq heq
  exact .unpairSnd h5.free (fun _ _ h6 => .unpairSnd h6.free (fun _ _ h7 => .unpairSnd h7.free (fun _ _ h8 => h8)))

theorem Device.Canon.entryBad {p byGroomer} (h : d.Canon) : (d.entryBad p byGroomer).Canon := by
  unfold Device.entryBad
  split
  rename_i d1 heq
  have h1 : d1.Canon := h.lostEntry.of_eq heq
  extract_lets -underBinder d2 _ d3
  have h2 : d2.Canon := h1.setEntry
  have h3 : d3.Canon := .ite h2.setEntry h2
  exact h3.sramBadAt

theorem Device.Canon.applyChange {x place} (h : d.Canon) : (d.applyChange x place).Canon := by
  unfold Device.applyChange
  extract_lets -underBinder _
  split
  · exact h.putEntry
  · exact h.putEntry
  · exact h.putEntry

theorem Device.Canon.matchCommit {tag} (h : d.Canon) : (d.matchCommit tag).Canon :=
  .foldl h (fun _ _ h1 => .ite h1 h1)
theorem Device.Canon.matchAbort {die tag} (h : d.Canon) : (d.matchAbort die tag).Canon :=
  h
theorem Device.Canon.matchSwitch (h : d.Canon) : d.matchSwitch.Canon :=
  h

theorem execMatchSearchJob_keepsCanon {dd k ecc st} : KeepsCanon st (execMatchSearchJob dd k ecc st) := by
  refine .upd (fun _ h1 => ?_)
  split
  · exact h1
  · extract_lets -underBinder _ _ _ f
    have hf : ∀ (d0 : Device) x1 x2, d0.Canon → (f d0 x1 x2).Canon := fun _ _ _ h2 => h2.failJob
    split
    · exact h1
    · split
      · extract_lets -underBinder d2
        have h2 : d2.Canon := h1.discardFront
        split
        · exact h2
        · split
          · rename_i d3 heq
            have h3 : d3.Canon := h2.popRun.of_eq heq
            exact h3
          · rename_i d3 heq
            have h3 : d3.Canon := h2.popRun.of_eq heq
            extract_lets -underBinder _
            split
            rename_i d4 heq
            have h4 : d4.Canon := h3.takeSeq.of_eq heq
            extract_lets -underBinder _
            split
            · exact hf _ _ _ h4
            · split
              · exact hf _ _ _ h4
              · exact h4.setJob
      · split
        · exact h1
        · extract_lets -underBinder d2
          have h2 : d2.Canon := .foldl h1 (fun _ _ h3 => .ite h3.entryBad h3)
          split
          · exact hf _ _ _ h2
          · split
            · exact h2
            · split
              · exact hf _ _ _ h2
              · extract_lets -underBinder _ _ d3 d4 d5
                have h3 : d3.Canon := h2.count
                have h4 : d4.Canon := h3.count
                have h5 : d5.Canon := h4.count
                exact h5.setJob

theorem execMatchUpdateJob_keepsCanon {dd k st} : KeepsCanon st (execMatchUpdateJob dd k st) := by
  refine .upd (fun _ h1 => ?_)
  split
  · exact h1
  · extract_lets -underBinder _ _ _ d2
    have h2 : d2.Canon := h1.discardFront
    split
    · exact h1
    · split
      · exact h2
      · split
        · exact h2
        · rename_i d3 heq
          have h3 : d3.Canon := h2.popLift.of_eq heq
          split
          rename_i d4 heq
          have h4 : d4.Canon := h3.takeSeq.of_eq heq
          extract_lets -underBinder _ f
          have hf : ∀ x0, (f x0).Canon := fun _ => h4.failJob
          split
          · exact hf _
          · split
            · exact hf _
            · extract_lets -underBinder d5 _
              have h5 : d5.Canon := h4.stageStation
              exact .releaseHandle (.ite h5 h5.setGang)

theorem execMatchJobEnd_keepsCanon {dd k st} : KeepsCanon st (execMatchJobEnd dd k st) := by
  refine .upd (fun _ h1 => ?_)
  refine .withJob h1 (fun _ _ _ h2 => ?_)
  extract_lets -underBinder _ _ _ f f'
  have hf : ∀ x0, (f x0).Canon := fun _ => h2.failJob
  have hf' : ∀ (d0 : Device), d0.Canon → (f' d0).Canon := fun _ h3 => h3.dropJob.releaseInputs
  split
  · exact h2.afterPush hf'
  · split
    · exact hf _
    · extract_lets -underBinder _ _
      split
      · exact h2
      · split
        · exact hf _
        · exact h2.jobOutputs (fun _ => id) hf'

theorem Device.Canon.bankEntryBad {p} (h : d.Canon) : (d.bankEntryBad p).Canon :=
  h.entryBad
theorem Device.Canon.movedBad {xs ecc place} (h : d.Canon) : (d.movedBad xs ecc place).Canon :=
  .foldl h (fun _ _ h1 => .ite h1.bankEntryBad h1)
theorem Device.Canon.applyNext {die k ecc c} (h : d.Canon) : (d.applyNext die k ecc c).Canon :=
  .count (.foldl h.setGang.movedBad (fun _ _ h1 => h1.applyChange))

theorem execMatchCommitApply_keepsCanon {dd k ecc st} : KeepsCanon st (execMatchCommitApply dd k ecc st) := by
  refine .upd (fun _ h1 => ?_)
  split
  · exact h1
  · exact .ite h1 h1.applyNext

theorem Device.Canon.applyCommitted (h : d.Canon) : d.applyCommitted.Canon := by
  unfold Device.applyCommitted
  refine .foldl h fun _ _ h1 => ?_
  extract_lets -underBinder _ _
  split
  · exact h1
  · exact .foldl h1 (fun _ _ h2 => .ite h2 h2.applyNext)

theorem Device.Canon.writeMatchCmd {die word} (h : d.Canon) : (d.writeMatchCmd die word).Canon := by
  unfold Device.writeMatchCmd
  extract_lets -underBinder _ f
  have hf : ∀ (d0 : Device), d0.Canon → (f d0).Canon := fun _ h1 => h1.setFld
  split
  · exact h.setFld.refuse
  · exact .ite ((hf _ h).setFld) (hf _ h)

theorem Device.Canon.hostMatch {die act f} (h : d.Canon) (hf : ∀ x0 x1 (d2 : Device), d2.Canon → (f x0 x1 d2).Canon) :
    (d.hostMatch die act f).Canon := by
  unfold Device.hostMatch
  extract_lets -underBinder _ _ _ _ done
  split
  · exact h
  · have hdone : ∀ (d0 : Device) x1, d0.Canon → (done d0 x1).Canon := fun _ _ h2 => h2.setFld.setFld
    split
    · exact (hdone _ _ h).refuse
    · exact hdone _ _ (hf _ _ _ h)

theorem Device.Canon.hostApply {die leader ecc p xs} (h : d.Canon) : (d.hostApply die leader ecc p xs).Canon :=
  .count (.foldl h.movedBad (fun _ _ h1 => h1.applyChange))
theorem execMatchHostApply_keepsCanon {m st} : KeepsCanon st (execMatchHostApply m st) :=
  .upd (fun _ h1 => h1.hostMatch (fun _ _ _ h2 => h2.hostApply))
theorem execMatchHostPair_keepsCanon {m st} : KeepsCanon st (execMatchHostPair m st) :=
  .upd (fun _ h1 => h1.hostMatch (fun _ _ _ h2 => h2.hostApply))

theorem execMatchHostRead_keepsCanon {m st} : KeepsCanon st (execMatchHostRead m st) := by
  refine .upd (fun _ h1 => ?_)
  refine .hostMatch h1 (fun _ _ _ h2 => ?_)
  extract_lets -underBinder _ d3 _ _
  have h3 : d3.Canon := .ite h2.bankEntryBad h2
  exact .setFld (.foldl h3 (fun _ _ h4 => h4.setReg))

/-! ### Time -/

theorem Device.Canon.updTime {f} (h : d.Canon) : (d.updTime f).Canon :=
  h

theorem Device.Canon.refreshSource (h : d.Canon) : d.refreshSource.Canon := by
  unfold Device.refreshSource
  extract_lets -underBinder _ d1 d2
  have h1 : d1.Canon := h.setFld
  have h2 : d2.Canon := h1.setFld.setFld
  exact .ite h h2.record

theorem Device.Canon.lapseSource (h : d.Canon) : d.lapseSource.Canon :=
  .ite h h.refreshSource
theorem Device.Canon.judgeMark {src} (h : d.Canon) : (d.judgeMark src).Canon :=
  .ite h.count h.updTime.signal

theorem Device.Canon.deliverMark {src} (h : d.Canon) : (d.deliverMark src).Canon := by
  unfold Device.deliverMark
  extract_lets -underBinder d1 _ d2
  have h1 : d1.Canon := h.lapseSource.updTime
  have h2 : d2.Canon := .refreshSource (.ite h1.updTime h1)
  exact .ite h2.judgeMark h2

theorem Device.Canon.generatorMark (h : d.Canon) : d.generatorMark.Canon :=
  h.updTime.judgeMark
theorem execCadPinEdge_keepsCanon {t} : KeepsCanon s (execCadPinEdge t s) :=
  .upd (fun _ h1 => h1.at.deliverMark)

theorem execCadFreeMark_keepsCanon : KeepsCanon s (execCadFreeMark s) := by
  refine .upd (fun _ h1 => ?_)
  extract_lets -underBinder d2
  have h2 : d2.Canon := h1.lapseSource
  exact .ite h2.at.generatorMark h2

theorem Device.Canon.hostMark (h : d.Canon) : d.hostMark.Canon :=
  .ite h.deliverMark h.refuse
theorem execCadHostMark_keepsCanon {t} : KeepsCanon s (execCadHostMark t s) :=
  .upd (fun _ h1 => h1.at.hostMark)

theorem Device.Canon.cadCtrlWrite {x} (h : d.Canon) : (d.cadCtrlWrite x).Canon := by
  unfold Device.cadCtrlWrite
  split
  · exact h.refuse
  · split
    · exact h.refuse
    · split
      · exact h.refuse
      · extract_lets -underBinder _ d1 d2
        have h1 : d1.Canon := h.lapseSource.setReg
        have h2 : d2.Canon := .ite h1 h1.updTime
        exact h2.refreshSource

theorem execCadCtrlWrite_keepsCanon {v} : KeepsCanon s (execCadCtrlWrite v s) :=
  .upd (fun _ h1 => h1.cadCtrlWrite)

theorem execSourceLost_keepsCanon : KeepsCanon s (execSourceLost s) := by
  refine .upd (fun _ h1 => ?_)
  split
  · exact h1
  · extract_lets -underBinder d2 d3 d4 d5
    have h2 : d2.Canon := h1.at.lapseSource
    have h3 : d3.Canon := h2.setFld.count
    have h4 : d4.Canon := h3.record
    have h5 : d5.Canon := h4.updTime.refreshSource.generatorMark
    exact .ite h2 (.ite h5 h5.updTime)

theorem execLossGeneratorMark_keepsCanon : KeepsCanon s (execLossGeneratorMark s) := by
  refine .upd (fun _ h1 => ?_)
  split
  · extract_lets -underBinder d2
    have h2 : d2.Canon := h1.at.refreshSource
    exact .ite h2.generatorMark h2.updTime
  · exact h1

theorem execPhaseSaturate_keepsCanon : KeepsCanon s (execPhaseSaturate s) :=
  .upd (fun _ h1 => h1.at.updTime)
theorem Device.Canon.setCalendar {v num den} (h : d.Canon) : (d.setCalendar v num den).Canon :=
  .ite h.updTime h.updTime.record

theorem Device.Canon.calCtrlWrite {x} (h : d.Canon) : (d.calCtrlWrite x).Canon := by
  unfold Device.calCtrlWrite
  extract_lets -underBinder _ _ d1 d2
  have h1 : d1.Canon := h.setReg.setReg
  have h2 : d2.Canon := h1.updTime
  exact .ite h.refuse (.ite h.refuse (.ite h.refuse (.ite h2.setCalendar h2)))

theorem execCalCtrlWrite_keepsCanon {v} : KeepsCanon s (execCalCtrlWrite v s) :=
  .upd (fun _ h1 => h1.calCtrlWrite)
theorem Device.Canon.calEpochWrite {v} (h : d.Canon) : (d.calEpochWrite v).Canon :=
  h.setReg.setFld
theorem execCalEpochSecWrite_keepsCanon {v} : KeepsCanon s (execCalEpochSecWrite v s) :=
  .write64 (fun _ h1 => h1.calEpochWrite)

theorem execPpsEdge_keepsCanon {t} : KeepsCanon s (execPpsEdge t s) := by
  refine .upd (fun _ h1 => ?_)
  extract_lets -underBinder d2 _ x'
  have h2 : d2.Canon := h1.at
  split
  · exact h2
  · clear_value x'
    split
    · exact h2
    · extract_lets -underBinder _ d3 d4 d5
      have h3 : d3.Canon := h2.setCalendar
      have h4 : d4.Canon := h3.updTime
      have h5 : d5.Canon := .ite h4 h4.setReg
      exact h5.setReg

theorem execPpsHoldover_keepsCanon : KeepsCanon s (execPpsHoldover s) := by
  refine .upd (fun _ h1 => ?_)
  split
  · exact .ite h1.at.setFld h1
  · exact h1

/-! ### Links -/

theorem Device.Canon.ptpLock {p on} (h : d.Canon) : (d.ptpLock p on).Canon :=
  .ite h.setFld (.ite h.setFld.setFld.setFld (.ite h.setFld.setFld h.setFld))

theorem Device.Canon.linkDown {p} (h : d.Canon) : (d.linkDown p).Canon := by
  unfold Device.linkDown
  extract_lets -underBinder _ d1
  have h1 : d1.Canon := h.setFld.setPort
  refine .foldl h1 fun _ _ h2 => ?_
  split
  · exact h2.portSend
  · exact h2

theorem Device.Canon.portCtrlWrite {p v} (h : d.Canon) : (d.portCtrlWrite p v).Canon := by
  unfold Device.portCtrlWrite
  extract_lets -underBinder _ d1 d2
  have h1 : d1.Canon := h.setReg
  have h2 : d2.Canon := .ite h1 h1.ptpLock.updLink
  exact .ite h.refuse (.ite h.refuse (.ite h2 (.ite h2.setFld h2.linkDown)))

theorem execPortCtrlWrite_keepsCanon {p v} : KeepsCanon s (execPortCtrlWrite p v s) :=
  .upd (fun _ h1 => h1.portCtrlWrite)

theorem execPortTrained_keepsCanon {p delay} : KeepsCanon s (execPortTrained p delay s) := by
  refine .upd (fun _ h1 => ?_)
  split
  · exact h1
  · extract_lets -underBinder _ d2 _
    have h2 : d2.Canon := h1.setFld.setReg
    exact h2.setPort.portSend

theorem execPortLinkDown_keepsCanon {p} : KeepsCanon s (execPortLinkDown p s) :=
  .upd (fun _ h1 => .ite h1 h1.at.setFld.linkDown)

theorem Device.Canon.replay {p} (h : d.Canon) : (d.replay p).Canon := by
  unfold Device.replay
  extract_lets -underBinder _ d1
  have h1 : d1.Canon := h.setPort.count
  exact .ite h (.foldl h1 (fun _ _ h2 => h2.sendFlit))

theorem Device.Canon.answerFlit {p type vc credit} (h : d.Canon) : (d.answerFlit p type vc credit).Canon :=
  h.sendFlit
theorem Device.Canon.returnCredits {p vc n} (h : d.Canon) : (d.returnCredits p vc n).Canon :=
  .ite h h.answerFlit
theorem Device.Canon.rxTake {m} (h : d.Canon) : (d.rxTake m).Canon :=
  h.updLink
theorem Device.Canon.dropSignal {m die} (h : d.Canon) : (d.dropSignal m die).Canon :=
  h.count.record

theorem Device.Canon.messageIn {p t vc flits m good} (h : d.Canon) : (d.messageIn p t vc flits m good).Canon := by
  unfold Device.messageIn
  extract_lets -underBinder _ d1
  have h1 : d1.Canon := h.count
  split
  · exact .returnCredits (.ite h1.rxTake h1)
  · exact .ite h.returnCredits.dropSignal (.ite h.returnCredits h.updLink)

theorem Device.Canon.dataFlit {p t f} (h : d.Canon) : (d.dataFlit p t f).Canon := by
  unfold Device.dataFlit
  extract_lets -underBinder _ _
  split
  extract_lets -underBinder _ d1 d2
  have h1 : d1.Canon := h.setPort
  have h2 : d2.Canon := h1.answerFlit
  exact .foldl h2 (fun _ _ h3 => h3.messageIn)

theorem execFlitReceive_keepsCanon {p t flit} : KeepsCanon s (execFlitReceive p t flit s) := by
  refine .upd (fun _ h1 => ?_)
  split
  · exact h1
  · extract_lets -underBinder d2
    have h2 : d2.Canon := h1.at
    split
    · exact h2.count
    · extract_lets -underBinder _ _ d3 _ d4 d5
      have h3 : d3.Canon := h2.setPort
      have h4 : d4.Canon := h3.setPort
      have h5 : d5.Canon := by
        unfold d5
        split
        · exact h4.dataFlit
        · exact h4.replay
        · exact h4
      exact .ite h3.answerFlit h5.pump

theorem execFlitAckTimeout_keepsCanon {p} : KeepsCanon s (execFlitAckTimeout p s) := by
  refine .upd (fun _ h1 => ?_)
  split
  · exact .ite h1.at.replay h1
  · exact h1

theorem Device.Canon.takeRx {p mtype ok} (h : d.Canon) : OptCanon (d.takeRx p mtype ok) := by
  unfold Device.takeRx
  split
  · exact h.updLink.rxTake.returnCredits
  · exact trivial

theorem Device.Canon.onMessage {p mtype f ok} (h : d.Canon) (hf : ∀ x0 (d1 : Device), d1.Canon → (f x0 d1).Canon) :
    (d.onMessage p mtype f ok).Canon := by
  unfold Device.onMessage
  split
  · rename_i d1 heq
    have h1 : d1.Canon := h.takeRx.of_eq heq
    exact hf _ _ h1
  · exact h

theorem execMessageForward_keepsCanon {p residence} : KeepsCanon s (execMessageForward p residence s) := by
  refine .upd (fun _ h1 => ?_)
  split
  · exact h1
  · extract_lets -underBinder d2
    have h2 : d2.Canon := h1.updLink.returnCredits
    split
    · exact h2
    · exact .ite h2 h2.portSend

theorem Device.Canon.dropSignals {m} (h : d.Canon) : (d.dropSignals m).Canon := by
  unfold Device.dropSignals
  extract_lets -underBinder _ d1
  have h1 : d1.Canon := .foldl h (fun _ _ h2 => .foldl h2.setPort (fun _ _ h3 => h3.dropSignal))
  exact .foldl h1 (fun _ _ h2 => h2.updLink.returnCredits.dropSignal)

theorem Device.Canon.loseMember {m} (h : d.Canon) : (d.loseMember m).Canon := by
  unfold Device.loseMember
  extract_lets -underBinder d1 d2 d3 d4
  have h1 : d1.Canon := h.setReg
  have h2 : d2.Canon := h1.dropSignals.record
  have h3 : d3.Canon := h2.sendAsync
  have h4 : d4.Canon := h3.updStr
  exact h4.abortAll

theorem execKeepalive_keepsCanon {p} : KeepsCanon s (execKeepalive p s) := by
  refine .upd (fun _ h1 => ?_)
  refine .onMessage h1 (fun _ _ h2 => ?_)
  extract_lets -underBinder _ d3 d4 d5
  have h3 : d3.Canon := .ite h2.setFld.setFld h2
  have h4 : d4.Canon := h3.updLink
  have h5 : d5.Canon := h4.setReg
  exact .ite h3 (.foldl h5 (fun _ _ h6 => .ite h6 h6.loseMember))

theorem execKeepaliveSend_keepsCanon : KeepsCanon s (execKeepaliveSend s) := by
  refine .upd (fun _ h1 => ?_)
  split
  · exact h1
  · extract_lets -underBinder d2 d3
    have h2 : d2.Canon := h1.at
    have h3 : d3.Canon := h2.updLink
    exact .foldl h3 (fun _ _ h4 => .ite h4 h4.sendLink)

theorem execMemberLost_keepsCanon {m} : KeepsCanon s (execMemberLost m s) :=
  .upd (fun _ h1 => .ite h1.at.setReg.loseMember h1)

theorem Device.Canon.groupCtrlWrite {v} (h : d.Canon) : (d.groupCtrlWrite v).Canon := by
  unfold Device.groupCtrlWrite
  split
  · exact h.refuse
  · split
    · exact h.refuse
    · extract_lets -underBinder _ d1 d2
      have h1 : d1.Canon := .ite h.setFld h
      have h2 : d2.Canon := h1.setReg.setReg
      exact .ite h2.setReg.updLink h2.setReg

theorem execGroupCtrlWrite_keepsCanon {v} : KeepsCanon s (execGroupCtrlWrite v s) :=
  .upd (fun _ h1 => h1.groupCtrlWrite)
theorem Device.Canon.groupRouteWrite {m v} (h : d.Canon) : (d.groupRouteWrite m v).Canon :=
  .ite h.refuse (.ite h.refuse h.setReg)
theorem execGroupRouteWrite_keepsCanon {m v} : KeepsCanon s (execGroupRouteWrite m v s) :=
  .upd (fun _ h1 => h1.groupRouteWrite)

theorem execCadence_keepsCanon {p} : KeepsCanon s (execCadence p s) := by
  refine .upd (fun _ h1 => ?_)
  refine .onMessage h1 (fun _ _ h2 => ?_)
  split
  · exact h2
  · extract_lets -underBinder _ _ _ d3 d4
    have h3 : d3.Canon := .deliverMark h2
    have h4 : d4.Canon := h3
    exact h4.updTime

theorem execSyncSignal_keepsCanon {p} : KeepsCanon s (execSyncSignal p s) :=
  .upd (fun _ h1 => .onMessage h1 (fun _ _ h2 => .ite h2.count h2.addSyncOp))
theorem Device.Canon.sendCadence {cal age} (h : d.Canon) : (d.sendCadence cal age).Canon :=
  .ite (.foldl h (fun _ _ h1 => .ite h1 h1.sendLink)) h

theorem Device.Canon.failStore {hseq} (h : d.Canon) : (d.failStore hseq).Canon := by
  unfold Device.failStore
  split
  · exact .ite (.refuseMsg h) h
  · exact h

theorem Device.Canon.deliverRead {r bs} (h : d.Canon) : (d.deliverRead r bs).Canon := by
  unfold Device.deliverRead
  extract_lets -underBinder d1 _
  have h1 : d1.Canon := h.updStr
  split
  · split
    · exact .ite h1 h1
    · exact h1
  · exact .ite h1.updTask (.ite h1.write h1.setStream)

theorem Device.Canon.failRead {r code} (h : d.Canon) : (d.failRead r code).Canon :=
  .ite h.updStr.failStore (.ite h.updStr (.ite h.updStr.setStream h.updStr.requestAbort))
theorem execPeerWrite_keepsCanon {p} : KeepsCanon s (execPeerWrite p s) :=
  .upd (fun _ h1 => .onMessage h1 (fun _ _ h2 => .ite (.ite h2.write.poisonRange h2.write) h2.count.record))
theorem execPeerRead_keepsCanon {p} : KeepsCanon s (execPeerRead p s) :=
  .upd (fun _ h1 => h1.onMessage (fun _ _ h2 => h2.sendLink))

theorem execPeerData_keepsCanon {p} : KeepsCanon s (execPeerData p s) := by
  refine .upd (fun _ h1 => ?_)
  refine .onMessage h1 (fun _ _ h2 => ?_)
  split
  · exact h2
  · exact .ite h2.deliverRead h2.failRead

/-! ### Traverse -/

theorem Device.Canon.travCheck {die c r} (h : d.Canon) (hr : d.travCheck die c = .inr r) : r.2.2.2.2.Canon := by
  unfold Device.travCheck at hr
  extract_lets -underBinder _ part at hr
  clear_value part
  split at hr
  · cases hr
  · split at hr
    · split at hr
      · cases hr
      · split at hr
        · cases hr
        · rename_i heq
          cases hr
          exact h.bindRead.of_eq heq
    · split at hr
      · cases hr
      · split at hr
        · cases hr
        · split at hr
          · cases hr
          · rename_i heq
            split at hr
            · cases hr
            · rename_i heq'
              cases hr
              exact (h.bindRead.of_eq heq).bindRead.of_eq heq'

theorem Device.Canon.dropHeld {stage exch} (h : d.Canon) : (d.dropHeld stage exch).Canon :=
  h.updLink
theorem Device.Canon.holdExch {stage exch f} (h : d.Canon) : (d.holdExch stage exch f).Canon :=
  h.dropHeld.updLink
theorem Device.Canon.sendExchAbort {members stage exch code} (h : d.Canon) : (d.sendExchAbort members stage exch code).Canon :=
  .foldl h (fun _ _ h1 => h1.sendLink)
theorem Device.Canon.exchHeldDeadline {stage} (h : d.Canon) : (d.exchHeldDeadline stage).Canon :=
  .foldl h (fun _ _ h1 => h1.sendExchAbort.dropHeld.updLink)
theorem Device.Canon.exchRecord {t committed} (h : d.Canon) : (d.exchRecord t committed).Canon :=
  .foldl h (fun _ _ h1 => h1.record)
theorem Device.Canon.exchTaskAborted {t} (h : d.Canon) : (d.exchTaskAborted t).Canon :=
  .foldl h (fun _ _ h1 => h1.sendExchAbort)

theorem Device.Canon.exchReady {stage exch m} (h : d.Canon) : (d.exchReady stage exch m).Canon := by
  unfold Device.exchReady
  split
  · exact h.holdExch
  · exact h.setTask

theorem Device.Canon.dropHeldOf {stage exch m} (h : d.Canon) : (d.dropHeldOf stage exch m).Canon :=
  h.updLink

theorem Device.Canon.exchAbort {stage exch m code} (h : d.Canon) : (d.exchAbort stage exch m code).Canon := by
  unfold Device.exchAbort
  extract_lets -underBinder _
  split
  · exact h.setTask.requestAbort
  · split
    · extract_lets -underBinder d1
      have h1 : d1.Canon := h.setTask.dropHeldOf
      exact .ite h1.exchRecord h1
    · exact h.dropHeld.updLink

theorem Device.Canon.setTrav {key t} (h : d.Canon) : (d.setTrav key t).Canon :=
  h.updLink

theorem Device.Canon.travFail {die k code} (h : d.Canon) : (d.travFail die k code).Canon := by
  unfold Device.travFail
  split
  · exact h.failJob
  · exact h

theorem Device.Canon.travMessage {key t m} (h : d.Canon) : (d.travMessage key t m).Canon := by
  unfold Device.travMessage
  extract_lets -underBinder _ _
  split
  · split
    · exact h.requestAbort
    · exact h
  · exact h.setTrav

theorem Device.Canon.joinExch {tag exch} (h : d.Canon) : (d.joinExch tag exch).2.Canon := by
  unfold Device.joinExch
  extract_lets -underBinder _ _ _ _ d1 d2
  have h1 : d1.Canon := h.updTask
  have h2 : d2.Canon := h1.dropHeld.updLink
  exact h2

theorem Device.Canon.travArm {die k tag c t held} (h : d.Canon) : (d.travArm die k tag c t held).Canon := by
  unfold Device.travArm
  extract_lets -underBinder _ f d1
  have hf : ∀ (d0 : Device) x1, d0.Canon → (f d0 x1).Canon := fun _ _ h1 => h1.setStream
  have h1 : d1.Canon := .foldl h.setTrav hf
  refine .foldl h1 fun _ _ h2 => ?_
  split
  · exact h2.travMessage
  · exact h2

theorem Device.Canon.travBegin {die k op} (h : d.Canon) : (d.travBegin die k op).Canon := by
  unfold Device.travBegin
  extract_lets -underBinder cmdAt
  clear_value cmdAt
  split
  · exact h
  · extract_lets -underBinder _
    refine .ite h (.beginJob h fun _ _ _ h1 => ?_)
    split
    · extract_lets -underBinder _
      split
      rename_i d2 heq
      have h2 : d2.Canon := h1.takeSeq.of_eq heq
      extract_lets -underBinder d3 _ _
      have h3 : d3.Canon := h2.setJob
      split
      · exact h3.travFail
      · split
        rename_i d4 heq
        have h4 : d4.Canon := (Device.Canon.iteSnd h3 h3.joinExch).of_eq heq
        split
        · exact h4.travFail
        · split
          · exact .travFail (.ite h4.refuse h4)
          · rename_i heq
            have h5 := h4.travCheck heq
            split
            · exact h4.travFail
            · exact .ite h4.travFail h5.travArm
    · exact h1

theorem Device.Canon.travAsk {die k j t x} (h : d.Canon) : (d.travAsk die k j t x).Canon := by
  unfold Device.travAsk
  extract_lets -underBinder _ _
  split
  · rename_i d1 heq
    have h1 : d1.Canon := h.tensorIndexes.of_eq heq
    exact h1
  · rename_i d1 heq
    have h1 : d1.Canon := h.tensorIndexes.of_eq heq
    exact h1.travFail
  · rename_i d1 heq
    have h1 : d1.Canon := h.tensorIndexes.of_eq heq
    split
    · exact h1.setStream.issue
    · split
      · rename_i d2 heq
        have h2 : d2.Canon := h1.reachReads.of_eq heq
        exact h2
      · rename_i d2 heq
        have h2 : d2.Canon := h1.reachReads.of_eq heq
        exact h2.travFail
      · rename_i d2 heq
        have h2 : d2.Canon := h1.reachReads.of_eq heq
        exact h2.countInvalid.setTrav.setStream.issue

theorem Device.Canon.travSend {die k j t c x sm dm} (h : d.Canon) : (d.travSend die k j t c x sm dm).Canon := by
  unfold Device.travSend
  extract_lets -underBinder _ _ _
  split
  · extract_lets -underBinder _ d1 d2
    have h1 : d1.Canon := h.stageStation
    have h2 : d2.Canon := h1.setTrav
    exact .ite h2 h2.updTask
  · extract_lets -underBinder _ _ _ d1
    have h1 : d1.Canon := h.setTrav
    refine .foldl h1 fun _ _ h2 => ?_
    refine .foldl h2 fun _ _ h3 => ?_
    extract_lets -underBinder _ d4
    have h4 : d4.Canon := h3.count
    split
    · split
      · exact h4.setTrav
      · exact h4
    · exact h4.sendLink

theorem Device.Canon.travEnd {die k cfg j} (h : d.Canon) : (d.travEnd die k cfg j).Canon := by
  unfold Device.travEnd
  extract_lets -underBinder _ d1 d2
  have h1 : d1.Canon := h.dropJob.updLink
  have h2 : d2.Canon := .foldl h1 (fun _ _ h3 => .ite h3.releaseHandle h3.push)
  exact .foldl h2 (fun _ _ h3 => h3.finishStream)

theorem Device.Canon.travFinish {die k cfg j t c y sm dm} (h : d.Canon) : (d.travFinish die k cfg j t c y sm dm).Canon := by
  unfold Device.travFinish
  extract_lets -underBinder _ _ _ _
  split
  · exact h
  · split
    · exact h.travEnd
    · split
      · rename_i d1 heq
        have h1 : d1.Canon := h.tensorIndexes.of_eq heq
        exact h1
      · rename_i d1 heq
        have h1 : d1.Canon := h.tensorIndexes.of_eq heq
        exact h1.travFail
      · rename_i d1 heq
        have h1 : d1.Canon := h.tensorIndexes.of_eq heq
        split
        · exact h1.setStream.issue
        · split
          · rename_i d2 heq
            have h2 : d2.Canon := h1.reachWrites.of_eq heq
            exact h2
          · rename_i d2 heq
            have h2 : d2.Canon := h1.reachWrites.of_eq heq
            exact h2.travFail
          · rename_i d2 heq
            have h2 : d2.Canon := h1.reachWrites.of_eq heq
            exact h2.countInvalid.setTrav.setStream.issue

theorem Device.Canon.travRun {die k op} (h : d.Canon) : (d.travRun die k op).Canon := by
  unfold Device.travRun
  extract_lets -underBinder _
  split
  · extract_lets -underBinder _
    split
    · exact h
    · split
      · exact h
      · extract_lets -underBinder _ x'
        split
        · exact h
        · split
          · exact .ite h.setTrav h.travAsk
          · split
            · exact h.travSend
            · clear_value x'
              split
              · exact h.travFinish
              · exact h.travEnd
  · exact h

theorem Device.Canon.travStep {die k op} (h : d.Canon) : (d.travStep die k op).Canon := by
  unfold Device.travStep
  extract_lets -underBinder d1
  have h1 : d1.Canon := .ite h h.travBegin
  exact .ite h1 (.foldl h1 (fun _ _ h2 => h2.travRun))

theorem execTravAlltoall_keepsCanon {die k} : KeepsCanon s (execTravAlltoall die k s) :=
  .upd (fun _ h1 => h1.travStep)
theorem execTravReduce_keepsCanon {die k} : KeepsCanon s (execTravReduce die k s) :=
  .upd (fun _ h1 => h1.travStep)
theorem execTravRdmaWrite_keepsCanon {die k} : KeepsCanon s (execTravRdmaWrite die k s) :=
  .upd (fun _ h1 => h1.travStep)

theorem execExchData_keepsCanon {p} : KeepsCanon s (execExchData p s) := by
  refine .upd (fun _ h1 => ?_)
  refine .onMessage h1 (fun _ _ h2 => ?_)
  split
  · exact h2.travMessage
  · exact .ite h2 h2.holdExch

theorem execExchReady_keepsCanon {p} : KeepsCanon s (execExchReady p s) :=
  .upd (fun _ h1 => h1.onMessage (fun _ _ h2 => h2.exchReady))
theorem execExchAbort_keepsCanon {p} : KeepsCanon s (execExchAbort p s) :=
  .upd (fun _ h1 => h1.onMessage (fun _ _ h2 => h2.exchAbort))

/-! ### Ethernet -/

theorem execPortAddr_keepsCanon {m payload} : KeepsCanon s (execPortAddr m payload s) :=
  .cmd (fun _ h1 => .ite h1.refuseMsg h1.updLink.respond)
theorem execQpSetup_keepsCanon {m payload} : KeepsCanon s (execQpSetup m payload s) :=
  .cmd (fun _ h1 => .ite h1.refuseMsg (.ite h1.refuseMsg h1.updLink.respond))
theorem execQpDestroy_keepsCanon {m payload} : KeepsCanon s (execQpDestroy m payload s) :=
  .cmd (fun _ h1 => .ite h1.refuseMsg h1.updLink.respond)
theorem execMrSet_keepsCanon {m payload} : KeepsCanon s (execMrSet m payload s) :=
  .cmd (fun _ h1 => .ite h1.refuseMsg h1.updLink.respond)
theorem execMrClear_keepsCanon {m payload} : KeepsCanon s (execMrClear m payload s) :=
  .cmd (fun _ h1 => .ite h1.refuseMsg h1.updLink.respond)
theorem execFeedBind_keepsCanon {m payload} : KeepsCanon s (execFeedBind m payload s) :=
  .cmd (fun _ h1 => .ite h1.refuseMsg (.ite h1.refuseMsg h1.updLink.respond))
theorem execFeedUnbind_keepsCanon {m payload} : KeepsCanon s (execFeedUnbind m payload s) :=
  .cmd (fun _ h1 => .ite h1.refuseMsg h1.updLink.respond)
theorem Device.Canon.setQp {q x} (h : d.Canon) : (d.setQp q x).Canon :=
  h.updLink
theorem Device.Canon.roceAnswer {x kind psn} (h : d.Canon) : (d.roceAnswer x kind psn).Canon :=
  h.emit

theorem Device.Canon.roceRequest {pkt f} (h : d.Canon) (hf : ∀ x0 x1 (d2 : Device), d2.Canon → (f x0 x1 d2).Canon) :
    (d.roceRequest pkt f).Canon := by
  unfold Device.roceRequest
  split
  · exact h
  · split
    · exact h
    · extract_lets -underBinder d1
      have h1 : d1.Canon := .ite h.roceAnswer h
      exact .ite h1.roceAnswer (.ite h1.roceAnswer (.ite h1.roceAnswer (hf _ _ _ h1)))

theorem Device.Canon.roceAccept {q x pkt} (h : d.Canon) : (d.roceAccept q x pkt).Canon :=
  h.setQp.roceAnswer

theorem execRoceWriteIn_keepsCanon {pkt} : KeepsCanon s (execRoceWriteIn pkt s) := by
  refine .upd (fun _ h1 => ?_)
  refine .roceRequest h1 (fun _ _ _ h2 => ?_)
  extract_lets -underBinder _ x' _
  split
  · exact h2.roceAnswer
  · split
    · clear_value x'
      split
      · exact h2.roceAnswer
      · exact .ite h2.roceAnswer h2.write.roceAccept
    · exact .ite h2.roceAnswer h2.write.roceAccept

theorem Device.Canon.deliverFrame {p die stage lift pool tag last bytes} (h : d.Canon) :
    OptCanon (d.deliverFrame p die stage lift pool tag last bytes) := by
  unfold Device.deliverFrame
  extract_lets -underBinder _ _ got
  have hgot : OptCanon got := by
    unfold got
    split
    · exact h
    · exact .iteOpt trivial h.allocTag
  clear_value got
  split
  · exact trivial
  · split
    · exact trivial
    · have h1 : Device.Canon _ := hgot
      exact h1.takeBuffer.map fun _ h2 => h2.write.push

theorem execRoceSendIn_keepsCanon {pkt} : KeepsCanon s (execRoceSendIn pkt s) := by
  refine .upd (fun _ h1 => ?_)
  refine .roceRequest h1 (fun _ _ _ h2 => ?_)
  extract_lets -underBinder _ _ _
  split
  · exact h2.roceAnswer
  · split
    · exact h2.roceAccept
    · split
      · exact h2.roceAnswer
      · rename_i d3 heq
        have h3 : d3.Canon := h2.deliverFrame.of_eq heq
        exact h3.roceAccept

theorem Device.Canon.qpError {q} (h : d.Canon) : (d.qpError q).Canon := by
  unfold Device.qpError
  split
  · exact h
  · exact h.setQp.record

theorem Device.Canon.roceResend {q x} (h : d.Canon) : (d.roceResend q x).Canon :=
  .foldl h.setQp (fun _ _ h1 => h1.emit)

theorem Device.Canon.rdmaSend {q va rkey data} (h : d.Canon) : (d.rdmaSend q va rkey data).Canon := by
  unfold Device.rdmaSend
  split
  · exact h.record
  · exact .ite h.qpError (.foldl h.setQp (fun _ _ h1 => h1.emit))

theorem execRoceAckIn_keepsCanon {port qpn psn syndrome icrc} : KeepsCanon s (execRoceAckIn port qpn psn syndrome icrc s) := by
  refine .upd (fun _ h1 => ?_)
  split
  · exact h1
  · split
    · exact h1
    · extract_lets -underBinder _
      split
      · exact .ite h1 h1.setQp
      · exact h1.roceResend
      · exact h1.roceResend
      · exact h1.qpError

theorem execRoceCnpIn_keepsCanon {port qpn icrc} : KeepsCanon s (execRoceCnpIn port qpn icrc s) := by
  refine .upd (fun _ h1 => ?_)
  split
  · exact .ite h1.setQp h1
  · exact h1

theorem execRoceRateRestore_keepsCanon {q} : KeepsCanon s (execRoceRateRestore q s) := by
  refine .upd (fun _ h1 => ?_)
  split
  · exact .ite h1 h1.at.setQp
  · exact h1

theorem execRoceRetryTimeout_keepsCanon {q} : KeepsCanon s (execRoceRetryTimeout q s) := by
  refine .upd (fun _ h1 => ?_)
  split
  · exact .ite h1 (.ite h1.at.qpError h1.at.roceResend)
  · exact h1

theorem execFeedFrame_keepsCanon {g} : KeepsCanon s (execFeedFrame g s) := by
  refine .upd (fun _ h1 => ?_)
  extract_lets -underBinder _ d2
  have h2 : d2.Canon := h1.at
  split
  · exact h2
  · split
    · exact h2
    · extract_lets -underBinder d3 _ _ _ _ _
      have h3 : d3.Canon := h2.count
      split
      · exact h3
      · split
        · exact h3
        · rename_i d4 heq
          have h4 : d4.Canon := h2.deliverFrame.of_eq heq
          exact h4.updLink

theorem Device.Canon.setPtp {p u} (h : d.Canon) : (d.setPtp p u).Canon :=
  h.updLink

theorem Device.Canon.ptpOffset {p} (h : d.Canon) : (d.ptpOffset p).Canon := by
  unfold Device.ptpOffset
  extract_lets -underBinder _
  split
  · exact h
  · extract_lets -underBinder _ _ d1 d2 _
    have h1 : d1.Canon := h.setPtp
    have h2 : d2.Canon := .ite h1.ptpLock (.ite h1.ptpLock h1)
    exact .ite h2.setCalendar h2

theorem execPtpSyncIn_keepsCanon {p m} : KeepsCanon s (execPtpSyncIn p m s) := by
  refine .upd (fun _ h1 => ?_)
  split
  · exact h1
  · extract_lets -underBinder d2 _ _ d3
    have h2 : d2.Canon := h1.at
    have h3 : d3.Canon := h2.setPtp.emit
    exact .ite h3 h3.ptpOffset

theorem execPtpFollowUpIn_keepsCanon {p m} : KeepsCanon s (execPtpFollowUpIn p m s) :=
  .upd (fun _ h1 => .ite h1 h1.at.setPtp.ptpOffset)
theorem execPtpDelayRespIn_keepsCanon {p m} : KeepsCanon s (execPtpDelayRespIn p m s) :=
  .upd (fun _ h1 => .ite h1 h1.at.setPtp)

theorem execPtpSyncTimeout_keepsCanon {p} : KeepsCanon s (execPtpSyncTimeout p s) := by
  refine .upd (fun _ h1 => ?_)
  extract_lets -underBinder _
  split
  · exact h1
  · exact h1.at.setPtp.ptpLock

/-! ### Memory -/

theorem Device.Canon.beginBurst (h : d.Canon) : d.beginBurst.Canon :=
  .ite h h
theorem Device.Canon.darkBad {x f} (h : d.Canon) (hf : ∀ (d0 : Device), d0.Canon → (f d0).Canon) : (d.darkBad x f).Canon :=
  .ite h (hf _ h)

theorem Device.Canon.patrolBad {t groomer} (h : d.Canon) : (d.patrolBad t groomer).Canon := by
  unfold Device.patrolBad
  split
  · exact .ite h.poisonGranule h
  · exact h.darkBad (fun _ h1 => h1.sramBad)
  · exact h.entryBad
  · exact .darkBad h (fun _ h1 => .unpair h1.free (fun _ _ h2 => h2.count.setReg.errqEnter))
  · exact .ite h (.sramBadAt h)

theorem execGroomerPatrol_keepsCanon {t found last} : KeepsCanon s (execGroomerPatrol t found last s) := by
  refine .upd (fun _ h1 => ?_)
  split
  · exact h1
  · extract_lets -underBinder _ d2 d3 _ d4
    have h2 : d2.Canon := .ite h1.count h1
    have h3 : d3.Canon := .ite h2 h2.patrolBad
    have h4 : d4.Canon := .ite h3 h3
    exact .ite h3 (.ite h4.count h4)

theorem Device.Canon.groomCtrlWrite {v} (h : d.Canon) : (d.groomCtrlWrite v).Canon := by
  unfold Device.groomCtrlWrite
  split
  · exact h.refuse
  · extract_lets -underBinder _ d1 _ d2
    have h1 : d1.Canon := h.setReg
    have h2 : d2.Canon := .ite h1 h1
    exact .ite h2.record h2

theorem execGroomCtrlWrite_keepsCanon {v} : KeepsCanon s (execGroomCtrlWrite v s) :=
  .upd (fun _ h1 => h1.groomCtrlWrite)
theorem Device.Canon.vmCtrlWrite {v} (h : d.Canon) : (d.vmCtrlWrite v).Canon :=
  .ite h.refuse (.ite h.refuse h.setReg)
theorem execVmCtrlWrite_keepsCanon {v} : KeepsCanon s (execVmCtrlWrite v s) :=
  .upd (fun _ h1 => h1.vmCtrlWrite)
theorem Device.Canon.vmRootWrite {v} (h : d.Canon) : (d.vmRootWrite v).Canon :=
  .ite h.refuse (.ite h.refuse (.ite h.refuse h.setReg))
theorem execVmRootWrite_keepsCanon {v} : KeepsCanon s (execVmRootWrite v s) :=
  .write64 (fun _ h1 => h1.vmRootWrite)
theorem Device.Canon.dropTlb {r} (h : d.Canon) : (d.dropTlb r).Canon :=
  h.updMem
theorem Device.Canon.vmInvalWrite {v} (h : d.Canon) : (d.vmInvalWrite v).Canon :=
  .ite h.refuse (.ite h.setReg.updMem.dropTlb h.setReg)
theorem execVmInval_keepsCanon {v} : KeepsCanon s (execVmInval v s) :=
  .write64 (fun _ h1 => h1.vmInvalWrite)
theorem execVmInvalDone_keepsCanon : KeepsCanon s (execVmInvalDone s) :=
  .upd (fun _ h1 => .ite h1 h1.dropTlb.updMem.setFld)
theorem Device.Canon.sendPageRequest {a write} (h : d.Canon) : (d.sendPageRequest a write).Canon :=
  .ite h h.updMem.emit

theorem execAtsCompletion_keepsCanon {page target read write} : KeepsCanon s (execAtsCompletion page target read write s) := by
  refine .upd (fun _ h1 => ?_)
  extract_lets -underBinder _ d2 _ d3
  have h2 : d2.Canon := h1.updMem
  have h3 : d3.Canon := .ite h2.updMem h2
  exact .ite h1 (.foldl h3 (fun _ _ h4 => .ite h4 h4.noteVmFault.requestAbort.sendPageRequest))

theorem execAtsInvalidate_keepsCanon {itag addr size} : KeepsCanon s (execAtsInvalidate itag addr size s) :=
  .upd (fun _ h1 => .ite h1 (.ite h1.updMem.updMem h1.updMem.emit))
theorem execPageRequestResponse_keepsCanon {group} : KeepsCanon s (execPageRequestResponse group s) :=
  .upd (fun _ h1 => h1.updMem)

theorem execHostReadCompletion_keepsCanon {id ok data} : KeepsCanon s (execHostReadCompletion id ok data s) := by
  refine .upd (fun _ h1 => ?_)
  split
  · exact h1
  · exact .settleInvals (.ite h1.deliverRead h1.failRead)

theorem Device.Canon.trainFail {die index tier} (h : d.Canon) : (d.trainFail die index tier).Canon :=
  h.record

theorem execMemoryTrainingEnd_keepsCanon {stk bonded dimms ddr} : KeepsCanon s (execMemoryTrainingEnd stk bonded dimms ddr s) := by
  refine .upd (fun _ h1 => ?_)
  split
  · exact h1
  · extract_lets -underBinder d2 _ _ _ _ _ _ _ _ _ _ d3 d4 d5 d6 d7 d8 d9
    have h2 : d2.Canon := h1.at
    have h3 : d3.Canon := h2.clearMem
    have h4 : d4.Canon := .foldl h3 (fun _ _ h5 => h5.setFld.setFld)
    have h5 : d5.Canon := h4.setReg
    have h6 : d6.Canon := h5.setReg
    have h7 : d7.Canon := h6.setReg
    have h8 : d8.Canon := .foldl h7 (fun _ _ h9 => .ite h9 h9.trainFail)
    have h9 : d9.Canon := .foldl h8 (fun _ _ h10 => .ite h10 h10.trainFail)
    exact .ite h9 (.trainFail (.ite h9 h9.record))

/-! ### Commit -/

theorem execHandleArrive_keepsCanon {dd lift i} : KeepsCanon s (execHandleArrive dd lift i s) := by
  refine .upd (fun _ h1 => ?_)
  extract_lets -underBinder _
  split
  · exact h1
  · split
    · exact .ite h1.updStr.releaseHandle h1.updStr.setLift
    · exact h1

theorem Device.Canon.writeOut {a bs poison} (h : d.Canon) : (d.writeOut a bs poison).Canon := by
  unfold Device.writeOut
  refine .foldl h fun _ _ h1 => ?_
  extract_lets -underBinder _
  split
  · exact .ite h1 h1.emit
  · exact h1.sendLink
  · exact h1
  · exact h1
  · exact .ite h1.write.poisonRange h1.write

theorem Device.Canon.oldByte {olds a} (h : d.Canon) : (d.oldByte olds a).2.Canon := by
  unfold Device.oldByte
  split
  · exact h
  · split
    · exact h
    · exact .unpairSnd h.free (fun _ _ h1 => h1)

theorem Device.Canon.writeHalf {olds a half x poison} (h : d.Canon) : (d.writeHalf olds a half x poison).2.Canon := by
  unfold Device.writeHalf
  split
  rename_i d1 heq
  have h1 : d1.Canon := h.oldByte.of_eq heq
  exact h1.writeOut

theorem Device.Canon.oldCode {olds e key} (h : d.Canon) : (d.oldCode olds e key).2.Canon := by
  unfold Device.oldCode
  split
  · split
    rename_i d1 heq
    have h1 : d1.Canon := h.oldByte.of_eq heq
    exact h1
  · refine .foldlSnd h fun _ _ h1 => ?_
    split
    rename_i d2 heq
    have h2 : d2.Canon := h1.oldByte.of_eq heq
    exact h2

theorem Device.Canon.mergeAll {olds ws} (h : d.Canon) : (d.mergeAll olds ws).2.Canon := by
  unfold Device.mergeAll
  refine .foldlSnd h fun _ _ h1 => ?_
  split
  · exact h1
  · split
    rename_i d2 heq
    have h2 : d2.Canon := h1.oldCode.of_eq heq
    exact h2

theorem Device.Canon.mergeOut {acc key m} (h : acc.2.Canon) : (Device.mergeOut acc key m).2.Canon := by
  unfold Device.mergeOut
  split
  rename_i d1 heq
  have h1 : d1.Canon := by
    split at heq
    · cases heq; exact h
    · cases heq; exact h.free
  exact .iteSnd h1.writeHalf h1.writeOut

theorem Device.Canon.stagingBad {w} (h : d.Canon) : (d.stagingBad w).Canon := by
  unfold Device.stagingBad
  extract_lets -underBinder _ _
  split
  rename_i d1 heq
  have h1 : d1.Canon := h.free.of_eq heq
  extract_lets -underBinder d2
  have h2 : d2.Canon := h1.count.setReg
  exact .foldl h2 (fun _ _ h3 => h3.errqEnter)

theorem Device.Canon.applyWrites {olds ws bad} (h : d.Canon) : (d.applyWrites olds ws bad).Canon := by
  unfold Device.applyWrites
  extract_lets -underBinder _ d1
  have h1 : d1.Canon := .foldl h (fun _ _ h2 => .ite h2 h2.writeOut)
  split
  rename_i d2 heq
  have h2 : d2.Canon := h1.mergeAll.of_eq heq
  extract_lets -underBinder d3
  have h3 : d3.Canon := .foldlSnd h2 (fun _ _ h4 => h4.mergeOut)
  exact .foldl h3 (fun _ _ h4 => h4.stagingBad)

theorem Device.Canon.travCommitted {tag} (h : d.Canon) : (d.travCommitted tag).Canon :=
  .foldl h.updLink (fun _ _ h1 => h1.count)
theorem Device.Canon.retire {k t st} (h : d.Canon) : (d.retire k t st).Canon :=
  h.setTask.updStr

theorem Device.Canon.commitTask {k t bad} (h : d.Canon) : (d.commitTask k t bad).Canon := by
  unfold Device.commitTask
  extract_lets -underBinder d1 d2 d3 d4 d5
  have h1 : d1.Canon := h.applyWrites
  have h2 : d2.Canon := h1.packCommit.matchCommit.embCommit
  have h3 : d3.Canon := .foldl h2 (fun _ _ h4 => .ite h4.qpError h4.rdmaSend)
  have h4 : d4.Canon := h3.travCommitted
  have h5 : d5.Canon := .ite h4.exchRecord h4
  exact h5.retire.settleInvals.count

theorem Device.Canon.askOlds {t l} (h : d.Canon) : (d.askOlds t l).Canon :=
  .foldl h.updTask (fun _ _ h1 => h1.askPiece)

theorem execTaskCommit_keepsCanon {tag bad} : KeepsCanon s (execTaskCommit tag bad s) := by
  refine .upd (fun _ h1 => ?_)
  split
  · exact h1
  · exact .ite h1 (.ite h1.askOlds h1.commitTask)

theorem Device.Canon.markAborted {k t code} (h : d.Canon) : (d.markAborted k t code).Canon := by
  unfold Device.markAborted
  extract_lets -underBinder _ d1 d2 _ d3
  have h1 : d1.Canon := h.exchTaskAborted
  have h2 : d2.Canon := .ite h1.exchRecord h1
  have h3 : d3.Canon := h2.retire
  exact h3.updTask.count

theorem execAbortRequestReceive_keepsCanon {tag} : KeepsCanon s (execAbortRequestReceive tag s) := by
  refine .upd (fun _ h1 => ?_)
  split
  · exact h1
  · extract_lets -underBinder d2
    have h2 : d2.Canon := h1.updStr
    split
    · exact h2
    · exact .ite h2.markAborted.updStr h2

theorem Device.Canon.abortLifts {die tag} (h : d.Canon) : (d.abortLifts die tag).Canon :=
  .foldl h.updStr (fun _ _ h1 => h1.releaseHandle)

theorem Device.Canon.abortStreams {die tag code} (h : d.Canon) : (d.abortStreams die tag code).Canon := by
  unfold Device.abortStreams
  refine .foldl h fun _ _ h1 => ?_
  extract_lets -underBinder _ _ d2 d3
  have h2 : d2.Canon := .ite h1.setStream h1.setStream.wakeSwait
  have h3 : d3.Canon := by
    unfold d3
    split
    · exact .ite h2.releaseBuffer h2
    · exact h2
  exact .foldl h3 (fun _ _ h4 => h4.releaseHandle)

theorem Device.Canon.abortReads {die tag} (h : d.Canon) : (d.abortReads die tag).Canon :=
  h
theorem Device.Canon.abortTraverse {die tag} (h : d.Canon) : (d.abortTraverse die tag).Canon :=
  .foldl h.updLink (fun _ _ h1 => h1.count)
theorem Device.Canon.freeCells {die tag} (h : d.Canon) : (d.freeCells die tag).Canon :=
  h
theorem Device.Canon.abortCells {die tag} (h : d.Canon) : (d.abortCells die tag).Canon :=
  .foldl h.freeCells.updStr (fun _ _ h1 => h1.releaseHandle)
theorem Device.Canon.abortFencedItems {die tag} (h : d.Canon) : (d.abortFencedItems die tag).Canon :=
  .foldl h (fun _ _ h1 => h1.giveUpItem)

theorem Device.Canon.abortOn {die tag} (h : d.Canon) : (d.abortOn die tag).Canon := by
  unfold Device.abortOn
  extract_lets -underBinder _ d1 d2 d3 d4
  have h1 : d1.Canon := h.abortLifts.abortStreams
  have h2 : d2.Canon := h1.abortReads.abortTraverse.stopJobs
  have h3 : d3.Canon := h2.packAbort.matchAbort.selAbort.embAbort
  have h4 : d4.Canon := h3.gateAbort.abortCells.abortFencedItems
  exact h4.updTask.settleInvals

theorem execAbortOrderReceive_keepsCanon {dd tag} : KeepsCanon s (execAbortOrderReceive dd tag s) := by
  refine .upd (fun _ h1 => ?_)
  split
  · extract_lets -underBinder d2
    have h2 : d2.Canon := h1.abortOn.updStr
    exact .ite h2 h2.updStr
  · exact h1

theorem execAbortReport_keepsCanon {tag} : KeepsCanon s (execAbortReport tag s) := by
  refine .upd (fun _ h1 => ?_)
  split
  · exact h1
  · exact h1.updStr.sendAsync.record

/-! ### Hash -/

theorem execHashJobStart_keepsCanon {dd k st} : KeepsCanon st (execHashJobStart dd k st) := by
  refine .upd (fun _ h1 => ?_)
  refine .beginRun h1 (fun _ _ _ h2 => ?_)
  extract_lets -underBinder _ _ _
  split
  rename_i d3 heq
  have h3 : d3.Canon := h2.takeSeq.of_eq heq
  extract_lets -underBinder _ f
  have hf : ∀ x0, (f x0).Canon := fun _ => h3.failJob
  split
  · exact hf _
  · split
    · exact hf _
    · exact h3.setJob

theorem execHashJobEnd_keepsCanon {dd k st} : KeepsCanon st (execHashJobEnd dd k st) := by
  refine .upd (fun _ h1 => ?_)
  refine .withJob h1 (fun _ _ _ h2 => ?_)
  extract_lets -underBinder _ _ _ _ f
  have hf : ∀ (d0 : Device), d0.Canon → (f d0).Canon := fun _ h3 => h3.dropJob.releaseInputs.count.count
  split
  · exact h2.afterPush hf
  · split
    · exact h2.failJob
    · exact h2.jobOutputs (fun _ h3 => h3.count) hf

/-! ### Ingest -/

theorem execIngestJobStart_keepsCanon {dd k st} : KeepsCanon st (execIngestJobStart dd k st) := by
  refine .upd (fun _ h1 => ?_)
  refine .beginJob h1 (fun _ _ _ h2 => ?_)
  split
  · exact h2
  · extract_lets -underBinder _ _ _
    split
    rename_i d3 heq
    have h3 : d3.Canon := h2.takeSeq.of_eq heq
    extract_lets -underBinder _ f
    have hf : ∀ x0, (f x0).Canon := fun _ => h3.failJob
    split
    · exact hf _
    · split
      · exact hf _
      · split
        · exact hf _
        · exact h3.setJob.count

theorem execIngestJobEnd_keepsCanon {dd k st} : KeepsCanon st (execIngestJobEnd dd k st) := by
  refine .upd (fun _ h1 => ?_)
  refine .withJob h1 (fun _ _ _ h2 => ?_)
  split
  · exact h2
  · extract_lets -underBinder _ _ _ _ fail fin bytes wrote rows put
    have hfail : ∀ x0 x1 (d2 : Device), d2.Canon → (fail x0 x1 d2).Canon := fun _ _ _ h3 => h3.failJob
    have hfin : ∀ (d0 : Device), d0.Canon → (fin d0).Canon := fun _ h3 => h3.dropJob.releaseInputs.count
    have hbytes : ∀ x0 x1 (d2 : Device), d2.Canon → (bytes x0 x1 d2).Canon := fun _ _ _ h3 => h3.count
    have hwrote : ∀ x0 (d1 : Device), d1.Canon → (wrote x0 d1).Canon := fun _ _ h3 => .unpair h3.free (fun _ _ h4 => hbytes _ _ _ h4)
    have hrows : ∀ x0 x1 (d2 : Device), d2.Canon → (rows x0 x1 d2).Canon := fun _ _ _ h3 => h3.count.count
    have hput : ∀ x0 x1 x2 x3 (d4 : Device),
        (∀ d : Device, d.Canon → (x2 d).Canon) → d4.Canon → (put x0 x1 x2 x3 d4).Canon := fun _ _ _ _ _ hx1 h3 => by
      unfold put
      refine .jobOutputs h3 (fun _ h4 => ?_) hfin
      exact hx1 _ h4
    split
    · exact h2.afterPush hfin
    · split
      · exact hfail _ _ _ h2
      · extract_lets -underBinder _
        split
        · exact hput _ _ _ _ _ (hbytes _ _) h2
        · split
          · exact hfail _ _ _ (hwrote _ _ h2)
          · exact .ite (hfail _ _ _ (hbytes _ _ _ h2)) (hput _ _ _ _ _ (hbytes _ _) h2)
        · split
          · exact hfail _ _ _ (hwrote _ _ h2)
          · split
            · exact hfail _ _ _ (hbytes _ _ _ h2)
            · split
              rename_i d3 heq
              have h3 : d3.Canon := h2.holdBuffers.of_eq heq
              split
              · exact h3
              · extract_lets -underBinder d4
                have h4 : d4.Canon := .ite h3.write.setJob h3
                split
                · refine hfail _ _ _ ?_
                  split
                  · exact hrows _ _ _ (hbytes _ _ _ h4)
                  · exact hbytes _ _ _ h4
                · exact hput _ _ _ _ _ (fun _ h => hrows _ _ _ (hbytes _ _ _ h)) h4

/-! ### Plans -/

theorem Device.Canon.updPlan {f} (h : d.Canon) : (d.updPlan f).Canon :=
  h

theorem Device.Canon.planError {code die} (h : d.Canon) : (d.planError code die).Canon := by
  unfold Device.planError
  extract_lets -underBinder d1
  have h1 : d1.Canon := .ite h h.refuse
  exact h1.refuseAt

theorem Device.Canon.planRefuse {m opcode code die} (h : d.Canon) : (d.planRefuse m opcode code die).Canon :=
  h.planError.respond

theorem Device.Canon.judging {lib} (h : d.Canon) : (d.judging lib).Canon := by
  unfold Device.judging
  split
  · exact h.setFld
  · exact h

theorem Device.Canon.showIds (h : d.Canon) : d.showIds.Canon :=
  h.setReg.setReg.setReg.setReg
theorem Device.Canon.storeFrom {m lib src len} (h : d.Canon) : (d.storeFrom m lib src len).Canon :=
  .ite (.ite h.planRefuse h.updPlan) (.ite h.updPlan.askPiece h.planRefuse)
theorem execPlanStore_keepsCanon {m lib src len} : KeepsCanon s (execPlanStore m lib src len s) :=
  .cmd (fun _ h1 => .ite h1.planRefuse (.ite h1.planRefuse (.ite h1.planRefuse (.ite h1.planRefuse (.ite h1.planRefuse h1.storeFrom)))))

theorem execPlanStoreDone_keepsCanon : KeepsCanon s (execPlanStoreDone s) := by
  refine .upd (fun _ h1 => ?_)
  split
  · exact h1
  · extract_lets -underBinder _ _ d2
    have h2 : d2.Canon := h1.updPlan
    split
    · exact .ite h1.failStore h1
    · split
      · exact h2.planRefuse
      · exact h2.updPlan.respond

theorem execPlanEvict_keepsCanon {m lib} : KeepsCanon s (execPlanEvict m lib s) :=
  .cmd (fun _ h1 => .ite h1.planRefuse (.ite h1.planRefuse h1.updPlan.respond))

theorem execPlanLoad_keepsCanon {m lib} : KeepsCanon s (execPlanLoad m lib s) := by
  refine .cmd (fun _ h1 => ?_)
  split
  · exact h1.planRefuse
  · split
    · exact h1.planRefuse
    · split
      · exact h1.planRefuse
      · extract_lets -underBinder d2
        have h2 : d2.Canon := h1.judging
        split
        · exact h1.planRefuse
        · split
          extract_lets -underBinder d3 _ d4
          have h3 : d3.Canon := h1.updPlan
          have h4 : d4.Canon := .ite h3 h3.count
          exact h4.updPlan.setShadowState.showShadow

theorem execPlanLoadDone_keepsCanon : KeepsCanon s (execPlanLoadDone s) := by
  refine .upd (fun _ h1 => ?_)
  split
  · exact h1
  · extract_lets -underBinder d2
    have h2 : d2.Canon := h1.updPlan.setShadowState
    exact h2.setFld.showIds.respond

theorem execPlanArm_keepsCanon {m step pu} : KeepsCanon s (execPlanArm m step pu s) := by
  refine .cmd (fun _ h1 => ?_)
  split
  · exact h1.planRefuse
  · split
    · exact h1.planRefuse
    · split
      · exact h1.planRefuse
      · split
        · exact h1.planRefuse
        · extract_lets -underBinder x
          clear_value x
          split
          · exact h1.planRefuse
          · extract_lets -underBinder _ d2
            have h2 : d2.Canon := h1.updPlan.setShadowState
            exact h2.setFld.showShadow.setReg.setReg.respond

theorem Device.Canon.stepBounds {pl} (h : d.Canon) : (d.stepBounds pl).Canon :=
  h.setReg.updTime

theorem Device.Canon.unarm (h : d.Canon) : d.unarm.Canon := by
  unfold Device.unarm
  extract_lets -underBinder d1
  have h1 : d1.Canon := .ite h.stepBounds h
  exact .setShadowState (.updPlan h1)

theorem execPlanDisarm_keepsCanon {m} : KeepsCanon s (execPlanDisarm m s) :=
  .cmd (fun _ h1 => .ite h1.planRefuse h1.unarm.respond)
theorem Device.Canon.cancelSwitch {code} (h : d.Canon) : (d.cancelSwitch code).Canon :=
  h.unarm.planError.record.sendAsync

/-! ### Recorder -/

theorem Device.Canon.writeRecord {slot e} (h : d.Canon) : (d.writeRecord slot e).Canon := by
  unfold Device.writeRecord
  extract_lets -underBinder _ _ d1 d2
  have h1 : d1.Canon := h
  have h2 : d2.Canon := .ite h1.setFld.signal h1
  exact h2.sendAsync

theorem execRecorderAccept_keepsCanon : KeepsCanon s (execRecorderAccept s) := by
  refine .upd (fun _ h1 => ?_)
  split
  · exact h1
  · extract_lets -underBinder _ d2
    have h2 : d2.Canon := h1
    split
    · exact h2.writeRecord
    · split
      · exact h2.count.writeRecord
      · exact h2.count

theorem Device.Canon.evrRelease {v} (h : d.Canon) : (d.evrRelease v).Canon :=
  .ite h.refuse (.ite h.refuse (.ite h.refuse (.ite h.setReg h.setReg)))
theorem execEvrRelease_keepsCanon {v} : KeepsCanon s (execEvrRelease v s) :=
  .write64 (fun _ h1 => h1.evrRelease)

theorem execFatalFlashWrite_keepsCanon : KeepsCanon s (execFatalFlashWrite s) := by
  refine .upd (fun _ h1 => ?_)
  split
  · exact h1
  · exact h1

theorem Device.Canon.coreCrash {core} (h : d.Canon) : (d.coreCrash core).Canon := by
  unfold Device.coreCrash
  split
  · exact h
  · extract_lets -underBinder d1
    have h1 : d1.Canon := h.startDump
    exact .errqEnter h1

theorem execMgmtWatchdogExpire_keepsCanon {core} : KeepsCanon s (execMgmtWatchdogExpire core s) :=
  .upd (fun _ h1 => h1.coreCrash)
theorem execLockstepMismatch_keepsCanon {core} : KeepsCanon s (execLockstepMismatch core s) :=
  .upd (fun _ h1 => h1.coreCrash)
theorem execFirmwarePanic_keepsCanon {core} : KeepsCanon s (execFirmwarePanic core s) :=
  .upd (fun _ h1 => h1.coreCrash)
theorem Device.Canon.writeDesc {active prev trial} (h : d.Canon) : (d.writeDesc active prev trial).Canon :=
  h
theorem Device.Canon.useImage {slot trial} (h : d.Canon) : (d.useImage slot trial).Canon :=
  h.setFld.setFld.setReg
theorem Device.Canon.sendActivation {result slot} (h : d.Canon) : (d.sendActivation result slot).Canon :=
  h.setFld.sendAsync

theorem execCrashDumpDone_keepsCanon : KeepsCanon s (execCrashDumpDone s) := by
  refine .upd (fun _ h1 => ?_)
  split
  · exact h1
  · exact .ite h1 (.ite h1 (.sendActivation (.useImage (.writeDesc h1))))

theorem execCrashInfo_keepsCanon {m} : KeepsCanon s (execCrashInfo m s) :=
  .cmd (fun _ h1 => h1.respond)
theorem execCrashRead_keepsCanon {m slot dst} : KeepsCanon s (execCrashRead m slot dst s) :=
  .cmd (fun _ h1 => .ite h1.refuseMsg (.ite h1.refuseMsg h1.write.respond))
theorem execCrashRelease_keepsCanon {m slot} : KeepsCanon s (execCrashRelease m slot s) :=
  .cmd (fun _ h1 => .ite h1.refuseMsg (.ite h1.refuseMsg (.respond h1)))
theorem execFatalLogRead_keepsCanon {m dst} : KeepsCanon s (execFatalLogRead m dst s) :=
  .cmd (fun _ h1 => .ite h1.refuseMsg h1.write.respond)

/-! ### Power -/

theorem Device.Canon.updMgmt {f} (h : d.Canon) : (d.updMgmt f).Canon :=
  h

theorem Device.Canon.setEmergency {f on} (h : d.Canon) : (d.setEmergency f on).Canon := by
  unfold Device.setEmergency
  split
  · exact h
  · extract_lets -underBinder _ d1 d2 _
    have h1 : d1.Canon := h.setFld
    have h2 : d2.Canon := .ite h1.setFld.updMgmt h1.updMgmt
    exact h2.record.sendAsync

theorem Device.Canon.setMhz {k f} (h : d.Canon) : (d.setMhz k f).Canon :=
  .setFld h
theorem Device.Canon.refreshEmergency (h : d.Canon) : d.refreshEmergency.Canon :=
  .ite h h.setEmergency.setEmergency
theorem Device.Canon.pmbusWrite {k cmd v} (h : d.Canon) : (d.pmbusWrite k cmd v).Canon :=
  h.emit
theorem Device.Canon.pmbusRead {k cmd} (h : d.Canon) : (d.pmbusRead k cmd).Canon :=
  h.emit

theorem Device.Canon.setVdd {k mv} (h : d.Canon) : (d.setVdd k mv).Canon := by
  unfold Device.setVdd
  extract_lets -underBinder _
  split
  · exact h.setFld
  · exact h.setFld.updMgmt.pmbusWrite

theorem Device.Canon.trip {quantity index} (h : d.Canon) : (d.trip quantity index).Canon := by
  unfold Device.trip
  split
  · exact h
  · extract_lets -underBinder d1 d2 d3
    have h1 : d1.Canon := h.setFld
    have h2 : d2.Canon := .foldl h1 (fun _ _ h3 => h3.setMhz.setVdd)
    have h3 : d3.Canon := h2.updMgmt.emit
    exact h3.errqEnter

theorem Device.Canon.gateCheck {limit} (h : d.Canon) : (d.gateCheck limit).Canon :=
  .ite h.updMgmt.setFld h

theorem execRailSample_keepsCanon {mv da} : KeepsCanon s (execRailSample mv da s) := by
  refine .updAny (fun _ h1 => ?_)
  split
  · exact h1
  · extract_lets -underBinder d2 _ _ d3 _ d4 d5 d6 d7
    have h2 : d2.Canon := h1.at
    have h3 : d3.Canon := .foldl h2 (fun _ _ h4 => h4.setReg)
    have h4 : d4.Canon := h3.updMgmt
    have h5 : d5.Canon := h4.gateCheck
    have h6 : d6.Canon := by
      unfold d6
      split
      · exact h5.trip
      · exact h5
    have h7 : d7.Canon := by
      unfold d7
      split
      · exact h6.trip
      · exact h6
    exact h7.refreshEmergency

theorem execGovernorPeriod_keepsCanon : KeepsCanon s (execGovernorPeriod s) := by
  refine .updAny (fun _ h1 => ?_)
  split
  · exact h1
  · extract_lets -underBinder _ d2 _ d3 _ _ d4 d5
    have h2 : d2.Canon := .ite h1.count h1
    have h3 : d3.Canon := h2.setReg
    have h4 : d4.Canon := h3.setFld.setFld
    have h5 : d5.Canon := h4.updMgmt
    exact h5.gateCheck.refreshEmergency

theorem execTempSample_keepsCanon {temps} : KeepsCanon s (execTempSample temps s) := by
  refine .updAny (fun _ h1 => ?_)
  split
  · exact h1
  · extract_lets -underBinder _ d2 d3 d4
    have h2 : d2.Canon := h1.updMgmt
    have h3 : d3.Canon := by
      unfold d3
      refine .foldl h2 fun _ _ h4 => ?_
      extract_lets -underBinder d5 d6
      have h5 : d5.Canon := h4.setFld
      have h6 : d6.Canon := h5.setFld
      exact .ite (.ite h6.setMhz h6) (.ite h5.setFld h5)
    have h4 : d4.Canon := by
      unfold d4
      split
      · exact h3.trip
      · exact h3
    exact h4.refreshEmergency

theorem execHbmTempReport_keepsCanon {stack temp} : KeepsCanon s (execHbmTempReport stack temp s) :=
  .upd (fun _ h1 => h1.updMgmt.refreshEmergency)
theorem Device.Canon.moveClock {k f} (h : d.Canon) : (d.moveClock k f).Canon :=
  .ite h (.ite h.setMhz.updMgmt.setVdd (.ite h.updMgmt.setVdd (.ite h h.updMgmt.setVdd)))

theorem execClockAdjust_keepsCanon : KeepsCanon s (execClockAdjust s) := by
  refine .upd (fun _ h1 => ?_)
  split
  · exact h1
  · extract_lets -underBinder d2 d3 _ _ _ _ _ _ d4
    have h2 : d2.Canon := h1.at
    have h3 : d3.Canon := h2.updMgmt
    have h4 : d4.Canon := by
      unfold d4
      refine .foldl h3 fun _ _ h5 => ?_
      extract_lets -underBinder _ _ _ d6
      have h6 : d6.Canon := h5.setFld.setFld
      exact h6.moveClock
    exact h4.refreshEmergency

theorem execVoltageSettled_keepsCanon {k} : KeepsCanon s (execVoltageSettled k s) := by
  refine .upd (fun _ h1 => ?_)
  split
  · exact h1
  · extract_lets -underBinder d2
    have h2 : d2.Canon := h1.updMgmt
    split
    · exact h2.setMhz
    · exact h2

theorem Device.Canon.vrFailed {k} (h : d.Canon) : (d.vrFailed k).Canon :=
  .ite h h.setFld.record

theorem execVrSetpointTimeout_keepsCanon {x} : KeepsCanon s (execVrSetpointTimeout x s) := by
  refine .upd (fun _ h1 => ?_)
  extract_lets -underBinder _ _
  split
  · exact h1
  · extract_lets -underBinder f d2 _ d3
    have hf : ∀ (d0 : Device), d0.Canon → (f d0).Canon := fun _ h2 => h2.pmbusWrite
    have h2 : d2.Canon := .ite (hf _ (hf _ h1)) h1.at
    have h3 : d3.Canon := h2.updMgmt
    exact h3.setFld.vrFailed

theorem execVrAlert_keepsCanon {asserted status} : KeepsCanon s (execVrAlert asserted status s) := by
  refine .upd (fun _ h1 => ?_)
  extract_lets -underBinder d2 d3
  have h2 : d2.Canon := h1.setFld
  have h3 : d3.Canon := .foldl h2 (fun _ _ h4 => h4.pmbusRead)
  exact .ite h2 h3.record

theorem Device.Canon.pwrCapWrite {v} (h : d.Canon) : (d.pwrCapWrite v).Canon :=
  .ite h.refuse (.ite h.refuse h.setReg)
theorem execPwrCapWrite_keepsCanon {v} : KeepsCanon s (execPwrCapWrite v s) :=
  .upd (fun _ h1 => h1.pwrCapWrite)
theorem Device.Canon.freqCapWrite {v} (h : d.Canon) : (d.freqCapWrite v).Canon :=
  .ite h.refuse (.ite h.refuse h.setReg)
theorem execFreqCapWrite_keepsCanon {v} : KeepsCanon s (execFreqCapWrite v s) :=
  .upd (fun _ h1 => h1.freqCapWrite)
theorem execTelemetryRefresh_keepsCanon : KeepsCanon s (execTelemetryRefresh s) :=
  .upd (fun _ h1 => h1.at.updMgmt)
theorem Device.Canon.mctpReply {pec cmd fields} (h : d.Canon) : (d.mctpReply pec cmd fields).Canon :=
  .ite h.emit h
theorem execSetEndpointId_keepsCanon {eid pec} : KeepsCanon s (execSetEndpointId eid pec s) :=
  .upd (fun _ h1 => .ite h1 h1.updMgmt.mctpReply)
theorem execGetEndpointId_keepsCanon {pec} : KeepsCanon s (execGetEndpointId pec s) :=
  .upd (fun _ h1 => h1.mctpReply)
theorem execGetMctpVersionSupport_keepsCanon {mtype pec} : KeepsCanon s (execGetMctpVersionSupport mtype pec s) :=
  .upd (fun _ h1 => h1.mctpReply)
theorem execGetMessageTypeSupport_keepsCanon {pec} : KeepsCanon s (execGetMessageTypeSupport pec s) :=
  .upd (fun _ h1 => h1.mctpReply)
theorem execGetPdr_keepsCanon {id pec} : KeepsCanon s (execGetPdr id pec s) :=
  .upd (fun _ h1 => h1.mctpReply)
theorem execGetSensorReading_keepsCanon {id pec} : KeepsCanon s (execGetSensorReading id pec s) :=
  .upd (fun _ h1 => h1.mctpReply)
theorem execGetStateSensorReadings_keepsCanon {id pec} : KeepsCanon s (execGetStateSensorReadings id pec s) :=
  .upd (fun _ h1 => h1.mctpReply)

theorem execSetNumericEffecterValue_keepsCanon {id value pec} : KeepsCanon s (execSetNumericEffecterValue id value pec s) := by
  refine .upd (fun _ h1 => ?_)
  extract_lets -underBinder _ d2
  have h2 : d2.Canon := .ite h1.updMgmt h1
  exact h2.mctpReply

theorem execGetNumericEffecterValue_keepsCanon {id pec} : KeepsCanon s (execGetNumericEffecterValue id pec s) :=
  .upd (fun _ h1 => h1.mctpReply)

/-! ### Firmware -/

theorem Device.Canon.setActState {v} (h : d.Canon) : (d.setActState v).Canon :=
  h.setFld
theorem execFwStage_keepsCanon {m payload} : KeepsCanon s (execFwStage m payload s) :=
  .cmd (fun _ h1 => .ite h1 (.ite h1.refuseMsg (.ite h1.refuseMsg (.ite h1.refuseMsg (.ite h1.refuseMsg h1.updMgmt)))))

theorem execFwStageDone_keepsCanon {ok} : KeepsCanon s (execFwStageDone ok s) := by
  refine .upd (fun _ h1 => ?_)
  split
  · exact h1
  · exact .ite (.respond (.setActState h1)) (.respond (.setActState h1))

theorem execFwActivate_keepsCanon {m payload} : KeepsCanon s (execFwActivate m payload s) :=
  .cmd (fun _ h1 => .ite h1 (.ite h1.refuseMsg h1.setActState.updMgmt.respond))
theorem execFwCancel_keepsCanon {m payload} : KeepsCanon s (execFwCancel m payload s) :=
  .cmd (fun _ h1 => .ite h1 (.ite h1.refuseMsg h1.setActState.respond.sendActivation))

theorem execFwCommit_keepsCanon {m payload} : KeepsCanon s (execFwCommit m payload s) := by
  refine .cmd (fun _ h1 => ?_)
  extract_lets -underBinder _ _ d2 _ d3
  have h2 : d2.Canon := h1.writeDesc.setFld
  have h3 : d3.Canon := .ite h2 h2
  exact .ite h1 (.ite h1.refuseMsg (.ite h1.refuseMsg h3.respond))

theorem Device.Canon.slotInfo {slot} (h : d.Canon) : (d.slotInfo slot).2.Canon :=
  .iteSnd h.free h

theorem execFwInfo_keepsCanon {m payload} : KeepsCanon s (execFwInfo m payload s) := by
  refine .cmd (fun _ h1 => ?_)
  split
  · exact h1
  · extract_lets -underBinder d2 d3
    have h2 : d2.2.Canon := h1.slotInfo
    have h3 : d3.2.Canon := h2.slotInfo
    exact h3.respond

theorem execFwActivationApply_keepsCanon : KeepsCanon s (execFwActivationApply s) := by
  refine .upd (fun _ h1 => ?_)
  split
  · exact h1
  · extract_lets -underBinder d2
    have h2 : d2.Canon := h1.reachPhase
    exact .ite h2 h2.writeDesc.setActState

theorem execFwActivationTimeout_keepsCanon : KeepsCanon s (execFwActivationTimeout s) :=
  .upd (fun _ h1 => .ite h1 (.ite h1.at h1.at.setActState.sendActivation))
theorem execFwRestartDone_keepsCanon : KeepsCanon s (execFwRestartDone s) :=
  .upd (fun _ h1 => .ite h1 h1.useImage.setActState.record.sendActivation)

theorem Device.Canon.bootOrder (h : d.Canon) : d.bootOrder.2.Canon := by
  unfold Device.bootOrder
  split
  · exact h
  · exact h
  · split
    · exact h
    · exact .iteSnd h.writeDesc h
  · exact h

theorem execFirmwareStart_keepsCanon {vmode} : KeepsCanon s (execFirmwareStart vmode s) := by
  refine .upd (fun _ h1 => ?_)
  split
  · exact h1
  · extract_lets -underBinder d2 d3 d4
    have h2 : d2.Canon := h1.at.updMgmt
    have h3 : d3.2.Canon := h2.bootOrder
    have h4 : d4.Canon := h3
    split
    · exact h4.record
    · extract_lets -underBinder d5
      have h5 : d5.Canon := h4.useImage.updMgmt
      refine .foldl h5 fun _ _ h6 => ?_
      extract_lets -underBinder d7
      have h7 : d7.Canon := h6.pmbusRead
      split
      · exact h7.updMgmt
      · exact h7.vrFailed

theorem execDeviceReady_keepsCanon {fails} : KeepsCanon s (execDeviceReady fails s) := by
  refine .upd (fun _ h1 => ?_)
  split
  · exact h1
  · extract_lets -underBinder d2 d3
    have h2 : d2.Canon := h1.at
    have h3 : d3.Canon := by
      unfold d3
      refine .foldl h2 fun _ _ h4 => ?_
      extract_lets -underBinder _ _
      split
      · exact h4
      · split
        · rename_i d5 heq
          have h5 : d5.Canon := h4.fmapAdd.of_eq heq
          exact h5.stopUnit
        · exact h4.containDie
    exact h3.setFld.setFld

/-! ### Host -/

theorem Device.Canon.updHost {f} (h : d.Canon) : (d.updHost f).Canon :=
  h
theorem Device.Canon.wdogSettle (h : d.Canon) : d.wdogSettle.Canon :=
  h.updHost
theorem Device.Canon.wdogRestart (h : d.Canon) : d.wdogRestart.Canon :=
  h.updHost
theorem execHeartbeat_keepsCanon {y} : KeepsCanon s (execHeartbeat y s) :=
  .upd (fun _ h1 => h1.wdogRestart)
theorem Device.Canon.wdogCtrlWrite {v} (h : d.Canon) : (d.wdogCtrlWrite v).Canon :=
  .ite h.refuse (.ite h.refuse h.setReg.wdogRestart)
theorem execWdogCtrlWrite_keepsCanon {v} : KeepsCanon s (execWdogCtrlWrite v s) :=
  .upd (fun _ h1 => h1.wdogCtrlWrite)

theorem Device.Canon.stopHost {cause} (h : d.Canon) : (d.stopHost cause).Canon := by
  unfold Device.stopHost
  extract_lets -underBinder d1
  have h1 : d1.Canon := h.wdogSettle.setFld
  exact .ite h1 h1.setHostState.updHost

theorem execWdogExpire_keepsCanon : KeepsCanon s (execWdogExpire s) :=
  .upd (fun _ h1 => .ite h1 h1.at.stopHost.setFld)
theorem execD3hotEntry_keepsCanon : KeepsCanon s (execD3hotEntry s) :=
  .upd (fun _ h1 => .ite h1.updHost.setFld h1.updHost.stopHost)
theorem Device.Canon.sendPending (h : d.Canon) : d.sendPending.Canon :=
  .ite h (.foldl h.updHost (fun _ _ h1 => h1.emit))

theorem execConfigurationSpaceWrite_keepsCanon {ctl msix ats pri} : KeepsCanon s (execConfigurationSpaceWrite ctl msix ats pri s) := by
  refine .upd (fun _ h1 => ?_)
  extract_lets -underBinder _ _ _ d2
  have h2 : d2.Canon := h1.wdogSettle.updHost.sendPending
  split
  · exact h2.emit
  · exact h2

theorem execMsixUnmask_keepsCanon {v} : KeepsCanon s (execMsixUnmask v s) :=
  .upd (fun _ h1 => h1.updHost.sendPending)

theorem execMsixCoalesceTimer_keepsCanon : KeepsCanon s (execMsixCoalesceTimer s) := by
  refine .upd (fun _ h1 => ?_)
  split
  · exact h1.at.updHost.signal
  · exact h1

theorem Device.Canon.irqMapWrite {v value} (h : d.Canon) : (d.irqMapWrite v value).Canon :=
  .ite h.refuse (.ite h.refuse h.setReg.fireIrq)
theorem execIrqMapWrite_keepsCanon {v value} : KeepsCanon s (execIrqMapWrite v value s) :=
  .write64 (fun _ h1 => h1.irqMapWrite)

theorem Device.Canon.doorbell {v} (h : d.Canon) : (d.doorbell v).Canon := by
  unfold Device.doorbell
  extract_lets -underBinder d1 _
  have h1 : d1.Canon := h.wdogRestart
  exact .ite h1.refuse h1.setReg

theorem execH2dDoorbell_keepsCanon {posted slots} : KeepsCanon s (execH2dDoorbell posted slots s) :=
  .upd (fun _ h1 => .doorbell (.foldl h1 (fun _ _ h2 => h2.updHost)))
theorem Device.Canon.takeHseq (h : d.Canon) : d.takeHseq.Canon :=
  h.setReg

theorem execMessageConsume_keepsCanon : KeepsCanon s (execMessageConsume s) := by
  refine .upd (fun _ h1 => ?_)
  split
  · exact h1
  · extract_lets -underBinder _ _ _ _
    split
    · exact h1.takeHseq.refuseMsg
    · exact .ite h1.takeHseq.refuseMsg (.ite h1 h1.takeHseq.updHost)

theorem Device.Canon.discard (h : d.Canon) : d.discard.Canon :=
  h.setReg.count
theorem execMbDiscard_keepsCanon : KeepsCanon s (execMbDiscard s) :=
  .upd (fun _ h1 => h1.discard)
theorem Device.Canon.mbCtrlWrite {v} (h : d.Canon) : (d.mbCtrlWrite v).Canon :=
  .ite h.refuse (.ite h.setFld.discard h.setFld)
theorem Device.Canon.writeHeld {m} (h : d.Canon) : (d.writeHeld m).Canon :=
  h.writeD2h

theorem Device.Canon.flushHeld (h : d.Canon) : d.flushHeld.Canon := by
  unfold Device.flushHeld
  extract_lets -underBinder d1
  have h1 : d1.Canon := .foldl h (fun _ _ h2 => .ite h2.updHost.writeHeld h2)
  exact .foldl h1 (fun _ _ h2 => .ite h2.updHost.writeHeld h2)

theorem Device.Canon.d2hAck {v} (h : d.Canon) : (d.d2hAck v).Canon :=
  .ite h.refuse h.setReg.flushHeld
theorem execD2hAck_keepsCanon {v} : KeepsCanon s (execD2hAck v s) :=
  .upd (fun _ h1 => h1.d2hAck)

theorem execAttach_keepsCanon {m driver minorMax} : KeepsCanon s (execAttach m driver minorMax s) := by
  refine .cmd (fun _ h1 => ?_)
  extract_lets -underBinder _ d2 d3
  have h2 : d2.Canon := h1.wdogSettle.setFld
  have h3 : d3.Canon := .ite h1 h2.setHostState.sendPending
  exact .ite h1.refuseMsg h3.respond

theorem execDetach_keepsCanon {m} : KeepsCanon s (execDetach m s) := by
  refine .cmd (fun _ h1 => ?_)
  split
  · exact h1.respond
  · extract_lets -underBinder d2
    have h2 : d2.Canon := h1.wdogSettle.updHost
    exact h2.setHostState

theorem execPing_keepsCanon {m data} : KeepsCanon s (execPing m data s) :=
  .cmd (fun _ h1 => h1.respond)
theorem Device.Canon.bar2Put {o x} (h : d.Canon) : (d.bar2Put o x).Canon :=
  .ite h.updHost (.ite h.updHost h)

theorem Device.Canon.doorbellWrite {off v} (h : d.Canon) : (d.doorbellWrite off v).Canon := by
  unfold Device.doorbellWrite
  split
  · exact h.doorbell
  · exact h.d2hAck
  · exact h.wdogRestart
  · exact h.refuse

theorem Device.Canon.doorbellAccess {off width access} (h : d.Canon) : (d.doorbellAccess off width access).Canon := by
  unfold Device.doorbellAccess
  split
  · split
    · exact h.emit
    · exact h.refuse
  · extract_lets -underBinder _
    split
    · exact .emit (.ite h.refuse h)
    · extract_lets -underBinder d1
      have h1 : d1.Canon := h.doorbellWrite
      exact .ite h1.doorbellWrite h1

theorem execBar2InvalidAccess_keepsCanon {off width access} : KeepsCanon s (execBar2InvalidAccess off width access s) := by
  refine .upd (fun _ h1 => ?_)
  extract_lets -underBinder _ _ d2
  have h2 : d2.Canon := h1.refuse
  split
  · exact h1.doorbellAccess
  · split
    · exact .ite h2 h2.emit
    · split
      · exact h1.emit
      · exact .sendPending (.foldl h1 (fun _ _ h3 => h3.bar2Put))

theorem execBar4Read_keepsCanon {off len} : KeepsCanon s (execBar4Read off len s) :=
  .upd (fun _ h1 => .ite h1 (.ite h1.count.emit (.ite h1.emit h1.emit)))
theorem execBar4Write_keepsCanon {off data} : KeepsCanon s (execBar4Write off data s) :=
  .upd (fun _ h1 => .ite h1 (.ite h1.count h1.write))
theorem Device.Canon.bar4BaseWrite {v} (h : d.Canon) : (d.bar4BaseWrite v).Canon :=
  .ite h.refuse h.setReg
theorem execBar4BaseWrite_keepsCanon {v} : KeepsCanon s (execBar4BaseWrite v s) :=
  .write64 (fun _ h1 => h1.bar4BaseWrite)
theorem execBar4Resize_keepsCanon {log2} : KeepsCanon s (execBar4Resize log2 s) :=
  .upd (fun _ h1 => .ite h1 h1.updHost.setReg)

/-! ### Switch -/

theorem Device.Canon.addVote {v} (h : d.Canon) : (d.addVote v).Canon :=
  h.updPlan
theorem Device.Canon.beginDrain (h : d.Canon) : d.beginDrain.Canon :=
  h.packSwitch.embRetire.updPlan
theorem Device.Canon.decided {commit} (h : d.Canon) : (d.decided commit).Canon :=
  .ite h.beginDrain h.cancelSwitch
theorem Device.Canon.sendDecision {size commit} (h : d.Canon) : (d.sendDecision size commit).Canon :=
  .decided (.foldl h (fun _ _ h1 => .ite h1 h1.sendLink))

theorem Device.Canon.coordinate (h : d.Canon) : d.coordinate.Canon := by
  unfold Device.coordinate
  split
  · split
    · split
      · exact h.sendDecision
      · exact h
    · exact h
  · exact h

theorem Device.Canon.beginAgreement {p} (h : d.Canon) : (d.beginAgreement p).Canon := by
  unfold Device.beginAgreement
  extract_lets -underBinder _ d1 d2
  have h1 : d1.Canon := h.updPlan
  have h2 : d2.Canon := h1.sendLink
  split
  · exact h1.addVote.coordinate
  · split
    · exact h2.decided
    · exact h2

theorem execSwitchPoint_keepsCanon : KeepsCanon s (execSwitchPoint s) := by
  refine .upd (fun _ h1 => ?_)
  split
  · split
    · exact h1
    · extract_lets -underBinder d2
      have h2 : d2.Canon := .ite h1 h1.reachPhase
      exact .ite h2.cancelSwitch (.ite h2.beginAgreement h2.beginDrain)
  · exact h1

theorem execSwitchVote_keepsCanon {p} : KeepsCanon s (execSwitchVote p s) :=
  .upd (fun _ h1 => .onMessage h1 (fun _ _ h2 => .ite h2.addVote.coordinate h2))

theorem execSwitchDecision_keepsCanon {p} : KeepsCanon s (execSwitchDecision p s) := by
  refine .upd (fun _ h1 => ?_)
  refine .onMessage h1 (fun _ _ h2 => ?_)
  extract_lets -underBinder _
  split
  · exact h2
  · split
    · exact h2.decided
    · exact h2.updPlan
    · exact h2

theorem Device.Canon.reachTick {t} (h : d.Canon) : (d.reachTick t).Canon :=
  .ite h.reachPhase h

theorem Device.Canon.agreementAfter {n f} (h : d.Canon) (hf : ∀ x0 (d1 : Device), d1.Canon → (f x0 d1).Canon) :
    (d.agreementAfter n f).Canon := by
  unfold Device.agreementAfter
  split
  · exact .ite (hf _ _ h.reachTick) h
  · exact h

theorem execSwitchVoteTimeout_keepsCanon : KeepsCanon s (execSwitchVoteTimeout s) :=
  .upd (fun _ h1 => .ite (h1.agreementAfter (fun _ _ h2 => h2.sendDecision)) h1)
theorem execSwitchDecisionTimeout_keepsCanon : KeepsCanon s (execSwitchDecisionTimeout s) :=
  .upd (fun _ h1 => h1.agreementAfter (fun _ _ h2 => h2.cancelSwitch))

theorem Device.Canon.loadStores {pl} (h : d.Canon) : (d.loadStores pl).Canon := by
  unfold Device.loadStores
  extract_lets -underBinder _ d1
  have h1 : d1.Canon := h.filterMem
  exact h1.foldl fun _ _ h => h.foldl fun _ _ h => h.write

theorem Device.Canon.switchRegs (h : d.Canon) : d.switchRegs.Canon :=
  .foldl h (fun _ _ h1 => h1.setFld.setFld)
theorem Device.Canon.clearFlush (h : d.Canon) : d.clearFlush.Canon :=
  .foldl h (fun _ _ h1 => h1.setFld)
theorem Device.Canon.clearWork (h : d.Canon) : d.clearWork.Canon :=
  .settleInvals (.clearFlush h)

theorem Device.Canon.installPlan {new} (h : d.Canon) : (d.installPlan new).Canon := by
  unfold Device.installPlan
  extract_lets -underBinder _ d1 _ _ _ d2 d3
  have h1 : d1.Canon := h.clearWork
  have h2 : d2.Canon := h1
  have h3 : d3.Canon := h2.updPlan.switchRegs
  exact h3.matchSwitch.embInstall.loadStores

theorem execSwitchStart_keepsCanon : KeepsCanon s (execSwitchStart s) := by
  refine .upd (fun _ h1 => ?_)
  split
  · exact .ite h1.updPlan.setShadowState.clearWork h1
  · exact h1

theorem Device.Canon.startCells {pl} (h : d.Canon) : (d.startCells pl).Canon :=
  .foldl h (fun _ _ h1 => .foldl h1 (fun _ _ h2 => .foldl h2 (fun _ _ h3 => h3.setCell)))
theorem Device.Canon.extendPm {x} (h : d.Canon) : (d.extendPm x).Canon :=
  .foldl h (fun _ _ h1 => h1.setReg)
theorem Device.Canon.takeBounds {pl carried} (h : d.Canon) : (d.takeBounds pl carried).Canon :=
  .ite h h.updTime
theorem Device.Canon.releaseSync (h : d.Canon) : d.releaseSync.Canon :=
  .foldl h (fun _ _ h1 => h1.syncApply)
theorem Device.Canon.endHold {pl} (h : d.Canon) : (d.endHold pl).Canon :=
  .ite h.setFld.updTime h

theorem Device.Canon.switchShown {new start} (h : d.Canon) : (d.switchShown new start).Canon := by
  unfold Device.switchShown
  extract_lets -underBinder _ d1 d2
  have h1 : d1.Canon := h.setShadowState.showShadow
  have h2 : d2.Canon := h1.setFld.showIds
  exact h2.count.setReg

theorem execSwitchComplete_keepsCanon : KeepsCanon s (execSwitchComplete s) := by
  refine .upd (fun _ h1 => ?_)
  split
  · extract_lets -underBinder d2 _ d3 _ d4 d5
    have h2 : d2.Canon := h1.at.installPlan
    have h3 : d3.Canon := h2.updPlan.switchShown
    have h4 : d4.Canon := h3
    have h5 : d5.Canon := h4.startCells.takeBounds.endHold.releaseSync
    exact h5.extendPm.record
  · exact h1

theorem Device.Canon.resumePlan (h : d.Canon) : d.resumePlan.Canon := by
  unfold Device.resumePlan
  split
  · exact .startCells h
  · exact h

theorem Device.Canon.recheckKeys (h : d.Canon) : d.recheckKeys.Canon := by
  unfold Device.recheckKeys
  extract_lets -underBinder _ f _ d1 d2
  have hf : ∀ (d0 : Device) x1, d0.Canon → (f d0 x1).Canon := fun _ _ h1 => h1.record
  have h1 : d1.Canon := h.updPlan
  have h2 : d2.Canon := .foldl h1 (fun _ _ h3 => hf _ _ h3)
  split
  · split
    · exact h2
    · exact hf _ _ h2.updPlan.setShadowState.showShadow.showIds.planRefuse
  · split
    · split
      · exact h2
      · extract_lets -underBinder _ d3
        have h3 : d3.Canon := h2.unarm.updPlan.setShadowState.showShadow
        exact hf _ _ (.showIds (.ite h3.resumePlan h3))
    · exact h2

/-! ### The accepted mark -/

theorem Device.Canon.beginStage {die st} (h : d.Canon) : (d.beginStage die st).Canon := by
  unfold Device.beginStage
  split
  · exact h
  · exact .ite h h.updTime

theorem Device.Canon.atStage {die st pu f} (h : d.Canon) (hf : ∀ x0 (d1 : Device), d1.Canon → (f x0 d1).Canon) :
    (d.atStage die st pu f).Canon := by
  unfold Device.atStage
  split
  · exact h
  · exact .ite h (hf _ _ h.reachPhase)

theorem execStageStart_keepsCanon {dd st} : KeepsCanon s (execStageStart dd st s) :=
  .upd (fun _ h1 => h1.atStage (fun _ _ h2 => h2.beginStage))
theorem execStageHandover_keepsCanon {dd st} : KeepsCanon s (execStageHandover dd st s) :=
  .upd (fun _ h1 => .atStage h1 (fun _ _ h2 => .ite h2.updTime h2.updTime.beginStage))
theorem Device.Canon.commitDeadline {die st} (h : d.Canon) : (d.commitDeadline die st).Canon :=
  .foldl h (fun _ _ h1 => h1.requestAbort)
theorem Device.Canon.missCommit {die st} (h : d.Canon) : (d.missCommit die st).Canon :=
  h.commitDeadline.exchHeldDeadline

theorem execStageCommitPu_keepsCanon {dd st} : KeepsCanon s (execStageCommitPu dd st s) := by
  refine .upd (fun _ h1 => ?_)
  split
  · exact h1
  · split
    · exact h1
    · extract_lets -underBinder d2 d3
      have h2 : d2.Canon := h1.reachPhase
      have h3 : d3.Canon := .ite h2 h2.updTime
      exact h3.missCommit

theorem execSegmentBoundary_keepsCanon : KeepsCanon s (execSegmentBoundary s) := by
  refine .upd (fun _ h1 => ?_)
  split
  · exact h1.reachPhase.updTime
  · exact h1.reachPhase.updTime
  · exact h1.reachPhase.updTime.embLate.embNight.beginBurst
  · exact h1

theorem Device.Canon.predict {m} (h : d.Canon) : (d.predict m).Canon := by
  unfold Device.predict
  extract_lets -underBinder _ _ _ _ _ d1 d2
  have h1 : d1.Canon := h.setFld.setFld
  have h2 : d2.Canon := .ite h1 h1.setReg
  exact h2.updTime.setReg

theorem Device.Canon.judgeStep {m} (h : d.Canon) : (d.judgeStep m).Canon := by
  unfold Device.judgeStep
  extract_lets -underBinder d1
  have h1 : d1.Canon := .ite h.count h
  exact .ite h1.count h1

theorem Device.Canon.beginStep {m} (h : d.Canon) : (d.beginStep m).Canon := by
  unfold Device.beginStep
  extract_lets -underBinder _ d1 d2 d3
  have h1 : d1.Canon := h.predict
  have h2 : d2.Canon := h1.setReg.setReg
  have h3 : d3.Canon := by
    unfold d3
    split
    · exact h2.setReg
    · exact h2
  exact h3.updTime

theorem Device.Canon.carryTasks (h : d.Canon) : d.carryTasks.Canon :=
  .foldl h (fun _ _ h1 => .ite (.ite h1.requestAbort h1) (.ite h1.setTask h1))

theorem Device.Canon.carryNight {reached} (h : d.Canon) : (d.carryNight reached).Canon := by
  unfold Device.carryNight
  extract_lets -underBinder _
  split
  rename_i d1 _ heq
  have h1 : d1.Canon := h.embCarry.of_eqFst heq
  extract_lets -underBinder _ d2
  have h2 : d2.Canon := .ite h1 h1.embNight.beginBurst
  exact .ite h2.count h2

theorem Device.Canon.carrySwitch {ended} (h : d.Canon) : (d.carrySwitch ended).Canon := by
  unfold Device.carrySwitch
  extract_lets -underBinder f f'
  have hf : ∀ (d0 : Device), d0.Canon → (f d0).Canon := fun _ h1 => h1.updPlan.stepBounds
  have hf' : ∀ (d0 : Device), d0.Canon → (f' d0).Canon := fun _ h1 => .ite h1 (hf _ h1.count)
  split
  · exact .ite (hf' _ h) h
  · exact hf' _ h
  · exact hf' _ h
  · exact hf _ h

theorem Device.Canon.park (h : d.Canon) : d.park.Canon := by
  unfold Device.park
  split
  · exact h
  · split
    · exact h
    · extract_lets -underBinder _ _ _ d1 d2 d3
      have h1 : d1.Canon := h
      have h2 : d2.Canon := .foldl h1.setHostState (fun _ _ h3 => h3.respond)
      have h3 : d3.Canon := h2.sendAsync.record
      exact h3.setFld

theorem Device.Canon.holdStep (h : d.Canon) : d.holdStep.Canon := by
  unfold Device.holdStep
  extract_lets -underBinder _ d1
  have h1 : d1.Canon := .ite h.setFld.count h.setFld
  exact h1.updTime

theorem Device.Canon.followStep {m} (h : d.Canon) : (d.followStep m).Canon := by
  unfold Device.followStep
  split
  · exact .ite h.setFld h
  · extract_lets -underBinder _ d1
    have h1 : d1.Canon := .ite h h.setFld
    exact h1.setFld

theorem execAcceptedMark_keepsCanon : KeepsCanon s (execAcceptedMark s) := by
  refine .upd (fun _ h1 => ?_)
  split
  · exact h1
  · extract_lets -underBinder d2 _ _ d3 d4 d5
    have h2 : d2.Canon := h1.at
    have h3 : d3.Canon := h2.judgeStep.packMark
    have h4 : d4.Canon := h3.beginStep.followStep.carryTasks
    have h5 : d5.Canon := h4.carryNight.carrySwitch.park
    exact h5.holdStep.sendCadence

/-! ### Power, PERST#, the Test Access Port -/

theorem Device.Canon.coldReset (h : d.Canon) : d.coldReset.Canon := by
  unfold Device.coldReset
  extract_lets -underBinder d1 _ d2 _ _ _ _
  have h1 : d1.Canon := .ite h.emit h
  have h2 : d2.Canon := canon_reset
  exact h2

theorem Device.Canon.startSchedule {boot smb x16} (h : d.Canon) : (d.startSchedule boot smb x16).Canon :=
  h
theorem execColdReset_keepsCanon : KeepsCanon s (execColdReset s) :=
  .updAny (fun _ h1 => .ite h1.updMgmt.coldReset h1.updMgmt)

theorem execPowerUp_keepsCanon {boot smb x16} : KeepsCanon s (execPowerUp boot smb x16 s) := by
  refine .updAny (fun _ h1 => ?_)
  split
  · exact h1
  · extract_lets -underBinder d2
    have h2 : d2.Canon := h1.coldReset.updMgmt
    exact .ite h2 h2.startSchedule

theorem execPerstDeassertion_keepsCanon {boot smb x16} : KeepsCanon s (execPerstDeassertion boot smb x16 s) :=
  .updAny (fun _ h1 => .ite h1 (.ite h1.updMgmt.startSchedule h1.updMgmt))
theorem execPowerLoss_keepsCanon : KeepsCanon s (execPowerLoss s) :=
  .updAny (fun _ h1 => .ite h1.coldReset.updMgmt h1)
theorem Device.Canon.irScan {code obeyed} (h : d.Canon) : (d.irScan code obeyed).Canon :=
  h.emit.updMgmt
theorem Device.Canon.bypassScan {shift} (h : d.Canon) : (d.bypassScan shift).Canon :=
  h.emit
theorem Device.Canon.boundaryScan {pins shift} (h : d.Canon) : (d.boundaryScan pins shift).Canon :=
  h.emit.updMgmt
theorem Device.Canon.drivePins (h : d.Canon) : d.drivePins.Canon :=
  h.emit
theorem Device.Canon.releasePins (h : d.Canon) : d.releasePins.Canon :=
  h.emit
theorem Device.Canon.externalTest {pins shift} (h : d.Canon) : (d.externalTest pins shift).Canon :=
  h.drivePins.boundaryScan.drivePins
theorem KeepsCanon.tap {f} (hf : ∀ (d0 : Device), d0.Canon → (f d0).Canon) : KeepsCanon s (State.tap s f) :=
  .updAny (fun _ h1 => .ite (hf _ h1) h1)

theorem Device.Canon.pinInstr {code shift scan} (h : d.Canon) (hscan : ∀ (d0 : Device), d0.Canon → (scan d0).Canon) :
    (d.pinInstr code shift scan).Canon :=
  .ite (hscan _ h.irScan) h.irScan.bypassScan

theorem execExtest_keepsCanon {pins shift} : KeepsCanon s (execExtest pins shift s) :=
  .tap (fun _ h1 => h1.pinInstr (fun _ h2 => h2.externalTest))
theorem execExtestPulse_keepsCanon {pins shift} : KeepsCanon s (execExtestPulse pins shift s) :=
  .tap (fun _ h1 => h1.pinInstr (fun _ h2 => h2.externalTest))
theorem execExtestTrain_keepsCanon {pins shift} : KeepsCanon s (execExtestTrain pins shift s) :=
  .tap (fun _ h1 => h1.pinInstr (fun _ h2 => h2.externalTest))
theorem execSamplePreload_keepsCanon {pins shift} : KeepsCanon s (execSamplePreload pins shift s) :=
  .tap (fun _ h1 => h1.irScan.boundaryScan)
theorem execIdcode_keepsCanon {shift} : KeepsCanon s (execIdcode shift s) :=
  .tap (fun _ h1 => h1.irScan.emit)
theorem execHighz_keepsCanon {shift} : KeepsCanon s (execHighz shift s) :=
  .tap (fun _ h1 => h1.pinInstr (fun _ h2 => h2.releasePins.bypassScan))
theorem execClamp_keepsCanon {shift} : KeepsCanon s (execClamp shift s) :=
  .tap (fun _ h1 => h1.pinInstr (fun _ h2 => h2.drivePins.bypassScan))
theorem execBypass_keepsCanon {shift} : KeepsCanon s (execBypass shift s) :=
  .tap (fun _ h1 => h1.irScan.bypassScan)
theorem execTestLogicReset_keepsCanon : KeepsCanon s (execTestLogicReset s) :=
  .tap (fun _ h1 => h1.updMgmt)

theorem Device.Canon.tapAct {a} (h : d.Canon) : (d.tapAct a).Canon := by
  unfold Device.tapAct
  split
  · exact .ite (.updMgmt h) h
  · exact h.updMgmt
  · exact h

theorem Device.Canon.stepsOver (h : d.Canon) : d.stepsOver.Canon :=
  h.updMgmt

theorem execPrivateTapInstruction_keepsCanon {code act shift} : KeepsCanon s (execPrivateTapInstruction code act shift s) := by
  refine .tap (fun _ h1 => ?_)
  extract_lets -underBinder d2 d3 _
  have h2 : d2.Canon := h1.irScan
  have h3 : d3.Canon := h2.tapAct
  exact .ite h2.bypassScan (.emit h3)

/-! ### Security -/

theorem Device.Canon.entropy (h : d.Canon) : d.entropy.2.Canon :=
  h
theorem Device.Canon.dropNonce (h : d.Canon) : d.dropNonce.Canon :=
  h.updMgmt.setFld
theorem execSecNonce_keepsCanon {m payload} : KeepsCanon s (execSecNonce m payload s) :=
  .cmd (fun _ h1 => .ite h1 h1.entropy.updMgmt.setFld.respond)

theorem execNonceExpire_keepsCanon : KeepsCanon s (execNonceExpire s) := by
  refine .upd (fun _ h1 => ?_)
  split
  · exact h1
  · exact h1.at.dropNonce

theorem Device.Canon.signedCheck {m opcode action slot key signer sig vendor go} (h : d.Canon) (hgo : ∀ (d0 : Device), d0.Canon →
    (go d0).Canon) :
    (d.signedCheck m opcode action slot key signer sig vendor go).Canon := by
  unfold Device.signedCheck
  split
  · exact h.refuseMsg
  · exact .ite h.dropNonce.refuseMsg (.ite h.dropNonce.refuseMsg (hgo _ h.dropNonce))

theorem Device.Canon.keysChanged {m opcode} (h : d.Canon) : (d.keysChanged m opcode).Canon :=
  h.recheckKeys.record.respond

theorem execOwnerProvision_keepsCanon {m payload} : KeepsCanon s (execOwnerProvision m payload s) := by
  refine .cmd (fun _ h1 => ?_)
  extract_lets -underBinder _ _ _ f
  have hf : ∀ (d0 : Device), d0.Canon → (f d0).Canon := fun _ h2 => .keysChanged h2
  exact .ite h1 (.ite h1.refuseMsg (.ite h1.refuseMsg (.ite (hf _ h1) (h1.signedCheck hf))))

theorem execOwnerRevoke_keepsCanon {m payload} : KeepsCanon s (execOwnerRevoke m payload s) :=
  .cmd (fun _ h1 => .ite h1 (.ite h1.refuseMsg (.ite h1.refuseMsg (.signedCheck h1 (fun _ h2 => .keysChanged h2)))))

theorem Device.Canon.openDebug {level} (h : d.Canon) : (d.openDebug level).Canon := by
  unfold Device.openDebug
  extract_lets -underBinder d1 d2
  have h1 : d1.Canon := h.setFld
  have h2 : d2.Canon := .ite h1.setFld.updMgmt h1
  exact h2.record

theorem execDebugUnlock_keepsCanon {m payload} : KeepsCanon s (execDebugUnlock m payload s) :=
  .cmd (fun _ h1 => .ite h1 (.ite h1.refuseMsg (.ite h1.refuseMsg (h1.signedCheck (fun _ h2 => h2.openDebug.respond)))))
theorem Device.Canon.setConn {tr c} (h : d.Canon) : (d.setConn tr c).Canon :=
  h.updMgmt

theorem Device.Canon.spdmChallenge {tr req} (h : d.Canon) : (d.spdmChallenge tr req).2.Canon := by
  unfold Device.spdmChallenge
  extract_lets -underBinder _
  split
  · exact h
  · exact h.entropy.setConn

theorem Device.Canon.spdmMeasurements {tr req} (h : d.Canon) : (d.spdmMeasurements tr req).2.Canon := by
  unfold Device.spdmMeasurements
  extract_lets -underBinder _ _
  split
  · exact h
  · exact .iteSnd h.entropy.setConn (.iteSnd h h.entropy.setConn)

theorem Device.Canon.spdmRespond {tr kind req} (h : d.Canon) : (d.spdmRespond tr kind req).2.Canon := by
  unfold Device.spdmRespond
  extract_lets -underBinder _ f f'
  have hf : ∀ x0 x1, (f x0 x1).2.Canon := fun _ _ => .iteSnd h h.setConn
  have hf' : ∀ x0, (f' x0).2.Canon := fun _ => h.setConn
  split
  · exact h
  · exact h.setConn
  · exact hf _ _
  · exact hf _ _
  · split
    · exact h
    · split
      · exact h
      · split
        · exact hf' _
        · split
          · exact h
          · exact .iteSnd h (hf' _)
        · exact h.spdmChallenge
        · exact h.spdmMeasurements

theorem Device.Canon.doeSpdm {kind req} (h : d.Canon) : (d.doeSpdm kind req).Canon := by
  unfold Device.doeSpdm
  split
  · exact h
  · extract_lets -underBinder d1
    have h1 : d1.2.Canon := .iteSnd h h.spdmRespond
    exact h1.emit

theorem execGetVersion_keepsCanon {req} : KeepsCanon s (execGetVersion req s) :=
  .upd (fun _ h1 => h1.doeSpdm)
theorem execGetCapabilities_keepsCanon {req} : KeepsCanon s (execGetCapabilities req s) :=
  .upd (fun _ h1 => h1.doeSpdm)
theorem execNegotiateAlgorithms_keepsCanon {req} : KeepsCanon s (execNegotiateAlgorithms req s) :=
  .upd (fun _ h1 => h1.doeSpdm)
theorem execGetDigests_keepsCanon {req} : KeepsCanon s (execGetDigests req s) :=
  .upd (fun _ h1 => h1.doeSpdm)
theorem execGetCertificate_keepsCanon {req} : KeepsCanon s (execGetCertificate req s) :=
  .upd (fun _ h1 => h1.doeSpdm)
theorem execChallenge_keepsCanon {req} : KeepsCanon s (execChallenge req s) :=
  .upd (fun _ h1 => h1.doeSpdm)
theorem execGetMeasurements_keepsCanon {req} : KeepsCanon s (execGetMeasurements req s) :=
  .upd (fun _ h1 => h1.doeSpdm)

theorem execSpdmMessage_keepsCanon {m payload} : KeepsCanon s (execSpdmMessage m payload s) := by
  refine .cmd (fun _ h1 => ?_)
  extract_lets -underBinder _ _ _ _ _ d2
  have h2 : d2.2.Canon := h1.spdmRespond
  exact .ite h1 (.ite h1.refuseMsg (.ite h1.refuseMsg (.ite h2.write.refuseMsg h2.write.respond)))

theorem execDoeDiscovery_keepsCanon {index} : KeepsCanon s (execDoeDiscovery index s) :=
  .upd (fun _ h1 => h1.emit)

/-! ### Resets -/

theorem Device.Canon.orphanAll (h : d.Canon) : d.orphanAll.Canon :=
  h

theorem Device.Canon.hostReset {keepConfig} (h : d.Canon) : (d.hostReset keepConfig).Canon := by
  unfold Device.hostReset
  extract_lets -underBinder _ _ _ _ d1
  have h1 : d1.Canon := h.orphanAll
  refine .setFld ?_
  refine .setFld ?_
  exact h.filterRegs

theorem Device.Canon.parkReset {cause} (h : d.Canon) : (d.parkReset cause).Canon :=
  .ite h.hostReset h.hostReset.setHostState.updHost
theorem execHotReset_keepsCanon : KeepsCanon s (execHotReset s) :=
  .upd (fun _ h1 => h1.parkReset)
theorem execFlr_keepsCanon : KeepsCanon s (execFlr s) :=
  .upd (fun _ h1 => h1.parkReset)

theorem Device.Canon.resetAbort {k t} (h : d.Canon) : (d.resetAbort k t).Canon := by
  unfold Device.resetAbort
  extract_lets -underBinder _ d1
  have h1 : d1.Canon := .foldl h.markAborted (fun _ _ h2 => h2.abortOn)
  exact h1.record

theorem Device.Canon.settleTasks (h : d.Canon) : d.settleTasks.Canon := by
  unfold Device.settleTasks
  extract_lets -underBinder _ d1 d2 _
  have h1 : d1.Canon := .foldl h (fun _ _ h2 => h2.resetAbort)
  have h2 : d2.Canon := .foldl h1.updStr (fun _ _ h3 => .ite h3.abortOn h3.abortOn.updStr)
  exact .foldl h2.updStr (fun _ _ h3 => h3.commitTask)

theorem Device.Canon.emptyPlans (h : d.Canon) : d.emptyPlans.Canon := by
  unfold Device.emptyPlans
  extract_lets -underBinder _ _ _ d1 d2
  have h1 : d1.Canon := h.filterRegs
  have h2 : d2.Canon := h1.clearFlush.matchSwitch
  exact h2.updTime

theorem Device.Canon.deviceReset (h : d.Canon) : d.deviceReset.Canon := by
  unfold Device.deviceReset
  extract_lets -underBinder d1 d2
  have h1 : d1.Canon := h.settleTasks.applyCommitted.emptyPlans.hostReset
  have h2 : d2.Canon := .ite h1.setActState h1
  exact h2.extendPm.setFld

theorem Device.Canon.resetCtrlWrite {v} (h : d.Canon) : (d.resetCtrlWrite v).Canon :=
  .ite h.refuse (.ite h.refuse (.ite h (.ite h.refuse h.deviceReset)))
theorem execDeviceReset_keepsCanon {v} : KeepsCanon s (execDeviceReset v s) :=
  .upd (fun _ h1 => h1.resetCtrlWrite)

theorem execDeviceResetDone_keepsCanon {pass} : KeepsCanon s (execDeviceResetDone pass s) := by
  refine .upd (fun _ h1 => ?_)
  split
  · exact h1
  · extract_lets -underBinder _ d2 d3
    have h2 : d2.Canon := .foldl h1 (fun _ _ h3 => .fmapChanged h3)
    have h3 : d3.Canon := .ite h2 h2.setFld
    exact h3.setFld

/-! ### Host access to registers -/

theorem Device.Canon.plainWrite {r off v} (h : d.Canon) : (d.plainWrite r off v).Canon :=
  h.setReg
theorem Device.Canon.clearLastError {off} (h : d.Canon) : (d.clearLastError off).Canon :=
  h.setFld.setFld

theorem Device.Canon.syncCmdWrite {die v} (h : d.Canon) : (d.syncCmdWrite die v).Canon := by
  unfold Device.syncCmdWrite
  extract_lets -underBinder _
  split
  · exact h.addSyncOp
  · exact .ite h.refuse h.addSyncOp
  · exact h.refuse

theorem Device.Canon.packCmdWrite {die v} (h : d.Canon) : (d.packCmdWrite die v).Canon :=
  .ite h.refuse (.foldl h (fun _ _ h1 => h1.packFlush))

theorem Device.Canon.embCmdWrite {die v plain} (h : d.Canon) (hplain : ∀ (d0 : Device), d0.Canon → (plain d0).Canon) :
    (d.embCmdWrite die v plain).Canon :=
  .ite h.embFlushCmd (.ite h.refuse (hplain _ h))

theorem Device.Canon.fmapCmdWrite {v} (h : d.Canon) : (d.fmapCmdWrite v).Canon :=
  .ite h.refuse (.ite h.setFld (.ite h.fmapAddCmd h.fmapRemoveCmd))

theorem Device.Canon.fmapEntryWrite {v plain} (h : d.Canon) (hplain : ∀ (d0 : Device), d0.Canon → (plain d0).Canon) :
    (d.fmapEntryWrite v plain).Canon :=
  .ite h.refuse (hplain _ h)

theorem Device.Canon.rangeWrite {lo hi x code k plain} (h : d.Canon) (hplain : ∀ (d0 : Device), d0.Canon → (plain d0).Canon) :
    (d.rangeWrite lo hi x code k plain).Canon :=
  .ite h.refuse (hplain _ h)

theorem Device.Canon.pkgWrite {base i v plain} (h : d.Canon) (hplain : ∀ (d0 : Device), d0.Canon → (plain d0).Canon) :
    (d.pkgWrite base i v plain).Canon := by
  unfold Device.pkgWrite
  split
  · exact h.cadCtrlWrite
  · exact h.rangeWrite hplain
  · exact h.rangeWrite hplain
  · exact .ite h.hostMark h
  · exact h.calCtrlWrite
  · exact h.calEpochWrite
  · exact h.groupCtrlWrite
  · exact h.groupRouteWrite
  · exact h.portCtrlWrite
  · exact h.portCtrlWrite
  · exact h.vmCtrlWrite
  · exact h.vmRootWrite
  · exact h.vmInvalWrite
  · exact h.groomCtrlWrite
  · exact h.wdogCtrlWrite
  · exact h.mbCtrlWrite
  · exact h.bar4BaseWrite
  · exact h.irqMapWrite
  · exact h.evrRelease
  · exact h.fmapCmdWrite
  · exact h.fmapEntryWrite hplain
  · exact h.pwrCapWrite
  · exact h.freqCapWrite
  · exact hplain _ h

theorem Device.Canon.dieWrite {die base i v plain} (h : d.Canon) (hplain : ∀ (d0 : Device), d0.Canon → (plain d0).Canon) :
    (d.dieWrite die base i v plain).Canon := by
  unfold Device.dieWrite
  split
  · exact h.streamArmWrite
  · exact .ite h.stallClear h
  · exact h.syncCmdWrite
  · exact h.rangeWrite hplain
  · exact h.packCmdWrite
  · exact h.writeMatchCmd
  · exact h.embCmdWrite hplain
  · exact .ite h (.ite h.refuse (hplain _ h))
  · exact h.arraySelftest
  · exact hplain _ h

theorem Device.Canon.regWrite {off v} (h : d.Canon) : (d.regWrite off v).Canon := by
  unfold Device.regWrite
  split
  · exact h.refuse
  · extract_lets -underBinder _ _
    split
    · exact h.resetCtrlWrite
    · split
      · exact h.refuse
      · split
        · exact .ite h.clearLastError h
        · exact .ite (h.dieWrite (fun _ h1 => h1.plainWrite)) (h.pkgWrite (fun _ h1 => h1.plainWrite))

theorem Device.Canon.write32 {off v} (h : d.Canon) : (d.write32 off v).Canon := by
  unfold Device.write32
  split
  · exact h.regWrite
  · exact .ite h.dropHalves.updHost h.dropHalves.regWrite

theorem Device.Canon.dropTouched {off width} (h : d.Canon) : (d.dropTouched off width).Canon :=
  .foldl h (fun _ _ h1 => .ite h1.dropHalves h1)

theorem Device.Canon.bar0Write {off width v} (h : d.Canon) : (d.bar0Write off width v).Canon := by
  unfold Device.bar0Write
  split
  · exact h
  · split
    · exact h.dropTouched.refuse
    · split
      · exact h.write32
      · split
        · exact h.dropHalves.regWrite
        · exact h.regWrite.regWrite

theorem Device.Canon.read32 {off} (h : d.Canon) : (d.read32 off).2.Canon := by
  unfold Device.read32
  split
  · exact h
  · exact .iteSnd h.dropHalves.updHost h.dropHalves

theorem execRegisterWrite_keepsCanon {off width v} : KeepsCanon s (execRegisterWrite off width v s) :=
  .upd (fun _ h1 => h1.bar0Write)

theorem execLastErrorClear_keepsCanon {off} : KeepsCanon s (execLastErrorClear off s) := by
  refine .upd (fun _ h1 => ?_)
  split
  · exact .ite h1.clearLastError h1
  · exact h1

theorem Device.Canon.bar0Read {off width} (h : d.Canon) : (d.bar0Read off width).2.Canon := by
  unfold Device.bar0Read
  split
  · exact h.dropTouched
  · split
    · exact h.read32
    · split
      · exact h.dropHalves
      · split
        rename_i d1 heq
        have h1 : d1.Canon := h.read32.of_eq heq
        split
        rename_i d2 heq
        have h2 : d2.Canon := h1.read32.of_eq heq
        exact h2

theorem execReg64LowHalfRead_keepsCanon {r} : KeepsCanon s (execReg64LowHalfRead r s) :=
  .upd (fun _ h1 => .ite h1 (.unpair h1.bar0Read (fun _ _ h2 => h2.emit)))
theorem execReg64LowHalfWrite_keepsCanon {off v} : KeepsCanon s (execReg64LowHalfWrite off v s) :=
  .upd (fun _ h1 => h1.bar0Write)
theorem execReg64HighHalfWrite_keepsCanon {off v} : KeepsCanon s (execReg64HighHalfWrite off v s) :=
  .upd (fun _ h1 => h1.bar0Write)

/-! ### Every command -/

theorem exec_keepsCanon (c : Instr) : KeepsCanon s (exec c s) :=
  match c with
  | .registerWrite .. => execRegisterWrite_keepsCanon
  | .reg64LowHalfRead .. => execReg64LowHalfRead_keepsCanon
  | .reg64LowHalfWrite .. => execReg64LowHalfWrite_keepsCanon
  | .reg64HighHalfWrite .. => execReg64HighHalfWrite_keepsCanon
  | .lastErrorClear .. => execLastErrorClear_keepsCanon
  | .fabricLinkDown .. => execFabricLinkDown_keepsCanon
  | .cadPinEdge .. => execCadPinEdge_keepsCanon
  | .cadFreeMark => execCadFreeMark_keepsCanon
  | .cadHostMark .. => execCadHostMark_keepsCanon
  | .cadCtrlWrite .. => execCadCtrlWrite_keepsCanon
  | .acceptedMark => execAcceptedMark_keepsCanon
  | .sourceLost => execSourceLost_keepsCanon
  | .lossGeneratorMark => execLossGeneratorMark_keepsCanon
  | .phaseSaturate => execPhaseSaturate_keepsCanon
  | .segmentBoundary => execSegmentBoundary_keepsCanon
  | .calCtrlWrite .. => execCalCtrlWrite_keepsCanon
  | .calEpochSecWrite .. => execCalEpochSecWrite_keepsCanon
  | .ppsEdge .. => execPpsEdge_keepsCanon
  | .ppsHoldover => execPpsHoldover_keepsCanon
  | .planStore .. => execPlanStore_keepsCanon
  | .planStoreDone => execPlanStoreDone_keepsCanon
  | .planLoad .. => execPlanLoad_keepsCanon
  | .planLoadDone => execPlanLoadDone_keepsCanon
  | .planArm .. => execPlanArm_keepsCanon
  | .planDisarm .. => execPlanDisarm_keepsCanon
  | .planEvict .. => execPlanEvict_keepsCanon
  | .switchPoint => execSwitchPoint_keepsCanon
  | .switchStart => execSwitchStart_keepsCanon
  | .switchComplete => execSwitchComplete_keepsCanon
  | .streamArm .. => execStreamArm_keepsCanon
  | .taskAllocResume => execTaskAllocResume_keepsCanon
  | .nop .. => execNop_keepsCanon
  | .seta .. => execSeta_keepsCanon
  | .adda .. => execAdda_keepsCanon
  | .addp .. => execAddp_keepsCanon
  | .loop .. => execLoop_keepsCanon
  | .endl .. => execEndl_keepsCanon
  | .xfer .. => execXfer_keepsCanon
  | .xstr .. => execXstr_keepsCanon
  | .emit .. => execEmit_keepsCanon
  | .due .. => execDue_keepsCanon
  | .endStream .. => execEndStream_keepsCanon
  | .transferRetire .. => execTransferRetire_keepsCanon
  | .taskCommit .. => execTaskCommit_keepsCanon
  | .handleArrive .. => execHandleArrive_keepsCanon
  | .liftFullResume .. => execLiftFullResume_keepsCanon
  | .poolWaitResume .. => execPoolWaitResume_keepsCanon
  | .bufferReleaseArrive .. => execBufferReleaseArrive_keepsCanon
  | .stageStart .. => execStageStart_keepsCanon
  | .stageHandover .. => execStageHandover_keepsCanon
  | .stageCommitPu .. => execStageCommitPu_keepsCanon
  | .abortRequestReceive .. => execAbortRequestReceive_keepsCanon
  | .abortOrderReceive .. => execAbortOrderReceive_keepsCanon
  | .abortReport .. => execAbortReport_keepsCanon
  | .taskSubmit .. => execTaskSubmit_keepsCanon
  | .taskAbort .. => execTaskAbort_keepsCanon
  | .taskQuery .. => execTaskQuery_keepsCanon
  | .stallClear .. => execStallClear_keepsCanon
  | .add .. => execAdd_keepsCanon
  | .sub .. => execSub_keepsCanon
  | .and .. => execAnd_keepsCanon
  | .or .. => execOr_keepsCanon
  | .xor .. => execXor_keepsCanon
  | .sll .. => execSll_keepsCanon
  | .srl .. => execSrl_keepsCanon
  | .sra .. => execSra_keepsCanon
  | .slt .. => execSlt_keepsCanon
  | .sltu .. => execSltu_keepsCanon
  | .min .. => execMin_keepsCanon
  | .max .. => execMax_keepsCanon
  | .minu .. => execMinu_keepsCanon
  | .maxu .. => execMaxu_keepsCanon
  | .mul .. => execMul_keepsCanon
  | .mulh .. => execMulh_keepsCanon
  | .mulhu .. => execMulhu_keepsCanon
  | .div .. => execDiv_keepsCanon
  | .divu .. => execDivu_keepsCanon
  | .rem .. => execRem_keepsCanon
  | .remu .. => execRemu_keepsCanon
  | .clz .. => execClz_keepsCanon
  | .popc .. => execPopc_keepsCanon
  | .addi .. => execAddi_keepsCanon
  | .andi .. => execAndi_keepsCanon
  | .ori .. => execOri_keepsCanon
  | .xori .. => execXori_keepsCanon
  | .slli .. => execSlli_keepsCanon
  | .srli .. => execSrli_keepsCanon
  | .srai .. => execSrai_keepsCanon
  | .slti .. => execSlti_keepsCanon
  | .sltiu .. => execSltiu_keepsCanon
  | .lui .. => execLui_keepsCanon
  | .lw .. => execLw_keepsCanon
  | .lh .. => execLh_keepsCanon
  | .lhu .. => execLhu_keepsCanon
  | .lb .. => execLb_keepsCanon
  | .lbu .. => execLbu_keepsCanon
  | .sw .. => execSw_keepsCanon
  | .sh .. => execSh_keepsCanon
  | .sb .. => execSb_keepsCanon
  | .amoadd .. => execAmoadd_keepsCanon
  | .amoswap .. => execAmoswap_keepsCanon
  | .amocas .. => execAmocas_keepsCanon
  | .amomin .. => execAmomin_keepsCanon
  | .amomax .. => execAmomax_keepsCanon
  | .amominu .. => execAmominu_keepsCanon
  | .amomaxu .. => execAmomaxu_keepsCanon
  | .beq .. => execBeq_keepsCanon
  | .bne .. => execBne_keepsCanon
  | .blt .. => execBlt_keepsCanon
  | .bge .. => execBge_keepsCanon
  | .bltu .. => execBltu_keepsCanon
  | .bgeu .. => execBgeu_keepsCanon
  | .jal .. => execJal_keepsCanon
  | .jalr .. => execJalr_keepsCanon
  | .fadd .. => execFadd_keepsCanon
  | .fsub .. => execFsub_keepsCanon
  | .fmul .. => execFmul_keepsCanon
  | .fmin .. => execFmin_keepsCanon
  | .fmax .. => execFmax_keepsCanon
  | .feq .. => execFeq_keepsCanon
  | .flt .. => execFlt_keepsCanon
  | .fle .. => execFle_keepsCanon
  | .fsgnj .. => execFsgnj_keepsCanon
  | .fsgnjn .. => execFsgnjn_keepsCanon
  | .fsgnjx .. => execFsgnjx_keepsCanon
  | .fcvtSW .. => execFcvtSW_keepsCanon
  | .fcvtSWu .. => execFcvtSWu_keepsCanon
  | .fcvtWS .. => execFcvtWS_keepsCanon
  | .fcvtWuS .. => execFcvtWuS_keepsCanon
  | .fclass .. => execFclass_keepsCanon
  | .fmadd .. => execFmadd_keepsCanon
  | .fmsub .. => execFmsub_keepsCanon
  | .fnmadd .. => execFnmadd_keepsCanon
  | .fnmsub .. => execFnmsub_keepsCanon
  | .badd2 .. => execBadd2_keepsCanon
  | .bmul2 .. => execBmul2_keepsCanon
  | .bmax2 .. => execBmax2_keepsCanon
  | .bmin2 .. => execBmin2_keepsCanon
  | .bdot2 .. => execBdot2_keepsCanon
  | .bpack .. => execBpack_keepsCanon
  | .blo .. => execBlo_keepsCanon
  | .bhi .. => execBhi_keepsCanon
  | .exp2 .. => execExp2_keepsCanon
  | .log2 .. => execLog2_keepsCanon
  | .rcp .. => execRcp_keepsCanon
  | .rsqrt .. => execRsqrt_keepsCanon
  | .sqrt .. => execSqrt_keepsCanon
  | .tanh .. => execTanh_keepsCanon
  | .sigmoid .. => execSigmoid_keepsCanon
  | .hmix .. => execHmix_keepsCanon
  | .crcw _ _ _ y => execCrcw_keepsCanon (y := y)
  | .crcb _ _ _ y => execCrcb_keepsCanon (y := y)
  | .gen .. => execGen_keepsCanon
  | .rdsr .. => execRdsr_keepsCanon
  | .wrsr .. => execWrsr_keepsCanon
  | .sarm .. => execSarm_keepsCanon
  | .swait .. => execSwait_keepsCanon
  | .balloc .. => execBalloc_keepsCanon
  | .brel .. => execBrel_keepsCanon
  | .lpush .. => execLpush_keepsCanon
  | .hloc .. => execHloc_keepsCanon
  | .ssig .. => execSsig_keepsCanon
  | .swge .. => execSwge_keepsCanon
  | .srst .. => execSrst_keepsCanon
  | .ask .. => execAsk_keepsCanon
  | .tnew .. => execTnew_keepsCanon
  | .trap .. => execTrap_keepsCanon
  | .halt .. => execHalt_keepsCanon
  | .cellResidueFail .. => execCellResidueFail_keepsCanon
  | .cellStoreEcc .. => execCellStoreEcc_keepsCanon
  | .clusterFault .. => execClusterFault_keepsCanon
  | .gatePop .. => execGatePop_keepsCanon
  | .flowEntryGrant .. => execFlowEntryGrant_keepsCanon
  | .delayRelease .. => execDelayRelease_keepsCanon
  | .gateDispatch .. => execGateDispatch_keepsCanon
  | .syncApply .. => execSyncApply_keepsCanon
  | .syncCmdSignal .. => execSyncCmdSignal_keepsCanon
  | .syncCmdReset .. => execSyncCmdReset_keepsCanon
  | .ingestJobStart .. => execIngestJobStart_keepsCanon
  | .ingestJobEnd .. => execIngestJobEnd_keepsCanon
  | .packHandleRead .. => execPackHandleRead_keepsCanon
  | .batchCloseBudget .. => execBatchCloseBudget_keepsCanon
  | .packEmit .. => execPackEmit_keepsCanon
  | .packFlush .. => execPackFlush_keepsCanon
  | .hashJobStart .. => execHashJobStart_keepsCanon
  | .hashJobEnd .. => execHashJobEnd_keepsCanon
  | .matchSearchJob .. => execMatchSearchJob_keepsCanon
  | .matchUpdateJob .. => execMatchUpdateJob_keepsCanon
  | .matchJobEnd .. => execMatchJobEnd_keepsCanon
  | .matchCommitApply .. => execMatchCommitApply_keepsCanon
  | .matchHostApply .. => execMatchHostApply_keepsCanon
  | .matchHostPair .. => execMatchHostPair_keepsCanon
  | .matchHostRead .. => execMatchHostRead_keepsCanon
  | .selectPiece .. => execSelectPiece_keepsCanon
  | .selectJobEnd .. => execSelectJobEnd_keepsCanon
  | .gatherLookupJob .. => execGatherLookupJob_keepsCanon
  | .gatherGradientJob .. => execGatherGradientJob_keepsCanon
  | .gatherJobEnd .. => execGatherJobEnd_keepsCanon
  | .applyStart .. => execApplyStart_keepsCanon
  | .applyEnd .. => execApplyEnd_keepsCanon
  | .migrationCopyEnd .. => execMigrationCopyEnd_keepsCanon
  | .roundReplay .. => execRoundReplay_keepsCanon
  | .cutOver .. => execCutOver_keepsCanon
  | .frameReturn .. => execFrameReturn_keepsCanon
  | .embFlush .. => execEmbFlush_keepsCanon
  | .arrayDense .. => execArrayDense_keepsCanon
  | .arrayRouted .. => execArrayRouted_keepsCanon
  | .arrayInteract .. => execArrayInteract_keepsCanon
  | .arrayAttend .. => execArrayAttend_keepsCanon
  | .arrayJobEnd .. => execArrayJobEnd_keepsCanon
  | .arrayResidueFail .. => execArrayResidueFail_keepsCanon
  | .arraySelftestEnd .. => execArraySelftestEnd_keepsCanon
  | .arraySelftest .. => execArraySelftest_keepsCanon
  | .portCtrlWrite .. => execPortCtrlWrite_keepsCanon
  | .portTrained .. => execPortTrained_keepsCanon
  | .flitReceive .. => execFlitReceive_keepsCanon
  | .flitAckTimeout .. => execFlitAckTimeout_keepsCanon
  | .portLinkDown .. => execPortLinkDown_keepsCanon
  | .messageForward .. => execMessageForward_keepsCanon
  | .keepalive .. => execKeepalive_keepsCanon
  | .keepaliveSend => execKeepaliveSend_keepsCanon
  | .memberLost .. => execMemberLost_keepsCanon
  | .cadence .. => execCadence_keepsCanon
  | .syncSignal .. => execSyncSignal_keepsCanon
  | .groupCtrlWrite .. => execGroupCtrlWrite_keepsCanon
  | .groupRouteWrite .. => execGroupRouteWrite_keepsCanon
  | .switchVote .. => execSwitchVote_keepsCanon
  | .switchVoteTimeout => execSwitchVoteTimeout_keepsCanon
  | .switchDecision .. => execSwitchDecision_keepsCanon
  | .switchDecisionTimeout => execSwitchDecisionTimeout_keepsCanon
  | .travAlltoall .. => execTravAlltoall_keepsCanon
  | .travReduce .. => execTravReduce_keepsCanon
  | .travRdmaWrite .. => execTravRdmaWrite_keepsCanon
  | .exchData .. => execExchData_keepsCanon
  | .exchReady .. => execExchReady_keepsCanon
  | .exchAbort .. => execExchAbort_keepsCanon
  | .peerWrite .. => execPeerWrite_keepsCanon
  | .peerRead .. => execPeerRead_keepsCanon
  | .peerData .. => execPeerData_keepsCanon
  | .portAddr .. => execPortAddr_keepsCanon
  | .qpSetup .. => execQpSetup_keepsCanon
  | .qpDestroy .. => execQpDestroy_keepsCanon
  | .mrSet .. => execMrSet_keepsCanon
  | .mrClear .. => execMrClear_keepsCanon
  | .feedBind .. => execFeedBind_keepsCanon
  | .feedUnbind .. => execFeedUnbind_keepsCanon
  | .roceWriteIn .. => execRoceWriteIn_keepsCanon
  | .roceSendIn .. => execRoceSendIn_keepsCanon
  | .roceAckIn .. => execRoceAckIn_keepsCanon
  | .roceCnpIn .. => execRoceCnpIn_keepsCanon
  | .roceRateRestore .. => execRoceRateRestore_keepsCanon
  | .roceRetryTimeout .. => execRoceRetryTimeout_keepsCanon
  | .feedFrame .. => execFeedFrame_keepsCanon
  | .ptpSyncIn .. => execPtpSyncIn_keepsCanon
  | .ptpFollowUpIn .. => execPtpFollowUpIn_keepsCanon
  | .ptpDelayRespIn .. => execPtpDelayRespIn_keepsCanon
  | .ptpSyncTimeout .. => execPtpSyncTimeout_keepsCanon
  | .groomerPatrol .. => execGroomerPatrol_keepsCanon
  | .groomCtrlWrite .. => execGroomCtrlWrite_keepsCanon
  | .vmCtrlWrite .. => execVmCtrlWrite_keepsCanon
  | .vmRootWrite .. => execVmRootWrite_keepsCanon
  | .vmInval .. => execVmInval_keepsCanon
  | .vmInvalDone => execVmInvalDone_keepsCanon
  | .atsCompletion .. => execAtsCompletion_keepsCanon
  | .atsInvalidate .. => execAtsInvalidate_keepsCanon
  | .hostReadCompletion .. => execHostReadCompletion_keepsCanon
  | .memoryTrainingEnd .. => execMemoryTrainingEnd_keepsCanon
  | .bar4Read .. => execBar4Read_keepsCanon
  | .bar4Write .. => execBar4Write_keepsCanon
  | .bar4BaseWrite .. => execBar4BaseWrite_keepsCanon
  | .bar4Resize .. => execBar4Resize_keepsCanon
  | .bar2InvalidAccess .. => execBar2InvalidAccess_keepsCanon
  | .h2dDoorbell .. => execH2dDoorbell_keepsCanon
  | .messageConsume => execMessageConsume_keepsCanon
  | .attach .. => execAttach_keepsCanon
  | .detach .. => execDetach_keepsCanon
  | .ping .. => execPing_keepsCanon
  | .d2hAck .. => execD2hAck_keepsCanon
  | .heartbeat y => execHeartbeat_keepsCanon (y := y)
  | .wdogCtrlWrite .. => execWdogCtrlWrite_keepsCanon
  | .wdogExpire => execWdogExpire_keepsCanon
  | .mbDiscard => execMbDiscard_keepsCanon
  | .irqMapWrite .. => execIrqMapWrite_keepsCanon
  | .msixCoalesceTimer => execMsixCoalesceTimer_keepsCanon
  | .msixUnmask .. => execMsixUnmask_keepsCanon
  | .coldReset => execColdReset_keepsCanon
  | .deviceReset .. => execDeviceReset_keepsCanon
  | .deviceResetDone .. => execDeviceResetDone_keepsCanon
  | .hotReset => execHotReset_keepsCanon
  | .flr => execFlr_keepsCanon
  | .d3hotEntry => execD3hotEntry_keepsCanon
  | .errqEntry .. => execErrqEntry_keepsCanon
  | .errqHandleDone .. => execErrqHandleDone_keepsCanon
  | .stationDatapathFault .. => execStationDatapathFault_keepsCanon
  | .controlFault .. => execControlFault_keepsCanon
  | .fmapAdd => execFmapAdd_keepsCanon
  | .fmapRemove => execFmapRemove_keepsCanon
  | .recorderAccept => execRecorderAccept_keepsCanon
  | .evrRelease .. => execEvrRelease_keepsCanon
  | .fatalFlashWrite => execFatalFlashWrite_keepsCanon
  | .mgmtWatchdogExpire .. => execMgmtWatchdogExpire_keepsCanon
  | .lockstepMismatch .. => execLockstepMismatch_keepsCanon
  | .firmwarePanic .. => execFirmwarePanic_keepsCanon
  | .crashDumpDone => execCrashDumpDone_keepsCanon
  | .crashInfo .. => execCrashInfo_keepsCanon
  | .crashRead .. => execCrashRead_keepsCanon
  | .crashRelease .. => execCrashRelease_keepsCanon
  | .fatalLogRead .. => execFatalLogRead_keepsCanon
  | .railSample .. => execRailSample_keepsCanon
  | .tempSample .. => execTempSample_keepsCanon
  | .hbmTempReport .. => execHbmTempReport_keepsCanon
  | .governorPeriod => execGovernorPeriod_keepsCanon
  | .clockAdjust => execClockAdjust_keepsCanon
  | .voltageSettled .. => execVoltageSettled_keepsCanon
  | .vrSetpointTimeout .. => execVrSetpointTimeout_keepsCanon
  | .vrAlert .. => execVrAlert_keepsCanon
  | .pwrCapWrite .. => execPwrCapWrite_keepsCanon
  | .freqCapWrite .. => execFreqCapWrite_keepsCanon
  | .telemetryRefresh => execTelemetryRefresh_keepsCanon
  | .setEndpointId .. => execSetEndpointId_keepsCanon
  | .getEndpointId .. => execGetEndpointId_keepsCanon
  | .getMctpVersionSupport .. => execGetMctpVersionSupport_keepsCanon
  | .getMessageTypeSupport .. => execGetMessageTypeSupport_keepsCanon
  | .getPdr .. => execGetPdr_keepsCanon
  | .getSensorReading .. => execGetSensorReading_keepsCanon
  | .getStateSensorReadings .. => execGetStateSensorReadings_keepsCanon
  | .setNumericEffecterValue .. => execSetNumericEffecterValue_keepsCanon
  | .getNumericEffecterValue .. => execGetNumericEffecterValue_keepsCanon
  | .fwStage .. => execFwStage_keepsCanon
  | .fwActivate .. => execFwActivate_keepsCanon
  | .fwCancel .. => execFwCancel_keepsCanon
  | .fwCommit .. => execFwCommit_keepsCanon
  | .fwInfo .. => execFwInfo_keepsCanon
  | .fwActivationApply => execFwActivationApply_keepsCanon
  | .fwActivationTimeout => execFwActivationTimeout_keepsCanon
  | .fwRestartDone => execFwRestartDone_keepsCanon
  | .spdmMessage .. => execSpdmMessage_keepsCanon
  | .secNonce .. => execSecNonce_keepsCanon
  | .nonceExpire => execNonceExpire_keepsCanon
  | .ownerProvision .. => execOwnerProvision_keepsCanon
  | .ownerRevoke .. => execOwnerRevoke_keepsCanon
  | .debugUnlock .. => execDebugUnlock_keepsCanon
  | .getVersion .. => execGetVersion_keepsCanon
  | .getCapabilities .. => execGetCapabilities_keepsCanon
  | .negotiateAlgorithms .. => execNegotiateAlgorithms_keepsCanon
  | .getDigests .. => execGetDigests_keepsCanon
  | .getCertificate .. => execGetCertificate_keepsCanon
  | .challenge .. => execChallenge_keepsCanon
  | .getMeasurements .. => execGetMeasurements_keepsCanon
  | .powerUp .. => execPowerUp_keepsCanon
  | .powerLoss => execPowerLoss_keepsCanon
  | .extest .. => execExtest_keepsCanon
  | .samplePreload .. => execSamplePreload_keepsCanon
  | .idcode .. => execIdcode_keepsCanon
  | .highz .. => execHighz_keepsCanon
  | .clamp .. => execClamp_keepsCanon
  | .extestPulse .. => execExtestPulse_keepsCanon
  | .extestTrain .. => execExtestTrain_keepsCanon
  | .bypass .. => execBypass_keepsCanon
  | .perstDeassertion .. => execPerstDeassertion_keepsCanon
  | .firmwareStart .. => execFirmwareStart_keepsCanon
  | .deviceReady .. => execDeviceReady_keepsCanon
  | .fwStageDone .. => execFwStageDone_keepsCanon
  | .configurationSpaceWrite .. => execConfigurationSpaceWrite_keepsCanon
  | .pageRequestResponse .. => execPageRequestResponse_keepsCanon
  | .doeDiscovery .. => execDoeDiscovery_keepsCanon
  | .testLogicReset => execTestLogicReset_keepsCanon
  | .privateTapInstruction .. => execPrivateTapInstruction_keepsCanon

/-! ### One step -/

-- SKIP Sys2Proof.Machine.State.tick

theorem step_keepsCanon : KeepsCanon s (step s) := by
  unfold step
  split
  · intro h t ht
    cases ht
    exact Device.Canon.idleFlits (Device.Canon.at h.packTick.stepsOver)
  · exact fun h => exec_keepsCanon _ h

/-- Settles O6: by cases on the queue, then by the lemma of the command at its front. -/
theorem everyStepKeepsTheCanonicalForm : Obligations.EveryStepKeepsTheCanonicalForm :=
  fun _ t h ht => step_keepsCanon h t ht

/-- Settles O5: both lists are empty. -/
theorem resetIsCanonical : Obligations.ResetIsCanonical := canon_reset

end Sys2Proof.Machine
end

section
/-!
SUPPORT. Host access to the registers of BAR0 (R9 to R13, R17, R18): what the accesses by 32 and 64 bits come to, what a refusal and the
clearing of a LAST_ERROR register do to its fields, and the statements about them.
-/

namespace Sys2Proof.Machine

/-- A meaning built by `upd` completes in every running state. -/
theorem Completes.of_upd {c : Instr} {pre : Device → Prop} {post : Device → Device → Prop} {f : Device → Device}
    (hc : ∀ s, exec c s = s.upd f) (hr : ∀ d, pre d → d.runs) (hp : ∀ d, pre d → post d (f d)) : Completes c pre post :=
  fun s hs => ⟨_, (hc s).trans (State.upd_running f (hr _ hs)), rfl, hp _ hs⟩

theorem exec_registerWrite (off width : Nat) (v : DWord) (s : State) :
    exec (.registerWrite off width v) s = s.upd (fun d => d.bar0Write off width v.toNat) := rfl

variable {d d' : Device} {off : Nat} {r : RegDef}

/-! ### CODE and COUNT of a LAST_ERROR register (R18) -/

theorem Device.fld_congr (h : d'.regs = d.regs) (f : Fld) : d'.fld off f = d.fld off f := by
  unfold Device.fld Device.reg
  rw [h]

theorem Device.reg_congr (h : d'.regs = d.regs) : d'.reg off = d.reg off := by
  unfold Device.reg
  rw [h]

/-- CODE and COUNT set in one register: what the two fields hold after it. -/
theorem Device.setCodeCount_fields (code n : Nat) (h : d.regsWf) :
    ((d.setFld off ⟨0, 16⟩ code).setFld off ⟨16, 15⟩ n).fld off ⟨0, 16⟩ = code % 2 ^ 16 ∧
    ((d.setFld off ⟨0, 16⟩ code).setFld off ⟨16, 15⟩ n).errCount off = n % 2 ^ 15 := by
  have h1 : (d.setFld off ⟨0, 16⟩ code).regsWf := Device.setFld_regsWf _ _ _ h
  constructor
  · rw [Device.fld_setFld_apart _ _ _ _ h1 (by decide) (by decide), Device.fld_setFld_self _ _ _ h (by decide)]
  · exact Device.fld_setFld_self _ _ _ h1 (by decide)

theorem Device.setCodeCount_sameRegsBut (code n : Nat) :
    d.sameRegsBut ((d.setFld off ⟨0, 16⟩ code).setFld off ⟨16, 15⟩ n) [off] := by
  intro j hj
  have hj : j ≠ off := by simpa using hj
  rw [Device.reg_setFld_of_ne _ _ hj, Device.reg_setFld_of_ne _ _ hj]

theorem Device.refuseAt_regs (bb code : Nat) :
    (d.refuseAt off bb code).regs = ((d.setFld off ⟨0, 16⟩ code).setFld off ⟨16, 15⟩ (min (d.errCount off + 1) 0x7FFF)).regs := by
  unfold Device.refuseAt
  extract_lets d1
  split
  · rfl
  · exact Device.signal_regs _ _

/-- A signalled vector changes the pending bits or leaves the device as an output. -/
theorem Device.signal_frame (v : Nat) :
    d.signal v = { d with host := { d.host with pba := (d.signal v).host.pba }, out := (d.signal v).out } := by
  unfold Device.signal
  split
  · rfl
  · split <;> rfl

theorem Device.refuseAt_frame (bb code : Nat) :
    d.refuseAt off bb code = { d with
      regs := (d.refuseAt off bb code).regs
      host := { d.host with pba := (d.refuseAt off bb code).host.pba }
      out := (d.refuseAt off bb code).out } := by
  unfold Device.refuseAt
  extract_lets d1
  split
  · rfl
  · rw [Device.signal_frame]
    rfl

/-- Settles O10: the two fields are written in turn. -/
theorem clearingALastError : Obligations.ClearingALastError := by
  intro off r hf hr
  have hc : ∀ s, exec (.lastErrorClear off) s = s.upd (fun d => d.clearLastError off) := by
    intro s
    show execLastErrorClear off s = _
    simp only [execLastErrorClear, hf, hr, if_true]
  refine .of_upd hc (fun _ h => h.1) fun d ⟨_, hwf⟩ => ?_
  obtain ⟨hcode, hcount⟩ := Device.setCodeCount_fields (off := off) 0 0 hwf
  exact ⟨hcode, hcount, Device.setCodeCount_sameRegsBut 0 0, rfl⟩

/-! ### Accesses by 32 bits of a 32-bit register (R9, R11) -/

theorem wideReg_of_narrow (hf : findReg off = some r) (hw : r.width ≠ 64) : wideReg off = none := by
  simp [wideReg, hf, hw]

theorem wideAt_of_narrow (hf : findReg off = some r) (hw : r.width ≠ 64) : wideAt off = none := by
  simp [wideAt, hf, wideReg_of_narrow hf hw]

theorem unsupported_word (h4 : off % 4 = 0) : unsupported off 32 = false := by
  simp [unsupported, h4]

theorem Device.bar0Write_word {v : Nat} (h : off < 0x1000_0000) (h4 : off % 4 = 0) : d.bar0Write off 32 v = d.write32 off v := by
  unfold Device.bar0Write
  rw [if_neg (by omega), unsupported_word h4]
  rfl

theorem Device.write32_of_narrow {v : Nat} (h : wideAt off = none) : d.write32 off v = d.regWrite off v := by
  simp only [Device.write32, h]

/-- A 32-bit write of a 32-bit register is a write of all of it. -/
theorem Device.bar0Write_narrow {v : Nat} (hf : findReg off = some r) (hw : r.width = 32) (h : off < 0x1000_0000) (h4 : off % 4 = 0) :
    d.bar0Write off 32 v = d.regWrite off v := by
  rw [Device.bar0Write_word h h4, Device.write32_of_narrow (wideAt_of_narrow hf (by omega))]

/-- A base in the table at which the registers are 64 bits wide names no 32-bit register. -/
theorem base_of_narrow (hr : r ∈ regDefs) (hw : r.width = 32) :
    r.base ∉ (if r.perDie then [0x100008, 0x200008, 0x400008, 0x580008]
      else [0x2108, 0x6004020, 0x6004028, 0x100030, 0x101080, 0x440010, 0x440108]) := by
  have h : ∀ r ∈ regDefs, r.width = 32 → r.base ∉ (if r.perDie then [0x100008, 0x200008, 0x400008, 0x580008]
      else [0x2108, 0x6004020, 0x6004028, 0x100030, 0x101080, 0x440010, 0x440108]) := by decide +kernel
  exact h r hr hw

theorem mem_of_findReg (hf : findReg off = some r) : r ∈ regDefs := List.mem_of_find?_eq_some hf

theorem Device.dieWrite_plain {die base i v : Nat} {plain : Device → Device} (h : base ∉ [0x100030, 0x300004, 0x700004, 0x581008, 0x600004])
    (hw : base ∉ [0x100008, 0x200008, 0x400008, 0x580008]) : d.dieWrite die base i v plain = plain d := by
  unfold Device.dieWrite
  split
  case h_10 => rfl
  all_goals simp at h hw

theorem Device.pkgWrite_plain {base i v : Nat} {plain : Device → Device}
    (h : base ∉ [0x2000, 0x2004, 0x2008, 0x200C, 0x2100, 0x6001004, 0x6001100, 0x6002000, 0x7002000, 0x6004018, 0x6004030, 0x100008, 0x100024,
      0x440100, 0x200004, 0x200008])
    (hw : base ∉ [0x2108, 0x6004020, 0x6004028, 0x100030, 0x101080, 0x440010, 0x440108]) : d.pkgWrite base i v plain = plain d := by
  unfold Device.pkgWrite
  split
  case h_24 => rfl
  all_goals simp at h hw

/-- A write of all of a register that is not RESET_CTRL, with 0 in every reserved field, where the register is no LAST_ERROR register and its
write has no effect of its own. -/
theorem Device.regWrite_plain {v : Nat} (hf : findReg off = some r) (hw : r.width = 32) (hv : v < 2 ^ 32) (hreset : off ≠ Reg.RESET_CTRL)
    (hrsv : BitVec.ofNat 64 v &&& BitVec.ofNat 64 (r.mask (fun a => a = .rsv)) = 0) (hl : r.isLastError = false)
    (hown : r.base ∉ (if r.perDie then [0x100030, 0x300004, 0x700004, 0x581008, 0x600004]
      else [0x2000, 0x2004, 0x2008, 0x200C, 0x2100, 0x6001004, 0x6001100, 0x6002000, 0x7002000, 0x6004018, 0x6004030, 0x100008, 0x100024,
        0x440100, 0x200004, 0x200008])) : d.regWrite off v = d.plainWrite r off v := by
  have hbase := base_of_narrow (mem_of_findReg hf) hw
  have hmod : v % 2 ^ r.width = v := by rw [hw]; exact Nat.mod_eq_of_lt hv
  simp only [Device.regWrite, hf, hmod, if_neg hreset, hrsv, hl, bne_self_eq_false, Bool.false_eq_true, if_false]
  cases hd : r.perDie <;> simp only [hd, if_true, if_false, Bool.false_eq_true] at hown hbase ⊢
  · exact Device.pkgWrite_plain hown hbase
  · exact Device.dieWrite_plain hown hbase

/-- Settles O7: the write comes to `plainWrite`, which stores one register. -/
theorem registerWriteFollowsAccessCodes : Obligations.RegisterWriteFollowsAccessCodes := by
  intro off r v hf hw h4 hoff hreset hl hv hown hrsv
  refine .of_upd (exec_registerWrite _ _ _) (fun _ h => h.1) fun d ⟨_, hwf⟩ => ?_
  have hplain : d.bar0Write off 32 v.toNat = d.plainWrite r off v.toNat := by
    rw [Device.bar0Write_narrow hf hw hoff h4]
    exact Device.regWrite_plain hf hw hv hreset (by rwa [BitVec.ofNat_toNat, BitVec.setWidth_eq]) hl hown
  rw [hplain]
  refine ⟨?_, fun j hj => Device.reg_setReg_of_ne _ (by simpa using hj), rfl⟩
  rw [Device.plainWrite, Device.reg_setReg_self _ _ hwf, BitVec.ofNat_toNat, BitVec.setWidth_eq]

/-- A write with a 1 in a reserved field is refused by the block that owns the register. -/
theorem Device.regWrite_reserved {v : Nat} (hf : findReg off = some r) (hw : r.width = 32) (hv : v < 2 ^ 32) (hreset : off ≠ Reg.RESET_CTRL)
    (hrsv : BitVec.ofNat 64 v &&& BitVec.ofNat 64 (r.mask (fun a => a = .rsv)) ≠ 0) :
    d.regWrite off v = d.refuse (256 * r.block + 1) (if r.perDie then off / 0x0100_0000 - 1 else 4) := by
  have hmod : v % 2 ^ r.width = v := by rw [hw]; exact Nat.mod_eq_of_lt hv
  simp only [Device.regWrite, hf, hmod, if_neg hreset, if_pos (bne_iff_ne.2 hrsv)]

/-- Settles O8: the three refused writes come to `refuse`, of which the last clause says what it changes. -/
theorem refusedRegisterWritesChangeNothing : Obligations.RefusedRegisterWritesChangeNothing := by
  refine ⟨?reserved, ?width, ?none, ?refuse⟩
  case reserved =>
    intro off r v hf hw h4 hoff hreset hv hrsv
    refine .of_upd (exec_registerWrite _ _ _) (fun _ h => h) fun d _ => ?_
    rw [Device.bar0Write_narrow hf hw hoff h4]
    exact Device.regWrite_reserved hf hw hv hreset (by rwa [BitVec.ofNat_toNat, BitVec.setWidth_eq])
  case width =>
    intro off width v hoff hw
    refine .of_upd (exec_registerWrite _ _ _) (fun _ h => h) fun d _ => ?_
    have hu : unsupported off width = true := by rcases hw with rfl | rfl <;> rfl
    rw [Device.bar0Write, if_neg (by omega), if_pos hu]
  case none =>
    intro off v hoff h4 hf hwide
    refine .of_upd (exec_registerWrite _ _ _) (fun _ h => h) fun d _ => ?_
    rw [Device.bar0Write_word hoff h4, Device.write32_of_narrow hwide]
    simp only [Device.regWrite, hf]
  case refuse =>
    intro d code k hwf hcode
    have hregs := Device.refuseAt_regs (d := d) (off := lastErrorReg (code / 256) k) (code / 256) code
    obtain ⟨hc, hn⟩ := Device.setCodeCount_fields (off := lastErrorReg (code / 256) k) code
      (min (d.errCount (lastErrorReg (code / 256) k) + 1) 0x7FFF) hwf
    refine ⟨?_, ?_, fun j hj => ?_, Device.refuseAt_frame _ _⟩
    · exact (Device.fld_congr hregs _).trans (hc.trans (Nat.mod_eq_of_lt hcode))
    · exact (Device.fld_congr hregs _).trans (hn.trans (Nat.mod_eq_of_lt (by omega)))
    · exact (Device.reg_congr hregs).trans (Device.setCodeCount_sameRegsBut _ _ j hj)

end Sys2Proof.Machine
end

section
/-!
SUPPORT. The halves of a 64-bit register (R9, R13): where they lie in the register table, what reading a register does not depend on, what the
accesses of a half come to, and the statement about them.
-/

namespace Sys2Proof.Machine

variable {d : Device} {off : Nat} {r : RegDef}

/-- The offset that the table compares with a row: in the space of a compute die for a row of one, else the offset itself. -/
def RegDef.place (r : RegDef) (off : Nat) : Nat :=
  if r.perDie then (if 0x0100_0000 ≤ off ∧ off < 0x0500_0000 then off % 0x0100_0000 else 0xFFFF_FFFF_FFFF) else off

/-- A register of a row lies a multiple of the stride, below the count, above the base. -/
theorem RegDef.place_of_index (h : (r.index? off).isSome = true) :
    ∃ i, r.place off = r.base + r.stride * i ∧ (i = 0 ∨ i < r.count) := by
  change (if r.place off < r.base then none
    else if r.stride = 0 then (if r.place off = r.base then some 0 else none)
    else if (r.place off - r.base) % r.stride = 0 ∧ (r.place off - r.base) / r.stride < r.count then some ((r.place off - r.base) / r.stride)
    else none : Option Nat).isSome = true at h
  split at h
  · cases h
  · split at h
    · split at h
      · exact ⟨0, by omega, .inl rfl⟩
      · cases h
    · split at h
      · rename_i hc
        refine ⟨(r.place off - r.base) / r.stride, ?_, .inr hc.2⟩
        rw [Nat.mul_div_cancel' (Nat.dvd_of_mod_eq_zero hc.1)]
        omega
      · cases h

theorem RegDef.place_of_findReg (h : findReg off = some r) : ∃ i, r.place off = r.base + r.stride * i ∧ (i = 0 ∨ i < r.count) :=
  RegDef.place_of_index (by simpa using List.find?_some h)

/-- The last offset of a row. -/
def RegDef.last (r : RegDef) : Nat := r.base + r.stride * (r.count - 1)

/-- No register of row `q` lies at the high half of a register of row `r`, as a comparison of two rows: `q` lies at multiples of 8, or the rows
lie apart, or they have the same stride and different remainders. -/
def RegDef.apart (r q : RegDef) : Bool :=
  (q.base % 8 == 0 && q.stride % 8 == 0) ||
  (if r.perDie = q.perDie then
    decide (r.last + 4 < q.base) || decide (q.last < r.base + 4) ||
      (r.stride == q.stride && (r.base + 4) % r.stride != q.base % r.stride)
  else if r.perDie then decide (q.last < 0x0100_0000) || decide (0x0500_0000 ≤ q.base)
  else decide (r.last + 4 < 0x0100_0000) || decide (0x0500_0000 ≤ r.base))

theorem wide_rows_apart : ∀ r ∈ regDefs, r.width = 64 → ∀ q ∈ regDefs, r.apart q = true := by decide +kernel

theorem last_lt_of_mem : ∀ r ∈ regDefs, r.last < 0x2000_0000 := by decide +kernel

theorem RegDef.place_le_last {i : Nat} (hp : r.place off = r.base + r.stride * i) (hi : i = 0 ∨ i < r.count) :
    r.base ≤ r.place off ∧ r.place off ≤ r.last := by
  have h : r.stride * i ≤ r.stride * (r.count - 1) := Nat.mul_le_mul_left _ (by omega)
  unfold RegDef.last
  omega

/-- A register of a row of the compute dies lies in the space of a die. -/
theorem RegDef.inDie_of_findReg (hf : findReg off = some r) (hd : r.perDie = true) :
    (0x0100_0000 ≤ off ∧ off < 0x0500_0000) ∧ r.place off = off % 0x0100_0000 := by
  obtain ⟨i, hp, hi⟩ := RegDef.place_of_findReg hf
  have hle := (RegDef.place_le_last hp hi).2
  have hlast := last_lt_of_mem r (mem_of_findReg hf)
  unfold RegDef.place at hle ⊢
  rw [if_pos hd] at hle ⊢
  split at hle
  · rename_i hin
    exact ⟨hin, if_pos hin⟩
  · omega

theorem RegDef.place_of_package (hd : ¬ r.perDie = true) : r.place off = off := if_neg hd

/-- The place of the high half, in the same space as the register. -/
theorem RegDef.place_high {q : RegDef} (hf : findReg off = some r) (hq : findReg (off + 4) = some q) (h8 : off % 8 = 0)
    (hd : r.perDie = q.perDie) : q.place (off + 4) = r.place off + 4 := by
  cases hp : q.perDie
  · rw [RegDef.place_of_package (by simp [hp]), RegDef.place_of_package (by simp [hd, hp])]
  · rw [(RegDef.inDie_of_findReg hq hp).2, (RegDef.inDie_of_findReg hf (hd.trans hp)).2]
    omega

/-- No register lies at the high half of a 64-bit register. -/
theorem findReg_high (hf : findReg off = some r) (hw : r.width = 64) (h8 : off % 8 = 0) : findReg (off + 4) = none := by
  rcases hq : findReg (off + 4) with _ | q
  · rfl
  exfalso
  have hap := wide_rows_apart r (mem_of_findReg hf) hw q (mem_of_findReg hq)
  obtain ⟨i, hr, hi⟩ := RegDef.place_of_findReg hf
  obtain ⟨j, hqp, hj⟩ := RegDef.place_of_findReg hq
  obtain ⟨hr1, hr2⟩ := RegDef.place_le_last hr hi
  obtain ⟨hq1, hq2⟩ := RegDef.place_le_last hqp hj
  unfold RegDef.apart at hap
  rcases Bool.or_eq_true_iff.1 hap with hap | hap
  · obtain ⟨hb, hs⟩ : q.base % 8 = 0 ∧ q.stride % 8 = 0 := by simpa using hap
    have hmul : q.stride * j % 8 = 0 := by rw [Nat.mul_mod, hs, Nat.zero_mul, Nat.zero_mod]
    cases hd : q.perDie
    · rw [RegDef.place_of_package (by simp [hd])] at hqp; omega
    · rw [(RegDef.inDie_of_findReg hq hd).2] at hqp; omega
  · split at hap
    · rename_i hd
      have hhigh := RegDef.place_high hf hq h8 hd
      simp only [Bool.or_eq_true, Bool.and_eq_true, decide_eq_true_eq, beq_iff_eq, bne_iff_ne, ne_eq] at hap
      rcases hap with (hap | hap) | ⟨hs, hne⟩
      · omega
      · omega
      · apply hne
        have heq : r.base + 4 + r.stride * i = q.base + r.stride * j := by rw [hs] at hr ⊢; omega
        rw [← Nat.add_mul_mod_self_left (r.base + 4) r.stride i, heq, Nat.add_mul_mod_self_left]
    · rename_i hd
      split at hap
      · rename_i hrd
        have hin := (RegDef.inDie_of_findReg hf hrd).1
        rw [RegDef.place_of_package (fun h => hd (hrd.trans h.symm))] at hq1 hq2
        simp only [Bool.or_eq_true, decide_eq_true_eq] at hap
        omega
      · rename_i hrd
        have hqd : q.perDie = true := by cases h : q.perDie <;> simp_all
        have hin := (RegDef.inDie_of_findReg hq hqd).1
        rw [RegDef.place_of_package hrd] at hr1 hr2
        simp only [Bool.or_eq_true, decide_eq_true_eq] at hap
        omega

theorem wideReg_of_wide (hf : findReg off = some r) (hw : r.width = 64) : wideReg off = some (off, r) := by
  simp only [wideReg, hf, hw, if_true]

theorem wideAt_low (hf : findReg off = some r) (hw : r.width = 64) : wideAt off = some (off, r) := by
  simp only [wideAt, hf, wideReg_of_wide hf hw]

theorem wideAt_high (hf : findReg off = some r) (hw : r.width = 64) (h8 : off % 8 = 0) : wideAt (off + 4) = some (off, r) := by
  have h4 : (off + 4) % 8 = 4 := by omega
  simp only [wideAt, findReg_high hf hw h8, if_pos h4, Nat.add_sub_cancel, wideReg_of_wide hf hw]

/-! What a register reads does not depend on the halves held: the operations that some status registers are read through commute with
discarding them. -/

theorem Device.packFree_dropHalves (o die k : Nat) : (d.dropHalves o).packFree die k = (d.packFree die k).dropHalves o := by
  unfold Device.packFree
  extract_lets p q
  rw [apply_ite (Device.dropHalves · o)]
  rfl

theorem Device.packStatus_dropHalves (o die k : Nat) : (d.dropHalves o).packStatus die k = d.packStatus die k := by
  unfold Device.packStatus
  rw [Device.packFree_dropHalves]
  rfl

theorem Device.recorderArrive_dropHalves (o : Nat) (e : EventRec) :
    (d.dropHalves o).recorderArrive e = (d.recorderArrive e).dropHalves o := by
  unfold Device.recorderArrive
  by_cases hs : e.severity = 5
  · simp only [hs, if_true]
    rw [apply_ite (Device.dropHalves · o)]
    rfl
  · simp only [hs, if_false]
    rw [apply_ite (Device.dropHalves · o)]
    rfl

theorem Device.refreshSource_dropHalves (o : Nat) : (d.dropHalves o).refreshSource = d.refreshSource.dropHalves o := by
  unfold Device.refreshSource
  rw [apply_ite (Device.dropHalves · o)]
  simp only [Device.record, ← Device.recorderArrive_dropHalves]
  rfl

theorem Device.lapseSource_dropHalves (o : Nat) : (d.dropHalves o).lapseSource = d.lapseSource.dropHalves o := by
  unfold Device.lapseSource
  rw [apply_ite (Device.dropHalves · o), ← Device.refreshSource_dropHalves]
  rfl

theorem Device.dieRegValue_dropHalves (o die base i : Nat) : (d.dropHalves o).dieRegValue die base i = d.dieRegValue die base i := by
  unfold Device.dieRegValue
  split
  case h_13 => rw [Device.packStatus_dropHalves]
  all_goals rfl

theorem Device.pkgRegValue_dropHalves (o base i : Nat) : (d.dropHalves o).pkgRegValue base i = d.pkgRegValue base i := by
  unfold Device.pkgRegValue
  split
  case h_5 =>
    rw [Device.lapseSource_dropHalves]
    rfl
  all_goals rfl

theorem Device.regValue_dropHalves (o : Nat) : (d.dropHalves o).regValue off = d.regValue off := by
  simp only [Device.regValue, Device.dieRegValue_dropHalves, Device.pkgRegValue_dropHalves]
  rfl

theorem Device.presentLow_dropHalves (o : Nat) : (d.dropHalves o).presentLow r off = d.presentLow r off := by
  rw [Device.presentLow, Device.regValue_dropHalves, Device.presentLow]

/-! Reads and writes of BAR0 at the two halves. -/

theorem Device.dropTouched_out (width : Nat) : (d.dropTouched off width).out = d.out := by
  simp only [Device.dropTouched, List.foldl_cons, List.foldl_nil]
  split <;> split <;> rfl

theorem unsupported_dword (h8 : off % 8 = 0) : unsupported off 64 = false := by
  simp [unsupported, h8]

/-- Widths of 8 and 16 bits, and offsets that are not aligned, are not supported. -/
theorem unsupported_of {width : Nat} (h : width = 8 ∨ width = 16 ∨ ((width = 32 ∨ width = 64) ∧ off % (width / 8) ≠ 0)) :
    unsupported off width = true := by
  rcases h with rfl | rfl | ⟨rfl | rfl, h⟩
  · rfl
  · rfl
  · simpa [unsupported] using h
  · simpa [unsupported] using h

/-- What a read of BAR0 leaves: the device after the access, with the value answered. -/
def Device.hostRead (d : Device) (off width : Nat) : Device :=
  (d.bar0Read off width).2.emit (.bar0Data (d.bar0Read off width).1)

theorem exec_reg64LowHalfRead {width : Nat} (h : off < 0x1000_0000) (s : State) :
    exec (.reg64LowHalfRead ⟨off, width⟩) s = s.upd (fun d => d.hostRead off width) := by
  show execReg64LowHalfRead ⟨off, width⟩ s = _
  simp only [execReg64LowHalfRead, if_neg (Nat.not_le.2 h)]
  rfl

theorem exec_reg64LowHalfWrite (off : Nat) (v : Word) (s : State) :
    exec (.reg64LowHalfWrite off v) s = s.upd (fun d => d.bar0Write off 32 v.toNat) := rfl

theorem exec_reg64HighHalfWrite (off : Nat) (v : Word) (s : State) :
    exec (.reg64HighHalfWrite off v) s = s.upd (fun d => d.bar0Write off 32 v.toNat) := rfl

theorem Device.bar0Read_unsupported {width : Nat} (h : unsupported off width = true) :
    d.bar0Read off width = (2 ^ width - 1, d.dropTouched off width) := by
  rw [Device.bar0Read, if_pos h]

theorem Device.bar0Read_word (h4 : off % 4 = 0) : d.bar0Read off 32 = d.read32 off := by
  simp [Device.bar0Read, unsupported_word h4]

theorem Device.bar0Read_wide (hf : findReg off = some r) (hw : r.width = 64) (h8 : off % 8 = 0) :
    d.bar0Read off 64 = (d.regValue off, d.dropHalves off) := by
  simp [Device.bar0Read, unsupported_dword h8, wideAt_low hf hw]

theorem Device.read32_low (hf : findReg off = some r) (hw : r.width = 64) :
    d.read32 off = (d.regValue off % 2 ^ 32,
      (d.dropHalves off).updHost (fun h => { h with capturedHigh := h.capturedHigh.put off (d.regValue off / 2 ^ 32) })) := by
  simp only [Device.read32, wideAt_low hf hw, if_true]

theorem Device.read32_high (hf : findReg off = some r) (hw : r.width = 64) (h8 : off % 8 = 0) :
    d.read32 (off + 4) = ((d.host.capturedHigh.get? off).getD (d.regValue off / 2 ^ 32), d.dropHalves off) := by
  simp only [Device.read32, wideAt_high hf hw h8, if_neg (show ¬ off + 4 = off by omega)]

theorem Device.write32_low (v : Word) (hf : findReg off = some r) (hw : r.width = 64) :
    d.write32 off v.toNat = (d.dropHalves off).updHost (fun h => { h with heldLow := h.heldLow.put off v.toNat }) := by
  simp only [Device.write32, wideAt_low hf hw, if_true, Nat.mod_eq_of_lt v.isLt]

theorem Device.write32_high (v : Word) (hf : findReg off = some r) (hw : r.width = 64) (h8 : off % 8 = 0) :
    d.write32 (off + 4) v.toNat =
      (d.dropHalves off).regWrite off ((d.host.heldLow.get? off).getD (d.presentLow r off) + 2 ^ 32 * v.toNat) := by
  simp only [Device.write32, wideAt_high hf hw h8, if_neg (show ¬ off + 4 = off by omega), Device.presentLow_dropHalves,
    Nat.mod_eq_of_lt v.isLt]

/-- Settles O9: one equation of `bar0Read` or `write32` for each access; that no register lies at a high half is a fact of the table. -/
theorem halvesOfWideRegisters : Obligations.HalvesOfWideRegisters := by
  refine ⟨fun off width hoff hwidth => ?unsupported, fun off r v hf hw h8 hoff => ⟨?whole, ?readHigh, ?readLow, ?writeLow, ?writeHigh⟩⟩
  case unsupported =>
    refine .of_upd (exec_reg64LowHalfRead hoff) (fun _ h => h) fun d _ => ?_
    rw [Device.hostRead, Device.bar0Read_unsupported (unsupported_of hwidth), Device.emit, Device.dropTouched_out]
  case whole =>
    refine .of_upd (exec_reg64LowHalfRead (by omega)) (fun _ h => h) fun d _ => ?_
    rw [Device.hostRead, Device.bar0Read_wide hf hw h8]
    rfl
  case readHigh =>
    refine .of_upd (exec_reg64LowHalfRead (by omega)) (fun _ h => h) fun d _ => ?_
    rw [Device.hostRead, Device.bar0Read_word (by omega), Device.read32_high hf hw h8]
    rfl
  case readLow =>
    refine .of_upd (exec_reg64LowHalfRead (by omega)) (fun _ h => h) fun d _ => ?_
    rw [Device.hostRead, Device.bar0Read_word (by omega), Device.read32_low hf hw]
    exact ⟨Map.get?_put_self _ _ _, rfl, rfl⟩
  case writeLow =>
    refine .of_upd (exec_reg64LowHalfWrite _ _) (fun _ h => h) fun d _ => ?_
    rw [Device.bar0Write_word (by omega) (by omega), Device.write32_low v hf hw]
    exact ⟨Map.get?_put_self _ _ _, rfl⟩
  case writeHigh =>
    refine .of_upd (exec_reg64HighHalfWrite _ _) (fun _ h => h) fun d _ => ?_
    rw [Device.bar0Write_word (by omega) (by omega), Device.write32_high v hf hw h8]

end Sys2Proof.Machine
end

section
/-!
SUPPORT. The values of the reset state (R14, R37, R59, R499), and the statement about them.
-/

namespace Sys2Proof.Machine

variable {off : Nat} {r : RegDef}

theorem Device.reg_reset (hf : findReg off = some r) : State.reset.dev.reg off = BitVec.ofNat 64 r.reset := by
  show regReset off = _
  simp only [regReset, hf]

/-- Settles O4: the register file and memory of the reset state list nothing, so what is derived from them comes from the table. -/
theorem resetLeavesTheStatedValues : Obligations.ResetLeavesTheStatedValues := by
  have hper : State.reset.dev.fld Reg.CAD_FREE_PERIOD ⟨0, 32⟩ = 10000000 := by decide +kernel
  have hsrc : State.reset.dev.sourceInUse = 4 := by decide +kernel
  have hpred : State.reset.dev.pred = 10000000 := by decide +kernel
  have hb : State.reset.dev.b1 = 16384 ∧ State.reset.dev.b2 = 32768 ∧ State.reset.dev.b3 = 49152 := by decide +kernel
  obtain ⟨hb1, hb2, hb3⟩ := hb
  exact ⟨fun off r hf => Device.reg_reset hf, fun _ => rfl, rfl, hsrc, hpred, hper, hb1, hb2, hb3, rfl⟩

end Sys2Proof.Machine
end

section
/-!
SUPPORT. Marks of the cadence sources (R37 to R44): what an event record, a change of the source in use and a judged mark change, and the
statement about accepted marks.
-/

namespace Sys2Proof.Machine

variable {d d' : Device} {j src : Nat} {f : Fld}

/-! ### Registers that keep their value -/

theorem Device.fld_of_reg (h : d'.reg j = d.reg j) : d'.fld j f = d.fld j f := by
  unfold Device.fld
  rw [h]

theorem Device.sameRegsBut_trans {a b c : Device} {l : List Nat} (h : a.sameRegsBut b l) (h' : b.sameRegsBut c l) : a.sameRegsBut c l :=
  fun j hj => (h' j hj).trans (h j hj)

/-- The registers that the arrival of an event record moves (R556). -/
def recorderRegs : List Nat := [Reg.EVR_SEQ_NEXT, Reg.EVR_DROPPED]

/-- An event record that arrives changes the recorder and its two registers. -/
theorem Device.recorderArrive_frame (e : EventRec) :
    d.recorderArrive e = { d with regs := (d.recorderArrive e).regs, fault := (d.recorderArrive e).fault } := by
  unfold Device.recorderArrive
  extract_lets _ _ d1 _ d2 _ _
  have h : d2 = { d with regs := d2.regs, fault := d2.fault } := by
    unfold d2
    split <;> rfl
  split
  · rw [h]
  · rw [h]
    rfl

theorem Device.record_frame (e : EventRec) :
    d.record e = { d with regs := (d.record e).regs, fault := (d.record e).fault } := Device.recorderArrive_frame _

theorem Device.recorderArrive_sameRegsBut (e : EventRec) : d.sameRegsBut (d.recorderArrive e) recorderRegs := by
  intro j hj
  obtain ⟨hseq, hdrop⟩ : j ≠ Reg.EVR_SEQ_NEXT ∧ j ≠ Reg.EVR_DROPPED := by simpa [recorderRegs] using hj
  unfold Device.recorderArrive
  extract_lets _ _ d1 _ d2 _ _
  have h1 : d1.reg j = d.reg j := Device.reg_setFld_of_ne _ _ hseq
  have h2 : d2.reg j = d.reg j := by
    unfold d2
    split <;> exact h1
  split
  · exact h2
  · exact (Device.reg_setFld_of_ne _ _ hdrop).trans h2

theorem Device.record_sameRegsBut (e : EventRec) : d.sameRegsBut (d.record e) recorderRegs := Device.recorderArrive_sameRegsBut _

theorem Device.recorderArrive_regsWf (e : EventRec) (h : d.regsWf) : (d.recorderArrive e).regsWf := by
  unfold Device.recorderArrive
  extract_lets _ _ d1 _ d2 _ _
  have h1 : d1.regsWf := Device.setFld_regsWf _ _ _ h
  have h2 : d2.regsWf := by
    unfold d2
    split <;> exact h1
  split
  · exact h2
  · exact Device.bumpBy_regsWf _ _ _ h2

theorem Device.record_regsWf (e : EventRec) (h : d.regsWf) : (d.record e).regsWf := Device.recorderArrive_regsWf _ h

@[simp] theorem Device.at_now (t : Nat) : (d.at t).now = max d.now t := rfl
@[simp] theorem Device.at_fld (t : Nat) : (d.at t).fld j f = d.fld j f := rfl

theorem Device.calAtTime_of_time (h : d'.time = d.time) (t : Nat) : d'.calAtTime t = d.calAtTime t := by
  unfold Device.calAtTime
  rw [h]

/-! ### The source in use -/

/-- The registers that a change of the source in use moves (R44, R542). -/
def sourceRegs : List Nat := Reg.CAD_STATUS :: recorderRegs

theorem Device.refreshSource_frame : d.refreshSource = { d with regs := d.refreshSource.regs, fault := d.refreshSource.fault } := by
  unfold Device.refreshSource
  extract_lets
  split
  · rfl
  · rw [Device.record_frame]
    rfl

theorem Device.refreshSource_sameRegsBut : d.sameRegsBut d.refreshSource sourceRegs := by
  intro j hj
  obtain ⟨hs, hr⟩ : j ≠ Reg.CAD_STATUS ∧ j ∉ recorderRegs := by simpa [sourceRegs] using hj
  unfold Device.refreshSource
  extract_lets
  split
  · rfl
  · rw [Device.record_sameRegsBut _ j hr, Device.reg_setFld_of_ne _ _ hs, Device.reg_setFld_of_ne _ _ hs, Device.reg_setFld_of_ne _ _ hs]

theorem Device.refreshSource_regsWf (h : d.regsWf) : d.refreshSource.regsWf := by
  unfold Device.refreshSource
  extract_lets
  split
  · exact h
  · exact Device.record_regsWf _ (Device.setFld_regsWf _ _ _ (Device.setFld_regsWf _ _ _ (Device.setFld_regsWf _ _ _ h)))

/-- A change of the source in use leaves SRC_LOST as it is. -/
theorem Device.refreshSource_srcLost (h : d.regsWf) :
    d.refreshSource.fld Reg.CAD_STATUS Fd.CAD_STATUS_SRC_LOST = d.fld Reg.CAD_STATUS Fd.CAD_STATUS_SRC_LOST := by
  unfold Device.refreshSource
  extract_lets new d1 d2
  have h1 : d1.regsWf := Device.setFld_regsWf _ _ _ h
  have h2 := Device.setFld_regsWf Reg.CAD_STATUS Fd.CAD_STATUS_HIST_FILL 0 h1
  split
  · rfl
  · rw [Device.fld_of_reg (Device.record_sameRegsBut _ _ (by decide)), Device.fld_setFld_apart _ _ _ _ h2 (by decide) (by decide),
      Device.fld_setFld_apart _ _ _ _ h1 (by decide) (by decide), Device.fld_setFld_apart _ _ _ _ h (by decide) (by decide)]

@[simp] theorem Device.refreshSource_now : d.refreshSource.now = d.now := by rw [Device.refreshSource_frame]
@[simp] theorem Device.refreshSource_time : d.refreshSource.time = d.time := by rw [Device.refreshSource_frame]

/-- A register that a change of the source in use does not move. -/
theorem Device.refreshSource_fld (h : j ∉ sourceRegs) : d.refreshSource.fld j f = d.fld j f :=
  Device.fld_of_reg (Device.refreshSource_sameRegsBut j h)

@[simp] theorem Device.refreshSource_srcSel : d.refreshSource.srcSel = d.srcSel := Device.refreshSource_fld (by decide)

theorem Device.lapseSource_cases : d.lapseSource = d ∨ d.lapseSource = d.refreshSource := by
  unfold Device.lapseSource
  split
  · exact .inl rfl
  · exact .inr rfl

theorem Device.lapseSource_frame : d.lapseSource = { d with regs := d.lapseSource.regs, fault := d.lapseSource.fault } := by
  rcases Device.lapseSource_cases (d := d) with h | h
  · rw [h]
  · rw [h, Device.refreshSource_frame]

theorem Device.lapseSource_sameRegsBut : d.sameRegsBut d.lapseSource sourceRegs := by
  rcases Device.lapseSource_cases (d := d) with h | h
  · rw [h]; exact fun _ _ => rfl
  · rw [h]; exact Device.refreshSource_sameRegsBut

theorem Device.lapseSource_regsWf (hwf : d.regsWf) : d.lapseSource.regsWf := by
  rcases Device.lapseSource_cases (d := d) with h | h
  · rwa [h]
  · rw [h]; exact Device.refreshSource_regsWf hwf

@[simp] theorem Device.lapseSource_now : d.lapseSource.now = d.now := by rw [Device.lapseSource_frame]
@[simp] theorem Device.lapseSource_time : d.lapseSource.time = d.time := by rw [Device.lapseSource_frame]

theorem Device.lapseSource_fld (h : j ∉ sourceRegs) : d.lapseSource.fld j f = d.fld j f :=
  Device.fld_of_reg (Device.lapseSource_sameRegsBut j h)

@[simp] theorem Device.lapseSource_srcSel : d.lapseSource.srcSel = d.srcSel := Device.lapseSource_fld (by decide)

@[simp] theorem Device.updTime_srcSel (g : TimeUnit → TimeUnit) : (d.updTime g).srcSel = d.srcSel := rfl
@[simp] theorem Device.at_srcSel (t : Nat) : (d.at t).srcSel = d.srcSel := rfl

/-- A fixed selection of PIN, LINK or HOST. -/
def Device.fixed (d : Device) : Prop := d.srcSel = 1 ∨ d.srcSel = 2 ∨ d.srcSel = 3

theorem Device.sourceInUse_free (h : d.srcSel = 4) : d.sourceInUse = 4 := by
  simp only [Device.sourceInUse, h]

/-- Under a fixed selection the source in use is the one selected, or the generator while that is lost (R41, log 20). -/
theorem Device.sourceInUse_fixed (h : d.fixed) : d.sourceInUse = if d.time.lost then 4 else d.srcSel := by
  rcases h with h | h | h <;> simp only [Device.sourceInUse, h]

theorem Device.activeSource_of_sel (h : d.srcSel ≠ 0) : d.activeSource = d.sourceInUse := if_neg h

theorem Device.fixed.ne_zero (h : d.fixed) : d.srcSel ≠ 0 := by
  rcases h with h | h | h <;> omega

/-! ### Marks that are accepted -/

/-- No accepted mark came within CAD_MIN_GAP before now (R39). -/
def Device.gapKept (d : Device) : Prop :=
  ∀ p, d.time.lastAccepted = some p → d.fld Reg.CAD_MIN_GAP Fd.CAD_MIN_GAP_MIN_GAP_NS ≤ d.now - p

theorem Device.judgeMark_accepted (h : d.gapKept) :
    d.judgeMark src = (d.updTime (fun u => { u with
      lastAccepted := some d.now, pending := u.pending ++ [{ time := d.now, src := src, cal := d.calNow }] })).signal 3 := by
  unfold Device.judgeMark
  extract_lets soon
  have hs : soon = false := by
    unfold soon
    cases hp : d.time.lastAccepted with
    | none => rfl
    | some p => exact decide_eq_false (Nat.not_lt.2 (h p hp))
  rw [hs]
  rfl

/-- What an accepted mark does to the cadence unit (R39, R45). -/
theorem Device.judgeMark_time (h : d.gapKept) : (d.judgeMark src).time = { d.time with
    lastAccepted := some d.now, pending := d.time.pending ++ [{ time := d.now, src := src, cal := d.calNow }] } := by
  rw [Device.judgeMark_accepted h, Device.signal_time]
  rfl

theorem Device.judgeMark_regs (h : d.gapKept) : (d.judgeMark src).regs = d.regs := by
  rw [Device.judgeMark_accepted h, Device.signal_regs, Device.updTime_regs]

theorem Device.judgeMark_frame (h : d.gapKept) : d.judgeMark src = { d with
    time := (d.judgeMark src).time, host := (d.judgeMark src).host, out := (d.judgeMark src).out } := by
  rw [Device.judgeMark_accepted h, Device.signal_frame]
  rfl

theorem Device.judgeMark_now (h : d.gapKept) : (d.judgeMark src).now = d.now := by rw [Device.judgeMark_frame h]

/-- The device with the mark of a source noted, and the source in use judged anew: what `deliverMark` judges the mark on. -/
def Device.noteMark (d : Device) (src : Nat) : Device :=
  let d := d.lapseSource.updTime (fun u =>
    match src with
    | 1 => { u with lastPin := some d.now } | 2 => { u with lastLink := some d.now } | _ => { u with lastHost := some d.now })
  (d.updTime (fun u => { u with lost := false })).refreshSource

theorem Device.noteMark_now : (d.noteMark src).now = d.now := by simp [Device.noteMark]

theorem Device.noteMark_frame : d.noteMark src =
    { d with regs := (d.noteMark src).regs, time := (d.noteMark src).time, fault := (d.noteMark src).fault } := by
  unfold Device.noteMark
  rw [Device.refreshSource_frame, Device.lapseSource_frame]
  rfl

theorem Device.noteMark_fld (h : j ∉ sourceRegs) : (d.noteMark src).fld j f = d.fld j f :=
  (Device.refreshSource_fld h).trans (Device.lapseSource_fld h)

/-- Of the cadence unit the note of a mark changes the times of the last marks and ends a loss. -/
theorem Device.noteMark_time : (d.noteMark src).time = { d.time with
    lastPin := (d.noteMark src).time.lastPin, lastLink := (d.noteMark src).time.lastLink
    lastHost := (d.noteMark src).time.lastHost, lost := false } := by
  simp only [Device.noteMark, Device.refreshSource_time]
  match src with
  | 0 | 1 | 2 | n + 3 => simp [Device.updTime]

/-- Under a fixed selection a mark of the source selected is judged. -/
theorem Device.deliverMark_selected (h : d.srcSel = src) (hf : d.fixed) : d.deliverMark src = (d.noteMark src).judgeMark src := by
  have hsel : (d.noteMark src).srcSel = src := (Device.noteMark_fld (by decide)).trans h
  have hlost : (d.noteMark src).time.lost = false := by rw [Device.noteMark_time]
  have huse : (d.noteMark src).sourceInUse = src := by
    rw [Device.sourceInUse_fixed (by unfold Device.fixed; rw [hsel, ← h]; exact hf), hlost, hsel]
    rfl
  have htakes : d.deliverMark src = if (d.noteMark src).sourceInUse = src then (d.noteMark src).judgeMark src else d.noteMark src := by
    simp only [Device.deliverMark, Device.updTime_srcSel, Device.lapseSource_srcSel, h, decide_true, Bool.true_or, if_true]
    rfl
  rw [htakes, if_pos huse]

/-- The state that follows an accepted mark of the source selected. -/
theorem Device.deliverMark_accepted (h : d.srcSel = src) (hf : d.fixed) (hgap : d.gapKept) :
    (d.deliverMark src).now = d.now ∧ (d.deliverMark src).time.lastAccepted = some d.now ∧ (d.deliverMark src).time.lost = false ∧
    (d.deliverMark src).time.pending = d.time.pending ++ [{ time := d.now, src := src, cal := d.calNow }] ∧
    d.deliverMark src = { d with
      regs := (d.deliverMark src).regs, time := (d.deliverMark src).time, fault := (d.deliverMark src).fault
      host := (d.deliverMark src).host, out := (d.deliverMark src).out } := by
  have hgap' : (d.noteMark src).gapKept := by
    intro p hp
    rw [Device.noteMark_time] at hp
    rw [Device.noteMark_fld (by decide), Device.noteMark_now]
    exact hgap p hp
  have hcal : (d.noteMark src).calNow = d.calNow := by
    unfold Device.calNow Device.calAtTime
    rw [Device.noteMark_time, Device.noteMark_now]
  rw [Device.deliverMark_selected h hf]
  refine ⟨?_, ?_, ?_, ?_, ?_⟩
  · rw [Device.judgeMark_now hgap', Device.noteMark_now]
  · rw [Device.judgeMark_time hgap', Device.noteMark_now]
  · rw [Device.judgeMark_time hgap', Device.noteMark_time]
  · rw [Device.judgeMark_time hgap', Device.noteMark_now, hcal, Device.noteMark_time]
  · rw [Device.judgeMark_frame hgap', Device.noteMark_frame]

/-- A mark of the generator that is accepted. -/
theorem Device.generatorMark_time (h : d.gapKept) : d.generatorMark.time = { d.time with
    lastGen := d.now, lastAccepted := some d.now, pending := d.time.pending ++ [{ time := d.now, src := 4, cal := d.calNow }] } :=
  Device.judgeMark_time (d := d.updTime _) h

theorem Device.generatorMark_regs (h : d.gapKept) : d.generatorMark.regs = d.regs := Device.judgeMark_regs (d := d.updTime _) h

theorem Device.generatorMark_now (h : d.gapKept) : d.generatorMark.now = d.now := Device.judgeMark_now (d := d.updTime _) h

theorem Device.generatorMark_frame (h : d.gapKept) : d.generatorMark = { d with
    time := d.generatorMark.time, host := d.generatorMark.host, out := d.generatorMark.out } :=
  Device.judgeMark_frame (d := d.updTime _) h

theorem exec_cadPinEdge (t : Nat) (s : State) : exec (.cadPinEdge t) s = s.upd (fun d => (d.at t).deliverMark 1) := rfl

theorem exec_cadHostMark (t : Nat) (s : State) : exec (.cadHostMark t) s = s.upd (fun d => (d.at t).hostMark) := rfl

theorem Device.hostMark_selected (h : d.srcSel = 3) : d.hostMark = d.deliverMark 3 := by
  simp [Device.hostMark, h]

theorem Device.generatorMark_accepted (h : d.gapKept) :
    d.generatorMark.now = d.now ∧
    d.generatorMark.time.pending =
      d.time.pending ++ [{ time := d.generatorMark.now, src := 4, cal := d.calAtTime d.generatorMark.now }] ∧
    d.generatorMark.time.lastGen = d.generatorMark.now ∧
    d.generatorMark = { d with time := d.generatorMark.time, host := d.generatorMark.host, out := d.generatorMark.out } := by
  rw [Device.generatorMark_now h]
  refine ⟨rfl, ?_, ?_, ?_⟩
  · rw [Device.generatorMark_time h, Device.calNow]
  · rw [Device.generatorMark_time h]
  · exact Device.generatorMark_frame h

theorem Device.gapKept_of_last {p : Nat} (h : d.time.lastAccepted = some p)
    (hgap : d.fld Reg.CAD_MIN_GAP Fd.CAD_MIN_GAP_MIN_GAP_NS ≤ d.now - p) : d.gapKept := by
  intro q hq
  obtain rfl := Option.some.inj (h.symm.trans hq)
  exact hgap

/-- A mark judged after a change of the clock, the cadence unit and the recorder. -/
theorem Device.marked_frame {e : Device}
    (h : e = { d with now := e.now, regs := e.regs, time := e.time, fault := e.fault })
    (h' : d' = { e with time := d'.time, host := d'.host, out := d'.out }) :
    d' = { d with now := d'.now, regs := d'.regs, time := d'.time, fault := d'.fault, host := d'.host, out := d'.out } := by
  rw [h', h]

/-- A mark of the source selected that is detected at a time, late enough, is accepted with that time. -/
theorem Device.at_deliverMark_accepted {t : Nat} (h : d.srcSel = src) (hf : d.fixed)
    (hgap : ∀ p, d.time.lastAccepted = some p → d.fld Reg.CAD_MIN_GAP Fd.CAD_MIN_GAP_MIN_GAP_NS ≤ max d.now t - p)
    (he : d' = (d.at t).deliverMark src) :
    d'.now = max d.now t ∧ d'.time.lastAccepted = some d'.now ∧ d'.time.lost = false ∧
    d'.time.pending = d.time.pending ++ [{ time := d'.now, src := src, cal := d.calAtTime d'.now }] ∧
    d' = { d with now := d'.now, regs := d'.regs, time := d'.time, fault := d'.fault, host := d'.host, out := d'.out } := by
  obtain ⟨hnow, hlast, hlost, hpend, hframe⟩ := Device.deliverMark_accepted (d := d.at t) h hf hgap
  rw [← he] at hnow hlast hlost hpend hframe
  rw [hnow]
  exact ⟨rfl, hlast, hlost, hpend, hframe⟩

/-- Settles O11: each mark comes to a mark of the source in use, judged with its distance kept. -/
theorem cadenceMarksAreAccepted : Obligations.CadenceMarksAreAccepted := by
  refine ⟨?selected, ?free⟩
  case selected =>
    intro src t c hc
    rcases hc with hc | hc <;> obtain ⟨rfl, rfl⟩ := Prod.mk.inj hc
    · exact .of_upd (exec_cadPinEdge t) (fun _ h => h.1) fun d ⟨_, hsel, hgap⟩ =>
        Device.at_deliverMark_accepted hsel (.inl hsel) hgap rfl
    · exact .of_upd (exec_cadHostMark t) (fun _ h => h.1) fun d ⟨_, hsel, hgap⟩ =>
        Device.at_deliverMark_accepted hsel (.inr (.inr hsel)) hgap (Device.hostMark_selected (d := d.at t) hsel)
  case free =>
    refine .of_upd (fun s => show execCadFreeMark s = _ from rfl) (fun _ h => h.1) fun d ⟨_, hsel, hlost, hlast, hmin⟩ => ?_
    have hactive : d.lapseSource.activeSource = 4 := by
      have h := Device.lapseSource_srcSel.trans hsel
      rw [Device.activeSource_of_sel (by omega), Device.sourceInUse_free h]
    have hlost' : d.lapseSource.time.lost = false := by rw [Device.lapseSource_time, hlost]
    have hbase : d.lapseSource.generatorBase = d.time.lastGen := by simp [Device.generatorBase, hlast]
    simp only [hactive, hlost', decide_true, Bool.not_false, Bool.and_self, if_true, hbase]
    rw [Device.lapseSource_fld (by decide)]
    have hgap : (d.lapseSource.at (d.time.lastGen + d.fld Reg.CAD_FREE_PERIOD Fd.CAD_FREE_PERIOD_PERIOD_NS)).gapKept := by
      refine Device.gapKept_of_last (by rw [Device.at_time, Device.lapseSource_time, hlast]) ?_
      rw [Device.at_fld, Device.lapseSource_fld (by decide), Device.at_now]
      omega
    obtain ⟨hnow, hpend, hgen, hframe⟩ := Device.generatorMark_accepted hgap
    rw [Device.at_now, Device.lapseSource_now] at hnow
    refine ⟨hnow, ?_, hgen, Device.marked_frame ?_ hframe⟩
    · rw [hpend, Device.at_time, Device.lapseSource_time]
      rw [Device.calAtTime_of_time (d := d) (by rw [Device.at_time, Device.lapseSource_time])]
    · generalize hl : d.lapseSource = e
      rw [← hl, Device.lapseSource_frame]
      rfl

end Sys2Proof.Machine
end

section
/-!
SUPPORT. Lost sources (R41): what the declaration of a loss leaves, the marks of the generator while a source is lost, and the statement about
them.
-/

namespace Sys2Proof.Machine

variable {d : Device} {j : Nat} {f : Fld}

/-- A meaning built by `upd` whose device function comes to a simpler one in the case at hand. -/
theorem Completes.of_upd_eq {c : Instr} {pre : Device → Prop} {post : Device → Device → Prop} {f g : Device → Device}
    (hc : ∀ s, exec c s = s.upd f) (hr : ∀ d, pre d → d.runs) (he : ∀ d, pre d → f d = g d) (hp : ∀ d, pre d → post d (g d)) :
    Completes c pre post :=
  .of_upd hc hr fun d h => (he d h).symm ▸ hp d h

/-- While a source is lost under a fixed selection the generator is in use (log 20). -/
theorem Device.sourceInUse_lost (h : d.fixed) (hl : d.time.lost = true) : d.sourceInUse = 4 := by
  rw [Device.sourceInUse_fixed h, if_pos hl]

/-- Under a fixed selection of a source that is not lost, its loss is due, so no lapse without a loss. -/
theorem Device.lapseSource_fixed (h : d.fixed) (hl : d.time.lost = false) : d.lapseSource = d := by
  have hactive : d.activeSource = d.srcSel := by
    rw [Device.activeSource_of_sel h.ne_zero, Device.sourceInUse_fixed h, hl]
    rfl
  have hdue : d.lossDue = true := by
    rcases h with h | h | h <;> simp [Device.lossDue, hl, hactive, h]
  rw [Device.lapseSource, if_pos hdue]

theorem satAdd_lt (w x n : Nat) : satAdd w x n < 2 ^ w := by
  have := Nat.two_pow_pos w
  unfold satAdd
  omega

/-- The device with a loss declared: what `execSourceLost` lets the generator mark on. -/
def Device.declareLoss (d : Device) : Device :=
  let d := (d.setFld Reg.CAD_STATUS Fd.CAD_STATUS_SRC_LOST 1).count Reg.CAD_LOSS_COUNT 32 1
  ((d.record { severity := 2, loc := x0Loc }).updTime (fun u => { u with lost := true })).refreshSource

theorem Device.declareLoss_now : d.declareLoss.now = d.now := by
  rw [Device.declareLoss, Device.refreshSource_now, Device.updTime_now, Device.record_now, Device.count_now, Device.setFld_now]

theorem Device.declareLoss_time : d.declareLoss.time = { d.time with lost := true } := by
  rw [Device.declareLoss, Device.refreshSource_time, Device.updTime, Device.record_time, Device.count_time, Device.setFld_time]

theorem Device.declareLoss_fld (h : j ∉ Reg.CAD_LOSS_COUNT :: sourceRegs) : d.declareLoss.fld j f = d.fld j f := by
  obtain ⟨hloss, hs⟩ : j ≠ Reg.CAD_LOSS_COUNT ∧ j ∉ sourceRegs := by simpa using h
  obtain ⟨hstatus, hr⟩ : j ≠ Reg.CAD_STATUS ∧ j ∉ recorderRegs := by simpa [sourceRegs] using hs
  refine (Device.refreshSource_fld hs).trans ?_
  refine (Device.fld_of_reg (Device.record_sameRegsBut (d := (d.setFld _ _ _).count _ _ _) _ j hr)).trans ?_
  exact (Device.fld_setFld_of_ne _ _ _ hloss).trans (Device.fld_setFld_of_ne _ _ _ hstatus)

theorem Device.declareLoss_lossCount (hwf : d.regsWf) :
    d.declareLoss.fld Reg.CAD_LOSS_COUNT ⟨0, 32⟩ = satAdd 32 (d.fld Reg.CAD_LOSS_COUNT ⟨0, 32⟩) 1 := by
  have h1 : (d.setFld Reg.CAD_STATUS Fd.CAD_STATUS_SRC_LOST 1).regsWf := Device.setFld_regsWf _ _ _ hwf
  refine (Device.refreshSource_fld (by decide)).trans ?_
  refine (Device.fld_of_reg (Device.record_sameRegsBut (d := (d.setFld _ _ _).count _ _ _) _ _ (by decide))).trans ?_
  rw [Device.count, Device.bumpBy, Device.fld_setFld_self _ _ _ h1 (by decide), Device.fld_setFld_of_ne _ _ _ (by decide)]
  exact Nat.mod_eq_of_lt (satAdd_lt _ _ _)

theorem Device.declareLoss_srcLost (hwf : d.regsWf) : d.declareLoss.fld Reg.CAD_STATUS Fd.CAD_STATUS_SRC_LOST = 1 := by
  have h1 : (d.setFld Reg.CAD_STATUS Fd.CAD_STATUS_SRC_LOST 1).regsWf := Device.setFld_regsWf _ _ _ hwf
  have h2 := Device.bumpBy_regsWf Reg.CAD_LOSS_COUNT ⟨0, 32⟩ 1 h1
  refine (Device.refreshSource_srcLost ?_).trans ?_
  · exact Device.record_regsWf _ h2
  · refine (Device.fld_of_reg (Device.record_sameRegsBut (d := (d.setFld _ _ _).count _ _ _) _ _ (by decide))).trans ?_
    exact (Device.fld_setFld_of_ne _ _ _ (by decide)).trans (Device.fld_setFld_self _ _ _ hwf (by decide))

theorem Device.generatorMark_sourceInUse_lost (hsel : d.fixed) (hl : d.time.lost = true) (h : d.gapKept) : d.generatorMark.sourceInUse = 4 := by
  refine Device.sourceInUse_lost ?_ ?_
  · rw [Device.generatorMark_frame h]
    exact hsel
  · rw [Device.generatorMark_time h]
    exact hl

theorem Device.declareLoss_calAtTime (t : Nat) : d.declareLoss.calAtTime t = d.calAtTime t := by
  unfold Device.calAtTime
  rw [Device.declareLoss_time]

theorem Device.declareLoss_fixed (h : d.fixed) : d.declareLoss.fixed := by
  have hsel : d.declareLoss.srcSel = d.srcSel := Device.declareLoss_fld (by decide)
  rwa [Device.fixed, hsel]

/-- The moment at which a loss is declared, 4 x PRED_NS after the last accepted mark (R41). -/
def Device.lossTime (d : Device) : Nat := d.lossBase + 4 * d.pred

theorem Device.lossTime_of_last {p : Nat} (h : d.time.lastAccepted = some p) : d.lossTime = p + 4 * d.pred := by
  rw [Device.lossTime, Device.lossBase, h, Option.getD_some]

theorem Device.declareLoss_gapKept {p : Nat} (h : d.time.lastAccepted = some p)
    (hmin : d.fld Reg.CAD_MIN_GAP Fd.CAD_MIN_GAP_MIN_GAP_NS ≤ 4 * d.pred) : (d.at d.lossTime).declareLoss.gapKept := by
  refine Device.gapKept_of_last (by rw [Device.declareLoss_time, Device.at_time, h]) ?_
  rw [Device.declareLoss_fld (by decide), Device.declareLoss_now, Device.at_fld, Device.at_now, Device.lossTime_of_last h]
  omega

/-- Settles O15: the loss is declared before the generator marks, and the source in use is read from the selection and the loss. -/
theorem aLostSourceIsCounted : Obligations.ALostSourceIsCounted := by
  refine ⟨?lost, ?generator⟩
  case lost =>
    refine .of_upd_eq (g := fun d => (d.at d.lossTime).declareLoss.generatorMark)
      (fun s => show execSourceLost s = _ from rfl) (fun _ h => h.1) (fun d ⟨_, hwf, hsel, hlost, ⟨p, hlast, hp⟩, hmin⟩ => ?body)
      fun d ⟨_, hwf, hsel, hlost, ⟨p, hlast, hp⟩, hmin⟩ => ?post
    case body =>
      have hlapse : (d.at (d.lossBase + 4 * d.pred)).lapseSource = d.at d.lossTime := Device.lapseSource_fixed (d := d.at _) hsel hlost
      have hactive : (d.at d.lossTime).activeSource ≠ 4 := by
        rw [Device.activeSource_of_sel (d := d.at _) (Device.fixed.ne_zero hsel), Device.sourceInUse_fixed (d := d.at _) hsel,
          Device.at_time, hlost, Device.at_srcSel]
        rcases hsel with h | h | h <;> simp [h]
      simp only [hlost, hlapse, if_neg hactive, Bool.false_eq_true, if_false]
      refine if_pos (Device.generatorMark_sourceInUse_lost (d := Device.declareLoss _) ?_ ?_ (Device.declareLoss_gapKept hlast hmin))
      · exact Device.declareLoss_fixed (d := d.at _) hsel
      · rw [Device.declareLoss_time]
    case post =>
      have hgap := Device.declareLoss_gapKept hlast hmin
      have hnow : (d.at d.lossTime).declareLoss.generatorMark.now = p + 4 * d.pred := by
        rw [Device.generatorMark_now hgap, Device.declareLoss_now, Device.at_now, Device.lossTime_of_last hlast, max_eq_right hp]
      have hregs := Device.generatorMark_regs hgap
      refine ⟨?_, ?_, ?_, ?_, ?_, ?_⟩
      · exact (Device.fld_congr hregs _).trans (Device.declareLoss_srcLost (d := d.at _) hwf)
      · rw [Device.generatorMark_time hgap, Device.declareLoss_time]
      · exact Device.generatorMark_sourceInUse_lost (Device.declareLoss_fixed (d := d.at _) hsel) (by rw [Device.declareLoss_time]) hgap
      · exact (Device.fld_congr hregs _).trans (Device.declareLoss_lossCount (d := d.at _) hwf)
      · rw [hnow, hlast, Option.getD_some]
      · rw [(Device.generatorMark_accepted hgap).2.1, Device.declareLoss_time, Device.declareLoss_calAtTime]
        rfl
  case generator =>
    refine .of_upd_eq (g := fun d => (d.at (d.time.lastGen + d.pred)).refreshSource.generatorMark)
      (fun s => show execLossGeneratorMark s = _ from rfl) (fun _ h => h.1) (fun d ⟨_, hsel, hlost, ⟨p, hlast, hgen, hp⟩, hmin⟩ => ?body)
      fun d ⟨_, hsel, hlost, ⟨p, hlast, hgen, hp⟩, hmin⟩ => ?post
    case body =>
      have hbase : d.generatorBase = d.time.lastGen := by simp [Device.generatorBase, hlast, hgen]
      have huse : (d.at (d.time.lastGen + d.pred)).refreshSource.sourceInUse = 4 := by
        refine Device.sourceInUse_lost ?_ ?_
        · rwa [Device.fixed, Device.refreshSource_srcSel]
        · rwa [Device.refreshSource_time]
      simp only [hlost, if_true, hbase, huse]
    case post =>
      have hgap : (d.at (d.time.lastGen + d.pred)).refreshSource.gapKept := by
        refine Device.gapKept_of_last (by rw [Device.refreshSource_time, Device.at_time, hlast]) ?_
        rw [Device.refreshSource_fld (by decide), Device.refreshSource_now, Device.at_fld, Device.at_now, hgen]
        omega
      obtain ⟨hnow, hpend, -, -⟩ := Device.generatorMark_accepted hgap
      refine ⟨?_, ?_, ?_⟩
      · rw [hnow, Device.refreshSource_now, Device.at_now, hgen, max_eq_right hp]
      · rw [Device.generatorMark_time hgap, Device.refreshSource_time, Device.at_time, hlost]
      · rw [hpend, Device.refreshSource_time, Device.at_time]
        rw [Device.calAtTime_of_time (d := d) (by rw [Device.refreshSource_time, Device.at_time])]

end Sys2Proof.Machine
end

section
/-!
SUPPORT. The registers of the cadence unit and the calendar (R42, R53 to R57): what a write of CAD_CTRL and a set calendar leave, and the
statements about control writes and calendar edges.
-/

namespace Sys2Proof.Machine

variable {d d' : Device} {j : Nat} {f : Fld}

/-! ### CAD_CTRL and CAL_CTRL -/

theorem exec_cadCtrlWrite (v : Word) (s : State) : exec (.cadCtrlWrite v) s = s.upd (fun d => d.cadCtrlWrite v.toNat) := rfl
theorem exec_calCtrlWrite (v : Word) (s : State) : exec (.calCtrlWrite v) s = s.upd (fun d => d.calCtrlWrite v.toNat) := rfl
theorem exec_calEpochSecWrite (v : DWord) (s : State) :
    exec (.calEpochSecWrite v) s = s.upd (fun d => (d.dropHalves Reg.CAL_EPOCH_SEC).calEpochWrite v) := rfl

/-- A write of CAD_CTRL that is taken (R42): what is stored before the source in use is judged anew. -/
def Device.storeCadCtrl (d : Device) (x : Nat) : Device :=
  let e := d.lapseSource.setReg Reg.CAD_CTRL (BitVec.ofNat 64 x)
  if d.srcSel = x % 8 then e else e.updTime (fun u => { u with lost := false })

theorem Device.cadCtrlWrite_taken {x : Nat} (hx : x < 64) (hs : x % 8 ≤ 4)
    (hmode : x % 8 = 2 → d.fld (Reg.PORT_CTRL (x / 8)) Fd.PORT_CTRL_MODE = 0) : d.cadCtrlWrite x = (d.storeCadCtrl x).refreshSource := by
  have hport : (decide (x % 8 = 2) && decide (d.fld (Reg.PORT_CTRL (x / 8)) Fd.PORT_CTRL_MODE = 1)) = false := by
    by_cases h : x % 8 = 2
    · simp [hmode h]
    · simp [h]
  rw [Device.cadCtrlWrite, if_neg (by omega), if_neg (by omega), hport, if_neg Bool.false_ne_true]
  rfl

theorem Device.cadCtrlWrite_refused {x : Nat} (hx : x < 64) (hs : x % 8 = 2) (hmode : d.fld (Reg.PORT_CTRL (x / 8)) Fd.PORT_CTRL_MODE = 1) :
    d.cadCtrlWrite x = d.refuse 0x1005 := by
  rw [Device.cadCtrlWrite, if_neg (by omega), if_neg (by omega), if_pos (by simp [hs, hmode])]

theorem Device.storeCadCtrl_frame (x : Nat) : d.storeCadCtrl x =
    { d with regs := (d.storeCadCtrl x).regs, time := (d.storeCadCtrl x).time, fault := (d.storeCadCtrl x).fault } := by
  unfold Device.storeCadCtrl
  rw [Device.lapseSource_frame]
  split <;> rfl

theorem Device.storeCadCtrl_reg {x : Nat} (h : d.regsWf) : (d.storeCadCtrl x).reg Reg.CAD_CTRL = BitVec.ofNat 64 x := by
  have he : (d.lapseSource.setReg Reg.CAD_CTRL (BitVec.ofNat 64 x)).reg Reg.CAD_CTRL = BitVec.ofNat 64 x :=
    Device.reg_setReg_self _ _ (Device.lapseSource_regsWf h)
  unfold Device.storeCadCtrl
  split <;> exact he

/-! ### The calendar (R53 to R56) -/

theorem Device.setCalendar_frame (v num den : Nat) : d.setCalendar v num den = { d with
    regs := (d.setCalendar v num den).regs, time := (d.setCalendar v num den).time, fault := (d.setCalendar v num den).fault } := by
  unfold Device.setCalendar
  extract_lets
  split
  · rfl
  · rw [Device.record_frame]
    rfl

theorem Device.setCalendar_time (v num den : Nat) : (d.setCalendar v num den).time =
    { d.time with calBase := v % 2 ^ 64, calAt := d.now, calNum := num, calDen := den } := by
  unfold Device.setCalendar
  extract_lets
  split
  · rfl
  · rw [Device.record_time]
    rfl

theorem Device.setCalendar_sameRegsBut (v num den : Nat) : d.sameRegsBut (d.setCalendar v num den) recorderRegs := by
  unfold Device.setCalendar
  extract_lets
  split
  · exact fun _ _ => rfl
  · exact Device.record_sameRegsBut (d := d.updTime _) _

theorem Device.setCalendar_regsWf (v num den : Nat) (h : d.regsWf) : (d.setCalendar v num den).regsWf := by
  unfold Device.setCalendar
  extract_lets
  split
  · exact h
  · exact Device.record_regsWf (d := d.updTime _) _ h

/-- A write of CAL_CTRL that is taken (R53): the source is stored, and what PPS has told is forgotten. -/
def Device.storeCalCtrl (d : Device) (x : Nat) : Device :=
  ((d.setReg Reg.CAL_CTRL (BitVec.ofNat 64 x)).setReg Reg.CAL_STATUS 0).updTime (fun u => { u with ppsLast := none, ppsValue := none })

/-- Under NONE the calendar is set to the time since the reset of its count. -/
theorem Device.calCtrlWrite_taken {x : Nat} (hx : x < 32) (hs : x % 4 = 0 ∨ x % 4 = 2) :
    d.calCtrlWrite x = if x % 4 = 0 then (d.storeCalCtrl x).setCalendar (d.now - d.time.noneBase) 1 1 else d.storeCalCtrl x := by
  have h1 : ¬ x % 4 = 1 := by omega
  unfold Device.calCtrlWrite
  rw [if_neg (by omega), if_neg (by omega)]
  simp only [h1, decide_false, Bool.false_and, Bool.false_eq_true, if_false]
  rfl

theorem Device.storeCalCtrl_reg (x : Nat) (h : d.regsWf) : (d.storeCalCtrl x).reg Reg.CAL_CTRL = BitVec.ofNat 64 x :=
  (Device.reg_setReg_of_ne _ (by decide)).trans (Device.reg_setReg_self _ _ h)

theorem Device.storeCalCtrl_calValid (x : Nat) (h : d.regsWf) : (d.storeCalCtrl x).calValid = false := by
  have hs : (d.storeCalCtrl x).reg Reg.CAL_STATUS = 0 := Device.reg_setReg_self _ _ (Device.setReg_regsWf _ _ h)
  unfold Device.calValid Device.fld
  rw [hs]
  rfl

theorem Device.calValid_of_reg (h : d'.reg Reg.CAL_STATUS = d.reg Reg.CAL_STATUS) : d'.calValid = d.calValid := by
  unfold Device.calValid
  rw [Device.fld_of_reg h]

/-- What a write of CAL_CTRL that is taken leaves. -/
theorem Device.calCtrlWrite_post {x : Nat} (hx : x < 32) (hs : x % 4 = 0 ∨ x % 4 = 2) (h : d.regsWf) (he : d' = d.calCtrlWrite x) :
    d'.reg Reg.CAL_CTRL = BitVec.ofNat 64 x ∧ d'.calValid = false ∧ d' = { d with regs := d'.regs, time := d'.time, fault := d'.fault } := by
  rw [Device.calCtrlWrite_taken hx hs] at he
  split at he
  · have hsame := Device.setCalendar_sameRegsBut (d := d.storeCalCtrl x) (d.now - d.time.noneBase) 1 1
    rw [← he] at hsame
    refine ⟨(hsame _ (by decide)).trans (Device.storeCalCtrl_reg x h), ?_, ?_⟩
    · exact (Device.calValid_of_reg (hsame _ (by decide))).trans (Device.storeCalCtrl_calValid x h)
    · rw [he, Device.setCalendar_frame]
      rfl
  · rw [he]
    exact ⟨Device.storeCalCtrl_reg x h, Device.storeCalCtrl_calValid x h, rfl⟩

/-- Settles O12: what is stored stands before the source in use, or the calendar, is judged anew, and that moves other registers only. -/
theorem cadenceControlWrites : Obligations.CadenceControlWrites := by
  refine ⟨fun v hv hs => ?taken, fun v hv hs => ?refused, fun v hv hs => ?calendar, fun v => ?epoch⟩
  case taken =>
    refine .of_upd (exec_cadCtrlWrite v) (fun _ h => h.1) fun d ⟨_, hwf, hmode⟩ => ?_
    rw [Device.cadCtrlWrite_taken hv hs hmode]
    have hreg : (d.storeCadCtrl v.toNat).refreshSource.reg Reg.CAD_CTRL = BitVec.ofNat 64 v.toNat :=
      (Device.refreshSource_sameRegsBut _ (by decide)).trans (Device.storeCadCtrl_reg hwf)
    refine ⟨hreg, ?_, ?_⟩
    · unfold Device.srcSel Device.fld
      rw [hreg, BitVec.toNat_ofNat, Nat.mod_eq_of_lt (by omega)]
      simp [bitsOf, Fd.CAD_CTRL_SRC_SEL]
    · rw [Device.refreshSource_frame, Device.storeCadCtrl_frame]
  case refused =>
    exact .of_upd (exec_cadCtrlWrite v) (fun _ h => h.1) fun d ⟨_, hmode⟩ => Device.cadCtrlWrite_refused hv hs hmode
  case calendar =>
    exact .of_upd (exec_calCtrlWrite v) (fun _ h => h.1) fun d ⟨_, hwf⟩ => Device.calCtrlWrite_post hv hs hwf rfl
  case epoch =>
    refine .of_upd (exec_calEpochSecWrite v) (fun _ h => h.1) fun d ⟨_, hwf⟩ => ?_
    have hwf' : (d.dropHalves Reg.CAL_EPOCH_SEC).regsWf := hwf
    refine ⟨?_, ?_, fun j hj => ?_, rfl⟩
    · exact (Device.reg_setFld_of_ne _ _ (by decide)).trans (Device.reg_setReg_self _ _ hwf')
    · exact Device.fld_setFld_self _ _ _ (Device.setReg_regsWf _ _ hwf') (by decide)
    · obtain ⟨he, hs⟩ : j ≠ Reg.CAL_EPOCH_SEC ∧ j ≠ Reg.CAL_STATUS := by simpa using hj
      exact (Device.reg_setFld_of_ne _ _ hs).trans (Device.reg_setReg_of_ne _ he)

/-! ### Edges of PPS_IN (R54, R55) -/

/-- The calendar set by an edge, with the edge and its value kept for the next one. -/
def Device.setByEdge (d : Device) (v num den : Nat) : Device :=
  let c := d.setCalendar v num den
  c.updTime (fun u => { u with ppsLast := some c.now, ppsValue := some v })

theorem Device.setByEdge_now (v num den : Nat) : (d.setByEdge v num den).now = d.now := by
  rw [Device.setByEdge, Device.updTime_now, Device.setCalendar_frame]

/-- CAL_TIME at the moment of the edge that set it. -/
theorem Device.setByEdge_calNow (v num den : Nat) : (d.setByEdge v num den).calNow = v % 2 ^ 64 := by
  have htime : (d.setByEdge v num den).time.calAt = d.now ∧ (d.setByEdge v num den).time.calBase = v % 2 ^ 64 := by
    rw [Device.setByEdge, Device.updTime, Device.setCalendar_time]
    exact ⟨rfl, rfl⟩
  obtain ⟨hat, hbase⟩ := htime
  rw [Device.calNow, Device.calAtTime, hat, hbase, Device.setByEdge_now, Nat.sub_self, Nat.zero_mul, Nat.zero_div, Nat.add_zero, Nat.mod_mod]

theorem Device.setByEdge_frame (v num den : Nat) : d.setByEdge v num den = { d with
    regs := (d.setByEdge v num den).regs, time := (d.setByEdge v num den).time, fault := (d.setByEdge v num den).fault } := by
  unfold Device.setByEdge
  rw [Device.setCalendar_frame]
  rfl

theorem Device.setByEdge_reg (v num den : Nat) (h : j ∉ recorderRegs) : (d.setByEdge v num den).reg j = d.reg j :=
  Device.setCalendar_sameRegsBut v num den j h

theorem Device.setByEdge_regsWf (v num den : Nat) (h : d.regsWf) : (d.setByEdge v num den).regsWf :=
  Device.setCalendar_regsWf v num den h

theorem Device.calValid_setStatus (h : d.regsWf) : (d.setReg Reg.CAL_STATUS 1).calValid = true := by
  unfold Device.calValid Device.fld
  rw [Device.reg_setReg_self _ _ h]
  rfl

/-- An armed edge sets the calendar to the epoch, at some rate. -/
theorem execPpsEdge_armed {t : Nat} {s : State} (hr : s.dev.runs) (hsrc : s.dev.fld Reg.CAL_CTRL Fd.CAL_CTRL_SRC = 2)
    (harm : s.dev.fld Reg.CAL_STATUS Fd.CAL_STATUS_ARMED = 1) :
    ∃ num den, execPpsEdge t s = .next { s with
      dev := ((s.dev.at t).setByEdge ((s.dev.reg Reg.CAL_EPOCH_SEC).toNat * 1000000000 % 2 ^ 64) num den).setReg Reg.CAL_STATUS 1 } := by
  rw [execPpsEdge, State.upd_running _ hr]
  simp only [Device.at_fld, hsrc, harm, bne_self_eq_false, Bool.false_eq_true, if_true, if_false]
  exact ⟨_, _, rfl⟩

/-- A later edge adds one second to what the last one set, at some rate. -/
theorem execPpsEdge_later {t v : Nat} {s : State} (hr : s.dev.runs) (hsrc : s.dev.fld Reg.CAL_CTRL Fd.CAL_CTRL_SRC = 2)
    (harm : s.dev.fld Reg.CAL_STATUS Fd.CAL_STATUS_ARMED = 0) (hv : s.dev.time.ppsValue = some v) (hlt : v + 1000000000 < 2 ^ 64) :
    ∃ num den, execPpsEdge t s = .next { s with
      dev := (((s.dev.at t).setByEdge (v + 1000000000) num den).setReg Reg.CAL_EPOCH_SEC
        (BitVec.ofNat 64 ((v + 1000000000) / 1000000000))).setReg Reg.CAL_STATUS 1 } := by
  rw [execPpsEdge, State.upd_running _ hr]
  simp only [Device.at_fld, Device.at_time, hsrc, harm, hv, bne_self_eq_false, Bool.false_eq_true, Nat.zero_ne_one, if_false,
    Option.map_some, Nat.mod_eq_of_lt hlt]
  exact ⟨_, _, rfl⟩

/-- Settles O17: an edge sets the calendar at some rate, and the count at its own moment does not depend on the rate. -/
theorem calendarEdges : Obligations.CalendarEdges := by
  refine ⟨fun t s => ?armed, fun t v hv s => ?later, fun p => ?holdover⟩
  case armed =>
    intro ⟨hr, hwf, hsrc, harm, hlt⟩
    obtain ⟨num, den, he⟩ := execPpsEdge_armed (t := t) hr hsrc harm
    refine ⟨_, he, rfl, ?_, ?_, ?_, ?_, ?_⟩
    · exact (Device.setByEdge_calNow _ _ _).trans (by rw [Nat.mod_mod, Nat.mod_eq_of_lt hlt])
    · exact Device.calValid_setStatus (Device.setByEdge_regsWf (d := s.dev.at t) _ _ _ hwf)
    · exact Device.setByEdge_now (d := s.dev.at t) _ _ _
    · exact (Device.reg_setReg_of_ne _ (by decide)).trans (Device.setByEdge_reg (d := s.dev.at t) _ _ _ (by decide))
    · have hframe := Device.setByEdge_frame (d := s.dev.at t) ((s.dev.reg Reg.CAL_EPOCH_SEC).toNat * 1000000000 % 2 ^ 64) num den
      generalize (s.dev.at t).setByEdge _ num den = e at hframe ⊢
      rw [hframe]
      rfl
  case later =>
    intro ⟨hr, hwf, hsrc, harm, hval⟩
    obtain ⟨num, den, he⟩ := execPpsEdge_later (t := t) hr hsrc harm hval hv
    have hwf' := Device.setByEdge_regsWf (d := s.dev.at t) (v + 1000000000) num den hwf
    refine ⟨_, he, rfl, ?_, ?_, ?_⟩
    · exact (Device.setByEdge_calNow _ _ _).trans (Nat.mod_eq_of_lt hv)
    · rw [Device.reg_setReg_of_ne _ (by decide), Device.reg_setReg_self _ _ hwf', BitVec.toNat_ofNat]
      exact Nat.mod_eq_of_lt (by omega)
    · exact Device.calValid_setStatus (Device.setReg_regsWf _ _ hwf')
  case holdover =>
    refine .of_upd_eq (g := fun d => (d.at (p + 1500000000)).setFld Reg.CAL_STATUS Fd.CAL_STATUS_HOLDOVER 1)
      (fun s => show execPpsHoldover s = _ from rfl) (fun _ h => h.1) (fun d ⟨_, hwf, hsrc, hvalid, hlast⟩ => ?_)
      fun d ⟨_, hwf, _, hvalid, _⟩ => ⟨?_, ?_, rfl, rfl⟩
    · simp only [hlast, hsrc, hvalid, decide_true, Bool.and_self, if_true]
    · exact Device.fld_setFld_self _ _ _ hwf (by decide)
    · rw [Device.calValid, Device.fld_setFld_apart (d := d.at _) _ _ _ _ hwf (by decide) (by decide)]
      exact hvalid

end Sys2Proof.Machine
end

section
/-!
SUPPORT. PHASE, the boundaries of segments and the predicted period (R43, R45, R48, R49), and the statements about them.
-/

namespace Sys2Proof.Machine

variable {d d' : Device} {j : Nat} {f : Fld}

/-! ### PHASE and segments -/

theorem Device.phaseAt_stepStart : d.phaseAt d.time.stepStart = 0 := by
  rw [Device.phaseAt, Nat.sub_self, Nat.zero_mul, Nat.zero_div, Nat.min_zero]

theorem Device.phaseAt_pred (h : 0 < d.pred) : d.phaseAt (d.time.stepStart + d.pred) = 65535 := by
  rw [Device.phaseAt, Nat.add_sub_cancel_left, Nat.max_eq_right h, Nat.mul_div_cancel_left _ h]
  rfl

theorem Device.allTables_of_none (h : d.plan.active = none) : d.allTables = [] := by
  unfold Device.allTables
  rw [h]

theorem Device.embLate_of_none (h : d.plan.active = none) : d.embLate = d := by
  unfold Device.embLate
  rw [Device.allTables_of_none h]
  rfl

theorem Device.embNight_of_none (h : d.plan.active = none) : d.embNight = d := by
  unfold Device.embNight
  rw [Device.allTables_of_none h]
  rfl

/-- The patrol burst that Night begins concerns the memory system alone. -/
theorem Device.beginBurst_frame : d.beginBurst = { d with memu := d.beginBurst.memu } := by
  unfold Device.beginBurst
  split <;> rfl

/-- Settles O16: each boundary moves the clock and the number of boundaries passed. -/
theorem phaseAndSegments : Obligations.PhaseAndSegments := by
  refine ⟨fun d h => ⟨Device.phaseAt_pred h, Device.phaseAt_stepStart⟩, ?saturate, ?first, ?last⟩
  case saturate =>
    exact .of_upd (fun s => show execPhaseSaturate s = _ from rfl) (fun _ h => h) fun d _ => ⟨rfl, rfl, rfl⟩
  case first =>
    refine .of_upd_eq
      (g := fun d => (d.reachPhase (if d.time.segSeen = 0 then d.b1 else d.b2)).updTime (fun u => { u with segSeen := u.segSeen + 1 }))
      (fun s => show execSegmentBoundary s = _ from rfl) (fun _ h => h.1) (fun d ⟨_, h⟩ => ?_) fun d _ => ⟨rfl, rfl, rfl⟩
    have h01 : d.time.segSeen = 0 ∨ d.time.segSeen = 1 := by omega
    rcases h01 with h | h <;> simp [h, Device.reachPhase, Device.updTime]
  case last =>
    refine .of_upd_eq (g := fun d => ((d.reachPhase d.b3).updTime (fun u => { u with segSeen := 3 })).beginBurst)
      (fun s => show execSegmentBoundary s = _ from rfl) (fun _ h => h.1) (fun d ⟨_, h, hp, _⟩ => ?_) fun d _ => ?_
    · simp only [h]
      have hp' : ((d.reachPhase d.b3).updTime (fun u => { u with segSeen := 3 })).plan.active = none := hp
      rw [Device.embLate_of_none hp', Device.embNight_of_none hp']
    · rw [Device.beginBurst_frame]
      exact ⟨rfl, rfl⟩

/-! ### The prediction (R43) -/

/-- A field at the bottom of a register after a number that fits in it is stored in the register. -/
theorem Device.fld_setReg_ofNat {x : Nat} (h : d.regsWf) (hf : f.lo = 0 ∧ f.w ≤ 64) (hx : x < 2 ^ f.w) :
    (d.setReg j (BitVec.ofNat 64 x)).fld j f = x := by
  have h64 : x < 2 ^ 64 := Nat.lt_of_lt_of_le hx (Nat.pow_le_pow_right (by decide) hf.2)
  rw [Device.fld, Device.reg_setReg_self _ _ h, BitVec.toNat_ofNat, Nat.mod_eq_of_lt h64, hf.1, bitsOf, Nat.pow_zero, Nat.div_one,
    Nat.mod_eq_of_lt hx]

theorem mem_insertBy {β : Type} {key : β → Nat} {x y : β} {l : List β} (h : x ∈ insertBy key y l) : x = y ∨ x ∈ l := by
  induction l with
  | nil => simpa [insertBy] using h
  | cons z r ih =>
    unfold insertBy at h
    split at h
    · simpa using h
    · rcases List.mem_cons.1 h with h | h
      · exact .inr (h ▸ List.mem_cons_self ..)
      · exact (ih h).imp_right (List.mem_cons_of_mem _)

theorem mem_sortBy {β : Type} {key : β → Nat} {x : β} {l : List β} (h : x ∈ sortBy key l) : x ∈ l := by
  have hfold : ∀ (l acc : List β), x ∈ l.foldl (fun acc x => insertBy key x acc) acc → x ∈ acc ∨ x ∈ l := by
    intro l
    induction l with
    | nil => exact fun _ h => .inl h
    | cons y r ih =>
      intro acc h
      rcases ih _ h with h | h
      · rcases mem_insertBy h with rfl | h
        · exact .inr (List.mem_cons_self ..)
        · exact .inl h
      · exact .inr (List.mem_cons_of_mem _ h)
  simpa using hfold l [] h

theorem getD_lt {l : List Nat} {n : Nat} (h : ∀ x ∈ l, x < n) (hn : 0 < n) (i : Nat) : l.getD i 0 < n := by
  rw [List.getD_eq_getElem?_getD]
  cases hi : l[i]? with
  | none => exact hn
  | some x => exact h x (List.mem_of_getElem? hi)

/-- The history after a mark (R43): an interval joins it when the mark's source is that of the mark before. -/
def Device.historyAfter (d : Device) (m : PendingMark) : List Nat :=
  if m.src = d.time.lastSource then d.time.history.drop 1 ++ [min 0xFFFF_FFFF (m.time - d.time.stepStart)] else d.time.history

/-- The predicted period of a history (R43): the mean of the fourth and the fifth of it in order, and at least 1. -/
def meanOfMiddle (h : List Nat) : Nat := max 1 (((sortBy id h).getD 3 0 + (sortBy id h).getD 4 0) / 2)

theorem meanOfMiddle_lt {h : List Nat} (hh : ∀ x ∈ h, x < 2 ^ 32) : meanOfMiddle h < 2 ^ 32 := by
  have hs : ∀ x ∈ sortBy id h, x < 2 ^ 32 := fun x hx => hh x (mem_sortBy hx)
  have h3 := getD_lt hs (by decide) 3
  have h4 := getD_lt hs (by decide) 4
  unfold meanOfMiddle
  omega

theorem Device.historyAfter_lt (m : PendingMark) (h : ∀ x ∈ d.time.history, x < 2 ^ 32) : ∀ x ∈ d.historyAfter m, x < 2 ^ 32 := by
  intro x hx
  unfold Device.historyAfter at hx
  split at hx
  · rcases List.mem_append.1 hx with hx | hx
    · exact h x (List.mem_of_mem_drop hx)
    · rw [List.mem_singleton] at hx
      omega
  · exact h x hx

/-- The registers that the prediction writes before PRED_NS: what they leave of the device. -/
theorem Device.predict_eq (m : PendingMark) : ∃ e : Device, d.predict m =
    (e.updTime (fun u => { u with history := d.historyAfter m })).setReg Reg.CAD_PRED_PERIOD (BitVec.ofNat 64 (meanOfMiddle (d.historyAfter m))) ∧
    e = { d with regs := e.regs } ∧ d.sameRegsBut e [Reg.CAD_STATUS, Reg.CAD_LAST_INTERVAL] ∧ (d.regsWf → e.regsWf) := by
  unfold Device.predict
  extract_lets interval same h s fill d1 d2
  have hwf1 : d.regsWf → d1.regsWf := fun hwf => Device.setFld_regsWf _ _ _ (Device.setFld_regsWf _ _ _ hwf)
  have hreg1 : ∀ j, j ≠ Reg.CAD_STATUS → d1.reg j = d.reg j := fun j hj =>
    (Device.reg_setFld_of_ne _ _ hj).trans (Device.reg_setFld_of_ne _ _ hj)
  refine ⟨d2, rfl, ?_, fun j hj => ?_, fun hwf => ?_⟩
  · unfold d2
    split <;> rfl
  · obtain ⟨hs, hi⟩ : j ≠ Reg.CAD_STATUS ∧ j ≠ Reg.CAD_LAST_INTERVAL := by simpa using hj
    unfold d2
    split
    · exact hreg1 j hs
    · exact (Device.reg_setReg_of_ne _ hi).trans (hreg1 j hs)
  · unfold d2
    split
    · exact hwf1 hwf
    · exact Device.setReg_regsWf _ _ (hwf1 hwf)

/-- Settles O14: no interval, and so no mean of two, is too large for PRED_NS. -/
theorem thePredictionIsTheMiddleOfTheHistory : Obligations.ThePredictionIsTheMiddleOfTheHistory := by
  intro d m hwf _ hlt
  show (d.predict m).time.history = d.historyAfter m ∧ (d.predict m).pred = meanOfMiddle (d.historyAfter m)
  obtain ⟨e, he, hframe, -, hewf⟩ := Device.predict_eq (d := d) m
  rw [he]
  refine ⟨rfl, ?_⟩
  exact Device.fld_setReg_ofNat (d := e.updTime _) (hewf hwf) (by decide) (meanOfMiddle_lt (Device.historyAfter_lt m hlt))

end Sys2Proof.Machine
end

section
/-!
SUPPORT. Accepted marks of a device at rest (R40, R45, R57): what the parts of a mark leave in a device without plan, tasks, tables and group,
and the statement about them.
-/

namespace Sys2Proof.Machine

variable {d d' : Device}

theorem Device.judgeStep_frame (m : PendingMark) : d.judgeStep m = { d with regs := (d.judgeStep m).regs } := by
  unfold Device.judgeStep
  extract_lets d1
  have h1 : d1 = { d with regs := d1.regs } := by
    unfold d1
    split <;> rfl
  split
  · rw [h1]
    rfl
  · exact h1

theorem Device.judgeStep_sameRegsBut (m : PendingMark) : d.sameRegsBut (d.judgeStep m) [Reg.CAD_EARLY_COUNT, Reg.CAD_OVERRUN_COUNT] := by
  intro j hj
  obtain ⟨he, ho⟩ : j ≠ Reg.CAD_EARLY_COUNT ∧ j ≠ Reg.CAD_OVERRUN_COUNT := by simpa using hj
  unfold Device.judgeStep
  extract_lets d1
  have h1 : d1.reg j = d.reg j := by
    unfold d1
    split
    · exact Device.reg_setFld_of_ne _ _ he
    · rfl
  split
  · exact (Device.reg_setFld_of_ne _ _ ho).trans h1
  · exact h1

theorem Device.judgeStep_regsWf (m : PendingMark) (h : d.regsWf) : (d.judgeStep m).regsWf := by
  unfold Device.judgeStep
  extract_lets d1
  have h1 : d1.regsWf := by
    unfold d1
    split
    · exact Device.bumpBy_regsWf _ _ _ h
    · exact h
  split
  · exact Device.bumpBy_regsWf _ _ _ h1
  · exact h1

theorem Device.packConfig_of_none (h : d.plan.active = none) (die k : Nat) : d.packConfig die k = none := by
  unfold Device.packConfig Device.stationCfg
  rw [h]
  rfl

/-- Without a plan no Pack unit is active, so a mark finds none. -/
theorem Device.packMark_of_none (h : d.plan.active = none) : d.packMark = d := by
  refine List.foldl_fixed' (fun i => ?_) _
  simp only [Device.packConfig_of_none h]

/-- The registers that the beginning of a step writes (R40, R43, R44, R48, R57). -/
def stepRegs : List Nat :=
  [Reg.CAD_STATUS, Reg.CAD_LAST_INTERVAL, Reg.CAD_PRED_PERIOD, Reg.STEP_NUM, Reg.CAD_LAST_MARK_CAL, Reg.SEG_BOUNDS]

theorem Device.predict_frame (m : PendingMark) : d.predict m = { d with regs := (d.predict m).regs, time := (d.predict m).time } := by
  obtain ⟨e, he, hframe, -, -⟩ := Device.predict_eq (d := d) m
  rw [he, hframe]
  rfl

theorem Device.predict_sameRegsBut (m : PendingMark) :
    d.sameRegsBut (d.predict m) [Reg.CAD_STATUS, Reg.CAD_LAST_INTERVAL, Reg.CAD_PRED_PERIOD] := by
  intro j hj
  obtain ⟨hs, hi, hp⟩ : j ≠ Reg.CAD_STATUS ∧ j ≠ Reg.CAD_LAST_INTERVAL ∧ j ≠ Reg.CAD_PRED_PERIOD := by simpa using hj
  obtain ⟨e, he, -, hsame, -⟩ := Device.predict_eq (d := d) m
  rw [he, Device.reg_setReg_of_ne _ hp]
  exact hsame j (by simp [hs, hi])

theorem Device.predict_regsWf (m : PendingMark) (h : d.regsWf) : (d.predict m).regsWf := by
  obtain ⟨e, he, -, -, hwf⟩ := Device.predict_eq (d := d) m
  rw [he]
  exact Device.setReg_regsWf (d := e.updTime _) _ _ (hwf h)

theorem Device.predict_time (m : PendingMark) : (d.predict m).time = { d.time with history := d.historyAfter m } := by
  obtain ⟨e, he, hframe, -, -⟩ := Device.predict_eq (d := d) m
  rw [he, hframe]
  rfl

/-- What the beginning of a step leaves (R40, R45, R57). -/
theorem Device.beginStep_post (m : PendingMark) (h : d.regsWf) (he : d' = d.beginStep m) :
    d'.stepNum = (d.stepNum + 1) % 2 ^ 32 ∧ d'.reg Reg.CAD_LAST_MARK_CAL = BitVec.ofNat 64 m.cal ∧ d'.time.stepStart = m.time ∧
    d'.time.lastSource = m.src ∧ d'.time.pending = d.time.pending.drop 1 ∧ d'.time.saturated = false ∧
    d' = { d with regs := d'.regs, time := d'.time } ∧ d.sameRegsBut d' stepRegs := by
  subst he
  unfold Device.beginStep
  extract_lets ticks d1 d2 d3
  have hwf1 : d1.regsWf := Device.predict_regsWf m h
  have hnum1 : d1.stepNum = d.stepNum := Device.fld_of_reg (Device.predict_sameRegsBut m _ (by decide))
  have hnum2 : d2.stepNum = (d1.stepNum + 1) % 2 ^ 32 :=
    (Device.fld_of_reg (Device.reg_setReg_of_ne _ (by decide))).trans
      (Device.fld_setReg_ofNat hwf1 (by decide) (Nat.mod_lt _ (by decide)))
  have hcal2 : d2.reg Reg.CAD_LAST_MARK_CAL = BitVec.ofNat 64 m.cal := Device.reg_setReg_self _ _ (Device.setReg_regsWf _ _ hwf1)
  have hsame3 : ∀ j, j ≠ Reg.SEG_BOUNDS → d3.reg j = d2.reg j := by
    intro j hj
    unfold d3
    split
    · exact Device.reg_setReg_of_ne _ hj
    · rfl
  have hframe3 : d3 = { d with regs := d3.regs, time := d1.time } := by
    have h3 : d3 = { d1 with regs := d3.regs } := by
      unfold d3
      split <;> rfl
    have h1 : d1 = { d with regs := d1.regs, time := d1.time } := Device.predict_frame m
    rw [h3, h1]
  have htime3 : d3.time.pending = d.time.pending := by
    rw [hframe3]
    show d1.time.pending = _
    rw [show d1.time = _ from Device.predict_time m]
  refine ⟨?_, ?_, rfl, rfl, ?_, rfl, ?_, ?_⟩
  · exact (Device.fld_of_reg (hsame3 _ (by decide))).trans (hnum2.trans (by rw [hnum1]))
  · exact (hsame3 _ (by decide)).trans hcal2
  · show d3.time.pending.drop 1 = _
    rw [htime3]
  · rw [hframe3]
    rfl
  · intro j hj
    obtain ⟨hs, hi, hp, hn, hc, hb⟩ : j ≠ Reg.CAD_STATUS ∧ j ≠ Reg.CAD_LAST_INTERVAL ∧ j ≠ Reg.CAD_PRED_PERIOD ∧ j ≠ Reg.STEP_NUM ∧
      j ≠ Reg.CAD_LAST_MARK_CAL ∧ j ≠ Reg.SEG_BOUNDS := by simpa [stepRegs] using hj
    calc d3.reg j = d2.reg j := hsame3 j hb
      _ = d1.reg j := (Device.reg_setReg_of_ne _ hc).trans (Device.reg_setReg_of_ne _ hn)
      _ = d.reg j := Device.predict_sameRegsBut m j (by simp [hs, hi, hp])

/-- A device at rest: no plan, no switch, no task and no table, no parking under way and no group. -/
structure Device.AtRest (d : Device) : Prop where
  active : d.plan.active = none
  switch : d.plan.switch = .none
  shadow : d.shadowState ≠ 3
  tasks : d.str.tasks = []
  tables : d.emb = []
  parking : d.host.parkCause = none
  group : d.groupEnabled = false

/-- Rest does not depend on the cadence unit, the patrol burst or registers other than those of the slots and the group. -/
theorem Device.AtRest.of_frame {l : List Nat} (h : d.AtRest) (hf : d' = { d with regs := d'.regs, time := d'.time, memu := d'.memu })
    (hr : d.sameRegsBut d' l) (hl : Reg.PLAN_SLOT_STATE ∉ l ∧ Reg.GROUP_CTRL ∉ l) : d'.AtRest := by
  obtain ⟨ha, hs, hsh, ht, he, hp, hg⟩ := h
  have hsh' : d'.shadowState = d.shadowState := Device.fld_of_reg (hr _ hl.1)
  have hg' : d'.groupEnabled = d.groupEnabled := by
    unfold Device.groupEnabled
    rw [Device.fld_of_reg (hr _ hl.2)]
  refine ⟨?_, ?_, hsh' ▸ hsh, ?_, ?_, ?_, hg'.trans hg⟩ <;> rw [hf] <;> assumption

theorem Device.carryTasks_of_rest (h : d.AtRest) : d.carryTasks = d := by
  unfold Device.carryTasks
  rw [h.tasks]
  rfl

theorem Device.carrySwitch_of_rest (h : d.AtRest) (ended : Nat) : d.carrySwitch ended = d := by
  unfold Device.carrySwitch
  simp only [h.switch, h.shadow, decide_false, Bool.false_and, Bool.false_eq_true, if_false]

theorem Device.park_of_rest (h : d.AtRest) : d.park = d := by
  unfold Device.park
  simp only [h.parking]

theorem Device.sendCadence_of_rest (h : d.AtRest) (cal age : Nat) : d.sendCadence cal age = d := by
  unfold Device.sendCadence
  simp only [h.group, Bool.false_and, Bool.false_eq_true, if_false]

theorem Device.embCarry_of_rest (h : d.AtRest) : d.embCarry = (d, false) := by
  unfold Device.embCarry
  simp only [h.tables, List.any_nil, Map.mapVals, List.map_nil]
  rw [← h.tables]

/-- A mark carries no table of a device at rest, and may carry its patrol burst. -/
theorem Device.carryNight_of_rest (h : d.AtRest) (reached : Bool) :
    d.carryNight reached = { d with regs := (d.carryNight reached).regs, memu := (d.carryNight reached).memu } ∧
    d.sameRegsBut (d.carryNight reached) [Reg.CAD_NIGHT_OVERRUN_COUNT] := by
  have hburst : (if reached then d else d.embNight.beginBurst) =
      { d with memu := (if reached then d else d.embNight.beginBurst).memu } := by
    rw [Device.embNight_of_none h.active]
    split
    · rfl
    · exact Device.beginBurst_frame
  unfold Device.carryNight
  rw [Device.embCarry_of_rest h]
  simp only
  generalize (if reached = true then d else d.embNight.beginBurst) = e at hburst ⊢
  split
  · refine ⟨?_, fun j hj => ?_⟩
    · rw [hburst]
      rfl
    · refine (Device.reg_setFld_of_ne _ _ (by simpa using hj)).trans ?_
      rw [hburst]
      rfl
  · refine ⟨?_, fun j hj => ?_⟩
    · rw [hburst]
    · rw [hburst]
      rfl

theorem Device.followStep_of_rest {m : PendingMark} (h : m.step = none) :
    d.followStep m = { d with regs := (d.followStep m).regs } ∧ d.sameRegsBut (d.followStep m) [Reg.GROUP_STEP_DELTA] := by
  unfold Device.followStep
  simp only [h]
  split
  · exact ⟨rfl, fun j hj => Device.reg_setFld_of_ne _ _ (by simpa using hj)⟩
  · exact ⟨rfl, fun _ _ => rfl⟩

/-- Whether a new step is held is noted in the cadence unit and the registers of the group. -/
theorem Device.holdStep_frame : d.holdStep =
    { d with regs := d.holdStep.regs, time := { d.time with held := d.holdStep.time.held } } ∧
    d.sameRegsBut d.holdStep [Reg.GROUP_STATUS, Reg.GROUP_HOLD_COUNT] := by
  unfold Device.holdStep
  extract_lets missing e
  have hframe : e = { d with regs := e.regs } := by
    unfold e
    split <;> rfl
  refine ⟨?_, fun j hj => ?_⟩
  · rw [hframe]
    rfl
  · obtain ⟨hs, hc⟩ : j ≠ Reg.GROUP_STATUS ∧ j ≠ Reg.GROUP_HOLD_COUNT := by simpa using hj
    show e.reg j = d.reg j
    unfold e
    split
    · exact (Device.reg_setFld_of_ne _ _ hc).trans (Device.reg_setFld_of_ne _ _ hs)
    · exact Device.reg_setFld_of_ne _ _ hs

/-- What is left of a mark, once the step has begun, in a device at rest. -/
def Device.settleMark (d : Device) (m : PendingMark) (reached : Bool) : Device := ((d.followStep m).carryNight reached).holdStep

/-- The registers that are left to write once the step has begun. -/
def settleRegs : List Nat := [Reg.GROUP_STEP_DELTA, Reg.CAD_NIGHT_OVERRUN_COUNT, Reg.GROUP_STATUS, Reg.GROUP_HOLD_COUNT]

theorem Device.sameRegsBut_mono {l l' : List Nat} (h : d.sameRegsBut d' l) (hl : l ⊆ l') : d.sameRegsBut d' l' :=
  fun j hj => h j fun hm => hj (hl hm)

theorem Device.AtRest.followStep {m : PendingMark} (h : d.AtRest) (hm : m.step = none) : (d.followStep m).AtRest := by
  obtain ⟨hframe, hsame⟩ := Device.followStep_of_rest (d := d) hm
  exact h.of_frame (by rw [hframe]) hsame (by decide)

theorem Device.AtRest.carryNight {reached : Bool} (h : d.AtRest) : (d.carryNight reached).AtRest := by
  obtain ⟨hframe, hsame⟩ := Device.carryNight_of_rest h reached
  exact h.of_frame (by rw [hframe]) hsame (by decide)

theorem Device.AtRest.holdStep (h : d.AtRest) : d.holdStep.AtRest := by
  obtain ⟨hframe, hsame⟩ := Device.holdStep_frame (d := d)
  exact h.of_frame (by rw [hframe]) hsame (by decide)

theorem Device.AtRest.judgeStep {m : PendingMark} (h : d.AtRest) : (d.judgeStep m).AtRest :=
  h.of_frame (by rw [Device.judgeStep_frame]) (Device.judgeStep_sameRegsBut m) (by decide)

theorem Device.AtRest.beginStep {m : PendingMark} (h : d.AtRest) (hwf : d.regsWf) : (d.beginStep m).AtRest := by
  obtain ⟨-, -, -, -, -, -, hframe, hsame⟩ := Device.beginStep_post m hwf rfl
  exact h.of_frame (by rw [hframe]) hsame (by decide)

theorem Device.settleMark_post {m : PendingMark} {reached : Bool} (h : d.AtRest) (hm : m.step = none) (he : d' = d.settleMark m reached) :
    d' = { d with regs := d'.regs, memu := d'.memu, time := { d.time with held := d'.time.held } } ∧ d.sameRegsBut d' settleRegs := by
  subst he
  obtain ⟨hf, hfr⟩ := Device.followStep_of_rest (d := d) hm
  obtain ⟨hn, hnr⟩ := Device.carryNight_of_rest (h.followStep hm) reached
  obtain ⟨hh, hhr⟩ := Device.holdStep_frame (d := (d.followStep m).carryNight reached)
  constructor
  · unfold Device.settleMark
    generalize ((d.followStep m).carryNight reached).holdStep = e3 at hh ⊢
    generalize (d.followStep m).carryNight reached = e2 at hn hh
    generalize d.followStep m = e1 at hf hn
    rw [hh, hn, hf]
  · exact Device.sameRegsBut_trans (Device.sameRegsBut_mono hfr (by decide))
      (Device.sameRegsBut_trans (Device.sameRegsBut_mono hnr (by decide)) (Device.sameRegsBut_mono hhr (by decide)))

/-- What an accepted mark does in a device at rest: its other parts leave the device as it is. -/
def Device.markAtRest (d : Device) (m : PendingMark) : Device :=
  (((d.at (m.time + 54)).judgeStep m).beginStep m).settleMark m (decide (3 ≤ d.time.segSeen))

/-- Settles O13: at rest only the judgement of the ended step, the beginning of the new one and what settles it are left, and the last of
these writes neither the times of the step nor its registers. -/
theorem anAcceptedMarkBeginsAStep : Obligations.AnAcceptedMarkBeginsAStep := by
  intro m ms
  refine .of_upd_eq (g := fun d => d.markAtRest m) (fun s => show execAcceptedMark s = _ from rfl) (fun _ h => h.1)
    (fun d ⟨_, hwf, hp, hm, ha, hs, hsh, ht, he, _, hpark, hg⟩ => ?body) fun d ⟨_, hwf, hp, hm, ha, hs, hsh, ht, he, _, hpark, hg⟩ => ?post
  case body =>
    have h0 : (d.at (m.time + 54)).AtRest := ⟨ha, hs, hsh, ht, he, hpark, hg⟩
    have h1 := h0.judgeStep (m := m)
    have h2 := h1.beginStep (m := m) (Device.judgeStep_regsWf (d := d.at _) m hwf)
    have h3 := h2.followStep hm
    have h4 := h3.carryNight (reached := decide (3 ≤ d.time.segSeen))
    have h5 := h4.holdStep
    simp only [hp, Device.at_time]
    rw [Device.packMark_of_none h1.active, Device.carryTasks_of_rest h3, Device.carrySwitch_of_rest h4, Device.park_of_rest h4,
      Device.sendCadence_of_rest h5]
    rfl
  case post =>
    have h0 : (d.at (m.time + 54)).AtRest := ⟨ha, hs, hsh, ht, he, hpark, hg⟩
    have hwf1 := Device.judgeStep_regsWf (d := d.at (m.time + 54)) m hwf
    have hnum : ((d.at (m.time + 54)).judgeStep m).stepNum = d.stepNum :=
      Device.fld_of_reg (Device.judgeStep_sameRegsBut (d := d.at (m.time + 54)) m _ (by decide))
    have hold : ((d.at (m.time + 54)).judgeStep m).time = d.time ∧ ((d.at (m.time + 54)).judgeStep m).mem = d.mem := by
      rw [Device.judgeStep_frame]
      exact ⟨rfl, rfl⟩
    obtain ⟨htime, hmem⟩ := hold
    obtain ⟨hstep, hcal, hstart, hsrc, hpend, hsat, hframe, -⟩ := Device.beginStep_post m hwf1 rfl
    obtain ⟨hset, hsame⟩ := Device.settleMark_post (m := m) (reached := decide (3 ≤ d.time.segSeen))
      (h0.judgeStep.beginStep (m := m) hwf1) hm rfl
    rw [← Device.markAtRest] at hset hsame
    have hstart' : (d.markAtRest m).time.stepStart = m.time := by rw [hset]; exact hstart
    refine ⟨?_, hstart', ?_, ?_, ?_, ?_, ?_, fun a => ?_⟩
    · exact (Device.fld_of_reg (hsame _ (by decide))).trans (by rw [← hnum]; exact hstep)
    · rw [hset]; exact hsrc
    · exact (hsame _ (by decide)).trans hcal
    · rw [hset]
      exact hpend.trans (by rw [htime, hp]; rfl)
    · rw [hset]; exact hsat
    · rw [← hstart']; exact Device.phaseAt_stepStart
    · rw [hset, hframe]
      exact congrArg (memRead · a) hmem

end Sys2Proof.Machine
end

section
/-!
SUPPORT. Steps of the machine (R39, R440, R519): what an idle step does to ports, Pack batches and the timebase, and the statement that a
step runs the command at the front of the queue.
-/

namespace Sys2Proof.Machine

variable {d d' : Device}

theorem Device.at_later {t : Nat} (h : d.now ≤ t) : d.at t = { d with now := t } := by
  rw [Device.at, Nat.max_eq_right h]

/-- A flit that leaves a port changes the ports and the record of what left. -/
theorem Device.sendFlit_frame (p : Nat) (f : Flit) : d.sendFlit p f = { d with
    link := { d.link with ports := (d.sendFlit p f).link.ports }, out := (d.sendFlit p f).out } := by
  unfold Device.sendFlit
  split <;> rfl

theorem Device.idleFlits_frame : d.idleFlits = { d with
    link := { d.link with ports := d.idleFlits.link.ports }, out := d.idleFlits.out } := by
  unfold Device.idleFlits
  refine List.foldlRecOn (motive := fun (e : Device) => e = { d with link := { d.link with ports := e.link.ports }, out := e.out }) _ _ rfl ?_
  intro e he p _
  extract_lets u
  split
  · rw [Device.sendFlit_frame, he]
  · exact he

/-- Where every port that is up has sent within 64 ns no IDLE flit leaves (R440). -/
theorem Device.idleFlits_of_busy
    (h : ∀ p < 8, d.portAlanauri p = true → d.portUp p = true → d.now < (d.portUnit p).lastTx + 64) : d.idleFlits = d := by
  unfold Device.idleFlits
  refine List.foldlRecOn (motive := fun (e : Device) => e = d) _ _ rfl ?_
  rintro e rfl p hp
  refine if_neg fun hsend => ?_
  simp only [Bool.and_eq_true, decide_eq_true_eq] at hsend
  obtain ⟨⟨hal, hup⟩, hdue⟩ := hsend
  have := h p (List.mem_range.1 hp) hal hup
  omega

/-- Where no batch waits to be closed the end of a cycle closes none (R274). -/
theorem Device.packTick_of_open (h : ∀ e ∈ d.pack, ∀ b ∈ e.2.openB, b.full = none) : d.packTick = d := by
  unfold Device.packTick
  refine List.foldlRecOn (motive := fun (e : Device) => e = d) _ _ rfl ?_
  rintro e rfl x hx
  have hall : x.2.openB.all (fun b => b.full.isNone) = true :=
    List.all_eq_true.2 fun b hb => by rw [h x hx b hb]; rfl
  simp only [hall, if_true]

theorem step_front (c : Instr) (s : State) : step (s.front c) = exec c s := rfl

theorem step_idle {s : State} (h : s.pending = []) : step s = .next s.tick := by
  unfold step
  rw [h]

/-- Settles O1: with no batch to close an idle step is the end of the TAP's steps, 1 ns and the IDLE flits that are due. -/
theorem stepRunsTheFrontCommand : Obligations.StepRunsTheFrontCommand := by
  refine ⟨step_front, fun s hs => ⟨s.tick, step_idle hs, hs, fun hpack => ?_⟩⟩
  have htick : s.tick.dev = (s.dev.stepsOver.at (s.dev.now + 1)).idleFlits := by
    rw [State.tick, Device.packTick_of_open hpack]
  have hat : s.dev.stepsOver.at (s.dev.now + 1) = { s.dev with
      now := s.dev.now + 1, mgmt := { s.dev.mgmt with tap := { s.dev.mgmt.tap with stationSteps := [] } } } :=
    Device.at_later (d := s.dev.stepsOver) (Nat.le_succ s.dev.now)
  rw [htick]
  refine ⟨?_, fun hbusy => ?_⟩
  · rw [Device.idleFlits_frame, hat]
  · rw [Device.idleFlits_of_busy, hat]
    rw [hat]
    exact hbusy

end Sys2Proof.Machine
end

section
/-!
SUPPORT. Responses and announcements (R513, R520 to R522): what a written message leaves of the device, and a command that answers at once.
-/

namespace Sys2Proof.Machine

variable {d d' e : Device} {m : MsgRef} {op status : Nat} {payload : List Byte}

/-- A meaning built by `cmd` whose device function comes to a simpler one completes where the command has its turn (R519, log 45). -/
theorem Completes.of_cmd_eq {c : Instr} {pre : Device → Prop} {post : Device → Device → Prop} {f g : Device → Device} {is : List Byte → Bool}
    (hc : ∀ s, exec c s = s.cmd m op is f) (hr : ∀ d, pre d → d.runs ∧ d.turn m op is = true) (he : ∀ d, pre d → f d = g d)
    (hp : ∀ d, pre d → post d (g d)) : Completes c pre post :=
  .of_upd_eq hc (fun d h => (hr d h).1) (fun d h => (if_pos (hr d h).2).trans (he d h)) hp

/-! ### Writing a message (R513, R521) -/

theorem Device.vector0_frame : d.vector0 = { d with host := d.vector0.host, out := d.vector0.out } := by
  unfold Device.vector0
  extract_lets
  split
  · rw [Device.signal_frame]
  · rfl

theorem Device.signal_d2h (v : Nat) : (d.signal v).host.d2h = d.host.d2h := by
  unfold Device.signal
  split
  · rfl
  · split <;> rfl

theorem Device.vector0_d2h : d.vector0.host.d2h = d.host.d2h := by
  unfold Device.vector0
  extract_lets
  split
  · exact Device.signal_d2h (d := { d with host := _ }) 0
  · rfl

/-- A written message leaves the device as it was but for the host interface, its two registers and what left the device. -/
theorem Device.writeD2h_frame (r : D2hMsg) :
    d.writeD2h r = { d with regs := (d.writeD2h r).regs, host := (d.writeD2h r).host, out := (d.writeD2h r).out } := by
  unfold Device.writeD2h
  extract_lets
  rw [Device.vector0_frame]
  rfl

theorem Device.writeD2h_sameRegsBut (r : D2hMsg) : d.sameRegsBut (d.writeD2h r) answerRegs := by
  intro j hj
  obtain ⟨hp, hs⟩ : j ≠ Reg.MB_D2H_POS ∧ j ≠ Reg.MB_DSEQ_NEXT := by simpa [answerRegs] using hj
  exact (Device.reg_congr (Device.vector0_regs _)).trans ((Device.reg_setFld_of_ne _ _ hs).trans (Device.reg_setFld_of_ne _ _ hp))

/-- The message stands at the ring position, and the position and the D-seq move on by one (R521). -/
theorem Device.writeD2h_post (r : D2hMsg) (h : d.regsWf) :
    (d.writeD2h r).host.d2h.get? (d.fld Reg.MB_D2H_POS ⟨0, 32⟩ % 16384) =
      some { r with dseq := d.fld Reg.MB_DSEQ_NEXT ⟨0, 32⟩, pos := d.fld Reg.MB_D2H_POS ⟨0, 32⟩, step := d.stepNum } ∧
    (d.writeD2h r).fld Reg.MB_D2H_POS ⟨0, 32⟩ = (d.fld Reg.MB_D2H_POS ⟨0, 32⟩ + 1) % 2 ^ 32 ∧
    (d.writeD2h r).fld Reg.MB_DSEQ_NEXT ⟨0, 32⟩ = (d.fld Reg.MB_DSEQ_NEXT ⟨0, 32⟩ + 1) % 2 ^ 32 := by
  unfold Device.writeD2h
  extract_lets pos dseq r' _ d1
  have h1 : d1.regsWf := h
  have h2 : (d1.setFld Reg.MB_D2H_POS ⟨0, 32⟩ (pos + 1)).regsWf := Device.setFld_regsWf _ _ _ h1
  refine ⟨?_, ?_, ?_⟩
  · rw [Device.vector0_d2h]
    exact Map.get?_put_self _ _ _
  · rw [Device.fld_congr (Device.vector0_regs _), Device.fld_setFld_of_ne _ _ _ (by decide), Device.fld_setFld_self _ _ _ h1 (by decide)]
  · rw [Device.fld_congr (Device.vector0_regs _), Device.fld_setFld_self _ _ _ h2 (by decide)]

/-! ### Responses (R520) -/

/-- The device with the message taken from its class queue: what a response is written to. -/
def Device.unqueue (d : Device) (m : MsgRef) (op : Nat) : Device :=
  let q := (d.host.classQ.getD (op / 4096) []).filter (fun x => x.hseq != m.hseq)
  { d with host := { d.host with classQ := d.host.classQ.put (op / 4096) q } }

/-- The response to a message, before it takes its place in the ring. -/
def responseMsg (m : MsgRef) (op status : Nat) (payload : List Byte) : D2hMsg :=
  { opcode := op, async := false, hseq := m.hseq, dseq := 0, pos := 0, status := status, cookie := m.cookie, step := 0, payload := payload }

/-- A response is dropped, written or held (R520, R521, R532). -/
theorem Device.respond_cases (m : MsgRef) (op status : Nat) (payload : List Byte) :
    d.respond m op status payload = (if m.hseq = orphan then d.unqueue m op
      else if d.d2hFree then (d.unqueue m op).writeD2h (responseMsg m op status payload)
      else (d.unqueue m op).updHost (fun h => { h with heldResp := h.heldResp ++ [responseMsg m op status payload] })) := rfl

/-- A response leaves the device as it was but for the host interface, its two registers and what left the device. -/
theorem Device.respond_frame (m : MsgRef) (op status : Nat) (payload : List Byte) : d.respond m op status payload = { d with
    regs := (d.respond m op status payload).regs, host := (d.respond m op status payload).host, out := (d.respond m op status payload).out } := by
  rw [Device.respond_cases]
  split
  · rfl
  · split
    · rw [Device.writeD2h_frame]
      rfl
    · rfl

theorem Device.respond_sameRegsBut (m : MsgRef) (op status : Nat) (payload : List Byte) :
    d.sameRegsBut (d.respond m op status payload) answerRegs := by
  rw [Device.respond_cases]
  split
  · exact fun _ _ => rfl
  · split
    · exact Device.writeD2h_sameRegsBut (d := d.unqueue m op) _
    · exact fun _ _ => rfl

theorem Device.regsWf_of_canAnswer (h : d.canAnswer m) : d.regsWf := h.2.2

theorem Device.respond_answered (status : Nat) (payload : List Byte) (h : d.canAnswer m) :
    d.answered (d.respond m op status payload) m op status payload := by
  obtain ⟨hm, hfree, hwf⟩ := h
  rw [Device.respond_cases, if_neg hm, if_pos hfree]
  exact Device.writeD2h_post (d := d.unqueue m op) _ hwf

/-- The registers on which an answer depends. -/
def answerReads : List Nat := [Reg.MB_D2H_POS, Reg.MB_D2H_ACKED, Reg.MB_DSEQ_NEXT, Reg.STEP_NUM]

theorem Device.canAnswer_of_sameRegs (h : d.canAnswer m) (hs : ∀ j ∈ answerReads, e.reg j = d.reg j) (hwf : e.regsWf) : e.canAnswer m := by
  obtain ⟨hm, hfree, -⟩ := h
  refine ⟨hm, ?_, hwf⟩
  unfold Device.d2hFree at hfree ⊢
  rwa [Device.fld_of_reg (hs _ (by decide)), Device.fld_of_reg (hs Reg.MB_D2H_ACKED (by decide))]

/-- A device that differs from one that can answer in other registers answers as that one would. -/
theorem Device.respond_answered_of (status : Nat) (payload : List Byte) (h : d.canAnswer m) (hs : ∀ j ∈ answerReads, e.reg j = d.reg j)
    (hwf : e.regsWf) : d.answered (e.respond m op status payload) m op status payload := by
  have hans := Device.respond_answered (op := op) status payload (Device.canAnswer_of_sameRegs h hs hwf)
  have hstep : e.stepNum = d.stepNum := Device.fld_of_reg (hs _ (by decide))
  unfold Device.answered at hans
  rwa [hstep, Device.fld_of_reg (hs Reg.MB_D2H_POS (by decide)), Device.fld_of_reg (hs Reg.MB_DSEQ_NEXT (by decide))] at hans

/-- A register that an answer does not move. -/
theorem Device.respond_fld {j : Nat} {f : Fld} (hj : j ∉ answerRegs) : (d.respond m op status payload).fld j f = d.fld j f :=
  Device.fld_of_reg (Device.respond_sameRegsBut m op status payload j hj)

/-! ### Unsolicited messages (R522) -/

/-- The registers that an unsolicited message moves. -/
def announceRegs : List Nat := Reg.MB_DROPPED :: answerRegs

theorem Device.sendAsync_sameRegsBut (op : Nat) (payload : List Byte) : d.sameRegsBut (d.sendAsync op payload) announceRegs := by
  intro j hj
  obtain ⟨hd, ha⟩ : j ≠ Reg.MB_DROPPED ∧ j ∉ answerRegs := by simpa [announceRegs] using hj
  unfold Device.sendAsync
  extract_lets
  split
  · exact Device.writeD2h_sameRegsBut _ j ha
  · split
    · rfl
    · have hs : j ≠ Reg.MB_DSEQ_NEXT := fun h => ha (by simp [answerRegs, h])
      exact (Device.reg_setFld_of_ne _ _ hs).trans (Device.reg_setFld_of_ne _ _ hd)

end Sys2Proof.Machine
end

section
/-!
SUPPORT. Plan commands (R72 to R76, R83, R84, R90): what a refusal of a plan command, the display of the slots and an armed or withdrawn
switch leave, and the statements about the library and the slots.
-/

namespace Sys2Proof.Machine

variable {d d' e : Device} {m : MsgRef} {op status lib : Nat} {payload : List Byte} {p : Plan}

/-! ### Refusals of plan commands (R15, R17) -/

theorem Device.refuseAt_sameRegsBut (off bb code : Nat) : d.sameRegsBut (d.refuseAt off bb code) [off] :=
  fun j hj => (Device.reg_congr (Device.refuseAt_regs bb code)).trans (Device.setCodeCount_sameRegsBut _ _ j hj)

theorem Device.refuseAt_code (off bb code : Nat) (h : d.regsWf) : (d.refuseAt off bb code).fld off ⟨0, 16⟩ = code % 2 ^ 16 :=
  (Device.fld_congr (Device.refuseAt_regs bb code) _).trans (Device.setCodeCount_fields code _ h).1

theorem Device.refuseAt_regsWf (off bb code : Nat) (h : d.regsWf) : (d.refuseAt off bb code).regsWf := by
  rw [Device.regsWf, Device.refuseAt_regs]
  exact Device.setFld_regsWf _ _ _ (Device.setFld_regsWf _ _ _ h)

/-- The LAST_ERROR registers of the package. -/
def lastErrorRegs : List Nat := (List.range 18).map (lastErrorReg · 4)

theorem lastErrorReg_mem (bb : Nat) : lastErrorReg bb 4 ∈ lastErrorRegs := by
  unfold lastErrorReg
  split <;> decide

/-- What records the refusal of a plan command before PLAN_LAST_ERROR does: the block of a code of another block. -/
def Device.blamed (d : Device) (code : Nat) : Device := if code / 256 = 2 then d else d.refuse code

theorem Device.planError_eq (code : Nat) : d.planError code = (d.blamed code).refuseAt Reg.PLAN_LAST_ERROR 2 code := rfl

theorem Device.blamed_frame (code : Nat) : d.blamed code = { d with
    regs := (d.blamed code).regs, host := (d.blamed code).host, out := (d.blamed code).out } := by
  unfold Device.blamed
  split
  · rfl
  · rw [Device.refuse, Device.refuseAt_frame]

theorem Device.blamed_regsWf (code : Nat) (h : d.regsWf) : (d.blamed code).regsWf := by
  unfold Device.blamed
  split
  · exact h
  · exact Device.refuseAt_regsWf _ _ _ h

theorem Device.blamed_sameRegsBut (code : Nat) : d.sameRegsBut (d.blamed code) lastErrorRegs := by
  intro j hj
  unfold Device.blamed
  split
  · rfl
  · refine Device.refuseAt_sameRegsBut _ _ _ j fun h => hj ?_
    rw [List.mem_singleton.1 h]
    exact lastErrorReg_mem _

theorem Device.planError_frame (code : Nat) : d.planError code = { d with
    regs := (d.planError code).regs, host := (d.planError code).host, out := (d.planError code).out } := by
  rw [Device.planError_eq, Device.refuseAt_frame, Device.blamed_frame]

theorem Device.planError_regsWf (code : Nat) (h : d.regsWf) : (d.planError code).regsWf :=
  Device.refuseAt_regsWf _ _ _ (Device.blamed_regsWf code h)

theorem Device.planError_code (code : Nat) (h : d.regsWf) : (d.planError code).fld Reg.PLAN_LAST_ERROR ⟨0, 16⟩ = code % 2 ^ 16 :=
  Device.refuseAt_code _ _ _ (Device.blamed_regsWf code h)

theorem Device.planError_sameRegsBut (code : Nat) : d.sameRegsBut (d.planError code) lastErrorRegs :=
  fun j hj => (Device.refuseAt_sameRegsBut _ _ _ j fun h =>
    hj (List.mem_singleton.1 h ▸ lastErrorReg_mem 2)).trans (Device.blamed_sameRegsBut code j hj)

/-- A refused plan command: the response carries the code that PLAN_LAST_ERROR holds, and the plan unit is as it was. -/
theorem Device.planRefuse_post (code : Nat) (h : d.canAnswer m) (he : d' = d.planRefuse m op code) :
    d.answered d' m op code [] ∧ d'.fld Reg.PLAN_LAST_ERROR ⟨0, 16⟩ = code % 2 ^ 16 ∧
    d' = { d with regs := d'.regs, host := d'.host, out := d'.out } := by
  subst he
  have hwf := Device.planError_regsWf code (Device.regsWf_of_canAnswer h)
  have hsame : ∀ j ∈ answerReads, (d.planError code).reg j = d.reg j := fun j hj =>
    Device.planError_sameRegsBut code j ((by decide : ∀ j ∈ answerReads, j ∉ lastErrorRegs) j hj)
  refine ⟨Device.respond_answered_of code [] h hsame hwf, ?_, ?_⟩
  · exact (Device.respond_fld (by decide)).trans (Device.planError_code code (Device.regsWf_of_canAnswer h))
  · unfold Device.planRefuse
    rw [Device.respond_frame, Device.planError_frame]

/-! ### The library (R72 to R75) -/

/-- A change of the plan unit that is answered. -/
theorem Device.updPlan_respond_post {f : PlanUnit → PlanUnit} (h : d.canAnswer m) (he : d' = (d.updPlan f).respond m op status payload) :
    d'.plan = f d.plan ∧ d.answered d' m op status payload ∧ d.sameRegsBut d' answerRegs ∧
    d' = { d with plan := d'.plan, regs := d'.regs, host := d'.host, out := d'.out } := by
  subst he
  refine ⟨?_, ?_, ?_, ?_⟩
  · rw [Device.respond_plan, Device.updPlan_self]
  · exact Device.respond_answered_of (e := d.updPlan f) status payload h (fun _ _ => rfl) (Device.regsWf_of_canAnswer h)
  · exact Device.respond_sameRegsBut (d := d.updPlan f) m op status payload
  · rw [Device.respond_frame]
    rfl

/-- With the reads of a store in, nothing of it is waited for. -/
theorem noReads_of_all {rs : List ExtRead} {q : ExtRead → Bool} (h : rs.all (fun r => !q r) = true) : (rs.filter q).isEmpty = true := by
  simpa [List.filter_eq_nil_iff] using h

/-- Settles O18: each command comes to a change of the plan unit that is answered, or to a refusal of one. -/
theorem planLibraryCommands : Obligations.PlanLibraryCommands := by
  refine ⟨fun m lib src len => ?store, fun m lib b => ?admitted, fun m lib b c hc => ?refused, fun m lib => ?evict⟩
  case store =>
    refine .of_cmd_eq (g := fun d => d.updPlan (fun p => { p with storing := some (m, lib, d.read src len) }))
      (fun s => show execPlanStore m lib src len s = _ from rfl) (fun _ ⟨hruns, hturn, _⟩ => ⟨hruns, hturn⟩)
      (fun d ⟨_, _, hddr, hlib, hheld, hno, hmin, hmax, hsrc, hlocal, hpoison⟩ => ?_) fun _ _ => rfl
    rw [if_neg hddr, if_neg (Nat.not_lt.2 hlib), hheld, hno, Bool.or_self, if_neg Bool.false_ne_true,
      if_neg (by simp only [Bool.or_eq_true, decide_eq_true_eq]; omega), hsrc, if_neg (by decide)]
    simp only [Device.storeFrom, hlocal, hpoison, if_true, Bool.false_eq_true, if_false]
  case admitted =>
    refine .of_upd_eq (g := fun d => (d.updPlan (fun p => { p with
        storing := none, library := p.library.put lib b, libAlias := p.libAlias.del lib })).respond m 0x2001 0 [])
      (fun s => show execPlanStoreDone s = _ from rfl) (fun _ h => h.1) (fun d ⟨_, hs, hin, hcheck, _⟩ => ?_)
      fun d ⟨_, _, _, _, hans⟩ => Device.updPlan_respond_post hans rfl
    simp only [hs, noReads_of_all hin, Bool.not_true, Bool.false_eq_true, if_false]
    rw [show (d.updPlan _).ownerKeys = d.ownerKeys from rfl, hcheck]
    rfl
  case refused =>
    refine .of_upd_eq (g := fun d => (d.updPlan (fun p => { p with storing := none })).planRefuse m 0x2001 c)
      (fun s => show execPlanStoreDone s = _ from rfl) (fun _ h => h.1) (fun d ⟨_, hs, hin, hcheck, _⟩ => ?_)
      fun d ⟨_, _, _, _, hans⟩ => ?_
    · simp only [hs, noReads_of_all hin, Bool.not_true, Bool.false_eq_true, if_false]
      rw [show (d.updPlan _).ownerKeys = d.ownerKeys from rfl, hcheck]
    · obtain ⟨hmsg, hcode, hframe⟩ := Device.planRefuse_post (d := d.updPlan _) (op := 0x2001) c hans rfl
      refine ⟨?_, hmsg, hcode.trans (Nat.mod_eq_of_lt hc), ?_⟩
      · rw [hframe]
        rfl
      · rw [hframe]
        rfl
  case evict =>
    refine .of_cmd_eq (g := fun d => (d.updPlan (fun p => { p with
        library := p.library.del lib, libAlias := p.libAlias.del lib })).respond m 0x2005 0 [])
      (fun s => show execPlanEvict m lib s = _ from rfl) (fun _ ⟨hruns, hturn, _⟩ => ⟨hruns, hturn⟩) (fun d ⟨_, _, hlib, hheld, _⟩ => ?_)
      fun d ⟨_, _, _, _, hans⟩ => Device.updPlan_respond_post hans rfl
    rw [if_neg (Nat.not_lt.2 hlib), hheld, if_neg Bool.false_ne_true]

end Sys2Proof.Machine
end

section
/-!
SUPPORT. The plan slots (R72, R83, R84, R88, R90): what the registers of the slots show, what an armed switch that is given up leaves, and the
statement about PLAN_LOAD, PLAN_ARM and PLAN_DISARM.
-/

namespace Sys2Proof.Machine

variable {d d' e : Device} {m : MsgRef} {op status lib : Nat} {payload : List Byte} {p : Plan} {j x : Nat} {f : Fld}

/-! ### What the registers of the slots show (R90) -/

theorem Device.shadowState_setShadowState {st : Nat} (h : d.regsWf) (hst : st < 8) : (d.setShadowState st).shadowState = st :=
  (Device.fld_setFld_self _ _ _ h (by decide)).trans (Nat.mod_eq_of_lt hst)

theorem Device.setShadowState_regsWf (st : Nat) (h : d.regsWf) : (d.setShadowState st).regsWf := Device.setFld_regsWf _ _ _ h

theorem Device.setShadowState_sameRegsBut (st : Nat) : d.sameRegsBut (d.setShadowState st) [Reg.PLAN_SLOT_STATE] :=
  fun _ hj => Device.reg_setFld_of_ne _ _ (by simpa using hj)

/-- A field of the low 32 bits of a register that stores a number. -/
theorem Device.fld32_setReg (h : d.regsWf) : (d.setReg j (BitVec.ofNat 64 x)).fld j ⟨0, 32⟩ = x % 2 ^ 32 := by
  rw [Device.fld, Device.reg_setReg_self _ _ h, BitVec.toNat_ofNat]
  show x % 2 ^ 64 / 2 ^ 0 % 2 ^ 32 = x % 2 ^ 32
  omega

/-- The registers that show the shadow slot. -/
def shadowRegs : List Nat := [Reg.PLAN_SLOT_STATE, Reg.PLAN_REPLACED]

theorem Device.showShadow_sameRegsBut (o : Option Plan) : d.sameRegsBut (d.showShadow o) shadowRegs := by
  intro j hj
  obtain ⟨hs, hr⟩ : j ≠ Reg.PLAN_SLOT_STATE ∧ j ≠ Reg.PLAN_REPLACED := by simpa [shadowRegs] using hj
  cases o <;> exact (Device.reg_setReg_of_ne _ hr).trans (Device.reg_setFld_of_ne _ _ hs)

theorem Device.showShadow_frame (o : Option Plan) : d.showShadow o = { d with regs := (d.showShadow o).regs } := by
  cases o <;> rfl

theorem Device.showShadow_regsWf (o : Option Plan) (h : d.regsWf) : (d.showShadow o).regsWf := by
  cases o <;> exact Device.setReg_regsWf _ _ (Device.setFld_regsWf _ _ _ h)

/-- The display of a plan leaves SHADOW_STATE as it is. -/
theorem Device.showShadow_shadowState (o : Option Plan) (h : d.regsWf) : (d.showShadow o).shadowState = d.shadowState := by
  have hf : ∀ v, (d.setFld Reg.PLAN_SLOT_STATE Fd.PLAN_SLOT_STATE_SHADOW_INDEX v).shadowState = d.shadowState := fun v =>
    Device.fld_setFld_apart _ _ _ _ h (by decide) (by decide)
  cases o <;> exact (Device.fld_of_reg (Device.reg_setReg_of_ne _ (by decide))).trans (hf _)

theorem Device.showShadow_index (h : d.regsWf) :
    (d.showShadow (some p)).fld Reg.PLAN_SLOT_STATE Fd.PLAN_SLOT_STATE_SHADOW_INDEX = p.lib % 2 ^ 6 :=
  (Device.fld_of_reg (Device.reg_setReg_of_ne _ (by decide))).trans (Device.fld_setFld_self _ _ _ h (by decide))

/-- The registers that show the identities of the plans. -/
def planIdRegs : List Nat := [Reg.PLAN_ACTIVE_ID, Reg.PLAN_ACTIVE_VER, Reg.PLAN_SHADOW_ID, Reg.PLAN_SHADOW_VER]

theorem Device.showIds_sameRegsBut : d.sameRegsBut d.showIds planIdRegs := by
  intro j hj
  obtain ⟨ha, hav, hs, hsv⟩ : j ≠ Reg.PLAN_ACTIVE_ID ∧ j ≠ Reg.PLAN_ACTIVE_VER ∧ j ≠ Reg.PLAN_SHADOW_ID ∧ j ≠ Reg.PLAN_SHADOW_VER := by
    simpa [planIdRegs] using hj
  exact (Device.reg_setReg_of_ne _ hsv).trans ((Device.reg_setReg_of_ne _ hs).trans
    ((Device.reg_setReg_of_ne _ hav).trans (Device.reg_setReg_of_ne _ ha)))

theorem Device.showIds_regsWf (h : d.regsWf) : d.showIds.regsWf :=
  Device.setReg_regsWf _ _ (Device.setReg_regsWf _ _ (Device.setReg_regsWf _ _ (Device.setReg_regsWf _ _ h)))

theorem Device.showIds_shadowId (h : d.regsWf) :
    d.showIds.fld Reg.PLAN_SHADOW_ID ⟨0, 32⟩ = ((d.plan.shadow.map (fun x => imgPlanId x.image)).getD 0) % 2 ^ 32 := by
  have h2 := Device.setReg_regsWf Reg.PLAN_ACTIVE_VER (BitVec.ofNat 64 ((d.plan.active.map (fun x => imgVersion x.image)).getD 0))
    (Device.setReg_regsWf Reg.PLAN_ACTIVE_ID (BitVec.ofNat 64 ((d.plan.active.map (fun x => imgPlanId x.image)).getD 0)) h)
  exact (Device.fld_of_reg (Device.reg_setReg_of_ne _ (by decide))).trans (Device.fld32_setReg h2)

theorem Device.showIds_activeId (h : d.regsWf) :
    d.showIds.fld Reg.PLAN_ACTIVE_ID ⟨0, 32⟩ = ((d.plan.active.map (fun x => imgPlanId x.image)).getD 0) % 2 ^ 32 := by
  refine Device.fld_of_reg ?_ |>.trans (Device.fld32_setReg h)
  exact (Device.reg_setReg_of_ne _ (by decide)).trans ((Device.reg_setReg_of_ne _ (by decide)).trans (Device.reg_setReg_of_ne _ (by decide)))

/-! ### PLAN_LOAD (R72, R83) -/

/-- A plan begins to move into the shadow slot. -/
def Device.loadPlan (d : Device) (m : MsgRef) (p : Plan) : Device :=
  ((d.updPlan (fun u => { u with loading := some (m, p), staleSinceArm := false })).setShadowState 1).showShadow (some p)

theorem Device.loadPlan_post (hlib : p.lib < 2 ^ 6) (h : d.regsWf) :
    (d.loadPlan m p).shadowState = 1 ∧ (d.loadPlan m p).fld Reg.PLAN_SLOT_STATE Fd.PLAN_SLOT_STATE_SHADOW_INDEX = p.lib ∧
    (d.loadPlan m p).plan = { d.plan with loading := some (m, p), staleSinceArm := false } ∧
    d.loadPlan m p = { d with plan := (d.loadPlan m p).plan, regs := (d.loadPlan m p).regs } := by
  have h1 : (d.updPlan (fun u => { u with loading := some (m, p), staleSinceArm := false })).regsWf := h
  have h2 := Device.setShadowState_regsWf 1 h1
  refine ⟨?_, ?_, rfl, rfl⟩
  · exact (Device.showShadow_shadowState _ h2).trans (Device.shadowState_setShadowState h1 (by decide))
  · exact (Device.showShadow_index h2).trans (Nat.mod_eq_of_lt hlib)

/-- What the validation of a library image leaves before the plan moves (R126): the ALIAS_CHECK it was judged under, and the waived
companions counted. -/
def Device.noteJudged (d : Device) (lib : Nat) (b : List Byte) : Device :=
  let j := d.judging lib
  let d := d.updPlan (fun u => { u with libAlias := u.libAlias.put lib (j.fld Reg.TENSOR_CTRL Fd.TENSOR_CTRL_ALIAS_CHECK) })
  if (j.planCompanions b).2 = 0 then d else d.count Reg.TENSOR_ALIAS_WAIVED_COUNT 32 (j.planCompanions b).2

theorem Device.noteJudged_frame (lib : Nat) (b : List Byte) : d.noteJudged lib b = { d with
    plan := { d.plan with libAlias := (d.noteJudged lib b).plan.libAlias }, regs := (d.noteJudged lib b).regs } := by
  unfold Device.noteJudged
  extract_lets
  split <;> rfl

theorem Device.noteJudged_regsWf (lib : Nat) (b : List Byte) (h : d.regsWf) : (d.noteJudged lib b).regsWf := by
  unfold Device.noteJudged
  extract_lets _ d1
  split
  · exact h
  · exact Device.bumpBy_regsWf (d := d1) _ _ _ h

/-! ### PLAN_LOAD_DONE and PLAN_ARM (R83, R84) -/

/-- The registers that a command over the slots writes. -/
def slotRegs : List Nat := shadowRegs ++ planIdRegs ++ [Reg.PLAN_SWITCH_STEP, Reg.PLAN_SWITCH_PU]

/-- A change of the slots that is answered. -/
theorem Device.slots_respond_post (h : d.canAnswer m) (hs : d.sameRegsBut e slotRegs) (hwf : e.regsWf)
    (he : d' = e.respond m op status payload) :
    d.answered d' m op status payload ∧ e.sameRegsBut d' answerRegs ∧ d'.plan = e.plan ∧
    d' = { e with regs := d'.regs, host := d'.host, out := d'.out } := by
  subst he
  refine ⟨?_, Device.respond_sameRegsBut m op status payload, Device.respond_plan .., Device.respond_frame m op status payload⟩
  exact Device.respond_answered_of status payload h (fun j hj => hs j ((by decide : ∀ j ∈ answerReads, j ∉ slotRegs) j hj)) hwf

/-- FENCE_STALE written beside SHADOW_STATE leaves that as it is. -/
theorem Device.shadowState_fenceStale (v : Nat) (h : d.regsWf) :
    (d.setFld Reg.PLAN_SLOT_STATE Fd.PLAN_SLOT_STATE_FENCE_STALE v).shadowState = d.shadowState :=
  Device.fld_setFld_apart _ _ _ _ h (by decide) (by decide)

/-- The device with a loaded plan in the shadow slot, before the response. -/
def Device.endLoad (d : Device) (p : Plan) : Device :=
  let e := (d.updPlan (fun u => { u with loading := none, shadow := some { p with stale := d.plan.staleSinceArm } })).setShadowState 2
  (e.setFld Reg.PLAN_SLOT_STATE Fd.PLAN_SLOT_STATE_FENCE_STALE (bit e.plan.staleSinceArm)).showIds

theorem Device.endLoad_post (p : Plan) (h : d.regsWf) : (d.endLoad p).shadowState = 2 ∧
    (d.endLoad p).fld Reg.PLAN_SHADOW_ID ⟨0, 32⟩ = imgPlanId p.image % 2 ^ 32 ∧ d.sameRegsBut (d.endLoad p) slotRegs ∧
    (d.endLoad p).regsWf := by
  unfold Device.endLoad
  extract_lets e
  have h0 : e.regsWf := Device.setShadowState_regsWf (d := d.updPlan _) 2 h
  have h1 := Device.setFld_regsWf Reg.PLAN_SLOT_STATE Fd.PLAN_SLOT_STATE_FENCE_STALE (bit e.plan.staleSinceArm) h0
  refine ⟨?_, Device.showIds_shadowId h1, fun j hj => ?_, Device.showIds_regsWf h1⟩
  · exact (Device.fld_of_reg (Device.showIds_sameRegsBut _ (by decide))).trans ((Device.shadowState_fenceStale _ h0).trans
      (Device.shadowState_setShadowState (d := d.updPlan _) h (by decide)))
  · have hs : j ≠ Reg.PLAN_SLOT_STATE := fun h => hj (h ▸ by decide)
    have hi : j ∉ planIdRegs := fun h => hj (by simp [slotRegs, h])
    exact (Device.showIds_sameRegsBut j hi).trans ((Device.reg_setFld_of_ne _ _ hs).trans
      (Device.setShadowState_sameRegsBut (d := d.updPlan _) 2 j (by simpa using hs)))

/-- The device with a switch to the shadow plan armed, before the response. -/
def Device.armAt (d : Device) (p : Plan) (step pu : Nat) : Device :=
  let d := (d.updPlan (fun u => { u with
    shadow := some p, staleSinceArm := false, switch := .none, carried := false, votes := [], decision := none })).setShadowState 3
  (((d.setFld Reg.PLAN_SLOT_STATE Fd.PLAN_SLOT_STATE_FENCE_STALE 0).showShadow (some p)).setReg Reg.PLAN_SWITCH_STEP (BitVec.ofNat 64 step)).setReg
    Reg.PLAN_SWITCH_PU (BitVec.ofNat 64 pu)

theorem Device.armAt_post {step pu : Nat} (p : Plan) (h : d.regsWf) (hstep : step < 2 ^ 32) (hpu : pu < 2 ^ 16) :
    (d.armAt p step pu).shadowState = 3 ∧ (d.armAt p step pu).fld Reg.PLAN_SWITCH_PU Fd.PLAN_SWITCH_PU_PU = pu ∧
    (d.armAt p step pu).fld Reg.PLAN_SWITCH_STEP Fd.PLAN_SWITCH_STEP_STEP = step ∧ d.sameRegsBut (d.armAt p step pu) slotRegs ∧
    (d.armAt p step pu).regsWf := by
  unfold Device.armAt
  extract_lets e
  have h0 : e.regsWf := Device.setShadowState_regsWf (d := d.updPlan _) 3 h
  have h1 := Device.setFld_regsWf Reg.PLAN_SLOT_STATE Fd.PLAN_SLOT_STATE_FENCE_STALE 0 h0
  have h2 := Device.showShadow_regsWf (some p) h1
  have h3 := Device.setReg_regsWf Reg.PLAN_SWITCH_STEP (BitVec.ofNat 64 step) h2
  refine ⟨?_, Device.fld_setReg_ofNat h3 (by decide) hpu, ?_, fun j hj => ?_, Device.setReg_regsWf _ _ h3⟩
  · refine Device.fld_of_reg ((Device.reg_setReg_of_ne _ (by decide)).trans (Device.reg_setReg_of_ne _ (by decide))) |>.trans ?_
    exact (Device.showShadow_shadowState _ h1).trans ((Device.shadowState_fenceStale _ h0).trans
      (Device.shadowState_setShadowState (d := d.updPlan _) h (by decide)))
  · exact (Device.fld_of_reg (Device.reg_setReg_of_ne _ (by decide))).trans (Device.fld_setReg_ofNat h2 (by decide) hstep)
  · obtain ⟨hsh, hstep, hpu⟩ : j ∉ shadowRegs ∧ j ≠ Reg.PLAN_SWITCH_STEP ∧ j ≠ Reg.PLAN_SWITCH_PU := by
      simp only [slotRegs, List.mem_append, List.mem_cons, List.not_mem_nil, or_false, not_or] at hj
      exact ⟨hj.1.1, hj.2⟩
    have hs : j ≠ Reg.PLAN_SLOT_STATE := fun h => hsh (h ▸ by decide)
    refine (Device.reg_setReg_of_ne _ hpu).trans ((Device.reg_setReg_of_ne _ hstep).trans ((Device.showShadow_sameRegsBut _ j hsh).trans ?_))
    exact (Device.reg_setFld_of_ne _ _ hs).trans (Device.setShadowState_sameRegsBut (d := d.updPlan _) 3 j (by simpa using hs))

/-! ### Switch points (R84) -/

theorem Device.fld_lt (j : Nat) (f : Fld) : d.fld j f < 2 ^ f.w := bitsOf_lt _ _ _

/-- The phase that SWITCH_PU names: B3 for 0. -/
def Device.armPu (d : Device) (pu : Nat) : Nat := if pu = 0 then d.b3 else pu

/-- The step that SWITCH_STEP names: for 0 the next one whose switch point is to come. -/
def Device.armStep (d : Device) (step pu : Nat) : Nat :=
  if step ≠ 0 then step else if d.phase < pu then d.stepNum else (d.stepNum + 1) % 2 ^ 32

theorem Device.armPu_lt {pu : Nat} (h : pu < 2 ^ 16) : d.armPu pu < 2 ^ 16 := by
  have hb3 : d.b3 < 2 ^ 16 := Device.fld_lt _ _
  unfold Device.armPu
  split <;> assumption

theorem Device.armStep_lt {step : Nat} (pu : Nat) (h : step < 2 ^ 32) : d.armStep step pu < 2 ^ 32 := by
  have hnum : d.stepNum < 2 ^ 32 := Device.fld_lt _ _
  unfold Device.armStep
  split
  · exact h
  · split
    · exact hnum
    · exact Nat.mod_lt _ (by decide)

theorem Device.switchPu_of {pu : Nat} (h : pu < 2 ^ 16) (hb : pu = 0 ∨ d.b3 ≤ pu) : d.switchPu pu = some (d.armPu pu) := by
  unfold Device.switchPu Device.armPu
  by_cases h0 : pu = 0
  · rw [if_pos h0, if_pos h0]
  · rw [if_neg h0, if_neg h0, if_pos ⟨hb.resolve_left h0, by omega⟩]

theorem Device.switchStep_of {group step pu : Nat} (h : step < 2 ^ 32) (hg : step = 0 → group ≤ 1)
    (hd : step ≠ 0 → 1 ≤ seqDist step d.stepNum ∧ seqDist step d.stepNum < 2 ^ 31) :
    d.switchStep group step pu = some (d.armStep step pu) := by
  unfold Device.switchStep Device.armStep
  by_cases h0 : step = 0
  · rw [if_pos h0, if_neg (Nat.not_lt.2 (hg h0)), if_neg (not_not.2 h0)]
  · rw [if_neg h0, if_pos ⟨h, hd h0⟩, if_pos h0]

/-! ### A switch that is given up (R84, R85, R394) -/

theorem Map.get?_mapVals {β : Type} (m : Map β) (f : Nat → β → β) (k : Nat) : (m.mapVals f).get? k = (m.get? k).map (f k) := by
  induction m with
  | nil => rfl
  | cons x r ih =>
    obtain ⟨i, v⟩ := x
    show Map.get? ((i, f i v) :: Map.mapVals r f) k = _
    rw [Map.get?_cons, Map.get?_cons, ih]
    split
    · subst_vars
      rfl
    · rfl

/-- The plan unit with no switch under way. -/
def PlanUnit.noSwitch (u : PlanUnit) : PlanUnit := { u with switch := .none, carried := false, votes := [], decision := none }

/-- A carried switch that is given up returns the boundaries of the active plan to the step. -/
def Device.uncarry (d : Device) : Device := if d.plan.carried then d.stepBounds d.plan.active else d

theorem Device.uncarry_frame : d.uncarry = { d with regs := d.uncarry.regs, time := d.uncarry.time } := by
  unfold Device.uncarry
  split <;> rfl

theorem Device.uncarry_regsWf (h : d.regsWf) : d.uncarry.regsWf := by
  unfold Device.uncarry
  split
  · exact Device.setReg_regsWf _ _ h
  · exact h

theorem Device.unarm_eq : d.unarm = ({ d.uncarry with emb := d.uncarry.emb.mapVals (fun _ e => e.stay), plan := d.uncarry.plan.noSwitch } :
    Device).setShadowState 2 := rfl

theorem Device.unarm_frame : d.unarm = { d with
    regs := d.unarm.regs, time := d.unarm.time, emb := d.emb.mapVals (fun _ e => e.stay), plan := d.plan.noSwitch } := by
  rw [Device.unarm_eq, Device.uncarry_frame]
  rfl

theorem Device.unarm_plan : d.unarm.plan = d.plan.noSwitch := by rw [Device.unarm_frame]

theorem Device.unarm_shadowState (h : d.regsWf) : d.unarm.shadowState = 2 :=
  Device.shadowState_setShadowState (d := { d.uncarry with emb := _, plan := _ }) (Device.uncarry_regsWf h) (by decide)

theorem Device.unarm_regsWf (h : d.regsWf) : d.unarm.regsWf :=
  Device.setShadowState_regsWf (d := { d.uncarry with emb := _, plan := _ }) 2 (Device.uncarry_regsWf h)

/-- A switch that is not carried leaves the boundaries as they are. -/
theorem Device.unarm_of_here (h : d.plan.carried = false) : d.unarm =
    ({ d with emb := d.emb.mapVals (fun _ e => e.stay), plan := d.plan.noSwitch } : Device).setShadowState 2 := by
  have hu : d.uncarry = d := if_neg (by simp [h])
  rw [Device.unarm_eq, hu]

/-- Settles O19: each command comes to one change of the slots, answered where the command ends. -/
theorem planSlotCommands : Obligations.PlanSlotCommands := by
  refine ⟨fun m lib b ms => ?load, fun m p => ?loaded, fun m step pu p ⟨hstep, hpu⟩ => ?arm, fun m => ?disarm⟩
  case load =>
    refine .of_cmd_eq (g := fun d => (d.noteJudged lib b).loadPlan m
        { lib := lib, image := b, moves := ms, companions := ((d.judging lib).planCompanions b).1, stale := false })
      (fun s => show execPlanLoad m lib s = _ from rfl) (fun _ ⟨hruns, hturn, _⟩ => ⟨hruns, hturn⟩)
      (fun d ⟨_, _, hlib, h3, h4, hno, hget, hval, _⟩ => ?body) fun d ⟨_, _, hlib, _, _, _, _, _, hwf⟩ => ?post
    case body =>
      rw [if_neg (Nat.not_lt.2 hlib), if_neg (by simp [h3, h4, hno])]
      simp only [hget, hval]
      rfl
    case post =>
      have hnote := Device.noteJudged_frame (d := d) lib b
      have hwf' := Device.noteJudged_regsWf (d := d) lib b hwf
      generalize d.noteJudged lib b = e at hnote hwf'
      obtain ⟨hstate, hindex, hplan, hframe⟩ := Device.loadPlan_post (m := m) (p :=
        { lib := lib, image := b, moves := ms, companions := ((d.judging lib).planCompanions b).1, stale := false })
        (show lib < 2 ^ 6 by omega) hwf'
      refine ⟨⟨_, by rw [hplan], rfl, rfl, rfl⟩, hstate, hindex, ?_, ?_⟩
      · rw [hplan, hnote]
      · rw [hframe, hnote]
  case loaded =>
    refine .of_upd_eq (g := fun d => (d.endLoad p).respond m 0x2002 0 (u32 (movesReg p.moves)))
      (fun s => show execPlanLoadDone s = _ from rfl) (fun _ h => h.1) (fun d ⟨_, hload, _⟩ => ?_) fun d ⟨_, _, hans⟩ => ?_
    · simp only [hload]
      rfl
    · obtain ⟨hstate, hid, hsame, hwf⟩ := Device.endLoad_post p (Device.regsWf_of_canAnswer hans)
      obtain ⟨hmsg, hsame', hplan, hframe⟩ := Device.slots_respond_post (op := 0x2002) (status := 0) (payload := u32 (movesReg p.moves))
        hans hsame hwf rfl
      refine ⟨hplan, ?_, ?_, hmsg, ?_⟩
      · exact (Device.fld_of_reg (hsame' _ (by decide))).trans hstate
      · exact (Device.fld_of_reg (hsame' _ (by decide))).trans hid
      · rw [hframe]
        rfl
  case arm =>
    refine .of_cmd_eq (g := fun d => (d.armAt { p with stale := false } (d.armStep step (d.armPu pu)) (d.armPu pu)).respond m 0x2003 0 [])
      (fun s => show execPlanArm m step pu s = _ from rfl) (fun _ ⟨hruns, hturn, _⟩ => ⟨hruns, hturn⟩)
      (fun d ⟨_, _, hp, hst, hfence, hb, hg, hd, _⟩ => ?body) fun d ⟨_, _, _, _, _, _, _, _, hans⟩ => ?post
    case body =>
      have h2 : (d.shadowState != 2) = false := by rw [hst]; rfl
      have h1 : ¬ d.fld Reg.PLAN_SLOT_STATE Fd.PLAN_SLOT_STATE_FENCE_STALE = 1 := by omega
      simp only [hp, h2, Bool.false_eq_true, if_false, Device.switchPu_of hpu hb, Device.switchStep_of hstep hg hd, if_neg h1]
      rfl
    case post =>
      obtain ⟨hstate, hpt, hat, hsame, hwf⟩ := Device.armAt_post { p with stale := false } (Device.regsWf_of_canAnswer hans)
        (Device.armStep_lt (d.armPu pu) hstep) (Device.armPu_lt (d := d) hpu)
      obtain ⟨hmsg, hsame', hplan, hframe⟩ := Device.slots_respond_post (op := 0x2003) (status := 0) (payload := []) hans hsame hwf rfl
      refine ⟨?_, ?_, ?_, ?_, ?_, ?_, hmsg, ?_⟩
      · exact (Device.fld_of_reg (hsame' _ (by decide))).trans hstate
      · exact (Device.fld_of_reg (hsame' _ (by decide))).trans hpt
      · exact (Device.fld_of_reg (hsame' _ (by decide))).trans hat
      · rw [hplan]; rfl
      · rw [hplan]; rfl
      · rw [hplan]; rfl
      · rw [hframe]; rfl
  case disarm =>
    refine .of_cmd_eq (g := fun d => (({ d with emb := d.emb.mapVals (fun _ e => e.stay), plan := d.plan.noSwitch } :
        Device).setShadowState 2).respond m 0x2004 0 [])
      (fun s => show execPlanDisarm m s = _ from rfl) (fun _ ⟨hruns, hturn, _⟩ => ⟨hruns, hturn⟩) (fun d ⟨_, _, hst, hc, _⟩ => ?body)
      fun d ⟨_, _, _, _, hans⟩ => ?post
    case body =>
      have h3 : (d.shadowState != 3) = false := by rw [hst]; rfl
      rw [h3, if_neg Bool.false_ne_true, Device.unarm_of_here hc]
    case post =>
      have hsame := Device.setShadowState_sameRegsBut (d := { d with emb := d.emb.mapVals (fun _ e => e.stay), plan := d.plan.noSwitch }) 2
      obtain ⟨hmsg, hsame', hplan, hframe⟩ := Device.slots_respond_post (op := 0x2004) (status := 0) (payload := []) hans
        (Device.sameRegsBut_mono hsame (by decide)) (Device.setShadowState_regsWf (d := { d with emb := _, plan := _ }) 2 (Device.regsWf_of_canAnswer hans)) rfl
      refine ⟨?_, hplan, hmsg, ?_, fun k => ?_, ?_⟩
      · exact (Device.fld_of_reg (hsame' _ (by decide))).trans
          (Device.shadowState_setShadowState (d := { d with emb := _, plan := _ }) (Device.regsWf_of_canAnswer hans) (by decide))
      · exact Device.sameRegsBut_trans (Device.sameRegsBut_mono hsame (by decide)) (Device.sameRegsBut_mono hsame' (by decide))
      · rw [Device.respond_emb]
        exact Map.get?_mapVals d.emb (fun _ e => e.stay) k
      · rw [hframe]; rfl

end Sys2Proof.Machine
end

section
/-!
SUPPORT. Link messages and the agreement of a column group on a switch (R85, R443, R453): what sending and taking a message changes, what a
cancelled switch leaves, and the statement about the agreement.
-/

namespace Sys2Proof.Machine

variable {d d' e : Device} {r : RxMsg} {p : Plan}

/-! ### Messages sent and taken (R439, R443) -/

/-- Flits that leave change the links and what left the device. -/
theorem Device.pump_frame (q n : Nat) : d.pump q n = { d with link := (d.pump q n).link, out := (d.pump q n).out } := by
  induction n generalizing d with
  | zero => rfl
  | succ n ih =>
    unfold Device.pump
    extract_lets u
    split
    · rfl
    · split
      · rfl
      · rw [ih, Device.sendFlit_frame]
        rfl

theorem Device.portSend_frame (q : Nat) (fs : List TxFlit) :
    d.portSend q fs = { d with link := (d.portSend q fs).link, out := (d.portSend q fs).out } := by
  unfold Device.portSend
  extract_lets
  rw [Device.pump_frame]
  rfl

theorem Device.sendLink_frame (dst mtype : Nat) (fields payload : List Byte) (die : Nat) : d.sendLink dst mtype fields payload die = { d with
    link := (d.sendLink dst mtype fields payload die).link, out := (d.sendLink dst mtype fields payload die).out } := by
  unfold Device.sendLink
  split
  · rfl
  · split
    · rfl
    · extract_lets
      exact Device.portSend_frame (d := d.updLink _) _ _

theorem Device.returnCredits_frame (q vc n : Nat) : d.returnCredits q vc n = { d with
    link := (d.returnCredits q vc n).link, out := (d.returnCredits q vc n).out } := by
  unfold Device.returnCredits
  split
  · rfl
  · rw [Device.answerFlit, Device.sendFlit_frame]

/-- A message that is taken leaves the device as it was but for the links and what left the device. -/
theorem Device.takeRx_frame {q mtype : Nat} {ok : RxMsg → Bool} (h : d.takeRx q mtype ok = some (r, e)) :
    e = { d with link := e.link, out := e.out } := by
  unfold Device.takeRx at h
  split at h
  · obtain ⟨-, rfl⟩ := Prod.mk.inj (Option.some.inj h)
    rw [Device.returnCredits_frame]
    rfl
  · cases h

/-- A message row acts on the next message, in the device that the message has been taken from. -/
theorem Device.onMessage_of_next {q mtype : Nat} (h : d.nextMessage q mtype = some r) :
    ∃ e, (∀ f, d.onMessage q mtype f = f r e) ∧ e = { d with link := e.link, out := e.out } := by
  obtain ⟨⟨r', e⟩, ht, rfl⟩ := Option.map_eq_some_iff.1 h
  exact ⟨e, fun f => by rw [Device.onMessage, ht], Device.takeRx_frame ht⟩

/-! ### A cancelled switch (R85) -/

/-- A cancelled switch leaves the outgoing plan active and the shadow LOADED, with its code in PLAN_LAST_ERROR. -/
theorem Device.cancelSwitch_post {code : Nat} (h : d.regsWf) (hc : code < 2 ^ 16) (he : d' = d.cancelSwitch code) :
    d'.plan = d.plan.noSwitch ∧ d'.shadowState = 2 ∧ d'.fld Reg.PLAN_LAST_ERROR ⟨0, 16⟩ = code ∧ d'.mem = d.mem := by
  subst he
  have hwf := Device.unarm_regsWf h
  unfold Device.cancelSwitch
  extract_lets id
  have hsame : ∀ j, j ∉ recorderRegs ++ announceRegs →
      ((((d.unarm).planError code).record { code := code, severity := 1, arg1 := id }).sendAsync 0x8002 (u32 id ++ u16 code)).reg j =
        ((d.unarm).planError code).reg j := by
    intro j hj
    obtain ⟨hr, ha⟩ : j ∉ recorderRegs ∧ j ∉ announceRegs := by simpa using hj
    exact (Device.sendAsync_sameRegsBut _ _ j ha).trans (Device.record_sameRegsBut _ j hr)
  refine ⟨?_, ?_, ?_, ?_⟩
  · rw [Device.sendAsync_plan, Device.record_plan, Device.planError_frame, Device.unarm_plan]
  · refine (Device.fld_of_reg (hsame _ (by decide))).trans ?_
    exact (Device.fld_of_reg (Device.planError_sameRegsBut code _ (by decide))).trans (Device.unarm_shadowState h)
  · exact (Device.fld_of_reg (hsame _ (by decide))).trans ((Device.planError_code code hwf).trans (Nat.mod_eq_of_lt hc))
  · rw [Device.sendAsync_mem, Device.record_mem, Device.planError_frame, Device.unarm_frame]

theorem Device.decided_cancel : d.decided false = d.cancelSwitch 0x0223 := by
  rw [Device.decided, if_neg Bool.false_ne_true]

/-- A decision to cancel is sent before it is acted on. -/
theorem Device.sendDecision_cancel (size : Nat) : ∃ e : Device, d.sendDecision size false = e.cancelSwitch 0x0223 ∧
    e = { d with link := e.link, out := e.out } := by
  refine ⟨_, Device.decided_cancel, ?_⟩
  refine List.foldlRecOn (motive := fun (e : Device) => e = { d with link := e.link, out := e.out }) _ _ rfl ?_
  intro e he m _
  split
  · exact he
  · rw [Device.sendLink_frame, he]

/-! ### The time that an agreement takes (R47, R453) -/

theorem Device.phase_at_le (u : Nat) : d.phase ≤ (d.at u).phase := by
  have h : (d.now - d.time.stepStart) * 65536 / max 1 d.pred ≤ (max d.now u - d.time.stepStart) * 65536 / max 1 d.pred :=
    Nat.div_le_div_right (Nat.mul_le_mul_right _ (Nat.sub_le_sub_right (Nat.le_max_left _ _) _))
  exact min_le_min_left _ h

theorem Device.ticks_at_le (u : Nat) : d.ticks ≤ (d.at u).ticks := Nat.add_le_add_left (Device.phase_at_le u) _

theorem Device.at_self : d.at d.now = d := by rw [Device.at_later (Nat.le_refl _)]

theorem Device.reachTick_eq (t : Nat) : ∃ u, d.reachTick t = d.at u := by
  unfold Device.reachTick
  split
  · exact ⟨_, rfl⟩
  · exact ⟨d.now, Device.at_self.symm⟩

/-- What follows an agreement that has come to no end acts on the device at some moment. -/
theorem Device.agreementAfter_due {t n : Nat} (hs : d.plan.switch = .agreement t) (hp : d.plan.shadow = some p) (ht : t + n ≤ d.ticks)
    (f : Plan → Device → Device) : ∃ u, d.agreementAfter n f = f p (d.at u) := by
  obtain ⟨u, hu⟩ := Device.reachTick_eq (d := d) (t + n)
  have hdue : t + n ≤ (d.at u).ticks := Nat.le_trans ht (Device.ticks_at_le u)
  refine ⟨u, ?_⟩
  simp only [Device.agreementAfter, hs, hp, hu, if_pos hdue]

/-! ### Votes (R453) -/

/-- With no agreement under way the coordinator decides nothing. -/
theorem Device.coordinate_of_none (h : d.plan.switch = .none) : d.coordinate = d := by
  unfold Device.coordinate
  split
  · simp_all
  · rfl

/-- Settles O21: a message and the passing of time change the links and the clock alone, and then the vote is recorded, the decision kept or
the switch cancelled. -/
theorem groupSwitchAgreement : Obligations.GroupSwitchAgreement := by
  refine ⟨fun q r => ?vote, fun q r => ?kept, fun q r t => ?cancelled, fun t p => ?voteTimeout, fun t p => ?decisionTimeout⟩
  case vote =>
    refine .of_upd (fun s => show execSwitchVote q s = _ from rfl) (fun _ h => h.1) fun d ⟨_, hc, hm, hs⟩ => ?_
    obtain ⟨e, hon, he⟩ := Device.onMessage_of_next hm
    have hce : e.coordinates = true := by rw [he]; exact hc
    have hse : e.plan.switch = .none := by rw [he]; exact hs
    rw [hon, if_pos hce, Device.coordinate_of_none (d := e.addVote _) hse]
    refine ⟨⟨_, List.mem_append_right _ (List.mem_singleton_self _), rfl, rfl, rfl, rfl⟩, ?_⟩
    rw [Device.addVote, Device.updPlan_self, he]
  case kept =>
    refine .of_upd (fun s => show execSwitchDecision q s = _ from rfl) (fun _ h => h.1) fun d ⟨_, hm, hst, hstep, hs⟩ => ?_
    obtain ⟨e, hon, he⟩ := Device.onMessage_of_next hm
    have hse : e.plan.switch = .none := by rw [he]; exact hs
    have hst' : e.shadowState = 3 := by rw [he]; exact hst
    have hstep' : leAt r.msg.fields 4 4 = e.groupSwitchStep := by rw [he]; exact hstep
    rw [hon]
    simp only [hst', hstep', hse, bne_self_eq_false, Bool.or_self, Bool.false_eq_true, if_false]
    rw [Device.updPlan_self, he]
  case cancelled =>
    refine .of_upd (fun s => show execSwitchDecision q s = _ from rfl) (fun _ h => h.1) fun d ⟨_, hwf, hm, hst, hstep, hno, hs⟩ => ?_
    obtain ⟨e, hon, he⟩ := Device.onMessage_of_next hm
    have hse : e.plan.switch = .agreement t := by rw [he]; exact hs
    have hst' : e.shadowState = 3 := by rw [he]; exact hst
    have hstep' : leAt r.msg.fields 4 4 = e.groupSwitchStep := by rw [he]; exact hstep
    have hwf' : e.regsWf := by rw [he]; exact hwf
    have hplan : e.plan = d.plan := by rw [he]
    rw [hon]
    simp only [hst', hstep', hse, hno, bne_self_eq_false, Bool.or_self, Bool.false_eq_true, if_false, Device.decided_cancel, decide_false]
    obtain ⟨hu, hshadow, herr, -⟩ := Device.cancelSwitch_post hwf' (code := 0x0223) (by decide) rfl
    exact ⟨hplan ▸ hu, hshadow, herr⟩
  case voteTimeout =>
    refine .of_upd (fun s => show execSwitchVoteTimeout s = _ from rfl) (fun _ h => h.1) fun d ⟨_, hwf, hc, hs, hp, ht⟩ => ?_
    obtain ⟨u, hu⟩ := Device.agreementAfter_due hs hp ht (fun p d => d.sendDecision (imgGroupSize p.image) false)
    obtain ⟨e, hsend, he⟩ := Device.sendDecision_cancel (d := d.at u) (imgGroupSize p.image)
    have hwf' : e.regsWf := by rw [he]; exact hwf
    have hplan : e.plan = d.plan := by rw [he]; rfl
    rw [if_pos hc, hu, hsend]
    obtain ⟨hu, hshadow, herr, -⟩ := Device.cancelSwitch_post hwf' (code := 0x0223) (by decide) rfl
    exact ⟨hplan ▸ hu, hshadow, herr⟩
  case decisionTimeout =>
    refine .of_upd (fun s => show execSwitchDecisionTimeout s = _ from rfl) (fun _ h => h.1) fun d ⟨_, hwf, hs, hp, ht⟩ => ?_
    obtain ⟨u, hu⟩ := Device.agreementAfter_due hs hp ht (fun _ d => d.cancelSwitch 0x0223)
    rw [hu]
    obtain ⟨hu, hshadow, herr, -⟩ := Device.cancelSwitch_post (d := d.at u) hwf (code := 0x0223) (by decide) rfl
    exact ⟨hu, hshadow, herr⟩

end Sys2Proof.Machine
end

section
/-!
SUPPORT. The drain of a plan switch (R85, R289, R394): work that changes Pack instances, tables and the registers of the compute dies alone.
-/

namespace Sys2Proof.Machine

variable {o d e : Device} {off : Nat} {l : List Nat}

/-! ### Registers below the spaces of the dies -/

/-- The registers below the spaces of the compute dies, other than those listed, read as before, and the register file keeps its canonical
form. -/
structure Device.KeepsLow (o d : Device) (l : List Nat) : Prop where
  reg : ∀ j < dieBase 0, j ∉ l → d.reg j = o.reg j
  wf : o.regsWf → d.regsWf

theorem Device.KeepsLow.refl : d.KeepsLow d l := ⟨fun _ _ _ => rfl, id⟩

theorem Device.KeepsLow.of_regs (h : o.KeepsLow d l) (hr : e.regs = d.regs) : o.KeepsLow e l :=
  ⟨fun j hj hl => (Device.reg_congr hr).trans (h.reg j hj hl), fun hwf => by
    rw [Device.regsWf, hr]
    exact h.wf hwf⟩

/-- A register of a compute die is written. -/
theorem Device.KeepsLow.setReg (h : o.KeepsLow d l) (hoff : dieBase 0 ≤ off) (v : DWord) : o.KeepsLow (d.setReg off v) l :=
  ⟨fun j hj hl => (Device.reg_setReg_of_ne v (Nat.ne_of_lt (Nat.lt_of_lt_of_le hj hoff))).trans (h.reg j hj hl),
    fun hwf => Device.setReg_regsWf _ _ (h.wf hwf)⟩

theorem Device.KeepsLow.setFld (h : o.KeepsLow d l) (hoff : dieBase 0 ≤ off) (f : Fld) (v : Nat) : o.KeepsLow (d.setFld off f v) l :=
  h.setReg hoff _

/-- A register listed is written. -/
theorem Device.KeepsLow.of_sameRegsBut {l' : List Nat} (h : o.KeepsLow d l) (hs : d.sameRegsBut e l') (hl : l' ⊆ l)
    (hwf : d.regsWf → e.regsWf) : o.KeepsLow e l :=
  ⟨fun j hj hn => (hs j fun hm => hn (hl hm)).trans (h.reg j hj hn), fun h0 => hwf (h.wf h0)⟩

theorem dieBase_zero_le (die : Nat) : dieBase 0 ≤ dieBase die := by
  unfold dieBase
  omega

/-- An offset above a die's base lies above the package's registers. -/
theorem dieBase_zero_le_add (die x y : Nat) : dieBase 0 ≤ dieBase die + x + y :=
  Nat.le_trans (dieBase_zero_le die) (Nat.le_trans (Nat.le_add_right _ _) (Nat.le_add_right _ _))

/-! ### Work on Pack instances and tables -/

/-- The device has changed in its Pack instances, its tables, its recorder and the registers of its compute dies alone. -/
structure Device.DieWork (o d : Device) : Prop where
  frame : d = { o with regs := d.regs, fault := d.fault, pack := d.pack, emb := d.emb }
  low : o.KeepsLow d recorderRegs

theorem Device.DieWork.refl : d.DieWork d := ⟨rfl, .refl⟩

theorem Device.DieWork.foldl {β : Type} {f : Device → β → Device} {xs : List β} (h : o.DieWork d)
    (hf : ∀ (d : Device) x, o.DieWork d → o.DieWork (f d x)) : o.DieWork (xs.foldl f d) :=
  List.foldlRecOn xs f h fun d h x _ => hf d x h

theorem Device.DieWork.ite {a b : Device} {c : Prop} {i : Decidable c} (ha : o.DieWork a) (hb : o.DieWork b) :
    o.DieWork (if c then a else b) := by
  split <;> assumption

theorem Device.DieWork.setFld (h : o.DieWork d) (hoff : dieBase 0 ≤ off) (f : Fld) (v : Nat) : o.DieWork (d.setFld off f v) :=
  ⟨by rw [h.frame]; rfl, h.low.setFld hoff f v⟩

theorem Device.DieWork.count (h : o.DieWork d) (hoff : dieBase 0 ≤ off) (w n : Nat) : o.DieWork (d.count off w n) :=
  h.setFld hoff _ _

theorem Device.DieWork.setPack {die k : Nat} (h : o.DieWork d) (p : PackInst) : o.DieWork (d.setPack die k p) :=
  ⟨by rw [h.frame]; rfl, h.low.of_regs rfl⟩

theorem Device.DieWork.setEmb {key : Nat} (h : o.DieWork d) (t : EmbTable) : o.DieWork (d.setEmb key t) :=
  ⟨by rw [h.frame]; rfl, h.low.of_regs rfl⟩

theorem Device.DieWork.record (h : o.DieWork d) (r : EventRec) : o.DieWork (d.record r) :=
  ⟨by rw [Device.record_frame, h.frame], h.low.of_sameRegsBut (Device.record_sameRegsBut r) (List.Subset.refl _) (Device.record_regsWf r)⟩

theorem Device.DieWork.packDrop {die k id batch : Nat} (h : o.DieWork d) : o.DieWork (d.packDrop die k id batch) :=
  (h.count (dieBase_zero_le_add die 0x0070_0120 (128 * k)) _ _).record _

theorem Device.DieWork.addStraggler {die k id batch : Nat} (h : o.DieWork d) : o.DieWork (d.addStraggler die k id batch) :=
  .ite h.packDrop (h.setPack _)

theorem Device.DieWork.holdCarried {die k : Nat} (h : o.DieWork d) (x : PackSample) : o.DieWork (d.holdCarried die k x) :=
  .ite (h.setPack _) (.ite h.packDrop (h.setPack _))

theorem Device.DieWork.closeBatch {die k : Nat} (h : o.DieWork d) (c : PackCfg) (b : PackBatch) (cause : Nat) :
    o.DieWork (d.closeBatch die k c b cause) := by
  unfold Device.closeBatch
  extract_lets -underBinder _ _ _ _ _ _ _ _
  split
  extract_lets -underBinder _ _ _ _ _ _ _ _ _ _ _ _ _ d1 d2 d3
  have h1 : o.DieWork d1 := h.setPack _
  have h2 : o.DieWork d2 := ((((h1.count (dieBase_zero_le_add die 0x0070_0108 (128 * k)) _ _).count
    (dieBase_zero_le_add die 0x0070_0118 (128 * k)) _ _).count (dieBase_zero_le_add die 0x0070_0128 (128 * k)) _ _).count
    (dieBase_zero_le_add die 0x0070_0138 (128 * k)) _ _).count (dieBase_zero_le_add die 0x0070_0140 (128 * k)) _ _
  have h3 : o.DieWork d3 := .foldl h2 fun _ _ h4 => h4.holdCarried _
  exact .ite (.foldl h3 fun _ _ h4 => h4.addStraggler) h2

theorem Device.DieWork.packFlushInst {die k : Nat} (h : o.DieWork d) (c : PackCfg) : o.DieWork (d.packFlushInst die k c) :=
  .ite h (.ite (h.closeBatch _ _ _) (.foldl h fun _ _ h1 => h1.closeBatch _ _ _))

/-- At a switch the Pack instances flush, drop and discard (R289). -/
theorem Device.DieWork.packSwitch (h : o.DieWork d) : o.DieWork d.packSwitch := by
  unfold Device.packSwitch
  refine .foldl h fun _ _ h1 => ?_
  extract_lets -underBinder die k
  split
  · exact h1
  · extract_lets -underBinder d2 _ d3 _ d4
    have h2 : o.DieWork d2 := h1.packFlushInst _
    have h3 : o.DieWork d3 := .foldl h2 fun _ _ h4 => h4.packDrop
    have h4 : o.DieWork d4 := h3.count (dieBase_zero_le_add die 0x0070_0130 (128 * k)) _ _
    exact h4.setPack _

theorem Device.DieWork.beginFlush {die key : Nat} (h : o.DieWork d) : o.DieWork (d.beginFlush die key) := by
  have hcmd : dieBase 0 ≤ Reg.EMB_CMD die := dieBase_zero_le_add die 0x0058_0008 0
  exact .ite (.ite (((h.setEmb _).setFld hcmd _ _).setFld hcmd _ _) h) (h.setEmb _)

/-- At a switch the tables that will not be kept begin to retire (R394). -/
theorem Device.DieWork.embRetire (h : o.DieWork d) (new : List Byte) : o.DieWork (d.embRetire new) :=
  .foldl h fun _ _ h1 => .ite h1 (.ite (h1.setEmb _).beginFlush (h1.setEmb _))

/-- A drain that begins changes of the plan unit only where the switch stands, and leaves the slots as they are. -/
theorem Device.beginDrain_post : d.beginDrain.plan = { d.plan with switch := .draining, votes := [], decision := none } ∧
    d.beginDrain.now = d.now ∧ d.beginDrain.shadowState = d.shadowState := by
  have hw : d.DieWork (d.packSwitch.embRetire ((d.plan.shadow.map (·.image)).getD [])) := Device.DieWork.refl.packSwitch.embRetire _
  have hslot : d.beginDrain.shadowState = d.shadowState := Device.fld_of_reg (hw.low.reg Reg.PLAN_SLOT_STATE (by decide) (by decide))
  refine ⟨?_, ?_, hslot⟩
  · show { (d.packSwitch.embRetire _).plan with switch := .draining, votes := [], decision := none } = _
    rw [hw.frame]
  · show (d.packSwitch.embRetire _).now = _
    rw [hw.frame]

end Sys2Proof.Machine
end

section
/-!
SUPPORT. The plan switch (R83, R85, R87, R88): what its start and its completion change of the device and of the registers of the package,
and the statement about it.
-/

namespace Sys2Proof.Machine

variable {o d d' e : Device} {off : Nat} {l : List Nat} {new p : Plan}

theorem Device.KeepsLow.foldl {β : Type} {f : Device → β → Device} {xs : List β} (h : o.KeepsLow d l)
    (hf : ∀ (d : Device) x, o.KeepsLow d l → o.KeepsLow (f d x) l) : o.KeepsLow (xs.foldl f d) l :=
  List.foldlRecOn xs f h fun d h x _ => hf d x h

/-! ### Work in hand is cleared (R87) -/

/-- The device with nothing of any plan in hand, before its registers say so. -/
def Device.cleared (d : Device) : Device :=
  { d with
    str := { StreamUnit.reset with
      seqs := d.str.seqs, allocCount := d.str.allocCount, retireCount := d.str.retireCount, nextRead := d.str.nextRead
      extReads := d.str.extReads.filter (fun r => r.stream = planStoreStream), abortReports := d.str.abortReports }
    sched := { d.sched with gates := [], formCount := 0 }
    cells := [], stn := StationUnit.reset, pack := [], sel := [], arr := []
    link := { d.link with trav := [], travEnded := [] } }

theorem Device.clearFlush_frame : d.clearFlush = { d with regs := d.clearFlush.regs } :=
  List.foldlRecOn (motive := fun (e : Device) => e = { d with regs := e.regs }) _ _ rfl fun e he _ _ => by
    rw [he]
    rfl

theorem Device.settleInvals_frame : d.settleInvals = { d with memu := d.settleInvals.memu, out := d.settleInvals.out } := by
  unfold Device.settleInvals
  extract_lets
  refine List.foldlRecOn (motive := fun (e : Device) => e = { d with memu := e.memu, out := e.out }) _ _ rfl fun e he _ _ => ?_
  rw [he]
  rfl

theorem Device.clearWork_eq : d.clearWork = d.cleared.clearFlush.settleInvals := rfl

theorem Device.clearWork_frame : d.clearWork = { d.cleared with
    regs := d.clearWork.regs, memu := d.clearWork.memu, out := d.clearWork.out } := by
  rw [Device.clearWork_eq, Device.settleInvals_frame, Device.clearFlush_frame]

theorem Device.KeepsLow.clearFlush (h : o.KeepsLow d l) : o.KeepsLow d.clearFlush l :=
  .foldl h fun _ k h => h.setFld (dieBase_zero_le_add k 0x0070_0004 0) _ _

theorem Device.KeepsLow.settleInvals (h : o.KeepsLow d l) : o.KeepsLow d.settleInvals l :=
  h.of_regs (by rw [Device.settleInvals_frame])

theorem Device.KeepsLow.clearWork (h : o.KeepsLow d l) : o.KeepsLow d.clearWork l :=
  (Device.KeepsLow.clearFlush (d := d.cleared) (h.of_regs rfl)).settleInvals

/-- A field that reads other than at reset reads what has been written, whatever the file held. -/
theorem Device.fld_setFld_of_ne_reset {f : Fld} {v : Nat} (hf : f.lo + f.w ≤ 64) (hv : bitsOf (regReset off).toNat f.lo f.w ≠ v % 2 ^ f.w) :
    (d.setFld off f v).fld off f = v % 2 ^ f.w := by
  have hx : bitsOf (BitVec.ofNat 64 (withBits (d.reg off).toNat f.lo f.w v)).toNat f.lo f.w = v % 2 ^ f.w := by
    rw [BitVec.toNat_ofNat, Nat.mod_eq_of_lt (withBits_lt (d.reg off).isLt hf)]
    exact bitsOf_withBits_self ..
  have hne : BitVec.ofNat 64 (withBits (d.reg off).toNat f.lo f.w v) ≠ regReset off := fun h => hv (by rw [← h, hx])
  have hreg : (d.setFld off f v).reg off = BitVec.ofNat 64 (withBits (d.reg off).toNat f.lo f.w v) := by
    show (Map.get? (Map.setC d.regs (regReset off) off _) off).getD _ = _
    rw [Map.setC_eq, if_neg hne, Map.get?_put_self]
    rfl
  rw [Device.fld, hreg, hx]

theorem Device.shadowState_switching : (d.setShadowState 4).shadowState = 4 := Device.fld_setFld_of_ne_reset (by decide) (by decide)

/-- The start of a switch: the shadow is SWITCHING, work in hand is cleared, and roles and sync values stay. -/
theorem Device.startSwitch_post (he : e = ((d.updPlan (fun u => { u with switch := .running d.now })).setShadowState 4).clearWork) :
    e.plan = { d.plan with switch := .running d.now } ∧ e.shadowState = 4 ∧ e.cells = [] ∧ e.str.tasks = [] ∧ e.str.streams = [] ∧
    e.str.lifts = [] ∧ e.sched.gates = [] ∧ e.sched.sync = d.sched.sync ∧ e.mem = d.mem := by
  have hslot : e.shadowState = 4 := by
    have hlow : ((d.updPlan (fun u => { u with switch := .running d.now })).setShadowState 4).KeepsLow e [] := by
      rw [he]
      exact Device.KeepsLow.refl.clearWork
    exact (Device.fld_of_reg (hlow.reg _ (by decide) (by simp))).trans Device.shadowState_switching
  have hframe := he.trans Device.clearWork_frame
  refine ⟨?_, hslot, ?_, ?_, ?_, ?_, ?_, ?_, ?_⟩ <;> rw [hframe] <;> rfl

/-! ### The new plan is put in place (R87) -/

theorem Device.switchRegs_frame : d.switchRegs = { d with regs := d.switchRegs.regs } :=
  List.foldlRecOn (motive := fun (e : Device) => e = { d with regs := e.regs }) _ _ rfl fun e he _ _ => by
    rw [he]
    rfl

theorem Device.KeepsLow.switchRegs (h : o.KeepsLow d l) : o.KeepsLow d.switchRegs l :=
  .foldl h fun _ i h => by
    have hoff := dieBase_zero_le_add (i / 8) 0x0060_1030 (64 * (i % 8))
    exact (h.setFld hoff _ _).setFld hoff _ _

theorem Device.loadStores_frame (pl : Plan) : d.loadStores pl = { d with mem := (d.loadStores pl).mem, poison := (d.loadStores pl).poison } := by
  unfold Device.loadStores
  extract_lets _ d1
  refine List.foldlRecOn (motive := fun (e : Device) => e = { d with mem := e.mem, poison := e.poison }) _ _ rfl fun e he _ _ => ?_
  refine List.foldlRecOn (motive := fun (e : Device) => e = { d with mem := e.mem, poison := e.poison }) _ _ he fun e he _ _ => ?_
  rw [he]
  rfl

theorem Map.get?_filter_of_pass {β : Type} {m : Map β} {q : Nat × β → Bool} {j : Nat} (h : ∀ v, q (j, v) = true) :
    Map.get? (m.filter q) j = Map.get? m j := by
  induction m with
  | nil => rfl
  | cons x r ih =>
    obtain ⟨i, v⟩ := x
    rw [List.filter_cons]
    split
    · rw [Map.get?_cons, Map.get?_cons, ih]
    · have hne : i ≠ j := by
        rintro rfl
        exact absurd (h v) ‹_›
      rw [ih, Map.get?_cons, if_neg hne]

/-- Registers of the compute dies return to their reset values. -/
theorem Device.KeepsLow.filterRegs (h : o.KeepsLow d l) (hoff : dieBase 0 ≤ off) (n : Nat) :
    o.KeepsLow { d with regs := d.regs.filter (fun e => decide (e.1 < off) || decide (off + n ≤ e.1)) } l := by
  refine ⟨fun j hj hl => ?_, fun hwf => ?_⟩
  · refine Eq.trans ?_ (h.reg j hj hl)
    show (Map.get? (d.regs.filter _) j).getD _ = _
    rw [Map.get?_filter_of_pass fun v => by rw [decide_eq_true (Nat.lt_of_lt_of_le hj hoff), Bool.true_or]]
    rfl
  · exact ⟨Map.rising_filter _ (h.wf hwf).1, fun e he => (h.wf hwf).2 e (List.mem_of_mem_filter he)⟩

theorem Device.KeepsLow.record (h : o.KeepsLow d l) (hl : recorderRegs ⊆ l) (r : EventRec) : o.KeepsLow (d.record r) l :=
  h.of_sameRegsBut (Device.record_sameRegsBut r) hl (Device.record_regsWf r)

theorem Device.KeepsLow.ite {a b : Device} {c : Prop} {i : Decidable c} (ha : o.KeepsLow a l) (hb : o.KeepsLow b l) :
    o.KeepsLow (if c then a else b) l := by
  split <;> assumption

theorem dieBase_zero_le_embStatus (die t : Nat) : dieBase 0 ≤ Reg.EMB_STATUS die t := dieBase_zero_le_add die 0x0058_1000 (128 * t)

theorem dieBase_zero_le_embLr (die t : Nat) : dieBase 0 ≤ Reg.EMB_LR die t := dieBase_zero_le_add die 0x0058_1008 (128 * t)

/-- The tables of a new plan are written in the registers of the dies; a table that would be kept may be recorded (R395). -/
theorem Device.KeepsLow.embInstall (h : o.KeepsLow d l) (old : Option (List Byte)) (img : List Byte)
    (hl : ∀ die < 4, ∀ x ∈ tablesOf img die, x.keep = true → recorderRegs ⊆ l) : o.KeepsLow (d.embInstall old img) l := by
  unfold Device.embInstall
  extract_lets kept news keepKeys d1 d2
  have h1 : o.KeepsLow d1 l := h.of_regs rfl
  have h2 : o.KeepsLow d2 l := .foldl h1 fun _ key h => .ite h
    (h.filterRegs (dieBase_zero_le_embStatus (key / 64) (key % 64)) _)
  refine List.foldlRecOn (motive := fun (e : Device) => o.KeepsLow e l) _ _ h2 fun e he y hy => ?_
  extract_lets key e'
  have hset : o.KeepsLow e' l := (he.setFld (dieBase_zero_le_embStatus y.1 y.2.id) Fd.EMB_STATUS_KEPT (bit (kept y.1 y.2))).setFld
    (dieBase_zero_le_embLr y.1 y.2.id) Fd.EMB_LR_LR y.2.lr
  split
  · rename_i hkeep
    obtain ⟨die, hdie, hx⟩ := List.mem_flatMap.1 hy
    obtain ⟨x, hmem, rfl⟩ := List.mem_map.1 hx
    exact hset.record (hl die (List.mem_range.1 hdie) x hmem (Bool.and_eq_true_iff.1 hkeep).1) _
  · exact hset.of_regs (Device.setEmb_regs _ _ _)

theorem Device.embInstall_frame (old : Option (List Byte)) (img : List Byte) : d.embInstall old img = { d with
    regs := (d.embInstall old img).regs, emb := (d.embInstall old img).emb, fault := (d.embInstall old img).fault } := by
  unfold Device.embInstall
  extract_lets kept news keepKeys d1 d2
  have h2 : d2 = { d with regs := d2.regs, emb := d2.emb, fault := d2.fault } := by
    refine List.foldlRecOn (motive := fun (e : Device) => e = { d with regs := e.regs, emb := e.emb, fault := e.fault }) _ _ rfl
      fun e he _ _ => ?_
    split
    · exact he
    · rw [he]
  refine List.foldlRecOn (motive := fun (e : Device) => e = { d with regs := e.regs, emb := e.emb, fault := e.fault }) _ _ h2
    fun e he y _ => ?_
  extract_lets key e'
  have he' : e' = { d with regs := e'.regs, emb := e'.emb, fault := e'.fault } := by
    unfold e'
    rw [he]
    rfl
  split
  · rw [Device.record_frame, he']
  · rw [he']
    rfl

/-- The device with a new plan in its slot, before the registers and the contents that the switch sets. -/
def Device.swapPlans (d : Device) (new : Plan) : Device :=
  let e := d.clearWork
  { e with
    str := { e.str with pools := planPools new }
    sched := { e.sched with sync := syncInit new e.sched.sync }
    fault := { e.fault with idleUnits := e.fault.idleUnits.filter (fun x => !new.names x) }
    plan := { e.plan with active := some new, shadow := d.plan.active } }

theorem Device.installPlan_eq : d.installPlan new =
    ((d.swapPlans new).switchRegs.matchSwitch.embInstall (d.plan.active.map (·.image)) new.image).loadStores new := rfl

theorem Device.swapPlans_regs : (d.swapPlans new).regs = d.clearWork.regs := rfl

theorem Device.matchSwitch_regs : d.matchSwitch.regs = d.regs := rfl

theorem Device.KeepsLow.installPlan (h : o.KeepsLow d l)
    (hl : ∀ die < 4, ∀ x ∈ tablesOf new.image die, x.keep = true → recorderRegs ⊆ l) : o.KeepsLow (d.installPlan new) l := by
  have hswap : o.KeepsLow (d.swapPlans new) l := h.clearWork.of_regs Device.swapPlans_regs
  have hmatch : o.KeepsLow (d.swapPlans new).switchRegs.matchSwitch l := hswap.switchRegs.of_regs Device.matchSwitch_regs
  rw [Device.installPlan_eq]
  exact (hmatch.embInstall (d.plan.active.map (·.image)) new.image hl).of_regs (by rw [Device.loadStores_frame])

/-- The roles of the slots are exchanged; the clock and the sync operations held by the switch are as before. -/
theorem Device.installPlan_post : (d.installPlan new).plan = { d.plan with active := some new, shadow := d.plan.active } ∧
    (d.installPlan new).now = d.now ∧ (d.installPlan new).sched.ops = d.sched.ops := by
  have hclear := Device.clearWork_frame (d := d)
  have hswap : (d.swapPlans new).plan = { d.plan with active := some new, shadow := d.plan.active } ∧
      (d.swapPlans new).now = d.now ∧ (d.swapPlans new).sched.ops = d.sched.ops := by
    unfold Device.swapPlans
    rw [hclear]
    exact ⟨rfl, rfl, rfl⟩
  rw [Device.installPlan_eq, Device.loadStores_frame, Device.embInstall_frame, Device.matchSwitch, Device.switchRegs_frame]
  exact hswap

/-! ### What the plan registers show (R88, R90) -/

/-- The registers that show a switch that has completed. -/
def switchedRegs : List Nat := shadowRegs ++ planIdRegs ++ [Reg.PLAN_SWITCH_COUNT, Reg.PLAN_LAST_SWITCH_NS]

theorem Device.switchShown_post {start : Nat} (h : d.regsWf) (he : e = d.switchShown new start) :
    e.shadowState = (if d.plan.shadow.isSome then 2 else 0) ∧
    e.fld Reg.PLAN_SWITCH_COUNT ⟨0, 32⟩ = satAdd 32 (d.fld Reg.PLAN_SWITCH_COUNT ⟨0, 32⟩) 1 ∧
    e.fld Reg.PLAN_LAST_SWITCH_NS ⟨0, 32⟩ = min (d.now - start) (2 ^ 32 - 1) ∧
    e.fld Reg.PLAN_ACTIVE_ID ⟨0, 32⟩ = ((d.plan.active.map (fun x => imgPlanId x.image)).getD 0) % 2 ^ 32 ∧
    e = { d with regs := e.regs } ∧ d.sameRegsBut e switchedRegs ∧ e.regsWf := by
  subst he
  unfold Device.switchShown
  extract_lets old d1 d2
  have hwf0 := Device.setShadowState_regsWf (d := d) (if old.isSome then 2 else 0) h
  have hwf1 : d1.regsWf := Device.showShadow_regsWf old hwf0
  have hwf1' := Device.setFld_regsWf Reg.PLAN_SLOT_STATE Fd.PLAN_SLOT_STATE_FENCE_STALE (bit ((old.map (·.stale)).getD new.stale)) hwf1
  have hwf2 : d2.regsWf := Device.showIds_regsWf hwf1'
  have hwf3 := Device.bumpBy_regsWf Reg.PLAN_SWITCH_COUNT ⟨0, 32⟩ 1 hwf2
  have hframe : d2 = { d with regs := d2.regs } := by
    unfold d2 d1
    rw [Device.showShadow_frame]
    rfl
  have hsame2 : d.sameRegsBut d2 (shadowRegs ++ planIdRegs) := by
    intro j hj
    obtain ⟨hs, hi⟩ : j ∉ shadowRegs ∧ j ∉ planIdRegs := by simpa using hj
    have hslot : j ≠ Reg.PLAN_SLOT_STATE := fun h => hs (h ▸ by decide)
    exact (Device.showIds_sameRegsBut j hi).trans ((Device.reg_setFld_of_ne _ _ hslot).trans ((Device.showShadow_sameRegsBut old j hs).trans
      (Device.setShadowState_sameRegsBut _ j (by simpa using hslot))))
  have hlast : ∀ j, j ∉ [Reg.PLAN_SWITCH_COUNT, Reg.PLAN_LAST_SWITCH_NS] →
      ((d2.count Reg.PLAN_SWITCH_COUNT 32 1).setReg Reg.PLAN_LAST_SWITCH_NS (BitVec.ofNat 64 (min (d2.now - start) (2 ^ 32 - 1)))).reg j =
        d2.reg j := by
    intro j hj
    obtain ⟨hc, hn⟩ : j ≠ Reg.PLAN_SWITCH_COUNT ∧ j ≠ Reg.PLAN_LAST_SWITCH_NS := by simpa using hj
    exact (Device.reg_setReg_of_ne _ hn).trans (Device.reg_setFld_of_ne _ _ hc)
  refine ⟨?_, ?_, ?_, ?_, ?_, fun j hj => ?_, Device.setReg_regsWf _ _ hwf3⟩
  · refine (Device.fld_of_reg (hlast _ (by decide))).trans ((Device.fld_of_reg (Device.showIds_sameRegsBut _ (by decide))).trans ?_)
    refine (Device.shadowState_fenceStale _ hwf1).trans ((Device.showShadow_shadowState old
      (Device.setShadowState_regsWf (d := d) (if old.isSome then 2 else 0) h)).trans ?_)
    exact Device.shadowState_setShadowState h (by split <;> decide)
  · refine (Device.fld_of_reg (Device.reg_setReg_of_ne _ (by decide))).trans ?_
    rw [Device.count, Device.bumpBy, Device.fld_setFld_self _ _ _ hwf2 (by decide), Device.fld_of_reg (hsame2 _ (by decide))]
    exact Nat.mod_eq_of_lt (satAdd_lt _ _ _)
  · have hnow : d2.now = d.now := by rw [hframe]
    rw [← hnow]
    exact Device.fld_setReg_ofNat hwf3 (by decide) (by show _ < 2 ^ 32; omega)
  · refine (Device.fld_of_reg (hlast _ (by decide))).trans ((Device.showIds_activeId hwf1').trans ?_)
    have hactive : d1.plan = d.plan := by
      unfold d1
      rw [Device.showShadow_frame]
      rfl
    rw [Device.setFld_plan, hactive]
  · rw [hframe]
    rfl
  · have hj' : j ∉ shadowRegs ++ planIdRegs ∧ j ∉ [Reg.PLAN_SWITCH_COUNT, Reg.PLAN_LAST_SWITCH_NS] := by
      simpa only [switchedRegs, List.mem_append, not_or] using hj
    exact (hlast j hj'.2).trans (hsame2 j hj'.1)

/-! ### Dispatch is enabled (R79, R171, R228) -/

theorem Device.startCells_frame (pl : Plan) : d.startCells pl = { d with cells := (d.startCells pl).cells } :=
  List.foldlRecOn (motive := fun (e : Device) => e = { d with cells := e.cells }) _ _ rfl fun _ he _ _ =>
    List.foldlRecOn (motive := fun (e : Device) => e = { d with cells := e.cells }) _ _ he fun _ he _ _ =>
      List.foldlRecOn (motive := fun (e : Device) => e = { d with cells := e.cells }) _ _ he fun e he _ _ => by
        rw [he]
        rfl

/-- The registers that hold the plan measurement (R79). -/
def measureRegs : List Nat := (List.range 16).map Reg.SEC_PLAN_MEAS

theorem Device.extendPm_frame (x : List Byte) : d.extendPm x = { d with regs := (d.extendPm x).regs } :=
  List.foldlRecOn (motive := fun (e : Device) => e = { d with regs := e.regs }) _ _ rfl fun e he _ _ => by
    rw [he]
    rfl

theorem Device.extendPm_sameRegsBut (x : List Byte) : d.sameRegsBut (d.extendPm x) measureRegs := fun j hj =>
  List.foldlRecOn (motive := fun (e : Device) => e.reg j = d.reg j) _ _ rfl fun _ he k hk =>
    (Device.reg_setReg_of_ne _ fun h => hj (List.mem_map.2 ⟨k, hk, h.symm⟩)).trans he

theorem Device.extendPm_regsWf (x : List Byte) (h : d.regsWf) : (d.extendPm x).regsWf :=
  List.foldlRecOn (motive := fun (e : Device) => e.regsWf) _ _ h fun _ he _ _ => Device.setReg_regsWf _ _ he

theorem Device.takeBounds_frame (pl : Plan) (carried : Bool) : d.takeBounds pl carried = { d with time := (d.takeBounds pl carried).time } := by
  unfold Device.takeBounds
  split <;> rfl

theorem Device.endHold_frame (pl : Plan) : d.endHold pl = { d with regs := (d.endHold pl).regs, time := (d.endHold pl).time } := by
  unfold Device.endHold
  split <;> rfl

theorem Device.endHold_sameRegsBut (pl : Plan) : d.sameRegsBut (d.endHold pl) [Reg.GROUP_STATUS] := by
  intro j hj
  unfold Device.endHold
  split
  · exact Device.reg_setFld_of_ne _ _ (by simpa using hj)
  · rfl

theorem Device.endHold_regsWf (pl : Plan) (h : d.regsWf) : (d.endHold pl).regsWf := by
  unfold Device.endHold
  split
  · exact Device.setFld_regsWf _ _ _ h
  · exact h

/-- With no sync operation held none is released. -/
theorem Device.releaseSync_of_none (h : d.sched.ops = []) : d.releaseSync = d := by
  unfold Device.releaseSync
  rw [h]
  rfl

/-- The new plan's cells start, its boundaries and its measurement are taken, and the sync operations held are applied. -/
def Device.enableDispatch (d : Device) (new : Plan) (carried : Bool) : Device :=
  let d := { d with sched := { d.sched with cycBase := [], cycAt := [0, 1, 2, 3].map (fun k => (k, d.now)) } }
  (((d.startCells new).takeBounds new carried).endHold new).releaseSync.extendPm (imgDigest new.image)

theorem Device.enableDispatch_post {carried : Bool} (h : d.regsWf) (hops : d.sched.ops = []) (he : e = d.enableDispatch new carried) :
    e.plan = d.plan ∧ e.now = d.now ∧ d.sameRegsBut e (Reg.GROUP_STATUS :: measureRegs) ∧ e.regsWf := by
  subst he
  unfold Device.enableDispatch
  extract_lets _ d1
  have hbounds : (d1.startCells new).takeBounds new carried = { d1 with
      cells := (d1.startCells new).cells, time := ((d1.startCells new).takeBounds new carried).time } := by
    rw [Device.takeBounds_frame, Device.startCells_frame]
  generalize (d1.startCells new).takeBounds new carried = d2 at hbounds ⊢
  have hwf2 : d2.regsWf := by rw [hbounds]; exact h
  have hops3 : (d2.endHold new).sched.ops = [] := by
    rw [Device.endHold_frame, hbounds]
    exact hops
  rw [Device.releaseSync_of_none hops3]
  refine ⟨?_, ?_, fun j hj => ?_, Device.extendPm_regsWf _ (Device.endHold_regsWf new hwf2)⟩
  · rw [Device.extendPm_frame, Device.endHold_frame, hbounds]
  · rw [Device.extendPm_frame, Device.endHold_frame, hbounds]
  · obtain ⟨hg, hm⟩ : j ≠ Reg.GROUP_STATUS ∧ j ∉ measureRegs := by simpa using hj
    refine (Device.extendPm_sameRegsBut _ j hm).trans ((Device.endHold_sameRegsBut new j (by simpa using hg)).trans ?_)
    rw [hbounds]
    rfl

theorem Device.record_seqNext (r : EventRec) (h : d.regsWf) : (d.record r).fld Reg.EVR_SEQ_NEXT Fd.EVR_SEQ_NEXT_SEQ =
    (d.fld Reg.EVR_SEQ_NEXT Fd.EVR_SEQ_NEXT_SEQ + 1) % 2 ^ Fd.EVR_SEQ_NEXT_SEQ.w := by
  unfold Device.record Device.recorderArrive
  extract_lets seq r' d1 _ d2 room
  have h1 : d1.fld Reg.EVR_SEQ_NEXT Fd.EVR_SEQ_NEXT_SEQ = (seq + 1) % 2 ^ Fd.EVR_SEQ_NEXT_SEQ.w :=
    Device.fld_setFld_self _ _ _ h (by decide)
  have h2 : d2.fld Reg.EVR_SEQ_NEXT Fd.EVR_SEQ_NEXT_SEQ = (seq + 1) % 2 ^ Fd.EVR_SEQ_NEXT_SEQ.w := by
    unfold d2
    split <;> exact h1
  split
  · exact h2
  · exact (Device.fld_setFld_of_ne _ _ _ (by decide)).trans h2

/-! ### The switch -/

/-- The device in which a switch has exchanged the roles of the slots, before the plan registers show it. -/
def Device.installed (d : Device) (new : Plan) (start : Nat) : Device :=
  ((d.at (start + 10000)).installPlan new).updPlan (fun u => { u with switch := .none, carried := false })

/-- The completion of a switch, before its record (R87, R88). -/
def Device.completeSwitch (d : Device) (new : Plan) (start : Nat) : Device :=
  ((d.installed new start).switchShown new start).enableDispatch new ((d.at (start + 10000)).installPlan new).plan.carried

theorem Device.installed_post {start : Nat} (he : e = d.installed new start) :
    e.plan = { d.plan with switch := .none, carried := false, active := some new, shadow := d.plan.active } ∧
    e.now = max d.now (start + 10000) ∧ e.sched.ops = d.sched.ops := by
  obtain ⟨hplan, hnow, hops⟩ := Device.installPlan_post (d := d.at (start + 10000)) (new := new)
  rw [he]
  refine ⟨?_, hnow, hops⟩
  rw [Device.installed, Device.updPlan_self, hplan]
  rfl

/-- Before the plan registers show the switch, the registers of the package are as they were; the recorder's may have moved where the new plan
would keep a table. -/
theorem Device.installed_keepsLow {start : Nat} (hl : ∀ die < 4, ∀ x ∈ tablesOf new.image die, x.keep = true → recorderRegs ⊆ l) :
    d.KeepsLow (d.installed new start) l :=
  (Device.KeepsLow.installPlan (d := d.at (start + 10000)) (o := d) ⟨fun _ _ _ => rfl, id⟩ hl).of_regs rfl

theorem Device.completeSwitch_post {start : Nat} (h : d.regsWf) (hops : d.sched.ops = []) (he : e = d.completeSwitch new start) :
    e.plan = { d.plan with switch := .none, carried := false, active := some new, shadow := d.plan.active } ∧
    e.now = max d.now (start + 10000) ∧ e.shadowState = (if d.plan.active.isSome then 2 else 0) ∧
    e.fld Reg.PLAN_SWITCH_COUNT ⟨0, 32⟩ = satAdd 32 (d.fld Reg.PLAN_SWITCH_COUNT ⟨0, 32⟩) 1 ∧
    e.fld Reg.PLAN_LAST_SWITCH_NS ⟨0, 32⟩ = min (e.now - start) (2 ^ 32 - 1) ∧
    e.fld Reg.PLAN_ACTIVE_ID ⟨0, 32⟩ = imgPlanId new.image % 2 ^ 32 ∧
    (d.installed new start).sameRegsBut e (switchedRegs ++ Reg.GROUP_STATUS :: measureRegs) ∧ e.regsWf := by
  obtain ⟨hplan, hnow, hops1⟩ := Device.installed_post (d := d) (new := new) (start := start) rfl
  have hlow : d.KeepsLow (d.installed new start) recorderRegs := Device.installed_keepsLow fun _ _ _ _ _ => List.Subset.refl _
  have hcount := hlow.reg Reg.PLAN_SWITCH_COUNT (by decide) (by decide)
  have hwf1 := hlow.wf h
  unfold Device.completeSwitch at he
  generalize d.installed new start = d1 at hplan hnow hops1 hcount hwf1 he ⊢
  obtain ⟨hstate, hcnt, hlast, hid, hframe2, hsame2, hwf2⟩ := Device.switchShown_post (d := d1) (new := new) (start := start) hwf1 rfl
  have hops2 : (d1.switchShown new start).sched.ops = [] := by rw [hframe2, hops1, hops]
  have hplan2 : (d1.switchShown new start).plan = d1.plan := by rw [hframe2]
  have hnow2 : (d1.switchShown new start).now = d1.now := by rw [hframe2]
  obtain ⟨hplan3, hnow3, hsame3, hwf3⟩ := Device.enableDispatch_post hwf2 hops2 he
  refine ⟨?_, ?_, ?_, ?_, ?_, ?_, ?_, hwf3⟩
  · rw [hplan3, hplan2, hplan]
  · rw [hnow3, hnow2, hnow]
  · refine (Device.fld_of_reg (hsame3 _ (by decide))).trans (hstate.trans ?_)
    rw [hplan]
  · refine (Device.fld_of_reg (hsame3 _ (by decide))).trans (hcnt.trans ?_)
    rw [Device.fld_of_reg hcount]
  · refine (Device.fld_of_reg (hsame3 _ (by decide))).trans (hlast.trans ?_)
    rw [hnow3, hnow2]
  · refine (Device.fld_of_reg (hsame3 _ (by decide))).trans (hid.trans ?_)
    rw [hplan]
    rfl
  · exact Device.sameRegsBut_trans (Device.sameRegsBut_mono hsame2 (List.subset_append_left _ _))
      (Device.sameRegsBut_mono hsame3 (List.subset_append_right _ _))

/-- The device function of SWITCH_COMPLETE comes to the completion and its record. -/
theorem Completes.of_switchComplete {start : Nat} {pre : Device → Prop} {post : Device → Device → Prop}
    (hr : ∀ d, pre d → d.runs ∧ d.plan.switch = .running start ∧ d.plan.shadow = some new)
    (hp : ∀ d, pre d → post d ((d.completeSwitch new start).record { severity := 0, arg1 := imgPlanId new.image })) :
    Completes .switchComplete pre post := by
  refine .of_upd_eq (fun s => show execSwitchComplete s = _ from rfl) (fun d h => (hr d h).1) (fun d h => ?_) hp
  obtain ⟨-, hs, hnew⟩ := hr d h
  simp only [hs, hnew]
  rfl

/-- The clock at the switch point of the armed switch. -/
def Device.toSwitchPoint (d : Device) : Device := d.reachPhase (d.fld Reg.PLAN_SWITCH_PU Fd.PLAN_SWITCH_PU_PU)

/-- The switch that the fault map has overtaken is cancelled at its switch point (R83). -/
def Device.cancelStale (d : Device) : Device := d.toSwitchPoint.cancelSwitch 0x0225

/-- The switch point of an armed switch that is not carried, in its step: what follows acts at its phase. -/
theorem Completes.of_switchPoint {pre : Device → Prop} {post : Device → Device → Prop} {g : Device → Device}
    (hr : ∀ d, pre d → d.runs ∧ d.plan.switch = .none ∧ d.plan.shadow = some p ∧ d.shadowState = 3 ∧ d.plan.carried = false ∧
      d.stepNum = d.fld Reg.PLAN_SWITCH_STEP Fd.PLAN_SWITCH_STEP_STEP)
    (he : ∀ d, pre d → (if d.plan.staleSinceArm then d.cancelStale
      else if 1 < imgGroupSize p.image then d.toSwitchPoint.beginAgreement p
      else d.toSwitchPoint.beginDrain) = g d)
    (hp : ∀ d, pre d → post d (g d)) : Completes .switchPoint pre post := by
  refine .of_upd_eq (fun s => show execSwitchPoint s = _ from rfl) (fun d h => (hr d h).1) (fun d h => (Eq.trans ?_ (he d h))) hp
  obtain ⟨-, hs, hshadow, hst, hc, hstep⟩ := hr d h
  have hdue : (d.shadowState != 3 || !(false || decide (d.stepNum = d.fld Reg.PLAN_SWITCH_STEP Fd.PLAN_SWITCH_STEP_STEP))) = false := by
    simp [hst, hstep]
  simp only [hs, hshadow, hc, hdue, Bool.false_eq_true, if_false]
  rfl

/-- Settles O20: each moment comes to one change of the device, and none of them writes a register of the slots but those that show it. -/
theorem planSwitchRuns : Obligations.PlanSwitchRuns := by
  refine ⟨fun p => ?drains, fun p => ?cancelled, fun new => ?starts, fun start new => ?completes, fun start new => ?recorded⟩
  case drains =>
    refine .of_switchPoint (p := p) (g := fun d => d.toSwitchPoint.beginDrain)
      (fun d ⟨hr, _, hs, hp, hst, hc, hstep, _, _⟩ => ⟨hr, hs, hp, hst, hc, hstep⟩)
      (fun d ⟨_, _, _, _, _, _, _, hstale, hsize⟩ => ?_) fun d ⟨_, _, _, _, hst, _, _, _, _⟩ => ?_
    · rw [hstale, if_neg Bool.false_ne_true, if_neg (Nat.not_lt.2 hsize)]
    · obtain ⟨hplan, hnow, hslot⟩ := Device.beginDrain_post (d := d.toSwitchPoint)
      refine ⟨?_, hnow, ?_, ?_, hslot.trans hst⟩ <;> rw [hplan] <;> rfl
  case cancelled =>
    refine .of_switchPoint (p := p) (g := Device.cancelStale)
      (fun d ⟨hr, _, hs, hp, hst, hc, hstep, _⟩ => ⟨hr, hs, hp, hst, hc, hstep⟩) (fun d ⟨_, _, _, _, _, _, _, hstale⟩ => if_pos hstale)
      fun d ⟨_, hwf, _⟩ => ?_
    obtain ⟨hplan, hstate, hcode, hmem⟩ := Device.cancelSwitch_post (d := d.toSwitchPoint) (code := 0x0225) (d' := d.cancelStale) hwf
      (by decide) rfl
    refine ⟨?_, hstate, hcode, ?_, ?_, fun a => congrArg (memRead · a) hmem⟩ <;> rw [hplan] <;> rfl
  case starts =>
    refine .of_upd_eq (g := fun d => ((d.updPlan (fun u => { u with switch := .running d.now })).setShadowState 4).clearWork)
      (fun s => show execSwitchStart s = _ from rfl) (fun _ h => h.1) (fun d ⟨_, hs, hp, hd⟩ => ?_) fun d _ => ?_
    · simp only [hs, hp, hd, Option.isSome_some, Bool.and_self, if_true]
    · obtain ⟨hplan, hstate, hcells, htasks, hstreams, hlifts, hgates, hsync, hmem⟩ := Device.startSwitch_post (d := d) rfl
      exact ⟨hplan, hstate, hcells, htasks, hstreams, hlifts, hgates, hsync, fun a => congrArg (memRead · a) hmem⟩
  case completes =>
    refine .of_switchComplete (fun d ⟨hr, _, hs, hp, _⟩ => ⟨hr, hs, hp⟩) fun d ⟨_, hwf, _, _, hops⟩ => ?_
    obtain ⟨hplan, hnow, hstate, hcount, hlast, hid, -, -⟩ := Device.completeSwitch_post (new := new) (start := start) hwf hops rfl
    have hsame : ∀ j, j ∉ recorderRegs → ∀ f, ((d.completeSwitch new start).record { severity := 0, arg1 := imgPlanId new.image }).fld j f =
        (d.completeSwitch new start).fld j f := fun j hj f => Device.fld_of_reg (Device.record_sameRegsBut _ j hj)
    refine ⟨?_, ?_, (hsame _ (by decide) _).trans hstate, (hsame _ (by decide) _).trans hcount, ?_, (hsame _ (by decide) _).trans hid⟩
    · rw [Device.record_plan, hplan]
    · rw [Device.record_now, hnow]
    · rw [Device.record_now]
      exact (hsame _ (by decide) _).trans hlast
  case recorded =>
    refine .of_switchComplete (fun d ⟨hr, _, hs, hp, _⟩ => ⟨hr, hs, hp⟩) fun d ⟨_, hwf, _, _, hops, hkeep⟩ => ?_
    obtain ⟨-, -, -, -, -, -, hsame, hwf'⟩ := Device.completeSwitch_post (new := new) (start := start) hwf hops rfl
    have hlow : d.KeepsLow (d.installed new start) [] := Device.installed_keepsLow fun die hdie x hx hk => by
      have hno := List.all_eq_true.1 (List.all_eq_true.1 hkeep die (List.mem_range.2 hdie)) x hx
      simp [hk] at hno
    rw [Device.record_seqNext _ hwf', Device.fld_of_reg (hsame _ (by decide)), Device.fld_of_reg (hlow.reg _ (by decide) (by simp))]

end Sys2Proof.Machine
end

section
/-!
SUPPORT. Streams (R128 to R132): what a stored stream leaves of the others, what a Piste instruction of a stream that may execute comes to, and
the statement about the register instructions.
-/

namespace Sys2Proof.Machine

variable {d : Device} {s : StreamId} {r : StreamRec}

theorem gsid_div (s : StreamId) : gsid s.die.val s.sid.val / 32768 = s.die.val := by
  have := s.sid.isLt
  unfold gsid
  omega

@[simp] theorem Device.stream_setStream_self (d : Device) (g : Nat) (x : Stream) : (d.setStream g x).stream g = x := by
  simp [Device.stream, Device.setStream, Device.updStr, Map.getD]

theorem Device.stream_setStream_of_ne (d : Device) {g j : Nat} (x : Stream) (h : j ≠ g) : (d.setStream g x).stream j = d.stream j := by
  simp only [Device.stream, Device.setStream, Device.updStr, Map.getD, Map.get?_put_of_ne _ _ h]

/-- A stored stream is the one thing that has changed. -/
theorem Device.setStream_streamOnly (d : Device) (s : StreamId) (x : Stream) : d.streamOnly (d.setStream (gsid s.die.val s.sid.val) x) s x :=
  ⟨rfl, Device.stream_setStream_self .., fun _ h => Device.stream_setStream_of_ne _ _ h⟩

theorem Device.piste_of_ready {f : Nat → StreamRec → Stream → Device → Device} (h : d.pisteReady s r) :
    d.piste s f = f (gsid s.die.val s.sid.val) r (d.stream (gsid s.die.val s.sid.val)) d := by
  obtain ⟨hrec, haff, hact, hcont⟩ := h
  simp [Device.piste, hrec, haff, hact, hcont]

/-- A Piste instruction completes where its stream may execute, and does what its meaning says of the stream's record and state. -/
theorem Completes.of_piste {c : Instr} {pre : Device → Prop} {post : Device → Device → Prop}
    {f : Device → Nat → StreamRec → Stream → Device → Device} (hc : ∀ st, exec c st = st.upd (fun d => d.piste s (f d)))
    (hr : ∀ d, pre d → d.runs ∧ d.pisteReady s r)
    (hp : ∀ d, pre d → post d (f d (gsid s.die.val s.sid.val) r (d.stream (gsid s.die.val s.sid.val)) d)) : Completes c pre post :=
  .of_upd_eq hc (fun d h => (hr d h).1) (fun d h => Device.piste_of_ready (hr d h).2) hp

theorem ofSigned_cast (w : Nat) (z : Int) : (ofSigned w z : Int) = z % 2 ^ w :=
  Int.toNat_of_nonneg (Int.emod_nonneg z (by positivity))

/-- Settles O23: each instruction stores one stream, and a 57-bit sum is the remainder of the exact one. -/
theorem pisteRegisterInstructions : Obligations.PisteRegisterInstructions := by
  refine ⟨fun s r => ?nop, fun s r a region off g => ?seta, fun s r a imm => ?adda, fun s r a k scale => ?addp, fun s r k count => ?loop,
    fun s r k target => ?endlLast, fun s r k target => ?endlAgain, fun s r v pace => ?due⟩
  case nop =>
    refine .of_piste (fun st => show execNop s st = _ from rfl) (fun _ h => h) fun d _ => ?_
    exact d.setStream_streamOnly s _
  case seta =>
    refine .of_piste (fun st => show execSeta s a region off st = _ from rfl) (fun _ ⟨hr, hp, _⟩ => ⟨hr, hp⟩) fun d ⟨_, _, hg⟩ => ?_
    refine ⟨_, ofSigned_cast 57 _, ?_⟩
    rw [pisteStep, hg]
    exact d.setStream_streamOnly s _
  case adda =>
    refine .of_piste (fun st => show execAdda s a imm st = _ from rfl) (fun _ h => h) fun d _ => ⟨_, ofSigned_cast 57 _, ?_⟩
    exact d.setStream_streamOnly s _
  case addp =>
    refine .of_piste (fun st => show execAddp s a k scale st = _ from rfl) (fun _ h => h) fun d _ => ⟨_, ofSigned_cast 57 _, ?_⟩
    exact d.setStream_streamOnly s _
  case loop =>
    refine .of_piste (fun st => show execLoop s k count st = _ from rfl) (fun _ h => h) fun d _ => ?_
    exact d.setStream_streamOnly s _
  case endlLast =>
    refine .of_piste (fun st => show execEndl s k target st = _ from rfl) (fun _ ⟨hr, hp, _⟩ => ⟨hr, hp⟩) fun d ⟨_, _, hone⟩ => ?_
    simp only [hone]
    exact d.setStream_streamOnly s _
  case endlAgain =>
    refine .of_piste (fun st => show execEndl s k target st = _ from rfl) (fun _ ⟨hr, hp, _⟩ => ⟨hr, hp⟩) fun d ⟨_, _, htwo, hlt⟩ => ?_
    have hdown : ∀ c, 2 ≤ c → c < 2 ^ 32 → (c + 2 ^ 32 - 1) % 2 ^ 32 = c - 1 := fun c _ _ => by omega
    have hne : ∀ c, 2 ≤ c → c - 1 ≠ 0 := fun c _ => by omega
    simp only [hdown _ htwo hlt, if_neg (hne _ htwo)]
    exact d.setStream_streamOnly s _
  case due =>
    refine .of_piste (fun st => show execDue s v pace st = _ from rfl) (fun _ h => h) fun d _ => ?_
    exact d.setStream_streamOnly s _

end Sys2Proof.Machine
end

section
/-!
SUPPORT. Arming and tasks (R130, R153, R160, R162, R167, R168): what an arm and an allocation come to, what the request of an abort changes,
and the statement about arming and the commands of tasks.
-/

namespace Sys2Proof.Machine

variable {d d' : Device} {g die stage tag k : Nat} {r : StreamRec} {ps : List Word} {t : Task}

/-! ### Arming (R130) -/

/-- A stream armed with a tag and parameters. -/
def Stream.armedFor (x : Stream) (r : StreamRec) (tag : Nat) (ps : List Word) : Stream :=
  { Stream.idle with
    state := .armed, tag := tag, params := ps, due := r.due, pace := r.pace, provisional := x.provisional, arms := x.arms + 1 }

/-- For a task that goes on, an arm stores one stream. -/
theorem Device.bindStream_of_live (hrec : d.streamRec g = some r) (hlive : d.taskGone tag = false) :
    d.bindStream g tag ps = d.setStream g ((d.stream g).armedFor r tag ps) := by
  simp only [Device.bindStream, hrec, hlive]
  rfl

theorem Device.armCheck_of_idle (hrec : d.streamRec g = some r) (htag : tag ≠ 0 ∨ r.taskHead = true) (ha : (d.stream g).state ≠ .armed)
    (hr : (d.stream g).state ≠ .running) : d.armCheck g tag = none := by
  rcases htag with htag | htag <;> simp [Device.armCheck, hrec, htag, ha, hr]

theorem Device.armCheck_of_busy (hrec : d.streamRec g = some r) (hhead : r.taskHead = true)
    (hs : (d.stream g).state = .armed ∨ (d.stream g).state = .running) : d.armCheck g 0 = some 0x0410 := by
  simp [Device.armCheck, hrec, hhead, hs]

/-! ### Allocation (R153, R168) -/

/-- The tag that the next allocation of a stage on a die takes. -/
def Device.nextTag (d : Device) (die stage : Nat) : Nat := mkTag stage die (d.str.seqs.getD (64 * die + stage) 1)

/-- The entry of a task allocated now. -/
def Device.newTask (d : Device) (die stage : Nat) : Task :=
  { tag := d.nextTag die stage, state := .open, code := 0, aborting := false, alloc := d.str.allocCount, retired := 0
    allocStep := d.stepNum, deadlineStep := d.deadlineStep die stage, carried := false, writes := []
    stationStaging := [], lifts := [], lastLifts := [], prepared := false, exch := [], rdma := [] }

/-- The device after the allocation of an entry. -/
def Device.allocAt (d : Device) (die stage k : Nat) : Device :=
  let seq := d.str.seqs.getD (64 * die + stage) 1
  { d with
    str := { d.str with
      tasks := d.str.tasks.put k (d.newTask die stage), seqs := d.str.seqs.put (64 * die + stage) (if seq ≥ 0xFF_FFFF then 1 else seq + 1)
      allocCount := d.str.allocCount + 1 }
    stn := { d.stn with seqs := d.stn.seqs.filter (fun e => e.2.1 != d.nextTag die stage) } }

theorem Device.allocTag_of_free (hroom : (d.liveTasks die).length < 1024) (hnew : ∀ e ∈ d.str.tasks, e.2.tag ≠ d.nextTag die stage)
    (hk : d.freeEntry die = some k) : d.allocTag die stage = some (d.nextTag die stage, d.allocAt die stage k) := by
  have hlive : (d.liveTasks die).any (fun e => decide (e.2.tag = d.nextTag die stage)) = false := by
    rw [List.any_eq_false]
    intro e he
    simpa using hnew e (List.mem_of_mem_filter he)
  have hfull : ¬ 1024 ≤ (d.liveTasks die).length := Nat.not_le.2 hroom
  unfold Device.nextTag at hlive
  simp only [Device.allocTag, if_neg hfull, hlive, hk]
  rfl

/-- An allocation that proceeds has found the table not full, and an entry. -/
theorem Device.free_of_allocTag (h : (d.allocTag die stage).isSome = true) :
    (d.liveTasks die).length < 1024 ∧ ∃ k, d.freeEntry die = some k := by
  unfold Device.allocTag at h
  extract_lets seq tag at h
  split at h
  · cases h
  · split at h
    · cases h
    · split at h
      · cases h
      next hfull _ _ k hk => exact ⟨Nat.lt_of_not_le hfull, k, hk⟩

/-- The entry that an allocation takes lies in the table of the home die. -/
theorem Device.freeEntry_home (h : d.freeEntry die = some k) : k / 1024 = die := by
  unfold Device.freeEntry at h
  split at h
  · have hlt := List.mem_range.1 (List.mem_of_find?_eq_some ‹_›)
    cases h
    omega
  · extract_lets retired at h
    obtain ⟨e, he, rfl⟩ := Option.map_eq_some_iff.1 h
    have hmem : ∀ b, retired.foldl (fun best (e : Nat × Task) => match best with
        | none => some e
        | some b => if e.2.retired < b.2.retired then some e else best) none = some b → b ∈ retired := by
      refine List.foldlRecOn (motive := fun (o : Option (Nat × Task)) => ∀ b, o = some b → b ∈ retired) _ _ (fun b hb => by cases hb) ?_
      intro o ho e he b hb
      split at hb
      · exact Option.some.inj hb ▸ he
      · split at hb
        · exact Option.some.inj hb ▸ he
        · exact ho b hb
    have hhome := List.of_mem_filter (hmem e he)
    simp only [Bool.and_eq_true, decide_eq_true_eq] at hhome
    exact hhome.1

theorem Device.freeEntry_of_tasks (h : d'.str.tasks = d.str.tasks) : d'.freeEntry die = d.freeEntry die := by
  unfold Device.freeEntry
  rw [h]

theorem Map.mem_put_self {β : Type} (m : Map β) (k : Nat) (v : β) : (k, v) ∈ m.put k v := by
  induction m with
  | nil => simp [Map.put]
  | cons e r ih =>
    obtain ⟨j, w⟩ := e
    unfold Map.put
    split
    · exact List.mem_cons_self ..
    · split
      · exact List.mem_cons_self ..
      · exact List.mem_cons_of_mem _ ih

theorem Device.allocAt_tasks (d : Device) (die stage k : Nat) :
    (d.allocAt die stage k).str.tasks = d.str.tasks.put k (d.newTask die stage) := rfl

/-- What the table answers for a tag holds that tag, in the table of its home die. -/
theorem Device.findTask_some (h : d.findTask tag = some (k, t)) : tag ≠ 0 ∧ (k, t) ∈ d.str.tasks ∧ t.tag = tag ∧ k / 1024 = tagHome tag := by
  unfold Device.findTask at h
  split at h
  · cases h
  · have hp := List.find?_some h
    simp only [Bool.and_eq_true, decide_eq_true_eq] at hp
    exact ⟨‹_›, List.mem_of_find?_eq_some h, hp.1, hp.2⟩

/-- A task goes on when every entry with its tag does. -/
theorem Device.taskGone_of_forall (h : ∀ e ∈ d.str.tasks, e.2.tag = tag → e.2.state ≠ .aborted ∧ e.2.aborting = false) : d.taskGone tag = false := by
  unfold Device.taskGone
  split
  next j t hf =>
    obtain ⟨-, hm, ht, -⟩ := Device.findTask_some hf
    obtain ⟨hs, ha⟩ := h _ hm ht
    rw [ha, decide_eq_false hs]
    rfl
  · rfl

/-- A task allocated under a tag that no entry held goes on. -/
theorem Device.taskGone_allocAt (hnew : ∀ e ∈ d.str.tasks, e.2.tag ≠ d.nextTag die stage) :
    (d.allocAt die stage k).taskGone (d.nextTag die stage) = false := by
  refine Device.taskGone_of_forall fun e he ht => ?_
  rw [Device.allocAt_tasks] at he
  rcases Map.mem_put he with rfl | he
  · exact ⟨nofun, rfl⟩
  · exact absurd ht (hnew _ he)

/-- An allocation for a stream arms it with the new tag. -/
theorem Device.bindStream_allocAt (hrec : d.streamRec g = some r) (hnew : ∀ e ∈ d.str.tasks, e.2.tag ≠ d.nextTag die stage) :
    (d.allocAt die stage k).bindStream g (d.nextTag die stage) ps =
      (d.allocAt die stage k).setStream g ((d.stream g).armedFor r (d.nextTag die stage) ps) :=
  Device.bindStream_of_live (d := d.allocAt die stage k) hrec (Device.taskGone_allocAt hnew)

theorem Device.waiterStage_stream {sid : Nat} (hrec : d.streamRec (gsid die sid) = some r) :
    d.waiterStage (.stream die sid ps) = (die, r.stage) := by
  simp [Device.waiterStage, hrec]

/-- The stream whose allocation is served next finds the table of its die not full, and an entry. -/
theorem Device.free_of_nextAlloc {sid : Nat} (hrec : d.streamRec (gsid die sid) = some r) (h : d.nextAlloc = some (.stream die sid ps)) :
    (d.liveTasks die).length < 1024 ∧ ∃ k, d.freeEntry die = some k := by
  have hsome := List.find?_some h
  rw [Device.waiterStage_stream hrec] at hsome
  exact Device.free_of_allocTag hsome

/-- The device with an allocation served. -/
def Device.unwait (d : Device) (w : AllocWaiter) : Device := d.updStr (fun u => { u with allocWait := u.allocWait.erase w })

theorem Device.freeEntry_unwait (d : Device) (w : AllocWaiter) (die : Nat) : (d.unwait w).freeEntry die = d.freeEntry die :=
  Device.freeEntry_of_tasks rfl

/-! ### Aborts asked for (R160) -/

/-- The device after the request of an abort: the entry holds the cause, and the request is on its way to the home die. -/
def Device.abortPending (d : Device) (k : Nat) (t : Task) (tag code : Nat) : Device :=
  { d with str := { d.str with tasks := d.str.tasks.put k { t with aborting := true, code := code }, abortReqs := d.str.abortReqs ++ [(tag, code)] } }

theorem Device.requestAbort_of_open {code : Nat} (hf : d.findTask tag = some (k, t)) (ho : t.state = .open) (ha : t.aborting = false) :
    d.requestAbort tag code = d.abortPending k t tag code := by
  rw [Device.requestAbort, hf]
  exact if_pos (by rw [ho, ha]; rfl)

theorem Device.stream_of_str (h : d'.str = d.str) (g : Nat) : d'.stream g = d.stream g := by
  rw [Device.stream, h]
  rfl

/-! ### Stall counters (R167) -/

/-- A filter that rejects a key leaves nothing there. -/
theorem Map.get?_filter_of_fail {β : Type} {m : Map β} {q : Nat × β → Bool} {j : Nat} (h : ∀ v, q (j, v) = false) :
    Map.get? (m.filter q) j = none := by
  induction m with
  | nil => rfl
  | cons x r ih =>
    obtain ⟨i, v⟩ := x
    rw [List.filter_cons]
    split
    · have hne : i ≠ j := by
        rintro rfl
        exact absurd (h v) (Bool.not_eq_false _ ▸ ‹_›)
      rw [Map.get?_cons, if_neg hne, ih]
    · exact ih

/-- Rows whose reset value is not 0 lie apart from the stall counters. -/
theorem stall_apart : ∀ r ∈ regDefs, r.reset ≠ 0 → if r.perDie then r.last < 0x7C_0000 ∨ 0x7F_2280 ≤ r.base else r.last < 0x100_0000 ∨ 0x500_0000 ≤ r.base := by
  decide +kernel

theorem stall_zero (n : Nat) : Reg.STALL n 0 0 = 0x0100_0000 * (n + 1) + 0x7C_0000 := by
  unfold Reg.STALL dieBase
  omega

/-- Where the stall counters of a die lie, registers are 0 at reset. -/
theorem regReset_stall {lo n i : Nat} (hn : n < 4) (hlo : lo = 0x0100_0000 * (n + 1) + 0x7C_0000) (hi : i < 25680) :
    regReset (lo + 8 * i) = 0 := by
  unfold regReset
  split
  next q hf =>
    by_contra hne
    have hreset : q.reset ≠ 0 := fun h => hne (by rw [h]; rfl)
    obtain ⟨j, hp, hj⟩ := RegDef.place_of_findReg hf
    have hin := RegDef.place_le_last hp hj
    have hapart := stall_apart q (mem_of_findReg hf) hreset
    split at hapart
    · have hplace := (RegDef.inDie_of_findReg hf ‹_›).2
      omega
    · have hplace := RegDef.place_of_package (off := lo + 8 * i) ‹_›
      omega
  · rfl

/-- Clearing the stall counters of a die zeroes them (R167). -/
theorem Device.stallClear_reg_self {die i : Nat} (hdie : die < 4) (hi : i < 25680) : (d.stallClear die).reg (Reg.STALL die 0 0 + 8 * i) = 0 := by
  show (Map.get? (d.regs.filter _) _).getD _ = _
  rw [Map.get?_filter_of_fail, Option.getD_none]
  · exact regReset_stall hdie (stall_zero die) hi
  · intro v
    generalize Reg.STALL die 0 0 = lo
    simp only [Bool.or_eq_false_iff, decide_eq_false_iff_not]
    omega

/-- Registers outside a range that returns to its reset values read as before. -/
theorem Device.reg_filterRegs {lo n j : Nat} (hj : j < lo ∨ lo + n ≤ j) :
    ({ d with regs := d.regs.filter (fun e => decide (e.1 < lo) || decide (lo + n ≤ e.1)) } : Device).reg j = d.reg j := by
  show (Map.get? (d.regs.filter _) _).getD _ = _
  rw [Map.get?_filter_of_pass fun v => by simpa using hj]
  rfl

/-- Settles O22: each command comes to an arm, an allocation, a request of an abort or an answer, of which the last moves the mailbox alone. -/
theorem armingAndTaskCommands : Obligations.ArmingAndTaskCommands := by
  refine ⟨fun die v g r hv => ?arm, fun m die stage sid params g r hb => ?submit, fun die sid ps r hdie => ?resumed,
    fun die sid ps r hdie => ?refused, fun m tag k t => ?abort, fun m tag k t => ?query, fun die => ?stall⟩
  case arm =>
    obtain ⟨htag, hlt⟩ := hv
    have hid : bitsOf v.toNat 0 15 = v.toNat % 2 ^ 15 := by rw [bitsOf, Nat.pow_zero, Nat.div_one]
    have ht : bitsOf v.toNat 15 32 = v.toNat / 2 ^ 15 := Nat.mod_eq_of_lt (by omega)
    have hrsv : bitsOf v.toNat 47 17 = 0 := by rw [bitsOf, Nat.div_eq_of_lt hlt, Nat.zero_mod]
    refine .of_upd_eq (f := fun d => (d.dropHalves (Reg.STREAM_ARM die.val)).streamArmWrite die.val v.toNat) (fun _ => rfl) (fun _ h => h.1)
      (g := fun d => (d.dropHalves (Reg.STREAM_ARM die.val)).setStream g ((d.stream g).armedFor r (v.toNat / 2 ^ 15)
        ((List.range 8).map (fun k => BitVec.ofNat 32 (d.reg (Reg.STREAM_PARAM die.val k)).toNat)))) ?_ ?_
    · intro d ⟨_, hg, hrec, ha, hrun, hlive⟩
      have hbound : (d.dropHalves (Reg.STREAM_ARM die.val)).boundStream die.val (v.toNat % 2 ^ 15) = g := hg
      have hcheck : (d.dropHalves (Reg.STREAM_ARM die.val)).armCheck g (v.toNat / 2 ^ 15) = none :=
        Device.armCheck_of_idle (d := d.dropHalves _) hrec (.inl htag) ha hrun
      simp only [Device.streamArmWrite, hid, ht, hrsv, hbound, hcheck, Device.arm, if_neg htag]
      exact Device.bindStream_of_live (d := d.dropHalves _) hrec hlive
    · intro d _
      rw [Device.stream_setStream_self]
      exact ⟨rfl, rfl, rfl, rfl, rfl, rfl, fun j hj => Device.stream_setStream_of_ne _ _ hj⟩
  case submit =>
    obtain ⟨hdie, hsid, -⟩ := hb
    refine .of_cmd_eq (fun s => show execTaskSubmit m die stage sid params s = _ from rfl) (fun _ h => ⟨h.1, h.2.1⟩) (g := fun d =>
      (((d.allocAt die stage ((d.freeEntry die).getD 0)).setStream g ((d.stream g).armedFor r (d.nextTag die stage) params)).respond m 0x4001 0
        (u32 (d.nextTag die stage)))) ?_ ?_
    · intro d ⟨_, _, hg, hrec, hhead, hstage, ha, hrun, hroom, hnew, hfree, _, _⟩
      obtain ⟨k, hk⟩ := Option.isSome_iff_exists.1 hfree
      simp only [if_neg (Nat.not_lt.2 hdie), hg, hrec, hhead, hstage, ha, hrun, Nat.not_le.2 hsid, Nat.not_le.2 hroom,
        Device.allocTag_of_free hroom hnew hk, Device.bindStream_allocAt hrec hnew, hk]
      simp
    · intro d ⟨_, _, _, _, _, _, _, _, _, _, hfree, _, hans⟩
      obtain ⟨k, hk⟩ := Option.isSome_iff_exists.1 hfree
      have hs : ∀ e : Device, ((e.setStream g ((d.stream g).armedFor r (d.nextTag die stage) params)).respond m 0x4001 0
          (u32 (d.nextTag die stage))).stream g = (d.stream g).armedFor r (d.nextTag die stage) params := fun e =>
        (Device.stream_of_str (Device.respond_str ..) g).trans (Device.stream_setStream_self ..)
      have ha := Device.respond_answered_of (op := 0x4001) 0 (u32 (d.nextTag die stage)) hans
        (e := (d.allocAt die stage k).setStream g ((d.stream g).armedFor r (d.nextTag die stage) params)) (fun _ _ => rfl) hans.2.2
      rw [hk, Option.getD_some]
      simp only [hs]
      refine ⟨rfl, rfl, rfl, ⟨k, d.newTask die stage, ?_, Device.freeEntry_home hk, rfl, rfl⟩, ha, ?_⟩
      · rw [Device.respond_str]
        exact Map.mem_put_self ..
      · rw [Device.respond_frame]
        rfl
  case resumed =>
    refine .of_upd_eq (fun s => show execTaskAllocResume s = s.upd _ from rfl) (fun _ h => h.1) (g := fun d =>
      ((d.unwait (.stream die sid ps)).allocAt die r.stage ((d.freeEntry die).getD 0)).setStream (gsid die sid)
        ((d.stream (gsid die sid)).armedFor r (d.nextTag die r.stage) ps)) ?_ ?_
    · intro d ⟨_, hnext, hrec, hhead, ha, hrun, hnew, _⟩
      obtain ⟨hroom, k, hk⟩ := Device.free_of_nextAlloc hrec hnext
      have hcheck : (d.unwait (.stream die sid ps)).armCheck (gsid die sid) 0 = none :=
        Device.armCheck_of_idle (d := d.unwait _) hrec (.inr hhead) ha hrun
      have hstage : (d.unwait (.stream die sid ps)).waiterStage (.stream die sid ps) = (die, r.stage) := Device.waiterStage_stream (d := d.unwait _) hrec
      have halloc : (d.unwait (.stream die sid ps)).allocTag die r.stage =
          some (d.nextTag die r.stage, (d.unwait (.stream die sid ps)).allocAt die r.stage k) := Device.allocTag_of_free (d := d.unwait _) hroom hnew
              ((d.freeEntry_unwait _ _).trans hk)
      rw [Device.unwait] at hcheck hstage halloc
      simp only [hnext, Device.refusedArm, hcheck, hstage, halloc, Option.map_none, Device.allocated, hk, Option.getD_some]
      exact Device.bindStream_allocAt (d := d.unwait _) hrec hnew
    · intro d ⟨_, hnext, hrec, _⟩
      obtain ⟨_, k, hk⟩ := Device.free_of_nextAlloc hrec hnext
      rw [hk, Option.getD_some, Device.stream_setStream_self]
      exact ⟨rfl, rfl, rfl, rfl, ⟨k, d.newTask die r.stage, Map.mem_put_self .., Device.freeEntry_home hk, rfl, rfl⟩, rfl⟩
  case refused =>
    refine .of_upd (fun s => show execTaskAllocResume s = s.upd _ from rfl) (fun _ h => h.1) fun d ⟨_, hnext, hrec, hhead, hbusy⟩ => ?_
    have hcheck : (d.updStr (fun u => { u with allocWait := u.allocWait.erase (.stream die sid ps) })).armCheck (gsid die sid) 0 = some 0x0410 :=
      Device.armCheck_of_busy (d := d.updStr _) hrec hhead hbusy
    simp only [hnext, Device.refusedArm, hcheck]
    rfl
  case abort =>
    refine .of_cmd_eq (fun s => show execTaskAbort m tag s = _ from rfl) (fun _ h => ⟨h.1, h.2.1⟩)
      (g := fun d => (d.requestAbort tag 0x041C).respond m 0x4002 0 []) ?_ ?_
    · intro d ⟨_, _, hf, ho, ha, hp, _⟩
      simp [hf, ho, ha, hp]
    · intro d ⟨_, _, hf, ho, ha, _, hans⟩
      rw [Device.requestAbort_of_open hf ho ha]
      refine ⟨?_, by rw [Device.respond_str]; rfl, Device.respond_answered_of _ _ hans (fun _ _ => rfl) hans.2.2, Device.respond_sameRegsBut _ _ _ _, ?_⟩
      · rw [Device.respond_str]
        exact Map.get?_put_self ..
      · rw [Device.respond_frame]
        rfl
  case query =>
    refine .of_cmd_eq (fun s => show execTaskQuery m tag s = _ from rfl) (fun _ h => ⟨h.1, h.2.1⟩) (g := fun d => d.respond m 0x4003 0
      (u8 t.shownState ++ u8 0 ++ u16 t.shownCode ++ u32 (d.refs tag) ++ u32 (ceilDiv (t.granules * 64) 1024))) ?_ ?_
    · intro d ⟨_, _, hf, _⟩
      simp only [hf]
    · intro d ⟨_, _, _, hans⟩
      exact ⟨Device.respond_answered _ _ hans, Device.respond_sameRegsBut _ _ _ _, Device.respond_frame _ _ _ _⟩
  case stall =>
    exact .of_upd (fun s => show execStallClear die s = s.upd _ from rfl) (fun _ h => h.1) fun d _ =>
      ⟨fun i hi => Device.stallClear_reg_self die.isLt hi, fun j hj => Device.reg_filterRegs hj, rfl⟩

end Sys2Proof.Machine
end

section
/-!
SUPPORT. Lifts, pools and cells that wait for them (R149 to R154, R161, R186): what a stored cell or Lift leaves of the others, what a buffer
that leaves for its pool and the end of a task change, and the statement about Lifts and pools.
-/

namespace Sys2Proof.Machine

variable {d d' e : Device} {g k tag pk a : Nat} {t : Task}

/-! ### Cells and Lifts stored -/

@[simp] theorem Device.cell_setCell_self (d : Device) (g : Nat) (c : Cell) : (d.setCell g c).cell g = c := by
  simp [Device.cell, Device.setCell, Map.getD]

theorem Device.cell_setCell_of_ne (d : Device) {g j : Nat} (c : Cell) (h : j ≠ g) : (d.setCell g c).cell j = d.cell j := by
  simp only [Device.cell, Device.setCell, Map.getD, Map.get?_put_of_ne _ _ h]

/-- A stored cell is the one thing that has changed. -/
theorem Device.setCell_oneCell (d : Device) (g : Nat) (c : Cell) : d.oneCell (d.setCell g c) g :=
  ⟨rfl, fun _ h => Device.cell_setCell_of_ne _ _ h⟩

@[simp] theorem Device.liftQ_setLift_self (d : Device) (k : Nat) (q : List LiftEntry) : (d.setLift k q).liftQ k = q := by
  simp [Device.liftQ, Device.setLift, Device.updStr, Map.getD]

theorem Device.liftQ_setLift_of_ne (d : Device) {k j : Nat} (q : List LiftEntry) (h : j ≠ k) : (d.setLift k q).liftQ j = d.liftQ j := by
  simp only [Device.liftQ, Device.setLift, Device.updStr, Map.getD, Map.get?_put_of_ne _ _ h]

theorem Map.getD_put_self {β : Type} (m : Map β) (k : Nat) (v x : β) : (m.put k v).getD k x = v := by
  simp [Map.getD]

/-! ### Buffers (R150, R152) -/

/-- A buffer of a pool of the plan sets out for it. -/
theorem Device.releaseBuffer_of_pool {src pool addr die : Nat} (h : (d.plan.active.bind (fun pl => pl.poolOfBuffer pool addr)).map (·.1) = some die) :
    d.releaseBuffer src pool addr = d.updStr (fun u => { u with flight := u.flight ++ [.release (1024 * die + pool) addr src] }) := by
  obtain ⟨⟨x, p⟩, hp, rfl⟩ := Option.map_eq_some_iff.1 h
  rw [Device.releaseBuffer, hp]

/-- A buffer taken is the first of the free list, and its task holds it. -/
theorem Device.takeBuffer_of_cons {rest : List Nat} (h : d.str.pools.getD pk [] = a :: rest) :
    d.takeBuffer pk tag = some (a, d.updStr (fun u => { u with pools := u.pools.put pk rest, owner := u.owner.put a tag })) := by
  rw [Device.takeBuffer, h]

theorem Device.takeBuffer_of_nil (h : d.str.pools.getD pk [] = []) : d.takeBuffer pk tag = none := by
  rw [Device.takeBuffer, h]

/-- The cell of a BALLOC that has its buffer: the handle record stands in its store, and it goes on. -/
def Cell.balloced (c : Cell) (addr pk a : Nat) : Cell :=
  ({ c with blocked := none }.storeN addr (handleBytes { addr := a, len := 0, last := false, late := false, pool := pk % 1024 })).advance

theorem Device.balloc_of_cons {rest : List Nat} {addr : Nat} (h : d.str.pools.getD pk [] = a :: rest) :
    d.balloc g addr pk = (d.updStr (fun u => { u with pools := u.pools.put pk rest, owner := u.owner.put a (d.cell g).tag })).setCell g
      ((d.cell g).balloced addr pk a) := by
  rw [Device.balloc, Device.takeBuffer_of_cons h]
  rfl

theorem Device.balloc_of_nil {addr : Nat} (h : d.str.pools.getD pk [] = []) :
    d.balloc g addr pk = d.setCell g { d.cell g with blocked := some (.balloc addr pk) } := by
  rw [Device.balloc, Device.takeBuffer_of_nil h]

/-! ### The end of a task (R154) -/

/-- The request of an abort changes the task table and the requests under way. -/
theorem Device.requestAbort_frame (tag code : Nat) : d.requestAbort tag code = { d with str := { d.str with
    tasks := (d.requestAbort tag code).str.tasks, abortReqs := (d.requestAbort tag code).str.abortReqs } } := by
  unfold Device.requestAbort
  split
  · split <;> rfl
  · rfl

/-- The end of a task changes the task table, the requests under way, and the links over which its peers are told. -/
theorem Device.tryEnd_frame (tag : Nat) : d.tryEnd tag = { d with
    str := { d.str with tasks := (d.tryEnd tag).str.tasks, abortReqs := (d.tryEnd tag).str.abortReqs }
    link := (d.tryEnd tag).link, out := (d.tryEnd tag).out } := by
  unfold Device.tryEnd
  split
  · rfl
  next k t _ =>
    split
    · split
      · rw [Device.requestAbort_frame]
      · extract_lets e
        have he : e = { d with link := e.link, out := e.out } := by
          refine List.foldlRecOn (motive := fun (e : Device) => e = { d with link := e.link, out := e.out }) _ _ rfl fun e he x _ => ?_
          rw [Device.sendLink_frame, he]
        split <;> rw [he] <;> rfl
    · rfl

/-- Settles O25: each arrival and each resumption changes one queue, and the producer or the buffer that it is about. -/
theorem liftsAndPools : Obligations.LiftsAndPools := by
  refine ⟨fun dd lift i e => ?arrives, fun dd lift i die e => ?discarded, fun die lift w => ?resent, fun s r => ?stream, fun c addr pk a rest => ?cell,
    fun die pool i a r => ?released⟩
  case arrives =>
    refine .of_upd_eq (fun s => show execHandleArrive dd lift i s = s.upd _ from rfl) (fun _ h => h.1) (g := fun d =>
      (d.updStr (fun u => { u with flight := u.flight.erase (.push (4096 * dd.val + lift.val) e) })).setLift (4096 * dd.val + lift.val)
        (d.liftQ (4096 * dd.val + lift.val) ++ [e])) ?_ ?_
    · intro d ⟨_, hc, harr, hlive⟩
      have hlive' : (d.updStr (fun u => { u with flight := u.flight.erase (.push (4096 * dd.val + lift.val) e) })).taskGone e.tag = false := hlive
      simp only [hc, harr, hlive']
      rfl
    · intro d _
      exact ⟨Device.liftQ_setLift_self .., rfl, fun l hl => Device.liftQ_setLift_of_ne _ _ hl, rfl⟩
  case discarded =>
    refine .of_upd_eq (fun s => show execHandleArrive dd lift i s = s.upd _ from rfl) (fun _ h => h.1) (g := fun d =>
      d.updStr (fun u => { u with flight := u.flight.erase (.push (4096 * dd.val + lift.val) e) ++
        [.release (1024 * die + e.h.pool) e.h.addr (d.liftRouter (4096 * dd.val + lift.val))] })) ?_ ?_
    · intro d ⟨_, hc, harr, hgone, hpool⟩
      have hgone' : (d.updStr (fun u => { u with flight := u.flight.erase (.push (4096 * dd.val + lift.val) e) })).taskGone e.tag = true := hgone
      simp only [hc, harr, hgone']
      exact Device.releaseBuffer_of_pool (d := d.updStr _) hpool
    · exact fun d _ => ⟨rfl, rfl⟩
  case resent =>
    refine .of_upd (fun s => show execLiftFullResume die lift s = s.upd _ from rfl) (fun _ h => h.1) fun d ⟨_, hw, hroom⟩ => ?_
    have hstreams : ∀ (e : Device) (g : Nat) (x : Stream), ((e.setStream g x).stream g).liftWait = x.liftWait := fun e g x => by
      rw [Device.stream_setStream_self]
    simp only [hw, if_neg (Nat.not_le.2 hroom)]
    cases hsrc : w.2.src with
    | stream g =>
      refine ⟨rfl, rfl, fun g' hg => ?_, nofun, rfl⟩
      cases hg
      exact hstreams _ _ _
    | cell g =>
      simp only
      split
      · refine ⟨rfl, rfl, nofun, fun g' hg _ => ?_, rfl⟩
        cases hg
        rw [Device.cell_setCell_self]
        exact ⟨rfl, rfl⟩
      next hno =>
        refine ⟨rfl, rfl, nofun, fun g' hg hb => ?_, rfl⟩
        cases hg
        exact absurd hb hno
    | station key => exact ⟨rfl, rfl, nofun, nofun, rfl⟩
    | port p => exact ⟨rfl, rfl, nofun, nofun, rfl⟩
  case stream =>
    refine .of_upd_eq (fun st => show execPoolWaitResume (.stream s) st = st.upd _ from rfl) (fun _ h => h.1) (g := fun d =>
      d.setStream (gsid s.die.val s.sid.val) { d.stream (gsid s.die.val s.sid.val) with poolWait := false }) ?_ ?_
    · intro d ⟨_, hrec, hwait, hfull⟩
      simp only [hrec, hwait, hfull]
      rfl
    · exact fun d _ => d.setStream_streamOnly s _
  case cell =>
    refine .of_upd_eq (fun st => show execPoolWaitResume (.cell c) st = st.upd _ from rfl) (fun _ h => h.1) (g := fun d =>
      (d.updStr (fun u => { u with pools := u.pools.put pk rest, owner := u.owner.put a (d.cell c.gid).tag })).setCell c.gid
        ((d.cell c.gid).balloced addr pk a)) ?_ ?_
    · intro d ⟨_, hb, hp⟩
      simp only [hb]
      exact Device.balloc_of_cons hp
    · intro d _
      rw [Device.cell_setCell_self]
      exact ⟨rfl, rfl, Map.getD_put_self .., Map.get?_put_self .., fun j hj => Device.cell_setCell_of_ne _ _ hj⟩
  case released =>
    refine .of_upd (fun s => show execBufferReleaseArrive die pool i s = s.upd _ from rfl) (fun _ h => h.1) fun d ⟨_, hr⟩ => ?_
    simp only [hr]
    rw [Device.tryEnd_frame]
    exact ⟨Map.getD_put_self .., rfl, rfl, rfl, rfl⟩

end Sys2Proof.Machine
end

section
/-!
SUPPORT. Cells (R21, R149, R169, R170, R185, R186, R189): what an instruction of a cell that executes comes to, what its registers and
its store hold after a write, the bytes of a handle record, and the statement about the streams, buffers and Lifts of a cell.
-/

namespace Sys2Proof.Machine

variable {d d' : Device} {c : CellId} {x : Cell} {a j pk lk : Nat}

/-! ### Places of a cell (R21) -/

theorem gid_die (c : CellId) : c.gid / 2 ^ 18 = c.die.val := by
  unfold CellId.gid
  omega

theorem gid_cluster (c : CellId) : c.gid / 64 % 4096 = 64 * c.block.val + c.cluster.val := by
  unfold CellId.gid
  omega

@[simp] theorem Device.stream_setCell (d : Device) (g : Nat) (y : Cell) (j : Nat) : (d.setCell g y).stream j = d.stream j := rfl

/-! ### Executing (R169, R190) -/

theorem Device.onCell_of_ready {f : Nat → Cell → Device → Device} (h : d.cellReady c) : d.onCell c f = f c.gid (d.cell c.gid) d := by
  obtain ⟨hb, hs, -, hg⟩ := h
  simp [Device.onCell, hb, hs, hg]

/-- An instruction of a cell completes where the cell executes it, and does what its meaning says of the cell. -/
theorem Completes.of_onCell {i : Instr} {pre : Device → Prop} {post : Device → Device → Prop} {f : Device → Nat → Cell → Device → Device}
    (hi : ∀ s, exec i s = s.upd (fun d => d.onCell c (f d))) (hr : ∀ d, pre d → d.runs ∧ d.cellReady c)
    (hp : ∀ d, pre d → post d (f d c.gid (d.cell c.gid) d)) : Completes i pre post :=
  .of_upd_eq hi (fun d h => (hr d h).1) (fun d h => Device.onCell_of_ready (hr d h).2) hp

/-! ### Registers (R169) -/

theorem getD_setNth {β : Type} {l : List β} {i : Nat} (v x : β) (j : Nat) (h : i < l.length) :
    (setNth l i v).getD j x = if j = i then v else l.getD j x := by
  induction l generalizing i j with
  | nil => cases h
  | cons y r ih =>
    cases i with
    | zero => cases j <;> simp [setNth]
    | succ i =>
      cases j with
      | zero => simp [setNth]
      | succ j => simpa [setNth] using ih j (Nat.lt_of_succ_lt_succ h)

theorem Cell.advance_setW_pc (x : Cell) (r : Nat) (v : Word) : (x.setW r v).advance.pc = x.pc + 4 := by
  unfold Cell.setW
  split <;> rfl

/-- What the registers of a cell hold after a write of one of them. -/
theorem Cell.setW_wroteReg (rd : Reg) (v : Word) (h : x.regs.length = 32) : x.wroteReg (x.setW rd.val v).advance rd.val v := by
  intro r _
  show (x.setW rd.val v).w r = _
  unfold Cell.setW
  split
  next h0 => rw [if_neg (by omega)]
  next h0 =>
    unfold Cell.w
    have hrd : rd.val < x.regs.length := by omega
    simp only [getD_setNth _ _ _ hrd]
    split
    · rw [if_neg (by omega)]
    · simp [*]

/-- The write of a register changes the registers of a cell alone. -/
theorem Cell.setW_eq (x : Cell) (r : Nat) (v : Word) : x.setW r v = { x with regs := (x.setW r v).regs } := by
  unfold Cell.setW
  split <;> rfl

/-- A cell that writes a register and goes on. -/
theorem Device.setCell_wrote (rd : Reg) (v : Word) (h : d.cellReady c) :
    d.wrote (d.setCell c.gid ((d.cell c.gid).setW rd.val v).advance) c rd v := by
  refine ⟨d.setCell_oneCell _ _, ?_, ?_⟩
  · rw [Device.cell_setCell_self]
    exact Cell.setW_wroteReg rd v h.2.2.1
  · rw [Device.cell_setCell_self, Cell.advance, Cell.setW_eq]

/-! ### Stores of cells and handle records (R149, R170) -/

/-- A byte of the store of a cell after a write of bytes from an offset of it. -/
theorem store_foldl_getD {m : Map Byte} (bs : List Byte) (k : Nat) (h : Map.rising m = true) :
    Map.getD ((bs.zipIdx k).foldl (fun m y => Map.setC m 0 (a + y.2) y.1) m) j 0 =
      if a + k ≤ j ∧ j < a + k + bs.length then bs.getD (j - (a + k)) 0 else m.getD j 0 := by
  induction bs generalizing m k with
  | nil => simp
  | cons b r ih =>
    rw [List.zipIdx_cons, List.foldl_cons, ih (k + 1) (Map.rising_setC _ _ _ h), Map.getD_setC _ _ _ _ h]
    by_cases hj : j = a + k
    · subst hj
      simp
    · by_cases hin : a + k + 1 ≤ j ∧ j < a + k + 1 + r.length
      · have hsub : j - (a + k) = (j - (a + k + 1)) + 1 := by omega
        rw [if_pos (by omega), if_pos (by simp only [List.length_cons]; omega), hsub]
        rfl
      · rw [if_neg (by omega), if_neg hj, if_neg (by simp only [List.length_cons]; omega)]

theorem Cell.storeN_getD (bs : List Byte) (h : Map.rising x.store = true) :
    (x.storeN a bs).store.getD j 0 = if a ≤ j ∧ j < a + bs.length then bs.getD (j - a) 0 else x.store.getD j 0 :=
  store_foldl_getD bs 0 h

/-- Bytes stored are loaded again. -/
theorem Cell.load_storeN {n : Nat} (bs : List Byte) (hn : bs.length = n) (h : Map.rising x.store = true) : (x.storeN a bs).load a n = bs := by
  subst hn
  refine List.ext_getElem (by simp [Cell.load]) fun i hi hi' => ?_
  simp only [Cell.load, List.getElem_map, List.getElem_range]
  rw [Cell.storeN_getD bs h, if_pos (by omega), Nat.add_sub_cancel_left]
  exact List.getD_eq_getElem _ _ hi'

theorem length_leBytes (n v : Nat) : (leBytes n v).length = n := by
  induction n generalizing v with
  | zero => rfl
  | succ n ih => simp [leBytes, ih]

theorem ofLe_leBytes (n v : Nat) : ofLe (leBytes n v) = v % 256 ^ n := by
  induction n generalizing v with
  | zero => simp [leBytes, ofLe, Nat.mod_one]
  | succ n ih =>
    rw [leBytes, ofLe, ih, BitVec.toNat_ofNat, show 256 ^ (n + 1) = 256 * 256 ^ n from pow_succ' .., Nat.mod_mul]

/-- A field that lies past the first of two parts lies in the second. -/
theorem leAt_append {p q : List Byte} {o n : Nat} (h : p.length ≤ o) : leAt (p ++ q) o n = leAt q (o - p.length) n := by
  rw [leAt, leAt, List.drop_append, List.drop_eq_nil_of_le h, List.nil_append]

theorem leAt_leBytes_append (n v : Nat) (q : List Byte) : leAt (leBytes n v ++ q) 0 n = v % 256 ^ n := by
  rw [leAt, List.drop_zero, List.take_append_of_le_length (by rw [length_leBytes]), List.take_of_length_le (by rw [length_leBytes]), ofLe_leBytes]

/-- The three fields of a handle record. -/
theorem handleBytes_fields (h : Handle) : leAt (handleBytes h) 0 8 = h.addr % 256 ^ 8 ∧
    leAt (handleBytes h) 8 4 = (h.len + 2 ^ 24 * bit h.last + 2 ^ 25 * bit h.late) % 256 ^ 4 ∧ leAt (handleBytes h) 12 2 = h.pool % 256 ^ 2 := by
  simp only [handleBytes, u64, u32, u16, List.append_assoc]
  refine ⟨leAt_leBytes_append .., ?_, ?_⟩
  · rw [leAt_append (by simp [length_leBytes]), length_leBytes]
    exact leAt_leBytes_append ..
  · rw [leAt_append (by simp [length_leBytes]), length_leBytes, leAt_append (by simp [length_leBytes]), length_leBytes]
    exact leAt_leBytes_append ..

theorem length_handleBytes (h : Handle) : (handleBytes h).length = 16 := by
  simp [handleBytes, u64, u32, u16, length_leBytes]

/-- The record of an empty buffer spells its handle. -/
theorem handleOf_handleBytes {pool : Nat} (ha : a < 2 ^ 57) (hp : pool < 1024) :
    handleOf (handleBytes { addr := a, len := 0, last := false, late := false, pool := pool }) =
      { addr := a, len := 0, last := false, late := false, pool := pool } := by
  obtain ⟨haddr, hlen, hpool⟩ := handleBytes_fields { addr := a, len := 0, last := false, late := false, pool := pool }
  simp only [bit, if_neg Bool.false_ne_true, Nat.mul_zero] at hlen
  rw [handleOf, haddr, hlen, hpool, Handle.mk.injEq]
  refine ⟨?_, by decide, by decide, by decide, ?_⟩
  · simp only [bitsOf]
    omega
  · simp only [bitsOf]
    omega

theorem recordAddr_of_aligned (h : a + 16 ≤ 0x400) (h16 : a % 16 = 0) : recordAddr a = none := by
  simp [recordAddr, Nat.not_lt.2 h, h16]

/-! ### Pushes (R150) -/

/-- The update of a task's entry changes the task table alone. -/
theorem Device.updTask_frame (tag : Nat) (f : Task → Task) : d.updTask tag f = { d with str := { d.str with tasks := (d.updTask tag f).str.tasks } } := by
  unfold Device.updTask
  split <;> rfl

/-- A push to a Lift with room sets out at once; beside it the task's entry notes the Lift. -/
theorem Device.push_of_room {e : LiftEntry} (hroom : d.liftLoad lk < 256) (hw : d.str.pushWait = []) :
    (d.push lk e).str.flight = d.str.flight ++ [.push lk e] ∧
    d.push lk e = { d with str := { d.str with tasks := (d.push lk e).str.tasks, flight := (d.push lk e).str.flight } } := by
  unfold Device.push
  extract_lets d1
  have h1 : d1 = { d with str := { d.str with tasks := d1.str.tasks } } := Device.updTask_frame _ _
  have hgo : (decide (d1.liftLoad lk < 256) && !d1.str.pushWait.any (fun w => decide (w.1 = lk))) = true := by
    rw [h1]
    show (decide (d.liftLoad lk < 256) && !d.str.pushWait.any _) = true
    rw [hw, decide_eq_true hroom]
    rfl
  rw [if_pos hgo, h1]
  exact ⟨rfl, rfl⟩

/-- A buffer that is in use changes hands. -/
def Device.ownedBy (d : Device) (addr tag : Nat) : Device :=
  d.updStr (fun u => { u with owner := if (u.owner.get? addr).isSome then u.owner.put addr tag else u.owner })

/-- A push of a buffer that changed hands, by a cell: what has changed. -/
theorem Device.passed_frame {e p : Device} {o : Map Nat} {m : Map Cell} (he : e = { d with cells := m, str := { d.str with owner := o } })
    (hp : p = { e with str := { e.str with tasks := p.str.tasks, flight := p.str.flight } }) :
    p = { d with cells := p.cells, str := { d.str with flight := p.str.flight, owner := p.str.owner, tasks := p.str.tasks } } := by
  rw [hp, he]

theorem Device.cell_of_cells (h : d'.cells = d.cells) (g : Nat) : d'.cell g = d.cell g := by
  rw [Device.cell, h]
  rfl

/-- What an arm is refused with (R130). -/
theorem Device.armCheck_code {g tag e : Nat} (h : d.armCheck g tag = some e) : e = 0x041E ∨ e = 0x0410 := by
  unfold Device.armCheck at h
  split at h
  · exact .inl (Option.some.inj h).symm
  · split at h
    · exact .inl (Option.some.inj h).symm
    · split at h
      · exact .inr (Option.some.inj h).symm
      · cases h

/-- Settles O32: each instruction comes to one change of its cell, beside the stream, the pool or the path of packets that it drives. -/
theorem cellStreamsAndLifts : Obligations.CellStreamsAndLifts := by
  refine ⟨fun c rd rs1 rs2 ctx a tag r => ?armed, fun c rd rs1 rs2 ctx a e => ?refused, fun c rd ctx r => ?done, fun c rd ctx r => ?waits,
    fun c rs1 rs2 a pool x r rest => ?buffer, fun c rs1 rs2 a pool r => ?empty, fun c rs1 a die h r => ?release, fun c rs1 rs2 a lk h r => ?push,
    fun c rd rs1 a h r => ?place⟩
  case armed =>
    refine .of_onCell (fun s => show execSarm c rd rs1 rs2 ctx s = s.upd _ from rfl) (fun _ h => ⟨h.1, h.2.1⟩)
      fun d ⟨_, hready, ha, hin, h32, htag, hne, hlive, hrec, hidle, hstop⟩ => ?_
    have hcheck := Device.armCheck_of_idle hrec (.inl hne) hidle hstop
    simp only [ha, htag, Nat.not_lt.2 hin, h32, gid_die c, gid_cluster c, hcheck, Device.arm, if_neg hne, Device.bindStream_of_live hrec hlive]
    simp only [if_false, bne_self_eq_false, Bool.false_eq_true, Device.stream_setCell, Device.stream_setStream_self, Device.cell_setCell_self]
    exact ⟨rfl, rfl, rfl, Cell.setW_wroteReg rd _ hready.2.2.1, Cell.advance_setW_pc _ _ _, fun j hj => Device.stream_setStream_of_ne _ _ hj, rfl⟩
  case refused =>
    refine .of_onCell (fun s => show execSarm c rd rs1 rs2 ctx s = s.upd _ from rfl) (fun _ h => ⟨h.1, h.2.2.1⟩)
      fun d ⟨_, hwf, hready, ha, hin, h32, hcheck⟩ => ?_
    simp only [ha, Nat.not_lt.2 hin, h32, gid_die c, gid_cluster c, hcheck, if_false, bne_self_eq_false, Bool.false_eq_true,
      Device.cell_setCell_self]
    have hcode : e % 2 ^ 16 = e ∧ e / 256 = 4 := by rcases Device.armCheck_code hcheck with rfl | rfl <;> decide
    refine ⟨Cell.setW_wroteReg rd _ hready.2.2.1, Cell.advance_setW_pc _ _ _, Device.refuse_str .., Device.refuse_mem .., ?_⟩
    show (d.refuse e c.die.val).fld _ _ = e
    rw [Device.refuse, hcode.2]
    exact (Device.refuseAt_code _ _ _ hwf).trans hcode.1
  case done =>
    refine .of_onCell (fun s => show execSwait c rd ctx s = s.upd _ from rfl) (fun _ h => ⟨h.1, h.2.1⟩)
      fun d ⟨_, hready, hrec, hdone⟩ => ?_
    simp only [gid_die c, gid_cluster c, hrec, hdone, Stream.statusLow]
    exact d.setCell_wrote rd _ hready
  case waits =>
    refine .of_onCell (fun s => show execSwait c rd ctx s = s.upd _ from rfl) (fun _ h => ⟨h.1, h.2.1⟩)
      fun d ⟨_, hready, hrec, hdone, hlive⟩ => ?_
    simp only [gid_die c, gid_cluster c, hrec, hdone, hlive]
    exact ⟨d.setCell_oneCell _ _, Device.cell_setCell_self ..⟩
  case buffer =>
    refine .of_onCell (fun s => show execBalloc c rs1 rs2 s = s.upd _ from rfl) (fun _ h => ⟨h.1, h.2.1⟩)
      fun d ⟨_, hready, hrise, ha, hin, h16, hpool, hrec, hfree, hp, hx⟩ => ?_
    simp only [ha, hpool, recordAddr_of_aligned hin h16, gid_die c, hrec, Device.balloc_of_cons hfree]
    have hlen : (handleBytes { addr := x, len := 0, last := false, late := false, pool := pool }).length = 16 := length_handleBytes _
    have hmod : (1024 * c.die.val + pool) % 1024 = pool := by omega
    have hkeep : { d.cell c.gid with blocked := none } = d.cell c.gid := by rw [← hready.1]
    have hcell : (d.cell c.gid).balloced a (1024 * c.die.val + pool) x =
        ((d.cell c.gid).storeN a (handleBytes { addr := x, len := 0, last := false, late := false, pool := pool })).advance := by
      rw [Cell.balloced, hmod, hkeep]
    rw [Device.cell_setCell_self, hcell]
    refine ⟨?_, Map.getD_put_self .., Map.get?_put_self .., rfl, fun j hj => ?_, fun j hj => Device.cell_setCell_of_ne _ _ hj, rfl⟩
    · refine Eq.trans ?_ (handleOf_handleBytes hx hp)
      exact congrArg handleOf (Cell.load_storeN _ hlen hrise)
    · exact (Cell.storeN_getD _ hrise).trans (if_neg (by omega))
  case empty =>
    refine .of_onCell (fun s => show execBalloc c rs1 rs2 s = s.upd _ from rfl) (fun _ h => ⟨h.1, h.2.1⟩)
      fun d ⟨_, hready, ha, hin, h16, hpool, hrec, hempty⟩ => ?_
    simp only [ha, hpool, recordAddr_of_aligned hin h16, gid_die c, hrec, Device.balloc_of_nil hempty]
    exact ⟨d.setCell_oneCell _ _, Device.cell_setCell_self ..⟩
  case release =>
    refine .of_onCell (fun s => show execBrel c rs1 s = s.upd _ from rfl) (fun _ h => ⟨h.1, h.2.1⟩)
      fun d ⟨_, hready, ha, hin, h16, hh, hpool⟩ => ?_
    simp only [ha, recordAddr_of_aligned hin h16, hh, Device.releaseHandle]
    rw [Device.releaseBuffer_of_pool (d := d.setCell _ _) hpool]
    exact ⟨rfl, Device.cell_setCell_self .., fun j hj => Device.cell_setCell_of_ne _ _ hj, rfl⟩
  case push =>
    refine .of_onCell (fun s => show execLpush c rs1 rs2 s = s.upd _ from rfl) (fun _ h => ⟨h.1, h.2.1⟩)
      fun d ⟨_, hready, ha, hin, h16, hlift, hh, hlen, hsize, htag, hlive, hroom, hwait⟩ => ?_
    have hsz : ¬ r.size < h.len := Nat.not_lt.2 hsize
    have hfull : (decide (256 ≤ d.liftLoad lk) || d.str.pushWait.any (fun w => decide (w.1 = lk))) = false := by
      rw [hwait, decide_eq_false (Nat.not_le.2 hroom)]
      rfl
    obtain ⟨hflight, hframe⟩ := Device.push_of_room (lk := lk) (e := { h := h, tag := (d.cell c.gid).tag, src := .cell c.gid })
      (d := (d.ownedBy h.addr (d.cell c.gid).tag).setCell c.gid ((d.cell c.gid).spend h).advance) hroom hwait
    simp only [ha, recordAddr_of_aligned hin h16, hlift, hh, hlen, hsz, htag, hlive, hfull]
    refine ⟨hflight, ?_, fun j hj => ?_, ?_⟩
    · exact (Device.cell_of_cells (congrArg Device.cells hframe) _).trans (Device.cell_setCell_self ..)
    · exact (Device.cell_of_cells (congrArg Device.cells hframe) _).trans (Device.cell_setCell_of_ne _ _ hj)
    · exact Device.passed_frame rfl hframe
  case place =>
    refine .of_onCell (fun s => show execHloc c rd rs1 s = s.upd _ from rfl) (fun _ h => ⟨h.1, h.2.1⟩)
      fun d ⟨_, hready, ha, hin, h16, hh, hlo, hhi⟩ => ?_
    simp only [ha, recordAddr_of_aligned hin h16, hh, clusterByte, gid_die c, gid_cluster c, Nat.not_lt.2 hlo, Nat.not_lt.2 hhi]
    exact d.setCell_wrote rd _ hready

end Sys2Proof.Machine
end

section
/-!
SUPPORT. Items and sync operations of cells (R153, R187, R188, R213, R215, R224): what the completion of an item changes, the sync objects of
this device, and the statement about the sync operations and the work of a cell.
-/

namespace Sys2Proof.Machine

variable {d : Device} {g k tag id : Nat} {c : CellId}

/-! ### The completion of an item (R154, R215) -/

/-- The request of an abort leaves every entry but that of an open task. -/
theorem Device.requestAbort_get?_of_closed {j code : Nat} (h : ∀ t, d.findTask tag = some (j, t) → t.state ≠ .open) :
    (d.requestAbort tag code).str.tasks.get? j = d.str.tasks.get? j := by
  unfold Device.requestAbort
  split
  next k t hf =>
    split
    next ho =>
      simp only [Bool.and_eq_true, decide_eq_true_eq] at ho
      have hne : j ≠ k := fun hj => h t (hj ▸ hf) ho.1
      exact Map.get?_put_of_ne _ _ hne
    · rfl
  · rfl

/-- The end of a task changes no entry but that of the task, which is open. -/
theorem Device.tryEnd_tasks (tag j : Nat) :
    (d.tryEnd tag).str.tasks.get? j = d.str.tasks.get? j ∨ ∃ t, d.findTask tag = some (j, t) ∧ t.state = .open := by
  by_cases hopen : ∃ t, d.findTask tag = some (j, t) ∧ t.state = .open
  · exact .inr hopen
  · refine .inl ?_
    unfold Device.tryEnd
    split
    · rfl
    next k t hf =>
      split
      next hend =>
        have hko : t.state = .open := by
          simp only [Bool.and_eq_true, decide_eq_true_eq] at hend
          exact hend.1.1.1.1
        have hne : j ≠ k := fun h => hopen ⟨t, h ▸ hf, hko⟩
        split
        · exact Device.requestAbort_get?_of_closed fun t' ht' ho => hopen ⟨t', ht', ho⟩
        · extract_lets e
          have he : e.str = d.str := by
            refine List.foldlRecOn (motive := fun (e : Device) => e.str = d.str) _ _ rfl fun e he x _ => ?_
            rw [Device.sendLink_frame, he]
          split
          · exact (Map.get?_put_of_ne _ _ hne).trans (by rw [he])
          · exact (Map.get?_put_of_ne _ _ hne).trans (by rw [he])
      · rfl

theorem Device.dropFlow_frame (k : Nat) (f : Option Nat) :
    d.dropFlow k f = { d with sched := { d.sched with gates := (d.dropFlow k f).sched.gates } } := by
  unfold Device.dropFlow
  split
  · rfl
  · extract_lets
    split <;> rfl

theorem Device.settle_frame (k : Nat) : d.settle k = { d with sched := { d.sched with gates := (d.settle k).sched.gates } } := rfl

/-- The completion of an item leaves the cell without it; beside the cell it changes the Gate, and the item's task where it is open. -/
theorem Device.completeItem_post {e : Device} (he : e = d.completeItem g) :
    e.cell g = { d.cell g with item := none } ∧ (∀ j, j ≠ g → e.cell j = d.cell j) ∧ ((d.cell g).item = none → e = d) ∧
    (∀ j, e.str.tasks.get? j = d.str.tasks.get? j ∨ ∃ i t, (d.cell g).item = some i ∧ d.findTask i.tag = some (j, t) ∧ t.state = .open) ∧
    e = { d with
      cells := e.cells, sched := { d.sched with gates := e.sched.gates }
      str := { d.str with tasks := e.str.tasks, abortReqs := e.str.abortReqs }, link := e.link, out := e.out } := by
  unfold Device.completeItem at he
  extract_lets x at he
  split at he
  next hnone =>
    have hx : { d.cell g with item := none } = d.cell g := by rw [← hnone]
    subst he
    exact ⟨hx.symm, fun _ _ => rfl, fun _ => rfl, fun _ => .inl rfl, rfl⟩
  next i hi =>
    obtain ⟨f, hf⟩ : ∃ f, f = ((d.setCell g { x with item := none }).dropFlow (g / 64) i.flow).settle (g / 64) := ⟨_, rfl⟩
    have hframe : f = { d.setCell g { x with item := none } with sched := { d.sched with gates := f.sched.gates } } := by
      rw [hf, Device.settle_frame, Device.dropFlow_frame]
      rfl
    rw [← hf] at he
    have hcells : e.cells = (d.setCell g { x with item := none }).cells := by rw [he, Device.tryEnd_frame, hframe]
    have htasks : ∀ j, f.str.tasks.get? j = d.str.tasks.get? j := fun j => by rw [hframe]; rfl
    have hfind : f.findTask i.tag = d.findTask i.tag := by rw [hframe]; rfl
    refine ⟨(Device.cell_of_cells hcells g).trans (Device.cell_setCell_self ..), fun j hj => (Device.cell_of_cells hcells j).trans
      (Device.cell_setCell_of_ne _ _ hj), fun hno => ?_, fun j => ?_, ?_⟩
    · exact absurd (hi.symm.trans hno) (by simp)
    · rw [← htasks, he]
      rcases Device.tryEnd_tasks (d := f) i.tag j with h | ⟨t, ht, ho⟩
      · exact .inl h
      · exact .inr ⟨i, t, hi, hfind ▸ ht, ho⟩
    · rw [he, Device.tryEnd_frame, hframe]
      rfl

theorem Cell.advance_setW_tag (x : Cell) (r : Nat) (v : Word) : (x.setW r v).advance.tag = x.tag := by
  unfold Cell.setW
  split <;> rfl

/-! ### Sync objects of this device (R220, R224) -/

theorem bitAt_of_here (h : id < 2 ^ 18) : bitAt id 18 = false := by
  simp only [bitAt, Nat.div_eq_of_lt h]
  rfl

/-- A sync ID without member names an object of this device, and is in order. -/
theorem Device.syncCheck_of_here (signal : Bool) (h : id < 2 ^ 18) : d.syncCheck id signal = none := by
  have hrsv : bitsOf id 24 8 = 0 := by rw [bitsOf, Nat.div_eq_of_lt (by omega), Nat.zero_mod]
  have hmember : bitsOf id 19 5 = 0 := by rw [bitsOf, Nat.div_eq_of_lt (by omega), Nat.zero_mod]
  simp [Device.syncCheck, hrsv, hmember, bitAt_of_here h]

theorem syncObj_of_here (h : id < 2 ^ 18) : syncObj id = id := by
  rw [syncObj, bitsOf, Nat.pow_zero, Nat.div_one, Nat.mod_eq_of_lt h]

/-- A sync instruction that succeeds writes 0 and goes on. -/
theorem Device.syncStatus_zero (g : Nat) (x : Cell) (rd : Reg) : d.syncStatus g x rd 0 = d.setCell g (x.setW rd.val 0).advance := rfl

/-- Settles O33: sync operations join the operations under way, and work and tasks come to the completion of an item or an allocation. -/
theorem cellSyncAndWork : Obligations.CellSyncAndWork := by
  refine ⟨fun c rd rs1 rs2 id => ?signal, fun c rd rs1 id => ?reset, fun c rd rs1 rs2 id => ?met, fun c rd rs1 rs2 id => ?waits,
    fun c rd rs1 a => ?ask, fun c rd rs1 stage => ?new, fun c => ?halt⟩
  case signal =>
    refine .of_onCell (fun s => show execSsig c rd rs1 rs2 s = s.upd _ from rfl) (fun _ h => ⟨h.1, h.2.1⟩) fun d ⟨_, hready, hid, hlt⟩ => ?_
    simp only [hid, Device.syncCheck_of_here true hlt, bitAt_of_here hlt, syncObj_of_here hlt, Bool.not_false, Bool.true_or, if_true, Device.syncStatus_zero,
      Device.cell_setCell_self]
    exact ⟨rfl, Cell.setW_wroteReg rd _ hready.2.2.1, Cell.advance_setW_pc _ _ _, fun j hj => Device.cell_setCell_of_ne _ _ hj, rfl⟩
  case reset =>
    refine .of_onCell (fun s => show execSrst c rd rs1 s = s.upd _ from rfl) (fun _ h => ⟨h.1, h.2.1⟩) fun d ⟨_, hready, hid, hlt⟩ => ?_
    simp only [hid, Device.syncCheck_of_here false hlt, syncObj_of_here hlt, Device.syncStatus_zero, Device.cell_setCell_self]
    exact ⟨rfl, Cell.setW_wroteReg rd _ hready.2.2.1, Cell.advance_setW_pc _ _ _, fun j hj => Device.cell_setCell_of_ne _ _ hj, rfl⟩
  case met =>
    refine .of_onCell (fun s => show execSwge c rd rs1 rs2 s = s.upd _ from rfl) (fun _ h => ⟨h.1, h.2.1⟩) fun d ⟨_, hready, hid, hlt, hmet⟩ => ?_
    simp only [hid, Device.syncCheck_of_here false hlt, syncObj_of_here hlt, if_pos hmet, Device.syncStatus_zero]
    exact d.setCell_wrote rd _ hready
  case waits =>
    refine .of_onCell (fun s => show execSwge c rd rs1 rs2 s = s.upd _ from rfl) (fun _ h => ⟨h.1, h.2.1⟩) fun d ⟨_, hready, hid, hlt, hno⟩ => ?_
    simp only [hid, Device.syncCheck_of_here false hlt, syncObj_of_here hlt, if_neg (Nat.not_le.2 hno)]
    exact ⟨d.setCell_oneCell _ _, Device.cell_setCell_self ..⟩
  case ask =>
    refine .of_onCell (fun s => show execAsk c rd rs1 s = s.upd _ from rfl) (fun _ h => ⟨h.1, h.2.1⟩) fun d ⟨_, hready, ha, h32, hin⟩ => ?_
    obtain ⟨hself, hother, hnone, htasks, hframe⟩ := Device.completeItem_post (d := d) (g := c.gid) rfl
    simp only [ha, h32, if_neg (Nat.not_lt.2 hin), bne_self_eq_false, Bool.false_eq_true, if_false, hself, Device.cell_setCell_self]
    refine ⟨trivial, fun j hj => (Device.cell_setCell_of_ne _ _ hj).trans (hother j hj), fun h => ?_, htasks, ?_⟩
    · rw [hnone h]
      rfl
    · rw [hframe]
      rfl
  case new =>
    refine .of_onCell (fun s => show execTnew c rd rs1 s = s.upd _ from rfl) (fun _ h => ⟨h.1, h.2.1⟩)
      fun d ⟨_, hready, hst, hlt, hstage, hroom, hfree, hnew⟩ => ?_
    obtain ⟨k, hk⟩ := Option.isSome_iff_exists.1 hfree
    have halloc := Device.allocTag_of_free hroom hnew hk
    have hin : ¬ 63 < stage := by omega
    have hsome : (d.plan.active.bind (fun pl => pl.stage c.die.val stage)).isNone = false := by
      rw [← Option.not_isSome, hstage]
      rfl
    simp only [hst, gid_die c, halloc, hin, hsome, decide_false, Bool.or_self, Bool.false_eq_true, if_false, Device.cell_setCell_self]
    exact ⟨Cell.setW_wroteReg (x := { d.cell c.gid with tag := d.nextTag c.die.val stage }) rd _ hready.2.2.1, Cell.advance_setW_tag _ _ _, Cell.advance_setW_pc _ _ _,
      ⟨k, d.newTask c.die.val stage, Map.mem_put_self .., Device.freeEntry_home hk, rfl, rfl⟩, rfl⟩
  case halt =>
    refine .of_onCell (fun s => show execHalt c s = s.upd _ from rfl) (fun _ h => h) fun d _ => ?_
    obtain ⟨hself, hother, hnone, htasks, hframe⟩ := Device.completeItem_post (d := d) (g := c.gid) rfl
    simp only [hself, Device.cell_setCell_self]
    refine ⟨trivial, fun j hj => (Device.cell_setCell_of_ne _ _ hj).trans (hother j hj), fun h => ?_, htasks, ?_⟩
    · rw [hnone h]
      rfl
    · rw [hframe]
      rfl

end Sys2Proof.Machine
end

section
/-!
SUPPORT. The pages of a range, and the points of a stage, the commit and the abort of a task (R155 to R161).
-/

namespace Sys2Proof.Machine

variable {d d' : Device} {die st k tag code : Nat} {t : Task} {r : StageRec}

/-! ### The pages of a range (R140) -/

/-- The parts are consecutive: from offset `o` of the range that begins at `a`, they reach offset `n`. -/
def partsFrom (a : Nat) : (o n : Nat) → List (Nat × Nat × Nat) → Prop
  | o, n, [] => o = n
  | o, n, p :: ps => p.1 = a + o ∧ p.2.2 = o ∧ o + p.2.1 ≤ n ∧ partsFrom a (o + p.2.1) n ps

theorem le_of_partsFrom {a o n : Nat} {ps : List (Nat × Nat × Nat)} (h : partsFrom a o n ps) : o ≤ n := by
  cases ps with
  | nil => exact Nat.le_of_eq h
  | cons p ps =>
    obtain ⟨-, -, hle, -⟩ := h
    omega

/-- The `i`-th part of a range. -/
def pagePart (a n i : Nat) : Nat × Nat × Nat :=
  (max a ((a / 4096 + i) * 4096), min (a + n) ((a / 4096 + i + 1) * 4096) - max a ((a / 4096 + i) * 4096), max a ((a / 4096 + i) * 4096) - a)

theorem pagePart_addr (a n i : Nat) : (pagePart a n i).1 = a + (pagePart a n i).2.2 := by
  simp only [pagePart]
  omega

theorem pagePart_first (a n : Nat) : (pagePart a n 0).2.2 = 0 := by
  simp only [pagePart]
  omega

/-- A part that is not the last ends where the next begins. -/
theorem pagePart_next {a n i : Nat} (hi : i < (a + n - 1) / 4096 - a / 4096) :
    (pagePart a n i).2.2 + (pagePart a n i).2.1 = (pagePart a n (i + 1)).2.2 := by
  simp only [pagePart]
  omega

theorem pagePart_last {a n i : Nat} (hn : 0 < n) (hi : i = (a + n - 1) / 4096 - a / 4096) : (pagePart a n i).2.2 + (pagePart a n i).2.1 = n := by
  simp only [pagePart]
  omega

/-- The parts of a range are consecutive and make it up. -/
theorem partsFrom_pageParts (a n : Nat) : partsFrom a 0 n (pageParts a n) := by
  have hfrom (m : Nat) : ∀ j, 0 < n → j + m = (a + n - 1) / 4096 - a / 4096 →
      partsFrom a (pagePart a n j).2.2 n ((List.range' j (m + 1)).map (pagePart a n)) := by
    induction m with
    | zero =>
      intro j hn hj
      have hlast := pagePart_last hn hj
      exact ⟨pagePart_addr .., rfl, Nat.le_of_eq hlast, hlast⟩
    | succ m ih =>
      intro j hn hj
      have hnext := pagePart_next (a := a) (n := n) (i := j) (by omega)
      have hrest := ih (j + 1) hn (by omega)
      rw [← hnext] at hrest
      exact ⟨pagePart_addr .., rfl, le_of_partsFrom hrest, hrest⟩
  show partsFrom a 0 n ((List.range (transfersOf a n)).map (pagePart a n))
  unfold transfersOf
  split
  next hn => exact hn.symm
  next hn =>
    have h := hfrom ((a + n - 1) / 4096 - a / 4096) 0 (Nat.pos_of_ne_zero hn) (Nat.zero_add _)
    rwa [pagePart_first, ← List.range_eq_range'] at h

theorem length_pageParts (a n : Nat) : (pageParts a n).length = transfersOf a n := by
  simp [pageParts]

/-- Every part of a range of the device's memory begins in it. -/
theorem Device.isLocal_of_mem_pageParts {a n : Nat} {p : Nat × Nat × Nat} (hl : d.localRange a n = true) (hp : p ∈ pageParts a n) : d.isLocal p.1 = true := by
  obtain ⟨i, hi, rfl⟩ := List.mem_map.1 hp
  unfold transfersOf at hi
  split at hi
  next => cases hi
  next hn =>
    rw [Device.localRange, decide_eq_false hn, Bool.false_or, List.all_eq_true] at hl
    exact hl i hi

/-- The parts of a range, each with its bytes, are written. -/
def Device.writeParts (d : Device) (bs : List Byte) (ps : List (Nat × Nat × Nat)) : Device :=
  ps.foldl (fun d p => d.write p.1 ((bs.drop p.2.2).take p.2.1)) d

/-- Bytes that leave for the device's own memory are written there. -/
theorem Device.writeOut_of_local {a : Nat} {bs : List Byte} (hl : d.localRange a bs.length = true) :
    d.writeOut a bs false = d.writeParts bs (pageParts a bs.length) := by
  have hparts : ∀ (ps : List (Nat × Nat × Nat)) (e : Device), (∀ p ∈ ps, e.isLocal p.1 = true) → ps.foldl (fun d p =>
      let part := (bs.drop p.2.2).take p.2.1
      match d.place p.1 with
      | .host h => if d.dmaOff then d else d.emit (.hostWrite h part false)
      | .peer m x => d.sendLink m 0x09 (u64 x ++ zeros 8 ++ u8 (bit false)) part
      | .registers => d
      | .unmapped => d
      | _ => let d := d.write p.1 part
             if false then d.poisonRange p.1 part.length else d) e = e.writeParts bs ps := by
    intro ps
    induction ps with
    | nil => intro e _; rfl
    | cons p ps ih =>
      intro e he
      have hp := he p (List.mem_cons_self ..)
      have hrest := ih (e.write p.1 ((bs.drop p.2.2).take p.2.1)) (fun q hq => he q (List.mem_cons_of_mem _ hq))
      unfold Device.isLocal at hp
      rw [List.foldl_cons]
      refine Eq.trans ?_ hrest
      congr 1
      split <;> simp_all
  exact hparts _ d fun p hp => Device.isLocal_of_mem_pageParts hl hp

theorem Device.writeParts_frame (bs : List Byte) (ps : List (Nat × Nat × Nat)) :
    d.writeParts bs ps = { d with mem := (d.writeParts bs ps).mem, poison := (d.writeParts bs ps).poison } := by
  refine List.foldlRecOn (motive := fun (e : Device) => e = { d with mem := e.mem, poison := e.poison }) _ _ rfl fun e he p _ => ?_
  rw [he]
  rfl

/-- What memory holds once consecutive parts have been written. -/
theorem Device.memRead_writeParts {a o n : Nat} {bs : List Byte} {ps : List (Nat × Nat × Nat)} (hps : partsFrom a o n ps)
    (hn : n ≤ bs.length) (hwf : Memory.wf d.mem = true) (y : Nat) :
    memRead (d.writeParts bs ps).mem y = if a + o ≤ y ∧ y < a + n then bs.getD (y - a) 0 else memRead d.mem y := by
  induction ps generalizing d o with
  | nil =>
    rw [if_neg (by have : o = n := hps; omega)]
    rfl
  | cons p ps ih =>
    obtain ⟨haddr, hoff, hle, hrest⟩ := hps
    have hend := le_of_partsFrom hrest
    show memRead ((d.write p.1 ((bs.drop p.2.2).take p.2.1)).writeParts bs ps).mem y = _
    rw [ih hrest (Device.write_wf _ _ hwf)]
    have hlen : ((bs.drop p.2.2).take p.2.1).length = p.2.1 := by
      rw [List.length_take, List.length_drop]
      omega
    have hpart := memRead_memWriteN p.1 ((bs.drop p.2.2).take p.2.1) y hwf
    rw [hlen] at hpart
    show ite _ _ (memRead (memWriteN _ _ _) y) = _
    rw [hpart]
    by_cases hlow : a + o ≤ y ∧ y < a + o + p.2.1
    · rw [if_neg (by omega), if_pos (by omega), if_pos (by omega), List.getD_eq_getElem?_getD, List.getElem?_take_of_lt (by omega),
        List.getElem?_drop, List.getD_eq_getElem?_getD, show p.2.2 + (y - p.1) = y - a by omega]
    · rw [if_neg (c := p.1 ≤ y ∧ _) (by omega)]
      exact if_congr (by omega) rfl rfl

/-! ### Points of a stage (R155, R156) -/

/-- The device at the moment PHASE reaches the point of a stage. -/
theorem Device.atStage_of (pu : StageRec → Nat) (f : StageRec → Device → Device) (hr : d.plan.active.bind (fun pl => pl.stage die st) = some r)
    (hw : d.stagesWait = false) : d.atStage die st pu f = f r (d.reachPhase (pu r)) := by
  simp [Device.atStage, hr, hw]

theorem Device.beginStage_of (hr : d.plan.active.bind (fun pl => pl.stage die st) = some r) (hw : d.stagesWait = false)
    (hheld : r.kind = 0 → d.time.held = false) :
    d.beginStage die st = d.updTime (fun u => { u with stagesBegun := addNew u.stagesBegun (64 * die + st) }) := by
  have hcond : (d.stagesWait || (decide (r.kind = 0) && d.time.held)) = false := by
    by_cases h0 : r.kind = 0
    · rw [hw, hheld h0, Bool.and_false, Bool.or_false]
    · rw [hw, decide_eq_false h0, Bool.false_and, Bool.or_false]
  rw [Device.beginStage, hr]
  exact if_neg (by rw [hcond]; exact Bool.false_ne_true)

theorem mem_addNew_self {β : Type} [DecidableEq β] (l : List β) (x : β) : x ∈ addNew l x := by
  unfold addNew
  split
  · assumption
  · exact List.mem_append_right _ (List.mem_singleton_self x)

/-- The one task of the device, where it missed its COMMIT_PU and nothing is held for an exchange, is asked to abort. -/
theorem Device.missCommit_of_one (hheld : d.link.held = []) (htasks : d.str.tasks = [(k, t)]) (hk : k / 1024 = die) (hhome : tagHome t.tag = die)
    (hstage : tagStage t.tag = st) (htag : t.tag ≠ 0) (ho : t.state = .open) (hp : t.prepared = false) (hc : t.carried = false)
    (ha : t.aborting = false) (hd : t.deadlineStep = d.stepNum) : d.missCommit die st = d.abortPending k t t.tag 0x041A := by
  have hf : d.findTask t.tag = some (k, t) := by
    simp [Device.findTask, htag, htasks, hk, hhome]
  have hdead : d.commitDeadline die st = d.requestAbort t.tag 0x041A := by
    simp [Device.commitDeadline, htasks, hk, hstage, ho, hp, hc, hd]
  rw [Device.missCommit, hdead, Device.requestAbort_of_open hf ho ha, Device.exchHeldDeadline]
  have hnone : (d.abortPending k t t.tag 0x041A).link.held = [] := hheld
  rw [hnone]
  rfl

/-! ### Commit (R157) -/

/-- One write of whole bytes leaves for its destination. -/
theorem Device.applyWrites_of_one {olds : Map Byte} {w : StagedWrite} (hw : w.combine = none) :
    d.applyWrites olds [w] [] = d.writeOut w.addr w.data false := by
  simp [Device.applyWrites, Device.mergeAll, contributions, sortBy, hw]

theorem Device.packCommit_of_none (h : d.pack = []) : d.packCommit tag = d := by
  refine List.foldlRecOn (motive := fun (e : Device) => e = d) _ _ rfl fun e he i _ => ?_
  have hinst : d.packInst (i / 4) (i % 4) = PackInst.empty := by rw [Device.packInst, h]; rfl
  simp [he, hinst, PackInst.empty]

theorem Device.matchCommit_of_none (h : d.matchI = []) : d.matchCommit tag = d := by
  rw [Device.matchCommit, h]
  rfl

theorem Device.embCommit_of_none (h : d.emb = []) : d.embCommit tag = d := by
  rw [Device.embCommit, h]
  rfl

theorem Device.travCommitted_of_none (h : d.link.travEnded = []) : d.travCommitted tag = d := by
  have hl : d.updLink (fun l => { l with travEnded := l.travEnded.filter (fun e => e.1 != tag) }) = d := by
    have : (d.link.travEnded.filter (fun e => e.1 != tag)) = d.link.travEnded := by rw [h]; rfl
    rw [Device.updLink, this]
  rw [Device.travCommitted, hl, h]
  rfl

/-- The entry of a task that has retired. -/
def Task.retiredAs (t : Task) (st : TaskState) (n : Nat) : Task :=
  { t with state := st, aborting := false, prepared := false, retired := n, writes := [], stationStaging := [], rdma := [], asked := false, olds := [] }

/-- The commit of a task with one staged write and no more: the bytes leave, the entry retires and the count moves. -/
theorem Device.commitTask_of_one {w : StagedWrite} (hws : t.writes = [w]) (hw : w.combine = none) (hl : d.localRange w.addr w.data.length = true)
    (hrdma : t.rdma = []) (hexch : t.exch = []) (hpack : d.pack = []) (hmatch : d.matchI = []) (hemb : d.emb = []) (htrav : d.link.travEnded = []) :
    d.commitTask k t [] =
      (((d.writeParts w.data (pageParts w.addr w.data.length)).retire k t .committed).settleInvals).count (Reg.TASK_COMMIT_COUNT (tagHome t.tag)) 64 1 := by
  have hframe := d.writeParts_frame w.data (pageParts w.addr w.data.length)
  generalize he : d.writeParts w.data (pageParts w.addr w.data.length) = e at hframe
  rw [Device.commitTask, hws, Device.applyWrites_of_one hw, Device.writeOut_of_local hl, he, Device.packCommit_of_none (by rw [hframe]; exact hpack),
    Device.matchCommit_of_none (by rw [hframe]; exact hmatch), Device.embCommit_of_none (by rw [hframe]; exact hemb), hrdma, hexch]
  exact congrArg (fun x : Device => ((x.retire k t .committed).settleInvals).count _ 64 1) (Device.travCommitted_of_none (by rw [hframe]; exact htrav))

/-! ### Aborts (R160, R161) -/

/-- What is put in the place of the entry that a search finds, and satisfies the search, is found in turn. -/
theorem Map.find?_put {β : Type} {m : Map β} {p : Nat × β → Bool} {k : Nat} {v w : β} (hf : m.find? p = some (k, v)) (hp : p (k, w) = true) :
    (m.put k w).find? p = some (k, w) := by
  induction m with
  | nil => cases hf
  | cons e m ih =>
    obtain ⟨j, x⟩ := e
    unfold Map.put
    split
    · exact List.find?_cons_of_pos hp
    · split
      · exact List.find?_cons_of_pos hp
      next hne =>
        have hj : ¬ p (j, x) = true := fun hj => by
          rw [List.find?_cons_of_pos hj] at hf
          cases hf
          exact hne rfl
        rw [List.find?_cons_of_neg hj] at hf ⊢
        exact ih hf

/-- The table answers for a tag the entry put where it found one. -/
theorem Device.findTask_of_put {t' : Task} (hf : d.findTask tag = some (k, t)) (htag : t'.tag = tag) (hd : d'.str.tasks = d.str.tasks.put k t') :
    d'.findTask tag = some (k, t') := by
  obtain ⟨h0, -, -, hk⟩ := Device.findTask_some hf
  rw [Device.findTask, if_neg h0] at hf
  rw [Device.findTask, if_neg h0, hd]
  exact Map.find?_put hf (by simp [htag, hk])

theorem Device.updTask_of_some {f : Task → Task} (hf : d.findTask tag = some (k, t)) : d.updTask tag f = d.setTask k (f t) := by
  rw [Device.updTask, hf]

/-- The entry of a task that has been marked ABORTED: its staged writes stay until the orders come. -/
def Task.abortedAs (t : Task) (code n : Nat) : Task :=
  { t.retiredAs .aborted n with code := code, writes := t.writes, stationStaging := t.stationStaging }

/-- The mark of a task ABORTED retires its entry with the cause, and counts it. -/
theorem Device.markAborted_of_alone (hf : d.findTask tag = some (k, t)) (hexch : t.exch = []) : d.markAborted k t code =
    ((d.retire k { t with code := code } .aborted).setTask k (t.abortedAs code d.str.retireCount)).count (Reg.TASK_ABORT_COUNT (tagHome t.tag)) 64 1 := by
  obtain ⟨-, -, htag, -⟩ := Device.findTask_some hf
  have hfind : (d.retire k { t with code := code } .aborted).findTask t.tag = some (k, ({ t with code := code } : Task).retiredAs .aborted d.str.retireCount) :=
    Device.findTask_of_put (htag ▸ hf) rfl rfl
  have htold : d.exchTaskAborted { t with code := code } = d := by
    rw [Device.exchTaskAborted]
    simp only [hexch]
    rfl
  have hquiet (b : Bool) : ¬ (!t.exch.isEmpty && b) = true := by rw [hexch]; exact Bool.false_ne_true
  unfold Device.markAborted
  simp only [htold, if_neg (hquiet _)]
  exact congrArg (fun x : Device => x.count _ 64 1) (Device.updTask_of_some hfind)

/-- A counter moves by one. -/
theorem Device.fld_count_self {off : Nat} (h : d.regsWf) : (d.count off 64 1).fld off ⟨0, 64⟩ = satAdd 64 (d.fld off ⟨0, 64⟩) 1 :=
  (Device.fld_setFld_self off ⟨0, 64⟩ _ h (Nat.le_refl 64)).trans (Nat.mod_eq_of_lt (satAdd_lt ..))

theorem Device.reg_count_of_ne {off j : Nat} (h : j ≠ off) : (d.count off 64 1).reg j = d.reg j := Device.reg_setFld_of_ne _ _ h

/-- What the mark of a task ABORTED changes. -/
theorem Device.markAborted_post (hf : d.findTask tag = some (k, t)) (hexch : t.exch = []) {e : Device} (he : e = d.markAborted k t code) :
    e.str.tasks.get? k = some (t.abortedAs code d.str.retireCount) ∧
    e = { d with str := { d.str with tasks := e.str.tasks, retireCount := d.str.retireCount + 1 }, regs := e.regs } ∧
    (d.regsWf → e.fld (Reg.TASK_ABORT_COUNT (tagHome t.tag)) ⟨0, 64⟩ = satAdd 64 (d.fld (Reg.TASK_ABORT_COUNT (tagHome t.tag)) ⟨0, 64⟩) 1) ∧
    d.sameRegsBut e [Reg.TASK_ABORT_COUNT (tagHome t.tag)] := by
  rw [Device.markAborted_of_alone hf hexch] at he
  generalize Reg.TASK_ABORT_COUNT (tagHome t.tag) = off at he ⊢
  subst he
  exact ⟨Map.get?_put_self _ k _, rfl, fun h => Device.fld_count_self (d := Device.setTask _ _ _) h,
    fun j hj => Device.reg_count_of_ne (d := Device.setTask _ _ _) (fun h => hj (h ▸ List.mem_singleton_self _))⟩

/-- What the commit of a task with one staged write and no more changes. -/
theorem Device.commitTask_post {w : StagedWrite} (hws : t.writes = [w]) (hw : w.combine = none) (hl : d.localRange w.addr w.data.length = true)
    (hrdma : t.rdma = []) (hexch : t.exch = []) (hpack : d.pack = []) (hmatch : d.matchI = []) (hemb : d.emb = []) (htrav : d.link.travEnded = [])
    (hregs : d.regsWf) (hmem : Memory.wf d.mem = true) {e : Device} (he : e = d.commitTask k t []) :
    (∀ y, memRead e.mem y = if w.addr ≤ y ∧ y < w.addr + w.data.length then w.data.getD (y - w.addr) 0 else memRead d.mem y) ∧
    e.str.tasks.get? k = some (t.retiredAs .committed d.str.retireCount) ∧
    e.fld (Reg.TASK_COMMIT_COUNT (tagHome t.tag)) ⟨0, 64⟩ = satAdd 64 (d.fld (Reg.TASK_COMMIT_COUNT (tagHome t.tag)) ⟨0, 64⟩) 1 := by
  rw [Device.commitTask_of_one hws hw hl hrdma hexch hpack hmatch hemb htrav] at he
  generalize Reg.TASK_COMMIT_COUNT (tagHome t.tag) = off at he ⊢
  have hbytes := Device.memRead_writeParts (partsFrom_pageParts w.addr w.data.length) (Nat.le_refl _) hmem
  have hframe := d.writeParts_frame w.data (pageParts w.addr w.data.length)
  generalize d.writeParts w.data (pageParts w.addr w.data.length) = f at hbytes hframe he
  have hsettled := (f.retire k t .committed).settleInvals_frame
  generalize (f.retire k t .committed).settleInvals = x at hsettled he
  have hxmem : x.mem = f.mem := by rw [hsettled]; rfl
  have hxtasks : x.str.tasks = f.str.tasks.put k (t.retiredAs .committed f.str.retireCount) := by rw [hsettled]; rfl
  have hxregs : x.regs = f.regs := by rw [hsettled]; rfl
  have hfregs : f.regs = d.regs := by rw [hframe]
  have hfcount : f.str.retireCount = d.str.retireCount := by rw [hframe]
  have hxwf : x.regsWf := by rw [Device.regsWf, hxregs, hfregs]; exact hregs
  subst he
  refine ⟨fun y => ?_, ?_, ?_⟩
  · rw [Device.count_mem, hxmem, hbytes, Nat.add_zero]
  · rw [Device.count_str, hxtasks, Map.get?_put_self, hfcount]
  · rw [Device.fld_count_self hxwf, Device.fld_congr (hxregs.trans hfregs)]

end Sys2Proof.Machine
end

section
/-!
SUPPORT. What the abort order of a task does on a die (R161), and the statement about stages, commit and aborts.
-/

namespace Sys2Proof.Machine

variable {d d' : Device} {die tag code : Nat} {t : Task}

/-! ### Maps -/

/-- A search of the entries that pass a test. -/
theorem Map.get?_filter {β : Type} {m : Map β} (q : Nat × β → Bool) (j : Nat) (h : Map.rising m = true) :
    Map.get? (m.filter q) j = (m.get? j).filter (fun v => q (j, v)) := by
  induction m with
  | nil => rfl
  | cons e m ih =>
    obtain ⟨i, v⟩ := e
    obtain ⟨hlt, hr⟩ := (Map.rising_cons ..).1 h
    rw [List.filter_cons, Map.get?_cons]
    by_cases hij : i = j
    · subst hij
      have hnone : Map.get? m i = none := Map.get?_eq_none_of_lt hlt
      rw [if_pos rfl, Option.filter_some]
      split
      · rw [Map.get?_cons, if_pos rfl]
      · rw [ih hr, hnone]
        rfl
    · rw [if_neg hij, ← ih hr]
      split
      · rw [Map.get?_cons, if_neg hij]
      · rfl

/-- Entries of distinct keys stored one after another. -/
theorem Map.get?_foldl_put {β : Type} {l : Map β} (f : β → β) (m : Map β) (j : Nat) (h : Map.rising l = true) :
    Map.get? (l.foldl (fun m e => m.put e.1 (f e.2)) m) j = ((l.get? j).map f).or (m.get? j) := by
  induction l generalizing m with
  | nil => rfl
  | cons e l ih =>
    obtain ⟨i, v⟩ := e
    obtain ⟨hlt, hr⟩ := (Map.rising_cons ..).1 h
    rw [List.foldl_cons, ih _ hr, Map.get?_cons]
    by_cases hij : i = j
    · subst hij
      rw [Map.get?_eq_none_of_lt hlt, Map.get?_put_self, if_pos rfl]
      rfl
    · rw [if_neg hij, Map.get?_put_of_ne _ _ (Ne.symm hij)]

/-! ### Buffers that set out for their pools (R152) -/

theorem Device.releaseHandle_frame (src : Nat) (h : Handle) :
    d.releaseHandle src h = { d with str := { d.str with flight := (d.releaseHandle src h).str.flight } } := by
  unfold Device.releaseHandle Device.releaseBuffer
  split <;> rfl

/-- The handles of a list are released, each from its router. -/
def Device.releaseAll {α : Type} (d : Device) (src : Device → α → Nat) (h : α → Handle) (l : List α) : Device :=
  l.foldl (fun d x => d.releaseHandle (src d x) (h x)) d

theorem Device.releaseAll_frame {α : Type} (src : Device → α → Nat) (h : α → Handle) (l : List α) :
    d.releaseAll src h l = { d with str := { d.str with flight := (d.releaseAll src h l).str.flight } } := by
  refine List.foldlRecOn (motive := fun (e : Device) => e = { d with str := { d.str with flight := e.str.flight } }) _ _ rfl fun e he x _ => ?_
  rw [Device.releaseHandle_frame, he]

/-! ### Lifts and streams of the die (R161, R167) -/

/-- The handles of a task leave the queue of a Lift of the die. -/
def Device.keptLifts (d : Device) (die tag : Nat) : Map (List LiftEntry) :=
  d.str.lifts.mapVals (fun k q => if k / 4096 = die then q.filter (fun x => x.tag != tag) else q)

theorem Device.abortLifts_frame (die tag : Nat) : d.abortLifts die tag = { d with str := { d.str with
    lifts := d.keptLifts die tag, pushWait := (d.abortLifts die tag).str.pushWait, flight := (d.abortLifts die tag).str.flight } } := by
  unfold Device.abortLifts
  extract_lets mine hs e
  have hframe := e.releaseAll_frame (fun d (x : Nat × LiftEntry) => d.liftRouter x.1) (fun x => x.2.h) hs
  unfold Device.releaseAll at hframe
  rw [hframe]
  rfl

theorem Device.abortLifts_liftQ (die tag lk : Nat) :
    (d.abortLifts die tag).liftQ lk = if lk / 4096 = die then (d.liftQ lk).filter (fun e => e.tag ≠ tag) else d.liftQ lk := by
  rw [Device.abortLifts_frame]
  show ((d.keptLifts die tag).get? lk).getD [] = _
  rw [Device.keptLifts, Map.get?_mapVals]
  show _ = ite _ (List.filter _ ((d.str.lifts.get? lk).getD [])) ((d.str.lifts.get? lk).getD [])
  cases d.str.lifts.get? lk with
  | none => simp
  | some q =>
    rw [Option.map_some, Option.getD_some, Option.getD_some]
    exact if_congr Iff.rfl (List.filter_congr fun e _ => by rw [Bool.eq_iff_iff]; simp) rfl

/-- The abort order of a task concerns a stream. -/
def Stream.concerned (x : Stream) (tag : Nat) : Bool := x.tag = tag || x.provisional.any (fun h => h.tag = tag)

/-- A stream that the abort order of a task concerns. -/
def Stream.ordered (x : Stream) (tag code : Nat) : Stream :=
  let keep := x.provisional.filter (fun h => h.tag != tag)
  if x.tag != tag then { x with provisional := keep }
  else { x with
    state := if x.state = .idle then .idle else .done, aborted := x.state != .idle, code := if x.state = .idle then x.code else code
    openBuf := none, popped := none, provisional := keep, issueQ := [], dropped := [], tile := [], outstanding := 0
    poolWait := false, liftWait := false }

/-- Where there are no cells none waits on a stream. -/
theorem Device.wakeSwait_of_none {g : Nat} (h : d.cells = []) : d.wakeSwait g = d := by
  unfold Device.wakeSwait
  rw [h]
  show { d with cells := [] } = d
  rw [← h]

/-- The abort order of a task at one stream it concerns. -/
def Device.abortStream (d : Device) (tag code : Nat) (e : Nat × Stream) : Device :=
  let x := e.2
  let d := if x.tag != tag then d.setStream e.1 (x.ordered tag code) else (d.setStream e.1 (x.ordered tag code)).wakeSwait e.1
  let d := match x.openBuf with | some b => if x.tag = tag then d.releaseBuffer (streamRouter e.1) b.pool b.addr else d | none => d
  d.releaseAll (fun _ _ => streamRouter e.1) (·.h) ((if x.tag = tag then x.popped.toList else []) ++ x.provisional.filter (fun h => h.tag = tag))

theorem Device.abortStreams_eq (die tag code : Nat) : d.abortStreams die tag code =
    (d.str.streams.filter (fun e => e.1 / 32768 = die && e.2.concerned tag)).foldl (fun d e => d.abortStream tag code e) d := by
  unfold Device.abortStreams
  refine congrArg (fun f => List.foldl f d _) (funext fun d => funext fun e => ?_)
  unfold Device.abortStream Stream.ordered Device.releaseAll
  by_cases hx : (e.2.tag != tag) = true
  · simp only [hx, if_true] <;> rfl
  · simp only [hx] <;> rfl

/-- Where there are no cells the order at a stream changes it, and what is on its way to the pools. -/
theorem Device.abortStream_frame (hcells : d.cells = []) (e : Nat × Stream) : d.abortStream tag code e = { d with str := { d.str with
    streams := d.str.streams.put e.1 (e.2.ordered tag code), flight := (d.abortStream tag code e).str.flight } } := by
  have hset : (if e.2.tag != tag then d.setStream e.1 (e.2.ordered tag code) else (d.setStream e.1 (e.2.ordered tag code)).wakeSwait e.1) =
      d.setStream e.1 (e.2.ordered tag code) := by
    rw [Device.wakeSwait_of_none (d := d.setStream e.1 (e.2.ordered tag code)) hcells, ite_self]
  unfold Device.abortStream
  simp only [hset]
  rw [Device.releaseAll_frame]
  split
  next b _ =>
    split
    · have hb := Device.releaseHandle_frame (d := d.setStream e.1 (e.2.ordered tag code)) (streamRouter e.1) { addr := b.addr, len := 0, last := false, late := false, pool := b.pool }
      unfold Device.releaseHandle at hb
      rw [hb]
      rfl
    · rfl
  next => rfl

theorem Device.abortStreams_frame (hcells : d.cells = []) (die tag code : Nat) : d.abortStreams die tag code = { d with str := { d.str with
    streams := (d.str.streams.filter (fun e => e.1 / 32768 = die && e.2.concerned tag)).foldl (fun m e => m.put e.1 (e.2.ordered tag code)) d.str.streams
    flight := (d.abortStreams die tag code).str.flight } } := by
  rw [Device.abortStreams_eq]
  generalize d.str.streams.filter (fun e => e.1 / 32768 = die && e.2.concerned tag) = l
  induction l generalizing d with
  | nil => rfl
  | cons e l ih =>
    have hstep := Device.abortStream_frame (tag := tag) (code := code) hcells e
    rw [List.foldl_cons, List.foldl_cons]
    generalize d.abortStream tag code e = d1 at hstep
    rw [ih (by rw [hstep]; exact hcells), hstep]

/-- The streams of the die that the order concerns change, and no other stream. -/
theorem Device.abortStreams_stream (hcells : d.cells = []) (hs : Map.rising d.str.streams = true) (g : Nat) :
    (d.abortStreams die tag code).stream g =
      if g / 32768 = die ∧ (d.stream g).concerned tag = true ∧ (d.str.streams.get? g).isSome = true then (d.stream g).ordered tag code else d.stream g := by
  rw [Device.abortStreams_frame hcells]
  show (Map.get? _ g).getD _ = _
  rw [Map.get?_foldl_put (fun x => x.ordered tag code) _ _ (Map.rising_filter _ hs), Map.get?_filter _ _ hs]
  have hx : d.stream g = (d.str.streams.get? g).getD Stream.idle := rfl
  rw [hx]
  cases d.str.streams.get? g with
  | none => simp
  | some x =>
    rw [Option.filter_some]
    by_cases hx : g / 32768 = die ∧ x.concerned tag = true
    · simp [hx]
    · simp only [Option.getD_some]
      rw [if_neg (by simpa using hx), if_neg (fun h => hx ⟨h.1, h.2.1⟩)]
      rfl

/-- A stream of the task that was armed is DONE with ABORTED and its cause, and holds nothing. -/
theorem Stream.ordered_of_tag {x : Stream} (ht : x.tag = tag) (hs : x.state ≠ .idle) :
    (x.ordered tag code).state = .done ∧ (x.ordered tag code).aborted = true ∧ (x.ordered tag code).code = code ∧ (x.ordered tag code).outstanding = 0 ∧
    (x.ordered tag code).issueQ = [] ∧ (x.ordered tag code).openBuf = none ∧ (x.ordered tag code).popped = none := by
  unfold Stream.ordered
  simp [ht, hs]

/-! ### What the order does to the other units -/

/-- Two devices agree in the streams, Lifts, tasks and aborts. -/
structure Device.SameTasks (d d' : Device) : Prop where
  streams : d'.str.streams = d.str.streams
  lifts : d'.str.lifts = d.str.lifts
  tasks : d'.str.tasks = d.str.tasks
  orders : d'.str.abortOrders = d.str.abortOrders
  reports : d'.str.abortReports = d.str.abortReports

theorem Device.SameTasks.trans {a b c : Device} (h : a.SameTasks b) (h' : b.SameTasks c) : a.SameTasks c where
  streams := h'.streams.trans h.streams
  lifts := h'.lifts.trans h.lifts
  tasks := h'.tasks.trans h.tasks
  orders := h'.orders.trans h.orders
  reports := h'.reports.trans h.reports

/-- What a die without stations, Gates and cells gives up for a task beside its Lifts and streams. -/
def Device.restOrdered (d : Device) (die tag : Nat) : Device :=
  ((((((((((d.abortReads die tag).abortTraverse die tag).stopJobs die tag).packAbort die tag).matchAbort die tag).selAbort die tag).embAbort die
    tag).gateAbort die tag).abortCells die tag).abortFencedItems die tag)

theorem Device.abortTraverse_frame (die tag : Nat) : d.abortTraverse die tag = { d with
    regs := (d.abortTraverse die tag).regs, link := (d.abortTraverse die tag).link } := by
  unfold Device.abortTraverse
  extract_lets running ended
  refine List.foldlRecOn (motive := fun (e : Device) => e = { d with regs := e.regs, link := e.link }) _ _ rfl fun e he x _ => ?_
  rw [he]
  rfl

theorem Device.stopJobs_of_none (h : d.stn.jobs = []) : d.stopJobs die tag = d := by
  rw [Device.stopJobs, h]
  rfl

theorem Device.packAbort_of_none (h : d.pack = []) : d.packAbort die tag = d := by
  refine List.foldlRecOn (motive := fun (e : Device) => e = d) _ _ rfl fun e he i _ => ?_
  have hinst : d.packInst die i = PackInst.empty := by rw [Device.packInst, h]; rfl
  simp [he, hinst, PackInst.empty]

theorem Device.gateAbort_of_none (h : d.sched.gates = []) : d.gateAbort die tag = d := by
  rw [Device.gateAbort, h]
  rfl

theorem Device.freeCells_of_none (h : d.cells = []) : (d.freeCells die tag).cells = [] := by
  unfold Device.freeCells
  rw [h]
  rfl

theorem Device.abortCells_frame (die tag : Nat) : d.abortCells die tag = { d with
    cells := (d.freeCells die tag).cells
    str := { d.str with pushWait := (d.abortCells die tag).str.pushWait, flight := (d.abortCells die tag).str.flight } } := by
  unfold Device.abortCells
  extract_lets mine
  have hframe := ((d.freeCells die tag).updStr (fun u => { u with pushWait := u.pushWait.filter (fun w => !mine w) })).releaseAll_frame
    (fun _ (w : Nat × LiftEntry) => w.2.src.router) (fun w => w.2.h) (d.str.pushWait.filter mine)
  unfold Device.releaseAll at hframe
  rw [hframe]
  rfl

theorem Device.restOrdered_sameTasks (hjobs : d.stn.jobs = []) (hpack : d.pack = []) (hgates : d.sched.gates = []) (hcells : d.cells = []) :
    d.SameTasks (d.restOrdered die tag) := by
  unfold Device.restOrdered
  have htrav := Device.abortTraverse_frame (d := d.abortReads die tag) die tag
  generalize (d.abortReads die tag).abortTraverse die tag = e at htrav
  rw [Device.stopJobs_of_none (by rw [htrav]; exact hjobs), Device.packAbort_of_none (by rw [htrav]; exact hpack)]
  have hf : (((e.matchAbort die tag).selAbort die tag).embAbort die tag) = { e with
    matchI := (e.matchAbort die tag).matchI, sel := (e.selAbort die tag).sel, emb := (e.embAbort die tag).emb } := rfl
  generalize ((e.matchAbort die tag).selAbort die tag).embAbort die tag = f at hf
  rw [Device.gateAbort_of_none (by rw [hf, htrav]; exact hgates)]
  have hc := f.abortCells_frame die tag
  have hnone : (f.freeCells die tag).cells = [] := Device.freeCells_of_none (by rw [hf, htrav]; exact hcells)
  have hfence : (f.abortCells die tag).abortFencedItems die tag = f.abortCells die tag := by
    rw [Device.abortFencedItems, hc, hnone]
    rfl
  rw [hfence, hc]
  constructor <;> (rw [hf, htrav]; rfl)

/-! ### The abort order as a whole -/

/-- The cause of an abort, as the table of tasks has it. -/
def Device.causeOf (d : Device) (tag : Nat) : Nat := ((d.findTask tag).map (fun e => e.2.code)).getD 0

theorem Device.causeOf_of_tasks (h : d'.str.tasks = d.str.tasks) : d'.causeOf tag = d.causeOf tag := by
  unfold Device.causeOf Device.findTask
  rw [h]

/-- A change of a task's entry that keeps its tag and its cause keeps the cause that the table answers. -/
theorem Device.causeOf_updTask {f : Task → Task} (hf : ∀ t, (f t).tag = t.tag ∧ (f t).code = t.code) : (d.updTask tag f).causeOf tag = d.causeOf tag := by
  unfold Device.updTask
  split
  next k t h =>
    obtain ⟨-, -, ht, -⟩ := Device.findTask_some h
    rw [Device.causeOf, Device.findTask_of_put (d' := d.setTask k (f t)) h ((hf t).1.trans ht) rfl, Device.causeOf, h]
    exact (hf t).2
  · rfl

/-- What the order leaves of a task's staged writes on the die (R161). -/
def Task.orderedOn (t : Task) (die : Nat) : Task :=
  { t with writes := t.writes.filter (fun w => w.die != die), stationStaging := t.stationStaging.del die }

/-- The order gives up the handles of the Lifts, stops the streams, and then the rest. -/
theorem Device.abortOn_eq (die tag : Nat) : d.abortOn die tag =
    (((((d.abortLifts die tag).abortStreams die tag (d.causeOf tag)).restOrdered die tag).updTask tag (·.orderedOn die)).settleInvals) := rfl

/-- On a die without stations, Gates and cells the order of an abort changes the Lifts and the streams it concerns, and keeps what the table says of the
abort. -/
theorem Device.abortOn_post (hjobs : d.stn.jobs = []) (hpack : d.pack = []) (hgates : d.sched.gates = []) (hcells : d.cells = []) :
    (d.abortOn die tag).str.streams = ((d.abortLifts die tag).abortStreams die tag (d.causeOf tag)).str.streams ∧
    (d.abortOn die tag).str.lifts = (d.abortLifts die tag).str.lifts ∧
    (d.abortOn die tag).str.abortOrders = d.str.abortOrders ∧ (d.abortOn die tag).str.abortReports = d.str.abortReports ∧
    (d.abortOn die tag).causeOf tag = d.causeOf tag := by
  have hlifts := d.abortLifts_frame die tag
  rw [Device.abortOn_eq]
  generalize d.abortLifts die tag = e at hlifts ⊢
  have hstreams := Device.abortStreams_frame (d := e) (by rw [hlifts]; exact hcells) die tag (d.causeOf tag)
  generalize e.abortStreams die tag (d.causeOf tag) = f at hstreams ⊢
  have hrest : f.SameTasks (f.restOrdered die tag) := Device.restOrdered_sameTasks (by rw [hstreams, hlifts]; exact hjobs)
    (by rw [hstreams, hlifts]; exact hpack) (by rw [hstreams, hlifts]; exact hgates) (by rw [hstreams, hlifts]; exact hcells)
  generalize f.restOrdered die tag = x at hrest ⊢
  have hcause : (x.updTask tag (·.orderedOn die)).causeOf tag = d.causeOf tag := by
    rw [Device.causeOf_updTask (f := (·.orderedOn die)) (fun _ => ⟨rfl, rfl⟩)]
    exact Device.causeOf_of_tasks (hrest.tasks.trans (by rw [hstreams, hlifts]))
  have hupd := x.updTask_frame tag (·.orderedOn die)
  generalize x.updTask tag (·.orderedOn die) = y at hcause hupd ⊢
  rw [Device.settleInvals_frame]
  have hstr : y.str = { x.str with tasks := y.str.tasks } := congrArg (·.str) hupd
  rw [hstr]
  exact ⟨hrest.streams, hrest.lifts.trans (by rw [hstreams]), hrest.orders.trans (by rw [hstreams, hlifts]),
    hrest.reports.trans (by rw [hstreams, hlifts]), hcause⟩

theorem Device.abortOn_liftQ (hjobs : d.stn.jobs = []) (hpack : d.pack = []) (hgates : d.sched.gates = []) (hcells : d.cells = []) (lk : Nat) :
    (d.abortOn die tag).liftQ lk = if lk / 4096 = die then (d.liftQ lk).filter (fun e => e.tag ≠ tag) else d.liftQ lk := by
  obtain ⟨-, hlifts, -⟩ := Device.abortOn_post (die := die) (tag := tag) hjobs hpack hgates hcells
  rw [← Device.abortLifts_liftQ, Device.liftQ, hlifts]
  rfl

theorem Device.abortOn_stream (hjobs : d.stn.jobs = []) (hpack : d.pack = []) (hgates : d.sched.gates = []) (hcells : d.cells = [])
    (hs : Map.rising d.str.streams = true) (g : Nat) : (d.abortOn die tag).stream g =
      if g / 32768 = die ∧ (d.stream g).concerned tag = true ∧ (d.str.streams.get? g).isSome = true then (d.stream g).ordered tag (d.causeOf tag)
      else d.stream g := by
  obtain ⟨hstreams, -⟩ := Device.abortOn_post (die := die) (tag := tag) hjobs hpack hgates hcells
  have hlifts := d.abortLifts_frame die tag
  generalize d.abortLifts die tag = e at hlifts hstreams
  have hstr : e.str.streams = d.str.streams := by rw [hlifts]
  have hx : e.stream g = d.stream g := by rw [Device.stream, hstr]; rfl
  have hpost := Device.abortStreams_stream (die := die) (tag := tag) (code := d.causeOf tag) (d := e) (by rw [hlifts]; exact hcells)
    (by rw [hstr]; exact hs) g
  rw [hx, hstr] at hpost
  rw [← hpost, Device.stream, hstreams]
  rfl

/-- A stream that has left IDLE has an entry. -/
theorem Device.isSome_of_stream {g : Nat} (h : (d.stream g).state ≠ .idle) : (d.str.streams.get? g).isSome = true := by
  unfold Device.stream Map.getD at h
  cases hx : d.str.streams.get? g with
  | none =>
    rw [hx] at h
    exact absurd rfl h
  | some x => rfl

/-- A die has done what an abort order asks for; after the last of the four the report is due (R161). -/
def Device.orderDone (d : Device) (die tag : Nat) : Device :=
  let d := d.updStr (fun u => { u with abortOrders := u.abortOrders.erase (tag, die) })
  if d.str.abortOrders.any (fun o => o.1 = tag) then d else d.updStr (fun u => { u with abortReports := u.abortReports ++ [(tag, d.causeOf tag)] })

theorem Device.orderDone_str (die tag : Nat) : (d.orderDone die tag).str = { d.str with
    abortOrders := d.str.abortOrders.erase (tag, die)
    abortReports := d.str.abortReports ++
      (if ∃ o ∈ d.str.abortOrders.erase (tag, die), o.1 = tag then [] else [(tag, d.causeOf tag)]) } := by
  have hany : (∃ o ∈ d.str.abortOrders.erase (tag, die), o.1 = tag) ↔ (d.str.abortOrders.erase (tag, die)).any (fun o => o.1 = tag) = true := by
    simp only [List.any_eq_true, decide_eq_true_eq]
  unfold Device.orderDone
  extract_lets e
  have he : e.str.abortOrders = d.str.abortOrders.erase (tag, die) := rfl
  by_cases h : (d.str.abortOrders.erase (tag, die)).any (fun o => o.1 = tag) = true
  · rw [if_pos (hany.2 h), List.append_nil, he, if_pos h]
    rfl
  · rw [if_neg (fun hx => h (hany.1 hx)), he, if_neg h]
    rfl

theorem Device.liftQ_of_lifts {lk : Nat} (h : d'.str.lifts = d.str.lifts) : d'.liftQ lk = d.liftQ lk := by
  rw [Device.liftQ, h]
  rfl

theorem Device.stream_of_streams {g : Nat} (h : d'.str.streams = d.str.streams) : d'.stream g = d.stream g := by
  rw [Device.stream, h]
  rfl

/-! ### The report of an abort (R161) -/

theorem Device.writeD2h_regsWf (r : D2hMsg) (h : d.regsWf) : (d.writeD2h r).regsWf := by
  unfold Device.writeD2h
  extract_lets
  rw [Device.regsWf, Device.vector0_regs]
  exact Device.setFld_regsWf _ _ _ (Device.setFld_regsWf _ _ _ h)

/-- A message that can be written at once, and the record of the moment that follows it. -/
theorem Device.announced_record {op : Nat} {payload : List Byte} {e : EventRec} (h : d.canAnnounce) {d' : Device} (hd : d' = (d.sendAsync op payload).record e) :
    d.announced d' op payload ∧ d'.str = d.str ∧
    d'.fld Reg.EVR_SEQ_NEXT Fd.EVR_SEQ_NEXT_SEQ = (d.fld Reg.EVR_SEQ_NEXT Fd.EVR_SEQ_NEXT_SEQ + 1) % 2 ^ Fd.EVR_SEQ_NEXT_SEQ.w := by
  obtain ⟨hfree, hhold, hregs⟩ := h
  have hsend : d.sendAsync op payload = d.writeD2h { opcode := op, async := true, hseq := 0, dseq := 0, pos := 0, status := 0, cookie := 0
                                                     step := 0, payload := payload } := by
    simp [Device.sendAsync, hfree, hhold]
  have hframe := Device.writeD2h_frame (d := d) { opcode := op, async := true, hseq := 0, dseq := 0, pos := 0, status := 0, cookie := 0
                                                  step := 0, payload := payload }
  obtain ⟨hmsg, hpos, -⟩ := Device.writeD2h_post { opcode := op, async := true, hseq := 0, dseq := 0, pos := 0, status := 0, cookie := 0
                                                   step := 0, payload := payload } hregs
  have hsame : d.sameRegsBut (d.sendAsync op payload) announceRegs := Device.sendAsync_sameRegsBut _ _
  have hwf : (d.sendAsync op payload).regsWf := hsend ▸ Device.writeD2h_regsWf _ hregs
  rw [← hsend] at hframe hmsg hpos
  generalize d.sendAsync op payload = x at hframe hmsg hpos hsame hwf hd
  subst hd
  refine ⟨⟨?_, ?_⟩, ?_, ?_⟩
  · have hhost : (x.record e).host = x.host := Device.record_host ..
    rw [hhost, hmsg, Option.map_some]
  · rw [Device.fld_of_reg (Device.record_sameRegsBut _ _ (by decide))]
    exact hpos
  · rw [Device.record_str, hframe]
  · rw [Device.record_seqNext _ hwf, Device.fld_of_reg (hsame _ (by decide))]

/-- Settles O26: each point of a stage, the commit and each step of an abort comes to a known change of the device. -/
theorem stagesCommitAndAbort : Obligations.StagesCommitAndAbort := by
  refine ⟨fun dd st r => ?start, fun dd st r r2 => ?handover, fun dd st r k t => ?missed, fun dd st r k t => ?missedCarried, fun tag k t w => ?commit,
    fun tag k t r => ?request, fun dd tag => ?order, fun tag r => ?report⟩
  case start =>
    refine .of_upd (fun s => show execStageStart dd st s = s.upd _ from rfl) (fun _ h => h.1) fun d ⟨_, hr, hw, hheld⟩ => ?_
    rw [Device.atStage_of _ _ hr hw, Device.beginStage_of (d := d.reachPhase r.start) hr hw hheld]
    exact ⟨mem_addNew_self .., rfl, rfl⟩
  case handover =>
    refine .of_upd (fun s => show execStageHandover dd st s = s.upd _ from rfl) (fun _ h => h.1) fun d ⟨_, hr, hnext, hr2, hw, hheld⟩ => ?_
    rw [Device.atStage_of _ _ hr hw]
    simp only [if_neg hnext]
    rw [Device.beginStage_of (d := (d.reachPhase r.handover).updTime
      (fun u => { u with stagesHanded := addNew u.stagesHanded (64 * dd.val + st.val) })) hr2 hw hheld]
    exact ⟨mem_addNew_self .., mem_addNew_self .., rfl, rfl⟩
  case missed =>
    refine .of_upd (fun s => show execStageCommitPu dd st s = s.upd _ from rfl) (fun _ h => h.1)
      fun d ⟨_, hr, hw, hnew, hheld, htasks, hk, hhome, hstage, htag, ho, hp, hc, ha, hd⟩ => ?_
    have hcarried : d.plan.carried = false := by
      rw [Device.stagesWait, Bool.or_eq_false_iff, Bool.or_eq_false_iff] at hw
      exact hw.1.1
    have hreach : (d.reachPhase r.commit).plan.carried = false := hcarried
    simp only [hr, if_neg hnew, hreach, Bool.false_eq_true, if_false]
    rw [Device.missCommit_of_one (d := (d.reachPhase r.commit).updTime _) hheld htasks hk hhome hstage htag ho hp hc ha hd]
    refine ⟨?_, rfl, rfl, List.mem_append_right _ (List.mem_singleton_self _)⟩
    show d.str.tasks.put k _ = _
    rw [htasks]
    simp [Map.put]
  case missedCarried =>
    refine .of_upd (fun s => show execStageCommitPu dd st s = s.upd _ from rfl) (fun _ h => h.1)
      fun d ⟨_, hr, hcarried, hnew, hheld, htasks, hk, hhome, hstage, htag, ho, hp, hc, ha, hd⟩ => ?_
    have hreach : (d.reachPhase r.commit).plan.carried = true := hcarried
    simp only [hr, if_neg hnew, hreach, if_true]
    rw [Device.missCommit_of_one (d := d.reachPhase r.commit) hheld htasks hk hhome hstage htag ho hp hc ha hd]
    refine ⟨?_, rfl, rfl, rfl⟩
    show d.str.tasks.put k _ = _
    rw [htasks]
    simp [Map.put]
  case commit =>
    refine .of_upd (fun s => show execTaskCommit tag [] s = s.upd _ from rfl) (fun _ h => h.1)
      fun d ⟨_, hregs, hmem, hf, hend, hturn, hreads, hws, hw, hl, hrdma, hexch, hpack, hmatch, hemb, htrav⟩ => ?_
    have hnoread : d.str.extReads.any (fun r => decide (r.stream = commitStream) && decide (r.tag = tag)) = false := by
      rw [List.any_eq_false]
      intro x hx
      simpa using hreads x hx
    have hinside : d.outsideMerges t = [] := by simp [Device.outsideMerges, hws, hw]
    simp only [hf, hend, hturn, hnoread, hinside, List.isEmpty_nil, decide_true, Bool.and_true, Bool.not_true, Bool.and_false, Bool.or_false,
      Bool.false_eq_true, if_false]
    obtain ⟨hbytes, htasks, hcount⟩ := Device.commitTask_post (k := k) hws hw hl hrdma hexch hpack hmatch hemb htrav hregs hmem rfl
    refine ⟨fun i hi => ?_, fun a ha => ?_, by rw [htasks]; rfl, by rw [htasks]; rfl, hcount⟩
    · rw [hbytes, if_pos (by omega), Nat.add_sub_cancel_left]
    · rw [hbytes, if_neg (by omega)]
  case request =>
    refine .of_upd (fun s => show execAbortRequestReceive tag s = s.upd _ from rfl) (fun _ h => h.1) fun d ⟨_, hregs, hr, hf, ho, hexch⟩ => ?_
    have hfind : (d.updStr (fun u => { u with abortReqs := u.abortReqs.erase r })).findTask tag = some (k, t) := hf
    simp only [hr, hfind, if_pos ho]
    obtain ⟨htasks, hframe, hcount, hothers⟩ := Device.markAborted_post (code := r.2) hfind hexch rfl
    generalize Device.markAborted _ k t r.2 = e at htasks hframe hcount hothers
    refine ⟨?_, ?_, ?_, hcount hregs, hothers, ?_⟩
    · show (e.str.tasks.get? k).map _ = _
      rw [htasks]
      rfl
    · rw [hframe]
      rfl
    · rw [hframe]
      rfl
    · rw [hframe]
      rfl
  case order =>
    refine .of_upd_eq (fun s => show execAbortOrderReceive dd tag s = s.upd _ from rfl) (fun _ h => h.1)
      (g := fun d => (d.abortOn dd.val tag).orderDone dd.val tag) (fun d ⟨_, hin, _⟩ => if_pos hin)
      fun d ⟨_, _, hjobs, hpack, _, _, _, hgates, hcells, _, hrising, _, _⟩ => ?_
    have hstr : ((d.abortOn dd.val tag).orderDone dd.val tag).str = _ := Device.orderDone_str ..
    obtain ⟨-, -, horders, hreports, hcause⟩ := Device.abortOn_post (die := dd.val) (tag := tag) hjobs hpack hgates hcells
    rw [horders, hreports, hcause] at hstr
    have hliftQ (lk : Nat) : ((d.abortOn dd.val tag).orderDone dd.val tag).liftQ lk = _ :=
      (Device.liftQ_of_lifts (by rw [hstr])).trans (Device.abortOn_liftQ hjobs hpack hgates hcells lk)
    have hstream (g : Nat) : ((d.abortOn dd.val tag).orderDone dd.val tag).stream g = _ :=
      (Device.stream_of_streams (by rw [hstr])).trans (Device.abortOn_stream hjobs hpack hgates hcells hrising g)
    refine ⟨congrArg (·.abortOrders) hstr, fun lk hlk => (hliftQ lk).trans (if_pos hlk), fun lk hlk => (hliftQ lk).trans (if_neg hlk),
      fun g hdie ht hidle => ?_, fun g hg => (hstream g).trans (if_neg ?_), ?_⟩
    · have hg := (hstream g).trans (if_pos ⟨hdie, by simp [Stream.concerned, ht], Device.isSome_of_stream hidle⟩)
      rw [hg]
      exact Stream.ordered_of_tag ht hidle
    · rintro ⟨hdie, hcon, -⟩
      obtain hne | ⟨ht, hp⟩ := hg
      · exact hne hdie
      · simp only [Stream.concerned, ht, decide_false, Bool.false_or, List.any_eq_true, decide_eq_true_eq] at hcon
        obtain ⟨h, hmem, heq⟩ := hcon
        exact hp h hmem heq
    · rw [hstr]
      rfl
  case report =>
    refine .of_upd (fun s => show execAbortReport tag s = s.upd _ from rfl) (fun _ h => h.1) fun d ⟨_, hr, hcan⟩ => ?_
    simp only [hr]
    obtain ⟨hann, hstr, hseq⟩ := Device.announced_record (d := d.updStr (fun u => { u with abortReports := u.abortReports.erase r })) hcan rfl
    exact ⟨hann, by rw [hstr]; rfl, hseq⟩

end Sys2Proof.Machine
end

section
/-!
SUPPORT. The transfers of a port (R140, R143): which of its streams issues next, how many transfers are outstanding after one has been issued, and
what the reads that are issued bring to memory.
-/

namespace Sys2Proof.Machine

variable {d d' : Device} {g : Nat} {r : StreamRec}

/-! ### The streams of a port (R140) -/

theorem mem_portOf_self (g : Nat) : g ∈ portOf g := by
  unfold portOf
  split
  · exact List.mem_map.2 ⟨g % 4, List.mem_range.2 (Nat.mod_lt _ (by decide)), by omega⟩
  · exact List.mem_singleton_self g

theorem nodup_portOf (g : Nat) : (portOf g).Nodup := by
  unfold portOf
  split
  · exact List.nodup_range.map fun a b h => by simpa using h
  · exact List.nodup_singleton g

/-- A sum over distinct places moves by as much as its term at one of them. -/
theorem List.foldl_add_update {f f' : Nat → Nat} {g : Nat} {l : List Nat} (hnd : l.Nodup) (hg : g ∈ l) (hf : ∀ h, h ≠ g → f' h = f h) (n : Nat) :
    l.foldl (fun n h => n + f' h) n + f g = l.foldl (fun n h => n + f h) n + f' g := by
  have hsum (q : Nat → Nat) (l : List Nat) (n : Nat) : l.foldl (fun n h => n + q h) n = n + (l.map q).sum := by
    induction l generalizing n with
    | nil => rfl
    | cons h l ih => rw [List.foldl_cons, ih, List.map_cons, List.sum_cons, Nat.add_assoc]
  rw [hsum, hsum]
  induction l with
  | nil => cases hg
  | cons h l ih =>
    obtain ⟨hnot, hnd⟩ := List.nodup_cons.1 hnd
    rw [List.map_cons, List.map_cons, List.sum_cons, List.sum_cons]
    rcases List.mem_cons.1 hg with rfl | hin
    · have hrest : l.map f' = l.map f := List.map_congr_left fun x hx => hf x (fun h => hnot (h ▸ hx))
      rw [hrest]
      omega
    · rw [hf h (fun heq => hnot (heq ▸ hin))]
      have := ih hnd hin
      omega

/-- The load of a port moves with the transfers outstanding for the stream that changes. -/
theorem Device.portLoad_of_stream (h : ∀ j, j ≠ g → d'.stream j = d.stream j) :
    d'.portLoad g + (d.stream g).outstanding = d.portLoad g + (d'.stream g).outstanding :=
  List.foldl_add_update (f := fun h => (d.stream h).outstanding) (f' := fun h => (d'.stream h).outstanding) (nodup_portOf g) (mem_portOf_self g)
    (fun j hj => congrArg Stream.outstanding (h j hj)) 0

/-- A choice that passes over every place but one settles on that one. -/
theorem List.foldl_of_only {f : Option Nat → Nat → Option Nat} {g : Nat} {l : List Nat} (hskip : ∀ o, ∀ h ∈ l, h ≠ g → f o h = o)
    (hfirst : f none g = some g) (hagain : f (some g) g = some g) :
    l.foldl f (some g) = some g ∧ (g ∈ l → l.foldl f none = some g) := by
  induction l with
  | nil => exact ⟨rfl, nofun⟩
  | cons h l ih =>
    obtain ⟨hsome, hnone⟩ := ih fun o j hj => hskip o j (List.mem_cons_of_mem _ hj)
    rw [List.foldl_cons, List.foldl_cons]
    by_cases hg : h = g
    · rw [hg, hagain, hfirst]
      exact ⟨hsome, fun _ => hsome⟩
    · rw [hskip _ h (List.mem_cons_self ..) hg, hskip _ h (List.mem_cons_self ..) hg]
      exact ⟨hsome, fun hin => hnone ((List.mem_cons.1 hin).resolve_left (Ne.symm hg))⟩

/-- Where no other stream of a port has a transfer to issue, the stream is the next to issue, if it may. -/
theorem Device.nextIssue_of_only (hothers : ∀ h ∈ portOf g, h ≠ g → (d.stream h).issueQ = []) :
    d.nextIssue g = if d.canIssue g = true then some g else none := by
  have hquiet (h : Nat) (hh : h ∈ portOf g) (hne : h ≠ g) : d.canIssue h = false := by
    rw [Device.canIssue, hothers h hh hne]
  unfold Device.nextIssue
  split
  next hcan =>
    refine (List.foldl_of_only (fun o h hh hne => ?_) ?_ ?_).2 (mem_portOf_self g)
    · simp [hquiet h hh hne]
    · simp [hcan]
    · simp [hcan]
  next hcan =>
    refine List.foldlRecOn (motive := (· = none)) _ _ rfl fun o ho h hh => ?_
    have hno : d.canIssue h = false := by
      by_cases hg : h = g
      · exact hg ▸ Bool.eq_false_iff.2 hcan
      · exact hquiet h hh hg
    simp [hno, ho]

/-! ### Copies in memory -/

/-- A read of a stream's program: source, bytes, destination. -/
abbrev Copy := Nat × Nat × Nat

/-- Memory after copies made one after another. -/
def copyMem (m : List Host.Cell) (l : List Copy) : List Host.Cell := l.foldl (fun m f => memWriteN m f.2.2 (memReadN m f.1 f.2.1)) m

/-- The destinations are consecutive, from `o` to `n`. -/
def landsFrom : (o n : Nat) → List Copy → Prop
  | o, n, [] => o = n
  | o, n, f :: fs => f.2.2 = o ∧ landsFrom (o + f.2.1) n fs

theorem le_of_landsFrom {o n : Nat} {l : List Copy} (h : landsFrom o n l) : o ≤ n := by
  induction l generalizing o with
  | nil => exact Nat.le_of_eq h
  | cons f l ih =>
    have := ih h.2
    omega

theorem landsFrom_append {o m n : Nat} {l l' : List Copy} (h : landsFrom o m l) (h' : landsFrom m n l') : landsFrom o n (l ++ l') := by
  induction l generalizing o with
  | nil => exact (show o = m from h) ▸ h'
  | cons f l ih => exact ⟨h.1, ih h.2⟩

/-- A copy lies between the ends. -/
theorem mem_landsFrom {o n : Nat} {l : List Copy} {f : Copy} (h : landsFrom o n l) (hf : f ∈ l) : o ≤ f.2.2 ∧ f.2.2 + f.2.1 ≤ n := by
  induction l generalizing o with
  | nil => cases hf
  | cons x l ih =>
    obtain ⟨hx, hrest⟩ := h
    rcases List.mem_cons.1 hf with rfl | hf
    · have := le_of_landsFrom hrest
      omega
    · have := ih hrest hf
      omega

@[simp] theorem length_memReadN (m : List Host.Cell) (a n : Nat) : (memReadN m a n).length = n := by
  induction n generalizing a with
  | zero => rfl
  | succ n ih => exact congrArg (· + 1) (ih (a + 1))

theorem getD_memReadN (m : List Host.Cell) (a : Nat) {n i : Nat} (hi : i < n) : (memReadN m a n).getD i 0 = memRead m (a + i) := by
  induction n generalizing a i with
  | zero => cases hi
  | succ n ih =>
    cases i with
    | zero => rfl
    | succ i =>
      have := ih (a + 1) (Nat.lt_of_succ_lt_succ hi)
      rw [Nat.add_assoc, Nat.add_comm 1 i] at this
      exact this

/-- What memory holds after one copy. -/
theorem memRead_copy {m : List Host.Cell} (f : Copy) (h : Memory.wf m = true) (y : Nat) :
    memRead (memWriteN m f.2.2 (memReadN m f.1 f.2.1)) y = if f.2.2 ≤ y ∧ y < f.2.2 + f.2.1 then memRead m (f.1 + (y - f.2.2)) else memRead m y := by
  rw [memRead_memWriteN _ _ _ h, length_memReadN]
  split
  next hy => exact getD_memReadN _ _ (by omega)
  next => rfl

/-- Copies change only where they land, as many as have been made. -/
theorem memRead_copyMem_outside {m : List Host.Cell} {o n : Nat} {l : List Copy} (hl : landsFrom o n l) (hwf : Memory.wf m = true) {y : Nat}
    (hy : y < o ∨ n ≤ y) (k : Nat) : memRead (copyMem m (l.take k)) y = memRead m y := by
  induction l generalizing m o k with
  | nil => rw [List.take_nil]; rfl
  | cons f l ih =>
    cases k with
    | zero => rfl
    | succ k =>
      obtain ⟨hf, hrest⟩ := hl
      have hle := le_of_landsFrom hrest
      rw [List.take_succ_cons]
      refine (ih hrest (memWriteN_wf _ _ hwf) (by omega) k).trans ?_
      rw [memRead_copy f hwf, if_neg (by omega)]

/-- Copies from outside the places where they land bring what memory held. -/
theorem memRead_copyMem_inside {m : List Host.Cell} {o n : Nat} {l : List Copy} (hl : landsFrom o n l) (hwf : Memory.wf m = true)
    (hsrc : ∀ f ∈ l, ∀ j < f.2.1, f.1 + j < o ∨ n ≤ f.1 + j) {f : Copy} (hf : f ∈ l) {j : Nat} (hj : j < f.2.1) :
    memRead (copyMem m l) (f.2.2 + j) = memRead m (f.1 + j) := by
  induction l generalizing m o with
  | nil => cases hf
  | cons x l ih =>
    obtain ⟨hx, hrest⟩ := hl
    have hle := le_of_landsFrom hrest
    have hwf' := memWriteN_wf (m := m) x.2.2 (memReadN m x.1 x.2.1) hwf
    show memRead (copyMem (memWriteN m x.2.2 (memReadN m x.1 x.2.1)) l) (f.2.2 + j) = _
    rcases List.mem_cons.1 hf with rfl | hin
    · have hout := memRead_copyMem_outside hrest hwf' (y := f.2.2 + j) (by omega) l.length
      rw [List.take_length] at hout
      rw [hout, memRead_copy f hwf, if_pos (by omega), Nat.add_sub_cancel_left]
    · have hsrcf := hsrc f hf j hj
      rw [ih hrest hwf' (fun q hq i hi => ?_) hin, memRead_copy x hwf, if_neg (by omega)]
      have := hsrc q (List.mem_cons_of_mem _ hq) i hi
      omega

/-! ### Reads that are issued (R132, R140) -/

theorem mem_granules {a n b : Nat} : b ∈ granules a n ↔ n ≠ 0 ∧ a / 64 ≤ b ∧ b ≤ (a + n - 1) / 64 := by
  unfold granules
  split
  next h => simp [h]
  next h =>
    rw [List.mem_map]
    constructor
    · rintro ⟨i, hi, rfl⟩
      have := List.mem_range.1 hi
      omega
    · intro hb
      exact ⟨b - a / 64, List.mem_range.2 (by omega), by omega⟩

/-- An access of the device's own memory meets nothing where its range lies there and is not poisoned. -/
theorem Device.accessCheck_of_local {a : Nat} (h : d.isLocal a = true) (n : Nat) (w : Bool) : d.accessCheck a n w =
    if !d.localRange a n then some 0x0F11 else if !w && d.poisoned a n then some 0x0F12 else none := by
  unfold Device.isLocal at h
  unfold Device.accessCheck
  split <;> simp_all

/-- A read that may be issued: it meets nothing, and goes from the device's memory to the device's memory. -/
def Device.Fetchable (d : Device) (f : Copy) : Prop := d.accessCheck f.1 f.2.1 false = none ∧ d.isLocal f.1 = true ∧ f.2.2 < tileBase

theorem Device.Fetchable.iff {f : Copy} : d.Fetchable f ↔
    d.localRange f.1 f.2.1 = true ∧ d.poisoned f.1 f.2.1 = false ∧ d.isLocal f.1 = true ∧ f.2.2 < tileBase := by
  unfold Device.Fetchable
  constructor
  · rintro ⟨hc, hl, hd⟩
    rw [Device.accessCheck_of_local hl] at hc
    cases hr : d.localRange f.1 f.2.1 <;> cases hp : d.poisoned f.1 f.2.1 <;> simp_all
  · rintro ⟨hr, hp, hl, hd⟩
    rw [Device.accessCheck_of_local hl, hr, hp]
    exact ⟨rfl, hl, hd⟩

/-- A read may still be issued after another has come, which poisons nothing. -/
theorem Device.Fetchable.of_write {f : Copy} {a : Nat} {bs : List Byte} {u : StreamUnit} (h : d.Fetchable f) :
    ({ d.write a bs with str := u } : Device).Fetchable f := by
  obtain ⟨hr, hp, hl, hd⟩ := Device.Fetchable.iff.1 h
  refine Device.Fetchable.iff.2 ⟨hr, ?_, hl, hd⟩
  rw [Device.poisoned, List.any_eq_false] at hp ⊢
  intro b hb hin
  exact hp b hb (by simpa using List.mem_of_mem_filter (of_decide_eq_true hin))

/-- A stream whose first `k` transfers have been issued. -/
def Stream.issued (x : Stream) (k : Nat) : Stream :=
  { x with state := if k ≠ 0 ∧ x.state = .armed then .running else x.state, issueQ := x.issueQ.drop k, outstanding := x.outstanding + k }

theorem Stream.issued_zero (x : Stream) : x.issued 0 = x := by
  simp [Stream.issued]

theorem Stream.issued_issued (x : Stream) (k : Nat) : (x.issued 1).issued k = x.issued (k + 1) := by
  unfold Stream.issued
  rw [List.drop_drop, Nat.add_assoc, Nat.add_comm 1 k]
  by_cases hs : x.state = .armed <;> simp [hs]

/-- The transfer of a copy. -/
def Copy.xfer (f : Copy) : Xfer := .fetch f.1 f.2.1 f.2.2

theorem Device.fetch_of_local {tag a n dst : Nat} (hl : d.isLocal a = true) (hd : dst < tileBase) :
    d.fetch g tag a n dst = d.write dst (d.read a n) := by
  unfold Device.isLocal at hl
  unfold Device.fetch
  rw [if_pos hd]
  split <;> simp_all

theorem Device.issueOne_of_fetch {f : Copy} {rest : List Xfer} (hq : (d.stream g).issueQ = Copy.xfer f :: rest) (hf : d.Fetchable f) :
    d.issueOne g = (d.setStream g ((d.stream g).issued 1)).write f.2.2 (d.read f.1 f.2.1) := by
  obtain ⟨hc, hl, hd⟩ := hf
  have hcheck : d.xferCheck (.fetch f.1 f.2.1 f.2.2) = none := hc
  have hissued : (d.stream g).issued 1 = { d.stream g with
      state := if (d.stream g).state = .armed then .running else (d.stream g).state, issueQ := rest, outstanding := (d.stream g).outstanding + 1 } := by
    simp [Stream.issued, hq]
  unfold Device.issueOne
  simp only [hq, Copy.xfer, hcheck]
  rw [hissued]
  exact Device.fetch_of_local (d := d.setStream g _) hl hd

/-- A stream of a record without conditional buffers has none that is not confirmed (R145). -/
theorem Device.provisional_of_plain (hrec : ∀ r, d.streamRec g = some r → r.conditional = false) : d.provisional g = false := by
  unfold Device.provisional
  split
  next r h => rw [hrec r h, Bool.false_and]
  next => rfl

theorem Device.canIssue_of_plain (hrec : ∀ r, d.streamRec g = some r → r.conditional = false) :
    d.canIssue g = !(d.stream g).issueQ.isEmpty := by
  unfold Device.canIssue
  rw [Device.provisional_of_plain hrec]
  split
  next h => rw [h]; rfl
  next h => rw [h]; rfl

theorem Device.issuePort_of_full (h : 8 ≤ d.portLoad g) (n : Nat) : d.issuePort g n = d := by
  cases n with
  | zero => rfl
  | succ n => exact if_pos h

/-- A port whose streams have no transfer to issue issues none. -/
theorem Device.issuePort_of_idle (h : d.portIdle g) (n : Nat) : d.issuePort g n = d := by
  have hnext : d.nextIssue g = none := by
    have hcan : d.canIssue g = false := by rw [Device.canIssue, h g (mem_portOf_self g)]
    rw [Device.nextIssue_of_only fun j hj _ => h j hj, hcan]
    rfl
  cases n with
  | zero => rfl
  | succ n => rw [Device.issuePort, hnext, ite_self]

/-- A port with room issues the first transfer of its one stream that has any. -/
theorem Device.issuePort_succ (hroom : d.portLoad g < 8) (hrec : ∀ r, d.streamRec g = some r → r.conditional = false)
    (hothers : ∀ h ∈ portOf g, h ≠ g → (d.stream h).issueQ = []) (hq : (d.stream g).issueQ ≠ []) (n : Nat) :
    d.issuePort g (n + 1) = (d.issueOne g).issuePort g n := by
  have hcan : d.canIssue g = true := by
    rw [Device.canIssue_of_plain hrec, Bool.not_eq_true', List.isEmpty_eq_false_iff]
    exact hq
  rw [Device.issuePort, if_neg (Nat.not_le.2 hroom), Device.nextIssue_of_only hothers, if_pos hcan]

/-- Reads of a port whose other streams have none are issued in order, while fewer than 8 are outstanding. -/
theorem Device.issuePort_of_fetches (hrec : ∀ r, d.streamRec g = some r → r.conditional = false)
    (hothers : ∀ h ∈ portOf g, h ≠ g → (d.stream h).issueQ = []) {l : List Copy} (hq : (d.stream g).issueQ = l.map Copy.xfer)
    (hall : ∀ f ∈ l, d.Fetchable f) {n : Nat} (hn : 8 ≤ d.portLoad g + n) {e : Device} (he : e = d.issuePort g n) :
    e.mem = copyMem d.mem (l.take (8 - d.portLoad g)) ∧ e.stream g = (d.stream g).issued (min l.length (8 - d.portLoad g)) ∧
    (∀ h, h ≠ g → e.stream h = d.stream h) ∧ e = { d with mem := e.mem, poison := e.poison, str := { d.str with streams := e.str.streams } } := by
  subst he
  have hnone {d : Device} {l : List Copy} (h : l.take (8 - d.portLoad g) = []) {e : Device} (he : e = d) :
      e.mem = copyMem d.mem (l.take (8 - d.portLoad g)) ∧ e.stream g = (d.stream g).issued (min l.length (8 - d.portLoad g)) ∧
      (∀ h, h ≠ g → e.stream h = d.stream h) ∧ e = { d with mem := e.mem, poison := e.poison, str := { d.str with streams := e.str.streams } } := by
    have hlen := congrArg List.length h
    rw [List.length_take, List.length_nil, Nat.min_comm] at hlen
    subst he
    rw [h, hlen, Stream.issued_zero]
    exact ⟨rfl, rfl, fun _ _ => rfl, rfl⟩
  induction n generalizing d l with
  | zero => exact hnone (by rw [show 8 - d.portLoad g = 0 by omega, List.take_zero]) rfl
  | succ n ih =>
    by_cases hfull : 8 ≤ d.portLoad g
    · exact hnone (by rw [show 8 - d.portLoad g = 0 by omega, List.take_zero]) (Device.issuePort_of_full hfull _)
    · cases l with
      | nil =>
        refine hnone List.take_nil (Device.issuePort_of_idle (fun h hh => ?_) _)
        by_cases hg : h = g
        · rw [hg, hq]
          rfl
        · exact hothers h hh hg
      | cons f l =>
        have hone := Device.issueOne_of_fetch (rest := l.map Copy.xfer) hq (hall f (List.mem_cons_self ..))
        rw [Device.issuePort_succ (Nat.not_le.1 hfull) hrec hothers (by rw [hq]; exact List.cons_ne_nil _ _)]
        have hself : (d.issueOne g).stream g = (d.stream g).issued 1 := by
          rw [hone]
          exact Device.stream_setStream_self ..
        have hother (h : Nat) (hh : h ≠ g) : (d.issueOne g).stream h = d.stream h := by
          rw [hone]
          exact Device.stream_setStream_of_ne _ _ hh
        have hmem : (d.issueOne g).mem = memWriteN d.mem f.2.2 (memReadN d.mem f.1 f.2.1) := by rw [hone]; rfl
        have hframe : d.issueOne g = { d with
            mem := (d.issueOne g).mem, poison := (d.issueOne g).poison, str := { d.str with streams := (d.issueOne g).str.streams } } := by
          rw [hone]
          rfl
        have hload : (d.issueOne g).portLoad g = d.portLoad g + 1 := by
          have := Device.portLoad_of_stream hother
          rw [hself] at this
          have hout : ((d.stream g).issued 1).outstanding = (d.stream g).outstanding + 1 := rfl
          omega
        have hready (q : Copy) (hx : q ∈ l) : (d.issueOne g).Fetchable q := by
          rw [hone]
          exact (hall q (List.mem_cons_of_mem _ hx)).of_write
        have hqueue : ((d.issueOne g).stream g).issueQ = l.map Copy.xfer := by
          rw [hself]
          show (d.stream g).issueQ.drop 1 = _
          rw [hq]
          rfl
        generalize d.issueOne g = e at hself hother hmem hframe hload hready hqueue
        obtain ⟨hm, hg, ho, hf⟩ := ih (d := e) (l := l) (fun r hr => hrec r (by rw [hframe] at hr; exact hr))
          (fun h hh hne => (congrArg _ (hother h hne)).trans (hothers h hh hne)) hqueue hready (by omega)
        obtain ⟨c, hc⟩ : ∃ c, 8 - d.portLoad g = c + 1 := ⟨7 - d.portLoad g, by omega⟩
        have hc' : 8 - e.portLoad g = c := by omega
        rw [hc'] at hm hg
        rw [hc, List.take_succ_cons, List.length_cons, Nat.add_min_add_right, ← Stream.issued_issued, ← hself]
        refine ⟨?_, hg, fun h hh => (ho h hh).trans (hother h hh), ?_⟩
        · rw [hm, hmem]
          rfl
        · rw [hf, hframe]

end Sys2Proof.Machine
end

section
/-!
SUPPORT. The transfers of a read stream (R132, R140): the parts of its pieces, where they land, and what they bring.
-/

namespace Sys2Proof.Machine

variable {d d' : Device} {g a : Nat} {r : StreamRec} {b : Buffer} {x : Stream} {pieces : List (Nat × Nat)}

/-! ### The parts of a piece -/

/-- A part lies in its range, at its offset. -/
theorem mem_partsFrom {a o n : Nat} {ps : List (Nat × Nat × Nat)} {p : Nat × Nat × Nat} (h : partsFrom a o n ps) (hp : p ∈ ps) :
    p.1 = a + p.2.2 ∧ p.2.2 + p.2.1 ≤ n := by
  induction ps generalizing o with
  | nil => cases hp
  | cons q ps ih =>
    obtain ⟨haddr, hoff, hle, hrest⟩ := h
    rcases List.mem_cons.1 hp with rfl | hin
    · omega
    · exact ih hrest hin

/-- Each byte of a range lies in one of its parts. -/
theorem exists_part {a o n i : Nat} {ps : List (Nat × Nat × Nat)} (h : partsFrom a o n ps) (ho : o ≤ i) (hi : i < n) :
    ∃ p ∈ ps, p.2.2 ≤ i ∧ i < p.2.2 + p.2.1 := by
  induction ps generalizing o with
  | nil => exact absurd (show o = n from h) (by omega)
  | cons p ps ih =>
    obtain ⟨-, hoff, -, hrest⟩ := h
    by_cases hlt : i < p.2.2 + p.2.1
    · exact ⟨p, List.mem_cons_self .., by omega, hlt⟩
    · obtain ⟨q, hq, hin⟩ := ih hrest (by omega)
      exact ⟨q, List.mem_cons_of_mem _ hq, hin⟩

/-- A part lies in one page. -/
theorem page_of_mem_pageParts {a n : Nat} {p : Nat × Nat × Nat} (hp : p ∈ pageParts a n) (h0 : p.2.1 ≠ 0) :
    (p.1 + p.2.1 - 1) / 4096 = p.1 / 4096 := by
  obtain ⟨i, -, rfl⟩ := List.mem_map.1 hp
  simp only at h0 ⊢
  omega

theorem Device.localRange_of_mem_pageParts {a n : Nat} {p : Nat × Nat × Nat} (hl : d.localRange a n = true) (hp : p ∈ pageParts a n) :
    d.localRange p.1 p.2.1 = true := by
  unfold Device.localRange
  by_cases h0 : p.2.1 = 0
  · rw [decide_eq_true h0, Bool.true_or]
  · rw [page_of_mem_pageParts hp h0, Nat.sub_self, Bool.or_eq_true, List.all_eq_true]
    refine .inr fun i hi => ?_
    have hi0 : i = 0 := by
      have := List.mem_range.1 hi
      omega
    rw [hi0, show max p.1 ((p.1 / 4096 + 0) * 4096) = p.1 by omega]
    exact Device.isLocal_of_mem_pageParts hl hp

theorem Device.poisoned_of_mem_pageParts {a n : Nat} {p : Nat × Nat × Nat} (hc : d.poisoned a n = false) (hp : p ∈ pageParts a n) :
    d.poisoned p.1 p.2.1 = false := by
  obtain ⟨haddr, hle⟩ := mem_partsFrom (partsFrom_pageParts a n) hp
  rw [Device.poisoned, List.any_eq_false] at hc ⊢
  intro b hb
  have hin := mem_granules.1 hb
  exact hc b (mem_granules.2 (by omega))

/-! ### The queue of a stream's pieces (R132) -/

/-- The bytes of the pieces. -/
def totalOf (pieces : List (Nat × Nat)) : Nat := pieces.foldl (fun n p => n + p.2) 0

theorem foldl_total (pieces : List (Nat × Nat)) (n : Nat) : pieces.foldl (fun n p => n + p.2) n = n + totalOf pieces := by
  unfold totalOf
  induction pieces generalizing n with
  | nil => rfl
  | cons p ps ih => rw [List.foldl_cons, List.foldl_cons, ih, ih (0 + p.2), Nat.zero_add, Nat.add_assoc]

theorem totalOf_cons (p : Nat × Nat) (pieces : List (Nat × Nat)) : totalOf (p :: pieces) = p.2 + totalOf pieces := by
  rw [totalOf, List.foldl_cons, foldl_total, Nat.zero_add]

/-- The parts of the pieces, which go to consecutive places of a buffer. -/
def fetchQueue (base : Nat) : (cur : Nat) → List (Nat × Nat) → List Copy
  | _, [] => []
  | cur, p :: ps => (pageParts p.1 p.2).map (fun x => (x.1, x.2.1, base + cur + x.2.2)) ++ fetchQueue base (cur + p.2) ps

/-- The queue that a transfer instruction forms. -/
theorem foldl_fetchQueue (base cur : Nat) (pieces : List (Nat × Nat)) (acc : List Xfer) :
    pieces.foldl (fun (acc : List Xfer × Nat) p =>
      (acc.1 ++ (pageParts p.1 p.2).map (fun x => Xfer.fetch x.1 x.2.1 (base + acc.2 + x.2.2)), acc.2 + p.2)) (acc, cur) =
    (acc ++ (fetchQueue base cur pieces).map Copy.xfer, cur + totalOf pieces) := by
  induction pieces generalizing acc cur with
  | nil => rw [fetchQueue, List.map_nil, List.append_nil]; rfl
  | cons p ps ih =>
    rw [List.foldl_cons, ih, fetchQueue, List.map_append, List.map_map, totalOf_cons, List.append_assoc, Nat.add_assoc]
    rfl

theorem landsFrom_map_parts {a o n c : Nat} {ps : List (Nat × Nat × Nat)} (h : partsFrom a o n ps) :
    landsFrom (c + o) (c + n) (ps.map (fun x => (x.1, x.2.1, c + x.2.2))) := by
  induction ps generalizing o with
  | nil => exact congrArg (c + ·) (show o = n from h)
  | cons p ps ih =>
    obtain ⟨-, hoff, -, hrest⟩ := h
    exact ⟨congrArg (c + ·) hoff, Nat.add_assoc c o _ ▸ ih hrest⟩

theorem landsFrom_fetchQueue (base cur : Nat) (pieces : List (Nat × Nat)) :
    landsFrom (base + cur) (base + cur + totalOf pieces) (fetchQueue base cur pieces) := by
  induction pieces generalizing cur with
  | nil => rfl
  | cons p ps ih =>
    have hrest := ih (cur + p.2)
    rw [← Nat.add_assoc] at hrest
    rw [totalOf_cons, ← Nat.add_assoc]
    exact landsFrom_append (landsFrom_map_parts (c := base + cur) (partsFrom_pageParts p.1 p.2)) hrest

theorem of_mem_fetchQueue {base cur : Nat} {f : Copy} (hf : f ∈ fetchQueue base cur pieces) :
    ∃ p ∈ pieces, ∃ q ∈ pageParts p.1 p.2, f.1 = q.1 ∧ f.2.1 = q.2.1 := by
  induction pieces generalizing cur with
  | nil => cases hf
  | cons p ps ih =>
    rcases List.mem_append.1 hf with hin | hin
    · obtain ⟨q, hq, rfl⟩ := List.mem_map.1 hin
      exact ⟨p, List.mem_cons_self .., q, hq, rfl, rfl⟩
    · obtain ⟨q, hq, hrest⟩ := ih hin
      exact ⟨q, List.mem_cons_of_mem _ hq, hrest⟩

/-- Each part of each piece is in the queue, at the place that the pieces before it leave. -/
theorem mem_fetchQueue {base cur i : Nat} {p : Nat × Nat} {q : Nat × Nat × Nat} (hp : pieces[i]? = some p) (hq : q ∈ pageParts p.1 p.2) :
    (q.1, q.2.1, base + cur + totalOf (pieces.take i) + q.2.2) ∈ fetchQueue base cur pieces := by
  induction pieces generalizing cur i with
  | nil => cases hp
  | cons y ps ih =>
    cases i with
    | zero =>
      cases hp
      exact List.mem_append_left _ (List.mem_map.2 ⟨q, hq, rfl⟩)
    | succ i =>
      have hin := ih (cur := cur + y.2) hp
      rw [List.take_succ_cons, totalOf_cons, show base + cur + (y.2 + totalOf (ps.take i)) = base + (cur + y.2) + totalOf (ps.take i) by omega]
      exact List.mem_append_right _ hin

theorem length_fetchQueue (base cur : Nat) (pieces : List (Nat × Nat)) :
    (fetchQueue base cur pieces).length = pieces.foldl (fun n p => n + transfersOf p.1 p.2) 0 := by
  have hfrom (n : Nat) : pieces.foldl (fun n p => n + transfersOf p.1 p.2) n = n + (fetchQueue base cur pieces).length := by
    induction pieces generalizing cur n with
    | nil => rfl
    | cons p ps ih => rw [List.foldl_cons, ih (cur + p.2), fetchQueue, List.length_append, List.length_map, length_pageParts, Nat.add_assoc]
  rw [hfrom, Nat.zero_add]

/-- The copies of the pieces bring their bytes to consecutive places, where no piece lies among these. -/
theorem memRead_copyMem_queue {m : List Host.Cell} {base cur i j : Nat} {p : Nat × Nat} (hwf : Memory.wf m = true)
    (hsrc : ∀ p ∈ pieces, p.1 + p.2 ≤ base + cur ∨ base + cur + totalOf pieces ≤ p.1) (hp : pieces[i]? = some p) (hj : j < p.2) :
    memRead (copyMem m (fetchQueue base cur pieces)) (base + cur + totalOf (pieces.take i) + j) = memRead m (p.1 + j) := by
  obtain ⟨q, hq, hlo, hhi⟩ := exists_part (partsFrom_pageParts p.1 p.2) (Nat.zero_le j) hj
  obtain ⟨haddr, -⟩ := mem_partsFrom (partsFrom_pageParts p.1 p.2) hq
  have hin := memRead_copyMem_inside (landsFrom_fetchQueue base cur pieces) hwf (fun f hf k hk => ?_) (mem_fetchQueue (base := base) (cur := cur) hp hq)
    (j := j - q.2.2) (by simp only; omega)
  · simp only at hin
    rw [show base + cur + totalOf (pieces.take i) + j = base + cur + totalOf (pieces.take i) + q.2.2 + (j - q.2.2) by omega, hin]
    exact congrArg _ (by omega)
  · obtain ⟨y, hy, z, hz, hfa, hfl⟩ := of_mem_fetchQueue hf
    obtain ⟨hza, hzl⟩ := mem_partsFrom (partsFrom_pageParts y.1 y.2) hz
    have := hsrc y hy
    omega

/-! ### XFER and XSTR on a read stream -/

/-- A piece that a stream may read. -/
def Device.Readable (d : Device) (die region aw : Nat) (p : Nat × Nat) : Prop :=
  d.pieceCheck die region aw p.1 p.2 = none ∧ d.accessCheck p.1 p.2 false = none

/-- The stream once its pieces are queued for its open buffer. -/
def Stream.reading (x : Stream) (b : Buffer) (a next : Nat) (pieces : List (Nat × Nat)) : Stream :=
  { x with openBuf := some { b with cursor := b.cursor + totalOf pieces }, areg := setNth x.areg a next
           issueQ := x.issueQ ++ (fetchQueue b.addr b.cursor pieces).map Copy.xfer, pc := x.pc + 1 }

theorem Device.pisteRead_of_open {next : Nat} (hcond : r.conditional = false) (hopen : x.openBuf = some b)
    (hchecks : ∀ p ∈ pieces, d.Readable (g / 32768) (x.areg_region.getD a 0) r.accessWidth p) (hroom : b.cursor + totalOf pieces ≤ b.size) :
    d.pisteRead g r x a pieces next = (d.setStream g (x.reading b a next pieces)).issue g := by
  have hmay : d.mayFill g r x = true := by rw [Device.mayFill, hcond]; rfl
  unfold Device.pisteRead
  simp only [hmay, hopen, foldl_fetchQueue, hcond, Bool.not_true, Bool.false_eq_true, if_false]
  rw [List.findSome?_eq_none_iff.2 ?none]
  case none =>
    intro p hp
    obtain ⟨hpiece, haccess⟩ := hchecks p hp
    simp only [hpiece, haccess]
  exact if_neg (Nat.not_lt.2 hroom)

theorem Device.portLoad_setStream (h : x.outstanding = (d.stream g).outstanding) : (d.setStream g x).portLoad g = d.portLoad g := by
  have hmove := Device.portLoad_of_stream (d := d) (d' := d.setStream g x) (g := g) fun j hj => Device.stream_setStream_of_ne _ _ hj
  rw [Device.stream_setStream_self, h] at hmove
  exact Nat.add_right_cancel hmove

theorem Device.portLoad_reading (d : Device) (g : Nat) (b : Buffer) (a next : Nat) (pieces : List (Nat × Nat)) :
    (d.setStream g ((d.stream g).reading b a next pieces)).portLoad g = d.portLoad g := Device.portLoad_setStream rfl

/-- The reads of pieces that lie in the device's memory, into a buffer that lies there, may be issued. -/
theorem Device.fetchable_of_mem {base cur : Nat} (hchecks : ∀ p ∈ pieces, d.accessCheck p.1 p.2 false = none ∧ d.isLocal p.1 = true)
    (hend : base + cur + totalOf pieces ≤ 2 ^ 57) {f : Copy} (hf : f ∈ fetchQueue base cur pieces) : d.Fetchable f := by
  obtain ⟨p, hp, q, hq, haddr, hlen⟩ := of_mem_fetchQueue hf
  obtain ⟨haccess, hlocal⟩ := hchecks p hp
  obtain ⟨hrange, hclean, -⟩ := (Device.Fetchable.iff (f := (p.1, p.2, 0))).1 ⟨haccess, hlocal, show 0 < tileBase by decide⟩
  obtain ⟨-, hlast⟩ := mem_landsFrom (landsFrom_fetchQueue base cur pieces) hf
  refine Device.Fetchable.iff.2 ?_
  rw [haddr, hlen]
  exact ⟨Device.localRange_of_mem_pageParts hrange hq, Device.poisoned_of_mem_pageParts hclean hq, Device.isLocal_of_mem_pageParts hrange hq,
    Nat.lt_of_le_of_lt ((Nat.le_add_right _ _).trans (hlast.trans hend)) (by decide)⟩

/-- What a transfer instruction of a read stream with an open buffer comes to: as many copies as the port lets it issue. -/
theorem Device.pisteRead_post {next : Nat} (hrec : d.streamRec g = some r) (hcond : r.conditional = false) (hidle : d.portIdle g)
    (hopen : (d.stream g).openBuf = some b)
    (hchecks : ∀ p ∈ pieces, d.Readable (g / 32768) ((d.stream g).areg_region.getD a 0) r.accessWidth p) (hlocal : ∀ p ∈ pieces, d.isLocal p.1 = true)
    (hroom : b.cursor + totalOf pieces ≤ b.size) (haddr : b.addr + b.size ≤ 2 ^ 57) {e : Device} (he : e = d.pisteRead g r (d.stream g) a pieces next) :
    e.mem = copyMem d.mem ((fetchQueue b.addr b.cursor pieces).take (8 - d.portLoad g)) ∧
    e.stream g = ((d.stream g).reading b a next pieces).issued (min (fetchQueue b.addr b.cursor pieces).length (8 - d.portLoad g)) ∧
    e = { d with mem := e.mem, poison := e.poison, str := { d.str with streams := e.str.streams } } := by
  have hself : (d.setStream g ((d.stream g).reading b a next pieces)).stream g = (d.stream g).reading b a next pieces := Device.stream_setStream_self ..
  have hother (h : Nat) (hne : h ≠ g) : (d.setStream g ((d.stream g).reading b a next pieces)).stream h = d.stream h :=
    Device.stream_setStream_of_ne _ _ hne
  have hload := d.portLoad_reading g b a next pieces
  rw [Device.pisteRead_of_open hcond hopen hchecks hroom] at he
  obtain ⟨hmem, hg, -, hframe⟩ := Device.issuePort_of_fetches (d := d.setStream g ((d.stream g).reading b a next pieces)) (g := g)
    (fun q hq => by cases hrec.symm.trans hq; exact hcond) (fun h hh hne => (congrArg _ (hother h hne)).trans (hidle h hh))
    (l := fetchQueue b.addr b.cursor pieces) (by rw [hself, Stream.reading, hidle g (mem_portOf_self g)]; rfl)
    (fun f hf => Device.fetchable_of_mem (d := d) (fun p hp => ⟨(hchecks p hp).2, hlocal p hp⟩) (by omega) hf) (by omega) he
  rw [hload] at hmem hg
  rw [hself] at hg
  exact ⟨hmem, hg, hframe⟩

theorem Device.pisteMove_read {pieces : Nat → List (Nat × Nat)} {next : Nat → Nat} (hpro : r.prologue = false) (hw : r.write = false) :
    pisteMove a pieces next g r x d = d.pisteRead g r x a (pieces (x.areg.getD a 0)) (next (x.areg.getD a 0) % 2 ^ 57) := by
  have hopen : d.prologueOpen (g / 32768) r x = true := by
    rw [Device.prologueOpen, hpro]
    rfl
  simp only [pisteMove, hopen, hw, Bool.not_true, Bool.false_eq_true, if_false]

end Sys2Proof.Machine
end

section
/-!
SUPPORT. The transfers of a write stream (R135, R156): the granules of staging that its writes take, and the writes that its transfers stage.
-/

namespace Sys2Proof.Machine

variable {d d' : Device} {g k a die tag : Nat} {r : StreamRec} {t : Task} {ws : List StagedWrite}

/-! ### Granules of staging (R156) -/

/-- New elements go to the end of a list, each once. -/
theorem foldl_addNew_eq {β : Type} [DecidableEq β] (l acc : List β) :
    ∃ new, l.foldl addNew acc = acc ++ new ∧ new.Nodup ∧ (∀ y ∈ new, y ∈ l) ∧ ∀ y ∈ new, y ∉ acc := by
  induction l generalizing acc with
  | nil => exact ⟨[], (List.append_nil acc).symm, List.nodup_nil, nofun, nofun⟩
  | cons x l ih =>
    rw [List.foldl_cons]
    by_cases hx : x ∈ acc
    · obtain ⟨new, heq, hnd, hin, hout⟩ := ih acc
      rw [addNew, if_pos hx]
      exact ⟨new, heq, hnd, fun y hy => List.mem_cons_of_mem _ (hin y hy), hout⟩
    · obtain ⟨new, heq, hnd, hin, hout⟩ := ih (acc ++ [x])
      rw [addNew, if_neg hx]
      have hxnew : x ∉ new := fun h => hout x h (List.mem_append_right _ (List.mem_singleton_self x))
      refine ⟨x :: new, by rw [heq, List.append_assoc]; rfl, List.nodup_cons.2 ⟨hxnew, hnd⟩, fun y hy => ?_, fun y hy => ?_⟩
      · rcases List.mem_cons.1 hy with rfl | hy
        · exact List.mem_cons_self ..
        · exact List.mem_cons_of_mem _ (hin y hy)
      · rcases List.mem_cons.1 hy with rfl | hy
        · exact hx
        · exact fun h => hout y hy (List.mem_append_left _ h)

/-- A task with more staged writes. -/
def Task.staging (t : Task) (ws : List StagedWrite) : Task := { t with writes := t.writes ++ ws }

theorem Task.staging_cons (t : Task) (w : StagedWrite) (ws : List StagedWrite) : (t.staging [w]).staging ws = t.staging (w :: ws) := by
  simp [Task.staging]

/-- More writes take no less, and at most a granule for each of those they touch. -/
theorem granulesOn_staging (t : Task) (ws : List StagedWrite) (die : Nat) {l : List Nat}
    (hl : ∀ w ∈ ws, ∀ b ∈ granules w.addr w.data.length, b ∈ l) :
    t.granulesOn die ≤ (t.staging ws).granulesOn die ∧ (t.staging ws).granulesOn die ≤ t.granulesOn die + l.length := by
  obtain ⟨new, heq, hnd, hin, -⟩ := foldl_addNew_eq ((ws.filter (fun w => w.die = die)).flatMap (fun w => granules w.addr w.data.length))
    ((t.writes.filter (fun w => w.die = die)).foldl (fun acc w => (granules w.addr w.data.length).foldl addNew acc) ([] : List Nat))
  rw [List.foldl_flatMap] at heq
  have hlen : new.length ≤ l.length := by
    refine (List.subperm_of_subset hnd fun b hb => ?_).length_le
    obtain ⟨w, hw, hbw⟩ := List.mem_flatMap.1 (hin b hb)
    exact hl w (List.mem_of_mem_filter hw) b hbw
  have hgrown : (t.staging ws).granulesOn die = t.granulesOn die + new.length := by
    unfold Task.granulesOn Task.staging
    simp only
    rw [List.filter_append, List.foldl_append, heq, List.length_append]
    omega
  omega

/-- The granules of a range. -/
theorem length_granules (a n : Nat) : (granules a n).length ≤ n / 64 + 2 := by
  unfold granules
  split
  · exact Nat.zero_le _
  · rw [List.length_map, List.length_range]
    omega

/-! ### The table of tasks -/

theorem Map.get?_of_mem {β : Type} {m : Map β} {k : Nat} {v : β} (hs : Map.rising m = true) (h : (k, v) ∈ m) : m.get? k = some v := by
  induction m with
  | nil => cases h
  | cons e m ih =>
    obtain ⟨j, w⟩ := e
    obtain ⟨hlt, hr⟩ := (Map.rising_cons ..).1 hs
    rw [Map.get?_cons]
    rcases List.mem_cons.1 h with heq | hin
    · cases heq
      exact if_pos rfl
    · rw [if_neg (Nat.ne_of_lt (hlt _ hin)), ih hr hin]

/-- A sum over a map moves by as much as its term at the key that changes. -/
theorem Map.sum_put {β : Type} {m : Map β} {k : Nat} {v : β} (q : β → Nat) (v' : β) (hs : Map.rising m = true) (hk : m.get? k = some v) :
    ((m.put k v').map (fun e => q e.2)).sum + q v = (m.map (fun e => q e.2)).sum + q v' := by
  induction m with
  | nil => cases hk
  | cons e m ih =>
    obtain ⟨j, w⟩ := e
    obtain ⟨hlt, hr⟩ := (Map.rising_cons ..).1 hs
    rw [Map.get?_cons] at hk
    unfold Map.put
    by_cases hj : j = k
    · rw [if_pos hj] at hk
      cases hk
      rw [if_neg (by omega), if_pos hj.symm]
      simp only [List.map_cons, List.sum_cons]
      omega
    · rw [if_neg hj] at hk
      have hnlt : ¬ k < j := fun hkj => by
        rw [Map.get?_eq_none_of_lt fun e he => Nat.lt_trans hkj (hlt e he)] at hk
        cases hk
      have := ih hr hk
      rw [if_neg hnlt, if_neg (Ne.symm hj)]
      simp only [List.map_cons, List.sum_cons]
      omega

/-- The granules of an entry that count. -/
def Task.used (t : Task) (die : Nat) : Nat := if t.live then t.granulesOn die else 0

theorem Device.stagingUsed_eq (d : Device) (die : Nat) : d.stagingUsed die = (d.str.tasks.map (fun e => e.2.used die)).sum := by
  have hfrom (l : List (Nat × Task)) (n : Nat) :
      (l.filter (fun e => e.2.live)).foldl (fun n e => n + e.2.granulesOn die) n = n + (l.map (fun e => e.2.used die)).sum := by
    induction l generalizing n with
    | nil => rfl
    | cons e l ih =>
      rw [List.filter_cons, List.map_cons, List.sum_cons, Task.used]
      split
      · rw [List.foldl_cons, ih, Nat.add_assoc]
      · rw [ih, Nat.zero_add]
  unfold Device.stagingUsed
  rw [hfrom, Nat.zero_add]

/-- An entry that takes more granules makes the device take at most as many more. -/
theorem Device.stagingUsed_setTask {t' : Task} (hs : Map.rising d.str.tasks = true) (hk : d.str.tasks.get? k = some t) (hlive : t'.live = t.live)
    (hmore : t.granulesOn die ≤ t'.granulesOn die) :
    (d.setTask k t').stagingUsed die ≤ d.stagingUsed die + (t'.granulesOn die - t.granulesOn die) := by
  rw [Device.stagingUsed_eq, Device.stagingUsed_eq]
  have hmove := Map.sum_put (fun t => t.used die) t' hs hk
  simp only [Task.used, hlive] at hmove ⊢
  show (List.map _ (d.str.tasks.put k t')).sum ≤ _
  split at hmove <;> omega

/-! ### Writes that are staged (R156) -/

theorem Device.stage_of_room {w : StagedWrite} (hf : d.findTask tag = some (k, t))
    (hroom : d.stagingUsed w.die + ((t.staging [w]).granulesOn w.die - t.granulesOn w.die) ≤ d.stagingCapacity w.die) :
    d.stage tag w = d.setTask k (t.staging [w]) := by
  unfold Device.stage
  simp only [hf]
  exact if_neg (Nat.not_lt.2 hroom)

theorem Device.issueOne_of_stage {w : StagedWrite} {rest : List Xfer} (hq : (d.stream g).issueQ = .stage w :: rest)
    (hc : d.accessCheck w.addr w.data.length true = none) : d.issueOne g = (d.setStream g ((d.stream g).issued 1)).stage (d.stream g).tag w := by
  have hcheck : d.xferCheck (.stage w) = none := hc
  have hissued : (d.stream g).issued 1 = { d.stream g with
      state := if (d.stream g).state = .armed then .running else (d.stream g).state, issueQ := rest, outstanding := (d.stream g).outstanding + 1 } := by
    simp [Stream.issued, hq]
  unfold Device.issueOne
  simp only [hq, hcheck]
  rw [hissued]

/-- The writes of a port whose other streams have no transfer are all staged, where the port and the staging take them. -/
theorem Device.issuePort_of_stages (hrec : ∀ r, d.streamRec g = some r → r.conditional = false)
    (hothers : ∀ h ∈ portOf g, h ≠ g → (d.stream h).issueQ = []) (hq : (d.stream g).issueQ = ws.map .stage) (hload : d.portLoad g + ws.length ≤ 8)
    {n : Nat} (hn : ws.length ≤ n) (hc : ∀ w ∈ ws, d.accessCheck w.addr w.data.length true = none) (hdie : ∀ w ∈ ws, w.die = die)
    (hf : d.findTask (d.stream g).tag = some (k, t)) (hs : Map.rising d.str.tasks = true)
    (hroom : d.stagingUsed die + ((t.staging ws).granulesOn die - t.granulesOn die) ≤ d.stagingCapacity die) {e : Device} (he : e = d.issuePort g n) :
    e.str.tasks.get? k = some (t.staging ws) ∧ e.stream g = (d.stream g).issued ws.length ∧
    e = { d with str := { d.str with streams := e.str.streams, tasks := e.str.tasks } } := by
  subst he
  obtain ⟨-, hmem, -, -⟩ := Device.findTask_some hf
  have hk : d.str.tasks.get? k = some t := Map.get?_of_mem hs hmem
  induction ws generalizing d t n with
  | nil =>
    rw [Device.issuePort_of_idle (fun h hh => ?idle), Task.staging, List.append_nil, List.length_nil, Stream.issued_zero]
    case idle =>
      by_cases hg : h = g
      · rw [hg, hq]
        rfl
      · exact hothers h hh hg
    exact ⟨hk, rfl, rfl⟩
  | cons w ws ih =>
    have hdw := hdie w (List.mem_cons_self ..)
    have hone := Device.issueOne_of_stage (rest := ws.map .stage) hq (hc w (List.mem_cons_self ..))
    have hgrows (t : Task) (l : List StagedWrite) : t.granulesOn die ≤ (t.staging l).granulesOn die :=
      (granulesOn_staging t l die (l := l.flatMap (fun w => granules w.addr w.data.length)) fun w hw b hb => List.mem_flatMap.2 ⟨w, hw, hb⟩).1
    have hfirst := hgrows t [w]
    have hlast := hgrows (t.staging [w]) ws
    rw [Task.staging_cons] at hlast
    rw [Device.stage_of_room (d := d.setStream g ((d.stream g).issued 1)) (t := t) hf (by
      rw [hdw]
      exact Nat.le_trans (Nat.add_le_add_left (by omega) _) hroom)] at hone
    obtain ⟨m, rfl⟩ : ∃ m, n = m + 1 := ⟨n - 1, by have := List.length_cons (a := w) (as := ws); omega⟩
    rw [Device.issuePort_succ (by have := List.length_cons (a := w) (as := ws); omega) hrec hothers (by rw [hq]; exact List.cons_ne_nil _ _)]
    have hself : (d.issueOne g).stream g = (d.stream g).issued 1 := by rw [hone]; exact Device.stream_setStream_self ..
    have hother (h : Nat) (hh : h ≠ g) : (d.issueOne g).stream h = d.stream h := by rw [hone]; exact Device.stream_setStream_of_ne _ _ hh
    have htasks : (d.issueOne g).str.tasks = d.str.tasks.put k (t.staging [w]) := by rw [hone]; rfl
    have hframe : d.issueOne g = { d with str := { d.str with streams := (d.issueOne g).str.streams, tasks := (d.issueOne g).str.tasks } } := by
      rw [hone]
      rfl
    have hused : (d.issueOne g).stagingUsed die ≤ d.stagingUsed die + ((t.staging [w]).granulesOn die - t.granulesOn die) := by
      rw [hone]
      exact Device.stagingUsed_setTask (d := d.setStream g ((d.stream g).issued 1)) hs hk rfl hfirst
    have hmove := Device.portLoad_of_stream hother
    obtain ⟨-, -, htag, -⟩ := Device.findTask_some hf
    have hfind : (d.issueOne g).findTask (d.stream g).tag = some (k, t.staging [w]) := Device.findTask_of_put hf htag htasks
    have hcap : (d.issueOne g).stagingCapacity die = d.stagingCapacity die := by rw [hframe]; rfl
    have hqueue : ((d.issueOne g).stream g).issueQ = ws.map .stage := by
      rw [hself]
      show (d.stream g).issueQ.drop 1 = _
      rw [hq]
      rfl
    have hout : ((d.issueOne g).stream g).outstanding = (d.stream g).outstanding + 1 := by rw [hself]; rfl
    rw [List.length_cons] at hload hn
    generalize d.issueOne g = c at hself hother htasks hframe hused hmove hfind hcap hqueue hout
    obtain ⟨hget, hstream, hrest⟩ := ih (d := c) (t := t.staging [w]) (n := m) (fun r hr => hrec r (by rw [hframe] at hr; exact hr))
      (fun h hh hne => (congrArg _ (hother h hne)).trans (hothers h hh hne)) hqueue (by omega) (by omega)
      (fun x hx => by rw [hframe]; exact hc x (List.mem_cons_of_mem _ hx)) (fun x hx => hdie x (List.mem_cons_of_mem _ hx)) (by rw [hself]; exact hfind)
      (by rw [htasks]; exact Map.rising_put _ _ hs) (by rw [Task.staging_cons, hcap]; omega) (by rw [htasks]; exact Map.mem_put_self ..)
      (by rw [htasks]; exact Map.get?_put_self ..)
    rw [Task.staging_cons] at hget
    rw [List.length_cons, ← Stream.issued_issued, ← hself]
    exact ⟨hget, hstream, by rw [hrest, hframe]⟩

/-! ### XFER on a write stream -/

/-- The writes that a transfer of a popped handle's bytes stages. -/
def Device.writesOf (d : Device) (die : Nat) (e : LiftEntry) (cur p n : Nat) : List StagedWrite :=
  (pageParts p n).map (fun x => { die := die, addr := x.1, data := d.read (e.h.addr + cur + x.2.2) x.2.1, combine := none, order := 0 })

/-- The stream once a piece is queued for the handle in its hand. -/
def Stream.writing (x : Stream) (a next n : Nat) (ws : List StagedWrite) : Stream :=
  { x with cursor := x.cursor + n, areg := setNth x.areg a next, issueQ := x.issueQ ++ ws.map .stage, pc := x.pc + 1 }

theorem Device.pisteWrite_of_popped {e : LiftEntry} {p n next : Nat} (hpopped : (d.stream g).popped = some e) (htag : e.tag = (d.stream g).tag)
    (hpiece : d.pieceCheck (g / 32768) ((d.stream g).areg_region.getD a 0) r.accessWidth p n = none) (haccess : d.accessCheck p n true = none)
    (hlen : (d.stream g).cursor + n ≤ e.h.len) (hclean : d.poisoned (e.h.addr + (d.stream g).cursor) n = false) :
    d.pisteWrite g r (d.stream g) a [(p, n)] next =
      (d.setStream g ((d.stream g).writing a next n (d.writesOf (g / 32768) e (d.stream g).cursor p n))).issue g := by
  have hwriting : (d.stream g).writing a next n (d.writesOf (g / 32768) e (d.stream g).cursor p n) = { d.stream g with
      popped := some e, cursor := (d.stream g).cursor + n, areg := setNth (d.stream g).areg a next, pc := (d.stream g).pc + 1
      issueQ := (d.stream g).issueQ ++ (d.writesOf (g / 32768) e (d.stream g).cursor p n).map .stage } := by
    rw [← hpopped]
    rfl
  unfold Device.pisteWrite
  simp only [hpopped, htag, List.findSome?_cons, List.findSome?_nil, hpiece, haccess, List.foldl_cons, List.foldl_nil, Nat.zero_add, hclean,
    Nat.not_lt.2 hlen, bne_self_eq_false, Bool.false_eq_true, if_false]
  rw [hwriting, Device.writesOf, List.map_map]
  rfl

theorem Device.pisteMove_write {x : Stream} {pieces : Nat → List (Nat × Nat)} {next : Nat → Nat} (hpro : r.prologue = false) (hw : r.write = true) :
    pisteMove a pieces next g r x d = d.pisteWrite g r x a (pieces (x.areg.getD a 0)) (next (x.areg.getD a 0) % 2 ^ 57) := by
  have hopen : d.prologueOpen (g / 32768) r x = true := by
    rw [Device.prologueOpen, hpro]
    rfl
  simp only [pisteMove, hopen, hw, Bool.not_true, Bool.false_eq_true, if_false, if_true]

/-- Memory holds as many bytes at a place as are asked for. -/
theorem Device.length_read (a n : Nat) : (d.read a n).length = n := length_memReadN _ _ _

/-- The writes of a piece touch its granules. -/
theorem Device.granules_of_mem_writesOf {e : LiftEntry} {cur p n b : Nat} {w : StagedWrite} (hw : w ∈ d.writesOf die e cur p n)
    (hb : b ∈ granules w.addr w.data.length) : b ∈ granules p n := by
  obtain ⟨q, hq, rfl⟩ := List.mem_map.1 hw
  obtain ⟨haddr, hle⟩ := mem_partsFrom (partsFrom_pageParts p n) hq
  simp only [Device.length_read] at hb
  have := mem_granules.1 hb
  exact mem_granules.2 (by omega)

/-- What a transfer of a popped handle's bytes comes to, where the port and the staging take it. -/
theorem Device.pisteWrite_post {e : LiftEntry} {p n next : Nat} (hrec : d.streamRec g = some r) (hcond : r.conditional = false) (hidle : d.portIdle g)
    (hpopped : (d.stream g).popped = some e) (htag : e.tag = (d.stream g).tag)
    (hpiece : d.pieceCheck (g / 32768) ((d.stream g).areg_region.getD a 0) r.accessWidth p n = none) (haccess : d.accessCheck p n true = none)
    (hparts : ∀ q ∈ pageParts p n, d.accessCheck q.1 q.2.1 true = none)
    (hlen : (d.stream g).cursor + n ≤ e.h.len) (hclean : d.poisoned (e.h.addr + (d.stream g).cursor) n = false)
    (hload : d.portLoad g + transfersOf p n ≤ 8) (hf : d.findTask (d.stream g).tag = some (k, t)) (hs : Map.rising d.str.tasks = true)
    (hroom : d.stagingUsed (g / 32768) + n / 64 + 2 ≤ d.stagingCapacity (g / 32768)) {f : Device} (he : f = d.pisteWrite g r (d.stream g) a [(p, n)] next) :
    f.str.tasks.get? k = some (t.staging (d.writesOf (g / 32768) e (d.stream g).cursor p n)) ∧
    f.stream g = ((d.stream g).writing a next n (d.writesOf (g / 32768) e (d.stream g).cursor p n)).issued (transfersOf p n) ∧
    f = { d with str := { d.str with streams := f.str.streams, tasks := f.str.tasks } } := by
  rw [Device.pisteWrite_of_popped hpopped htag hpiece haccess hlen hclean] at he
  have hlen : (d.writesOf (g / 32768) e (d.stream g).cursor p n).length = transfersOf p n := by rw [Device.writesOf, List.length_map, length_pageParts]
  have hcheck : ∀ w ∈ d.writesOf (g / 32768) e (d.stream g).cursor p n, d.accessCheck w.addr w.data.length true = none := fun w hw => by
    obtain ⟨q, hq, rfl⟩ := List.mem_map.1 hw
    simp only [Device.length_read]
    exact hparts q hq
  have hdie : ∀ w ∈ d.writesOf (g / 32768) e (d.stream g).cursor p n, w.die = g / 32768 := fun w hw => by
    obtain ⟨q, -, rfl⟩ := List.mem_map.1 hw
    rfl
  have hmore := granulesOn_staging t _ (g / 32768) fun w hw b hb => Device.granules_of_mem_writesOf (d := d) (die := g / 32768) (e := e)
    (cur := (d.stream g).cursor) (p := p) (n := n) hw hb
  have hgran := length_granules p n
  generalize d.writesOf (g / 32768) e (d.stream g).cursor p n = ws at he hlen hcheck hdie hmore ⊢
  have hself : (d.setStream g ((d.stream g).writing a next n ws)).stream g = (d.stream g).writing a next n ws := Device.stream_setStream_self ..
  have hother (h : Nat) (hne : h ≠ g) : (d.setStream g ((d.stream g).writing a next n ws)).stream h = d.stream h := Device.stream_setStream_of_ne _ _ hne
  have hsame : (d.setStream g ((d.stream g).writing a next n ws)).portLoad g = d.portLoad g := Device.portLoad_setStream (x := (d.stream g).writing a next n ws) rfl
  obtain ⟨htasks, hg, hframe⟩ := Device.issuePort_of_stages (d := d.setStream g ((d.stream g).writing a next n ws)) (g := g) (ws := ws) (k := k) (t := t)
    (die := g / 32768) (fun q hq => by cases hrec.symm.trans hq; exact hcond) (fun h hh hne => (congrArg _ (hother h hne)).trans (hidle h hh))
    (by rw [hself, Stream.writing, hidle g (mem_portOf_self g)]; rfl) (by omega) (by omega) hcheck hdie (by rw [hself]; exact hf) hs
    (by show d.stagingUsed _ + _ ≤ d.stagingCapacity _; omega) he
  rw [hself, hlen] at hg
  exact ⟨htasks, hg, hframe⟩

end Sys2Proof.Machine
end

section
/-!
SUPPORT. Streams that issue, retire and end (R129, R132, R140), and the statement about the transfers of Piste streams.
-/

namespace Sys2Proof.Machine

variable {d d' : Device} {g a : Nat} {r : StreamRec} {b : Buffer} {x : Stream} {pieces : List (Nat × Nat)}

/-- A stream that may execute runs once it has issued a transfer. -/
theorem Stream.issued_state {y : Stream} {k : Nat} (hact : x.active = true) (hy : y.state = x.state) (hk : 0 < k) : (y.issued k).state = .running := by
  unfold Stream.active at hact
  simp only [Bool.and_eq_true, Bool.or_eq_true, decide_eq_true_eq] at hact
  obtain ⟨⟨⟨⟨⟨hs, -⟩, -⟩, -⟩, -⟩, -⟩ := hact
  rw [← hy] at hs
  rcases hs with hs | hs
  · simp [Stream.issued, hs, Nat.ne_of_gt hk]
  · simp [Stream.issued, hs]

theorem transfersOf_pos {a n : Nat} (hn : 0 < n) : 0 < transfersOf a n := by
  unfold transfersOf
  rw [if_neg (Nat.ne_of_gt hn)]
  exact Nat.succ_pos _

/-- The transfers of a stream that has none waiting are all issued where the port takes them. -/
theorem Stream.issueQ_issued_reading {next k : Nat} (hq : x.issueQ = []) (hk : (fetchQueue b.addr b.cursor pieces).length ≤ k) :
    ((x.reading b a next pieces).issued k).issueQ = [] := by
  show (x.issueQ ++ (fetchQueue b.addr b.cursor pieces).map Copy.xfer).drop k = []
  rw [hq, List.nil_append, List.drop_eq_nil_iff, List.length_map]
  exact hk

/-- The queue of one piece. -/
theorem map_fetchQueue_one (base cur a n : Nat) : (fetchQueue base cur [(a, n)]).map Copy.xfer =
    (pageParts a n).map (fun p => .fetch p.1 p.2.1 (base + cur + p.2.2)) := by
  rw [fetchQueue, fetchQueue, List.append_nil, List.map_map]
  rfl

theorem totalOf_one (a n : Nat) : totalOf [(a, n)] = n := Nat.zero_add n

theorem totalOf_uniform {w : Nat} (h : ∀ p ∈ pieces, p.2 = w) : totalOf pieces = pieces.length * w := by
  induction pieces with
  | nil => exact (Nat.zero_mul w).symm
  | cons p ps ih =>
    rw [totalOf_cons, ih fun q hq => h q (List.mem_cons_of_mem _ hq), h p (List.mem_cons_self ..), List.length_cons, Nat.succ_mul, Nat.add_comm]

theorem length_fetchQueue_pos {base cur : Nat} (hcount : 0 < pieces.length) (hbytes : ∀ p ∈ pieces, 0 < p.2) : 0 < (fetchQueue base cur pieces).length := by
  cases pieces with
  | nil => cases hcount
  | cons p ps =>
    rw [fetchQueue, List.length_append, List.length_map, length_pageParts]
    exact Nat.lt_of_lt_of_le (transfersOf_pos (hbytes p (List.mem_cons_self ..))) (Nat.le_add_right _ _)

theorem ofSigned_lt (w : Nat) (z : Int) : ofSigned w z < 2 ^ w := by
  have hlt := Int.emod_lt_of_pos z (show (0 : Int) < 2 ^ w by positivity)
  rw [← ofSigned_cast] at hlt
  exact_mod_cast hlt

/-! ### Transfers that retire (R140) -/

/-- A stream whose oldest transfer has retired. -/
def Stream.retiredOne (x : Stream) : Stream := { x with outstanding := x.outstanding - 1 }

/-- Without reads on their way from outside a stream's oldest transfer retires, and its port issues what may follow. -/
theorem Device.retireOne_of_local (hext : d.str.extReads = []) (hout : 1 ≤ (d.stream g).outstanding) :
    d.retireOne g = (d.setStream g (d.stream g).retiredOne).issuePort g 12 := by
  have hsome : ¬ (d.stream g).outstanding ≤ (d.str.extReads.filter (fun q => q.stream = g)).length := by
    rw [hext]
    exact Nat.not_le.2 hout
  unfold Device.retireOne
  simp only [if_neg hsome]
  rfl

theorem Device.portIdle_setStream {y : Stream} (h : d.portIdle g) (hy : y.issueQ = []) : (d.setStream g y).portIdle g := by
  intro j hj
  by_cases hg : j = g
  · rw [hg, Device.stream_setStream_self, hy]
  · rw [Device.stream_setStream_of_ne _ _ hg, h j hj]

/-- With no transfer waiting on the port that is all. -/
theorem Device.retireOne_of_idle (hext : d.str.extReads = []) (hout : 1 ≤ (d.stream g).outstanding) (hidle : d.portIdle g) :
    d.retireOne g = d.setStream g (d.stream g).retiredOne := by
  have hstill : (d.setStream g (d.stream g).retiredOne).portIdle g := Device.portIdle_setStream hidle (hidle g (mem_portOf_self g))
  rw [Device.retireOne_of_local hext hout, Device.issuePort_of_idle hstill]

/-- On a full port the next read takes the place of the transfer that retires. -/
theorem Device.retireOne_of_waiting {f : Copy} {rest : List Xfer} (hext : d.str.extReads = []) (hout : 1 ≤ (d.stream g).outstanding)
    (hrec : ∀ r, d.streamRec g = some r → r.conditional = false) (hload : d.portLoad g = 8)
    (hothers : ∀ h ∈ portOf g, h ≠ g → (d.stream h).issueQ = []) (hq : (d.stream g).issueQ = Copy.xfer f :: rest) (hf : d.Fetchable f)
    (hrun : (d.stream g).state = .running) : ∃ e : Device, d.retireOne g = e.write f.2.2 (d.read f.1 f.2.1) ∧
      e = { d with str := { d.str with streams := e.str.streams } } ∧ e.stream g = { d.stream g with issueQ := rest } := by
  obtain ⟨c, hc⟩ : ∃ c, c = d.setStream g (d.stream g).retiredOne := ⟨_, rfl⟩
  have hself : c.stream g = (d.stream g).retiredOne := by rw [hc]; exact Device.stream_setStream_self ..
  have hother (h : Nat) (hne : h ≠ g) : c.stream h = d.stream h := by rw [hc]; exact Device.stream_setStream_of_ne _ _ hne
  have hframe : c = { d with str := { d.str with streams := c.str.streams } } := by rw [hc]; rfl
  have hload7 : c.portLoad g = 7 := by
    have := Device.portLoad_of_stream hother
    rw [hself, show (d.stream g).retiredOne.outstanding = (d.stream g).outstanding - 1 from rfl] at this
    omega
  have hqueue : (c.stream g).issueQ = Copy.xfer f :: rest := hself ▸ hq
  have hone : c.issueOne g = _ := Device.issueOne_of_fetch hqueue (by rw [hframe]; exact hf)
  have hstream : (c.issueOne g).stream g = { d.stream g with issueQ := rest } := by
    rw [hone]
    refine (Device.stream_setStream_self ..).trans ?_
    rw [hself]
    simp [Stream.issued, Stream.retiredOne, hrun, hq, Nat.sub_add_cancel hout]
  have hload8 : (c.issueOne g).portLoad g = 8 := by
    have hsame (j : Nat) (hj : j ≠ g) : (c.issueOne g).stream j = d.stream j := by
      rw [hone]
      exact (Device.stream_setStream_of_ne _ _ hj).trans (hother j hj)
    have hmove := Device.portLoad_of_stream hsame
    have hstays : ((c.issueOne g).stream g).outstanding = (d.stream g).outstanding := by rw [hstream]
    omega
  rw [Device.retireOne_of_local hext hout, ← hc, Device.issuePort_succ (by omega) (fun r hr => hrec r (by rw [hframe] at hr; exact hr))
    (fun h hh hne => (congrArg _ (hother h hne)).trans (hothers h hh hne)) (by rw [hqueue]; exact List.cons_ne_nil _ _),
    Device.issuePort_of_full (Nat.le_of_eq hload8.symm)]
  rw [hone] at hstream ⊢
  refine ⟨c.setStream g ((c.stream g).issued 1), ?_, ?_, hstream⟩
  · rw [hframe]
    rfl
  · rw [hframe]
    rfl

/-- The end of a stream changes it, the cells that wait on it, and its task. -/
theorem Device.finishStream_post {e : Device} (he : e = d.finishStream g) : e.stream g = { d.stream g with state := .done } ∧ e.mem = d.mem ∧
    e.str.lifts = d.str.lifts ∧ e.str.flight = d.str.flight ∧ e.regs = d.regs := by
  have hframe := Device.tryEnd_frame (d := (d.setStream g { d.stream g with state := .done }).wakeSwait g) (d.stream g).tag
  rw [he, Device.finishStream, hframe]
  exact ⟨Device.stream_setStream_self .., rfl, rfl, rfl, rfl⟩

/-! ### EMIT and END (R132) -/

theorem Device.closeBuffer_of_none (hw : r.write = false) (hopen : x.openBuf = none) : d.closeBuffer g r x false = d.setStream g { x with pc := x.pc + 1 } := by
  simp [Device.closeBuffer, hw, hopen]

/-- The handle that pushes the open buffer of a stream. -/
def Device.openHandle (d : Device) (g : Nat) (b : Buffer) (last : Bool) : Handle :=
  { addr := b.addr, len := b.cursor, last := last, late := d.streamLate g, pool := b.pool }

/-- A stream whose open buffer has been pushed. -/
def Stream.emitted (x : Stream) : Stream := { x with openBuf := none, pc := x.pc + 1, bufIndex := x.bufIndex + 1 }

/-- Where the Lift has room the handle of the open buffer sets out for it. -/
theorem Device.closeBuffer_of_open {last : Bool} (hw : r.write = false) (hcond : r.conditional = false) (hopen : x.openBuf = some b)
    (hroom : d.liftLoad (d.outLift (g / 32768) r.sid r.lift) < 256) (hwait : d.str.pushWait = []) :
    d.closeBuffer g r x last = (d.setStream g x.emitted).push (d.outLift (g / 32768) r.sid r.lift)
      { h := d.openHandle g b last, tag := x.tag, src := .stream g, arm := x.arms } := by
  obtain ⟨-, hframe⟩ := Device.push_of_room (d := d.setStream g x.emitted) (lk := d.outLift (g / 32768) r.sid r.lift)
    (e := { h := d.openHandle g b last, tag := x.tag, src := .stream g, arm := x.arms }) hroom hwait
  have hnowait : ((d.setStream g x.emitted).push (d.outLift (g / 32768) r.sid r.lift)
      { h := d.openHandle g b last, tag := x.tag, src := .stream g, arm := x.arms }).str.pushWait.any (fun w => w.2.src = .stream g) = false := by
    rw [hframe]
    show d.str.pushWait.any _ = false
    rw [hwait]
    rfl
  unfold Device.closeBuffer
  simp only [hw, hopen, hcond, Bool.false_and, Bool.false_eq_true, if_false]
  exact if_neg (Bool.eq_false_iff.1 hnowait)

/-- Settles O24: a transfer instruction comes to the copies or the staged writes that its port issues, in the order of its pieces; EMIT to one push, END
and the retirement of a transfer to one stored stream. -/
theorem pisteTransfers : Obligations.PisteTransfers := by
  refine ⟨fun s r a postinc bytes b x hx57 => ?read, fun s r a postinc bytes b x => ?waits, fun s r a postinc piece count stride b x hx57 => ?strided,
    fun s r a postinc bytes e x k t => ?write, fun s r last b => ?emit, fun s r => ?ends, fun s r => ?retire, fun s => ?retireBare,
    fun s r a n dst rest => ?retireNext, fun s r => ?retireLast⟩
  case read =>
    refine .of_piste (fun st => show execXfer s a postinc bytes st = _ from rfl) (fun _ h => ⟨h.1, h.2.1⟩) fun d h => ?_
    obtain ⟨_, hready, hwf, hw, hcond, hpro, hopen, hx, hpiece, haccess, hlocal, hroom, haddr, hapart, hidle, hload⟩ := h
    rw [Device.pisteMove_read hpro hw, hx]
    have htotal := totalOf_one x bytes.toNat
    obtain ⟨hmem, hg, hframe⟩ := Device.pisteRead_post (a := a.val) (next := (if postinc then x + bytes.toNat else x) % 2 ^ 57)
      (pieces := [(x, bytes.toNat)]) hready.1 hcond hidle hopen (fun p hp => by
        cases List.mem_singleton.1 hp
        rw [gsid_div]
        exact ⟨hpiece, haccess⟩) (fun p hp => by cases List.mem_singleton.1 hp; exact hlocal) (by rw [htotal]; exact hroom) haddr rfl
    generalize Device.pisteRead d _ r _ a.val _ _ = e at hmem hg hframe ⊢
    have hlen : (fetchQueue b.addr b.cursor [(x, bytes.toNat)]).length = transfersOf x bytes.toNat := by
      rw [length_fetchQueue]
      exact Nat.zero_add _
    have hfits : transfersOf x bytes.toNat ≤ 8 - d.portLoad (gsid s.die.val s.sid.val) := by omega
    rw [hlen, Nat.min_eq_left hfits] at hg
    rw [List.take_of_length_le (hlen ▸ hfits)] at hmem
    refine ⟨fun i hi => ?_, fun y hy => ?_, ?_, fun h0 => ?_, ?_, ?_, ?_, ?_, hframe⟩
    · have hin := memRead_copyMem_queue (base := b.addr) (cur := b.cursor) (pieces := [(x, bytes.toNat)]) (i := 0) hwf (fun p hp => by
        cases List.mem_singleton.1 hp
        rw [htotal]
        exact hapart.symm) rfl hi
      rw [← hmem] at hin
      exact hin
    · have hout := memRead_copyMem_outside (landsFrom_fetchQueue b.addr b.cursor [(x, bytes.toNat)]) hwf (y := y) (by rw [htotal]; exact hy)
        (fetchQueue b.addr b.cursor [(x, bytes.toNat)]).length
      rw [List.take_length, ← hmem] at hout
      exact hout
    · rw [hg]
      show some { b with cursor := b.cursor + totalOf [(x, bytes.toNat)] } = _
      rw [htotal]
    · rw [hg]
      exact Stream.issued_state hready.2.2.1 rfl (transfersOf_pos h0)
    · rw [hg]
      exact Stream.issueQ_issued_reading (hidle _ (mem_portOf_self _)) (Nat.le_of_eq hlen)
    · rw [hg]
      rfl
    · rw [hg]
      rfl
    · rw [hg]
      rfl
  case waits =>
    refine .of_piste (fun st => show execXfer s a postinc bytes st = _ from rfl) (fun _ h => ⟨h.1, h.2.1⟩) fun d h => ?_
    obtain ⟨_, _, hw, hcond, hpro, hopen, hx, hpiece, haccess, hroom, hfull⟩ := h
    rw [Device.pisteMove_read hpro hw, hx, Device.pisteRead_of_open hcond hopen (pieces := [(x, bytes.toNat)]) (fun p hp => by
        cases List.mem_singleton.1 hp
        rw [gsid_div]
        exact ⟨hpiece, haccess⟩) (by rw [totalOf_one]; exact hroom), Device.issue,
      Device.issuePort_of_full (hfull.trans (Nat.le_of_eq (d.portLoad_reading ..).symm)), Stream.reading, map_fetchQueue_one, totalOf_one]
    exact d.setStream_streamOnly s _
  case strided =>
    refine .of_piste (fun st => show execXstr s a postinc piece count stride st = _ from rfl) (fun _ h => ⟨h.1, h.2.1⟩) fun d h => ?_
    obtain ⟨_, hready, hwf, hw, hcond, hpro, hopen, hx, hpieces, hroom, haddr, hidle⟩ := h
    rw [Device.pisteMove_read hpro hw, hx]
    generalize hl : (List.range count.toNat).map (fun (i : Nat) => (ofSigned 57 ((x : Int) + (i : Int) * stride.toInt), piece.toNat)) = l
    have hlen : l.length = count.toNat := by rw [← hl, List.length_map, List.length_range]
    have hget (i : Nat) (hi : i < count.toNat) : l[i]? = some (ofSigned 57 ((x : Int) + (i : Int) * stride.toInt), piece.toNat) := by
      rw [← hl, List.getElem?_map, List.getElem?_range hi]
      rfl
    have hmem_l (p : Nat × Nat) (hp : p ∈ l) : ∃ i < count.toNat, p = (ofSigned 57 ((x : Int) + (i : Int) * stride.toInt), piece.toNat) := by
      rw [← hl] at hp
      obtain ⟨i, hi, rfl⟩ := List.mem_map.1 hp
      exact ⟨i, List.mem_range.1 hi, rfl⟩
    have hbytes (p : Nat × Nat) (hp : p ∈ l) : p.2 = piece.toNat := by
      obtain ⟨i, -, rfl⟩ := hmem_l p hp
      rfl
    have htotal : totalOf l = count.toNat * piece.toNat := by rw [totalOf_uniform hbytes, hlen]
    have hqlen : (fetchQueue b.addr b.cursor l).length = (List.range count.toNat).foldl (fun n (i : Nat) =>
        n + transfersOf (ofSigned 57 ((x : Int) + (i : Int) * stride.toInt)) piece.toNat) 0 := by
      rw [length_fetchQueue, ← hl, List.foldl_map]
    obtain ⟨hmem, hg, hframe⟩ := Device.pisteRead_post (a := a.val)
      (next := (if postinc then ofSigned 57 ((x : Int) + (count.toNat : Int) * stride.toInt) else x) % 2 ^ 57) (pieces := l) hready.1 hcond hidle hopen
      (fun p hp => by
        obtain ⟨i, hi, rfl⟩ := hmem_l p hp
        rw [gsid_div]
        exact ⟨(hpieces i hi).1, (hpieces i hi).2.1⟩)
      (fun p hp => by
        obtain ⟨i, hi, rfl⟩ := hmem_l p hp
        exact (hpieces i hi).2.2) (by rw [htotal]; exact hroom) haddr rfl
    generalize Device.pisteRead d _ r _ a.val _ _ = e at hmem hg hframe ⊢
    have hlands := landsFrom_fetchQueue b.addr b.cursor l
    rw [htotal] at hlands
    have hnext : (if postinc = true then ofSigned 57 ((x : Int) + (count.toNat : Int) * stride.toInt) else x) < 2 ^ 57 := by
      split
      · exact ofSigned_lt _ _
      · exact hx57
    refine ⟨fun hfits hapart i j hi hj => ?_, fun y hy => ?_, ?_, ?_, ?_, fun hload h0 => ?_, ?_, hframe⟩
    · rw [← hqlen] at hfits
      rw [List.take_of_length_le (by omega)] at hmem
      have hin := memRead_copyMem_queue (base := b.addr) (cur := b.cursor) hwf (fun p hp => by
        obtain ⟨n, hn, rfl⟩ := hmem_l p hp
        rw [htotal]
        exact hapart n hn) (hget i hi) hj
      rw [← hmem, totalOf_uniform fun p hp => hbytes p (List.mem_of_mem_take hp), List.length_take, hlen, Nat.min_eq_left (Nat.le_of_lt hi)] at hin
      exact hin
    · rw [hmem]
      exact memRead_copyMem_outside hlands hwf hy _
    · rw [hg]
      show some { b with cursor := b.cursor + totalOf l } = _
      rw [htotal]
    · rw [hg]
      rfl
    · rw [hg, ← hqlen]
      show (d.stream _).outstanding + _ + List.length (List.drop _ ((d.stream _).issueQ ++ _)) = _
      rw [hidle _ (mem_portOf_self _), List.nil_append, List.length_drop, List.length_map]
      omega
    · rw [hg]
      have hcount : 0 < count.toNat ∧ 0 < piece.toNat := ⟨Nat.pos_of_lt_mul_right h0, Nat.pos_of_lt_mul_left h0⟩
      exact Stream.issued_state hready.2.2.1 rfl (Nat.lt_min.2 ⟨length_fetchQueue_pos (hlen ▸ hcount.1) fun p hp => (hbytes p hp).symm ▸ hcount.2, by omega⟩)
    · rw [hg]
      show setNth _ _ (_ % 2 ^ 57) = _
      rw [Nat.mod_eq_of_lt hnext]
  case retire =>
    refine .of_upd_eq (fun st => show execTransferRetire s st = st.upd _ from rfl) (fun _ h => h.1)
      (g := fun d => d.setStream (gsid s.die.val s.sid.val) (d.stream (gsid s.die.val s.sid.val)).retiredOne) (fun d h => ?_)
      fun d _ => d.setStream_streamOnly s _
    obtain ⟨_, hrec, hrun, hlift, hcont, hext, hidle, hout⟩ := h
    have hbusy : (d.setStream (gsid s.die.val s.sid.val) (d.stream (gsid s.die.val s.sid.val)).retiredOne).quiet (gsid s.die.val s.sid.val) = false := by
      rw [Device.quiet, Device.stream_setStream_self, Bool.and_eq_false_iff]
      exact .inl (decide_eq_false (show (d.stream (gsid s.die.val s.sid.val)).outstanding - 1 ≠ 0 by omega))
    have hsome : (d.stream (gsid s.die.val s.sid.val)).outstanding ≠ 0 := by omega
    simp [hrec, hrun, hlift, hcont, hsome, Device.retireOne_of_idle hext (by omega) hidle, hbusy]
  case retireBare =>
    refine .of_upd (fun st => show execTransferRetire s st = st.upd _ from rfl) (fun _ h => h.1) fun d ⟨_, hrec, hcont, hext, hidle, hout⟩ => ?_
    simp only [hrec, hcont, Device.retireOne_of_idle hext hout hidle, Bool.false_eq_true, if_false]
    exact d.setStream_streamOnly s _
  case retireNext =>
    refine .of_upd_eq (fun st => show execTransferRetire s st = st.upd _ from rfl) (fun _ h => h.1)
      (g := fun d => d.retireOne (gsid s.die.val s.sid.val)) (fun d h => ?_) (fun d h => ?_)
    · obtain ⟨_, hrec, hcond, hrun, hlift, hcont, hext, _, hload, hout, hothers, hq, haccess, hlocal, hdst⟩ := h
      obtain ⟨e, hone, -, hstream⟩ := Device.retireOne_of_waiting (f := (a, n, dst)) hext hout
        (fun q hq => by cases hrec.symm.trans hq; exact hcond) hload hothers hq ⟨haccess, hlocal, hdst⟩ hrun
      have hsome : (d.stream (gsid s.die.val s.sid.val)).outstanding ≠ 0 := by omega
      have hbusy : (d.retireOne (gsid s.die.val s.sid.val)).quiet (gsid s.die.val s.sid.val) = false := by
        have hkept : ((d.retireOne (gsid s.die.val s.sid.val)).stream (gsid s.die.val s.sid.val)).outstanding =
            (d.stream (gsid s.die.val s.sid.val)).outstanding := by
          rw [hone]
          show (e.stream _).outstanding = _
          rw [hstream]
        rw [Device.quiet, hkept, decide_eq_false hsome, Bool.false_and]
      simp [hrec, hrun, hlift, hcont, hsome, hbusy]
    · obtain ⟨_, hrec, hcond, hrun, hlift, hcont, hext, hwf, hload, hout, hothers, hq, haccess, hlocal, hdst⟩ := h
      obtain ⟨e, hone, hframe, hstream⟩ := Device.retireOne_of_waiting (f := (a, n, dst)) hext hout
        (fun q hq => by cases hrec.symm.trans hq; exact hcond) hload hothers hq ⟨haccess, hlocal, hdst⟩ hrun
      have hmem : (e.write dst (d.read a n)).mem = memWriteN d.mem dst (memReadN d.mem a n) := by rw [hframe]; rfl
      rw [hone]
      refine ⟨⟨fun i hi => ?_, fun y hy => ?_⟩, hstream, ?_⟩
      · rw [hmem, memRead_memWriteN _ _ _ hwf, Nat.add_sub_cancel_left]
        exact if_pos ⟨Nat.le_add_right _ _, Nat.add_lt_add_left hi _⟩
      · rw [hmem, memRead_memWriteN _ _ _ hwf]
        exact if_neg (fun h => by
          have hlen : (d.read a n).length = (memReadN d.mem a n).length := rfl
          omega)
      · rw [hframe]
        rfl
  case retireLast =>
    refine .of_upd_eq (fun st => show execTransferRetire s st = st.upd _ from rfl) (fun _ h => h.1)
      (g := fun d => (d.setStream (gsid s.die.val s.sid.val) (d.stream (gsid s.die.val s.sid.val)).retiredOne).finishStream (gsid s.die.val s.sid.val))
      (fun d h => ?_) (fun d h => ?_)
    · obtain ⟨_, hrec, hrun, hlift, hcont, hext, haff, hidle, hout, hended, hopen⟩ := h
      have hnone : (d.stream (gsid s.die.val s.sid.val)).retiredOne.outstanding = 0 := Nat.sub_eq_zero_of_le (Nat.le_of_eq hout)
      have hempty : (d.stream (gsid s.die.val s.sid.val)).retiredOne.issueQ = [] := hidle _ (mem_portOf_self _)
      have hend : (d.stream (gsid s.die.val s.sid.val)).retiredOne.ended = true := hended
      simp [hrec, hrun, hlift, hcont, hout, Device.retireOne_of_idle hext (Nat.le_of_eq hout.symm) hidle, Device.quiet, hnone, hempty,
        Device.retired, haff, hend]
    · obtain ⟨_, _, _, _, _, _, _, _, hout, _, _⟩ := h
      obtain ⟨hstream, hmem, -⟩ := Device.finishStream_post (d := d.setStream (gsid s.die.val s.sid.val) (d.stream (gsid s.die.val s.sid.val)).retiredOne)
        (g := gsid s.die.val s.sid.val) rfl
      rw [Device.stream_setStream_self] at hstream
      refine ⟨by rw [hstream], ?_, hmem⟩
      rw [hstream]
      exact Nat.sub_eq_zero_of_le (Nat.le_of_eq hout)
  case ends =>
    refine .of_piste (fun st => show execEndStream s st = _ from rfl) (fun _ h => ⟨h.1, h.2.1⟩) fun d ⟨_, _, hw, hext, hopen, hout⟩ => ?_
    simp only [hext, Device.closeBuffer_of_none hw hopen, Device.stream_setStream_self, hout, Bool.false_eq_true, if_false, if_true]
    generalize hf : Device.finishStream _ _ = e
    obtain ⟨hstream, hmem, hlifts, hflight, hregs⟩ := Device.finishStream_post hf.symm
    rw [Device.stream_setStream_self] at hstream
    refine ⟨by rw [hstream], by rw [hstream], hmem, hlifts, hflight, hregs⟩
  case emit =>
    refine .of_piste (fun st => show execEmit s last st = _ from rfl) (fun _ h => ⟨h.1, h.2.1⟩) fun d ⟨_, hready, hw, hcond, hext, hopen, hroom, hwait⟩ => ?_
    rw [if_neg (Bool.eq_false_iff.1 hext), Device.closeBuffer_of_open hw hcond hopen (by rw [gsid_div]; exact hroom) hwait, gsid_div]
    obtain ⟨hflight, hframe⟩ := Device.push_of_room (d := d.setStream (gsid s.die.val s.sid.val) (d.stream (gsid s.die.val s.sid.val)).emitted)
      (lk := d.outLift s.die.val r.sid r.lift)
      (e := { h := d.openHandle (gsid s.die.val s.sid.val) b last, tag := (d.stream (gsid s.die.val s.sid.val)).tag
              src := .stream (gsid s.die.val s.sid.val), arm := (d.stream (gsid s.die.val s.sid.val)).arms }) hroom hwait
    generalize Device.push _ _ _ = e at hflight hframe ⊢
    have hstream : e.stream (gsid s.die.val s.sid.val) = (d.stream (gsid s.die.val s.sid.val)).emitted := by
      rw [hframe]
      exact Device.stream_setStream_self ..
    refine ⟨⟨d.openHandle (gsid s.die.val s.sid.val) b last, rfl, rfl, rfl, rfl, hflight⟩, by rw [hstream]; rfl,
      by rw [hstream]; rfl, by rw [hstream]; rfl, ?_⟩
    rw [hframe]
    rfl
  case write =>
    refine .of_piste (fun st => show execXfer s a postinc bytes st = _ from rfl) (fun _ h => ⟨h.1, h.2.1⟩) fun d h => ?_
    obtain ⟨_, hready, hw, hpro, hpopped, htag, hx, hpiece, haccess, hparts, hcond, hidle, hload, hs, hlen, hclean, hf, hroom⟩ := h
    rw [Device.pisteMove_write hpro hw, hx]
    obtain ⟨htasks, hg, hframe⟩ := Device.pisteWrite_post (a := a.val) (next := (if postinc then x + bytes.toNat else x) % 2 ^ 57) (p := x)
      (n := bytes.toNat) hready.1 hcond hidle hpopped htag (by rw [gsid_div]; exact hpiece) haccess hparts hlen hclean hload (htag ▸ hf) hs
      (by rw [gsid_div]; exact hroom) rfl
    generalize Device.pisteWrite d _ r _ a.val _ _ = f at htasks hg hframe ⊢
    rw [gsid_div] at htasks
    refine ⟨htasks, by rw [hg]; rfl, fun h0 => ?_, by rw [hg]; rfl, hframe⟩
    rw [hg]
    exact Stream.issued_state hready.2.2.1 rfl (transfersOf_pos h0)


end Sys2Proof.Machine
end

section
/-!
SUPPORT. Single steps under the Test Access Port (R570, R595): a halted cell whose package the governor gates, and the statement about the
integer instructions, which leaves the gate open in the clause on single steps.
-/

namespace Sys2Proof.Machine

/-- The device after reset with cell 0 halted, a step asked of it over the TAP, and the package gated by the governor. -/
def Device.gatedStep : Device :=
  { State.reset.dev with
    cells := [(0, { Cell.gatedCell with state := .halted })]
    mgmt := { State.reset.dev.mgmt with gated := true, tap := { State.reset.dev.mgmt.tap with steps := [0] } } }

/-- While the governor gates the package no instruction of a cell has an effect (R570). -/
theorem Device.onCell_of_gated {d : Device} (c : CellId) (f : Nat → Cell → Device → Device) (h : d.mgmt.gated = true) : d.onCell c f = d := by
  simp [Device.onCell, h]

/-- Refutes O27: its clause on a single step does not ask that the governor leaves the package ungated, and in `gatedStep` the PC stays. -/
theorem not_integerInstructions : ¬ Obligations.IntegerInstructions := by
  rintro ⟨-, -, -, -, -, -, hstep⟩
  obtain ⟨t, hexec, -, -, hpc, -⟩ := hstep ⟨0, 0, 0, 0⟩ 1 0 1 { dev := Device.gatedStep, pending := [] } ⟨rfl, rfl, rfl, rfl, by decide⟩
  have hgate : execAddi ⟨0, 0, 0, 0⟩ 1 0 1 { dev := Device.gatedStep, pending := [] } = .next { dev := Device.gatedStep, pending := [] } :=
    congrArg (fun d => Host.Outcome.next (⟨d, []⟩ : State)) ((if_neg (by decide)).trans (Device.onCell_of_gated _ _ rfl))
  obtain rfl : { dev := Device.gatedStep, pending := [] } = t := Host.Outcome.next.inj (hgate.symm.trans hexec)
  exact absurd hpc (by decide)

end Sys2Proof.Machine
end

section
/-!
SUPPORT. Hash instructions, the generator and the special registers (R184, R191, R286, R294, R296): an instruction that writes one register,
register pairs, the halves of 64-bit values, and the statement about them.
-/

namespace Sys2Proof.Machine

variable {c : CellId} {rd : Reg} {x : Cell} {i : Instr} {pre : Device → Prop} {v : Device → Word}

/-- An instruction of a cell whose meaning comes to a simpler change in the case at hand. -/
theorem Completes.of_onCell_eq {post : Device → Device → Prop} {f : Device → Nat → Cell → Device → Device}
    {e : Device → Device} (hi : ∀ s, exec i s = s.upd (fun d => d.onCell c (f d))) (hr : ∀ d, pre d → d.runs ∧ d.cellReady c)
    (he : ∀ d, pre d → f d c.gid (d.cell c.gid) d = e d) (hp : ∀ d, pre d → post d (e d)) : Completes i pre post :=
  .of_onCell hi hr fun d h => (he d h).symm ▸ hp d h

/-- An instruction whose meaning comes to the write of one register (R169). -/
theorem Completes.of_write {f : Device → Nat → Cell → Device → Device} (hi : ∀ s, exec i s = s.upd (fun d => d.onCell c (f d)))
    (hr : ∀ d, pre d → d.runs ∧ d.cellReady c)
    (hf : ∀ d, pre d → f d c.gid (d.cell c.gid) d = d.setCell c.gid ((d.cell c.gid).setW rd.val (v d)).advance) :
    Completes i pre (fun d d' => d.wrote d' c rd (v d)) :=
  .of_onCell_eq hi hr hf fun d h => d.setCell_wrote rd _ (hr d h).2

/-- An instruction that writes one register from its cell's own (R169). -/
theorem Completes.of_alu {f : Cell → Word} (hi : ∀ s, exec i s = s.upd (fun d => d.alu c rd f)) (hv : ∀ d, f (d.cell c.gid) = v d) :
    Completes i (fun d => d.runs ∧ d.cellReady c) (fun d d' => d.wrote d' c rd (v d)) :=
  .of_write hi (fun _ h => h) fun d _ => hv d ▸ rfl

/-! ### Register pairs (R169) -/

theorem length_setNth {β : Type} (l : List β) (n : Nat) (y : β) : (setNth l n y).length = l.length := by
  induction l generalizing n with
  | nil => rfl
  | cons _ l ih => cases n with
    | zero => rfl
    | succ n => exact congrArg (· + 1) (ih n)

theorem Cell.regs_length_setW (x : Cell) (r : Nat) (y : Word) : (x.setW r y).regs.length = x.regs.length := by
  unfold Cell.setW
  split
  · rfl
  · exact length_setNth ..

/-- What the registers of a cell hold after a write of a pair. -/
theorem Cell.setPair_w (k : Pair) (lo hi : Word) (h : x.regs.length = 32) {r : Nat} (hr : r < 32) :
    (((x.setW (2 * k.val) lo).setW (2 * k.val + 1) hi).advance).w r =
      if r = 2 * k.val + 1 then hi else if r = 2 * k.val ∧ r ≠ 0 then lo else x.w r := by
  have hlo := Cell.setW_wroteReg (x := x) ⟨2 * k.val, by omega⟩ lo h r hr
  have hhi := Cell.setW_wroteReg (x := x.setW (2 * k.val) lo) ⟨2 * k.val + 1, by omega⟩ hi ((x.regs_length_setW _ _).trans h) r hr
  refine hhi.trans ?_
  by_cases h1 : r = 2 * k.val + 1
  · rw [if_pos ⟨h1, by omega⟩, if_pos h1]
  · rw [if_neg (fun h => h1 h.1), if_neg h1]
    exact hlo

/-! ### Bytes and halves (R7, R169) -/

theorem leBytes_four (y : Word) :
    leBytes 4 y.toNat = [y.setWidth 8, (y >>> 8).setWidth 8, (y >>> 16).setWidth 8, (y >>> 24).setWidth 8] := by
  simp only [leBytes, List.cons.injEq, and_true]
  refine ⟨?_, ?_, ?_, ?_⟩ <;>
    simp only [BitVec.toNat_eq, BitVec.toNat_ofNat, BitVec.toNat_setWidth, BitVec.toNat_ushiftRight, Nat.shiftRight_eq_div_pow, Nat.div_div_eq_div_mul,
      Nat.reduceMul, Nat.reducePow]

theorem toNat_append_word (a b : Word) : (a ++ b : DWord).toNat = a.toNat * 2 ^ 32 + b.toNat := by
  rw [BitVec.toNat_append, Nat.shiftLeft_eq, Nat.mul_comm, Nat.two_pow_add_eq_or_of_lt b.isLt]

/-- The STATE that TASK_STATUS and the special register of the task show (R167, R191). -/
theorem Task.shownState_eq (t : Task) :
    t.shownState = if t.prepared then 2 else match t.state with | .open => 1 | .ended => 2 | .committed => 3 | .aborted => 4 := by
  unfold Task.shownState
  cases t.state <;> rfl

/-- Settles O31: each instruction writes one register or one pair, or a field of its cell, from what the cell and the device hold. -/
theorem hashAndSpecialRegisters : Obligations.HashAndSpecialRegisters := by
  refine ⟨fun c rd rs1 rs2 => ?hmix, fun c rd rs1 rs2 => ?crcw, fun c rd rs1 rs2 => ?crcb, fun c rd rs1 rs2 stream => ?gen, fun c rd => ?lid,
    fun c rd => ?gid, fun c rd => ?tag, fun c rd => ?phase, fun c rd => ?step, fun c rd => ?gkeyLo, fun c rd => ?gkeyHi, fun c rd => ?exc,
    fun c rd i => ?flow, fun c rd => ?cycleLo, fun c rd h => ?cycleHi, fun c rd k t => ?task, fun c rs1 hi => ?wrsr⟩
  case hmix =>
    refine .of_onCell (fun s => show execHmix c rd rs1 rs2 s = s.upd _ from rfl) (fun _ h => h) fun d ⟨_, hready⟩ => ?_
    simp only [Device.cell_setCell_self]
    refine ⟨d.setCell_oneCell _ _, ?_, ?_, fun r hr hne => ?_⟩
    · rw [Cell.advance, Cell.setW_eq (Cell.setW ..), Cell.setW_eq]
    · rintro v rfl
      rw [Cell.setPair_w rd _ _ hready.2.2.1 (by omega), Cell.setPair_w rd _ _ hready.2.2.1 (by omega), if_pos rfl, if_neg (by omega)]
      refine ⟨rfl, ?_⟩
      by_cases h0 : rd.val = 0
      · rw [if_pos h0, if_neg (by omega), h0]
        rfl
      · rw [if_neg h0, if_pos ⟨rfl, by omega⟩]
    · rw [Cell.setPair_w rd _ _ hready.2.2.1 hr, if_neg (by omega), if_neg (by omega)]
  case crcw => exact .of_alu (fun _ => rfl) fun d => by rw [leBytes_four]; rfl
  case crcb => exact .of_alu (fun _ => rfl) fun d => by rw [BitVec.ofNat_toNat]
  case gen => exact .of_alu (fun _ => rfl) fun _ => rfl
  case lid | gid | tag | phase | step | gkeyLo | gkeyHi | exc =>
    refine .of_write (fun s => show execRdsr c rd _ s = s.upd _ from rfl) (fun _ h => h) fun _ _ => ?_
    rfl
  case flow =>
    refine .of_write (fun s => show execRdsr c rd 3 s = s.upd _ from rfl) (fun _ h => ⟨h.1, h.2.1⟩) fun d ⟨_, _, hitem⟩ => ?_
    have hword : BitVec.ofNat 32 (match (d.cell c.gid).item with | some i => flowWord i.flow | none => 0) =
        match i.flow with | some f => BitVec.ofNat 32 (f + 2 ^ 20) | none => 0 := by
      rw [hitem]
      cases h : i.flow <;> simp [flowWord, h]
    exact congrArg (fun w => d.setCell c.gid ((d.cell c.gid).setW rd.val w).advance) hword
  case cycleLo =>
    refine .of_onCell (fun s => show execRdsr c rd 6 s = s.upd _ from rfl) (fun _ h => h) fun d ⟨_, hready⟩ => ?_
    simp only [Device.cell_setCell_self, gid_die c]
    refine ⟨d.setCell_oneCell _ _, Cell.setW_wroteReg (x := { d.cell c.gid with cycleHi := _ }) rd _ hready.2.2.1, ?_, ?_⟩
    · rw [Cell.advance, Cell.setW_eq]
      rfl
    · rw [Cell.advance, Cell.setW_eq]
  case cycleHi =>
    refine .of_onCell (fun s => show execRdsr c rd 7 s = s.upd _ from rfl) (fun _ h => ⟨h.1, h.2.1⟩) fun d ⟨_, hready, hhigh⟩ => ?_
    simp only [Device.cell_setCell_self, hhigh]
    refine ⟨d.setCell_oneCell _ _, Cell.setW_wroteReg (x := { d.cell c.gid with cycleHi := _ }) rd _ hready.2.2.1, ?_⟩
    rw [Cell.advance, Cell.setW_eq]
    rfl
  case task =>
    refine .of_write (fun s => show execRdsr c rd 11 s = s.upd _ from rfl) (fun _ h => ⟨h.1, h.2.1⟩) fun d ⟨_, _, htask⟩ => ?_
    have hword : ((d.findTask (d.cell c.gid).tag).map (fun e => e.2.shownState)).getD 0 =
        if t.prepared then 2 else match t.state with | .open => 1 | .ended => 2 | .committed => 3 | .aborted => 4 := by
      rw [htask]
      exact t.shownState_eq
    exact congrArg (fun n => d.setCell c.gid ((d.cell c.gid).setW rd.val (BitVec.ofNat 32 n)).advance) hword
  case wrsr =>
    refine .of_onCell (fun s => show execWrsr c rs1 hi s = s.upd _ from rfl) (fun _ h => h) fun d _ => ?_
    simp only [Device.cell_setCell_self]
    refine ⟨d.setCell_oneCell _ _, rfl, ?_⟩
    show BitVec.toNat (if hi then _ else _) = _
    split
    · rw [toNat_append_word, BitVec.toNat_setWidth]
    · rw [toNat_append_word, BitVec.toNat_setWidth, BitVec.toNat_ushiftRight, Nat.shiftRight_eq_div_pow, Nat.mod_eq_of_lt (by omega)]

end Sys2Proof.Machine
end

section
/-!
SUPPORT. Floating-point values (R94, R181, R182): the order of two numbers, signs, and values written with more bits of mantissa.
-/

namespace Sys2Proof.Machine

/-! ### The order of two values (R181) -/

theorem FP.cmp_swap (x y : FP) : y.cmp x = (x.cmp y).map Ordering.swap := by
  cases x with
  | nan => cases y <;> rfl
  | inf a =>
    cases y with
    | nan => rfl
    | inf b => cases a <;> cases b <;> rfl
    | fin => cases a <;> rfl
  | fin n m e =>
    cases y with
    | nan => rfl
    | inf b => cases b <;> rfl
    | fin n' m' e' =>
      simp only [FP.cmp, Option.map_some, Option.some.injEq, min_comm e' e]
      exact (Std.OrientedOrd.eq_swap).trans rfl

theorem FP.cmp_eq_none {x y : FP} : x.cmp y = none ↔ x = .nan ∨ y = .nan := by
  cases x <;> cases y <;> simp [FP.cmp]

theorem FP.isNan_iff {x : FP} : x.isNan = true ↔ x = .nan := decide_eq_true_iff

/-- Two values of which neither is a NaN are in one of three orders. -/
theorem FP.trichotomy {x y : FP} (hx : x.isNan = false) (hy : y.isNan = false) :
    (x.lt y = true ∧ x.eq y = false ∧ y.lt x = false) ∨ (x.lt y = false ∧ x.eq y = true ∧ y.lt x = false) ∨
    (x.lt y = false ∧ x.eq y = false ∧ y.lt x = true) := by
  have hne : x.cmp y ≠ none := by
    simp only [ne_eq, FP.cmp_eq_none, ← FP.isNan_iff, hx, hy]
    decide
  obtain ⟨o, ho⟩ := Option.ne_none_iff_exists'.1 hne
  simp only [FP.lt, FP.eq, FP.cmp_swap x y, ho]
  cases o <;> decide

/-- A comparison with a NaN holds in no order. -/
theorem FP.unordered {x y : FP} (h : (x.isNan || y.isNan) = true) : x.lt y = false ∧ x.eq y = false := by
  have hnone : x.cmp y = none := by
    simpa only [FP.cmp_eq_none, ← FP.isNan_iff, Bool.or_eq_true] using h
  simp [FP.lt, FP.eq, hnone]

theorem fminmax_of_numbers {less : Bool} {a b : Nat} (ha : (f32 a).isNan = false) (hb : (f32 b).isNan = false) :
    fminmax less a b = if (f32 a).eq (f32 b) then a else if (f32 a).lt (f32 b) = less then a else b := by
  unfold fminmax
  split
  next h _ => cases h ▸ ha
  next h _ => cases h ▸ ha
  next h _ => cases h ▸ hb
  · rfl

theorem fminmax_eq (less : Bool) (a b : Nat) : fminmax less a b =
    if (f32 a).isNan && (f32 b).isNan then 0x7FC0_0000 else if (f32 a).isNan then b else if (f32 b).isNan then a
    else if (if less then (f32 b).lt (f32 a) else (f32 a).lt (f32 b)) then b else a := by
  cases ha : (f32 a).isNan with
  | true =>
    rw [FP.isNan_iff] at ha
    cases hb : f32 b <;> simp [fminmax, ha, hb, FP.isNan]
  | false =>
    cases hb : (f32 b).isNan with
    | true =>
      rw [FP.isNan_iff] at hb
      cases h : f32 a <;> simp_all [fminmax, FP.isNan]
    | false =>
      rw [fminmax_of_numbers ha hb]
      rcases FP.trichotomy ha hb with ⟨h1, h2, h3⟩ | ⟨h1, h2, h3⟩ | ⟨h1, h2, h3⟩ <;> rw [h1, h2, h3] <;> cases less <;> rfl

/-! ### Signs (R181) -/

/-- The code with its sign flipped stands for the value with its sign flipped. -/
theorem f32_fnegBits {a : Nat} (h : a < 2 ^ 32) : f32 (fnegBits a) = (f32 a).neg := by
  have hex : bitsOf (fnegBits a) 23 8 = bitsOf a 23 8 := by
    unfold fnegBits bitAt bitsOf
    split <;> simp at * <;> omega
  have hman : bitsOf (fnegBits a) 0 23 = bitsOf a 0 23 := by
    unfold fnegBits bitAt bitsOf
    split <;> simp at * <;> omega
  have hsign : bitAt (fnegBits a) 31 = !bitAt a 31 := by
    unfold fnegBits
    split
    next hs =>
      rw [hs]
      simp only [bitAt, decide_eq_true_eq] at hs
      simp only [bitAt, Bool.not_true, decide_eq_false_iff_not]
      omega
    next hs =>
      rw [Bool.eq_false_of_not_eq_true hs]
      simp only [bitAt, decide_eq_true_eq] at hs
      simp only [bitAt, Bool.not_false, decide_eq_true_eq]
      omega
  simp only [f32, decodeFP, hex, hman, hsign]
  split
  · split <;> rfl
  · split <;> rfl

theorem FP.neg_mul (x y : FP) : x.neg.mul y = (x.mul y).neg := by
  cases x with
  | nan => cases y <;> rfl
  | inf n => 
    cases y with
    | nan => rfl
    | inf n' => simp [FP.neg, FP.mul]
    | fin n' m' e' =>
      simp only [FP.neg, FP.mul]
      split <;> simp
  | fin n m e =>
    cases y with
    | nan => rfl
    | inf n' =>
      simp only [FP.neg, FP.mul]
      split <;> simp
    | fin n' m' e' => simp [FP.neg, FP.mul]

/-! ### More bits of mantissa (R182) -/

/-- A value written with more bits of mantissa. -/
inductive FP.Widened : FP → FP → Prop
  | nan : FP.Widened .nan .nan
  | inf (n : Bool) : FP.Widened (.inf n) (.inf n)
  | fin (n : Bool) (m : Nat) (e : Int) (k : Nat) : FP.Widened (.fin n m e) (.fin n (m * 2 ^ k) (e - k))

theorem FP.Widened.refl (x : FP) : FP.Widened x x := by
  cases x with
  | nan => exact .nan
  | inf n => exact .inf n
  | fin n m e => simpa using FP.Widened.fin n m e 0

/-- A BF16 code widened to FP32 stands for the same value. -/
theorem bf16_widened (h : Nat) : FP.Widened (bf16 h) (f32 (h * 2 ^ 16)) := by
  have hex : bitsOf (h * 2 ^ 16) 23 8 = bitsOf h 7 8 := by unfold bitsOf; omega
  have hman : bitsOf (h * 2 ^ 16) 0 23 = bitsOf h 0 7 * 2 ^ 16 := by unfold bitsOf; omega
  have hsign : bitAt (h * 2 ^ 16) 31 = bitAt h 15 := by unfold bitAt; simp; omega
  simp only [bf16, f32, decodeFP, hex, hman, hsign]
  have hz : bitsOf h 0 7 * 2 ^ 16 = 0 ↔ bitsOf h 0 7 = 0 := by omega
  simp only [hz]
  split
  · split
    · exact .inf _
    · exact .nan
  · split
    · exact .fin _ _ _ 16
    · have h := FP.Widened.fin (bitAt h 15) (2 ^ 7 + bitsOf h 0 7) ((bitsOf h 7 8 : Int) - (2 ^ (8 - 1) - 1) - 7) 16
      rw [Nat.add_mul, sub_sub _ (7 : Int)] at h
      exact h

theorem FP.Widened.mul {x x' y y' : FP} (hx : FP.Widened x x') (hy : FP.Widened y y') : FP.Widened (x.mul y) (x'.mul y') := by
  have hz (m k : Nat) : m * 2 ^ k = 0 ↔ m = 0 := by simp
  cases hx with
  | nan => cases hy <;> exact .nan
  | inf n =>
    cases hy with
    | nan => exact .nan
    | inf => exact .inf _
    | fin n' m' e' k' =>
      simp only [FP.mul, hz]
      split
      · exact .nan
      · exact .inf _
  | fin n m e k =>
    cases hy with
    | nan => exact .nan
    | inf =>
      simp only [FP.mul, hz]
      split
      · exact .nan
      · exact .inf _
    | fin n' m' e' k' =>
      have h := FP.Widened.fin (n != n') (m * m') (e + e') (k + k')
      rw [pow_add, Nat.mul_mul_mul_comm, Nat.cast_add, show e + e' - ((k : Int) + k') = e - k + (e' - k') by ring] at h
      exact h

/-- The mantissa at a lower exponent. -/
theorem FP.scaled_lower (n : Bool) (m k : Nat) {e lo lo' : Int} (hlo : lo ≤ e) (hlo' : lo' ≤ e - k) (hle : lo' ≤ lo) :
    FP.scaled n (m * 2 ^ k) (e - k) lo' = FP.scaled n m e lo * ((2 ^ (lo - lo').toNat : Nat) : Int) := by
  have hk : k + (e - k - lo').toNat = (e - lo).toNat + (lo - lo').toNat := by omega
  have hm : m * 2 ^ k * 2 ^ (e - k - lo').toNat = m * 2 ^ (e - lo).toNat * 2 ^ (lo - lo').toNat := by
    rw [Nat.mul_assoc, ← pow_add, hk, pow_add, Nat.mul_assoc]
  simp only [FP.scaled, hm, Nat.cast_mul]
  cases n <;> simp

theorem FP.Widened.add {x y y' : FP} (hy : FP.Widened y y') : FP.Widened (x.add y) (x.add y') := by
  cases hy with
  | nan => exact .refl _
  | inf n => exact .refl _
  | fin n' m' e' k =>
    cases x with
    | nan => exact .nan
    | inf n => exact .inf n
    | fin n m e =>
      simp only [FP.add]
      obtain ⟨lo, hlo⟩ : ∃ lo, lo = min e e' := ⟨_, rfl⟩
      obtain ⟨lo', hlo'⟩ : ∃ lo', lo' = min e (e' - k) := ⟨_, rfl⟩
      have hx := FP.scaled_lower n m 0 (e := e) (lo := lo) (lo' := lo') (by omega) (by omega) (by omega)
      have hy := FP.scaled_lower n' m' k (e := e') (lo := lo) (lo' := lo') (by omega) (by omega) (by omega)
      rw [pow_zero, Nat.mul_one, Nat.cast_zero, sub_zero] at hx
      rw [← hlo, ← hlo', hx, hy, ← add_mul]
      obtain ⟨z, hz⟩ : ∃ z, z = FP.scaled n m e lo + FP.scaled n' m' e' lo := ⟨_, rfl⟩
      obtain ⟨j, hj⟩ : ∃ j, j = (lo - lo').toNat := ⟨_, rfl⟩
      have hlow : lo' = lo - j := by omega
      have hzero : z * ((2 ^ j : Nat) : Int) = 0 ↔ z = 0 := by simp
      have hneg : z * ((2 ^ j : Nat) : Int) < 0 ↔ z < 0 := by simp [mul_neg_iff]
      rw [← hz, ← hj, hlow]
      simp only [hzero, hneg, Int.natAbs_mul, Int.natAbs_natCast]
      split
      · simpa using FP.Widened.fin (n && n') 0 lo j
      · exact .fin _ _ _ _

/-- A mantissa that is even in its last bits is rounded as without them. -/
theorem rneShift_mul_pow (m s k : Nat) : rneShift (m * 2 ^ k) (s + k) = rneShift m s := by
  have hpos : 0 < 2 ^ k := Nat.two_pow_pos k
  have hlt (a b : Nat) : 2 * (a * 2 ^ k) < b * 2 ^ k ↔ 2 * a < b := by rw [← Nat.mul_assoc]; exact Nat.mul_lt_mul_right hpos
  have hgt (a b : Nat) : 2 * (a * 2 ^ k) > b * 2 ^ k ↔ 2 * a > b := by rw [← Nat.mul_assoc]; exact Nat.mul_lt_mul_right hpos
  simp only [rneShift, pow_add, Nat.mul_div_mul_right _ _ hpos, Nat.mul_mod_mul_right, hlt, hgt]

theorem rneShift_exact (m s t : Nat) : rneShift (m * 2 ^ (s + t)) s = m * 2 ^ t := by
  have h := rneShift_mul_pow (m * 2 ^ t) 0 s
  rw [Nat.zero_add, Nat.mul_assoc, ← pow_add, Nat.add_comm t s] at h
  rw [h]
  simp [rneShift, Nat.mod_one]

theorem log2_mul_pow {m : Nat} (hm : m ≠ 0) (k : Nat) : Nat.log2 (m * 2 ^ k) = Nat.log2 m + k := by
  induction k with
  | zero => simp
  | succ k ih =>
    rw [pow_succ, ← Nat.mul_assoc, Nat.log2_eq_log_two, Nat.log_mul_base (by decide) (by positivity), ← Nat.log2_eq_log_two, ih]
    rfl

theorem roundMag_widened (eb mb : Nat) {m : Nat} (hm : m ≠ 0) (e : Int) (k : Nat) : roundMag eb mb (m * 2 ^ k) (e - k) = roundMag eb mb m e := by
  have htop : ((m * 2 ^ k).log2 : Int) + (e - k) = m.log2 + e := by rw [log2_mul_pow hm]; push_cast; ring
  simp only [roundMag, htop]
  obtain ⟨q, hq⟩ : ∃ q : Int, q = max (m.log2 + e - mb) (1 - (2 ^ (eb - 1) - 1) - mb) := ⟨_, rfl⟩
  rw [← hq]
  have hround : (if q - (e - k) ≤ 0 then m * 2 ^ k * 2 ^ (-(q - (e - k))).toNat else rneShift (m * 2 ^ k) (q - (e - k)).toNat) =
      if q - e ≤ 0 then m * 2 ^ (-(q - e)).toNat else rneShift m (q - e).toNat := by
    by_cases h1 : q - (e - k) ≤ 0
    · rw [if_pos h1, if_pos (by omega), Nat.mul_assoc, ← pow_add, show k + (-(q - (e - k))).toNat = (-(q - e)).toNat by omega]
    · rw [if_neg h1]
      by_cases h2 : q - e ≤ 0
      · have hexact := rneShift_exact m (q - (e - k)).toNat (-(q - e)).toNat
        rwa [show (q - (e - k)).toNat + (-(q - e)).toNat = k by omega, ← if_pos h2 (t := m * 2 ^ (-(q - e)).toNat)] at hexact
      · rw [if_neg h2, show (q - (e - k)).toNat = (q - e).toNat + k by omega, rneShift_mul_pow]
  rw [hround]

theorem FP.Widened.encodeFP {x y : FP} (h : FP.Widened x y) (eb mb nanCode : Nat) : encodeFP eb mb nanCode x = encodeFP eb mb nanCode y := by
  cases h with
  | nan => rfl
  | inf n => rfl
  | fin n m e k =>
    by_cases hm : m = 0
    · simp [Machine.encodeFP, hm]
    · simp [Machine.encodeFP, hm, roundMag_widened]

theorem FP.Widened.toF32 {x y : FP} (h : FP.Widened x y) : toF32 x = toF32 y := h.encodeFP ..

end Sys2Proof.Machine
end

section
/-!
SUPPORT. Floating-point instructions (R94, R181, R182, R183): each comes to one operation on the codes in its operands, and the statement about
them.
-/

namespace Sys2Proof.Machine

variable (a b : Word)

theorem fp2_fminmax (less : Bool) : fp2 (fminmax less) a b =
    if (f32 a.toNat).isNan && (f32 b.toNat).isNan then 0x7FC0_0000 else if (f32 a.toNat).isNan then b else if (f32 b.toNat).isNan then a
    else if (if less then (f32 b.toNat).lt (f32 a.toNat) else (f32 a.toNat).lt (f32 b.toNat)) then b else a := by
  rw [fp2, fminmax_eq]
  simp only [apply_ite (BitVec.ofNat 32), BitVec.ofNat_toNat, BitVec.setWidth_eq]
  rfl

theorem feq_eq (x y : FP) : kBool (x.eq y) = if x.isNan || y.isNan then 0 else if x.lt y || y.lt x then 0 else 1 := by
  cases h : (x.isNan || y.isNan) with
  | true => rw [(FP.unordered h).2]; rfl
  | false =>
    obtain ⟨hx, hy⟩ := Bool.or_eq_false_iff.1 h
    rcases FP.trichotomy hx hy with ⟨h1, h2, h3⟩ | ⟨h1, h2, h3⟩ | ⟨h1, h2, h3⟩ <;> rw [h1, h2, h3] <;> rfl

theorem flt_eq (x y : FP) : kBool (x.lt y) = if !x.isNan && !y.isNan && x.lt y then 1 else 0 := by
  cases h : (x.isNan || y.isNan) with
  | true => rw [(FP.unordered h).1, Bool.and_false]; rfl
  | false =>
    obtain ⟨hx, hy⟩ := Bool.or_eq_false_iff.1 h
    rw [hx, hy]
    rfl

theorem FP.le_eq (x y : FP) : x.le y = (x.lt y || x.eq y) := rfl

theorem fle_eq (x y : FP) : kBool (x.le y) = if x.isNan || y.isNan || y.lt x then 0 else 1 := by
  rw [FP.le_eq]
  cases h : (x.isNan || y.isNan) with
  | true => rw [(FP.unordered h).1, (FP.unordered h).2]; rfl
  | false =>
    obtain ⟨hx, hy⟩ := Bool.or_eq_false_iff.1 h
    rcases FP.trichotomy hx hy with ⟨h1, h2, h3⟩ | ⟨h1, h2, h3⟩ | ⟨h1, h2, h3⟩ <;> rw [h1, h2, h3] <;> rfl

/-- A code put together from its magnitude and a sign. -/
theorem withSign_eq (s : Bool) :
    BitVec.ofNat 32 (a.toNat % 2 ^ 31 + 2 ^ 31 * bit s) = (a &&& ~~~ BitVec.twoPow 32 31) ||| if s then BitVec.twoPow 32 31 else 0 := by
  refine BitVec.eq_of_getLsbD_eq fun i hi => ?_
  rw [Nat.add_comm, BitVec.getLsbD_ofNat, Nat.testBit_two_pow_mul_add _ (Nat.mod_lt _ (by decide)), Nat.testBit_mod_two_pow]
  by_cases h : i = 31
  · subst h
    cases s <;> simp [bit]
  · have h31 : i < 31 := by omega
    cases s <;> simp [h31, hi, h, BitVec.testBit_toNat]

theorem bitAt_toNat (i : Nat) : bitAt a.toNat i = a.getLsbD i := by
  rw [bitAt, BitVec.getLsbD, Nat.testBit_eq_decide_div_mod_eq]

theorem fsgnj_eq : fsgn (fun _ t => t) a b = (a &&& 0x7FFF_FFFF) ||| (b &&& 0x8000_0000) := by
  rw [fsgn, withSign_eq, bitAt_toNat, show (0x8000_0000 : Word) = BitVec.twoPow 32 31 from rfl, BitVec.and_twoPow]
  rfl

theorem fsgnjn_eq : fsgn (fun _ t => !t) a b = (a &&& 0x7FFF_FFFF) ||| (~~~ b &&& 0x8000_0000) := by
  rw [fsgn, withSign_eq, bitAt_toNat, show (0x8000_0000 : Word) = BitVec.twoPow 32 31 from rfl, BitVec.and_twoPow, BitVec.getLsbD_not]
  rfl

theorem fsgnjx_eq : fsgn (fun s t => s != t) a b = a ^^^ (b &&& 0x8000_0000) := by
  rw [fsgn, withSign_eq, bitAt_toNat, bitAt_toNat, show (0x8000_0000 : Word) = BitVec.twoPow 32 31 from rfl, BitVec.and_twoPow]
  refine BitVec.eq_of_getLsbD_eq fun i hi => ?_
  by_cases h : i = 31
  · subst h
    cases ha : a.getLsbD 31 <;> cases b.getLsbD 31 <;> simpa using ha
  · cases a.getLsbD 31 <;> cases b.getLsbD 31 <;> simp [hi, h]

theorem fp1_special {f : FP → FP} (hf : f .nan = .nan) :
    fp1 (fun v => toF32 (f (f32 v))) a = if (f32 a.toNat).isNan then 0x7FC0_0000 else BitVec.ofNat 32 (toF32 (f (f32 a.toNat))) := by
  split
  next h => rw [fp1, FP.isNan_iff.1 h, hf]; rfl
  · rfl

theorem bdot2_eq (acc : Word) : bdot2 acc a b =
    BitVec.ofNat 32 (toF32 ((f32 (toF32 ((f32 acc.toNat).add ((f32 (a.toNat % 2 ^ 16 * 2 ^ 16)).mul (f32 (b.toNat % 2 ^ 16 * 2 ^ 16)))))).add
      ((f32 (a.toNat / 2 ^ 16 * 2 ^ 16)).mul (f32 (b.toNat / 2 ^ 16 * 2 ^ 16))))) := by
  have hmul (m n : Nat) (x : FP) : toF32 (x.add ((bf16 m).mul (bf16 n))) = toF32 (x.add ((f32 (m * 2 ^ 16)).mul (f32 (n * 2 ^ 16)))) :=
    ((bf16_widened m).mul (bf16_widened n)).add.toF32
  simp only [bdot2, hmul, loHalf, hiHalf]

theorem blo_eq : a <<< 16 = BitVec.ofNat 32 (a.toNat % 2 ^ 16 * 2 ^ 16) := by
  rw [BitVec.toNat_eq, BitVec.toNat_shiftLeft, Nat.shiftLeft_eq, BitVec.toNat_ofNat]
  omega

theorem bhi_eq : a &&& 0xFFFF_0000 = BitVec.ofNat 32 (a.toNat / 2 ^ 16 * 2 ^ 16) := by
  have hshift : BitVec.ofNat 32 (a.toNat / 2 ^ 16 * 2 ^ 16) = a >>> 16 <<< 16 := by
    rw [BitVec.toNat_eq, BitVec.toNat_shiftLeft, Nat.shiftLeft_eq, BitVec.toNat_ofNat, BitVec.toNat_ushiftRight, Nat.shiftRight_eq_div_pow]
  rw [hshift, show (0xFFFF_0000 : Word) = BitVec.allOnes 32 <<< 16 from rfl]
  refine BitVec.eq_of_getLsbD_eq fun i hi => ?_
  simp only [BitVec.getLsbD_and, BitVec.getLsbD_shiftLeft, BitVec.getLsbD_allOnes, BitVec.getLsbD_ushiftRight, hi]
  by_cases h : i < 16
  · simp [h]
  · simp [h, show i - 16 < 32 by omega, show 16 + (i - 16) = i by omega]

/-- Settles O30: each instruction writes one register from its cell's own, by an operation on codes that comes to the one stated. -/
theorem floatInstructions : Obligations.FloatInstructions := by
  refine ⟨fun c rd rs1 rs2 => ?two, fun c rd rs1 => ?one, fun c rd rs1 rs2 rs3 => ?fused, fun c rd rs1 rs2 => ?dot⟩
  case two =>
    simp only [List.forall_mem_cons]
    exact ⟨.of_alu (fun _ => rfl) fun _ => rfl,
      .of_alu (fun _ => rfl) fun _ => rfl,
      .of_alu (fun _ => rfl) fun _ => rfl,
      .of_alu (fun _ => rfl) fun _ => fp2_fminmax _ _ true,
      .of_alu (fun _ => rfl) fun _ => fp2_fminmax _ _ false,
      .of_alu (fun _ => rfl) fun _ => feq_eq _ _,
      .of_alu (fun _ => rfl) fun _ => flt_eq _ _,
      .of_alu (fun _ => rfl) fun _ => fle_eq _ _,
      .of_alu (fun _ => rfl) fun _ => fsgnj_eq _ _,
      .of_alu (fun _ => rfl) fun _ => fsgnjn_eq _ _,
      .of_alu (fun _ => rfl) fun _ => fsgnjx_eq _ _,
      .of_alu (fun _ => rfl) fun _ => rfl,
      .of_alu (fun _ => rfl) fun _ => rfl,
      .of_alu (fun _ => rfl) fun _ => rfl,
      .of_alu (fun _ => rfl) fun _ => rfl,
      .of_alu (fun _ => rfl) fun _ => rfl, nofun⟩
  case one =>
    simp only [List.forall_mem_cons]
    exact ⟨.of_alu (fun _ => rfl) fun _ => rfl,
      .of_alu (fun _ => rfl) fun _ => rfl,
      .of_alu (fun _ => rfl) fun _ => rfl,
      .of_alu (fun _ => rfl) fun _ => rfl,
      .of_alu (fun _ => rfl) fun _ => rfl,
      .of_alu (fun _ => rfl) fun _ => blo_eq _,
      .of_alu (fun _ => rfl) fun _ => bhi_eq _,
      .of_alu (fun _ => rfl) fun _ => fp1_special _ (f := FP.exp2) rfl,
      .of_alu (fun _ => rfl) fun _ => fp1_special _ (f := FP.log2) rfl,
      .of_alu (fun _ => rfl) fun _ => fp1_special _ (f := FP.rcp) rfl,
      .of_alu (fun _ => rfl) fun _ => fp1_special _ (f := FP.rsqrt) rfl,
      .of_alu (fun _ => rfl) fun _ => fp1_special _ (f := FP.sqrt) rfl,
      .of_alu (fun _ => rfl) fun _ => fp1_special _ (f := FP.tanh) rfl,
      .of_alu (fun _ => rfl) fun _ => fp1_special _ (f := FP.sigmoid) rfl, nofun⟩
  case fused =>
    simp only [List.forall_mem_cons]
    refine ⟨.of_alu (fun _ => rfl) fun _ => rfl,
      .of_alu (fun _ => rfl) fun _ => ?_,
      .of_alu (fun _ => rfl) fun _ => ?_,
      .of_alu (fun _ => rfl) fun _ => ?_, nofun⟩
    · rw [ffma, f32_fnegBits (BitVec.isLt _)]
    · rw [ffma, f32_fnegBits (BitVec.isLt _), f32_fnegBits (BitVec.isLt _), FP.neg_mul]
    · rw [ffma, f32_fnegBits (BitVec.isLt _), FP.neg_mul]
  case dot => exact .of_alu (fun _ => rfl) fun _ => bdot2_eq _ _ _

end Sys2Proof.Machine
end

section
/-!
SUPPORT. Data accesses of cells (R7, R170, R179, R180): where an address lands, the bytes that a load reads and a store writes, and the statement
about loads, stores and atomics.
-/

namespace Sys2Proof.Machine

variable {d : Device} {c : CellId} {rd rs1 rs2 : Reg} {imm : BitVec 16} {a n : Nat}

/-! ### The address map (R170, R180) -/

theorem cellAddr_priv (h : a + n ≤ 0x400) (hal : a % n = 0) : cellAddr a n = .priv a := by
  rw [cellAddr, if_pos h, if_pos hal]

theorem cellAddr_cluster (hlo : 0x1_0000 ≤ a) (hhi : a + n ≤ 0x3_0000) (hal : a % n = 0) : cellAddr a n = .cluster (a - 0x1_0000) := by
  rw [cellAddr, if_neg (by omega), if_pos ⟨hlo, hhi⟩, if_pos hal]

theorem effAddr_eq (x : Cell) : effAddr x rs1 imm = (x.w rs1.val + BitVec.ofInt 32 imm.toInt).toNat := rfl

theorem clusterAddr_add (die p o i : Nat) : clusterAddr die p (o + i) = clusterAddr die p o + i := (Nat.add_assoc ..).symm

theorem clusterByte_gid (c : CellId) (o : Nat) : clusterByte c.gid o = clusterAddr c.die.val (64 * c.block.val + c.cluster.val) o := by
  rw [clusterByte, gid_die, gid_cluster]

/-- The bytes of an access. -/
def accessSizes : List Nat := [1, 2, 4]

/-- An aligned access that begins within a store ends within it. -/
theorem access_within {b : Nat} (hn : n ∈ accessSizes) (hb : b % 4 = 0) (hal : a % n = 0) (h : a < b) : a + n ≤ b := by
  simp only [accessSizes, List.mem_cons, List.not_mem_nil, or_false] at hn
  rcases hn with rfl | rfl | rfl <;> omega

theorem access_short (hn : n ∈ accessSizes) : n < 64 := by
  simp only [accessSizes, List.mem_cons, List.not_mem_nil, or_false] at hn
  omega

/-! ### Bytes (R7) -/

theorem ofLe_lt (bs : List Byte) : ofLe bs < 256 ^ bs.length := by
  induction bs with
  | nil => exact Nat.one_pos
  | cons b bs ih =>
    have hb : b.toNat < 256 := b.isLt
    rw [ofLe, List.length_cons, pow_succ]
    omega

theorem getD_leBytes {i : Nat} (v : Nat) (h : i < n) : (leBytes n v).getD i 0 = BitVec.ofNat 8 (v / 2 ^ (8 * i)) := by
  induction n generalizing v i with
  | zero => cases h
  | succ n ih =>
    cases i with
    | zero => simp [leBytes]
    | succ i =>
      have hpow : 2 ^ (8 * (i + 1)) = 256 * 2 ^ (8 * i) := by rw [Nat.mul_add, pow_add, Nat.mul_comm]; rfl
      rw [hpow, ← Nat.div_div_eq_div_mul, ← ih (v / 256) (Nat.lt_of_succ_lt_succ h)]
      rfl

theorem memReadN_eq_map (m : List Host.Cell) (a n : Nat) : memReadN m a n = (List.range n).map (fun i => memRead m (a + i)) := by
  refine List.ext_getElem (by simp) fun i hi hi' => ?_
  have h := getD_memReadN m a (i := i) (n := n) (by simpa using hi)
  rw [List.getD_eq_getElem _ _ hi] at h
  simpa using h

/-- Bytes written are read again. -/
theorem Device.readLe_write (bs : List Byte) (h : Memory.wf d.mem = true) : (d.write a bs).readLe a bs.length = ofLe bs := by
  rw [Device.readLe, Device.read, memReadN_eq_map]
  congr 1
  refine List.ext_getElem (by simp) fun i hi hi' => ?_
  have hw := memRead_memWriteN a bs (a + i) h
  rw [if_pos (by omega), Nat.add_sub_cancel_left, List.getD_eq_getElem _ _ hi'] at hw
  simpa [Device.write] using hw

theorem Cell.ofLe_load_lt (x : Cell) (a n : Nat) : ofLe (x.load a n) < 256 ^ n := by
  simpa [Cell.load] using ofLe_lt (x.load a n)

theorem Device.readLe_lt (a n : Nat) : d.readLe a n < 256 ^ n := by
  simpa [Device.readLe, Device.read] using ofLe_lt (d.read a n)

/-- A write of less than a granule clears no poison (R488). -/
theorem Device.write_of_short {bs : List Byte} (h : bs.length < 64) : d.write a bs = { d with mem := (d.write a bs).mem } := by
  have hpoison : d.poison.filter (fun g => !(decide (a ≤ 64 * g) && decide (64 * g + 64 ≤ a + bs.length))) = d.poison := by
    refine List.filter_eq_self.2 fun g _ => ?_
    simp only [Bool.not_eq_true', Bool.and_eq_false_iff, decide_eq_false_iff_not]
    omega
  rw [Device.write, hpoison]

theorem signExtend_ofNat {w v : Nat} (h : v < 2 ^ (w + 1)) : (BitVec.ofNat (w + 1) v).signExtend 32 = BitVec.ofInt 32 (toSigned (w + 1) v) := by
  have hhalf : 2 * v < 2 ^ (w + 1) ↔ v < 2 ^ w := by rw [pow_succ]; omega
  rw [BitVec.signExtend, BitVec.toInt_eq_toNat_cond, BitVec.toNat_ofNat, Nat.mod_eq_of_lt h, toSigned, Nat.add_sub_cancel]
  simp only [hhalf, Nat.cast_pow, Nat.cast_ofNat]

/-! ### Loads (R179) -/

/-- The load instructions, each with the bytes that it reads and how it extends them. -/
def loadInstrs (c : CellId) (rd rs1 : Reg) (imm : BitVec 16) : List (Instr × Nat × (Nat → Word)) :=
  [(.lw c rd rs1 imm, 4, fun v => BitVec.ofNat 32 v), (.lh c rd rs1 imm, 2, fun v => BitVec.ofInt 32 (toSigned 16 v)),
    (.lhu c rd rs1 imm, 2, fun v => BitVec.ofNat 32 v), (.lb c rd rs1 imm, 1, fun v => BitVec.ofInt 32 (toSigned 8 v)),
    (.lbu c rd rs1 imm, 1, fun v => BitVec.ofNat 32 v)]

/-- Each of them is a load of that many bytes, extended so. -/
theorem exec_load {p : Instr × Nat × (Nat → Word)} (hp : p ∈ loadInstrs c rd rs1 imm) : p.2.1 ∈ accessSizes ∧
    ∃ ext, (∀ s, exec p.1 s = s.upd (fun d => d.load c rd rs1 imm p.2.1 ext)) ∧ ∀ v, v < 256 ^ p.2.1 → ext v = p.2.2 v := by
  revert p
  simp only [loadInstrs, List.forall_mem_cons]
  exact ⟨⟨by decide, _, fun _ => rfl, fun _ _ => rfl⟩, ⟨by decide, _, fun _ => rfl, fun _ => signExtend_ofNat (w := 15)⟩,
    ⟨by decide, _, fun _ => rfl, fun _ _ => rfl⟩, ⟨by decide, _, fun _ => rfl, fun _ => signExtend_ofNat (w := 7)⟩,
    ⟨by decide, _, fun _ => rfl, fun _ _ => rfl⟩, nofun⟩

/-! ### Stores and atomics (R179, R193) -/

/-- The store instructions, each with the bytes that it writes. -/
def storeInstrs (c : CellId) (rs2 rs1 : Reg) (imm : BitVec 16) : List (Instr × Nat) :=
  [(.sw c rs2 rs1 imm, 4), (.sh c rs2 rs1 imm, 2), (.sb c rs2 rs1 imm, 1)]

theorem exec_store {p : Instr × Nat} (hp : p ∈ storeInstrs c rs2 rs1 imm) :
    p.2 ∈ accessSizes ∧ ∀ s, exec p.1 s = s.upd (fun d => d.store c rs2 rs1 imm p.2) := by
  revert p
  simp only [storeInstrs, List.forall_mem_cons]
  exact ⟨⟨by decide, fun _ => rfl⟩, ⟨by decide, fun _ => rfl⟩, ⟨by decide, fun _ => rfl⟩, nofun⟩

/-- The atomic instructions, each with the word that it writes, of the old word, rs2 and rd. -/
def atomicInstrs (c : CellId) (rd rs1 rs2 : Reg) : List (Instr × (Word → Word → Word → Word)) :=
  [(.amoadd c rd rs1 rs2, fun o v _ => BitVec.ofNat 32 (o.toNat + v.toNat)), (.amoswap c rd rs1 rs2, fun _ v _ => v),
    (.amocas c rd rs1 rs2, fun o v r => if o = r then v else o), (.amomin c rd rs1 rs2, fun o v _ => if o.toInt ≤ v.toInt then o else v),
    (.amomax c rd rs1 rs2, fun o v _ => if o.toInt ≤ v.toInt then v else o), (.amominu c rd rs1 rs2, fun o v _ => if o.toNat ≤ v.toNat then o else v),
    (.amomaxu c rd rs1 rs2, fun o v _ => if o.toNat ≤ v.toNat then v else o)]

/-- The lesser of two words is the old one unless the other lies below it. -/
theorem ite_lt_eq_ite_le {α : Type} [LinearOrder α] (f : Word → α) (o v : Word) :
    (if decide (f v < f o) then v else o) = if f o ≤ f v then o else v := by
  by_cases h : f v < f o
  · rw [if_pos (decide_eq_true h), if_neg (not_le.2 h)]
  · rw [if_neg (by simpa using h), if_pos (not_lt.1 h)]

/-- The greater of two words is the old one unless it lies below the other. -/
theorem ite_gt_eq_ite_le {α : Type} [LinearOrder α] {f : Word → α} (hf : Function.Injective f) (o v : Word) :
    (if decide (f o < f v) then v else o) = if f o ≤ f v then v else o := by
  by_cases h : f o < f v
  · rw [if_pos (decide_eq_true h), if_pos h.le]
  · by_cases he : f o ≤ f v
    · rw [if_neg (by simpa using h), if_pos he, hf (le_antisymm he (not_lt.1 h))]
    · rw [if_neg (by simpa using h), if_neg he]

theorem exec_atomic {p : Instr × (Word → Word → Word → Word)} (hp : p ∈ atomicInstrs c rd rs1 rs2) :
    ∃ f, (∀ s, exec p.1 s = s.upd (fun d => d.amo c rd rs1 rs2 f)) ∧ ∀ o v r, f o v r = p.2 o v r := by
  revert p
  simp only [atomicInstrs, List.forall_mem_cons]
  exact ⟨⟨_, fun _ => rfl, fun o v _ => BitVec.eq_of_toNat_eq (by simp)⟩, ⟨_, fun _ => rfl, fun _ _ _ => rfl⟩, ⟨_, fun _ => rfl, fun _ _ _ => rfl⟩,
    ⟨_, fun _ => rfl, fun o v _ => ite_lt_eq_ite_le BitVec.toInt o v⟩,
    ⟨_, fun _ => rfl, fun o v _ => ite_gt_eq_ite_le (fun _ _ => BitVec.eq_of_toInt_eq) o v⟩,
    ⟨_, fun _ => rfl, fun o v _ => ite_lt_eq_ite_le BitVec.toNat o v⟩,
    ⟨_, fun _ => rfl, fun o v _ => ite_gt_eq_ite_le (fun _ _ => BitVec.eq_of_toNat_eq) o v⟩, nofun⟩

/-- Settles O28: the address lands in one store, aligned, and there the access reads or writes the bytes stated. -/
theorem loadsStoresAndAtomics : Obligations.LoadsStoresAndAtomics := by
  refine ⟨fun c rd rs1 imm a p hp => ?loadPriv, fun c rd rs1 imm a p hp => ?loadCluster, fun c rs2 rs1 imm a p hp => ?storePriv,
    fun c rs2 rs1 imm a p hp => ?storeCluster, fun c rd rs1 rs2 a p hp => ?atomic⟩
  case loadPriv =>
    obtain ⟨hn, ext, hi, hext⟩ := exec_load hp
    refine .of_write hi (fun _ h => ⟨h.1, h.2.1⟩) fun d ⟨_, _, ha, hlt, hal⟩ => ?_
    simp only [effAddr_eq, ha, cellAddr_priv (access_within hn rfl hal hlt) hal, hext _ (Cell.ofLe_load_lt ..)]
  case loadCluster =>
    obtain ⟨hn, ext, hi, hext⟩ := exec_load hp
    refine .of_write hi (fun _ h => ⟨h.1, h.2.1⟩) fun d ⟨_, _, ha, hlo, hhi, hal⟩ => ?_
    simp only [effAddr_eq, ha, cellAddr_cluster hlo (access_within hn rfl hal hhi) hal, clusterByte_gid, hext _ (Device.readLe_lt ..)]
    simp only [Device.readLe, Device.read, memReadN_eq_map, clusterAddr_add]
  case storePriv =>
    obtain ⟨hn, hi⟩ := exec_store hp
    refine .of_onCell_eq hi (fun _ h => ⟨h.1, h.2.1⟩) (fun d ⟨_, _, _, ha, hlt, hal⟩ => by
      simp only [effAddr_eq, ha, cellAddr_priv (access_within hn rfl hal hlt) hal]
      exact rfl) fun d ⟨_, _, hrise, _⟩ => ?_
    rw [Device.cell_setCell_self]
    refine ⟨d.setCell_oneCell _ _, rfl, fun j => ?_⟩
    refine (Cell.storeN_getD _ hrise).trans ?_
    rw [length_leBytes]
    by_cases hj : a ≤ j ∧ j < a + p.2
    · rw [if_pos hj, if_pos hj, getD_leBytes _ (by omega)]
    · rw [if_neg hj, if_neg hj]
  case storeCluster =>
    obtain ⟨hn, hi⟩ := exec_store hp
    refine .of_onCell_eq hi (fun _ h => ⟨h.1, h.2.1⟩) (fun d ⟨_, _, _, ha, hlo, hhi, hal⟩ => by
      simp only [effAddr_eq, ha, cellAddr_cluster hlo (access_within hn rfl hal hhi) hal, clusterByte_gid]
      exact rfl) fun d ⟨_, _, hwf, _⟩ => ?_
    have hlen := length_leBytes p.2 ((d.cell c.gid).w rs2.val).toNat
    have hshort : p.2 < 64 := access_short hn
    refine ⟨Device.cell_setCell_self .., ?_, fun j hj => Device.cell_setCell_of_ne _ _ hj, fun i hi => ?_, fun y hy => ?_⟩
    · rw [Device.write_of_short (by omega)]
      rfl
    · refine (memRead_memWriteN _ _ _ hwf).trans ?_
      rw [if_pos (by omega), Nat.add_sub_cancel_left, getD_leBytes _ hi]
    · exact Device.write_other _ _ _ hwf (by omega)
  case atomic =>
    obtain ⟨f, hi, hf⟩ := exec_atomic hp
    obtain rfl : f = p.2 := funext fun o => funext fun v => funext (hf o v)
    refine .of_onCell_eq hi (fun _ h => ⟨h.1, h.2.1⟩) (fun d ⟨_, _, _, ha, hlo, hhi, hal⟩ => by
      simp only [ha, cellAddr_cluster hlo (access_within (n := 4) (by decide) rfl hal hhi) hal, clusterByte_gid]
      exact rfl) fun d ⟨_, hready, hwf, _⟩ => ?_
    generalize clusterAddr c.die.val (64 * c.block.val + c.cluster.val) (a - 0x1_0000) = at_
    have hlen (v : Nat) : (leBytes 4 v).length = 4 := length_leBytes 4 v
    have hcell (y : Cell) (v : Nat) : ((d.setCell c.gid y).write at_ (leBytes 4 v)).cell c.gid = y := Device.cell_setCell_self ..
    have hword (y : Cell) (v : Word) : ((d.setCell c.gid y).write at_ (leBytes 4 v.toNat)).readLe at_ 4 = v.toNat := by
      have h := Device.readLe_write (d := d.setCell c.gid y) (a := at_) (leBytes 4 v.toNat) hwf
      rw [hlen, ofLe_leBytes] at h
      exact h.trans (Nat.mod_eq_of_lt v.isLt)
    simp only [hcell, hword]
    refine ⟨Cell.setW_wroteReg rd _ hready.2.2.1, ?_, trivial, fun y hy => ?_, fun j hj => Device.cell_setCell_of_ne _ _ hj, ?_⟩
    · rw [Cell.advance, Cell.setW_eq]
    · exact Device.write_other _ _ _ hwf (by rw [hlen]; exact hy)
    · rw [Device.write_of_short (by rw [hlen]; decide)]
      rfl

end Sys2Proof.Machine
end

section
/-!
SUPPORT. Exceptions of cells (R194, R195): the registers that record one, the cell after its restart, and what else an exception changes.
-/

namespace Sys2Proof.Machine

variable {d : Device} {c : CellId} {g die code : Nat}

/-! ### The registers of an exception (R194) -/

/-- The registers of a die that hold its last cell exception and the count. -/
def exceptionRegs (die : Nat) : List Nat := [Reg.CELL_LAST_EXC die, Reg.CELL_LAST_EXC_TAG die, Reg.CELL_EXC_COUNT die]

/-- The device with an exception in the registers of a die. -/
def Device.logException (d : Device) (die v tag : Nat) : Device :=
  ((d.setReg (Reg.CELL_LAST_EXC die) (BitVec.ofNat 64 v)).setReg (Reg.CELL_LAST_EXC_TAG die) (BitVec.ofNat 64 tag)).count (Reg.CELL_EXC_COUNT die) 64 1

theorem exceptionRegs_apart (die : Nat) : Reg.CELL_LAST_EXC die ≠ Reg.CELL_LAST_EXC_TAG die ∧ Reg.CELL_LAST_EXC die ≠ Reg.CELL_EXC_COUNT die ∧
    Reg.CELL_LAST_EXC_TAG die ≠ Reg.CELL_EXC_COUNT die := by
  simp only [Reg.CELL_LAST_EXC, Reg.CELL_LAST_EXC_TAG, Reg.CELL_EXC_COUNT]
  omega

theorem cellReg_not_recorderReg {o : Nat} : dieBase die + o ∉ recorderRegs := by
  simp only [recorderRegs, Reg.EVR_SEQ_NEXT, Reg.EVR_DROPPED, dieBase, List.mem_cons, List.not_mem_nil, or_false]
  omega

theorem Device.logException_post {v tag : Nat} (hwf : d.regsWf) {e : Device} (he : e = d.logException die v tag) :
    e.reg (Reg.CELL_LAST_EXC die) = BitVec.ofNat 64 v ∧ e.reg (Reg.CELL_LAST_EXC_TAG die) = BitVec.ofNat 64 tag ∧
    d.counted e (Reg.CELL_EXC_COUNT die) 1 ∧ d.sameRegsBut e (exceptionRegs die) ∧ e.regsWf ∧ e = { d with regs := e.regs } := by
  subst he
  obtain ⟨h1, h2, h3⟩ := exceptionRegs_apart die
  have hwf1 := Device.setReg_regsWf (Reg.CELL_LAST_EXC die) (BitVec.ofNat 64 v) hwf
  have hwf2 := Device.setReg_regsWf (Reg.CELL_LAST_EXC_TAG die) (BitVec.ofNat 64 tag) hwf1
  refine ⟨?_, ?_, ?_, fun j hj => ?_, Device.bumpBy_regsWf _ _ _ hwf2, rfl⟩
  · rw [Device.logException, Device.reg_count_of_ne h2, Device.reg_setReg_of_ne _ h1, Device.reg_setReg_self _ _ hwf]
  · rw [Device.logException, Device.reg_count_of_ne h3, Device.reg_setReg_self _ _ hwf1]
  · refine (Device.fld_count_self hwf2).trans ?_
    rw [Device.fld_of_reg ((Device.reg_setReg_of_ne _ h3.symm).trans (Device.reg_setReg_of_ne _ h2.symm))]
  · simp only [exceptionRegs, List.mem_cons, List.not_mem_nil, or_false, not_or] at hj
    rw [Device.logException, Device.reg_count_of_ne hj.2.2, Device.reg_setReg_of_ne _ hj.2.1, Device.reg_setReg_of_ne _ hj.1]

/-- The request of an abort acts on the tasks and the requests alone. -/
theorem Device.requestAbort_str_congr {d' : Device} {tag : Nat} (h : d'.str = d.str) : (d'.requestAbort tag code).str = (d.requestAbort tag code).str := by
  have hfind : d'.findTask tag = d.findTask tag := by rw [Device.findTask, h]; rfl
  unfold Device.requestAbort
  rw [hfind]
  split
  · simp only [Device.setTask, Device.updStr, h]
    split
    · rfl
    · exact h
  · exact h

/-- EXC of a cell that took an exception (R194). -/
def Cell.withExc (x : Cell) (code : Nat) : Cell := { x with exc := code + 2 ^ 16 * (x.pc.toNat / 4 % 4096) }

/-- What a cell exception records and leaves. -/
theorem Device.noteException_post {sev arg : Nat} (hwf : d.regsWf) {e : Device} (he : e = d.noteException g code sev arg) :
    e.cells = (d.setCell g ((d.cell g).withExc code)).cells ∧
    e.reg (Reg.CELL_LAST_EXC (g / 2 ^ 18)) = BitVec.ofNat 64 (code + 2 ^ 16 * g + 2 ^ 36 * ((d.cell g).pc.toNat / 4 % 4096)) ∧
    e.reg (Reg.CELL_LAST_EXC_TAG (g / 2 ^ 18)) = BitVec.ofNat 64 (d.cell g).tag ∧ d.counted e (Reg.CELL_EXC_COUNT (g / 2 ^ 18)) 1 ∧
    d.sameRegsBut e (exceptionRegs (g / 2 ^ 18) ++ recorderRegs) ∧ e.str = (d.requestAbort (d.cell g).tag code).str ∧
    e = { d with cells := e.cells, regs := e.regs, fault := e.fault, str := e.str } := by
  obtain ⟨f, hf⟩ : ∃ f, f = (d.setCell g ((d.cell g).withExc code)).logException (g / 2 ^ 18)
    (code + 2 ^ 16 * g + 2 ^ 36 * ((d.cell g).pc.toNat / 4 % 4096)) (d.cell g).tag := ⟨_, rfl⟩
  obtain ⟨r, hr⟩ : ∃ r, r = f.record { code := code, severity := sev, domain := if sev = 4 then 1 else 0, tag := (d.cell g).tag, arg0 := arg
                                       loc := { kind := 1, die := g / 2 ^ 18, index := g / 2 ^ 12 % 64, sub := g } } := ⟨_, rfl⟩
  have her : e = r.requestAbort (d.cell g).tag code := by rw [he, hr, hf]; rfl
  obtain ⟨hlast, htag, hcount, hregs, -, hframe⟩ := Device.logException_post (d := d.setCell g ((d.cell g).withExc code)) hwf hf
  have hrec : ∀ j, j ∉ recorderRegs → e.reg j = f.reg j := fun j hj => by
    rw [her, Device.requestAbort_frame, hr]
    exact Device.record_sameRegsBut _ j hj
  have hrframe : r = { d with cells := r.cells, regs := r.regs, fault := r.fault } := by
    rw [hr, Device.record_frame, hframe]
    rfl
  have hstr : e.str = (d.requestAbort (d.cell g).tag code).str := her ▸ Device.requestAbort_str_congr (by rw [hrframe])
  have hcells : e.cells = r.cells := by rw [her, Device.requestAbort_frame]
  refine ⟨?_, (hrec _ cellReg_not_recorderReg).trans hlast, (hrec _ cellReg_not_recorderReg).trans htag,
    (Device.fld_of_reg (hrec _ cellReg_not_recorderReg)).trans hcount, fun j hj => ?_, hstr, ?_⟩
  · rw [hcells, hr, Device.record_cells, hframe]
  · rw [List.mem_append, not_or] at hj
    exact (hrec j hj.2).trans (hregs j hj.1)
  · rw [her, Device.requestAbort_frame, hrframe]

/-! ### Restart (R195) -/

/-- A restarted cell. -/
def Cell.restarted (x : Cell) (entry : Nat) : Cell :=
  { x with item := none, regs := List.replicate 32 0, tag := 0, gkey := 0, blocked := none, pc := BitVec.ofNat 32 (4 * entry) }

/-- The entry of the program that a cell runs. -/
def Device.entryOf (d : Device) (g : Nat) : Nat := ((d.placement g).map (·.entry)).getD 0

theorem Device.placement_congr {d' : Device} (h : d'.plan = d.plan) (g : Nat) : d'.placement g = d.placement g := by
  rw [Device.placement, h]
  rfl

theorem Device.completeItem_regs : (d.completeItem g).regs = d.regs := by rw [(Device.completeItem_post (d := d) (g := g) rfl).2.2.2.2]

theorem Device.restart_of_run (h : d.fld (Reg.CELL_CTRL (g / 2 ^ 18)) Fd.CELL_CTRL_EXC_HALT = 0) :
    d.restart g = (d.completeItem g).setCell g ((d.cell g).restarted (d.entryOf g)) := by
  obtain ⟨hself, -, -, -, hframe⟩ := Device.completeItem_post (d := d) (g := g) rfl
  have hfld : (d.completeItem g).fld (Reg.CELL_CTRL (g / 2 ^ 18)) Fd.CELL_CTRL_EXC_HALT = 0 := (Device.fld_congr Device.completeItem_regs _).trans h
  have hplan : (d.completeItem g).placement g = d.placement g := Device.placement_congr (by rw [hframe]) g
  simp only [Device.restart, hfld, hself, hplan]
  rfl

/-- While EXC_HALT = 1 a cell that took an exception halts, with its registers kept. -/
theorem Device.restart_of_halt (h : d.fld (Reg.CELL_CTRL (g / 2 ^ 18)) Fd.CELL_CTRL_EXC_HALT = 1) :
    d.restart g = (d.completeItem g).setCell g { d.cell g with item := none, state := .halted, blocked := none } := by
  obtain ⟨hself, -⟩ := Device.completeItem_post (d := d) (g := g) rfl
  have hfld : (d.completeItem g).fld (Reg.CELL_CTRL (g / 2 ^ 18)) Fd.CELL_CTRL_EXC_HALT = 1 := (Device.fld_congr Device.completeItem_regs _).trans h
  simp only [Device.restart, hfld, hself, if_true]

theorem cellCtrl_untouched : Reg.CELL_CTRL die ∉ exceptionRegs die ++ recorderRegs := by
  rw [List.mem_append, not_or]
  refine ⟨?_, cellReg_not_recorderReg⟩
  simp only [exceptionRegs, Reg.CELL_CTRL, Reg.CELL_LAST_EXC, Reg.CELL_LAST_EXC_TAG, Reg.CELL_EXC_COUNT, List.mem_cons, List.not_mem_nil, or_false]
  omega

/-- A running cell that takes an exception while EXC_HALT = 0: what is recorded, and the cell restarted. -/
theorem Device.cellException_excepted {arg : Nat} (hwf : d.regsWf) (hrun : (d.cell c.gid).state = .running)
    (hhalt : d.fld (Reg.CELL_CTRL c.die.val) Fd.CELL_CTRL_EXC_HALT = 0) :
    d.excepted (d.cellException c.gid code arg) c code (d.cell c.gid).pc.toNat := by
  obtain ⟨e, he⟩ : ∃ e, e = d.noteException c.gid code 3 arg := ⟨_, rfl⟩
  obtain ⟨hcells, hlast, htag, hcount, hregs, -, hframe⟩ := Device.noteException_post hwf he
  rw [gid_die] at hlast htag hcount hregs
  have hself : e.cell c.gid = (d.cell c.gid).withExc code := (Device.cell_of_cells hcells _).trans (Device.cell_setCell_self ..)
  have hrestart := Device.restart_of_run (d := e) (g := c.gid) (by rw [gid_die, Device.fld_of_reg (hregs _ cellCtrl_untouched)]; exact hhalt)
  have hentry : e.entryOf c.gid = d.entryOf c.gid := by rw [Device.entryOf, Device.placement_congr (by rw [hframe])]; rfl
  rw [Device.cellException, ← he, hrestart, hself, hentry]
  simp only [Device.excepted, Device.cell_setCell_self]
  have hr : ∀ j, ((e.completeItem c.gid).setCell c.gid (((d.cell c.gid).withExc code).restarted (d.entryOf c.gid))).reg j = e.reg j :=
    fun j => Device.reg_congr Device.completeItem_regs
  exact ⟨rfl, (hr _).trans hlast, (hr _).trans htag, (Device.fld_of_reg (hr _)).trans hcount, rfl, rfl, rfl, rfl, rfl, hrun, rfl⟩

/-- The exception of a cell whose PC and registers an instruction has moved first. -/
theorem Device.excepted_of_setCell {d' : Device} {y : Cell} {pc : Nat} (htag : y.tag = (d.cell c.gid).tag) (hstore : y.store = (d.cell c.gid).store)
    (h : (d.setCell c.gid y).excepted d' c code pc) : d.excepted d' c code pc := by
  simp only [Device.excepted, Device.cell_setCell_self, htag, hstore] at h
  exact h

end Sys2Proof.Machine
end

section
/-!
SUPPORT. Branches and jumps (R179, R180): where the PC goes, and the statement about them.
-/

namespace Sys2Proof.Machine

variable {d : Device} {c : CellId} {g len : Nat} {x : Cell} {t : Word} {rs1 rs2 : Reg} {off : BitVec 16}

/-- A target within the code. -/
theorem Device.jump_within (hlen : (d.placement g).map (·.code.length) = some len) (hal : t.toNat % 4 = 0) (hlt : t.toNat < len) :
    d.jump g x t = d.setCell g { x with pc := t } := by
  have hplace : (d.setCell g { x with pc := t }).placement g = d.placement g := rfl
  simp only [Device.jump, hplace, hlen, hal, Option.getD_some, Nat.not_le.2 hlt]
  rfl

/-- A target outside the code, or misaligned, takes ERR_CELL_PC with the target as the PC. -/
theorem Device.jump_outside (hlen : (d.placement g).map (·.code.length) = some len) (h : t.toNat % 4 ≠ 0 ∨ len ≤ t.toNat) :
    d.jump g x t = (d.setCell g { x with pc := t }).cellException g 0x0512 0 := by
  have hplace : (d.setCell g { x with pc := t }).placement g = d.placement g := rfl
  simp only [Device.jump, hplace, hlen, Option.getD_some]
  exact if_pos (by simpa using h)

/-- The branch instructions, each with the comparison that it takes. -/
def branchInstrs (c : CellId) (rs1 rs2 : Reg) (off : BitVec 16) : List (Instr × (Word → Word → Bool)) :=
  [(.beq c rs1 rs2 off, fun a b => a = b), (.bne c rs1 rs2 off, fun a b => a ≠ b), (.blt c rs1 rs2 off, fun a b => a.toInt < b.toInt),
    (.bge c rs1 rs2 off, fun a b => b.toInt ≤ a.toInt), (.bltu c rs1 rs2 off, fun a b => a.toNat < b.toNat),
    (.bgeu c rs1 rs2 off, fun a b => b.toNat ≤ a.toNat)]

theorem exec_branch {p : Instr × (Word → Word → Bool)} (hp : p ∈ branchInstrs c rs1 rs2 off) :
    ∃ q, (∀ s, exec p.1 s = s.upd (fun d => d.branch c rs1 rs2 off q)) ∧ ∀ a b, q a b = p.2 a b := by
  revert p
  simp only [branchInstrs, List.forall_mem_cons]
  exact ⟨⟨_, fun _ => rfl, fun _ _ => rfl⟩, ⟨_, fun _ => rfl, fun a b => (decide_not ..).symm⟩, ⟨_, fun _ => rfl, fun _ _ => rfl⟩,
    ⟨_, fun _ => rfl, fun a b => by simp [BitVec.slt, ← decide_not]⟩, ⟨_, fun _ => rfl, fun _ _ => rfl⟩,
    ⟨_, fun _ => rfl, fun a b => by simp [BitVec.ult, ← decide_not]⟩, nofun⟩

/-- An instruction whose jump leaves the code raises the exception of its cell at the target. -/
theorem Device.jump_excepted (hwf : d.regsWf) (htag : x.tag = (d.cell c.gid).tag) (hstore : x.store = (d.cell c.gid).store) (hrun : x.state = .running)
    (hhalt : d.fld (Reg.CELL_CTRL c.die.val) Fd.CELL_CTRL_EXC_HALT = 0) (hlen : (d.placement c.gid).map (·.code.length) = some len)
    (h : t.toNat % 4 ≠ 0 ∨ len ≤ t.toNat) : d.excepted (d.jump c.gid x t) c 0x0512 t.toNat := by
  rw [Device.jump_outside hlen h]
  refine Device.excepted_of_setCell (y := { x with pc := t }) htag hstore ?_
  have hex := Device.cellException_excepted (d := d.setCell c.gid { x with pc := t }) (c := c) (code := 0x0512) (arg := 0) hwf
    (by rw [Device.cell_setCell_self]; exact hrun) hhalt
  rwa [Device.cell_setCell_self (c := { x with pc := t })] at hex

/-- A cell that jumps within its code writes the return address and goes on at the target. -/
theorem Device.link_within (rd : Reg) (hready : d.cellReady c) (hlen : (d.placement c.gid).map (·.code.length) = some len) (hal : t.toNat % 4 = 0)
    (hlt : t.toNat < len) {d' : Device} (hd : d' = d.jump c.gid ((d.cell c.gid).setW rd.val ((d.cell c.gid).pc + 4)) t) :
    d.oneCell d' c.gid ∧ (d.cell c.gid).wroteReg (d'.cell c.gid) rd.val ((d.cell c.gid).pc + 4) ∧
      d'.cell c.gid = { d.cell c.gid with regs := (d'.cell c.gid).regs, pc := t } := by
  rw [hd, Device.jump_within hlen hal hlt, Device.cell_setCell_self]
  exact ⟨d.setCell_oneCell _ _, Cell.setW_wroteReg rd _ hready.2.2.1, by rw [Cell.setW_eq]⟩

/-- A cell that jumps out of its code takes the exception, whatever the return address. -/
theorem Device.link_outside (rd : Reg) (hwf : d.regsWf) (hready : d.cellReady c) (hhalt : d.fld (Reg.CELL_CTRL c.die.val) Fd.CELL_CTRL_EXC_HALT = 0)
    (hlen : (d.placement c.gid).map (·.code.length) = some len) (h : t.toNat % 4 ≠ 0 ∨ len ≤ t.toNat) {d' : Device}
    (hd : d' = d.jump c.gid ((d.cell c.gid).setW rd.val ((d.cell c.gid).pc + 4)) t) : d.excepted d' c 0x0512 t.toNat := by
  rw [hd, Cell.setW_eq]
  exact Device.jump_excepted hwf rfl rfl hready.2.1 hhalt hlen h

/-- Settles O29: a branch or a jump comes to one change of the PC, or to the exception of a PC outside the code. -/
theorem branchesAndJumps : Obligations.BranchesAndJumps := by
  refine ⟨fun c rs1 rs2 off len t p hp => ?branch, fun c rd imm len t => ?jal, fun c rd rs1 imm len t => ?jalr, fun c rs1 rs2 off len t p hp => ?branchOut,
    fun c rs1 rs2 off p hp => ?untaken, fun c rd rs1 imm len t => ?jalrOut, fun c rd imm len t => ?jalOut⟩
  case branch =>
    obtain ⟨q, hi, hq⟩ := exec_branch hp
    refine .of_onCell_eq hi (fun _ h => ⟨h.1, h.2.1⟩) (e := fun d => d.setCell c.gid { d.cell c.gid with
      pc := if p.2 ((d.cell c.gid).w rs1.val) ((d.cell c.gid).w rs2.val) then t else (d.cell c.gid).pc + 4 }) (fun d ⟨_, _, hlen, ht, hal, hlt⟩ => ?_)
      fun d _ => ⟨d.setCell_oneCell _ _, Device.cell_setCell_self ..⟩
    rw [hq]
    split
    · exact (congrArg _ ht).trans (Device.jump_within hlen hal hlt)
    · rfl
  case jal =>
    exact .of_onCell (fun s => show execJal c rd imm s = s.upd _ from rfl) (fun _ h => ⟨h.1, h.2.1⟩) fun d ⟨_, hready, hlen, ht, hal, hlt⟩ =>
      Device.link_within rd hready hlen hal hlt (congrArg _ ht)
  case jalr =>
    exact .of_onCell (fun s => show execJalr c rd rs1 imm s = s.upd _ from rfl) (fun _ h => ⟨h.1, h.2.1⟩) fun d ⟨_, hready, hlen, ht, hal, hlt⟩ =>
      Device.link_within rd hready hlen hal hlt (congrArg _ ht)
  case branchOut =>
    obtain ⟨q, hi, hq⟩ := exec_branch hp
    refine .of_onCell_eq hi (fun _ h => ⟨h.1, h.2.2.1⟩) (e := fun d => d.jump c.gid (d.cell c.gid) t) (fun d ⟨_, _, _, htaken, _, ht, _⟩ => ?_)
      fun d ⟨_, hwf, hready, _, hlen, _, hout, hhalt⟩ => Device.jump_excepted hwf rfl rfl hready.2.1 hhalt hlen hout
    rw [hq, if_pos htaken]
    exact congrArg _ ht
  case untaken =>
    obtain ⟨q, hi, hq⟩ := exec_branch hp
    refine .of_onCell_eq hi (fun _ h => ⟨h.1, h.2.1⟩) (e := fun d => d.setCell c.gid (d.cell c.gid).advance) (fun d ⟨_, _, huntaken⟩ => ?_)
      fun d _ => ⟨d.setCell_oneCell _ _, Device.cell_setCell_self ..⟩
    rw [hq, huntaken]
    rfl
  case jalrOut =>
    exact .of_onCell (fun s => show execJalr c rd rs1 imm s = s.upd _ from rfl) (fun _ h => ⟨h.1, h.2.2.1⟩)
      fun d ⟨_, hwf, hready, hlen, ht, hout, hhalt⟩ => Device.link_outside rd hwf hready hhalt hlen hout (congrArg _ ht)
  case jalOut =>
    exact .of_onCell (fun s => show execJal c rd imm s = s.upd _ from rfl) (fun _ h => ⟨h.1, h.2.2.1⟩)
      fun d ⟨_, hwf, hready, hlen, ht, hout, hhalt⟩ => Device.link_outside rd hwf hready hhalt hlen hout (congrArg _ ht)

end Sys2Proof.Machine
end

section
/-!
SUPPORT. Exceptions and the tasks they abort (R160, R194, R195): addresses that no store answers, and the entry of the task in TAG after the
exception of its cell.
-/

namespace Sys2Proof.Machine

variable {d : Device} {c : CellId} {g code a n k tag : Nat} {t : Task}

/-! ### Addresses that no store answers (R170, R180) -/

theorem cellAddr_unmapped (hlo : 0x400 ≤ a) (hn : n ≠ 0) (h : a < 0x1_0000 ∨ 0x3_0000 ≤ a) : cellAddr a n = .bad 0x0510 := by
  rw [cellAddr, if_neg (by omega), if_neg (by omega)]

theorem cellAddr_misaligned (h : a + n ≤ 0x400 ∨ 0x1_0000 ≤ a ∧ a + n ≤ 0x3_0000) (hal : a % n ≠ 0) : cellAddr a n = .bad 0x0511 := by
  by_cases hpriv : a + n ≤ 0x400
  · rw [cellAddr, if_pos hpriv, if_neg hal]
  · rw [cellAddr, if_neg hpriv, if_pos (h.resolve_left hpriv), if_neg hal]

/-! ### The task in TAG (R160, R194) -/

/-- The end of a task leaves one whose abort is under way, and the requests already made. -/
theorem Device.tryEnd_aborting (hrise : Map.rising d.str.tasks = true) (hk : d.str.tasks.get? k = some t) (ha : t.aborting = true) (tag : Nat) :
    (d.tryEnd tag).str.tasks.get? k = some t ∧ ∃ more, (d.tryEnd tag).str.abortReqs = d.str.abortReqs ++ more := by
  have hsame : d.str.tasks.get? k = some t ∧ ∃ more, d.str.abortReqs = d.str.abortReqs ++ more := ⟨hk, [], (List.append_nil _).symm⟩
  unfold Device.tryEnd
  split
  · exact hsame
  next k' t' hf =>
    split
    next hend =>
      simp only [Bool.and_eq_true, decide_eq_true_eq, Bool.not_eq_true'] at hend
      obtain ⟨⟨⟨⟨hopen, hcalm⟩, -⟩, -⟩, -⟩ := hend
      have hne : k ≠ k' := by
        rintro rfl
        have h := Map.get?_of_mem hrise (Device.findTask_some hf).2.1
        obtain rfl : t' = t := Option.some.inj (h.symm.trans hk)
        exact Bool.false_ne_true (hcalm.symm.trans ha)
      split
      · rw [Device.requestAbort_of_open hf hopen hcalm]
        exact ⟨(Map.get?_put_of_ne _ _ hne).trans hk, _, rfl⟩
      · extract_lets e
        have he : e.str = d.str := by
          refine List.foldlRecOn (motive := fun (e : Device) => e.str = d.str) _ _ rfl fun e he x _ => ?_
          rw [Device.sendLink_frame, he]
        have hput (x : Task) : (e.setTask k' x).str.tasks.get? k = some t ∧ ∃ more, (e.setTask k' x).str.abortReqs = d.str.abortReqs ++ more :=
          ⟨(Map.get?_put_of_ne _ _ hne).trans (he ▸ hk), [], by rw [List.append_nil, ← he]; rfl⟩
        split
        · exact hput _
        · exact hput _
    · exact hsame

theorem Device.completeItem_aborting (hrise : Map.rising d.str.tasks = true) (hk : d.str.tasks.get? k = some t) (ha : t.aborting = true) (g : Nat) :
    (d.completeItem g).str.tasks.get? k = some t ∧ ∃ more, (d.completeItem g).str.abortReqs = d.str.abortReqs ++ more := by
  unfold Device.completeItem
  extract_lets x
  split
  · exact ⟨hk, [], (List.append_nil _).symm⟩
  next i _ =>
    obtain ⟨f, hf⟩ : ∃ f, f = ((d.setCell g { x with item := none }).dropFlow (g / 64) i.flow).settle (g / 64) := ⟨_, rfl⟩
    have hstr : f.str = d.str := by
      rw [hf, Device.settle_frame, Device.dropFlow_frame]
      rfl
    rw [← hf, ← hstr]
    exact Device.tryEnd_aborting (by rw [hstr]; exact hrise) (by rw [hstr]; exact hk) ha _

theorem Device.restart_str : (d.restart g).str = (d.completeItem g).str := by
  unfold Device.restart
  extract_lets
  split <;> rfl

/-- The exception of a cell asks its task to abort with the code, and nothing that follows takes that back. -/
theorem Device.cellException_aborts {arg : Nat} (hwf : d.regsWf) (hrise : Map.rising d.str.tasks = true)
    (hf : d.findTask (d.cell g).tag = some (k, t)) (ho : t.state = .open) (ha : t.aborting = false) :
    ((d.cellException g code arg).str.tasks.get? k).map (fun x => (x.aborting, x.code)) = some (true, code) ∧
      ∃ more, (d.cellException g code arg).str.abortReqs = d.str.abortReqs ++ [((d.cell g).tag, code)] ++ more := by
  obtain ⟨e, he⟩ : ∃ e, e = d.noteException g code 3 arg := ⟨_, rfl⟩
  obtain ⟨-, -, -, -, -, hstr, -⟩ := Device.noteException_post hwf he
  rw [Device.requestAbort_of_open hf ho ha] at hstr
  obtain ⟨hget, more, hreqs⟩ := Device.completeItem_aborting (d := e) (k := k) (t := { t with aborting := true, code := code })
    (by rw [hstr]; exact Map.rising_put _ _ hrise) (by rw [hstr]; exact Map.get?_put_self ..) rfl g
  rw [Device.cellException, ← he, Device.restart_str, hget, hreqs, hstr]
  exact ⟨rfl, more, rfl⟩

/-- The exception of a cell changes neither memory nor other cells. -/
theorem Device.cellException_frame {arg : Nat} (hwf : d.regsWf) :
    (d.cellException g code arg).mem = d.mem ∧ ∀ j, j ≠ g → (d.cellException g code arg).cell j = d.cell j := by
  obtain ⟨e, he⟩ : ∃ e, e = d.noteException g code 3 arg := ⟨_, rfl⟩
  obtain ⟨hcells, -, -, -, -, -, hframe⟩ := Device.noteException_post hwf he
  obtain ⟨-, hother, -, -, hitem⟩ := Device.completeItem_post (d := e) (g := g) rfl
  rw [Device.cellException, ← he]
  have hset (y : Cell) : ((e.completeItem g).setCell g y).mem = d.mem ∧ ∀ j, j ≠ g → ((e.completeItem g).setCell g y).cell j = d.cell j := by
    refine ⟨?_, fun j hj => (Device.cell_setCell_of_ne _ _ hj).trans ((hother j hj).trans ((Device.cell_of_cells hcells j).trans
      (Device.cell_setCell_of_ne _ _ hj)))⟩
    rw [Device.setCell_mem, hitem, hframe]
  unfold Device.restart
  extract_lets
  split
  · exact hset _
  · exact hset _

/-- While EXC_HALT = 1 the exception of a cell halts it, with its registers kept. -/
theorem Device.cellException_halts {arg : Nat} (hwf : d.regsWf) (hhalt : d.fld (Reg.CELL_CTRL (g / 2 ^ 18)) Fd.CELL_CTRL_EXC_HALT = 1) :
    (d.cellException g code arg).cell g = { (d.cell g).withExc code with item := none, state := .halted, blocked := none } := by
  obtain ⟨e, he⟩ : ∃ e, e = d.noteException g code 3 arg := ⟨_, rfl⟩
  obtain ⟨hcells, -, -, -, hregs, -, -⟩ := Device.noteException_post hwf he
  have hself : e.cell g = (d.cell g).withExc code := (Device.cell_of_cells hcells _).trans (Device.cell_setCell_self ..)
  rw [Device.cellException, ← he, Device.restart_of_halt ((Device.fld_of_reg (hregs _ cellCtrl_untouched)).trans hhalt), Device.cell_setCell_self, hself]

end Sys2Proof.Machine
end

section
/-!
SUPPORT. Faults of cells and clusters (R196, R197, R543, R547): an entry that waits in an error queue or begins, the fence of a cell, and the
statement about cell exceptions.
-/

namespace Sys2Proof.Machine

variable {d : Device} {c : CellId} {g q code : Nat} {ev : EventRec} {h : ErrEntry}

/-! ### Error queues (R547) -/

@[simp] theorem Device.errq_setErrq_self (d : Device) (q : Nat) (x : ErrQueue) : (d.setErrq q x).errq q = x := Map.getD_put_self ..

/-- The entry that a fault becomes in a queue of a compute die. -/
def Device.errEntry (d : Device) (q : Nat) (ev : EventRec) : ErrEntry :=
  { event := d.stamp { ev with domain := if ev.severity = 5 then (if 4 ≤ ev.loc.die then 4 else 3) else if ev.contains then ev.loc.domain else 0 }
    arrival := (d.errq q).arrivals, subsumed := false }

theorem Device.errqEnter_of_room (hq : q < 4) (hroom : (d.errq q).depth < 64) : d.errqEnter q ev = d.errqJoin q (d.errEntry q ev).event := by
  simp only [Device.errqEnter, Nat.not_le.2 hq, Nat.not_le.2 hroom, if_false]
  rfl

/-- A fault that is no graver than the one in hand waits. -/
theorem Device.errqEnter_waits (hq : q < 4) (hroom : (d.errq q).depth < 64) (hh : (d.errq q).handling = some h) (hsev : ev.severity ≤ h.event.severity) :
    d.errqEnter q ev =
      d.setErrq q { d.errq q with arrivals := (d.errq q).arrivals + 1, waiting := (d.errq q).waiting ++ [d.errEntry q ev] } := by
  have hle : ¬ h.event.severity < (d.errEntry q ev).event.severity := Nat.not_lt.2 hsev
  rw [Device.errqEnter_of_room hq hroom]
  simp only [Device.errqJoin, hh, if_neg hle]
  rfl

/-- Where no fault is in hand, one that enters begins. -/
theorem Device.errqEnter_begins (hq : q < 4) (hroom : (d.errq q).depth < 64) (hh : (d.errq q).handling = none) :
    d.errqEnter q ev = (d.setErrq q { d.errq q with arrivals := (d.errq q).arrivals + 1 }).errqBegin q (d.errEntry q ev) := by
  rw [Device.errqEnter_of_room hq hroom]
  simp only [Device.errqJoin, hh]
  rfl

/-! ### A fenced cell (R196, R218) -/

/-- The location of a cell. -/
def cellLoc (g : Nat) : Loc := { kind := 1, die := g / 2 ^ 18, index := g / 2 ^ 12 % 64, sub := g }

/-- The device but for a cell, which may lose its item, and for what leaves it. -/
structure Device.GivesUp (d e : Device) (g : Nat) : Prop where
  cell : ∃ i, e.cell g = { d.cell g with item := i }
  other : ∀ j, j ≠ g → e.cell j = d.cell j
  mem : e.mem = d.mem
  fault : e.fault = d.fault

theorem Device.GivesUp.refl (d : Device) (g : Nat) : d.GivesUp d g := ⟨⟨_, rfl⟩, fun _ _ => rfl, rfl, rfl⟩

theorem Device.GivesUp.trans {d e f : Device} (h1 : d.GivesUp e g) (h2 : e.GivesUp f g) : d.GivesUp f g := by
  obtain ⟨⟨i, hi⟩, ho, hm, hf⟩ := h1
  obtain ⟨⟨j, hj⟩, ho', hm', hf'⟩ := h2
  exact ⟨⟨j, hj.trans (by rw [hi])⟩, fun k hk => (ho' k hk).trans (ho k hk), hm'.trans hm, hf'.trans hf⟩

theorem Device.withdrawPush_givesUp : d.GivesUp (d.withdrawPush g) g := by
  unfold Device.withdrawPush
  extract_lets mine back f
  split
  next x hx =>
    have hcell : d.cell g = x := by
      show (d.cells.get? g).getD _ = _
      rw [show d.cells.get? g = some x from hx]
      rfl
    exact ⟨⟨_, (Device.cell_setCell_self ..).trans (by rw [hcell])⟩, fun _ hj => Device.cell_setCell_of_ne _ _ hj, rfl, rfl⟩
  · exact ⟨⟨_, rfl⟩, fun _ _ => rfl, rfl, rfl⟩

theorem Device.giveUpItem_givesUp : d.GivesUp (d.giveUpItem g) g ∧ ((d.giveUpItem g).cell g).item = none := by
  have hw := Device.withdrawPush_givesUp (d := d) (g := g)
  unfold Device.giveUpItem
  extract_lets f
  split
  next i hi =>
    obtain ⟨hself, hother, -, -, hframe⟩ := Device.completeItem_post (d := f) (g := g) rfl
    have hrel : ∀ l : List Handle, ∃ s, l.foldl (fun d h => d.releaseHandle (g / 4096) h) (f.completeItem g) = { f.completeItem g with str := s } :=
      fun l => ⟨_, Device.releaseAll_frame (d := f.completeItem g) (fun _ _ => g / 4096) id l⟩
    obtain ⟨s, hs⟩ := hrel (i.operands.filter (fun h => h.addr ∉ i.spent))
    rw [hs]
    refine ⟨hw.trans ⟨⟨none, hself⟩, hother, ?_, ?_⟩, congrArg Cell.item hself⟩
    · show (f.completeItem g).mem = f.mem
      rw [hframe]
    · show (f.completeItem g).fault = f.fault
      rw [hframe]
  next hnone => exact ⟨hw, hnone⟩

theorem Device.giveUpAll_givesUp (l : Map Cell) (hl : ∀ e ∈ l, e.1 = g) (hne : l ≠ []) :
    d.GivesUp (l.foldl (fun d e => d.giveUpItem e.1) d) g ∧ ((l.foldl (fun d e => d.giveUpItem e.1) d).cell g).item = none := by
  obtain ⟨r, x, rfl⟩ := (List.eq_nil_or_concat l).resolve_left hne
  have hr : d.GivesUp (r.foldl (fun d e => d.giveUpItem e.1) d) g := by
    refine List.foldlRecOn (motive := fun (e : Device) => d.GivesUp e g) _ _ (.refl d g) fun e he y hy => ?_
    rw [hl y (by simp [hy])]
    exact he.trans Device.giveUpItem_givesUp.1
  have hx : x.1 = g := hl x (by simp)
  rw [List.concat_eq_append, List.foldl_concat, hx]
  exact ⟨hr.trans Device.giveUpItem_givesUp.1, Device.giveUpItem_givesUp.2⟩

theorem Map.mem_of_get? {β : Type} {m : Map β} {k : Nat} {v : β} (h : m.get? k = some v) : (k, v) ∈ m := by
  induction m with
  | nil => cases h
  | cons e m ih =>
    obtain ⟨j, w⟩ := e
    rw [Map.get?_cons] at h
    split at h
    next hj =>
      obtain rfl := Option.some.inj h
      exact hj ▸ List.mem_cons_self
    · exact List.mem_cons_of_mem _ (ih h)

theorem Device.cell_of_get? {x : Cell} (h : d.cells.get? g = some x) : d.cell g = x := by
  rw [Device.cell, Map.getD, h]
  rfl

/-- The fence of a cell stops it, takes its item, and leaves every other cell. -/
theorem Device.stopUnit_cell {x : Cell} (hx : d.cells.get? g = some x) {e : Device} (he : e = d.stopUnit (cellLoc g)) :
    e.cell g = { x with state := .fenced, blocked := none, item := none } ∧ (∀ j, j ≠ g → e.cell j = d.cell j) ∧ e.mem = d.mem ∧ e.fault = d.fault := by
  obtain ⟨s, hs⟩ : ∃ s, s = { d with cells := d.cells.mapVals (fun j y => if (cellLoc g).hasCell j then { y with state := .fenced, blocked := none } else y) } :=
    ⟨_, rfl⟩
  have hcell : ∀ j, (cellLoc g).hasCell j = decide (g = j) := fun _ => rfl
  have hgates : ∀ m : Map Gate, m.filter (fun e => (cellLoc g).hasCluster e.1) = [] := fun _ => List.filter_eq_nil_iff.2 fun _ _ => Bool.false_ne_true
  have hget : ∀ j, s.cells.get? j = (d.cells.get? j).map (fun y => if g = j then { y with state := .fenced, blocked := none } else y) := fun j => by
    rw [hs]
    simp only [Map.get?_mapVals, hcell, decide_eq_true_eq]
  have hself : s.cells.get? g = some { x with state := .fenced, blocked := none } := by
    rw [hget, hx, Option.map_some, if_pos rfl]
  have hother : ∀ j, j ≠ g → s.cell j = d.cell j := fun j hj => by
    rw [Device.cell, Device.cell, Map.getD, Map.getD, hget]
    simp only [if_neg (Ne.symm hj), Option.map_id']
  obtain ⟨⟨⟨i, hi⟩, ho, hm, hf⟩, hitem⟩ := Device.giveUpAll_givesUp (d := s) (g := g) (s.cells.filter (fun e => (cellLoc g).hasCell e.1))
    (fun y hy => by simpa [hcell, eq_comm] using (List.mem_filter.1 hy).2)
    (List.ne_nil_of_mem (List.mem_filter.2 ⟨Map.mem_of_get? hself, by simp [hcell]⟩))
  have hst : e = (s.cells.filter (fun e => (cellLoc g).hasCell e.1)).foldl (fun d e => d.giveUpItem e.1) s := by
    rw [he, hs]
    unfold Device.stopUnit
    simp only [hgates, List.foldl_nil]
  rw [← hst] at hi ho hm hf hitem
  refine ⟨?_, fun j hj => (ho j hj).trans (hother j hj), by rw [hm, hs], by rw [hf, hs]⟩
  rw [hi] at hitem ⊢
  rw [Device.cell_of_get? hself, show i = none from hitem]

theorem Device.abortAll_frame (tags : List Nat) (code : Nat) : d.abortAll tags code = { d with str := (d.abortAll tags code).str } := by
  refine List.foldlRecOn (motive := fun (e : Device) => e = { d with str := e.str }) _ _ rfl fun e he x _ => ?_
  rw [Device.requestAbort_frame, he]

/-- In an empty map an entry of a unit below the die takes number 0 (R550). -/
theorem Device.fmapAdd_of_empty {e : FaultEntry} (hmap : d.fault.fmap = []) :
    d.fmapAdd e = some ({ d with fault := { d.fault with fmap := [(0, e)] } }).fmapChanged := by
  have hfirst : (List.range 2048).find? (fun i => ((Map.get? ([] : Map FaultEntry) i).isNone)) = some 0 := by
    rw [List.range_succ_eq_map]
    rfl
  have hroom : ¬ (e.kind != 5 && decide (2044 ≤ (d.fault.fmap.filter (fun x => x.2.kind != 5)).length)) = true := by simp [hmap]
  rw [Device.fmapAdd, if_neg hroom, hmap, hfirst]
  rfl

/-- The containment of a fault of a cell, with an empty map: the cell is fenced and enters the map. -/
theorem Device.containEntry_cell {x : Cell} (hmap : d.fault.fmap = []) (hx : d.cells.get? g = some x) (hsev : ev.severity = 4) (hloc : ev.loc = cellLoc g)
    {t : Device} (ht : t = (d.containEntry ev).1) :
    (d.containEntry ev).2 = true ∧ t.cell g = { x with state := .fenced, blocked := none, item := none } ∧ (∀ j, j ≠ g → t.cell j = d.cell j) ∧
    t.mem = d.mem ∧ t.fault.fmap = [(0, (cellLoc g).entry ev.code false)] := by
  obtain ⟨r, hr⟩ : ∃ r, r = d.requestAbort ev.tag ev.code := ⟨_, rfl⟩
  have hrframe : r = { d with str := r.str } := by rw [hr, Device.requestAbort_frame]
  obtain ⟨m, hm⟩ : ∃ m, m = ({ r with fault := { r.fault with fmap := [(0, (cellLoc g).entry ev.code false)] } }).fmapChanged := ⟨_, rfl⟩
  have hrmap : r.fault.fmap = [] := by rw [hrframe]; exact hmap
  have hadd : r.fmapAdd ((cellLoc g).entry ev.code false) = some m := hm ▸ Device.fmapAdd_of_empty hrmap
  have hfence : d.containEntry ev = ((m.stopUnit (cellLoc g)).abortAll (r.tagsIn (cellLoc g)) ev.code, true) := by
    have hkind : (cellLoc g).kind = 1 := rfl
    simp only [Device.containEntry, hsev, hloc, hkind, ← hr, Device.fenceUnit, hrmap, hadd]
    rfl
  have hmcells : m.cells = d.cells := by rw [hm, hrframe]; rfl
  obtain ⟨hself, hother, hmem, hfault⟩ := Device.stopUnit_cell (d := m) (by rw [hmcells]; exact hx) rfl
  rw [hfence, Device.abortAll_frame] at ht
  rw [hfence, ht]
  refine ⟨rfl, hself, fun j hj => (hother j hj).trans (Device.cell_of_cells hmcells j), hmem.trans ?_, (congrArg FaultUnit.fmap hfault).trans ?_⟩
  · rw [hm, hrframe]
    rfl
  · rw [hm]
    rfl

/-! ### The fault of a cell (R194, R196) -/

/-- The cell that a fault has stopped. -/
def Cell.faulted (x : Cell) (code : Nat) : Cell := { x.withExc code with state := .fenced, blocked := none }

/-- The record of the fault of a cell. -/
def cellFaultEvent (g code tag : Nat) : EventRec := { code := code, severity := 4, tag := tag, loc := cellLoc g }

/-- A fault of a cell is recorded, and then enters the die's error queue. -/
theorem Device.cellFault_eq (g code : Nat) : d.cellFault g code =
    ((d.setCell g ((d.cell g).faulted code)).logException (g / 2 ^ 18) (code + 2 ^ 16 * g + 2 ^ 36 * ((d.cell g).pc.toNat / 4 % 4096))
      (d.cell g).tag).errqEnter (g / 2 ^ 18) (cellFaultEvent g code (d.cell g).tag) := rfl

/-- What is recorded of the fault of a cell before it enters a queue. -/
theorem Device.cellFault_recorded (hwf : d.regsWf) {v tag : Nat} {f : Device}
    (hf : f = (d.setCell c.gid ((d.cell c.gid).faulted code)).logException c.die.val v tag) :
    f.cells = (d.setCell c.gid ((d.cell c.gid).faulted code)).cells ∧ d.counted f (Reg.CELL_EXC_COUNT c.die.val) 1 ∧
    d.sameRegsBut f (exceptionRegs c.die.val) ∧ f.mem = d.mem ∧ f.fault = d.fault := by
  obtain ⟨-, -, hcount, hregs, -, hframe⟩ := Device.logException_post (d := d.setCell c.gid _) hwf hf
  exact ⟨by rw [hframe], hcount, hregs, by rw [hframe]; rfl, by rw [hframe]; rfl⟩

theorem Device.errq_of_fault {d' : Device} (h : d'.fault = d.fault) (q : Nat) : d'.errq q = d.errq q := by
  rw [Device.errq, h]
  rfl

theorem residueCount_apart (die : Nat) : Reg.CELL_EXC_COUNT die ≠ Reg.CELL_RESIDUE_COUNT die ∧ Reg.CELL_RESIDUE_COUNT die ∉ exceptionRegs die := by
  simp only [exceptionRegs, Reg.CELL_RESIDUE_COUNT, Reg.CELL_LAST_EXC, Reg.CELL_LAST_EXC_TAG, Reg.CELL_EXC_COUNT, List.mem_cons, List.not_mem_nil, or_false]
  omega

/-- A fault of a cell while the handler of its die has one as grave in hand: the cell is stopped, and the fault waits. -/
theorem Device.cellFault_waits (hwf : d.regsWf) (hroom : (d.errq c.die.val).depth < 64) (hh : (d.errq c.die.val).handling = some h)
    (hsev : 4 ≤ h.event.severity) {e : Device} (he : e = d.cellFault c.gid code) :
    e.cell c.gid = (d.cell c.gid).faulted code ∧ d.counted e (Reg.CELL_EXC_COUNT c.die.val) 1 ∧ d.sameRegsBut e (exceptionRegs c.die.val) ∧
    e.mem = d.mem ∧ (∀ j, j ≠ c.gid → e.cell j = d.cell j) ∧ (e.errq c.die.val).handling = some h ∧
    ∃ x, (e.errq c.die.val).waiting = (d.errq c.die.val).waiting ++ [x] ∧
      (x.event.code, x.event.severity, x.event.loc.kind, x.event.loc.sub, x.event.tag) = (code, 4, 1, c.gid, (d.cell c.gid).tag) := by
  rw [Device.cellFault_eq, gid_die] at he
  obtain ⟨f, hf⟩ : ∃ f, f = (d.setCell c.gid ((d.cell c.gid).faulted code)).logException c.die.val
    (code + 2 ^ 16 * c.gid + 2 ^ 36 * ((d.cell c.gid).pc.toNat / 4 % 4096)) (d.cell c.gid).tag := ⟨_, rfl⟩
  obtain ⟨hcells, hcount, hregs, hmem, hfault⟩ := Device.cellFault_recorded hwf hf
  have hq := Device.errq_of_fault hfault c.die.val
  rw [← hf, Device.errqEnter_waits c.die.isLt (hq ▸ hroom) (hq ▸ hh) hsev, hq] at he
  subst he
  refine ⟨(Device.cell_of_cells hcells _).trans (Device.cell_setCell_self ..), hcount, hregs, hmem,
    fun j hj => (Device.cell_of_cells hcells j).trans (Device.cell_setCell_of_ne _ _ hj), ?_, ?_⟩
  · rw [Device.errq_setErrq_self]
    exact hh
  · rw [Device.errq_setErrq_self]
    exact ⟨_, rfl, rfl⟩

theorem gid_parts (c : CellId) : c.gid / 2 ^ 12 % 64 = c.block.val ∧ c.gid / 64 % 64 = c.cluster.val ∧ c.gid % 64 = c.cell.val := by
  unfold CellId.gid
  omega

/-- A fault of a cell while the handler of its die is free and the fault map is empty: the cell is fenced and enters the map. -/
theorem Device.cellFault_begins (hwf : d.regsWf) (hroom : (d.errq c.die.val).depth < 64) (hh : (d.errq c.die.val).handling = none)
    (hmap : d.fault.fmap = []) {e : Device} (he : e = d.cellFault c.gid code) :
    (e.cell c.gid).exc = code + 2 ^ 16 * ((d.cell c.gid).pc.toNat / 4 % 4096) ∧ (e.cell c.gid).state = .fenced ∧ (e.cell c.gid).item = none ∧
    e.fault.fmap.map (fun e => (e.2.kind, e.2.die, e.2.block, e.2.cluster, e.2.cell, e.2.code)) =
      [(1, c.die.val, c.block.val, c.cluster.val, c.cell.val, code)] ∧
    (e.errq c.die.val).handling.map (fun x => (x.event.code, x.event.fenced)) = some (code, true) ∧ e.mem = d.mem ∧
    (∀ j, j ≠ c.gid → e.cell j = d.cell j) := by
  rw [Device.cellFault_eq, gid_die] at he
  obtain ⟨f, hf⟩ : ∃ f, f = (d.setCell c.gid ((d.cell c.gid).faulted code)).logException c.die.val
    (code + 2 ^ 16 * c.gid + 2 ^ 36 * ((d.cell c.gid).pc.toNat / 4 % 4096)) (d.cell c.gid).tag := ⟨_, rfl⟩
  obtain ⟨hcells, -, -, hmem, hfault⟩ := Device.cellFault_recorded hwf hf
  have hq := Device.errq_of_fault hfault c.die.val
  rw [← hf, Device.errqEnter_begins c.die.isLt (hq ▸ hroom) (hq ▸ hh)] at he
  obtain ⟨ev, hev⟩ : ∃ ev, ev = f.errEntry c.die.val (cellFaultEvent c.gid code (d.cell c.gid).tag) := ⟨_, rfl⟩
  obtain ⟨s, hs⟩ : ∃ s, s = f.setErrq c.die.val { f.errq c.die.val with arrivals := (f.errq c.die.val).arrivals + 1 } := ⟨_, rfl⟩
  have hsmap : s.fault.fmap = [] := by rw [hs]; exact (congrArg FaultUnit.fmap hfault).trans hmap
  have hscell : s.cells.get? c.gid = some ((d.cell c.gid).faulted code) := by
    rw [hs]
    exact (congrArg (Map.get? · c.gid) hcells).trans (Map.get?_put_self ..)
  obtain ⟨hfenced, hself, hother, htmem, htmap⟩ := Device.containEntry_cell (ev := ev.event) hsmap hscell (by rw [hev]; rfl) (by rw [hev]; rfl) rfl
  rw [← hev, ← hs] at he
  have hbegin : ∃ x, e = (s.containEntry ev.event).1.setErrq c.die.val x ∧
      x.handling = some { ev with event := { ev.event with fenced := ev.event.fenced || (s.containEntry ev.event).2 } } := ⟨_, he, rfl⟩
  obtain ⟨x, hx, hhandling⟩ := hbegin
  have hcell : ∀ j, e.cell j = (s.containEntry ev.event).1.cell j := fun j => by rw [hx]; rfl
  obtain ⟨hblock, hcluster, hnum⟩ := gid_parts c
  refine ⟨?_, ?_, ?_, ?_, ?_, ?_, fun j hj => ?_⟩
  · rw [hcell, hself]
    rfl
  · rw [hcell, hself]
  · rw [hcell, hself]
  · have hmaps : e.fault.fmap = [(0, (cellLoc c.gid).entry ev.event.code false)] := by rw [hx]; exact htmap
    rw [hmaps]
    simp only [List.map_cons, List.map_nil, Loc.entry, cellLoc, gid_die, hblock, hcluster, hnum, hev]
    rfl
  · rw [hx, Device.errq_setErrq_self, hhandling, hfenced, Bool.or_true, hev]
    rfl
  · rw [hx]
    exact htmem.trans (by rw [hs]; exact hmem)
  · rw [hcell, hother j hj, hs]
    exact (Device.cell_of_cells hcells j).trans (Device.cell_setCell_of_ne _ _ hj)

/-! ### The fault of a cluster (R194, R197) -/

/-- The running cells of a cluster. -/
def Device.runningIn (d : Device) (k : Nat) : Map Cell := (d.clusterCells k).filter (fun e => e.2.state = .running)

theorem Device.foldl_withExc (l : Map Cell) (code : Nat) : l.foldl (fun d e => d.setCell e.1 (e.2.withExc code)) d =
    { d with cells := l.foldl (fun m e => m.put e.1 (e.2.withExc code)) d.cells } := by
  induction l generalizing d with
  | nil => rfl
  | cons e l ih => exact ih

/-- The running cells of a cluster record its fault, and one of them stands in the registers of the die. -/
theorem Device.clusterException_post {k : Nat} (hwf : d.regsWf) (hrise : Map.rising d.cells = true) (hcode : code < 2 ^ 16) {e : Device}
    (he : e = d.clusterException k code) :
    (∀ j, j / 64 = k → (d.cell j).state = .running → e.cell j = (d.cell j).withExc code) ∧
    (∀ j, j / 64 ≠ k ∨ (d.cell j).state ≠ .running → e.cell j = d.cell j) ∧ (e.reg (Reg.CELL_LAST_EXC (k / 4096))).toNat % 2 ^ 16 = code ∧
    d.counted e (Reg.CELL_EXC_COUNT (k / 4096)) 1 ∧ d.sameRegsBut e (exceptionRegs (k / 4096)) ∧ e.mem = d.mem ∧ e.fault = d.fault := by
  obtain ⟨g, w, tag, he⟩ : ∃ g w tag, e = (d.runningIn k).foldl (fun d e => d.setCell e.1 (e.2.withExc code))
      (d.logException (k / 4096) (code + 2 ^ 16 * g + 2 ^ 36 * w) tag) := ⟨_, _, _, he⟩
  obtain ⟨f, hf⟩ : ∃ f, f = d.logException (k / 4096) (code + 2 ^ 16 * g + 2 ^ 36 * w) tag := ⟨_, rfl⟩
  obtain ⟨hlast, -, hcount, hregs, -, hframe⟩ := Device.logException_post hwf hf
  rw [Device.foldl_withExc, ← hf] at he
  have hcells : e.cells = (d.runningIn k).foldl (fun m x => m.put x.1 (x.2.withExc code)) d.cells := by
    rw [he, show f.cells = d.cells by rw [hframe]]
  have hrun : Map.rising (d.runningIn k) = true := Map.rising_filter _ (Map.rising_filter _ hrise)
  have hmine : ∀ j, (d.runningIn k).get? j = (d.cells.get? j).filter (fun x => j / 64 = k ∧ x.state = .running) := fun j => by
    rw [Device.runningIn, Device.clusterCells, Map.get?_filter _ _ (Map.rising_filter _ hrise), Map.get?_filter _ _ hrise, Option.filter_filter]
    simp
  have hget : ∀ j, e.cells.get? j =
      (((d.cells.get? j).filter (fun x => j / 64 = k ∧ x.state = .running)).map (·.withExc code)).or (d.cells.get? j) := fun j => by
    have hput := Map.get?_foldl_put (fun x : Cell => x.withExc code) d.cells j hrun
    rw [hmine] at hput
    exact hcells ▸ hput
  have hlog : e.regs = f.regs := by rw [he]
  refine ⟨fun j hj hs => ?_, fun j hj => ?_, ?_, (Device.fld_congr hlog _).trans hcount, fun j hj => (Device.reg_congr hlog).trans (hregs j hj),
    ?_, ?_⟩
  · obtain ⟨x, hx⟩ : ∃ x, d.cells.get? j = some x := by
      by_contra hnone
      rw [Device.cell, Map.getD, Option.eq_none_iff_forall_ne_some.2 (fun x hx => hnone ⟨x, hx⟩)] at hs
      cases hs
    have hcell := Device.cell_of_get? hx
    rw [hcell] at hs ⊢
    apply Device.cell_of_get?
    rw [hget, hx, Option.filter_some, if_pos (decide_eq_true ⟨hj, hs⟩)]
    rfl
  · rw [Device.cell, Device.cell, Map.getD, Map.getD, hget]
    cases hx : d.cells.get? j with
    | none => rfl
    | some x =>
      rw [Device.cell_of_get? hx] at hj
      rw [Option.filter_some, if_neg (fun h => have h := of_decide_eq_true h; hj.elim (· h.1) (· h.2))]
      rfl
  · rw [Device.reg_congr hlog, hlast, BitVec.toNat_ofNat]
    omega
  · rw [he, hframe]
  · rw [he, hframe]

/-- Settles O34: an exception is recorded and restarts or halts its cell; a fault stops its cell and waits in the die's error queue or is handled. -/
theorem cellExceptions : Obligations.CellExceptions := by
  refine ⟨fun c rd rs1 imm a => ?unmapped, fun c rs2 rs1 imm a => ?misaligned, fun c rs1 k t => ?trap, fun c rs1 => ?halts, fun c h => ?residueWaits,
    fun c => ?residueBegins, fun c h => ?eccWaits, fun c => ?eccBegins, fun die p h => ?cluster⟩
  case unmapped =>
    refine .of_onCell_eq (fun s => show execLw c rd rs1 imm s = s.upd _ from rfl) (fun _ h => ⟨h.1, h.2.2.1⟩) (e := fun d => d.cellException c.gid 0x0510 0)
      (fun d ⟨_, _, _, _, _, ha, hlo, hout⟩ => ?_) fun d ⟨_, hwf, hready, hhalt, hrise, _⟩ => ⟨Device.cellException_excepted hwf hready.2.1 hhalt,
        fun k t hf ho hc => Device.cellException_aborts hwf hrise hf ho hc⟩
    simp only [effAddr_eq, ha, cellAddr_unmapped (n := 4) hlo (by decide) hout]
  case misaligned =>
    refine .of_onCell_eq (fun s => show execSw c rs2 rs1 imm s = s.upd _ from rfl) (fun _ h => ⟨h.1, h.2.2.1⟩) (e := fun d => d.cellException c.gid 0x0511 0)
      (fun d ⟨_, _, _, _, _, ha, hin, hal⟩ => ?_) fun d ⟨_, hwf, hready, hhalt, hrise, _⟩ => ⟨Device.cellException_excepted hwf hready.2.1 hhalt,
        (Device.cellException_frame hwf).1, fun k t hf ho hc => Device.cellException_aborts hwf hrise hf ho hc⟩
    simp only [effAddr_eq, ha, cellAddr_misaligned hin hal]
  case trap =>
    refine .of_onCell (fun s => show execTrap c rs1 s = s.upd _ from rfl) (fun _ h => ⟨h.1, h.2.2.1⟩) fun d ⟨_, hwf, hready, hhalt, hrise, hf, ho, hc⟩ => ?_
    obtain ⟨hask, hreqs⟩ := Device.cellException_aborts (code := 0x0517) (arg := ((d.cell c.gid).w rs1.val).toNat % 2 ^ 16) hwf hrise hf ho hc
    obtain ⟨hmem, hother⟩ := Device.cellException_frame hwf
    exact ⟨Device.cellException_excepted hwf hready.2.1 hhalt, hask, hreqs, hmem, hother⟩
  case halts =>
    refine .of_onCell (fun s => show execTrap c rs1 s = s.upd _ from rfl) (fun _ h => ⟨h.1, h.2.2.1⟩) fun d ⟨_, hwf, hready, hhalt⟩ => ?_
    rw [Device.cellException_halts hwf (by rw [gid_die]; exact hhalt)]
    exact ⟨rfl, rfl, rfl⟩
  case residueWaits =>
    refine .of_upd (fun s => show execCellResidueFail c s = s.upd _ from rfl) (fun _ h => h.1) fun d ⟨_, hwf, hroom, hh, hsev⟩ => ?_
    obtain ⟨hself, hcount, hregs, hmem, hother, hhandling, hwaiting⟩ := Device.cellFault_waits (d := d.count (Reg.CELL_RESIDUE_COUNT c.die.val) 64 1)
      (c := c) (code := 0x0518) (Device.bumpBy_regsWf _ _ _ hwf) hroom hh hsev rfl
    obtain ⟨hexc, hres⟩ := residueCount_apart c.die.val
    rw [hself]
    exact ⟨rfl, rfl, rfl, hcount.trans (congrArg (satAdd 64 · 1) (Device.fld_of_reg (Device.reg_count_of_ne hexc))),
      (Device.fld_of_reg (hregs _ hres)).trans (Device.fld_count_self hwf), hmem, hother, hhandling, hwaiting⟩
  case residueBegins =>
    refine .of_upd (fun s => show execCellResidueFail c s = s.upd _ from rfl) (fun _ h => h.1) fun d ⟨_, hwf, hroom, hh, hmap, _⟩ => ?_
    exact Device.cellFault_begins (d := d.count (Reg.CELL_RESIDUE_COUNT c.die.val) 64 1) (Device.bumpBy_regsWf _ _ _ hwf) hroom hh hmap rfl
  case eccWaits =>
    refine .of_upd (fun s => show execCellStoreEcc c s = s.upd _ from rfl) (fun _ h => h.1) fun d ⟨_, hwf, hroom, hh, hsev⟩ => ?_
    obtain ⟨hself, hcount, -, hmem, hother, hhandling, hwaiting⟩ := Device.cellFault_waits (code := 0x0519) hwf hroom hh hsev rfl
    rw [hself]
    exact ⟨rfl, rfl, rfl, hcount, hmem, hother, hhandling, hwaiting⟩
  case eccBegins =>
    exact .of_upd (fun s => show execCellStoreEcc c s = s.upd _ from rfl) (fun _ h => h.1) fun d ⟨_, hwf, hroom, hh, hmap, _⟩ =>
      Device.cellFault_begins hwf hroom hh hmap rfl
  case cluster =>
    refine .of_upd (fun s => show execClusterFault die p s = s.upd _ from rfl) (fun _ h => h.1) fun d ⟨_, hwf, hrise, hroom, hh, hsev⟩ => ?_
    have hdie : (4096 * die.val + p.val) / 4096 = die.val := by omega
    obtain ⟨e, he⟩ : ∃ e, e = d.clusterException (4096 * die.val + p.val) 0x051A := ⟨_, rfl⟩
    obtain ⟨hrun, hother, hlast, hcount, hregs, hmem, hfault⟩ := Device.clusterException_post hwf hrise (by decide) he
    rw [hdie] at hlast hcount hregs
    have hq := Device.errq_of_fault hfault die.val
    rw [← he, Device.errqEnter_waits die.isLt (hq ▸ hroom) (hq ▸ hh) hsev, hq]
    refine ⟨?_, ?_, hrun, hother, hlast, hcount, hregs, hmem⟩
    · rw [Device.errq_setErrq_self]
      exact hh
    · rw [Device.errq_setErrq_self]
      exact ⟨_, rfl, rfl, rfl, rfl⟩

end Sys2Proof.Machine
end

section
/-!
SUPPORT. Commands to sync objects (R13, R229, R232): a half of SYNC_CMD held when a write of the whole register comes, and the statement about
Gates and sync objects, which leaves that half out of what SYNC_CMD_SIGNAL changes.
-/

namespace Sys2Proof.Machine

/-- The state after reset once the host has written the low half of die 0's SYNC_CMD, which the device holds (R13). -/
def State.syncCmdHalfHeld : State :=
  { dev := State.reset.dev.updHost (fun h => { h with heldLow := [(Reg.SYNC_CMD 0, 0)] }), pending := [] }

theorem State.syncCmdHalfHeld_runs : State.syncCmdHalfHeld.dev.runs := rfl

/-- SYNC_CMD is a 64-bit register (R232). -/
theorem findReg_syncCmd : ∃ r, findReg (Reg.SYNC_CMD 0) = some r ∧ r.width = 64 := by
  refine ⟨(findReg (Reg.SYNC_CMD 0)).get ?_, (Option.some_get _).symm, ?_⟩ <;> decide +kernel

/-- One access of the host leads from reset to `syncCmdHalfHeld`. -/
theorem exec_lowHalfWrite_syncCmd : exec (.reg64LowHalfWrite (Reg.SYNC_CMD 0) 0) State.reset = .next State.syncCmdHalfHeld := by
  obtain ⟨r, hf, hw⟩ := findReg_syncCmd
  rw [exec_reg64LowHalfWrite, State.upd_running _ (show State.reset.dev.runs from rfl), Device.bar0Write_word (by decide) (by decide),
    Device.write32_low 0 hf hw]
  rfl

/-- SYNC_CMD_SIGNAL is a write of the whole register: it discards the halves held of it (R13) and adds an operation (R229). -/
theorem exec_syncCmdSignal (die : Fin 4) (i : Fin 65536) (amount : Word) (s : State) :
    exec (.syncCmdSignal die i amount) s = s.upd (fun d => (d.dropHalves (Reg.SYNC_CMD die.val)).addSyncOp
      { obj := 65536 * die.val + i.val, kind := 1, source := 0, amount := amount.toNat }) := rfl

/-- Refutes O35: its clauses on SYNC_CMD say that the host unit stays as it was, and from `syncCmdHalfHeld` SYNC_CMD_SIGNAL discards the half held. -/
theorem not_gatesAndSyncObjects : ¬ Obligations.GatesAndSyncObjects := by
  rintro ⟨-, -, -, -, -, -, hsignal, -⟩
  obtain ⟨t, hexec, -, hframe⟩ := hsignal 0 0 1 State.syncCmdHalfHeld State.syncCmdHalfHeld_runs
  rw [exec_syncCmdSignal, State.upd_running _ State.syncCmdHalfHeld_runs] at hexec
  obtain rfl := Host.Outcome.next.inj hexec
  have hheld : (State.syncCmdHalfHeld.dev.dropHalves (Reg.SYNC_CMD 0)).host.heldLow = State.syncCmdHalfHeld.dev.host.heldLow :=
    congrArg (·.host.heldLow) hframe
  exact absurd hheld (by decide)

end Sys2Proof.Machine
end

section
/-!
SUPPORT. Jobs of a station (R151, R233, R234, R300): the handle a station pops, what a failure leaves, one output pushed and the end of the job.
-/

namespace Sys2Proof.Machine

variable {d d' x : Device} {die kind k key lk pk tag code off n : Nat} {b : List Byte} {e : LiftEntry} {rest : List LiftEntry} {j : Job}

/-! ### Counters -/

/-- A counter that was as before has moved by `n`. -/
theorem Device.counted_count (hreg : x.reg off = d.reg off) (hwf : x.regsWf) : d.counted (x.count off 64 n) off n := by
  rw [Device.counted, Device.count, Device.bumpBy, Device.fld_setFld_self off ⟨0, 64⟩ _ hwf (Nat.le_refl 64), Device.fld_of_reg hreg]
  exact Nat.mod_eq_of_lt (satAdd_lt ..)

theorem Device.reg_count_other {off' : Nat} (h : off' ≠ off) : (d.count off 64 n).reg off' = d.reg off' := Device.reg_setFld_of_ne _ _ h

/-- What a counter reads is what its register reads. -/
theorem Device.counted_of_reg (h : d.counted x off n) (hreg : d'.reg off = x.reg off) : d.counted d' off n := (Device.fld_of_reg hreg).trans h

/-- A counter that has moved since it read as it did before. -/
theorem Device.counted_since (h : x.counted d' off n) (hreg : x.reg off = d.reg off) : d.counted d' off n := by
  rw [Device.counted, h, Device.fld_of_reg hreg]

/-! ### The handle a station pops (R151, R233, R300) -/

/-- The pop of a handle that no stream pushed takes it off its Lift and does no more. -/
theorem Device.popLift_of_cons (hq : d.liftQ lk = e :: rest) (hsrc : e.src.isStream = false) : d.popLift lk = some (e, d.setLift lk rest) := by
  have hconfirm : (d.setLift lk rest).confirm e = d.setLift lk rest := by
    unfold Device.confirm
    split
    next g hg => rw [hg] at hsrc; cases hsrc
    next => rfl
  rw [Device.popLift, hq]
  simp only [hconfirm]

/-- A head whose task goes on is not discarded. -/
theorem Device.discardGone_of_live (hq : d.liftQ lk = e :: rest) (hlive : d.taskGone e.tag = false) (n : Nat) : d.discardGone lk n = d := by
  cases n with
  | zero => rfl
  | succ n => rw [Device.discardGone, hq]; exact if_neg (by rw [hlive]; exact Bool.false_ne_true)

/-- A run of one handle is the head of the Lift. -/
theorem Device.popRun_one (hq : d.liftQ lk = e :: rest) (hsrc : e.src.isStream = false) (hlive : d.taskGone e.tag = false) :
    d.popRun lk 1 = (some [e], d.setLift lk rest) := by
  have hrun : ((e :: rest).filter (fun y => !d.taskGone y.tag)).take 1 = [e] := by
    rw [List.filter_cons_of_pos (by rw [hlive]; rfl)]
    rfl
  have hlive' : (d.setLift lk rest).taskGone e.tag = false := hlive
  have hpop : d.popLive lk 1 (rest.length + 1) = ([e], d.setLift lk rest) := by
    rw [Device.popLive, Device.popLift_of_cons hq hsrc]
    simp only [hlive', Nat.sub_self]
    cases rest <;> rfl
  unfold Device.popRun
  simp only [hq, hrun, List.length_cons, hpop]
  rfl

/-- A free station that pops one handle goes on with it. -/
theorem Device.beginRun_of_oneHead {lift arity : List Byte → Nat} {f : List Byte → List LiftEntry → Device → Device}
    (h : d.oneHead die kind k (4096 * die + lift b) b e rest) (harity : arity b = 1) :
    d.beginRun die kind k lift arity f = f b [e] (d.setLift (4096 * die + lift b) rest) := by
  obtain ⟨hcfg, hgo, hfree, hq, hsrc, hlive⟩ := h
  have hfront : d.discardFront (4096 * die + lift b) = d := Device.discardGone_of_live hq hlive _
  unfold Device.beginRun
  simp only [hcfg, hgo, hfree, hfront, harity, Device.popRun_one hq hsrc hlive]
  rfl

/-- The device once a station has popped a handle and counted the job of its task (R242). -/
def Device.popped (d : Device) (key lk tag : Nat) (rest : List LiftEntry) : Device := ((d.setLift lk rest).takeSeq key tag).2

/-- A job under way of a handle just popped. -/
theorem Device.setJob_began (htag : j.tag = e.tag) (hin : j.inputs = [e]) : d.began ((d.popped key lk e.tag rest).setJob key j) key lk e rest := by
  have hjob (n : Nat) : ((d.popped key lk e.tag rest).setJob key j).job n = (d.stn.jobs.put key j).get? n := rfl
  refine ⟨?_, Device.liftQ_setLift_self d lk rest, fun n hn => (hjob n).trans (Map.get?_put_of_ne _ _ hn), rfl⟩
  rw [hjob, Map.get?_put_self, Option.map_some, htag, hin]

/-- The job of a station that is not stopped goes on. -/
theorem Device.withJob_of_going {f : List Byte → Job → Device → Device} (hcfg : d.stationCfg die kind k = some b)
    (hgo : d.stationStopped die kind k = false) (hjob : d.job (stKey die kind k) = some j) : d.withJob die kind k f = f b j d := by
  rw [Device.withJob, hcfg, hjob]
  exact if_neg (by rw [hgo]; exact Bool.false_ne_true)

/-! ### The end of a job (R233, R234) -/

theorem Device.releaseInputs_frame (key : Nat) (j : Job) : ∃ fl, d.releaseInputs key j = { d with str := { d.str with flight := fl } } :=
  ⟨_, Device.releaseAll_frame (fun _ _ => stationRouter key) (fun y : LiftEntry => y.h) j.inputs⟩

theorem Device.releaseHeld_frame (key : Nat) (j : Job) : ∃ fl, d.releaseHeld key j = { d with str := { d.str with flight := fl } } :=
  ⟨_, Device.releaseAll_frame (fun _ _ => stationRouter key)
    (fun y : Nat × Nat => { addr := y.2, len := 0, last := false, late := false, pool := y.1 }) j.held⟩

theorem Device.job_dropJob (hrise : Map.rising d.stn.jobs = true) : (d.dropJob key).job key = none :=
  (Map.get?_del key key hrise).trans (if_pos rfl)

/-- The release of the inputs leaves every packet on its way. -/
theorem Device.releaseInputs_flight {fl : Flight} (h : fl ∈ d.str.flight) : fl ∈ (d.releaseInputs key j).str.flight := by
  refine List.foldlRecOn (motive := fun (y : Device) => fl ∈ y.str.flight) j.inputs _ h fun y hy e _ => ?_
  unfold Device.releaseHandle Device.releaseBuffer
  split
  · exact List.mem_append_left _ hy
  · exact hy

/-- An abort asked for in a device with the tasks and requests of another one. -/
theorem Device.requestAbort_abortAsked (htasks : x.str.tasks = d.str.tasks) (hreqs : x.str.abortReqs = d.str.abortReqs) :
    d.abortAsked (x.requestAbort tag code) tag code := fun k t hf ho ha => by
  have hx : x.findTask tag = some (k, t) := by
    rw [← hf, Device.findTask, htasks]
    rfl
  rw [Device.requestAbort_of_open hx ho ha, Device.abortPending, htasks, hreqs]
  exact ⟨Map.get?_put_self .., rfl⟩

/-- A job that fails leaves its station, its buffers set out for their pools, and it is counted and recorded (R234). -/
theorem Device.failJob_eq (failReg lastReg : Nat) : ∃ fl, d.failJob key failReg lastReg code j =
    ((({ d.dropJob key with str := { d.str with flight := fl } } : Device).count failReg 64 1).setReg lastReg
      (BitVec.ofNat 64 (code + 2 ^ 16 * j.tag))).requestAbort j.tag code := by
  obtain ⟨fl, hin⟩ := Device.releaseInputs_frame (d := d.dropJob key) key j
  obtain ⟨fl', hheld⟩ := Device.releaseHeld_frame (d := (d.dropJob key).releaseInputs key j) key j
  refine ⟨fl', ?_⟩
  rw [Device.failJob, hheld, hin]
  rfl

/-- What the failure of a job changes. -/
theorem Device.failJob_post {failReg lastReg : Nat} (hrise : Map.rising d.stn.jobs = true) (hwf : d.regsWf) (hne : failReg ≠ lastReg) :
    d.jobFailed (d.failJob key failReg lastReg code j) key failReg lastReg code j.tag ∧
    (d.failJob key failReg lastReg code j).str.lifts = d.str.lifts := by
  obtain ⟨fl, heq⟩ := d.failJob_eq (key := key) (code := code) (j := j) failReg lastReg
  have habort : d.abortAsked (d.failJob key failReg lastReg code j) j.tag code := heq ▸ Device.requestAbort_abortAsked rfl rfl
  obtain ⟨y, hy⟩ : ∃ y : Device, y = ({ d.dropJob key with str := { d.str with flight := fl } } : Device).count failReg 64 1 := ⟨_, rfl⟩
  have hywf : y.regsWf := hy ▸ Device.bumpBy_regsWf (d := { d.dropJob key with str := { d.str with flight := fl } }) failReg ⟨0, 64⟩ 1 hwf
  have hcount : d.counted y failReg 1 := hy ▸ Device.counted_count rfl hwf
  have hother (i : Nat) (hi : i ≠ failReg) : y.reg i = d.reg i := hy ▸ Device.reg_count_other hi
  have hjob : y.job key = none := hy ▸ Device.job_dropJob hrise
  have hmem : y.mem = d.mem := hy ▸ rfl
  have hlifts : y.str.lifts = d.str.lifts := hy ▸ rfl
  rw [← hy, Device.requestAbort_frame] at heq
  rw [heq] at habort ⊢
  refine ⟨⟨hjob, Device.counted_of_reg hcount (Device.reg_setReg_of_ne _ hne), Device.reg_setReg_self _ _ hywf, habort, hmem, fun i hi => ?_⟩,
    hlifts⟩
  simp only [List.mem_cons, List.not_mem_nil, or_false, not_or] at hi
  exact (Device.reg_setReg_of_ne _ hi.2).trans (hother i hi.1)

/-! ### One output pushed (R234, R300) -/

/-- A job that lacks its one buffer takes the first of the free list. -/
theorem Device.holdBuffers_one {a : Nat} {free : List Nat} (hheld : j.held = []) (hp : d.str.pools.getD pk [] = a :: free) :
    d.holdBuffers pk 1 j 1 = ({ j with held := [(pk % 1024, a)] },
      d.updStr (fun u => { u with pools := u.pools.put pk free, owner := u.owner.put a j.tag })) := by
  rw [Device.holdBuffers, hheld, if_neg (by decide), Device.takeBuffer_of_cons hp]
  rfl

/-- The handle of a job's one output, in a buffer of a pool. -/
def Job.output (j : Job) (key pool a : Nat) (last : Bool) (y : List Byte) : LiftEntry :=
  { h := { addr := a, len := y.length, last := last, late := false, pool := pool }, tag := j.tag, src := .station key }

/-- The device whose job has taken its one buffer, written its output there and pushed its handle. -/
def Device.pushedJob (d : Device) (key pk lk : Nat) (j : Job) (last : Bool) (y : List Byte) (a : Nat) (free : List Nat) : Device :=
  (((d.updStr (fun u => { u with pools := u.pools.put pk free, owner := u.owner.put a j.tag })).write a y).push lk
    (j.output key (pk % 1024) a last y)).setJob key { j with held := [], pushed := true }

/-- The output just pushed: its handle is last on its way, and beside it the pool, the buffer and the task's entry have changed. -/
theorem Device.pushedJob_frame {a : Nat} {free : List Nat} {last : Bool} {y : List Byte} (hroom : d.liftLoad lk < 256) (hw : d.str.pushWait = []) :
    ∃ tasks, d.pushedJob key pk lk j last y a free = { d.write a y with
      stn := { d.stn with jobs := d.stn.jobs.put key { j with held := [], pushed := true } }
      str := { d.str with
        pools := d.str.pools.put pk free, owner := d.str.owner.put a j.tag, tasks := tasks
        flight := d.str.flight ++ [.push lk (j.output key (pk % 1024) a last y)] } } := by
  obtain ⟨hflight, hframe⟩ := Device.push_of_room (lk := lk)
    (d := (d.updStr (fun u => { u with pools := u.pools.put pk free, owner := u.owner.put a j.tag })).write a y)
    (e := j.output key (pk % 1024) a last y) hroom hw
  unfold Device.pushedJob
  rw [hframe, hflight]
  exact ⟨_, rfl⟩

/-- One output goes into the buffer held, and its handle bears LAST as the job says. -/
theorem Device.pushOutputs_one {a p : Nat} {last : Bool} (y : List Byte) (hheld : j.held = [(p, a)]) :
    d.pushOutputs key lk j last false [y] = (d.write a y).push lk (j.output key p a last y) := by
  have hlast : (last && decide (0 + 1 = [y].length)) = last := Bool.and_true last
  rw [Device.pushOutputs, hheld]
  simp only [List.zip_cons_cons, List.zip_nil_right, List.zipIdx_singleton, List.foldl_cons, List.foldl_nil, hlast]
  rfl

/-- A job with one output takes its buffer, pushes it and ends, when its handle sets out at once. -/
theorem Device.jobOutputs_one {a : Nat} {free : List Nat} {last : Bool} {y : List Byte} {counts fin : Device → Device} (hheld : j.held = [])
    (hpush : d.canPush pk lk a free) (hcounts : ∀ z : Device, (counts z).str = z.str) :
    d.jobOutputs key pk lk j last false [y] counts fin = fin (counts (d.pushedJob key pk lk j last y a free)) := by
  obtain ⟨hp, hroom, hw⟩ := hpush
  obtain ⟨tasks, hframe⟩ := Device.pushedJob_frame (key := key) (pk := pk) (j := j) (last := last) (y := y) (a := a) (free := free) hroom hw
  have hquiet : ¬ (counts (d.pushedJob key pk lk j last y a free)).outputWaits key = true := by
    rw [Device.outputWaits, hcounts, hframe]
    show ¬ d.str.pushWait.any _ = true
    rw [hw]
    exact Bool.false_ne_true
  rw [Device.jobOutputs, List.length_singleton, Nat.zero_add, Device.holdBuffers_one hheld hp]
  have hpushed := (d.updStr (fun u => { u with pools := u.pools.put pk free, owner := u.owner.put a j.tag })).pushOutputs_one (key := key) (lk := lk)
    (j := { j with held := [(pk % 1024, a)] }) (last := last) y rfl
  simp only [List.length_singleton, Nat.lt_irrefl, if_false, List.take_zero, List.foldl_nil, List.drop_zero, hpushed]
  exact if_neg hquiet

/-- What a job with one output has changed when it has ended as `fin` says. -/
theorem Device.jobOutputs_one_post {a : Nat} {free : List Nat} {last : Bool} {y : List Byte} {counts fin : Device → Device} (hheld : j.held = [])
    (hpush : d.canPush pk lk a free) (hrise : Map.rising d.stn.jobs = true) (hmem : Memory.wf d.mem = true)
    (hcounts : ∀ z, counts z = { z with regs := (counts z).regs })
    (hfin : ∀ z, fin z = { (z.dropJob key).releaseInputs key j with regs := (fin z).regs })
    (he : d' = d.jobOutputs key pk lk j last false [y] counts fin) :
    d.pushedOne d' key pk lk j.tag last y a free ∧ ∃ z, z.regs = d.regs ∧ d' = fin (counts z) := by
  rw [Device.jobOutputs_one hheld hpush fun z => by rw [hcounts]] at he
  obtain ⟨tasks, hframe⟩ := Device.pushedJob_frame (key := key) (pk := pk) (j := j) (last := last) (y := y) (a := a) (free := free) hpush.2.1 hpush.2.2
  refine ⟨?_, _, (congrArg Device.regs hframe).trans rfl, he⟩
  obtain ⟨fl, hrel⟩ := Device.releaseInputs_frame (d := (counts (d.pushedJob key pk lk j last y a free)).dropJob key) key j
  have hsent : Flight.push lk (j.output key (pk % 1024) a last y) ∈ fl := by
    have h := Device.releaseInputs_flight (d := (counts (d.pushedJob key pk lk j last y a free)).dropJob key) (key := key) (j := j)
      (fl := .push lk (j.output key (pk % 1024) a last y))
      (by rw [hcounts, hframe]; exact List.mem_append_right _ (List.mem_singleton_self _))
    rwa [hrel] at h
  rw [hfin, hrel, hcounts, hframe] at he
  subst he
  refine ⟨Device.job_dropJob (d := { d with stn := { d.stn with jobs := d.stn.jobs.put key _ } }) (Map.rising_put _ _ hrise),
    ⟨fun i hi => ?_, fun z hz => Device.write_other _ _ _ hmem hz⟩, Map.getD_put_self .., hsent, rfl⟩
  refine (memRead_memWriteN a y (a + i) hmem).trans ?_
  rw [if_pos (by omega), Nat.add_sub_cancel_left]

end Sys2Proof.Machine
end

section
/-!
SUPPORT. Hash jobs (R300, R301, R303): what the start and the end of a job come to, and the statement about them.
-/

namespace Sys2Proof.Machine

variable {d d' : Device} {die k n : Nat} {b : List Byte} {e : LiftEntry} {rest : List LiftEntry} {j : Job}

theorem hashRegs_apart (die k : Nat) : Reg.HASH_JOBS_FAILED die k ≠ Reg.HASH_LAST_FAIL die k ∧ Reg.HASH_JOBS_DONE die k ≠ Reg.HASH_ROWS die k ∧
    Reg.HASH_NAN_COUNT die k ≠ Reg.HASH_JOBS_DONE die k ∧ Reg.HASH_NAN_COUNT die k ≠ Reg.HASH_ROWS die k := by
  simp only [Reg.HASH_JOBS_FAILED, Reg.HASH_LAST_FAIL, Reg.HASH_JOBS_DONE, Reg.HASH_ROWS, Reg.HASH_NAN_COUNT]
  omega

/-! ### The start of a job (R300, R301) -/

/-- The job of one operand. -/
def Device.hashJob (d : Device) (die k : Nat) (e : LiftEntry) : Job :=
  { mode := 0, tag := e.tag, inputs := [e], seq := (d.takeSeq (stKey die 5 k) e.tag).1, words := [], bytes := [] }

/-- The operand has been popped. -/
def Device.hashPopped (d : Device) (die k : Nat) (b : List Byte) (e : LiftEntry) (rest : List LiftEntry) : Device :=
  d.popped (stKey die 5 k) (4096 * die + (hashCfg b).inLift) e.tag rest

/-- The job of the operand popped fails with a code. -/
def Device.hashFails (d : Device) (die k : Nat) (b : List Byte) (e : LiftEntry) (rest : List LiftEntry) (code : Nat) : Device :=
  (d.hashPopped die k b e rest).failJob (stKey die 5 k) (Reg.HASH_JOBS_FAILED die k) (Reg.HASH_LAST_FAIL die k) code (d.hashJob die k e)

/-- What a station with one operand popped does with it: poisoned data and a failed check fail the job. -/
def Device.hashStarted (d : Device) (die k : Nat) (b : List Byte) (e : LiftEntry) (rest : List LiftEntry) : Device :=
  if d.inputsPoisoned [e] then d.hashFails die k b e rest 0x0F12
  else match (hashCfg b).check (d.takeSeq (stKey die 5 k) e.tag).1 (d.poolSize (poolKey die (hashCfg b).outPool)) [d.handleData e] with
    | .inr code => d.hashFails die k b e rest code
    | .inl _ => (d.hashPopped die k b e rest).setJob (stKey die 5 k) (d.hashJob die k e)

/-- HASH_JOB_START with one operand at the head of the Lift. -/
theorem Completes.of_hashStart {die : Fin 4} {k : Fin 64} {pre : Device → Prop} {post : Device → Device → Prop}
    (hpre : ∀ d, pre d → d.runs ∧ d.oneHead die.val 5 k.val (4096 * die.val + (hashCfg b).inLift) b e rest ∧ (hashCfg b).arity = 1)
    (hp : ∀ d, pre d → post d (d.hashStarted die.val k.val b e rest)) : Completes (.hashJobStart die k) pre post := by
  refine .of_upd_eq (fun s => show execHashJobStart die k s = s.upd _ from rfl) (fun d h => (hpre d h).1) (fun d h => ?_) hp
  obtain ⟨_, hhead, hone⟩ := hpre d h
  exact (Device.beginRun_of_oneHead (lift := fun b => (hashCfg b).inLift) (arity := fun b => (hashCfg b).arity) hhead hone).trans rfl

/-- What the failure of the operand's job leaves. -/
theorem Device.hashFails_post (hwf : d.regsWf) (hrise : Map.rising d.stn.jobs = true) (code : Nat) :
    (d.hashFails die k b e rest code).liftQ (4096 * die + (hashCfg b).inLift) = rest ∧
    d.jobFailed (d.hashFails die k b e rest code) (stKey die 5 k) (Reg.HASH_JOBS_FAILED die k) (Reg.HASH_LAST_FAIL die k) code e.tag := by
  obtain ⟨hfailed, hlifts⟩ := Device.failJob_post (d := d.hashPopped die k b e rest) (key := stKey die 5 k) (code := code) (j := d.hashJob die k e)
    hrise hwf (hashRegs_apart die k).1
  exact ⟨(Device.liftQ_of_lifts hlifts).trans (Device.liftQ_setLift_self d _ rest), hfailed⟩

/-! ### The end of a job (R300, R312) -/

/-- The rows of a job: those of its first operand. -/
def Device.hashRows (d : Device) (j : Job) : Nat := ((j.inputs.head?.bind (fun e => columnOf (d.handleData e))).map (·.count)).getD 0

/-- A job that has succeeded: its buffers go back, and it counts with its rows. -/
def Device.hashDone (d : Device) (die k : Nat) (j : Job) (rows : Nat) : Device :=
  (((d.dropJob (stKey die 5 k)).releaseInputs (stKey die 5 k) j).count (Reg.HASH_JOBS_DONE die k) 64 1).count (Reg.HASH_ROWS die k) 64 rows

theorem Device.hashDone_frame (rows : Nat) : ∃ regs fl, d.hashDone die k j rows =
    { d.dropJob (stKey die 5 k) with regs := regs, str := { d.str with flight := fl } } := by
  obtain ⟨fl, hrel⟩ := Device.releaseInputs_frame (d := d.dropJob (stKey die 5 k)) (stKey die 5 k) j
  exact ⟨_, fl, by rw [Device.hashDone, hrel]; rfl⟩

/-- The two counters of a job that has succeeded, and no other register. -/
theorem Device.hashDone_regs (hwf : d.regsWf) (rows : Nat) : d.counted (d.hashDone die k j rows) (Reg.HASH_JOBS_DONE die k) 1 ∧
    d.counted (d.hashDone die k j rows) (Reg.HASH_ROWS die k) rows ∧
    d.sameRegsBut (d.hashDone die k j rows) [Reg.HASH_JOBS_DONE die k, Reg.HASH_ROWS die k] := by
  obtain ⟨-, hne, -⟩ := hashRegs_apart die k
  obtain ⟨fl, hrel⟩ := Device.releaseInputs_frame (d := d.dropJob (stKey die 5 k)) (stKey die 5 k) j
  rw [Device.hashDone, hrel]
  refine ⟨Device.counted_of_reg (Device.counted_count rfl hwf) (Device.reg_count_other hne),
    Device.counted_count (Device.reg_count_other hne.symm) (Device.bumpBy_regsWf _ _ _ hwf), fun i hi => ?_⟩
  simp only [List.mem_cons, List.not_mem_nil, or_false, not_or] at hi
  exact (Device.reg_count_other hi.2).trans (Device.reg_count_other hi.1)

/-- The counters of a job whose outputs have just been pushed. -/
theorem Device.hashDone_counts (hwf : d.regsWf) (nans rows : Nat) : let d' := (d.count (Reg.HASH_NAN_COUNT die k) 64 nans).hashDone die k j rows
    d.counted d' (Reg.HASH_JOBS_DONE die k) 1 ∧ d.counted d' (Reg.HASH_ROWS die k) rows ∧ d.counted d' (Reg.HASH_NAN_COUNT die k) nans := by
  obtain ⟨-, -, hdone, hrow⟩ := hashRegs_apart die k
  have hwf' : (d.count (Reg.HASH_NAN_COUNT die k) 64 nans).regsWf := Device.bumpBy_regsWf _ _ _ hwf
  obtain ⟨hjobs, hrows, hsame⟩ := Device.hashDone_regs (die := die) (k := k) (j := j) hwf' rows
  exact ⟨Device.counted_since hjobs (Device.reg_count_other hdone.symm), Device.counted_since hrows (Device.reg_count_other hrow.symm),
    Device.counted_of_reg (Device.counted_count rfl hwf) (hsame _ (by simp [hdone, hrow]))⟩

/-- What the end of a job comes to: the wait for outputs pushed, a failed check, or the push of the outputs. -/
def Device.hashEnded (d : Device) (die k : Nat) (b : List Byte) (j : Job) : Device :=
  if j.pushed then d.afterPush (stKey die 5 k) (fun x => x.hashDone die k j (d.hashRows j))
  else match (hashCfg b).check j.seq (d.poolSize (poolKey die (hashCfg b).outPool)) (j.inputs.map d.handleData) with
    | .inr code => d.failJob (stKey die 5 k) (Reg.HASH_JOBS_FAILED die k) (Reg.HASH_LAST_FAIL die k) code j
    | .inl (bufs, nans, _) => d.jobOutputs (stKey die 5 k) (poolKey die (hashCfg b).outPool) (d.stationOut die 5 k 1 (hashCfg b).outLift) j
      ((j.inputs.getLast?.map (·.h.last)).getD false) false bufs (fun x => x.count (Reg.HASH_NAN_COUNT die k) 64 nans)
      (fun x => x.hashDone die k j (d.hashRows j))

/-- HASH_JOB_END of a job of a station that goes on. -/
theorem Completes.of_hashEnd {die : Fin 4} {k : Fin 64} {pre : Device → Prop} {post : Device → Device → Prop}
    (hpre : ∀ d, pre d → d.runs ∧ d.stationCfg die.val 5 k.val = some b ∧ d.stationStopped die.val 5 k.val = false ∧
      d.job (stKey die.val 5 k.val) = some j)
    (hp : ∀ d, pre d → post d (d.hashEnded die.val k.val b j)) : Completes (.hashJobEnd die k) pre post := by
  refine .of_upd_eq (fun s => show execHashJobEnd die k s = s.upd _ from rfl) (fun d h => (hpre d h).1) (fun d h => ?_) hp
  obtain ⟨_, hcfg, hgo, hjob⟩ := hpre d h
  exact (Device.withJob_of_going hcfg hgo hjob).trans rfl

/-- The end of a job with one output column. -/
theorem Device.hashEnded_one {a rows nans : Nat} {free : List Nat} {y : List Byte} (hwork : d.working die 5 k b j)
    (hpush : d.canPush (poolKey die (hashCfg b).outPool) (d.stationOut die 5 k 1 (hashCfg b).outLift) a free)
    (hcheck : (hashCfg b).check j.seq (d.poolSize (poolKey die (hashCfg b).outPool)) (j.inputs.map d.handleData) = .inl ([y], nans, n))
    (hrows : d.hashRows j = rows) (he : d' = d.hashEnded die k b j) :
    d.pushedOne d' (stKey die 5 k) (poolKey die (hashCfg b).outPool) (d.stationOut die 5 k 1 (hashCfg b).outLift) j.tag
      ((j.inputs.getLast?.map (·.h.last)).getD false) y a free ∧
    d.counted d' (Reg.HASH_JOBS_DONE die k) 1 ∧ d.counted d' (Reg.HASH_ROWS die k) rows ∧ d.counted d' (Reg.HASH_NAN_COUNT die k) nans := by
  obtain ⟨-, -, -, hnew, hheld, hrise, hmem, hwf⟩ := hwork
  simp only [Device.hashEnded, hnew, hcheck, hrows, Bool.false_eq_true, if_false] at he
  obtain ⟨hone, z, hz, hend⟩ := Device.jobOutputs_one_post hheld hpush hrise hmem (fun _ => rfl) (fun _ => rfl) he
  have hzwf : z.regsWf := by rw [Device.regsWf, hz]; exact hwf
  obtain ⟨hdone, hrow, hnan⟩ := Device.hashDone_counts (die := die) (k := k) (j := j) hzwf nans rows
  have hsince {off m : Nat} (h : z.counted ((z.count (Reg.HASH_NAN_COUNT die k) 64 nans).hashDone die k j rows) off m) : d.counted d' off m :=
    hend ▸ Device.counted_since h (Device.reg_congr hz)
  exact ⟨hone, hsince hdone, hsince hrow, hsince hnan⟩

/-- Settles O36: a job starts with the operand popped and passes or fails its checks; its end is one output pushed, or the wait for those
pushed. -/
theorem hashJobs : Obligations.HashJobs := by
  refine ⟨fun die k b e rest x => ?starts, fun die k b e rest code => ?unfit, fun die k b e rest => ?poisoned,
    fun die k b j a rest x nans n rows => ?ends, fun die k b j rows => ?sent, fun die k b j => ?waits⟩
  case starts =>
    refine .of_hashStart (fun d ⟨hr, hhead, hone, _⟩ => ⟨hr, hhead, hone⟩) fun d ⟨_, _, _, hclean, hcheck⟩ => ?_
    simp only [Device.hashStarted, hclean, hcheck, Bool.false_eq_true, if_false]
    exact Device.setJob_began rfl rfl
  case unfit =>
    refine .of_hashStart (fun d ⟨hr, hhead, hone, _⟩ => ⟨hr, hhead, hone⟩) fun d ⟨_, _, _, hclean, hcheck, hwf, hrise⟩ => ?_
    simp only [Device.hashStarted, hclean, hcheck, Bool.false_eq_true, if_false]
    exact Device.hashFails_post hwf hrise code
  case poisoned =>
    refine .of_hashStart (fun d ⟨hr, hhead, hone, _⟩ => ⟨hr, hhead, hone⟩) fun d ⟨_, _, _, hpoison, hwf, hrise⟩ => ?_
    rw [Device.hashStarted, if_pos hpoison]
    exact Device.hashFails_post hwf hrise 0x0F12
  case ends =>
    exact .of_hashEnd (fun d ⟨hr, ⟨hcfg, hgo, hjob, _⟩, _⟩ => ⟨hr, hcfg, hgo, hjob⟩)
      fun d ⟨_, hwork, hpush, hcheck, hrows⟩ => Device.hashEnded_one hwork hpush hcheck hrows rfl
  case sent =>
    refine .of_hashEnd (fun d ⟨hr, hcfg, hgo, hjob, _⟩ => ⟨hr, hcfg, hgo, hjob⟩) fun d ⟨_, _, _, _, hpushed, hgone, hrise, hwf, hrows⟩ => ?_
    rw [Device.hashEnded, if_pos hpushed, Device.afterPush, if_neg (by rw [hgone]; exact Bool.false_ne_true)]
    obtain ⟨hdone, hrow, hsame⟩ := Device.hashDone_regs (die := die.val) (k := k.val) (j := j) hwf (d.hashRows j)
    obtain ⟨regs, fl, hframe⟩ := d.hashDone_frame (die := die.val) (k := k.val) (j := j) (d.hashRows j)
    rw [hframe] at hdone hrow hsame ⊢
    exact ⟨Device.job_dropJob hrise, hdone, hrows ▸ hrow, hsame, rfl, rfl⟩
  case waits =>
    refine .of_hashEnd (fun d ⟨hr, hcfg, hgo, hjob, _⟩ => ⟨hr, hcfg, hgo, hjob⟩) fun d ⟨_, _, _, _, hpushed, hwait⟩ => ?_
    rw [Device.hashEnded, if_pos hpushed, Device.afterPush, if_pos hwait]

end Sys2Proof.Machine
end

section
/-!
SUPPORT. Ingest jobs (R233, R234, R249): a job under way whose tag is not that of its handle, and the statement about Ingest jobs, which takes
the tag of an output from the handle, where the output carries that of its job.
-/

namespace Sys2Proof.Machine

/-- An envelope with FORMAT 2 and DIRECTION 1: three bytes to encode (R241). -/
def encodeEnvelope : List Byte :=
  let h := u32 0x48454958 ++ u8 2 ++ u8 1 ++ u16 0 ++ u32 3 ++ zeros 12
  h ++ u32 (headerCrc h 0x18) ++ zeros 36 ++ [1, 2, 3]

/-- The configuration of an Ingest station: Lift 1, output Lift 2, pool 1, two buffers at most (R238). -/
def ingestOneConfig : List Byte := u16 1 ++ u16 2 ++ u16 1 ++ u8 0 ++ u8 1 ++ zeros 104

/-- A plan image with two sections for die 0: STATIONS with that Ingest station, and pool 1 of 4 buffers of 512 bytes (R63, R67). -/
def ingestOneImage : List Byte :=
  zeros 0x1E ++ u16 2 ++ zeros 0x1E0 ++ u16 2 ++ u16 1 ++ u32 0x220 ++ u32 120 ++ zeros 4 ++ u16 4 ++ u16 1 ++ u32 0x298 ++ u32 32 ++ zeros 4 ++
    u64 (3 + 2 ^ 16 * 112 + 2 ^ 32 * 8) ++ ingestOneConfig ++ u16 2 ++ u16 1 ++ zeros 4 ++ u64 0x2000 ++ u32 512 ++ u32 4 ++ zeros 8

/-- The handle of the envelope, with tag 5. -/
def encodeHandle : LiftEntry :=
  { h := { addr := 0x1000, len := encodeEnvelope.length, last := true, late := false, pool := 1 }, tag := 5, src := .port 0 }

/-- A job of tag 6 that has it as its input. -/
def encodeJobApart : Job := { mode := 0, tag := 6, inputs := [encodeHandle], seq := 3, words := [16], bytes := [] }

/-- The device after reset that runs the plan, with that job under way and one buffer in the pool. -/
def Device.ingestTagApart : Device :=
  { State.reset.dev.write 0x1000 encodeEnvelope with
    plan := { State.reset.dev.plan with active := some { lib := 3, image := ingestOneImage, moves := [], companions := [], stale := false } }
    str := { State.reset.dev.str with pools := [(1, [0x2000])] }
    stn := { State.reset.dev.stn with jobs := [(stKey 0 3 0, encodeJobApart)] } }

/-- The tags of the handles on their way to a Lift. -/
def Device.tagsOnTheWay (d : Device) : List Nat :=
  d.str.flight.filterMap (fun f => match f with | .push _ e => some e.tag | .release .. => none)

theorem Device.mem_tagsOnTheWay {d : Device} {lk : Nat} {e : LiftEntry} (h : .push lk e ∈ d.str.flight) : e.tag ∈ d.tagsOnTheWay :=
  List.mem_filterMap.2 ⟨_, h, rfl⟩

/-- The end of the job sends its one output on its way with the job's tag (R234). -/
theorem exec_ingestJobEnd_tagApart : ∃ d,
    exec (.ingestJobEnd 0 0) { dev := Device.ingestTagApart, pending := [] } = .next { dev := d, pending := [] } ∧ d.tagsOnTheWay = [6] :=
  ⟨_, rfl, by decide +kernel⟩

/-- Refutes O37: its clause on the end of an encode gives the output the tag of the input handle and does not ask that the job bear that tag (as
INGEST_JOB_START makes it, R233), and in `ingestTagApart` the job's tag is 6 and the handle's is 5. -/
theorem not_ingestJobs : ¬ Obligations.IngestJobs := by
  rintro ⟨-, -, -, -, hencode, -⟩
  obtain ⟨d, hend, htags⟩ := exec_ingestJobEnd_tagApart
  obtain ⟨t, hexec, -, ⟨-, -, -, hsent, -⟩, -⟩ := hencode 0 0 ingestOneConfig encodeJobApart encodeHandle 0x2000 []
    ((rawBuffers 512 3 (codecEncode 2 [1, 2, 3])).headD []) 2 [1, 2, 3] { dev := Device.ingestTagApart, pending := [] } (by decide +kernel)
  obtain rfl := Host.Outcome.next.inj (hend.symm.trans hexec)
  have hfive : 5 ∈ d.tagsOnTheWay := Device.mem_tagsOnTheWay hsent
  rw [htags] at hfive
  exact absurd hfive (by decide)

end Sys2Proof.Machine
end

section
/-!
SUPPORT. Pack stations (R270 to R288): what the read of a handle, the close of a batch, the write of a slot and a flush come to, and the statement
about them.
-/

namespace Sys2Proof.Machine

variable {o d d' e : Device} {die k off id batch cause : Nat} {c : PackCfg} {b : PackBatch} {p : PackInst}

/-! ### Registers and state of a Pack station -/

@[simp] theorem Device.packInst_setPack_self (d : Device) (die k : Nat) (p : PackInst) : (d.setPack die k p).packInst die k = p :=
  Map.getD_put_self ..

theorem Device.packInst_congr (h : d'.pack = d.pack) : d'.packInst die k = d.packInst die k := by
  rw [Device.packInst, h, Device.packInst]

/-- The count of batches of a Pack station has a register of its own, which is none of the recorder's. -/
theorem packBatches_apart (die k : Nat) : Reg.PACK_BATCHES die k ∉ recorderRegs ∧ Reg.PACK_BATCHES die k ≠ Reg.PACK_CMD die ∧
    Reg.PACK_BATCHES die k ≠ Reg.PACK_DROPPED die k ∧ Reg.PACK_BATCHES die k ≠ Reg.PACK_LATE die k ∧
    Reg.PACK_BATCHES die k ≠ Reg.PACK_STALE die k ∧ Reg.PACK_BATCHES die k ≠ Reg.PACK_OVERFLOW die k ∧
    Reg.PACK_BATCHES die k ≠ Reg.PACK_PAD_POSITIONS die k := by
  simp only [recorderRegs, List.mem_cons, List.not_mem_nil, or_false, Reg.EVR_SEQ_NEXT, Reg.EVR_DROPPED, Reg.PACK_BATCHES, Reg.PACK_CMD,
    Reg.PACK_DROPPED, Reg.PACK_LATE, Reg.PACK_STALE, Reg.PACK_OVERFLOW, Reg.PACK_PAD_POSITIONS, dieBase]
  omega

/-! ### What stays while stragglers and carried samples are kept (R275, R279) -/

/-- The open and the closed batches of a Pack station and its count of batches are as before. -/
structure Device.KeepsBatches (o d : Device) (die k : Nat) : Prop where
  openB : (d.packInst die k).openB = (o.packInst die k).openB
  closed : (d.packInst die k).closed = (o.packInst die k).closed
  batches : d.reg (Reg.PACK_BATCHES die k) = o.reg (Reg.PACK_BATCHES die k)
  wf : o.regsWf → d.regsWf

theorem Device.KeepsBatches.refl : d.KeepsBatches d die k := ⟨rfl, rfl, rfl, id⟩

theorem Device.KeepsBatches.foldl {β : Type} {f : Device → β → Device} {xs : List β} (h : o.KeepsBatches d die k)
    (hf : ∀ (d : Device) x, o.KeepsBatches d die k → o.KeepsBatches (f d x) die k) : o.KeepsBatches (xs.foldl f d) die k :=
  List.foldlRecOn xs f h fun d h x _ => hf d x h

theorem Device.KeepsBatches.ite {x y : Device} {q : Prop} {i : Decidable q} (hx : o.KeepsBatches x die k) (hy : o.KeepsBatches y die k) :
    o.KeepsBatches (if q then x else y) die k := by
  split <;> assumption

theorem Device.KeepsBatches.setPack (h : o.KeepsBatches d die k) (hopen : p.openB = (d.packInst die k).openB)
    (hclosed : p.closed = (d.packInst die k).closed) : o.KeepsBatches (d.setPack die k p) die k :=
  ⟨by rw [Device.packInst_setPack_self, hopen, h.openB], by rw [Device.packInst_setPack_self, hclosed, h.closed], h.batches, h.wf⟩

theorem Device.KeepsBatches.count (h : o.KeepsBatches d die k) (hoff : Reg.PACK_BATCHES die k ≠ off) (n : Nat) :
    o.KeepsBatches (d.count off 64 n) die k :=
  ⟨h.openB, h.closed, (Device.reg_count_other hoff).trans h.batches, fun hwf => Device.bumpBy_regsWf _ _ _ (h.wf hwf)⟩

theorem Device.KeepsBatches.record (h : o.KeepsBatches d die k) (r : EventRec) : o.KeepsBatches (d.record r) die k := by
  have hp : (d.record r).packInst die k = d.packInst die k := Device.packInst_congr (Device.record_pack d r)
  exact ⟨by rw [hp, h.openB], by rw [hp, h.closed], (Device.record_sameRegsBut r _ (packBatches_apart die k).1).trans h.batches,
    fun hwf => Device.record_regsWf r (h.wf hwf)⟩

theorem Device.KeepsBatches.packDrop (h : o.KeepsBatches d die k) : o.KeepsBatches (d.packDrop die k id batch) die k := by
  obtain ⟨-, -, hdropped, -⟩ := packBatches_apart die k
  exact (h.count hdropped 1).record _

theorem Device.KeepsBatches.addStraggler (h : o.KeepsBatches d die k) : o.KeepsBatches (d.addStraggler die k id batch) die k :=
  .ite h.packDrop (h.setPack rfl rfl)

theorem Device.KeepsBatches.holdCarried (h : o.KeepsBatches d die k) (x : PackSample) : o.KeepsBatches (d.holdCarried die k x) die k :=
  .ite (h.setPack rfl rfl) (.ite h.packDrop (h.setPack rfl rfl))

/-! ### The close of a batch (R274, R281) -/

/-- A field past a word at the front. -/
theorem leAt_u32_append (v o n : Nat) (q : List Byte) : leAt (u32 v ++ q) (o + 4) n = leAt q o n := by
  rw [u32, leAt_append (by simp [length_leBytes]), length_leBytes, Nat.add_sub_cancel]

/-- BATCH_ID, SAMPLES and CAUSE of a slot's header (R281). -/
theorem slotHeader_fields (x0 x1 x2 x3 x4 x5 x6 cause : Nat) (q : List Byte) :
    let bytes := u32 x0 ++ (u32 x1 ++ (u32 x2 ++ (u32 x3 ++ (u32 x4 ++ (u32 x5 ++ (u32 x6 ++ (u8 cause ++ q)))))))
    leAt bytes 0 4 = x0 % 256 ^ 4 ∧ leAt bytes 4 4 = x1 % 256 ^ 4 ∧ leAt bytes 28 1 = cause % 256 ^ 1 := by
  refine ⟨leAt_leBytes_append .., (leAt_u32_append _ 0 _ _).trans (leAt_leBytes_append ..), ?_⟩
  simp only [leAt_u32_append]
  exact leAt_leBytes_append ..

/-- A batch of a Pack station has closed with a CAUSE: it is open no more, its slot is the last to wait, and it has been counted. -/
structure Device.BatchClosed (d d' : Device) (die k id cause : Nat) : Prop where
  openB : (d'.packInst die k).openB = (d.packInst die k).openB.filter (fun y => y.id != id)
  closed : ∃ cb, (d'.packInst die k).closed = (d.packInst die k).closed ++ [cb] ∧ leAt cb.bytes 0 4 = id ∧ leAt cb.bytes 28 1 = cause ∧
    leAt cb.bytes 4 4 = cb.samples % 2 ^ 32
  batches : d.counted d' (Reg.PACK_BATCHES die k) 1
  wf : d'.regsWf

/-- What follows a close and leaves the batches as they are. -/
theorem Device.BatchClosed.trans (h : d.BatchClosed o die k id cause) (hk : o.KeepsBatches e die k) : d.BatchClosed e die k id cause where
  openB := hk.openB.trans h.openB
  closed := by
    rw [hk.closed]
    exact h.closed
  batches := Device.counted_of_reg h.batches hk.batches
  wf := hk.wf h.wf

theorem Device.closeBatch_batchClosed (hwf : d.regsWf) (hid : b.id < 2 ^ 32) (hcause : cause < 256) :
    d.BatchClosed (d.closeBatch die k c b cause) die k b.id cause := by
  obtain ⟨-, -, -, hlate, hstale, hover, hpad⟩ := packBatches_apart die k
  unfold Device.closeBatch
  extract_lets -underBinder p0 all stale fresh got missingIds own lateMax
  split
  next placed carried rows _ =>
  extract_lets -underBinder carriedOwn missing nLate used n header index front bytes pad cb carriedLate p1 d1 d2 d3
  have hfields : leAt cb.bytes 0 4 = b.id ∧ leAt cb.bytes 28 1 = cause ∧ leAt cb.bytes 4 4 = cb.samples % 2 ^ 32 := by
    have hbytes : ∃ q, cb.bytes = u32 b.id ++ (u32 n ++ (u32 placed.length ++ (u32 nLate ++ (u32 missing.length ++ (u32 used ++
        (u32 c.rowLen ++ (u8 cause ++ q))))))) := ⟨_, by simp only [cb, bytes, front, header, List.append_assoc]; rfl⟩
    obtain ⟨q, hq⟩ := hbytes
    obtain ⟨hid', hn, hcause'⟩ := slotHeader_fields b.id n placed.length nLate missing.length used c.rowLen cause q
    rw [hq]
    exact ⟨hid'.trans (Nat.mod_eq_of_lt hid), hcause'.trans (Nat.mod_eq_of_lt hcause), hn⟩
  have hinst : d1.packInst die k = p1 := Device.packInst_setPack_self d die k p1
  have h1 : d.BatchClosed (d1.count (Reg.PACK_BATCHES die k) 64 1) die k b.id cause :=
    ⟨congrArg PackInst.openB hinst, ⟨cb, congrArg PackInst.closed hinst, hfields⟩, Device.counted_count rfl hwf,
      Device.bumpBy_regsWf (d := d1) _ _ _ hwf⟩
  have h2 : d.BatchClosed d2 die k b.id cause := h1.trans ((((Device.KeepsBatches.refl.count hlate _).count hstale _).count hover _).count hpad _)
  have h3 : d.BatchClosed d3 die k b.id cause := h2.trans (.foldl .refl fun _ _ h => h.holdCarried _)
  split
  · exact h3.trans (.foldl .refl fun _ _ h => h.addStraggler)
  · exact h2

/-- A close changes neither memory nor the clock. -/
theorem Device.closeBatch_frame : (d.closeBatch die k c b cause).mem = d.mem ∧ (d.closeBatch die k c b cause).now = d.now := by
  rw [(Device.DieWork.refl.closeBatch c b cause).frame]
  exact ⟨rfl, rfl⟩

/-- An event of CAUSE 1 or more at a batch that lacks something: the CAUSE is 1 where its close point has passed in its step (R274). -/
theorem Device.closeCause_of_unfilled (hfull : b.full = none) (hcause : 1 ≤ cause) :
    d.closeCause c b cause = if b.openStep = d.stepNum ∧ b.closePoint c ≤ d.phase then 1 else cause := by
  simp only [Device.closeCause, hfull, Bool.and_eq_true, decide_eq_true_eq, Nat.min_eq_left hcause]

/-- The budget of a batch that lacks something ends: it closes with CAUSE 1, no earlier than its close point. -/
theorem Device.closeBudget_post (hwf : d.regsWf) (hid : b.id < 2 ^ 32) (hfull : b.full = none)
    (he : e = (d.reachPhase (b.closePoint c)).closeBatch die k c b ((d.reachPhase (b.closePoint c)).closeCause c b 1)) :
    d.BatchClosed e die k b.id 1 ∧ e.mem = d.mem ∧ d.timeOfPhase (b.closePoint c) ≤ e.now := by
  rw [Device.closeCause_of_unfilled hfull (Nat.le_refl 1), ite_self] at he
  obtain ⟨hmem, hnow⟩ := Device.closeBatch_frame (d := d.reachPhase (b.closePoint c)) (die := die) (k := k) (c := c) (b := b) (cause := 1)
  have hclosed := Device.closeBatch_batchClosed (d := d.reachPhase (b.closePoint c)) (die := die) (k := k) (c := c) hwf hid (by decide : 1 < 256)
  subst he
  exact ⟨⟨hclosed.openB, hclosed.closed, hclosed.batches, hclosed.wf⟩, hmem, hnow ▸ Nat.le_max_right ..⟩

/-! ### A flush (R288) -/

theorem bitAt_setBit_self (x i : Nat) : bitAt (setBit x i) i = true := by
  unfold setBit
  split
  · assumption
  next h =>
    simp only [bitAt, decide_eq_true_eq] at h ⊢
    rw [Nat.add_div_right _ (Nat.two_pow_pos i)]
    omega

theorem bitAt_clearBit_self (x i : Nat) : bitAt (clearBit x i) i = false := by
  unfold clearBit
  split
  next h =>
    simp only [bitAt, decide_eq_true_eq, decide_eq_false_iff_not] at h ⊢
    have hle : 2 ^ i ≤ x := by
      by_contra hlt
      rw [Nat.div_eq_of_lt (Nat.lt_of_not_le hlt)] at h
      exact absurd h (by decide)
    have hdiv : x / 2 ^ i = (x - 2 ^ i) / 2 ^ i + 1 := by
      rw [← Nat.add_div_right _ (Nat.two_pow_pos i), Nat.sub_add_cancel hle]
    omega
  next h => exact Bool.eq_false_iff.2 h

/-- A bit of a remainder by a greater power of two. -/
theorem bitAt_mod_two_pow {i w : Nat} (x : Nat) (h : i < w) : bitAt (x % 2 ^ w) i = bitAt x i := by
  simp only [bitAt, ← Nat.toNat_testBit, Nat.testBit_mod_two_pow, h, decide_true, Bool.true_and]

/-- Bit `k` of PACK_CMD.FLUSH after a write of the field. -/
theorem Device.flushBit_setFld (hwf : d.regsWf) (hk : k < 4) (v : Nat) :
    bitAt ((d.setFld (Reg.PACK_CMD die) Fd.PACK_CMD_FLUSH v).fld (Reg.PACK_CMD die) Fd.PACK_CMD_FLUSH) k = bitAt v k := by
  rw [Device.fld_setFld_self _ _ _ hwf (by decide)]
  exact bitAt_mod_two_pow v hk

/-- A flush of the one open batch, which lacks something: it closes, and the bit of the station is 1 (log 59). -/
theorem Device.packFlush_post (hwf : d.regsWf) (hk : k < 4) (hcfg : d.packConfig die k = some c) (hon : d.packOff die k = false)
    (hopen : (d.packInst die k).openB = [b]) (hfull : b.full = none) (hid : b.id < 2 ^ 32) (he : e = d.packFlush die k) :
    d.BatchClosed e die k b.id (if b.openStep = d.stepNum ∧ b.closePoint c ≤ d.phase then 1 else 4) ∧ e.mem = d.mem ∧
    bitAt (e.fld (Reg.PACK_CMD die) Fd.PACK_CMD_FLUSH) k = true := by
  obtain ⟨x, hx⟩ : ∃ x, x = d.closeBatch die k c b (if b.openStep = d.stepNum ∧ b.closePoint c ≤ d.phase then 1 else 4) := ⟨_, rfl⟩
  have hflush : d.packFlushInst die k c = x := by
    simp only [Device.packFlushInst, hon, hopen, List.isEmpty_cons, Bool.false_and, Bool.false_eq_true, if_false, List.foldl_cons, List.foldl_nil,
      Device.closeCause_of_unfilled hfull (show 1 ≤ 4 by decide), hx]
  have hclosed : d.BatchClosed x die k b.id (if b.openStep = d.stepNum ∧ b.closePoint c ≤ d.phase then 1 else 4) :=
    hx ▸ Device.closeBatch_batchClosed hwf hid (by split <;> decide)
  have hwaits : (x.packInst die k).closed.isEmpty = false := by
    obtain ⟨cb, hcb, _⟩ := hclosed.closed
    rw [hcb, List.isEmpty_eq_false_iff]
    exact List.append_ne_nil_of_right_ne_nil _ (List.cons_ne_nil cb [])
  obtain ⟨f, hf⟩ : ∃ f, f = x.fld (Reg.PACK_CMD die) Fd.PACK_CMD_FLUSH := ⟨_, rfl⟩
  have hset : e = x.setFld (Reg.PACK_CMD die) Fd.PACK_CMD_FLUSH (setBit f k) := by
    simp only [he, Device.packFlush, hcfg, hflush, hwaits, hf, Bool.false_eq_true, if_false]
  obtain ⟨-, hcmd, -⟩ := packBatches_apart die k
  refine ⟨hclosed.trans (hset ▸ ⟨rfl, rfl, Device.reg_setFld_of_ne _ _ hcmd, Device.setFld_regsWf _ _ _⟩), ?_, ?_⟩
  · rw [hset, Device.setFld_mem, hx]
    exact Device.closeBatch_frame.1
  · rw [hset, Device.flushBit_setFld hclosed.wf hk, bitAt_setBit_self]

/-! ### The read of a handle (R270) -/

/-- Where no slot is being emitted, or its stream is not DONE, no slot becomes free. -/
theorem Device.packFree_of_kept (h : (d.packInst die k).emitting = none ∨ (d.stream (packStream die k)).state ≠ .done) : d.packFree die k = d := by
  rcases h with h | h <;> simp [Device.packFree, h]

/-- Batches that all lack something do not close by themselves. -/
theorem Device.packSettle_of_unfilled (h : ∀ y ∈ (d.packInst die k).openB, y.full = none) (ended : Bool) : d.packSettle die k c ended = d :=
  List.foldlRecOn (motive := fun x => x = d) _ _ rfl fun x hx y hy => by
    rw [h y hy]
    exact hx

/-- A Pack station that may read the handle at the head of its Lift: it works, nothing of it waits, its store has room, and the task goes on. -/
structure Device.PackReady (d : Device) (die k : Nat) (c : PackCfg) (e : LiftEntry) (rest : List LiftEntry) : Prop where
  cfg : d.packConfig die k = some c
  head : d.liftQ (4096 * die + c.inLift) = e :: rest
  src : e.src.isStream = false
  live : d.taskGone e.tag = false
  idle : (d.packInst die k).emitting = none
  unfilled : ∀ y ∈ (d.packInst die k).openB, y.full = none
  going : d.stationStopped die 6 k = false
  written : (d.packInst die k).closed = []
  room : (d.packInst die k).used + e.h.len ≤ d.regionSize die c.storeRegion
  clean : d.poisoned e.h.addr e.h.len = false

/-- What a read comes to once the handle is popped: its records are held for its task, or the task is asked to abort. -/
def Device.packRead (d : Device) (die k : Nat) (c : PackCfg) (e : LiftEntry) (rest : List LiftEntry) : Device :=
  let x := d.setLift (4096 * die + c.inLift) rest
  match parseRecords c (d.packInst die k) (e.h.len / 64 + 1) (d.handleData e) with
  | .inr code => (x.releaseHandle (stationRouter (stKey die 6 k)) e.h).requestAbort e.tag code
  | .inl rs => (x.setPack die k { d.packInst die k with staged := (d.packInst die k).staged ++ rs.map (fun r => (e.tag, r)) }).releaseHandle
      (stationRouter (stKey die 6 k)) e.h

theorem Completes.of_packHandleRead {die k : Fin 4} {e : LiftEntry} {rest : List LiftEntry} {pre : Device → Prop} {post : Device → Device → Prop}
    (hpre : ∀ d, pre d → d.runs ∧ d.PackReady die.val k.val c e rest) (hp : ∀ d, pre d → post d (d.packRead die.val k.val c e rest)) :
    Completes (.packHandleRead die k) pre post := by
  refine .of_upd_eq (fun s => show execPackHandleRead die k s = s.upd _ from rfl) (fun d h => (hpre d h).1) (fun d h => ?_) hp
  have hr := (hpre d h).2
  have hheads : d.discardHeads [4096 * die.val + c.inLift] = d := Device.discardGone_of_live hr.head hr.live _
  have hfits : ¬ d.regionSize die.val c.storeRegion < e.h.len := Nat.not_lt.2 (Nat.le_trans (Nat.le_add_left ..) hr.room)
  have hclean (q : List LiftEntry) : (d.setLift (4096 * die.val + c.inLift) q).poisoned e.h.addr e.h.len = false := hr.clean
  simp only [hr.cfg, hheads, Device.packFree_of_kept (.inl hr.idle), Device.packSettle_of_unfilled hr.unfilled, hr.head, hr.going, hr.written,
    Nat.not_lt.2 hr.room, Device.popLift_of_cons hr.head hr.src, hfits, hclean, List.isEmpty_nil, Bool.not_true, Bool.or_self,
    Bool.false_eq_true, decide_false, Bool.and_false, if_false]
  rfl

/-- Good records are held for the task of their handle. -/
theorem Device.packRead_good {e : LiftEntry} {rest : List LiftEntry} {rs : List PackRecord}
    (hparse : parseRecords c (d.packInst die k) (e.h.len / 64 + 1) (d.handleData e) = .inl rs) (he : d' = d.packRead die k c e rest) :
    d'.packInst die k = { d.packInst die k with staged := (d.packInst die k).staged ++ rs.map (fun r => (e.tag, r)) } ∧
    d'.liftQ (4096 * die + c.inLift) = rest ∧ d' = { d with pack := d'.pack, str := { d.str with lifts := d'.str.lifts, flight := d'.str.flight } } := by
  simp only [Device.packRead, hparse] at he
  rw [Device.releaseHandle_frame] at he
  subst he
  exact ⟨Device.packInst_setPack_self .., Device.liftQ_setLift_self .., rfl⟩

/-- A bad record asks the task of the handle to abort. -/
theorem Device.packRead_bad {e : LiftEntry} {rest : List LiftEntry} {code : Nat}
    (hparse : parseRecords c (d.packInst die k) (e.h.len / 64 + 1) (d.handleData e) = .inr code) (he : d' = d.packRead die k c e rest) :
    d'.pack = d.pack ∧ d.abortAsked d' e.tag code ∧ d'.liftQ (4096 * die + c.inLift) = rest ∧ d'.mem = d.mem ∧ d'.regs = d.regs := by
  simp only [Device.packRead, hparse] at he
  rw [Device.releaseHandle_frame] at he
  have hasked : d.abortAsked d' e.tag code := he ▸ Device.requestAbort_abortAsked rfl rfl
  rw [Device.requestAbort_frame] at he
  refine ⟨?_, hasked, ?_, ?_, ?_⟩ <;> rw [he]
  · rfl
  · exact Device.liftQ_setLift_self d _ rest
  · rfl
  · rfl

/-! ### Emission (R283) -/

/-- Bytes written to memory in its canonical form stand there, and no other byte changes. -/
theorem Device.write_stored (hmem : Memory.wf d.mem = true) (a : Nat) (x : List Byte) : d.stored (d.write a x) a x := by
  refine ⟨fun i hi => (memRead_memWriteN a x (a + i) hmem).trans ?_, fun y hy => Device.write_other a x y hmem hy⟩
  rw [if_pos (by omega), Nat.add_sub_cancel_left]

/-- An allocation changes the task table and the ordinals of jobs of earlier tasks (R153, R242). -/
theorem Device.allocTag_frame {stage tag : Nat} {x : Device} (h : d.allocTag die stage = some (tag, x)) :
    ∃ str stn, x = { d with str := str, stn := stn } := by
  unfold Device.allocTag at h
  extract_lets seq t at h
  split at h
  · cases h
  · split at h
    · cases h
    · split at h
      · cases h
      · exact ⟨_, _, (Prod.mk.inj (Option.some.inj h)).2.symm⟩

theorem Device.bindStream_frame (g tag : Nat) (ps : List Word) : ∃ str cells, d.bindStream g tag ps = { d with str := str, cells := cells } := by
  unfold Device.bindStream
  split
  · exact ⟨_, _, rfl⟩
  · extract_lets gone
    split <;> exact ⟨_, _, rfl⟩

/-- An arm for a new task changes the streams, the tasks and the cells that wait. -/
theorem Device.arm_new_frame (g : Nat) (ps : List Word) : ∃ str stn cells, d.arm g 0 ps = { d with str := str, stn := stn, cells := cells } := by
  rw [Device.arm, if_pos rfl]
  split
  next tag x halloc =>
    obtain ⟨str, stn, hx⟩ := Device.allocTag_frame halloc
    obtain ⟨str', cells, hbind⟩ := x.bindStream_frame g tag ps
    exact ⟨str', stn, cells, by rw [hbind, hx]⟩
  next => exact ⟨_, _, _, rfl⟩

/-- The slot of a closed batch. -/
def ClosedBatch.inSlot (cb : ClosedBatch) (s : Nat) : PackSlot := { slot := s, samples := cb.samples, rows := cb.rows, late := cb.late }

/-- The oldest closed batch is written to a free slot. -/
def Device.wroteSlot (d : Device) (die k : Nat) (c : PackCfg) (cb : ClosedBatch) (cs : List ClosedBatch) (s : Nat) : Device :=
  (d.write (d.regionBase die c.slotRegion + s * c.slotBytes) cb.bytes).setPack die k
    { d.packInst die k with closed := cs, slots := (d.packInst die k).slots ++ [cb.inSlot s] }

/-- With a batch that waits and a free slot the write of PACK_EMIT is that of the slot; FLUSH ends with the last batch that waits (log 59). -/
theorem Device.packWrite_eq {cb : ClosedBatch} {cs : List ClosedBatch} {s : Nat} (hclosed : (d.packInst die k).closed = cb :: cs)
    (hslot : (List.range c.slots).find? (fun s => s ∉ (d.packInst die k).busySlots) = some s) : d.packWrite die k c =
      if cs.isEmpty then (d.wroteSlot die k c cb cs s).setFld (Reg.PACK_CMD die) Fd.PACK_CMD_FLUSH
        (clearBit (d.fld (Reg.PACK_CMD die) Fd.PACK_CMD_FLUSH) k)
      else d.wroteSlot die k c cb cs s := by
  simp only [Device.packWrite, hclosed, hslot]
  rfl

theorem Device.wroteSlot_packInst {cb : ClosedBatch} {cs : List ClosedBatch} {s : Nat} : (d.wroteSlot die k c cb cs s).packInst die k =
    { d.packInst die k with closed := cs, slots := (d.packInst die k).slots ++ [cb.inSlot s] } := Device.packInst_setPack_self ..

theorem Device.wroteSlot_stored {cb : ClosedBatch} {cs : List ClosedBatch} {s : Nat} (hmem : Memory.wf d.mem = true) :
    d.stored (d.wroteSlot die k c cb cs s) (d.regionBase die c.slotRegion + s * c.slotBytes) cb.bytes := Device.write_stored hmem _ _

/-- With no slot in emission and an IDLE stream the oldest written slot is emitted: the stream is armed for a new task. -/
theorem Device.packArm_idle {s : PackSlot} {r : List PackSlot} (hslots : (d.packInst die k).slots = s :: r)
    (hidle : (d.packInst die k).emitting = none) (hst : (d.stream (packStream die k)).state = .idle) :
    ∃ str stn cells, d.packArm die k c =
      { d.setPack die k { d.packInst die k with slots := r, emitting := some s } with str := str, stn := stn, cells := cells } := by
  simp only [Device.packArm, hslots, hidle, hst, Option.isNone_none, decide_true, Bool.true_or, Bool.and_self, if_true]
  exact Device.arm_new_frame ..

/-- While a slot is in emission no other one is. -/
theorem Device.packArm_emitting {s : PackSlot} (h : (d.packInst die k).emitting = some s) : d.packArm die k c = d := by
  unfold Device.packArm
  extract_lets p st
  split
  · exact if_neg (by rw [h]; exact Bool.false_ne_true)
  · rfl

/-- PACK_EMIT of a station that works, whose batches lack something, while its slot in emission stays. -/
theorem Completes.of_packEmit {die k : Fin 4} {pre : Device → Prop} {post : Device → Device → Prop}
    (hpre : ∀ d, pre d → d.runs ∧ d.packConfig die.val k.val = some c ∧ d.stationStopped die.val 6 k.val = false ∧
      (∀ y ∈ (d.packInst die.val k.val).openB, y.full = none) ∧
      ((d.packInst die.val k.val).emitting = none ∨ (d.stream (packStream die.val k.val)).state ≠ .done))
    (hp : ∀ d, pre d → post d ((d.packWrite die.val k.val c).packArm die.val k.val c)) : Completes (.packEmit die k) pre post := by
  refine .of_upd_eq (fun s => show execPackEmit die k s = s.upd _ from rfl) (fun d h => (hpre d h).1) (fun d h => ?_) hp
  obtain ⟨-, hcfg, hgo, hopen, hkept⟩ := hpre d h
  simp only [hcfg, hgo, Bool.false_eq_true, if_false, Device.packFree_of_kept hkept, Device.packSettle_of_unfilled hopen]

/-- A station with no slot in emission writes its oldest batch to slot 0 and arms its stream, which is IDLE, for it; another batch waits. -/
theorem Device.packEmit_first {cb : ClosedBatch} {cs : List ClosedBatch} (hmem : Memory.wf d.mem = true)
    (hclosed : (d.packInst die k).closed = cb :: cs) (hmore : cs ≠ []) (hslots : (d.packInst die k).slots = [])
    (hidle : (d.packInst die k).emitting = none) (hc : 0 < c.slots) (hst : (d.stream (packStream die k)).state = .idle)
    (he : e = (d.packWrite die k c).packArm die k c) :
    d.stored e (d.regionBase die c.slotRegion) cb.bytes ∧ (e.packInst die k).closed = cs ∧ (e.packInst die k).slots = [] ∧
    (e.packInst die k).emitting = some (cb.inSlot 0) ∧ e.regs = d.regs := by
  have hfree : (List.range c.slots).find? (fun s => s ∉ (d.packInst die k).busySlots) = some 0 := by
    obtain ⟨n, hn⟩ := Nat.exists_eq_succ_of_ne_zero (Nat.ne_of_gt hc)
    simp [PackInst.busySlots, hslots, hidle, hn, List.range_succ_eq_map]
  rw [Device.packWrite_eq hclosed hfree, if_neg (by simpa using hmore)] at he
  have hinst := d.wroteSlot_packInst (die := die) (k := k) (c := c) (cb := cb) (cs := cs) (s := 0)
  have hstored := Device.wroteSlot_stored (die := die) (k := k) (c := c) (cb := cb) (cs := cs) (s := 0) hmem
  rw [hslots, List.nil_append] at hinst
  rw [Nat.zero_mul, Nat.add_zero] at hstored
  obtain ⟨str, stn, cells, harm⟩ := Device.packArm_idle (d := d.wroteSlot die k c cb cs 0) (c := c) (congrArg PackInst.slots hinst)
    ((congrArg PackInst.emitting hinst).trans hidle) hst
  rw [harm] at he
  have hpack : e.packInst die k = { (d.wroteSlot die k c cb cs 0).packInst die k with slots := [], emitting := some (cb.inSlot 0) } := by
    rw [he]
    exact Device.packInst_setPack_self ..
  have hmem' : e.mem = (d.wroteSlot die k c cb cs 0).mem := he ▸ rfl
  refine ⟨?_, by rw [hpack, hinst], by rw [hpack], by rw [hpack], he ▸ rfl⟩
  rw [Device.stored, hmem']
  exact hstored

/-- While a slot is in emission the oldest batch is written to the lowest free slot and waits there; FLUSH ends with the last batch that waits. -/
theorem Device.packEmit_next {cb : ClosedBatch} {cs : List ClosedBatch} {x : PackSlot} {i : Nat} (hmem : Memory.wf d.mem = true)
    (hwf : d.regsWf) (hk : k < 4) (hclosed : (d.packInst die k).closed = cb :: cs) (hbusy : (d.packInst die k).emitting = some x)
    (hslot : (List.range c.slots).find? (fun s => s ∉ (d.packInst die k).busySlots) = some i)
    (he : e = (d.packWrite die k c).packArm die k c) :
    d.stored e (d.regionBase die c.slotRegion + i * c.slotBytes) cb.bytes ∧ (e.packInst die k).closed = cs ∧
    (e.packInst die k).slots = (d.packInst die k).slots ++ [cb.inSlot i] ∧ (e.packInst die k).emitting = some x ∧
    bitAt (e.fld (Reg.PACK_CMD die) Fd.PACK_CMD_FLUSH) k = (bitAt (d.fld (Reg.PACK_CMD die) Fd.PACK_CMD_FLUSH) k && !cs.isEmpty) ∧
    d.sameRegsBut e [Reg.PACK_CMD die] := by
  have hinst := d.wroteSlot_packInst (die := die) (k := k) (c := c) (cb := cb) (cs := cs) (s := i)
  have hstored := Device.wroteSlot_stored (die := die) (k := k) (c := c) (cb := cb) (cs := cs) (s := i) hmem
  obtain ⟨y, hy⟩ : ∃ y, y = d.wroteSlot die k c cb cs i := ⟨_, rfl⟩
  have hywf : y.regsWf := hy ▸ hwf
  have hyregs : y.regs = d.regs := hy ▸ rfl
  rw [← hy] at hinst hstored
  have hwrite : (d.packWrite die k c).packInst die k = y.packInst die k := by
    rw [Device.packWrite_eq hclosed hslot, ← hy]
    split <;> rfl
  rw [Device.packArm_emitting ((congrArg PackInst.emitting (hwrite.trans hinst)).trans hbusy)] at he
  have hpack : e.packInst die k = { d.packInst die k with closed := cs, slots := (d.packInst die k).slots ++ [cb.inSlot i] } :=
    (he ▸ hwrite).trans hinst
  rw [Device.packWrite_eq hclosed hslot, ← hy] at he
  have hrest : e.mem = y.mem ∧
      bitAt (e.fld (Reg.PACK_CMD die) Fd.PACK_CMD_FLUSH) k = (bitAt (d.fld (Reg.PACK_CMD die) Fd.PACK_CMD_FLUSH) k && !cs.isEmpty) ∧
      d.sameRegsBut e [Reg.PACK_CMD die] := by
    split at he
    next hlast =>
      rw [he]
      refine ⟨rfl, ?_, fun j hj => (Device.reg_setFld_of_ne _ _ (List.ne_of_not_mem_cons hj)).trans (Device.reg_congr hyregs)⟩
      rw [Device.flushBit_setFld hywf hk, bitAt_clearBit_self, hlast, Bool.not_true, Bool.and_false]
    next hmore =>
      rw [he]
      refine ⟨rfl, ?_, fun j _ => Device.reg_congr hyregs⟩
      rw [Device.fld_congr hyregs, Bool.eq_false_iff.2 hmore, Bool.not_false, Bool.and_true]
  obtain ⟨hmem', hflush, hregs⟩ := hrest
  refine ⟨?_, by rw [hpack], by rw [hpack], by rw [hpack, hbusy], hflush, hregs⟩
  rw [Device.stored, hmem']
  exact hstored

/-- Settles O38: a read comes to records held or an abort asked for, a close to one more slot that waits and one count, which the stragglers and
carried samples kept after it leave alone, and an emission to one slot written. -/
theorem packRecords : Obligations.PackRecords := by
  refine ⟨fun die k c e rest rs => ?good, fun die k c e rest code => ?bad, fun die k batch c x => ?budget, fun die k c cb cs => ?first,
    fun die k c cb cs x i => ?next, fun die k => ?refused, fun die k c x => ?flush⟩
  case good =>
    exact .of_packHandleRead (fun d ⟨hr, hcfg, hq, hsrc, hlive, hidle, hopen, hgo, hclosed, hroom, hclean, _⟩ =>
      ⟨hr, hcfg, hq, hsrc, hlive, hidle, hopen, hgo, hclosed, hroom, hclean⟩)
      fun d ⟨_, _, _, _, _, _, _, _, _, _, _, hparse⟩ => Device.packRead_good hparse rfl
  case bad =>
    exact .of_packHandleRead (fun d ⟨hr, hcfg, hq, hsrc, hlive, hidle, hopen, hgo, hclosed, hroom, hclean, _⟩ =>
      ⟨hr, hcfg, hq, hsrc, hlive, hidle, hopen, hgo, hclosed, hroom, hclean⟩)
      fun d ⟨_, _, _, _, _, _, _, _, _, _, _, hparse⟩ => Device.packRead_bad hparse rfl
  case budget =>
    refine .of_upd_eq (fun s => show execBatchCloseBudget die k batch s = s.upd _ from rfl) (fun _ h => h.1)
      (g := fun d => (d.reachPhase (x.closePoint c)).closeBatch die.val k.val c x ((d.reachPhase (x.closePoint c)).closeCause c x 1))
      (fun d ⟨_, hcfg, hfind, hstep, _, hon, _⟩ => ?_) fun d ⟨_, _, hfind, _, hfull, _, hlt, hwf, _⟩ => ?_
    · simp only [hcfg, hfind, hstep, hon, decide_true, Bool.not_false, Bool.and_self, if_true]
    · have hid : x.id = batch := by simpa using List.find?_some hfind
      obtain ⟨⟨hopen, ⟨cb, hcb, hbatch, hcause, hsamples⟩, hcount, _⟩, hmem, hnow⟩ := Device.closeBudget_post (die := die.val) (k := k.val)
        (c := c) hwf (hid.symm ▸ hlt) hfull rfl
      rw [hid] at hopen hbatch
      exact ⟨hopen, ⟨cb, hcb, hbatch, hcause, hsamples⟩, hcount, hmem, hnow⟩
  case first =>
    exact .of_packEmit (fun d ⟨hr, hcfg, hgo, _, _, _, _, hidle, _, hopen, _⟩ => ⟨hr, hcfg, hgo, hopen, .inl hidle⟩)
      fun d ⟨_, _, _, hmem, hclosed, hmore, hslots, hidle, hc, _, hst⟩ => Device.packEmit_first hmem hclosed hmore hslots hidle hc hst rfl
  case next =>
    exact .of_packEmit (fun d ⟨hr, hcfg, hgo, _, _, _, _, _, hopen, hst⟩ => ⟨hr, hcfg, hgo, hopen, .inr hst⟩)
      fun d ⟨_, _, _, hmem, hwf, hclosed, hbusy, hslot, _⟩ => Device.packEmit_next hmem hwf k.isLt hclosed hbusy hslot rfl
  case refused =>
    refine .of_upd_eq (fun s => show execPackFlush die k s = s.upd _ from rfl) (fun _ h => h.1) (g := fun d => d.refuse 0x0805 die.val)
      (fun d ⟨_, hcfg⟩ => ?_) fun _ _ => rfl
    simp only [Device.packFlush, hcfg]
  case flush =>
    refine .of_upd (fun s => show execPackFlush die k s = s.upd _ from rfl) (fun _ h => h.1) fun d ⟨_, hcfg, hopen, hfull, hon, hid, hwf⟩ => ?_
    obtain ⟨⟨hopen', ⟨cb, hcb, hbatch, hcause, _⟩, hcount, _⟩, hmem, hbit⟩ := Device.packFlush_post hwf k.isLt hcfg hon hopen hfull hid rfl
    refine ⟨?_, ⟨cb, hcb, hbatch, hcause⟩, hcount, hmem, hbit⟩
    rw [hopen', hopen]
    exact List.filter_cons_of_neg (by simp)

end Sys2Proof.Machine
end

section
/-!
SUPPORT. Match entries and their changes (R313, R317, R326): what an entry reads after a change, and the slot of a
committed change.
-/

namespace Sys2Proof.Machine

variable {d : Device} {die k n : Nat} {c : MatchCfg} {x : MatchChange} {r : List MatchChange} {p : EntryPlace} {place : Nat → EntryPlace}

theorem Device.entry_setEntry (m : Nat) (e : MatchEntry) (h : Map.rising d.matchE = true) :
    (d.setEntry n e).entry m = if m = n then e else d.entry m :=
  Map.getD_setC _ _ _ _ h

theorem Device.rising_setEntry (e : MatchEntry) (h : Map.rising d.matchE = true) : Map.rising (d.setEntry n e).matchE = true :=
  Map.rising_setC _ _ _ h

@[simp] theorem Device.gang_setGang_self (g : MatchInst) : (d.setGang die k g).gang die k = g := Map.getD_put_self ..

/-- The entry of a narrow place is the one its bank holds (R317). -/
theorem Device.getEntry_narrow (hp : p.wide = false) : d.getEntry p = d.entry p.lo := if_neg (by rw [hp]; exact Bool.false_ne_true)

theorem Device.putEntry_narrow (hp : p.wide = false) (e : MatchEntry) :
    d.putEntry p e = d.setEntry p.lo { e with key := e.key % 2 ^ 160, care := e.care % 2 ^ 160 } :=
  if_neg (by rw [hp]; exact Bool.false_ne_true)

/-- The entry a WRITE makes in a narrow gang. -/
def MatchChange.written (x : MatchChange) : MatchEntry :=
  { state := 1, key := x.key % 2 ^ 160, care := x.care % 2 ^ 160, result := x.result, prio := x.prio }

/-- The entry an INVALIDATE leaves in a narrow gang: RESULT and PRIO stay (log 62). -/
def MatchEntry.invalid (e : MatchEntry) : MatchEntry := { e with state := 0, key := e.key % 2 ^ 160, care := e.care % 2 ^ 160 }

theorem Device.applyChange_write (hop : x.op = 1) (hp : (place x.index).wide = false) :
    d.applyChange x place = d.setEntry (place x.index).lo x.written := by
  simp only [Device.applyChange, hop, Device.putEntry_narrow hp, MatchChange.written]

theorem Device.applyChange_invalidate (hop : x.op = 2) (hp : (place x.index).wide = false) :
    d.applyChange x place = d.setEntry (place x.index).lo (d.entry (place x.index).lo).invalid := by
  simp only [Device.applyChange, hop, Device.putEntry_narrow hp, Device.getEntry_narrow hp, MatchEntry.invalid]

/-- No entry that a record moves is found uncorrectable when no bit says so. -/
theorem Device.movedBad_zero (xs : List MatchChange) (place : Nat → EntryPlace) : d.movedBad xs 0 place = d :=
  List.foldlRecOn (motive := fun (e : Device) => e = d) _ _ rfl fun e he q _ => by
    have hbit : bitAt 0 q.2 = false := by simp [bitAt]
    rw [hbit, Bool.false_and, if_neg Bool.false_ne_true, he]

/-- A slot of a gang that is not PAIRED applies the change that waits first (R329, R330). -/
theorem Device.applyNext_one (hq : (d.gang die k).apply = x :: r) (hc : c.paired = false) :
    d.applyNext die k 0 c = ((d.setGang die k { d.gang die k with apply := r }).applyChange x (gangPlace die k c)).count
      (Reg.MATCH_UPDATES die k) 64 1 := by
  cases r with
  | nil =>
    simp only [Device.applyNext, hq, Device.movedBad_zero]
    rfl
  | cons z r =>
    simp only [Device.applyNext, hq, Device.movedBad_zero, hc, Bool.false_and, Bool.false_eq_true, if_false]
    rfl

/-! ### The slot of a committed change -/

/-- MATCH_COMMIT_APPLY of a gang that may work, whose first change waiting is neither held back nor one of a pair. -/
theorem Completes.of_matchCommitApply {die : Fin 4} {k : Fin 64} {b : List Byte} {pre : Device → Prop} {post : Device → Device → Prop}
    (hpre : ∀ d, pre d → d.runs ∧ d.stationCfg die.val 1 k.val = some b ∧ d.mgmt.gated = false ∧ d.hostWaits die.val k.val (matchCfg b) = false ∧
      (d.gang die.val k.val).apply = x :: r ∧ (matchCfg b).paired = false)
    (hp : ∀ d, pre d → post d (((d.setGang die.val k.val { d.gang die.val k.val with apply := r }).applyChange x
      (gangPlace die.val k.val (matchCfg b))).count (Reg.MATCH_UPDATES die.val k.val) 64 1)) :
    Completes (.matchCommitApply die k 0) pre post := by
  refine .of_upd_eq (fun s => show execMatchCommitApply die k 0 s = s.upd _ from rfl) (fun d h => (hpre d h).1) (fun d h => ?_) hp
  obtain ⟨-, hcfg, hgate, hwait, hq, hpair⟩ := hpre d h
  simp only [hcfg, hgate, hwait, hq, List.isEmpty_cons, Bool.or_self, Bool.false_eq_true, if_false]
  exact Device.applyNext_one hq hpair

end Sys2Proof.Machine
end

section
/-!
SUPPORT. Host actions of the Match station (R331): an action whose slot has come, and the record window that a READ fills.
-/

namespace Sys2Proof.Machine

variable {d d' : Device} {die act bank leader n : Nat} {x y : MatchChange}

/-! ### The slot of an action -/

/-- An action of a narrow bank that may take its slot, with the ACTION written in the command (R331, R332). -/
structure Device.HostReady (d : Device) (die act bank : Nat) : Prop where
  go : d.fld (Reg.MATCH_HOST_CMD die) ⟨9, 1⟩ = 1
  action : d.fld (Reg.MATCH_HOST_CMD die) ⟨7, 2⟩ = act
  narrow : d.fld (Reg.MATCH_HOST_CMD die) ⟨6, 1⟩ = 0
  steady : d.plan.switch = .none
  place : d.fld (Reg.MATCH_HOST_CMD die) ⟨0, 6⟩ = bank
  going : d.hostBankStopped die bank false = false
  fit : d.hostRecordsBad die act false = none

/-- The place of entry `i` of a bank that the host reaches on its own (R331). -/
def hostPlace (die bank i : Nat) : EntryPlace := { die := die, bank := bank, e := i, wide := false }

/-- The bank whose counters an action on a bank moves: the leader of the gang that holds it, or the bank (R337). -/
def Device.hostLeader (d : Device) (die bank : Nat) : Nat := ((d.gangOf die bank).map (·.1)).getD bank

/-- An action has ended with success: CODE and GO are 0. -/
def Device.hostDone (d : Device) (die : Nat) : Device :=
  (d.setFld (Reg.MATCH_HOST_CMD die) ⟨32, 16⟩ 0).setFld (Reg.MATCH_HOST_CMD die) ⟨9, 1⟩ 0

theorem bitAt_eq_bitsOf (w i : Nat) : bitAt w i = decide (bitsOf w i 1 = 1) := rfl

/-- An action that is ready changes the device as `f` says, at its bank, and ends with success. -/
theorem Device.hostMatch_of_ready {f : EntryPlace → Nat → Device → Device} (hact : act ≠ 3) (h : d.HostReady die act bank) :
    d.hostMatch die act f = (f (hostPlace die bank 0) (d.hostLeader die bank) d).hostDone die := by
  obtain ⟨hgo, haction, hnarrow, hsteady, hbank, hgoing, hfit⟩ := h
  simp only [Device.fld] at hgo haction hnarrow hbank
  have hwide : bitAt (d.reg (Reg.MATCH_HOST_CMD die)).toNat 6 = false := by rw [bitAt_eq_bitsOf, hnarrow]; rfl
  have hset : bitAt (d.reg (Reg.MATCH_HOST_CMD die)).toNat 9 = true := by rw [bitAt_eq_bitsOf, hgo]; rfl
  have hbad : d.hostMatchBad die (d.reg (Reg.MATCH_HOST_CMD die)).toNat = none := by
    simp [Device.hostMatchBad, haction, hwide, hfit, hact]
  simp only [Device.hostMatch, hset, haction, hwide, hsteady, hbank, hgoing, hbad, Bool.not_true, bne_self_eq_false, Bool.or_self,
    Bool.false_eq_true, if_false]
  unfold Device.hostLeader
  cases d.gangOf die bank <;> rfl

/-- A command of a host action that is ready. -/
theorem Completes.of_hostMatch {c : Instr} {die : Nat} {f : Device → EntryPlace → Nat → Device → Device} {pre : Device → Prop}
    {post : Device → Device → Prop} (hc : ∀ s, exec c s = s.upd (fun d => d.hostMatch die act (f d))) (hact : act ≠ 3)
    (hpre : ∀ d, pre d → d.runs ∧ d.HostReady die act bank)
    (hp : ∀ d, pre d → post d ((f d (hostPlace die bank 0) (d.hostLeader die bank) d).hostDone die)) :
    Completes c pre post :=
  .of_upd_eq hc (fun d h => (hpre d h).1) (fun d h => Device.hostMatch_of_ready hact (hpre d h).2) hp

/-! ### What an action leaves (R331) -/

theorem Device.reg_hostDone_of_ne {off : Nat} (h : off ≠ Reg.MATCH_HOST_CMD die) : (d.hostDone die).reg off = d.reg off :=
  (Device.reg_setFld_of_ne _ _ h).trans (Device.reg_setFld_of_ne _ _ h)

/-- GO and CODE are 0, and ENTRY_STATE is as before. -/
theorem Device.hostDone_fields (h : d.regsWf) : (d.hostDone die).fld (Reg.MATCH_HOST_CMD die) ⟨9, 1⟩ = 0 ∧
    (d.hostDone die).fld (Reg.MATCH_HOST_CMD die) ⟨32, 16⟩ = 0 ∧
    (d.hostDone die).fld (Reg.MATCH_HOST_CMD die) ⟨10, 2⟩ = d.fld (Reg.MATCH_HOST_CMD die) ⟨10, 2⟩ := by
  have hcode : (d.setFld (Reg.MATCH_HOST_CMD die) ⟨32, 16⟩ 0).regsWf := Device.setFld_regsWf _ _ _ h
  unfold Device.hostDone
  refine ⟨Device.fld_setFld_self _ _ _ hcode (by decide), ?_, ?_⟩
  · rw [Device.fld_setFld_apart _ _ _ _ hcode (by decide) (by decide), Device.fld_setFld_self _ _ _ h (by decide)]
    rfl
  · rw [Device.fld_setFld_apart _ _ _ _ hcode (by decide) (by decide), Device.fld_setFld_apart _ _ _ _ h (by decide) (by decide)]

theorem matchUpdates_ne_hostCmd (die k : Nat) : Reg.MATCH_UPDATES die k ≠ Reg.MATCH_HOST_CMD die := by
  simp only [Reg.MATCH_UPDATES, Reg.MATCH_HOST_CMD]
  omega

/-- The changes of an action none of whose entries is found uncorrectable: each at its place, then counted. -/
theorem Device.hostApply_zero (leader : Nat) (p : EntryPlace) (xs : List MatchChange) :
    d.hostApply die leader 0 p xs = (xs.foldl (fun d x => d.applyChange x (fun i => { p with e := i })) d).count (Reg.MATCH_UPDATES die leader) 64
      xs.length := by
  rw [Device.hostApply, Device.movedBad_zero]

/-- The counter and the command after an action that has changed entries. -/
theorem Device.hostApplied_regs (h : d.regsWf) (he : d'.regs = d.regs) :
    d.counted ((d'.count (Reg.MATCH_UPDATES die leader) 64 n).hostDone die) (Reg.MATCH_UPDATES die leader) n ∧
    ((d'.count (Reg.MATCH_UPDATES die leader) 64 n).hostDone die).fld (Reg.MATCH_HOST_CMD die) ⟨9, 1⟩ = 0 ∧
    ((d'.count (Reg.MATCH_UPDATES die leader) 64 n).hostDone die).fld (Reg.MATCH_HOST_CMD die) ⟨32, 16⟩ = 0 := by
  have hwf : d'.regsWf := by rw [Device.regsWf, he]; exact h
  obtain ⟨hgo, hcode, -⟩ := Device.hostDone_fields (die := die) (d := d'.count (Reg.MATCH_UPDATES die leader) 64 n) (Device.bumpBy_regsWf _ _ _ hwf)
  exact ⟨Device.counted_of_reg (Device.counted_count (Device.reg_congr he) hwf) (Device.reg_hostDone_of_ne (matchUpdates_ne_hostCmd die leader)),
    hgo, hcode⟩

/-- An APPLY of a WRITE sets the entry it names, and no other, is counted and ends. -/
theorem Device.hostApply_write (hwf : d.regsWf) (hrise : Map.rising d.matchE = true) (hop : x.op = 1)
    (he : d' = (d.hostApply die leader 0 (hostPlace die bank 0) [x]).hostDone die) :
    d'.entry (entryNo die bank x.index) = x.written ∧ (∀ m, m ≠ entryNo die bank x.index → d'.entry m = d.entry m) ∧
    d.counted d' (Reg.MATCH_UPDATES die leader) 1 ∧ d'.fld (Reg.MATCH_HOST_CMD die) ⟨9, 1⟩ = 0 ∧ d'.fld (Reg.MATCH_HOST_CMD die) ⟨32, 16⟩ = 0 := by
  have hset : d.applyChange x (hostPlace die bank) = d.setEntry (entryNo die bank x.index) x.written := Device.applyChange_write hop rfl
  have heq : d' = ((d.setEntry (entryNo die bank x.index) x.written).count (Reg.MATCH_UPDATES die leader) 64 1).hostDone die := by
    rw [he, Device.hostApply_zero, ← hset]
    rfl
  rw [heq]
  exact ⟨(Device.entry_setEntry _ _ hrise).trans (if_pos rfl), fun m hm => (Device.entry_setEntry m _ hrise).trans (if_neg hm),
    Device.hostApplied_regs hwf rfl⟩

/-- A PAIR of a WRITE and an INVALIDATE of another entry sets both, and no other, is counted twice and ends. -/
theorem Device.hostApply_pair (hwf : d.regsWf) (hrise : Map.rising d.matchE = true) (hx : x.op = 1) (hy : y.op = 2) (hne : y.index ≠ x.index)
    (he : d' = (d.hostApply die leader 0 (hostPlace die bank 0) [x, y]).hostDone die) :
    d'.entry (entryNo die bank x.index) = x.written ∧ (d'.entry (entryNo die bank y.index)).state = 0 ∧
    (∀ m, m ≠ entryNo die bank x.index → m ≠ entryNo die bank y.index → d'.entry m = d.entry m) ∧
    d.counted d' (Reg.MATCH_UPDATES die leader) 2 ∧ d'.fld (Reg.MATCH_HOST_CMD die) ⟨9, 1⟩ = 0 ∧ d'.fld (Reg.MATCH_HOST_CMD die) ⟨32, 16⟩ = 0 := by
  obtain ⟨z, hz⟩ : ∃ z, z = d.setEntry (entryNo die bank x.index) x.written := ⟨_, rfl⟩
  have hset : d.applyChange x (hostPlace die bank) = z := hz ▸ Device.applyChange_write hx rfl
  have hset' : z.applyChange y (hostPlace die bank) = z.setEntry (entryNo die bank y.index) (z.entry (entryNo die bank y.index)).invalid :=
    Device.applyChange_invalidate hy rfl
  have heq : d' = ((z.setEntry (entryNo die bank y.index) (z.entry (entryNo die bank y.index)).invalid).count
      (Reg.MATCH_UPDATES die leader) 64 2).hostDone die := by
    rw [he, Device.hostApply_zero, ← hset', ← hset]
    rfl
  have hzrise : Map.rising z.matchE = true := hz ▸ Device.rising_setEntry _ hrise
  have hfirst (m : Nat) : z.entry m = if m = entryNo die bank x.index then x.written else d.entry m := hz ▸ Device.entry_setEntry m _ hrise
  have hentry (m : Nat) : d'.entry m = if m = entryNo die bank y.index then (z.entry (entryNo die bank y.index)).invalid else z.entry m :=
    heq ▸ Device.entry_setEntry m _ hzrise
  have hplaces : entryNo die bank x.index ≠ entryNo die bank y.index := by
    unfold entryNo
    omega
  refine ⟨?_, ?_, fun m hmx hmy => ?_, ?_⟩
  · rw [hentry, if_neg hplaces, hfirst, if_pos rfl]
  · rw [hentry, if_pos rfl]
    rfl
  · rw [hentry, if_neg hmy, hfirst, if_neg hmx]
  · rw [heq]
    exact Device.hostApplied_regs hwf (hz ▸ rfl)

/-! ### The record window that a READ fills -/

theorem leBytes_ofLe (bs : List Byte) : leBytes bs.length (ofLe bs) = bs := by
  induction bs with
  | nil => rfl
  | cons b bs ih =>
    have hlow : BitVec.ofNat 8 (b.toNat + 256 * ofLe bs) = b := BitVec.eq_of_toNat_eq (by rw [BitVec.toNat_ofNat]; omega)
    have hhigh : (b.toNat + 256 * ofLe bs) / 256 = ofLe bs := by omega
    rw [List.length_cons, ofLe, leBytes, hlow, hhigh, ih]

/-- The words of a list of bytes, put together again. -/
theorem flatMap_words (bs : List Byte) (n : Nat) (h : 4 * n ≤ bs.length) :
    (List.range n).flatMap (fun w => leBytes 4 (leAt bs (4 * w) 4)) = bs.take (4 * n) := by
  induction n with
  | zero => rfl
  | succ n ih =>
    have hword : leBytes 4 (leAt bs (4 * n) 4) = (bs.drop (4 * n)).take 4 := by
      have hlen : ((bs.drop (4 * n)).take 4).length = 4 := by rw [List.length_take, List.length_drop]; omega
      have hback := leBytes_ofLe ((bs.drop (4 * n)).take 4)
      rwa [hlen] at hback
    rw [List.range_succ, List.flatMap_append, ih (by omega), List.flatMap_singleton, hword, Nat.mul_succ, List.take_add]

theorem length_entryRecord (i : Nat) (e : MatchEntry) : (entryRecord i e).length = 128 := by
  simp [entryRecord, u8, u16, u64, zeros, length_leBytes]

/-- The first `n` words of a record, written to REC0. -/
def Device.fillRecord (d : Device) (die : Nat) (bs : List Byte) (n : Nat) : Device :=
  (List.range n).foldl (fun d w => d.setReg (Reg.MATCH_HOST_REC0 die w) (BitVec.ofNat 64 (leAt bs (4 * w) 4))) d

theorem Device.fillRecord_succ (bs : List Byte) (n : Nat) : d.fillRecord die bs (n + 1) =
    (d.fillRecord die bs n).setReg (Reg.MATCH_HOST_REC0 die n) (BitVec.ofNat 64 (leAt bs (4 * n) 4)) := by
  rw [Device.fillRecord, List.range_succ, List.foldl_append]
  rfl

theorem Device.fillRecord_regsWf (bs : List Byte) (n : Nat) (h : d.regsWf) : (d.fillRecord die bs n).regsWf :=
  List.foldlRecOn (motive := fun (e : Device) => e.regsWf) _ _ h fun _ he _ _ => Device.setReg_regsWf _ _ he

theorem Device.fillRecord_frame (bs : List Byte) (n : Nat) : d.fillRecord die bs n = { d with regs := (d.fillRecord die bs n).regs } :=
  List.foldlRecOn (motive := fun (e : Device) => e = { d with regs := e.regs }) _ _ rfl fun e he _ _ => by
    rw [he]
    rfl

theorem Device.reg_fillRecord {w : Nat} (bs : List Byte) (h : d.regsWf) (hw : w < n) :
    (d.fillRecord die bs n).reg (Reg.MATCH_HOST_REC0 die w) = BitVec.ofNat 64 (leAt bs (4 * w) 4) := by
  induction n with
  | zero => exact absurd hw (Nat.not_lt_zero w)
  | succ n ih =>
    rw [Device.fillRecord_succ]
    rcases Nat.lt_succ_iff_lt_or_eq.1 hw with hlt | rfl
    · have hne : Reg.MATCH_HOST_REC0 die w ≠ Reg.MATCH_HOST_REC0 die n := by
        simp only [Reg.MATCH_HOST_REC0]
        omega
      rw [Device.reg_setReg_of_ne _ hne, ih hlt]
    · exact Device.reg_setReg_self _ _ (Device.fillRecord_regsWf bs w h)

theorem leAt_four_lt (bs : List Byte) (o : Nat) : leAt bs o 4 < 2 ^ 64 := by
  have hlen : ((bs.drop o).take 4).length ≤ 4 := List.length_take_le ..
  calc leAt bs o 4 < 256 ^ ((bs.drop o).take 4).length := ofLe_lt _
    _ ≤ 256 ^ 4 := Nat.pow_le_pow_right (by decide) hlen
    _ < 2 ^ 64 := by decide

/-- A window whose registers hold the words of a record holds the record. -/
theorem Device.hostRecord_of_words {bs : List Byte} (hlen : bs.length = 128)
    (h : ∀ w < 32, d.reg (Reg.MATCH_HOST_REC0 die w) = BitVec.ofNat 64 (leAt bs (4 * w) 4)) : d.hostRecord die 0 = bs := by
  have hwords : d.hostRecord die 0 = (List.range 32).flatMap (fun w => leBytes 4 (leAt bs (4 * w) 4)) :=
    List.flatMap_congr fun w hw => by
      rw [if_pos rfl, h w (List.mem_range.1 hw), BitVec.toNat_ofNat, Nat.mod_eq_of_lt (leAt_four_lt bs _)]
  rw [hwords, flatMap_words bs 32 (by omega), List.take_of_length_le (by omega)]

/-- A READ has copied entry `i` of a bank: the window holds it, ENTRY_STATE is set, and the action has ended. -/
def Device.hostReads (d : Device) (die i : Nat) (e : MatchEntry) : Device :=
  ((d.fillRecord die (entryRecord i e) 32).setFld (Reg.MATCH_HOST_CMD die) ⟨10, 2⟩ e.state).hostDone die

/-- REC0 holds the entry as a WRITE record, ENTRY_STATE its state, and GO and CODE are 0. -/
theorem Device.hostReads_post {i : Nat} {e : MatchEntry} (h : d.regsWf) (hs : e.state < 4) (he : d' = d.hostReads die i e) :
    d'.hostRecord die 0 = entryRecord i e ∧ d'.fld (Reg.MATCH_HOST_CMD die) ⟨10, 2⟩ = e.state ∧ d'.matchE = d.matchE ∧
    d'.fld (Reg.MATCH_HOST_CMD die) ⟨9, 1⟩ = 0 ∧ d'.fld (Reg.MATCH_HOST_CMD die) ⟨32, 16⟩ = 0 := by
  have hfill : (d.fillRecord die (entryRecord i e) 32).regsWf := Device.fillRecord_regsWf _ _ h
  have hstate := Device.fld_setFld_self (Reg.MATCH_HOST_CMD die) ⟨10, 2⟩ e.state hfill (by decide)
  have hmatch : (d.hostReads die i e).matchE = d.matchE := by
    rw [Device.hostReads, Device.hostDone, Device.setFld_matchE, Device.setFld_matchE, Device.setFld_matchE, Device.fillRecord_frame]
  obtain ⟨hgo, hcode, hkept⟩ := Device.hostDone_fields (die := die) (Device.setFld_regsWf (Reg.MATCH_HOST_CMD die) ⟨10, 2⟩ e.state hfill)
  subst he
  refine ⟨Device.hostRecord_of_words (length_entryRecord i e) fun w hw => ?_, ?_, hmatch, hgo, hcode⟩
  · have hne : Reg.MATCH_HOST_REC0 die w ≠ Reg.MATCH_HOST_CMD die := by
      simp only [Reg.MATCH_HOST_REC0, Reg.MATCH_HOST_CMD]
      omega
    rw [Device.hostReads, Device.reg_hostDone_of_ne hne, Device.reg_setFld_of_ne _ _ hne, Device.reg_fillRecord _ h hw]
  · exact hkept.trans (hstate.trans (Nat.mod_eq_of_lt hs))

end Sys2Proof.Machine
end

section
/-!
SUPPORT. Jobs of the Match station (R321, R324, R328, R329): a row searched, the changes of an update buffer staged, and the end of a search
job, whose two buffers are pushed in one burst.
-/

namespace Sys2Proof.Machine

variable {d d' : Device} {die k key lk pk n r i : Nat} {b : List Byte} {c : MatchCfg} {e : LiftEntry} {rest : List LiftEntry} {j : Job} {cs : List Column}
  {t : Task} {xs : List MatchChange} {x y : List Byte}

/-- A leader of the active plan that works and has no job, and the handle at the head of its Lift, of a task that goes on (R321). -/
structure Device.GangHead (d : Device) (die k : Nat) (b : List Byte) (e : LiftEntry) (rest : List LiftEntry) : Prop where
  cfg : d.stationCfg die 1 k = some b
  going : d.gangStopped die k (matchCfg b) = false
  free : d.job (matchKey die k) = none
  head : d.liftQ (4096 * die + (matchCfg b).inLift) = e :: rest
  src : e.src.isStream = false
  live : d.taskGone e.tag = false

theorem Device.GangHead.front (h : d.GangHead die k b e rest) :
    d.discardFront (4096 * die + (matchCfg b).inLift) = d := Device.discardGone_of_live h.head h.live _

/-- The leader has popped the head of its Lift. -/
def Device.gangPopped (d : Device) (die k : Nat) (b : List Byte) (e : LiftEntry) (rest : List LiftEntry) : Device :=
  d.popped (matchKey die k) (4096 * die + (matchCfg b).inLift) e.tag rest

/-! ### Searches (R321, R329) -/

/-- The search job of one operand. -/
def Device.searchJob (d : Device) (die k : Nat) (e : LiftEntry) : Job :=
  { mode := 0, tag := e.tag, inputs := [e], seq := (d.takeSeq (matchKey die k) e.tag).1, words := [], bytes := [] }

/-- MATCH_SEARCH_JOB of a leader whose one operand passes the checks. -/
theorem Completes.of_matchSearchStart {die : Fin 4} {k : Fin 64} {pre : Device → Prop} {post : Device → Device → Prop}
    (hpre : ∀ d, pre d → d.runs ∧ d.GangHead die.val k.val b e rest ∧ (matchCfg b).arity = 1 ∧
      d.headIsUpdate (4096 * die.val + (matchCfg b).inLift) = false ∧ d.inputsPoisoned [e] = false ∧
      searchCheck (matchCfg b) (d.poolSize (poolKey die.val (matchCfg b).outPool)) [d.handleData e] = .inl cs)
    (hp : ∀ d, pre d → post d ((d.gangPopped die.val k.val b e rest).setJob (matchKey die.val k.val) (d.searchJob die.val k.val e))) :
    Completes (.matchSearchJob die k []) pre post := by
  refine .of_upd_eq (fun s => show execMatchSearchJob die k [] s = s.upd _ from rfl) (fun d h => (hpre d h).1) (fun d h => ?_) hp
  obtain ⟨-, hgang, hone, hsearch, hclean, hcheck⟩ := hpre d h
  have hclean' : (d.gangPopped die.val k.val b e rest).inputsPoisoned [e] = false := hclean
  have hcheck' : searchCheck (matchCfg b) ((d.gangPopped die.val k.val b e rest).poolSize (poolKey die.val (matchCfg b).outPool))
      [(d.gangPopped die.val k.val b e rest).handleData e] = .inl cs := hcheck
  rw [Device.gangPopped, Device.popped] at hclean' hcheck'
  simp only [hgang.cfg, hgang.going, hgang.free, hgang.front, hsearch, hone, Device.popRun_one hgang.head hgang.src hgang.live, List.head?_cons,
    Option.map_some, Option.getD_some, List.map_cons, List.map_nil, hclean', hcheck', Bool.false_eq_true, if_false]
  rfl

/-- When every row before row `r` has its three words, the next row to search is `r`, if it is present. -/
theorem find?_nextRow (hw : j.words.length = 3 * r) (hr : r < n) (hrow : rowPresent cs r = true) :
    (List.range n).find? (fun i => decide (j.words.length / 3 ≤ i) && rowPresent cs i) = some r := by
  have hdiv : j.words.length / 3 = r := by omega
  rw [List.find?_range_eq_some, hdiv]
  refine ⟨by rw [hrow, decide_eq_true (Nat.le_refl r)]; rfl, List.mem_range.2 hr, fun i hi => ?_⟩
  rw [decide_eq_false (Nat.not_le.2 hi)]
  rfl

/-- The counters of a search: rows searched, hits, ties (R337). -/
def Device.countSearch (d : Device) (die k : Nat) (f : Option Found) : Device :=
  ((d.count (Reg.MATCH_SEARCHES die k) 64 1).count (Reg.MATCH_HITS die k) 64 (bit f.isSome)).count (Reg.MATCH_MULTI die k) 64
    (bit (f.any (·.multi)))

/-- A row searched: its words follow those of the rows before it, and the search is counted. -/
def Device.searched (d : Device) (die k : Nat) (c : MatchCfg) (j : Job) (f : Option Found) : Device :=
  (d.countSearch die k f).setJob (matchKey die k)
    { j with words := j.words ++ [1, statusWord f, match f with | some x => x.entry.result | none => c.miss] }

/-- MATCH_SEARCH_JOB of a job under way whose next row is present, in a slot that nothing else takes. -/
theorem Completes.of_matchSearchRow {die : Fin 4} {k : Fin 64} {pre : Device → Prop} {post : Device → Device → Prop}
    (hpre : ∀ d, pre d → d.runs ∧ d.stationCfg die.val 1 k.val = some b ∧ d.gangStopped die.val k.val (matchCfg b) = false ∧
      d.job (matchKey die.val k.val) = some j ∧ (d.gang die.val k.val).apply = [] ∧ d.hostWaits die.val k.val (matchCfg b) = false ∧
      d.gangBad die.val k.val (matchCfg b) = false ∧
      searchCheck (matchCfg b) (d.poolSize (poolKey die.val (matchCfg b).outPool)) (j.inputs.map d.handleData) = .inl cs ∧
      j.words.length = 3 * r ∧ r < (cs.head?.map (·.count)).getD 0 ∧ rowPresent cs r = true)
    (hp : ∀ d, pre d → post d (d.searched die.val k.val (matchCfg b) j (d.search die.val k.val (matchCfg b) (searchKey (matchCfg b) cs r)))) :
    Completes (.matchSearchJob die k []) pre post := by
  refine .of_upd_eq (fun s => show execMatchSearchJob die k [] s = s.upd _ from rfl) (fun d h => (hpre d h).1) (fun d h => ?_) hp
  obtain ⟨-, hcfg, hgo, hjob, hidle, hwait, hgood, hcheck, hw, hr, hrow⟩ := hpre d h
  have hskip : r - j.words.length / 3 = 0 := by omega
  simp only [hcfg, hgo, hjob, hidle, hwait, hgood, hcheck, find?_nextRow hw hr hrow, hskip, List.foldl_nil, List.isEmpty_nil, Bool.not_true,
    Bool.or_self, Bool.false_eq_true, if_false, List.range_zero, List.flatMap_nil, List.append_nil]
  rfl

theorem Device.job_setJob_self (d : Device) (key : Nat) (j : Job) : (d.setJob key j).job key = some j := Map.get?_put_self ..

theorem Device.searched_counts (f : Option Found) (h : d.regsWf) : d.counted (d.searched die k c j f) (Reg.MATCH_SEARCHES die k) 1 ∧
    d.counted (d.searched die k c j f) (Reg.MATCH_HITS die k) (bit f.isSome) := by
  obtain ⟨hhits, hmulti, hmulti'⟩ : Reg.MATCH_SEARCHES die k ≠ Reg.MATCH_HITS die k ∧ Reg.MATCH_SEARCHES die k ≠ Reg.MATCH_MULTI die k ∧
      Reg.MATCH_HITS die k ≠ Reg.MATCH_MULTI die k := by
    simp only [Reg.MATCH_SEARCHES, Reg.MATCH_HITS, Reg.MATCH_MULTI]
    omega
  exact ⟨Device.counted_of_reg (Device.counted_count rfl h) ((Device.reg_count_other hmulti).trans (Device.reg_count_other hhits)),
    Device.counted_of_reg (Device.counted_count (Device.reg_count_other hhits.symm) (Device.bumpBy_regsWf _ _ _ h)) (Device.reg_count_other hmulti')⟩

/-! ### Updates (R327, R328) -/

theorem Device.taskGone_of_open {tag : Nat} (hf : d.findTask tag = some (i, t)) (ho : t.state = .open) (ha : t.aborting = false) :
    d.taskGone tag = false := by
  simp [Device.taskGone, hf, ho, ha]

/-- An open task takes the staging of a station's changes when there is room, and goes on. -/
theorem Device.stageStation_of_room {tag : Nat} (hf : d.findTask tag = some (i, t)) (ho : t.state = .open) (ha : t.aborting = false)
    (hroom : d.stagingUsed die + n ≤ d.stagingCapacity die) :
    (d.stageStation tag die n).taskGone tag = false ∧ ∃ tasks, d.stageStation tag die n = { d with str := { d.str with tasks := tasks } } := by
  obtain ⟨t', ht', hstage⟩ : ∃ t' : Task, (t'.tag = t.tag ∧ t'.state = .open ∧ t'.aborting = false) ∧ d.stageStation tag die n = d.setTask i t' := by
    refine ⟨{ t with stationStaging := t.stationStaging.put die (t.stationStaging.getD die 0 + n) }, ⟨rfl, ho, ha⟩, ?_⟩
    rw [Device.stageStation, hf]
    exact if_neg (Nat.not_lt.2 hroom)
  rw [hstage]
  exact ⟨Device.taskGone_of_open (Device.findTask_of_put hf (ht'.1.trans (Device.findTask_some hf).2.2.1) rfl) ht'.2.1 ht'.2.2, _, rfl⟩

/-- The changes of an update buffer wait with its task, and the buffer goes back. -/
def Device.updatesStaged (d : Device) (die k : Nat) (e : LiftEntry) (xs : List MatchChange) : Device :=
  let x := d.stageStation e.tag die (2 * xs.length)
  (if x.taskGone e.tag then x
    else x.setGang die k { x.gang die k with staged := (x.gang die k).staged ++ xs.map (fun y => (e.tag, y)) }).releaseHandle
      (stationRouter (matchKey die k)) e.h

/-- MATCH_UPDATE_JOB of an update buffer that passes the checks. -/
theorem Completes.of_matchUpdate {die : Fin 4} {k : Fin 64} {pre : Device → Prop} {post : Device → Device → Prop}
    (hpre : ∀ d, pre d → d.runs ∧ d.GangHead die.val k.val b e rest ∧ d.headIsUpdate (4096 * die.val + (matchCfg b).inLift) = true ∧
      d.inputsPoisoned [e] = false ∧ updateCheck (matchCfg b) (d.handleData e) = .inl xs)
    (hp : ∀ d, pre d → post d ((d.gangPopped die.val k.val b e rest).updatesStaged die.val k.val e xs)) :
    Completes (.matchUpdateJob die k) pre post := by
  refine .of_upd_eq (fun s => show execMatchUpdateJob die k s = s.upd _ from rfl) (fun d h => (hpre d h).1) (fun d h => ?_) hp
  obtain ⟨-, hgang, hupd, hclean, hcheck⟩ := hpre d h
  have hclean' : (d.gangPopped die.val k.val b e rest).inputsPoisoned [e] = false := hclean
  have hcheck' : updateCheck (matchCfg b) ((d.gangPopped die.val k.val b e rest).handleData e) = .inl xs := hcheck
  rw [Device.gangPopped, Device.popped] at hclean' hcheck'
  simp only [hgang.cfg, hgang.going, hgang.free, hgang.front, hupd, Device.popLift_of_cons hgang.head hgang.src, hclean', hcheck',
    Option.isSome_none, Bool.or_self, Bool.not_true, Bool.false_eq_true, if_false]
  rfl

theorem Device.updatesStaged_frame (hf : d.findTask e.tag = some (i, t)) (ho : t.state = .open) (ha : t.aborting = false)
    (hroom : d.stagingUsed die + 2 * xs.length ≤ d.stagingCapacity die) : ∃ tasks fl, d.updatesStaged die k e xs =
    { d.setGang die k { d.gang die k with staged := (d.gang die k).staged ++ xs.map (fun y => (e.tag, y)) } with
      str := { d.str with tasks := tasks, flight := fl } } := by
  obtain ⟨hlive, tasks, hstage⟩ := Device.stageStation_of_room hf ho ha hroom
  unfold Device.updatesStaged
  simp only [hlive, Bool.false_eq_true, if_false]
  rw [Device.releaseHandle_frame, hstage]
  exact ⟨tasks, _, rfl⟩

/-- The changes wait in the gang behind those staged before, and beside them the tasks and the packets on their way have changed. -/
theorem Device.updatesStaged_post (hf : d.findTask e.tag = some (i, t)) (ho : t.state = .open) (ha : t.aborting = false)
    (hroom : d.stagingUsed die + 2 * xs.length ≤ d.stagingCapacity die) (he : d' = d.updatesStaged die k e xs) :
    (d'.gang die k).staged = (d.gang die k).staged ++ xs.map (fun y => (e.tag, y)) ∧ (d'.gang die k).apply = (d.gang die k).apply ∧
    d'.str.lifts = d.str.lifts ∧ d'.matchE = d.matchE ∧ d'.mem = d.mem ∧ d'.regs = d.regs ∧ d'.stn = d.stn := by
  obtain ⟨tasks, fl, hstaged⟩ := Device.updatesStaged_frame (k := k) hf ho ha hroom
  rw [hstaged] at he
  have hgang : d'.gang die k = { d.gang die k with staged := (d.gang die k).staged ++ xs.map (fun y => (e.tag, y)) } := by
    rw [he]
    exact Device.gang_setGang_self ..
  rw [hgang, he]
  exact ⟨rfl, rfl, rfl, rfl, rfl, rfl, rfl⟩

/-! ### Two outputs pushed (R234, R300) -/

/-- A job that lacks its two buffers takes the two of the free list. -/
theorem Device.holdBuffers_two {a b : Nat} (hheld : j.held = []) (hp : d.str.pools.getD pk [] = [a, b]) :
    ∃ pools owner, d.holdBuffers pk 2 j 2 = ({ j with held := [(pk % 1024, a), (pk % 1024, b)] },
      { d with str := { d.str with pools := pools, owner := owner } }) := by
  refine ⟨(d.str.pools.put pk [b]).put pk [], (d.str.owner.put a j.tag).put b j.tag, ?_⟩
  rw [Device.holdBuffers, hheld, if_neg (by decide), Device.takeBuffer_of_cons hp]
  simp only [List.nil_append]
  rw [Device.holdBuffers, if_neg (by simp), Device.takeBuffer_of_cons (rest := []) (Map.getD_put_self ..)]
  rfl

/-- A push that has set out adds one handle to the load of its Lift. -/
theorem Device.liftLoad_push {p : LiftEntry} (hroom : d.liftLoad lk < 256) (hw : d.str.pushWait = []) :
    (d.push lk p).liftLoad lk = d.liftLoad lk + 1 := by
  obtain ⟨hflight, hframe⟩ := Device.push_of_room (e := p) hroom hw
  have hlifts : (d.push lk p).liftQ lk = d.liftQ lk := by
    rw [hframe]
    rfl
  rw [Device.liftLoad, hlifts, hflight, List.filter_append, List.length_append, ← Nat.add_assoc]
  exact congrArg (d.liftLoad lk + ·) (by simp [Flight.toLift])

/-- Two pushes to a Lift with room for both. -/
theorem Device.push_two_frame {p q : LiftEntry} (hroom : d.liftLoad lk < 255) (hw : d.str.pushWait = []) :
    ∃ tasks fl, (d.push lk p).push lk q = { d with str := { d.str with tasks := tasks, flight := fl } } := by
  have hframe := (Device.push_of_room (e := p) (Nat.lt_succ_of_lt hroom) hw).2
  have hload := Device.liftLoad_push (p := p) (Nat.lt_succ_of_lt hroom) hw
  have hwait : (d.push lk p).str.pushWait = [] := by rw [hframe]; exact hw
  rw [(Device.push_of_room (e := q) (d := d.push lk p) (by omega) hwait).2, hframe]
  exact ⟨_, _, rfl⟩

/-- Two outputs go into the buffers held, and the handle of the second bears LAST as the job says. -/
theorem Device.pushOutputs_two {a b p : Nat} {last : Bool} (hheld : j.held = [(p, a), (p, b)]) : d.pushOutputs key lk j last false [x, y] =
    (((d.write a x).write b y).push lk (j.output key p a false x)).push lk (j.output key p b last y) := by
  have hfirst : (last && decide (0 + 1 = [x, y].length)) = false := Bool.and_false last
  have hlast : (last && decide (1 + 1 = [x, y].length)) = last := Bool.and_true last
  rw [Device.pushOutputs, hheld]
  simp only [List.zip_cons_cons, List.zip_nil_right, List.zipIdx_cons, List.zipIdx_nil, List.foldl_cons, List.foldl_nil, Nat.zero_add, hfirst, hlast]
  rfl

/-- A job with two outputs takes its buffers, writes both, pushes their handles and ends, when both set out at once. -/
theorem Device.jobOutputs_two {a b : Nat} {last : Bool} {fin : Device → Device} (hheld : j.held = [])
    (hp : d.str.pools.getD pk [] = [a, b]) (hroom : d.liftLoad lk < 255) (hw : d.str.pushWait = []) :
    ∃ pools owner tasks fl, d.jobOutputs key pk lk j last false [x, y] id fin =
      fin ({ (d.write a x).write b y with str := { d.str with pools := pools, owner := owner, tasks := tasks, flight := fl } }.setJob key
        { j with held := [], pushed := true }) := by
  obtain ⟨pools, owner, hhold⟩ := Device.holdBuffers_two (j := j) hheld hp
  obtain ⟨tasks, fl, hpush⟩ := Device.push_two_frame (lk := lk)
    (d := { (d.write a x).write b y with str := { d.str with pools := pools, owner := owner } })
    (p := j.output key (pk % 1024) a false x) (q := j.output key (pk % 1024) b last y) hroom hw
  have hpushed : ({ d with str := { d.str with pools := pools, owner := owner } } : Device).pushOutputs key lk
      { j with held := [(pk % 1024, a), (pk % 1024, b)] } last false [x, y] =
      { (d.write a x).write b y with str := { d.str with pools := pools, owner := owner, tasks := tasks, flight := fl } } :=
    (Device.pushOutputs_two rfl).trans hpush
  refine ⟨pools, owner, tasks, fl, ?_⟩
  have htwo : 0 + [x, y].length = 2 := rfl
  rw [Device.jobOutputs, htwo, hhold]
  simp only [List.length_cons, List.length_nil, Nat.zero_add, Nat.lt_irrefl, if_false, List.take_zero, List.foldl_nil, List.drop_zero, hpushed, id]
  refine if_neg ?_
  rw [Device.outputWaits]
  show ¬ d.str.pushWait.any _ = true
  rw [hw]
  exact Bool.false_ne_true

/-- What a job with two outputs in buffers apart has changed when it has ended. -/
theorem Device.jobOutputs_two_post {a b : Nat} {last : Bool} (hheld : j.held = []) (hp : d.str.pools.getD pk [] = [a, b])
    (hroom : d.liftLoad lk < 255) (hw : d.str.pushWait = []) (hrise : Map.rising d.stn.jobs = true) (hmem : Memory.wf d.mem = true)
    (hapart : a + x.length ≤ b ∨ b + y.length ≤ a)
    (he : d' = d.jobOutputs key pk lk j last false [x, y] id (fun z => (z.dropJob key).releaseInputs key j)) :
    (∀ i, i < x.length → memRead d'.mem (a + i) = x.getD i 0) ∧ (∀ i, i < y.length → memRead d'.mem (b + i) = y.getD i 0) ∧
    (∀ z, (z < a ∨ a + x.length ≤ z) → (z < b ∨ b + y.length ≤ z) → memRead d'.mem z = memRead d.mem z) ∧
    d'.job key = none ∧ d'.regs = d.regs ∧ d'.matchE = d.matchE := by
  obtain ⟨pools, owner, tasks, fl, hout⟩ := Device.jobOutputs_two (key := key) (x := x) (y := y) (last := last)
    (fin := fun z => (z.dropJob key).releaseInputs key j) hheld hp hroom hw
  obtain ⟨fl', hrel⟩ := Device.releaseInputs_frame (key := key) (j := j) (d := ({ (d.write a x).write b y with
    str := { d.str with pools := pools, owner := owner, tasks := tasks, flight := fl } } : Device).setJob key
      { j with held := [], pushed := true } |>.dropJob key)
  rw [hout, hrel] at he
  have hread (z : Nat) : memRead d'.mem z = memRead (memWriteN (memWriteN d.mem a x) b y) z := by rw [he]; rfl
  have hmem' : Memory.wf (memWriteN d.mem a x) = true := memWriteN_wf a x hmem
  refine ⟨fun i hi => ?_, fun i hi => ?_, fun z hza hzb => ?_, ?_, ?_, ?_⟩
  · rw [hread, memRead_memWriteN b y _ hmem', if_neg (by omega), memRead_memWriteN a x _ hmem, if_pos (by omega), Nat.add_sub_cancel_left]
  · rw [hread, memRead_memWriteN b y _ hmem', if_pos (by omega), Nat.add_sub_cancel_left]
  · rw [hread, memRead_memWriteN b y _ hmem', if_neg (by omega), memRead_memWriteN a x _ hmem, if_neg (by omega)]
  · rw [he]
    exact Device.job_dropJob (d := { d with stn := { d.stn with jobs := d.stn.jobs.put key _ } }) (Map.rising_put _ _ hrise)
  · rw [he]
    rfl
  · rw [he]
    rfl

/-! ### The end of a search job (R324) -/

/-- MATCH_JOB_END of a job whose rows have all been searched and whose two outputs fit. -/
theorem Completes.of_matchJobEnd {die : Fin 4} {k : Fin 64} {pre : Device → Prop} {post : Device → Device → Prop}
    (hpre : ∀ d, pre d → d.runs ∧ d.working die.val 1 k.val b j ∧
      searchCheck (matchCfg b) (d.poolSize (poolKey die.val (matchCfg b).outPool)) (j.inputs.map d.handleData) = .inl cs ∧
      (List.range ((cs.head?.map (·.count)).getD 0)).all (fun r => decide (r < j.words.length / 3) || !(rowPresent cs r)) = true ∧
      x.length ≤ d.poolSize (poolKey die.val (matchCfg b).outPool) ∧ y.length ≤ d.poolSize (poolKey die.val (matchCfg b).outPool) ∧
      searchOutputs (matchCfg b) cs j.seq j.words = [x, y])
    (hp : ∀ d, pre d → post d (d.jobOutputs (matchKey die.val k.val) (poolKey die.val (matchCfg b).outPool)
      (d.stationOut die.val 1 k.val 1 (matchCfg b).outLift) j ((j.inputs.getLast?.map (·.h.last)).getD false) false [x, y] id
      (fun z => (z.dropJob (matchKey die.val k.val)).releaseInputs (matchKey die.val k.val) j))) :
    Completes (.matchJobEnd die k) pre post := by
  refine .of_upd_eq (fun s => show execMatchJobEnd die k s = s.upd _ from rfl) (fun d h => (hpre d h).1) (fun d h => ?_) hp
  obtain ⟨-, ⟨hcfg, hgo, hjob, hnew, -⟩, hcheck, hall, hx, hy, houts⟩ := hpre d h
  have hrows : (List.range ((cs.head?.map (·.count)).getD 0)).any (fun r => decide (j.words.length / 3 ≤ r) && rowPresent cs r) = false := by
    rw [← Bool.not_eq_true', List.not_any_eq_all_not, ← hall]
    refine congrArg (List.all _) (funext fun r => ?_)
    rw [Bool.not_and, ← decide_not, decide_eq_decide.2 Nat.not_le]
  have hfit : [x, y].any (fun o => decide (d.poolSize (poolKey die.val (matchCfg b).outPool) < o.length)) = false := by
    simp [Nat.not_lt.2 hx, Nat.not_lt.2 hy]
  refine (Device.withJob_of_going hcfg hgo hjob).trans ?_
  simp only [hnew, hcheck, hrows, houts, hfit, Bool.false_eq_true, if_false]

end Sys2Proof.Machine
end

section
/-!
SUPPORT. The statement about the Match station (R314 to R331): each command comes to one change of its gang, its job or its entries.
-/

namespace Sys2Proof.Machine

/-- Settles O39: a search job begins with the head popped and goes on row by row, an update waits with its task, the end of a job is two outputs
pushed, and a change applied, by a commit or the host, is one entry set and counted; a READ fills REC0. -/
theorem matchJobs : Obligations.MatchJobs := by
  refine ⟨fun die k b e rest cs => ?begins, fun die k b j cs n r => ?row, fun die k b e rest xs i t => ?update, fun die k b j cs a c x y => ?ends,
    fun die k b x r => ?write, fun die k b x r => ?invalidate, fun die bank x => ?apply, fun die bank x y => ?pair, fun die bank i x => ?read⟩
  case begins =>
    exact .of_matchSearchStart (fun d ⟨hr, hcfg, hgo, hone, hfree, hq, hsrc, hlive, hsearch, hclean, hcheck⟩ =>
      ⟨hr, ⟨hcfg, hgo, hfree, hq, hsrc, hlive⟩, hone, hsearch, hclean, hcheck⟩) fun _ _ => Device.setJob_began rfl rfl
  case row =>
    refine .of_matchSearchRow (fun d ⟨hrun, hcfg, hgo, hjob, hidle, hwait, hgood, _, hcheck, hn, hw, hr, hrow⟩ =>
      ⟨hrun, hcfg, hgo, hjob, hidle, hwait, hgood, hcheck, hw, hn ▸ hr, hrow⟩) fun d ⟨_, _, _, _, _, _, _, hwf, _⟩ => ?_
    obtain ⟨hsearches, hhits⟩ := Device.searched_counts (die := die.val) (k := k.val) (c := matchCfg b) (j := j)
      (d.search die.val k.val (matchCfg b) (searchKey (matchCfg b) cs r)) hwf
    exact ⟨Device.job_setJob_self .., hsearches, hhits, rfl⟩
  case update =>
    refine .of_matchUpdate (fun d ⟨hr, hcfg, hgo, hfree, hq, hsrc, hupd, hclean, hcheck, hf, ho, ha, _⟩ =>
      ⟨hr, ⟨hcfg, hgo, hfree, hq, hsrc, Device.taskGone_of_open hf ho ha⟩, hupd, hclean, hcheck⟩)
      fun d ⟨_, _, _, hfree, _, _, _, _, _, hf, ho, ha, hroom⟩ => ?_
    obtain ⟨hstaged, happly, hlifts, hentries, hmem, hregs, hstn⟩ := Device.updatesStaged_post (die := die.val) (k := k.val) (xs := xs)
      (d := d.gangPopped die.val k.val b e rest) hf ho ha hroom rfl
    exact ⟨hstaged, happly, (Device.liftQ_of_lifts hlifts).trans (Device.liftQ_setLift_self d _ rest), hentries, hmem, hregs,
      (congrArg (fun u : StationUnit => u.jobs.get? (matchKey die.val k.val)) hstn).trans hfree⟩
  case ends =>
    refine .of_matchJobEnd (fun d ⟨hr, hwork, hcheck, _, hall, _, _, _, hx, hy, houts, _⟩ => ⟨hr, hwork, hcheck, hall, hx, hy, houts⟩)
      fun d ⟨_, ⟨_, _, _, _, hheld, hrise, hmem, _⟩, _, _, _, hp, hw, hroom, _, _, _, hapart⟩ => ?_
    exact Device.jobOutputs_two_post hheld hp hroom hw hrise hmem hapart rfl
  case write =>
    refine .of_matchCommitApply (fun d ⟨hr, hcfg, hgate, hwait, hq, hpair, _⟩ => ⟨hr, hcfg, hgate, hwait, hq, hpair⟩)
      fun d ⟨_, _, _, _, _, _, hwide, hop, hrise, hwf⟩ => ?_
    rw [Device.applyChange_write hop hwide]
    exact ⟨(Device.entry_setEntry _ _ hrise).trans (if_pos rfl), fun n hn => (Device.entry_setEntry n _ hrise).trans (if_neg hn),
      Device.gang_setGang_self .., Device.counted_count rfl hwf, rfl⟩
  case invalidate =>
    refine .of_matchCommitApply (fun d ⟨hr, hcfg, hgate, hwait, hq, hpair, _⟩ => ⟨hr, hcfg, hgate, hwait, hq, hpair⟩)
      fun d ⟨_, _, _, _, _, _, hwide, hop, hrise⟩ => ?_
    rw [Device.applyChange_invalidate hop hwide]
    have hself := (Device.entry_setEntry (d := d) (gangPlace die.val k.val (matchCfg b) x.index).lo
      (d.entry (gangPlace die.val k.val (matchCfg b) x.index).lo).invalid hrise).trans (if_pos rfl)
    exact ⟨(congrArg MatchEntry.state hself).trans rfl, (congrArg MatchEntry.result hself).trans rfl,
      fun n hn => (Device.entry_setEntry n _ hrise).trans (if_neg hn)⟩
  case apply =>
    refine .of_hostMatch (act := 0) (bank := bank) (fun s => show execMatchHostApply ⟨die, 0⟩ s = s.upd _ from rfl) (by decide)
      (fun d ⟨hr, hgo, hact, hnarrow, hsteady, hbank, hgoing, _, _, hfit, _⟩ => ⟨hr, hgo, hact, hnarrow, hsteady, hbank, hgoing, hfit⟩)
      fun d ⟨_, _, _, _, _, _, _, hwf, hrise, _, hx, hop⟩ => ?_
    subst hx
    exact Device.hostApply_write hwf hrise hop rfl
  case pair =>
    refine .of_hostMatch (act := 1) (bank := bank) (fun s => show execMatchHostPair ⟨die, 0⟩ s = s.upd _ from rfl) (by decide)
      (fun d ⟨hr, hgo, hact, hnarrow, hsteady, hbank, hgoing, _, _, hfit, _⟩ => ⟨hr, hgo, hact, hnarrow, hsteady, hbank, hgoing, hfit⟩)
      fun d ⟨_, _, _, _, _, _, _, hwf, hrise, _, hx, hop, hy, hop', hne⟩ => ?_
    subst hx hy
    exact Device.hostApply_pair hwf hrise hop hop' hne rfl
  case read =>
    refine .of_hostMatch (act := 2) (bank := bank) (fun s => show execMatchHostRead ⟨die, 0⟩ s = s.upd _ from rfl) (by decide)
      (fun d ⟨hr, hgo, hact, hnarrow, hsteady, hbank, hgoing, _, _, hfit, _⟩ => ⟨hr, hgo, hact, hnarrow, hsteady, hbank, hgoing, hfit⟩)
      fun d ⟨_, _, _, _, _, _, _, hwf, _, _, hi, hx, hstate, _⟩ => ?_
    have hfound : bitAt (BitVec.toNat (0 : BitVec 2)) 0 = false := rfl
    subst hi hx
    simp only [hfound, Bool.false_eq_true, if_false]
    rw [Device.getEntry_narrow rfl]
    exact Device.hostReads_post hwf hstate rfl

end Sys2Proof.Machine
end

section
/-!
SUPPORT. Score buffers of a Select station (R344 to R347): the job of a whole buffer, a piece that joins its row, and a buffer that fails its
job.
-/

namespace Sys2Proof.Machine

variable {d d' : Device} {die kind k lift : Nat} {b : List Byte} {c : SelectCfg} {e : LiftEntry} {rest : List LiftEntry} {h : ScoreHead}
  {r : SelRow}

/-! ### The head of a station with one input Lift (R151, R233) -/

/-- The one head of a station is popped. -/
theorem Device.popHeads_one (hq : d.liftQ lift = e :: rest) (hsrc : e.src.isStream = false) :
    d.popHeads [lift] = (some [e], d.setLift lift rest) := by
  have hheads : d.heads [lift] = [e] := by simp [Device.heads, hq]
  simp only [Device.popHeads, hheads, Device.popLift_of_cons hq hsrc, List.foldl_cons, List.foldl_nil]
  simp

/-- A free station with one input Lift goes on with the handle at its head. -/
theorem Device.beginJob_of_oneHead {f : List Byte → List LiftEntry → Device → Device} {lift : List Byte → Nat}
    (hhead : d.oneHead die kind k (4096 * die + lift b) b e rest) :
    d.beginJob die kind k (fun b => [lift b]) f = f b [e] (d.setLift (4096 * die + lift b) rest) := by
  obtain ⟨hcfg, hgo, hfree, hq, hsrc, hlive⟩ := hhead
  have hkept : d.discardHeads [4096 * die + lift b] = d := Device.discardGone_of_live hq hlive _
  simp only [Device.beginJob, hcfg, hgo, hfree, List.map_cons, List.map_nil, hkept, Device.popHeads_one hq hsrc, Option.isSome_none, Bool.or_self,
    Bool.false_eq_true, if_false]

/-! ### A whole buffer (R345) -/

/-- The job of a whole score buffer. -/
def LiftEntry.selJob (e : LiftEntry) : Job := { mode := 0, tag := e.tag, inputs := [e], seq := 0, words := [], bytes := [] }

/-- The station has popped the head of its Lift. -/
def Device.selPopped (d : Device) (die : Nat) (b : List Byte) (rest : List LiftEntry) : Device :=
  d.setLift (4096 * die + (selectCfg b).inLift) rest

@[simp] theorem Device.selPopped_handleData : (d.selPopped die b rest).handleData e = d.handleData e := rfl

@[simp] theorem Device.selPopped_inputsPoisoned (hs : List LiftEntry) : (d.selPopped die b rest).inputsPoisoned hs = d.inputsPoisoned hs := rfl

@[simp] theorem Device.selPopped_selRows (key : Nat) : (d.selPopped die b rest).selRows key = d.selRows key := rfl

/-- SELECT_PIECE with a whole score buffer that passes the checks, where no row is held. -/
theorem Completes.of_selectWhole {die : Fin 4} {k : Fin 16} {pre : Device → Prop} {post : Device → Device → Prop}
    (hpre : ∀ d, pre d → d.runs ∧ d.oneHead die.val 2 k.val (4096 * die.val + (selectCfg b).inLift) b e rest ∧ d.inputsPoisoned [e] = false ∧
      scoreCheck (selectCfg b) (d.handleData e) = none ∧ (scoreHead (d.handleData e)).whole = true ∧ d.selRows (stKey die.val 2 k.val) = [])
    (hp : ∀ d, pre d → post d ((d.selPopped die.val b rest).setJob (stKey die.val 2 k.val) e.selJob)) : Completes (.selectPiece die k) pre post := by
  refine .of_upd_eq (fun s => show execSelectPiece die k s = s.upd _ from rfl) (fun d h => (hpre d h).1) (fun d h => ?_) hp
  obtain ⟨-, hhead, hclean, hcheck, hwhole, hrows⟩ := hpre d h
  refine (Device.beginJob_of_oneHead (lift := fun b => (selectCfg b).inLift) hhead).trans ?_
  rw [← Device.selPopped]
  simp only [Device.selPopped_handleData, Device.selPopped_inputsPoisoned, Device.selPopped_selRows, hclean, hcheck, hwhole, hrows,
    List.any_nil, Bool.and_false, Bool.false_eq_true, if_false, if_true]
  rfl

theorem Device.selWhole_began : d.began ((d.selPopped die b rest).setJob (stKey die 2 k) e.selJob) (stKey die 2 k)
    (4096 * die + (selectCfg b).inLift) e rest := by
  have hjob (n : Nat) : ((d.selPopped die b rest).setJob (stKey die 2 k) e.selJob).job n = (d.stn.jobs.put (stKey die 2 k) e.selJob).get? n := rfl
  refine ⟨?_, Device.liftQ_setLift_self d _ rest, fun n hn => (hjob n).trans (Map.get?_put_of_ne _ _ hn), rfl⟩
  rw [hjob, Map.get?_put_self]
  rfl

/-! ### A buffer that fails its job (R344) -/

theorem selFailRegs_apart (die k : Nat) : Reg.SEL_JOBS_FAILED die k ≠ Reg.SEL_LAST_FAIL die k := by
  simp only [Reg.SEL_JOBS_FAILED, Reg.SEL_LAST_FAIL]
  omega

/-- The buffer popped fails its job with a code, and the rows of its task go. -/
def Device.selFails (d : Device) (die k : Nat) (e : LiftEntry) (code : Nat) : Device :=
  (d.setSelRows (stKey die 2 k) ((d.selRows (stKey die 2 k)).filter (fun r => r.tag != e.tag))).failJob (stKey die 2 k)
    (Reg.SEL_JOBS_FAILED die k) (Reg.SEL_LAST_FAIL die k) code e.selJob

/-- SELECT_PIECE with a score buffer that fails a check. -/
theorem Completes.of_selectFail {die : Fin 4} {k : Fin 16} {code : Nat} {pre : Device → Prop} {post : Device → Device → Prop}
    (hpre : ∀ d, pre d → d.runs ∧ d.oneHead die.val 2 k.val (4096 * die.val + (selectCfg b).inLift) b e rest ∧ d.inputsPoisoned [e] = false ∧
      scoreCheck (selectCfg b) (d.handleData e) = some code)
    (hp : ∀ d, pre d → post d ((d.selPopped die.val b rest).selFails die.val k.val e code)) : Completes (.selectPiece die k) pre post := by
  refine .of_upd_eq (fun s => show execSelectPiece die k s = s.upd _ from rfl) (fun d h => (hpre d h).1) (fun d h => ?_) hp
  obtain ⟨-, hhead, hclean, hcheck⟩ := hpre d h
  refine (Device.beginJob_of_oneHead (lift := fun b => (selectCfg b).inLift) hhead).trans ?_
  rw [← Device.selPopped]
  simp only [Device.selPopped_handleData, Device.selPopped_inputsPoisoned, hclean, hcheck, Bool.false_eq_true, if_false]
  rfl

/-- The failure of a job leaves the rows held by Select stations. -/
theorem Device.failJob_sel (key failReg lastReg code : Nat) (j : Job) : (d.failJob key failReg lastReg code j).sel = d.sel := by
  obtain ⟨fl, heq⟩ := d.failJob_eq (key := key) (code := code) (j := j) failReg lastReg
  rw [heq, Device.requestAbort_frame]
  rfl

theorem Device.selFails_post {code : Nat} (hwf : d.regsWf) (hrise : Map.rising d.stn.jobs = true)
    (he : d' = (d.selPopped die b rest).selFails die k e code) :
    d'.liftQ (4096 * die + (selectCfg b).inLift) = rest ∧
    d.jobFailed d' (stKey die 2 k) (Reg.SEL_JOBS_FAILED die k) (Reg.SEL_LAST_FAIL die k) code e.tag ∧
    ∀ r ∈ d'.selRows (stKey die 2 k), r.tag ≠ e.tag := by
  obtain ⟨hfailed, hlifts⟩ := Device.failJob_post (key := stKey die 2 k) (code := code) (j := e.selJob)
    (d := (d.selPopped die b rest).setSelRows (stKey die 2 k) ((d.selRows (stKey die 2 k)).filter (fun r => r.tag != e.tag)))
    hrise hwf (selFailRegs_apart die k)
  have hrows : d'.selRows (stKey die 2 k) = (d.selRows (stKey die 2 k)).filter (fun r => r.tag != e.tag) := by
    rw [he, Device.selRows, Device.selFails, Device.failJob_sel]
    exact Map.getD_put_self ..
  subst he
  refine ⟨(Device.liftQ_of_lifts hlifts).trans (Device.liftQ_setLift_self d _ rest), hfailed, fun r hr => ?_⟩
  rw [hrows] at hr
  simpa using (List.mem_filter.1 hr).2

/-! ### A piece that joins its row (R345 to R347, R361) -/

theorem selCountRegs_apart (die k : Nat) : Reg.SEL_NAN_COUNT die k ≠ Reg.SEL_PASSES die k := by
  simp only [Reg.SEL_NAN_COUNT, Reg.SEL_PASSES]
  omega

/-- The piece in a score buffer. -/
def scorePiece (c : SelectCfg) (h : ScoreHead) (data : List Byte) : SelPiece :=
  { no := h.piece, count := h.count, indexBase := h.indexBase, data := scoreRow data h c.indexed 0 }

/-- A row with one more piece, of a handle without LAST. -/
def SelRow.join (r : SelRow) (h : ScoreHead) (p : SelPiece) : SelRow :=
  { r with pieces := r.pieces ++ [p], lastPiece := if h.lastPiece then some h.piece else r.lastPiece }

/-- A row of which no piece has come. -/
def ScoreHead.newRow (h : ScoreHead) (tag : Nat) : SelRow :=
  { tag := tag, row := h.row, type := h.type, lastPiece := none, last := false, pieces := [] }

/-- The first piece completes its row only when it is the whole of it. -/
theorem ScoreHead.newRow_join_not_complete (hpart : h.whole = false) (tag : Nat) (p : SelPiece) : ((h.newRow tag).join h p).complete = false := by
  cases hl : h.lastPiece with
  | false => simp [SelRow.complete, SelRow.join, ScoreHead.newRow, hl]
  | true =>
    have hpiece : h.piece ≠ 0 := by simpa [ScoreHead.whole, hl] using hpart
    simpa [SelRow.complete, SelRow.join, ScoreHead.newRow, hl, eq_comm] using hpiece

/-- The row that a piece joins, among rows held of which it is the only one: a new one, or the one that lacks the piece. -/
def SelRow.Takes (r : SelRow) (rows : List SelRow) (h : ScoreHead) (tag : Nat) : Prop :=
  rows = [] ∧ r = h.newRow tag ∨ rows = [r] ∧ r.tag = tag ∧ r.row = h.row ∧ r.complete = false

/-- The NaN values and the passes of a piece have been counted (R361). -/
def Device.pieceCounted (d : Device) (die k : Nat) (c : SelectCfg) (h : ScoreHead) (p : SelPiece) : Device :=
  (d.count (Reg.SEL_NAN_COUNT die k) 64 (p.work c h.type).1).count (Reg.SEL_PASSES die k) 64 (p.work c h.type).2

/-- The two counters of a piece, and no other register. -/
theorem Device.pieceCounted_regs (p : SelPiece) (hwf : d.regsWf) :
    d.counted (d.pieceCounted die k c h p) (Reg.SEL_NAN_COUNT die k) (p.work c h.type).1 ∧
    d.counted (d.pieceCounted die k c h p) (Reg.SEL_PASSES die k) (p.work c h.type).2 ∧
    d.sameRegsBut (d.pieceCounted die k c h p) [Reg.SEL_NAN_COUNT die k, Reg.SEL_PASSES die k] := by
  have hne := selCountRegs_apart die k
  refine ⟨Device.counted_of_reg (Device.counted_count rfl hwf) (Device.reg_count_other hne),
    Device.counted_count (Device.reg_count_other hne.symm) (Device.bumpBy_regsWf _ _ _ hwf), fun i hi => ?_⟩
  simp only [List.mem_cons, List.not_mem_nil, or_false, not_or] at hi
  exact (Device.reg_count_other hi.2).trans (Device.reg_count_other hi.1)

/-- The piece has been counted, its row holds it, and its buffer has set out for its pool. -/
def Device.selHeld (d : Device) (die k : Nat) (c : SelectCfg) (e : LiftEntry) (h : ScoreHead) (r : SelRow) : Device :=
  ((d.pieceCounted die k c h (scorePiece c h (d.handleData e))).setSelRows (stKey die 2 k)
    [r.join h (scorePiece c h (d.handleData e))]).releaseHandle (stationRouter (stKey die 2 k)) e.h

theorem Device.selHeld_frame : ∃ fl, d.selHeld die k c e h r = { d with
    regs := (d.pieceCounted die k c h (scorePiece c h (d.handleData e))).regs
    sel := d.sel.put (stKey die 2 k) [r.join h (scorePiece c h (d.handleData e))], str := { d.str with flight := fl } } := by
  rw [Device.selHeld, Device.releaseHandle_frame]
  exact ⟨_, rfl⟩

/-- The piece is held, and a row that it completes is the job of the station. -/
def Device.selJoined (d : Device) (die k : Nat) (c : SelectCfg) (e : LiftEntry) (h : ScoreHead) (r : SelRow) : Device :=
  if (r.join h (scorePiece c h (d.handleData e))).complete then
    (d.selHeld die k c e h r).setJob (stKey die 2 k) { e.selJob with mode := 1, inputs := [] }
  else d.selHeld die k c e h r

/-- SELECT_PIECE with a piece that passes the checks. -/
theorem Completes.of_selectPiece {die : Fin 4} {k : Fin 16} {pre : Device → Prop} {post : Device → Device → Prop}
    (hpre : ∀ d, pre d → d.runs ∧ d.oneHead die.val 2 k.val (4096 * die.val + (selectCfg b).inLift) b e rest ∧ d.inputsPoisoned [e] = false ∧
      e.h.last = false ∧ scoreCheck (selectCfg b) (d.handleData e) = none ∧ scoreHead (d.handleData e) = h ∧ h.whole = false ∧
      pieceCheck (selectCfg b) (d.selRows (stKey die.val 2 k.val)) h e.tag false = none ∧ r.Takes (d.selRows (stKey die.val 2 k.val)) h e.tag)
    (hp : ∀ d, pre d → post d ((d.selPopped die.val b rest).selJoined die.val k.val (selectCfg b) e h r)) :
    Completes (.selectPiece die k) pre post := by
  refine .of_upd_eq (fun s => show execSelectPiece die k s = s.upd _ from rfl) (fun d h => (hpre d h).1) (fun d hd => ?_) hp
  obtain ⟨-, hhead, hclean, hlast, hcheck, hh, hpart, hpiece, htakes⟩ := hpre d hd
  refine (Device.beginJob_of_oneHead (lift := fun b => (selectCfg b).inLift) hhead).trans ?_
  rw [← Device.selPopped]
  obtain ⟨hrows, rfl⟩ | ⟨hrows, htag, hrow, hopen⟩ := htakes
  · rw [hrows] at hpiece
    simp only [Device.selPopped_handleData, Device.selPopped_inputsPoisoned, Device.selPopped_selRows, hclean, hcheck, hh, hpart,
      hlast, hrows, hpiece, List.any_nil, List.nil_append, List.any_cons, Bool.or_false, Bool.false_eq_true, if_false]
    rfl
  · have hmine : (decide (r.tag = e.tag) && decide (r.row = h.row) && !r.complete) = true := by simp [htag, hrow, hopen]
    rw [hrows] at hpiece
    simp only [Device.selPopped_handleData, Device.selPopped_inputsPoisoned, Device.selPopped_selRows, hclean, hcheck, hh, hpart,
      hlast, hrows, hpiece, hmine, List.any_cons, List.any_nil, List.map_cons, List.map_nil, Bool.or_false, Bool.false_eq_true, if_false, if_true]
    rfl

/-- What a piece held has changed. -/
theorem Device.selHeld_post (hwf : d.regsWf) (he : d' = (d.selPopped die b rest).selHeld die k c e h r) :
    d'.selRows (stKey die 2 k) = [r.join h (scorePiece c h (d.handleData e))] ∧ d'.liftQ (4096 * die + (selectCfg b).inLift) = rest ∧
    d.counted d' (Reg.SEL_NAN_COUNT die k) ((scorePiece c h (d.handleData e)).work c h.type).1 ∧
    d.counted d' (Reg.SEL_PASSES die k) ((scorePiece c h (d.handleData e)).work c h.type).2 ∧
    d.sameRegsBut d' [Reg.SEL_NAN_COUNT die k, Reg.SEL_PASSES die k] ∧
    d' = { d with sel := d'.sel, regs := d'.regs, str := { d.str with lifts := d'.str.lifts, flight := d'.str.flight } } := by
  obtain ⟨fl, hheld⟩ := (d.selPopped die b rest).selHeld_frame (die := die) (k := k) (c := c) (e := e) (h := h) (r := r)
  obtain ⟨hnan, hpasses, hsame⟩ := Device.pieceCounted_regs (die := die) (k := k) (c := c) (h := h) (scorePiece c h (d.handleData e)) hwf
  rw [hheld] at he
  subst he
  exact ⟨Map.getD_put_self .., Device.liftQ_setLift_self d _ rest, hnan, hpasses, hsame, rfl⟩

/-- The job of a station whose row has taken a piece: the row, if the piece completes it. -/
theorem Device.job_selJoined (hfree : d.job (stKey die 2 k) = none) : (d.selJoined die k c e h r).job (stKey die 2 k) =
    if (r.join h (scorePiece c h (d.handleData e))).complete then some { e.selJob with mode := 1, inputs := [] } else none := by
  rw [Device.selJoined]
  split
  · exact Device.job_setJob_self ..
  · obtain ⟨fl, hheld⟩ := d.selHeld_frame (die := die) (k := k) (c := c) (e := e) (h := h) (r := r)
    rw [hheld]
    exact hfree

/-- Apart from the jobs, a device whose row has taken a piece is the one that holds the piece. -/
theorem Device.selJoined_frame : ∃ jobs, d.selJoined die k c e h r = { d.selHeld die k c e h r with stn := { d.stn with jobs := jobs } } := by
  obtain ⟨fl, hheld⟩ := d.selHeld_frame (die := die) (k := k) (c := c) (e := e) (h := h) (r := r)
  have hstn : (d.selHeld die k c e h r).stn = d.stn := by rw [hheld]
  rw [← hstn, Device.selJoined]
  split
  · exact ⟨_, rfl⟩
  · exact ⟨_, rfl⟩

end Sys2Proof.Machine
end

section
/-!
SUPPORT. The end of a Select job (R348 to R354): the results of its rows pushed in one buffer, and the statement about Select jobs.
-/

namespace Sys2Proof.Machine

variable {d d' : Device} {die k key n a v : Nat} {b : List Byte} {c : SelectCfg} {e : LiftEntry} {free : List Nat} {j : Job} {r : SelRow}
  {rows : List (Nat × Nat × List SelPiece)} {last : Bool}

theorem selDoneRegs_apart (die k : Nat) : Reg.SEL_ROWS_DONE die k ≠ Reg.SEL_NAN_COUNT die k ∧
    Reg.SEL_ROWS_DONE die k ≠ Reg.SEL_MERGE_CONFLICT die k ∧ Reg.SEL_ROWS_DONE die k ≠ Reg.SEL_DUPLICATES die k ∧
    Reg.SEL_ROWS_DONE die k ≠ Reg.SEL_PASSES die k := by
  simp only [Reg.SEL_ROWS_DONE, Reg.SEL_NAN_COUNT, Reg.SEL_MERGE_CONFLICT, Reg.SEL_DUPLICATES, Reg.SEL_PASSES]
  omega

/-! ### The results of the rows of a job (R350, R354) -/

/-- The results of the rows of a job, in row order, with `v` for ROW_MAX of a row without candidates (log 63). -/
def rowResults (c : SelectCfg) (rows : List (Nat × Nat × List SelPiece)) (v : Nat) : List Byte :=
  rows.flatMap (fun r => resultBytes c r.2.1 r.1 (selectRow c r.2.1 r.2.2) v)

/-- The value of ROW_MAX takes the same room whatever it is. -/
theorem length_resultBytes (type row v : Nat) (x : RowResult) : (resultBytes c type row x v).length = (resultBytes c type row x 0).length := by
  simp only [resultBytes, u32, List.length_append, length_leBytes]

theorem length_rowResults (v : Nat) : (rowResults c rows v).length = (rowResults c rows 0).length := by
  simp only [rowResults, List.length_flatMap, length_resultBytes _ _ v]

/-- The free value that stands for ROW_MAX of a row without candidates (log 63). -/
def Device.openRowMax (d : Device) : Nat := d.free.1.toNat % 2 ^ 32

/-- What forming the results has counted, when they had not been formed before (R361). -/
def Device.selCounted (d : Device) (die k : Nat) (c : SelectCfg) (j : Job) (rows : List (Nat × Nat × List SelPiece)) : Device :=
  if j.words.isEmpty then d.free.2.selCount die k (j.mode = 0) (rows.map (fun r => selectRow c r.2.1 r.2.2)) else d.free.2

theorem Device.selCounted_frame : ∃ regs fresh, d.selCounted die k c j rows = { d with regs := regs, fresh := fresh } := by
  unfold Device.selCounted
  split
  · exact ⟨_, _, rfl⟩
  · exact ⟨d.regs, _, rfl⟩

theorem Device.selCounted_regsWf (hwf : d.regsWf) : (d.selCounted die k c j rows).regsWf := by
  unfold Device.selCounted
  split
  · exact Device.bumpBy_regsWf _ _ _ (Device.bumpBy_regsWf _ _ _ (Device.bumpBy_regsWf _ _ _ (Device.bumpBy_regsWf (d := d.free.2) _ _ _ hwf)))
  · exact hwf

/-- Forming the results counts no row as done. -/
theorem Device.selCounted_rowsDone : (d.selCounted die k c j rows).reg (Reg.SEL_ROWS_DONE die k) = d.reg (Reg.SEL_ROWS_DONE die k) := by
  obtain ⟨hnan, hconflict, hdup, hpass⟩ := selDoneRegs_apart die k
  unfold Device.selCounted
  split
  · exact (Device.reg_count_other hpass).trans ((Device.reg_count_other hdup).trans ((Device.reg_count_other hconflict).trans
      (Device.reg_count_other (d := d.free.2) hnan)))
  · rfl

/-- The rows of a whole buffer. -/
theorem Device.selJobRows_whole (hin : j.inputs = [e]) : d.selJobRows key c j = (jobRows c (d.handleData e), e.h.last) := by
  rw [Device.selJobRows, hin]

/-- The row of pieces that is complete. -/
theorem Device.selJobRows_row (hin : j.inputs = []) (hfind : (d.selRows key).find? (·.complete) = some r) :
    d.selJobRows key c j = ([(r.row, r.type, r.pieces)], r.last) := by
  rw [Device.selJobRows, hin]
  simp only [hfind]

/-! ### The end of a job (R350, R354) -/

/-- The job has ended: the complete rows go with it. -/
def Device.selFinish (d : Device) (key : Nat) (j : Job) : Device :=
  ((d.dropJob key).releaseInputs key j).setSelRows key ((d.selRows key).filter (fun r => !r.complete))

/-- The results of the rows have been formed and are the output of the job. -/
def Device.selEnded (d : Device) (die k : Nat) (c : SelectCfg) (j : Job) (rows : List (Nat × Nat × List SelPiece)) (last : Bool) : Device :=
  let x := d.selCounted die k c j rows
  x.jobOutputs (stKey die 2 k) (poolKey die c.outPool) (x.stationOut die 2 k 1 c.outLift) { j with words := [1] } last false
    [rowResults c rows d.openRowMax] (fun z => z.count (Reg.SEL_ROWS_DONE die k) 64 rows.length) (fun z => z.selFinish (stKey die 2 k) j)

/-- SELECT_JOB_END of a station without ROUTE, when the results fit in a buffer. -/
theorem Completes.of_selectJobEnd {die : Fin 4} {k : Fin 16} {pre : Device → Prop} {post : Device → Device → Prop}
    (hpre : ∀ d, pre d → d.runs ∧ d.working die.val 2 k.val b j ∧ (selectCfg b).op ≠ 2 ∧
      (rowResults (selectCfg b) (d.selJobRows (stKey die.val 2 k.val) (selectCfg b) j).1 0).length ≤ d.poolSize (poolKey die.val (selectCfg b).outPool))
    (hp : ∀ d, pre d → post d (d.selEnded die.val k.val (selectCfg b) j (d.selJobRows (stKey die.val 2 k.val) (selectCfg b) j).1
      (d.selJobRows (stKey die.val 2 k.val) (selectCfg b) j).2)) : Completes (.selectJobEnd die k) pre post := by
  refine .of_upd_eq (fun s => show execSelectJobEnd die k s = s.upd _ from rfl) (fun d h => (hpre d h).1) (fun d h => ?_) hp
  obtain ⟨-, ⟨hcfg, hgo, hjob, hnew, -⟩, hop, hfit⟩ := hpre d h
  obtain ⟨⟨rows, last⟩, hrows⟩ : ∃ x, d.selJobRows (stKey die.val 2 k.val) (selectCfg b) j = x := ⟨_, rfl⟩
  rw [hrows] at hfit ⊢
  have hfit' : ¬ d.free.2.poolSize (poolKey die.val (selectCfg b).outPool) < (rowResults (selectCfg b) rows d.openRowMax).length := by
    rw [length_rowResults]
    exact Nat.not_lt.2 hfit
  rw [rowResults, Device.openRowMax] at hfit'
  refine (Device.withJob_of_going hcfg hgo hjob).trans ((if_neg (by rw [hnew]; exact Bool.false_ne_true)).trans ?_)
  simp only [hrows, hop, List.flatMap_map, List.map_map, List.foldl_cons, List.foldl_nil, Nat.zero_add, hfit', List.length_map, if_false]
  rfl

/-- What the push of results in one buffer has changed when the job has ended. -/
theorem Device.selOutput_post {pk lk : Nat} {y : List Byte} (hheld : j.held = []) (hpush : d.canPush pk lk a free)
    (hrise : Map.rising d.stn.jobs = true) (hmem : Memory.wf d.mem = true) (hwf : d.regsWf)
    (he : d' = d.jobOutputs key pk lk { j with words := [1] } last false [y] (fun z => z.count (Reg.SEL_ROWS_DONE die k) 64 n)
      (fun z => z.selFinish key j)) :
    d.pushedOne d' key pk lk j.tag last y a free ∧ d.counted d' (Reg.SEL_ROWS_DONE die k) n ∧
    d'.selRows key = (d.selRows key).filter (fun r => !r.complete) := by
  obtain ⟨x, hx⟩ : ∃ x, x = (d.pushedJob key pk lk { j with words := [1] } last y a free).count (Reg.SEL_ROWS_DONE die k) 64 n := ⟨_, rfl⟩
  obtain ⟨tasks, hframe⟩ := Device.pushedJob_frame (d := d) (key := key) (j := { j with words := [1] }) (last := last) (y := y) hpush.2.1 hpush.2.2
  have hend : d' = ((x.dropJob key).releaseInputs key j).setSelRows key ((x.selRows key).filter (fun r => !r.complete)) :=
    hx ▸ he.trans (Device.jobOutputs_one (j := { j with words := [1] }) hheld hpush fun _ => rfl)
  have hout : (x.dropJob key).releaseInputs key j = d.jobOutputs key pk lk { j with words := [1] } last false [y]
      (fun z => z.count (Reg.SEL_ROWS_DONE die k) 64 n) (fun z => (z.dropJob key).releaseInputs key j) :=
    hx ▸ (Device.jobOutputs_one (j := { j with words := [1] }) (counts := fun z => z.count (Reg.SEL_ROWS_DONE die k) 64 n)
      (fin := fun z => (z.dropJob key).releaseInputs key j) hheld hpush fun _ => rfl).symm
  obtain ⟨hone, -⟩ := Device.jobOutputs_one_post (j := { j with words := [1] }) hheld hpush hrise hmem (fun _ => rfl) (fun _ => rfl) hout
  have hcounted : d.counted x (Reg.SEL_ROWS_DONE die k) n := by
    rw [hx, hframe]
    exact Device.counted_count (x := { d.write a y with stn := _, str := _ }) rfl hwf
  have hrows : x.selRows key = d.selRows key := by
    rw [hx, hframe]
    rfl
  obtain ⟨fl, hrel⟩ := Device.releaseInputs_frame (d := x.dropJob key) key j
  refine ⟨hend ▸ hone, ?_, ?_⟩
  · rw [hend, hrel]
    exact hcounted
  · rw [hend, hrows]
    exact Map.getD_put_self ..

/-- What a job with results in one buffer has changed when it has ended. -/
theorem Device.selEnded_post (hwork : d.working die 2 k b j)
    (hpush : d.canPush (poolKey die c.outPool) (d.stationOut die 2 k 1 c.outLift) a free) (he : d' = d.selEnded die k c j rows last) :
    d.pushedOne d' (stKey die 2 k) (poolKey die c.outPool) (d.stationOut die 2 k 1 c.outLift) j.tag last (rowResults c rows d.openRowMax) a free ∧
    d.counted d' (Reg.SEL_ROWS_DONE die k) rows.length ∧
    d'.selRows (stKey die 2 k) = (d.selRows (stKey die 2 k)).filter (fun r => !r.complete) := by
  obtain ⟨-, -, -, -, hheld, hrise, hmem, hwf⟩ := hwork
  have hxwf : (d.selCounted die k c j rows).regsWf := Device.selCounted_regsWf hwf
  have hxreg : (d.selCounted die k c j rows).reg (Reg.SEL_ROWS_DONE die k) = d.reg (Reg.SEL_ROWS_DONE die k) := Device.selCounted_rowsDone
  obtain ⟨regs, fresh, hx⟩ := d.selCounted_frame (die := die) (k := k) (c := c) (j := j) (rows := rows)
  unfold Device.selEnded at he
  rw [hx] at he hxwf hxreg
  obtain ⟨hone, hcounted, hrows⟩ := Device.selOutput_post (d := { d with regs := regs, fresh := fresh }) hheld hpush hrise hmem hxwf he
  exact ⟨hone, Device.counted_since hcounted hxreg, hrows⟩

/-- Settles O40: a whole buffer is popped as the job, a piece is counted and joins its row, a buffer that fails a check fails its job, and the end
of a job is one output pushed. -/
theorem selectJobs : Obligations.SelectJobs := by
  refine ⟨fun die k b e rest => ?whole, fun die k b e rest h => ?first, fun die k b e rest h r => ?next, fun die k b e rest code => ?unfit,
    fun die k b j e a rest => ?ends, fun die k b j r a rest => ?endsRow⟩
  case whole => exact .of_selectWhole (fun _ hd => hd) fun _ _ => Device.selWhole_began
  case first =>
    refine .of_selectPiece (h := h) (r := h.newRow e.tag) (fun d ⟨hr, hhead, hclean, hlast, hcheck, hh, hpart, hrows, hroom, _⟩ =>
      ⟨hr, hhead, hclean, hlast, hcheck, hh, hpart, ?_, .inl ⟨hrows, rfl⟩⟩) fun d ⟨_, _, _, _, _, _, hpart, _, _, hwf⟩ => ?_
    · rw [hrows]
      simp [pieceCheck, Nat.ne_of_gt hroom]
    · rw [Device.selJoined, if_neg (by rw [ScoreHead.newRow_join_not_complete hpart]; exact Bool.false_ne_true)]
      exact Device.selHeld_post hwf rfl
  case next =>
    refine .of_selectPiece (h := h) (r := r) (fun d ⟨hr, hhead, hclean, hlast, hcheck, hh, hpart, hrows, htag, hrow, hopen, hpiece, _⟩ =>
      ⟨hr, hhead, hclean, hlast, hcheck, hh, hpart, hrows.symm ▸ hpiece, .inr ⟨hrows, htag, hrow, hopen⟩⟩)
      fun d ⟨_, ⟨_, _, hfree, _⟩, _, _, _, _, _, _, _, _, _, _, hwf⟩ => ?_
    have hjob := Device.job_selJoined (d := d.selPopped die.val b rest) (die := die.val) (k := k.val) (c := selectCfg b) (e := e) (h := h) (r := r) hfree
    obtain ⟨jobs, hframe⟩ := (d.selPopped die.val b rest).selJoined_frame (die := die.val) (k := k.val) (c := selectCfg b) (e := e) (h := h) (r := r)
    obtain ⟨hrows, hlift, hnan, hpasses, hsame, hrest⟩ := Device.selHeld_post (d := d) (die := die.val) (k := k.val) (b := b) (rest := rest)
      (c := selectCfg b) (e := e) (h := h) (r := r) hwf rfl
    rw [hframe] at hjob ⊢
    refine ⟨hrows, hlift, hjob, hnan, hpasses, hsame, ?_⟩
    rw [hrest]
  case unfit =>
    exact .of_selectFail (fun d ⟨hr, hhead, hclean, hcheck, _⟩ => ⟨hr, hhead, hclean, hcheck⟩)
      fun d ⟨_, _, _, _, hwf, hrise⟩ => Device.selFails_post hwf hrise rfl
  case ends =>
    refine .of_selectJobEnd (fun d ⟨hr, hwork, hin, hop, _, hfit⟩ => ⟨hr, hwork, hop, ?_⟩) fun d ⟨_, hwork, hin, _, hpush, _⟩ => ?_
    · rw [Device.selJobRows_whole hin]
      exact hfit
    · rw [Device.selJobRows_whole hin]
      obtain ⟨hone, hdone, -⟩ := Device.selEnded_post hwork hpush rfl
      exact ⟨d.openRowMax, Nat.mod_lt _ (by decide), hone, hdone⟩
  case endsRow =>
    have hone (c : SelectCfg) (v : Nat) : rowResults c [(r.row, r.type, r.pieces)] v = resultBytes c r.type r.row (selectRow c r.type r.pieces) v :=
      List.flatMap_singleton ..
    refine .of_selectJobEnd (fun d ⟨hr, hwork, hin, hop, _, hfind, _, hfit⟩ => ⟨hr, hwork, hop, ?_⟩) fun d ⟨_, hwork, hin, _, hpush, hfind, _⟩ => ?_
    · rw [Device.selJobRows_row hin hfind, hone]
      exact hfit
    · rw [Device.selJobRows_row hin hfind]
      obtain ⟨hpushed, hdone, hrows⟩ := Device.selEnded_post hwork hpush rfl
      rw [hone] at hpushed
      exact ⟨d.openRowMax, Nat.mod_lt _ (by decide), hpushed, hdone, hrows⟩

end Sys2Proof.Machine
end

section
/-!
SUPPORT. Gather jobs (R375 to R378, R383, R384): the buffer an instance takes, what its job comes to, the end of a job, and the statement about
them.
-/

namespace Sys2Proof.Machine

variable {d d' z : Device} {die k kind code off n t : Nat} {b : List Byte} {e : LiftEntry} {rest : List LiftEntry} {g : GatherBuf} {x : TableRec}
  {j : Job} {l : List (Nat × Nat)}

/-! ### Several counters moved in turn -/

/-- Whole counters moved one after the other, each by its own amount. -/
def Device.countAll (d : Device) (l : List (Nat × Nat)) : Device := l.foldl (fun d c => d.count c.1 64 c.2) d

theorem Device.countAll_cons (c : Nat × Nat) : d.countAll (c :: l) = (d.count c.1 64 c.2).countAll l := rfl

theorem Device.countAll_concat (c : Nat × Nat) : d.countAll (l ++ [c]) = (d.countAll l).count c.1 64 c.2 := List.foldl_append ..

theorem Device.countAll_frame : d.countAll l = { d with regs := (d.countAll l).regs } := by
  induction l generalizing d with
  | nil => rfl
  | cons c l ih => rw [Device.countAll_cons, ih]; rfl

theorem Device.reg_countAll_other (h : off ∉ l.map Prod.fst) : (d.countAll l).reg off = d.reg off := by
  induction l generalizing d with
  | nil => rfl
  | cons c l ih =>
    rw [List.map_cons, List.mem_cons, not_or] at h
    exact (ih h.2).trans (Device.reg_count_other h.1)

/-- Counters apart from one another: each has moved by its amount. -/
theorem Device.countAll_counted (hwf : d.regsWf) (hapart : (l.map Prod.fst).Nodup) (h : (off, n) ∈ l) : d.counted (d.countAll l) off n := by
  induction l generalizing d with
  | nil => cases h
  | cons c l ih =>
    obtain ⟨hnew, hapart⟩ := List.nodup_cons.1 hapart
    rcases List.mem_cons.1 h with rfl | h
    · exact Device.counted_of_reg (Device.counted_count rfl hwf) (Device.reg_countAll_other hnew)
    · have hne : off ≠ c.1 := fun heq => hnew (heq ▸ List.mem_map_of_mem (f := Prod.fst) h)
      exact Device.counted_since (ih (Device.bumpBy_regsWf _ _ _ hwf) hapart h) (Device.reg_count_other hne)

/-! ### The state of a table -/

theorem Device.embT_congr (h : d'.emb = d.emb) (key : Nat) : d'.embT key = d.embT key := by
  rw [Device.embT, h, Device.embT]

@[simp] theorem Device.embT_setEmb_self (key : Nat) (y : EmbTable) : (d.setEmb key y).embT key = y := Map.getD_put_self ..

/-! ### The buffer an instance takes (R375, R397) -/

/-- The buffer at the head of IN_LIFT, whose index is not separate, is next for an instance that is free and serves no apply. -/
def Device.gatherReady (d : Device) (die k kind : Nat) (b : List Byte) (e : LiftEntry) (rest : List LiftEntry) : Prop :=
  d.oneHead die 4 k (4096 * die + (gatherCfg b).inLift) b e rest ∧ d.gatherApplying die k = false ∧
  d.gatherHead die b = some (kind, false) ∧ d.inputsPoisoned [e] = false

/-- The instance has popped the buffer. -/
def Device.gatherPopped (d : Device) (die : Nat) (b : List Byte) (rest : List LiftEntry) : Device :=
  d.setLift (4096 * die + (gatherCfg b).inLift) rest

@[simp] theorem Device.gatherPopped_inputsPoisoned (hs : List LiftEntry) : (d.gatherPopped die b rest).inputsPoisoned hs = d.inputsPoisoned hs := rfl
@[simp] theorem Device.gatherPopped_gatherRead (hs : List LiftEntry) : (d.gatherPopped die b rest).gatherRead hs = d.gatherRead hs := rfl
@[simp] theorem Device.gatherPopped_gatherTable : (d.gatherPopped die b rest).gatherTable die k t = d.gatherTable die k t := rfl
@[simp] theorem Device.gatherPopped_embT (key : Nat) : (d.gatherPopped die b rest).embT key = d.embT key := rfl
@[simp] theorem Device.gatherPopped_poolSize (pk : Nat) : (d.gatherPopped die b rest).poolSize pk = d.poolSize pk := rfl
@[simp] theorem Device.gatherPopped_reachEntries (y : EmbTable) (idx : List Nat) :
    (d.gatherPopped die b rest).reachEntries die x y idx = d.reachEntries die x y idx := rfl
@[simp] theorem Device.gatherPopped_lookupResult (y : EmbTable) :
    (d.gatherPopped die b rest).lookupResult die x y g = d.lookupResult die x y g := rfl

/-- An instance pops the buffer that is next when its kind is one it looks for. -/
theorem Device.gatherBegin_of_ready {want : Nat → Bool} {f : List Byte → List LiftEntry → Device → Device}
    (h : d.gatherReady die k kind b e rest) (hwant : want kind = true) : d.gatherBegin die k want f = f b [e] (d.gatherPopped die b rest) := by
  obtain ⟨hhead, hidle, hkind, -⟩ := h
  have ⟨hcfg, _, _, hq, _, hlive⟩ := hhead
  have hfront : d.discardFront (4096 * die + (gatherCfg b).inLift) = d := Device.discardGone_of_live hq hlive _
  unfold Device.gatherBegin
  simp only [hidle, hcfg, hfront, hkind, hwant, Bool.false_eq_true, if_false, if_true]
  exact Device.beginRun_of_oneHead (lift := fun b => (gatherCfg b).inLift) (arity := fun _ => 1) hhead rfl

/-- The job of a buffer just popped: mode 1 of a lookup, 3 of a gradient. -/
def LiftEntry.gatherJob (e : LiftEntry) (mode : Nat) : Job := { mode := mode, tag := e.tag, inputs := [e], seq := 0, words := [], bytes := [] }

/-! ### A buffer that fails a check (R375, R384) -/

theorem gatherFailRegs_apart (die k : Nat) : Reg.GATHER_JOBS_FAILED die k ≠ Reg.GATHER_LAST_FAIL die k := by
  simp only [Reg.GATHER_JOBS_FAILED, Reg.GATHER_LAST_FAIL]
  omega

/-- The failure of a job leaves the tables. -/
theorem Device.failJob_emb (key failReg lastReg code : Nat) (j : Job) : (d.failJob key failReg lastReg code j).emb = d.emb := by
  obtain ⟨fl, heq⟩ := d.failJob_eq (key := key) (code := code) (j := j) failReg lastReg
  rw [heq, Device.requestAbort_frame]
  rfl

/-- What the failure of the job of a buffer just popped has changed. -/
theorem Device.gatherFail_post (hwf : d.regsWf) (hrise : Map.rising d.stn.jobs = true) (mode : Nat)
    (he : d' = (d.gatherPopped die b rest).gatherFail die k code (e.gatherJob mode)) :
    d'.liftQ (4096 * die + (gatherCfg b).inLift) = rest ∧
    d.jobFailed d' (stKey die 4 k) (Reg.GATHER_JOBS_FAILED die k) (Reg.GATHER_LAST_FAIL die k) code e.tag ∧ d'.emb = d.emb := by
  obtain ⟨hfailed, hlifts⟩ := Device.failJob_post (d := d.gatherPopped die b rest) (key := stKey die 4 k) (code := code) (j := e.gatherJob mode)
    hrise hwf (gatherFailRegs_apart die k)
  subst he
  exact ⟨(Device.liftQ_of_lifts hlifts).trans (Device.liftQ_setLift_self d _ rest), hfailed, Device.failJob_emb ..⟩

/-! ### Lookups (R375 to R378) -/

/-- Entries that are valid, or forgiven by POLICY ZERO, and whose rows are not poisoned abort nothing. -/
theorem Device.reachEntries_of_clean {y : EmbTable} {idx : List Nat} (hvalid : x.policyZero = true ∨ ∀ r ∈ idx, x.valid r = true)
    (hclean : ∀ r ∈ idx, d.rowPoisoned die x y r = false) : d.reachEntries die x y idx = none := by
  refine List.findSome?_eq_none_iff.2 fun r hr => ?_
  cases hv : x.valid r with
  | true => simp [hclean r hr]
  | false =>
    have hzero : x.policyZero = true := hvalid.resolve_right fun h => by simp [h r hr] at hv
    simp [hzero]

/-- The job of a lookup that passes its checks: its table, the hits of both stores, its invalid entries, its valid rows and its result. -/
def Device.lookupJob (d : Device) (die : Nat) (x : TableRec) (g : GatherBuf) (e : LiftEntry) : Job :=
  let y := d.embT (embKey die x.id)
  let valid := g.idx.filter x.valid
  let hits (s : Nat) := (valid.filter (fun r => (y.placeOf x r).store = s)).length
  { e.gatherJob 1 with
    words := [x.id, hits 1, hits 2, g.idx.length - valid.length] ++ valid
    bytes := d.lookupResult die x y g }

/-- GATHER_LOOKUP_JOB with a buffer that passes its checks. -/
theorem Completes.of_lookup {die : Fin 4} {k : Fin 16} {pre : Device → Prop} {post : Device → Device → Prop}
    (hpre : ∀ d, pre d → d.runs ∧ d.gatherReady die.val k.val kind b e rest ∧ kind ≠ 3 ∧ d.gatherRead [e] = some g ∧
      d.gatherTable die.val k.val g.table = some x ∧
      64 + ceil64 (4 * rOut g.pool g.bags g.entries) + rOut g.pool g.bags g.entries * x.outRow ≤ d.poolSize (poolKey die.val (gatherCfg b).outPool) ∧
      d.reachEntries die.val x (d.embT (embKey die.val x.id)) g.idx = none)
    (hp : ∀ d, pre d → post d ((d.gatherPopped die.val b rest).setJob (stKey die.val 4 k.val) (d.lookupJob die.val x g e))) :
    Completes (.gatherLookupJob die k) pre post := by
  refine .of_upd_eq (fun s => show execGatherLookupJob die k s = s.upd _ from rfl) (fun d h => (hpre d h).1) (fun d h => ?_) hp
  obtain ⟨-, hready, hkind, hread, htable, hfit, hreach⟩ := hpre d h
  refine (Device.gatherBegin_of_ready hready (by simpa using hkind)).trans ?_
  simp only [Device.gatherPopped_inputsPoisoned, Device.gatherPopped_gatherRead, Device.gatherPopped_gatherTable, Device.gatherPopped_embT,
    Device.gatherPopped_poolSize, Device.gatherPopped_reachEntries, hready.2.2.2, hread, htable, hreach, Nat.not_lt.2 hfit, Bool.false_eq_true, if_false]
  rfl

/-- GATHER_LOOKUP_JOB with a buffer that is malformed. -/
theorem Completes.of_lookupMalformed {die : Fin 4} {k : Fin 16} {pre : Device → Prop} {post : Device → Device → Prop}
    (hpre : ∀ d, pre d → d.runs ∧ d.gatherReady die.val k.val kind b e rest ∧ kind ≠ 3 ∧ d.gatherRead [e] = none)
    (hp : ∀ d, pre d → post d ((d.gatherPopped die.val b rest).gatherFail die.val k.val 0x0C13 (e.gatherJob 1))) :
    Completes (.gatherLookupJob die k) pre post := by
  refine .of_upd_eq (fun s => show execGatherLookupJob die k s = s.upd _ from rfl) (fun d h => (hpre d h).1) (fun d h => ?_) hp
  obtain ⟨-, hready, hkind, hread⟩ := hpre d h
  refine (Device.gatherBegin_of_ready hready (by simpa using hkind)).trans ?_
  simp only [Device.gatherPopped_inputsPoisoned, Device.gatherPopped_gatherRead, hready.2.2.2, hread, Bool.false_eq_true, if_false]
  rfl

/-! ### Gradients (R383, R384) -/

/-- The contributions of a gradient have been staged, and its job begun. -/
def Device.gradientStaged (d : Device) (die k : Nat) (x : TableRec) (g : GatherBuf) (e : LiftEntry) : Device :=
  (d.setEmb (embKey die x.id) { d.embT (embKey die x.id) with
    staged := (d.embT (embKey die x.id)).staged ++ (g.contributions x).map (fun c => (e.tag, c)) }).setJob (stKey die 4 k)
    { e.gatherJob 3 with words := [x.id, 0, 0, 0] }

/-- What the log takes of a gradient whose entries are all valid: its place there, or the failure of the job. -/
def Device.gradientTaken (d : Device) (die k : Nat) (x : TableRec) (g : GatherBuf) (e : LiftEntry) : Device :=
  if x.logEntries < (d.embT (embKey die x.id)).logHeld + g.entries then d.gatherFail die k 0x0C16 (e.gatherJob 3)
  else d.gradientStaged die k x g e

/-- GATHER_GRADIENT_JOB with a buffer of valid entries for a table that takes it. -/
theorem Completes.of_gradient {die : Fin 4} {k : Fin 16} {pre : Device → Prop} {post : Device → Device → Prop}
    (hpre : ∀ d, pre d → d.runs ∧ d.gatherReady die.val k.val kind b e rest ∧ kind = 3 ∧ d.gatherRead [e] = some g ∧
      d.gatherTable die.val k.val g.table = some x ∧ x.opt ≠ 0 ∧ g.cols = x.colCount ∧ tagStage e.tag = x.updateStage ∧
      ∀ r ∈ g.idx, x.valid r = true)
    (hp : ∀ d, pre d → post d ((d.gatherPopped die.val b rest).gradientTaken die.val k.val x g e)) :
    Completes (.gatherGradientJob die k) pre post := by
  refine .of_upd_eq (fun s => show execGatherGradientJob die k s = s.upd _ from rfl) (fun d h => (hpre d h).1) (fun d h => ?_) hp
  obtain ⟨-, hready, hkind, hread, htable, hopt, hcols, hstage, hvalid⟩ := hpre d h
  have hnone : g.idx.filter (fun r => !x.valid r) = [] := List.filter_eq_nil_iff.2 fun r hr => by simp [hvalid r hr]
  have htakes : (decide (x.opt = 0) || g.cols != x.colCount || tagStage e.tag != x.updateStage) = false := by simp [hopt, hcols, hstage]
  refine (Device.gatherBegin_of_ready hready (by simpa using hkind)).trans ?_
  simp only [Device.gatherPopped_inputsPoisoned, Device.gatherPopped_gatherRead, Device.gatherPopped_gatherTable, hready.2.2.2, hread, htable,
    hnone, List.head?_cons, Option.map_some, Option.getD_some, htakes, List.length_nil, Nat.sub_zero, Nat.lt_irrefl, decide_false, Bool.and_false,
    Bool.false_eq_true, if_false]
  rfl

/-! ### The end of a job (R375, R378) -/

/-- The valid rows of a lookup have been staged for the sketch (R380). -/
def Device.lookupsStaged (d : Device) (die t tag : Nat) (valid : List Nat) : Device :=
  d.setEmb (embKey die t) { d.embT (embKey die t) with lookups := (d.embT (embKey die t)).lookups ++ valid.map (fun r => (tag, r)) }

/-- The counters of a table that the end of a job moves. -/
def gatherCounts (die t rows hits areaHits bad : Nat) : List (Nat × Nat) :=
  [(Reg.EMB_ZEROED die t, bad), (Reg.TENSOR_INDEX_ZERO_COUNT die, bad), (Reg.EMB_LOOKUPS die t, rows), (Reg.EMB_CACHE_HITS die t, hits),
    (Reg.EMB_AREA_HITS die t, areaHits)]

theorem gatherCounts_apart {rows hits areaHits bad : Nat} (ht : t < 64) :
    ((gatherCounts die t rows hits areaHits bad ++ [(Reg.GATHER_JOBS_DONE die k, 1)]).map Prod.fst).Nodup := by
  simp only [gatherCounts, List.cons_append, List.nil_append, List.map_cons, List.map_nil, List.nodup_cons, List.mem_cons, List.not_mem_nil, or_false,
    not_or, not_false_eq_true, List.nodup_nil, and_true, Reg.EMB_ZEROED, Reg.TENSOR_INDEX_ZERO_COUNT, Reg.EMB_LOOKUPS, Reg.EMB_CACHE_HITS,
    Reg.EMB_AREA_HITS, Reg.GATHER_JOBS_DONE, dieBase]
  omega

/-- The job has left the instance, its input has set out for its pool, and it is counted. -/
def Device.gatherFinish (d : Device) (die k : Nat) (j : Job) : Device :=
  ((d.dropJob (stKey die 4 k)).releaseInputs (stKey die 4 k) j).count (Reg.GATHER_JOBS_DONE die k) 64 1

theorem Device.gatherFinish_frame : ∃ fl, (d.countAll l).gatherFinish die k j = { d.dropJob (stKey die 4 k) with
    regs := (d.countAll (l ++ [(Reg.GATHER_JOBS_DONE die k, 1)])).regs, str := { d.str with flight := fl } } := by
  obtain ⟨fl, hrel⟩ := Device.releaseInputs_frame (d := (d.countAll l).dropJob (stKey die 4 k)) (stKey die 4 k) j
  refine ⟨fl, ?_⟩
  rw [Device.gatherFinish, hrel, Device.countAll_concat, Device.countAll_frame]
  rfl

/-- What the end of a job of a table comes to, before it has pushed: the counters of a gradient, or the push of a lookup's result. -/
def Device.gatherEnded (d : Device) (die k : Nat) (b : List Byte) (j : Job) (t hits areaHits bad : Nat) (valid : List Nat) : Device :=
  if j.mode = 3 then (d.countAll (gatherCounts die t valid.length hits areaHits bad)).gatherFinish die k j
  else d.jobOutputs (stKey die 4 k) (poolKey die (gatherCfg b).outPool) (d.stationOut die 4 k 1 (gatherCfg b).outLift) j
    ((j.inputs.getLast?.map (·.h.last)).getD false) false [j.bytes]
    (fun z => (z.lookupsStaged die t j.tag valid).countAll (gatherCounts die t valid.length hits areaHits bad)) (fun z => z.gatherFinish die k j)

/-- GATHER_JOB_END of a job that has not pushed yet. -/
theorem Completes.of_gatherJobEnd {die : Fin 4} {k : Fin 16} {hits areaHits bad : Nat} {valid : List Nat} {pre : Device → Prop}
    {post : Device → Device → Prop}
    (hpre : ∀ d, pre d → d.runs ∧ d.working die.val 4 k.val b j ∧ j.words = [t, hits, areaHits, bad] ++ valid)
    (hp : ∀ d, pre d → post d (d.gatherEnded die.val k.val b j t hits areaHits bad valid)) : Completes (.gatherJobEnd die k) pre post := by
  refine .of_upd_eq (fun s => show execGatherJobEnd die k s = s.upd _ from rfl) (fun d h => (hpre d h).1) (fun d h => ?_) hp
  obtain ⟨-, ⟨hcfg, hgo, hjob, hnew, -⟩, hwords⟩ := hpre d h
  refine (Device.withJob_of_going hcfg hgo hjob).trans ?_
  unfold Device.gatherEnded
  by_cases hmode : j.mode = 3 <;> simp only [hmode, hnew, hwords, Bool.false_eq_true, if_true, if_false] <;> rfl

theorem Device.updTask_setEmb (key tag : Nat) (y : EmbTable) (f : Task → Task) : (d.setEmb key y).updTask tag f = (d.updTask tag f).setEmb key y := by
  have hfind : (d.setEmb key y).findTask tag = d.findTask tag := rfl
  rw [Device.updTask, Device.updTask, hfind]
  cases d.findTask tag <;> rfl

/-- A table changes alike before a push and after it. -/
theorem Device.push_setEmb (key lk : Nat) (y : EmbTable) (p : LiftEntry) : (d.setEmb key y).push lk p = (d.push lk p).setEmb key y := by
  rw [Device.push, Device.push, Device.updTask_setEmb]
  generalize d.updTask p.tag _ = z
  have hload : (z.setEmb key y).liftLoad lk = z.liftLoad lk := rfl
  rw [hload, Device.setEmb_str]
  split <;> rfl

theorem Device.pushedJob_setEmb {pk lk a : Nat} {last : Bool} {y : List Byte} {free : List Nat} (key key' : Nat) (v : EmbTable) :
    (d.setEmb key' v).pushedJob key pk lk j last y a free = (d.pushedJob key pk lk j last y a free).setEmb key' v :=
  congrArg (fun z : Device => z.setJob key { j with held := [], pushed := true })
    (Device.push_setEmb (d := (d.updStr (fun u => { u with pools := u.pools.put pk free, owner := u.owner.put a j.tag })).write a y) ..)

/-- What the push of a lookup's result has changed when its job has ended. -/
theorem Device.lookupOutput_post {pk lk a : Nat} {last : Bool} {y : List Byte} {free valid : List Nat} (hheld : j.held = [])
    (hpush : d.canPush pk lk a free) (hrise : Map.rising d.stn.jobs = true) (hmem : Memory.wf d.mem = true) (hwf : d.regsWf)
    (hapart : ((l ++ [(Reg.GATHER_JOBS_DONE die k, 1)]).map Prod.fst).Nodup)
    (he : d' = d.jobOutputs (stKey die 4 k) pk lk j last false [y] (fun z => (z.lookupsStaged die t j.tag valid).countAll l)
      (fun z => z.gatherFinish die k j)) :
    d.pushedOne d' (stKey die 4 k) pk lk j.tag last y a free ∧ d'.emb = (d.lookupsStaged die t j.tag valid).emb ∧
    ∀ {off n}, (off, n) ∈ l ++ [(Reg.GATHER_JOBS_DONE die k, 1)] → d.counted d' off n := by
  have hstr (z : Device) : (z.countAll l).str = z.str := by rw [Device.countAll_frame]
  obtain ⟨tasks, hframe⟩ := Device.pushedJob_frame (d := d) (key := stKey die 4 k) (pk := pk) (j := j) (last := last) (y := y) (a := a)
    (free := free) hpush.2.1 hpush.2.2
  have hemb : (d.pushedJob (stKey die 4 k) pk lk j last y a free).emb = d.emb := (congrArg Device.emb hframe).trans rfl
  have hstaged : (d.pushedJob (stKey die 4 k) pk lk j last y a free).lookupsStaged die t j.tag valid =
      (d.lookupsStaged die t j.tag valid).pushedJob (stKey die 4 k) pk lk j last y a free := by
    rw [Device.lookupsStaged, Device.lookupsStaged, Device.pushedJob_setEmb, Device.embT_congr hemb]
  have hend := he.trans (Device.jobOutputs_one hheld hpush fun z => hstr (z.lookupsStaged die t j.tag valid))
  rw [hstaged] at hend
  have hout := hend.trans (Device.jobOutputs_one (d := d.lookupsStaged die t j.tag valid) (counts := fun z => z.countAll l)
    (fin := fun z => z.gatherFinish die k j) hheld hpush hstr).symm
  obtain ⟨hone, z, hz, hfin⟩ := Device.jobOutputs_one_post (d := d.lookupsStaged die t j.tag valid) hheld hpush hrise hmem
    (fun _ => Device.countAll_frame) (fun _ => rfl) hout
  refine ⟨hone, ?_, fun hc => ?_⟩
  · obtain ⟨fl, hleft⟩ := Device.gatherFinish_frame (l := l) (die := die) (k := k) (j := j)
      (d := (d.lookupsStaged die t j.tag valid).pushedJob (stKey die 4 k) pk lk j last y a free)
    rw [hend, hleft, ← hstaged, hframe]
    rfl
  · obtain ⟨fl, hleft⟩ := z.gatherFinish_frame (l := l) (die := die) (k := k) (j := j)
    rw [hfin, hleft]
    exact Device.counted_since (Device.countAll_counted (by rw [Device.regsWf, hz]; exact hwf) hapart hc) (Device.reg_congr hz)

/-- Settles O41: an instance pops the buffer that is next and forms a result or stages contributions, or fails the job; the end of a lookup is its
result pushed, the end of a gradient its counters. -/
theorem gatherJobs : Obligations.GatherJobs := by
  refine ⟨fun die k b e rest kind g x => ?lookup, fun die k b e rest kind => ?malformed, fun die k b e rest kind g x => ?gradient,
    fun die k b e rest kind g x => ?logFull, fun die k b j t hits areaHits bad valid a rest => ?lookupEnds, fun die k b j t bad => ?gradientEnds⟩
  case lookup =>
    refine .of_lookup (kind := kind) (g := g) (x := x)
      (fun d ⟨hr, hhead, hidle, hh, hkind, hclean, hread, htable, hfit, hvalid, hrows⟩ =>
        ⟨hr, ⟨hhead, hidle, hh, hclean⟩, hkind, hread, htable, hfit, Device.reachEntries_of_clean hvalid hrows⟩) fun d _ => ?_
    exact ⟨by rw [Device.job_setJob_self]; rfl, Device.liftQ_setLift_self d _ rest, rfl⟩
  case malformed =>
    exact .of_lookupMalformed (kind := kind) (fun d ⟨hr, hhead, hidle, hh, hkind, hclean, hread, _⟩ => ⟨hr, ⟨hhead, hidle, hh, hclean⟩, hkind, hread⟩)
      fun d ⟨_, _, _, _, _, _, _, hwf, hrise⟩ => Device.gatherFail_post hwf hrise 1 rfl
  case gradient =>
    refine .of_gradient (kind := kind) (g := g) (x := x)
      (fun d ⟨hr, hhead, hidle, hh, hkind, hclean, hread, htable, hopt, hcols, hstage, hvalid, _⟩ =>
        ⟨hr, ⟨hhead, hidle, hh, hclean⟩, hkind, hread, htable, hopt, hcols, hstage, hvalid⟩)
      fun d ⟨_, _, _, _, _, _, _, _, _, _, _, _, hroom⟩ => ?_
    rw [Device.gradientTaken, Device.gatherPopped_embT, if_neg (Nat.not_lt.2 hroom)]
    exact ⟨Device.embT_setEmb_self .., by rw [Device.gradientStaged, Device.job_setJob_self]; rfl, rfl, rfl⟩
  case logFull =>
    refine .of_gradient (kind := kind) (g := g) (x := x)
      (fun d ⟨hr, hhead, hidle, hh, hkind, hclean, hread, htable, hopt, hcols, hstage, hvalid, _⟩ =>
        ⟨hr, ⟨hhead, hidle, hh, hclean⟩, hkind, hread, htable, hopt, hcols, hstage, hvalid⟩)
      fun d ⟨_, _, _, _, _, _, _, _, _, _, _, _, hfull, hwf, hrise⟩ => ?_
    rw [Device.gradientTaken, Device.gatherPopped_embT, if_pos hfull]
    exact Device.gatherFail_post hwf hrise 3 rfl
  case lookupEnds =>
    refine .of_gatherJobEnd (t := t) (hits := hits) (areaHits := areaHits) (bad := bad) (valid := valid)
      (fun d ⟨hr, hwork, _, hwords, _⟩ => ⟨hr, hwork, hwords⟩) fun d ⟨_, ⟨_, _, _, _, hheld, hrise, hmem, hwf⟩, hmode, _, ht, hpush⟩ => ?_
    rw [Device.gatherEnded, if_neg (by rw [hmode]; decide)]
    obtain ⟨hone, hemb, hcounted⟩ := Device.lookupOutput_post hheld hpush hrise hmem hwf (gatherCounts_apart ht) rfl
    exact ⟨hone, by rw [Device.embT_congr hemb, Device.lookupsStaged, Device.embT_setEmb_self], hcounted (by simp),
      hcounted (by simp [gatherCounts]), hcounted (by simp [gatherCounts]), hcounted (by simp [gatherCounts])⟩
  case gradientEnds =>
    refine .of_gatherJobEnd (t := t) (hits := 0) (areaHits := 0) (bad := bad) (valid := [])
      (fun d ⟨hr, hwork, _, hwords, _⟩ => ⟨hr, hwork, hwords⟩) fun d ⟨_, ⟨_, _, _, _, _, hrise, _, hwf⟩, hmode, _, ht⟩ => ?_
    rw [Device.gatherEnded, if_pos hmode]
    obtain ⟨fl, hframe⟩ := d.gatherFinish_frame (l := gatherCounts die t 0 0 0 bad) (die := die.val) (k := k.val) (j := j)
    have hcounted {off n : Nat} := Device.countAll_counted (off := off) (n := n) hwf
      (gatherCounts_apart (die := die) (k := k) (rows := 0) (hits := 0) (areaHits := 0) (bad := bad) ht)
    rw [List.length_nil, hframe]
    exact ⟨Device.job_dropJob hrise, rfl, rfl, hcounted (by simp), hcounted (by simp [gatherCounts])⟩

end Sys2Proof.Machine
end

section
/-!
SUPPORT. The apply of a table (R385 to R388, R391, R397): the order in which the contributions are taken, the record of a row, and what the start
and the end of an apply come to.
-/

namespace Sys2Proof.Machine

variable {d d' : Device} {die t key row n : Nat} {x : TableRec} {a : EmbApply} {l m es : List Contribution} {c : OptConsts}

/-! ### The event of a table -/

/-- The event of a table that is defined, on a die that is not contained. -/
theorem Completes.of_onTable {i : Instr} {pre : Device → Prop} {post : Device → Device → Prop} {f : TableRec → EmbTable → Device → Device}
    {g : Device → Device} (hi : ∀ s, exec i s = s.upd (fun d => d.onTable die t f))
    (hpre : ∀ d, pre d → d.runs ∧ d.tableOf die t = some x ∧ d.dieContained die = false)
    (hg : ∀ d, pre d → f x (d.embT (embKey die t)) d = g d) (hp : ∀ d, pre d → post d (g d)) : Completes i pre post := by
  refine .of_upd_eq hi (fun d h => (hpre d h).1) (fun d h => ?_) hp
  obtain ⟨-, htable, hdie⟩ := hpre d h
  rw [Device.onTable, htable]
  exact (if_neg (by rw [hdie]; exact Bool.false_ne_true)).trans (hg d h)

/-! ### Sorting by insertion -/

section

variable {β : Type} {lt : β → β → Bool} {xs ys : List β}

/-- Two members of a list whose members are related in turn are the same or related one way or the other. -/
theorem eq_or_related_of_pairwise {R : β → β → Prop} (h : xs.Pairwise R) {p q : β} (hp : p ∈ xs) (hq : q ∈ xs) : p = q ∨ R p q ∨ R q p :=
  List.Pairwise.forall_of_forall_of_flip (R := fun p q => p = q ∨ R p q ∨ R q p) (fun _ _ => .inl rfl) (h.imp fun h => .inr (.inl h))
    (h.imp fun h => .inr (.inr h)) hp hq

theorem perm_insertLt (y : β) (xs : List β) : (insertLt lt y xs).Perm (y :: xs) := by
  induction xs with
  | nil => exact .refl _
  | cons z xs ih =>
    unfold insertLt
    split
    · exact .refl _
    · exact (ih.cons z).trans (.swap y z xs)

/-- An insertion keeps a list in which nothing comes before what precedes it. -/
theorem pairwise_insertLt (htrans : ∀ p q r, lt p q = true → lt q r = true → lt p r = true) (hasymm : ∀ p q, lt p q = true → lt q p = false) (y : β)
    (h : xs.Pairwise (fun p q => lt q p = false)) : (insertLt lt y xs).Pairwise (fun p q => lt q p = false) := by
  induction xs with
  | nil => exact List.pairwise_singleton ..
  | cons z xs ih =>
    obtain ⟨hz, hxs⟩ := List.pairwise_cons.1 h
    unfold insertLt
    split
    next hyz =>
      refine List.pairwise_cons.2 ⟨fun q hq => ?_, h⟩
      rcases List.mem_cons.1 hq with rfl | hq
      · exact hasymm y q hyz
      · refine Bool.eq_false_iff.2 fun hqy => ?_
        have := hz q hq
        rw [htrans q y z hqy hyz] at this
        cases this
    next hyz =>
      refine List.pairwise_cons.2 ⟨fun q hq => ?_, ih hxs⟩
      rcases List.mem_cons.1 ((perm_insertLt y xs).mem_iff.1 hq) with rfl | hq
      · exact Bool.eq_false_iff.2 hyz
      · exact hz q hq

/-- The sort answers a list whose elements rise strictly, from whatever order they came in. -/
theorem sortLt_eq_of_perm (htrans : ∀ p q r, lt p q = true → lt q r = true → lt p r = true) (hasymm : ∀ p q, lt p q = true → lt q p = false)
    (hperm : xs.Perm ys) (hrise : xs.Pairwise (fun p q => lt p q = true)) : sortLt lt ys = xs := by
  have hsorted : (sortLt lt ys).Perm ys ∧ (sortLt lt ys).Pairwise (fun p q => lt q p = false) := by
    have hfold (acc : List β) (hacc : acc.Pairwise (fun p q => lt q p = false)) :
        (ys.foldl (fun acc y => insertLt lt y acc) acc).Perm (ys ++ acc) ∧
        (ys.foldl (fun acc y => insertLt lt y acc) acc).Pairwise (fun p q => lt q p = false) := by
      clear hperm
      induction ys generalizing acc with
      | nil => exact ⟨.refl _, hacc⟩
      | cons y ys ih =>
        obtain ⟨hp, hs⟩ := ih (insertLt lt y acc) (pairwise_insertLt htrans hasymm y hacc)
        exact ⟨hp.trans (((perm_insertLt y acc).append_left ys).trans List.perm_middle), hs⟩
    have := hfold [] .nil
    rwa [List.append_nil] at this
  refine (hsorted.1.trans hperm.symm).eq_of_pairwise (fun p q hp hq hqp hpq => ?_) hsorted.2 (hrise.imp fun h => hasymm _ _ h)
  have hlinear := eq_or_related_of_pairwise hrise ((hsorted.1.trans hperm.symm).mem_iff.1 hp) hq
  simpa [hpq, hqp] using hlinear

end

/-! ### The rows of an apply (R386) -/

theorem Contribution.before_iff (p q : Contribution) : p.before q = true ↔
    p.row < q.row ∨ p.row = q.row ∧ (p.sample < q.sample ∨ p.sample = q.sample ∧ p.pos < q.pos) := by
  simp [Contribution.before]

theorem Contribution.before_trans (p q r : Contribution) (hpq : p.before q = true) (hqr : q.before r = true) : p.before r = true := by
  rw [Contribution.before_iff] at *
  omega

theorem Contribution.before_asymm (p q : Contribution) (h : p.before q = true) : q.before p = false := by
  rw [Contribution.before_iff] at h
  rw [Bool.eq_false_iff, ne_eq, Contribution.before_iff]
  omega

/-- The contributions of `groupRows` with one more before them. -/
def groupStep (c : Contribution) (acc : List (Nat × List Contribution)) : List (Nat × List Contribution) :=
  match acc with
  | (r, l) :: rest => if r = c.row then (r, c :: l) :: rest else (c.row, [c]) :: acc
  | [] => [(c.row, [c])]

theorem groupRows_eq (es : List Contribution) : groupRows es = (sortLt Contribution.before es).foldr groupStep [] := rfl

/-- Contributions of one row before those of other rows are a group of their own. -/
theorem foldr_groupStep {acc : List (Nat × List Contribution)} (hacc : ∀ g ∈ acc.head?, g.1 ≠ row) (hne : l ≠ []) (hrow : ∀ c ∈ l, c.row = row) :
    l.foldr groupStep acc = (row, l) :: acc := by
  induction l with
  | nil => exact absurd rfl hne
  | cons c l ih =>
    obtain ⟨hc, hl⟩ := List.forall_mem_cons.1 hrow
    rw [List.foldr_cons]
    cases l with
    | nil =>
      cases acc with
      | nil => simp [groupStep, hc]
      | cons g acc =>
        have : g.1 ≠ row := hacc g rfl
        simp [groupStep, hc, this]
    | cons c' l => simp [ih (List.cons_ne_nil _ _) hl, groupStep, hc]

theorem groupRows_one (hperm : l.Perm es) (hrise : l.Pairwise (fun p q => p.before q = true)) (hne : l ≠ []) (hrow : ∀ c ∈ l, c.row = row) :
    groupRows es = [(row, l)] := by
  rw [groupRows_eq, sortLt_eq_of_perm Contribution.before_trans Contribution.before_asymm hperm hrise]
  exact foldr_groupStep (by simp) hne hrow

theorem groupRows_two {r1 r2 : Nat} (hperm : (l ++ m).Perm es) (hl : l.Pairwise (fun p q => p.before q = true))
    (hm : m.Pairwise (fun p q => p.before q = true)) (hlne : l ≠ []) (hmne : m ≠ []) (hlrow : ∀ c ∈ l, c.row = r1) (hmrow : ∀ c ∈ m, c.row = r2)
    (hlt : r1 < r2) : groupRows es = [(r1, l), (r2, m)] := by
  have hrise : (l ++ m).Pairwise (fun p q => p.before q = true) := List.pairwise_append.2 ⟨hl, hm, fun p hp q hq => by
    rw [Contribution.before_iff, hlrow p hp, hmrow q hq]
    exact .inl hlt⟩
  rw [groupRows_eq, sortLt_eq_of_perm Contribution.before_trans Contribution.before_asymm hperm hrise, List.foldr_append,
    foldr_groupStep (by simp) hmne hmrow]
  exact foldr_groupStep (by simp; omega) hlne hlrow

/-! ### The record of a row (R387, R388) -/

theorem rrec_le_length_optRow (old : List Byte) : x.rrec ≤ (optRow x c old l).length := by
  simp only [optRow, zeros, List.length_append, List.length_replicate]
  omega

/-- A counter that moves twice moves by the sum. -/
theorem Device.counted_trans {e : Device} {off p q : Nat} (h : d.counted d' off p) (h' : d'.counted e off q) : d.counted e off (p + q) := by
  rw [Device.counted, h', h]
  unfold satAdd
  omega

/-- The device address of the record of a row at its present place. -/
def Device.rowAddr (d : Device) (die : Nat) (x : TableRec) (key row : Nat) : Nat := d.placeAddr die x row ((d.embT key).placeOf x row)

/-- The counters that the update of a row moves. -/
def rowCounts (die t n : Nat) : List (Nat × Nat) := [(Reg.EMB_ROWS_UPDATED die t, 1), (Reg.EMB_CONTRIBS die t, n)]

theorem rowCounts_apart : ((rowCounts die t n).map Prod.fst).Nodup := by
  simp [rowCounts, Reg.EMB_ROWS_UPDATED, Reg.EMB_CONTRIBS]

/-- The row holds the record that the optimizer gives, and is counted with its contributions. -/
def Device.rowUpdated (d : Device) (die : Nat) (x : TableRec) (c : OptConsts) (key row : Nat) (l : List Contribution) : Device :=
  (d.write (d.rowAddr die x key row) (optRow x c (d.read (d.rowAddr die x key row) x.rrec) l)).countAll (rowCounts die x.id l.length)

/-- A row that does not move and is not poisoned is updated. -/
theorem Device.applyRow_of_clean (hclean : d.poisoned (d.rowAddr die x key row) x.rrec = false) (hstays : (d.embT key).moving row = false) :
    d.applyRow die x c key row l = d.rowUpdated die x c key row l := by
  rw [Device.rowAddr] at hclean
  simp only [Device.applyRow, hclean, hstays, Bool.false_eq_true, if_false]
  rfl

/-- A row that moves enters the forwarding log besides. -/
theorem Device.applyRow_of_moving (hclean : d.poisoned (d.rowAddr die x key row) x.rrec = false) (hmoves : (d.embT key).moving row = true) :
    d.applyRow die x c key row l = (d.rowUpdated die x c key row l).setEmb key
      { d.embT key with round := (d.embT key).round.map (fun r => { r with fwd := addNew r.fwd row }) } := by
  rw [Device.rowAddr] at hclean
  simp only [Device.applyRow, hclean, hmoves, Bool.false_eq_true, if_false, if_true]
  rfl

theorem Device.rowUpdated_frame : d.rowUpdated die x c key row l = { d with
    mem := (d.rowUpdated die x c key row l).mem, poison := (d.rowUpdated die x c key row l).poison, regs := (d.rowUpdated die x c key row l).regs } := by
  rw [Device.rowUpdated, Device.countAll_frame]
  rfl

theorem Device.rowUpdated_mem : (d.rowUpdated die x c key row l).mem =
    (d.write (d.rowAddr die x key row) (optRow x c (d.read (d.rowAddr die x key row) x.rrec) l)).mem := by
  rw [Device.rowUpdated, Device.countAll_frame]

/-- A record written poisons nothing. -/
theorem Device.rowUpdated_poisoned {p : Nat} (h : d.poisoned p n = false) : (d.rowUpdated die x c key row l).poisoned p n = false := by
  rw [Device.poisoned, List.any_eq_false] at h ⊢
  rw [Device.rowUpdated, Device.countAll_frame]
  exact fun g hg hin => h g hg (by simpa using (List.mem_filter.1 (of_decide_eq_true hin)).1)

theorem Device.rowUpdated_regsWf (hwf : d.regsWf) : (d.rowUpdated die x c key row l).regsWf :=
  Device.bumpBy_regsWf _ _ _ (Device.bumpBy_regsWf (d := d.write _ _) _ _ _ hwf)

/-- The record of the row is the optimizer's, and no other byte of memory has changed. -/
theorem Device.rowUpdated_stored (hmem : Memory.wf d.mem = true) : d.stored (d.rowUpdated die x c key row l) (d.rowAddr die x key row)
    (optRow x c (d.read (d.rowAddr die x key row) x.rrec) l) := by
  have h := Device.write_stored hmem (d.rowAddr die x key row) (optRow x c (d.read (d.rowAddr die x key row) x.rrec) l)
  rwa [Device.stored, ← Device.rowUpdated_mem] at h

theorem Device.rowUpdated_counted (hwf : d.regsWf) : d.counted (d.rowUpdated die x c key row l) (Reg.EMB_CONTRIBS die x.id) l.length ∧
    d.counted (d.rowUpdated die x c key row l) (Reg.EMB_ROWS_UPDATED die x.id) 1 :=
  ⟨Device.countAll_counted (d := d.write _ _) hwf rowCounts_apart (by simp [rowCounts]),
    Device.countAll_counted (d := d.write _ _) hwf rowCounts_apart (by simp [rowCounts])⟩

/-! ### The start of an apply (R385, R387) -/

/-- The contributions appended so far are taken, T has moved, and ADAM's powers with it. -/
def Device.applyBegun (d : Device) (die t : Nat) (x : TableRec) : Device :=
  let y := d.embT (embKey die t)
  let p1 := if x.opt = 3 then fmul y.p1 x.beta1 else y.p1
  let p2 := if x.opt = 3 then fmul y.p2 x.beta2 else y.p2
  ((d.reachPhase x.applyPu).count (Reg.EMB_STEP die t) 64 1).setEmb (embKey die t) { y with
    p1 := p1, p2 := p2, log := [], appliedStep := some d.stepNum
    apply := some { entries := y.log, last := false, lr := d.fld (Reg.EMB_LR die t) Fd.EMB_LR_LR, p1 := p1, p2 := p2 } }

/-- APPLY_START of a table that stays, has no apply and no round, and has not been applied in this step. -/
theorem Completes.of_applyStart {die : Fin 4} {t : Fin 64} {pre : Device → Prop} {post : Device → Device → Prop}
    (hpre : ∀ d, pre d → d.runs ∧ d.tableOf die.val t.val = some x ∧ d.dieContained die.val = false ∧ d.mgmt.gated = false ∧ x.opt ≠ 0 ∧
      (d.embT (embKey die.val t.val)).apply = none ∧ (d.embT (embKey die.val t.val)).round = none ∧
      (d.embT (embKey die.val t.val)).retiring = 0 ∧ (d.embT (embKey die.val t.val)).appliedStep ≠ some d.stepNum)
    (hp : ∀ d, pre d → post d (d.applyBegun die.val t.val x)) : Completes (.applyStart die t) pre post := by
  refine .of_onTable (x := x) (fun s => show execApplyStart die t s = s.upd _ from rfl) (fun d h => ?_) (fun d h => ?_) hp
  · obtain ⟨hr, htable, hdie, -⟩ := hpre d h
    exact ⟨hr, htable, hdie⟩
  · obtain ⟨-, -, -, hgo, hopt, hfree, hround, hstays, hstep⟩ := hpre d h
    simp only [Device.applyBegun, hgo, hopt, hfree, hround, hstays, hstep, Option.isSome_none, decide_false, Bool.false_and, Bool.or_false,
      Bool.not_false, Bool.true_and, Nat.zero_ne_one, bne_self_eq_false, Bool.false_eq_true, if_false]
    rfl

/-! ### The end of an apply (R386 to R388, R397) -/

/-- The rows of an apply updated in turn. -/
def Device.rowsApplied (d : Device) (die : Nat) (x : TableRec) (a : EmbApply) (key : Nat) : Device :=
  (groupRows a.entries).foldl (fun d g => d.applyRow die x (optConsts x a) key g.1 g.2) d

/-- The apply of a table is over. -/
def Device.applyOver (d : Device) (key : Nat) : Device := d.setEmb key { d.embT key with apply := none }

@[simp] theorem Device.applyOver_mem : (d.applyOver key).mem = d.mem := rfl
@[simp] theorem Device.applyOver_regs : (d.applyOver key).regs = d.regs := rfl

/-- A counter reads what it did when the apply is over. -/
theorem Device.counted_applyOver {off : Nat} (h : d.counted d' off n) : d.counted (d'.applyOver key) off n :=
  Device.counted_of_reg h (Device.reg_congr Device.applyOver_regs)

theorem Device.stored_applyOver {p : Nat} {w : List Byte} (h : d.stored d' p w) : d.stored (d'.applyOver key) p w := by
  rwa [Device.stored, Device.applyOver_mem]

theorem Device.embT_applyOver : (d.applyOver key).embT key = { d.embT key with apply := none } := Device.embT_setEmb_self ..

/-- APPLY_END of an apply that is not the last of its table. -/
theorem Completes.of_applyEnd {die : Fin 4} {t : Fin 64} {pre : Device → Prop} {post : Device → Device → Prop}
    (hpre : ∀ d, pre d → d.runs ∧ d.tableOf die.val t.val = some x ∧ d.dieContained die.val = false ∧ d.mgmt.gated = false ∧
      (d.embT (embKey die.val t.val)).apply = some a ∧ a.last = false ∧ d.applyWaits die.val x = false)
    (hp : ∀ d, pre d → post d ((d.rowsApplied die.val x a (embKey die.val t.val)).applyOver (embKey die.val t.val))) :
    Completes (.applyEnd die t) pre post := by
  refine .of_onTable (x := x) (fun s => show execApplyEnd die t s = s.upd _ from rfl) (fun d h => ?_) (fun d h => ?_) hp
  · obtain ⟨hr, htable, hdie, -⟩ := hpre d h
    exact ⟨hr, htable, hdie⟩
  · obtain ⟨-, -, -, hgo, happly, hlast, hfree⟩ := hpre d h
    simp only [happly, hgo, hlast, hfree, Bool.or_self, Bool.false_and, Bool.false_eq_true, if_false]
    rfl

/-- APPLY_END while an instance that serves the apply has a job in hand. -/
theorem Completes.of_applyWaits {die : Fin 4} {t : Fin 64} {pre : Device → Prop} {post : Device → Device → Prop}
    (hpre : ∀ d, pre d → d.runs ∧ d.tableOf die.val t.val = some x ∧ d.dieContained die.val = false ∧
      (d.embT (embKey die.val t.val)).apply = some a ∧ d.applyWaits die.val x = true)
    (hp : ∀ d, pre d → post d d) : Completes (.applyEnd die t) pre post := by
  refine .of_onTable (x := x) (g := id) (fun s => show execApplyEnd die t s = s.upd _ from rfl) (fun d h => ?_) (fun d h => ?_) hp
  · obtain ⟨hr, htable, hdie, -⟩ := hpre d h
    exact ⟨hr, htable, hdie⟩
  · obtain ⟨-, -, -, happly, hwaits⟩ := hpre d h
    simp only [happly, hwaits, Bool.or_true, if_true]
    rfl

/-- A flush with no row away from home that no host has asked for does nothing. -/
theorem Device.beginFlush_of_home (hhome : (d.embT key).flushMoves = []) (hflush : (d.embT key).flush = false) : d.beginFlush die key = d := by
  simp only [Device.beginFlush, hhome, hflush, List.isEmpty_nil, Bool.false_eq_true, if_false, if_true]

/-- APPLY_END of the last apply of a table that retires, with nothing to apply and no row away from home: the table is done (R394). -/
theorem Completes.of_lastApplyEnd {die : Fin 4} {t : Fin 64} {pre : Device → Prop} {post : Device → Device → Prop}
    (hpre : ∀ d, pre d → d.runs ∧ d.tableOf die.val t.val = some x ∧ d.dieContained die.val = false ∧ d.mgmt.gated = false ∧
      (d.embT (embKey die.val t.val)).apply = some a ∧ a.last = true ∧ d.applyWaits die.val x = false ∧ a.entries = [] ∧
      (d.embT (embKey die.val t.val)).round = none ∧ (d.embT (embKey die.val t.val)).flush = false ∧
      (d.embT (embKey die.val t.val)).flushMoves = [])
    (hp : ∀ d, pre d → post d (d.setEmb (embKey die.val t.val) { d.embT (embKey die.val t.val) with apply := none, retiring := 2 })) :
    Completes (.applyEnd die t) pre post := by
  refine .of_onTable (x := x) (fun s => show execApplyEnd die t s = s.upd _ from rfl) (fun d h => ?_) (fun d h => ?_) hp
  · obtain ⟨hr, htable, hdie, -⟩ := hpre d h
    exact ⟨hr, htable, hdie⟩
  · obtain ⟨-, -, -, hgo, happly, hlast, hfree, hnone, hround, hflush, hhome⟩ := hpre d h
    have hrows : groupRows [] = [] := rfl
    have hnew : (d.embT (embKey die.val t.val)).round.isNone = true := by rw [hround]; rfl
    simp only [happly, hgo, hlast, hfree, hnone, hrows, hnew, List.foldl_nil, Bool.or_self, Bool.and_self, Bool.false_eq_true, if_false, if_true]
    exact Device.beginFlush_of_home (by rw [Device.embT_setEmb_self]; exact hhome) (by rw [Device.embT_setEmb_self]; exact hflush)

/-- What the end of an apply of one row has changed. -/
theorem Device.applied_one (hperm : l.Perm a.entries) (hrise : l.Pairwise (fun p q => p.before q = true)) (hne : l ≠ [])
    (hrow : ∀ c ∈ l, c.row = row) (hstays : (d.embT key).moving row = false) (hclean : d.poisoned (d.rowAddr die x key row) x.rrec = false)
    (hmem : Memory.wf d.mem = true) (hwf : d.regsWf) (he : d' = (d.rowsApplied die x a key).applyOver key) :
    d.stored d' (d.rowAddr die x key row) (optRow x (optConsts x a) (d.read (d.rowAddr die x key row) x.rrec) l) ∧
    (d'.embT key).apply = none ∧ d.counted d' (Reg.EMB_CONTRIBS die x.id) l.length ∧ d.counted d' (Reg.EMB_ROWS_UPDATED die x.id) 1 := by
  rw [Device.rowsApplied, groupRows_one hperm hrise hne hrow, List.foldl_cons, List.foldl_nil, Device.applyRow_of_clean hclean hstays] at he
  obtain ⟨hcontribs, hrows⟩ := Device.rowUpdated_counted (die := die) (x := x) (c := optConsts x a) (key := key) (row := row) (l := l) hwf
  subst he
  exact ⟨Device.stored_applyOver (Device.rowUpdated_stored hmem), by rw [Device.embT_applyOver], Device.counted_applyOver hcontribs,
    Device.counted_applyOver hrows⟩

/-- What the end of an apply of one contribution to a row that moves has changed. -/
theorem Device.applied_moving {y : Contribution} {r : EmbRound} (hentry : a.entries = [y]) (hround : (d.embT key).round = some r)
    (hmoves : ∃ m ∈ r.moves, m.row = y.row) (hnew : y.row ∉ r.fwd) (hclean : d.poisoned (d.rowAddr die x key y.row) x.rrec = false)
    (hmem : Memory.wf d.mem = true) (he : d' = (d.rowsApplied die x a key).applyOver key) :
    d.stored d' (d.rowAddr die x key y.row) (optRow x (optConsts x a) (d.read (d.rowAddr die x key y.row) x.rrec) [y]) ∧
    (d'.embT key).apply = none ∧ (d'.embT key).round = some { r with fwd := r.fwd ++ [y.row] } := by
  have hmoving : (d.embT key).moving y.row = true := by simpa [EmbTable.moving, hround] using hmoves
  have hgroup : groupRows [y] = [(y.row, [y])] := rfl
  rw [Device.rowsApplied, hentry, hgroup, List.foldl_cons, List.foldl_nil, Device.applyRow_of_moving hclean hmoving, hround] at he
  subst he
  refine ⟨Device.stored_applyOver ?_, by rw [Device.embT_applyOver], ?_⟩
  · rw [Device.stored, Device.setEmb_mem]
    exact Device.rowUpdated_stored hmem
  · rw [Device.embT_applyOver, Device.embT_setEmb_self]
    simp [addNew, hnew]

/-- Bytes read as before where nothing was written. -/
theorem Device.read_of_stored {p q k : Nat} {w : List Byte} (h : d.stored d' p w) (hapart : q + k ≤ p ∨ p + w.length ≤ q) : d'.read q k = d.read q k := by
  simp only [Device.read, memReadN_eq_map]
  refine List.map_congr_left fun i hi => h.2 _ ?_
  have := List.mem_range.1 hi
  omega

/-- Bytes written are read back. -/
theorem Device.read_of_stored_self {p : Nat} {w : List Byte} (h : d.stored d' p w) : d'.read p w.length = w := by
  refine List.ext_getElem (Device.length_read _ _) fun i _ hi => ?_
  have := h.1 i hi
  simp only [Device.read, memReadN_eq_map, List.getElem_map, List.getElem_range, this, List.getD_eq_getElem _ _ hi]

/-- What the end of an apply of two rows apart from one another has changed. -/
theorem Device.applied_two {r1 r2 p1 p2 : Nat} {w1 w2 : List Byte} (hgroup : groupRows a.entries = [(r1, l), (r2, m)])
    (hround : (d.embT key).round = none) (hp1 : p1 = d.rowAddr die x key r1) (hp2 : p2 = d.rowAddr die x key r2)
    (hclean1 : d.poisoned p1 x.rrec = false) (hclean2 : d.poisoned p2 x.rrec = false)
    (hw1 : w1 = optRow x (optConsts x a) (d.read p1 x.rrec) l) (hw2 : w2 = optRow x (optConsts x a) (d.read p2 x.rrec) m)
    (hapart : p1 + w1.length ≤ p2 ∨ p2 + w2.length ≤ p1) (hmem : Memory.wf d.mem = true) (hwf : d.regsWf)
    (he : d' = (d.rowsApplied die x a key).applyOver key) :
    d'.read p1 w1.length = w1 ∧ d'.read p2 w2.length = w2 ∧
    (∀ y, (y < p1 ∨ p1 + w1.length ≤ y) → (y < p2 ∨ p2 + w2.length ≤ y) → memRead d'.mem y = memRead d.mem y) ∧
    (d'.embT key).apply = none ∧ d.counted d' (Reg.EMB_CONTRIBS die x.id) (l.length + m.length) ∧
    d.counted d' (Reg.EMB_ROWS_UPDATED die x.id) 2 := by
  obtain ⟨z, hz⟩ : ∃ z, z = d.rowUpdated die x (optConsts x a) key r1 l := ⟨_, rfl⟩
  have hframe := Device.rowUpdated_frame (d := d) (die := die) (x := x) (c := optConsts x a) (key := key) (row := r1) (l := l)
  rw [← hz] at hframe
  have hemb : z.embT key = d.embT key := Device.embT_congr (by rw [hframe]) key
  have haddr : z.rowAddr die x key r2 = p2 := by
    rw [hp2, Device.rowAddr, hemb, hframe]
    rfl
  have hstays (r : Nat) : (d.embT key).moving r = false := by simp [EmbTable.moving, hround]
  have hfirst : d.stored z p1 w1 := by
    rw [hz, hw1, hp1]
    exact Device.rowUpdated_stored hmem
  have hlen : x.rrec ≤ w2.length := hw2 ▸ rrec_le_length_optRow _
  have hread : z.read p2 x.rrec = d.read p2 x.rrec := Device.read_of_stored hfirst (by omega)
  have hclean : z.poisoned p2 x.rrec = false := hz ▸ Device.rowUpdated_poisoned hclean2
  have hsecond := Device.rowUpdated_stored (d := z) (die := die) (x := x) (c := optConsts x a) (key := key) (row := r2) (l := m)
    (by rw [hz, Device.rowUpdated_mem]; exact Device.write_wf _ _ hmem)
  rw [haddr, hread, ← hw2] at hsecond
  obtain ⟨hcontribs1, hrows1⟩ := Device.rowUpdated_counted (die := die) (x := x) (c := optConsts x a) (key := key) (row := r1) (l := l) hwf
  obtain ⟨hcontribs2, hrows2⟩ := Device.rowUpdated_counted (d := z) (die := die) (x := x) (c := optConsts x a) (key := key) (row := r2) (l := m)
    (hz ▸ Device.rowUpdated_regsWf hwf)
  rw [← hz] at hcontribs1 hrows1
  rw [Device.rowsApplied, hgroup, List.foldl_cons, List.foldl_cons, List.foldl_nil, Device.applyRow_of_clean (hp1 ▸ hclean1) (hstays r1), ← hz,
    Device.applyRow_of_clean (by rwa [haddr]) (by rw [hemb]; exact hstays r2)] at he
  subst he
  have hsecond' := Device.stored_applyOver (key := key) hsecond
  exact ⟨(Device.read_of_stored hsecond' hapart).trans (Device.read_of_stored_self hfirst), Device.read_of_stored_self hsecond',
    fun y hy1 hy2 => (hsecond'.2 y hy2).trans (hfirst.2 y hy1), by rw [Device.embT_applyOver],
    Device.counted_applyOver (Device.counted_trans hcontribs1 hcontribs2), Device.counted_applyOver (Device.counted_trans hrows1 hrows2)⟩

end Sys2Proof.Machine
end

section
/-!
SUPPORT. Rounds of moves and flush commands (R390 to R393, R398): records copied from place to place, the cut-over, frames returned, and the
statement about the apply and the rounds of a table.
-/

namespace Sys2Proof.Machine

variable {d d' : Device} {die t key n s : Nat} {x : TableRec} {r : EmbRound} {m : List Host.Cell} {l : List Copy} {ms : List EmbMove} {st : EmbStore}

/-! ### Copies apart from one another -/

/-- Copies change only where they land. -/
theorem memRead_copyMem_of_apart (hwf : Memory.wf m = true) {y : Nat} (hy : ∀ f ∈ l, y < f.2.2 ∨ f.2.2 + f.2.1 ≤ y) :
    memRead (copyMem m l) y = memRead m y := by
  induction l generalizing m with
  | nil => rfl
  | cons f l ih =>
    obtain ⟨hf, hl⟩ := List.forall_mem_cons.1 hy
    refine (ih (memWriteN_wf _ _ hwf) hl).trans ?_
    rw [memRead_copy f hwf, if_neg (by omega)]

/-- A copy brings what its source held before all of them, when no copy lands on a source and two different ones land apart. -/
theorem memRead_copyMem_of_mem (hwf : Memory.wf m = true) (hsrc : ∀ f ∈ l, ∀ g ∈ l, f.1 + f.2.1 ≤ g.2.2 ∨ g.2.2 + g.2.1 ≤ f.1)
    (hdst : ∀ f ∈ l, ∀ g ∈ l, f = g ∨ f.2.2 + f.2.1 ≤ g.2.2 ∨ g.2.2 + g.2.1 ≤ f.2.2) {f : Copy} (hf : f ∈ l) {i : Nat} (hi : i < f.2.1) :
    memRead (copyMem m l) (f.2.2 + i) = memRead m (f.1 + i) := by
  induction l generalizing m with
  | nil => cases hf
  | cons g l ih =>
    have hwf' := memWriteN_wf (m := m) g.2.2 (memReadN m g.1 g.2.1) hwf
    show memRead (copyMem (memWriteN m g.2.2 (memReadN m g.1 g.2.1)) l) (f.2.2 + i) = _
    by_cases hin : f ∈ l
    · have hsource := hsrc f hf g (List.mem_cons_self ..)
      rw [ih hwf' (fun p hp q hq => hsrc p (List.mem_cons_of_mem _ hp) q (List.mem_cons_of_mem _ hq))
        (fun p hp q hq => hdst p (List.mem_cons_of_mem _ hp) q (List.mem_cons_of_mem _ hq)) hin, memRead_copy g hwf, if_neg (by omega)]
    · obtain rfl : f = g := (List.mem_cons.1 hf).resolve_right hin
      rw [memRead_copyMem_of_apart hwf' fun q hq => ?_, memRead_copy f hwf, if_pos (by omega), Nat.add_sub_cancel_left]
      have hne : f ≠ q := fun h => hin (h ▸ hq)
      have := (hdst f hf q (List.mem_cons_of_mem _ hq)).resolve_left hne
      omega

/-! ### The records of moves (R390, R392) -/

/-- The copies that some moves make. -/
def Device.moveCopies (d : Device) (die : Nat) (x : TableRec) (ms : List EmbMove) : List Copy :=
  ms.map (fun m => (d.placeAddr die x m.row m.src, x.rrec, d.placeAddr die x m.row m.dst))

theorem Device.copyRecord_frame (src dst n : Nat) : d.copyRecord src dst n = { d with
    mem := memWriteN d.mem dst (memReadN d.mem src n), poison := (d.copyRecord src dst n).poison } := by
  refine List.foldlRecOn (motive := fun (e : Device) => e = { d with mem := memWriteN d.mem dst (memReadN d.mem src n), poison := e.poison })
    (List.range (ceilDiv n 64)) _ rfl fun e he i _ => ?_
  rw [he]
  exact ite_eq_iff.2 (by by_cases h : d.poisoned (src + 64 * i) 64 = true <;> simp [h, Device.poisonRange])

theorem Device.copyMoves_frame : d.copyMoves die x ms = { d with
    mem := copyMem d.mem (d.moveCopies die x ms), poison := (d.copyMoves die x ms).poison } := by
  induction ms generalizing d with
  | nil => rfl
  | cons m ms ih =>
    have hframe := d.copyRecord_frame (d.placeAddr die x m.row m.src) (d.placeAddr die x m.row m.dst) x.rrec
    show (d.copyRecord _ _ _).copyMoves die x ms = { d with mem := _, poison := ((d.copyRecord _ _ _).copyMoves die x ms).poison }
    rw [hframe]
    exact ih (d := { d with mem := _, poison := _ })

/-- No move lands on the old place of one of them, and two different ones land apart. -/
def Device.movesApart (d : Device) (die : Nat) (x : TableRec) (ms : List EmbMove) : Prop :=
  (∀ m ∈ ms, ∀ n ∈ ms, d.placeAddr die x m.row m.src + x.rrec ≤ d.placeAddr die x n.row n.dst ∨
    d.placeAddr die x n.row n.dst + x.rrec ≤ d.placeAddr die x m.row m.src) ∧
  ∀ m ∈ ms, ∀ n ∈ ms, m = n ∨ d.placeAddr die x m.row m.dst + x.rrec ≤ d.placeAddr die x n.row n.dst ∨
    d.placeAddr die x n.row n.dst + x.rrec ≤ d.placeAddr die x m.row m.dst

theorem Device.movesApart_of_pairwise (hsrc : ∀ m ∈ ms, ∀ n ∈ ms, d.placeAddr die x m.row m.src + x.rrec ≤ d.placeAddr die x n.row n.dst ∨
      d.placeAddr die x n.row n.dst + x.rrec ≤ d.placeAddr die x m.row m.src)
    (hdst : ms.Pairwise (fun m n => d.placeAddr die x m.row m.dst + x.rrec ≤ d.placeAddr die x n.row n.dst ∨
      d.placeAddr die x n.row n.dst + x.rrec ≤ d.placeAddr die x m.row m.dst)) : d.movesApart die x ms :=
  ⟨hsrc, fun _ hm _ hn => (eq_or_related_of_pairwise hdst hm hn).imp_right fun h => h.elim id Or.symm⟩

theorem Device.movesApart_of_subset {ms' : List EmbMove} (h : d.movesApart die x ms) (hsub : ms' ⊆ ms) : d.movesApart die x ms' :=
  ⟨fun m hm n hn => h.1 m (hsub hm) n (hsub hn), fun m hm n hn => h.2 m (hsub hm) n (hsub hn)⟩

/-- Moves apart from one another: each new place holds what the old one held, and memory elsewhere is as before. -/
theorem Device.copyMoves_post (hapart : d.movesApart die x ms) (hmem : Memory.wf d.mem = true) :
    (∀ m ∈ ms, (d.copyMoves die x ms).read (d.placeAddr die x m.row m.dst) x.rrec = d.read (d.placeAddr die x m.row m.src) x.rrec) ∧
    ∀ y, (∀ m ∈ ms, y < d.placeAddr die x m.row m.dst ∨ d.placeAddr die x m.row m.dst + x.rrec ≤ y) →
      memRead (d.copyMoves die x ms).mem y = memRead d.mem y := by
  rw [Device.copyMoves_frame]
  refine ⟨fun m hm => ?_, fun y hy => memRead_copyMem_of_apart hmem (List.forall_mem_map.2 hy)⟩
  simp only [Device.read, memReadN_eq_map]
  refine List.map_congr_left fun i hi => memRead_copyMem_of_mem hmem ?_ ?_ (List.mem_map_of_mem hm) (List.mem_range.1 hi)
  · exact List.forall_mem_map.2 fun m hm => List.forall_mem_map.2 fun n hn => hapart.1 m hm n hn
  · exact List.forall_mem_map.2 fun m hm => List.forall_mem_map.2 fun n hn => (hapart.2 m hm n hn).imp_left fun h => by rw [h]

/-- MIGRATION_COPY_END of a round whose copy has not ended. -/
theorem Completes.of_migrationCopyEnd {die : Fin 4} {t : Fin 64} {pre : Device → Prop} {post : Device → Device → Prop}
    (hpre : ∀ d, pre d → d.runs ∧ d.tableOf die.val t.val = some x ∧ d.dieContained die.val = false ∧
      (d.embT (embKey die.val t.val)).round = some r ∧ r.copied = false ∧ d.stationStopped die.val 7 x.traverse = false)
    (hp : ∀ d, pre d → post d ((d.copyMoves die.val x r.moves).setEmb (embKey die.val t.val)
      { d.embT (embKey die.val t.val) with round := some { r with copied := true } })) : Completes (.migrationCopyEnd die t) pre post := by
  refine .of_onTable (x := x) (fun s => show execMigrationCopyEnd die t s = s.upd _ from rfl) (fun d h => ?_) (fun d h => ?_) hp
  · obtain ⟨hr, htable, hdie, -⟩ := hpre d h
    exact ⟨hr, htable, hdie⟩
  · obtain ⟨-, -, -, hround, hnew, hgo⟩ := hpre d h
    simp only [hround, hnew, hgo, Bool.or_self, Bool.false_eq_true, if_false]

/-- The moves of the rows in the forwarding log. -/
def EmbRound.forwarded (r : EmbRound) : List EmbMove := r.fwd.flatMap (fun row => r.moves.filter (·.row = row))

theorem EmbRound.mem_forwarded (m : EmbMove) : m ∈ r.forwarded ↔ m ∈ r.moves ∧ m.row ∈ r.fwd := by
  simp [EmbRound.forwarded, and_comm]

/-- ROUND_REPLAY of a round that is due and has not been replayed. -/
theorem Completes.of_roundReplay {die : Fin 4} {t : Fin 64} {pre : Device → Prop} {post : Device → Device → Prop}
    (hpre : ∀ d, pre d → d.runs ∧ d.tableOf die.val t.val = some x ∧ d.dieContained die.val = false ∧
      (d.embT (embKey die.val t.val)).round = some r ∧ r.replayed = false ∧ d.roundDue (d.embT (embKey die.val t.val)) r = true ∧
      d.stationStopped die.val 7 x.traverse = false)
    (hp : ∀ d, pre d → post d ((d.copyMoves die.val x r.forwarded).setEmb (embKey die.val t.val)
      { d.embT (embKey die.val t.val) with round := some { r with replayed := true } })) : Completes (.roundReplay die t) pre post := by
  refine .of_onTable (x := x) (fun s => show execRoundReplay die t s = s.upd _ from rfl) (fun d h => ?_) (fun d h => ?_) hp
  · obtain ⟨hr, htable, hdie, -⟩ := hpre d h
    exact ⟨hr, htable, hdie⟩
  · obtain ⟨-, -, -, hround, hnew, hdue, hgo⟩ := hpre d h
    simp only [hround, hnew, hdue, hgo, Bool.not_true, Bool.or_self, Bool.false_eq_true, if_false]
    rfl

/-! ### The cut-over (R392) -/

/-- A store that no move leaves or enters stays as it is. -/
theorem EmbStore.cutOver_of_apart (h : ∀ m ∈ ms, m.src.store ≠ s ∧ m.dst.store ≠ s) : st.cutOver s ms = st := by
  have hout : ms.filter (fun m => m.src.store = s) = [] := List.filter_eq_nil_iff.2 fun m hm => by simp [(h m hm).1]
  have hin : ms.filter (fun m => m.dst.store = s) = [] := List.filter_eq_nil_iff.2 fun m hm => by simp [(h m hm).2]
  simp [EmbStore.cutOver, hout, hin]

/-- A row comes into a way of a store. -/
theorem EmbStore.cutOver_enter {m : EmbMove} (hsrc : m.src.store ≠ s) (hdst : m.dst.store = s) :
    st.cutOver s [m] = { st with ways := st.ways.put m.dst.way (m.row, m.dst.frame) } := by
  simp [EmbStore.cutOver, hsrc, hdst]

/-- A row comes into the way that another one leaves, whose frame is vacated. -/
theorem EmbStore.cutOver_exchange {m n : EmbMove} (hmsrc : m.src.store ≠ s) (hmdst : m.dst.store = s) (hnsrc : n.src.store = s)
    (hndst : n.dst.store ≠ s) : st.cutOver s [m, n] = { st with
      ways := (st.ways.del n.src.way).put m.dst.way (m.row, m.dst.frame), vacated := st.vacated ++ [n.src.frame] } := by
  simp [EmbStore.cutOver, hmsrc, hmdst, hnsrc, hndst]

/-- The counters of a cut-over. -/
def cutCounts (die t : Nat) (r : EmbRound) : List (Nat × Nat) :=
  [(Reg.EMB_MIGRATED die t, r.moves.length), (Reg.EMB_FORWARDED die t, r.fwd.length)]

theorem cutCounts_apart : ((cutCounts die t r).map Prod.fst).Nodup := by
  simp [cutCounts, Reg.EMB_MIGRATED, Reg.EMB_FORWARDED]

/-- The tags of a round have changed, MOVING is clear, and its moves and its forwarded rows are counted. -/
def Device.roundCut (d : Device) (die t : Nat) (r : EmbRound) : Device :=
  let y := d.embT (embKey die t)
  (d.setEmb (embKey die t) { y with round := none, cache := y.cache.cutOver 1 r.moves, area := y.area.cutOver 2 r.moves }).countAll (cutCounts die t r)

/-- CUT_OVER of a round that has been replayed and is no flush, of a table that stays. -/
theorem Completes.of_cutOver {die : Fin 4} {t : Fin 64} {pre : Device → Prop} {post : Device → Device → Prop}
    (hpre : ∀ d, pre d → d.runs ∧ d.tableOf die.val t.val = some x ∧ d.dieContained die.val = false ∧
      (d.embT (embKey die.val t.val)).round = some r ∧ r.replayed = true ∧ r.flush = false ∧ (d.embT (embKey die.val t.val)).retiring = 0)
    (hp : ∀ d, pre d → post d (d.roundCut die.val t.val r)) : Completes (.cutOver die t) pre post := by
  refine .of_onTable (x := x) (fun s => show execCutOver die t s = s.upd _ from rfl) (fun d h => ?_) (fun d h => ?_) hp
  · obtain ⟨hr, htable, hdie, -⟩ := hpre d h
    exact ⟨hr, htable, hdie⟩
  · obtain ⟨-, -, -, hround, hreplayed, hplain, hstays⟩ := hpre d h
    simp only [Device.roundCut, hround, hreplayed, hplain, hstays, Bool.not_true, Bool.false_and, Bool.false_eq_true, OfNat.zero_ne_ofNat, if_false]
    rfl

theorem Device.roundCut_post (hwf : d.regsWf) (he : d' = d.roundCut die t r) :
    d'.embT (embKey die t) = { d.embT (embKey die t) with
      round := none, cache := (d.embT (embKey die t)).cache.cutOver 1 r.moves, area := (d.embT (embKey die t)).area.cutOver 2 r.moves } ∧
    d.counted d' (Reg.EMB_MIGRATED die t) r.moves.length ∧ d.counted d' (Reg.EMB_FORWARDED die t) r.fwd.length ∧ d'.mem = d.mem := by
  have hcounted {off n : Nat} (h : (off, n) ∈ cutCounts die t r) : d.counted (d.roundCut die t r) off n :=
    Device.countAll_counted (d := d.setEmb _ _) hwf cutCounts_apart h
  subst he
  refine ⟨?_, hcounted (by simp [cutCounts]), hcounted (by simp [cutCounts]), ?_⟩
  · rw [Device.roundCut, Device.countAll_frame]
    exact Device.embT_setEmb_self ..
  · rw [Device.roundCut, Device.countAll_frame]
    rfl

/-! ### Frames returned (R392) -/

@[simp] theorem EmbTable.store_setStore_self (y : EmbTable) (s : Nat) (st : EmbStore) : (y.setStore s st).store s = st := by
  unfold EmbTable.setStore EmbTable.store
  split <;> rfl

/-- A frame of a store that was vacated is spare again. -/
def EmbTable.returned (y : EmbTable) (s frame : Nat) : EmbTable :=
  y.setStore s { y.store s with vacated := (y.store s).vacated.filter (· != frame) }

/-- FRAME_RETURN of a table that is defined. -/
theorem Completes.of_frameReturn {die : Fin 4} {t : Fin 64} {area : Bool} {frame : Nat} {pre : Device → Prop} {post : Device → Device → Prop}
    (hpre : ∀ d, pre d → d.runs ∧ d.tableOf die.val t.val = some x ∧ d.dieContained die.val = false)
    (hp : ∀ d, pre d → post d (d.setEmb (embKey die.val t.val) ((d.embT (embKey die.val t.val)).returned (if area then 2 else 1) frame))) :
    Completes (.frameReturn die t area frame) pre post :=
  .of_onTable (x := x) (fun s => show execFrameReturn die t area frame s = s.upd _ from rfl) hpre (fun _ _ => rfl) hp

/-! ### Flush commands (R393, R398) -/

/-- EMB_FLUSH is a host write of a 64-bit register. -/
theorem exec_embFlush (die : Fin 4) (t : Fin 64) (action : Fin 4) (s : State) :
    exec (.embFlush die t action) s = s.upd (fun d => (d.dropHalves (Reg.EMB_CMD die.val)).embFlushCmd die.val t.val action.val) := rfl

theorem Device.noFlush_of_forall (h : ∀ e ∈ d.emb, e.1 / 64 = die → e.2.flush = false) :
    d.emb.any (fun e => e.1 / 64 = die && e.2.flush) = false := by
  rw [List.any_eq_false]
  intro e he
  by_cases hd : e.1 / 64 = die <;> simp [hd, h e he]

/-- The command names its table and sets GO, and the table is marked. -/
def Device.flushMarked (d : Device) (die t : Nat) : Device :=
  (((d.setFld (Reg.EMB_CMD die) Fd.EMB_CMD_TABLE t).setFld (Reg.EMB_CMD die) Fd.EMB_CMD_ACTION 0).setFld (Reg.EMB_CMD die) Fd.EMB_CMD_GO 1).setEmb
    (embKey die t) { d.embT (embKey die t) with flush := true }

theorem Device.embFlushCmd_flush (hidle : ∀ e ∈ d.emb, e.1 / 64 = die → e.2.flush = false) (htable : d.tableOf die t = some x) :
    d.embFlushCmd die t 0 = d.flushMarked die t := by
  simp only [Device.embFlushCmd, Device.noFlush_of_forall hidle, htable, bne_self_eq_false, Option.isNone_some, Bool.false_eq_true, if_false]
  rfl

theorem Device.embFlushCmd_unknown {action : Nat} (hidle : ∀ e ∈ d.emb, e.1 / 64 = die → e.2.flush = false) (ha : action ≠ 0) :
    d.embFlushCmd die t action = (d.setFld (Reg.EMB_CMD die) Fd.EMB_CMD_CODE 0x0C02).refuse 0x0C02 die := by
  simp only [Device.embFlushCmd, Device.noFlush_of_forall hidle, bne_iff_ne.2 ha, Bool.false_eq_true, if_false, if_true]

theorem Device.flushMarked_fields (hwf : d.regsWf) (ht : t < 64) : (d.flushMarked die t).fld (Reg.EMB_CMD die) Fd.EMB_CMD_GO = 1 ∧
    (d.flushMarked die t).fld (Reg.EMB_CMD die) Fd.EMB_CMD_TABLE = t := by
  have h1 := Device.setFld_regsWf (Reg.EMB_CMD die) Fd.EMB_CMD_TABLE t hwf
  have h2 := Device.setFld_regsWf (Reg.EMB_CMD die) Fd.EMB_CMD_ACTION 0 h1
  refine ⟨Device.fld_setFld_self _ _ _ h2 (by decide), ?_⟩
  refine (Device.fld_setFld_apart _ _ _ _ h2 (by decide) (by decide)).trans ?_
  rw [Device.fld_setFld_apart _ _ _ _ h1 (by decide) (by decide), Device.fld_setFld_self _ _ _ hwf (by decide)]
  exact Nat.mod_eq_of_lt ht

theorem embCmd_ne_lastError (die : Nat) : Reg.EMB_CMD die ≠ Reg.EMB_LAST_ERROR die := by
  simp only [Reg.EMB_CMD, Reg.EMB_LAST_ERROR]
  omega

/-- The code of a refused command stands in EMB_CMD. -/
theorem Device.refusedCmd_code (hwf : d.regsWf) :
    ((d.setFld (Reg.EMB_CMD die) Fd.EMB_CMD_CODE 0x0C02).refuse 0x0C02 die).fld (Reg.EMB_CMD die) Fd.EMB_CMD_CODE = 0x0C02 := by
  have hreg := Device.refuseAt_sameRegsBut (d := d.setFld (Reg.EMB_CMD die) Fd.EMB_CMD_CODE 0x0C02) (Reg.EMB_LAST_ERROR die) 12 0x0C02
    (Reg.EMB_CMD die) (by simp [embCmd_ne_lastError])
  exact (Device.fld_of_reg hreg).trans (Device.fld_setFld_self _ _ _ hwf (by decide))

/-- Settles O42: an apply takes the log, updates the rows in their order and waits while an instance has a job in hand; a round copies, replays,
cuts over and returns its frames; a flush command marks its table. -/
theorem embeddingRounds : Obligations.EmbeddingRounds := by
  refine ⟨fun die t x => ?begins, fun die t x a l row => ?oneRow, fun die t x a l m r1 r2 p1 p2 w1 w2 => ?twoRows, fun die t x a c r => ?movingRow,
    fun die t x a => ?last, fun die t x a => ?waits, fun die t x r => ?copies, fun die t x r => ?replays, fun die t x r m => ?enters,
    fun die t x r m n => ?exchanges, fun die t x area frame => ?returns, fun die t x => ?flushes, fun die t action ha => ?refuses⟩
  case begins =>
    refine .of_applyStart (x := x) (fun d ⟨hr, htable, hdie, hgo, hopt, hfree, hround, hstays, hstep, _⟩ =>
      ⟨hr, htable, hdie, hgo, hopt, hfree, hround, hstays, hstep⟩) fun d ⟨_, _, _, _, _, _, _, _, _, hwf⟩ => ?_
    refine ⟨?_, ?_, ?_, Device.counted_count (x := d.reachPhase x.applyPu) rfl hwf, Nat.le_max_right _ _, rfl⟩ <;>
      rw [Device.applyBegun, Device.embT_setEmb_self]
  case oneRow =>
    refine .of_applyEnd (x := x) (a := a) (fun d ⟨hr, htable, hdie, hgo, happly, hlast, hfree, _⟩ => ⟨hr, htable, hdie, hgo, happly, hlast, hfree⟩)
      fun d ⟨_, _, _, _, _, _, _, hperm, hrise, hne, hrow, hstays, _, hid, hclean, hmem, hwf⟩ => ?_
    obtain ⟨hstored, hover, hcontribs, hrows⟩ := Device.applied_one hperm hrise hne hrow hstays hclean hmem hwf rfl
    rw [hid] at hcontribs hrows
    exact ⟨hstored, hover, hcontribs, hrows⟩
  case twoRows =>
    refine .of_applyEnd (x := x) (a := a) (fun d ⟨hr, htable, hdie, hgo, happly, hlast, hfree, _⟩ => ⟨hr, htable, hdie, hgo, happly, hlast, hfree⟩)
      fun d ⟨_, _, _, _, _, _, _, hperm, hl, hm, hlne, hmne, hlrow, hmrow, hlt, hround, _, hid, hp1, hp2, hclean1, hclean2, hw1, hw2, hapart, hmem,
        hwf⟩ => ?_
    have hgroup := groupRows_two hperm hl hm hlne hmne hlrow hmrow hlt
    obtain ⟨hfirst, hsecond, hother, hover, hcontribs, hrows⟩ :=
      Device.applied_two hgroup hround hp1 hp2 hclean1 hclean2 hw1 hw2 hapart hmem hwf rfl
    rw [hid] at hcontribs hrows
    exact ⟨hfirst, hsecond, hother, hover, hcontribs, hrows⟩
  case movingRow =>
    exact .of_applyEnd (x := x) (a := a) (fun d ⟨hr, htable, hdie, hgo, happly, hlast, hfree, _⟩ => ⟨hr, htable, hdie, hgo, happly, hlast, hfree⟩)
      fun d ⟨_, _, _, _, _, _, _, hentry, hround, hmoves, hnew, _, _, hclean, hmem, _⟩ =>
        Device.applied_moving hentry hround hmoves hnew hclean hmem rfl
  case last =>
    exact .of_lastApplyEnd (x := x) (a := a) (fun _ h => h) fun d _ => ⟨Device.embT_setEmb_self .., rfl⟩
  case waits =>
    exact .of_applyWaits (x := x) (a := a) (fun d ⟨hr, htable, hdie, _, happly, hwaits⟩ => ⟨hr, htable, hdie, happly, hwaits⟩) fun _ _ => rfl
  case copies =>
    refine .of_migrationCopyEnd (x := x) (r := r) (fun d ⟨hr, htable, hdie, _, hround, hnew, hgo, _⟩ => ⟨hr, htable, hdie, hround, hnew, hgo⟩)
      fun d ⟨_, _, _, _, _, _, _, hmem, hsrc, hdst⟩ => ?_
    obtain ⟨hcopied, hother⟩ := Device.copyMoves_post (Device.movesApart_of_pairwise hsrc hdst) hmem
    exact ⟨by rw [Device.embT_setEmb_self], hcopied, hother, by rw [Device.setEmb_regs, Device.copyMoves_frame]⟩
  case replays =>
    refine .of_roundReplay (x := x) (r := r) (fun d ⟨hr, htable, hdie, _, hround, hnew, hcopied, hnight, hfree, hgo, _⟩ =>
      ⟨hr, htable, hdie, hround, hnew, ?_, hgo⟩) fun d ⟨_, _, _, _, _, _, _, _, _, _, hmem, hsrc, hdst⟩ => ?_
    · rcases hnight with h | h <;> simp [Device.roundDue, hcopied, hfree, h]
    · have hapart := Device.movesApart_of_subset (ms' := r.forwarded) (Device.movesApart_of_pairwise hsrc hdst)
        fun m hm => ((EmbRound.mem_forwarded m).1 hm).1
      obtain ⟨hcopied, hother⟩ := Device.copyMoves_post hapart hmem
      refine ⟨by rw [Device.embT_setEmb_self], fun m hm hlogged => hcopied m ((EmbRound.mem_forwarded m).2 ⟨hm, hlogged⟩), fun y hy => hother y
        fun m hm => ?_, by rw [Device.setEmb_regs, Device.copyMoves_frame]⟩
      obtain ⟨hin, hlogged⟩ := (EmbRound.mem_forwarded m).1 hm
      exact hy m hin hlogged
  case enters =>
    refine .of_cutOver (x := x) (r := r) (fun d ⟨hr, htable, hdie, hround, hreplayed, hplain, _, _, _, hstays, _⟩ =>
      ⟨hr, htable, hdie, hround, hreplayed, hplain, hstays⟩) fun d ⟨_, _, _, _, _, _, hmoves, hsrc, hdst, _, hwf⟩ => ?_
    obtain ⟨htab, hmigrated, hforwarded, hmem⟩ := Device.roundCut_post (die := die.val) (t := t.val) (r := r) hwf rfl
    rw [hmoves, EmbStore.cutOver_enter (by omega) hdst, EmbStore.cutOver_of_apart (by simp [hsrc, hdst])] at htab
    rw [hmoves] at hmigrated
    rw [htab]
    exact ⟨rfl, Map.get?_put_self .., fun w hw => Map.get?_put_of_ne _ _ hw, rfl, hmigrated, hforwarded, hmem⟩
  case exchanges =>
    refine .of_cutOver (x := x) (r := r) (fun d ⟨hr, htable, hdie, hround, hreplayed, hplain, _, _, _, _, _, _, hstays, _⟩ =>
      ⟨hr, htable, hdie, hround, hreplayed, hplain, hstays⟩) fun d ⟨_, _, _, _, _, _, hmoves, hmsrc, hmdst, hnsrc, hway, hndst, _, hwf⟩ => ?_
    obtain ⟨htab, hmigrated, hforwarded, hmem⟩ := Device.roundCut_post (die := die.val) (t := t.val) (r := r) hwf rfl
    rw [hmoves, EmbStore.cutOver_exchange (by omega) hmdst hnsrc (by omega), EmbStore.cutOver_of_apart (by simp [hmsrc, hmdst, hnsrc, hndst])] at htab
    rw [hmoves] at hmigrated
    rw [htab]
    refine ⟨rfl, Map.get?_put_self .., fun w hw => ?_, rfl, rfl, hmigrated, hforwarded, hmem⟩
    exact (Map.get?_put_of_ne _ _ hw).trans (Map.get?_del_of_ne _ (hway ▸ hw))
  case returns =>
    refine .of_frameReturn (x := x) (fun _ h => h) fun d _ => ?_
    rw [Device.embT_setEmb_self, EmbTable.returned, EmbTable.store_setStore_self]
    exact ⟨by simp, rfl, rfl⟩
  case flushes =>
    refine .of_upd_eq (g := fun d => (d.dropHalves (Reg.EMB_CMD die.val)).flushMarked die.val t.val) (exec_embFlush die t 0) (fun d h => h.1)
      (fun d ⟨_, htable, hidle, _⟩ => Device.embFlushCmd_flush hidle htable) fun d ⟨_, _, _, hwf⟩ => ?_
    obtain ⟨hgo, htab⟩ := Device.flushMarked_fields (d := d.dropHalves (Reg.EMB_CMD die.val)) (die := die.val) hwf t.isLt
    exact ⟨by rw [Device.flushMarked, Device.embT_setEmb_self], hgo, htab, rfl⟩
  case refuses =>
    have hne : action.val ≠ 0 := fun h => ha (Fin.ext h)
    refine .of_upd_eq (g := fun d => ((d.dropHalves (Reg.EMB_CMD die.val)).setFld (Reg.EMB_CMD die.val) Fd.EMB_CMD_CODE 0x0C02).refuse 0x0C02 die.val)
      (exec_embFlush die t action) (fun d h => h.1) (fun d ⟨_, hidle, _⟩ => Device.embFlushCmd_unknown hidle hne) fun d ⟨_, _, hwf⟩ => ?_
    exact ⟨Device.refuse_emb .., Device.refusedCmd_code hwf, Device.refuse_mem ..⟩

end Sys2Proof.Machine
end
